-- ==== Sys2Proof/Word.lean ====
section
/-! DEFINITION. The machine's plain words: a register word, a byte, one 10-bit stream word, one 160-bit brick
payload. What the manual adds, shifts or masks is a bit vector; counts, indices and times are `Nat` or `Int`. -/

namespace Sys2Proof

/-- A register word of 32 bits (R12). -/
abbrev Word := BitVec 32

/-- One byte of a memory. -/
abbrev Byte := BitVec 8

/-- One 10-bit word of an SDI data stream (Table 0.1). -/
abbrev Word10 := BitVec 10

/-- The 160 payload bits of a video brick (Table 0.1). -/
abbrev Payload := BitVec 160

/-- Sparse data by key: key and value pairs, keys strictly rising, no value equal to the key's default. -/
abbrev Map (α : Type) := List (Nat × α)

end Sys2Proof
end

