-- ==== Sys2Proof/Syntax.lean ====
section
/-! DEFINITION. The commands the block takes, one constructor per row of the opcode table, with the row's operands; and
the names the operands use: the matrix masters, the register pages, the receive lanes. -/

namespace Sys2Proof

/-- A matrix master, M0 to M8 (R351). -/
abbrev Master := Fin 9

/-- The register pages of Table 22.1. -/
inductive Page where
  | dev | pwr | aon | host | boot | mtx | intc | intcF | pmc | qmg | sramc
  | tmu | refin (r : Nat) | tdom (d : Nat)
  | fab | afab | wall (w : Nat) | cgate | prot | fst | memc (m : Nat)
  | lane (n : Nat) | tll (n : Nat) | leng (n : Nat)
  deriving DecidableEq, Repr

/-- The page exists: its instance number lies in the range of Table 22.1. -/
def Page.exists : Page → Bool
  | .refin r => r < 8
  | .tdom d => d < 16
  | .wall w => w < 2
  | .memc m => m < 2
  | .lane n => n < 144
  | .tll n => n < 16
  | .leng n => n < 144
  | _ => true

/-- The matrix address of the page's first byte (Table 22.1). -/
def Page.base : Page → Nat
  | .dev => 0x0000000
  | .pwr => 0x0001000
  | .aon => 0x0002000
  | .host => 0x0003000
  | .boot => 0x0004000
  | .mtx => 0x0005000
  | .intc => 0x0006000
  | .intcF => 0x0007000
  | .pmc => 0x0008000
  | .qmg => 0x0009000
  | .sramc => 0x000A000
  | .tmu => 0x0010000
  | .refin r => 0x0011000 + 0x1000 * r
  | .tdom d => 0x0020000 + 0x1000 * d
  | .fab => 0x0030000
  | .afab => 0x0031000
  | .wall w => 0x0032000 + 0x1000 * w
  | .cgate => 0x0034000
  | .prot => 0x0035000
  | .fst => 0x0036000
  | .memc m => 0x0037000 + 0x1000 * m
  | .lane n => 0x0100000 + 0x1000 * n
  | .tll n => 0x0190000 + 0x1000 * n
  | .leng n => 0x0200000 + 0x4000 * n

/-- The block type code of the page (Table 22.1, R447). -/
def Page.blockType : Page → Nat
  | .dev => 0x0001
  | .pwr => 0x0002
  | .aon => 0x0003
  | .host => 0x0004
  | .boot => 0x0005
  | .mtx => 0x0006
  | .intc => 0x0007
  | .intcF => 0x0008
  | .pmc => 0x0009
  | .qmg => 0x000A
  | .sramc => 0x000B
  | .tmu => 0x0010
  | .refin _ => 0x0011
  | .tdom _ => 0x0012
  | .fab => 0x0020
  | .afab => 0x0021
  | .wall _ => 0x0022
  | .cgate => 0x0023
  | .prot => 0x0024
  | .fst => 0x0025
  | .memc _ => 0x0026
  | .lane _ => 0x0030
  | .tll _ => 0x0031
  | .leng _ => 0x0032

/-- The instance number of the page (R447). -/
def Page.inst : Page → Nat
  | .refin r => r
  | .tdom d => d
  | .wall w => w
  | .memc m => m
  | .lane n => n
  | .tll n => n
  | .leng n => n
  | _ => 0

/-- A receive lane: 0 to 143 SDI lanes, 144 + n Tile Link lane n. -/
abbrev RxId := Fin 160

/-- The stage whose handshake watchdog expires (Table 3.3). -/
inductive WdogStage where
  | wall (w : Fin 2)
  | ingress
  | egress
  | lineEngine (n : Fin 144)
  | management (m : Master) (isWrite : Bool) (addr : Nat)
  deriving DecidableEq, Repr

/-- Why a PIN reset happens (Table 20.1). -/
inductive PinCause where
  | resetN | supply | thermal | soft
  deriving DecidableEq, Repr

/-- What is measured of a complete frame (R103, R107): the recovered clock's offset from the format's rate, and the skew to the lead lane's
line 1. -/
structure FrameMeas where
  offset : Int
  skew : Int
  deriving DecidableEq, Repr

/-- A framed line as received (R109, R120), by data stream: the words of the EAV that begins it, with its line number and CRC words at HD and
above; those of its horizontal space, of its SAV, and its active words; and those of the EAV that ends it. -/
structure LineRx where
  eav : List (List Word10)
  space : List (List Word10)
  sav : List (List Word10)
  active : List (List Word10)
  next : List (List Word10)
  deriving DecidableEq, Repr

/-- An 8B/10B character as the ASI receiver sees it (R114). -/
inductive AsiChar where
  | comma (phase : Fin 10)
  | data (b : Byte)
  | invalid
  deriving DecidableEq, Repr

/-- Which aligner configuration register a write names (R134). -/
inductive AlignReg where
  | aligncfg (n : Fin 144)
  | tdomsel (n : Fin 16) (half : Fin 2)
  | alignX (l : RxId)
  deriving DecidableEq, Repr

/-- What a wall's self-diagnosis finds (Table 14.2): a corrected single-bit error, a double-bit error, a CRC mismatch, the items
with parity errors in a window of 40,000 XO ticks, an expired handshake watchdog, and a run of wrong or missing probe bricks. -/
inductive DiagCheck where
  | corrected | ecc2 | crc
  | parity (n : Nat)
  | watchdog
  | probe (run : Nat)
  deriving DecidableEq, Repr

/-- A sample that is late, has a parity error, or is marked bad by a wall (Tables 8.8, 13.4, R319): a slot's from one wall or from both
walls; or a delay line's that is late. -/
inductive AudioLate where
  | slot (w : Fin 2) (s : Nat)
  | both (s : Nat)
  | parity (w : Fin 2) (s : Nat)
  | parityBoth (s : Nat)
  | bad (w : Fin 2) (s : Nat)
  | badBoth (s : Nat)
  | line (i : Nat)
  deriving DecidableEq, Repr

/-- What a reference input's signal shows (R270, R271): an event, a pulse or edge that the filter discards, or an identification:
type (1 black burst, 2 tri-level), format code, and ten-field identification. -/
inductive RefEvent where
  | event | discarded
  | identified (type fmt : Nat) (ten : Bool)
  deriving DecidableEq, Repr

/-- What the de-embedder finds of one audio group (R163 to R167): a data packet with its checks, its samples, each of four bricks (bits [31:4] and
[2] as received), and on SD the extended data packet's auxiliary bits, sample by sample; a sample missing from the sequence; a valid control
packet with its asynchronous flag and whether its rate is 96 kHz; or a field that passed without a data packet. -/
inductive AudioRx where
  | data (csumOk eccOk : Bool) (samples : List (List Word)) (aux : List (List (BitVec 4)))
  | missing
  | control (asyn r96 : Bool)
  | absentField
  deriving DecidableEq, Repr

/-- What befalls an item of a course: late from one wall or from both, a parity error of one wall or of both, marked bad by one wall or by both
(R319), a VOID brick within a course that otherwise delivers, a frame-store read or write late, a transmit elastic buffer that runs empty (R69), an
ancillary record late from one wall or from both. -/
inductive LateKind where
  | late (w : Fin 2) | lateBoth
  | parity (w : Fin 2) | parityBoth
  | bad (w : Fin 2) | badBoth
  | voided | memRead | memWrite | empty
  | record (w : Fin 2) (vert : Bool) | recordBoth (vert : Bool)
  deriving DecidableEq, Repr

/-- An item that a course finds late or in error (R201 to R203, R319): what befalls it; the output tile, or for a frame-store read the source
tile that it delivers and for a frame-store write the input tile or the capture tile; and the brick position in the line, or the record's index among
those the tile selects. -/
structure LateItem where
  kind : LateKind
  tile : Nat
  pos : Nat
  deriving DecidableEq, Repr

/-- What an AMO computes (RV32A). -/
inductive AmoOp where
  | swap | add | xor | and | or | min | max | minu | maxu
  deriving DecidableEq, Repr

/-- What the ECC of an SRAM word finds on a read (R366). -/
inductive EccFind where
  | none | single | double
  deriving DecidableEq, Repr

/-- A locked sequence (R354): the whole of it, its read alone, or the write that ends it; with what ECC finds on the read. -/
inductive AmoStep where
  | whole (addr : Nat) (op : AmoOp) (v : Word) (ecc : EccFind)
  | read (addr : Nat) (op : AmoOp) (v : Word) (ecc : EccFind)
  | write
  deriving DecidableEq, Repr

/-- The direction and kind of a transfer (R352, R354): a load-reserve or store-conditional is a single access. -/
inductive XferKind where
  | read | write | lr | sc
  deriving DecidableEq, Repr

/-- One beat of a transfer: its byte enables, and the word a write gives. -/
structure Beat where
  be : BitVec 4 := 15
  data : Word := 0
  deriving DecidableEq, Repr

/-- What befalls a transfer, by beat: writes to an SRAM bank that collide with its owning master's (R365), words read there with a single-bit or a
double-bit error (R366); the words that the flash returns (R444); and how many XO ticks a request to the frame-store
aperture waited (R312). -/
structure XferEnv where
  collide : List Nat := []
  single : List Nat := []
  double : List Nat := []
  flash : List Word := []
  wait : Nat := 0
  deriving DecidableEq, Repr

/-- A transfer of a matrix master (R352): its kind, the matrix address of its first beat, its beats, and what befalls it. -/
structure Xfer where
  kind : XferKind
  addr : Nat
  beats : List Beat
  env : XferEnv := {}
  deriving DecidableEq, Repr

/-- Why the PCIe link or endpoint is reset (R431). -/
inductive LinkReset where
  | perst | linkDown | hotReset | flr
  deriving DecidableEq, Repr

/-- A PCIe request (R428, R429): a memory request to BAR0/1 or BAR4/5; a read of BAR2 by a requester, of 4 bytes or of 8; a write of
BAR2; or anything else. -/
inductive PciReq where
  | memory (bar4 isWrite : Bool) (off : Nat) (beats : List Beat) (env : XferEnv)
  | userRead (who off : Nat) (wide : Bool)
  | userWrite
  | other
  deriving DecidableEq, Repr

/-- What an SPI frame sends (R432): the address word, the data word of a write, and what befalls its access. -/
structure SpiFrame where
  addr : Word
  data : Word := 0
  env : XferEnv := {}
  deriving DecidableEq, Repr


/-- The commands of the block, one constructor per row of the opcode table. -/
inductive Instr where
  /-- REGISTER_WRITE (R19) -/
  | registerWrite (m : Master) (p : Page) (w : Fin 1024) (be : BitVec 4) (v : Word)
  /-- EXPERT_KEY_WRITE (R14) -/
  | expertKeyWrite (m : Master) (p : Page) (v : Word)
  /-- EXPERT_TIMEOUT (R15) -/
  | expertTimeout (p : Page)
  /-- SOFT_RESET (R17) -/
  | softReset (m : Master) (p : Page) (rest : Word)
  /-- BLOCK_RESET_DONE (R17) -/
  | blockResetDone (p : Page)
  /-- PIN_RESET (R46) -/
  | pinReset (cause : PinCause)
  /-- POWER_ON_RESET (R420) -/
  | powerOnReset
  /-- XO_CHECK_DONE (R48) -/
  | xoCheckDone
  /-- RESET_SEQUENCE_END (R420) -/
  | resetSequenceEnd (bootmode : Fin 4)
  /-- GPIO_WRITE (R54) -/
  | gpioWrite (m : Master) (isDir : Bool) (v : Word)
  /-- MARGIN_WINDOW_END (R62) -/
  | marginWindowEnd (n0 n1 n2 n3 n4 n5 : Nat)
  /-- MIN_CLR (R62) -/
  | minClr (m : Master) (n : Fin 6)
  /-- HANDSHAKE_WATCHDOG_EXPIRY (R64) -/
  | handshakeWatchdogExpiry (stage : WdogStage)
  /-- WDOG_CLR (R64) -/
  | wdogClr (m : Master)
  /-- XO_TIME_LO_READ (R70) -/
  | xoTimeLoRead (m : Master)
  /-- TXCFG_WRITE (R75) -/
  | txcfgWrite (m : Master) (n : Fin 144) (v : Word)
  /-- SYNTHESISER_LOCK (R76) -/
  | synthesiserLock (q : Fin 40) (pll : Fin 3)
  /-- RXCFG_WRITE (R88) -/
  | rxcfgWrite (m : Master) (n : Fin 144) (v : Word)
  /-- LANE_ENABLE_WRITE (R89) -/
  | laneEnableWrite (m : Master) (n : Fin 144) (v : Word)
  /-- LOS_SET (R86) -/
  | losSet (l : RxId)
  /-- LOS_CLEAR (R86) -/
  | losClear (l : RxId)
  /-- LOL_SET (R86) -/
  | lolSet (l : RxId)
  /-- CDR_LOCK (R85) -/
  | cdrLock (l : RxId)
  /-- CDR_RESTART (R85) -/
  | cdrRestart (l : RxId)
  /-- AUTO_CANDIDATE_TIMEOUT (R83) -/
  | autoCandidateTimeout (n : Fin 144)
  /-- TESTCTL_INJECT (R91) -/
  | testctlInject (m : Master) (l : RxId)
  /-- TESTCTL_CNT_CLR (R91) -/
  | testctlCntClr (m : Master) (l : RxId)
  /-- TEST_CHECKER_LOCK_CHANGE (R91) -/
  | testCheckerLockChange (l : RxId) (levels : List Bool)
  /-- TRS_RECEIVED (R97): the TRS begins at bit `bit` of word `word`; `lead` are the levels before it, `trs` those of it and of the words that
  end the reception; the recovered clock's offset; whether it begins line 1. -/
  | trsReceived (n : Fin 144) (word : Nat) (bit : Fin 10) (lead trs : List Bool) (offset : Int) (line1 : Bool)
  /-- CANDIDATE_EXPIRY (R98) -/
  | candidateExpiry (n : Fin 144) (cand : Fin 4)
  /-- VERIFY_EAV_MISSING (R99) -/
  | verifyEavMissing (n : Fin 144)
  /-- EXPECTED_TRS_MISSING (R101) -/
  | expectedTrsMissing (n : Fin 144) (eav stream2 : Bool)
  /-- FRAME_COMPLETE (R104) -/
  | frameComplete (n : Fin 144) (meas : FrameMeas)
  /-- LINE_RECEIVED (R109) -/
  | lineReceived (n : Fin 144) (line : LineRx) (items : List LateItem)
  /-- EDH_FIELD_CHECK (R110): whether the following field brings an EDH packet, and the packet's user data words 0 to 2 and 3 to 5. -/
  | edhFieldCheck (n : Fin 144) (present : Bool) (ap ff : List Word10)
  /-- PID_PACKET_RECEIVED (R111) -/
  | pidPacketReceived (n : Fin 144) (stream2 : Bool) (line : Nat) (words : List Word10)
  /-- FRMCTL_CNT_CLR (R101) -/
  | frmctlCntClr (m : Master) (n : Fin 144)
  /-- MADI_SYNC_SYMBOL (R112) -/
  | madiSyncSymbol (n : Fin 144) (phase : Fin 5) (gap : Nat)
  /-- MADI_SUBFRAME (R113) -/
  | madiSubframe (n : Fin 144) (ind parityOk : Bool) (sample : Word) (valid : List Bool) (time : Nat) (sub : Fin 16)
  /-- MADI_SYNC_TIMEOUT (R113) -/
  | madiSyncTimeout (n : Fin 144)
  /-- ASI_CHARACTER (R114) -/
  | asiCharacter (n : Fin 144) (c : AsiChar)
  /-- ASI_SYNC_BYTE (R114) -/
  | asiSyncByte (n : Fin 144) (found : Bool) (spacing : Nat) (packet : List Byte)
  /-- TL_BLOCK_RECEIVED (R115): the 66 bits of the link from the block's place at bit phase 0, and the 66 after them. -/
  | tlBlockReceived (n : Fin 16) (bits next : BitVec 66) (sub : Fin 16) (late : Bool)
  /-- TL_ROW_OVERHEAD (R227) -/
  | tlRowOverhead (n : Fin 16)
  /-- TL_BIP_RECEIVED (R228) -/
  | tlBipReceived (n : Fin 16)
  /-- TL_SRQ_RECEIVED (R229) -/
  | tlSrqReceived (n : Fin 16)
  /-- TL_RDI_REI_RECEIVED (R230) -/
  | tlRdiReiReceived (n : Fin 16)
  /-- TL_TRACE_RECEIVED (R231) -/
  | tlTraceReceived (n : Fin 16)
  /-- CC_SEGMENT_RECEIVED (R233) -/
  | ccSegmentReceived (n : Fin 16)
  /-- CC_PACKET_TRANSMIT (R232) -/
  | ccPacketTransmit (n : Fin 16)
  /-- JCW_RECEIVED (R235) -/
  | jcwReceived (n : Fin 16)
  /-- HEADER_BRICK_RECEIVED (R239) -/
  | headerBrickReceived (n k : Fin 16) (sub : Fin 16) (late : Bool)
  /-- TL_FRAME_TRANSMIT (R226): a transmitter starts a frame, and those of `others` with it, within 2 blocks and in this order. -/
  | tlFrameTransmit (n : Fin 16) (others : List (Fin 16))
  /-- TXSLOT_WRITE (R244) -/
  | txslotWrite (m : Master) (n k : Fin 16) (v : Word)
  /-- OHCTL_CNT_CLR (R116) -/
  | ohctlCntClr (m : Master) (n : Fin 16)
  /-- TLL_FRMCTL_CNT_CLR (R116) -/
  | tllFrmctlCntClr (m : Master) (n : Fin 16)
  /-- TILE_LINE_START (R130) -/
  | tileLineStart (t : Fin 1408) (line : Nat) (pos : Int)
  /-- ALIGN_DRIFT_WINDOW (R133) -/
  | alignDriftWindow
  /-- ALIGNCFG_WRITE (R134) -/
  | aligncfgWrite (m : Master) (r : AlignReg) (v : Word)
  /-- CRSCTL_CNT_CLR (R128) -/
  | crsctlCntClr (m : Master) (l : RxId)
  /-- FOLLOW_ROUTE_SWITCH (R137) -/
  | followRouteSwitch (n : Fin 144)
  /-- ANC_PACKET_PARSED (R144) -/
  | ancPacketParsed (n : Fin 144) (stream line : Nat) (vert : Bool) (start : Nat) (rest : List Word10)
  /-- ANCCTL_CNT_CLR (R152) -/
  | ancctlCntClr (m : Master) (l : RxId)
  /-- ANC_CONTEXT_WRITE (R152) -/
  | ancContextWrite (m : Master) (i : Fin 2944) (v : Word)
  /-- AUDIO_PACKET_RECEIVED (R164) -/
  | audioPacketReceived (n : Fin 144) (pair : Nat) (group : Fin 8) (sub : Fin 16) (x : AudioRx)
  /-- TILE_CONTEXT_WRITE (R181) -/
  | tileContextWrite (m : Master) (t : Fin 1472) (v : Word)
  /-- TILE_GROUP_WRITE (R184) -/
  | tileGroupWrite (m : Master) (t : Fin 1472) (v : Word)
  /-- ARM (R188) -/
  | arm (m : Master) (g : Fin 256)
  /-- DISARM (R188) -/
  | disarm (m : Master) (g : Fin 256)
  /-- FRAME_TRIGGER_FIRE (R189) -/
  | frameTriggerFire (k : Fin 16) (frame : BitVec 16)
  /-- GPI_FILTERED_EDGE (R192) -/
  | gpiFilteredEdge (n : Fin 8) (level : Bool)
  /-- FAB_GPI_WRITE (R192) -/
  | fabGpiWrite (m : Master) (n : Fin 8) (v : Word)
  /-- CONTEXT_COMMIT (R190) -/
  | contextCommit (g : Fin 256) (t : Fin 1472)
  /-- HOLD_EXPIRY (R196) -/
  | holdExpiry (t : Fin 1472)
  /-- FAB_GEN_WRITE (R198) -/
  | fabGenWrite (m : Master) (n : Fin 32) (v : Word)
  /-- FAB_CNT_CLR (R181) -/
  | fabCntClr (m : Master)
  /-- AUDIO_CONTEXT_WRITE (R205) -/
  | audioContextWrite (m : Master) (slot : Fin 53248) (group : Bool) (v : Word)
  /-- AUDIO_CONTEXT_COMMIT (R208) -/
  | audioContextCommit (g : Fin 256) (slot : Fin 53248)
  /-- RAMP_END (R212) -/
  | rampEnd (slot : Fin 53248)
  /-- HOUSE_SAMPLE_PERIOD (R214) -/
  | houseSamplePeriod (lates : List AudioLate)
  /-- AFAB_DEPTH_WRITE (R217) -/
  | afabDepthWrite (m : Master) (v : Word)
  /-- AFAB_ENABLE_WRITE (R221) -/
  | afabEnableWrite (m : Master) (v : Word)
  /-- METER_WINDOW_END (R220) -/
  | meterWindowEnd (p : Fin 512)
  /-- AFAB_CNT_CLR (R215) -/
  | afabCntClr (m : Master)
  /-- PM_SECOND_END (R251) -/
  | pmSecondEnd
  /-- PM_SEC_WRITE (R249) -/
  | pmSecWrite (m : Master) (v : Word)
  /-- PM_CLR (R253) -/
  | pmClr (m : Master)
  /-- PROT_CNT_CLR (R259) -/
  | protCntClr (m : Master)
  /-- LOF_TIMER (R246) -/
  | lofTimer (l : RxId)
  /-- PG_CFG_WRITE (R254) -/
  | pgCfgWrite (m : Master) (v : Word)
  /-- CLEAR (R265) -/
  | clear (m : Master)
  /-- LOCKOUT (R265) -/
  | lockout (m : Master)
  /-- FORCED (R265) -/
  | forced (m : Master)
  /-- MANUAL_W (R265) -/
  | manualW (m : Master)
  /-- MANUAL_P (R265) -/
  | manualP (m : Master)
  /-- PROT_HOLDOFF_EXPIRY (R262) -/
  | protHoldoffExpiry (g : Fin 256) (member : Fin 2) (degrade : Bool)
  /-- PROT_WTR_EXPIRY (R264) -/
  | protWtrExpiry (g : Fin 256)
  /-- REF_MEASUREMENT (R273) -/
  | refMeasurement (freqs : List (Option Int)) (mean now : Int)
  /-- REF_SIGNAL_ABSENT (R274) -/
  | refSignalAbsent (r : Fin 8)
  /-- REF_SIGNAL_PRESENT (R274) -/
  | refSignalPresent (r : Fin 8)
  /-- REFIN_ENABLE_WRITE (R270) -/
  | refinEnableWrite (m : Master) (r : Fin 8) (v : Word)
  /-- REFIN_CFG_WRITE (R270) -/
  | refinCfgWrite (m : Master) (r : Fin 8) (v : Word)
  /-- REFIN_CNT_CLR (R270) -/
  | refinCntClr (m : Master) (r : Fin 8)
  /-- TOD_MESSAGE (R272) -/
  | todMessage (start gap : Nat) (bytes : List Byte)
  /-- TOD_TIMEOUT (R272) -/
  | todTimeout
  /-- SEL_CFG_WRITE (R278) -/
  | selCfgWrite (m : Master) (v : Word)
  /-- PRIO_WRITE (R277) -/
  | prioWrite (m : Master) (v : Word)
  /-- REF_WTR_EXPIRY (R278) -/
  | refWtrExpiry (r : Fin 8)
  /-- TRANSITION_PHASE_CAPTURE (R280) -/
  | transitionPhaseCapture (phase : Int)
  /-- TRANSITION_LOOP_CLOSE (R280) -/
  | transitionLoopClose
  /-- TRANSITION_DONE (R280) -/
  | transitionDone
  /-- CAL_CAPTURE (R285) -/
  | calCapture (m : Master)
  /-- HIST_CLR (R283) -/
  | histClr (m : Master)
  /-- XO_CAL_WRITE (R269) -/
  | xoCalWrite (m : Master) (hi : Bool) (v : Word)
  /-- TMU_LO_READ (R70) -/
  | tmuLoRead (m : Master) (hold : Bool)
  /-- PHASE_STEP (R293) -/
  | phaseStep (m : Master) (v : Word)
  /-- STEP_DONE (R293) -/
  | stepDone
  /-- TDOM_FMT_WRITE (R286) -/
  | tdomFmtWrite (m : Master) (k : Fin 16) (v : Word)
  /-- TDOM_ENABLE_WRITE (R286) -/
  | tdomEnableWrite (m : Master) (k : Fin 16) (v : Word)
  /-- TDOM_OFFSET_WRITE (R293) -/
  | tdomOffsetWrite (m : Master) (k : Fin 16) (v : Word)
  /-- TDOM_SWLINE_WRITE (R288) -/
  | tdomSwlineWrite (m : Master) (k : Fin 16) (v : Word)
  /-- JUMP (R292) -/
  | jump (m : Master) (k : Fin 16) (frame : BitVec 16)
  /-- SLEW (R292) -/
  | slew (m : Master) (k : Fin 16)
  /-- CANCEL (R292) -/
  | cancel (m : Master) (k : Fin 16)
  /-- REALIGN_JUMP_EXECUTE (R292) -/
  | realignJumpExecute (k : Fin 16) (epoch : Nat)
  /-- REALIGN_SLEW_DONE (R292) -/
  | realignSlewDone (k : Fin 16)
  /-- FCNT_CLR (R289) -/
  | fcntClr (m : Master) (k : Fin 16)
  /-- DOMAIN_FRAME_START (R289) -/
  | domainFrameStart (k : Fin 16) (err : Int) (epoch : Nat)
  /-- COURSE_READ_POINT (R126) -/
  | courseReadPoint (k : Fin 16) (line : Nat) (items : List LateItem)
  /-- CLK_CFG_WRITE (R295) -/
  | clkCfgWrite (m : Master) (v : Word)
  /-- AUD_REALIGN (R296) -/
  | audRealign (m : Master)
  /-- AUD_DONE (R296) -/
  | audDone
  /-- MEMC_ENABLE_WRITE (R298) -/
  | memcEnableWrite (m : Master) (i : Fin 2) (v : Word)
  /-- MEMC_TRAIN_DONE (R298) -/
  | memcTrainDone (i : Fin 2) (pass : Bool) (failCh : Fin 16)
  /-- MEMC_RETRAIN (R299) -/
  | memcRetrain (i : Fin 2) (derate : Bool)
  /-- CH_CFG_WRITE (R302) -/
  | chCfgWrite (m : Master) (v : Word)
  /-- FS_FRAME_WRITTEN (R305) -/
  | fsFrameWritten (c : Fin 256)
  /-- FREEZE (R306) -/
  | freeze (m : Master)
  /-- UNFREEZE (R306) -/
  | unfreeze (m : Master)
  /-- PLAY (R309) -/
  | play (m : Master)
  /-- STOP (R309) -/
  | stop (m : Master)
  /-- PLAY_AT (R309) -/
  | playAt (m : Master) (frame : BitVec 16)
  /-- CAPTURE_START (R310) -/
  | captureStart (m : Master)
  /-- CAPTURE_STOP (R310) -/
  | captureStop (m : Master)
  /-- DL_CFG_WRITE (R311) -/
  | dlCfgWrite (m : Master) (v : Word)
  /-- APERTURE_BASE_WRITE (R315) -/
  | apertureBaseWrite (m : Master) (v : Word)
  /-- FST_CNT_CLR (R312) -/
  | fstCntClr (m : Master)
  /-- GIVE_UP (R324) -/
  | giveUp (m : Master) (w : Fin 2)
  /-- WALL_ENABLE_WRITE (R324) -/
  | wallEnableWrite (m : Master) (w : Fin 2) (v : Word)
  /-- WALL_SELF_DIAG_FAILURE (R321) -/
  | wallSelfDiagFailure (w : Fin 2) (c : DiagCheck)
  /-- CROSS_COMPARE_MISMATCH (R322) -/
  | crossCompareMismatch (kind : Fin 4) (index : Fin 65536)
  /-- SELFTEST_DONE (R322) -/
  | selftestDone (failA failB : Bool)
  /-- GATE_SAFE_STATE (R320) -/
  | gateSafeState (t : Fin 1472)
  /-- WALL_RESET (R325) -/
  | wallReset (m : Master) (w : Fin 2)
  /-- REJOIN (R326) -/
  | rejoin (m : Master) (w : Fin 2)
  /-- REJOIN_BIST_DONE (R326) -/
  | rejoinBistDone (w : Fin 2) (pass : Bool) (tiles ancs slots : List Nat)
  /-- REJOIN_COPY_DONE (R326) -/
  | rejoinCopyDone (w : Fin 2) (us passes : Nat)
  /-- REJOIN_COPY_TIMEOUT (R326) -/
  | rejoinCopyTimeout (w : Fin 2)
  /-- REJOIN_SHADOW_DONE (R326) -/
  | rejoinShadowDone (w : Fin 2)
  /-- SWAP_ARM (R329) -/
  | swapArm (m : Master) (k : Fin 16)
  /-- SWAP_CANCEL (R329) -/
  | swapCancel (m : Master)
  /-- SWAP_EXECUTE (R329) -/
  | swapExecute (k : Fin 16)
  /-- CLAIM_CONFIG_WRITE (R330) -/
  | claimConfigWrite (m : Master) (w : Fin 2) (v : Word)
  /-- WALL_CNT_CLR (R321) -/
  | wallCntClr (m : Master) (w : Fin 2)
  /-- CGATE_CNT_CLR (R322) -/
  | cgateCntClr (m : Master)
  /-- LENG_START (R336) -/
  | lengStart (m : Master) (n : Fin 144)
  /-- LENG_STOP (R336) -/
  | lengStop (m : Master) (n : Fin 144)
  /-- LENG_ENABLE_WRITE (R336) -/
  | lengEnableWrite (m : Master) (n : Fin 144) (v : Word)
  /-- LENG_CNT_CLR (R347) -/
  | lengCntClr (m : Master) (n : Fin 144)
  /-- LENG_ISTORE_WRITE (R334) -/
  | lengIstoreWrite (m : Master) (n : Fin 144) (i : Fin 1024) (v : Word)
  /-- LENG_RECORD_ARRIVAL (R335) -/
  | lengRecordArrival (n : Fin 144)
  /-- LENG_EVENT (R338) -/
  | lengEvent (n : Fin 144) (b : Fin 5)
  /-- DB_IN_RING (R346) -/
  | dbInRing (m : Master) (n : Fin 144)
  /-- DBG_STEP (R336) -/
  | dbgStep (m : Master) (n : Fin 144) (rest : Word)
  /-- NOP (R341) -/
  | nop (n : Fin 144)
  /-- ADD (R341) -/
  | add (n : Fin 144)
  /-- SUB (R341) -/
  | sub (n : Fin 144)
  /-- AND (R341) -/
  | and (n : Fin 144)
  /-- OR (R341) -/
  | or (n : Fin 144)
  /-- XOR (R341) -/
  | xor (n : Fin 144)
  /-- SHL (R341) -/
  | shl (n : Fin 144)
  /-- SHR (R341) -/
  | shr (n : Fin 144)
  /-- ADDI (R341) -/
  | addi (n : Fin 144)
  /-- ANDI (R341) -/
  | andi (n : Fin 144)
  /-- ORI (R341) -/
  | ori (n : Fin 144)
  /-- SHLI (R341) -/
  | shli (n : Fin 144)
  /-- SHRI (R341) -/
  | shri (n : Fin 144)
  /-- LUI (R341) -/
  | lui (n : Fin 144)
  /-- EXT (R341) -/
  | ext (n : Fin 144)
  /-- INS (R341) -/
  | ins (n : Fin 144)
  /-- LD (R341) -/
  | ld (n : Fin 144)
  /-- ST (R341) -/
  | st (n : Fin 144)
  /-- BEQ (R341) -/
  | beq (n : Fin 144)
  /-- BNE (R341) -/
  | bne (n : Fin 144)
  /-- BLT (R341) -/
  | blt (n : Fin 144)
  /-- BGE (R341) -/
  | bge (n : Fin 144)
  /-- J (R341) -/
  | j (n : Fin 144)
  /-- CALL (R341) -/
  | call (n : Fin 144)
  /-- RET (R341) -/
  | ret (n : Fin 144)
  /-- WAIT (R339) -/
  | wait (n : Fin 144)
  /-- LDH (R342) -/
  | ldh (n : Fin 144)
  /-- GETU (R341) -/
  | getu (n : Fin 144)
  /-- NEWP (R342) -/
  | newp (n : Fin 144)
  /-- PUTU (R341) -/
  | putu (n : Fin 144)
  /-- ENDP (R342) -/
  | endp (n : Fin 144)
  /-- DROP (R342) -/
  | drop (n : Fin 144)
  /-- FWD (R342) -/
  | fwd (n : Fin 144)
  /-- PUSHQ (R342) -/
  | pushq (n : Fin 144)
  /-- PAR (R341) -/
  | par (n : Fin 144)
  /-- CRC (R341) -/
  | crc (n : Fin 144)
  /-- CINC (R347) -/
  | cinc (n : Fin 144)
  /-- CRD (R347) -/
  | crd (n : Fin 144)
  /-- DBELL (R346) -/
  | dbell (n : Fin 144)
  /-- TIME (R341) -/
  | time (n : Fin 144)
  /-- HALT (R341) -/
  | halt (n : Fin 144)
  /-- ILLEGAL_INSTRUCTION (R340) -/
  | illegalInstruction (n : Fin 144)
  /-- MATRIX_TRANSFER (R353) -/
  | matrixTransfer (m : Master) (x : Xfer)
  /-- LOCKED_SEQUENCE (R354) -/
  | lockedSequence (m : Fin 4) (x : AmoStep)
  /-- LOCK_BREAK (R354) -/
  | lockBreak
  /-- MATRIX_REQUEST_TIMEOUT (R355) -/
  | matrixRequestTimeout (m : Master) (addr : Nat) (isWrite : Bool)
  /-- PARK_RETURN (R353) -/
  | parkReturn (t : Fin 9)
  /-- MASTER_RESET (R362) -/
  | masterReset (m : Master) (x : Option Xfer) (done : Nat)
  /-- SLICE_WRITE (R361) -/
  | sliceWrite (m : Master) (v : Word)
  /-- MTX_PERM_WRITE (R356) -/
  | mtxPermWrite (m : Master) (k : Fin 9) (v : Word)
  /-- MTX_CNT_CLR (R355) -/
  | mtxCntClr (m : Master)
  /-- SRAMC_CNT_CLR (R365) -/
  | sramcCntClr (m : Master)
  /-- QUEUE_PACKET_WRITE (R369) -/
  | queuePacketWrite (q : Fin 1024) (words : List Word) (bytes : Nat)
  /-- WR_DATA_WRITE (R380) -/
  | wrDataWrite (m : Master) (v : Word)
  /-- WR_END (R380) -/
  | wrEnd (m : Master) (bytes : Fin 4)
  /-- WR_SEL_WRITE (R380) -/
  | wrSelWrite (m : Master) (v : Word)
  /-- RD_LO_READ (R373) -/
  | rdLoRead (m : Master)
  /-- QUEUE_STALL_RETURN (R374) -/
  | queueStallReturn (m : Master)
  /-- QUEUE_STALL_TIMEOUT (R374) -/
  | queueStallTimeout (m : Master)
  /-- DROP_REST (R377) -/
  | dropRest (m : Master)
  /-- MARK (R378) -/
  | mark (m : Master)
  /-- UNMARK (R378) -/
  | unmark (m : Master)
  /-- REWIND (R379) -/
  | rewind (m : Master)
  /-- Q_CFG_WRITE (R383) -/
  | qCfgWrite (m : Master) (v : Word)
  /-- PAR_INJ (R383) -/
  | parInj (m : Master)
  /-- QMG_CNT_CLR (R375) -/
  | qmgCntClr (m : Master)
  /-- DMA_PACKET_TO_RING (R381) -/
  | dmaPacketToRing (c : Fin 8)
  /-- DMA_ENTRY_TO_QUEUE (R381) -/
  | dmaEntryToQueue (c : Fin 8)
  /-- DMA_POINTER_WRITE (R381) -/
  | dmaPointerWrite (m : Master) (c : Fin 8) (isRead : Bool) (v : Word)
  /-- INTERRUPT_COMMIT (R389) -/
  | interruptCommit (t : Fin 5) (fast : Bool)
  /-- INTERRUPT_DELIVERY_DONE (R390) -/
  | interruptDeliveryDone (t : Fin 5) (fast : Bool)
  /-- CLAIM (R391) -/
  | claim (m : Master) (fast : Bool)
  /-- CLAIM_ALL (R391) -/
  | claimAll (m : Master) (fast : Bool)
  /-- COMPLETE (R392) -/
  | complete (m : Master) (fast : Bool) (source : Fin 512)
  /-- SWI_WRITE (R388) -/
  | swiWrite (m : Master) (raise : BitVec 16)
  /-- INTC_EN_WRITE (R390) -/
  | intcEnWrite (m : Master) (i : Fin 16) (v : Word)
  /-- SRC_CFG_WRITE (R393) -/
  | srcCfgWrite (m : Master) (v : Word)
  /-- INTC_CFG_WRITE (R398) -/
  | intcCfgWrite (m : Master) (v : Word)
  /-- WATCH_WRITE (R396) -/
  | watchWrite (m : Master) (i : Fin 32) (v : Word)
  /-- PMC_CFG_WRITE (R400) -/
  | pmcCfgWrite (m : Master) (n : Fin 64) (v : Word)
  /-- PMC_CFG_CLR (R402) -/
  | pmcCfgClr (m : Master) (n : Fin 64) (rest : Word)
  /-- CLR_ALL (R402) -/
  | clrAll (m : Master) (rest : Word)
  /-- FREEZE_WRITE (R402) -/
  | freezeWrite (m : Master) (v : Word)
  /-- CNT_LO_READ (R403) -/
  | cntLoRead (m : Master) (n : Fin 64)
  /-- BW_WINDOW_END (R405) -/
  | bwWindowEnd
  /-- BW_WIN_WRITE (R405) -/
  | bwWinWrite (m : Master) (v : Word)
  /-- BW_SNAP_LO_READ (R406) -/
  | bwSnapLoRead (m : Master)
  /-- BAR2_READ (R407) -/
  | bar2Read (who off : Nat) (wide : Bool)
  /-- MGMT_RESET (R408) -/
  | mgmtReset (m : Master)
  /-- DATA_RESET (R408) -/
  | dataReset (m : Master)
  /-- TIMING_RESET (R408) -/
  | timingReset (m : Master)
  /-- FULL (R409) -/
  | full (m : Master)
  /-- RESET_COMPLETE (R410) -/
  | resetComplete
  /-- CORE_RUN_WRITE (R412) -/
  | coreRunWrite (m : Master) (v : Word)
  /-- CORE_RESET (R412) -/
  | coreReset (m : Master) (c : Fin 4) (rest : Word)
  /-- CORE_SLEEP (R412) -/
  | coreSleep (m : Master) (v : Word)
  /-- STANDBY (R416) -/
  | standby (m : Master)
  /-- DORMANT (R417) -/
  | dormant (m : Master)
  /-- ACTIVE (R416) -/
  | active (m : Master)
  /-- STATE_DONE (R415) -/
  | stateDone
  /-- DORMANT_WAKE (R418) -/
  | dormantWake (source : Fin 512) (ticks : Nat)
  /-- RAIL_WARNING_ENTER (R423) -/
  | railWarningEnter (rail : Fin 8) (steps : Nat)
  /-- RAIL_WARNING_LEAVE (R423) -/
  | railWarningLeave (rail : Fin 8) (steps us : Nat)
  /-- RAIL_RESET_LEVEL (R422) -/
  | railResetLevel (rail : Fin 8)
  /-- DEFER_END (R424) -/
  | deferEnd
  /-- TEMP_READING (R426) -/
  | tempReading (quarters : Int)
  /-- THERMAL_SHUTDOWN (R426) -/
  | thermalShutdown
  /-- WAKE_TIMER_WRITE (R454) -/
  | wakeTimerWrite (m : Master) (v : Word)
  /-- WAKE_TIMER_EXPIRY (R454) -/
  | wakeTimerExpiry
  /-- LOG_CTL_CLR (R425) -/
  | logCtlClr (m : Master)
  /-- PCIE_REQUEST (R429) -/
  | pcieRequest (r : PciReq)
  /-- PCIE_LINK_RESET (R431) -/
  | pcieLinkReset (k : LinkReset)
  /-- MSIX_SEND (R430) -/
  | msixSend (enable : Bool) (v : Fin 32)
  /-- SPI_FRAME (R432) -/
  | spiFrame (f : SpiFrame)
  /-- SPI_ABORT (R434) -/
  | spiAbort (f : Option SpiFrame)
  /-- BOOT_START (R435) -/
  | bootStart
  /-- SFDP_DISCOVERY_DONE (R438) -/
  | sfdpDiscoveryDone (found addr4 quad : Bool)
  /-- IMAGE_CHECK_DONE (R439) -/
  | imageCheckDone (flash : List Word) (bus big : Bool)
  /-- LOAD_IMG (R441) -/
  | loadImg (m : Master)
  /-- DONE (R436) -/
  | done (m : Master)
  /-- FLASH_CMD_WRITE (R444) -/
  | flashCmdWrite (m : Master) (v : Word)
  /-- FLASH_CMD_DONE (R444) -/
  | flashCmdDone (data : List Byte) (reads : List (List Word))
  /-- JTAG_TRST (R362) -/
  | jtagTrst
  /-- IDCODE (R442) -/
  | idcode
  /-- SAMPLE_PRELOAD (R442) -/
  | samplePreload (balls load : List Bool)
  /-- EXTEST (R442) -/
  | extest (balls load : List Bool)
  /-- CLAMP (R442) -/
  | clamp
  /-- HIGHZ (R442) -/
  | highz
  /-- BYPASS (R442) -/
  | bypass
  /-- DEBUG (R443) -/
  | debug (f : SpiFrame)
  /-- RESET_N_RISE (R46) -/
  | resetNRise
  /-- PCIE_PERST_RISE (R431) -/
  | pciePerstRise
  /-- PCIE_LINK_UP (R428) -/
  | pcieLinkUp (speed width : Fin 5)
  /-- REFERENCE_EVENT (R270) -/
  | referenceEvent (r : Fin 8) (e : RefEvent)
  /-- LEVEL_COUNTER_WRAP (R401) -/
  | levelCounterWrap (n : Fin 64)
  deriving DecidableEq, Repr

end Sys2Proof
end

