-- ==== Sys2Proof/Decode.lean ====
section
/-! DEFINITION. The decoding of table words. No row of the opcode table gives bits: the commands of this block are accesses, events and
timer expiries, which no word spells. -/

namespace Sys2Proof

/-- The command that a word spells by the table's bits: none. -/
def decodeTableWord (_nbits _w : Nat) : Option Instr := none

end Sys2Proof
end

