-- ==== Sys2Proof/Config.lean ====
section
/-! DEFINITION. What an implementation or an external standard fixes and the spec does not state: free values. No constant of
this file has a body, so no proof can rest on a value of it. -/

namespace Sys2Proof

/-- The fresh free values: the value of width `w` drawn at a count that the state holds and the step advances. -/
opaque Config.freeValue (w : Nat) (n : Nat) : BitVec w

/-- A byte of frame-store memory whose content the spec calls undefined (R300): by memory generation, MEMC and byte address. -/
opaque Config.freeByte (generation memc addr : Nat) : Byte

/-- A word of a line engine's instruction store or data memory after a reset that loses it (R348): generation, engine, word. -/
opaque Config.lostWord (generation engine addr : Nat) : Word

/-- The PCIe vendor identifier in the eFuses (HOST.PCI_ID.VENDOR). -/
opaque Config.vendorId : BitVec 16

/-- Signature enforcement in the eFuses (BOOT.STAT.SECURE). -/
opaque Config.secure : Bool

/-- The manufacturer code in the eFuses (R442). -/
opaque Config.manufacturer : BitVec 11

/-- The SHA-256 digest of an image's KEY words equals the key hash in the eFuses (R439). -/
opaque Config.keyMatches (key : List Word) : Bool

/-- SIG verifies under ECDSA P-256 with SHA-256 over the image bytes that R439 names: key, signature, bytes. -/
opaque Config.sigVerifies (key sig : List Word) (signed : List Byte) : Bool

/-- A segment whose FLAGS word is neither 0 nor 1 is taken as ZERO: Table 21.4 states no such value. -/
opaque Config.segmentZero (flags : Word) : Bool

/-- Whether the payload-ID bytes agree with a format in a mode: the codes are those of ST 352 (R111). -/
opaque Config.pidAgrees (mode fmt : Nat) (bytes : Word) : Bool

/-- Bytes 1 and 2 of a regenerated payload ID, as ST 352 codes the mode, format and link number (R140). -/
opaque Config.pidBytes12 (mode fmt link : Nat) : BitVec 16

/-- The link number that payload-ID bytes carry (R107). -/
opaque Config.pidLink (bytes : Word) : Nat

/-- Bit `i` of the professional channel-status block of a generator, its CRC byte as AES3 defines it (R219). -/
opaque Config.channelStatus (i : Nat) : Bool

/-- The P bit of a generator's brick, which R219 does not state. -/
opaque Config.genParity (g n : Nat) : Bool

/-- Whether an RMS level between two steps of 0.25 dB reads as the higher step: R220 states no rounding. -/
opaque Config.rmsUp (sum count : Nat) : Bool

/-- The first line of the second field of an interlaced format (ST 125, ST 274). -/
opaque Config.field2Line (fmt : Nat) : Nat

/-- A word of an embedded-audio packet as ST 272 and ST 299 code it: mode, group, packet kind (0 data, 1 extended data,
2 control), the samples or the fields it carries, the lines between a sample's own and the packet's with the sample's position in its line (R169), and the
word's index from the ancillary data flag (R169, R170). -/
opaque Config.audioWord (mode group kind : Nat) (samples : List Word) (clock : Nat × Nat) (i : Nat) : BitVec 10

/-- The number of words of an SD embedded-audio packet with this many samples per channel (ST 272). -/
opaque Config.sdAudioLen (kind samples : Nat) : Nat

/-- The switch line of the second field of an interlaced format whose first is given (RP 168). -/
opaque Config.switchLine2 (fmt line : Nat) : Nat

/-- Whether a quotient for which the spec states no rounding is rounded up: by the place it arises, numerator, denominator. -/
opaque Config.roundUp (place : Nat) (num : Int) (den : Nat) : Bool

/-- The line lies in the second field of an interlaced format (F = 1, ST 125, ST 274). -/
opaque Config.fieldBit (fmt line : Nat) : Bool

/-- The line lies in vertical blanking of the format (V = 1, ST 125, ST 274, ST 296, ST 2048). -/
opaque Config.vertBlank (fmt line : Nat) : Bool

/-- The memory bursts that one sample of an audio delay line takes, by line, sample number and direction: R311 states none. -/
opaque Config.delayBursts (i n : Nat) (isWrite : Bool) : Nat

/-- The time that a line engine takes over a number of slots, in word pairs of its lane's tiles: R344 only bounds its rate from below (R160). -/
opaque Config.programTime (lane slots : Nat) : Nat

/-- The position, in words from the start of the line in progress, at which a house sample period begins on an output lane: lane and period (R169). -/
opaque Config.clockPhase (lane period : Nat) : Nat

/-- The picture's sample, across its width, that a word pair of a 12G link at 23.98 Hz to 30 Hz holds: by stream pair and word pair. Table 6.4 names the
stream pairs and lays no picture into them. -/
opaque Config.octetSample (member i : Nat) : Nat

end Sys2Proof
end

