-- ==== Sys2Proof/Machine/Fld.lean ====
section
/-! DEFINITION. Register fields and register layouts as plain data: the access codes of Table 0.2, the kept-by sets of
Table 0.3, one field of a register, one register of a page. -/

namespace Sys2Proof.Machine

/-- The access codes of Table 0.2 (R5). -/
inductive Acc where
  | rw | ro | w1c | wc | xrw
  deriving DecidableEq, Repr

/-- The resets and power states of Table 0.3 (R8); power-on keeps nothing. -/
inductive ResetKind where
  | pin | mgmt | data | timing | wall | core | block | standby | dormant
  deriving DecidableEq, Repr

/-- A kept-by set: which resets and power states a field survives. -/
structure Kept where
  (P M D T W C B S Z : Bool)
  deriving DecidableEq, Repr

/-- Whether the set names the reset. -/
def Kept.has (k : Kept) : ResetKind → Bool
  | .pin => k.P
  | .mgmt => k.M
  | .data => k.D
  | .timing => k.T
  | .wall => k.W
  | .core => k.C
  | .block => k.B
  | .standby => k.S
  | .dormant => k.Z

/-- One field: the offset of its register (of the first, where the register is an array of the given stride), its lowest
bit and width, its access code, its reset value, the resets it survives, and its legal range. -/
structure Fld where
  off : Nat
  stride : Nat
  lo : Nat
  w : Nat
  acc : Acc
  reset : Nat
  kept : Kept
  mn : Nat
  mx : Nat
  deriving DecidableEq, Repr

/-- One register of a page: its offset, stride and number of copies, and its fields; a bit of no field is reserved. -/
structure RegD where
  off : Nat
  stride : Nat
  count : Nat
  fields : List Fld
  deriving DecidableEq, Repr

/-- Kept by nothing (Table 0.3). -/
def keptNone : Kept := ⟨false, false, false, false, false, false, false, false, false⟩

/-- Kept by D T W C S (Table 0.3). -/
def keptDTWCS : Kept := ⟨false, false, true, true, true, true, false, true, false⟩

/-- Kept by D T W C S Z (Table 0.3). -/
def keptDTWCSZ : Kept := ⟨false, false, true, true, true, true, false, true, true⟩

/-- Kept by D T W S (Table 0.3). -/
def keptDTWS : Kept := ⟨false, false, true, true, true, false, false, true, false⟩

/-- Kept by M D T W C B S (Table 0.3). -/
def keptMDTWCBS : Kept := ⟨false, true, true, true, true, true, true, true, false⟩

/-- Kept by M D T W C B S Z (Table 0.3). -/
def keptMDTWCBSZ : Kept := ⟨false, true, true, true, true, true, true, true, true⟩

/-- Kept by M D T W C S (Table 0.3). -/
def keptMDTWCS : Kept := ⟨false, true, true, true, true, true, false, true, false⟩

/-- Kept by M D W C S (Table 0.3). -/
def keptMDWCS : Kept := ⟨false, true, true, false, true, true, false, true, false⟩

/-- Kept by M T W C (Table 0.3). -/
def keptMTWC : Kept := ⟨false, true, false, true, true, true, false, false, false⟩

/-- Kept by M T W C B S (Table 0.3). -/
def keptMTWCBS : Kept := ⟨false, true, false, true, true, true, true, true, false⟩

/-- Kept by M T W C S (Table 0.3). -/
def keptMTWCS : Kept := ⟨false, true, false, true, true, true, false, true, false⟩

/-- Kept by M W C S (Table 0.3). -/
def keptMWCS : Kept := ⟨false, true, false, false, true, true, false, true, false⟩

/-- Kept by P M D T W C B S Z (Table 0.3). -/
def keptPMDTWCBSZ : Kept := ⟨true, true, true, true, true, true, true, true, true⟩

/-- Kept by P M D T W C S Z (Table 0.3). -/
def keptPMDTWCSZ : Kept := ⟨true, true, true, true, true, true, false, true, true⟩

/-- A read-only field. -/
def fRO (off stride lo w reset : Nat) (kept : Kept) : Fld := ⟨off, stride, lo, w, .ro, reset, kept, 0, 2 ^ w - 1⟩

/-- A read-write field whose every value is legal. -/
def fRW (off stride lo w reset : Nat) (kept : Kept) : Fld := ⟨off, stride, lo, w, .rw, reset, kept, 0, 2 ^ w - 1⟩

/-- A read-write field with a legal range. -/
def fRG (off stride lo w reset : Nat) (kept : Kept) (mn mx : Nat) : Fld := ⟨off, stride, lo, w, .rw, reset, kept, mn, mx⟩

/-- A field that only an open expert half lets a write change, with its legal range. -/
def fXR (off stride lo w reset : Nat) (kept : Kept) (mn mx : Nat) : Fld := ⟨off, stride, lo, w, .xrw, reset, kept, mn, mx⟩

/-- A write-1-to-clear field. -/
def fW1 (off stride lo w reset : Nat) (kept : Kept) : Fld := ⟨off, stride, lo, w, .w1c, reset, kept, 0, 2 ^ w - 1⟩

/-- A command field, with its legal range. -/
def fWC (off stride lo w : Nat) (mn mx : Nat) : Fld := ⟨off, stride, lo, w, .wc, 0, keptNone, mn, mx⟩

/-- The page's configuration survives these (R9, Table 20.2). -/
def pageKept : Page → Kept
  | .aon => keptPMDTWCBSZ
  | .pwr | .leng _ | .dev => keptMDTWCS
  | .tmu | .refin _ | .tdom _ => keptMDWCS
  | .host | .boot | .mtx | .intc | .intcF | .pmc | .qmg | .sramc => keptDTWCS
  | .fab | .afab | .wall _ | .cgate | .prot | .fst | .memc _ | .lane _ | .tll _ => keptMTWCS

/-- PAGE_CTRL.EXPERT_KEY: holds 0x5A while the expert half is open, 0 while it is closed (R14). -/
def Fld.PAGE_CTRL_EXPERT_KEY : Fld := fRW 0x008 0 8 8 0 keptNone
/-- PAGE_CTRL.LOCK; kept as the page is. -/
def Fld.PAGE_CTRL_LOCK : Fld := fRW 0x008 0 2 1 0 keptNone
/-- PAGE_CTRL.SOFT_RESET -/
def Fld.PAGE_CTRL_SOFT_RESET : Fld := fWC 0x008 0 1 1 0 1
/-- PAGE_CTRL.ENABLE; its reset value is the page's. -/
def Fld.PAGE_CTRL_ENABLE : Fld := fRW 0x008 0 0 1 1 keptNone
/-- PAGE_STAT.RESET_BUSY, the one stored field of PAGE_STAT. -/
def Fld.PAGE_STAT_RESET_BUSY : Fld := fRO 0x00C 0 1 1 0 ⟨false, true, true, true, true, true, true, true, true⟩
/-- PAGE_EVT.BLOCK_EVT -/
def Fld.PAGE_EVT_BLOCK_EVT : Fld := fW1 0x010 0 8 24 0 keptNone
/-- PAGE_EVT.EXPERT_TIMEOUT -/
def Fld.PAGE_EVT_EXPERT_TIMEOUT : Fld := fW1 0x010 0 1 1 0 keptNone
/-- PAGE_EVT.WRITE_REJECT -/
def Fld.PAGE_EVT_WRITE_REJECT : Fld := fW1 0x010 0 0 1 0 keptNone
/-- PAGE_EVT_EN.BLOCK_EVT -/
def Fld.PAGE_EVT_EN_BLOCK_EVT : Fld := fRW 0x014 0 8 24 0 keptNone
/-- PAGE_EVT_EN.EXPERT_TIMEOUT -/
def Fld.PAGE_EVT_EN_EXPERT_TIMEOUT : Fld := fRW 0x014 0 1 1 0 keptNone
/-- PAGE_EVT_EN.WRITE_REJECT -/
def Fld.PAGE_EVT_EN_WRITE_REJECT : Fld := fRW 0x014 0 0 1 0 keptNone
/-- PAGE_ERRADDR.MASTER -/
def Fld.PAGE_ERRADDR_MASTER : Fld := fRO 0x018 0 16 4 0 keptNone
/-- PAGE_ERRADDR.OFFSET -/
def Fld.PAGE_ERRADDR_OFFSET : Fld := fRO 0x018 0 2 10 0 keptNone
/-- PAGE_ERRCODE.OVERRUN -/
def Fld.PAGE_ERRCODE_OVERRUN : Fld := fRO 0x01C 0 8 1 0 keptNone
/-- PAGE_ERRCODE.CODE -/
def Fld.PAGE_ERRCODE_CODE : Fld := fRO 0x01C 0 0 3 0 keptNone
/-- PAGE_ID.BLOCK_TYPE -/
def Fld.PAGE_ID_BLOCK_TYPE : Fld := fRO 0x000 0 16 16 0 keptPMDTWCBSZ
/-- PAGE_ID.INSTANCE -/
def Fld.PAGE_ID_INSTANCE : Fld := fRO 0x000 0 0 16 0 keptPMDTWCBSZ
/-- PAGE_VER.MAJOR -/
def Fld.PAGE_VER_MAJOR : Fld := fRO 0x004 0 8 8 0 keptPMDTWCBSZ
/-- PAGE_VER.MINOR -/
def Fld.PAGE_VER_MINOR : Fld := fRO 0x004 0 0 8 0 keptPMDTWCBSZ
/-- PAGE_STAT.BLOCK_STAT, a view (R63 and the chapters of FAB and PROT). -/
def Fld.PAGE_STAT_BLOCK_STAT : Fld := fRO 0x00C 0 8 24 0 keptNone
/-- PAGE_STAT.EXPERT_OPEN, a view of PAGE_CTRL.EXPERT_KEY. -/
def Fld.PAGE_STAT_EXPERT_OPEN : Fld := fRO 0x00C 0 3 1 0 keptNone
/-- PAGE_STAT.LOCKED, a view of PAGE_CTRL.LOCK. -/
def Fld.PAGE_STAT_LOCKED : Fld := fRO 0x00C 0 2 1 0 keptNone
/-- PAGE_STAT.ENABLED, a view of PAGE_CTRL.ENABLE. -/
def Fld.PAGE_STAT_ENABLED : Fld := fRO 0x00C 0 0 1 0 keptNone

/-- The field with the page's own kept-by set in place of the entry "Page" (R9). -/
def Fld.ofPage (p : Page) (f : Fld) : Fld := { f with kept := pageKept p }

/-- The eight header registers of a page (Table 0.4). -/
def regsHeader (p : Page) : List RegD :=
  [⟨0x000, 0, 1, [.PAGE_ID_BLOCK_TYPE, .PAGE_ID_INSTANCE]⟩,
   ⟨0x004, 0, 1, [.PAGE_VER_MAJOR, .PAGE_VER_MINOR]⟩,
   ⟨0x008, 0, 1, [.PAGE_CTRL_EXPERT_KEY, Fld.ofPage p .PAGE_CTRL_LOCK, .PAGE_CTRL_SOFT_RESET, Fld.ofPage p .PAGE_CTRL_ENABLE]⟩,
   ⟨0x00C, 0, 1, [.PAGE_STAT_BLOCK_STAT, .PAGE_STAT_EXPERT_OPEN, .PAGE_STAT_LOCKED, .PAGE_STAT_RESET_BUSY, .PAGE_STAT_ENABLED]⟩,
   ⟨0x010, 0, 1, [Fld.ofPage p .PAGE_EVT_BLOCK_EVT, Fld.ofPage p .PAGE_EVT_EXPERT_TIMEOUT, Fld.ofPage p .PAGE_EVT_WRITE_REJECT]⟩,
   ⟨0x014, 0, 1, [Fld.ofPage p .PAGE_EVT_EN_BLOCK_EVT, Fld.ofPage p .PAGE_EVT_EN_EXPERT_TIMEOUT, Fld.ofPage p .PAGE_EVT_EN_WRITE_REJECT]⟩,
   ⟨0x018, 0, 1, [Fld.ofPage p .PAGE_ERRADDR_MASTER, Fld.ofPage p .PAGE_ERRADDR_OFFSET]⟩,
   ⟨0x01C, 0, 1, [Fld.ofPage p .PAGE_ERRCODE_OVERRUN, Fld.ofPage p .PAGE_ERRCODE_CODE]⟩]

/-- The bits of a field in its register. -/
def Fld.mask (f : Fld) : Nat := (2 ^ f.w - 1) <<< f.lo

/-- A field's value in a register word. -/
def Fld.get (f : Fld) (w : Word) : Nat := (w.toNat >>> f.lo) % 2 ^ f.w

/-- A register word with the field set. -/
def Fld.put (f : Fld) (w : Word) (v : Nat) : Word :=
  (w &&& ~~~(BitVec.ofNat 32 f.mask)) ||| BitVec.ofNat 32 ((v % 2 ^ f.w) <<< f.lo)

end Sys2Proof.Machine
end

