-- ==== Sys2Proof/Machine/RegsCtl.lean ====
section
/-! DEFINITION. The register fields of the pages DEV, LENG, MTX, SRAMC, QMG, INTC, INTC_F, PMC, PWR, AON, HOST, BOOT, written from the field tables of the spec. -/

namespace Sys2Proof.Machine

/-- DEV.ID.ID -/
def Fld.DEV_ID_ID : Fld := fRO 0x020 0 0 32 0x4C147200 keptPMDTWCBSZ
/-- DEV.VER.SIREV -/
def Fld.DEV_VER_SIREV : Fld := fRO 0x024 0 0 8 0x0B0 keptPMDTWCBSZ
/-- DEV.STRAP.BOOTMODE -/
def Fld.DEV_STRAP_BOOTMODE : Fld := fRO 0x028 0 0 2 0 keptMDTWCBSZ
/-- DEV.GPIO_DIR.DIR -/
def Fld.DEV_GPIO_DIR_DIR : Fld := fRW 0x030 0 0 16 0 keptMDTWCS
/-- DEV.GPIO_OUT.OUT -/
def Fld.DEV_GPIO_OUT_OUT : Fld := fRW 0x034 0 0 16 0 keptMDTWCS
/-- DEV.GPIO_IN.IN -/
def Fld.DEV_GPIO_IN_IN : Fld := fRO 0x038 0 0 16 0 keptPMDTWCBSZ
/-- DEV.MARGIN.MIN_CLR -/
def Fld.DEV_MARGIN_MIN_CLR : Fld := fWC 0x040 4 31 1 0 1
/-- DEV.MARGIN.MIN -/
def Fld.DEV_MARGIN_MIN : Fld := fRO 0x040 4 16 9 0x1FF keptMDTWCBS
/-- DEV.MARGIN.NOW -/
def Fld.DEV_MARGIN_NOW : Fld := fRO 0x040 4 0 9 0 keptMDTWCBS
/-- DEV.MARGIN_CFG.CLEAR_LEVEL -/
def Fld.DEV_MARGIN_CFG_CLEAR_LEVEL : Fld := fRW 0x060 0 16 9 0x06C keptMDTWCBS
/-- DEV.MARGIN_CFG.WARN_LEVEL -/
def Fld.DEV_MARGIN_CFG_WARN_LEVEL : Fld := fRG 0x060 0 0 9 0x069 keptMDTWCBS 100 200
/-- DEV.WDOG_CNT.MGMT -/
def Fld.DEV_WDOG_CNT_MGMT : Fld := fRO 0x068 0 16 16 0 keptMDTWCBS
/-- DEV.WDOG_CNT.DATA -/
def Fld.DEV_WDOG_CNT_DATA : Fld := fRO 0x068 0 0 16 0 keptMDTWCBS
/-- DEV.WDOG_CLR.CLEAR -/
def Fld.DEV_WDOG_CLR_CLEAR : Fld := fWC 0x06C 0 0 1 0 1
/-- DEV.XO_TIME_LO.LO -/
def Fld.DEV_XO_TIME_LO_LO : Fld := fRO 0x070 0 0 32 0 keptMDTWCBS
/-- DEV.XO_TIME_HI.HI -/
def Fld.DEV_XO_TIME_HI_HI : Fld := fRO 0x074 0 0 16 0 keptMDTWCBS

/-- Registers of the DEV page. -/
def regsDEV : List RegD :=
  [⟨0x020, 0, 1, [.DEV_ID_ID]⟩,
   ⟨0x024, 0, 1, [.DEV_VER_SIREV]⟩,
   ⟨0x028, 0, 1, [.DEV_STRAP_BOOTMODE]⟩,
   ⟨0x030, 0, 1, [.DEV_GPIO_DIR_DIR]⟩,
   ⟨0x034, 0, 1, [.DEV_GPIO_OUT_OUT]⟩,
   ⟨0x038, 0, 1, [.DEV_GPIO_IN_IN]⟩,
   ⟨0x040, 4, 6, [.DEV_MARGIN_MIN_CLR, .DEV_MARGIN_MIN, .DEV_MARGIN_NOW]⟩,
   ⟨0x060, 0, 1, [.DEV_MARGIN_CFG_CLEAR_LEVEL, .DEV_MARGIN_CFG_WARN_LEVEL]⟩,
   ⟨0x068, 0, 1, [.DEV_WDOG_CNT_MGMT, .DEV_WDOG_CNT_DATA]⟩,
   ⟨0x06C, 0, 1, [.DEV_WDOG_CLR_CLEAR]⟩,
   ⟨0x070, 0, 1, [.DEV_XO_TIME_LO_LO]⟩,
   ⟨0x074, 0, 1, [.DEV_XO_TIME_HI_HI]⟩]

/-- LENG.CTL.CNT_CLR -/
def Fld.LENG_CTL_CNT_CLR : Fld := fWC 0x020 0 2 1 0 1
/-- LENG.CTL.STOP -/
def Fld.LENG_CTL_STOP : Fld := fWC 0x020 0 1 1 0 1
/-- LENG.CTL.START -/
def Fld.LENG_CTL_START : Fld := fWC 0x020 0 0 1 0 1
/-- LENG.CFG.SLICE -/
def Fld.LENG_CFG_SLICE : Fld := fRG 0x024 0 20 12 0x0FA keptMDTWCS 8 4095
/-- LENG.CFG.TDOM -/
def Fld.LENG_CFG_TDOM : Fld := fRW 0x024 0 16 4 0 keptMDTWCS
/-- LENG.CFG.TBASE -/
def Fld.LENG_CFG_TBASE : Fld := fRW 0x024 0 12 1 0 keptMDTWCS
/-- LENG.CFG.ENTRY -/
def Fld.LENG_CFG_ENTRY : Fld := fRW 0x024 0 0 10 0 keptMDTWCS
/-- LENG.PERM.PMC_READ -/
def Fld.LENG_PERM_PMC_READ : Fld := fRW 0x028 0 31 1 0 keptMDTWCS
/-- LENG.PERM.DBELL -/
def Fld.LENG_PERM_DBELL : Fld := fRW 0x028 0 30 1 1 keptMDTWCS
/-- LENG.PERM.NEW_TX -/
def Fld.LENG_PERM_NEW_TX : Fld := fRW 0x028 0 29 1 1 keptMDTWCS
/-- LENG.PERM.NEW_RX -/
def Fld.LENG_PERM_NEW_RX : Fld := fRW 0x028 0 28 1 1 keptMDTWCS
/-- LENG.PERM.QCOUNT -/
def Fld.LENG_PERM_QCOUNT : Fld := fRW 0x028 0 16 10 0 keptMDTWCS
/-- LENG.PERM.QBASE -/
def Fld.LENG_PERM_QBASE : Fld := fRW 0x028 0 0 10 0 keptMDTWCS
/-- LENG.STAT.STATE -/
def Fld.LENG_STAT_STATE : Fld := fRO 0x02C 0 30 2 0 keptMDTWCS
/-- LENG.STAT.STOP_CODE -/
def Fld.LENG_STAT_STOP_CODE : Fld := fRO 0x02C 0 26 4 0 keptMDTWCS
/-- LENG.STAT.USER_CODE -/
def Fld.LENG_STAT_USER_CODE : Fld := fRO 0x02C 0 18 8 0 keptMDTWCS
/-- LENG.STAT.FIFO -/
def Fld.LENG_STAT_FIFO : Fld := fRO 0x02C 0 11 7 0 keptMDTWCS
/-- LENG.STAT.PC -/
def Fld.LENG_STAT_PC : Fld := fRO 0x02C 0 0 10 0 keptMDTWCS
/-- LENG.EVT.LATCHED -/
def Fld.LENG_EVT_LATCHED : Fld := fRO 0x030 0 0 5 0 keptMDTWCS
/-- LENG.DB_IN.RING -/
def Fld.LENG_DB_IN_RING : Fld := fWC 0x034 0 0 1 0 1
/-- LENG.DB_OUT.COUNT -/
def Fld.LENG_DB_OUT_COUNT : Fld := fRO 0x038 0 16 16 0 keptMDTWCS
/-- LENG.DB_OUT.VALUE -/
def Fld.LENG_DB_OUT_VALUE : Fld := fRO 0x038 0 0 16 0 keptMDTWCS
/-- LENG.PKTCNT.FIFO_DROP -/
def Fld.LENG_PKTCNT_FIFO_DROP : Fld := fRO 0x03C 0 16 16 0 keptMDTWCS
/-- LENG.PKTCNT.INS_DROP -/
def Fld.LENG_PKTCNT_INS_DROP : Fld := fRO 0x03C 0 0 16 0 keptMDTWCS
/-- LENG.PKTCNT2.NEW_LATE -/
def Fld.LENG_PKTCNT2_NEW_LATE : Fld := fRO 0x040 0 16 16 0 keptMDTWCS
/-- LENG.PKTCNT2.ABANDON -/
def Fld.LENG_PKTCNT2_ABANDON : Fld := fRO 0x040 0 0 16 0 keptMDTWCS
/-- LENG.EVTCNT.OVR -/
def Fld.LENG_EVTCNT_OVR : Fld := fRO 0x044 0 0 16 0 keptMDTWCS
/-- LENG.UCNT.COUNT -/
def Fld.LENG_UCNT_COUNT : Fld := fRO 0x060 4 0 32 0 keptMDTWCS
/-- LENG.DBG_X.STEP -/
def Fld.LENG_DBG_X_STEP : Fld := fWC 0x400 0 31 1 0 1
/-- LENG.DBG_X.REG_SEL -/
def Fld.LENG_DBG_X_REG_SEL : Fld := fXR 0x400 0 0 4 0 keptMDTWCS 0 15
/-- LENG.DBG_VAL_X.VALUE -/
def Fld.LENG_DBG_VAL_X_VALUE : Fld := fRO 0x404 0 0 32 0 keptMDTWCS

/-- Registers of the LENG page. -/
def regsLENG : List RegD :=
  [⟨0x020, 0, 1, [.LENG_CTL_CNT_CLR, .LENG_CTL_STOP, .LENG_CTL_START]⟩,
   ⟨0x024, 0, 1, [.LENG_CFG_SLICE, .LENG_CFG_TDOM, .LENG_CFG_TBASE, .LENG_CFG_ENTRY]⟩,
   ⟨0x028, 0, 1, [.LENG_PERM_PMC_READ, .LENG_PERM_DBELL, .LENG_PERM_NEW_TX, .LENG_PERM_NEW_RX, .LENG_PERM_QCOUNT, .LENG_PERM_QBASE]⟩,
   ⟨0x02C, 0, 1, [.LENG_STAT_STATE, .LENG_STAT_STOP_CODE, .LENG_STAT_USER_CODE, .LENG_STAT_FIFO, .LENG_STAT_PC]⟩,
   ⟨0x030, 0, 1, [.LENG_EVT_LATCHED]⟩,
   ⟨0x034, 0, 1, [.LENG_DB_IN_RING]⟩,
   ⟨0x038, 0, 1, [.LENG_DB_OUT_COUNT, .LENG_DB_OUT_VALUE]⟩,
   ⟨0x03C, 0, 1, [.LENG_PKTCNT_FIFO_DROP, .LENG_PKTCNT_INS_DROP]⟩,
   ⟨0x040, 0, 1, [.LENG_PKTCNT2_NEW_LATE, .LENG_PKTCNT2_ABANDON]⟩,
   ⟨0x044, 0, 1, [.LENG_EVTCNT_OVR]⟩,
   ⟨0x060, 4, 8, [.LENG_UCNT_COUNT]⟩,
   ⟨0x400, 0, 1, [.LENG_DBG_X_STEP, .LENG_DBG_X_REG_SEL]⟩,
   ⟨0x404, 0, 1, [.LENG_DBG_VAL_X_VALUE]⟩]

/-- MTX.STAT.CONFIGURE -/
def Fld.MTX_STAT_CONFIGURE : Fld := fRO 0x020 0 8 1 1 keptDTWCS
/-- MTX.STAT.LOCKED -/
def Fld.MTX_STAT_LOCKED : Fld := fRO 0x020 0 4 1 0 keptDTWCS
/-- MTX.STAT.LOCK_MASTER -/
def Fld.MTX_STAT_LOCK_MASTER : Fld := fRO 0x020 0 0 4 0 keptDTWCS
/-- MTX.SLICE.TARGET -/
def Fld.MTX_SLICE_TARGET : Fld := fRW 0x024 0 16 10 0 keptDTWCS
/-- MTX.SLICE.MASTER -/
def Fld.MTX_SLICE_MASTER : Fld := fRW 0x024 0 0 9 0 keptDTWCS
/-- MTX.PERM.ADMIN -/
def Fld.MTX_PERM_ADMIN : Fld := fRW 0x040 4 31 1 0 keptDTWCS
/-- MTX.PERM.WRITE -/
def Fld.MTX_PERM_WRITE : Fld := fRW 0x040 4 16 9 0x1FF keptDTWCS
/-- MTX.PERM.READ -/
def Fld.MTX_PERM_READ : Fld := fRW 0x040 4 0 9 0x1FF keptDTWCS
/-- MTX.ERR_ADDR.ADDR -/
def Fld.MTX_ERR_ADDR_ADDR : Fld := fRO 0x070 0 0 32 0 keptDTWCS
/-- MTX.ERR_INFO.OVERRUN -/
def Fld.MTX_ERR_INFO_OVERRUN : Fld := fRO 0x074 0 31 1 0 keptDTWCS
/-- MTX.ERR_INFO.TARGET -/
def Fld.MTX_ERR_INFO_TARGET : Fld := fRO 0x074 0 8 4 0 keptDTWCS
/-- MTX.ERR_INFO.WRITE -/
def Fld.MTX_ERR_INFO_WRITE : Fld := fRO 0x074 0 7 1 0 keptDTWCS
/-- MTX.ERR_INFO.CODE -/
def Fld.MTX_ERR_INFO_CODE : Fld := fRO 0x074 0 4 3 0 keptDTWCS
/-- MTX.ERR_INFO.MASTER -/
def Fld.MTX_ERR_INFO_MASTER : Fld := fRO 0x074 0 0 4 0 keptDTWCS
/-- MTX.ABORT.BEATS_LEFT -/
def Fld.MTX_ABORT_BEATS_LEFT : Fld := fRO 0x078 0 12 5 0 keptDTWCS
/-- MTX.ABORT.TARGET -/
def Fld.MTX_ABORT_TARGET : Fld := fRO 0x078 0 8 4 0 keptDTWCS
/-- MTX.ABORT.WRITE -/
def Fld.MTX_ABORT_WRITE : Fld := fRO 0x078 0 7 1 0 keptDTWCS
/-- MTX.ABORT.LOCK_REL -/
def Fld.MTX_ABORT_LOCK_REL : Fld := fRO 0x078 0 6 1 0 keptDTWCS
/-- MTX.ABORT.MASTER -/
def Fld.MTX_ABORT_MASTER : Fld := fRO 0x078 0 0 4 0 keptDTWCS
/-- MTX.ERRCNT.DECODE -/
def Fld.MTX_ERRCNT_DECODE : Fld := fRO 0x07C 0 16 16 0 keptDTWCS
/-- MTX.ERRCNT.TIMEOUT -/
def Fld.MTX_ERRCNT_TIMEOUT : Fld := fRO 0x07C 0 0 16 0 keptDTWCS
/-- MTX.ERRCNT2.PERM -/
def Fld.MTX_ERRCNT2_PERM : Fld := fRO 0x080 0 16 16 0 keptDTWCS
/-- MTX.ERRCNT2.LOCK_BREAK -/
def Fld.MTX_ERRCNT2_LOCK_BREAK : Fld := fRO 0x080 0 0 16 0 keptDTWCS
/-- MTX.CTL.CNT_CLR -/
def Fld.MTX_CTL_CNT_CLR : Fld := fWC 0x084 0 0 1 0 1

/-- Registers of the MTX page. -/
def regsMTX : List RegD :=
  [⟨0x020, 0, 1, [.MTX_STAT_CONFIGURE, .MTX_STAT_LOCKED, .MTX_STAT_LOCK_MASTER]⟩,
   ⟨0x024, 0, 1, [.MTX_SLICE_TARGET, .MTX_SLICE_MASTER]⟩,
   ⟨0x040, 4, 9, [.MTX_PERM_ADMIN, .MTX_PERM_WRITE, .MTX_PERM_READ]⟩,
   ⟨0x070, 0, 1, [.MTX_ERR_ADDR_ADDR]⟩,
   ⟨0x074, 0, 1, [.MTX_ERR_INFO_OVERRUN, .MTX_ERR_INFO_TARGET, .MTX_ERR_INFO_WRITE, .MTX_ERR_INFO_CODE, .MTX_ERR_INFO_MASTER]⟩,
   ⟨0x078, 0, 1, [.MTX_ABORT_BEATS_LEFT, .MTX_ABORT_TARGET, .MTX_ABORT_WRITE, .MTX_ABORT_LOCK_REL, .MTX_ABORT_MASTER]⟩,
   ⟨0x07C, 0, 1, [.MTX_ERRCNT_DECODE, .MTX_ERRCNT_TIMEOUT]⟩,
   ⟨0x080, 0, 1, [.MTX_ERRCNT2_PERM, .MTX_ERRCNT2_LOCK_BREAK]⟩,
   ⟨0x084, 0, 1, [.MTX_CTL_CNT_CLR]⟩]

/-- SRAMC.RETAIN.BANK -/
def Fld.SRAMC_RETAIN_BANK : Fld := fRW 0x020 0 0 5 0 keptDTWCSZ
/-- SRAMC.COLL_LAST.BANK -/
def Fld.SRAMC_COLL_LAST_BANK : Fld := fRO 0x024 0 19 3 0 keptDTWCS
/-- SRAMC.COLL_LAST.WORD -/
def Fld.SRAMC_COLL_LAST_WORD : Fld := fRO 0x024 0 0 19 0 keptDTWCS
/-- SRAMC.ECC_LAST.UNCORR -/
def Fld.SRAMC_ECC_LAST_UNCORR : Fld := fRO 0x028 0 31 1 0 keptDTWCS
/-- SRAMC.ECC_LAST.BANK -/
def Fld.SRAMC_ECC_LAST_BANK : Fld := fRO 0x028 0 19 3 0 keptDTWCS
/-- SRAMC.ECC_LAST.WORD -/
def Fld.SRAMC_ECC_LAST_WORD : Fld := fRO 0x028 0 0 19 0 keptDTWCS
/-- SRAMC.CTL.CNT_CLR -/
def Fld.SRAMC_CTL_CNT_CLR : Fld := fWC 0x02C 0 0 1 0 1
/-- SRAMC.COLL_CNT.COUNT -/
def Fld.SRAMC_COLL_CNT_COUNT : Fld := fRO 0x040 4 0 32 0 keptDTWCS
/-- SRAMC.ECC_CNT.CORR -/
def Fld.SRAMC_ECC_CNT_CORR : Fld := fRO 0x060 4 16 16 0 keptDTWCS
/-- SRAMC.ECC_CNT.UNCORR -/
def Fld.SRAMC_ECC_CNT_UNCORR : Fld := fRO 0x060 4 0 16 0 keptDTWCS

/-- Registers of the SRAMC page. -/
def regsSRAMC : List RegD :=
  [⟨0x020, 0, 1, [.SRAMC_RETAIN_BANK]⟩,
   ⟨0x024, 0, 1, [.SRAMC_COLL_LAST_BANK, .SRAMC_COLL_LAST_WORD]⟩,
   ⟨0x028, 0, 1, [.SRAMC_ECC_LAST_UNCORR, .SRAMC_ECC_LAST_BANK, .SRAMC_ECC_LAST_WORD]⟩,
   ⟨0x02C, 0, 1, [.SRAMC_CTL_CNT_CLR]⟩,
   ⟨0x040, 4, 5, [.SRAMC_COLL_CNT_COUNT]⟩,
   ⟨0x060, 4, 5, [.SRAMC_ECC_CNT_CORR, .SRAMC_ECC_CNT_UNCORR]⟩]

/-- QMG.CFG.STALL_TIMEOUT -/
def Fld.QMG_CFG_STALL_TIMEOUT : Fld := fRG 0x020 0 16 16 0x7D0 keptDTWCS 40 40000
/-- QMG.CFG.MODE -/
def Fld.QMG_CFG_MODE : Fld := fRW 0x020 0 0 2 0 keptDTWCS
/-- QMG.POOL.FREE -/
def Fld.QMG_POOL_FREE : Fld := fRO 0x024 0 0 17 0x10000 keptDTWCS
/-- QMG.PAR_CNT.COUNT -/
def Fld.QMG_PAR_CNT_COUNT : Fld := fRO 0x028 0 0 32 0 keptDTWCS
/-- QMG.CTL.PAR_INJ -/
def Fld.QMG_CTL_PAR_INJ : Fld := fWC 0x02C 0 1 1 0 1
/-- QMG.CTL.CNT_CLR -/
def Fld.QMG_CTL_CNT_CLR : Fld := fWC 0x02C 0 0 1 0 1
/-- QMG.Q_SEL.QUEUE -/
def Fld.QMG_Q_SEL_QUEUE : Fld := fRW 0x030 0 0 10 0 keptMDTWCS
/-- QMG.Q_CFG.ENABLE -/
def Fld.QMG_Q_CFG_ENABLE : Fld := fRW 0x034 0 31 1 0 keptMDTWCS
/-- QMG.Q_CFG.RING -/
def Fld.QMG_Q_CFG_RING : Fld := fRW 0x034 0 30 1 0 keptMDTWCS
/-- QMG.Q_CFG.NOTICE_EN -/
def Fld.QMG_Q_CFG_NOTICE_EN : Fld := fRW 0x034 0 29 1 0 keptMDTWCS
/-- QMG.Q_CFG.NOTICE -/
def Fld.QMG_Q_CFG_NOTICE : Fld := fRW 0x034 0 16 5 0 keptMDTWCS
/-- QMG.Q_CFG.QUOTA -/
def Fld.QMG_Q_CFG_QUOTA : Fld := fRG 0x034 0 0 16 0x040 keptMDTWCS 1 65535
/-- QMG.Q_STAT.MARK_VALID -/
def Fld.QMG_Q_STAT_MARK_VALID : Fld := fRO 0x038 0 31 1 0 keptDTWCS
/-- QMG.Q_STAT.MARK_VOID -/
def Fld.QMG_Q_STAT_MARK_VOID : Fld := fRO 0x038 0 30 1 0 keptDTWCS
/-- QMG.Q_STAT.PACKETS -/
def Fld.QMG_Q_STAT_PACKETS : Fld := fRO 0x038 0 17 13 0 keptDTWCS
/-- QMG.Q_STAT.CELLS -/
def Fld.QMG_Q_STAT_CELLS : Fld := fRO 0x038 0 0 17 0 keptDTWCS
/-- QMG.Q_CNT.DROP_QUOTA -/
def Fld.QMG_Q_CNT_DROP_QUOTA : Fld := fRO 0x03C 0 16 16 0 keptDTWCS
/-- QMG.Q_CNT.DROP_POOL -/
def Fld.QMG_Q_CNT_DROP_POOL : Fld := fRO 0x03C 0 0 16 0 keptDTWCS
/-- QMG.Q_CNT2.DROP_REJECT -/
def Fld.QMG_Q_CNT2_DROP_REJECT : Fld := fRO 0x040 0 16 16 0 keptDTWCS
/-- QMG.Q_CNT2.OVERWRITE -/
def Fld.QMG_Q_CNT2_OVERWRITE : Fld := fRO 0x040 0 0 16 0 keptDTWCS
/-- QMG.RD_SEL.QUEUE -/
def Fld.QMG_RD_SEL_QUEUE : Fld := fRW 0x050 0 0 10 0 keptDTWCS
/-- QMG.RD_LO.DATA -/
def Fld.QMG_RD_LO_DATA : Fld := fRO 0x054 0 0 32 0 keptDTWCS
/-- QMG.RD_HI.TAGS -/
def Fld.QMG_RD_HI_TAGS : Fld := fRO 0x058 0 0 32 0 keptDTWCS
/-- QMG.RD_CTL.REWIND -/
def Fld.QMG_RD_CTL_REWIND : Fld := fWC 0x05C 0 3 1 0 1
/-- QMG.RD_CTL.UNMARK -/
def Fld.QMG_RD_CTL_UNMARK : Fld := fWC 0x05C 0 2 1 0 1
/-- QMG.RD_CTL.MARK -/
def Fld.QMG_RD_CTL_MARK : Fld := fWC 0x05C 0 1 1 0 1
/-- QMG.RD_CTL.DROP_REST -/
def Fld.QMG_RD_CTL_DROP_REST : Fld := fWC 0x05C 0 0 1 0 1
/-- QMG.RD_STAT.LOST -/
def Fld.QMG_RD_STAT_LOST : Fld := fRO 0x060 0 0 16 0 keptDTWCS
/-- QMG.WR_SEL.LAST_DROP -/
def Fld.QMG_WR_SEL_LAST_DROP : Fld := fRO 0x070 0 31 1 0 keptDTWCS
/-- QMG.WR_SEL.QUEUE -/
def Fld.QMG_WR_SEL_QUEUE : Fld := fRW 0x070 0 0 10 0 keptDTWCS
/-- QMG.WR_DATA.DATA -/
def Fld.QMG_WR_DATA_DATA : Fld := fRW 0x074 0 0 32 0 keptDTWCS
/-- QMG.WR_END.END -/
def Fld.QMG_WR_END_END : Fld := fWC 0x078 0 2 1 0 1
/-- QMG.WR_END.BYTES -/
def Fld.QMG_WR_END_BYTES : Fld := fWC 0x078 0 0 2 0 3
/-- QMG.DMA_CFG.ENABLE -/
def Fld.QMG_DMA_CFG_ENABLE : Fld := fRW 0x100 16 31 1 0 keptDTWCS
/-- QMG.DMA_CFG.DIR -/
def Fld.QMG_DMA_CFG_DIR : Fld := fRW 0x100 16 30 1 0 keptDTWCS
/-- QMG.DMA_CFG.ERR -/
def Fld.QMG_DMA_CFG_ERR : Fld := fRO 0x100 16 29 1 0 keptDTWCS
/-- QMG.DMA_CFG.NOTICE -/
def Fld.QMG_DMA_CFG_NOTICE : Fld := fRW 0x100 16 16 5 0 keptDTWCS
/-- QMG.DMA_CFG.QUEUE -/
def Fld.QMG_DMA_CFG_QUEUE : Fld := fRW 0x100 16 0 10 0 keptDTWCS
/-- QMG.DMA_RING.SIZE -/
def Fld.QMG_DMA_RING_SIZE : Fld := fRG 0x104 16 16 16 1 keptDTWCS 1 32768
/-- QMG.DMA_RING.BASE -/
def Fld.QMG_DMA_RING_BASE : Fld := fRW 0x104 16 0 16 0 keptDTWCS
/-- QMG.DMA_WP.PTR -/
def Fld.QMG_DMA_WP_PTR : Fld := fRW 0x108 16 0 20 0 keptDTWCS
/-- QMG.DMA_RP.PTR -/
def Fld.QMG_DMA_RP_PTR : Fld := fRW 0x10C 16 0 20 0 keptDTWCS

/-- Registers of the QMG page, part 0. -/
def regsQMG_0 : List RegD :=
  [⟨0x020, 0, 1, [.QMG_CFG_STALL_TIMEOUT, .QMG_CFG_MODE]⟩,
   ⟨0x024, 0, 1, [.QMG_POOL_FREE]⟩,
   ⟨0x028, 0, 1, [.QMG_PAR_CNT_COUNT]⟩,
   ⟨0x02C, 0, 1, [.QMG_CTL_PAR_INJ, .QMG_CTL_CNT_CLR]⟩,
   ⟨0x030, 0, 1, [.QMG_Q_SEL_QUEUE]⟩,
   ⟨0x034, 0, 1, [.QMG_Q_CFG_ENABLE, .QMG_Q_CFG_RING, .QMG_Q_CFG_NOTICE_EN, .QMG_Q_CFG_NOTICE, .QMG_Q_CFG_QUOTA]⟩,
   ⟨0x038, 0, 1, [.QMG_Q_STAT_MARK_VALID, .QMG_Q_STAT_MARK_VOID, .QMG_Q_STAT_PACKETS, .QMG_Q_STAT_CELLS]⟩,
   ⟨0x03C, 0, 1, [.QMG_Q_CNT_DROP_QUOTA, .QMG_Q_CNT_DROP_POOL]⟩,
   ⟨0x040, 0, 1, [.QMG_Q_CNT2_DROP_REJECT, .QMG_Q_CNT2_OVERWRITE]⟩,
   ⟨0x050, 0, 1, [.QMG_RD_SEL_QUEUE]⟩,
   ⟨0x054, 0, 1, [.QMG_RD_LO_DATA]⟩,
   ⟨0x058, 0, 1, [.QMG_RD_HI_TAGS]⟩,
   ⟨0x05C, 0, 1, [.QMG_RD_CTL_REWIND, .QMG_RD_CTL_UNMARK, .QMG_RD_CTL_MARK, .QMG_RD_CTL_DROP_REST]⟩,
   ⟨0x060, 0, 1, [.QMG_RD_STAT_LOST]⟩,
   ⟨0x070, 0, 1, [.QMG_WR_SEL_LAST_DROP, .QMG_WR_SEL_QUEUE]⟩,
   ⟨0x074, 0, 1, [.QMG_WR_DATA_DATA]⟩,
   ⟨0x078, 0, 1, [.QMG_WR_END_END, .QMG_WR_END_BYTES]⟩,
   ⟨0x100, 16, 8, [.QMG_DMA_CFG_ENABLE, .QMG_DMA_CFG_DIR, .QMG_DMA_CFG_ERR, .QMG_DMA_CFG_NOTICE, .QMG_DMA_CFG_QUEUE]⟩,
   ⟨0x104, 16, 8, [.QMG_DMA_RING_SIZE, .QMG_DMA_RING_BASE]⟩,
   ⟨0x108, 16, 8, [.QMG_DMA_WP_PTR]⟩]


/-- Registers of the QMG page, part 1. -/
def regsQMG_1 : List RegD :=
  [⟨0x10C, 16, 8, [.QMG_DMA_RP_PTR]⟩]

/-- Registers of the QMG page. -/
def regsQMG : List RegD := regsQMG_0 ++ regsQMG_1

/-- INTC.CFG.HOST_PIN -/
def Fld.INTC_CFG_HOST_PIN : Fld := fRW 0x020 0 4 1 0 keptDTWCS
/-- INTC.CFG.MODE -/
def Fld.INTC_CFG_MODE : Fld := fRW 0x020 0 0 1 0 keptDTWCS
/-- INTC.SRC_SEL.SOURCE -/
def Fld.INTC_SRC_SEL_SOURCE : Fld := fRW 0x024 0 0 9 0 keptDTWCS
/-- INTC.SRC_CFG.CLASS -/
def Fld.INTC_SRC_CFG_CLASS : Fld := fRW 0x028 0 30 1 0 keptDTWCS
/-- INTC.SRC_CFG.PRIO -/
def Fld.INTC_SRC_CFG_PRIO : Fld := fRW 0x028 0 24 3 1 keptDTWCS
/-- INTC.SRC_CFG.VECTOR -/
def Fld.INTC_SRC_CFG_VECTOR : Fld := fRW 0x028 0 16 5 0 keptDTWCS
/-- INTC.SRC_CFG.TARGET -/
def Fld.INTC_SRC_CFG_TARGET : Fld := fRG 0x028 0 0 3 0 keptDTWCS 0 4
/-- INTC.SRC_STAT.PEND -/
def Fld.INTC_SRC_STAT_PEND : Fld := fRO 0x02C 0 31 1 0 keptDTWCS
/-- INTC.SRC_STAT.COMMITTED -/
def Fld.INTC_SRC_STAT_COMMITTED : Fld := fRO 0x02C 0 30 1 0 keptDTWCS
/-- INTC.SRC_STAT.INSVC -/
def Fld.INTC_SRC_STAT_INSVC : Fld := fRO 0x02C 0 29 1 0 keptDTWCS
/-- INTC.SRC_STAT.SAT -/
def Fld.INTC_SRC_STAT_SAT : Fld := fRO 0x02C 0 28 1 0 keptDTWCS
/-- INTC.SRC_STAT.HOLDER -/
def Fld.INTC_SRC_STAT_HOLDER : Fld := fRO 0x02C 0 24 3 0 keptDTWCS
/-- INTC.SRC_STAT.COUNT -/
def Fld.INTC_SRC_STAT_COUNT : Fld := fRO 0x02C 0 0 8 0 keptDTWCS
/-- INTC.TGT_STAT.FULL -/
def Fld.INTC_TGT_STAT_FULL : Fld := fRO 0x030 0 4 10 0 keptDTWCS
/-- INTC.TGT_STAT.ASLEEP -/
def Fld.INTC_TGT_STAT_ASLEEP : Fld := fRO 0x030 0 0 4 0 keptDTWCS
/-- INTC.EN.EN -/
def Fld.INTC_EN_EN : Fld := fRW 0x040 4 0 32 0 keptDTWCS
/-- INTC.PEND.PEND -/
def Fld.INTC_PEND_PEND : Fld := fRO 0x080 4 0 32 0 keptDTWCS
/-- INTC.CLAIM.WORD -/
def Fld.INTC_CLAIM_WORD : Fld := fRO 0x0C0 0 0 32 0 keptNone
/-- INTC.CLAIM_ALL.WORD -/
def Fld.INTC_CLAIM_ALL_WORD : Fld := fRO 0x0C4 0 0 32 0 keptNone
/-- INTC.COMPLETE.SOURCE -/
def Fld.INTC_COMPLETE_SOURCE : Fld := fWC 0x0C8 0 0 9 0 511
/-- INTC.SWI.RAISE -/
def Fld.INTC_SWI_RAISE : Fld := fWC 0x0CC 0 0 16 0 65535
/-- INTC.ERR.MASTER -/
def Fld.INTC_ERR_MASTER : Fld := fRO 0x0D0 0 16 4 0 keptDTWCS
/-- INTC.ERR.SOURCE -/
def Fld.INTC_ERR_SOURCE : Fld := fRO 0x0D0 0 0 9 0 keptDTWCS
/-- INTC.REDIRECT.EN -/
def Fld.INTC_REDIRECT_EN : Fld := fRW 0x0E0 4 31 1 0 keptDTWCS
/-- INTC.REDIRECT.TARGET -/
def Fld.INTC_REDIRECT_TARGET : Fld := fRG 0x0E0 4 0 3 4 keptDTWCS 0 4
/-- INTC.WATCH.VALID -/
def Fld.INTC_WATCH_VALID : Fld := fRW 0x100 4 31 1 0 keptMDTWCBSZ
/-- INTC.WATCH.SOURCE -/
def Fld.INTC_WATCH_SOURCE : Fld := fRW 0x100 4 0 9 0 keptMDTWCBSZ

/-- Registers of the INTC page. -/
def regsINTC : List RegD :=
  [⟨0x020, 0, 1, [.INTC_CFG_HOST_PIN, .INTC_CFG_MODE]⟩,
   ⟨0x024, 0, 1, [.INTC_SRC_SEL_SOURCE]⟩,
   ⟨0x028, 0, 1, [.INTC_SRC_CFG_CLASS, .INTC_SRC_CFG_PRIO, .INTC_SRC_CFG_VECTOR, .INTC_SRC_CFG_TARGET]⟩,
   ⟨0x02C, 0, 1, [.INTC_SRC_STAT_PEND, .INTC_SRC_STAT_COMMITTED, .INTC_SRC_STAT_INSVC, .INTC_SRC_STAT_SAT, .INTC_SRC_STAT_HOLDER, .INTC_SRC_STAT_COUNT]⟩,
   ⟨0x030, 0, 1, [.INTC_TGT_STAT_FULL, .INTC_TGT_STAT_ASLEEP]⟩,
   ⟨0x040, 4, 16, [.INTC_EN_EN]⟩,
   ⟨0x080, 4, 16, [.INTC_PEND_PEND]⟩,
   ⟨0x0C0, 0, 1, [.INTC_CLAIM_WORD]⟩,
   ⟨0x0C4, 0, 1, [.INTC_CLAIM_ALL_WORD]⟩,
   ⟨0x0C8, 0, 1, [.INTC_COMPLETE_SOURCE]⟩,
   ⟨0x0CC, 0, 1, [.INTC_SWI_RAISE]⟩,
   ⟨0x0D0, 0, 1, [.INTC_ERR_MASTER, .INTC_ERR_SOURCE]⟩,
   ⟨0x0E0, 4, 4, [.INTC_REDIRECT_EN, .INTC_REDIRECT_TARGET]⟩,
   ⟨0x100, 4, 32, [.INTC_WATCH_VALID, .INTC_WATCH_SOURCE]⟩]

/-- INTC_F.CLAIM.WORD -/
def Fld.INTC_F_CLAIM_WORD : Fld := fRO 0x020 0 0 32 0 keptNone
/-- INTC_F.CLAIM_ALL.WORD -/
def Fld.INTC_F_CLAIM_ALL_WORD : Fld := fRO 0x024 0 0 32 0 keptNone
/-- INTC_F.COMPLETE.SOURCE -/
def Fld.INTC_F_COMPLETE_SOURCE : Fld := fWC 0x028 0 0 9 0 511

/-- Registers of the INTC_F page. -/
def regsINTC_F : List RegD :=
  [⟨0x020, 0, 1, [.INTC_F_CLAIM_WORD]⟩,
   ⟨0x024, 0, 1, [.INTC_F_CLAIM_ALL_WORD]⟩,
   ⟨0x028, 0, 1, [.INTC_F_COMPLETE_SOURCE]⟩]

/-- PMC.CTL.FREEZE -/
def Fld.PMC_CTL_FREEZE : Fld := fRW 0x020 0 2 1 0 keptDTWCS
/-- PMC.CTL.USER_READ -/
def Fld.PMC_CTL_USER_READ : Fld := fRW 0x020 0 1 1 0 keptDTWCS
/-- PMC.CTL.CLR_ALL -/
def Fld.PMC_CTL_CLR_ALL : Fld := fWC 0x020 0 0 1 0 1
/-- PMC.OVF_LO.OVF -/
def Fld.PMC_OVF_LO_OVF : Fld := fW1 0x024 0 0 32 0 keptDTWCS
/-- PMC.OVF_HI.OVF -/
def Fld.PMC_OVF_HI_OVF : Fld := fW1 0x028 0 0 32 0 keptDTWCS
/-- PMC.BW_WIN.TICKS -/
def Fld.PMC_BW_WIN_TICKS : Fld := fRW 0x030 0 0 32 0x2625A00 keptDTWCS
/-- PMC.BW_SEQ.SEQ -/
def Fld.PMC_BW_SEQ_SEQ : Fld := fRO 0x034 0 0 32 0 keptDTWCS
/-- PMC.BW_SEL.PORT -/
def Fld.PMC_BW_SEL_PORT : Fld := fRG 0x038 0 0 9 0 keptDTWCS 0 333
/-- PMC.BW_SNAP_LO.BYTES_LO -/
def Fld.PMC_BW_SNAP_LO_BYTES_LO : Fld := fRO 0x03C 0 0 32 0 keptDTWCS
/-- PMC.BW_SNAP_HI.SEQ -/
def Fld.PMC_BW_SNAP_HI_SEQ : Fld := fRO 0x040 0 16 16 0 keptDTWCS
/-- PMC.BW_SNAP_HI.BYTES_HI -/
def Fld.PMC_BW_SNAP_HI_BYTES_HI : Fld := fRO 0x040 0 0 16 0 keptDTWCS
/-- PMC.CFG.ENABLE -/
def Fld.PMC_CFG_ENABLE : Fld := fRW 0x100 12 31 1 0 keptDTWCS
/-- PMC.CFG.MODE -/
def Fld.PMC_CFG_MODE : Fld := fRW 0x100 12 30 1 0 keptDTWCS
/-- PMC.CFG.CHAIN -/
def Fld.PMC_CFG_CHAIN : Fld := fRW 0x100 12 29 1 0 keptDTWCS
/-- PMC.CFG.USER -/
def Fld.PMC_CFG_USER : Fld := fRW 0x100 12 28 1 0 keptDTWCS
/-- PMC.CFG.CLR -/
def Fld.PMC_CFG_CLR : Fld := fWC 0x100 12 27 1 0 1
/-- PMC.CFG.PAGE -/
def Fld.PMC_CFG_PAGE : Fld := fRW 0x100 12 16 11 0 keptDTWCS
/-- PMC.CFG.EVENT -/
def Fld.PMC_CFG_EVENT : Fld := fRW 0x100 12 0 5 0 keptDTWCS
/-- PMC.CNT_LO.COUNT_LO -/
def Fld.PMC_CNT_LO_COUNT_LO : Fld := fRO 0x104 12 0 32 0 keptDTWCS
/-- PMC.CNT_HI.COUNT_HI -/
def Fld.PMC_CNT_HI_COUNT_HI : Fld := fRO 0x108 12 0 16 0 keptDTWCS

/-- Registers of the PMC page. -/
def regsPMC : List RegD :=
  [⟨0x020, 0, 1, [.PMC_CTL_FREEZE, .PMC_CTL_USER_READ, .PMC_CTL_CLR_ALL]⟩,
   ⟨0x024, 0, 1, [.PMC_OVF_LO_OVF]⟩,
   ⟨0x028, 0, 1, [.PMC_OVF_HI_OVF]⟩,
   ⟨0x030, 0, 1, [.PMC_BW_WIN_TICKS]⟩,
   ⟨0x034, 0, 1, [.PMC_BW_SEQ_SEQ]⟩,
   ⟨0x038, 0, 1, [.PMC_BW_SEL_PORT]⟩,
   ⟨0x03C, 0, 1, [.PMC_BW_SNAP_LO_BYTES_LO]⟩,
   ⟨0x040, 0, 1, [.PMC_BW_SNAP_HI_SEQ, .PMC_BW_SNAP_HI_BYTES_HI]⟩,
   ⟨0x100, 12, 64, [.PMC_CFG_ENABLE, .PMC_CFG_MODE, .PMC_CFG_CHAIN, .PMC_CFG_USER, .PMC_CFG_CLR, .PMC_CFG_PAGE, .PMC_CFG_EVENT]⟩,
   ⟨0x104, 12, 64, [.PMC_CNT_LO_COUNT_LO]⟩,
   ⟨0x108, 12, 64, [.PMC_CNT_HI_COUNT_HI]⟩]

/-- PWR.STATE.CUR -/
def Fld.PWR_STATE_CUR : Fld := fRO 0x020 0 16 2 0 keptMDTWCS
/-- PWR.STATE.BUSY -/
def Fld.PWR_STATE_BUSY : Fld := fRO 0x020 0 8 1 0 keptMDTWCS
/-- PWR.STATE.REQ -/
def Fld.PWR_STATE_REQ : Fld := fRG 0x020 0 0 2 0 keptMDTWCS 0 2
/-- PWR.RESET.CMD -/
def Fld.PWR_RESET_CMD : Fld := fWC 0x024 0 0 3 0 4
/-- PWR.RST_STAT.BUSY -/
def Fld.PWR_RST_STAT_BUSY : Fld := fRO 0x028 0 8 1 0 keptMDTWCS
/-- PWR.RST_STAT.LAST -/
def Fld.PWR_RST_STAT_LAST : Fld := fRO 0x028 0 0 3 0 keptMDTWCS
/-- PWR.CORE_CTL.SLEEP -/
def Fld.PWR_CORE_CTL_SLEEP : Fld := fRW 0x02C 0 8 4 0 keptDTWS
/-- PWR.CORE_CTL.RESET -/
def Fld.PWR_CORE_CTL_RESET : Fld := fWC 0x02C 0 4 4 0 15
/-- PWR.CORE_CTL.RUN -/
def Fld.PWR_CORE_CTL_RUN : Fld := fRW 0x02C 0 0 4 1 keptMDTWCS
/-- PWR.SUP_CFG.DEFER -/
def Fld.PWR_SUP_CFG_DEFER : Fld := fRW 0x030 0 0 8 7 keptMDTWCS
/-- PWR.SUP_STAT.WARN -/
def Fld.PWR_SUP_STAT_WARN : Fld := fRO 0x034 0 8 8 0 keptPMDTWCBSZ
/-- PWR.SUP_STAT.DEFER -/
def Fld.PWR_SUP_STAT_DEFER : Fld := fRO 0x034 0 0 1 0 keptPMDTWCBSZ
/-- PWR.SUP_CNT.WARNS -/
def Fld.PWR_SUP_CNT_WARNS : Fld := fRO 0x038 0 16 16 0 keptMDTWCS
/-- PWR.SUP_CNT.DEFERS -/
def Fld.PWR_SUP_CNT_DEFERS : Fld := fRO 0x038 0 0 16 0 keptMDTWCS
/-- PWR.TEMP.MAX -/
def Fld.PWR_TEMP_MAX : Fld := fRO 0x03C 0 0 12 0 keptMDTWCS
/-- PWR.TEMP_CFG.WARN -/
def Fld.PWR_TEMP_CFG_WARN : Fld := fRG 0x040 0 0 7 0x064 keptMDTWCS 60 115
/-- PWR.FAULT_EN.FAULT -/
def Fld.PWR_FAULT_EN_FAULT : Fld := fRO 0x044 0 31 1 0 keptMDTWCS
/-- PWR.FAULT_EN.FORCE -/
def Fld.PWR_FAULT_EN_FORCE : Fld := fRW 0x044 0 8 1 0 keptMDTWCS
/-- PWR.FAULT_EN.EN -/
def Fld.PWR_FAULT_EN_EN : Fld := fRW 0x044 0 0 5 7 keptMDTWCS

/-- Registers of the PWR page. -/
def regsPWR : List RegD :=
  [⟨0x020, 0, 1, [.PWR_STATE_CUR, .PWR_STATE_BUSY, .PWR_STATE_REQ]⟩,
   ⟨0x024, 0, 1, [.PWR_RESET_CMD]⟩,
   ⟨0x028, 0, 1, [.PWR_RST_STAT_BUSY, .PWR_RST_STAT_LAST]⟩,
   ⟨0x02C, 0, 1, [.PWR_CORE_CTL_SLEEP, .PWR_CORE_CTL_RESET, .PWR_CORE_CTL_RUN]⟩,
   ⟨0x030, 0, 1, [.PWR_SUP_CFG_DEFER]⟩,
   ⟨0x034, 0, 1, [.PWR_SUP_STAT_WARN, .PWR_SUP_STAT_DEFER]⟩,
   ⟨0x038, 0, 1, [.PWR_SUP_CNT_WARNS, .PWR_SUP_CNT_DEFERS]⟩,
   ⟨0x03C, 0, 1, [.PWR_TEMP_MAX]⟩,
   ⟨0x040, 0, 1, [.PWR_TEMP_CFG_WARN]⟩,
   ⟨0x044, 0, 1, [.PWR_FAULT_EN_FAULT, .PWR_FAULT_EN_FORCE, .PWR_FAULT_EN_EN]⟩]

/-- AON.RESET_CAUSE.WOKE -/
def Fld.AON_RESET_CAUSE_WOKE : Fld := fRO 0x020 0 31 1 0 keptPMDTWCBSZ
/-- AON.RESET_CAUSE.WAKE_SRC -/
def Fld.AON_RESET_CAUSE_WAKE_SRC : Fld := fRO 0x020 0 16 9 0 keptPMDTWCBSZ
/-- AON.RESET_CAUSE.CAUSE -/
def Fld.AON_RESET_CAUSE_CAUSE : Fld := fRO 0x020 0 0 3 0 keptPMDTWCBSZ
/-- AON.WAKE_TIMER.ENABLE -/
def Fld.AON_WAKE_TIMER_ENABLE : Fld := fRW 0x030 0 31 1 0 keptPMDTWCSZ
/-- AON.WAKE_TIMER.TICKS -/
def Fld.AON_WAKE_TIMER_TICKS : Fld := fRW 0x030 0 0 24 0 keptPMDTWCSZ
/-- AON.LOG_HEAD.OVERWRITTEN -/
def Fld.AON_LOG_HEAD_OVERWRITTEN : Fld := fRO 0x034 0 16 16 0 keptPMDTWCBSZ
/-- AON.LOG_HEAD.NEXT -/
def Fld.AON_LOG_HEAD_NEXT : Fld := fRO 0x034 0 0 4 0 keptPMDTWCBSZ
/-- AON.LOG_CTL.CLR -/
def Fld.AON_LOG_CTL_CLR : Fld := fWC 0x038 0 0 1 0 1
/-- AON.RETAIN.DATA -/
def Fld.AON_RETAIN_DATA : Fld := fRW 0x040 4 0 32 0 keptPMDTWCBSZ
/-- AON.LOG_A.VALID -/
def Fld.AON_LOG_A_VALID : Fld := fRO 0x080 8 31 1 0 keptPMDTWCBSZ
/-- AON.LOG_A.RESET -/
def Fld.AON_LOG_A_RESET : Fld := fRO 0x080 8 30 1 0 keptPMDTWCBSZ
/-- AON.LOG_A.OPEN -/
def Fld.AON_LOG_A_OPEN : Fld := fRO 0x080 8 29 1 0 keptPMDTWCBSZ
/-- AON.LOG_A.RAIL -/
def Fld.AON_LOG_A_RAIL : Fld := fRO 0x080 8 24 3 0 keptPMDTWCBSZ
/-- AON.LOG_A.MIN_MV -/
def Fld.AON_LOG_A_MIN_MV : Fld := fRO 0x080 8 0 12 0 keptPMDTWCBSZ
/-- AON.LOG_B.SEQ -/
def Fld.AON_LOG_B_SEQ : Fld := fRO 0x084 8 24 8 0 keptPMDTWCBSZ
/-- AON.LOG_B.DUR_US -/
def Fld.AON_LOG_B_DUR_US : Fld := fRO 0x084 8 0 24 0 keptPMDTWCBSZ

/-- Registers of the AON page. -/
def regsAON : List RegD :=
  [⟨0x020, 0, 1, [.AON_RESET_CAUSE_WOKE, .AON_RESET_CAUSE_WAKE_SRC, .AON_RESET_CAUSE_CAUSE]⟩,
   ⟨0x030, 0, 1, [.AON_WAKE_TIMER_ENABLE, .AON_WAKE_TIMER_TICKS]⟩,
   ⟨0x034, 0, 1, [.AON_LOG_HEAD_OVERWRITTEN, .AON_LOG_HEAD_NEXT]⟩,
   ⟨0x038, 0, 1, [.AON_LOG_CTL_CLR]⟩,
   ⟨0x040, 4, 8, [.AON_RETAIN_DATA]⟩,
   ⟨0x080, 8, 16, [.AON_LOG_A_VALID, .AON_LOG_A_RESET, .AON_LOG_A_OPEN, .AON_LOG_A_RAIL, .AON_LOG_A_MIN_MV]⟩,
   ⟨0x084, 8, 16, [.AON_LOG_B_SEQ, .AON_LOG_B_DUR_US]⟩]

/-- HOST.PCI_ID.DEVICE -/
def Fld.HOST_PCI_ID_DEVICE : Fld := fRO 0x020 0 16 16 0x1472 keptDTWCS
/-- HOST.PCI_ID.VENDOR -/
def Fld.HOST_PCI_ID_VENDOR : Fld := fRO 0x020 0 0 16 0 keptDTWCS
/-- HOST.PCI_STAT.WIDTH -/
def Fld.HOST_PCI_STAT_WIDTH : Fld := fRO 0x024 0 8 3 0 keptDTWCS
/-- HOST.PCI_STAT.SPEED -/
def Fld.HOST_PCI_STAT_SPEED : Fld := fRO 0x024 0 1 3 0 keptDTWCS
/-- HOST.PCI_STAT.LINK_UP -/
def Fld.HOST_PCI_STAT_LINK_UP : Fld := fRO 0x024 0 0 1 0 keptDTWCS
/-- HOST.SPI_CFG.TIMEOUT -/
def Fld.HOST_SPI_CFG_TIMEOUT : Fld := fRG 0x028 0 0 16 0x9C40 keptDTWCS 400 65535
/-- HOST.SPI_CNT.FRAMES -/
def Fld.HOST_SPI_CNT_FRAMES : Fld := fRO 0x02C 0 16 16 0 keptDTWCS
/-- HOST.SPI_CNT.ABORTS -/
def Fld.HOST_SPI_CNT_ABORTS : Fld := fRO 0x02C 0 0 16 0 keptDTWCS

/-- Registers of the HOST page. -/
def regsHOST : List RegD :=
  [⟨0x020, 0, 1, [.HOST_PCI_ID_DEVICE, .HOST_PCI_ID_VENDOR]⟩,
   ⟨0x024, 0, 1, [.HOST_PCI_STAT_WIDTH, .HOST_PCI_STAT_SPEED, .HOST_PCI_STAT_LINK_UP]⟩,
   ⟨0x028, 0, 1, [.HOST_SPI_CFG_TIMEOUT]⟩,
   ⟨0x02C, 0, 1, [.HOST_SPI_CNT_FRAMES, .HOST_SPI_CNT_ABORTS]⟩]

/-- BOOT.STAT.SECURE -/
def Fld.BOOT_STAT_SECURE : Fld := fRO 0x020 0 16 1 0 keptDTWCS
/-- BOOT.STAT.CAUSE -/
def Fld.BOOT_STAT_CAUSE : Fld := fRO 0x020 0 8 4 0 keptDTWCS
/-- BOOT.STAT.IMAGE -/
def Fld.BOOT_STAT_IMAGE : Fld := fRO 0x020 0 4 1 0 keptDTWCS
/-- BOOT.STAT.STATE -/
def Fld.BOOT_STAT_STATE : Fld := fRO 0x020 0 0 3 0 keptDTWCS
/-- BOOT.CTL.LOAD_IMG -/
def Fld.BOOT_CTL_LOAD_IMG : Fld := fWC 0x024 0 1 1 0 1
/-- BOOT.CTL.DONE -/
def Fld.BOOT_CTL_DONE : Fld := fWC 0x024 0 0 1 0 1
/-- BOOT.IMG_ADDR.ADDR -/
def Fld.BOOT_IMG_ADDR_ADDR : Fld := fRW 0x028 0 0 32 0x1400000 keptDTWCS
/-- BOOT.FAIL_ADDR.ADDR -/
def Fld.BOOT_FAIL_ADDR_ADDR : Fld := fRO 0x02C 0 0 32 0 keptDTWCS
/-- BOOT.RESET_VEC.VEC -/
def Fld.BOOT_RESET_VEC_VEC : Fld := fRW 0x030 4 0 32 0 keptDTWCS
/-- BOOT.DBG_UNLOCK.UNLOCK -/
def Fld.BOOT_DBG_UNLOCK_UNLOCK : Fld := fRW 0x040 0 0 1 0 keptDTWCS
/-- BOOT.FLASH_CMD.OPCODE -/
def Fld.BOOT_FLASH_CMD_OPCODE : Fld := fRW 0x044 0 24 8 0 keptDTWCS
/-- BOOT.FLASH_CMD.BUSY -/
def Fld.BOOT_FLASH_CMD_BUSY : Fld := fRO 0x044 0 23 1 0 keptDTWCS
/-- BOOT.FLASH_CMD.WRITE -/
def Fld.BOOT_FLASH_CMD_WRITE : Fld := fRW 0x044 0 22 1 0 keptDTWCS
/-- BOOT.FLASH_CMD.ADDR_EN -/
def Fld.BOOT_FLASH_CMD_ADDR_EN : Fld := fRW 0x044 0 21 1 0 keptDTWCS
/-- BOOT.FLASH_CMD.ADDR4 -/
def Fld.BOOT_FLASH_CMD_ADDR4 : Fld := fRW 0x044 0 20 1 0 keptDTWCS
/-- BOOT.FLASH_CMD.LEN -/
def Fld.BOOT_FLASH_CMD_LEN : Fld := fRG 0x044 0 0 9 0 keptDTWCS 0 256
/-- BOOT.FLASH_ADDR.ADDR -/
def Fld.BOOT_FLASH_ADDR_ADDR : Fld := fRW 0x048 0 0 32 0 keptDTWCS
/-- BOOT.FLASH_BUF.WORD -/
def Fld.BOOT_FLASH_BUF_WORD : Fld := fRW 0x04C 0 2 19 0 keptDTWCS

/-- Registers of the BOOT page. -/
def regsBOOT : List RegD :=
  [⟨0x020, 0, 1, [.BOOT_STAT_SECURE, .BOOT_STAT_CAUSE, .BOOT_STAT_IMAGE, .BOOT_STAT_STATE]⟩,
   ⟨0x024, 0, 1, [.BOOT_CTL_LOAD_IMG, .BOOT_CTL_DONE]⟩,
   ⟨0x028, 0, 1, [.BOOT_IMG_ADDR_ADDR]⟩,
   ⟨0x02C, 0, 1, [.BOOT_FAIL_ADDR_ADDR]⟩,
   ⟨0x030, 4, 4, [.BOOT_RESET_VEC_VEC]⟩,
   ⟨0x040, 0, 1, [.BOOT_DBG_UNLOCK_UNLOCK]⟩,
   ⟨0x044, 0, 1, [.BOOT_FLASH_CMD_OPCODE, .BOOT_FLASH_CMD_BUSY, .BOOT_FLASH_CMD_WRITE, .BOOT_FLASH_CMD_ADDR_EN, .BOOT_FLASH_CMD_ADDR4, .BOOT_FLASH_CMD_LEN]⟩,
   ⟨0x048, 0, 1, [.BOOT_FLASH_ADDR_ADDR]⟩,
   ⟨0x04C, 0, 1, [.BOOT_FLASH_BUF_WORD]⟩]

end Sys2Proof.Machine
end

