-- ==== Sys2Proof/Machine/RegsData.lean ====
section
/-! DEFINITION. The register fields of the pages TILEX, AUDX, ANCX, FAB, AFAB, PROT, FST, MEMC, WALL, CGATE, written from the field tables of the spec. -/

namespace Sys2Proof.Machine

/-- TILEX.SHADOW.ACTION -/
def Fld.TILEX_SHADOW_ACTION : Fld := fRW 0 0x020 31 1 1 keptMTWCBS
/-- TILEX.SHADOW.VOID_ACT -/
def Fld.TILEX_SHADOW_VOID_ACT : Fld := fRG 0 0x020 26 2 0 keptMTWCBS 0 2
/-- TILEX.SHADOW.TDOM -/
def Fld.TILEX_SHADOW_TDOM : Fld := fRW 0 0x020 20 4 0 keptMTWCBS
/-- TILEX.SHADOW.SRC_TILE -/
def Fld.TILEX_SHADOW_SRC_TILE : Fld := fRG 0 0x020 0 11 0 keptMTWCBS 0 1471
/-- TILEX.GROUPW.GROUP -/
def Fld.TILEX_GROUPW_GROUP : Fld := fRW 4 0x020 0 8 0 keptMTWCBS
/-- TILEX.ACTIVE.ACTION -/
def Fld.TILEX_ACTIVE_ACTION : Fld := fRO 8 0x020 31 1 1 keptMTWCBS
/-- TILEX.ACTIVE.VOID_ACT -/
def Fld.TILEX_ACTIVE_VOID_ACT : Fld := fRO 8 0x020 26 2 0 keptMTWCBS
/-- TILEX.ACTIVE.TDOM -/
def Fld.TILEX_ACTIVE_TDOM : Fld := fRO 8 0x020 20 4 0 keptMTWCBS
/-- TILEX.ACTIVE.SRC_TILE -/
def Fld.TILEX_ACTIVE_SRC_TILE : Fld := fRO 8 0x020 0 11 0 keptMTWCBS
/-- TILEX.STATE.OUT_STATE -/
def Fld.TILEX_STATE_OUT_STATE : Fld := fRO 12 0x020 29 3 0 keptMTWC
/-- TILEX.STATE.SRC_CAUSE -/
def Fld.TILEX_STATE_SRC_CAUSE : Fld := fRO 12 0x020 26 3 0 keptMTWC
/-- TILEX.STATE.MEMBER -/
def Fld.TILEX_STATE_MEMBER : Fld := fRO 12 0x020 25 1 0 keptMTWC
/-- TILEX.STATE.EFF_SRC -/
def Fld.TILEX_STATE_EFF_SRC : Fld := fRO 12 0x020 0 11 0 keptMTWC
/-- TILEX.W4.LATE -/
def Fld.TILEX_W4_LATE : Fld := fRO 16 0x020 0 32 0 keptMTWCBS
/-- TILEX.W5.PARITY -/
def Fld.TILEX_W5_PARITY : Fld := fRO 20 0x020 16 16 0 keptMTWCBS
/-- TILEX.W5.LOSS -/
def Fld.TILEX_W5_LOSS : Fld := fRO 20 0x020 0 16 0 keptMTWCBS
/-- TILEX.W6.TAKES -/
def Fld.TILEX_W6_TAKES : Fld := fRO 24 0x020 0 32 0 keptMTWCBS

/-- Registers of the TILEX page. -/
def regsTILEX : List RegD :=
  [⟨0, 0x020, 1472, [.TILEX_SHADOW_ACTION, .TILEX_SHADOW_VOID_ACT, .TILEX_SHADOW_TDOM, .TILEX_SHADOW_SRC_TILE]⟩,
   ⟨4, 0x020, 1472, [.TILEX_GROUPW_GROUP]⟩,
   ⟨8, 0x020, 1472, [.TILEX_ACTIVE_ACTION, .TILEX_ACTIVE_VOID_ACT, .TILEX_ACTIVE_TDOM, .TILEX_ACTIVE_SRC_TILE]⟩,
   ⟨12, 0x020, 1472, [.TILEX_STATE_OUT_STATE, .TILEX_STATE_SRC_CAUSE, .TILEX_STATE_MEMBER, .TILEX_STATE_EFF_SRC]⟩,
   ⟨16, 0x020, 1472, [.TILEX_W4_LATE]⟩,
   ⟨20, 0x020, 1472, [.TILEX_W5_PARITY, .TILEX_W5_LOSS]⟩,
   ⟨24, 0x020, 1472, [.TILEX_W6_TAKES]⟩,
   ⟨28, 0x020, 1472, []⟩]

/-- AUDX.W0.ACTION -/
def Fld.AUDX_W0_ACTION : Fld := fRW 0 8 30 2 3 keptMTWCBS
/-- AUDX.W0.XFADE -/
def Fld.AUDX_W0_XFADE : Fld := fRG 0 8 27 3 0 keptMTWCBS 0 5
/-- AUDX.W0.PAIR -/
def Fld.AUDX_W0_PAIR : Fld := fRW 0 8 26 1 0 keptMTWCBS
/-- AUDX.W0.SRC_SLOT -/
def Fld.AUDX_W0_SRC_SLOT : Fld := fRW 0 8 0 16 0 keptMTWCBS
/-- AUDX.W1.GROUP -/
def Fld.AUDX_W1_GROUP : Fld := fRW 4 8 0 8 0 keptMTWCBS

/-- Registers of the AUDX page. -/
def regsAUDX : List RegD :=
  [⟨0, 8, 53248, [.AUDX_W0_ACTION, .AUDX_W0_XFADE, .AUDX_W0_PAIR, .AUDX_W0_SRC_SLOT]⟩,
   ⟨4, 8, 53248, [.AUDX_W1_GROUP]⟩]

/-- ANCX.W0.MODE -/
def Fld.ANCX_W0_MODE : Fld := fRG 0 8 30 2 1 keptMTWCBS 0 2
/-- ANCX.W0.SRC_TILE -/
def Fld.ANCX_W0_SRC_TILE : Fld := fRG 0 8 16 11 0 keptMTWCBS 0 1471
/-- ANCX.W0.FILTER -/
def Fld.ANCX_W0_FILTER : Fld := fRW 0 8 0 4 15 keptMTWCBS
/-- ANCX.W1.DROP -/
def Fld.ANCX_W1_DROP : Fld := fRO 4 8 16 16 0 keptMTWCBS
/-- ANCX.W1.LATE -/
def Fld.ANCX_W1_LATE : Fld := fRO 4 8 0 16 0 keptMTWCBS

/-- Registers of the ANCX page. -/
def regsANCX : List RegD :=
  [⟨0, 8, 2944, [.ANCX_W0_MODE, .ANCX_W0_SRC_TILE, .ANCX_W0_FILTER]⟩,
   ⟨4, 8, 2944, [.ANCX_W1_DROP, .ANCX_W1_LATE]⟩]

/-- FAB.CFG.VOID_GEN -/
def Fld.FAB_CFG_VOID_GEN : Fld := fRW 0x020 0 0 5 0 keptMTWCS
/-- FAB.BLACK.HI -/
def Fld.FAB_BLACK_HI : Fld := fRG 0x024 0 16 10 0x200 keptMTWCS 0x004 0x3FB
/-- FAB.BLACK.LO -/
def Fld.FAB_BLACK_LO : Fld := fRG 0x024 0 0 10 0x040 keptMTWCS 0x004 0x3FB
/-- FAB.GEN_FLAT.Y -/
def Fld.FAB_GEN_FLAT_Y : Fld := fRG 0x028 0 20 10 0x1F4 keptMTWCS 0x004 0x3FB
/-- FAB.GEN_FLAT.CB -/
def Fld.FAB_GEN_FLAT_CB : Fld := fRG 0x028 0 10 10 0x200 keptMTWCS 0x004 0x3FB
/-- FAB.GEN_FLAT.CR -/
def Fld.FAB_GEN_FLAT_CR : Fld := fRG 0x028 0 0 10 0x200 keptMTWCS 0x004 0x3FB
/-- FAB.TG_CMD.CMD -/
def Fld.FAB_TG_CMD_CMD : Fld := fWC 0x030 0 8 2 0 2
/-- FAB.TG_CMD.GROUP -/
def Fld.FAB_TG_CMD_GROUP : Fld := fWC 0x030 0 0 8 0 255
/-- FAB.TG_TRIG.TYPE -/
def Fld.FAB_TG_TRIG_TYPE : Fld := fRG 0x034 0 24 2 0 keptMTWCS 0 2
/-- FAB.TG_TRIG.GPI -/
def Fld.FAB_TG_TRIG_GPI : Fld := fRW 0x034 0 20 3 0 keptMTWCS
/-- FAB.TG_TRIG.TDOM -/
def Fld.FAB_TG_TRIG_TDOM : Fld := fRW 0x034 0 16 4 0 keptMTWCS
/-- FAB.TG_TRIG.FRAME -/
def Fld.FAB_TG_TRIG_FRAME : Fld := fRW 0x034 0 0 16 0 keptMTWCS
/-- FAB.TG_SEL.SEL -/
def Fld.FAB_TG_SEL_SEL : Fld := fRW 0x038 0 0 8 0 keptMTWCS
/-- FAB.TG_STAT.STATE -/
def Fld.FAB_TG_STAT_STATE : Fld := fRO 0x03C 0 30 2 0 keptMWCS
/-- FAB.TG_STAT.TYPE -/
def Fld.FAB_TG_STAT_TYPE : Fld := fRO 0x03C 0 28 2 0 keptMWCS
/-- FAB.TG_STAT.TDOM -/
def Fld.FAB_TG_STAT_TDOM : Fld := fRO 0x03C 0 24 4 0 keptMWCS
/-- FAB.TG_STAT.GPI -/
def Fld.FAB_TG_STAT_GPI : Fld := fRO 0x03C 0 21 3 0 keptMWCS
/-- FAB.TG_STAT.DEFERRED -/
def Fld.FAB_TG_STAT_DEFERRED : Fld := fRO 0x03C 0 20 1 0 keptMWCS
/-- FAB.TG_STAT.MEMBERS -/
def Fld.FAB_TG_STAT_MEMBERS : Fld := fRO 0x03C 0 0 16 0 keptMTWCS
/-- FAB.TG_ARMED.BUSY -/
def Fld.FAB_TG_ARMED_BUSY : Fld := fRO 0x040 4 0 32 0 keptMWCS
/-- FAB.TG_DONE.DONE -/
def Fld.FAB_TG_DONE_DONE : Fld := fW1 0x060 4 0 32 0 keptMTWCS
/-- FAB.TAKE_CNT.COUNT -/
def Fld.FAB_TAKE_CNT_COUNT : Fld := fRO 0x080 0 0 32 0 keptMTWCS
/-- FAB.GPI.LEVEL -/
def Fld.FAB_GPI_LEVEL : Fld := fRO 0x0A0 4 31 1 1 keptMTWCS
/-- FAB.GPI.EDGES -/
def Fld.FAB_GPI_EDGES : Fld := fRO 0x0A0 4 20 8 0 keptMTWCS
/-- FAB.GPI.EDGE -/
def Fld.FAB_GPI_EDGE : Fld := fRG 0x0A0 4 16 2 0 keptMTWCS 0 2
/-- FAB.GPI.DEBOUNCE -/
def Fld.FAB_GPI_DEBOUNCE : Fld := fRG 0x0A0 4 0 16 0x064 keptMTWCS 1 25500
/-- FAB.GEN.ENABLE -/
def Fld.FAB_GEN_ENABLE : Fld := fRW 0x100 4 31 1 0 keptMTWCS
/-- FAB.GEN.FMT_BAD -/
def Fld.FAB_GEN_FMT_BAD : Fld := fRO 0x100 4 30 1 0 keptMTWCS
/-- FAB.GEN.MEMBER -/
def Fld.FAB_GEN_MEMBER : Fld := fRO 0x100 4 29 1 0 keptMTWCS
/-- FAB.GEN.TDOM -/
def Fld.FAB_GEN_TDOM : Fld := fRW 0x100 4 24 4 0 keptMTWCS
/-- FAB.GEN.BOND -/
def Fld.FAB_GEN_BOND : Fld := fRG 0x100 4 16 4 2 keptMTWCS 1 7
/-- FAB.GEN.PATTERN -/
def Fld.FAB_GEN_PATTERN : Fld := fRG 0x100 4 8 4 0 keptMTWCS 0 3
/-- FAB.PROBE_CFG.ENABLE -/
def Fld.FAB_PROBE_CFG_ENABLE : Fld := fRW 0x180 12 31 1 0 keptMTWCS
/-- FAB.PROBE_CFG.FROZEN_FRAMES -/
def Fld.FAB_PROBE_CFG_FROZEN_FRAMES : Fld := fRG 0x180 12 0 8 8 keptMTWCS 2 255
/-- FAB.PROBE_STAT.VALID -/
def Fld.FAB_PROBE_STAT_VALID : Fld := fRO 0x184 12 31 1 0 keptMTWC
/-- FAB.PROBE_STAT.FROZEN -/
def Fld.FAB_PROBE_STAT_FROZEN : Fld := fRO 0x184 12 30 1 0 keptMTWC
/-- FAB.PROBE_STAT.BLACK -/
def Fld.FAB_PROBE_STAT_BLACK : Fld := fRO 0x184 12 29 1 0 keptMTWC
/-- FAB.PROBE_STAT.FRAMES -/
def Fld.FAB_PROBE_STAT_FRAMES : Fld := fRO 0x184 12 0 16 0 keptMTWC
/-- FAB.PROBE_CRC.CRC -/
def Fld.FAB_PROBE_CRC_CRC : Fld := fRO 0x188 12 0 32 0 keptMTWC
/-- FAB.SVC_VIDEO.COUNT -/
def Fld.FAB_SVC_VIDEO_COUNT : Fld := fRO 0x300 0 0 32 0 keptMTWCS
/-- FAB.SVC_AUDIO.COUNT -/
def Fld.FAB_SVC_AUDIO_COUNT : Fld := fRO 0x304 0 0 32 0 keptMTWCS
/-- FAB.SVC_ANC.COUNT -/
def Fld.FAB_SVC_ANC_COUNT : Fld := fRO 0x308 0 0 32 0 keptMTWCS
/-- FAB.SVC_PROBE.COUNT -/
def Fld.FAB_SVC_PROBE_COUNT : Fld := fRO 0x30C 0 0 32 0 keptMTWCS
/-- FAB.CTX_ERR.CODE -/
def Fld.FAB_CTX_ERR_CODE : Fld := fRO 0x310 0 28 3 0 keptMTWCS
/-- FAB.CTX_ERR.MASTER -/
def Fld.FAB_CTX_ERR_MASTER : Fld := fRO 0x310 0 24 4 0 keptMTWCS
/-- FAB.CTX_ERR.OFFSET -/
def Fld.FAB_CTX_ERR_OFFSET : Fld := fRO 0x310 0 0 20 0 keptMTWCS
/-- FAB.CTL.CNT_CLR -/
def Fld.FAB_CTL_CNT_CLR : Fld := fWC 0x314 0 0 1 0 1
/-- FAB.TAKE_X.SETUP -/
def Fld.FAB_TAKE_X_SETUP : Fld := fXR 0x400 0 0 16 0x0A0 keptMTWCS 80 4000

/-- Registers of the FAB page, part 0. -/
def regsFAB_0 : List RegD :=
  [⟨0x020, 0, 1, [.FAB_CFG_VOID_GEN]⟩,
   ⟨0x024, 0, 1, [.FAB_BLACK_HI, .FAB_BLACK_LO]⟩,
   ⟨0x028, 0, 1, [.FAB_GEN_FLAT_Y, .FAB_GEN_FLAT_CB, .FAB_GEN_FLAT_CR]⟩,
   ⟨0x030, 0, 1, [.FAB_TG_CMD_CMD, .FAB_TG_CMD_GROUP]⟩,
   ⟨0x034, 0, 1, [.FAB_TG_TRIG_TYPE, .FAB_TG_TRIG_GPI, .FAB_TG_TRIG_TDOM, .FAB_TG_TRIG_FRAME]⟩,
   ⟨0x038, 0, 1, [.FAB_TG_SEL_SEL]⟩,
   ⟨0x03C, 0, 1, [.FAB_TG_STAT_STATE, .FAB_TG_STAT_TYPE, .FAB_TG_STAT_TDOM, .FAB_TG_STAT_GPI, .FAB_TG_STAT_DEFERRED, .FAB_TG_STAT_MEMBERS]⟩,
   ⟨0x040, 4, 8, [.FAB_TG_ARMED_BUSY]⟩,
   ⟨0x060, 4, 8, [.FAB_TG_DONE_DONE]⟩,
   ⟨0x080, 0, 1, [.FAB_TAKE_CNT_COUNT]⟩,
   ⟨0x0A0, 4, 8, [.FAB_GPI_LEVEL, .FAB_GPI_EDGES, .FAB_GPI_EDGE, .FAB_GPI_DEBOUNCE]⟩,
   ⟨0x100, 4, 32, [.FAB_GEN_ENABLE, .FAB_GEN_FMT_BAD, .FAB_GEN_MEMBER, .FAB_GEN_TDOM, .FAB_GEN_BOND, .FAB_GEN_PATTERN]⟩,
   ⟨0x180, 12, 32, [.FAB_PROBE_CFG_ENABLE, .FAB_PROBE_CFG_FROZEN_FRAMES]⟩,
   ⟨0x184, 12, 32, [.FAB_PROBE_STAT_VALID, .FAB_PROBE_STAT_FROZEN, .FAB_PROBE_STAT_BLACK, .FAB_PROBE_STAT_FRAMES]⟩,
   ⟨0x188, 12, 32, [.FAB_PROBE_CRC_CRC]⟩,
   ⟨0x300, 0, 1, [.FAB_SVC_VIDEO_COUNT]⟩,
   ⟨0x304, 0, 1, [.FAB_SVC_AUDIO_COUNT]⟩,
   ⟨0x308, 0, 1, [.FAB_SVC_ANC_COUNT]⟩,
   ⟨0x30C, 0, 1, [.FAB_SVC_PROBE_COUNT]⟩,
   ⟨0x310, 0, 1, [.FAB_CTX_ERR_CODE, .FAB_CTX_ERR_MASTER, .FAB_CTX_ERR_OFFSET]⟩]


/-- Registers of the FAB page, part 1. -/
def regsFAB_1 : List RegD :=
  [⟨0x314, 0, 1, [.FAB_CTL_CNT_CLR]⟩,
   ⟨0x400, 0, 1, [.FAB_TAKE_X_SETUP]⟩]

/-- Registers of the FAB page. -/
def regsFAB : List RegD := regsFAB_0 ++ regsFAB_1

/-- AFAB.CFG.DEPTH -/
def Fld.AFAB_CFG_DEPTH : Fld := fRG 0x020 0 0 4 4 keptMTWCS 2 11
/-- AFAB.CTL.CNT_CLR -/
def Fld.AFAB_CTL_CNT_CLR : Fld := fWC 0x024 0 0 1 0 1
/-- AFAB.SLOT_SEL.SLOT -/
def Fld.AFAB_SLOT_SEL_SLOT : Fld := fRG 0x030 0 0 16 0 keptMTWCS 0 53247
/-- AFAB.SLOT_ACTIVE.ACTIVE -/
def Fld.AFAB_SLOT_ACTIVE_ACTIVE : Fld := fRO 0x034 0 0 32 0xC0000000 keptMTWCBS
/-- AFAB.SLOT_STAT.STATE -/
def Fld.AFAB_SLOT_STAT_STATE : Fld := fRO 0x038 0 29 3 0 keptMTWC
/-- AFAB.SLOT_STAT.PENDING -/
def Fld.AFAB_SLOT_STAT_PENDING : Fld := fRO 0x038 0 28 1 0 keptMTWC
/-- AFAB.SLOT_STAT.CAUSE -/
def Fld.AFAB_SLOT_STAT_CAUSE : Fld := fRO 0x038 0 25 3 0 keptMTWC
/-- AFAB.SLOT_STAT.PAIRED -/
def Fld.AFAB_SLOT_STAT_PAIRED : Fld := fRO 0x038 0 24 1 0 keptMTWC
/-- AFAB.SLOT_STAT.EFF_SRC -/
def Fld.AFAB_SLOT_STAT_EFF_SRC : Fld := fRO 0x038 0 0 16 0 keptMTWC
/-- AFAB.SLOT_CNT.TAKES -/
def Fld.AFAB_SLOT_CNT_TAKES : Fld := fRO 0x03C 0 16 16 0 keptMTWCS
/-- AFAB.SLOT_CNT.DEFERS -/
def Fld.AFAB_SLOT_CNT_DEFERS : Fld := fRO 0x03C 0 0 16 0 keptMTWCS
/-- AFAB.STRM_SEL.STREAM -/
def Fld.AFAB_STRM_SEL_STREAM : Fld := fRG 0x040 0 0 13 0 keptMTWCS 0 4639
/-- AFAB.STRM_STAT.STATE -/
def Fld.AFAB_STRM_STAT_STATE : Fld := fRO 0x044 0 29 3 0 keptMTWC
/-- AFAB.STRM_STAT.AGE -/
def Fld.AFAB_STRM_STAT_AGE : Fld := fRO 0x044 0 0 9 0 keptMTWC
/-- AFAB.STRM_SLIP.DROP -/
def Fld.AFAB_STRM_SLIP_DROP : Fld := fRO 0x048 0 16 16 0 keptMTWCS
/-- AFAB.STRM_SLIP.ADD -/
def Fld.AFAB_STRM_SLIP_ADD : Fld := fRO 0x048 0 0 16 0 keptMTWCS
/-- AFAB.STRM_CNT.RECENTRE -/
def Fld.AFAB_STRM_CNT_RECENTRE : Fld := fRO 0x04C 0 16 16 0 keptMTWCS
/-- AFAB.STRM_CNT.UNDERRUN -/
def Fld.AFAB_STRM_CNT_UNDERRUN : Fld := fRO 0x04C 0 0 16 0 keptMTWCS
/-- AFAB.GEN_SEL.GEN -/
def Fld.AFAB_GEN_SEL_GEN : Fld := fRW 0x050 0 0 9 0 keptMTWCS
/-- AFAB.GEN_CFG.ENABLE -/
def Fld.AFAB_GEN_CFG_ENABLE : Fld := fRW 0x054 0 31 1 0 keptMTWCS
/-- AFAB.GEN_CFG.TYPE -/
def Fld.AFAB_GEN_CFG_TYPE : Fld := fRW 0x054 0 28 2 0 keptMTWCS
/-- AFAB.GEN_CFG.LEVEL -/
def Fld.AFAB_GEN_CFG_LEVEL : Fld := fRW 0x054 0 16 6 18 keptMTWCS
/-- AFAB.GEN_CFG.FREQ -/
def Fld.AFAB_GEN_CFG_FREQ : Fld := fRG 0x054 0 0 15 0x3E8 keptMTWCS 20 20000
/-- AFAB.MTR_SEL.TAP -/
def Fld.AFAB_MTR_SEL_TAP : Fld := fRW 0x058 0 0 9 0 keptMTWCS
/-- AFAB.MTR_CFG.ENABLE -/
def Fld.AFAB_MTR_CFG_ENABLE : Fld := fRW 0x05C 0 31 1 0 keptMTWCS
/-- AFAB.MTR_CFG.CHECK -/
def Fld.AFAB_MTR_CFG_CHECK : Fld := fRG 0x05C 0 24 2 0 keptMTWCS 0 2
/-- AFAB.MTR_CFG.WIN -/
def Fld.AFAB_MTR_CFG_WIN : Fld := fRG 0x05C 0 0 10 0x064 keptMTWCS 10 1000
/-- AFAB.MTR_PEAK.VALID -/
def Fld.AFAB_MTR_PEAK_VALID : Fld := fRO 0x060 0 31 1 0 keptMTWC
/-- AFAB.MTR_PEAK.PEAK -/
def Fld.AFAB_MTR_PEAK_PEAK : Fld := fRO 0x060 0 0 24 0 keptMTWC
/-- AFAB.MTR_LEVEL.CHECK_ERR -/
def Fld.AFAB_MTR_LEVEL_CHECK_ERR : Fld := fRO 0x064 0 16 16 0 keptMTWCS
/-- AFAB.MTR_LEVEL.CHECK_LOCK -/
def Fld.AFAB_MTR_LEVEL_CHECK_LOCK : Fld := fRO 0x064 0 12 1 0 keptMTWC
/-- AFAB.MTR_LEVEL.RMS -/
def Fld.AFAB_MTR_LEVEL_RMS : Fld := fRO 0x064 0 0 9 0 keptMTWC

/-- Registers of the AFAB page. -/
def regsAFAB : List RegD :=
  [⟨0x020, 0, 1, [.AFAB_CFG_DEPTH]⟩,
   ⟨0x024, 0, 1, [.AFAB_CTL_CNT_CLR]⟩,
   ⟨0x030, 0, 1, [.AFAB_SLOT_SEL_SLOT]⟩,
   ⟨0x034, 0, 1, [.AFAB_SLOT_ACTIVE_ACTIVE]⟩,
   ⟨0x038, 0, 1, [.AFAB_SLOT_STAT_STATE, .AFAB_SLOT_STAT_PENDING, .AFAB_SLOT_STAT_CAUSE, .AFAB_SLOT_STAT_PAIRED, .AFAB_SLOT_STAT_EFF_SRC]⟩,
   ⟨0x03C, 0, 1, [.AFAB_SLOT_CNT_TAKES, .AFAB_SLOT_CNT_DEFERS]⟩,
   ⟨0x040, 0, 1, [.AFAB_STRM_SEL_STREAM]⟩,
   ⟨0x044, 0, 1, [.AFAB_STRM_STAT_STATE, .AFAB_STRM_STAT_AGE]⟩,
   ⟨0x048, 0, 1, [.AFAB_STRM_SLIP_DROP, .AFAB_STRM_SLIP_ADD]⟩,
   ⟨0x04C, 0, 1, [.AFAB_STRM_CNT_RECENTRE, .AFAB_STRM_CNT_UNDERRUN]⟩,
   ⟨0x050, 0, 1, [.AFAB_GEN_SEL_GEN]⟩,
   ⟨0x054, 0, 1, [.AFAB_GEN_CFG_ENABLE, .AFAB_GEN_CFG_TYPE, .AFAB_GEN_CFG_LEVEL, .AFAB_GEN_CFG_FREQ]⟩,
   ⟨0x058, 0, 1, [.AFAB_MTR_SEL_TAP]⟩,
   ⟨0x05C, 0, 1, [.AFAB_MTR_CFG_ENABLE, .AFAB_MTR_CFG_CHECK, .AFAB_MTR_CFG_WIN]⟩,
   ⟨0x060, 0, 1, [.AFAB_MTR_PEAK_VALID, .AFAB_MTR_PEAK_PEAK]⟩,
   ⟨0x064, 0, 1, [.AFAB_MTR_LEVEL_CHECK_ERR, .AFAB_MTR_LEVEL_CHECK_LOCK, .AFAB_MTR_LEVEL_RMS]⟩]

/-- PROT.PG_SEL.GROUP -/
def Fld.PROT_PG_SEL_GROUP : Fld := fRW 0x020 0 0 8 0 keptMTWCS
/-- PROT.PG_CFG.ENABLE -/
def Fld.PROT_PG_CFG_ENABLE : Fld := fRW 0x024 0 31 1 0 keptMTWCS
/-- PROT.PG_CFG.MODE -/
def Fld.PROT_PG_CFG_MODE : Fld := fRW 0x024 0 29 2 0 keptMTWCS
/-- PROT.PG_CFG.REVERT -/
def Fld.PROT_PG_CFG_REVERT : Fld := fRW 0x024 0 28 1 1 keptMTWCS
/-- PROT.PG_CFG.KIND -/
def Fld.PROT_PG_CFG_KIND : Fld := fRW 0x024 0 27 1 0 keptMTWCS
/-- PROT.PG_CFG.BIDIR -/
def Fld.PROT_PG_CFG_BIDIR : Fld := fRW 0x024 0 26 1 0 keptMTWCS
/-- PROT.PG_CFG.P_LEAD -/
def Fld.PROT_PG_CFG_P_LEAD : Fld := fRW 0x024 0 11 11 0 keptMTWCS
/-- PROT.PG_CFG.W_LEAD -/
def Fld.PROT_PG_CFG_W_LEAD : Fld := fRW 0x024 0 0 11 0 keptMTWCS
/-- PROT.PG_TIME.WTR -/
def Fld.PROT_PG_TIME_WTR : Fld := fRG 0x028 0 16 10 0x12C keptMTWCS 0 720
/-- PROT.PG_TIME.HOLDOFF -/
def Fld.PROT_PG_TIME_HOLDOFF : Fld := fRG 0x028 0 0 10 0 keptMTWCS 0 1000
/-- PROT.PG_CMD.CMD -/
def Fld.PROT_PG_CMD_CMD : Fld := fWC 0x02C 0 0 3 0 7
/-- PROT.PG_STAT.STATE -/
def Fld.PROT_PG_STAT_STATE : Fld := fRO 0x030 0 28 4 0 keptMTWC
/-- PROT.PG_STAT.SEL -/
def Fld.PROT_PG_STAT_SEL : Fld := fRO 0x030 0 27 1 0 keptMTWC
/-- PROT.PG_STAT.EFF_MODE -/
def Fld.PROT_PG_STAT_EFF_MODE : Fld := fRO 0x030 0 25 2 0 keptMTWC
/-- PROT.PG_STAT.SHORT -/
def Fld.PROT_PG_STAT_SHORT : Fld := fRO 0x030 0 24 1 0 keptMTWC
/-- PROT.PG_STAT.COND -/
def Fld.PROT_PG_STAT_COND : Fld := fRO 0x030 0 20 4 0 keptMTWC
/-- PROT.PG_STAT.TOP_CODE -/
def Fld.PROT_PG_STAT_TOP_CODE : Fld := fRO 0x030 0 16 4 0 keptMTWC
/-- PROT.PG_STAT.TOP_MEMBER -/
def Fld.PROT_PG_STAT_TOP_MEMBER : Fld := fRO 0x030 0 15 1 0 keptMTWC
/-- PROT.PG_STAT.TOP_FE -/
def Fld.PROT_PG_STAT_TOP_FE : Fld := fRO 0x030 0 14 1 0 keptMTWC
/-- PROT.PG_STAT.MISMATCH -/
def Fld.PROT_PG_STAT_MISMATCH : Fld := fRO 0x030 0 13 1 0 keptMTWC
/-- PROT.PG_STAT.FE_INVALID -/
def Fld.PROT_PG_STAT_FE_INVALID : Fld := fRO 0x030 0 12 1 0 keptMTWC
/-- PROT.PG_STAT.WTR_LEFT -/
def Fld.PROT_PG_STAT_WTR_LEFT : Fld := fRO 0x030 0 0 10 0 keptMTWC
/-- PROT.PG_CNT.SWITCHES -/
def Fld.PROT_PG_CNT_SWITCHES : Fld := fRO 0x034 0 16 16 0 keptMTWCS
/-- PROT.PG_CNT.BOTH_BAD -/
def Fld.PROT_PG_CNT_BOTH_BAD : Fld := fRO 0x034 0 0 16 0 keptMTWCS
/-- PROT.PG_REPAIR.REPAIRS -/
def Fld.PROT_PG_REPAIR_REPAIRS : Fld := fRO 0x038 0 0 32 0 keptMTWCS
/-- PROT.PG_SELMAP.SEL -/
def Fld.PROT_PG_SELMAP_SEL : Fld := fRO 0x040 4 0 32 0 keptMTWC
/-- PROT.PM_SEC.SEC -/
def Fld.PROT_PM_SEC_SEC : Fld := fRG 0x060 0 0 17 0 keptMTWCS 0 86399
/-- PROT.CTL.PM_CLR -/
def Fld.PROT_CTL_PM_CLR : Fld := fWC 0x064 0 1 1 0 1
/-- PROT.CTL.CNT_CLR -/
def Fld.PROT_CTL_CNT_CLR : Fld := fWC 0x064 0 0 1 0 1

/-- Registers of the PROT page. -/
def regsPROT : List RegD :=
  [⟨0x020, 0, 1, [.PROT_PG_SEL_GROUP]⟩,
   ⟨0x024, 0, 1, [.PROT_PG_CFG_ENABLE, .PROT_PG_CFG_MODE, .PROT_PG_CFG_REVERT, .PROT_PG_CFG_KIND, .PROT_PG_CFG_BIDIR, .PROT_PG_CFG_P_LEAD, .PROT_PG_CFG_W_LEAD]⟩,
   ⟨0x028, 0, 1, [.PROT_PG_TIME_WTR, .PROT_PG_TIME_HOLDOFF]⟩,
   ⟨0x02C, 0, 1, [.PROT_PG_CMD_CMD]⟩,
   ⟨0x030, 0, 1, [.PROT_PG_STAT_STATE, .PROT_PG_STAT_SEL, .PROT_PG_STAT_EFF_MODE, .PROT_PG_STAT_SHORT, .PROT_PG_STAT_COND, .PROT_PG_STAT_TOP_CODE, .PROT_PG_STAT_TOP_MEMBER, .PROT_PG_STAT_TOP_FE, .PROT_PG_STAT_MISMATCH, .PROT_PG_STAT_FE_INVALID, .PROT_PG_STAT_WTR_LEFT]⟩,
   ⟨0x034, 0, 1, [.PROT_PG_CNT_SWITCHES, .PROT_PG_CNT_BOTH_BAD]⟩,
   ⟨0x038, 0, 1, [.PROT_PG_REPAIR_REPAIRS]⟩,
   ⟨0x040, 4, 8, [.PROT_PG_SELMAP_SEL]⟩,
   ⟨0x060, 0, 1, [.PROT_PM_SEC_SEC]⟩,
   ⟨0x064, 0, 1, [.PROT_CTL_PM_CLR, .PROT_CTL_CNT_CLR]⟩]

/-- FST.CH_SEL.CH -/
def Fld.FST_CH_SEL_CH : Fld := fRG 0x020 0 0 9 0 keptMTWCS 0 319
/-- FST.CH_CFG.ENABLE -/
def Fld.FST_CH_CFG_ENABLE : Fld := fRW 0x024 0 31 1 0 keptMTWCS
/-- FST.CH_CFG.MEMC -/
def Fld.FST_CH_CFG_MEMC : Fld := fRW 0x024 0 30 1 0 keptMTWCS
/-- FST.CH_CFG.TDOM -/
def Fld.FST_CH_CFG_TDOM : Fld := fRW 0x024 0 26 4 0 keptMTWCS
/-- FST.CH_CFG.DEPTH -/
def Fld.FST_CH_CFG_DEPTH : Fld := fRG 0x024 0 22 4 3 keptMTWCS 3 16
/-- FST.CH_CFG.DELAY -/
def Fld.FST_CH_CFG_DELAY : Fld := fRW 0x024 0 18 4 1 keptMTWCS
/-- FST.CH_CFG.LOSS_ACT -/
def Fld.FST_CH_CFG_LOSS_ACT : Fld := fRW 0x024 0 16 2 0 keptMTWCS
/-- FST.CH_CFG.BOND -/
def Fld.FST_CH_CFG_BOND : Fld := fRG 0x024 0 12 4 2 keptMTWCS 1 7
/-- FST.CH_CFG.LOOP_RING -/
def Fld.FST_CH_CFG_LOOP_RING : Fld := fRW 0x024 0 11 1 0 keptMTWCS
/-- FST.CH_CFG.SRC_TILE -/
def Fld.FST_CH_CFG_SRC_TILE : Fld := fRG 0x024 0 0 11 0 keptMTWCS 0 1407
/-- FST.CH_BASE.BASE -/
def Fld.FST_CH_BASE_BASE : Fld := fRW 0x028 0 0 18 0 keptMTWCS
/-- FST.CH_FRAMES.FRAMES -/
def Fld.FST_CH_FRAMES_FRAMES : Fld := fRG 0x02C 0 0 16 1 keptMTWCS 1 65535
/-- FST.CH_CTL.CMD -/
def Fld.FST_CH_CTL_CMD : Fld := fWC 0x030 0 16 2 0 3
/-- FST.CH_CTL.FRAME -/
def Fld.FST_CH_CTL_FRAME : Fld := fWC 0x030 0 0 16 0 65535
/-- FST.CH_STAT.STATE -/
def Fld.FST_CH_STAT_STATE : Fld := fRO 0x034 0 29 3 0 keptMTWCS
/-- FST.CH_STAT.LAG -/
def Fld.FST_CH_STAT_LAG : Fld := fRO 0x034 0 24 4 0 keptMTWCS
/-- FST.CH_STAT.POS -/
def Fld.FST_CH_STAT_POS : Fld := fRO 0x034 0 0 16 0 keptMTWCS
/-- FST.CH_DELAY.TICKS -/
def Fld.FST_CH_DELAY_TICKS : Fld := fRO 0x038 0 0 32 0 keptMTWCS
/-- FST.CH_COST.COST -/
def Fld.FST_CH_COST_COST : Fld := fRO 0x048 0 0 16 0 keptMTWCS
/-- FST.CH_CNT.DROPS -/
def Fld.FST_CH_CNT_DROPS : Fld := fRO 0x03C 0 16 16 0 keptMTWCS
/-- FST.CH_CNT.REPEATS -/
def Fld.FST_CH_CNT_REPEATS : Fld := fRO 0x03C 0 0 16 0 keptMTWCS
/-- FST.CH_CNT2.LATE -/
def Fld.FST_CH_CNT2_LATE : Fld := fRO 0x040 0 16 16 0 keptMTWCS
/-- FST.CH_CNT2.LOSS -/
def Fld.FST_CH_CNT2_LOSS : Fld := fRO 0x040 0 0 16 0 keptMTWCS
/-- FST.CH_CNT3.ANC_OVER -/
def Fld.FST_CH_CNT3_ANC_OVER : Fld := fRO 0x044 0 16 16 0 keptMTWCS
/-- FST.DL_SEL.LINE -/
def Fld.FST_DL_SEL_LINE : Fld := fRG 0x050 0 0 12 0 keptMTWCS 0 3583
/-- FST.DL_CFG.ENABLE -/
def Fld.FST_DL_CFG_ENABLE : Fld := fRW 0x054 0 31 1 0 keptMTWCS
/-- FST.DL_CFG.DELAY -/
def Fld.FST_DL_CFG_DELAY : Fld := fRG 0x054 0 0 17 1 keptMTWCS 1 96000
/-- FST.DL_BASE0.BASE -/
def Fld.FST_DL_BASE0_BASE : Fld := fRW 0x058 0 0 18 0 keptMTWCS
/-- FST.DL_BASE1.BASE -/
def Fld.FST_DL_BASE1_BASE : Fld := fRW 0x05C 0 0 18 0 keptMTWCS
/-- FST.ADMIT_ERR.CAUSE -/
def Fld.FST_ADMIT_ERR_CAUSE : Fld := fRO 0x060 0 30 2 0 keptMTWCS
/-- FST.ADMIT_ERR.SHORTFALL -/
def Fld.FST_ADMIT_ERR_SHORTFALL : Fld := fRO 0x060 0 0 16 0 keptMTWCS
/-- FST.APERTURE_BASE.MEMC -/
def Fld.FST_APERTURE_BASE_MEMC : Fld := fRW 0x064 0 31 1 0 keptMTWCS
/-- FST.APERTURE_BASE.WINDOW -/
def Fld.FST_APERTURE_BASE_WINDOW : Fld := fRW 0x064 0 0 9 0 keptMTWCS
/-- FST.CTL.CNT_CLR -/
def Fld.FST_CTL_CNT_CLR : Fld := fWC 0x068 0 0 1 0 1

/-- Registers of the FST page. -/
def regsFST : List RegD :=
  [⟨0x020, 0, 1, [.FST_CH_SEL_CH]⟩,
   ⟨0x024, 0, 1, [.FST_CH_CFG_ENABLE, .FST_CH_CFG_MEMC, .FST_CH_CFG_TDOM, .FST_CH_CFG_DEPTH, .FST_CH_CFG_DELAY, .FST_CH_CFG_LOSS_ACT, .FST_CH_CFG_BOND, .FST_CH_CFG_LOOP_RING, .FST_CH_CFG_SRC_TILE]⟩,
   ⟨0x028, 0, 1, [.FST_CH_BASE_BASE]⟩,
   ⟨0x02C, 0, 1, [.FST_CH_FRAMES_FRAMES]⟩,
   ⟨0x030, 0, 1, [.FST_CH_CTL_CMD, .FST_CH_CTL_FRAME]⟩,
   ⟨0x034, 0, 1, [.FST_CH_STAT_STATE, .FST_CH_STAT_LAG, .FST_CH_STAT_POS]⟩,
   ⟨0x038, 0, 1, [.FST_CH_DELAY_TICKS]⟩,
   ⟨0x048, 0, 1, [.FST_CH_COST_COST]⟩,
   ⟨0x03C, 0, 1, [.FST_CH_CNT_DROPS, .FST_CH_CNT_REPEATS]⟩,
   ⟨0x040, 0, 1, [.FST_CH_CNT2_LATE, .FST_CH_CNT2_LOSS]⟩,
   ⟨0x044, 0, 1, [.FST_CH_CNT3_ANC_OVER]⟩,
   ⟨0x050, 0, 1, [.FST_DL_SEL_LINE]⟩,
   ⟨0x054, 0, 1, [.FST_DL_CFG_ENABLE, .FST_DL_CFG_DELAY]⟩,
   ⟨0x058, 0, 1, [.FST_DL_BASE0_BASE]⟩,
   ⟨0x05C, 0, 1, [.FST_DL_BASE1_BASE]⟩,
   ⟨0x060, 0, 1, [.FST_ADMIT_ERR_CAUSE, .FST_ADMIT_ERR_SHORTFALL]⟩,
   ⟨0x064, 0, 1, [.FST_APERTURE_BASE_MEMC, .FST_APERTURE_BASE_WINDOW]⟩,
   ⟨0x068, 0, 1, [.FST_CTL_CNT_CLR]⟩]

/-- MEMC.CFG.RANKS2 -/
def Fld.MEMC_CFG_RANKS2 : Fld := fRW 0x020 0 8 1 0 keptMTWCS
/-- MEMC.CFG.DENSITY -/
def Fld.MEMC_CFG_DENSITY : Fld := fRG 0x020 0 4 3 2 keptMTWCS 0 4
/-- MEMC.CFG.TYPE -/
def Fld.MEMC_CFG_TYPE : Fld := fRW 0x020 0 3 1 1 keptMTWCS
/-- MEMC.CFG.RATE -/
def Fld.MEMC_CFG_RATE : Fld := fRW 0x020 0 0 2 3 keptMTWCS
/-- MEMC.BUDGET.PERCENT -/
def Fld.MEMC_BUDGET_PERCENT : Fld := fRG 0x024 0 0 7 0x04B keptMTWCS 10 85
/-- MEMC.STAT.STATE -/
def Fld.MEMC_STAT_STATE : Fld := fRO 0x028 0 29 3 0 keptMTWC
/-- MEMC.STAT.FAIL_CH -/
def Fld.MEMC_STAT_FAIL_CH : Fld := fRO 0x028 0 26 2 0 keptMTWC
/-- MEMC.STAT.DERATE -/
def Fld.MEMC_STAT_DERATE : Fld := fRO 0x028 0 25 1 0 keptMTWC
/-- MEMC.STAT.RESERVED -/
def Fld.MEMC_STAT_RESERVED : Fld := fRO 0x028 0 0 16 0 keptMTWC
/-- MEMC.SIZE.MIB -/
def Fld.MEMC_SIZE_MIB : Fld := fRO 0x02C 0 0 16 0 keptMTWCS
/-- MEMC.LATE_RD.COUNT -/
def Fld.MEMC_LATE_RD_COUNT : Fld := fRO 0x030 0 0 32 0 keptMTWCS
/-- MEMC.LATE_WR.COUNT -/
def Fld.MEMC_LATE_WR_COUNT : Fld := fRO 0x034 0 0 32 0 keptMTWCS
/-- MEMC.LATE_AUD.COUNT -/
def Fld.MEMC_LATE_AUD_COUNT : Fld := fRO 0x038 0 0 32 0 keptMTWCS
/-- MEMC.MGMT_WAIT.MAX -/
def Fld.MEMC_MGMT_WAIT_MAX : Fld := fRO 0x03C 0 0 32 0 keptMTWCS

/-- Registers of the MEMC page. -/
def regsMEMC : List RegD :=
  [⟨0x020, 0, 1, [.MEMC_CFG_RANKS2, .MEMC_CFG_DENSITY, .MEMC_CFG_TYPE, .MEMC_CFG_RATE]⟩,
   ⟨0x024, 0, 1, [.MEMC_BUDGET_PERCENT]⟩,
   ⟨0x028, 0, 1, [.MEMC_STAT_STATE, .MEMC_STAT_FAIL_CH, .MEMC_STAT_DERATE, .MEMC_STAT_RESERVED]⟩,
   ⟨0x02C, 0, 1, [.MEMC_SIZE_MIB]⟩,
   ⟨0x030, 0, 1, [.MEMC_LATE_RD_COUNT]⟩,
   ⟨0x034, 0, 1, [.MEMC_LATE_WR_COUNT]⟩,
   ⟨0x038, 0, 1, [.MEMC_LATE_AUD_COUNT]⟩,
   ⟨0x03C, 0, 1, [.MEMC_MGMT_WAIT_MAX]⟩]

/-- WALL.CLAIM.ACCEPTED -/
def Fld.WALL_CLAIM_ACCEPTED : Fld := fRO 0x020 0 20 1 0 keptMTWCBS
/-- WALL.CLAIM.STATE -/
def Fld.WALL_CLAIM_STATE : Fld := fRO 0x020 0 16 3 0 keptMTWCBS
/-- WALL.CLAIM.EFF -/
def Fld.WALL_CLAIM_EFF : Fld := fRO 0x020 0 8 4 0 keptMTWCBS
/-- WALL.CLAIM.CONFIG -/
def Fld.WALL_CLAIM_CONFIG : Fld := fRG 0x020 0 0 4 0 keptMTWCBS 1 15
/-- WALL.CTL.CNT_CLR -/
def Fld.WALL_CTL_CNT_CLR : Fld := fWC 0x024 0 3 1 0 1
/-- WALL.CTL.WALL_RESET -/
def Fld.WALL_CTL_WALL_RESET : Fld := fWC 0x024 0 2 1 0 1
/-- WALL.CTL.REJOIN -/
def Fld.WALL_CTL_REJOIN : Fld := fWC 0x024 0 1 1 0 1
/-- WALL.CTL.GIVE_UP -/
def Fld.WALL_CTL_GIVE_UP : Fld := fWC 0x024 0 0 1 0 1
/-- WALL.DIAG_CFG.PAR_LIMIT -/
def Fld.WALL_DIAG_CFG_PAR_LIMIT : Fld := fRG 0x028 0 0 8 4 keptMTWCS 1 255
/-- WALL.DIAG.GIVEUP_CNT -/
def Fld.WALL_DIAG_GIVEUP_CNT : Fld := fRO 0x02C 0 16 16 0 keptMTWCS
/-- WALL.DIAG.CAUSE -/
def Fld.WALL_DIAG_CAUSE : Fld := fRO 0x02C 0 0 4 0 keptMTWCS
/-- WALL.ECC_CNT.CORR -/
def Fld.WALL_ECC_CNT_CORR : Fld := fRO 0x030 0 16 16 0 keptMTWCS
/-- WALL.ECC_CNT.UNCORR -/
def Fld.WALL_ECC_CNT_UNCORR : Fld := fRO 0x030 0 0 16 0 keptMTWCS
/-- WALL.ERR_CNT.CRC -/
def Fld.WALL_ERR_CNT_CRC : Fld := fRO 0x034 0 16 16 0 keptMTWCS
/-- WALL.ERR_CNT.PARITY -/
def Fld.WALL_ERR_CNT_PARITY : Fld := fRO 0x034 0 0 16 0 keptMTWCS
/-- WALL.PROBE_ERR.COUNT -/
def Fld.WALL_PROBE_ERR_COUNT : Fld := fRO 0x038 0 0 32 0 keptMTWCS
/-- WALL.LATE.COUNT -/
def Fld.WALL_LATE_COUNT : Fld := fRO 0x03C 0 0 32 0 keptMTWCS
/-- WALL.REJOIN_STAT.PASSES -/
def Fld.WALL_REJOIN_STAT_PASSES : Fld := fRO 0x040 0 16 4 0 keptMTWCS
/-- WALL.REJOIN_STAT.COPY_US -/
def Fld.WALL_REJOIN_STAT_COPY_US : Fld := fRO 0x040 0 0 16 0 keptMTWCS

/-- Registers of the WALL page. -/
def regsWALL : List RegD :=
  [⟨0x020, 0, 1, [.WALL_CLAIM_ACCEPTED, .WALL_CLAIM_STATE, .WALL_CLAIM_EFF, .WALL_CLAIM_CONFIG]⟩,
   ⟨0x024, 0, 1, [.WALL_CTL_CNT_CLR, .WALL_CTL_WALL_RESET, .WALL_CTL_REJOIN, .WALL_CTL_GIVE_UP]⟩,
   ⟨0x028, 0, 1, [.WALL_DIAG_CFG_PAR_LIMIT]⟩,
   ⟨0x02C, 0, 1, [.WALL_DIAG_GIVEUP_CNT, .WALL_DIAG_CAUSE]⟩,
   ⟨0x030, 0, 1, [.WALL_ECC_CNT_CORR, .WALL_ECC_CNT_UNCORR]⟩,
   ⟨0x034, 0, 1, [.WALL_ERR_CNT_CRC, .WALL_ERR_CNT_PARITY]⟩,
   ⟨0x038, 0, 1, [.WALL_PROBE_ERR_COUNT]⟩,
   ⟨0x03C, 0, 1, [.WALL_LATE_COUNT]⟩,
   ⟨0x040, 0, 1, [.WALL_REJOIN_STAT_PASSES, .WALL_REJOIN_STAT_COPY_US]⟩]

/-- CGATE.CFG.MM_POLICY -/
def Fld.CGATE_CFG_MM_POLICY : Fld := fRG 0x020 0 4 2 0 keptMTWCS 0 1
/-- CGATE.CFG.SAFE -/
def Fld.CGATE_CFG_SAFE : Fld := fRG 0x020 0 0 2 0 keptMTWCS 0 2
/-- CGATE.SWAP.CMD -/
def Fld.CGATE_SWAP_CMD : Fld := fWC 0x024 0 16 2 0 2
/-- CGATE.SWAP.TDOM -/
def Fld.CGATE_SWAP_TDOM : Fld := fWC 0x024 0 0 4 0 15
/-- CGATE.STAT.SWAP_CANCELLED -/
def Fld.CGATE_STAT_SWAP_CANCELLED : Fld := fRO 0x028 0 5 1 0 keptMTWCBS
/-- CGATE.STAT.SELFTEST -/
def Fld.CGATE_STAT_SELFTEST : Fld := fRO 0x028 0 4 1 0 keptMTWCBS
/-- CGATE.STAT.SWAP_PEND -/
def Fld.CGATE_STAT_SWAP_PEND : Fld := fRO 0x028 0 3 1 0 keptMTWCBS
/-- CGATE.STAT.BOTH_ZERO -/
def Fld.CGATE_STAT_BOTH_ZERO : Fld := fRO 0x028 0 2 1 0 keptMTWCBS
/-- CGATE.STAT.TIE -/
def Fld.CGATE_STAT_TIE : Fld := fRO 0x028 0 1 1 0 keptMTWCBS
/-- CGATE.STAT.ACCEPTED -/
def Fld.CGATE_STAT_ACCEPTED : Fld := fRO 0x028 0 0 1 0 keptMTWCBS
/-- CGATE.MM_CNT.COUNT -/
def Fld.CGATE_MM_CNT_COUNT : Fld := fRO 0x02C 0 0 32 0 keptMTWCS
/-- CGATE.MM_SEEN.COUNT -/
def Fld.CGATE_MM_SEEN_COUNT : Fld := fRO 0x030 0 0 32 0 keptMTWCS
/-- CGATE.MM_LAST.KIND -/
def Fld.CGATE_MM_LAST_KIND : Fld := fRO 0x034 0 30 2 0 keptMTWCS
/-- CGATE.MM_LAST.RESULT -/
def Fld.CGATE_MM_LAST_RESULT : Fld := fRO 0x034 0 28 2 0 keptMTWCS
/-- CGATE.MM_LAST.INDEX -/
def Fld.CGATE_MM_LAST_INDEX : Fld := fRO 0x034 0 0 16 0 keptMTWCS
/-- CGATE.ALT_CNT.COUNT -/
def Fld.CGATE_ALT_CNT_COUNT : Fld := fRO 0x038 0 0 32 0 keptMTWCS
/-- CGATE.SAFE_CNT.COUNT -/
def Fld.CGATE_SAFE_CNT_COUNT : Fld := fRO 0x03C 0 0 32 0 keptMTWCS
/-- CGATE.CTL.CNT_CLR -/
def Fld.CGATE_CTL_CNT_CLR : Fld := fWC 0x040 0 0 1 0 1

/-- Registers of the CGATE page. -/
def regsCGATE : List RegD :=
  [⟨0x020, 0, 1, [.CGATE_CFG_MM_POLICY, .CGATE_CFG_SAFE]⟩,
   ⟨0x024, 0, 1, [.CGATE_SWAP_CMD, .CGATE_SWAP_TDOM]⟩,
   ⟨0x028, 0, 1, [.CGATE_STAT_SWAP_CANCELLED, .CGATE_STAT_SELFTEST, .CGATE_STAT_SWAP_PEND, .CGATE_STAT_BOTH_ZERO, .CGATE_STAT_TIE, .CGATE_STAT_ACCEPTED]⟩,
   ⟨0x02C, 0, 1, [.CGATE_MM_CNT_COUNT]⟩,
   ⟨0x030, 0, 1, [.CGATE_MM_SEEN_COUNT]⟩,
   ⟨0x034, 0, 1, [.CGATE_MM_LAST_KIND, .CGATE_MM_LAST_RESULT, .CGATE_MM_LAST_INDEX]⟩,
   ⟨0x038, 0, 1, [.CGATE_ALT_CNT_COUNT]⟩,
   ⟨0x03C, 0, 1, [.CGATE_SAFE_CNT_COUNT]⟩,
   ⟨0x040, 0, 1, [.CGATE_CTL_CNT_CLR]⟩]

end Sys2Proof.Machine
end

