-- ==== Sys2Proof/Machine/RegsLane.lean ====
section
/-! DEFINITION. The register fields of the pages LANE, written from the field tables of the spec. -/

namespace Sys2Proof.Machine

/-- LANE.RXCFG.POL_INV -/
def Fld.LANE_RXCFG_POL_INV : Fld := fRW 0x020 0 5 1 0 keptMTWCS
/-- LANE.RXCFG.AUTO -/
def Fld.LANE_RXCFG_AUTO : Fld := fRW 0x020 0 4 1 0 keptMTWCS
/-- LANE.RXCFG.MODE -/
def Fld.LANE_RXCFG_MODE : Fld := fRW 0x020 0 0 4 0 keptMTWCS
/-- LANE.TXCFG.FOLLOW_LANE -/
def Fld.LANE_TXCFG_FOLLOW_LANE : Fld := fRG 0x024 0 24 8 0 keptMTWCS 0 143
/-- LANE.TXCFG.TDOM -/
def Fld.LANE_TXCFG_TDOM : Fld := fRW 0x024 0 16 4 0 keptMTWCS
/-- LANE.TXCFG.FORCE_IDLE -/
def Fld.LANE_TXCFG_FORCE_IDLE : Fld := fRW 0x024 0 10 1 0 keptMTWCS
/-- LANE.TXCFG.POL_INV -/
def Fld.LANE_TXCFG_POL_INV : Fld := fRW 0x024 0 9 1 0 keptMTWCS
/-- LANE.TXCFG.TIMING -/
def Fld.LANE_TXCFG_TIMING : Fld := fRW 0x024 0 8 1 0 keptMTWCS
/-- LANE.TXCFG.MODE -/
def Fld.LANE_TXCFG_MODE : Fld := fRW 0x024 0 0 4 0 keptMTWCS
/-- LANE.RXEQ.PRESET -/
def Fld.LANE_RXEQ_PRESET : Fld := fRW 0x028 0 0 2 0 keptMTWCS
/-- LANE.TXDRV.EMPH -/
def Fld.LANE_TXDRV_EMPH : Fld := fRW 0x02C 0 2 2 0 keptMTWCS
/-- LANE.TXDRV.SWING -/
def Fld.LANE_TXDRV_SWING : Fld := fRG 0x02C 0 0 2 1 keptMTWCS 0 2
/-- LANE.TESTCFG.RX_ENABLE -/
def Fld.LANE_TESTCFG_RX_ENABLE : Fld := fRW 0x030 0 9 1 0 keptMTWCS
/-- LANE.TESTCFG.TX_ENABLE -/
def Fld.LANE_TESTCFG_TX_ENABLE : Fld := fRW 0x030 0 8 1 0 keptMTWCS
/-- LANE.TESTCFG.RATE -/
def Fld.LANE_TESTCFG_RATE : Fld := fRG 0x030 0 4 3 0 keptMTWCS 0 4
/-- LANE.TESTCFG.PATTERN -/
def Fld.LANE_TESTCFG_PATTERN : Fld := fRW 0x030 0 0 3 0 keptMTWCS
/-- LANE.TESTCTL.CNT_CLR -/
def Fld.LANE_TESTCTL_CNT_CLR : Fld := fWC 0x034 0 1 1 0 1
/-- LANE.TESTCTL.INJECT -/
def Fld.LANE_TESTCTL_INJECT : Fld := fWC 0x034 0 0 1 0 1
/-- LANE.LSTAT.TX_SYNTH -/
def Fld.LANE_LSTAT_TX_SYNTH : Fld := fRO 0x040 0 17 2 3 keptMTWC
/-- LANE.LSTAT.CHK_LOCK -/
def Fld.LANE_LSTAT_CHK_LOCK : Fld := fRO 0x040 0 16 1 0 keptMTWC
/-- LANE.LSTAT.BOND_TX -/
def Fld.LANE_LSTAT_BOND_TX : Fld := fRO 0x040 0 13 1 0 keptMTWC
/-- LANE.LSTAT.BOND_RX -/
def Fld.LANE_LSTAT_BOND_RX : Fld := fRO 0x040 0 12 1 0 keptMTWC
/-- LANE.LSTAT.LOL -/
def Fld.LANE_LSTAT_LOL : Fld := fRO 0x040 0 9 1 0 keptMTWC
/-- LANE.LSTAT.LOS -/
def Fld.LANE_LSTAT_LOS : Fld := fRO 0x040 0 8 1 1 keptMTWC
/-- LANE.LSTAT.TX_STATE -/
def Fld.LANE_LSTAT_TX_STATE : Fld := fRO 0x040 0 4 3 0 keptMTWC
/-- LANE.LSTAT.RX_STATE -/
def Fld.LANE_LSTAT_RX_STATE : Fld := fRO 0x040 0 0 3 0 keptMTWC
/-- LANE.DETSTAT.DET_CHANGES -/
def Fld.LANE_DETSTAT_DET_CHANGES : Fld := fRO 0x044 0 16 8 0 keptMTWC
/-- LANE.DETSTAT.DET_VALID -/
def Fld.LANE_DETSTAT_DET_VALID : Fld := fRO 0x044 0 5 1 0 keptMTWC
/-- LANE.DETSTAT.DET_FAMILY -/
def Fld.LANE_DETSTAT_DET_FAMILY : Fld := fRO 0x044 0 4 1 0 keptMTWC
/-- LANE.DETSTAT.DET_MODE -/
def Fld.LANE_DETSTAT_DET_MODE : Fld := fRO 0x044 0 0 4 0 keptMTWC
/-- LANE.RXFREQ.OFFSET -/
def Fld.LANE_RXFREQ_OFFSET : Fld := fRO 0x048 0 0 20 0 keptMTWC
/-- LANE.QUADSTAT.PLL1_LANE -/
def Fld.LANE_QUADSTAT_PLL1_LANE : Fld := fRO 0x04C 0 24 8 0 keptMTWC
/-- LANE.QUADSTAT.PLL1_LOCK -/
def Fld.LANE_QUADSTAT_PLL1_LOCK : Fld := fRO 0x04C 0 23 1 0 keptMTWC
/-- LANE.QUADSTAT.PLL1_SRC -/
def Fld.LANE_QUADSTAT_PLL1_SRC : Fld := fRO 0x04C 0 16 5 31 keptMTWC
/-- LANE.QUADSTAT.PLL0_LANE -/
def Fld.LANE_QUADSTAT_PLL0_LANE : Fld := fRO 0x04C 0 8 8 0 keptMTWC
/-- LANE.QUADSTAT.PLL0_LOCK -/
def Fld.LANE_QUADSTAT_PLL0_LOCK : Fld := fRO 0x04C 0 7 1 0 keptMTWC
/-- LANE.QUADSTAT.PLL0_SRC -/
def Fld.LANE_QUADSTAT_PLL0_SRC : Fld := fRO 0x04C 0 0 5 31 keptMTWC
/-- LANE.TESTCNT.COUNT -/
def Fld.LANE_TESTCNT_COUNT : Fld := fRO 0x050 0 0 32 0 keptMTWCS
/-- LANE.RXEQ_X.CDR_BW -/
def Fld.LANE_RXEQ_X_CDR_BW : Fld := fXR 0x400 0 12 2 1 keptMTWCS 0 2
/-- LANE.RXEQ_X.DFE_FREEZE -/
def Fld.LANE_RXEQ_X_DFE_FREEZE : Fld := fXR 0x400 0 9 1 0 keptMTWCS 0 1
/-- LANE.RXEQ_X.CTLE_MANUAL -/
def Fld.LANE_RXEQ_X_CTLE_MANUAL : Fld := fXR 0x400 0 8 1 0 keptMTWCS 0 1
/-- LANE.RXEQ_X.CTLE_GAIN -/
def Fld.LANE_RXEQ_X_CTLE_GAIN : Fld := fXR 0x400 0 4 4 8 keptMTWCS 0 15
/-- LANE.TXFFE_X.FFE_MANUAL -/
def Fld.LANE_TXFFE_X_FFE_MANUAL : Fld := fXR 0x404 0 31 1 0 keptMTWCS 0 1
/-- LANE.TXFFE_X.POST -/
def Fld.LANE_TXFFE_X_POST : Fld := fXR 0x404 0 12 4 0 keptMTWCS 0 15
/-- LANE.TXFFE_X.MAIN -/
def Fld.LANE_TXFFE_X_MAIN : Fld := fXR 0x404 0 4 6 0x03F keptMTWCS 0 63
/-- LANE.TXFFE_X.PRE -/
def Fld.LANE_TXFFE_X_PRE : Fld := fXR 0x404 0 0 3 0 keptMTWCS 0 7
/-- LANE.LOOPBACK_X.NEAR_END -/
def Fld.LANE_LOOPBACK_X_NEAR_END : Fld := fXR 0x408 0 0 1 0 keptMTWCS 0 1
/-- LANE.LOS_X.CLR_LEVEL -/
def Fld.LANE_LOS_X_CLR_LEVEL : Fld := fXR 0x40C 0 8 8 0x04B keptMTWCS 40 200
/-- LANE.LOS_X.SET_LEVEL -/
def Fld.LANE_LOS_X_SET_LEVEL : Fld := fXR 0x40C 0 0 8 0x032 keptMTWCS 30 190
/-- LANE.FRMCFG.ASI_PKT -/
def Fld.LANE_FRMCFG_ASI_PKT : Fld := fRG 0x060 0 4 2 0 keptMTWCS 0 2
/-- LANE.FRMCFG.EDH_CHECK -/
def Fld.LANE_FRMCFG_EDH_CHECK : Fld := fRW 0x060 0 2 1 1 keptMTWCS
/-- LANE.FRMCFG.LN_CHECK -/
def Fld.LANE_FRMCFG_LN_CHECK : Fld := fRW 0x060 0 1 1 1 keptMTWCS
/-- LANE.FRMCFG.PID_CHECK -/
def Fld.LANE_FRMCFG_PID_CHECK : Fld := fRW 0x060 0 0 1 1 keptMTWCS
/-- LANE.FRMSTAT.CAND -/
def Fld.LANE_FRMSTAT_CAND : Fld := fRO 0x064 0 29 3 0 keptMTWC
/-- LANE.FRMSTAT.BOND_ORDER -/
def Fld.LANE_FRMSTAT_BOND_ORDER : Fld := fRO 0x064 0 28 1 0 keptMTWC
/-- LANE.FRMSTAT.BOND_SKEW -/
def Fld.LANE_FRMSTAT_BOND_SKEW : Fld := fRO 0x064 0 27 1 0 keptMTWC
/-- LANE.FRMSTAT.PID_MISMATCH -/
def Fld.LANE_FRMSTAT_PID_MISMATCH : Fld := fRO 0x064 0 26 1 0 keptMTWC
/-- LANE.FRMSTAT.PID_ABSENT -/
def Fld.LANE_FRMSTAT_PID_ABSENT : Fld := fRO 0x064 0 25 1 0 keptMTWC
/-- LANE.FRMSTAT.FMT_UNKNOWN -/
def Fld.LANE_FRMSTAT_FMT_UNKNOWN : Fld := fRO 0x064 0 24 1 0 keptMTWC
/-- LANE.FRMSTAT.SUBFMT -/
def Fld.LANE_FRMSTAT_SUBFMT : Fld := fRO 0x064 0 22 2 0 keptMTWC
/-- LANE.FRMSTAT.FMT -/
def Fld.LANE_FRMSTAT_FMT : Fld := fRO 0x064 0 16 6 0 keptMTWC
/-- LANE.FRMSTAT.EDH_ABSENT -/
def Fld.LANE_FRMSTAT_EDH_ABSENT : Fld := fRO 0x064 0 15 1 0 keptMTWC
/-- LANE.FRMSTAT.S2_LOSS -/
def Fld.LANE_FRMSTAT_S2_LOSS : Fld := fRO 0x064 0 14 1 0 keptMTWC
/-- LANE.FRMSTAT.STREAMS -/
def Fld.LANE_FRMSTAT_STREAMS : Fld := fRO 0x064 0 8 5 0 keptMTWC
/-- LANE.FRMSTAT.STATE -/
def Fld.LANE_FRMSTAT_STATE : Fld := fRO 0x064 0 0 3 0 keptMTWC
/-- LANE.FRMGEOM.SCAN -/
def Fld.LANE_FRMGEOM_SCAN : Fld := fRO 0x068 0 31 1 0 keptMTWC
/-- LANE.FRMGEOM.ACTIVE -/
def Fld.LANE_FRMGEOM_ACTIVE : Fld := fRO 0x068 0 16 13 0 keptMTWC
/-- LANE.FRMGEOM.LINE_LEN -/
def Fld.LANE_FRMGEOM_LINE_LEN : Fld := fRO 0x068 0 0 13 0 keptMTWC
/-- LANE.FRMLINES.BOND_SKEW -/
def Fld.LANE_FRMLINES_BOND_SKEW : Fld := fRO 0x06C 0 16 16 0 keptMTWC
/-- LANE.FRMLINES.LINES -/
def Fld.LANE_FRMLINES_LINES : Fld := fRO 0x06C 0 0 11 0 keptMTWC
/-- LANE.FRMCNT.AMBIG_CNT -/
def Fld.LANE_FRMCNT_AMBIG_CNT : Fld := fRO 0x070 0 20 12 0 keptMTWCS
/-- LANE.FRMCNT.LOSS_CNT -/
def Fld.LANE_FRMCNT_LOSS_CNT : Fld := fRO 0x070 0 8 12 0 keptMTWCS
/-- LANE.FRMCNT.CAND_FULL -/
def Fld.LANE_FRMCNT_CAND_FULL : Fld := fRO 0x070 0 0 8 0 keptMTWCS
/-- LANE.TRSERR.COUNT -/
def Fld.LANE_TRSERR_COUNT : Fld := fRO 0x074 0 0 32 0 keptMTWCS
/-- LANE.LINEERR.COUNT -/
def Fld.LANE_LINEERR_COUNT : Fld := fRO 0x078 0 0 32 0 keptMTWCS
/-- LANE.LNERR.PID_CSUM -/
def Fld.LANE_LNERR_PID_CSUM : Fld := fRO 0x07C 0 16 16 0 keptMTWCS
/-- LANE.LNERR.LN_ERR -/
def Fld.LANE_LNERR_LN_ERR : Fld := fRO 0x07C 0 0 16 0 keptMTWCS
/-- LANE.PID1.BYTES -/
def Fld.LANE_PID1_BYTES : Fld := fRO 0x080 0 0 32 0 keptMTWC
/-- LANE.PID2.BYTES -/
def Fld.LANE_PID2_BYTES : Fld := fRO 0x084 0 0 32 0 keptMTWC
/-- LANE.FRMCTL.CNT_CLR -/
def Fld.LANE_FRMCTL_CNT_CLR : Fld := fWC 0x088 0 0 1 0 1
/-- LANE.FRM_X.PID_ABSENT_FRAMES -/
def Fld.LANE_FRM_X_PID_ABSENT_FRAMES : Fld := fXR 0x410 0 8 8 4 keptMTWCS 2 255
/-- LANE.FRM_X.LOSS_TRS -/
def Fld.LANE_FRM_X_LOSS_TRS : Fld := fXR 0x410 0 0 4 4 keptMTWCS 2 15
/-- LANE.ALIGNCFG.TDOM -/
def Fld.LANE_ALIGNCFG_TDOM : Fld := fRW 0x0A0 0 16 4 0 keptMTWCS
/-- LANE.ALIGNCFG.ALIGN_EN -/
def Fld.LANE_ALIGNCFG_ALIGN_EN : Fld := fRW 0x0A0 0 0 1 1 keptMTWCS
/-- LANE.TXREGEN.PID_B34 -/
def Fld.LANE_TXREGEN_PID_B34 : Fld := fRW 0x0A4 0 16 16 0 keptMTWCS
/-- LANE.TXREGEN.EDH_INS -/
def Fld.LANE_TXREGEN_EDH_INS : Fld := fRW 0x0A4 0 8 1 1 keptMTWCS
/-- LANE.TXREGEN.PID_MODE -/
def Fld.LANE_TXREGEN_PID_MODE : Fld := fRG 0x0A4 0 4 2 0 keptMTWCS 0 2
/-- LANE.TXREGEN.BLANK -/
def Fld.LANE_TXREGEN_BLANK : Fld := fRW 0x0A4 0 0 1 0 keptMTWCS
/-- LANE.CRSCNT.OOC_CNT -/
def Fld.LANE_CRSCNT_OOC_CNT : Fld := fRO 0x0A8 0 16 16 0 keptMTWCS
/-- LANE.CRSCNT.STEP_CNT -/
def Fld.LANE_CRSCNT_STEP_CNT : Fld := fRO 0x0A8 0 0 16 0 keptMTWCS
/-- LANE.CRSCTL.CNT_CLR -/
def Fld.LANE_CRSCTL_CNT_CLR : Fld := fWC 0x0AC 0 0 1 0 1
/-- LANE.PTR.STATE -/
def Fld.LANE_PTR_STATE : Fld := fRO 0x0C0 4 29 3 0 keptMTWC
/-- LANE.PTR.DRIFT -/
def Fld.LANE_PTR_DRIFT : Fld := fRO 0x0C0 4 28 1 0 keptMTWC
/-- LANE.PTR.POS -/
def Fld.LANE_PTR_POS : Fld := fRO 0x0C0 4 0 20 0 keptMTWC
/-- LANE.JUST.INC -/
def Fld.LANE_JUST_INC : Fld := fRO 0x0E0 4 16 16 0 keptMTWCS
/-- LANE.JUST.DEC -/
def Fld.LANE_JUST_DEC : Fld := fRO 0x0E0 4 0 16 0 keptMTWCS
/-- LANE.ALIGN_X.DRIFT_LIMIT -/
def Fld.LANE_ALIGN_X_DRIFT_LIMIT : Fld := fXR 0x420 0 25 7 16 keptMTWCS 1 127
/-- LANE.ALIGN_X.PTR_MAX -/
def Fld.LANE_ALIGN_X_PTR_MAX : Fld := fXR 0x420 0 16 9 0x1FF keptMTWCS 0 511
/-- LANE.ALIGN_X.PTR_MIN -/
def Fld.LANE_ALIGN_X_PTR_MIN : Fld := fXR 0x420 0 0 9 0 keptMTWCS 0 511
/-- LANE.ANCCFG.DEFAULT_CLASS -/
def Fld.LANE_ANCCFG_DEFAULT_CLASS : Fld := fRW 0x100 0 8 2 2 keptMTWCS
/-- LANE.ANCCFG.BAD_PKT -/
def Fld.LANE_ANCCFG_BAD_PKT : Fld := fRW 0x100 0 5 1 0 keptMTWCS
/-- LANE.ANCCFG.TX_PATH -/
def Fld.LANE_ANCCFG_TX_PATH : Fld := fRW 0x100 0 4 1 0 keptMTWCS
/-- LANE.ANCCFG.RX_PATH -/
def Fld.LANE_ANCCFG_RX_PATH : Fld := fRW 0x100 0 0 1 0 keptMTWCS
/-- LANE.ANCCTL.CNT_CLR -/
def Fld.LANE_ANCCTL_CNT_CLR : Fld := fWC 0x104 0 0 1 0 1
/-- LANE.ANCERR.HDR_ERR -/
def Fld.LANE_ANCERR_HDR_ERR : Fld := fRO 0x108 0 16 16 0 keptMTWCS
/-- LANE.ANCERR.CS_ERR -/
def Fld.LANE_ANCERR_CS_ERR : Fld := fRO 0x108 0 0 16 0 keptMTWCS
/-- LANE.ANCERR2.DELETED -/
def Fld.LANE_ANCERR2_DELETED : Fld := fRO 0x10C 0 16 16 0 keptMTWCS
/-- LANE.ANCERR2.OVER -/
def Fld.LANE_ANCERR2_OVER : Fld := fRO 0x10C 0 0 16 0 keptMTWCS
/-- LANE.ANCSTAT.TX_BYPASS -/
def Fld.LANE_ANCSTAT_TX_BYPASS : Fld := fRO 0x110 0 1 1 0 keptMTWC
/-- LANE.ANCSTAT.RX_BYPASS -/
def Fld.LANE_ANCSTAT_RX_BYPASS : Fld := fRO 0x110 0 0 1 0 keptMTWC
/-- LANE.ANCTAP.DID -/
def Fld.LANE_ANCTAP_DID : Fld := fRW 0x120 4 24 8 0 keptMTWCS
/-- LANE.ANCTAP.SDID -/
def Fld.LANE_ANCTAP_SDID : Fld := fRW 0x120 4 16 8 0 keptMTWCS
/-- LANE.ANCTAP.SDID_ANY -/
def Fld.LANE_ANCTAP_SDID_ANY : Fld := fRW 0x120 4 15 1 0 keptMTWCS
/-- LANE.ANCTAP.ENABLE -/
def Fld.LANE_ANCTAP_ENABLE : Fld := fRW 0x120 4 14 1 0 keptMTWCS
/-- LANE.ANCTAP.QUEUE -/
def Fld.LANE_ANCTAP_QUEUE : Fld := fRW 0x120 4 0 10 0 keptMTWCS
/-- LANE.ANCCLASS.DID -/
def Fld.LANE_ANCCLASS_DID : Fld := fRW 0x140 4 24 8 0 keptMTWCS
/-- LANE.ANCCLASS.SDID -/
def Fld.LANE_ANCCLASS_SDID : Fld := fRW 0x140 4 16 8 0 keptMTWCS
/-- LANE.ANCCLASS.SDID_ANY -/
def Fld.LANE_ANCCLASS_SDID_ANY : Fld := fRW 0x140 4 15 1 0 keptMTWCS
/-- LANE.ANCCLASS.VALID -/
def Fld.LANE_ANCCLASS_VALID : Fld := fRW 0x140 4 14 1 0 keptMTWCS
/-- LANE.ANCCLASS.CLASS -/
def Fld.LANE_ANCCLASS_CLASS : Fld := fRW 0x140 4 0 2 0 keptMTWCS
/-- LANE.AUDRXSTAT.PRESENT -/
def Fld.LANE_AUDRXSTAT_PRESENT : Fld := fRO 0x160 0 0 32 0 keptMTWC
/-- LANE.AUDRXASYNC.ASYNC -/
def Fld.LANE_AUDRXASYNC_ASYNC : Fld := fRO 0x164 0 0 32 0 keptMTWC
/-- LANE.AUDRXR96.R96 -/
def Fld.LANE_AUDRXR96_R96 : Fld := fRO 0x168 0 0 32 0 keptMTWC
/-- LANE.AUDERR.PKT_ERR -/
def Fld.LANE_AUDERR_PKT_ERR : Fld := fRO 0x170 0 16 16 0 keptMTWCS
/-- LANE.AUDERR.PARITY -/
def Fld.LANE_AUDERR_PARITY : Fld := fRO 0x170 0 0 16 0 keptMTWCS
/-- LANE.AUDERR2.UNMAPPED -/
def Fld.LANE_AUDERR2_UNMAPPED : Fld := fRO 0x174 0 0 16 0 keptMTWCS
/-- LANE.AUDTX.MADI_FMT -/
def Fld.LANE_AUDTX_MADI_FMT : Fld := fRG 0x180 0 8 2 0 keptMTWCS 0 2
/-- LANE.AUDTX.SD_24BIT -/
def Fld.LANE_AUDTX_SD_24BIT : Fld := fRW 0x180 0 4 1 1 keptMTWCS
/-- LANE.AUDTX.CTRL_PKT -/
def Fld.LANE_AUDTX_CTRL_PKT : Fld := fRW 0x180 0 0 1 1 keptMTWCS
/-- LANE.AUDTX_EN.GROUP_EN -/
def Fld.LANE_AUDTX_EN_GROUP_EN : Fld := fRW 0x184 0 0 32 0xFFFFFFFF keptMTWCS
/-- LANE.AUDTX_R96.R96 -/
def Fld.LANE_AUDTX_R96_R96 : Fld := fRW 0x188 0 0 32 0 keptMTWCS
/-- LANE.DEF.TSF -/
def Fld.LANE_DEF_TSF : Fld := fRO 0x1C0 0 16 8 0 keptMTWC
/-- LANE.DEF.DEG -/
def Fld.LANE_DEF_DEG : Fld := fRO 0x1C0 0 4 1 0 keptMTWC
/-- LANE.DEF.BOND -/
def Fld.LANE_DEF_BOND : Fld := fRO 0x1C0 0 3 1 0 keptMTWC
/-- LANE.DEF.LOF -/
def Fld.LANE_DEF_LOF : Fld := fRO 0x1C0 0 2 1 0 keptMTWC
/-- LANE.DEF.LOL -/
def Fld.LANE_DEF_LOL : Fld := fRO 0x1C0 0 1 1 0 keptMTWC
/-- LANE.DEF.LOS -/
def Fld.LANE_DEF_LOS : Fld := fRO 0x1C0 0 0 1 1 keptMTWC
/-- LANE.DEF_LATCH.TSF -/
def Fld.LANE_DEF_LATCH_TSF : Fld := fW1 0x1C4 0 16 8 0 keptMTWC
/-- LANE.DEF_LATCH.DEG -/
def Fld.LANE_DEF_LATCH_DEG : Fld := fW1 0x1C4 0 4 1 0 keptMTWC
/-- LANE.DEF_LATCH.BOND -/
def Fld.LANE_DEF_LATCH_BOND : Fld := fW1 0x1C4 0 3 1 0 keptMTWC
/-- LANE.DEF_LATCH.LOF -/
def Fld.LANE_DEF_LATCH_LOF : Fld := fW1 0x1C4 0 2 1 0 keptMTWC
/-- LANE.DEF_LATCH.LOL -/
def Fld.LANE_DEF_LATCH_LOL : Fld := fW1 0x1C4 0 1 1 0 keptMTWC
/-- LANE.DEF_LATCH.LOS -/
def Fld.LANE_DEF_LATCH_LOS : Fld := fW1 0x1C4 0 0 1 1 keptMTWC
/-- LANE.DEF_MASK.TSF -/
def Fld.LANE_DEF_MASK_TSF : Fld := fRW 0x1C8 0 16 8 0 keptMTWCS
/-- LANE.DEF_MASK.DEG -/
def Fld.LANE_DEF_MASK_DEG : Fld := fRW 0x1C8 0 4 1 0 keptMTWCS
/-- LANE.DEF_MASK.BOND -/
def Fld.LANE_DEF_MASK_BOND : Fld := fRW 0x1C8 0 3 1 0 keptMTWCS
/-- LANE.DEF_MASK.LOF -/
def Fld.LANE_DEF_MASK_LOF : Fld := fRW 0x1C8 0 2 1 0 keptMTWCS
/-- LANE.DEF_MASK.LOL -/
def Fld.LANE_DEF_MASK_LOL : Fld := fRW 0x1C8 0 1 1 0 keptMTWCS
/-- LANE.DEF_MASK.LOS -/
def Fld.LANE_DEF_MASK_LOS : Fld := fRW 0x1C8 0 0 1 0 keptMTWCS
/-- LANE.DEG_CFG.DEG_M -/
def Fld.LANE_DEG_CFG_DEG_M : Fld := fRG 0x1CC 0 16 4 3 keptMTWCS 1 10
/-- LANE.DEG_CFG.DEG_THR -/
def Fld.LANE_DEG_CFG_DEG_THR : Fld := fRG 0x1CC 0 0 16 0x064 keptMTWCS 1 65535
/-- LANE.PM_CUR.UAS -/
def Fld.LANE_PM_CUR_UAS : Fld := fRO 0x1D0 0 31 1 0 keptMTWCS
/-- LANE.PM_CUR.ES_NOW -/
def Fld.LANE_PM_CUR_ES_NOW : Fld := fRO 0x1D0 0 30 1 0 keptMTWC
/-- LANE.PM_CUR.ERR_UNITS -/
def Fld.LANE_PM_CUR_ERR_UNITS : Fld := fRO 0x1D0 0 0 24 0 keptMTWC
/-- LANE.PM_15C.SUSPECT -/
def Fld.LANE_PM_15C_SUSPECT : Fld := fRO 0x1D4 0 31 1 1 keptMTWCS
/-- LANE.PM_15C.UAS -/
def Fld.LANE_PM_15C_UAS : Fld := fRO 0x1D4 0 20 10 0 keptMTWCS
/-- LANE.PM_15C.SES -/
def Fld.LANE_PM_15C_SES : Fld := fRO 0x1D4 0 10 10 0 keptMTWCS
/-- LANE.PM_15C.ES -/
def Fld.LANE_PM_15C_ES : Fld := fRO 0x1D4 0 0 10 0 keptMTWCS
/-- LANE.PM_15P.SUSPECT -/
def Fld.LANE_PM_15P_SUSPECT : Fld := fRO 0x1D8 0 31 1 1 keptMTWCS
/-- LANE.PM_15P.UAS -/
def Fld.LANE_PM_15P_UAS : Fld := fRO 0x1D8 0 20 10 0 keptMTWCS
/-- LANE.PM_15P.SES -/
def Fld.LANE_PM_15P_SES : Fld := fRO 0x1D8 0 10 10 0 keptMTWCS
/-- LANE.PM_15P.ES -/
def Fld.LANE_PM_15P_ES : Fld := fRO 0x1D8 0 0 10 0 keptMTWCS
/-- LANE.PM_24C_ES.SUSPECT -/
def Fld.LANE_PM_24C_ES_SUSPECT : Fld := fRO 0x1DC 0 31 1 1 keptMTWCS
/-- LANE.PM_24C_ES.COUNT -/
def Fld.LANE_PM_24C_ES_COUNT : Fld := fRO 0x1DC 0 0 17 0 keptMTWCS
/-- LANE.PM_24C_SES.COUNT -/
def Fld.LANE_PM_24C_SES_COUNT : Fld := fRO 0x1E0 0 0 17 0 keptMTWCS
/-- LANE.PM_24C_UAS.COUNT -/
def Fld.LANE_PM_24C_UAS_COUNT : Fld := fRO 0x1E4 0 0 17 0 keptMTWCS
/-- LANE.PM_24P_ES.SUSPECT -/
def Fld.LANE_PM_24P_ES_SUSPECT : Fld := fRO 0x1E8 0 31 1 1 keptMTWCS
/-- LANE.PM_24P_ES.COUNT -/
def Fld.LANE_PM_24P_ES_COUNT : Fld := fRO 0x1E8 0 0 17 0 keptMTWCS
/-- LANE.PM_24P_SES.COUNT -/
def Fld.LANE_PM_24P_SES_COUNT : Fld := fRO 0x1EC 0 0 17 0 keptMTWCS
/-- LANE.PM_24P_UAS.COUNT -/
def Fld.LANE_PM_24P_UAS_COUNT : Fld := fRO 0x1F0 0 0 17 0 keptMTWCS

/-- Registers of the LANE page, part 0. -/
def regsLANE_0 : List RegD :=
  [⟨0x020, 0, 1, [.LANE_RXCFG_POL_INV, .LANE_RXCFG_AUTO, .LANE_RXCFG_MODE]⟩,
   ⟨0x024, 0, 1, [.LANE_TXCFG_FOLLOW_LANE, .LANE_TXCFG_TDOM, .LANE_TXCFG_FORCE_IDLE, .LANE_TXCFG_POL_INV, .LANE_TXCFG_TIMING, .LANE_TXCFG_MODE]⟩,
   ⟨0x028, 0, 1, [.LANE_RXEQ_PRESET]⟩,
   ⟨0x02C, 0, 1, [.LANE_TXDRV_EMPH, .LANE_TXDRV_SWING]⟩,
   ⟨0x030, 0, 1, [.LANE_TESTCFG_RX_ENABLE, .LANE_TESTCFG_TX_ENABLE, .LANE_TESTCFG_RATE, .LANE_TESTCFG_PATTERN]⟩,
   ⟨0x034, 0, 1, [.LANE_TESTCTL_CNT_CLR, .LANE_TESTCTL_INJECT]⟩,
   ⟨0x040, 0, 1, [.LANE_LSTAT_TX_SYNTH, .LANE_LSTAT_CHK_LOCK, .LANE_LSTAT_BOND_TX, .LANE_LSTAT_BOND_RX, .LANE_LSTAT_LOL, .LANE_LSTAT_LOS, .LANE_LSTAT_TX_STATE, .LANE_LSTAT_RX_STATE]⟩,
   ⟨0x044, 0, 1, [.LANE_DETSTAT_DET_CHANGES, .LANE_DETSTAT_DET_VALID, .LANE_DETSTAT_DET_FAMILY, .LANE_DETSTAT_DET_MODE]⟩,
   ⟨0x048, 0, 1, [.LANE_RXFREQ_OFFSET]⟩,
   ⟨0x04C, 0, 1, [.LANE_QUADSTAT_PLL1_LANE, .LANE_QUADSTAT_PLL1_LOCK, .LANE_QUADSTAT_PLL1_SRC, .LANE_QUADSTAT_PLL0_LANE, .LANE_QUADSTAT_PLL0_LOCK, .LANE_QUADSTAT_PLL0_SRC]⟩,
   ⟨0x050, 0, 1, [.LANE_TESTCNT_COUNT]⟩,
   ⟨0x400, 0, 1, [.LANE_RXEQ_X_CDR_BW, .LANE_RXEQ_X_DFE_FREEZE, .LANE_RXEQ_X_CTLE_MANUAL, .LANE_RXEQ_X_CTLE_GAIN]⟩,
   ⟨0x404, 0, 1, [.LANE_TXFFE_X_FFE_MANUAL, .LANE_TXFFE_X_POST, .LANE_TXFFE_X_MAIN, .LANE_TXFFE_X_PRE]⟩,
   ⟨0x408, 0, 1, [.LANE_LOOPBACK_X_NEAR_END]⟩,
   ⟨0x40C, 0, 1, [.LANE_LOS_X_CLR_LEVEL, .LANE_LOS_X_SET_LEVEL]⟩,
   ⟨0x060, 0, 1, [.LANE_FRMCFG_ASI_PKT, .LANE_FRMCFG_EDH_CHECK, .LANE_FRMCFG_LN_CHECK, .LANE_FRMCFG_PID_CHECK]⟩,
   ⟨0x064, 0, 1, [.LANE_FRMSTAT_CAND, .LANE_FRMSTAT_BOND_ORDER, .LANE_FRMSTAT_BOND_SKEW, .LANE_FRMSTAT_PID_MISMATCH, .LANE_FRMSTAT_PID_ABSENT, .LANE_FRMSTAT_FMT_UNKNOWN, .LANE_FRMSTAT_SUBFMT, .LANE_FRMSTAT_FMT, .LANE_FRMSTAT_EDH_ABSENT, .LANE_FRMSTAT_S2_LOSS, .LANE_FRMSTAT_STREAMS, .LANE_FRMSTAT_STATE]⟩,
   ⟨0x068, 0, 1, [.LANE_FRMGEOM_SCAN, .LANE_FRMGEOM_ACTIVE, .LANE_FRMGEOM_LINE_LEN]⟩,
   ⟨0x06C, 0, 1, [.LANE_FRMLINES_BOND_SKEW, .LANE_FRMLINES_LINES]⟩,
   ⟨0x070, 0, 1, [.LANE_FRMCNT_AMBIG_CNT, .LANE_FRMCNT_LOSS_CNT, .LANE_FRMCNT_CAND_FULL]⟩]


/-- Registers of the LANE page, part 1. -/
def regsLANE_1 : List RegD :=
  [⟨0x074, 0, 1, [.LANE_TRSERR_COUNT]⟩,
   ⟨0x078, 0, 1, [.LANE_LINEERR_COUNT]⟩,
   ⟨0x07C, 0, 1, [.LANE_LNERR_PID_CSUM, .LANE_LNERR_LN_ERR]⟩,
   ⟨0x080, 0, 1, [.LANE_PID1_BYTES]⟩,
   ⟨0x084, 0, 1, [.LANE_PID2_BYTES]⟩,
   ⟨0x088, 0, 1, [.LANE_FRMCTL_CNT_CLR]⟩,
   ⟨0x410, 0, 1, [.LANE_FRM_X_PID_ABSENT_FRAMES, .LANE_FRM_X_LOSS_TRS]⟩,
   ⟨0x0A0, 0, 1, [.LANE_ALIGNCFG_TDOM, .LANE_ALIGNCFG_ALIGN_EN]⟩,
   ⟨0x0A4, 0, 1, [.LANE_TXREGEN_PID_B34, .LANE_TXREGEN_EDH_INS, .LANE_TXREGEN_PID_MODE, .LANE_TXREGEN_BLANK]⟩,
   ⟨0x0A8, 0, 1, [.LANE_CRSCNT_OOC_CNT, .LANE_CRSCNT_STEP_CNT]⟩,
   ⟨0x0AC, 0, 1, [.LANE_CRSCTL_CNT_CLR]⟩,
   ⟨0x0C0, 4, 8, [.LANE_PTR_STATE, .LANE_PTR_DRIFT, .LANE_PTR_POS]⟩,
   ⟨0x0E0, 4, 8, [.LANE_JUST_INC, .LANE_JUST_DEC]⟩,
   ⟨0x420, 0, 1, [.LANE_ALIGN_X_DRIFT_LIMIT, .LANE_ALIGN_X_PTR_MAX, .LANE_ALIGN_X_PTR_MIN]⟩,
   ⟨0x100, 0, 1, [.LANE_ANCCFG_DEFAULT_CLASS, .LANE_ANCCFG_BAD_PKT, .LANE_ANCCFG_TX_PATH, .LANE_ANCCFG_RX_PATH]⟩,
   ⟨0x104, 0, 1, [.LANE_ANCCTL_CNT_CLR]⟩,
   ⟨0x108, 0, 1, [.LANE_ANCERR_HDR_ERR, .LANE_ANCERR_CS_ERR]⟩,
   ⟨0x10C, 0, 1, [.LANE_ANCERR2_DELETED, .LANE_ANCERR2_OVER]⟩,
   ⟨0x110, 0, 1, [.LANE_ANCSTAT_TX_BYPASS, .LANE_ANCSTAT_RX_BYPASS]⟩,
   ⟨0x120, 4, 4, [.LANE_ANCTAP_DID, .LANE_ANCTAP_SDID, .LANE_ANCTAP_SDID_ANY, .LANE_ANCTAP_ENABLE, .LANE_ANCTAP_QUEUE]⟩]


/-- Registers of the LANE page, part 2. -/
def regsLANE_2 : List RegD :=
  [⟨0x140, 4, 8, [.LANE_ANCCLASS_DID, .LANE_ANCCLASS_SDID, .LANE_ANCCLASS_SDID_ANY, .LANE_ANCCLASS_VALID, .LANE_ANCCLASS_CLASS]⟩,
   ⟨0x160, 0, 1, [.LANE_AUDRXSTAT_PRESENT]⟩,
   ⟨0x164, 0, 1, [.LANE_AUDRXASYNC_ASYNC]⟩,
   ⟨0x168, 0, 1, [.LANE_AUDRXR96_R96]⟩,
   ⟨0x170, 0, 1, [.LANE_AUDERR_PKT_ERR, .LANE_AUDERR_PARITY]⟩,
   ⟨0x174, 0, 1, [.LANE_AUDERR2_UNMAPPED]⟩,
   ⟨0x180, 0, 1, [.LANE_AUDTX_MADI_FMT, .LANE_AUDTX_SD_24BIT, .LANE_AUDTX_CTRL_PKT]⟩,
   ⟨0x184, 0, 1, [.LANE_AUDTX_EN_GROUP_EN]⟩,
   ⟨0x188, 0, 1, [.LANE_AUDTX_R96_R96]⟩,
   ⟨0x1C0, 0, 1, [.LANE_DEF_TSF, .LANE_DEF_DEG, .LANE_DEF_BOND, .LANE_DEF_LOF, .LANE_DEF_LOL, .LANE_DEF_LOS]⟩,
   ⟨0x1C4, 0, 1, [.LANE_DEF_LATCH_TSF, .LANE_DEF_LATCH_DEG, .LANE_DEF_LATCH_BOND, .LANE_DEF_LATCH_LOF, .LANE_DEF_LATCH_LOL, .LANE_DEF_LATCH_LOS]⟩,
   ⟨0x1C8, 0, 1, [.LANE_DEF_MASK_TSF, .LANE_DEF_MASK_DEG, .LANE_DEF_MASK_BOND, .LANE_DEF_MASK_LOF, .LANE_DEF_MASK_LOL, .LANE_DEF_MASK_LOS]⟩,
   ⟨0x1CC, 0, 1, [.LANE_DEG_CFG_DEG_M, .LANE_DEG_CFG_DEG_THR]⟩,
   ⟨0x1D0, 0, 1, [.LANE_PM_CUR_UAS, .LANE_PM_CUR_ES_NOW, .LANE_PM_CUR_ERR_UNITS]⟩,
   ⟨0x1D4, 0, 1, [.LANE_PM_15C_SUSPECT, .LANE_PM_15C_UAS, .LANE_PM_15C_SES, .LANE_PM_15C_ES]⟩,
   ⟨0x1D8, 0, 1, [.LANE_PM_15P_SUSPECT, .LANE_PM_15P_UAS, .LANE_PM_15P_SES, .LANE_PM_15P_ES]⟩,
   ⟨0x1DC, 0, 1, [.LANE_PM_24C_ES_SUSPECT, .LANE_PM_24C_ES_COUNT]⟩,
   ⟨0x1E0, 0, 1, [.LANE_PM_24C_SES_COUNT]⟩,
   ⟨0x1E4, 0, 1, [.LANE_PM_24C_UAS_COUNT]⟩,
   ⟨0x1E8, 0, 1, [.LANE_PM_24P_ES_SUSPECT, .LANE_PM_24P_ES_COUNT]⟩]


/-- Registers of the LANE page, part 3. -/
def regsLANE_3 : List RegD :=
  [⟨0x1EC, 0, 1, [.LANE_PM_24P_SES_COUNT]⟩,
   ⟨0x1F0, 0, 1, [.LANE_PM_24P_UAS_COUNT]⟩]

/-- Registers of the LANE page. -/
def regsLANE : List RegD := regsLANE_0 ++ regsLANE_1 ++ regsLANE_2 ++ regsLANE_3

end Sys2Proof.Machine
end

