-- ==== Sys2Proof/Machine/RegsTime.lean ====
section
/-! DEFINITION. The register fields of the pages TMU, REFIN, TDOM, written from the field tables of the spec. -/

namespace Sys2Proof.Machine

/-- TMU.SEL_CFG.WTR -/
def Fld.TMU_SEL_CFG_WTR : Fld := fRG 0x020 0 16 12 0x03C keptMDWCS 0 3600
/-- TMU.SEL_CFG.REVERT -/
def Fld.TMU_SEL_CFG_REVERT : Fld := fRW 0x020 0 8 1 1 keptMDWCS
/-- TMU.SEL_CFG.MANUAL -/
def Fld.TMU_SEL_CFG_MANUAL : Fld := fRW 0x020 0 4 3 0 keptMDWCS
/-- TMU.SEL_CFG.MODE -/
def Fld.TMU_SEL_CFG_MODE : Fld := fRG 0x020 0 0 2 0 keptMDWCS 0 2
/-- TMU.PRIO.VALID_7 -/
def Fld.TMU_PRIO_VALID_7 : Fld := fRW 0x024 0 31 1 1 keptMDWCS
/-- TMU.PRIO.REF_7 -/
def Fld.TMU_PRIO_REF_7 : Fld := fRW 0x024 0 28 3 7 keptMDWCS
/-- TMU.PRIO.VALID_6 -/
def Fld.TMU_PRIO_VALID_6 : Fld := fRW 0x024 0 27 1 1 keptMDWCS
/-- TMU.PRIO.REF_6 -/
def Fld.TMU_PRIO_REF_6 : Fld := fRW 0x024 0 24 3 6 keptMDWCS
/-- TMU.PRIO.VALID_5 -/
def Fld.TMU_PRIO_VALID_5 : Fld := fRW 0x024 0 23 1 1 keptMDWCS
/-- TMU.PRIO.REF_5 -/
def Fld.TMU_PRIO_REF_5 : Fld := fRW 0x024 0 20 3 5 keptMDWCS
/-- TMU.PRIO.VALID_4 -/
def Fld.TMU_PRIO_VALID_4 : Fld := fRW 0x024 0 19 1 1 keptMDWCS
/-- TMU.PRIO.REF_4 -/
def Fld.TMU_PRIO_REF_4 : Fld := fRW 0x024 0 16 3 4 keptMDWCS
/-- TMU.PRIO.VALID_3 -/
def Fld.TMU_PRIO_VALID_3 : Fld := fRW 0x024 0 15 1 1 keptMDWCS
/-- TMU.PRIO.REF_3 -/
def Fld.TMU_PRIO_REF_3 : Fld := fRW 0x024 0 12 3 3 keptMDWCS
/-- TMU.PRIO.VALID_2 -/
def Fld.TMU_PRIO_VALID_2 : Fld := fRW 0x024 0 11 1 1 keptMDWCS
/-- TMU.PRIO.REF_2 -/
def Fld.TMU_PRIO_REF_2 : Fld := fRW 0x024 0 8 3 2 keptMDWCS
/-- TMU.PRIO.VALID_1 -/
def Fld.TMU_PRIO_VALID_1 : Fld := fRW 0x024 0 7 1 1 keptMDWCS
/-- TMU.PRIO.REF_1 -/
def Fld.TMU_PRIO_REF_1 : Fld := fRW 0x024 0 4 3 1 keptMDWCS
/-- TMU.PRIO.VALID_0 -/
def Fld.TMU_PRIO_VALID_0 : Fld := fRW 0x024 0 3 1 1 keptMDWCS
/-- TMU.PRIO.REF_0 -/
def Fld.TMU_PRIO_REF_0 : Fld := fRW 0x024 0 0 3 0 keptMDWCS
/-- TMU.HOLD_CFG.W -/
def Fld.TMU_HOLD_CFG_W : Fld := fRW 0x028 0 16 10 0x100 keptMDWCS
/-- TMU.HOLD_CFG.HOLDOFF -/
def Fld.TMU_HOLD_CFG_HOLDOFF : Fld := fRW 0x028 0 0 10 0x040 keptMDWCS
/-- TMU.SLEW.RATE -/
def Fld.TMU_SLEW_RATE : Fld := fRG 0x02C 0 0 6 20 keptMDWCS 1 50
/-- TMU.PHASE_STEP.STEP -/
def Fld.TMU_PHASE_STEP_STEP : Fld := fWC 0x030 0 0 32 0 4294967295
/-- TMU.PHASE_LEFT.LEFT -/
def Fld.TMU_PHASE_LEFT_LEFT : Fld := fRO 0x034 0 0 32 0 keptMDWCS
/-- TMU.CTL.HIST_CLR -/
def Fld.TMU_CTL_HIST_CLR : Fld := fWC 0x038 0 1 1 0 1
/-- TMU.CTL.CAL_CAPTURE -/
def Fld.TMU_CTL_CAL_CAPTURE : Fld := fWC 0x038 0 0 1 0 1
/-- TMU.STAT.WTR_LEFT -/
def Fld.TMU_STAT_WTR_LEFT : Fld := fRO 0x040 0 16 12 0 keptMDWCS
/-- TMU.STAT.TARGET -/
def Fld.TMU_STAT_TARGET : Fld := fRO 0x040 0 12 3 0 keptMDWCS
/-- TMU.STAT.SEL_REF -/
def Fld.TMU_STAT_SEL_REF : Fld := fRO 0x040 0 8 3 0 keptMDWCS
/-- TMU.STAT.SEL_VALID -/
def Fld.TMU_STAT_SEL_VALID : Fld := fRO 0x040 0 6 1 0 keptMDWCS
/-- TMU.STAT.ALARM -/
def Fld.TMU_STAT_ALARM : Fld := fRO 0x040 0 5 1 0 keptMDWCS
/-- TMU.STAT.HIST_FROZEN -/
def Fld.TMU_STAT_HIST_FROZEN : Fld := fRO 0x040 0 4 1 0 keptMDWCS
/-- TMU.STAT.HOLDOVER_SHORT -/
def Fld.TMU_STAT_HOLDOVER_SHORT : Fld := fRO 0x040 0 3 1 0 keptMDWCS
/-- TMU.STAT.TRANSITION -/
def Fld.TMU_STAT_TRANSITION : Fld := fRO 0x040 0 2 1 0 keptMDWCS
/-- TMU.STAT.STATE -/
def Fld.TMU_STAT_STATE : Fld := fRO 0x040 0 0 2 0 keptMDWCS
/-- TMU.DCO_LO.LO -/
def Fld.TMU_DCO_LO_LO : Fld := fRO 0x044 0 0 32 0 keptMDWCS
/-- TMU.DCO_HI.HI -/
def Fld.TMU_DCO_HI_HI : Fld := fRO 0x048 0 0 16 0 keptMDWCS
/-- TMU.HOLD_LO.LO -/
def Fld.TMU_HOLD_LO_LO : Fld := fRO 0x04C 0 0 32 0 keptMDWCS
/-- TMU.HOLD_HI.HOLD_N -/
def Fld.TMU_HOLD_HI_HOLD_N : Fld := fRO 0x050 0 16 11 0 keptMDWCS
/-- TMU.HOLD_HI.HI -/
def Fld.TMU_HOLD_HI_HI : Fld := fRO 0x050 0 0 16 0 keptMDWCS
/-- TMU.XO_CAL_LO.LO -/
def Fld.TMU_XO_CAL_LO_LO : Fld := fRW 0x054 0 0 32 0 keptMDTWCBS
/-- TMU.XO_CAL_HI.HI -/
def Fld.TMU_XO_CAL_HI_HI : Fld := fRW 0x058 0 0 16 0 keptMDTWCBS
/-- TMU.PBO.PBO -/
def Fld.TMU_PBO_PBO : Fld := fRO 0x05C 0 0 32 0 keptMDWCS
/-- TMU.HIST.VALID_N -/
def Fld.TMU_HIST_VALID_N : Fld := fRO 0x060 0 0 11 0 keptMDWCS
/-- TMU.AUD_CFG.WCLK_EN -/
def Fld.TMU_AUD_CFG_WCLK_EN : Fld := fRW 0x070 0 8 1 1 keptMDWCS
/-- TMU.AUD_CFG.TDOM -/
def Fld.TMU_AUD_CFG_TDOM : Fld := fRW 0x070 0 4 4 0 keptMDWCS
/-- TMU.AUD_CFG.ALIGN -/
def Fld.TMU_AUD_CFG_ALIGN : Fld := fRW 0x070 0 0 2 0 keptMDWCS
/-- TMU.AUD_CTL.REALIGN -/
def Fld.TMU_AUD_CTL_REALIGN : Fld := fWC 0x074 0 0 1 0 1
/-- TMU.FP_CFG.ENABLE -/
def Fld.TMU_FP_CFG_ENABLE : Fld := fRW 0x080 4 31 1 0 keptMDWCS
/-- TMU.FP_CFG.POL -/
def Fld.TMU_FP_CFG_POL : Fld := fRW 0x080 4 30 1 0 keptMDWCS
/-- TMU.FP_CFG.TDOM -/
def Fld.TMU_FP_CFG_TDOM : Fld := fRW 0x080 4 24 4 0 keptMDWCS
/-- TMU.FP_CFG.WIDTH -/
def Fld.TMU_FP_CFG_WIDTH : Fld := fRG 0x080 4 16 8 1 keptMDWCS 1 255
/-- TMU.FP_CFG.LINE -/
def Fld.TMU_FP_CFG_LINE : Fld := fRW 0x080 4 0 11 1 keptMDWCS
/-- TMU.CLK_CFG.FAM1 -/
def Fld.TMU_CLK_CFG_FAM1 : Fld := fRW 0x090 0 10 1 0 keptMDWCS
/-- TMU.CLK_CFG.FREQ1 -/
def Fld.TMU_CLK_CFG_FREQ1 : Fld := fRW 0x090 0 8 2 0 keptMDWCS
/-- TMU.CLK_CFG.FAM0 -/
def Fld.TMU_CLK_CFG_FAM0 : Fld := fRW 0x090 0 2 1 0 keptMDWCS
/-- TMU.CLK_CFG.FREQ0 -/
def Fld.TMU_CLK_CFG_FREQ0 : Fld := fRW 0x090 0 0 2 0 keptMDWCS

/-- Registers of the TMU page. -/
def regsTMU : List RegD :=
  [⟨0x020, 0, 1, [.TMU_SEL_CFG_WTR, .TMU_SEL_CFG_REVERT, .TMU_SEL_CFG_MANUAL, .TMU_SEL_CFG_MODE]⟩,
   ⟨0x024, 0, 1, [.TMU_PRIO_VALID_7, .TMU_PRIO_REF_7, .TMU_PRIO_VALID_6, .TMU_PRIO_REF_6, .TMU_PRIO_VALID_5, .TMU_PRIO_REF_5, .TMU_PRIO_VALID_4, .TMU_PRIO_REF_4, .TMU_PRIO_VALID_3, .TMU_PRIO_REF_3, .TMU_PRIO_VALID_2, .TMU_PRIO_REF_2, .TMU_PRIO_VALID_1, .TMU_PRIO_REF_1, .TMU_PRIO_VALID_0, .TMU_PRIO_REF_0]⟩,
   ⟨0x028, 0, 1, [.TMU_HOLD_CFG_W, .TMU_HOLD_CFG_HOLDOFF]⟩,
   ⟨0x02C, 0, 1, [.TMU_SLEW_RATE]⟩,
   ⟨0x030, 0, 1, [.TMU_PHASE_STEP_STEP]⟩,
   ⟨0x034, 0, 1, [.TMU_PHASE_LEFT_LEFT]⟩,
   ⟨0x038, 0, 1, [.TMU_CTL_HIST_CLR, .TMU_CTL_CAL_CAPTURE]⟩,
   ⟨0x040, 0, 1, [.TMU_STAT_WTR_LEFT, .TMU_STAT_TARGET, .TMU_STAT_SEL_REF, .TMU_STAT_SEL_VALID, .TMU_STAT_ALARM, .TMU_STAT_HIST_FROZEN, .TMU_STAT_HOLDOVER_SHORT, .TMU_STAT_TRANSITION, .TMU_STAT_STATE]⟩,
   ⟨0x044, 0, 1, [.TMU_DCO_LO_LO]⟩,
   ⟨0x048, 0, 1, [.TMU_DCO_HI_HI]⟩,
   ⟨0x04C, 0, 1, [.TMU_HOLD_LO_LO]⟩,
   ⟨0x050, 0, 1, [.TMU_HOLD_HI_HOLD_N, .TMU_HOLD_HI_HI]⟩,
   ⟨0x054, 0, 1, [.TMU_XO_CAL_LO_LO]⟩,
   ⟨0x058, 0, 1, [.TMU_XO_CAL_HI_HI]⟩,
   ⟨0x05C, 0, 1, [.TMU_PBO_PBO]⟩,
   ⟨0x060, 0, 1, [.TMU_HIST_VALID_N]⟩,
   ⟨0x070, 0, 1, [.TMU_AUD_CFG_WCLK_EN, .TMU_AUD_CFG_TDOM, .TMU_AUD_CFG_ALIGN]⟩,
   ⟨0x074, 0, 1, [.TMU_AUD_CTL_REALIGN]⟩,
   ⟨0x080, 4, 4, [.TMU_FP_CFG_ENABLE, .TMU_FP_CFG_POL, .TMU_FP_CFG_TDOM, .TMU_FP_CFG_WIDTH, .TMU_FP_CFG_LINE]⟩,
   ⟨0x090, 0, 1, [.TMU_CLK_CFG_FAM1, .TMU_CLK_CFG_FREQ1, .TMU_CLK_CFG_FAM0, .TMU_CLK_CFG_FREQ0]⟩]

/-- REFIN.CFG.LANE -/
def Fld.REFIN_CFG_LANE : Fld := fRW 0x020 0 24 8 0 keptMDWCS
/-- REFIN.CFG.BW -/
def Fld.REFIN_CFG_BW : Fld := fRW 0x020 0 0 17 0 keptMDWCS
/-- REFIN.LIM.HARD -/
def Fld.REFIN_LIM_HARD : Fld := fRW 0x024 0 16 16 0x1388 keptMDWCS
/-- REFIN.LIM.SOFT -/
def Fld.REFIN_LIM_SOFT : Fld := fRW 0x024 0 0 16 0xBB8 keptMDWCS
/-- REFIN.RATE_LIM.RATE_LIM -/
def Fld.REFIN_RATE_LIM_RATE_LIM : Fld := fRG 0x028 0 0 10 0x032 keptMDWCS 1 1000
/-- REFIN.STAT.QUAL_CNT -/
def Fld.REFIN_STAT_QUAL_CNT : Fld := fRO 0x030 0 16 4 0 keptMDWCS
/-- REFIN.STAT.FMT -/
def Fld.REFIN_STAT_FMT : Fld := fRO 0x030 0 10 6 0 keptMDWCS
/-- REFIN.STAT.TYPE -/
def Fld.REFIN_STAT_TYPE : Fld := fRO 0x030 0 8 2 0 keptMDWCS
/-- REFIN.STAT.TEN_FIELD -/
def Fld.REFIN_STAT_TEN_FIELD : Fld := fRO 0x030 0 7 1 0 keptMDWCS
/-- REFIN.STAT.GRID -/
def Fld.REFIN_STAT_GRID : Fld := fRO 0x030 0 6 1 0 keptMDWCS
/-- REFIN.STAT.LOST -/
def Fld.REFIN_STAT_LOST : Fld := fRO 0x030 0 5 1 0 keptMDWCS
/-- REFIN.STAT.FAULT_PEND -/
def Fld.REFIN_STAT_FAULT_PEND : Fld := fRO 0x030 0 4 1 0 keptMDWCS
/-- REFIN.STAT.DRIFT -/
def Fld.REFIN_STAT_DRIFT : Fld := fRO 0x030 0 3 1 0 keptMDWCS
/-- REFIN.STAT.STATE -/
def Fld.REFIN_STAT_STATE : Fld := fRO 0x030 0 0 3 0 keptMDWCS
/-- REFIN.FREQ.FREQ -/
def Fld.REFIN_FREQ_FREQ : Fld := fRO 0x034 0 0 32 0 keptMDWCS
/-- REFIN.RATE.RATE -/
def Fld.REFIN_RATE_RATE : Fld := fRO 0x038 0 0 32 0 keptMDWCS
/-- REFIN.PEER.VALID -/
def Fld.REFIN_PEER_VALID : Fld := fRO 0x03C 0 31 1 0 keptMDWCS
/-- REFIN.PEER.PEER -/
def Fld.REFIN_PEER_PEER : Fld := fRO 0x03C 0 0 31 0 keptMDWCS
/-- REFIN.CNT.GLITCH -/
def Fld.REFIN_CNT_GLITCH : Fld := fRO 0x040 0 16 16 0 keptMDWCS
/-- REFIN.CNT.DISQ -/
def Fld.REFIN_CNT_DISQ : Fld := fRO 0x040 0 0 16 0 keptMDWCS
/-- REFIN.CTL.CNT_CLR -/
def Fld.REFIN_CTL_CNT_CLR : Fld := fWC 0x044 0 0 1 0 1
/-- REFIN.TOD_SEC_LO.SEC_LO -/
def Fld.REFIN_TOD_SEC_LO_SEC_LO : Fld := fRO 0x050 0 0 32 0 keptMDWCS
/-- REFIN.TOD_SEC_HI.TOD_VALID -/
def Fld.REFIN_TOD_SEC_HI_TOD_VALID : Fld := fRO 0x054 0 31 1 0 keptMDWCS
/-- REFIN.TOD_SEC_HI.FLAGS -/
def Fld.REFIN_TOD_SEC_HI_FLAGS : Fld := fRO 0x054 0 16 8 0 keptMDWCS
/-- REFIN.TOD_SEC_HI.SEC_HI -/
def Fld.REFIN_TOD_SEC_HI_SEC_HI : Fld := fRO 0x054 0 0 8 0 keptMDWCS
/-- REFIN.TOD_CNT.CRC_ERR -/
def Fld.REFIN_TOD_CNT_CRC_ERR : Fld := fRO 0x058 0 16 16 0 keptMDWCS
/-- REFIN.TOD_CNT.SEQ_ERR -/
def Fld.REFIN_TOD_CNT_SEQ_ERR : Fld := fRO 0x058 0 0 16 0 keptMDWCS

/-- Registers of the REFIN page. -/
def regsREFIN : List RegD :=
  [⟨0x020, 0, 1, [.REFIN_CFG_LANE, .REFIN_CFG_BW]⟩,
   ⟨0x024, 0, 1, [.REFIN_LIM_HARD, .REFIN_LIM_SOFT]⟩,
   ⟨0x028, 0, 1, [.REFIN_RATE_LIM_RATE_LIM]⟩,
   ⟨0x030, 0, 1, [.REFIN_STAT_QUAL_CNT, .REFIN_STAT_FMT, .REFIN_STAT_TYPE, .REFIN_STAT_TEN_FIELD, .REFIN_STAT_GRID, .REFIN_STAT_LOST, .REFIN_STAT_FAULT_PEND, .REFIN_STAT_DRIFT, .REFIN_STAT_STATE]⟩,
   ⟨0x034, 0, 1, [.REFIN_FREQ_FREQ]⟩,
   ⟨0x038, 0, 1, [.REFIN_RATE_RATE]⟩,
   ⟨0x03C, 0, 1, [.REFIN_PEER_VALID, .REFIN_PEER_PEER]⟩,
   ⟨0x040, 0, 1, [.REFIN_CNT_GLITCH, .REFIN_CNT_DISQ]⟩,
   ⟨0x044, 0, 1, [.REFIN_CTL_CNT_CLR]⟩,
   ⟨0x050, 0, 1, [.REFIN_TOD_SEC_LO_SEC_LO]⟩,
   ⟨0x054, 0, 1, [.REFIN_TOD_SEC_HI_TOD_VALID, .REFIN_TOD_SEC_HI_FLAGS, .REFIN_TOD_SEC_HI_SEC_HI]⟩,
   ⟨0x058, 0, 1, [.REFIN_TOD_CNT_CRC_ERR, .REFIN_TOD_CNT_SEQ_ERR]⟩]

/-- TDOM.FMT.FCNT_EPOCH -/
def Fld.TDOM_FMT_FCNT_EPOCH : Fld := fRW 0x020 0 8 1 0 keptMDWCS
/-- TDOM.FMT.FMT -/
def Fld.TDOM_FMT_FMT : Fld := fRW 0x020 0 0 6 0 keptMDWCS
/-- TDOM.OFFSET.VOFF -/
def Fld.TDOM_OFFSET_VOFF : Fld := fRW 0x024 0 16 11 0 keptMDWCS
/-- TDOM.OFFSET.HOFF -/
def Fld.TDOM_OFFSET_HOFF : Fld := fRW 0x024 0 0 13 0 keptMDWCS
/-- TDOM.SWLINE.SWLINE -/
def Fld.TDOM_SWLINE_SWLINE : Fld := fRW 0x028 0 0 11 0 keptMDWCS
/-- TDOM.FCNT.FCNT -/
def Fld.TDOM_FCNT_FCNT : Fld := fRO 0x02C 0 0 32 0 keptMDWCS
/-- TDOM.REALIGN.CMD -/
def Fld.TDOM_REALIGN_CMD : Fld := fWC 0x030 0 16 2 0 3
/-- TDOM.REALIGN.FRAME -/
def Fld.TDOM_REALIGN_FRAME : Fld := fWC 0x030 0 0 16 0 65535
/-- TDOM.ALIGN_ERR.VALID -/
def Fld.TDOM_ALIGN_ERR_VALID : Fld := fRO 0x034 0 31 1 0 keptMDWCS
/-- TDOM.ALIGN_ERR.ERR -/
def Fld.TDOM_ALIGN_ERR_ERR : Fld := fRO 0x034 0 0 31 0 keptMDWCS
/-- TDOM.STAT.SWLINE_EFF -/
def Fld.TDOM_STAT_SWLINE_EFF : Fld := fRO 0x038 0 16 11 0 keptMDWCS
/-- TDOM.STAT.CANCELLED -/
def Fld.TDOM_STAT_CANCELLED : Fld := fRO 0x038 0 3 1 0 keptMDWCS
/-- TDOM.STAT.SLEWING -/
def Fld.TDOM_STAT_SLEWING : Fld := fRO 0x038 0 2 1 0 keptMDWCS
/-- TDOM.STAT.REALIGN -/
def Fld.TDOM_STAT_REALIGN : Fld := fRO 0x038 0 0 2 0 keptMDWCS
/-- TDOM.CTL.FCNT_CLR -/
def Fld.TDOM_CTL_FCNT_CLR : Fld := fWC 0x03C 0 0 1 0 1

/-- Registers of the TDOM page. -/
def regsTDOM : List RegD :=
  [⟨0x020, 0, 1, [.TDOM_FMT_FCNT_EPOCH, .TDOM_FMT_FMT]⟩,
   ⟨0x024, 0, 1, [.TDOM_OFFSET_VOFF, .TDOM_OFFSET_HOFF]⟩,
   ⟨0x028, 0, 1, [.TDOM_SWLINE_SWLINE]⟩,
   ⟨0x02C, 0, 1, [.TDOM_FCNT_FCNT]⟩,
   ⟨0x030, 0, 1, [.TDOM_REALIGN_CMD, .TDOM_REALIGN_FRAME]⟩,
   ⟨0x034, 0, 1, [.TDOM_ALIGN_ERR_VALID, .TDOM_ALIGN_ERR_ERR]⟩,
   ⟨0x038, 0, 1, [.TDOM_STAT_SWLINE_EFF, .TDOM_STAT_CANCELLED, .TDOM_STAT_SLEWING, .TDOM_STAT_REALIGN]⟩,
   ⟨0x03C, 0, 1, [.TDOM_CTL_FCNT_CLR]⟩]

end Sys2Proof.Machine
end

