-- ==== Sys2Proof/Machine/RegsTll.lean ====
section
/-! DEFINITION. The register fields of the pages TLL, written from the field tables of the spec. -/

namespace Sys2Proof.Machine

/-- TLL.CFG.FORCE_IDLE -/
def Fld.TLL_CFG_FORCE_IDLE : Fld := fRW 0x020 0 10 1 0 keptMTWCS
/-- TLL.CFG.TX_POL_INV -/
def Fld.TLL_CFG_TX_POL_INV : Fld := fRW 0x020 0 9 1 0 keptMTWCS
/-- TLL.CFG.RX_POL_INV -/
def Fld.TLL_CFG_RX_POL_INV : Fld := fRW 0x020 0 8 1 0 keptMTWCS
/-- TLL.CFG.TXMODE -/
def Fld.TLL_CFG_TXMODE : Fld := fRG 0x020 0 4 2 0 keptMTWCS 0 2
/-- TLL.CFG.RXMODE -/
def Fld.TLL_CFG_RXMODE : Fld := fRG 0x020 0 0 2 0 keptMTWCS 0 2
/-- TLL.FRMSTAT.BLOCK_LOCK -/
def Fld.TLL_FRMSTAT_BLOCK_LOCK : Fld := fRO 0x060 0 3 1 0 keptMTWC
/-- TLL.FRMSTAT.STATE -/
def Fld.TLL_FRMSTAT_STATE : Fld := fRO 0x060 0 0 3 0 keptMTWC
/-- TLL.FRMCNT.AMBIG_CNT -/
def Fld.TLL_FRMCNT_AMBIG_CNT : Fld := fRO 0x064 0 16 16 0 keptMTWCS
/-- TLL.FRMCNT.LOSS_CNT -/
def Fld.TLL_FRMCNT_LOSS_CNT : Fld := fRO 0x064 0 0 16 0 keptMTWCS
/-- TLL.HDRERR.COUNT -/
def Fld.TLL_HDRERR_COUNT : Fld := fRO 0x068 0 0 32 0 keptMTWCS
/-- TLL.ROWERR.COUNT -/
def Fld.TLL_ROWERR_COUNT : Fld := fRO 0x06C 0 0 32 0 keptMTWCS
/-- TLL.FRMCTL.CNT_CLR -/
def Fld.TLL_FRMCTL_CNT_CLR : Fld := fWC 0x070 0 0 1 0 1
/-- TLL.TDOMSEL0.TDOM_7 -/
def Fld.TLL_TDOMSEL0_TDOM_7 : Fld := fRW 0x0A0 0 28 4 0 keptMTWCS
/-- TLL.TDOMSEL0.TDOM_6 -/
def Fld.TLL_TDOMSEL0_TDOM_6 : Fld := fRW 0x0A0 0 24 4 0 keptMTWCS
/-- TLL.TDOMSEL0.TDOM_5 -/
def Fld.TLL_TDOMSEL0_TDOM_5 : Fld := fRW 0x0A0 0 20 4 0 keptMTWCS
/-- TLL.TDOMSEL0.TDOM_4 -/
def Fld.TLL_TDOMSEL0_TDOM_4 : Fld := fRW 0x0A0 0 16 4 0 keptMTWCS
/-- TLL.TDOMSEL0.TDOM_3 -/
def Fld.TLL_TDOMSEL0_TDOM_3 : Fld := fRW 0x0A0 0 12 4 0 keptMTWCS
/-- TLL.TDOMSEL0.TDOM_2 -/
def Fld.TLL_TDOMSEL0_TDOM_2 : Fld := fRW 0x0A0 0 8 4 0 keptMTWCS
/-- TLL.TDOMSEL0.TDOM_1 -/
def Fld.TLL_TDOMSEL0_TDOM_1 : Fld := fRW 0x0A0 0 4 4 0 keptMTWCS
/-- TLL.TDOMSEL0.TDOM_0 -/
def Fld.TLL_TDOMSEL0_TDOM_0 : Fld := fRW 0x0A0 0 0 4 0 keptMTWCS
/-- TLL.TDOMSEL1.TDOM_15 -/
def Fld.TLL_TDOMSEL1_TDOM_15 : Fld := fRW 0x0A4 0 28 4 0 keptMTWCS
/-- TLL.TDOMSEL1.TDOM_14 -/
def Fld.TLL_TDOMSEL1_TDOM_14 : Fld := fRW 0x0A4 0 24 4 0 keptMTWCS
/-- TLL.TDOMSEL1.TDOM_13 -/
def Fld.TLL_TDOMSEL1_TDOM_13 : Fld := fRW 0x0A4 0 20 4 0 keptMTWCS
/-- TLL.TDOMSEL1.TDOM_12 -/
def Fld.TLL_TDOMSEL1_TDOM_12 : Fld := fRW 0x0A4 0 16 4 0 keptMTWCS
/-- TLL.TDOMSEL1.TDOM_11 -/
def Fld.TLL_TDOMSEL1_TDOM_11 : Fld := fRW 0x0A4 0 12 4 0 keptMTWCS
/-- TLL.TDOMSEL1.TDOM_10 -/
def Fld.TLL_TDOMSEL1_TDOM_10 : Fld := fRW 0x0A4 0 8 4 0 keptMTWCS
/-- TLL.TDOMSEL1.TDOM_9 -/
def Fld.TLL_TDOMSEL1_TDOM_9 : Fld := fRW 0x0A4 0 4 4 0 keptMTWCS
/-- TLL.TDOMSEL1.TDOM_8 -/
def Fld.TLL_TDOMSEL1_TDOM_8 : Fld := fRW 0x0A4 0 0 4 0 keptMTWCS
/-- TLL.TXSLOT.TYPE -/
def Fld.TLL_TXSLOT_TYPE : Fld := fRW 0x200 4 30 2 0 keptMTWCS
/-- TLL.TXSLOT.PATTERN -/
def Fld.TLL_TXSLOT_PATTERN : Fld := fRG 0x200 4 26 4 2 keptMTWCS 1 7
/-- TLL.TXSLOT.MEMBER -/
def Fld.TLL_TXSLOT_MEMBER : Fld := fRO 0x200 4 23 3 0 keptMTWCS
/-- TLL.TXSLOT.PKT204 -/
def Fld.TLL_TXSLOT_PKT204 : Fld := fRW 0x200 4 22 1 0 keptMTWCS
/-- TLL.TXSLOT.MEMB -/
def Fld.TLL_TXSLOT_MEMB : Fld := fRO 0x200 4 21 1 0 keptMTWCS
/-- TLL.TXSLOT.TDOM -/
def Fld.TLL_TXSLOT_TDOM : Fld := fRW 0x200 4 16 4 0 keptMTWCS
/-- TLL.TXSLOT.TILE_ID -/
def Fld.TLL_TXSLOT_TILE_ID : Fld := fRW 0x200 4 0 12 0 keptMTWCS
/-- TLL.RXSLOT.STATE -/
def Fld.TLL_RXSLOT_STATE : Fld := fRO 0x240 4 30 2 0 keptMTWC
/-- TLL.RXSLOT.TYPE -/
def Fld.TLL_RXSLOT_TYPE : Fld := fRO 0x240 4 28 2 0 keptMTWC
/-- TLL.RXSLOT.FMT -/
def Fld.TLL_RXSLOT_FMT : Fld := fRO 0x240 4 22 6 0 keptMTWC
/-- TLL.RXSLOT.PATTERN -/
def Fld.TLL_RXSLOT_PATTERN : Fld := fRO 0x240 4 18 4 0 keptMTWC
/-- TLL.RXSLOT.MEMBER -/
def Fld.TLL_RXSLOT_MEMBER : Fld := fRO 0x240 4 15 3 0 keptMTWC
/-- TLL.RXSLOT.BOND_ERR -/
def Fld.TLL_RXSLOT_BOND_ERR : Fld := fRO 0x240 4 14 1 0 keptMTWC
/-- TLL.RXSLOT.TILE_ID -/
def Fld.TLL_RXSLOT_TILE_ID : Fld := fRO 0x240 4 0 12 0 keptMTWC
/-- TLL.HDRCNT.CRC_ERR -/
def Fld.TLL_HDRCNT_CRC_ERR : Fld := fRO 0x280 4 16 16 0 keptMTWCS
/-- TLL.HDRCNT.MISMATCH -/
def Fld.TLL_HDRCNT_MISMATCH : Fld := fRO 0x280 4 8 8 0 keptMTWCS
/-- TLL.HDRCNT.RELOCK -/
def Fld.TLL_HDRCNT_RELOCK : Fld := fRO 0x280 4 0 8 0 keptMTWCS
/-- TLL.JCWCNT.CORR -/
def Fld.TLL_JCWCNT_CORR : Fld := fRO 0x2C0 0 16 16 0 keptMTWCS
/-- TLL.JCWCNT.UNCORR -/
def Fld.TLL_JCWCNT_UNCORR : Fld := fRO 0x2C0 0 0 16 0 keptMTWCS
/-- TLL.OH_CFG.TRACE_CHK -/
def Fld.TLL_OH_CFG_TRACE_CHK : Fld := fRW 0x2C4 0 2 1 0 keptMTWCS
/-- TLL.OH_CFG.SRQ_SRC -/
def Fld.TLL_OH_CFG_SRQ_SRC : Fld := fRW 0x2C4 0 1 1 0 keptMTWCS
/-- TLL.OH_CFG.RDI_FORCE -/
def Fld.TLL_OH_CFG_RDI_FORCE : Fld := fRW 0x2C4 0 0 1 0 keptMTWCS
/-- TLL.OH_TX.SRQ1 -/
def Fld.TLL_OH_TX_SRQ1 : Fld := fRW 0x2C8 0 8 8 0 keptMTWCS
/-- TLL.OH_TX.SRQ2 -/
def Fld.TLL_OH_TX_SRQ2 : Fld := fRW 0x2C8 0 0 8 0 keptMTWCS
/-- TLL.OH_RX.SRQ1_ACC -/
def Fld.TLL_OH_RX_SRQ1_ACC : Fld := fRO 0x2CC 0 24 8 0 keptMTWC
/-- TLL.OH_RX.SRQ2_ACC -/
def Fld.TLL_OH_RX_SRQ2_ACC : Fld := fRO 0x2CC 0 16 8 0 keptMTWC
/-- TLL.OH_RX.SRQ1_RAW -/
def Fld.TLL_OH_RX_SRQ1_RAW : Fld := fRO 0x2CC 0 8 8 0 keptMTWC
/-- TLL.OH_RX.SRQ2_RAW -/
def Fld.TLL_OH_RX_SRQ2_RAW : Fld := fRO 0x2CC 0 0 8 0 keptMTWC
/-- TLL.OH_STAT.TIM -/
def Fld.TLL_OH_STAT_TIM : Fld := fRO 0x2D0 0 3 1 0 keptMTWC
/-- TLL.OH_STAT.SRQ_FAIL -/
def Fld.TLL_OH_STAT_SRQ_FAIL : Fld := fRO 0x2D0 0 2 1 0 keptMTWC
/-- TLL.OH_STAT.RDI_RX -/
def Fld.TLL_OH_STAT_RDI_RX : Fld := fRO 0x2D0 0 1 1 0 keptMTWC
/-- TLL.OH_STAT.RDI_TX -/
def Fld.TLL_OH_STAT_RDI_TX : Fld := fRO 0x2D0 0 0 1 0 keptMTWC
/-- TLL.BIPCNT.COUNT -/
def Fld.TLL_BIPCNT_COUNT : Fld := fRO 0x2D4 0 0 32 0 keptMTWCS
/-- TLL.REICNT.COUNT -/
def Fld.TLL_REICNT_COUNT : Fld := fRO 0x2D8 0 0 32 0 keptMTWCS
/-- TLL.TRACE_TX0.ID_LO -/
def Fld.TLL_TRACE_TX0_ID_LO : Fld := fRW 0x2E0 0 0 32 0 keptMTWCS
/-- TLL.TRACE_TX1.LANE -/
def Fld.TLL_TRACE_TX1_LANE : Fld := fRO 0x2E4 0 16 8 0 keptMTWCS
/-- TLL.TRACE_TX1.ID_HI -/
def Fld.TLL_TRACE_TX1_ID_HI : Fld := fRW 0x2E4 0 0 16 0 keptMTWCS
/-- TLL.TRACE_RX0.ID_LO -/
def Fld.TLL_TRACE_RX0_ID_LO : Fld := fRO 0x2E8 0 0 32 0 keptMTWCS
/-- TLL.TRACE_RX1.LANE -/
def Fld.TLL_TRACE_RX1_LANE : Fld := fRO 0x2EC 0 16 8 0 keptMTWCS
/-- TLL.TRACE_RX1.ID_HI -/
def Fld.TLL_TRACE_RX1_ID_HI : Fld := fRO 0x2EC 0 0 16 0 keptMTWCS
/-- TLL.TRACE_EXP0.ID_LO -/
def Fld.TLL_TRACE_EXP0_ID_LO : Fld := fRW 0x2F0 0 0 32 0 keptMTWCS
/-- TLL.TRACE_EXP1.LANE -/
def Fld.TLL_TRACE_EXP1_LANE : Fld := fRW 0x2F4 0 16 8 0 keptMTWCS
/-- TLL.TRACE_EXP1.ID_HI -/
def Fld.TLL_TRACE_EXP1_ID_HI : Fld := fRW 0x2F4 0 0 16 0 keptMTWCS
/-- TLL.CC_CFG.ENABLE -/
def Fld.TLL_CC_CFG_ENABLE : Fld := fRW 0x300 0 31 1 0 keptMTWCS
/-- TLL.CC_CFG.RXQ -/
def Fld.TLL_CC_CFG_RXQ : Fld := fRW 0x300 0 16 10 0 keptMTWCS
/-- TLL.CC_CFG.TXQ -/
def Fld.TLL_CC_CFG_TXQ : Fld := fRW 0x300 0 0 10 0 keptMTWCS
/-- TLL.CC_RXCNT.RX_OK -/
def Fld.TLL_CC_RXCNT_RX_OK : Fld := fRO 0x304 0 16 16 0 keptMTWCS
/-- TLL.CC_RXCNT.CRC_ERR -/
def Fld.TLL_CC_RXCNT_CRC_ERR : Fld := fRO 0x304 0 0 16 0 keptMTWCS
/-- TLL.CC_ERRCNT.ABORT -/
def Fld.TLL_CC_ERRCNT_ABORT : Fld := fRO 0x308 0 16 16 0 keptMTWCS
/-- TLL.CC_ERRCNT.TX_LONG -/
def Fld.TLL_CC_ERRCNT_TX_LONG : Fld := fRO 0x308 0 0 16 0 keptMTWCS
/-- TLL.OHCTL.CNT_CLR -/
def Fld.TLL_OHCTL_CNT_CLR : Fld := fWC 0x30C 0 0 1 0 1
/-- TLL.ANCRX.BAD -/
def Fld.TLL_ANCRX_BAD : Fld := fRO 0x310 0 16 16 0 keptMTWCS
/-- TLL.DEF.TSF -/
def Fld.TLL_DEF_TSF : Fld := fRO 0x1C0 0 16 16 0 keptMTWC
/-- TLL.DEF.SRQ_FAIL -/
def Fld.TLL_DEF_SRQ_FAIL : Fld := fRO 0x1C0 0 7 1 0 keptMTWC
/-- TLL.DEF.TIM -/
def Fld.TLL_DEF_TIM : Fld := fRO 0x1C0 0 6 1 0 keptMTWC
/-- TLL.DEF.RDI -/
def Fld.TLL_DEF_RDI : Fld := fRO 0x1C0 0 5 1 0 keptMTWC
/-- TLL.DEF.DEG -/
def Fld.TLL_DEF_DEG : Fld := fRO 0x1C0 0 4 1 0 keptMTWC
/-- TLL.DEF.LOF -/
def Fld.TLL_DEF_LOF : Fld := fRO 0x1C0 0 2 1 0 keptMTWC
/-- TLL.DEF.LOL -/
def Fld.TLL_DEF_LOL : Fld := fRO 0x1C0 0 1 1 0 keptMTWC
/-- TLL.DEF.LOS -/
def Fld.TLL_DEF_LOS : Fld := fRO 0x1C0 0 0 1 1 keptMTWC
/-- TLL.DEF_LATCH.TSF -/
def Fld.TLL_DEF_LATCH_TSF : Fld := fW1 0x1C4 0 16 16 0 keptMTWC
/-- TLL.DEF_LATCH.SRQ_FAIL -/
def Fld.TLL_DEF_LATCH_SRQ_FAIL : Fld := fW1 0x1C4 0 7 1 0 keptMTWC
/-- TLL.DEF_LATCH.TIM -/
def Fld.TLL_DEF_LATCH_TIM : Fld := fW1 0x1C4 0 6 1 0 keptMTWC
/-- TLL.DEF_LATCH.RDI -/
def Fld.TLL_DEF_LATCH_RDI : Fld := fW1 0x1C4 0 5 1 0 keptMTWC
/-- TLL.DEF_LATCH.DEG -/
def Fld.TLL_DEF_LATCH_DEG : Fld := fW1 0x1C4 0 4 1 0 keptMTWC
/-- TLL.DEF_LATCH.LOF -/
def Fld.TLL_DEF_LATCH_LOF : Fld := fW1 0x1C4 0 2 1 0 keptMTWC
/-- TLL.DEF_LATCH.LOL -/
def Fld.TLL_DEF_LATCH_LOL : Fld := fW1 0x1C4 0 1 1 0 keptMTWC
/-- TLL.DEF_LATCH.LOS -/
def Fld.TLL_DEF_LATCH_LOS : Fld := fW1 0x1C4 0 0 1 1 keptMTWC
/-- TLL.DEF_MASK.TSF -/
def Fld.TLL_DEF_MASK_TSF : Fld := fRW 0x1C8 0 16 16 0 keptMTWCS
/-- TLL.DEF_MASK.SRQ_FAIL -/
def Fld.TLL_DEF_MASK_SRQ_FAIL : Fld := fRW 0x1C8 0 7 1 0 keptMTWCS
/-- TLL.DEF_MASK.TIM -/
def Fld.TLL_DEF_MASK_TIM : Fld := fRW 0x1C8 0 6 1 0 keptMTWCS
/-- TLL.DEF_MASK.RDI -/
def Fld.TLL_DEF_MASK_RDI : Fld := fRW 0x1C8 0 5 1 0 keptMTWCS
/-- TLL.DEF_MASK.DEG -/
def Fld.TLL_DEF_MASK_DEG : Fld := fRW 0x1C8 0 4 1 0 keptMTWCS
/-- TLL.DEF_MASK.LOF -/
def Fld.TLL_DEF_MASK_LOF : Fld := fRW 0x1C8 0 2 1 0 keptMTWCS
/-- TLL.DEF_MASK.LOL -/
def Fld.TLL_DEF_MASK_LOL : Fld := fRW 0x1C8 0 1 1 0 keptMTWCS
/-- TLL.DEF_MASK.LOS -/
def Fld.TLL_DEF_MASK_LOS : Fld := fRW 0x1C8 0 0 1 0 keptMTWCS
/-- TLL.DEG_CFG.DEG_M -/
def Fld.TLL_DEG_CFG_DEG_M : Fld := fRG 0x1CC 0 16 4 3 keptMTWCS 1 10
/-- TLL.DEG_CFG.DEG_THR -/
def Fld.TLL_DEG_CFG_DEG_THR : Fld := fRG 0x1CC 0 0 16 0x064 keptMTWCS 1 65535
/-- TLL.PM_CUR.UAS -/
def Fld.TLL_PM_CUR_UAS : Fld := fRO 0x1D0 0 31 1 0 keptMTWCS
/-- TLL.PM_CUR.ES_NOW -/
def Fld.TLL_PM_CUR_ES_NOW : Fld := fRO 0x1D0 0 30 1 0 keptMTWC
/-- TLL.PM_CUR.ERR_UNITS -/
def Fld.TLL_PM_CUR_ERR_UNITS : Fld := fRO 0x1D0 0 0 24 0 keptMTWC
/-- TLL.PM_15C.SUSPECT -/
def Fld.TLL_PM_15C_SUSPECT : Fld := fRO 0x1D4 0 31 1 1 keptMTWCS
/-- TLL.PM_15C.UAS -/
def Fld.TLL_PM_15C_UAS : Fld := fRO 0x1D4 0 20 10 0 keptMTWCS
/-- TLL.PM_15C.SES -/
def Fld.TLL_PM_15C_SES : Fld := fRO 0x1D4 0 10 10 0 keptMTWCS
/-- TLL.PM_15C.ES -/
def Fld.TLL_PM_15C_ES : Fld := fRO 0x1D4 0 0 10 0 keptMTWCS
/-- TLL.PM_15P.SUSPECT -/
def Fld.TLL_PM_15P_SUSPECT : Fld := fRO 0x1D8 0 31 1 1 keptMTWCS
/-- TLL.PM_15P.UAS -/
def Fld.TLL_PM_15P_UAS : Fld := fRO 0x1D8 0 20 10 0 keptMTWCS
/-- TLL.PM_15P.SES -/
def Fld.TLL_PM_15P_SES : Fld := fRO 0x1D8 0 10 10 0 keptMTWCS
/-- TLL.PM_15P.ES -/
def Fld.TLL_PM_15P_ES : Fld := fRO 0x1D8 0 0 10 0 keptMTWCS
/-- TLL.PM_24C_ES.SUSPECT -/
def Fld.TLL_PM_24C_ES_SUSPECT : Fld := fRO 0x1DC 0 31 1 1 keptMTWCS
/-- TLL.PM_24C_ES.COUNT -/
def Fld.TLL_PM_24C_ES_COUNT : Fld := fRO 0x1DC 0 0 17 0 keptMTWCS
/-- TLL.PM_24C_SES.COUNT -/
def Fld.TLL_PM_24C_SES_COUNT : Fld := fRO 0x1E0 0 0 17 0 keptMTWCS
/-- TLL.PM_24C_UAS.COUNT -/
def Fld.TLL_PM_24C_UAS_COUNT : Fld := fRO 0x1E4 0 0 17 0 keptMTWCS
/-- TLL.PM_24P_ES.SUSPECT -/
def Fld.TLL_PM_24P_ES_SUSPECT : Fld := fRO 0x1E8 0 31 1 1 keptMTWCS
/-- TLL.PM_24P_ES.COUNT -/
def Fld.TLL_PM_24P_ES_COUNT : Fld := fRO 0x1E8 0 0 17 0 keptMTWCS
/-- TLL.PM_24P_SES.COUNT -/
def Fld.TLL_PM_24P_SES_COUNT : Fld := fRO 0x1EC 0 0 17 0 keptMTWCS
/-- TLL.PM_24P_UAS.COUNT -/
def Fld.TLL_PM_24P_UAS_COUNT : Fld := fRO 0x1F0 0 0 17 0 keptMTWCS
/-- TLL.RXEQ.PRESET -/
def Fld.TLL_RXEQ_PRESET : Fld := fRW 0x028 0 0 2 0 keptMTWCS
/-- TLL.TXDRV.EMPH -/
def Fld.TLL_TXDRV_EMPH : Fld := fRW 0x02C 0 2 2 0 keptMTWCS
/-- TLL.TXDRV.SWING -/
def Fld.TLL_TXDRV_SWING : Fld := fRG 0x02C 0 0 2 1 keptMTWCS 0 2
/-- TLL.TESTCFG.RX_ENABLE -/
def Fld.TLL_TESTCFG_RX_ENABLE : Fld := fRW 0x030 0 9 1 0 keptMTWCS
/-- TLL.TESTCFG.TX_ENABLE -/
def Fld.TLL_TESTCFG_TX_ENABLE : Fld := fRW 0x030 0 8 1 0 keptMTWCS
/-- TLL.TESTCFG.PATTERN -/
def Fld.TLL_TESTCFG_PATTERN : Fld := fRW 0x030 0 0 3 0 keptMTWCS
/-- TLL.TESTCTL.CNT_CLR -/
def Fld.TLL_TESTCTL_CNT_CLR : Fld := fWC 0x034 0 1 1 0 1
/-- TLL.TESTCTL.INJECT -/
def Fld.TLL_TESTCTL_INJECT : Fld := fWC 0x034 0 0 1 0 1
/-- TLL.LSTAT.CHK_LOCK -/
def Fld.TLL_LSTAT_CHK_LOCK : Fld := fRO 0x040 0 16 1 0 keptMTWC
/-- TLL.LSTAT.LOL -/
def Fld.TLL_LSTAT_LOL : Fld := fRO 0x040 0 9 1 0 keptMTWC
/-- TLL.LSTAT.LOS -/
def Fld.TLL_LSTAT_LOS : Fld := fRO 0x040 0 8 1 1 keptMTWC
/-- TLL.LSTAT.TX_STATE -/
def Fld.TLL_LSTAT_TX_STATE : Fld := fRO 0x040 0 4 3 0 keptMTWC
/-- TLL.LSTAT.RX_STATE -/
def Fld.TLL_LSTAT_RX_STATE : Fld := fRO 0x040 0 0 3 0 keptMTWC
/-- TLL.RXFREQ.OFFSET -/
def Fld.TLL_RXFREQ_OFFSET : Fld := fRO 0x048 0 0 20 0 keptMTWC
/-- TLL.TESTCNT.COUNT -/
def Fld.TLL_TESTCNT_COUNT : Fld := fRO 0x050 0 0 32 0 keptMTWCS
/-- TLL.RXEQ_X.CDR_BW -/
def Fld.TLL_RXEQ_X_CDR_BW : Fld := fXR 0x400 0 12 2 1 keptMTWCS 0 2
/-- TLL.RXEQ_X.DFE_FREEZE -/
def Fld.TLL_RXEQ_X_DFE_FREEZE : Fld := fXR 0x400 0 9 1 0 keptMTWCS 0 1
/-- TLL.RXEQ_X.CTLE_MANUAL -/
def Fld.TLL_RXEQ_X_CTLE_MANUAL : Fld := fXR 0x400 0 8 1 0 keptMTWCS 0 1
/-- TLL.RXEQ_X.CTLE_GAIN -/
def Fld.TLL_RXEQ_X_CTLE_GAIN : Fld := fXR 0x400 0 4 4 8 keptMTWCS 0 15
/-- TLL.TXFFE_X.FFE_MANUAL -/
def Fld.TLL_TXFFE_X_FFE_MANUAL : Fld := fXR 0x404 0 31 1 0 keptMTWCS 0 1
/-- TLL.TXFFE_X.POST -/
def Fld.TLL_TXFFE_X_POST : Fld := fXR 0x404 0 12 4 0 keptMTWCS 0 15
/-- TLL.TXFFE_X.MAIN -/
def Fld.TLL_TXFFE_X_MAIN : Fld := fXR 0x404 0 4 6 0x03F keptMTWCS 0 63
/-- TLL.TXFFE_X.PRE -/
def Fld.TLL_TXFFE_X_PRE : Fld := fXR 0x404 0 0 3 0 keptMTWCS 0 7
/-- TLL.LOOPBACK_X.NEAR_END -/
def Fld.TLL_LOOPBACK_X_NEAR_END : Fld := fXR 0x408 0 0 1 0 keptMTWCS 0 1
/-- TLL.LOS_X.CLR_LEVEL -/
def Fld.TLL_LOS_X_CLR_LEVEL : Fld := fXR 0x40C 0 8 8 0x04B keptMTWCS 40 200
/-- TLL.LOS_X.SET_LEVEL -/
def Fld.TLL_LOS_X_SET_LEVEL : Fld := fXR 0x40C 0 0 8 0x032 keptMTWCS 30 190
/-- TLL.CRSCNT.OOC_CNT -/
def Fld.TLL_CRSCNT_OOC_CNT : Fld := fRO 0x0A8 0 16 16 0 keptMTWCS
/-- TLL.CRSCNT.STEP_CNT -/
def Fld.TLL_CRSCNT_STEP_CNT : Fld := fRO 0x0A8 0 0 16 0 keptMTWCS
/-- TLL.CRSCTL.CNT_CLR -/
def Fld.TLL_CRSCTL_CNT_CLR : Fld := fWC 0x0AC 0 0 1 0 1
/-- TLL.ALIGN_X.DRIFT_LIMIT -/
def Fld.TLL_ALIGN_X_DRIFT_LIMIT : Fld := fXR 0x420 0 25 7 16 keptMTWCS 1 127
/-- TLL.ALIGN_X.PTR_MAX -/
def Fld.TLL_ALIGN_X_PTR_MAX : Fld := fXR 0x420 0 16 9 0x1FF keptMTWCS 0 511
/-- TLL.ALIGN_X.PTR_MIN -/
def Fld.TLL_ALIGN_X_PTR_MIN : Fld := fXR 0x420 0 0 9 0 keptMTWCS 0 511
/-- TLL.PTR.STATE -/
def Fld.TLL_PTR_STATE : Fld := fRO 0x0C0 4 29 3 0 keptMTWC
/-- TLL.PTR.DRIFT -/
def Fld.TLL_PTR_DRIFT : Fld := fRO 0x0C0 4 28 1 0 keptMTWC
/-- TLL.PTR.POS -/
def Fld.TLL_PTR_POS : Fld := fRO 0x0C0 4 0 20 0 keptMTWC
/-- TLL.JUST.INC -/
def Fld.TLL_JUST_INC : Fld := fRO 0x100 4 16 16 0 keptMTWCS
/-- TLL.JUST.DEC -/
def Fld.TLL_JUST_DEC : Fld := fRO 0x100 4 0 16 0 keptMTWCS
/-- TLL.ANCCFG.DEFAULT_CLASS -/
def Fld.TLL_ANCCFG_DEFAULT_CLASS : Fld := fRW 0x140 0 8 2 2 keptMTWCS
/-- TLL.ANCCFG.BAD_PKT -/
def Fld.TLL_ANCCFG_BAD_PKT : Fld := fRW 0x140 0 5 1 0 keptMTWCS
/-- TLL.ANCCTL.CNT_CLR -/
def Fld.TLL_ANCCTL_CNT_CLR : Fld := fWC 0x144 0 0 1 0 1
/-- TLL.ANCSTAT.TX_BYPASS -/
def Fld.TLL_ANCSTAT_TX_BYPASS : Fld := fRO 0x148 0 1 1 0 keptMTWC
/-- TLL.ANCSTAT.RX_BYPASS -/
def Fld.TLL_ANCSTAT_RX_BYPASS : Fld := fRO 0x148 0 0 1 0 keptMTWC
/-- TLL.ANCCLASS.DID -/
def Fld.TLL_ANCCLASS_DID : Fld := fRW 0x160 4 24 8 0 keptMTWCS
/-- TLL.ANCCLASS.SDID -/
def Fld.TLL_ANCCLASS_SDID : Fld := fRW 0x160 4 16 8 0 keptMTWCS
/-- TLL.ANCCLASS.SDID_ANY -/
def Fld.TLL_ANCCLASS_SDID_ANY : Fld := fRW 0x160 4 15 1 0 keptMTWCS
/-- TLL.ANCCLASS.VALID -/
def Fld.TLL_ANCCLASS_VALID : Fld := fRW 0x160 4 14 1 0 keptMTWCS
/-- TLL.ANCCLASS.CLASS -/
def Fld.TLL_ANCCLASS_CLASS : Fld := fRW 0x160 4 0 2 0 keptMTWCS

/-- Registers of the TLL page, part 0. -/
def regsTLL_0 : List RegD :=
  [⟨0x020, 0, 1, [.TLL_CFG_FORCE_IDLE, .TLL_CFG_TX_POL_INV, .TLL_CFG_RX_POL_INV, .TLL_CFG_TXMODE, .TLL_CFG_RXMODE]⟩,
   ⟨0x060, 0, 1, [.TLL_FRMSTAT_BLOCK_LOCK, .TLL_FRMSTAT_STATE]⟩,
   ⟨0x064, 0, 1, [.TLL_FRMCNT_AMBIG_CNT, .TLL_FRMCNT_LOSS_CNT]⟩,
   ⟨0x068, 0, 1, [.TLL_HDRERR_COUNT]⟩,
   ⟨0x06C, 0, 1, [.TLL_ROWERR_COUNT]⟩,
   ⟨0x070, 0, 1, [.TLL_FRMCTL_CNT_CLR]⟩,
   ⟨0x0A0, 0, 1, [.TLL_TDOMSEL0_TDOM_7, .TLL_TDOMSEL0_TDOM_6, .TLL_TDOMSEL0_TDOM_5, .TLL_TDOMSEL0_TDOM_4, .TLL_TDOMSEL0_TDOM_3, .TLL_TDOMSEL0_TDOM_2, .TLL_TDOMSEL0_TDOM_1, .TLL_TDOMSEL0_TDOM_0]⟩,
   ⟨0x0A4, 0, 1, [.TLL_TDOMSEL1_TDOM_15, .TLL_TDOMSEL1_TDOM_14, .TLL_TDOMSEL1_TDOM_13, .TLL_TDOMSEL1_TDOM_12, .TLL_TDOMSEL1_TDOM_11, .TLL_TDOMSEL1_TDOM_10, .TLL_TDOMSEL1_TDOM_9, .TLL_TDOMSEL1_TDOM_8]⟩,
   ⟨0x200, 4, 16, [.TLL_TXSLOT_TYPE, .TLL_TXSLOT_PATTERN, .TLL_TXSLOT_MEMBER, .TLL_TXSLOT_PKT204, .TLL_TXSLOT_MEMB, .TLL_TXSLOT_TDOM, .TLL_TXSLOT_TILE_ID]⟩,
   ⟨0x240, 4, 16, [.TLL_RXSLOT_STATE, .TLL_RXSLOT_TYPE, .TLL_RXSLOT_FMT, .TLL_RXSLOT_PATTERN, .TLL_RXSLOT_MEMBER, .TLL_RXSLOT_BOND_ERR, .TLL_RXSLOT_TILE_ID]⟩,
   ⟨0x280, 4, 16, [.TLL_HDRCNT_CRC_ERR, .TLL_HDRCNT_MISMATCH, .TLL_HDRCNT_RELOCK]⟩,
   ⟨0x2C0, 0, 1, [.TLL_JCWCNT_CORR, .TLL_JCWCNT_UNCORR]⟩,
   ⟨0x2C4, 0, 1, [.TLL_OH_CFG_TRACE_CHK, .TLL_OH_CFG_SRQ_SRC, .TLL_OH_CFG_RDI_FORCE]⟩,
   ⟨0x2C8, 0, 1, [.TLL_OH_TX_SRQ1, .TLL_OH_TX_SRQ2]⟩,
   ⟨0x2CC, 0, 1, [.TLL_OH_RX_SRQ1_ACC, .TLL_OH_RX_SRQ2_ACC, .TLL_OH_RX_SRQ1_RAW, .TLL_OH_RX_SRQ2_RAW]⟩,
   ⟨0x2D0, 0, 1, [.TLL_OH_STAT_TIM, .TLL_OH_STAT_SRQ_FAIL, .TLL_OH_STAT_RDI_RX, .TLL_OH_STAT_RDI_TX]⟩,
   ⟨0x2D4, 0, 1, [.TLL_BIPCNT_COUNT]⟩,
   ⟨0x2D8, 0, 1, [.TLL_REICNT_COUNT]⟩,
   ⟨0x2E0, 0, 1, [.TLL_TRACE_TX0_ID_LO]⟩,
   ⟨0x2E4, 0, 1, [.TLL_TRACE_TX1_LANE, .TLL_TRACE_TX1_ID_HI]⟩]


/-- Registers of the TLL page, part 1. -/
def regsTLL_1 : List RegD :=
  [⟨0x2E8, 0, 1, [.TLL_TRACE_RX0_ID_LO]⟩,
   ⟨0x2EC, 0, 1, [.TLL_TRACE_RX1_LANE, .TLL_TRACE_RX1_ID_HI]⟩,
   ⟨0x2F0, 0, 1, [.TLL_TRACE_EXP0_ID_LO]⟩,
   ⟨0x2F4, 0, 1, [.TLL_TRACE_EXP1_LANE, .TLL_TRACE_EXP1_ID_HI]⟩,
   ⟨0x300, 0, 1, [.TLL_CC_CFG_ENABLE, .TLL_CC_CFG_RXQ, .TLL_CC_CFG_TXQ]⟩,
   ⟨0x304, 0, 1, [.TLL_CC_RXCNT_RX_OK, .TLL_CC_RXCNT_CRC_ERR]⟩,
   ⟨0x308, 0, 1, [.TLL_CC_ERRCNT_ABORT, .TLL_CC_ERRCNT_TX_LONG]⟩,
   ⟨0x30C, 0, 1, [.TLL_OHCTL_CNT_CLR]⟩,
   ⟨0x310, 0, 1, [.TLL_ANCRX_BAD]⟩,
   ⟨0x1C0, 0, 1, [.TLL_DEF_TSF, .TLL_DEF_SRQ_FAIL, .TLL_DEF_TIM, .TLL_DEF_RDI, .TLL_DEF_DEG, .TLL_DEF_LOF, .TLL_DEF_LOL, .TLL_DEF_LOS]⟩,
   ⟨0x1C4, 0, 1, [.TLL_DEF_LATCH_TSF, .TLL_DEF_LATCH_SRQ_FAIL, .TLL_DEF_LATCH_TIM, .TLL_DEF_LATCH_RDI, .TLL_DEF_LATCH_DEG, .TLL_DEF_LATCH_LOF, .TLL_DEF_LATCH_LOL, .TLL_DEF_LATCH_LOS]⟩,
   ⟨0x1C8, 0, 1, [.TLL_DEF_MASK_TSF, .TLL_DEF_MASK_SRQ_FAIL, .TLL_DEF_MASK_TIM, .TLL_DEF_MASK_RDI, .TLL_DEF_MASK_DEG, .TLL_DEF_MASK_LOF, .TLL_DEF_MASK_LOL, .TLL_DEF_MASK_LOS]⟩,
   ⟨0x1CC, 0, 1, [.TLL_DEG_CFG_DEG_M, .TLL_DEG_CFG_DEG_THR]⟩,
   ⟨0x1D0, 0, 1, [.TLL_PM_CUR_UAS, .TLL_PM_CUR_ES_NOW, .TLL_PM_CUR_ERR_UNITS]⟩,
   ⟨0x1D4, 0, 1, [.TLL_PM_15C_SUSPECT, .TLL_PM_15C_UAS, .TLL_PM_15C_SES, .TLL_PM_15C_ES]⟩,
   ⟨0x1D8, 0, 1, [.TLL_PM_15P_SUSPECT, .TLL_PM_15P_UAS, .TLL_PM_15P_SES, .TLL_PM_15P_ES]⟩,
   ⟨0x1DC, 0, 1, [.TLL_PM_24C_ES_SUSPECT, .TLL_PM_24C_ES_COUNT]⟩,
   ⟨0x1E0, 0, 1, [.TLL_PM_24C_SES_COUNT]⟩,
   ⟨0x1E4, 0, 1, [.TLL_PM_24C_UAS_COUNT]⟩,
   ⟨0x1E8, 0, 1, [.TLL_PM_24P_ES_SUSPECT, .TLL_PM_24P_ES_COUNT]⟩]


/-- Registers of the TLL page, part 2. -/
def regsTLL_2 : List RegD :=
  [⟨0x1EC, 0, 1, [.TLL_PM_24P_SES_COUNT]⟩,
   ⟨0x1F0, 0, 1, [.TLL_PM_24P_UAS_COUNT]⟩,
   ⟨0x028, 0, 1, [.TLL_RXEQ_PRESET]⟩,
   ⟨0x02C, 0, 1, [.TLL_TXDRV_EMPH, .TLL_TXDRV_SWING]⟩,
   ⟨0x030, 0, 1, [.TLL_TESTCFG_RX_ENABLE, .TLL_TESTCFG_TX_ENABLE, .TLL_TESTCFG_PATTERN]⟩,
   ⟨0x034, 0, 1, [.TLL_TESTCTL_CNT_CLR, .TLL_TESTCTL_INJECT]⟩,
   ⟨0x040, 0, 1, [.TLL_LSTAT_CHK_LOCK, .TLL_LSTAT_LOL, .TLL_LSTAT_LOS, .TLL_LSTAT_TX_STATE, .TLL_LSTAT_RX_STATE]⟩,
   ⟨0x048, 0, 1, [.TLL_RXFREQ_OFFSET]⟩,
   ⟨0x050, 0, 1, [.TLL_TESTCNT_COUNT]⟩,
   ⟨0x400, 0, 1, [.TLL_RXEQ_X_CDR_BW, .TLL_RXEQ_X_DFE_FREEZE, .TLL_RXEQ_X_CTLE_MANUAL, .TLL_RXEQ_X_CTLE_GAIN]⟩,
   ⟨0x404, 0, 1, [.TLL_TXFFE_X_FFE_MANUAL, .TLL_TXFFE_X_POST, .TLL_TXFFE_X_MAIN, .TLL_TXFFE_X_PRE]⟩,
   ⟨0x408, 0, 1, [.TLL_LOOPBACK_X_NEAR_END]⟩,
   ⟨0x40C, 0, 1, [.TLL_LOS_X_CLR_LEVEL, .TLL_LOS_X_SET_LEVEL]⟩,
   ⟨0x0A8, 0, 1, [.TLL_CRSCNT_OOC_CNT, .TLL_CRSCNT_STEP_CNT]⟩,
   ⟨0x0AC, 0, 1, [.TLL_CRSCTL_CNT_CLR]⟩,
   ⟨0x420, 0, 1, [.TLL_ALIGN_X_DRIFT_LIMIT, .TLL_ALIGN_X_PTR_MAX, .TLL_ALIGN_X_PTR_MIN]⟩,
   ⟨0x0C0, 4, 16, [.TLL_PTR_STATE, .TLL_PTR_DRIFT, .TLL_PTR_POS]⟩,
   ⟨0x100, 4, 16, [.TLL_JUST_INC, .TLL_JUST_DEC]⟩,
   ⟨0x140, 0, 1, [.TLL_ANCCFG_DEFAULT_CLASS, .TLL_ANCCFG_BAD_PKT]⟩,
   ⟨0x144, 0, 1, [.TLL_ANCCTL_CNT_CLR]⟩]


/-- Registers of the TLL page, part 3. -/
def regsTLL_3 : List RegD :=
  [⟨0x148, 0, 1, [.TLL_ANCSTAT_TX_BYPASS, .TLL_ANCSTAT_RX_BYPASS]⟩,
   ⟨0x160, 4, 8, [.TLL_ANCCLASS_DID, .TLL_ANCCLASS_SDID, .TLL_ANCCLASS_SDID_ANY, .TLL_ANCCLASS_VALID, .TLL_ANCCLASS_CLASS]⟩]

/-- Registers of the TLL page. -/
def regsTLL : List RegD := regsTLL_0 ++ regsTLL_1 ++ regsTLL_2 ++ regsTLL_3

end Sys2Proof.Machine
end

