-- ==== Sys2Proof/Machine/Layout.lean ====
section
/-! DEFINITION. The layout of the register pages: which registers a page holds, which page an address lies in, and what
every register reads after reset. -/

namespace Sys2Proof.Machine

/-- MSI-X table entry: message address, low word (PCIe Base Specification; PRESUMED). -/
def Fld.HOST_MSIX_ADDR_LO : Fld := fRW 0x100 16 0 32 0 keptDTWCS
/-- MSI-X table entry: message address, high word. -/
def Fld.HOST_MSIX_ADDR_HI : Fld := fRW 0x104 16 0 32 0 keptDTWCS
/-- MSI-X table entry: message data. -/
def Fld.HOST_MSIX_DATA : Fld := fRW 0x108 16 0 32 0 keptDTWCS
/-- MSI-X table entry: the reserved bits of the vector control word, which read back as written. -/
def Fld.HOST_MSIX_CTRL : Fld := fRW 0x10C 16 1 31 0 keptDTWCS
/-- MSI-X table entry: the vector is masked. -/
def Fld.HOST_MSIX_MASK : Fld := fRW 0x10C 16 0 1 1 keptDTWCS
/-- The pending-bit array: bit v is 1 while the message of vector v is pending (R430). -/
def Fld.HOST_MSIX_PBA : Fld := fRO 0x300 0 0 32 0 keptDTWCS

/-- The MSI-X table and the pending-bit array, at HOST offsets 0x100 to 0x2FF and 0x300 (R430). -/
def regsMsix : List RegD :=
  [⟨0x100, 16, 32, [.HOST_MSIX_ADDR_LO]⟩,
   ⟨0x104, 16, 32, [.HOST_MSIX_ADDR_HI]⟩,
   ⟨0x108, 16, 32, [.HOST_MSIX_DATA]⟩,
   ⟨0x10C, 16, 32, [.HOST_MSIX_CTRL, .HOST_MSIX_MASK]⟩,
   ⟨0x300, 0, 1, [.HOST_MSIX_PBA]⟩]

/-- The registers of a page at offsets 0x020 and above. -/
def pageRegs : Page → List RegD
  | .dev => regsDEV
  | .pwr => regsPWR
  | .aon => regsAON
  | .host => regsHOST ++ regsMsix
  | .boot => regsBOOT
  | .mtx => regsMTX
  | .intc => regsINTC
  | .intcF => regsINTC_F
  | .pmc => regsPMC
  | .qmg => regsQMG
  | .sramc => regsSRAMC
  | .tmu => regsTMU
  | .refin r => if r == 3 then regsREFIN else regsREFIN.filter (fun x => x.off < 0x050)
  | .tdom _ => regsTDOM
  | .fab => regsFAB
  | .afab => regsAFAB
  | .wall _ => regsWALL
  | .cgate => regsCGATE
  | .prot => regsPROT
  | .fst => regsFST
  | .memc _ => regsMEMC
  | .lane _ => regsLANE
  | .tll _ => regsTLL
  | .leng _ => regsLENG

/-- The register description covers this page offset. -/
def RegD.covers (r : RegD) (off : Nat) : Bool :=
  if r.count ≤ 1 then off == r.off
  else r.off ≤ off && (off - r.off) % r.stride == 0 && (off - r.off) / r.stride < r.count

/-- The register at a page offset; none where no register lies (R13). -/
def regAt (p : Page) (off : Nat) : Option RegD :=
  if off < 0x020 then (regsHeader p).find? (fun r => r.covers off) else (pageRegs p).find? (fun r => r.covers off)

/-- The page a matrix address lies in, for the pages of Table 22.1. -/
def pageAt (a : Nat) : Option Page :=
  let i := a / 0x1000
  if i < 11 then
    [Page.dev, .pwr, .aon, .host, .boot, .mtx, .intc, .intcF, .pmc, .qmg, .sramc][i]?
  else if i == 0x10 then some .tmu
  else if 0x11 ≤ i && i < 0x19 then some (.refin (i - 0x11))
  else if 0x20 ≤ i && i < 0x30 then some (.tdom (i - 0x20))
  else if 0x30 ≤ i && i < 0x39 then
    [Page.fab, .afab, .wall 0, .wall 1, .cgate, .prot, .fst, .memc 0, .memc 1][i - 0x30]?
  else if 0x100 ≤ i && i < 0x190 then some (.lane (i - 0x100))
  else if 0x190 ≤ i && i < 0x1A0 then some (.tll (i - 0x190))
  else if 0x200 ≤ i && i < 0x440 && i % 4 == 0 then some (.leng ((i - 0x200) / 4))
  else none

/-- The word that a list of fields resets to. -/
def fieldsReset (fs : List Fld) : Nat := fs.foldl (fun a f => a + f.reset <<< f.lo) 0

/-- The default loop bandwidth of a reference input in mHz (Table 12.1). -/
def refBandwidth (r : Nat) : Nat := [2000, 2000, 100, 10, 10000, 10000, 10000, 1000].getD r 0

/-- What a register reads after power-on reset: its fields' reset values, and the values that depend on the instance. -/
def resetAt (p : Page) (bank off : Nat) : Nat :=
  let base := match regAt p off with
    | some r => fieldsReset r.fields
    | none => 0
  match p, off with
  | _, 0x000 => p.blockType * 65536 + p.inst
  | _, 0x004 => 0x0100
  | .refin _, 0x008 => 0
  | .memc _, 0x008 => 0
  | .refin r, 0x020 => base + refBandwidth r
  | .wall w, 0x020 => if w == 0 then 0x00100C0C else 0x00010808
  | .tll n, 0x2E4 => base + n * 65536
  | .intc, 0x028 => if bank == 267 then base + 2 ^ 30 else base
  | .host, 0x020 => base + Config.vendorId.toNat
  | .boot, 0x020 => if Config.secure then base + 2 ^ 16 else base
  | .boot, 0x030 => 0x01000000
  | .boot, 0x034 => 0x01100000
  | .boot, 0x038 => 0x01200000
  | .boot, 0x03C => 0x01300000
  | .mtx, 0x050 => base + 2 ^ 31
  | .mtx, 0x054 => base + 2 ^ 31
  | .mtx, 0x05C => base + 2 ^ 31
  | .mtx, 0x060 => base + 2 ^ 31
  | _, _ => base

/-- What the register at a key reads after power-on reset; the key is bank × 2^28 + matrix address. -/
def resetWord (key : Nat) : Word :=
  match pageAt (key % 0x10000000) with
  | some p => BitVec.ofNat 32 (resetAt p (key / 0x10000000) (key % 0x1000))
  | none => 0

end Sys2Proof.Machine
end

