-- ==== Sys2Proof/Machine/Maps.lean ====
section
/-! DEFINITION. The named operations on sparse data: read a key, write a key, keep the one canonical form
(keys strictly rising, no entry equal to what its unlisted key reads as). -/

namespace Sys2Proof.Machine

/-- What key `k` reads as: its entry, or the default of the key. -/
def Map.get {α : Type} (dflt : Nat → α) : Map α → Nat → α
  | [], k => dflt k
  | (j, v) :: m, k => if j = k then v else Map.get dflt m k

/-- Every entry but the one of key `k`. -/
def Map.erase {α : Type} (m : Map α) (k : Nat) : Map α :=
  m.filter (fun e => !(e.1 == k))

/-- An entry put at its place by rising key. -/
def Map.insert {α : Type} (k : Nat) (v : α) : Map α → Map α
  | [] => [(k, v)]
  | (j, w) :: m => if k < j then (k, v) :: (j, w) :: m else (j, w) :: Map.insert k v m

/-- Write key `k`; writing the default removes the entry, so equal contents are equal lists. -/
def Map.put {α : Type} [DecidableEq α] (dflt : Nat → α) (m : Map α) (k : Nat) (v : α) : Map α :=
  if v = dflt k then Map.erase m k else Map.insert k v (Map.erase m k)

/-- Every entry changed in place by its key and value; an entry that becomes its default goes. -/
def Map.update {α : Type} [DecidableEq α] (dflt : Nat → α) (f : Nat → α → α) (m : Map α) : Map α :=
  (m.map (fun e => (e.1, f e.1 e.2))).filter (fun e => !(decide (e.2 = dflt e.1)))

/-- Every key of the list lies above `lo`, in rising order, and holds something else than its default. -/
def Map.wfFrom {α : Type} [DecidableEq α] (dflt : Nat → α) : Map α → Nat → Bool
  | [], _ => true
  | (j, v) :: m, lo => decide (lo ≤ j) && !(decide (v = dflt j)) && Map.wfFrom dflt m (j + 1)

/-- The canonical form. -/
def Map.wf {α : Type} [DecidableEq α] (dflt : Nat → α) (m : Map α) : Bool :=
  Map.wfFrom dflt m 0

end Sys2Proof.Machine
end

