-- ==== Sys2Proof/Machine/State.lean ====
section
/-! DEFINITION. The state of the block as plain data: the register file, everything the rules give the machine that no
register shows, and the queue of commands that wait. -/

namespace Sys2Proof.Machine

/-- How a transfer of a matrix master ends (Table 16.3). -/
inductive RespCode where
  | okay | decerr | perm | timeout | ecc | lockBroken
  deriving DecidableEq, Repr

/-- The answer to a master's last transfer: its code and the words read. -/
structure Resp where
  code : RespCode := .okay
  data : List Word := []
  deriving DecidableEq, Repr

/-- One interrupt source (R385, R389, R391): its event count, whether an event was lost, the target it is committed to
and the slot class, the target that serves it, whether a mask write fell after the commit, whether it was redirected,
and whether its commit window is still open (R390). -/
structure SrcI where
  count : Nat := 0
  sat : Bool := false
  committed : Option Nat := none
  insvc : Option Nat := none
  masked : Bool := false
  redirected : Bool := false
  window : Bool := false
  deriving DecidableEq, Repr

/-- The interrupt controller beyond its registers: sources by number (512 + 16c + i is core c's own software interrupt i
in BANKED mode, R388), and the delivery slots, key 2t + class, holding source + 1 or 0 when empty (R386). -/
structure IntcS where
  srcs : Map SrcI := []
  slots : Map Nat := []
  deriving DecidableEq, Repr

/-- The performance counters beyond their registers (R399 to R406): 48-bit counts, bytes of the window in progress,
snapshots, and the high half each master's read latched. -/
structure PmcS where
  cnt : Map Nat := []
  bytes : Map Nat := []
  snap : Map Nat := []
  snapSeq : Nat := 0
  bar2Latch : Map Nat := []
  deriving DecidableEq, Repr

/-- The state of the SDI line code in one direction: the last nine scrambled bits, the latest in bit 0, and the last level (R95). -/
structure SdiCode where
  reg : BitVec 9 := 0
  level : Bool := false
  deriving DecidableEq, Repr

/-- The generator of a lane's test pattern (R90, R91): the last bits of its PRBS, the place in the 20 bits of a word pair, the line code, the
inversions that wait, and the levels sent in the last stretch. The seed is a DESIGN CHOICE (log 130). -/
structure TestTxI where
  reg : BitVec 31 := 0x7FFFFFFF
  place : Nat := 0
  code : SdiCode := {}
  invert : Nat := 0
  sent : List Bool := []
  deriving DecidableEq, Repr

/-- The checker of a lane's test pattern (R91): the bits that its prediction runs on, the line code, the bits of the word pair in progress,
its run of correct units and its last 64 units, newest first. -/
structure TestRxI where
  reg : BitVec 31 := 0
  code : SdiCode := {}
  bits : List Bool := []
  run : Nat := 0
  last : List Bool := []
  deriving DecidableEq, Repr

/-- An SDI or Tile Link lane beyond its registers: the mode of the previous detection (R84), the AUTO candidate and the
rate the hunt begins with (R83), the lead lane of the receive and of the transmit bond (R79), whether the CDR holds lock,
whether the transmitter waits for its synthesiser (R76), the generator and the checker of its test pattern (R90, R91), the receive
lane a lane route sends and the one it is to send next (R135, R137), and the mode that a FOLLOW transmitter took from its lane's
detection, 0 before any (R81). -/
structure LaneI where
  prevDet : Option Nat := none
  cand : Nat := 0
  lastRate : Nat := 0
  rxLead : Option Nat := none
  txLead : Option Nat := none
  cdrHeld : Bool := false
  txWait : Bool := false
  gen : TestTxI := {}
  chk : TestRxI := {}
  route : Option Nat := none
  routeNext : Option Nat := none
  txAuto : Nat := 0
  deriving DecidableEq, Repr

/-- What a transmit synthesiser is locked to (R74): stopped, a timing domain, or a followed receive lane. -/
inductive PllSrc where
  | stopped
  | dom (d : Nat)
  | follow (n : Nat)
  deriving DecidableEq, Repr

/-- A PLL0 or PLL1: its source and whether it is locked (key 2q + k). -/
structure PllI where
  src : PllSrc := .stopped
  lock : Bool := false
  deriving DecidableEq, Repr

/-- A TRS candidate (R97): the bit position of its last EAV, its count, its line length once fixed, the streams N. -/
structure Cand where
  pos : Nat
  count : Nat
  len : Option Nat
  streams : Nat
  deriving DecidableEq, Repr

/-- A framer beyond its registers. SDI: the line code and the bits decoded since OFF, up to 9 (R95), candidates and the one in VERIFY
(R97 to R99), the locked line timing, the run of missing TRS (R101), stream 2's runs (R108), whether a complete frame is in progress (R104), its
own line count, 0 before line 1, F of the last line, and whether F has changed within the frame (R103), departing frames (R106), the last
identified format (R136), payload-ID runs (R111), and on SD the CRCs of the active picture and of the full field, running and of the last field
(R110). MADI: sync run, phase, indicator spacings and times, and whether the indicator
was absent where one was expected (R112, R113). ASI: comma phase, last
characters, sync runs (R114). Tile Link: the bit phase of its headers, header runs, descrambler, marker runs and rows (R115, R116); the words that
vertical packets of the line in progress cover: stream, first word, length (R122); at 96 kHz, whether a MADI frame is the later of its pair, and
the earlier samples (R173). -/
structure FramerI where
  code : SdiCode := {}
  decoded : Nat := 0
  cands : List Cand := []
  verify : Option Cand := none
  lineLen : Nat := 0
  streams : Nat := 0
  lastEav : Nat := 0
  savOff : Option Nat := none
  missing : Nat := 0
  s2missing : Nat := 0
  s2ok : Nat := 0
  inFrame : Bool := false
  lineNo : Nat := 0
  field : Bool := false
  fieldMoved : Bool := false
  departing : Nat := 0
  lastFmt : Nat := 0
  family : Nat := 0
  pidSeen : Bool := false
  pidAbsent : Nat := 0
  pidBad : Bool := false
  pidBadPrev : Bool := false
  fieldBad : Bool := false
  apRun : BitVec 16 := 0
  apLast : BitVec 16 := 0
  ffRun : BitVec 16 := 0
  ffLast : BitVec 16 := 0
  syncRun : Nat := 0
  syncPhase : Nat := 0
  subCount : Nat := 0
  spacing : Nat := 0
  indTimes : List Nat := []
  wrongSpacing : Nat := 0
  indLate : Bool := false
  frameBad : Bool := false
  badLast : List Bool := []
  commaPhase : Option Nat := none
  pktRun : Nat := 0
  pktSpacing : Nat := 0
  pktMissing : Nat := 0
  phase : Nat := 0
  hdrRun : Nat := 0
  hdrLast : List Bool := []
  scram : BitVec 58 := 0
  blockIdx : Nat := 0
  markerRun : Nat := 0
  markerMiss : Nat := 0
  rowBad : Nat := 0
  vspans : List (Nat × Nat × Nat) := []
  madiLate : Bool := false
  madiHold : List Word := []
  deriving DecidableEq, Repr

/-- The four brick kinds (Table 6.1). -/
inductive BrickKind where
  | data | mortar | header | void
  deriving DecidableEq, Repr

/-- A video brick (Table 6.1): its kind and flags, its payload, and its four parity bits. -/
structure Brick where
  kind : BrickKind := .void
  ls : Bool := false
  le : Bool := false
  fs : Bool := false
  crcb : Bool := false
  subst : Bool := false
  just : Bool := false
  par : BitVec 4 := 0
  payload : Payload := 0
  deriving DecidableEq, Repr

/-- An ancillary packet record (Table 7.1): DID, SDID or DBN, flags, line, offset, tile, and user data words; and whether a
program built it (R157, R342). -/
structure PktRec where
  did : Nat
  sdid : Nat
  bad : Bool := false
  type1 : Bool := false
  spos : Bool := false
  vert : Bool := false
  line : Nat := 0
  offset : Nat := 0
  tile : Nat := 0
  udw : List Word10 := []
  built : Bool := false
  deriving DecidableEq, Repr

/-- A line of a tile in the course aligner's buffer: its line number, its DATA bricks, and the MORTAR bricks that follow them (R118, R128). -/
structure TileLine where
  line : Nat
  bricks : List Brick
  mortar : List Brick := []
  deriving DecidableEq, Repr

/-- An input tile in the course aligner (R127 to R134): justified pointer, runs of line starts inside, outside and inside the
shrunk window, whether the last line start met the entry condition, the net justifications of the window in progress, the domain
and format in force, the XO tick at which line 1 last arrived (R308), the buffered lines, newest first; the ancillary records of those lines, oldest first (R148), and the records
and user data words of the line in progress by space (R146); the bricks of the transport packet that a data tile delivered last (R124). -/
structure TileI where
  j : Int := 0
  posSeen : Bool := false
  lastPos : Int := 0
  inRun : Nat := 0
  outRun : Nat := 0
  shrunkRun : Nat := 0
  stepNow : Bool := false
  outNow : Bool := false
  net : Int := 0
  dom : Nat := 0
  mortarChange : Int := 0
  frameAt : Nat := 0
  lines : List TileLine := []
  packet : List Brick := []
  anc : List PktRec := []
  hPk : Nat := 0
  hUdw : Nat := 0
  vPk : Nat := 0
  vUdw : Nat := 0
  deriving DecidableEq, Repr

/-- One PM second of a lane, graded (R251), with whether it counts as unavailable (R252) and whether PM_SEC was written in it. -/
structure PmGrade where
  es : Bool
  ses : Bool
  second : Nat
  uas : Bool := false
  mark : Bool := false
  deriving DecidableEq, Repr

/-- A lane's performance monitoring beyond its registers (R250 to R253): errored units and units of the second in progress,
whether LOS, LOL or LOF, and whether any of these or BOND, was set in it, whether RX_STATE was other than OFF in it, the seconds not yet
entered (oldest first), and the DEG runs. -/
structure PmI where
  err : Nat := 0
  units : Nat := 0
  loss : Bool := false
  defect : Bool := false
  active : Bool := false
  queue : List PmGrade := []
  degBad : Nat := 0
  degGood : Nat := 0
  lofRaw : Bool := false
  deriving DecidableEq, Repr

/-- A protection group beyond its registers (R256 to R265): stored command (0 none), SF and SD conditions raised as requests
after hold-off, the conditions as last seen, whether wait-to-restore runs, the member whose line the course in progress delivers (R257, R259);
and of its audio the member it goes to, the periods of the ramp done, the slots of each stream whose block has started, and the streams of W and
P in pairs (R260). -/
structure GroupI where
  enabled : Bool := false
  cmd : Nat := 0
  sfW : Bool := false
  sfP : Bool := false
  sdW : Bool := false
  sdP : Bool := false
  wtr : Bool := false
  hadW : Bool := false
  now : Nat := 0
  audio : Nat := 0
  audioI : Nat := 48
  audioFrom : Map (List Bool) := []
  pairs : List (Nat × Nat) := []
  deriving DecidableEq, Repr

/-- A tile context (Tables 8.1 to 8.4): word 0 as shadow and active copy of Wall A and Wall B, the group in each wall, OUT_STATE and
SRC_CAUSE, the counts; and what the output needs beside it: courses spent in HOLD, courses since both claims fell to 0, whether its
safe state has been counted, whether a commit waits to be judged by R195, the bricks of the last connected and of the previous
course, the bricks delivered in this one, also those of R320, and the MORTAR bricks after them (R118, R128). -/
structure TileCtx where
  shA : Word := 0x80000000
  shB : Word := 0x80000000
  acA : Word := 0x80000000
  acB : Word := 0x80000000
  grA : Nat := 0
  grB : Nat := 0
  state : Nat := 0
  cause : Nat := 0
  late : Nat := 0
  parity : Nat := 0
  loss : Nat := 0
  takes : Nat := 0
  held : Nat := 0
  zeroed : Nat := 0
  safe : Bool := false
  fresh : Bool := false
  last : List Brick := []
  prev : List Brick := []
  out : List Brick := []
  mortar : List Brick := []
  deriving DecidableEq, Repr

/-- The context with STATUS at reset and nothing held or judged (Table 8.3); what it connects and its counts stay. -/
def TileCtx.unjudged (c : TileCtx) : TileCtx :=
  { c with state := 0, cause := 0, held := 0, fresh := false, last := [], prev := [], out := [], mortar := [] }

/-- An ancillary context (Tables 7.2, 7.3): word 0 in both walls, DROP and LATE. -/
structure AncCtx where
  shA : Word := 0x4000000F
  shB : Word := 0x4000000F
  acA : Word := 0x4000000F
  acB : Word := 0x4000000F
  drop : Nat := 0
  late : Nat := 0
  deriving DecidableEq, Repr

/-- An audio context (Tables 9.1, 9.2): word 0 and the group in both walls. -/
structure AudCtx where
  shA : Word := 0xC0000000
  shB : Word := 0xC0000000
  acA : Word := 0xC0000000
  acB : Word := 0xC0000000
  grA : Nat := 0
  grB : Nat := 0
  deriving DecidableEq, Repr

/-- A take group (Table 8.5): state, held trigger, whether it was deferred, the XO tick of its trigger, and its members not yet
committed: output tile t as t, output slot s as 2,000 + s. -/
structure TakeGroup where
  state : Nat := 0
  type : Nat := 0
  tdom : Nat := 0
  gpi : Nat := 0
  frame : Nat := 0
  deferred : Bool := false
  since : Nat := 0
  left : List Nat := []
  deriving DecidableEq, Repr

/-- A monitor probe's frame in progress (R200): running CRC, whether every brick was good, whether every pair was black, whether
any brick came; the last CRC and the run of equal VALID frames. -/
structure ProbeI where
  crc : BitVec 32 := 0xFFFFFFFF
  good : Bool := true
  black : Bool := true
  any : Bool := false
  lastCrc : Option (BitVec 32) := none
  run : Nat := 0
  deriving DecidableEq, Repr

/-- A timing domain beyond its registers (R286 to R294): the last line whose read point passed, the frame whose FRAME firing
instant last passed, the pending offset slew in 10^-7 words (R293), the frame of an armed JUMP, and whether the domain waits for its first grid
instant (R286). -/
structure DomI where
  line : Nat := 0
  fired : Option Nat := none
  offLeft : Int := 0
  jumpAt : Nat := 0
  waits : Bool := false
  deriving DecidableEq, Repr

/-- The claim gates and walls beyond their registers: the armed swap's domain and the XO tick from which SETUP counts (R329); the
outputs that the running and the further targeted self-test drive, as KIND × 2^16 + INDEX (R322); the walls whose claim in STANDBY is
capped by the other's (Table 14.1); the walls whose rejoin was accepted while no wall had a claim (R327); and per running domain the frame
starts that a SHADOW still waits for (Table 14.4). -/
structure GateI where
  swap : Option (Nat × Nat) := none
  testing : Option Nat := none
  again : Option Nat := none
  capped : List Nat := []
  noCopy : List Nat := []
  shadow : Map Nat := []
  deriving DecidableEq, Repr

/-- The configuration of a frame-store channel that an enable admitted (R302, R314): the words of CH_CFG, CH_BASE and CH_FRAMES; the bond pattern,
the number of members and the input tiles that they replace; and the bandwidth reserved. -/
structure ChanConf where
  cfg : Word := 0
  base : Word := 0
  frames : Word := 0
  pat : Nat := 0
  width : Nat := 1
  tiles : List Nat := []
  cost : Nat := 0
  deriving DecidableEq, Repr

/-- A frame-store channel beyond its registers (R302 to R310): the input tile it replaces and the lead channel of its bond, while
it is enabled; the configuration in force, that of an enable which waits for the next frame start, whether a disable waits, and whether it is enabled in
effect; the
newest complete frame and the frame delivered last, as frame numbers; whether a frame has completed since its state was entered; whether a frame
is being written, and the last line written; frames delivered in LOSS or FMT_CONFLICT; the command that waits, and the frame count of a PLAY_AT;
the XO tick at which each frame began to arrive. -/
structure ChanI where
  tile : Option Nat := none
  lead : Option Nat := none
  conf : Option ChanConf := none
  start : Option ChanConf := none
  stop : Bool := false
  isOn : Bool := false
  newest : Int := -1
  r : Int := -1
  ready : Bool := false
  writing : Bool := false
  wline : Nat := 0
  lossFrames : Nat := 0
  cmd : Nat := 0
  playAt : Nat := 0
  arrivals : List (Int × Nat) := []
  deriving DecidableEq, Repr

/-- An audio delay line beyond its registers (R311): whether it is enabled in effect, periods written since the enable, the delay
that a ramp leaves, the periods of the ramp done and whether the incoming block has started, and the sample it delivered last. -/
structure DelayI where
  written : Nat := 0
  oldDelay : Nat := 0
  ramp : Nat := 48
  fromI : Bool := false
  last : Word := 0
  deriving DecidableEq, Repr


/-- A queue packet (R368): its words, each with whether it was stored with inverted parity, and the valid bytes of the last word,
0 meaning 4. -/
structure QPkt where
  words : List (Word × Bool)
  bytes : Nat := 0
  deriving DecidableEq, Repr

/-- A packet queue beyond its registers (R368 to R379): complete packets oldest first, history and pinned ones included; the read
point as packet and word; the mark, whether it is void, the packets discarded since it was placed, and those passed over; and
whether the next word carries MARK_LOST. -/
structure QueueI where
  pkts : List QPkt := []
  rd : Nat := 0
  rdw : Nat := 0
  mark : Option Nat := none
  isVoid : Bool := false
  sinceMark : Nat := 0
  passed : Nat := 0
  lostTag : Bool := false
  deriving DecidableEq, Repr

/-- An open packet of a write port (R380): its queue, the words so far, and whether it has been dropped. -/
structure OpenPkt where
  queue : Nat
  words : List (Word × Bool) := []
  dead : Bool := false
  deriving DecidableEq, Repr


/-- An open build of a line engine (R342): its words 0 and 1, its class, and the user data words so far. -/
structure BuildI where
  w0 : Word
  w1 : Word
  cls : Nat
  udw : List Word10 := []
  deriving DecidableEq, Repr

/-- A record on a line engine's path (R335): the output tile whose context selected it, or none on the receive path; the word pairs it has to spare at
the inserter before the program's time is added (R160), or none where no pointer bounds it; and the slots that the engine had spent when it set out. -/
structure PathRec where
  tx : Option Nat
  pkt : PktRec
  slack : Option Int := none
  sent : Nat := 0
  deriving DecidableEq, Repr

/-- A line engine beyond its registers (R333): general registers, call stack, input FIFO and records on their way to it, the
pointer to the next user data word of the head record, the open build, slots since the last WAIT returned and in all, the latched
upper time bits, and what a WAIT that waits will write: register and mask. -/
structure LengI where
  g : Map Word := []
  stack : List Nat := []
  fifo : List PathRec := []
  inbox : List PathRec := []
  udw : Nat := 0
  build : Option BuildI := none
  slots : Nat := 0
  spent : Nat := 0
  timeHi : Nat := 0
  wait : Option (Nat × Nat) := none
  deriving DecidableEq, Repr

/-- A packet that waits for a place in an output line: its output tile and its class (R157). -/
structure OutRec where
  tile : Nat
  cls : Nat
  pkt : PktRec
  deriving DecidableEq, Repr

/-- A sample of an embedded group that waits (R169): its four bricks, the lines that the output had begun when its period began, and the period. -/
structure EmbI where
  words : List Word
  lines : Nat
  period : Nat
  deriving DecidableEq, Repr

/-- An SDI output lane (R138): the line in assembly, its active words by stream, its fixed audio packets by stream, the packets that wait for its spaces,
and on a FOLLOW lane those for the following line (R161); and the
line last sent: its number, its format, and by stream the words of its EAV with line number and CRC, of its horizontal space, of its SAV, and its
active words (Table 6.7); lines and frames begun, and towards the next line of a lane without input (R136); by group, samples that wait for the embedder,
fields since a present sample, the groups embedded now, and the channels present in this field and the one before (R168 to R170); the running and last
CRCs of the active-picture and full-field regions of an SD output (R141); packets that an ASI output holds, its credit in half characters, packets sent
(R142); the subframes that a MADI output sends in this period (R174). -/
structure OutI where
  line : Nat := 0
  active : List (List Word10) := []
  fixed : List (Nat × List Word10) := []
  recs : List OutRec := []
  next : List OutRec := []
  sentLine : Nat := 0
  sentFmt : Nat := 0
  sentEav : List (List Word10) := []
  sentSpace : List (List Word10) := []
  sentSav : List Word10 := []
  sentActive : List (List Word10) := []
  lines : Nat := 0
  frames : Nat := 0
  credit : Nat := 0
  aud : Map (List EmbI) := []
  audSeen : Map Nat := []
  audOn : List Nat := []
  audAct : Map Nat := []
  apRun : BitVec 16 := 0
  apLast : BitVec 16 := 0
  ffRun : BitVec 16 := 0
  ffLast : BitVec 16 := 0
  asi : List (List Brick) := []
  asiCredit : Nat := 0
  asiSent : Nat := 0
  madi : List Word := []
  deriving DecidableEq, Repr


/-- An audio stream beyond its registers (R213 to R217): samples that have arrived, oldest first, with the arrival in sixteenths of a
house sample period, and the words of a sample that is still incomplete; the slip that runs (0 none, 1 drop, 2 add), its periods done and which
slots have had a block start of the incoming signal; the ramp that runs beside it (0 none, 1 from silence, 2 to silence), its periods and its
block starts; the last sample read; the
period the last slip began in; periods of UNDERRUN done; whether a write of DEPTH recentres it; the words it delivers now. -/
structure StreamI where
  buf : List (Nat × List Word) := []
  part : List Word := []
  kind : Nat := 0
  i : Nat := 0
  fromI : List Bool := []
  fade : Nat := 0
  fadeI : Nat := 0
  fadeFrom : List Bool := []
  last : List Word := []
  slipAt : Option Nat := none
  held : Nat := 0
  recentre : Bool := false
  now : List Word := []
  deriving DecidableEq, Repr

/-- What an output slot delivers (R207, R210). -/
inductive AudSrc where
  | off | silence
  | slot (s : Nat)
  deriving DecidableEq, Repr

/-- An output slot beyond its context (R172, R210 to R212, R320): the source it delivers or ramps to with its ACTION, the one it changed from, periods
of the ramp done, its length, and whether it is a 96 kHz pair's; whether the incoming block has started; the source last asked for, whether a commit has
yet to be seen, whether a change waits; periods
since both claims fell to 0 with the brick held then, and the brick it delivers now. -/
structure SlotI where
  src : AudSrc := .off
  act : Nat := 3
  old : AudSrc := .off
  i : Nat := 0
  n : Nat := 0
  pair : Bool := false
  fromI : Bool := false
  want : AudSrc := .off
  due : Bool := false
  pending : Bool := false
  zero : Nat := 0
  hold : Word := 0
  brick : Word := 0
  deriving DecidableEq, Repr

/-- An audio generator: periods since its enable, its PRBS-23 register, the brick it delivers now (R219). -/
structure GenI where
  n : Nat := 0
  prbs : BitVec 23 := 0x7FFFFF
  brick : Word := 0
  deriving DecidableEq, Repr

/-- A metering tap (R220): the window's sample count, largest magnitude and sum of squares, whether every sample was good; the
checker's last sample, none before the first, and PRBS register, run of correct samples, and last 16 samples, newest first. -/
structure MeterI where
  count : Nat := 0
  peak : Nat := 0
  sum : Nat := 0
  good : Bool := true
  last : Option Nat := none
  prbs : BitVec 23 := 0
  run : Nat := 0
  hist : List Bool := []
  deriving DecidableEq, Repr

/-- One embedded audio group of an input lane (R164, R166): the channels' last samples, samples substituted in a row, and fields without a
packet. -/
structure DeembI where
  last : List Word := [0, 0, 0, 0]
  subst : Nat := 0
  fields : Nat := 2
  deriving DecidableEq, Repr



/-- A reference input beyond its registers (R270 to R278): its last 8 FREQ measurements, newest first; calm measurements towards the
end of DRIFT; whether its wait-to-restore timer runs, and the XO tick of its start; the last accepted time-of-day message's sequence
number and seconds, and how many messages in a row have continued one another with servo locked (R272). -/
structure RefI where
  freqs : List Int := []
  calm : Nat := 0
  wtr : Bool := false
  wtrAt : Nat := 0
  todLast : Option (Nat × Nat) := none
  todRun : Nat := 0
  deriving DecidableEq, Repr

/-- The timing unit beyond its registers (R268 to R285, R296): whether it has been LOCKED, the command of R278, the frequency word
in force, XO_CAL and HOLD; the ramp of a transition as start tick and goal, the transition's step, the input that an ended transition
gave up, the captured phase and PBO in 1/4,096 of a 148.5 MHz period; the ring of history by window, newest first; windows ended, the freeze as input and
window, whether the window in progress can still be valid; whether an audio realignment runs; and the XO tick at which PHASE_LEFT
held what its register holds (R293). -/
structure TmuI where
  wasLocked : Bool := false
  cmd : Bool := false
  dco : Int := 0
  cal : Int := 0
  hold : Int := 0
  ramp : Option (Nat × Int) := none
  step : Nat := 0
  prev : Option Nat := none
  phase : Int := 0
  pbo : Int := 0
  hist : List (Nat × Option Int) := []
  window : Nat := 0
  freeze : Option (Nat × Nat) := none
  winOk : Bool := false
  aud : Bool := false
  stepAt : Nat := 0
  deriving DecidableEq, Repr

/-- A receive slot of a Tile Link lane beyond its registers (R234 to R243): whether a header is held for the next to agree with; data
bricks until the next line start, that line's sequence number and line number; consecutive disagreeing headers, and frames without an
agreeing one; whether lines are delivered, the bricks of the line in progress and its number; the header brick that waits to be judged and the data
bricks that follow it; and the last J. -/
structure RxSlotI where
  cand : Bool := false
  toNext : Nat := 0
  seq : Nat := 0
  line : Nat := 0
  dis : Nat := 0
  noAgree : Nat := 0
  deliver : Bool := false
  cur : List Payload := []
  curLine : Nat := 0
  hdr : Option Brick := none
  held : List Payload := []
  j : Bool := false
  deriving DecidableEq, Repr

/-- A Tile Link receive lane beyond its registers and its framer: the last block with its sync header, descrambled, and its position in
the frame; whether the last row overhead was consistent; the blocks of the slot in progress, the last JCW; the BIP-32 of the frame in progress
and of the one before (R228); the SRQ pairs of the last two frames and the run of frames without an accepted one (R229); RDI's run (R230); the
last trace, its run, and whether one was accepted (R231); the open packet (R233); the differing bits of the latest comparison. -/
structure TlRxI where
  sync : BitVec 2 := 0
  block : BitVec 64 := 0
  pos : Nat := 0
  rowOk : Bool := false
  slotBlocks : List (BitVec 64) := []
  jcw : BitVec 64 := 0
  bip : BitVec 32 := 0
  bipPrev : Option (BitVec 32) := none
  srqPrev : List (Option Nat) := []
  srqRun : Nat := 0
  rdiLast : Bool := false
  rdiRun : Nat := 0
  trace : Nat := 0
  traceRun : Nat := 0
  traceOk : Bool := false
  cc : Option (List Byte) := none
  rei : Nat := 0
  slots : Map RxSlotI := []
  deriving DecidableEq, Repr

/-- A transmit slot of a Tile Link lane (R236, R238, R243): data bricks that wait, oldest first; bricks of the line in progress still
to be sent; the sequence number and line number of the next line to be sent, and of the next to be produced; whole packets that wait, as bricks. -/
structure TxSlotI where
  bricks : List Payload := []
  left : Nat := 0
  seq : Nat := 0
  line : Nat := 1
  made : Nat := 0
  packets : List (List Brick) := []
  deriving DecidableEq, Repr

/-- A segment of the communication channel: control byte and six data bytes (R232). -/
structure CcSeg where
  ctl : Byte
  bytes : List Byte
  deriving DecidableEq, Repr

/-- A Tile Link transmit lane (R223 to R245): whether a frame is in progress; the blocks of the last frame as sent, each a sync header and a scrambled
payload, the last 58 bits sent, and its BIP-32; the overhead and header bricks that the frame in progress sends; the segments it carries and those that
wait; the slots, and those whose TXSLOT write waits for the frame start. -/
structure TlTxI where
  run : Bool := false
  frame : List (BitVec 2 × BitVec 64) := []
  scram : BitVec 58 := 0
  bip : BitVec 32 := 0
  sentBip : BitVec 32 := 0
  srq1 : Nat := 0
  srq2 : Nat := 0
  rdi : Bool := false
  rei : Nat := 0
  trace : BitVec 56 := 0
  headers : List Brick := []
  segs : List CcSeg := []
  queue : List CcSeg := []
  slots : Map TxSlotI := []
  waiting : List Nat := []
  deriving DecidableEq, Repr


/-- A power-on or PIN reset in progress (Table 20.1). -/
inductive ResetRun where
  | none | pin | powerOn
  deriving DecidableEq, Repr

/-- Resets, power states and supply supervision beyond the registers (R408 to R427): the device reset in progress, whether XO_IN has
passed its check, the causes that still hold and those seen since it began (0 POR, 1 PIN, 2 SUPPLY, 3 THERMAL, 4 SOFT); whether a wake
from DORMANT runs; the rails in warning; the brownout-log entry that each of them has open and the next entry's sequence number; TEMP_WARN
and whether the last reading reached 125 °C; the XO tick at which WAKE_TIMER was started and the phase of the always-on clock then (R454);
and after a wake from DORMANT, what MEMC[0].CFG and MEMC[1].CFG held at entry, until that MEMC is enabled (R418). -/
structure PwrI where
  run : ResetRun := .none
  xoOk : Bool := true
  active : List Nat := []
  seen : List Nat := []
  waking : Bool := false
  warn : List Nat := []
  opens : List (Nat × Nat) := []
  seq : Nat := 0
  tempWarn : Bool := false
  hot : Bool := false
  timerAt : Nat := 0
  timerPhase : Nat := 0
  memCfg : Option Word := none
  memCfgB : Option Word := none
  deriving DecidableEq, Repr

/-- A control core as the block sees it (R412, R436): whether it runs, and the address it started at. -/
structure CoreI where
  on : Bool := false
  start : Word := 0
  deriving DecidableEq, Repr

/-- A locked sequence under way (R354): its master, target, word address, and the word it is to write. -/
structure LockI where
  master : Nat
  target : Nat
  addr : Nat
  word : Word
  deriving DecidableEq, Repr

/-- A read that waits: of the flash window for a flash command (R444), or the rest of a burst behind a stalled read of RD_LO (R374):
its master, the address of the next beat, the beats left, and the words read before. -/
structure ReadWait where
  master : Nat
  addr : Nat
  beats : Nat
  got : List Word := []
  deriving DecidableEq, Repr

/-- The control matrix beyond its registers (R353, R354, R444): the master each target is parked on and the master it granted last, the
locked sequences under way, the oldest first, each core's reservation as address + 1, and reads that wait. -/
structure MtxI where
  park : Map Nat := []
  last : Map Nat := []
  locks : List LockI := []
  reserve : Map Nat := []
  waits : List ReadWait := []
  deriving DecidableEq, Repr

/-- How a PCIe request is completed (R357, R429). -/
inductive PciStatus where
  | none | success | unsupported | abort
  deriving DecidableEq, Repr

/-- The host interfaces beyond their registers (R428 to R434): PCIE_PERST_N, MSI-X Enable, the vector of the last message sent and those that
are pending, the last request's completion and whether it waits for a queue; the SPI frame number, whether a frame's access waits for a queue, and the last frame's status
and read-data words. -/
structure HostI where
  perst : Bool := false
  msixOn : Bool := false
  msixLast : Option Nat := none
  msixPend : List Nat := []
  cplStatus : PciStatus := .none
  cplData : List Word := []
  pciWait : Bool := false
  spiSeq : Nat := 0
  spiWait : Bool := false
  spiRead : Bool := false
  spiStatus : Word := 0
  spiData : Word := 0
  deriving DecidableEq, Repr

/-- Which instruction the TAP holds (R442). -/
inductive TapInstr where
  | idcode | samplePreload | extest | clamp | highz | debug | bypass
  deriving DecidableEq, Repr

/-- The boot loader beyond its registers (R435 to R441): whether it is about to start; whether the image comes from SRAM bank 4; the flash's
address length and fast read entered at discovery. -/
structure BootI where
  due : Bool := true
  fromBank : Bool := false
  addr4 : Bool := false
  quad : Bool := false
  deriving DecidableEq, Repr

/-- JTAG (R442, R443): the TAP instruction; the boundary-scan chain's update latches and what it sampled; what the identification register
captured; and of DEBUG, whether its access waits, whether it reads, and the status and read-data words it shifts out. -/
structure JtagI where
  tap : TapInstr := .idcode
  scan : List Bool := []
  sampled : List Bool := []
  ident : Word := 0
  wait : Bool := false
  isRead : Bool := false
  status : Word := 0
  data : Word := 0
  deriving DecidableEq, Repr

/-- An FP ball (R294): the pulses it has begun, and the XO tick of the last. -/
structure FpI where
  count : Nat := 0
  start : Nat := 0
  deriving DecidableEq, Repr

/-- The block without its queue: the register file and all state beside it. -/
structure Dev where
  /-- registers, by key bank × 2^28 + matrix address, where they differ from their reset value -/
  regs : Map Word := []
  /-- how many fresh free values have been drawn; the model's own count -/
  free : Nat := 0
  /-- the 48-bit XO tick count (R70) -/
  xo : BitVec 48 := 0
  /-- the answer to each master's last transfer -/
  resp : Map Resp := []
  /-- the FAB_MARGIN level and the run of windows at or above CLEAR_LEVEL (R63) -/
  fabMargin : Bool := false
  marginRun : Nat := 0
  intc : IntcS := {}
  pmc : PmcS := {}
  /-- lanes by receive lane number: SDI 0 to 143, Tile Link 144 + n -/
  lanes : Map LaneI := []
  /-- PLL0 and PLL1 of each SDI quad, key 2q + k -/
  plls : Map PllI := []
  framers : Map FramerI := []
  /-- input tiles 0 to 1,407 in the course aligner -/
  tiles : Map TileI := []
  pm : Map PmI := []
  groups : Map GroupI := []
  /-- the PM second that a write of PM_SEC gives the next second, and whether it was written (R249) -/
  pmNext : Option Nat := none
  /-- contexts by output tile, by 2 × output tile + kind, by output slot -/
  tctx : Map TileCtx := []
  actx : Map AncCtx := []
  uctx : Map AudCtx := []
  takes : Map TakeGroup := []
  probes : Map ProbeI := []
  doms : Map DomI := []
  gates : GateI := {}
  /-- takes are deferred by a supply dip (R424) -/
  deferring : Bool := false
  /-- frame-store channels 0 to 319 -/
  chans : Map ChanI := []
  /-- audio delay lines 0 to 3,583 -/
  delays : Map DelayI := []
  /-- frame-store bytes, key MEMC × 2^34 + byte address, where they differ from their undefined content of this generation (R300) -/
  mem : Map Byte := []
  /-- how often the content of the frame store of MEMC0, and of MEMC1, has been lost -/
  memGen : Nat := 0
  memGenB : Nat := 0
  /-- packet queues by number -/
  queues : Map QueueI := []
  /-- open write packets by master -/
  opens : Map OpenPkt := []
  /-- PAR_INJ waits for the next queue word (R383) -/
  parInj : Bool := false
  /-- the queue a master's read waits on (R374), as queue + 1 -/
  stalls : Map Nat := []
  /-- SRAM words by (matrix address − 0x100_0000) / 4, 0 where unlisted (R367) -/
  sram : Map Word := []
  /-- line engines 0 to 143, and their instruction stores (key 1,024n + i) and data memories (key 2,048n + a), where they differ
  from their undefined content of this generation (R348) -/
  lengs : Map LengI := []
  istore : Map Word := []
  dmem : Map Word := []
  lengGen : Nat := 0
  /-- SDI output lanes 0 to 143 -/
  outs : Map OutI := []
  /-- house sample periods since reset -/
  period : Nat := 0
  /-- audio streams 0 to 4,639, output slots 0 to 53,247, generators and metering taps 0 to 511 -/
  streams : Map StreamI := []
  slots : Map SlotI := []
  gens : Map GenI := []
  meters : Map MeterI := []
  /-- embedded audio groups of input lanes, key 32 × lane + group bit -/
  deembs : Map DeembI := []
  /-- reference inputs, and the timing unit -/
  refs : Map RefI := []
  tmu : TmuI := {}
  /-- the FP[n] balls (R294) -/
  fps : Map FpI := []
  /-- Tile Link lanes 0 to 15, receive and transmit -/
  tlrx : Map TlRxI := []
  tltx : Map TlTxI := []
  /-- what a protected stream's slots deliver in this period in place of its own samples, by stream (R257) -/
  protAud : Map (List Word) := []
  pwr : PwrI := {}
  cores : Map CoreI := []
  mtx : MtxI := {}
  host : HostI := {}
  boot : BootI := {}
  jtag : JtagI := {}
  /-- the level on each GPIO ball from outside, pulled down where nothing drives it (Table 2.6) -/
  gpioPins : BitVec 16 := 0
  deriving DecidableEq, Repr

/-- The state: the block, and the commands that wait, first in, first out. -/
structure State where
  dev : Dev := {}
  pending : List Instr := []
  deriving DecidableEq, Repr

/-- Why the machine could stop: no rule of the spec stops this block, so no meaning raises one. -/
inductive Fault where
  /-- Raised by no meaning: every command has an effect. Safe. -/
  | never
  deriving DecidableEq, Repr

/-- Why a command has no meaning. -/
inductive Refusal where
  /-- Raised by the arm of a command that has no meaning yet. Safe. -/
  | notModelled (mnemonic : String)
  deriving DecidableEq, Repr

/-- The block right after power-on reset: every register at its reset value (an unlisted key reads it), every memory as
R367 and the log entries say, nothing in progress, nothing waiting. -/
def State.reset : State := {}

end Sys2Proof.Machine
end

