-- ==== Sys2Proof/Machine/Ops.lean ====
section
/-! DEFINITION. The named operations over registers: reading and writing fields, counters, page events with the interrupt
source and the performance counters that follow them, free values and responses. -/

namespace Sys2Proof.Machine

/-- The causes of a rejected write, in the order in which one is recorded (R19, R20). -/
inductive Rej where
  | locked | expert | rsvd | range | armed | state
  deriving DecidableEq, Repr

/-- PAGE_ERRCODE.CODE of a cause. -/
def Rej.code : Rej → Nat
  | .range => 1
  | .rsvd => 2
  | .expert => 3
  | .locked => 4
  | .armed => 5
  | .state => 6

/-- A cause where a condition holds. -/
def rejIf (b : Bool) (r : Rej) : List Rej := if b then [r] else []

/-- The register of a field's `k`th copy. -/
def Fld.nth (f : Fld) (k : Nat) : Fld := { f with off := f.off + k * f.stride }

/-- Read a register word at a key. -/
def Dev.reg (d : Dev) (key : Nat) : Word := Map.get resetWord d.regs key

/-- Write a register word at a key. -/
def Dev.setReg (d : Dev) (key : Nat) (w : Word) : Dev := { d with regs := Map.put resetWord d.regs key w }

/-- The key of a register offset of a page, in a bank. -/
def regKey (p : Page) (bank off : Nat) : Nat := bank * 0x10000000 + (p.base + off)

/-- Read a field of a page. -/
def Dev.rd (d : Dev) (p : Page) (f : Fld) : Nat := f.get (d.reg (regKey p 0 f.off))

/-- Write a field of a page, as the hardware does: no check, no side effect. -/
def Dev.wr (d : Dev) (p : Page) (f : Fld) (v : Nat) : Dev :=
  d.setReg (regKey p 0 f.off) (f.put (d.reg (regKey p 0 f.off)) v)

/-- Read a field of a banked register. -/
def Dev.rdB (d : Dev) (p : Page) (bank : Nat) (f : Fld) : Nat := f.get (d.reg (regKey p bank f.off))

/-- Write a field of a banked register. -/
def Dev.wrB (d : Dev) (p : Page) (bank : Nat) (f : Fld) (v : Nat) : Dev :=
  d.setReg (regKey p bank f.off) (f.put (d.reg (regKey p bank f.off)) v)

/-- A one-bit field as a truth value. -/
def Dev.on (d : Dev) (p : Page) (f : Fld) : Bool := d.rd p f == 1

/-- Write a one-bit field. -/
def Dev.wrOn (d : Dev) (p : Page) (f : Fld) (b : Bool) : Dev := d.wr p f (if b then 1 else 0)

/-- Add to a count, which saturates at the field's maximum. -/
def Dev.add (d : Dev) (p : Page) (f : Fld) (n : Nat) : Dev := d.wr p f (min (d.rd p f + n) (2 ^ f.w - 1))

/-- Add to a count of a banked register, which saturates. -/
def Dev.addB (d : Dev) (p : Page) (bank : Nat) (f : Fld) (n : Nat) : Dev :=
  d.wrB p bank f (min (d.rdB p bank f + n) (2 ^ f.w - 1))

/-- Increment a saturating count. -/
def Dev.inc (d : Dev) (p : Page) (f : Fld) : Dev := d.add p f 1

/-- The page is enabled: PAGE_CTRL.ENABLE, which the model acts on at once. -/
def Dev.enabled (d : Dev) (p : Page) : Bool := d.on p .PAGE_CTRL_ENABLE

/-- Draw a fresh free value of `w` bits and advance the count it is drawn at. -/
def Dev.draw (d : Dev) (w : Nat) : BitVec w × Dev := (Config.freeValue w d.free, { d with free := d.free + 1 })

/-- The interrupt source of a page (Table 18.1); a line-engine page has none. -/
def pageSource : Page → Option Nat
  | .lane n => some n
  | .tll n => some (144 + n)
  | .tdom n => some (160 + n)
  | .refin n => some (176 + n)
  | .tmu => some 184
  | .wall w => some (192 + w)
  | .cgate => some 194
  | .fab => some 200
  | .afab => some 201
  | .prot => some 202
  | .fst => some 216
  | .memc m => some (217 + m)
  | .pwr => some 264
  | .aon => some 265
  | .dev => some 266
  | .mtx => some 280
  | .sramc => some 281
  | .qmg => some 282
  | .intc => some 283
  | .intcF => some 283
  | .pmc => some 296
  | .host => some 312
  | .boot => some 313
  | .leng _ => none

/-- One page raises its level: some PAGE_EVT bit and the PAGE_EVT_EN bit of its position are both 1 (R18). -/
def Dev.pageLevel (d : Dev) (p : Page) : Bool :=
  (d.reg (regKey p 0 0x010) &&& d.reg (regKey p 0 0x014)) != 0

/-- The level of an interrupt source that is a page's; INTC and INTC_F share source 283. -/
def Dev.sourceLevel (d : Dev) (p : Page) : Bool :=
  match p with
  | .intc => d.pageLevel .intc || d.pageLevel .intcF
  | .intcF => d.pageLevel .intc || d.pageLevel .intcF
  | _ => d.pageLevel p

/-- An interrupt source's state. -/
def Dev.src (d : Dev) (s : Nat) : SrcI := Map.get (fun _ => {}) d.intc.srcs s

/-- Write an interrupt source's state. -/
def Dev.setSrc (d : Dev) (s : Nat) (v : SrcI) : Dev :=
  { d with intc := { d.intc with srcs := Map.put (fun _ => {}) d.intc.srcs s v } }

/-- BANKED routing is in force (R387). -/
def Dev.intcBanked (d : Dev) : Bool := d.rd .intc .INTC_CFG_MODE == 0

/-- The enable bit of source number `s` in a bank: 0 and 1 of CC0 and CC1, 2 of HOST, 3 the global set of TARGETED mode. -/
def Dev.enBit (d : Dev) (bank s : Nat) : Bool := (d.rdB .intc bank (Fld.nth .INTC_EN_EN (s / 32))).testBit (s % 32)

/-- The source number of a source's key: key 512 + 16c + i is core c's own software interrupt 496 + i (R388). -/
def srcNumber (k : Nat) : Nat := if k < 512 then k else 496 + (k - 512) % 16

/-- The target an enabled source routes to, 0 to 3 a core and 4 HOST (R387, R388); none while it is not enabled. -/
def Dev.srcRoute (d : Dev) (k : Nat) : Option Nat :=
  if 512 ≤ k then
    let c := (k - 512) / 16
    if d.intcBanked && (2 ≤ c || d.enBit c (srcNumber k)) then some c else none
  else if !(d.intcBanked) then if d.enBit 3 k then some (d.rdB .intc k .INTC_SRC_CFG_TARGET) else none
  else if 496 ≤ k then none
  else if d.enBit 0 k then some 0
  else if d.enBit 1 k then some 1
  else if d.enBit 2 k then some 4
  else none

/-- A commanded reset of this code is running (R409): 1 MGMT, 2 DATA, 3 TIMING. -/
def Dev.resetRuns (d : Dev) (cmd : Nat) : Bool := d.on .pwr .PWR_RST_STAT_BUSY && d.rd .pwr .PWR_RST_STAT_LAST == cmd

/-- CCn is held in CORE reset: its RUN bit is 0, the boot has not reached DONE, or a MGMT reset runs (R412, R436). -/
def Dev.coreHeld (d : Dev) (c : Nat) : Bool :=
  !((d.rd .pwr .PWR_CORE_CTL_RUN).testBit c) || d.rd .boot .BOOT_STAT_STATE != 4 || d.resetRuns 1

/-- A target is asleep (R394); HOST never is. -/
def Dev.asleep (d : Dev) (t : Nat) : Bool := t < 4 && ((d.rd .pwr .PWR_CORE_CTL_SLEEP).testBit t || d.coreHeld t)

/-- The source is in the wake set (R396). -/
def Dev.watched (d : Dev) (s : Nat) : Bool :=
  (List.range 32).any (fun i => d.on .intc (Fld.nth .INTC_WATCH_VALID i) && d.rd .intc (Fld.nth .INTC_WATCH_SOURCE i) == s)

/-- A source waits to be taken: pending, not committed, not in service (R386). -/
def Dev.srcReady (d : Dev) (k : Nat) : Bool :=
  0 < (d.src k).count && (d.src k).committed.isNone && (d.src k).insvc.isNone

/-- A watched source that waits for a sleeping core wakes it, and the core's SLEEP bit clears (R394, R412). -/
def Dev.wakeFor (d : Dev) (k : Nat) : Dev :=
  match d.srcRoute k with
  | some c =>
    if c < 4 && (d.rd .pwr .PWR_CORE_CTL_SLEEP).testBit c && d.srcReady k && d.watched (srcNumber k) then
      d.wr .pwr .PWR_CORE_CTL_SLEEP (d.rd .pwr .PWR_CORE_CTL_SLEEP - 2 ^ c)
    else d
  | none => d

/-- Every watched source that waits for a sleeping core wakes it. -/
def Dev.wakeSettle (d : Dev) : Dev := (d.intc.srcs.map (·.1)).foldl (fun e k => e.wakeFor k) d

/-- The core domains do not run: a PIN or power-on reset, DORMANT, or a wake from it. -/
def Dev.stopped (d : Dev) : Bool := d.pwr.run != .none || d.pwr.waking || d.rd .pwr .PWR_STATE_CUR == 2

/-- Events are lost while a MGMT reset, a BLOCK reset of INTC, a PIN or power-on reset, DORMANT or a wake from it runs (R397). -/
def Dev.intcLost (d : Dev) : Bool := d.resetRuns 1 || d.on .intc .PAGE_STAT_RESET_BUSY || d.stopped

/-- Count one event of a source (R385): at 255 it is lost, and SAT of the source is set. -/
def Dev.addEventRaw (d : Dev) (s : Nat) : Dev :=
  if d.intcLost then d
  else if (d.src s).count < 255 then (d.setSrc s { d.src s with count := (d.src s).count + 1 }).wakeFor s
  else d.setSrc s { d.src s with sat := true }

/-- The configured performance counters, as the register file holds them: counter number and CFG word (reset 0 counts nothing). -/
def Dev.pmcCfgs (d : Dev) : List (Nat × Word) :=
  (d.regs.filter (fun e => 0x8100 ≤ e.1 && e.1 < 0x8400 && (e.1 - 0x8100) % 12 == 0)).map
    (fun e => ((e.1 - 0x8100) / 12, e.2))

/-- Counter `n` counts at all: the page and the counter are enabled and FREEZE is 0 (R399, R402). -/
def Dev.pmcOn (d : Dev) (n : Nat) : Bool :=
  d.enabled .pmc && d.on .pmc (Fld.nth .PMC_CFG_ENABLE n) && !(d.on .pmc .PMC_CTL_FREEZE)

/-- Counter `n` counts only the carries of the counter below it (R401). -/
def Dev.pmcChained (d : Dev) (n : Nat) : Bool :=
  match n with
  | 0 => false
  | k + 1 => d.on .pmc (Fld.nth .PMC_CFG_CHAIN k)

/-- The 48-bit count of counter `n`. -/
def Dev.pmcCount (d : Dev) (n : Nat) : Nat := Map.get (fun _ => 0) d.pmc.cnt n

/-- Write the count of counter `n`. -/
def Dev.setPmcCount (d : Dev) (n v : Nat) : Dev :=
  { d with pmc := { d.pmc with cnt := Map.put (fun _ => 0) d.pmc.cnt n v } }

/-- Set bit `n` of the 64-bit OVF pair (R401). -/
def Dev.setOvf (d : Dev) (n : Nat) : Dev :=
  if n < 32 then d.setReg (regKey .pmc 0 0x024) (d.reg (regKey .pmc 0 0x024) ||| BitVec.ofNat 32 (2 ^ n))
  else d.setReg (regKey .pmc 0 0x028) (d.reg (regKey .pmc 0 0x028) ||| BitVec.ofNat 32 (2 ^ (n - 32)))

/-- The counters that an occurrence of event bit `b` of a page reaches (R399, EDGE mode). -/
def Dev.pmcEdge (d : Dev) (p : Page) (b : Nat) : List Nat :=
  (d.pmcCfgs.filter (fun e =>
    Fld.PMC_CFG_MODE.get e.2 == 0 && Fld.PMC_CFG_PAGE.get e.2 == p.base / 4096 && Fld.PMC_CFG_EVENT.get e.2 == b
      && d.pmcOn e.1 && !(d.pmcChained e.1))).map (·.1)

/-- Set a PAGE_EVT bit of a page, with no counter and no interrupt. -/
def Dev.evtBit (d : Dev) (p : Page) (b : Nat) : Dev :=
  d.setReg (regKey p 0 0x010) (d.reg (regKey p 0 0x010) ||| BitVec.ofNat 32 (2 ^ b))

/-- Add 1 to counter `n` (R399, R401): a wrap sets its OVF bit and either carries into the next counter or is an occurrence
of PMC's OVF event, which other counters may count in turn; `fuel` bounds that chain. -/
def Dev.pmcAdd : Nat → Dev → Nat → Dev
  | 0, d, _ => d
  | fuel + 1, d, n =>
    if d.pmcCount n + 1 < 2 ^ 48 then d.setPmcCount n (d.pmcCount n + 1)
    else
      let d := (d.setPmcCount n 0).setOvf n
      if d.on .pmc (Fld.nth .PMC_CFG_CHAIN n) then
        if d.pmcOn (n + 1) then Dev.pmcAdd fuel d (n + 1) else d
      else
        let d' := (d.pmcEdge .pmc 8).foldl (fun e k => Dev.pmcAdd fuel e k) (d.evtBit .pmc 8)
        if !(d.pageLevel .pmc) && d'.pageLevel .pmc then d'.addEventRaw 296 else d'

/-- Every counter that an event occurrence reaches adds 1. -/
def Dev.pmcOccur (d : Dev) (p : Page) (b : Nat) : Dev :=
  (d.pmcEdge p b).foldl (fun e k => Dev.pmcAdd 130 e k) d

/-- Count one event of a source; a lost one also sets INTC.PAGE_EVT.SAT, bit 9 (R385). -/
def Dev.addEvent (d : Dev) (s : Nat) : Dev :=
  if (d.src s).count < 255 || d.intcLost then d.addEventRaw s
  else
    let d' := ((d.addEventRaw s).pmcOccur .intc 9).evtBit .intc 9
    if !(d.sourceLevel .intc) && d'.sourceLevel .intc then d'.addEventRaw 283 else d'

/-- A change of a page's event registers adds one event to its source when the level rises (R18, R384). -/
def Dev.levelled (d d' : Dev) (p : Page) : Dev :=
  match pageSource p with
  | some s => if !(d.sourceLevel p) && d'.sourceLevel p then d'.addEvent s else d'
  | none => d'

/-- An occurrence of event bit `b` of a page: the performance counters count it, PAGE_EVT bit `b` is set, and the page's
source takes one event if its level rises. -/
def Dev.setEvt (d : Dev) (p : Page) (b : Nat) : Dev :=
  let d := d.pmcOccur p b
  d.levelled (d.evtBit p b) p

/-- `setEvt` under a condition. -/
def Dev.setEvtIf (d : Dev) (c : Bool) (p : Page) (b : Nat) : Dev := if c then d.setEvt p b else d

/-- Add to a saturating count; event bit `b` of the page when the count rises. -/
def Dev.addEvt (d : Dev) (p : Page) (f : Fld) (n b : Nat) : Dev :=
  (d.add p f n).setEvtIf ((d.add p f n).rd p f != d.rd p f) p b

/-- Count bytes at a bandwidth port of the window in progress (R404), 48 bits; the windows stop while PMC is disabled. -/
def Dev.bwAdd (d : Dev) (port n : Nat) : Dev :=
  if d.enabled .pmc then
    { d with pmc := { d.pmc with
        bytes := Map.put (fun _ => 0) d.pmc.bytes port ((Map.get (fun _ => 0) d.pmc.bytes port + n) % 2 ^ 48) } }
  else d

/-- What master `m`'s last transfer was answered with. -/
def Dev.respond (d : Dev) (m : Nat) (r : Resp) : Dev :=
  { d with resp := Map.put (fun _ => {}) d.resp m r }

/-! ### What resets and power states return -/

/-- The bits of a page's register that a reset keeps (R8, R9). -/
def keepMask (k : ResetKind) (p : Page) (off : Nat) : Word :=
  match regAt p off with
  | some r => (r.fields.filter (fun f => f.kept.has k)).foldl (fun (a : Word) f => a ||| BitVec.ofNat 32 f.mask) 0
  | none => 0

/-- A register of a page that a reset reaches: kept bits stay, the others read their reset value. -/
def keptWord (k : ResetKind) (which : Page → Bool) (key : Nat) (w : Word) : Word :=
  match pageAt (key % 0x10000000) with
  | some p =>
    if which p then
      let m := keepMask k p (key % 0x1000)
      (w &&& m) ||| (resetWord key &&& ~~~m)
    else w
  | none => w

/-- The registers of the pages that `which` names after a reset or power state of this kind (R8). -/
def Dev.resetRegs (d : Dev) (k : ResetKind) (which : Page → Bool) : Dev :=
  { d with regs := Map.update resetWord (keptWord k which) d.regs }

/-- PAGE_CTRL with its expert half closed; any other register as it is. -/
def closedWord (k : Nat) (w : Word) : Word :=
  if k % 0x1000 == 0x008 && (pageAt (k % 0x10000000)).isSome then Fld.PAGE_CTRL_EXPERT_KEY.put w 0 else w

/-- The expert half of every page closes (R15). -/
def Dev.closeHalves (d : Dev) : Dev :=
  { d with regs := Map.update resetWord closedWord d.regs }

end Sys2Proof.Machine
end

