-- ==== Sys2Proof/Machine/Formats.lean ====
section
/-! DEFINITION. The tables of link modes, formats and bond patterns (Tables 4.3, 5.2, 5.4, 6.3, 6.4), and which lane, position
and bond a tile belongs to. -/

namespace Sys2Proof.Machine

/-- A row of Table 5.4: word length of a line, active words, lines per frame, scan, rate family (1 is 1/1.001), frames per
second before the family's division. -/
structure Fmt where
  len : Nat
  active : Nat
  lines : Nat
  interlaced : Bool
  family : Nat
  fps : Nat
  deriving DecidableEq, Repr

/-- The formats with codes 1 to 24 (Table 5.4), in order. -/
def fmtTable : List Fmt :=
  [⟨1716, 1440, 525, true, 0, 30⟩, ⟨1728, 1440, 625, true, 0, 25⟩, ⟨1980, 1280, 750, false, 0, 50⟩,
   ⟨1650, 1280, 750, false, 1, 60⟩, ⟨1650, 1280, 750, false, 0, 60⟩, ⟨2640, 1920, 1125, true, 0, 25⟩,
   ⟨2200, 1920, 1125, true, 1, 30⟩, ⟨2200, 1920, 1125, true, 0, 30⟩, ⟨2750, 1920, 1125, false, 1, 24⟩,
   ⟨2750, 1920, 1125, false, 0, 24⟩, ⟨2640, 1920, 1125, false, 0, 25⟩, ⟨2200, 1920, 1125, false, 1, 30⟩] ++
  [⟨2200, 1920, 1125, false, 0, 30⟩, ⟨2640, 1920, 1125, false, 0, 50⟩, ⟨2200, 1920, 1125, false, 1, 60⟩,
   ⟨2200, 1920, 1125, false, 0, 60⟩, ⟨2750, 1920, 1125, false, 1, 24⟩, ⟨2750, 1920, 1125, false, 0, 24⟩,
   ⟨2640, 1920, 1125, false, 0, 25⟩, ⟨2200, 1920, 1125, false, 1, 30⟩, ⟨2200, 1920, 1125, false, 0, 30⟩,
   ⟨2640, 1920, 1125, false, 0, 50⟩, ⟨2200, 1920, 1125, false, 1, 60⟩, ⟨2200, 1920, 1125, false, 0, 60⟩]

/-- The format of a code: 25 to 32 are 17 to 24 at 4096 wide; none for 0 and for codes above 32. -/
def fmtOf (code : Nat) : Option Fmt :=
  if code == 0 then none
  else if code ≤ 24 then fmtTable[code - 1]?
  else if code ≤ 32 then (fmtTable[code - 9]?).map (fun f => { f with active := 2048 })
  else none

/-- Lines per frame of a format code; 0 where the code names no format. -/
def fmtLines (code : Nat) : Nat := ((fmtOf code).map (·.lines)).getD 0

/-- The SDI link modes of Table 4.3 that carry a format code. -/
def fmtModes (code : Nat) : List Nat :=
  if code == 0 then []
  else if code ≤ 2 then [1]
  else if code ≤ 13 then [2, 4]
  else if code ≤ 16 then [3, 5]
  else if code ≤ 21 then [7, 8]
  else if code ≤ 24 then [6, 8]
  else if code ≤ 29 then [7, 8]
  else if code ≤ 32 then [6, 8]
  else []

/-- A 2160p format at 50 Hz to 60 Hz. -/
def fmtFast (code : Nat) : Bool := (22 ≤ code && code ≤ 24) || (30 ≤ code && code ≤ 32)

/-- The interleaved data streams N of a format in a mode (Table 5.2, Table 5.4). -/
def fmtStreams (mode code : Nat) : Nat :=
  match mode with
  | 1 => 1
  | 2 => 2
  | 3 => 2
  | 4 => 4
  | 5 => 2
  | 6 => 2
  | 7 => 8
  | 8 => if fmtFast code then 8 else 16
  | _ => 0

/-- The stream counts that a mode allows (Table 5.2). -/
def modeStreams (mode : Nat) : List Nat :=
  match mode with
  | 1 => [1]
  | 2 => [2]
  | 3 => [2]
  | 4 => [4]
  | 5 => [2]
  | 6 => [2]
  | 7 => [8]
  | 8 => [8, 16]
  | _ => []

/-- Every format code. -/
def fmtCodes : List Nat := List.range' 1 32

/-- The line lengths that Table 5.4 lists for a mode (R95, R97). -/
def legalLens (mode : Nat) : List Nat :=
  ((fmtCodes.filter (fun c => (fmtModes c).contains mode)).filterMap fmtOf).map (·.len)

/-- The format code whose row of Table 5.4 the measurements match, for the lane's mode (R104). -/
def identify (mode streams len active lines : Nat) (interlaced : Bool) (family : Nat) : Option Nat :=
  fmtCodes.find? (fun c =>
    (fmtModes c).contains mode && fmtStreams mode c == streams &&
    match fmtOf c with
    | some f => f.len == len && f.active == active && f.lines == lines && f.interlaced == interlaced && f.family == family
    | none => false)

/-- Bonded modes and their width (R79). -/
def modeWidth (mode : Nat) : Nat :=
  match mode with
  | 5 => 2
  | 6 => 4
  | _ => 1

/-- A mode that frames on TRS (Table 5.1). -/
def modeSdi (mode : Nat) : Bool := 1 ≤ mode && mode ≤ 8

/-- The tile positions a mode fills (Table 4.3); MADI fills none with video. -/
def modeTiles (mode : Nat) : Nat :=
  match mode with
  | 1 => 1
  | 2 => 1
  | 3 => 2
  | 4 => 2
  | 5 => 1
  | 6 => 2
  | 7 => 4
  | 8 => 8
  | 10 => 1
  | _ => 0

/-- The positions whose audio slots a mode fills (Table 4.3, Table 6.3). -/
def modeAudioTiles (mode : Nat) : Nat :=
  match mode with
  | 9 => 4
  | 10 => 0
  | m => modeTiles m

/-- The bond pattern of a mode and format (Table 6.3, Table 6.4); 0 where there is none. -/
def patternOf (mode fmt : Nat) : Nat :=
  match mode with
  | 1 => 1
  | 2 => 2
  | 3 => 3
  | 4 => 2
  | 5 => 4
  | 6 => 5
  | 7 => 6
  | 8 => if fmtFast fmt then 5 else 7
  | 10 => 8
  | _ => 0

/-- The number of tiles of a bond pattern (Table 6.4). -/
def patternWidth (pattern : Nat) : Nat :=
  match pattern with
  | 3 => 2
  | 4 => 2
  | 5 => 8
  | 6 => 4
  | 7 => 8
  | _ => 1

/-- A pattern whose tiles carry every second word pair (R121). -/
def patternPhased (pattern : Nat) : Bool := pattern == 3 || pattern == 5

/-- Active bricks per line of one tile (Table 6.3). -/
def patternBricks (pattern fmt : Nat) : Nat :=
  match fmtOf fmt with
  | some f => if pattern == 1 || patternPhased pattern then f.active / 16 else f.active / 8
  | none => 0

/-- The formats that a bond pattern can carry; used where a pattern is chosen by a register. -/
def patternFmts (pattern code : Nat) : Bool :=
  match pattern with
  | 1 => 1 ≤ code && code ≤ 2
  | 2 => 3 ≤ code && code ≤ 13
  | 3 => 14 ≤ code && code ≤ 16
  | 4 => 14 ≤ code && code ≤ 16
  | 5 => fmtFast code
  | 6 => 17 ≤ code && code ≤ 32 && !(fmtFast code)
  | 7 => 17 ≤ code && code ≤ 32 && !(fmtFast code)
  | _ => false

/-- The pattern of one link that carries a format as it is (Table 6.3): SD, HD, 3G_A, or at 2160 lines 12G. -/
def fmtPattern (code : Nat) : Nat := ([1, 2, 3, 5, 7] : List Nat).find? (fun p => patternFmts p code) |>.getD 0

/-- The member tiles of a bond that begins at lane `lead`, position `k` (R123). -/
def bondTiles (mode lead k : Nat) : List Nat :=
  match mode with
  | 3 => [lead * 8, lead * 8 + 1]
  | 4 => [lead * 8 + k]
  | 5 => [lead * 8, lead * 8 + 8]
  | 6 => (List.range 8).map (fun m => (lead + m / 2) * 8 + m % 2)
  | 7 => (List.range 4).map (fun m => lead * 8 + m)
  | 8 => (List.range 8).map (fun m => lead * 8 + m)
  | _ => if modeTiles mode == 0 then [] else [lead * 8]

end Sys2Proof.Machine
end

