-- ==== Sys2Proof/Machine/Records.lean ====
section
/-! DEFINITION. Packet records as words (Table 7.1), and bricks as bytes in memory (R301). -/

namespace Sys2Proof.Machine

/-- Three user data words in a record word, from [9:0] upward. -/
def udwWord (a b c : Word10) : Word := BitVec.ofNat 32 (a.toNat + b.toNat * 2 ^ 10 + c.toNat * 2 ^ 20)

/-- The record words of a list of user data words. -/
def udwWords : List Word10 → List Word
  | [] => []
  | [a] => [udwWord a 0 0]
  | [a, b] => [udwWord a b 0]
  | a :: b :: c :: r => udwWord a b c :: udwWords r

/-- Word 0 of a record. -/
def PktRec.word0 (r : PktRec) : Word :=
  BitVec.ofNat 32 (r.did % 256 * 2 ^ 24 + r.sdid % 256 * 2 ^ 16 + r.udw.length % 256 * 2 ^ 8 + (if r.bad then 8 else 0) +
    (if r.type1 then 4 else 0) + (if r.spos then 2 else 0) + (if r.vert then 1 else 0))

/-- Word 1 of a record. -/
def PktRec.word1 (r : PktRec) : Word :=
  BitVec.ofNat 32 (r.line % 2048 * 2 ^ 21 + r.offset % 1024 * 2 ^ 11 + r.tile % 2048)

/-- A record as words. -/
def PktRec.words (r : PktRec) : List Word := r.word0 :: r.word1 :: udwWords r.udw

/-- Bits of a word as a number. -/
def wordBits (w : Word) (lo n : Nat) : Nat := w.toNat / 2 ^ lo % 2 ^ n

/-- The three positions of a record word. -/
def wordUdw (w : Word) : List Word10 :=
  [BitVec.ofNat 10 (wordBits w 0 10), BitVec.ofNat 10 (wordBits w 10 10), BitVec.ofNat 10 (wordBits w 20 10)]

/-- The record that two words and the words after them hold, and how many words it takes. -/
def recOf (w0 w1 : Word) (rest : List Word) : PktRec × Nat :=
  let dc := wordBits w0 8 8
  let n := (dc + 2) / 3
  ({ did := wordBits w0 24 8, sdid := wordBits w0 16 8, bad := w0.getLsbD 3, type1 := w0.getLsbD 2, spos := w0.getLsbD 1
     vert := w0.getLsbD 0, line := wordBits w1 21 11, offset := wordBits w1 11 10, tile := wordBits w1 0 11
     udw := ((rest.take n).flatMap wordUdw).take dc }, 2 + n)

/-- The records that a list of words holds, up to a word of 0 or the end (R301). -/
def recsOf : Nat → List Word → List PktRec
  | 0, _ => []
  | _, [] => []
  | _, [_] => []
  | fuel + 1, w0 :: w1 :: rest =>
    if w0 == 0 then []
    else
      let x := recOf w0 w1 rest
      if rest.length + 2 < x.2 then [] else x.1 :: recsOf fuel ((w0 :: w1 :: rest).drop x.2)

/-- The four bytes of a word, lowest first. -/
def wordBytes (w : Word) : List Byte := (List.range 4).map (fun i => BitVec.ofNat 8 (w.toNat / 2 ^ (8 * i)))

/-- The word of four bytes, lowest first. -/
def bytesWord : List Byte → Word
  | a :: b :: c :: d :: _ => d ++ c ++ b ++ a
  | _ => 0

/-- The 20 bytes of a brick's payload, byte 0 holding bits [7:0] (R301). -/
def payloadBytes (p : Payload) : List Byte := (List.range 20).map (fun i => p.extractLsb' (8 * i) 8)

/-- The payload of 20 bytes. -/
def bytesPayload (bs : List Byte) : Payload :=
  (bs.take 20).foldr (fun b (a : Payload) => (a <<< 8) ||| (b.setWidth 160)) 0

/-- The code of a brick kind (Table 6.1). -/
def BrickKind.code : BrickKind → Nat
  | .data => 0
  | .mortar => 1
  | .header => 2
  | .void => 3

/-- Bits [167:0] of a brick (Table 6.1): the flags above the payload. -/
def Brick.bits (b : Brick) : BitVec 168 :=
  let f := fun (x : Bool) (k : Nat) => if x then 2 ^ k else 0
  BitVec.ofNat 8 (b.kind.code * 64 + f b.ls 5 + f b.le 4 + f b.fs 3 + f b.crcb 2 + f b.subst 1 + f b.just 0) ++ b.payload

/-- The bits of a list of positions have an odd number of ones. -/
def Brick.odd (x : BitVec 168) (lo n : Nat) : Bool := (List.range n).foldl (fun a i => a != x.getLsbD (lo + i)) false

/-- The four parity bits that a brick's other bits ask for: over [39:0], [79:40], [119:80], and [159:120] with [167:160] (Table 6.1). -/
def Brick.parity (b : Brick) : BitVec 4 :=
  let f := fun (x : Bool) (k : Nat) => if x then 2 ^ k else 0
  BitVec.ofNat 4 (f (Brick.odd b.bits 0 40) 0 + f (Brick.odd b.bits 40 40) 1 + f (Brick.odd b.bits 80 40) 2 + f (Brick.odd b.bits 120 48) 3)

/-- A brick with its parity bits set. -/
def Brick.sealed (b : Brick) : Brick := { b with par := b.parity }

/-- The brick's parity holds. -/
def Brick.parOk (b : Brick) : Bool := b.par == b.parity

/-- The 172 bits of a brick (Table 6.1). -/
def Brick.word (b : Brick) : BitVec 172 := b.par ++ b.bits

/-- A MORTAR brick, marked JUST where it is a justification (R118, R128). -/
def mortarBrick (just : Bool) : Brick := ({ kind := .mortar, just := just } : Brick).sealed

/-- A HEADER brick of a Tile Link (R118). -/
def headBrick (p : Payload) : Brick := ({ kind := .header, payload := p } : Brick).sealed

/-- Cut a list into pieces. -/
def cutBy {α : Type} (k : Nat) : Nat → List α → List (List α)
  | 0, _ => []
  | fuel + 1, xs => if xs.isEmpty then [] else xs.take k :: cutBy k fuel (xs.drop k)

/-- A transport packet as bricks (R124): 20 bytes to a brick, LS on the first and LE on the last; the last is filled up with zeros. -/
def packetBricks (bytes : List Byte) : List Brick :=
  let cs := cutBy 20 (bytes.length + 1) bytes
  cs.zipIdx.map (fun e =>
    ({ kind := .data, ls := e.2 == 0, le := e.2 + 1 == cs.length, payload := bytesPayload e.1 } : Brick).sealed)

/-- The transport packet in bricks: 188 bytes in 10 of them, 204 in 11. -/
def bricksPacket (bs : List Brick) : List Byte :=
  (bs.flatMap (fun b => payloadBytes b.payload)).take (if bs.length ≤ 10 then 188 else 204)

/-- DATA bricks of a line rebuilt from position (R301): LS, LE, FS; CRCB 0. -/
def lineOfPayloads (line : Nat) (ps : List Payload) : List Brick :=
  let n := ps.length
  (List.range n).map (fun i =>
    ({ kind := .data, ls := i == 0, le := i + 1 == n, fs := i == 0 && line == 1, payload := ps.getD i 0 } : Brick).sealed)

/-- The black payload of a word pair (R194). -/
def flatPayload (lo hi : Word10) : Payload :=
  (List.range 8).foldl (fun (a : Payload) j => a ||| ((lo.setWidth 160 ||| (hi.setWidth 160 <<< 10)) <<< (20 * j))) 0

end Sys2Proof.Machine
end

