-- ==== Sys2Proof/Machine/Coding.lean ====
section
/-! DEFINITION. Line codes and check words: the SDI scrambler with NRZI (R90, R95), the test patterns (R90), timing reference sequences
(R96), line numbers and line CRCs (R109), and the CRCs of error detection and handling (R110). A stream word goes on the link bit 0 first
(PRESUMED, log 103). -/

namespace Sys2Proof.Machine

/-! ### Bits and words -/

/-- The bits of a stream word, bit 0 first. -/
def word10Bits (w : Word10) : List Bool := (List.range 10).map (fun i => w.getLsbD i)

/-- The stream word of ten bits, bit 0 first. -/
def bitsWord10 (bs : List Bool) : Word10 := bs.foldr (fun b (a : Word10) => (a <<< 1) ||| (if b then 1 else 0)) 0

/-- Whole words cut from a list of bits. -/
def bitsWords : Nat → List Bool → List Word10
  | 0, _ => []
  | n + 1, bs => bitsWord10 (bs.take 10) :: bitsWords n (bs.drop 10)

/-- Bits inverted where the polarity is (RXCFG.POL_INV, TXCFG.POL_INV). -/
def polarity (inv : Bool) (bs : List Bool) : List Bool := bs.map (fun b => b != inv)

/-! ### NRZI and the scrambler x⁹ + x⁴ + 1 -/

/-- One bit sent: scrambled with x⁹ + x⁴ + 1, then coded NRZI (x + 1). -/
def SdiCode.send (c : SdiCode) (b : Bool) : SdiCode × Bool :=
  let s := (b != c.reg.getLsbD 3) != c.reg.getLsbD 8
  let l := c.level != s
  ({ reg := (c.reg <<< 1) ||| (if s then 1 else 0), level := l }, l)

/-- One level received: NRZI decoded, then descrambled with x⁹ + x⁴ + 1 (R95). -/
def SdiCode.receive (c : SdiCode) (l : Bool) : SdiCode × Bool :=
  let s := l != c.level
  ({ reg := (c.reg <<< 1) ||| (if s then 1 else 0), level := l }, (s != c.reg.getLsbD 3) != c.reg.getLsbD 8)

/-- The levels that a list of bits is sent as. -/
def SdiCode.sendAll (c : SdiCode) : List Bool → SdiCode × List Bool
  | [] => (c, [])
  | b :: bs =>
    let x := c.send b
    let y := x.1.sendAll bs
    (y.1, x.2 :: y.2)

/-- The bits that a list of levels is received as. -/
def SdiCode.receiveAll (c : SdiCode) : List Bool → SdiCode × List Bool
  | [] => (c, [])
  | b :: bs =>
    let x := c.receive b
    let y := x.1.receiveAll bs
    (y.1, x.2 :: y.2)

/-! ### Test patterns (R90) -/

/-- The taps of a PRBS pattern. -/
def prbsTaps (pattern : Nat) : Nat × Nat := if pattern == 0 then (7, 6) else if pattern == 1 then (23, 18) else (31, 28)

/-- The next bit of a PRBS after the bits of a register, the latest in bit 0. -/
def prbsNext (pattern : Nat) (reg : BitVec 31) : Bool := reg.getLsbD ((prbsTaps pattern).1 - 1) != reg.getLsbD ((prbsTaps pattern).2 - 1)

/-- A bit shifted into a register of the last bits. -/
def shiftIn (reg : BitVec 31) (b : Bool) : BitVec 31 := (reg <<< 1) ||| (if b then 1 else 0)

/-- The last bits that a PRBS runs on are all 0, which it never holds. -/
def prbsDead (pattern : Nat) (reg : BitVec 31) : Bool := reg.toNat % 2 ^ (prbsTaps pattern).1 == 0

/-- The 20 bits of a word pair of codes 3 and 4. -/
def pairBits (pattern : Nat) : List Bool :=
  if pattern == 3 then word10Bits 0x300 ++ word10Bits 0x198 else word10Bits 0x200 ++ word10Bits 0x110

/-! ### Timing reference sequences (R96) -/

/-- The XYZ word of a TRS: bit 9, F, V, H, and the protection bits of R96. -/
def xyzWord (f v h : Bool) : Word10 :=
  let b := fun (x : Bool) (k : Nat) => if x then BitVec.ofNat 10 (2 ^ k) else 0
  0x200 ||| b f 8 ||| b v 7 ||| b h 6 ||| b (v != h) 5 ||| b (f != h) 4 ||| b (f != v) 3 ||| b ((f != v) != h) 2

/-- An XYZ word checks (R96). -/
def xyzChecks (x : Word10) : Bool :=
  let f := x.getLsbD 8
  let v := x.getLsbD 7
  let h := x.getLsbD 6
  x.getLsbD 9 && !(x.getLsbD 1) && !(x.getLsbD 0) &&
    x.getLsbD 5 == (v != h) && x.getLsbD 4 == (f != h) && x.getLsbD 3 == (f != v) && x.getLsbD 2 == ((f != v) != h)

/-- The words of a TRS over streams: 0x3FF N times, 0x000 2N times, then N XYZ words. -/
def trsWords (streams : Nat) (xyz : Word10) : List Word10 :=
  List.replicate streams 0x3FF ++ List.replicate (2 * streams) 0x000 ++ List.replicate streams xyz

/-- The XYZ word of a TRS that checks (R96): the preamble is exact, and all N XYZ words check and are equal. -/
def trsOf (streams : Nat) (ws : List Word10) : Option Word10 :=
  match ws.drop (3 * streams) with
  | [] => none
  | x :: _ => if ws == trsWords streams x && xyzChecks x then some x else none

/-- The words of every fourth place that belong to one stream of 3G_B, 0 or 1 (Table 6.3): two of each four. -/
def halfWords (half : Nat) (ws : List Word10) : List Word10 :=
  (ws.zipIdx.filter (fun e => e.2 % 4 / 2 == half)).map (·.1)

/-! ### Line numbers and CRCs (R109) -/

/-- The words LN0 and LN1 of a line number (ST 292-1). -/
def lnWords (line : Nat) : List Word10 :=
  let w := fun (x : Nat) => BitVec.ofNat 10 (x + if x.testBit 8 then 0 else 0x200)
  [w (line % 128 * 4), w (line / 128 % 16 * 4)]

/-- One bit into the CRC x^18 + x^5 + x^4 + 1 of a line (Table 6.7), least significant bit of a word first (ST 292-1). -/
def crc18Bit (c : BitVec 18) (b : Bool) : BitVec 18 :=
  if c.getLsbD 0 != b then (c >>> 1) ^^^ 0x23000 else c >>> 1

/-- The words CR0 and CR1 over the words of a stream. -/
def crcWords (ws : List Word10) : List Word10 :=
  let c := ws.foldl (fun c w => (List.range 10).foldl (fun c i => crc18Bit c (w.getLsbD i)) c) (0 : BitVec 18)
  let w := fun (x : BitVec 9) => (!(x.getLsbD 8) : Bool).toNat * 0x200 + x.toNat
  [BitVec.ofNat 10 (w (c.extractLsb' 0 9)), BitVec.ofNat 10 (w (c.extractLsb' 9 9))]

/-- A word of eight bits with even parity in bit 8 and its inverse in bit 9. -/
def parityWord (b : Nat) : Word10 :=
  let p := (List.range 8).foldl (fun a i => a != (b.testBit i)) false
  BitVec.ofNat 10 (b % 256 + (if p then 256 else 512))

/-- The checksum word of a packet's words from the DID to the last UDW (R145). -/
def checksumWord (ws : List Word10) : Word10 :=
  let s := (ws.foldl (fun a w => a + w.toNat % 512) 0) % 512
  BitVec.ofNat 10 (s + (if s < 256 then 512 else 0))

/-! ### Error detection and handling on SD (R110, R141; RP 165) -/

/-- One word into the CRC x^16 + x^12 + x^5 + 1 of a field, bit 0 first. -/
def crc16Word (c : BitVec 16) (w : Word10) : BitVec 16 :=
  (List.range 10).foldl (fun (c : BitVec 16) i => if c.getLsbD 0 != w.getLsbD i then (c >>> 1) ^^^ 0x8408 else c >>> 1) c

/-- Words into the CRC of a field. -/
def crc16Words (c : BitVec 16) (ws : List Word10) : BitVec 16 := ws.foldl crc16Word c

/-- The first and last lines of the active-picture region of the field that a line lies in: fields 1 and 2 of 525i59.94 and of 625i50. -/
def edhActive (fmt line : Nat) : Option (Nat × Nat) :=
  (if fmt == 1 then [(21, 262), (284, 525)] else [(24, 310), (336, 622)]).find? (fun r => r.1 ≤ line && line ≤ r.2)

/-- The first and last lines of the full-field region that a line lies in; the region of field 2 runs over the frame's end. -/
def edhFull (fmt line : Nat) : Option (Nat × Nat) :=
  let two := if fmt == 1 then (275, 8) else (321, 4)
  if line ≤ two.2 || two.1 ≤ line then some two
  else (if fmt == 1 then [(12, 271)] else [(8, 317)]).find? (fun r => r.1 ≤ line && line ≤ r.2)

/-- The lines that carry a field's EDH packet. -/
def edhLines (fmt : Nat) : List Nat := if fmt == 1 then [9, 272] else [5, 318]

/-- The three words of a CRC in an EDH packet, valid. -/
def edhCrcWords (c : BitVec 16) : List Word10 :=
  let n := c.toNat
  [parityWord (n % 64 * 4), parityWord (n / 64 % 64 * 4), parityWord (0x80 + n / 4096 * 4)]

/-- The CRC that three words of an EDH packet hold, where they say that it is valid. -/
def edhCrcOf (ws : List Word10) : Option (BitVec 16) :=
  match ws with
  | [a, b, c] =>
    if c.getLsbD 7 then some (BitVec.ofNat 16 (a.toNat / 4 % 64 + b.toNat / 4 % 64 * 64 + c.toNat / 4 % 16 * 4096)) else none
  | _ => none

/-- The running CRC of a region after a line: begun at its first line; and the CRC of the last region that ended. -/
def edhStep (r : Option (Nat × Nat)) (line : Nat) (run last : BitVec 16) (first rest : List Word10) : BitVec 16 × BitVec 16 :=
  match r with
  | none => (run, last)
  | some (a, b) =>
    let c := if line == a then crc16Words 0 first else crc16Words run rest
    (c, if line == b then c else last)

/-- The lines of R111 that carry a payload ID. -/
def pidLine (fmt line : Nat) : Bool :=
  match fmtOf fmt with
  | some f =>
    if f.lines == 1125 then line == 10 || (f.interlaced && line == 572)
    else if f.lines == 750 then line == 10
    else if f.lines == 525 then line == 13 || line == 276
    else line == 9 || line == 322
  | none => false

/-! ### The Tile Link scrambler x⁵⁸ + x³⁹ + 1 (R115, R224) -/

/-- A 64-bit payload through the self-synchronising descrambler; `h` holds the 58 bits received before, the last in bit 57. -/
def descramble (h : BitVec 58) (p : BitVec 64) : BitVec 64 × BitVec 58 :=
  let x : BitVec 122 := p ++ h
  (p ^^^ (x >>> 19).setWidth 64 ^^^ x.setWidth 64, (x >>> 64).setWidth 58)

/-- The bits of a payload scrambled in order, bit 0 first: what is sent so far, and the 58 bits sent last, the latest in bit 57. -/
def scrambleBits (p : BitVec 64) : Nat → BitVec 64 × BitVec 58 → BitVec 64 × BitVec 58
  | 0, a => a
  | k + 1, a =>
    let i := 63 - k
    let b := (p.getLsbD i != a.2.getLsbD 19) != a.2.getLsbD 0
    scrambleBits p k (if b then a.1 ||| (1 <<< i) else a.1, (a.2 >>> 1) ||| (if b then (1 <<< 57) else 0))

/-- A 64-bit payload through the self-synchronising scrambler; `h` holds the 58 bits sent before. -/
def scramble (h : BitVec 58) (p : BitVec 64) : BitVec 64 × BitVec 58 := scrambleBits p 64 (0, h)

end Sys2Proof.Machine
end

