-- ==== Sys2Proof/Machine/Tiles.lean ====
section
/-! DEFINITION. Reading lanes, framers and input tiles: modes in force, bonds, formats, domains, and what stands between a tile
and its delivery. -/

namespace Sys2Proof.Machine

/-- A lane's state beyond its registers. -/
def Dev.lane (d : Dev) (l : Nat) : LaneI := Map.get (fun _ => {}) d.lanes l
/-- Write a lane's state. -/
def Dev.setLane (d : Dev) (l : Nat) (v : LaneI) : Dev := { d with lanes := Map.put (fun _ => {}) d.lanes l v }
/-- A framer's state beyond its registers. -/
def Dev.framer (d : Dev) (l : Nat) : FramerI := Map.get (fun _ => {}) d.framers l
/-- Write a framer's state. -/
def Dev.setFramer (d : Dev) (l : Nat) (v : FramerI) : Dev := { d with framers := Map.put (fun _ => {}) d.framers l v }
/-- An input tile's state in the course aligner. -/
def Dev.tile (d : Dev) (t : Nat) : TileI := Map.get (fun _ => {}) d.tiles t
/-- Write an input tile's state. -/
def Dev.setTile (d : Dev) (t : Nat) (v : TileI) : Dev := { d with tiles := Map.put (fun _ => {}) d.tiles t v }
/-- A lane's performance monitoring. -/
def Dev.pmOf (d : Dev) (l : Nat) : PmI := Map.get (fun _ => {}) d.pm l
/-- Write a lane's performance monitoring. -/
def Dev.setPm (d : Dev) (l : Nat) (v : PmI) : Dev := { d with pm := Map.put (fun _ => {}) d.pm l v }

/-- A Tile Link receive lane's state beyond its registers. -/
def Dev.tlr (d : Dev) (n : Nat) : TlRxI := Map.get (fun _ => {}) d.tlrx n
/-- Write it. -/
def Dev.setTlr (d : Dev) (n : Nat) (v : TlRxI) : Dev := { d with tlrx := Map.put (fun _ => {}) d.tlrx n v }
/-- A Tile Link transmit lane's state beyond its registers. -/
def Dev.tlt (d : Dev) (n : Nat) : TlTxI := Map.get (fun _ => {}) d.tltx n
/-- Write it. -/
def Dev.setTlt (d : Dev) (n : Nat) (v : TlTxI) : Dev := { d with tltx := Map.put (fun _ => {}) d.tltx n v }

/-- The register page of a receive lane. -/
def rxPage (l : Nat) : Page := if l < 144 then .lane l else .tll (l - 144)

/-- A field of a receive lane's page that LANE and TLL both hold. -/
def rxFld (l : Nat) (fl ft : Fld) : Fld := if l < 144 then fl else ft

/-- Read a field that LANE and TLL pages both hold. -/
def Dev.rxRd (d : Dev) (l : Nat) (fl ft : Fld) : Nat := d.rd (rxPage l) (rxFld l fl ft)
/-- Write such a field. -/
def Dev.rxWr (d : Dev) (l : Nat) (fl ft : Fld) (v : Nat) : Dev := d.wr (rxPage l) (rxFld l fl ft) v
/-- Add to such a count. -/
def Dev.rxAdd (d : Dev) (l : Nat) (fl ft : Fld) (n : Nat) : Dev := d.add (rxPage l) (rxFld l fl ft) n

/-- RX_STATE of a receive lane (Table 4.4). -/
def Dev.rxState (d : Dev) (l : Nat) : Nat := d.rxRd l .LANE_LSTAT_RX_STATE .TLL_LSTAT_RX_STATE

/-- The state of a receive lane's framer (Table 5.3, R112, R114, R115). -/
def Dev.frmState (d : Dev) (l : Nat) : Nat := d.rxRd l .LANE_FRMSTAT_STATE .TLL_FRMSTAT_STATE

/-- The framer is in its delivering state (Table 5.1: code 4 for every kind of lane). -/
def Dev.delivers (d : Dev) (l : Nat) : Bool := d.frmState l == 4

/-- The receive mode in force on an SDI lane (R84): under AUTO the detected mode, otherwise RXCFG.MODE. -/
def Dev.rxMode (d : Dev) (n : Nat) : Nat :=
  if d.on (.lane n) .LANE_RXCFG_AUTO && d.on (.lane n) .LANE_DETSTAT_DET_VALID then d.rd (.lane n) .LANE_DETSTAT_DET_MODE
  else d.rd (.lane n) .LANE_RXCFG_MODE

/-- The lead lane of a lane's receive bond: itself outside any bond (R79). -/
def Dev.rxLead (d : Dev) (n : Nat) : Nat := ((d.lane n).rxLead).getD n

/-- The lanes of the receive bond of a lane. -/
def Dev.rxBond (d : Dev) (n : Nat) : List Nat :=
  (List.range (modeWidth (d.rd (.lane (d.rxLead n)) .LANE_RXCFG_MODE))).map (d.rxLead n + ·)

/-- The format code in force in a timing domain: 0 while it is off (R286). -/
def Dev.domFmt (d : Dev) (k : Nat) : Nat := if d.enabled (.tdom k) then d.rd (.tdom k) .TDOM_FMT_FMT else 0

/-- FMT of an SDI lane's framer. -/
def Dev.frmFmt (d : Dev) (n : Nat) : Nat := d.rd (.lane n) .LANE_FRMSTAT_FMT

/-- A bonded SDI lane's bond delivers (R107): every member in FRAME_SYNC with one identification, no
departing frame behind it (R106, log 104), and no skew beyond a line. -/
def Dev.bondDelivers (d : Dev) (n : Nat) : Bool :=
  (d.rxBond n).all (fun m => d.delivers m && d.frmFmt m == d.frmFmt (d.rxLead n) && (d.framer m).departing == 0) &&
    !(d.on (.lane (d.rxLead n)) .LANE_FRMSTAT_BOND_SKEW)

/-- The lane that a tile belongs to, as a receive lane number. -/
def tileLane (t : Nat) : Nat := if t < 1152 then t / 8 else 144 + (t - 1152) / 16
/-- The position of a tile in its lane. -/
def tilePos (t : Nat) : Nat := if t < 1152 then t % 8 else (t - 1152) % 16
/-- The input tile at a position of a receive lane. -/
def laneTile (l k : Nat) : Nat := if l < 144 then l * 8 + k else 1152 + (l - 144) * 16 + k
/-- The tile positions of a receive lane. -/
def lanePositions (l : Nat) : List Nat := List.range (if l < 144 then 8 else 16)

/-- A receive slot's field of the tile at Tile Link lane `n`, slot `k`. -/
def Dev.slotRd (d : Dev) (n k : Nat) (f : Fld) : Nat := d.rd (.tll n) (f.nth k)

/-- A receive slot is LOCKED with a TYPE (Table 10.6). -/
def Dev.slotLocked (d : Dev) (n k type : Nat) : Bool :=
  d.slotRd n k .TLL_RXSLOT_STATE == 2 && d.slotRd n k .TLL_RXSLOT_TYPE == type

/-- The lane's mode uses the tile's position (Table 4.3); a Tile Link slot while it is LOCKED as VIDEO. -/
def Dev.tileUsed (d : Dev) (t : Nat) : Bool :=
  if t < 1152 then tilePos t < modeTiles (d.rxMode (t / 8))
  else d.slotLocked ((t - 1152) / 16) (tilePos t) 1

/-- The tile is a data tile with its framer in PKT_SYNC, or a LOCKED data slot (R124, R243). -/
def Dev.tileData (d : Dev) (t : Nat) : Bool :=
  if t < 1152 then d.rxMode (t / 8) == 10 && tilePos t == 0 && d.delivers (t / 8)
  else d.delivers (tileLane t) && d.slotLocked ((t - 1152) / 16) (tilePos t) 3

/-- The tile is a Tile Link slot that carries an audio tile (R242). -/
def Dev.tileAudio (d : Dev) (t : Nat) : Bool :=
  1152 ≤ t && d.delivers (tileLane t) && d.slotLocked ((t - 1152) / 16) (tilePos t) 2

/-- The format code of an input tile: the framer's FMT, or the header's FMT on a Tile Link. -/
def Dev.tileFmt (d : Dev) (t : Nat) : Nat :=
  if t < 1152 then d.frmFmt (t / 8) else d.slotRd ((t - 1152) / 16) (tilePos t) .TLL_RXSLOT_FMT

/-- The bond pattern of an input tile (Table 6.3, Table 10.4). -/
def Dev.tilePattern (d : Dev) (t : Nat) : Nat :=
  if t < 1152 then patternOf (d.rxMode (t / 8)) (d.frmFmt (t / 8))
  else d.slotRd ((t - 1152) / 16) (tilePos t) .TLL_RXSLOT_PATTERN

/-- The members of the bond an input tile belongs to, lead first (R123, R240); none where it belongs to no bond. -/
def Dev.tileBond (d : Dev) (t : Nat) : List Nat :=
  if t < 1152 then
    if d.tileUsed t then bondTiles (d.rxMode (t / 8)) (d.rxLead (t / 8)) (tilePos t) else []
  else
    let n := (t - 1152) / 16
    let k := tilePos t
    if d.slotRd n k .TLL_RXSLOT_BOND_ERR == 1 || !(d.slotLocked n k 1) then []
    else (List.range (patternWidth (d.tilePattern t))).map (fun m => t - d.slotRd n k .TLL_RXSLOT_MEMBER + m)

/-- The framer, and the whole bond, stand behind the tile: its lines arrive (R94, R107, R108, R240). A Tile Link
bond with a member whose slot is not LOCKED delivers none of its members (R131). -/
def Dev.tileFramed (d : Dev) (t : Nat) : Bool :=
  if t < 1152 then
    d.tileUsed t && d.delivers (t / 8) && d.bondDelivers (t / 8) &&
      !(d.rxMode (t / 8) == 4 && tilePos t == 1 && d.on (.lane (t / 8)) .LANE_FRMSTAT_S2_LOSS)
  else d.tileUsed t && d.delivers (tileLane t) && (d.tileBond t).all (fun u => tileLane u == tileLane t && d.tileUsed u)

/-- The lead tile of a tile's bond: itself where it has none. -/
def Dev.tileLead (d : Dev) (t : Nat) : Nat := (d.tileBond t).headD t

/-- Read TDOM_j of a Tile Link lane. -/
def Dev.tdomSel (d : Dev) (n j : Nat) : Nat :=
  d.rd (.tll n) { Fld.TLL_TDOMSEL0_TDOM_0 with off := 0x0A0 + 4 * (j / 8), lo := 4 * (j % 8) }

/-- The timing domain into whose courses a tile is laid (R125, R131). -/
def Dev.tileDom (d : Dev) (t : Nat) : Nat :=
  let u := d.tileLead t
  if u < 1152 then d.rd (.lane (u / 8)) .LANE_ALIGNCFG_TDOM else d.tdomSel ((u - 1152) / 16) (tilePos u)

/-- The governing ALIGN_EN admits the tile (R125); a Tile Link tile is always admitted. -/
def Dev.tileAdmitted (d : Dev) (t : Nat) : Bool :=
  let u := d.tileLead t
  if u < 1152 then d.on (.lane (u / 8)) .LANE_ALIGNCFG_ALIGN_EN else true

/-- The pointer window in force on a tile, in bricks (R129, R131). -/
def Dev.tileWindow (d : Dev) (t : Nat) : Nat × Nat :=
  let l := tileLane (d.tileLead t)
  (d.rxRd l .LANE_ALIGN_X_PTR_MIN .TLL_ALIGN_X_PTR_MIN, d.rxRd l .LANE_ALIGN_X_PTR_MAX .TLL_ALIGN_X_PTR_MAX)

/-- The course state of an input tile (Table 6.5). -/
def Dev.crs (d : Dev) (t : Nat) : Nat :=
  d.rd (rxPage (tileLane t)) ((rxFld (tileLane t) .LANE_PTR_STATE .TLL_PTR_STATE).nth (tilePos t))

/-- Write the course state of an input tile. -/
def Dev.setCrs (d : Dev) (t v : Nat) : Dev :=
  d.wr (rxPage (tileLane t)) ((rxFld (tileLane t) .LANE_PTR_STATE .TLL_PTR_STATE).nth (tilePos t)) v

/-- The 20-bit two's complement of a pointer, saturated (R132). -/
def posField (p : Int) : Nat := ((max (-524288) (min 524287 p)) % 1048576).toNat

/-- Write PTR.POS of a tile. -/
def Dev.setPos (d : Dev) (t : Nat) (p : Int) : Dev :=
  d.wr (rxPage (tileLane t)) ((rxFld (tileLane t) .LANE_PTR_POS .TLL_PTR_POS).nth (tilePos t)) (posField p)

end Sys2Proof.Machine
end

