-- ==== Sys2Proof/Machine/Defects.lean ====
section
/-! DEFINITION. Lane and tile defects (R246 to R248) and the protection groups that follow them (R254 to R267). -/

namespace Sys2Proof.Machine

/-- TSF[k] of a tile (R247). -/
def Dev.tsf (d : Dev) (t : Nat) : Bool :=
  if t < 1152 then
    d.enabled (.lane (t / 8)) && d.tileAdmitted t && d.tileUsed t && !(d.crs t == 2 || d.crs t == 5)
  else
    let n := (t - 1152) / 16
    let k := tilePos t
    d.delivers (tileLane t) &&
      (d.slotRd n k .TLL_RXSLOT_STATE != 2 || d.slotRd n k .TLL_RXSLOT_BOND_ERR == 1 ||
        (d.slotRd n k .TLL_RXSLOT_TYPE == 1 && d.crs t != 2))

/-- The BOND condition of an SDI lead lane (Table 11.1). -/
def Dev.bondDefect (d : Dev) (l : Nat) : Bool :=
  l < 144 && d.rxLead l == l && 1 < modeWidth (d.rd (.lane l) .LANE_RXCFG_MODE) &&
    (d.on (.lane l) .LANE_FRMSTAT_BOND_SKEW || (d.delivers l && (d.rxBond l).any (fun m => !(d.delivers m))))

/-- A bit of a DEF word. -/
def defBit (b : Bool) (i : Nat) : Nat := if b then 2 ^ i else 0

/-- What DEF of a lane reads now (Table 11.1): LOS masks LOL, LOF and BOND; LOL masks LOF and BOND (R246). DEG is held. -/
def Dev.defWord (d : Dev) (l : Nat) : Nat :=
  let los := d.rxRd l .LANE_LSTAT_LOS .TLL_LSTAT_LOS == 1
  let lol := !los && d.rxRd l .LANE_LSTAT_LOL .TLL_LSTAT_LOL == 1
  let mask := los || lol
  let tl := 144 ≤ l
  defBit los 0 + defBit lol 1 + defBit (!mask && (d.pmOf l).lofRaw) 2 + defBit (!mask && d.bondDefect l) 3 +
    defBit (d.rxRd l .LANE_DEF_DEG .TLL_DEF_DEG == 1) 4 +
    defBit (tl && d.on (rxPage l) .TLL_OH_STAT_RDI_RX) 5 + defBit (tl && d.on (rxPage l) .TLL_OH_STAT_TIM) 6 +
    defBit (tl && d.on (rxPage l) .TLL_OH_STAT_SRQ_FAIL) 7 +
    (lanePositions l).foldl (fun a k => a + defBit (d.tsf (laneTile l k)) (16 + k)) 0

/-- The set bits of a word. -/
def setBits (w : Nat) : List Nat := (List.range 32).filter (fun i => w.testBit i)

/-- DEF of a lane takes a new value (R248): rises latch; each rise and each fall of an unmasked bit is an event; the second in
progress notes the defects (R251). -/
def Dev.setDef (d : Dev) (l new : Nat) : Dev :=
  let p := rxPage l
  let old := (d.reg (regKey p 0 0x1C0)).toNat
  let msk := (d.reg (regKey p 0 0x1C8)).toNat
  let rises := setBits (new &&& (old ^^^ new))
  let falls := setBits (old &&& (old ^^^ new))
  let d := d.setReg (regKey p 0 0x1C0) (BitVec.ofNat 32 new)
  let d := d.setReg (regKey p 0 0x1C4) (d.reg (regKey p 0 0x1C4) ||| BitVec.ofNat 32 (new &&& (old ^^^ new)))
  let d := (rises.filter (fun i => !(msk.testBit i))).foldl (fun e _ => e.setEvt p (if l < 144 then 27 else 15)) d
  let d := (falls.filter (fun i => !(msk.testBit i))).foldl (fun e _ => e.setEvt p (if l < 144 then 28 else 16)) d
  let q := d.pmOf l
  d.setPm l { q with
    loss := q.loss || new % 8 != 0
    defect := q.defect || new % 16 != 0
    active := q.active || d.rxState l != 0 }

/-- DEF of a lane follows its conditions. -/
def Dev.defSettle (d : Dev) (l : Nat) : Dev := d.setDef l (d.defWord l)

/-- A protection group's state beyond its registers. -/
def Dev.group (d : Dev) (g : Nat) : GroupI := Map.get (fun _ => {}) d.groups g
/-- Write a protection group's state. -/
def Dev.setGroup (d : Dev) (g : Nat) (v : GroupI) : Dev := { d with groups := Map.put (fun _ => {}) d.groups g v }

/-- Read a field of a protection group's registers. -/
def Dev.pg (d : Dev) (g : Nat) (f : Fld) : Nat := d.rdB .prot g f

/-- The tiles of a member of a KIND 0 group. -/
def Dev.memberTiles (d : Dev) (lead : Nat) : List Nat :=
  if lead < 1152 then bondTiles (d.rd (.lane (lead / 8)) .LANE_RXCFG_MODE) (lead / 8) (lead % 8) else []

/-- The lanes of a member: of a KIND 0 bond, or the one Tile Link lane. -/
def Dev.memberLanes (d : Dev) (kind lead : Nat) : List Nat :=
  if kind == 1 then [144 + lead] else ((d.memberTiles lead).map tileLane).eraseDups

/-- A bit of a lane's DEF. -/
def Dev.hasDef (d : Dev) (l i : Nat) : Bool := ((d.reg (regKey (rxPage l) 0 0x1C0)).toNat).testBit i

/-- A member of a KIND 0 group fails by TSF (R258). -/
def Dev.bondFail (d : Dev) (lead : Nat) : Bool :=
  (d.memberTiles lead).any (fun t => d.hasDef (tileLane t) (16 + tilePos t))

/-- A member of a KIND 0 group delivers: every tile of its bond is IN_COURSE or PACKET. -/
def Dev.memberDelivers (d : Dev) (lead : Nat) : Bool :=
  !(d.memberTiles lead).isEmpty && (d.memberTiles lead).all (fun t => d.crs t == 2 || d.crs t == 5)

/-- A member of a KIND 1 group fails: its lane, its trace, or a slot that the other member holds and it does not (R258). -/
def Dev.pairFail (d : Dev) (n other : Nat) : Bool :=
  d.hasDef (144 + n) 0 || d.hasDef (144 + n) 1 || d.hasDef (144 + n) 2 ||
    (d.hasDef (144 + n) 6 && d.on (.tll n) .TLL_OH_CFG_TRACE_CHK) ||
    (List.range 16).any (fun k =>
      d.slotRd other k .TLL_RXSLOT_STATE == 2 &&
        (d.slotRd n k .TLL_RXSLOT_STATE != 2 ||
          d.slotRd n k .TLL_RXSLOT_TYPE != d.slotRd other k .TLL_RXSLOT_TYPE ||
          d.slotRd n k .TLL_RXSLOT_FMT != d.slotRd other k .TLL_RXSLOT_FMT ||
          d.slotRd n k .TLL_RXSLOT_PATTERN != d.slotRd other k .TLL_RXSLOT_PATTERN))

/-- The members' conditions of a group: W in SF, W in SD, P in SF, P in SD (R258). -/
def Dev.groupCond (d : Dev) (g : Nat) : Bool × Bool × Bool × Bool :=
  let kind := d.pg g .PROT_PG_CFG_KIND
  let w := d.pg g .PROT_PG_CFG_W_LEAD
  let p := d.pg g .PROT_PG_CFG_P_LEAD
  let sd := fun lead => (d.memberLanes kind lead).any (fun l => d.hasDef l 4)
  if kind == 1 then (d.pairFail w p, sd w, d.pairFail p w, sd p)
  else
    let wf := d.bondFail w
    let pf := d.bondFail p
    let differ := d.memberDelivers w && d.memberDelivers p && (d.tilePattern w != d.tilePattern p || d.tileFmt w != d.tileFmt p)
    (wf, sd w, pf || differ, sd p)

/-- POS of a tile as an integer. -/
def Dev.posOf (d : Dev) (t : Nat) : Int :=
  let v := d.rd (rxPage (tileLane t)) ((rxFld (tileLane t) .LANE_PTR_POS .TLL_PTR_POS).nth (tilePos t))
  if v < 524288 then v else (v : Int) - 1048576

/-- A member is short (R260): the pointer of a tile that has one lies below REPAIR_MIN bricks. -/
def Dev.memberShort (d : Dev) (lead : Nat) : Bool :=
  (d.memberTiles lead).any (fun t =>
    d.crs t != 0 && d.posOf t / 8 < ((patternBricks (d.tilePattern t) (d.tileFmt t) + 4 : Nat) : Int))

/-- A request: code, member, and whether it comes from the far end (Table 11.4). -/
structure Request where
  code : Nat
  member : Nat
  far : Bool
  deriving DecidableEq, Repr

/-- The first of two requests by Table 11.4's order: by code, then member 0 first, then local first. -/
def Request.better (a b : Request) : Request :=
  if b.code > a.code then b
  else if b.code < a.code then a
  else if b.member < a.member && (a.code == 11 || a.code == 9) then b
  else if b.member == a.member && a.far && !b.far then b
  else a

/-- The request that a stored command makes (R265). -/
def cmdRequest (cmd : Nat) : Option Request :=
  match cmd with
  | 2 => some ⟨15, 0, false⟩
  | 3 => some ⟨13, 1, false⟩
  | 4 => some ⟨7, 0, false⟩
  | 5 => some ⟨7, 1, false⟩
  | _ => none

/-- The codes of Table 11.4. -/
def reqCodes : List Nat := [15, 13, 11, 9, 7, 5, 1, 0]

/-- The far end of a KIND 1 group is not valid: its lane fails, or its accepted request is none of the table (R263). -/
def Dev.feInvalid (d : Dev) (g : Nat) : Bool :=
  let p := d.pg g .PROT_PG_CFG_P_LEAD
  let srq1 := d.rd (.tll p) .TLL_OH_RX_SRQ1_ACC
  d.pg g .PROT_PG_CFG_KIND == 1 &&
    (d.hasDef (144 + p) 0 || d.hasDef (144 + p) 1 || d.hasDef (144 + p) 2 || d.hasDef (144 + p) 7 ||
      !(reqCodes.contains (srq1 / 16)) || 1 < srq1 % 16)

/-- The accepted SRQ2 of a KIND 1 group disagrees in architecture or direction (R263). -/
def Dev.srqMismatch (d : Dev) (g : Nat) : Bool :=
  let srq2 := d.rd (.tll (d.pg g .PROT_PG_CFG_P_LEAD)) .TLL_OH_RX_SRQ2_ACC
  d.pg g .PROT_PG_CFG_KIND == 1 && (srq2 / 8 % 2 == 1 || srq2 / 4 % 2 != d.pg g .PROT_PG_CFG_BIDIR)

/-- The effective mode of a group (R259): line repair gives way on SD bonds and while a member is short. -/
def Dev.effMode (d : Dev) (g : Nat) (short : Bool) : Nat :=
  let m := d.pg g .PROT_PG_CFG_MODE
  if m == 0 && (short || d.tilePattern (d.pg g .PROT_PG_CFG_W_LEAD) == 1) then 1 else m

/-- The group's local requests but the one that depends on them all (do not revert). -/
def Dev.localRequests (d : Dev) (g : Nat) (s : GroupI) (eff : Nat) : List Request :=
  let m := d.pg g .PROT_PG_CFG_MODE
  (cmdRequest s.cmd).toList ++
    (if m == 2 then [] else
      (if s.sfP then [(⟨11, 0, false⟩ : Request)] else []) ++ (if s.sfW then [(⟨11, 1, false⟩ : Request)] else [])) ++
    (if m == 2 || eff == 0 then [] else
      (if s.sdP then [(⟨9, 0, false⟩ : Request)] else []) ++ (if s.sdW then [(⟨9, 1, false⟩ : Request)] else [])) ++
    (if s.wtr then [(⟨5, 1, false⟩ : Request)] else [])

/-- The far-end request of a group, where it counts (R263). -/
def Dev.farRequest (d : Dev) (g : Nat) : List Request :=
  if d.pg g .PROT_PG_CFG_KIND == 1 && d.pg g .PROT_PG_CFG_BIDIR == 1 && !(d.feInvalid g) && !(d.srqMismatch g) then
    let srq1 := d.rd (.tll (d.pg g .PROT_PG_CFG_P_LEAD)) .TLL_OH_RX_SRQ1_ACC
    [⟨srq1 / 16, srq1 % 16, true⟩]
  else []

/-- The state of Table 11.5 that a top request gives. -/
def protState (r : Request) : Nat :=
  match r.code, r.member with
  | 15, _ => 2
  | 13, _ => 3
  | 11, 0 => 4
  | 11, _ => 5
  | 9, 0 => 6
  | 9, _ => 7
  | 7, 0 => 8
  | 7, _ => 9
  | 5, _ => 10
  | 1, _ => 11
  | _, _ => 1

/-- Set or clear SEL of a group in PG_STAT and PG_SELMAP; a change is counted and is an event (R263). -/
def Dev.setSel (d : Dev) (g sel : Nat) : Dev :=
  let old := d.pg g .PROT_PG_STAT_SEL
  let d := d.wrB .prot g .PROT_PG_STAT_SEL sel
  let k := regKey .prot 0 (0x040 + 4 * (g / 32))
  let bit := BitVec.ofNat 32 (2 ^ (g % 32))
  let d := d.setReg k (if sel == 1 then d.reg k ||| bit else d.reg k &&& ~~~bit)
  if old == sel then d else (d.addB .prot g .PROT_PG_CNT_SWITCHES 1).setEvt .prot 8

/-- A group that is disabled, or whose page is: W selected, no request (R256, Table 11.5). -/
def Dev.groupOff (d : Dev) (g : Nat) : Dev :=
  let s := d.group g
  let d := d.setGroup g { enabled := s.enabled, audio := s.audio, audioI := s.audioI, audioFrom := s.audioFrom, pairs := s.pairs }
  let d := d.setSel g 0
  d.setReg (regKey .prot g 0x030) 0

/-- A group follows its conditions (R258 to R266). -/
def Dev.groupSettle (d : Dev) (g : Nat) : Dev :=
  let s := d.group g
  if !(s.enabled && d.enabled .prot) then d.groupOff g
  else
    let (wf, wd, pf, pd) := d.groupCond g
    let now := d.pg g .PROT_PG_TIME_HOLDOFF == 0
    let raise := fun (was cond : Bool) => cond && (was || now)
    let s := { s with sfW := raise s.sfW wf, sdW := raise s.sdW wd, sfP := raise s.sfP pf, sdP := raise s.sdP pd }
    let kind := d.pg g .PROT_PG_CFG_KIND
    let short := kind == 0 && (d.memberShort (d.pg g .PROT_PG_CFG_W_LEAD) || d.memberShort (d.pg g .PROT_PG_CFG_P_LEAD))
    let eff := d.effMode g short
    let manual := d.pg g .PROT_PG_CFG_MODE == 2
    let hasW := !manual && (s.sfW || (s.sdW && eff != 0))
    let loc := d.localRequests g { s with wtr := false } eff
    let far := d.farRequest g
    let strong := (loc ++ far).any (fun r => 5 ≤ r.code)
    let newStrong := (loc ++ far).any (fun r => 9 ≤ r.code)
    let start := s.hadW && !hasW && !strong && d.pg g .PROT_PG_CFG_REVERT == 1 && d.pg g .PROT_PG_TIME_WTR != 0
    let wtr := (s.wtr || start) && !newStrong
    let d := if start then d.wrB .prot g .PROT_PG_STAT_WTR_LEFT (d.pg g .PROT_PG_TIME_WTR)
      else if wtr then d else d.wrB .prot g .PROT_PG_STAT_WTR_LEFT 0
    let s := { s with wtr := wtr, hadW := hasW }
    let all := d.localRequests g s eff ++ far
    let dnr := (all.filter (fun r => 0 < r.code)).isEmpty && d.pg g .PROT_PG_CFG_REVERT == 0 && d.pg g .PROT_PG_STAT_SEL == 1
    let top := (all ++ (if dnr then [(⟨1, 1, false⟩ : Request)] else [])).foldl Request.better (⟨0, 0, false⟩ : Request)
    let drop := (s.cmd == 4 || s.cmd == 5) && 7 < top.code
    let d := (d.setGroup g (if drop then { s with cmd := 0 } else s)).setEvtIf drop .prot 11
    let d := d.setEvtIf (short && d.pg g .PROT_PG_STAT_SHORT == 0) .prot 9
    let mm := d.srqMismatch g
    let d := d.setEvtIf (mm && d.pg g .PROT_PG_STAT_MISMATCH == 0) .prot 10
    let d := d.setSel g top.member
    let wr := fun (e : Dev) (f : Fld) (v : Nat) => e.wrB .prot g f v
    let d := wr d .PROT_PG_STAT_STATE (protState top)
    let d := wr d .PROT_PG_STAT_EFF_MODE eff
    let d := wr d .PROT_PG_STAT_SHORT (if short then 1 else 0)
    let d := wr d .PROT_PG_STAT_COND (defBit pd 0 + defBit pf 1 + defBit wd 2 + defBit wf 3)
    let d := wr d .PROT_PG_STAT_TOP_CODE top.code
    let d := wr d .PROT_PG_STAT_TOP_MEMBER top.member
    let d := wr d .PROT_PG_STAT_TOP_FE (if top.far then 1 else 0)
    let d := wr d .PROT_PG_STAT_MISMATCH (if mm then 1 else 0)
    wr d .PROT_PG_STAT_FE_INVALID (if d.feInvalid g then 1 else 0)

/-- Every group that is configured as enabled follows its conditions. -/
def Dev.protSettle (d : Dev) : Dev := (d.groups.map (·.1)).foldl (fun e g => e.groupSettle g) d

end Sys2Proof.Machine
end

