-- ==== Sys2Proof/Machine/Aligner.lean ====
section
/-! DEFINITION. The course aligner (R125 to R134): pointers, justification, course states, and the buffered lines of a tile. -/

namespace Sys2Proof.Machine

/-- Take a tile to IDLE: VOID, no pointer, an empty buffer (Table 6.5, R132); the net justifications of the window in progress stay (R133). -/
def Dev.tileIdle (d : Dev) (t : Nat) : Dev := ((d.setCrs t 0).setPos t 0).setTile t { net := (d.tile t).net }

/-- A tile's course state follows its framer without a line start: any state to IDLE when the framer leaves its delivering
state, IDLE to PACKET for a data tile, whatever its ALIGN_EN (log 105), and to AUDIO for an audio tile (Table 6.5). -/
def Dev.tileSettle (d : Dev) (t : Nat) : Dev :=
  if d.crs t == 0 then
    if d.tileData t then d.setCrs t 5 else if d.tileAudio t then d.setCrs t 6 else d
  else if d.crs t == 5 then if d.tileData t then d else d.tileIdle t
  else if d.crs t == 6 then if d.tileAudio t then d else d.tileIdle t
  else if d.tileFramed t then d
  else d.tileIdle t

/-- The tiles, defects and protection groups of a receive lane follow it; of its whole bond on an SDI lane. -/
def Dev.laneSettle (d : Dev) (l : Nat) : Dev :=
  let ls := if l < 144 then (l :: d.rxBond l).eraseDups else [l]
  let d := ls.foldl (fun e m => (lanePositions m).foldl (fun e k => e.tileSettle (laneTile m k)) e) d
  let d := ls.foldl (fun e m => e.defSettle m) d
  d.protSettle

/-- The pages that hold the members of a list of tiles, once each. -/
def tilePages (ts : List Nat) : List Nat := (ts.map tileLane).eraseDups

/-- An event in each page that holds a member (R131). -/
def Dev.bondEvt (d : Dev) (ts : List Nat) (b : Nat) : Dev :=
  (tilePages ts).foldl (fun e l => e.setEvt (rxPage l) b) d

/-- A count in each page that holds a member (R131). -/
def Dev.bondCount (d : Dev) (ts : List Nat) (fl ft : Fld) : Dev :=
  (tilePages ts).foldl (fun e l => e.rxAdd l fl ft 1) d

/-- POS lies in the window `mn` to `mx` bricks (R129). -/
def inWindow (mn mx : Nat) (pos : Int) : Bool := 8 * (mn : Int) ≤ pos && pos ≤ 8 * (mx : Int) + 7

/-- POS lies in the window shrunk by 16 bricks at each end (Table 6.5). -/
def inShrunk (mn mx : Nat) (pos : Int) : Bool := 8 * ((mn : Int) + 16) ≤ pos && pos ≤ 8 * ((mx : Int) - 16) + 7

/-- POS / 8 lies beyond J by more than 2 bricks (a step). -/
def isStep (j pos : Int) : Bool := 16 < pos - 8 * j || pos - 8 * j < -16

/-- What a line start at POS measures of a tile, with no state change. -/
def TileI.measure (i : TileI) (mn mx : Nat) (pos : Int) : TileI :=
  let inside := inWindow mn mx pos
  let near := i.posSeen && i.lastPos - pos ≤ 8 && pos - i.lastPos ≤ 8
  { i with
    posSeen := true
    lastPos := pos
    inRun := if inside then (if near then i.inRun + 1 else 1) else 0
    outRun := if inside then 0 else i.outRun + 1
    shrunkRun := if inShrunk mn mx pos then i.shrunkRun + 1 else 0
    stepNow := isStep i.j pos
    outNow := !inside
    mortarChange := 0 }

/-- Forget the runs of a tile that enters ACQUIRE. -/
def TileI.fresh (i : TileI) : TileI := { i with inRun := 0, outRun := 0, shrunkRun := 0, net := i.net }

/-- Every member of a bond takes a course state; entering ACQUIRE or OUT_OF_COURSE counts line starts afresh. -/
def Dev.bondState (d : Dev) (ts : List Nat) (s : Nat) : Dev :=
  ts.foldl (fun e t => (e.setCrs t s).setTile t (e.tile t).fresh) d

/-- J of every member is POS / 8, rounded, an exact half upward (log 106), as the bond enters IN_COURSE (R128). -/
def Dev.bondJ (d : Dev) (ts : List Nat) : Dev :=
  ts.foldl (fun e t => e.setTile t { e.tile t with j := ((e.tile t).lastPos + 4) / 8 }) d

/-- The format of a tile equals that of its domain (R125). -/
def Dev.fmtEqual (d : Dev) (t : Nat) : Bool := d.tileFmt t != 0 && d.tileFmt t == d.domFmt (d.tileDom t)

/-- The shared course state of a bond at the line start of its lead (Table 6.5, R131). -/
def Dev.bondStep (d : Dev) (t : Nat) (ts : List Nat) (domChanged : Bool) : Dev :=
  let s := d.crs t
  let all := fun (c : TileI → Bool) => ts.all (fun u => c (d.tile u))
  let any := fun (c : TileI → Bool) => ts.any (fun u => c (d.tile u))
  let same := d.fmtEqual t
  if !(d.tileAdmitted t) then if s == 0 then d else ts.foldl (fun e u => e.tileIdle u) d
  else if s == 0 then d.bondState ts 1
  else if domChanged then d.bondState ts 1
  else if s == 4 then if same then d.bondState ts 1 else d
  else if !same then (d.bondState ts 4).bondEvt ts 22
  else if s == 1 then
    if all (fun i => 16 ≤ i.inRun) then ((d.bondState ts 2).bondJ ts).bondEvt ts 18
    else if any (fun i => 16 ≤ i.outRun) then
      ((d.bondState ts 3).bondCount ts .LANE_CRSCNT_OOC_CNT .TLL_CRSCNT_OOC_CNT).bondEvt ts 19
    else d
  else if s == 2 then
    if any (fun i => i.outNow) then
      ((d.bondState ts 3).bondCount ts .LANE_CRSCNT_OOC_CNT .TLL_CRSCNT_OOC_CNT).bondEvt ts 19
    else if any (fun i => i.stepNow) then
      ((d.bondState ts 1).bondCount ts .LANE_CRSCNT_STEP_CNT .TLL_CRSCNT_STEP_CNT).bondEvt ts 20
    else d
  else if s == 3 then
    if all (fun i => 2 * fmtLines (d.tileFmt t) ≤ i.shrunkRun) then d.bondState ts 1 else d
  else d

/-- The justification of a tile at a line start in IN_COURSE (R128): J follows POS / 8 by at most one brick. -/
def Dev.justify (d : Dev) (t : Nat) (pos : Int) : Dev :=
  let i := d.tile t
  let l := tileLane t
  if d.crs t != 2 then d
  else if 6 ≤ pos - 8 * i.j then
    (d.setTile t { i with j := i.j + 1, net := i.net + 1, mortarChange := -1 }).add (rxPage l)
      ((rxFld l .LANE_JUST_INC .TLL_JUST_INC).nth (tilePos t)) 1
  else if pos - 8 * i.j ≤ -6 then
    (d.setTile t { i with j := i.j - 1, net := i.net - 1, mortarChange := 1 }).add (rxPage l)
      ((rxFld l .LANE_JUST_DEC .TLL_JUST_DEC).nth (tilePos t)) 1
  else d

/-- A line start of an input tile at the course aligner, at pointer `pos` (R127, R128, R130, R131, R134). -/
def Dev.tileLineStart (d : Dev) (t : Nat) (pos : Int) : Dev :=
  if !(d.tileFramed t) || d.tileData t then d
  else
    let w := d.tileWindow t
    let lead := d.tileLead t
    let ts := match d.tileBond t with
      | [] => [t]
      | b => b
    let dom := d.tileDom t
    let changed := (d.tile t).posSeen && (d.tile t).dom != dom
    let d := (d.setTile t { (d.tile t).measure w.1 w.2 pos with dom := dom }).setPos t pos
    let d := if lead == t then d.bondStep t ts changed else d
    let d := if d.crs t == 0 then d.setPos t 0 else d.justify t pos
    let d := (tilePages ts).foldl (fun e l => e.defSettle l) d
    d.protSettle

/-- The input tiles whose PTR register holds anything but its reset value. -/
def Dev.ptrTiles (d : Dev) : List Nat :=
  d.regs.filterMap (fun e =>
    let off := e.1 % 0x1000
    if 0x100000 ≤ e.1 && e.1 < 0x190000 && 0x0C0 ≤ off && off < 0x0E0 then
      some ((e.1 - 0x100000) / 0x1000 * 8 + (off - 0x0C0) / 4)
    else if 0x190000 ≤ e.1 && e.1 < 0x1A0000 && 0x0C0 ≤ off && off < 0x100 then
      some (1152 + (e.1 - 0x190000) / 0x1000 * 16 + (off - 0x0C0) / 4)
    else none)

/-- The end of a 1 s drift window of one tile (R133). -/
def Dev.driftWindow (d : Dev) (t : Nat) : Dev :=
  let i := d.tile t
  let lim := d.rxRd (tileLane (d.tileLead t)) .LANE_ALIGN_X_DRIFT_LIMIT .TLL_ALIGN_X_DRIFT_LIMIT
  let f := (rxFld (tileLane t) .LANE_PTR_DRIFT .TLL_PTR_DRIFT).nth (tilePos t)
  let p := rxPage (tileLane t)
  let was := d.on p f
  let d := d.setTile t { i with net := 0 }
  if lim < i.net.natAbs then (d.wrOn p f true).setEvtIf (!was) p 21
  else if 2 * i.net.natAbs ≤ lim then d.wrOn p f false
  else d

/-- Every tile's drift window ends. -/
def Dev.driftWindows (d : Dev) : Dev := d.ptrTiles.foldl (fun e t => e.driftWindow t) d

/-- A line of a tile arrives in its buffer of 576 bricks: the oldest lines that no longer fit are gone (R129). -/
def keepLines : Nat → List TileLine → List TileLine
  | _, [] => []
  | room, x :: xs => if x.bricks.length ≤ room then x :: keepLines (room - x.bricks.length) xs else []

/-- Eight times the course positions per line of a tile of a pattern and format: its word pairs (R121, Table 6.3). -/
def courseOct (pattern fmt : Nat) : Nat :=
  let len := ((fmtOf fmt).map (·.len)).getD 0
  if pattern == 1 || patternPhased pattern then len / 2 else len

/-- The mortar positions of a line of a tile (R128): the format's number, which alternates where the line is no whole number of bricks. -/
def mortarCount (pattern fmt line : Nat) : Nat :=
  let oct := courseOct pattern fmt
  line * oct / 8 - (line - 1) * oct / 8 - patternBricks pattern fmt

/-- The MORTAR bricks after the active bricks of a line (R118, R128): one position fewer after a rise of J, and one more, marked JUST, after
a fall. -/
def Dev.lineMortar (d : Dev) (t line : Nat) : List Brick :=
  let n := mortarCount (d.tilePattern t) (d.tileFmt t) line
  let c := (d.tile t).mortarChange
  List.replicate (if c < 0 then n - 1 else n) (mortarBrick false) ++ (if 0 < c then [mortarBrick true] else [])

/-- Put a line into a tile's buffer, with the mortar that follows it. -/
def Dev.pushLine (d : Dev) (t line : Nat) (bs : List Brick) : Dev :=
  d.setTile t { d.tile t with lines := keepLines 576 (⟨line, bs, d.lineMortar t line⟩ :: (d.tile t).lines) }

end Sys2Proof.Machine
end

