-- ==== Sys2Proof/Machine/Framer.lean ====
section
/-! DEFINITION. The SDI framer (R94 to R111): candidates, verification, line sync, format identification, the checks on a framed
lane, and the mapping of a line's streams into tiles (R120 to R123). -/

namespace Sys2Proof.Machine

/-- The open packet of a Tile Link lane's communication channel is aborted (R233). -/
def Dev.ccAbort (d : Dev) (n : Nat) : Dev :=
  match (d.tlr n).cc with
  | none => d
  | some _ => ((d.inc (.tll n) .TLL_CC_ERRCNT_ABORT).setEvt (.tll n) 30).setTlr n { d.tlr n with cc := none }

/-- A Tile Link framer leaves FRAME_SYNC: its slots go to IDLE and its open packet is aborted (Table 10.6, R233); what its overhead
showed stays. -/
def Dev.tlLeave (d : Dev) (n : Nat) : Dev :=
  let d := d.ccAbort n
  let d := d.setTlr n { d.tlr n with slots := [], bipPrev := none, bip := 0, slotBlocks := [] }
  (List.range 16).foldl (fun e k =>
    (e.wr (.tll n) (Fld.nth .TLL_RXSLOT_STATE k) 0).wr (.tll n) (Fld.nth .TLL_RXSLOT_BOND_ERR k) 0) d

/-- Write the framer state of a lane. Leaving the delivering state ends FMT and SUBFMT, and raises LOF underneath (Table 11.1). -/
def Dev.setFrm (d : Dev) (l s : Nat) : Dev :=
  let d := if d.delivers l && s != 4 then d.setPm l { d.pmOf l with lofRaw := d.rxState l != 0 } else d
  let d := if d.delivers l && s != 4 && 144 ≤ l then d.tlLeave (l - 144) else d
  let d := d.rxWr l .LANE_FRMSTAT_STATE .TLL_FRMSTAT_STATE s
  if l < 144 && s != 4 then (d.wr (.lane l) .LANE_FRMSTAT_FMT 0).wr (.lane l) .LANE_FRMSTAT_SUBFMT 0 else d

/-- Show the number of candidates held. -/
def Dev.setCands (d : Dev) (n : Nat) (cs : List Cand) : Dev :=
  (d.setFramer n { d.framer n with cands := cs }).wr (.lane n) .LANE_FRMSTAT_CAND cs.length

/-- The framer goes to OFF (R94): state 0, no candidates; the last identified format stays known (R104). -/
def Dev.framerOff (d : Dev) (l : Nat) : Dev :=
  let d := d.setFrm l 0
  let d := d.setFramer l { lastFmt := (d.framer l).lastFmt }
  if l < 144 then (d.wr (.lane l) .LANE_FRMSTAT_CAND 0).wr (.lane l) .LANE_FRMSTAT_STREAMS 0
  else d.wr (rxPage l) .TLL_FRMSTAT_BLOCK_LOCK 0

/-- A mode for which Table 5.1 names an object of lock; a Tile Link lane in TL25. TEST has no row there, so its framer stays OFF although
RX_STATE may be LOCKED (DEDUCED, log 107). -/
def Dev.framedMode (d : Dev) (l : Nat) : Bool :=
  if l < 144 then (let m := d.rd (.lane l) .LANE_RXCFG_MODE; 1 ≤ m && m ≤ 10)
  else d.rd (rxPage l) .TLL_CFG_RXMODE == 1

/-- The framer follows RX_STATE (R94): it runs in LOCKED and HUNT only, and starts in its hunt, with the line code from its first bit (R95). -/
def Dev.framerSettle (d : Dev) (l : Nat) : Dev :=
  let run := (d.rxState l == 3 || d.rxState l == 4) && d.framedMode l
  let d := if run then
      if d.frmState l == 0 then (d.setFramer l { lastFmt := (d.framer l).lastFmt }).setFrm l 1 else d
    else if d.frmState l == 0 then d else d.framerOff l
  d.laneSettle l

/-- The rate of a mode as the AUTO hunt knows it (R83): 3G_B has the rate of 3G_A. -/
def autoRate (mode : Nat) : Nat := if mode == 4 then 3 else mode

/-- The candidate rates in the order the hunt tries them (R83). -/
def autoOrder (first : Nat) : List Nat := first :: ([8, 7, 3, 2, 1].filter (fun r => r != first))

/-- The rate the AUTO hunt is on. -/
def Dev.autoNow (d : Dev) (n : Nat) : Nat :=
  let i := d.lane n
  let first := if i.lastRate == 0 then autoRate (d.rd (.lane n) .LANE_RXCFG_MODE) else i.lastRate
  (autoOrder first).getD (i.cand % 5) first

/-- The modes whose streams and line lengths the framer looks for (R97). -/
def Dev.huntModes (d : Dev) (n : Nat) : List Nat :=
  if d.on (.lane n) .LANE_RXCFG_AUTO && !(d.on (.lane n) .LANE_DETSTAT_DET_VALID) then
    if d.autoNow n == 3 then [3, 4] else [d.autoNow n]
  else [d.rxMode n]

/-- The line lengths that a stream count allows among modes. -/
def lensFor (modes : List Nat) (streams : Nat) : List Nat :=
  (modes.filter (fun m => (modeStreams m).contains streams)).flatMap legalLens

/-- The candidate is advanced by an EAV at this position: its line length then (R97). -/
def Cand.advances (c : Cand) (lens : List Nat) (pos streams : Nat) : Option Nat :=
  if c.streams != streams then none
  else match c.len with
    | some l => if pos == c.pos + l * streams * 10 then some l else none
    | none => lens.find? (fun l => pos == c.pos + l * streams * 10)

/-- The AUTO receiver loses its detection and hunts on, beginning with the last detected rate (R84). -/
def Dev.detLost (d : Dev) (n : Nat) : Dev :=
  if d.on (.lane n) .LANE_RXCFG_AUTO then
    let d := d.wrOn (.lane n) .LANE_DETSTAT_DET_VALID false
    d.setLane n { d.lane n with cand := 0 }
  else d

/-- A detection under AUTO (R84, R102): DET_VALID rises with the mode that the rate and the streams give, and the lane is LOCKED. -/
def Dev.detect (d : Dev) (n streams family : Nat) : Dev :=
  if d.on (.lane n) .LANE_RXCFG_AUTO && !(d.on (.lane n) .LANE_DETSTAT_DET_VALID) then
    let r := d.autoNow n
    let mode := if r == 3 && streams == 4 then 4 else r
    let changed := match (d.lane n).prevDet with
      | some m => m != mode
      | none => false
    let d := if changed then (d.inc (.lane n) .LANE_DETSTAT_DET_CHANGES).setEvt (.lane n) 10 else d
    let d := d.wrOn (.lane n) .LANE_DETSTAT_DET_VALID true
    let d := d.wr (.lane n) .LANE_DETSTAT_DET_MODE mode
    let d := d.wr (.lane n) .LANE_DETSTAT_DET_FAMILY family
    let d := d.setLane n { d.lane n with prevDet := some mode, lastRate := r, cand := 0 }
    if d.rxState n == 4 then d.wr (.lane n) .LANE_LSTAT_RX_STATE 3 else d
  else d

/-- The rate family whose nominal rate lies nearer (R103), from the offset to family 1's rate in 0.1 ppm; SD has family 1 only. -/
def nearFamily (sd : Bool) (offset : Int) : Nat := if !sd && (offset + 9990).natAbs < offset.natAbs then 1 else 0

/-- The offset from the nominal rate of the nearer family, in 0.1 ppm. -/
def familyOffset (sd : Bool) (offset : Int) : Int := if nearFamily sd offset == 1 then offset + 9990 else offset

/-- The lane's rate is that of SD. -/
def Dev.isSd (d : Dev) (n : Nat) : Bool := d.huntModes n == [1]

/-- Show the recovered clock's offset while the receiver is LOCKED (RXFREQ). -/
def Dev.showFreq (d : Dev) (n : Nat) (offset : Int) : Dev :=
  d.wr (.lane n) .LANE_RXFREQ_OFFSET
    (if d.rxState n == 3 then ((max (-524288) (min 524287 (familyOffset (d.isSd n) offset))) % 1048576).toNat else 0)

/-- The framer enters LINE_SYNC at an EAV (R99, R102). -/
def Dev.lineSync (d : Dev) (n pos len streams : Nat) (offset : Int) (line1 : Bool) : Dev :=
  let d := d.setFrm n 3
  let d := d.setFramer n { d.framer n with
    verify := none, lineLen := len, streams := streams, lastEav := pos, savOff := none, missing := 0, inFrame := line1
    lineNo := if line1 then 1 else 0, fieldMoved := false, departing := 0, s2missing := 0, s2ok := 0
    family := nearFamily (d.isSd n) offset }
  let d := d.wr (.lane n) .LANE_FRMSTAT_STREAMS streams
  let d := d.wr (.lane n) .LANE_FRMGEOM_LINE_LEN len
  let d := (d.setEvt (.lane n) 12).detect n streams (nearFamily (d.isSd n) offset)
  (d.showFreq n offset).laneSettle n

/-- Ambiguous alignment (R99): counted, an event, no candidates, HUNT. -/
def Dev.ambiguous (d : Dev) (n : Nat) : Dev :=
  let d := (d.inc (.lane n) .LANE_FRMCNT_AMBIG_CNT).setEvt (.lane n) 14
  (((d.setCands n []).setFramer n { (d.setCands n []).framer n with verify := none })).setFrm n 1

/-- A checking EAV reaches the framer in HUNT or VERIFY (R97, R99), over a number of streams that the lane's mode allows. -/
def Dev.huntEav (d : Dev) (n pos streams : Nat) (offset : Int) (line1 : Bool) : Dev :=
  let i := d.framer n
  let lens := lensFor (d.huntModes n) streams
  let expected := match i.verify with
    | some c => if d.frmState n == 2 then c.advances [] pos streams else none
    | none => none
  match expected with
  | some len => d.lineSync n pos len streams offset line1
  | none =>
    match i.cands.findIdx? (fun c => (c.advances lens pos streams).isSome) with
    | some k =>
      let c := i.cands.getD k ⟨0, 0, none, 0⟩
      let c' : Cand := { c with pos := pos, count := c.count + 1, len := c.advances lens pos streams }
      let d' := d.setCands n (i.cands.set k c')
      if c'.count != 3 then d'
      else if d.frmState n == 2 then d'.ambiguous n
      else (d'.setFramer n { d'.framer n with verify := some c' }).setFrm n 2
    | none =>
      if i.cands.length < 4 then d.setCands n (i.cands ++ [⟨pos, 1, none, streams⟩])
      else d.inc (.lane n) .LANE_FRMCNT_CAND_FULL

/-- The words that the last decoded bits spell over `streams` streams, as many as a TRS has (R96). -/
def lastWords (streams : Nat) (bits : List Bool) : List Word10 :=
  if bits.length < 40 * streams then [] else bitsWords (4 * streams) (bits.drop (bits.length - 40 * streams))

/-- A TRS of stream 1 in LINE_SYNC or FRAME_SYNC (R100, R103): it counts only where the line timing predicts it. The place of the SAV, and with it A, is
learned once in each frame: from the first SAV that stands at a word's place in the line (DESIGN CHOICE, log 108). -/
def Dev.syncTrs (d : Dev) (n pos : Nat) (eav : Bool) : Dev :=
  let i := d.framer n
  let w := i.streams * 10
  if eav then
    if pos == i.lastEav + i.lineLen * w then d.setFramer n { i with lastEav := pos, missing := 0 } else d
  else
    let off := (pos - i.lastEav) / w
    match i.savOff with
    | some o => if pos == i.lastEav + o * w then d.setFramer n { i with missing := 0 } else d
    | none =>
      if pos == i.lastEav + off * w && 0 < off && off + 4 < i.lineLen then
        (d.setFramer n { i with savOff := some off, missing := 0 }).wr (.lane n) .LANE_FRMGEOM_ACTIVE (i.lineLen - off - 4)
      else d

/-- The line timing of stream 1 predicts a TRS at a position: the last EAV's, the next EAV's, or the SAV's. -/
def FramerI.predicts (i : FramerI) (pos : Nat) (eav : Bool) : Bool :=
  let w := i.streams * 10
  if eav then pos == i.lastEav || pos == i.lastEav + i.lineLen * w
  else match i.savOff with
    | some o => pos == i.lastEav + o * w
    | none => false

/-- A TRS of stream 2 of 3G_B that checks, at the positions of stream 1 (R108). -/
def Dev.secondTrs (d : Dev) (n pos : Nat) (eav : Bool) : Dev :=
  let i := d.framer n
  if !(i.predicts pos eav) then d
  else
    let ok := if eav then i.s2ok + 1 else i.s2ok
    let d := d.setFramer n { i with s2missing := 0, s2ok := ok }
    if 3 ≤ ok && d.on (.lane n) .LANE_FRMSTAT_S2_LOSS then (d.wrOn (.lane n) .LANE_FRMSTAT_S2_LOSS false).laneSettle n
    else d

/-- The words of a TRS in LINE_SYNC or FRAME_SYNC: in 3G_B each stream's half is a TRS of its own (R108). -/
def Dev.lockedTrs (d : Dev) (n pos : Nat) (ws : List Word10) : Dev :=
  let i := d.framer n
  if d.rxMode n == 4 then
    let d := match trsOf 2 (halfWords 0 ws) with
      | some x => d.syncTrs n pos (x.getLsbD 6)
      | none => d
    match trsOf 2 (halfWords 1 ws) with
    | some x => d.secondTrs n pos (x.getLsbD 6)
    | none => d
  else match trsOf i.streams ws with
    | some x => d.syncTrs n pos (x.getLsbD 6)
    | none => d

/-- The streams over which the last decoded bits are a checking EAV (R96, R97). -/
def Dev.eavStreams (d : Dev) (n : Nat) (bits : List Bool) : Option Nat :=
  ((d.huntModes n).flatMap modeStreams).find? (fun s =>
    match trsOf s (lastWords s bits) with
    | some x => x.getLsbD 6
    | none => false)

/-- Levels received on an SDI lane go through NRZI and the descrambler, whose output is valid from the tenth bit after OFF on (R95): the framer
with its line code advanced, and the valid bits. -/
def Dev.decodeSdi (d : Dev) (n : Nat) (levels : List Bool) : Dev × List Bool :=
  let i := d.framer n
  let x := i.code.receiveAll (polarity (d.on (.lane n) .LANE_RXCFG_POL_INV) levels)
  (d.setFramer n { i with code := x.1, decoded := min 9 (i.decoded + levels.length) }, x.2.drop (9 - i.decoded))

/-- Levels that end with a TRS reach an SDI framer, the TRS beginning at bit `pos` of the descrambled stream (R95 to R97, R100). -/
def Dev.trsReceived (d : Dev) (n pos : Nat) (levels : List Bool) (offset : Int) (line1 : Bool) : Dev :=
  if !(modeSdi (d.rd (.lane n) .LANE_RXCFG_MODE)) || d.frmState n == 0 then d
  else
    let x := d.decodeSdi n levels
    if d.frmState n == 1 || d.frmState n == 2 then
      match d.eavStreams n x.2 with
      | some s => x.1.huntEav n pos s offset line1
      | none => x.1
    else x.1.lockedTrs n pos (lastWords (d.framer n).streams x.2)

/-- Loss of sync of an SDI, MADI or ASI framer (R101, R113, R114): counted, an event, back to a hunting state. -/
def Dev.frmLoss (d : Dev) (n back : Nat) : Dev :=
  let d := (d.inc (.lane n) .LANE_FRMCNT_LOSS_CNT).setEvt (.lane n) 13
  let d := (d.setFrm n back).wr (.lane n) .LANE_FRMSTAT_STREAMS 0
  let d := d.setFramer n { d.framer n with missing := 0, inFrame := false, lineNo := 0, departing := 0, verify := none }
  let auto := d.on (.lane n) .LANE_RXCFG_AUTO
  let d := d.detLost n
  let d := if auto && d.rxState n == 3 then d.wr (.lane n) .LANE_LSTAT_RX_STATE 4 else d
  (d.wr (.lane n) .LANE_RXFREQ_OFFSET (if d.rxState n == 3 then d.rd (.lane n) .LANE_RXFREQ_OFFSET else 0)).laneSettle n

/-- A candidate is freed (R98). -/
def Dev.candExpiry (d : Dev) (n k : Nat) : Dev := d.setCands n ((d.framer n).cands.eraseIdx k)

/-- The confirmed candidate's expected EAV is absent (R99). -/
def Dev.verifyMissing (d : Dev) (n : Nat) : Dev :=
  if d.frmState n == 2 && modeSdi (d.rd (.lane n) .LANE_RXCFG_MODE) then
    let d := d.setCands n []
    (d.setFramer n { d.framer n with verify := none }).setFrm n 1
  else d

/-- An expected TRS is missing (R101, R108). -/
def Dev.trsMissing (d : Dev) (n : Nat) (eav stream2 : Bool) : Dev :=
  if !((d.frmState n == 3 || d.frmState n == 4) && modeSdi (d.rd (.lane n) .LANE_RXCFG_MODE)) then d
  else
    let lim := d.rd (.lane n) .LANE_FRM_X_LOSS_TRS
    let d := d.inc (.lane n) .LANE_TRSERR_COUNT
    let i := d.framer n
    if stream2 then
      let d := d.setFramer n { i with s2missing := i.s2missing + 1, s2ok := if eav then 0 else i.s2ok }
      if lim ≤ i.s2missing + 1 && d.rxMode n == 4 then (d.wrOn (.lane n) .LANE_FRMSTAT_S2_LOSS true).laneSettle n else d
    else
      let d := d.setFramer n { i with
        missing := i.missing + 1
        lastEav := if eav then i.lastEav + i.lineLen * i.streams * 10 else i.lastEav }
      if lim ≤ i.missing + 1 then d.frmLoss n 1 else d

/-- A 16-bit two's complement field of an integer. -/
def field16 (x : Int) : Nat := (x % 65536).toNat

/-- The lead's BOND_SKEW follows the members' skews (R107): any beyond one line in either direction. -/
def Dev.skewSettle (d : Dev) (n : Nat) : Dev :=
  let beyond := (d.rxBond n).any (fun m =>
    let v := d.rd (.lane m) .LANE_FRMLINES_BOND_SKEW
    let s : Int := if v < 32768 then v else (v : Int) - 65536
    d.rd (.lane m) .LANE_FRMGEOM_LINE_LEN < s.natAbs)
  d.wrOn (.lane (d.rxLead n)) .LANE_FRMSTAT_BOND_SKEW (beyond && 1 < (d.rxBond n).length)

/-- Payload-ID bookkeeping at the end of a frame (R111). -/
def Dev.pidFrame (d : Dev) (n : Nat) : Dev :=
  let i := d.framer n
  if d.delivers n && d.on (.lane n) .LANE_FRMCFG_PID_CHECK then
    let run := if i.pidSeen then 0 else i.pidAbsent + 1
    let d := d.setFramer n { i with pidSeen := false, pidAbsent := run, pidBadPrev := i.pidBad, pidBad := false }
    if d.rd (.lane n) .LANE_FRM_X_PID_ABSENT_FRAMES ≤ run then d.wrOn (.lane n) .LANE_FRMSTAT_PID_ABSENT true else d
  else d

/-- Framer state 3 at a frame's end: the code the frame identifies starts the confirmation, or FMT_UNKNOWN stands (R104). -/
def Dev.frameNamed (d : Dev) (n : Nat) (code : Option Nat) : Dev :=
  match code with
  | some c =>
    let d := (d.setFrm n 4).wr (.lane n) .LANE_FRMSTAT_FMT c
    let d := d.setFramer n { d.framer n with lastFmt := c, departing := 0 }
    d.wrOn (.lane n) .LANE_FRMSTAT_FMT_UNKNOWN false
  | none => (d.wrOn (.lane n) .LANE_FRMSTAT_FMT_UNKNOWN true).setEvt (.lane n) 17

/-- What the framer has measured of the frame that ends: lines, scan and active words (R103). -/
def Dev.frameMeasured (d : Dev) (n : Nat) : Nat × Bool × Nat :=
  ((d.framer n).lineNo - 1, (d.framer n).fieldMoved, d.rd (.lane n) .LANE_FRMGEOM_ACTIVE)

/-- The frame departs from the locked format (R106). -/
def Dev.frameDeparts (d : Dev) (n : Nat) (m : Nat × Bool × Nat) : Bool :=
  match fmtOf (d.frmFmt n) with
  | some f => f.lines != m.1 || f.interlaced != m.2.1 || f.active != m.2.2
  | none => true

/-- Framer state 4 at a frame's end: the second departing frame in a row ends the lock (R106); LINE_SYNC is entered (R102). -/
def Dev.frameWatched (d : Dev) (n : Nat) (before : Nat) (departs : Bool) : Dev :=
  let d := d.pidFrame n
  if departs && 1 ≤ before then
    let d := ((d.setFrm n 3).setEvt (.lane n) 12).setEvt (.lane n) 15
    d.setFramer n { d.framer n with departing := 0 }
  else d.setFramer n { d.framer n with departing := if departs then 1 else 0 }

/-- The family lies within ±400 ppm of its nominal rate (R103). -/
def Dev.familyNear (d : Dev) (n : Nat) (offset : Int) : Bool := decide ((familyOffset (d.isSd n) offset).natAbs ≤ 4000)

/-- A frame's measurements show in FRMGEOM and FRMLINES (R103). -/
def Dev.frameShow (d : Dev) (n : Nat) (m : Nat × Bool × Nat) : Dev :=
  (d.wrOn (.lane n) .LANE_FRMGEOM_SCAN m.2.1).wr (.lane n) .LANE_FRMLINES_LINES m.1

/-- A complete frame has ended (R104 to R106). -/
def Dev.frameEnds (d : Dev) (n : Nat) (offset : Int) : Dev :=
  let i := d.framer n
  let m := d.frameMeasured n
  let code := identify (d.rxMode n) i.streams i.lineLen m.2.2 m.1 m.2.1 (nearFamily (d.isSd n) offset)
  let e := d.frameShow n m
  if d.frmState n == 3 then e.frameNamed n (if d.familyNear n offset then code else none)
  else e.frameWatched n i.departing (d.frameDeparts n m)

/-- A line 1 passes the framer, with the recovered clock's offset and the skew to the lead lane's line 1 (R103 to R107): the complete frame that
it ends is judged, and the next begins, in which the place of the SAV is learned again. -/
def Dev.frameComplete (d : Dev) (n : Nat) (offset skew : Int) : Dev :=
  if !((d.frmState n == 3 || d.frmState n == 4) && modeSdi (d.rd (.lane n) .LANE_RXCFG_MODE)) then d
  else
    let d := ((d.wr (.lane n) .LANE_FRMLINES_BOND_SKEW (field16 skew)).skewSettle n).showFreq n offset
    let d := if (d.framer n).inFrame then d.frameEnds n offset else d
    (d.setFramer n { d.framer n with
      inFrame := true, lineNo := 1, fieldMoved := false, savOff := none, family := nearFamily (d.isSd n) offset }).laneSettle n

/-- The word pairs of a tile's active line, from the line's data streams, by Table 6.3 (streams numbered from 0 here). -/
def tilePairs (mode fmt k : Nat) (streams : List (List Word10)) : List (Word10 × Word10) :=
  let s := fun i => streams.getD i []
  let zip := fun i => (s i).zip (s (i + 1))
  let phase := fun (q : Nat) (xs : List (Word10 × Word10)) =>
    (xs.zipIdx.filter (fun e => e.2 % 2 == q)).map (·.1)
  match mode with
  | 1 => ((s 0).zip ((s 0).drop 1)).zipIdx.filterMap (fun e => if e.2 % 2 == 0 then some e.1 else none)
  | 2 => zip 0
  | 3 => phase k (zip 0)
  | 4 => zip (2 * k)
  | 5 => zip 0
  | 6 => phase k (zip 0)
  | 7 => zip (2 * k)
  | 8 => if fmtFast fmt then phase (k % 2) (zip (2 * (k / 2))) else zip (2 * k)
  | _ => []

/-- The payload of up to eight word pairs (R117). -/
def pairsPayload : Nat → List (Word10 × Word10) → Payload
  | _, [] => 0
  | j, (a, b) :: xs =>
    (BitVec.ofNat 160 (a.toNat + b.toNat * 1024)) <<< (20 * j) ||| pairsPayload (j + 1) xs

/-- Cut a list into pieces of eight. -/
def chunks8 {α : Type} : Nat → List α → List (List α)
  | 0, _ => []
  | fuel + 1, xs => if xs.isEmpty then [] else xs.take 8 :: chunks8 fuel (xs.drop 8)

/-- The DATA bricks of a tile's line: LS on the first, LE on the last, FS with LS on line 1, CRCB on the LE brick of a CRC-bad
line (Table 6.1). -/
def lineBricks (first bad : Bool) (pairs : List (Word10 × Word10)) : List Brick :=
  let cs := chunks8 (pairs.length + 1) pairs
  cs.zipIdx.map (fun e =>
    let last := e.2 + 1 == cs.length
    ({ kind := .data, ls := e.2 == 0, le := last, fs := first && e.2 == 0, crcb := bad && last
       payload := pairsPayload 0 e.1 } : Brick).sealed)

/-- CR0 and CR1 of every stream check (R109): over the active words and the words of the EAV that ends the line, up to LN1. -/
def lineCrcBad (x : LineRx) : Bool :=
  x.active.zipIdx.any (fun e =>
    let y := x.next.getD e.2 []
    y.drop 6 != crcWords (e.1 ++ y.take 6))

/-- LN0 and LN1 of a stream differ from a line number (R109). -/
def lineLnBad (x : LineRx) (line : Nat) : Bool := x.eav.any (fun y => (y.drop 4).take 2 != lnWords line)

/-- F of the line's EAV (R103). -/
def lineField (x : LineRx) : Bool := ((x.eav.headD []).getD 3 0).getLsbD 8

/-- The format that an SD line belongs to, by its length. -/
def sdFmt (len : Nat) : Nat := if len == 1716 then 1 else 2

/-- The field CRCs of an SD lane go on over a line's words (R110): the full field begins after the EAV of its first line. -/
def FramerI.edhLine (i : FramerI) (x : LineRx) : FramerI :=
  let fmt := sdFmt i.lineLen
  let act := x.active.headD []
  let rest := x.space.headD [] ++ x.sav.headD [] ++ act
  let ap := edhStep (edhActive fmt i.lineNo) i.lineNo i.apRun i.apLast act act
  let ff := edhStep (edhFull fmt i.lineNo) i.lineNo i.ffRun i.ffLast rest (x.eav.headD [] ++ rest)
  { i with apRun := ap.1, apLast := ap.2, ffRun := ff.1, ffLast := ff.2 }

/-- The framer's own line count and its watch of F go on over a line (R103). -/
def FramerI.lineOver (i : FramerI) (x : LineRx) : FramerI :=
  { i with
    lineNo := if i.lineNo == 0 then 0 else i.lineNo + 1
    field := lineField x
    fieldMoved := i.fieldMoved || (1 < i.lineNo && lineField x != i.field) }

/-- A line of an SDI lane is framed (R109, R120): its CRCs and line numbers are checked, and its words are laid into tiles; `act` are its active
words without those that R122 keeps out. -/
def Dev.lineReceived (d : Dev) (n : Nat) (x : LineRx) (act : List (List Word10)) : Dev :=
  let mode := d.rxMode n
  if !((d.frmState n == 3 || d.frmState n == 4) && modeSdi (d.rd (.lane n) .LANE_RXCFG_MODE)) then d
  else
    let i := d.framer n
    let hd := 2 ≤ mode
    let bad := hd && lineCrcBad x
    let d := if bad then d.inc (.lane n) .LANE_LINEERR_COUNT else d
    let q := d.pmOf n
    let d := if hd then d.setPm n { q with units := q.units + 1, err := if bad then q.err + 1 else q.err } else d
    let d := if hd && d.on (.lane n) .LANE_FRMCFG_LN_CHECK && i.lineNo != 0 && lineLnBad x i.lineNo then d.inc (.lane n) .LANE_LNERR_LN_ERR else d
    let d := d.setFramer n ((if hd then i else i.edhLine x).lineOver x)
    (List.range (modeTiles mode)).foldl (fun e k =>
      if e.tileFramed (laneTile n k) then
        let bs := lineBricks (i.lineNo == 1) bad (tilePairs mode (e.frmFmt n) k act)
        (e.pushLine (laneTile n k) i.lineNo bs).bwAdd n (20 * bs.length)
      else e) d

/-- The CRCs that an EDH packet's user data words hold agree with those of the field before (R110): active picture in words 0 to 2, full field in
words 3 to 5; a CRC that the packet calls invalid is not compared. -/
def FramerI.edhAgrees (i : FramerI) (udw : List Word10) : Bool :=
  let same := fun (ws : List Word10) (c : BitVec 16) => match edhCrcOf ws with
    | some v => v == c
    | none => true
  same (udw.take 3) i.apLast && same ((udw.drop 3).take 3) i.ffLast

/-- An SD field ends: a unit of performance monitoring (Table 11.2); its CRCs are compared with the EDH packet of the following field (R110). -/
def Dev.edhCheck (d : Dev) (n : Nat) (packet : Option (List Word10)) : Dev :=
  let p := Page.lane n
  if !((d.frmState n == 3 || d.frmState n == 4) && d.rxMode n == 1) then d
  else
    let check := d.on p .LANE_FRMCFG_EDH_CHECK
    let bad := check && (match packet with
      | some udw => !((d.framer n).edhAgrees udw)
      | none => false)
    let d := if check then d.wrOn p .LANE_FRMSTAT_EDH_ABSENT packet.isNone else d
    let d := if bad then d.inc p .LANE_LINEERR_COUNT else d
    let q := d.pmOf n
    let d := d.setPm n { q with units := q.units + 1, err := if bad then q.err + 1 else q.err }
    d.setFramer n { d.framer n with fieldBad := bad }

/-- The payload bytes 1 to 4 of an ST 352 packet's words, from the DID to the checksum, byte 1 in bits [31:24]. -/
def pidBytes (ws : List Word10) : Word :=
  BitVec.ofNat 32 (((ws.drop 3).take 4).foldl (fun a w => a * 256 + w.toNat % 256) 0)

/-- A valid payload ID is compared with the format (R111). -/
def Dev.pidCompare (d : Dev) (n : Nat) (bytes : Word) : Dev :=
  let p := Page.lane n
  let i := d.framer n
  if Config.pidAgrees (d.rxMode n) (d.frmFmt n) bytes then
    (d.setFramer n { i with pidSeen := true, pidAbsent := 0, pidBad := false, pidBadPrev := false }).wrOn p .LANE_FRMSTAT_PID_MISMATCH false
  else
    let d := d.setFramer n { i with pidSeen := true, pidAbsent := 0, pidBad := true }
    if i.pidBadPrev then (d.wrOn p .LANE_FRMSTAT_PID_MISMATCH true).setEvt p 16 else d

/-- An ST 352 packet is read on a line, from its DID to its checksum (R107, R111). BOND_ORDER is set on the member that received it (DESIGN CHOICE,
log 109). -/
def Dev.pidReceived (d : Dev) (n : Nat) (stream2 : Bool) (line : Nat) (ws : List Word10) : Dev :=
  let p := Page.lane n
  if !(d.delivers n && modeSdi (d.rxMode n) && d.on p .LANE_FRMCFG_PID_CHECK && (!stream2 || d.rxMode n == 4) &&
      pidLine (d.frmFmt n) line) then d
  else if ws.length != 8 || ws.drop 7 != [checksumWord (ws.take 7)] then d.inc p .LANE_LNERR_PID_CSUM
  else
    let bytes := pidBytes ws
    let d := if stream2 then d.wr p .LANE_PID2_BYTES bytes.toNat else d.wr p .LANE_PID1_BYTES bytes.toNat
    let d := d.wrOn p .LANE_FRMSTAT_PID_ABSENT false
    let d := if 1 < (d.rxBond n).length then
        d.wrOn p .LANE_FRMSTAT_BOND_ORDER (Config.pidLink bytes != n - d.rxLead n) else d
    d.pidCompare n bytes

end Sys2Proof.Machine
end

