-- ==== Sys2Proof/Machine/Lane.lean ====
section
/-! DEFINITION. The physical layer of the lanes (R72 to R93): receiver states, AUTO detection, bonds, transmit synthesisers,
transmit states, lane routes and the test checker. -/

namespace Sys2Proof.Machine

/-- The mode code of a lane's TXCFG word. -/
def txWordMode (w : Word) : Nat := Fld.LANE_TXCFG_MODE.get w

/-- The clock source that a TXCFG word asks for (R74): none for OFF, MADI and ASI. -/
def txWordSrc (w : Word) : Option PllSrc :=
  match txWordMode w with
  | 0 => none
  | 9 => none
  | 10 => none
  | 11 => some (.dom (Fld.LANE_TXCFG_TDOM.get w))
  | _ =>
    if Fld.LANE_TXCFG_TIMING.get w == 1 then some (.follow (Fld.LANE_TXCFG_FOLLOW_LANE.get w))
    else some (.dom (Fld.LANE_TXCFG_TDOM.get w))

/-- TXCFG of an SDI lane. -/
def Dev.txcfg (d : Dev) (n : Nat) : Word := d.reg (regKey (.lane n) 0 0x024)

/-- RXCFG of an SDI lane. -/
def Dev.rxcfg (d : Dev) (n : Nat) : Word := d.reg (regKey (.lane n) 0 0x020)

/-- The lead lane of a lane's transmit bond: itself outside any bond. -/
def Dev.txLeadOf (d : Dev) (n : Nat) : Nat := ((d.lane n).txLead).getD n

/-- The lanes of the transmit bond of a lane (R79). -/
def Dev.txBond (d : Dev) (n : Nat) : List Nat :=
  (List.range (modeWidth (txWordMode (d.txcfg (d.txLeadOf n))))).map (d.txLeadOf n + ·)

/-- The clock source of a transmit lane (R75): the bond's, from its lead lane. -/
def Dev.txSrc (d : Dev) (n : Nat) : Option PllSrc := txWordSrc (d.txcfg (d.txLeadOf n))

/-- The synthesiser a lane holds: 0 PLL0, 1 PLL1, 2 AUX, 3 none (LSTAT.TX_SYNTH). -/
def Dev.txSynth (d : Dev) (n : Nat) : Nat := d.rd (.lane n) .LANE_LSTAT_TX_SYNTH

/-- A synthesiser's state, by key 2q + k. -/
def Dev.pll (d : Dev) (k : Nat) : PllI := Map.get (fun _ => {}) d.plls k
/-- Write a synthesiser's state. -/
def Dev.setPll (d : Dev) (k : Nat) (v : PllI) : Dev := { d with plls := Map.put (fun _ => {}) d.plls k v }

/-- The block is in a power state or reset that idles every lane (R87): PWR.STATE.CUR other than ACTIVE, or a DATA reset in progress. -/
def Dev.lanesIdle (d : Dev) : Bool := d.rd .pwr .PWR_STATE_CUR != 0 || d.resetRuns 2

/-- TX_STATE of an SDI lane (R87). -/
def Dev.txStateNow (d : Dev) (n : Nat) : Nat :=
  let m := txWordMode (d.txcfg n)
  if m == 0 || !(d.enabled (.lane n)) || d.lanesIdle then 0
  else if d.on (.lane n) .LANE_TXCFG_FORCE_IDLE then 3
  else if (d.lane n).txWait then 1
  else if m == 11 then 4 else 2

/-- TX_STATE of a Tile Link lane (R87, R93): its transmit clock is always there, but for the start after STANDBY. -/
def Dev.tllTxNow (d : Dev) (n : Nat) : Nat :=
  let m := d.rd (.tll n) .TLL_CFG_TXMODE
  if m == 0 || !(d.enabled (.tll n)) || d.lanesIdle then 0
  else if d.on (.tll n) .TLL_CFG_FORCE_IDLE then 3
  else if (d.lane (144 + n)).txWait then 1
  else if m == 2 then 4 else 2

/-- TX_STATE of a lane follows its configuration. -/
def Dev.txSettle (d : Dev) (l : Nat) : Dev :=
  if l < 144 then d.wr (.lane l) .LANE_LSTAT_TX_STATE (d.txStateNow l)
  else d.wr (rxPage l) .TLL_LSTAT_TX_STATE (d.tllTxNow (l - 144))

/-- The lane's transmitter waits for its synthesiser unless that is locked; AUX is always there (R76, R88). -/
def Dev.txRestart (d : Dev) (n : Nat) : Dev :=
  let k := d.txSynth n
  let wait := k < 2 && !(d.pll (2 * (n / 4) + k)).lock
  (d.setLane n { d.lane n with txWait := wait }).txSettle n

/-- The lanes of a quad. -/
def quadLanes (q : Nat) : List Nat := (List.range 4).map (4 * q + ·)

/-- A synthesiser that no lane of its quad uses stops (R76). -/
def Dev.pllStop (d : Dev) (q : Nat) : Dev :=
  [0, 1].foldl (fun e k => if (quadLanes q).any (fun n => e.txSynth n == k) then e else e.setPll (2 * q + k) {}) d

/-- The lanes of a quad that hold clock `k` leave WAIT_PLL; quads 36 to 39 are the Tile Link lanes, whose clock is their quad's own. -/
def Dev.txStart (d : Dev) (q k : Nat) : Dev :=
  if q < 36 then
    (quadLanes q).foldl (fun e n =>
      if e.txSynth n == k && (e.lane n).txWait then (e.setLane n { e.lane n with txWait := false }).txSettle n else e) d
  else
    (quadLanes q).foldl (fun e l =>
      if (e.lane l).txWait then (e.setLane l { e.lane l with txWait := false }).txSettle l else e) d

/-- On wake from STANDBY every transmit lane starts again in WAIT_PLL (R87): PLL0 and PLL1 are to lock again, and AUX and the Tile Link clocks to
start (DESIGN CHOICE, log 50). -/
def Dev.txWake (d : Dev) : Dev :=
  let d := { d with plls := Map.update (fun _ => {}) (fun _ p => { p with lock := false }) d.plls }
  (List.range 160).foldl (fun e l =>
    let used := if l < 144 then e.txSynth l != 3 else e.rd (rxPage l) .TLL_CFG_TXMODE != 0
    if used then (e.setLane l { e.lane l with txWait := true }).txSettle l else e) d

/-- A synthesiser is ready: a PLL0 or PLL1 locks (R76), a FOLLOW one only while the followed lane is LOCKED with an identified format
(R136), and one on a timing domain only while the domain has a format; AUX and the Tile Link clocks have no condition. -/
def Dev.synthLock (d : Dev) (q k : Nat) : Dev :=
  if 36 ≤ q || k == 2 then d.txStart q k else
  let p := d.pll (2 * q + k)
  let can := match p.src with
    | .stopped => false
    | .dom t => d.domFmt t != 0
    | .follow f => d.rxState f == 3 && d.frmFmt f != 0
  if p.lock || !can then d
  else
    (d.setPll (2 * q + k) { p with lock := true }).txStart q k

/-- Where R75 puts a lane of quad `q` that needs the source `s`, counting only the lanes outside `group` as users. -/
def Dev.synthFor (d : Dev) (q : Nat) (s : PllSrc) (group : List Nat) : Option Nat :=
  let users := fun k => (quadLanes q).any (fun n => !(group.contains n) && d.txSynth n == k)
  match [0, 1].find? (fun k => users k && (d.pll (2 * q + k)).src == s) with
  | some k => some k
  | none => [0, 1].find? (fun k => !(users k))

/-- The lanes that a TXCFG write to lane `n` with word `w` moves: the bond it leads and the bond it forms. -/
def Dev.txGroup (d : Dev) (n : Nat) (w : Word) : List Nat :=
  ((d.txBond n) ++ (List.range (modeWidth (txWordMode w))).map (n + ·)).eraseDups

/-- The synthesiser code a TXCFG write gives the lane; none where neither is free (R74, R75). -/
def Dev.txAssign (d : Dev) (n : Nat) (w : Word) : Option Nat :=
  match txWordSrc w with
  | none => some (if txWordMode w == 0 then 3 else 2)
  | some s =>
    if d.txSynth n < 2 && (d.pll (2 * (n / 4) + d.txSynth n)).src == s then some (d.txSynth n)
    else d.synthFor (n / 4) s (d.txGroup n w)

/-- The format codes a mode carries (Table 4.3). -/
def modeCarries (mode fmt : Nat) : Bool := (fmtModes fmt).contains mode

/-- What rejects a TXCFG write beyond its field ranges (R75, R79 to R81). -/
def Dev.txcfgRej (d : Dev) (n : Nat) (w : Word) : List Rej :=
  let m := txWordMode w
  let wd := modeWidth m
  let members := ((List.range wd).map (n + ·)).drop 1
  let f := Fld.LANE_TXCFG_FOLLOW_LANE.get w
  let free := m == 0 || m == 9 || m == 10
  let house := Fld.LANE_TXCFG_TIMING.get w == 0 || m == 11
  let fmt := d.domFmt (Fld.LANE_TXCFG_TDOM.get w)
  rejIf (n % wd != 0 || 12 ≤ m) .range ++
    rejIf ((d.lane n).txLead.isSome) .state ++
    rejIf (members.any (fun k => txWordMode (d.txcfg k) != 0 && (d.lane k).txLead != some n)) .state ++
    rejIf (!free && house && (fmt == 0 || (m != 11 && !(modeCarries m fmt)))) .state ++
    rejIf (!free && Fld.LANE_TXCFG_TIMING.get w == 1 &&
      (Fld.LANE_RXCFG_MODE.get (d.rxcfg f) != m || (1 < wd && (d.lane f).rxLead.isSome))) .state ++
    rejIf ((d.txAssign n w).isNone) .state

/-- The receive lane a word's lane route sends on member `i`; none for a HOUSE lane (R135). -/
def txWordRoute (w : Word) (i : Nat) : Option Nat :=
  match txWordSrc w with
  | some (.follow f) => some (f + i)
  | _ => none

/-- An accepted TXCFG write; `old` is the word before (R75, R76, R79, R88, R137). -/
def Dev.txcfgApply (d0 : Dev) (n : Nat) (old w : Word) : Dev :=
  let before := d0.setReg (regKey (.lane n) 0 0x024) old
  let group := before.txGroup n w
  let wd := modeWidth (txWordMode w)
  let code := (before.txAssign n w).getD 3
  let q := n / 4
  let same := txWordMode old == txWordMode w && Fld.LANE_TXCFG_TIMING.get old == Fld.LANE_TXCFG_TIMING.get w &&
    Fld.LANE_TXCFG_TDOM.get old == Fld.LANE_TXCFG_TDOM.get w &&
    Fld.LANE_TXCFG_FOLLOW_LANE.get old == Fld.LANE_TXCFG_FOLLOW_LANE.get w
  let keepSrc := (before.pll (2 * q + code)).src == (txWordSrc w).getD .stopped
  let follows := match txWordSrc old, txWordSrc w with
    | some (.follow _), some (.follow _) => txWordMode old == txWordMode w
    | _, _ => false
  let retarget := follows && before.rd (.lane n) .LANE_LSTAT_TX_STATE == 2
  let kept := retarget && code == before.txSynth n
  if same then d0.txSettle n
  else
    let d := group.foldl (fun e m =>
      let i := m - n
      let inBond := i < wd
      let e := if m == n then e else e.wr (.lane m) .LANE_TXCFG_MODE (if inBond then txWordMode w else 0)
      let e := e.wr (.lane m) .LANE_LSTAT_TX_SYNTH (if inBond then code else 3)
      let x := e.lane m
      let rt := txWordRoute w i
      e.setLane m { x with
        txLead := if inBond && m != n then some n else none
        txAuto := if inBond && retarget then x.txAuto else 0
        route := if !inBond then none else if retarget then x.route else rt
        routeNext := if inBond && retarget then rt else none }) d0
    let d := if code < 2 then
        d.setPll (2 * q + code) { src := (txWordSrc w).getD .stopped, lock := (keepSrc || kept) && (before.pll (2 * q + code)).lock }
      else d
    let d := d.pllStop q
    group.foldl (fun e m => if m < n + wd && kept then e.txSettle m else e.txRestart m) d

/-- The receive lane that a FOLLOW transmitter now sends: the one it is to send next governs from its first EAV on (R137). -/
def Dev.followNow (d : Dev) (n : Nat) : Option Nat :=
  match d.txSrc n with
  | some (.follow f) => some (((d.lane (d.txLeadOf n)).route).getD f)
  | _ => none

/-- The receive lane whose lines transmit lane `n` of a FOLLOW bond now sends: members follow in order (R81, R135). -/
def Dev.followLane (d : Dev) (n : Nat) : Option Nat := (d.followNow n).map (fun f => f + (n - d.txLeadOf n))

/-- The transmit mode in force (R81): a FOLLOW lane of an AUTO receiver takes the detected mode, and keeps its last. -/
def Dev.txModeNow (d : Dev) (n : Nat) : Nat :=
  let own := txWordMode (d.txcfg n)
  match d.followNow n with
  | some f => if d.on (.lane f) .LANE_RXCFG_AUTO && (d.lane n).txAuto != 0 then (d.lane n).txAuto else own
  | none => own

/-- The SDI lanes that transmit, by their TXCFG registers. -/
def Dev.txLanes (d : Dev) : List Nat :=
  d.regs.filterMap (fun e =>
    if 0x100000 ≤ e.1 && e.1 < 0x190000 && e.1 % 0x1000 == 0x024 && txWordMode e.2 != 0 then
      some ((e.1 - 0x100000) / 0x1000)
    else none)

/-- The FOLLOW lanes of an AUTO receiver take its detected mode, and those of another receiver hold none (R81). -/
def Dev.followSettle (d : Dev) (f : Nat) : Dev :=
  if d.on (.lane f) .LANE_RXCFG_AUTO && d.on (.lane f) .LANE_DETSTAT_DET_VALID then
    (d.txLanes.filter (fun n => d.followNow n == some f)).foldl (fun e n =>
      e.setLane n { e.lane n with txAuto := d.rd (.lane f) .LANE_DETSTAT_DET_MODE }) d
  else if d.on (.lane f) .LANE_RXCFG_AUTO then d
  else
    (d.txLanes.filter (fun n => d.followNow n == some f)).foldl (fun e n => e.setLane n { e.lane n with txAuto := 0 }) d

/-- The followed lane of a transmit lane, whose detected mode it takes at once (R81). -/
def Dev.followTake (d : Dev) (n : Nat) : Dev :=
  match d.followNow n with
  | some f => d.followSettle f
  | none => d

/-- The first EAV of the new input has come (R137): the lane route sends it. -/
def Dev.routeSwitch (d : Dev) (n : Nat) : Dev :=
  match (d.lane n).routeNext with
  | some f => (d.setLane n { d.lane n with route := some f, routeNext := none, txAuto := 0 }).followTake n
  | none => d

/-! ### Receivers -/

/-- The receive direction of a lane is configured and enabled: MODE other than OFF, ENABLE 1, no STANDBY (Table 4.4). -/
def Dev.rxRuns (d : Dev) (l : Nat) : Bool :=
  d.enabled (rxPage l) && !d.lanesIdle &&
    (if l < 144 then d.rd (.lane l) .LANE_RXCFG_MODE else d.rd (rxPage l) .TLL_CFG_RXMODE) != 0

/-- LANE and TLL events 8 to 11 have the same places. -/
def Dev.rxEvt (d : Dev) (l b : Nat) : Dev := d.setEvt (rxPage l) b

/-- Write RX_STATE; RXFREQ reads 0 outside LOCKED. -/
def Dev.setRx (d : Dev) (l s : Nat) : Dev :=
  let d := d.rxWr l .LANE_LSTAT_RX_STATE .TLL_LSTAT_RX_STATE s
  if s == 3 then d else d.rxWr l .LANE_RXFREQ_OFFSET .TLL_RXFREQ_OFFSET 0

/-- LOS of a receive lane. -/
def Dev.los (d : Dev) (l : Nat) : Bool := d.rxRd l .LANE_LSTAT_LOS .TLL_LSTAT_LOS == 1
/-- LOL of a receive lane. -/
def Dev.lol (d : Dev) (l : Nat) : Bool := d.rxRd l .LANE_LSTAT_LOL .TLL_LSTAT_LOL == 1

/-- The lane runs with AUTO = 1. -/
def Dev.isAuto (d : Dev) (l : Nat) : Bool := l < 144 && d.on (.lane l) .LANE_RXCFG_AUTO

/-- The checker stops and forgets its run. -/
def Dev.checkerOff (d : Dev) (l : Nat) : Dev :=
  (d.setLane l { d.lane l with chk := {} }).rxWr l .LANE_LSTAT_CHK_LOCK .TLL_LSTAT_CHK_LOCK 0

/-- The lane is to run in state TEST (Table 4.4): MODE = TEST and TESTCFG.RX_ENABLE = 1. -/
def Dev.rxTest (d : Dev) (l : Nat) : Bool :=
  l < 144 && d.rd (.lane l) .LANE_RXCFG_MODE == 11 && d.on (.lane l) .LANE_TESTCFG_RX_ENABLE

/-- The receiver stops or starts anew (R85, R88, R89): OFF, or NO_SIGNAL with LOS set and LOL and its timers cleared, from which a lane that
is to run in state TEST leaves as LOS clears (DEDUCED, log 110); an AUTO hunt begins with its first candidate (R83). -/
def Dev.rxRestart (d : Dev) (l : Nat) : Dev :=
  let d := (d.setLane l { d.lane l with cdrHeld := false, cand := 0 }).checkerOff l
  let d := if l < 144 then d.wrOn (.lane l) .LANE_DETSTAT_DET_VALID false else d
  let d :=
    if !(d.rxRuns l) then d.setRx l 0
    else
      let d := d.setRx l 1
      let rise := !(d.los l)
      let d := (d.rxWr l .LANE_LSTAT_LOS .TLL_LSTAT_LOS 1).rxWr l .LANE_LSTAT_LOL .TLL_LSTAT_LOL 0
      if rise then d.rxEvt l 8 else d
  let d := if d.rxState l == 0 then d.setPm l { d.pmOf l with lofRaw := false } else d
  d.framerSettle l

/-- LOS is set (R86): the receiver enters NO_SIGNAL; a lane in TEST stays there. -/
def Dev.losSet (d : Dev) (l : Nat) : Dev :=
  if d.rxState l == 0 || d.los l then d
  else
    let e := (d.rxWr l .LANE_LSTAT_LOS .TLL_LSTAT_LOS 1).rxWr l .LANE_LSTAT_LOL .TLL_LSTAT_LOL 0
    let e := (e.setLane l { e.lane l with cdrHeld := false }).rxEvt l 8
    (if d.rxState l == 5 then e else (if d.isAuto l then e.detLost l else e).setRx l 1).framerSettle l

/-- LOS clears (R86): the receiver enters ACQUIRE, HUNT under AUTO, or TEST. -/
def Dev.losClear (d : Dev) (l : Nat) : Dev :=
  if d.rxState l == 0 || !(d.los l) then d
  else
    let e := (d.rxWr l .LANE_LSTAT_LOS .TLL_LSTAT_LOS 0).rxEvt l 9
    (if d.rxState l == 1 then e.setRx l (if d.rxTest l then 5 else if d.isAuto l then 4 else 2) else e).framerSettle l

/-- LOL is set (R86): not evaluated while LOS is set; a LOCKED receiver goes to ACQUIRE, or to HUNT under AUTO (R84). -/
def Dev.lolSet (d : Dev) (l : Nat) : Dev :=
  if d.rxState l == 0 || d.los l then d
  else
    let e := (d.rxWr l .LANE_LSTAT_LOL .TLL_LSTAT_LOL 1).setLane l { d.lane l with cdrHeld := false }
    (if d.rxState l != 3 then e else if d.isAuto l then (e.detLost l).setRx l 4 else e.setRx l 2).framerSettle l

/-- The CDR has held lock for 64 µs (R85, R86): LOL clears, and ACQUIRE goes to LOCKED. -/
def Dev.cdrLock (d : Dev) (l : Nat) : Dev :=
  if d.rxState l == 0 || d.los l then d
  else
    let e := (d.rxWr l .LANE_LSTAT_LOL .TLL_LSTAT_LOL 0).setLane l { d.lane l with cdrHeld := true }
    (if d.rxState l == 2 then e.setRx l 3 else e).framerSettle l

/-- LOL has persisted for 200 µs in ACQUIRE: the CDR starts its count anew (Table 4.4). -/
def Dev.cdrRestart (d : Dev) (l : Nat) : Dev :=
  if d.rxState l == 2 && d.lol l then d.setLane l { d.lane l with cdrHeld := false } else d

/-- The AUTO hunt goes on to its next candidate rate (R83); the framer keeps its candidates, which leave only under R98 and R99. -/
def Dev.autoNext (d : Dev) (n : Nat) : Dev :=
  if d.rxState n == 4 then d.setLane n { d.lane n with cand := ((d.lane n).cand + 1) % 5, cdrHeld := false } else d

/-- A framer that stood in sync hunts again, as the lane's AUTO receiver does; its candidates stay (R98; DESIGN CHOICE, log 111). -/
def Dev.framerHunt (d : Dev) (n : Nat) : Dev :=
  let d := if 1 < d.frmState n then (d.setFrm n 1).wr (.lane n) .LANE_FRMSTAT_STREAMS 0 else d
  (d.setFramer n { d.framer n with missing := 0, inFrame := false, lineNo := 0, departing := 0, verify := none }).framerSettle n

/-- The lanes that an RXCFG write to lane `n` moves. -/
def Dev.rxGroup (d : Dev) (n mode : Nat) : List Nat :=
  let own := if (d.lane n).rxLead.isSome then [n] else d.rxBond n
  (own ++ (List.range (modeWidth mode)).map (n + ·)).eraseDups

/-- A lane belongs to a member of an enabled protection group (R255). -/
def Dev.protLocks (d : Dev) (l : Nat) : Bool :=
  d.groups.any (fun e =>
    e.2.enabled && d.pg e.1 .PROT_PG_CFG_KIND == 0 &&
      ((d.memberLanes 0 (d.pg e.1 .PROT_PG_CFG_W_LEAD)).contains l || (d.memberLanes 0 (d.pg e.1 .PROT_PG_CFG_P_LEAD)).contains l))

/-- What rejects an RXCFG write beyond its field ranges (R78, R79, R83, R255). -/
def Dev.rxcfgRej (d : Dev) (n : Nat) (w : Word) : List Rej :=
  let m := Fld.LANE_RXCFG_MODE.get w
  let wd := modeWidth m
  let members := ((List.range wd).map (n + ·)).drop 1
  let auto := Fld.LANE_RXCFG_AUTO.get w == 1
  let changes := m != Fld.LANE_RXCFG_MODE.get (d.rxcfg n)
  rejIf (n % wd != 0 || 12 ≤ m || (auto && !([1, 2, 3, 4, 7, 8].contains m))) .range ++
    rejIf (d.lane n).rxLead.isSome .state ++
    rejIf ((d.lane n).rxLead.isNone &&
      members.any (fun k => Fld.LANE_RXCFG_MODE.get (d.rxcfg k) != 0 && (d.lane k).rxLead != some n)) .state ++
    rejIf ((changes || auto != d.on (.lane n) .LANE_RXCFG_AUTO) && d.protLocks n) .state

/-- An accepted RXCFG write; `old` is the word before (R79, R83, R84, R88). -/
def Dev.rxcfgApply (d0 : Dev) (n : Nat) (old w : Word) : Dev :=
  let m := Fld.LANE_RXCFG_MODE.get w
  let wd := modeWidth m
  let group := (d0.setReg (regKey (.lane n) 0 0x020) old).rxGroup n m
  let d := d0.wr (.lane n) .LANE_DETSTAT_DET_CHANGES 0
  let d := d.setLane n { d.lane n with prevDet := none }
  if m != Fld.LANE_RXCFG_MODE.get old then
    let d := d.setLane n { d.lane n with cand := 0, lastRate := 0 }
    let d := group.foldl (fun e k =>
      let inBond := k < n + wd
      let e := if k == n then e else e.wr (.lane k) .LANE_RXCFG_MODE (if inBond then m else 0)
      e.setLane k { e.lane k with rxLead := if inBond && k != n then some n else none }) d
    let d := d.wrOn (.lane n) .LANE_FRMSTAT_BOND_SKEW false
    group.foldl (fun e k => e.rxRestart k) d
  else
    let was := Fld.LANE_RXCFG_AUTO.get old == 1
    let now := Fld.LANE_RXCFG_AUTO.get w == 1
    if was == now then d
    else if now then
      let d := d.setLane n { d.lane n with cand := 0, lastRate := 0 }
      if d.rxState n == 2 || d.rxState n == 3 then (d.setRx n 4).framerHunt n else d
    else
      let d := d.wrOn (.lane n) .LANE_DETSTAT_DET_VALID false
      if d.rxState n == 4 then (d.setRx n 2).framerSettle n else d

/-- PAGE_CTRL.ENABLE of a LANE or TLL page changes (R89). -/
def Dev.laneEnable (d : Dev) (l : Nat) : Dev :=
  let d := if l < 144 then d.txRestart l else d.txSettle l
  d.rxRestart l

/-- A write of TESTCFG: RX_ENABLE takes a lane of mode TEST into state TEST (Table 4.4); off, the checker stops. -/
def Dev.testcfgApply (d : Dev) (l : Nat) : Dev :=
  let on := d.rxRd l .LANE_TESTCFG_RX_ENABLE .TLL_TESTCFG_RX_ENABLE == 1
  let d := if on then d else d.checkerOff l
  if d.rxTest l && d.rxState l != 0 && d.rxState l != 5 then
    (d.setRx l 5).framerSettle l
  else d

/-- The lane's generator sends its pattern (R90, R93): TX_STATE TEST with TX_ENABLE. -/
def Dev.testSends (d : Dev) (l : Nat) : Bool :=
  d.rxRd l .LANE_LSTAT_TX_STATE .TLL_LSTAT_TX_STATE == 4 && d.rxRd l .LANE_TESTCFG_TX_ENABLE .TLL_TESTCFG_TX_ENABLE == 1

/-- TESTCTL commands (R91): CNT_CLR, then INJECT, which inverts the next bit of the pattern that the lane sends; with no pattern being sent no
transmitted bit is there to invert (DEDUCED, log 112). -/
def Dev.testctlApply (d : Dev) (l : Nat) (v : Word) : Dev :=
  let d := if Fld.LANE_TESTCTL_CNT_CLR.get v == 1 then d.rxWr l .LANE_TESTCNT_COUNT .TLL_TESTCNT_COUNT 0 else d
  if Fld.LANE_TESTCTL_INJECT.get v == 1 && d.testSends l then
    let i := d.lane l
    d.setLane l { i with gen := { i.gen with invert := i.gen.invert + 1 } }
  else d

/-- The checker runs: mode TEST with RX_ENABLE (R90, R93). -/
def Dev.checking (d : Dev) (l : Nat) : Bool :=
  if l < 144 then d.rxState l == 5 && d.on (.lane l) .LANE_TESTCFG_RX_ENABLE
  else d.rd (rxPage l) .TLL_CFG_RXMODE == 2 && d.rxState l == 3 && d.on (rxPage l) .TLL_TESTCFG_RX_ENABLE

/-- TESTCFG.PATTERN of a lane (R90). -/
def Dev.testPattern (d : Dev) (l : Nat) : Nat := d.rxRd l .LANE_TESTCFG_PATTERN .TLL_TESTCFG_PATTERN

/-- The correct units in a row that lock the checker (R91). -/
def Dev.checkNeed (d : Dev) (l : Nat) : Nat :=
  if d.rxRd l .LANE_TESTCFG_PATTERN .TLL_TESTCFG_PATTERN < 3 then 64 else 8

/-- One bit of the pattern as it is sent (R90), one of those that wait inverted where any does (R91). -/
def TestTxI.sendBit (i : TestTxI) (pattern : Nat) : TestTxI × Bool :=
  let flip := i.invert != 0
  if pattern < 3 then
    let b := prbsNext pattern i.reg
    ({ i with reg := shiftIn i.reg b, invert := i.invert - 1 }, b != flip)
  else
    let x := i.code.send ((pairBits pattern).getD (i.place % 20) false)
    ({ i with code := x.1, place := (i.place + 1) % 20, invert := i.invert - 1 }, x.2 != flip)

/-- A stretch of the pattern as it is sent. -/
def TestTxI.sendBits (pattern : Nat) : Nat → TestTxI → TestTxI × List Bool
  | 0, i => (i, [])
  | n + 1, i =>
    let x := i.sendBit pattern
    let y := sendBits pattern n x.1
    (y.1, x.2 :: y.2)

/-- The lane's transmitter sends for `n` bit times in mode TEST: the levels at its balls. -/
def Dev.testSend (d : Dev) (l n : Nat) : Dev :=
  let i := d.lane l
  if d.testSends l then
    let x := TestTxI.sendBits (d.testPattern l) n i.gen
    d.setLane l { i with gen := { x.1 with sent := polarity (d.rxRd l .LANE_TXCFG_POL_INV .TLL_CFG_TX_POL_INV == 1) x.2 } }
  else d.setLane l { i with gen := { i.gen with sent := [] } }

/-- One level at the checker: its unit, a bit or a whole word pair, where one is complete, as correct or not (R91). Out of lock a PRBS is predicted from the
bits received, and in lock from the prediction itself; a word pair is looked for at every bit until one is found (DEDUCED, log 113). -/
def TestRxI.receiveBit (i : TestRxI) (pattern : Nat) (locked b : Bool) : TestRxI × Option Bool :=
  if pattern < 3 then
    let p := prbsNext pattern i.reg
    ({ i with reg := shiftIn i.reg (if locked then p else b) }, some (p == b && !(prbsDead pattern i.reg)))
  else
    let x := i.code.receive b
    let bits := i.bits ++ [x.2]
    let bits := bits.drop (bits.length - 20)
    let ok := bits == pairBits pattern
    if bits.length == 20 && (ok || locked) then ({ i with code := x.1, bits := [] }, some ok)
    else if bits.length == 20 && i.run != 0 then ({ i with code := x.1, bits := bits }, some false)
    else ({ i with code := x.1, bits := bits }, none)

/-- One unit at the checker, a bit or a word pair: correct or not (R91). -/
def Dev.checkUnit (d : Dev) (l : Nat) (ok : Bool) : Dev :=
  let i := d.lane l
  let x := i.chk
  if d.rxRd l .LANE_LSTAT_CHK_LOCK .TLL_LSTAT_CHK_LOCK == 0 then
    let run := if ok then x.run + 1 else 0
    if d.checkNeed l ≤ run then
      (d.setLane l { i with chk := { x with run := 0, last := [] } }).rxWr l .LANE_LSTAT_CHK_LOCK .TLL_LSTAT_CHK_LOCK 1
    else d.setLane l { i with chk := { x with run := run } }
  else
    let d := if ok then d else d.rxAdd l .LANE_TESTCNT_COUNT .TLL_TESTCNT_COUNT 1
    let last := (ok :: x.last).take 64
    if 32 ≤ (last.filter (fun b => !b)).length then
      ((d.setLane l { i with chk := { x with run := 0, last := [] } }).rxWr l .LANE_LSTAT_CHK_LOCK .TLL_LSTAT_CHK_LOCK 0).rxEvt l 11
    else d.setLane l { i with chk := { x with last := last } }

/-- One level at the checker of a lane. -/
def Dev.checkBit (d : Dev) (l : Nat) (b : Bool) : Dev :=
  let i := d.lane l
  let x := i.chk.receiveBit (d.testPattern l) (d.rxRd l .LANE_LSTAT_CHK_LOCK .TLL_LSTAT_CHK_LOCK == 1) b
  let d := d.setLane l { i with chk := x.1 }
  match x.2 with
  | some ok => d.checkUnit l ok
  | none => d

/-- Levels at the receive balls of a lane in mode TEST, oldest first, and as many bit times of its own transmitter (R90, R91): with NEAR_END the receiver
takes what its transmitter sends in their place (R92). -/
def Dev.checkLevels (d : Dev) (l : Nat) (levels : List Bool) : Dev :=
  let d := d.testSend l levels.length
  let near := d.rxRd l .LANE_LOOPBACK_X_NEAR_END .TLL_LOOPBACK_X_NEAR_END == 1
  let got := if near then (d.lane l).gen.sent else levels
  if d.checking l then
    (polarity (d.rxRd l .LANE_RXCFG_POL_INV .TLL_CFG_RX_POL_INV == 1) got).foldl (fun e b => e.checkBit l b) d
  else d

/-- A write of TLL.CFG; `old` is the word before (R88, R93). -/
def Dev.tllCfgApply (d : Dev) (n : Nat) (old w : Word) : Dev :=
  let d := d.txSettle (144 + n)
  if Fld.TLL_CFG_RXMODE.get old != Fld.TLL_CFG_RXMODE.get w then d.rxRestart (144 + n) else d

/-- What rejects a write of LOOPBACK_X (R92): NEAR_END outside mode TEST. -/
def Dev.loopbackRej (d : Dev) (l : Nat) (v : Word) : List Rej :=
  let test := if l < 144 then d.rd (.lane l) .LANE_RXCFG_MODE == 11 && d.rd (.lane l) .LANE_TXCFG_MODE == 11
    else d.rd (rxPage l) .TLL_CFG_RXMODE == 2 && d.rd (rxPage l) .TLL_CFG_TXMODE == 2
  rejIf (Fld.LANE_LOOPBACK_X_NEAR_END.get v == 1 && !test) .state

/-- What rejects a write of TXFFE_X or LOS_X: the taps together above 63, or the clear level less than 10 above the set level. -/
def txffeRej (v : Word) : List Rej :=
  rejIf (63 < Fld.LANE_TXFFE_X_PRE.get v + Fld.LANE_TXFFE_X_MAIN.get v + Fld.LANE_TXFFE_X_POST.get v) .range
/-- See `txffeRej`. -/
def losxRej (v : Word) : List Rej :=
  rejIf (Fld.LANE_LOS_X_CLR_LEVEL.get v < Fld.LANE_LOS_X_SET_LEVEL.get v + 10) .range

/-- The LOF timer of a lane (Table 11.1): 100 ms without, or with, the delivering state. -/
def Dev.lofTimer (d : Dev) (l : Nat) : Dev :=
  let run := d.rxState l == 3 || d.rxState l == 4
  let d := if d.delivers l then d.setPm l { d.pmOf l with lofRaw := false }
    else if run then d.setPm l { d.pmOf l with lofRaw := true } else d
  (d.defSettle l).protSettle

end Sys2Proof.Machine
end

