-- ==== Sys2Proof/Machine/Fabric.lean ====
section
/-! DEFINITION. Connection contexts and takes (R175 to R193, R205, R206): output and source bonds and domains, the context windows,
take groups, triggers and commits. -/

namespace Sys2Proof.Machine

/-! ### Walls as the contexts see them -/

/-- WALL.CLAIM.EFF of a wall. -/
def Dev.wallEff (d : Dev) (w : Nat) : Nat := d.rd (.wall w) .WALL_CLAIM_EFF

/-- The walls that receive context writes and commits: those with a claim (R182). -/
def Dev.liveWalls (d : Dev) : List Nat := [0, 1].filter (fun w => 0 < d.wallEff w)

/-- The wall whose copy a read returns (R183). -/
def Dev.readWall (d : Dev) : Nat :=
  if d.wallEff 1 < d.wallEff 0 then 0
  else if d.wallEff 0 < d.wallEff 1 then 1
  else if 0 < d.wallEff 0 then 0
  else d.rd .cgate .CGATE_STAT_ACCEPTED

/-- The wall that the gates accept; none while both claims are 0 (R318). -/
def Dev.acceptedWall (d : Dev) : Option Nat :=
  if d.liveWalls.isEmpty then none else some (d.rd .cgate .CGATE_STAT_ACCEPTED)

/-- An output tile's context. -/
def Dev.tc (d : Dev) (t : Nat) : TileCtx := Map.get (fun _ => {}) d.tctx t
/-- Write an output tile's context. -/
def Dev.setTc (d : Dev) (t : Nat) (v : TileCtx) : Dev := { d with tctx := Map.put (fun _ => {}) d.tctx t v }
/-- An ancillary context, by 2 × tile + kind. -/
def Dev.ac (d : Dev) (i : Nat) : AncCtx := Map.get (fun _ => {}) d.actx i
/-- Write an ancillary context. -/
def Dev.setAc (d : Dev) (i : Nat) (v : AncCtx) : Dev := { d with actx := Map.put (fun _ => {}) d.actx i v }
/-- An audio context, by output slot. -/
def Dev.uc (d : Dev) (s : Nat) : AudCtx := Map.get (fun _ => {}) d.uctx s
/-- Write an audio context. -/
def Dev.setUc (d : Dev) (s : Nat) (v : AudCtx) : Dev := { d with uctx := Map.put (fun _ => {}) d.uctx s v }
/-- An output slot's state beyond its context. -/
def Dev.slot (d : Dev) (s : Nat) : SlotI := Map.get (fun _ => {}) d.slots s
/-- Write it. -/
def Dev.setSlot (d : Dev) (s : Nat) (v : SlotI) : Dev := { d with slots := Map.put (fun _ => {}) d.slots s v }

/-- The shadow copy of a wall. -/
def TileCtx.sh (c : TileCtx) (w : Nat) : Word := if w == 0 then c.shA else c.shB
/-- The active copy of a wall. -/
def TileCtx.ac (c : TileCtx) (w : Nat) : Word := if w == 0 then c.acA else c.acB
/-- Write the shadow copy of a wall. -/
def TileCtx.putSh (c : TileCtx) (w : Nat) (v : Word) : TileCtx := if w == 0 then { c with shA := v } else { c with shB := v }
/-- Commit in a wall: the shadow copy becomes the active one. -/
def TileCtx.commit (c : TileCtx) (w : Nat) : TileCtx := if w == 0 then { c with acA := c.shA } else { c with acB := c.shB }

/-- The group that a wall holds (R326: group membership is part of its connection memory). -/
def TileCtx.gr (c : TileCtx) (w : Nat) : Nat := if w == 0 then c.grA else c.grB
/-- Write the group of a wall. -/
def TileCtx.putGr (c : TileCtx) (w g : Nat) : TileCtx := if w == 0 then { c with grA := g } else { c with grB := g }

/-- The shadow copy of a wall. -/
def AncCtx.sh (c : AncCtx) (w : Nat) : Word := if w == 0 then c.shA else c.shB
/-- The active copy of a wall. -/
def AncCtx.ac (c : AncCtx) (w : Nat) : Word := if w == 0 then c.acA else c.acB
/-- Write the shadow copy of a wall. -/
def AncCtx.putSh (c : AncCtx) (w : Nat) (v : Word) : AncCtx := if w == 0 then { c with shA := v } else { c with shB := v }
/-- Commit in a wall. -/
def AncCtx.commit (c : AncCtx) (w : Nat) : AncCtx := if w == 0 then { c with acA := c.shA } else { c with acB := c.shB }

/-- The shadow copy of a wall. -/
def AudCtx.sh (c : AudCtx) (w : Nat) : Word := if w == 0 then c.shA else c.shB
/-- The active copy of a wall. -/
def AudCtx.ac (c : AudCtx) (w : Nat) : Word := if w == 0 then c.acA else c.acB
/-- Write the shadow copy of a wall. -/
def AudCtx.putSh (c : AudCtx) (w : Nat) (v : Word) : AudCtx := if w == 0 then { c with shA := v } else { c with shB := v }
/-- Write the active copy of a wall. -/
def AudCtx.putAc (c : AudCtx) (w : Nat) (v : Word) : AudCtx := if w == 0 then { c with acA := v } else { c with acB := v }

/-- The group that a wall holds. -/
def AudCtx.gr (c : AudCtx) (w : Nat) : Nat := if w == 0 then c.grA else c.grB
/-- Write the group of a wall. -/
def AudCtx.putGr (c : AudCtx) (w g : Nat) : AudCtx := if w == 0 then { c with grA := g } else { c with grB := g }

/-- GROUP of an output tile's own context. -/
def Dev.tcGroup (d : Dev) (t : Nat) : Nat := (d.tc t).gr d.readWall
/-- GROUP of an audio context. -/
def Dev.ucGroup (d : Dev) (s : Nat) : Nat := (d.uc s).gr d.readWall

/-- ACTION of a tile context word: 1 BLACK (Table 8.1). -/
def cxAction (w : Word) : Nat := w.toNat / 2 ^ 31
/-- VOID_ACT. -/
def cxVoid (w : Word) : Nat := w.toNat / 2 ^ 26 % 4
/-- TDOM. -/
def cxTdom (w : Word) : Nat := w.toNat / 2 ^ 20 % 16
/-- SRC_TILE. -/
def cxSrc (w : Word) : Nat := w.toNat % 2048

/-! ### Outputs (R175, R176) -/

/-- The lane of an output tile. -/
def outLane (t : Nat) : Nat := if t < 1152 then t / 8 else (t - 1152) / 16

/-- A field of the transmit slot of a Tile Link output tile, as in force: bank 1 of TXSLOT holds what the last frame start took from the
register (R244). -/
def Dev.txSlot (d : Dev) (t : Nat) (f : Fld) : Nat := d.rdB (.tll (outLane t)) 1 (f.nth (tilePos t))

/-- An SDI transmit lane follows a receive lane. -/
def Dev.isFollow (d : Dev) (n : Nat) : Bool :=
  match d.txSrc n with
  | some (.follow _) => true
  | _ => false

/-- The format an SDI output lane sends: its domain's, or on a FOLLOW lane the last that the framer of the lane it sends identified (R136,
R137). -/
def Dev.outFmt (d : Dev) (n : Nat) : Nat :=
  match d.txSrc n with
  | some (.dom k) => d.domFmt k
  | some (.follow f) => (d.framer ((d.followNow n).getD f)).lastFmt
  | _ => 0

/-- The lead, member number and pattern of an output tile's bond; a tile with no bond leads itself with pattern 0. -/
def Dev.outBond (d : Dev) (t : Nat) : Nat × Nat × Nat :=
  if t < 1152 then
    let n := t / 8
    let mode := d.txModeNow n
    let ts := bondTiles mode (d.txLeadOf n) (t % 8)
    match ts.findIdx? (· == t) with
    | some m => (ts.headD t, m, patternOf mode (d.outFmt n))
    | none => (t, 0, 0)
  else if t < 1408 then
    let ty := d.txSlot t .TLL_TXSLOT_TYPE
    if ty == 1 then (t - d.txSlot t .TLL_TXSLOT_MEMBER, d.txSlot t .TLL_TXSLOT_MEMBER, d.txSlot t .TLL_TXSLOT_PATTERN)
    else (t, 0, if ty == 3 then 8 else 0)
  else (t, 0, 0)

/-- The lead of an output tile's bond. -/
def Dev.outLead (d : Dev) (t : Nat) : Nat := (d.outBond t).1

/-- A non-lead member (R178). -/
def Dev.outMember (d : Dev) (t : Nat) : Bool := (d.outBond t).2.1 != 0

/-- The members of the output bond that a tile leads. -/
def Dev.outMembers (d : Dev) (t : Nat) : List Nat :=
  if t < 1152 then
    match bondTiles (d.txModeNow (t / 8)) (d.txLeadOf (t / 8)) (t % 8) with
    | [] => [t]
    | ts => if ts.contains t then ts else [t]
  else if t < 1408 && d.txSlot t .TLL_TXSLOT_TYPE == 1 then
    (List.range (patternWidth (d.txSlot t .TLL_TXSLOT_PATTERN))).map (t + ·)
  else [t]

/-- The domain of an output tile whose governing context word is `w` (R175). -/
def Dev.outDomOf (d : Dev) (t : Nat) (w : Word) : Option Nat :=
  if t < 1152 then
    let m := d.txModeNow (t / 8)
    if m == 9 || m == 10 then none
    else match d.txSrc (t / 8) with
      | some (.dom k) => some k
      | _ => none
  else if t < 1408 then if d.txSlot t .TLL_TXSLOT_TYPE == 1 then some (d.txSlot t .TLL_TXSLOT_TDOM) else none
  else some (cxTdom w)

/-- The domain of an output tile under its active context. -/
def Dev.outDom (d : Dev) (t : Nat) : Option Nat := d.outDomOf t ((d.tc t).ac d.readWall)

/-- The output tile runs, with the context word `w` for a capture or probe tile (R197): its OUT_STATE is other than IDLE. -/
def Dev.outRunsOf (d : Dev) (t : Nat) (w : Word) : Bool :=
  if t < 1152 then
    d.rd (.lane (t / 8)) .LANE_LSTAT_TX_STATE == 2 && tilePos t < modeTiles (d.txModeNow (t / 8))
  else if t < 1408 then
    d.rd (.tll (outLane t)) .TLL_LSTAT_TX_STATE == 2 && (d.txSlot t .TLL_TXSLOT_TYPE == 1 || d.txSlot t .TLL_TXSLOT_TYPE == 3)
  else !(d.lanesIdle) && d.domFmt (cxTdom w) != 0

/-- The output tile runs under its active context. -/
def Dev.outRuns (d : Dev) (t : Nat) : Bool := d.outRunsOf t ((d.tc t).ac d.readWall)

/-- The output tile belongs to a FOLLOW lane (R135, R199). -/
def Dev.outRoute (d : Dev) (t : Nat) : Bool := t < 1152 && d.isFollow (t / 8)

/-- The domain at whose switch line a member context commits; none where it commits at the trigger instant (R190). -/
def Dev.commitDom (d : Dev) (t : Nat) : Option Nat :=
  let w := (d.tc t).sh d.readWall
  if d.outRoute t || !(d.outRunsOf t w) then none else d.outDomOf t w

/-! ### Sources (R175 to R178) -/

/-- The tile that delivers in place of source tile `s` by the input protection groups (R257). -/
def Dev.protTile (d : Dev) (s : Nat) : Nat :=
  match d.groups.find? (fun e =>
      e.2.enabled && d.enabled .prot &&
        (if d.pg e.1 .PROT_PG_CFG_KIND == 1 then 1152 ≤ s && s < 1408 && (s - 1152) / 16 == d.pg e.1 .PROT_PG_CFG_W_LEAD
         else (d.memberTiles (d.pg e.1 .PROT_PG_CFG_W_LEAD)).contains s)) with
  | none => s
  | some (g, x) =>
    if d.pg g .PROT_PG_CFG_KIND == 1 then
      if d.pg g .PROT_PG_STAT_SEL == 1 then 1152 + 16 * d.pg g .PROT_PG_CFG_P_LEAD + (s - 1152) % 16 else s
    else if x.now == 1 then
      let ws := d.memberTiles (d.pg g .PROT_PG_CFG_W_LEAD)
      (d.memberTiles (d.pg g .PROT_PG_CFG_P_LEAD)).getD (ws.idxOf s) s
    else s

/-- A channel's state beyond its registers. -/
def Dev.chan (d : Dev) (c : Nat) : ChanI := Map.get (fun _ => {}) d.chans c
/-- Write it. -/
def Dev.setChan (d : Dev) (c : Nat) (v : ChanI) : Dev := { d with chans := Map.put (fun _ => {}) d.chans c v }
/-- A field of a channel's registers. -/
def Dev.chf (d : Dev) (c : Nat) (f : Fld) : Nat := d.rdB .fst c f

/-- A configuration field of a channel as in force: the one admitted while a configuration is admitted, the registers' otherwise (R302). -/
def Dev.chc (d : Dev) (c : Nat) (f : Fld) : Nat :=
  match (d.chan c).conf with
  | some x => f.get (if f.off == 0x024 then x.cfg else if f.off == 0x028 then x.base else x.frames)
  | none => d.chf c f

/-- The enabled frame-synchroniser channel that replaces an input tile (R303). -/
def Dev.syncOf (d : Dev) (s : Nat) : Option Nat :=
  if d.enabled .fst then (d.chans.find? (fun e => e.1 < 256 && e.2.isOn && e.2.tile == some s)).map (·.1) else none

/-- The lead channel of a channel's bond. -/
def Dev.chLead (d : Dev) (c : Nat) : Nat := ((d.chan c).lead).getD c

/-- A synchroniser channel delivers (Table 13.3, R307). -/
def Dev.syncDelivers (d : Dev) (c : Nat) : Bool :=
  let l := d.chLead c
  let s := d.chf l .FST_CH_STAT_STATE
  s == 2 || s == 5 || ((s == 3 || s == 4) && d.chc l .FST_CH_CFG_LOSS_ACT != 3)

/-- A generator's register field. -/
def Dev.genf (d : Dev) (n : Nat) (f : Fld) : Nat := d.rd .fab (f.nth n)

/-- The domain of a source tile (R175, R303). -/
def Dev.srcDom (d : Dev) (s : Nat) : Option Nat :=
  if s < 1408 then
    match d.syncOf s with
    | some c => some (d.chc (d.chLead c) .FST_CH_CFG_TDOM)
    | none => if d.tileData s || d.crs s == 5 then none else some (d.tileDom s)
  else if s < 1440 then some (d.genf (s - 1408) .FAB_GEN_TDOM)
  else some (d.chc (d.chLead (256 + (s - 1440))) .FST_CH_CFG_TDOM)

/-- The bond patterns and member number under which a source tile counts (R176). -/
def Dev.srcBond (d : Dev) (s : Nat) : List Nat × Nat :=
  if s < 1152 then
    let n := s / 8
    let mode := d.rxMode n
    let ts := bondTiles mode (d.rxLead n) (s % 8)
    match ts.findIdx? (· == s) with
    | none => ([], 0)
    | some m =>
      if mode == 8 && (d.framer (d.rxLead n)).lastFmt == 0 then ([5, 7], m)
      else ([patternOf mode (d.framer (d.rxLead n)).lastFmt], m)
  else if s < 1408 then
    match d.tileBond s with
    | [] => if d.tileData s then ([8], 0) else ([], 0)
    | ts => ([d.tilePattern s], ts.idxOf s)
  else if s < 1440 then
    let p := d.genf (s - 1408) .FAB_GEN_BOND
    ([p], (s - 1408) % patternWidth p)
  else
    let c := 256 + (s - 1440)
    ([d.chc (d.chLead c) .FST_CH_CFG_BOND], c - d.chLead c)

/-- A source tile delivers DATA and MORTAR bricks (R177, cause 1). -/
def Dev.srcDelivers (d : Dev) (s : Nat) : Bool :=
  if s < 1408 then
    match d.syncOf s with
    | some c => d.syncDelivers c
    | none => let u := d.protTile s; d.crs u == 2 || d.crs u == 5
  else if s < 1440 then
    let g := s - 1408
    d.genf g .FAB_GEN_ENABLE == 1 && d.domFmt (d.genf g .FAB_GEN_TDOM) != 0 &&
      patternFmts (d.genf g .FAB_GEN_BOND) (d.domFmt (d.genf g .FAB_GEN_TDOM))
  else
    let c := 256 + (s - 1440)
    d.enabled .fst && (d.chan c).isOn && d.chf (d.chLead c) .FST_CH_STAT_STATE != 0

/-- The number of member `m` of the source bond whose member 0 is `src`, by that bond's own numbering (R178). -/
def Dev.deriveNum (d : Dev) (src m : Nat) : Nat :=
  if src < 1152 then
    match d.rxMode (src / 8) with
    | 5 => src + 8 * m
    | 6 => (src / 8 + m / 2) * 8 + src % 8 + m % 2
    | _ => src + m
  else src + m

/-- That member as a source tile; none outside 0 to 1,471. -/
def Dev.deriveSrc (d : Dev) (src m : Nat) : Option Nat := if d.deriveNum src m < 1472 then some (d.deriveNum src m) else none

/-- The tile whose bond and domain count for source tile `s`: what stands behind it by the protection logic (R177, R257), unless a
synchroniser channel replaces it. -/
def Dev.standTile (d : Dev) (s : Nat) : Nat := if 1408 ≤ s || (d.syncOf s).isSome then s else d.protTile s

/-- The first cause of R177 for which an output tile, member `m` with pattern `pat` and domain `dom`, is not connected to the source
derived from `src`; 0 where it is connected. -/
def Dev.connCause (d : Dev) (t m pat : Nat) (dom : Option Nat) (src : Nat) : Nat :=
  match d.deriveSrc src m with
  | none => 3
  | some s =>
    let b := d.srcBond (d.standTile s)
    if t < 1408 && !(b.1.contains pat && b.2 == m) then 3
    else if d.srcDom (d.standTile s) != dom then 2
    else if !(d.srcDelivers s) then 1
    else 0

/-! ### Take groups (R184 to R193) -/

/-- A take group's state. -/
def Dev.take (d : Dev) (g : Nat) : TakeGroup := Map.get (fun _ => {}) d.takes g
/-- Write it. -/
def Dev.setTake (d : Dev) (g : Nat) (v : TakeGroup) : Dev := { d with takes := Map.put (fun _ => {}) d.takes g v }
/-- The group is not IDLE. -/
def Dev.takeBusy (d : Dev) (g : Nat) : Bool := (d.take g).state != 0

/-- The group of an output tile: its lead's (R178). -/
def Dev.tileGroup (d : Dev) (t : Nat) : Nat := d.tcGroup (d.outLead t)

/-- The audio slots of a group: of group 0, every slot that names no other. -/
def Dev.slotsOf (d : Dev) (g : Nat) : List Nat :=
  let w := d.readWall
  if g == 0 then (List.range 53248).filter (fun s => d.ucGroup s == 0)
  else (d.uctx.filter (fun e => e.2.gr w == g)).map (·.1)

/-- The lead tiles of a group. -/
def Dev.tilesOf (d : Dev) (g : Nat) : List Nat :=
  (List.range 1472).filter (fun t => !(d.outMember t) && d.tcGroup t == g)

/-- TG_STAT.MEMBERS of a group: tiles with derived members, and audio contexts. It is the live count from the first: every context is in group 0
after reset, so TG_STAT reads 54,720 with TG_SEL 0 although its table gives the field reset 0 (DEDUCED, log 115). -/
def Dev.memberCount (d : Dev) (g : Nat) : Nat :=
  let w := d.readWall
  ((List.range 1472).filter (fun t => d.tileGroup t == g)).length +
    (if g == 0 then 53248 - (d.uctx.filter (fun e => e.2.gr w != 0)).length
     else (d.uctx.filter (fun e => e.2.gr w == g)).length)

/-- The members of a group: tiles as t, slots as 2,000 + s. -/
def Dev.takeMembers (d : Dev) (g : Nat) : List Nat := d.tilesOf g ++ (d.slotsOf g).map (2000 + ·)

/-- The domain at whose switch line an audio slot commits; none where it commits at the trigger instant (R208). -/
def Dev.slotDom (d : Dev) (s : Nat) : Option Nat := if s < 18432 then d.commitDom (s / 16) else none

/-- The domain a member waits for. -/
def Dev.memberDom (d : Dev) (x : Nat) : Option Nat := if x < 2000 then d.commitDom x else d.slotDom (x - 2000)

/-- Commit the context of a lead tile (R190): word 0 to word 2 in every wall with a claim, and the ancillary contexts of every member
of its bond with it (R154). -/
def Dev.commitTile (d : Dev) (t : Nat) : Dev :=
  let ws := d.liveWalls
  let old := d.tc t
  let new := ws.foldl (fun c w => c.commit w) old
  let changed := old.ac d.readWall != new.ac d.readWall
  let ms := d.outMembers t
  let d := d.setTc t new
  ms.foldl (fun e u =>
    let c := e.tc u
    let e := e.setTc u { c with
      takes := if changed then min (c.takes + 1) (2 ^ 32 - 1) else c.takes
      fresh := true }
    [2 * u, 2 * u + 1].foldl (fun e i => e.setAc i (ws.foldl (fun c w => c.commit w) (e.ac i))) e) d

/-- PAIR of an audio context word. -/
def ucPair (w : Word) : Bool := w.getLsbD 26

/-- The copy that slot s + 1 derives from the active copy of even slot s (R206): same ACTION and XFADE, the next source. -/
def ucDerived (w : Word) : Word :=
  (w &&& 0xF8000000#32) ||| BitVec.ofNat 32 ((w.toNat % 65536 + 1) % 65536)

/-- The active copy of slot s is derived from its even partner (R206): that partner's active copy has PAIR. -/
def Dev.slotDerived (d : Dev) (s : Nat) : Bool := s % 2 == 1 && ucPair ((d.uc (s - 1)).ac d.readWall)

/-- Commit an audio context (R206, R208), which its slot has yet to see. A derived slot commits with its even partner only. -/
def Dev.commitSlot (d : Dev) (s : Nat) : Dev :=
  if d.slotDerived s then d
  else
    let ws := d.liveWalls
    let d := (d.setUc s (ws.foldl (fun c w => c.putAc w (c.sh w)) (d.uc s))).setSlot s { d.slot s with due := true }
    let w := (d.uc s).ac d.readWall
    if s % 2 == 0 && ucPair w then
      (d.setUc (s + 1) (ws.foldl (fun c v => c.putAc v (ucDerived w)) (d.uc (s + 1)))).setSlot (s + 1) { d.slot (s + 1) with due := true }
    else d

/-- Commit one member of a group. -/
def Dev.commitMember (d : Dev) (x : Nat) : Dev := if x < 2000 then d.commitTile x else d.commitSlot (x - 2000)

/-- A group completes (R191). -/
def Dev.takeDone (d : Dev) (g : Nat) : Dev :=
  let k := regKey .fab 0 (0x060 + 4 * (g / 32))
  let d := d.setReg k (d.reg k ||| BitVec.ofNat 32 (2 ^ (g % 32)))
  (d.inc .fab .FAB_TAKE_CNT_COUNT |>.setTake g {}).setEvt .fab 8

/-- An executing group commits the members that wait for no switch line, and completes when none is left (R190, R191). -/
def Dev.takeStep (d : Dev) (g : Nat) : Dev :=
  let x := d.take g
  if x.state != 2 then d
  else
    let now := x.left.filter (fun m => (d.memberDom m).isNone)
    let rest := x.left.filter (fun m => (d.memberDom m).isSome)
    let d := now.foldl (fun e m => e.commitMember m) d
    let d := d.setTake g { x with left := rest }
    if rest.isEmpty then d.takeDone g else d

/-- Every executing group follows the outputs (R190: a member whose output stops commits at that moment). -/
def Dev.takeSettle (d : Dev) : Dev := (d.takes.map (·.1)).foldl (fun e g => e.takeStep g) d

/-- The trigger of a group fires (R189, R193). -/
def Dev.takeFire (d : Dev) (g : Nat) : Dev :=
  let x := d.take g
  let x := { x with left := d.takeMembers g, since := d.xo.toNat }
  if d.deferring then (d.setTake g { x with state := 3, deferred := true }).setEvt .fab 9
  else (d.setTake g { x with state := 2 }).takeStep g

/-- The groups armed with a trigger that a test accepts fire. -/
def Dev.fireWhere (d : Dev) (test : TakeGroup → Bool) : Dev :=
  ((d.takes.filter (fun e => e.2.state == 1 && test e.2)).map (·.1)).foldl (fun e g => e.takeFire g) d

/-- TAKE_X.SETUP in XO ticks. -/
def Dev.setup (d : Dev) : Nat := d.rd .fab .FAB_TAKE_X_SETUP

/-- XO ticks since a moment. -/
def Dev.since (d : Dev) (t : Nat) : Nat := (d.xo.toNat + 2 ^ 48 - t) % 2 ^ 48

/-- A switch line of domain `k` is read (R190): the executing groups whose trigger lies at least SETUP back commit the members of
that domain. A FRAME trigger fires SETUP before the switch line of its own domain, so the same test admits it there. -/
def Dev.switchCommit (d : Dev) (k : Nat) : Dev :=
  (d.takes.filter (fun e => e.2.state == 2)).foldl (fun e gx =>
    let g := gx.1
    let x := e.take g
    if e.setup ≤ e.since x.since then
      let now := x.left.filter (fun m => e.memberDom m == some k)
      let e := e.setTake g { x with left := x.left.filter (fun m => e.memberDom m != some k) }
      (now.foldl (fun f m => f.commitMember m) e).takeStep g
    else e) d

/-- The deferral of takes begins (R193): groups in EXECUTING become DEFERRED. -/
def Dev.deferBegin (d : Dev) : Dev :=
  let d := { d with deferring := true }
  (d.takes.filter (fun e => e.2.state == 2)).foldl (fun e gx =>
    (e.setTake gx.1 { gx.2 with state := 3, deferred := true }).setEvt .fab 9) d

/-- The deferral ends: what is left commits as if the trigger fired now. -/
def Dev.deferFinish (d : Dev) : Dev :=
  let d := { d with deferring := false }
  (d.takes.filter (fun e => e.2.state == 3)).foldl (fun e gx =>
    (e.setTake gx.1 { gx.2 with state := 2, since := e.xo.toNat }).takeStep gx.1) d

/-- The groups armed or deferred with a FRAME trigger of domain `k` return to IDLE without committing (R193). -/
def Dev.takeCancel (d : Dev) (k : Nat) : Dev :=
  (d.takes.filter (fun e => (e.2.state == 1 || e.2.state == 3) && e.2.type == 1 && e.2.tdom == k)).foldl (fun e gx =>
    (e.setTake gx.1 {}).setEvt .fab 15) d

/-- Every group returns to IDLE (R193). -/
def Dev.takesIdle (d : Dev) : Dev := { d with takes := [] }

/-- A domain's state beyond its registers. -/
def Dev.dom (d : Dev) (k : Nat) : DomI := Map.get (fun _ => {}) d.doms k
/-- Write it. -/
def Dev.setDom (d : Dev) (k : Nat) (v : DomI) : Dev := { d with doms := Map.put (fun _ => {}) d.doms k v }

/-- What rejects a write of TG_CMD (R188). While a MGMT reset runs no group can be armed (R26), as which STATE stands (DESIGN CHOICE, log 114). -/
def Dev.tgCmdRej (d : Dev) (v : Word) : List Rej :=
  let g := Fld.FAB_TG_CMD_GROUP.get v
  match Fld.FAB_TG_CMD_CMD.get v with
  | 1 =>
    let k := d.rd .fab .FAB_TG_TRIG_TDOM
    let f := d.rd .fab .FAB_TG_TRIG_FRAME
    let isFrame := d.rd .fab .FAB_TG_TRIG_TYPE == 1
    let diff := (f + 65536 - d.rd (.tdom k) .TDOM_FCNT_FCNT % 65536) % 65536
    rejIf (d.takeBusy g || d.resetRuns 1) .state ++
      rejIf (isFrame && (d.domFmt k == 0 || diff == 0 || 32768 ≤ diff || (diff == 1 && (d.dom k).fired == some f))) .state
  | 2 => rejIf ((d.take g).state != 1) .state
  | _ => []

/-- TG_CMD: ARM and DISARM (R188). -/
def Dev.tgCmd (d : Dev) (v : Word) : Dev :=
  let g := Fld.FAB_TG_CMD_GROUP.get v
  match Fld.FAB_TG_CMD_CMD.get v with
  | 1 =>
    let ty := d.rd .fab .FAB_TG_TRIG_TYPE
    let d := d.setTake g {
      state := 1, type := ty, tdom := d.rd .fab .FAB_TG_TRIG_TDOM
      gpi := d.rd .fab .FAB_TG_TRIG_GPI, frame := d.rd .fab .FAB_TG_TRIG_FRAME }
    if ty == 0 then d.takeFire g else d
  | 2 => d.setTake g {}
  | _ => d

/-- The firing instant of a frame of domain `k` (Table 8.6). -/
def Dev.frameFire (d : Dev) (k frame : Nat) : Dev :=
  let d := d.setDom k { d.dom k with fired := some frame }
  d.fireWhere (fun x => x.type == 1 && x.tdom == k && x.frame == frame)

/-- A filtered edge of TAKE_GPI[n] to a level (R192). -/
def Dev.gpiEdge (d : Dev) (n : Nat) (level : Bool) : Dev :=
  let f := fun (f : Fld) => f.nth n
  if d.on .fab (f .FAB_GPI_LEVEL) == level then d
  else
    let d := d.wrOn .fab (f .FAB_GPI_LEVEL) level
    let e := d.rd .fab (f .FAB_GPI_EDGE)
    if e == 2 || (e == 1) == level then
      let d := d.wr .fab (f .FAB_GPI_EDGES) (d.rd .fab (f .FAB_GPI_EDGES) + 1)
      (d.setEvt .fab 13).fireWhere (fun x => x.type == 2 && x.gpi == n)
    else d

/-- TG_STAT of a group as a register word. -/
def Dev.tgStat (d : Dev) (g : Nat) : Word :=
  let x := d.take g
  BitVec.ofNat 32 (x.state * 2 ^ 30 + x.type * 2 ^ 28 + x.tdom * 2 ^ 24 + x.gpi * 2 ^ 21 + (if x.deferred then 2 ^ 20 else 0) +
    d.memberCount g % 65536)

/-- TG_ARMED word `i`. -/
def Dev.tgArmed (d : Dev) (i : Nat) : Word :=
  BitVec.ofNat 32 ((d.takes.filter (fun e => e.1 / 32 == i && e.2.state != 0)).foldl (fun a e => a + 2 ^ (e.1 % 32)) 0)

/-! ### The context windows (R178, R181 to R186, R152, R205, R206) -/

/-- A rejected context write (R185). -/
def Dev.ctxReject (d : Dev) (m off : Nat) (r : Rej) : Dev :=
  let d := ((d.wr .fab .FAB_CTX_ERR_CODE r.code).wr .fab .FAB_CTX_ERR_MASTER m).wr .fab .FAB_CTX_ERR_OFFSET off
  d.setEvt .fab 10

/-- The first cause by the order of R20. -/
def firstRej (rs : List Rej) : Option Rej :=
  [Rej.locked, .expert, .rsvd, .range, .armed, .state].find? (fun r => rs.contains r)

/-- What rejects a write of word 0 or 1 of a tile context. -/
def Dev.tileCtxRej (d : Dev) (t k : Nat) (v : Word) : List Rej :=
  let g := d.tileGroup t
  if k == 0 then
    rejIf (v &&& 0x730FF800#32 != 0) .rsvd ++ rejIf (1471 < cxSrc v || cxVoid v == 3) .range ++ rejIf (d.takeBusy g) .armed ++
      rejIf (d.outMember t) .state
  else
    rejIf (v &&& 0xFFFFFF00#32 != 0) .rsvd ++ rejIf (d.takeBusy g || d.takeBusy (v.toNat % 256)) .armed ++
      rejIf (d.outMember t) .state

/-- An accepted write of word 0 or 1 of a tile context. -/
def Dev.tileCtxPut (d : Dev) (t k : Nat) (v : Word) : Dev :=
  if k == 0 then d.setTc t (d.liveWalls.foldl (fun c w => c.putSh w v) (d.tc t))
  else d.setTc t (d.liveWalls.foldl (fun c w => c.putGr w (v.toNat % 256)) (d.tc t))

/-- What rejects a write of word 0 of an ancillary context (R152, R184). -/
def Dev.ancCtxRej (d : Dev) (i : Nat) (v : Word) : List Rej :=
  rejIf (v &&& 0x3800FFF0#32 != 0) .rsvd ++ rejIf (1471 < v.toNat / 65536 % 2048 || v.toNat / 2 ^ 30 == 3) .range ++
    rejIf (d.takeBusy (d.tileGroup (i / 2))) .armed

/-- An accepted write of word 0 of an ancillary context. -/
def Dev.ancCtxPut (d : Dev) (i : Nat) (v : Word) : Dev :=
  d.setAc i (d.liveWalls.foldl (fun c w => c.putSh w v) (d.ac i))

/-- Slot s + 1 of an even slot with PAIR in its shadow or active copy (R206). -/
def Dev.slotPaired (d : Dev) (s : Nat) : Bool :=
  s % 2 == 1 && (ucPair ((d.uc (s - 1)).sh d.readWall) || ucPair ((d.uc (s - 1)).ac d.readWall))

/-- What rejects a write of word 0 or 1 of an audio context (R205, R206). -/
def Dev.audCtxRej (d : Dev) (s k : Nat) (v : Word) : List Rej :=
  let g := d.ucGroup s
  if k == 0 then
    let act := v.toNat / 2 ^ 30
    let src := v.toNat % 65536
    let badPair := ucPair v && (s % 2 == 1 || ((act == 0 || act == 1) && src % 2 == 1))
    rejIf (v &&& 0x03FF0000#32 != 0) .rsvd ++
      rejIf (53247 < src || 6 ≤ v.toNat / 2 ^ 27 % 8 || (act == 1 && (18432 ≤ s || 15 < src)) || badPair) .range ++
      rejIf (d.takeBusy g || (ucPair v && d.takeBusy (d.ucGroup (s + 1)))) .armed ++ rejIf (d.slotPaired s) .state
  else
    rejIf (v &&& 0xFFFFFF00#32 != 0) .rsvd ++ rejIf (d.takeBusy g || d.takeBusy (v.toNat % 256)) .armed ++
      rejIf (d.slotPaired s) .state

/-- An accepted write of word 0 or 1 of an audio context. -/
def Dev.audCtxPut (d : Dev) (s k : Nat) (v : Word) : Dev :=
  if k == 0 then d.setUc s (d.liveWalls.foldl (fun c w => c.putSh w v) (d.uc s))
  else d.setUc s (d.liveWalls.foldl (fun c w => c.putGr w (v.toNat % 256)) (d.uc s))

/-- What rejects a write to a context window at byte offset `off` from 0x080_0000 (R181 to R185, R448). -/
def Dev.ctxRej (d : Dev) (off : Nat) (full : Bool) (v : Word) : List Rej :=
  if !full then [.rsvd]
  else if off < 0xB800 then if 2 ≤ off % 32 / 4 then [] else d.tileCtxRej (off / 32) (off % 32 / 4) v
  else if 0x10000 ≤ off && off < 0x78000 then d.audCtxRej ((off - 0x10000) / 8) (off % 8 / 4) v
  else if 0x80000 ≤ off && off < 0x85C00 then if off % 8 / 4 == 1 then [] else d.ancCtxRej ((off - 0x80000) / 8) v
  else []

/-- An accepted write to a context window; words that a window only reports ignore it. -/
def Dev.ctxPut (d : Dev) (off : Nat) (v : Word) : Dev :=
  if off < 0xB800 then if 2 ≤ off % 32 / 4 then d else d.tileCtxPut (off / 32) (off % 32 / 4) v
  else if 0x10000 ≤ off && off < 0x78000 then d.audCtxPut ((off - 0x10000) / 8) (off % 8 / 4) v
  else if 0x80000 ≤ off && off < 0x85C00 then if off % 8 / 4 == 1 then d else d.ancCtxPut ((off - 0x80000) / 8) v
  else d

/-- A write of master `m` to a context window (R181 to R186). -/
def Dev.ctxWrite (d : Dev) (m off : Nat) (full : Bool) (v : Word) : Dev :=
  match firstRej (d.ctxRej off full v) with
  | some r => d.ctxReject m off r
  | none => d.ctxPut off v

/-- OUT_STATE of an output tile (Table 8.3): IDLE while it does not run, ROUTE on a FOLLOW lane, otherwise as last settled. -/
def Dev.outState (d : Dev) (t : Nat) : Nat := if !(d.outRuns t) then 0 else if d.outRoute t then 5 else (d.tc t).state

/-- The source of an output tile's active context, derived for members (R178). -/
def Dev.effSrc (d : Dev) (t : Nat) : Nat :=
  let b := d.outBond t
  d.deriveNum (cxSrc ((d.tc b.1).ac d.readWall)) b.2.1 % 2048

/-- A context word of the lead with SRC_TILE replaced for a member (R178). -/
def Dev.memberWord (d : Dev) (t : Nat) (w : Word) : Word :=
  let b := d.outBond t
  if b.2.1 == 0 then w else (w &&& 0xFFFFF800#32) ||| BitVec.ofNat 32 (d.deriveNum (cxSrc w) b.2.1 % 2048)

/-- A read of a context window at byte offset `off` (R178, R183). -/
def Dev.ctxRead (d : Dev) (off : Nat) : Word :=
  let w := d.readWall
  if off < 0xB800 then
    let t := off / 32
    let c := d.tc t
    let l := d.tc (d.outLead t)
    match off % 32 / 4 with
    | 0 => d.memberWord t (l.sh w)
    | 1 => BitVec.ofNat 32 (l.gr w)
    | 2 => d.memberWord t (l.ac w)
    | 3 => if d.lanesIdle then 0
      else BitVec.ofNat 32 (d.outState t * 2 ^ 29 + c.cause * 2 ^ 26 + (if d.outMember t then 2 ^ 25 else 0) + d.effSrc t)
    | 4 => BitVec.ofNat 32 c.late
    | 5 => BitVec.ofNat 32 (c.parity * 65536 + c.loss)
    | 6 => BitVec.ofNat 32 c.takes
    | _ => 0
  else if 0x10000 ≤ off && off < 0x78000 then
    let c := d.uc ((off - 0x10000) / 8)
    if off % 8 / 4 == 0 then c.sh w else BitVec.ofNat 32 (c.gr w)
  else if 0x80000 ≤ off && off < 0x85C00 then
    let i := (off - 0x80000) / 8
    let c := d.ac i
    let quiet := 1408 ≤ i / 2 || d.outRoute (i / 2) || (patternPhased (d.outBond (i / 2)).2.2 && (d.outBond (i / 2)).2.1 % 2 == 1)
    if off % 8 / 4 == 0 then c.sh w else if quiet then 0 else BitVec.ofNat 32 (c.drop * 65536 + c.late)
  else 0

/-- FAB.CTL.CNT_CLR: words 4 to 6 of every tile context, the SVC counts and TAKE_CNT (R181). -/
def Dev.fabCntClr (d : Dev) : Dev :=
  let d := (d.tctx.map (·.1)).foldl (fun e t => e.setTc t { e.tc t with late := 0, parity := 0, loss := 0, takes := 0 }) d
  [Fld.FAB_SVC_VIDEO_COUNT, .FAB_SVC_AUDIO_COUNT, .FAB_SVC_ANC_COUNT, .FAB_SVC_PROBE_COUNT, .FAB_TAKE_CNT_COUNT].foldl
    (fun e f => e.wr .fab f 0) d

/-! ### Generators (R198) -/

/-- What rejects a write of GEN[n] (R198). -/
def Dev.genRej (d : Dev) (n : Nat) (v : Word) : List Rej :=
  let w := patternWidth (Fld.FAB_GEN_BOND.get v)
  let own := patternWidth (d.genf n .FAB_GEN_BOND)
  rejIf (n % w != 0) .range ++ rejIf (d.genf n .FAB_GEN_MEMBER == 1) .state ++
    rejIf ((List.range w).any (fun i => own ≤ i && d.genf (n + i) .FAB_GEN_ENABLE == 1)) .state

/-- FMT_BAD of a generator follows its pattern and its domain's format. -/
def Dev.genBad (d : Dev) (n : Nat) : Dev :=
  let f := d.domFmt (d.genf n .FAB_GEN_TDOM)
  d.wrOn .fab (Fld.nth .FAB_GEN_FMT_BAD n) (f != 0 && !(patternFmts (d.genf n .FAB_GEN_BOND) f))

/-- Every generator follows the domains' formats. -/
def Dev.gensSettle (d : Dev) : Dev := (List.range 32).foldl (fun e n => e.genBad n) d

/-- An accepted write of GEN[n]; `old` is the word before: members take the lead's configuration, released ones their reset. -/
def Dev.genApply (d : Dev) (n : Nat) (old v : Word) : Dev :=
  let was := patternWidth (Fld.FAB_GEN_BOND.get old)
  let now := patternWidth (Fld.FAB_GEN_BOND.get v)
  let key := fun i => regKey .fab 0 (0x100 + 4 * (n + i))
  let d := ((List.range was).drop 1).foldl (fun e i => e.setReg (key i) (resetWord (key i))) d
  let d := ((List.range now).drop 1).foldl (fun e i => e.setReg (key i) (v ||| 0x20000000#32)) d
  d.gensSettle

/-- Outputs that stop running forget their state (R197), and the take engine follows (R190). -/
def Dev.outSettle (d : Dev) : Dev :=
  let d := (d.tctx.filter (fun e => e.2.state != 0)).foldl (fun e x =>
    if e.outRuns x.1 then e else e.setTc x.1 { e.tc x.1 with state := 0, cause := 0, held := 0, last := [], prev := [] }) d
  d.takeSettle

end Sys2Proof.Machine
end

