-- ==== Sys2Proof/Machine/Walls.lean ====
section
/-! DEFINITION. The dual walls and the claim gates (R316 to R332): claims, acceptance, giving up, rejoining, swaps, cross-compare
and self-test. -/

namespace Sys2Proof.Machine

/-- A field of a wall's page. -/
def Dev.wl (d : Dev) (w : Nat) (f : Fld) : Nat := d.rd (.wall w) f

/-- WALL.CLAIM.STATE (Table 14.1). -/
def Dev.wallState (d : Dev) (w : Nat) : Nat := d.wl w .WALL_CLAIM_STATE

/-- The other wall. -/
def otherWall (w : Nat) : Nat := 1 - w

/-- The wall's claim is capped below the other's: SHADOW, and STANDBY after a rejoin or a SWAP (Table 14.1). -/
def Dev.wallCapped (d : Dev) (w : Nat) : Bool :=
  d.wallState w == 5 || (d.wallState w == 1 && d.gates.capped.contains w)

/-- The effective claim of a wall that no cap holds down. -/
def Dev.rawEff (d : Dev) (w : Nat) : Nat :=
  if d.wallState w == 0 || d.wallState w == 1 || d.wallState w == 5 then d.wl w .WALL_CLAIM_CONFIG else 0

/-- The effective claim of a wall (Table 14.1). -/
def Dev.effNow (d : Dev) (w : Nat) : Nat :=
  if d.wallCapped w then
    let o := if d.wallCapped (otherWall w) then d.wallEff (otherWall w) else d.rawEff (otherWall w)
    if 0 < o then min (d.rawEff w) (o - 1) else d.rawEff w
  else d.rawEff w

/-- The wall accepted under R318 for two claims, given the one accepted so far. -/
def acceptRule (now : Option Nat) (a b : Nat) : Option Nat :=
  if b < a then some 0
  else if a < b then some 1
  else if a == 0 then none
  else match now with
    | some w => some w
    | none => some 0

/-- The wall the gates stand at: none while BOTH_ZERO (R320). -/
def Dev.gateWall (d : Dev) : Option Nat :=
  if d.on .cgate .CGATE_STAT_BOTH_ZERO then none else some (d.rd .cgate .CGATE_STAT_ACCEPTED)

/-- Write STATE of a wall; leaving STANDBY drops its cap. -/
def Dev.setWallState (d : Dev) (w v : Nat) : Dev :=
  { d.wr (.wall w) .WALL_CLAIM_STATE v with gates := { d.gates with capped := d.gates.capped.filter (· != w) } }

/-- The wall that the gates accept is ACTIVE; an accepted SHADOW ends its rejoin there (R317). The other wall is STANDBY. -/
def Dev.wallFollow (d : Dev) (target : Option Nat) (w : Nat) : Dev :=
  let s := d.wallState w
  if target == some w && (s == 1 || s == 5) then
    (d.setWallState w 0).setEvtIf (s == 5) (.wall w) 9
  else if target != some w && s == 0 then d.setWallState w 1
  else d

/-- Recompute both effective claims. -/
def Dev.effsPut (d : Dev) : Dev :=
  let a := d.effNow 0
  let b := d.effNow 1
  (d.wr (.wall 0) .WALL_CLAIM_EFF a).wr (.wall 1) .WALL_CLAIM_EFF b

/-- Every output begins its count towards the safe state anew (R320). -/
def Dev.safeRestart (d : Dev) : Dev :=
  (d.tctx.map (·.1)).foldl (fun e t => e.setTc t { e.tc t with zeroed := 0, safe := false }) d

/-- Claims, acceptance and TIE follow every change of a wall's state or CONFIG (R317, R318, R320). -/
def Dev.wallsSettle (d : Dev) : Dev :=
  let was := d.gateWall
  let d := d.effsPut
  let target := acceptRule was (d.wallEff 0) (d.wallEff 1)
  let d := ((d.wallFollow target 0).wallFollow target 1).effsPut
  let isTie := d.wallEff 0 == d.wallEff 1 && 0 < d.wallEff 0
  let rise := isTie && !(d.on .cgate .CGATE_STAT_TIE)
  let d := d.wrOn .cgate .CGATE_STAT_TIE isTie
  let d := d.setEvtIf rise .cgate 9
  let d := [0, 1].foldl (fun e w => e.wrOn (.wall w) .WALL_CLAIM_ACCEPTED (target == some w)) d
  if target == was then d
  else
    let d := match target with
      | some w => (d.wr .cgate .CGATE_STAT_ACCEPTED w).wr .cgate .CGATE_STAT_BOTH_ZERO 0
      | none => (d.wr .cgate .CGATE_STAT_BOTH_ZERO 1).setEvt .cgate 10
    d.safeRestart.setEvt .cgate 8

/-- An armed swap ends (R329). -/
def Dev.swapEnd (d : Dev) (cancelled : Bool) : Dev :=
  let d := { d with gates := { d.gates with swap := none } }
  ((d.wr .cgate .CGATE_STAT_SWAP_PEND 0).wrOn .cgate .CGATE_STAT_SWAP_CANCELLED cancelled).setEvt .cgate 12

/-- An armed swap is cancelled (R329). -/
def Dev.swapCancel (d : Dev) : Dev := if d.gates.swap.isSome then d.swapEnd true else d

/-- A swap armed on domain `k` is cancelled, as the domain stops (R329). -/
def Dev.swapCancelDom (d : Dev) (k : Nat) : Dev :=
  match d.gates.swap with
  | some x => if x.1 == k then d.swapEnd true else d
  | none => d

/-- A wall goes to FAILED with a cause, claims not yet recomputed (R324, R326): a give-up counts in GIVEUP_CNT and cancels an
armed swap; a failure in a step of a rejoin sets REJOIN_FAIL. -/
def Dev.wallFail (d : Dev) (w cause : Nat) (isGiveUp : Bool) : Dev :=
  let s := d.wallState w
  let d := (d.setWallState w 2).wr (.wall w) .WALL_DIAG_CAUSE cause
  let d := { d with gates := { d.gates with noCopy := d.gates.noCopy.filter (· != w) } }
  let d := if isGiveUp then ((d.inc (.wall w) .WALL_DIAG_GIVEUP_CNT).setEvt (.wall w) 8).swapCancel else d
  d.setEvtIf (3 ≤ s) (.wall w) 10

/-- A wall gives up (R324). A FAILED wall has given up already. -/
def Dev.giveUp (d : Dev) (w cause : Nat) : Dev :=
  if d.wallState w == 2 then d else (d.wallFail w cause true).wallsSettle

/-- A failure that a wall finds in itself (R321, R326): in TEST and COPY the rejoin fails, elsewhere the wall gives up. -/
def Dev.diagFail (d : Dev) (w cause : Nat) : Dev :=
  let s := d.wallState w
  if s == 2 then d else (d.wallFail w cause (s != 3 && s != 4)).wallsSettle

/-- GIVE_UP, ENABLE = 0 and WALL_RESET are refused to the ACTIVE wall unless the other is STANDBY with a claim (R325). -/
def Dev.wallLeaveRej (d : Dev) (w : Nat) : Bool :=
  d.wallState w == 0 && !(d.wallState (otherWall w) == 1 && 0 < d.wallEff (otherWall w))

/-- What a wall finds wrong in itself (Table 14.2). -/
def Dev.diag (d : Dev) (w : Nat) (c : DiagCheck) : Dev :=
  let p := Page.wall w
  match c with
  | .corrected => (d.inc p .WALL_ECC_CNT_CORR).setEvt p 11
  | .ecc2 => (d.inc p .WALL_ECC_CNT_UNCORR).diagFail w 2
  | .crc => (d.inc p .WALL_ERR_CNT_CRC).diagFail w 3
  | .parity n => if d.wl w .WALL_DIAG_CFG_PAR_LIMIT < n then d.diagFail w 4 else d
  | .watchdog => d.diagFail w 5
  | .probe n =>
    let d := d.add p .WALL_PROBE_ERR_COUNT n
    if 2 ≤ n then d.diagFail w 6 else d

/-! ### Connection memory -/

/-- A tile context's copies in a wall at their reset values. -/
def TileCtx.clear (c : TileCtx) (w : Nat) : TileCtx :=
  if w == 0 then { c with shA := 0x80000000, acA := 0x80000000, grA := 0 }
  else { c with shB := 0x80000000, acB := 0x80000000, grB := 0 }

/-- An ancillary context's copies in a wall at their reset values. -/
def AncCtx.clear (c : AncCtx) (w : Nat) : AncCtx :=
  if w == 0 then { c with shA := 0x4000000F, acA := 0x4000000F } else { c with shB := 0x4000000F, acB := 0x4000000F }

/-- An audio context's copies in a wall at their reset values. -/
def AudCtx.clear (c : AudCtx) (w : Nat) : AudCtx :=
  if w == 0 then { c with shA := 0xC0000000, acA := 0xC0000000, grA := 0 }
  else { c with shB := 0xC0000000, acB := 0xC0000000, grB := 0 }

/-- The copies of listed contexts in a wall return to their reset values. -/
def Dev.ctxClear (d : Dev) (w : Nat) (tiles ancs slots : List Nat) : Dev :=
  let d := tiles.foldl (fun e t => e.setTc t ((e.tc t).clear w)) d
  let d := ancs.foldl (fun e i => e.setAc i ((e.ac i).clear w)) d
  slots.foldl (fun e s => e.setUc s ((e.uc s).clear w)) d

/-- A wall's connection memory returns to its reset values (R325). -/
def Dev.wallClear (d : Dev) (w : Nat) : Dev :=
  d.ctxClear w (d.tctx.map (·.1)) (d.actx.map (·.1)) (d.uctx.map (·.1))

/-- Every context and group membership of wall `o` is copied to wall `w` (Table 14.4). -/
def Dev.wallCopy (d : Dev) (o w : Nat) : Dev :=
  let d := (d.tctx.map (·.1)).foldl (fun e t =>
    let c := e.tc t
    e.setTc t (if w == 0 then { c with shA := c.sh o, acA := c.ac o, grA := c.gr o }
      else { c with shB := c.sh o, acB := c.ac o, grB := c.gr o })) d
  let d := (d.actx.map (·.1)).foldl (fun e i =>
    let c := e.ac i
    e.setAc i (if w == 0 then { c with shA := c.sh o, acA := c.ac o } else { c with shB := c.sh o, acB := c.ac o })) d
  (d.uctx.map (·.1)).foldl (fun e s =>
    let c := e.uc s
    e.setUc s (if w == 0 then { c with shA := c.sh o, acA := c.ac o, grA := c.gr o }
      else { c with shB := c.sh o, acB := c.ac o, grB := c.gr o })) d

/-! ### Rejoining (R326, R327) -/

/-- The built-in self-test begins. -/
def Dev.rejoinStart (d : Dev) (w : Nat) : Dev :=
  let lone := d.wallEff (otherWall w) == 0
  let d := d.setWallState w 3
  let keep := d.gates.noCopy.filter (· != w)
  ({ d with gates := { d.gates with noCopy := if lone then w :: keep else keep } }).wallsSettle

/-- A WALL reset (R325): the wall gives up, resets with its connection memory cleared, and enters TEST. Every expert half closes (R15). -/
def Dev.wallReset (d : Dev) (w : Nat) : Dev :=
  ((((d.wallFail w 11 true).wallsSettle).wallClear w).resetRegs .wall (fun _ => true)).rejoinStart w

/-- Contexts of wall `w` whose CRC fails take their reset values, each counted in ERR_CNT.CRC (R327). -/
def Dev.crcClear (d : Dev) (w : Nat) (tiles ancs slots : List Nat) : Dev :=
  let d := d.ctxClear w tiles ancs slots
  d.add (.wall w) .WALL_ERR_CNT_CRC (tiles.length + ancs.length + slots.length)

/-- Step 1 of a rejoin ends (R326, R327). With no wall to copy from, the wall keeps its contexts but those whose CRC fails. -/
def Dev.bistDone (d : Dev) (w : Nat) (pass : Bool) (tiles ancs slots : List Nat) : Dev :=
  if d.wallState w != 3 then d
  else if !pass then d.diagFail w 9
  else if d.gates.noCopy.contains w && d.wallEff (otherWall w) == 0 then
    let d := { d with gates := { d.gates with noCopy := d.gates.noCopy.filter (· != w) } }
    ((d.crcClear w tiles ancs slots).setWallState w 0).wallsSettle
  else (d.setWallState w 4).wallsSettle

/-- The running domains, each with the frame starts that complete two whole frames. -/
def Dev.shadowWait (d : Dev) : Map Nat :=
  ((List.range 16).filter (fun k => d.domFmt k != 0)).map (fun k => (k, 3))

/-- A copy pass finds nothing changed (Table 14.4); with no claim to copy from, COPY goes on. -/
def Dev.copyDone (d : Dev) (w us passes : Nat) : Dev :=
  let o := otherWall w
  if d.wallState w != 4 || d.wallEff o == 0 then d
  else
    let d := d.wallCopy o w
    let d := (d.wr (.wall w) .WALL_REJOIN_STAT_COPY_US (min us 65535)).wr (.wall w) .WALL_REJOIN_STAT_PASSES (min passes 15)
    let d := { d with gates := { d.gates with shadow := d.shadowWait } }
    (d.setWallState w 5).wallsSettle

/-- COPY exceeds 10 ms (Table 14.4). -/
def Dev.copyTimeout (d : Dev) (w : Nat) : Dev := if d.wallState w == 4 then d.diagFail w 10 else d

/-- A frame start of domain `k` counts towards the frames that SHADOW lasts. -/
def Dev.shadowFrame (d : Dev) (k : Nat) : Dev :=
  { d with gates := { d.gates with shadow := d.gates.shadow.map (fun e => if e.1 == k then (k, e.2 - 1) else e) } }

/-- The two whole frames of every running domain have passed; a domain that has stopped is not waited for. -/
def Dev.shadowOver (d : Dev) : Bool := d.gates.shadow.all (fun e => e.2 == 0 || d.domFmt e.1 == 0)

/-- SHADOW ends (Table 14.4): the wall becomes STANDBY below the ACTIVE wall's claim (R328). -/
def Dev.shadowDone (d : Dev) (w : Nat) : Dev :=
  if d.wallState w != 5 || !d.shadowOver then d
  else
    let d := d.setWallState w 1
    let d := { d with gates := { d.gates with capped := w :: d.gates.capped } }
    (d.setEvt (.wall w) 9).wallsSettle

/-! ### SWAP (R329) -/

/-- The wall that would become ACTIVE: the one not accepted. -/
def Dev.swapTarget (d : Dev) : Nat := otherWall (d.rd .cgate .CGATE_STAT_ACCEPTED)

/-- What rejects a write of CGATE.SWAP. -/
def Dev.swapRej (d : Dev) (v : Word) : List Rej :=
  let o := d.swapTarget
  rejIf (Fld.CGATE_SWAP_CMD.get v == 1 &&
    (d.gateWall.isNone || d.wallState o != 1 || d.wl o .WALL_CLAIM_CONFIG < 2 || d.gates.swap.isSome ||
      d.domFmt (Fld.CGATE_SWAP_TDOM.get v) == 0)) .state

/-- A write of CGATE.SWAP. -/
def Dev.swapCmd (d : Dev) (v : Word) : Dev :=
  match Fld.CGATE_SWAP_CMD.get v with
  | 1 =>
    let d := { d with gates := { d.gates with swap := some (Fld.CGATE_SWAP_TDOM.get v, d.xo.toNat) } }
    d.wr .cgate .CGATE_STAT_SWAP_PEND 1
  | 2 => d.swapCancel
  | _ => d

/-- The swap is executed at a switch-line read point of domain `k` at least SETUP after it was armed, or after a deferral ended. -/
def Dev.swapExecute (d : Dev) (k : Nat) : Dev :=
  match d.gates.swap with
  | some (j, t) =>
    if j == k && !d.deferring && d.setup ≤ d.since t then
      let new := d.swapTarget
      let old := otherWall new
      let d := (d.setWallState new 0).setWallState old 1
      let d := { d with gates := { d.gates with capped := old :: d.gates.capped } }
      (d.swapEnd false).wallsSettle
    else d
  | none => d

/-- The deferral of takes ends: an armed swap counts SETUP from now (R329). -/
def Dev.swapRearm (d : Dev) : Dev :=
  { d with gates := { d.gates with swap := d.gates.swap.map (fun x => (x.1, d.xo.toNat)) } }

/-! ### Cross-compare and the targeted self-test (R322) -/

/-- The self-test of an output's path begins. -/
def Dev.selfTest (d : Dev) (path : Nat) : Dev :=
  ({ d with gates := { d.gates with testing := some path, again := none } }).wr .cgate .CGATE_STAT_SELFTEST 1

/-- A gate finds that the two walls' items differ; compared only while both walls have a claim. -/
def Dev.mismatch (d : Dev) (kind index : Nat) : Dev :=
  match d.gateWall with
  | none => d
  | some a =>
    let o := otherWall a
    if d.wallEff o == 0 then d
    else
      let d := (d.inc .cgate .CGATE_MM_SEEN_COUNT).setEvt .cgate 11
      let path := kind * 65536 + index % 65536
      if d.wallState o == 5 then d.giveUp o 8
      else if d.wallState o != 1 then d
      else if d.gates.testing.isSome then { d with gates := { d.gates with again := some path } }
      else d.selfTest path

/-- The targeted self-test ends; a wall that failed it gives up, or MM_POLICY applies. -/
def Dev.selfTestDone (d : Dev) (failA failB : Bool) : Dev :=
  match d.gates.testing with
  | none => d
  | some path =>
    let d := { d with gates := { d.gates with testing := none } }
    let d := d.wr .cgate .CGATE_STAT_SELFTEST 0
    let d := d.wr .cgate .CGATE_MM_LAST_KIND (path / 65536)
    let d := d.wr .cgate .CGATE_MM_LAST_INDEX (path % 65536)
    let d := d.wr .cgate .CGATE_MM_LAST_RESULT ((if failA then 1 else 0) + (if failB then 2 else 0))
    let fails := fun (e : Dev) (w : Nat) => if e.wallState w == 2 then e else e.wallFail w 7 true
    let d :=
      if failA || failB then
        let d := if failA then fails d 0 else d
        if failB then fails d 1 else d
      else
        let d := d.inc .cgate .CGATE_MM_CNT_COUNT
        if d.rd .cgate .CGATE_CFG_MM_POLICY == 1 then [0, 1].foldl (fun e w => if e.wallState w == 1 then fails e w else e) d
        else d
    let d := d.wallsSettle
    match d.gates.again with
    | some p => d.selfTest p
    | none => d

/-! ### Register writes of the WALL and CGATE pages -/

/-- What rejects a write of a WALL register (R325, R326, R330). -/
def Dev.wallRej (d : Dev) (w off : Nat) (v : Word) : List Rej :=
  if off == 0x020 then
    let o := d.wallState (otherWall w)
    rejIf (Fld.WALL_CLAIM_CONFIG.get v < 2 && d.wallState w == 0 && (o == 1 || o == 5)) .state
  else if off == 0x024 then
    let giving := Fld.WALL_CTL_GIVE_UP.get v == 1
    let resets := Fld.WALL_CTL_WALL_RESET.get v == 1
    rejIf ((giving || resets) && d.wallLeaveRej w) .state ++
      rejIf (Fld.WALL_CTL_REJOIN.get v == 1 && (d.wallState w != 2 || !(d.enabled (.wall w)))) .state
  else if off == 0x008 then
    rejIf (Fld.PAGE_CTRL_ENABLE.get v == 0 && d.wallLeaveRej w) .state
  else []

/-- WALL.CTL. A REJOIN written with WALL_RESET is the one the WALL reset starts. -/
def Dev.wallCtl (d : Dev) (w : Nat) (v : Word) : Dev :=
  let p := Page.wall w
  let d :=
    if Fld.WALL_CTL_CNT_CLR.get v == 1 then
      [Fld.WALL_ECC_CNT_CORR, .WALL_ECC_CNT_UNCORR, .WALL_ERR_CNT_CRC, .WALL_ERR_CNT_PARITY, .WALL_PROBE_ERR_COUNT,
        .WALL_LATE_COUNT].foldl (fun e f => e.wr p f 0) d
    else d
  if Fld.WALL_CTL_WALL_RESET.get v == 1 then d.wallReset w
  else
    let d := if Fld.WALL_CTL_GIVE_UP.get v == 1 then d.giveUp w 1 else d
    if Fld.WALL_CTL_REJOIN.get v == 1 then d.rejoinStart w else d

/-- What follows an accepted write of a WALL register. -/
def Dev.wallAfter (d : Dev) (w off : Nat) (old v : Word) : Dev :=
  if off == 0x020 then d.wallsSettle
  else if off == 0x024 then d.wallCtl w v
  else if off == 0x008 then
    if Fld.PAGE_CTRL_ENABLE.get old == 1 && Fld.PAGE_CTRL_ENABLE.get v == 0 then d.giveUp w 1 else d
  else d

/-- CGATE.CTL.CNT_CLR. -/
def Dev.cgateCntClr (d : Dev) : Dev :=
  [Fld.CGATE_MM_CNT_COUNT, .CGATE_MM_SEEN_COUNT, .CGATE_ALT_CNT_COUNT, .CGATE_SAFE_CNT_COUNT].foldl (fun e f => e.wr .cgate f 0) d

/-- What follows an accepted write of a CGATE register. -/
def Dev.cgateAfter (d : Dev) (off : Nat) (v : Word) : Dev :=
  if off == 0x024 then d.swapCmd v
  else if off == 0x040 then if Fld.CGATE_CTL_CNT_CLR.get v == 1 then d.cgateCntClr else d
  else d

/-- Both walls return to the start state of R317 and any rejoin, swap or self-test is cancelled (R331); the registers
have been reset. -/
def Dev.wallsStart (d : Dev) : Dev :=
  let d := { d with gates := {} }
  (d.wallClear 0).wallClear 1

end Sys2Proof.Machine
end

