-- ==== Sys2Proof/Machine/FrameStore.lean ====
section
/-! DEFINITION. The frame store (R297 to R315): memory controllers, frames in memory, frame synchronisers, playout, capture,
audio delay lines, admission. -/

namespace Sys2Proof.Machine

/-! ### Memory -/

/-- The key of a byte of MEMC `m`. -/
def memKey (m a : Nat) : Nat := m * 2 ^ 34 + a

/-- What a byte of frame-store memory reads as while nothing has been written to it since its content was lost (R300). -/
def Dev.memFree (d : Dev) (k : Nat) : Byte := 
  Config.freeByte (if k / 2 ^ 34 == 0 then d.memGen else d.memGenB) (k / 2 ^ 34) (k % 2 ^ 34)

/-- Read a byte of MEMC `m`. -/
def Dev.memByte (d : Dev) (m a : Nat) : Byte := Map.get d.memFree d.mem (memKey m a)

/-- Write a byte of MEMC `m`. -/
def Dev.setMemByte (d : Dev) (m a : Nat) (b : Byte) : Dev :=
  { d with mem := Map.put d.memFree d.mem (memKey m a) b }

/-- Read `n` bytes from an address upward. -/
def Dev.memBytes (d : Dev) (m a n : Nat) : List Byte := (List.range n).map (fun i => d.memByte m (a + i))

/-- Write bytes from an address upward. -/
def Dev.setMemBytes : Dev → Nat → Nat → List Byte → Dev
  | d, _, _, [] => d
  | d, m, a, b :: bs => Dev.setMemBytes (d.setMemByte m a b) m (a + 1) bs

/-- MEMC `m` completes bursts of 64 bytes over `n` bytes (R404). -/
def Dev.memBw (d : Dev) (m : Nat) (isWrite : Bool) (n : Nat) : Dev :=
  d.bwAdd (320 + 2 * m + (if isWrite then 1 else 0)) ((n + 63) / 64 * 64)

/-- All content is lost (R300): a new generation of undefined bytes. -/
def Dev.memLose (d : Dev) : Dev := { d with mem := [], memGen := d.memGen + 1, memGenB := d.memGenB + 1 }

/-- The content of one MEMC's store becomes undefined. -/
def Dev.memLoseOne (d : Dev) (m : Nat) : Dev :=
  let d := { d with mem := d.mem.filter (fun e => (e.1 / 2 ^ 34 == 0) != (m == 0)) }
  if m == 0 then { d with memGen := d.memGen + 1 } else { d with memGenB := d.memGenB + 1 }

/-! ### Memory controllers (R297 to R300, R314) -/

/-- A field of a MEMC page. -/
def Dev.mc (d : Dev) (m : Nat) (f : Fld) : Nat := d.rd (.memc m) f

/-- Capacity in MiB that a CFG word gives: 4 × ranks × density (R297). -/
def memcMib (cfg : Word) : Nat :=
  512 * [4, 6, 8, 12, 16].getD (Fld.MEMC_CFG_DENSITY.get cfg) 0 * (Fld.MEMC_CFG_RANKS2.get cfg + 1)

/-- CFG of a MEMC. -/
def Dev.memcCfg (d : Dev) (m : Nat) : Word := d.reg (regKey (.memc m) 0 0x020)

/-- Capacity of a MEMC in bytes. -/
def Dev.memcBytes (d : Dev) (m : Nat) : Nat := memcMib (d.memcCfg m) * 2 ^ 20

/-- Peak bandwidth of a MEMC in MB/s (Table 13.1). -/
def Dev.memcPeak (d : Dev) (m : Nat) : Nat := 8 * [6400, 7500, 8533, 9600].getD (d.mc m .MEMC_CFG_RATE) 0

/-- The MB/s that a MEMC's budget admits. -/
def Dev.memcBudget (d : Dev) (m : Nat) : Nat := d.mc m .MEMC_BUDGET_PERCENT * d.memcPeak m / 100

/-- The MEMC is READY. -/
def Dev.memcReady (d : Dev) (m : Nat) : Bool := d.mc m .MEMC_STAT_STATE == 2

/-- MB/s admitted on a MEMC. -/
def Dev.memcReserved (d : Dev) (m : Nat) : Nat := d.mc m .MEMC_STAT_RESERVED

/-- Record a refused admission (R302, R314): its cause and shortfall. -/
def Dev.admitErr (d : Dev) (cause shortfall : Nat) : Dev :=
  (d.wr .fst .FST_ADMIT_ERR_CAUSE cause).wr .fst .FST_ADMIT_ERR_SHORTFALL (min shortfall 65535)

/-- Why an enable of cost `cost` with a region ending at byte `last` is refused on MEMC `m` (R302, R314), with the shortfall. -/
def Dev.admission (d : Dev) (m cost last : Nat) : Option (Nat × Nat) :=
  let short := d.memcReserved m + cost - d.memcBudget m
  if !(d.memcReady m) then some (3, short)
  else if d.memcBudget m < d.memcReserved m + cost then some (1, short)
  else if d.memcBytes m < last then some (2, 0)
  else none

/-- Reserve or release bandwidth. -/
def Dev.reserve (d : Dev) (m : Nat) (n : Int) : Dev :=
  d.wr (.memc m) .MEMC_STAT_RESERVED (max 0 ((d.memcReserved m : Int) + n)).toNat

/-- Delay line `i` sits on this MEMC (R311). -/
def dlMemc (i : Nat) : Nat := if i < 1792 then 0 else 1

/-- The delay lines enabled on a MEMC. -/
def Dev.dlOn (d : Dev) (m : Nat) : List Nat :=
  (List.range 3584).filter (fun i => dlMemc i == m && d.rdB .fst i .FST_DL_CFG_ENABLE == 1)

/-- A channel or delay line uses the MEMC: a channel enabled by its register, or still running (R298). -/
def Dev.memcUsed (d : Dev) (m : Nat) : Bool :=
  (List.range 320).any (fun c => (d.chf c .FST_CH_CFG_ENABLE == 1 && d.chf c .FST_CH_CFG_MEMC == m) ||
      ((d.chan c).isOn && d.chc c .FST_CH_CFG_MEMC == m)) ||
    !(d.dlOn m).isEmpty

/-- What rejects a write of a MEMC register (R298, R314). -/
def Dev.memcRej (d : Dev) (m off : Nat) (v : Word) : List Rej :=
  if off == 0x020 then
    rejIf (Fld.MEMC_CFG_TYPE.get v == 0 && Fld.MEMC_CFG_RATE.get v != 0) .range ++ rejIf (d.enabled (.memc m)) .state
  else if off == 0x024 then
    rejIf (Fld.MEMC_BUDGET_PERCENT.get v * d.memcPeak m / 100 < d.memcReserved m) .state
  else if off == 0x008 then
    rejIf (d.enabled (.memc m) && Fld.PAGE_CTRL_ENABLE.get v == 0 && d.memcUsed m) .state
  else []

/-- A rejected write of BUDGET shows in ADMIT_ERR (R314). -/
def Dev.memcOnRej (d : Dev) (m off : Nat) (v : Word) (r : Rej) : Dev :=
  if off == 0x024 && r == .state then d.admitErr 1 (d.memcReserved m - Fld.MEMC_BUDGET_PERCENT.get v * d.memcPeak m / 100)
  else d

/-- What follows an accepted write of a MEMC register (R298): initialisation starts, or the MEMC stops. -/
def Dev.memcAfter (d : Dev) (m off : Nat) (old v : Word) : Dev :=
  if off == 0x008 then
    let was := Fld.PAGE_CTRL_ENABLE.get old
    let now := Fld.PAGE_CTRL_ENABLE.get v
    if was == 0 && now == 1 then
      let entry := if m == 0 then d.pwr.memCfg else d.pwr.memCfgB
      let d := { d with pwr := if m == 0 then { d.pwr with memCfg := none } else { d.pwr with memCfgB := none } }
      (if entry.isSome && entry != some (d.memcCfg m) then d.memLoseOne m else d).wr (.memc m) .MEMC_STAT_STATE 1
    else if was == 1 && now == 0 then (d.wr (.memc m) .MEMC_STAT_STATE 0).wr (.memc m) .MEMC_STAT_DERATE 0
    else d
  else d

/-- Training ends (R298, R300). -/
def Dev.memcTrained (d : Dev) (m : Nat) (pass : Bool) (failCh : Nat) : Dev :=
  if d.mc m .MEMC_STAT_STATE != 1 then d
  else if pass then (d.wr (.memc m) .MEMC_STAT_STATE 2).setEvt (.memc m) 8
  else ((d.wr (.memc m) .MEMC_STAT_STATE 4).wr (.memc m) .MEMC_STAT_FAIL_CH failCh).setEvt (.memc m) 9

/-- A periodic retraining (R299): traffic goes on; DERATE follows the devices' temperature registers. -/
def Dev.memcRetrain (d : Dev) (m : Nat) (derate : Bool) : Dev :=
  if d.memcReady m then d.wrOn (.memc m) .MEMC_STAT_DERATE derate else d

/-! ### Channels: format, geometry and cost (R301, R313) -/

/-- The domain of a channel: its register's, or for capture the one its context names (R310). -/
def Dev.chDom (d : Dev) (c : Nat) : Nat :=
  if c < 288 then d.chc c .FST_CH_CFG_TDOM else cxTdom ((d.tc (1408 + (c - 288))).ac d.readWall)

/-- The format of a channel: its domain's. -/
def Dev.chFmt (d : Dev) (c : Nat) : Nat := d.domFmt (d.chDom c)

/-- The bond pattern that a channel's tiles have by Table 6.3 and Table 6.4: a synchroniser's, of its source's mode with the channel's format, whether the
source is locked or not; a capture tile's, its source's where that carries the domain's format, and the format's own otherwise. -/
def Dev.chPatternOf (d : Dev) (c : Nat) : Nat :=
  if c < 256 then
    let s := d.chc c .FST_CH_CFG_SRC_TILE
    if s < 1152 then patternOf (d.rxMode (s / 8)) (d.chFmt c) else d.tilePattern s
  else if c < 288 then d.chc c .FST_CH_CFG_BOND
  else
    let p := ((d.srcBond (cxSrc ((d.tc (1408 + (c - 288))).ac d.readWall))).1).headD 0
    if patternFmts p (d.chFmt c) then p else fmtPattern (d.chFmt c)

/-- The bond pattern in force: a synchroniser keeps the one it was admitted with. -/
def Dev.chPattern (d : Dev) (c : Nat) : Nat :=
  match (d.chan c).conf with
  | some x => if c < 256 then x.pat else d.chPatternOf c
  | none => d.chPatternOf c

/-- The members that a channel serves as a lead. -/
def Dev.chWidth (d : Dev) (c : Nat) : Nat :=
  match (d.chan c).conf with
  | some x => x.width
  | none =>
    if c < 256 then max 1 (d.tileBond (d.chc c .FST_CH_CFG_SRC_TILE)).length
    else if c < 288 then patternWidth (d.chc c .FST_CH_CFG_BOND)
    else 1

/-- Active bricks per line of a channel's tile. -/
def Dev.chBact (d : Dev) (c : Nat) : Nat := patternBricks (d.chPattern c) (d.chFmt c)

/-- Bytes of a line record (R301). -/
def lineBytes (bact : Nat) : Nat := (20 * bact + 512 + 63) / 64 * 64

/-- Bytes of a frame slot (R301). -/
def slotBytes (bact lines : Nat) : Nat := (lines * lineBytes bact + 65535) / 65536 * 65536

/-- Bytes of a channel's frame slot. -/
def Dev.chSlot (d : Dev) (c : Nat) : Nat := slotBytes (d.chBact c) (fmtLines (d.chFmt c))

/-- Frame slots per member: DEPTH of a synchroniser, FRAMES otherwise. -/
def Dev.chSlots (d : Dev) (c : Nat) : Nat :=
  if c < 256 then d.chc c .FST_CH_CFG_DEPTH else d.chc c .FST_CH_FRAMES_FRAMES

/-- The byte address of line `line` of slot `f` of member `m` of lead channel `c` (R301). -/
def Dev.chLineAddr (d : Dev) (c m f line : Nat) : Nat :=
  d.chc c .FST_CH_BASE_BASE * 65536 + (m * d.chSlots c + f) * d.chSlot c + (line - 1) * lineBytes (d.chBact c)

/-- The end of a channel's region in bytes. -/
def Dev.chEnd (d : Dev) (c : Nat) : Nat :=
  d.chc c .FST_CH_BASE_BASE * 65536 + d.chWidth c * d.chSlots c * d.chSlot c

/-- Cost per tile in MB/s: ⌈lines per second × S / 10⁶⌉ (R313). -/
def tileCost (fmt bact : Nat) : Nat :=
  match fmtOf fmt with
  | none => 0
  | some f =>
    let perSec := f.lines * f.fps * lineBytes bact
    if f.family == 1 then (perSec * 1000 + 1001 * 10 ^ 6 - 1) / (1001 * 10 ^ 6) else (perSec + 10 ^ 6 - 1) / 10 ^ 6

/-- The cost of a channel as configured (R313, CH_COST). -/
def Dev.chCost (d : Dev) (c : Nat) : Nat :=
  tileCost (d.chFmt c) (d.chBact c) * d.chWidth c * (if c < 256 then 2 else 1)

/-! ### States and configuration -/

/-- STATE of a channel. -/
def Dev.chState (d : Dev) (c : Nat) : Nat := d.chf c .FST_CH_STAT_STATE
/-- Write STATE of a channel; a synchroniser's state begins with no complete frame. -/
def Dev.setChState (d : Dev) (c s : Nat) : Dev :=
  (d.wrB .fst c .FST_CH_STAT_STATE s).setChan c { d.chan c with ready := false, lossFrames := 0 }
/-- POS of a channel. -/
def Dev.chPos (d : Dev) (c : Nat) : Nat := d.chf c .FST_CH_STAT_POS

/-- A lead channel other than `c` itself, whose enable waits, will serve its bond with channel `c` too. -/
def Dev.chAwaited (d : Dev) (c : Nat) : Bool :=
  d.chans.any (fun e => match e.2.start with
    | some x => e.1 < c && c < e.1 + x.width
    | none => false)

/-- The channel serves a bond as a member (R303, R309). -/
def Dev.chServes (d : Dev) (c : Nat) : Bool := ((d.chan c).lead.isSome && (d.chan c).lead != some c) || d.chAwaited c

/-- The members of a lead channel's bond. -/
def Dev.chMembers (d : Dev) (c : Nat) : List Nat :=
  c :: (d.chans.filter (fun e => e.1 != c && e.2.lead == some c)).map (·.1)

/-- The input tile is a member of an enabled input protection group of kind 0 or 1. -/
def Dev.tileProtected (d : Dev) (t : Nat) : Bool :=
  d.groups.any (fun e => e.2.enabled &&
    (if d.pg e.1 .PROT_PG_CFG_KIND == 1 then
      1152 ≤ t && (d.pg e.1 .PROT_PG_CFG_W_LEAD == (t - 1152) / 16 || d.pg e.1 .PROT_PG_CFG_P_LEAD == (t - 1152) / 16)
    else (d.memberTiles (d.pg e.1 .PROT_PG_CFG_W_LEAD)).contains t || (d.memberTiles (d.pg e.1 .PROT_PG_CFG_P_LEAD)).contains t))

/-- An enabled channel other than `c` names the tile. -/
def Dev.chNames (d : Dev) (c t : Nat) : Bool :=
  d.chans.any (fun e => e.1 != c && e.1 < 256 && (e.2.tile == some t || (match e.2.start with
    | some x => x.tiles.contains t
    | none => false)))

/-- A word in place of a channel's CH_CFG, as an enable would find it: with nothing in force. -/
def Dev.withChCfg (d : Dev) (c : Nat) (v : Word) : Dev := (d.setReg (regKey .fst c 0x024) v).setChan c { d.chan c with conf := none }

/-- What an enable of channel `c` fails on beside admission (R303, R304, R309). -/
def Dev.chEnableRej (d : Dev) (c : Nat) : Bool :=
  let w := d.chWidth c
  let others := ((List.range w).drop 1).map (c + ·)
  let busy := others.any (fun x => d.chf x .FST_CH_CFG_ENABLE == 1 || ((d.chan x).lead.isSome && (d.chan x).lead != some c) || d.chAwaited x)
  if c < 256 then
    let s := d.chc c .FST_CH_CFG_SRC_TILE
    c % w != 0 || busy || d.tileLead s != s || (d.tileBond s).isEmpty || d.chNames c s || d.tileProtected s
  else if c < 288 then (c - 256) % w != 0 || 288 < c + w || busy
  else false

/-- The masked fields whose change an enabled channel refuses (R302). -/
def chFixed : Word := 0x7FFCF7FF#32

/-- What rejects a write of CH_CFG of channel `c`; `old` is the word before (R302 to R304, R306, R309, R314). -/
def Dev.chCfgRej (d : Dev) (c : Nat) (old v : Word) : List Rej :=
  let depth := Fld.FST_CH_CFG_DEPTH.get v
  let delay := Fld.FST_CH_CFG_DELAY.get v
  let was := Fld.FST_CH_CFG_ENABLE.get old == 1
  let now := Fld.FST_CH_CFG_ENABLE.get v == 1
  let e := d.withChCfg c v
  rejIf (delay < 1 || depth - 2 < delay) .range ++
    rejIf (d.chServes c && now) .state ++
    rejIf (was && (old &&& chFixed) != (v &&& chFixed)) .state ++
    rejIf (!was && now && (e.chEnableRej c || (e.admission (e.chc c .FST_CH_CFG_MEMC) (e.chCost c) (e.chEnd c)).isSome)) .state

/-- A refused enable shows in ADMIT_ERR where admission refuses it. -/
def Dev.chCfgOnRej (d : Dev) (c : Nat) (old v : Word) (r : Rej) : Dev :=
  if r == .state && Fld.FST_CH_CFG_ENABLE.get old == 0 && Fld.FST_CH_CFG_ENABLE.get v == 1 && !(d.chServes c) then
    let e := d.withChCfg c v
    if e.chEnableRej c then d
    else match e.admission (e.chc c .FST_CH_CFG_MEMC) (e.chCost c) (e.chEnd c) with
      | some x => (d.admitErr x.1 x.2).setEvt .fst 12
      | none => d
  else d

/-- The bandwidth of a configuration is released on its MEMC. -/
def Dev.confRelease (d : Dev) (x : Option ChanConf) : Dev :=
  match x with
  | some x => d.reserve (Fld.FST_CH_CFG_MEMC.get x.cfg) (-(x.cost : Int))
  | none => d

/-- A channel stops in effect: OFF, nothing replaced, bandwidth released; an enable that waits goes on waiting. -/
def Dev.chOff (d : Dev) (c : Nat) : Dev :=
  let x := d.chan c
  let d := d.confRelease x.conf
  let ms := d.chMembers c
  let d := d.wrB .fst c .FST_CH_STAT_STATE 0
  (ms.foldl (fun e m => e.setChan m {}) d).setChan c { start := x.start }

/-- The configuration that an enable of channel `c` admits, from its registers. -/
def Dev.chConf (d : Dev) (c : Nat) : ChanConf :=
  { cfg := d.reg (regKey .fst c 0x024), base := d.reg (regKey .fst c 0x028), frames := d.reg (regKey .fst c 0x02C)
    pat := d.chPatternOf c, width := d.chWidth c, cost := d.chCost c
    tiles := if c < 256 then d.tileBond (d.chc c .FST_CH_CFG_SRC_TILE) else [] }

/-- A channel starts in effect (R306, R309, R310). -/
def Dev.chOn (d : Dev) (c : Nat) (x : ChanConf) : Dev :=
  let d := (List.range x.width).foldl (fun e m => e.setChan (c + m) { lead := some c, tile := x.tiles[m]?, isOn := true }) d
  let d := d.setChan c { d.chan c with conf := some x }
  if c < 256 then d.setChState c 1
  else (d.setChState c 1).wrB .fst c .FST_CH_STAT_POS 0

/-- What follows an accepted write of CH_CFG (R302): the enable is admitted now and takes effect at the next frame start. A
disable in a domain that is off takes effect at once, and one of an enable that still waits cancels it. -/
def Dev.chCfgAfter (d : Dev) (c : Nat) (old v : Word) : Dev :=
  let was := Fld.FST_CH_CFG_ENABLE.get old == 1
  let now := Fld.FST_CH_CFG_ENABLE.get v == 1
  if !was && now then
    let e := d.setChan c { d.chan c with conf := none }
    let x := e.chConf c
    (d.reserve (Fld.FST_CH_CFG_MEMC.get x.cfg) x.cost).setChan c { d.chan c with start := some x }
  else if was && !now then
    let i := d.chan c
    if i.start.isSome then (d.confRelease i.start).setChan c { i with start := none }
    else if !i.isOn || d.chFmt c == 0 then d.chOff c
    else d.setChan c { i with stop := true }
  else d

/-! ### The write side of a synchroniser (R305) -/

/-- The input of a channel's tiles arrives: every member is framed. -/
def Dev.chInput (d : Dev) (c : Nat) : Bool :=
  (d.chMembers c).all (fun m => match (d.chan m).tile with
    | some t => d.tileFramed t
    | none => false)

/-- The source's format equals the domain's. -/
def Dev.chFmtOk (d : Dev) (c : Nat) : Bool :=
  match (d.chan c).tile with
  | some t => d.tileFmt t == d.chFmt c && d.chFmt c != 0
  | none => false

/-- The frame being written is interrupted: it is never read, and its slot is written anew. -/
def Dev.chBreak (d : Dev) (c : Nat) : Dev :=
  (d.chMembers c).foldl (fun e m => e.setChan m { e.chan m with writing := false, wline := 0 }) d

/-- A running synchroniser follows its input (Table 13.3, R304, R307). -/
def Dev.chFollow (d : Dev) (c : Nat) : Dev :=
  if !(d.enabled .fst && (d.chan c).isOn && (d.chan c).lead == some c) then d
  else
    let s := d.chState c
    if !(d.chInput c) then
      let d := if (d.chan c).writing then d.chBreak c else d
      if s == 2 then ((d.setChState c 3).addB .fst c .FST_CH_CNT2_LOSS 1).setEvt .fst 8 else d
    else if d.chFmtOk c then d
    else
      let d := if (d.chan c).writing then d.chBreak c else d
      if s == 1 || s == 2 || s == 3 then d.setChState c 4 else d

/-- Every synchroniser follows its input. -/
def Dev.fsSettle (d : Dev) : Dev := ((d.chans.map (·.1)).filter (· < 256)).foldl (fun e c => e.chFollow c) d

/-- The bytes of a line's ancillary area, and the records that did not fit: horizontal records first, each whole, a word of 0 after
the last if room remains (R301). -/
def ancArea (rs : List PktRec) : List Word × Nat :=
  let rs := rs.filter (fun r => !r.vert) ++ rs.filter (fun r => r.vert)
  let x := rs.foldl (fun (a : List Word × Nat) r =>
    if a.1.length + r.words.length ≤ 128 then (a.1 ++ r.words, a.2) else (a.1, a.2 + 1)) ([], 0)
  (if x.1.length < 128 then x.1 ++ [0] else x.1, x.2)

/-- A count of late items of a channel (Table 13.4): the channel's and the MEMC's, with the LATE events where a count rises. -/
def Dev.chLate (d : Dev) (c : Nat) (f : Fld) (n : Nat) : Dev :=
  let mc := d.chc c .FST_CH_CFG_MEMC
  let e := (d.addB .fst c .FST_CH_CNT2_LATE n).add (.memc mc) f n
  let up := e.chf c .FST_CH_CNT2_LATE != d.chf c .FST_CH_CNT2_LATE || e.mc mc f != d.mc mc f
  (e.setEvtIf up .fst 10).setEvtIf up (.memc mc) 10

/-- Write a line record of lead channel `c`, member `m`, slot `f` (R301). -/
def Dev.putLine (d : Dev) (c m f line : Nat) (bs : List Brick) (rs : List PktRec) : Dev :=
  let mc := d.chc c .FST_CH_CFG_MEMC
  let a := d.chLineAddr c m f line
  let bytes := (bs.take (d.chBact c)).flatMap (fun b => payloadBytes b.payload)
  let area := ancArea rs
  let d := d.setMemBytes mc a bytes
  let d := d.setMemBytes mc (a + 20 * d.chBact c) (area.1.flatMap wordBytes)
  (d.addB .fst (c + m) .FST_CH_CNT3_ANC_OVER area.2).memBw mc true (lineBytes (d.chBact c))

/-- The MEMC of a channel carries traffic (R298). -/
def Dev.chTraffic (d : Dev) (c : Nat) : Bool := d.memcReady (d.chc c .FST_CH_CFG_MEMC)

/-- A line of an input tile reaches the frame store ahead of the course aligner (R303, R305). A late line, and every line while the MEMC
carries no traffic (R298), leaves the slot's older content and counts (Table 13.4). -/
def Dev.fsLine (d : Dev) (t line : Nat) (bs : List Brick) (isLate : Bool) : Dev :=
  match d.syncOf t with
  | none => d
  | some x =>
    let c := d.chLead x
    if !(d.chFmtOk c) then d
    else
      let d := if line == 1 then
          let n := (d.chan c).newest + 1
          let d := d.setChan x { d.chan x with writing := true, wline := 0 }
          if x == c then d.setChan c { d.chan c with arrivals := ((n, (d.tile t).frameAt) :: (d.chan c).arrivals).take 17 } else d
        else d
      let i := d.chan x
      if !i.writing || i.wline + 1 != line then d
      else
        let f := (((d.chan c).newest + 1) % (d.chSlots c : Int)).toNat
        let rs := (d.tile t).anc.filter (fun r => r.line == line)
        let d := if isLate || !(d.chTraffic c) then d.chLate c .MEMC_LATE_WR_COUNT 1 else d.putLine c (x - c) f line bs rs
        d.setChan x { d.chan x with wline := line }

/-- FS_FRAME_WRITTEN: every member has its last line, and the frame is complete; or input was lost, and it is unreadable. -/
def Dev.fsFrame (d : Dev) (c : Nat) : Dev :=
  let i := d.chan c
  if !(i.isOn && i.lead == some c && i.writing) then d
  else if d.chInput c && (d.chMembers c).all (fun m => (d.chan m).wline == fmtLines (d.chFmt c)) then
    let d := d.chBreak c
    d.setChan c { d.chan c with newest := i.newest + 1, ready := true }
  else d.chBreak c

/-! ### Frame starts of a domain (R302, R306, R307, R309, R310) -/

/-- RUN is entered with lag = DELAY (R306). -/
def Dev.chRun (d : Dev) (c : Nat) : Dev :=
  let d := d.setChState c 2
  let d := d.setChan c { d.chan c with r := (d.chan c).newest - (d.chc c .FST_CH_CFG_DELAY : Int) + 1, cmd := 0 }
  d.wrB .fst c .FST_CH_STAT_LAG (d.chc c .FST_CH_CFG_DELAY)

/-- The choice of R306 at a frame start in RUN. -/
def Dev.chChoose (d : Dev) (c : Nat) : Dev :=
  let i := d.chan c
  let depth : Int := d.chc c .FST_CH_CFG_DEPTH
  let delay : Int := d.chc c .FST_CH_CFG_DELAY
  let n := i.r + 1
  let lag := i.newest - n + 1
  let d := d.wrB .fst c .FST_CH_STAT_LAG (min 15 (max 0 lag).toNat)
  if lag < 1 then (d.addB .fst c .FST_CH_CNT_REPEATS 1).setEvt .fst 9
  else if depth - 2 < lag then
    let goal := i.newest - delay + 1
    ((d.addB .fst c .FST_CH_CNT_DROPS (goal - n).toNat).setChan c { i with r := goal }).setEvt .fst 9
  else d.setChan c { i with r := n }

/-- A synchroniser at a frame start of its domain. -/
def Dev.syncFrame (d : Dev) (c : Nat) : Dev :=
  let i := d.chan c
  match d.chState c with
  | 1 => if i.ready then d.chRun c else d
  | 2 => (d.chChoose c).chFollow c
  | 3 => if i.ready then d.chRun c else d.setChan c { i with lossFrames := i.lossFrames + 1 }
  | 4 => if i.ready && d.chFmtOk c then d.chRun c else d.setChan c { i with lossFrames := i.lossFrames + 1 }
  | 5 => if i.cmd == 2 then (d.chRun c).chFollow c else d
  | _ => d

/-- A playout channel at a frame start of its domain, whose frame count is now `fcnt` (R309). -/
def Dev.playFrame (d : Dev) (c fcnt : Nat) : Dev :=
  let i := d.chan c
  let last := d.chc c .FST_CH_FRAMES_FRAMES - 1
  let s := d.chState c
  let done := d.setChan c { i with cmd := 0 }
  let starts := i.cmd == 1 || (i.cmd == 3 && fcnt % 65536 == i.playAt)
  if starts && s != 2 then done.wrB .fst c .FST_CH_STAT_STATE 2
  else if s == 2 then
    let d := if starts then done else d
    let d :=
      if d.chPos c < last then d.wrB .fst c .FST_CH_STAT_POS (d.chPos c + 1)
      else if d.chc c .FST_CH_CFG_LOOP_RING == 1 then d.wrB .fst c .FST_CH_STAT_POS 0
      else d.wrB .fst c .FST_CH_STAT_STATE 3
    if i.cmd == 2 then (d.setChan c { i with cmd := 0 }).wrB .fst c .FST_CH_STAT_STATE 1 else d
  else if i.cmd == 2 then done.wrB .fst c .FST_CH_STAT_STATE 1
  else d

/-- A capture channel at a frame start of its context's domain (R310). -/
def Dev.captureFrame (d : Dev) (c : Nat) : Dev :=
  let i := d.chan c
  let frames := d.chc c .FST_CH_FRAMES_FRAMES
  let s := d.chState c
  if s == 2 then
    let p := d.chPos c + 1
    let ring := d.chc c .FST_CH_CFG_LOOP_RING == 1
    let d := d.wrB .fst c .FST_CH_STAT_POS (if ring then p % frames else p)
    if i.cmd == 2 || (!ring && frames ≤ p) then
      ((d.setChan c { i with cmd := 0 }).wrB .fst c .FST_CH_STAT_STATE 3).setEvt .fst 11
    else d
  else if i.cmd == 1 then
    ((d.setChan c { i with cmd := 0 }).wrB .fst c .FST_CH_STAT_STATE 2).wrB .fst c .FST_CH_STAT_POS 0
  else d

/-- LOSS_ACT, LOOP and RING as the register has them act from this frame start on (R302). -/
def Dev.chLatch (d : Dev) (c : Nat) : Dev :=
  match (d.chan c).conf with
  | some x => d.setChan c { d.chan c with conf := some { x with cfg := d.reg (regKey .fst c 0x024) } }
  | none => d

/-- One channel at a frame start: a waiting disable and a waiting enable first. -/
def Dev.chFrame (d : Dev) (c fcnt : Nat) : Dev :=
  let d := if (d.chan c).stop then d.chOff c else d
  match (d.chan c).start with
  | some x => d.chOn c x
  | none =>
    if !((d.chan c).isOn && (d.chan c).lead == some c) then d
    else
      let d := d.chLatch c
      if c < 256 then d.syncFrame c
      else if c < 288 then d.playFrame c fcnt
      else d.captureFrame c

/-- The domain at whose frame starts a channel acts: of the configuration in force, else of the enable that waits. -/
def Dev.chTurn (d : Dev) (c : Nat) : Nat :=
  match (d.chan c).conf, (d.chan c).start with
  | none, some x => if c < 288 then Fld.FST_CH_CFG_TDOM.get x.cfg else d.chDom c
  | _, _ => d.chDom c

/-- The frame-store channels at a frame start of domain `k`. -/
def Dev.fsFrameStart (d : Dev) (k fcnt : Nat) : Dev :=
  if !(d.enabled .fst) || d.lanesIdle then d
  else ((d.chans.map (·.1)).filter (fun c => d.chTurn c == k)).foldl (fun e c => e.chFrame c fcnt) d

/-- CH_DELAY of the synchronisers of domain `k` at the read point of course 1 (R308). -/
def Dev.fsDelay (d : Dev) (k : Nat) : Dev :=
  ((d.chans.map (·.1)).filter (fun c => c < 256 && d.chDom c == k && d.chState c == 2 && (d.chan c).lead == some c)).foldl
    (fun e c => match (e.chan c).arrivals.find? (fun a => a.1 == (e.chan c).r) with
      | some a => e.wrB .fst c .FST_CH_DELAY_TICKS (min (e.since a.2) (2 ^ 32 - 1))
      | none => e) d

/-! ### Commands (CH_CTL) -/

/-- What rejects a write of CH_CTL (R309, R310). -/
def Dev.chCtlRej (d : Dev) (c : Nat) (v : Word) : List Rej :=
  let cmd := Fld.FST_CH_CTL_CMD.get v
  let l := d.chLead c
  if c < 256 then rejIf (cmd == 3) .range
  else if c < 288 then
    let diff := (Fld.FST_CH_CTL_FRAME.get v + 65536 - d.rd (.tdom (d.chDom l)) .TDOM_FCNT_FCNT % 65536) % 65536
    rejIf (cmd == 3 && (diff == 0 || 32768 ≤ diff)) .state
  else rejIf (cmd == 3) .range ++ rejIf (cmd == 1 && d.chState c == 2) .state

/-- A write of CH_CTL: FREEZE and UNFREEZE, PLAY, STOP and PLAY_AT, START and STOP. A command that the channel's state gives no use
for has no effect. -/
def Dev.chCtl (d : Dev) (c : Nat) (v : Word) : Dev :=
  let cmd := Fld.FST_CH_CTL_CMD.get v
  let l := d.chLead c
  let i := d.chan l
  let s := d.chState l
  if cmd == 0 || !i.isOn then d
  else if c < 256 then
    if cmd == 1 then if s == 2 then d.wrB .fst l .FST_CH_STAT_STATE 5 else d
    else if s == 5 then d.setChan l { i with cmd := 2 } else d
  else if c < 288 then d.setChan l { i with cmd := cmd, playAt := Fld.FST_CH_CTL_FRAME.get v }
  else if cmd == 2 && s != 2 then d.setChan l { i with cmd := 0 }
  else d.setChan l { i with cmd := cmd }

/-! ### What a channel delivers -/

/-- A line of a frame slot, read from memory. -/
def Dev.getLine (d : Dev) (c m f line : Nat) : List Brick :=
  let mc := d.chc c .FST_CH_CFG_MEMC
  let a := d.chLineAddr c m f line
  lineOfPayloads line ((List.range (d.chBact c)).map (fun i => bytesPayload (d.memBytes mc (a + 20 * i) 20)))

/-- The ancillary records of a line of a frame slot, as the area of R301 holds them. -/
def Dev.getRecs (d : Dev) (c m f line : Nat) : List PktRec :=
  let mc := d.chc c .FST_CH_CFG_MEMC
  let a := d.chLineAddr c m f line + 20 * d.chBact c
  recsOf 128 ((List.range 128).map (fun i => bytesWord (d.memBytes mc (a + 4 * i) 4)))

/-- The black bricks of an active line (R194). -/
def Dev.blackLine (d : Dev) (n line : Nat) : List Brick :=
  let p := flatPayload (BitVec.ofNat 10 (d.rd .fab .FAB_BLACK_LO)) (BitVec.ofNat 10 (d.rd .fab .FAB_BLACK_HI))
  lineOfPayloads line (List.replicate n p)

/-- The slot that a synchroniser or playout channel delivers; none where it delivers black. -/
def Dev.chSlotNow (d : Dev) (c : Nat) : Option Nat :=
  if c < 256 then
    let act := d.chc c .FST_CH_CFG_LOSS_ACT
    let s := d.chState c
    let frozen := some ((d.chan c).r % (d.chSlots c : Int)).toNat
    if s == 3 || s == 4 then
      if act == 0 || (act == 1 && (d.chan c).lossFrames < 25) then frozen else none
    else frozen
  else some (d.chPos c)

/-- The line that channel `x` delivers in a course, and its records; bricks that never come where the MEMC carries no traffic. -/
def Dev.chLine (d : Dev) (x line : Nat) : List Brick × List PktRec :=
  let c := d.chLead x
  match d.chSlotNow c with
  | some f =>
    if d.chTraffic c then (d.getLine c (x - c) f line, d.getRecs c (x - c) f line)
    else (List.replicate (d.chBact c) ({ kind := .void } : Brick).sealed, [])
  | none => (d.blackLine (d.chBact c) line, [])

/-- The reads of the channels that deliver a line in a course of domain `k` (R307, R309, R404). -/
def Dev.fsReads (d : Dev) (k : Nat) : Dev :=
  (d.chans.filter (fun e => e.1 < 288 && e.2.isOn && d.chDom (d.chLead e.1) == k && (d.chSlotNow (d.chLead e.1)).isSome)).foldl
    (fun e x =>
      let c := d.chLead x.1
      if d.chTraffic c then e.memBw (d.chc c .FST_CH_CFG_MEMC) false (lineBytes (d.chBact c))
      else e.chLate c .MEMC_LATE_RD_COUNT (d.chBact c)) d

/-- A capture tile's line in its course is written (R310). -/
def Dev.captureLine (d : Dev) (c line : Nat) (bs : List Brick) (rs : List PktRec) (isLate : Bool) : Dev :=
  if !(d.enabled .fst && (d.chan c).isOn && d.chState c == 2) then d
  else if isLate || !(d.chTraffic c) then d.chLate c .MEMC_LATE_WR_COUNT 1
  else d.putLine c 0 (d.chPos c) line bs rs

/-! ### Audio delay lines (R311) -/

/-- A delay line's state. -/
def Dev.delay (d : Dev) (i : Nat) : DelayI := Map.get (fun _ => {}) d.delays i
/-- Write it. -/
def Dev.setDelay (d : Dev) (i : Nat) (v : DelayI) : Dev := { d with delays := Map.put (fun _ => {}) d.delays i v }

/-- The first byte of a delay line's memory. -/
def Dev.dlBase (d : Dev) (i : Nat) : Nat :=
  if i < 1792 then d.rd .fst .FST_DL_BASE0_BASE * 65536 + 393216 * i
  else d.rd .fst .FST_DL_BASE1_BASE * 65536 + 393216 * (i - 1792)

/-- DL_CFG of a delay line. -/
def Dev.dlf (d : Dev) (i : Nat) (f : Fld) : Nat := d.rdB .fst i f

/-- The delay line runs. -/
def Dev.dlRuns (d : Dev) (i : Nat) : Bool := d.enabled .fst && d.dlf i .FST_DL_CFG_ENABLE == 1

/-- What rejects a write of DL_CFG (R302, R311, R314). -/
def Dev.dlRej (d : Dev) (i : Nat) (old v : Word) : List Rej :=
  rejIf (Fld.FST_DL_CFG_ENABLE.get old == 0 && Fld.FST_DL_CFG_ENABLE.get v == 1 &&
    (d.admission (dlMemc i) 1 (d.dlBase i + 393216)).isSome) .state

/-- A refused enable of a delay line shows in ADMIT_ERR. -/
def Dev.dlOnRej (d : Dev) (i : Nat) (old v : Word) (r : Rej) : Dev :=
  if r == .state && Fld.FST_DL_CFG_ENABLE.get old == 0 && Fld.FST_DL_CFG_ENABLE.get v == 1 then
    match d.admission (dlMemc i) 1 (d.dlBase i + 393216) with
    | some x => (d.admitErr x.1 x.2).setEvt .fst 12
    | none => d
  else d

/-- What follows an accepted write of DL_CFG: a start, a stop, or a ramp to the new delay. -/
def Dev.dlAfter (d : Dev) (i : Nat) (old v : Word) : Dev :=
  let was := Fld.FST_DL_CFG_ENABLE.get old == 1
  let now := Fld.FST_DL_CFG_ENABLE.get v == 1
  if !was && now then (d.reserve (dlMemc i) 1).setDelay i {}
  else if was && !now then (d.reserve (dlMemc i) (-1)).setDelay i {}
  else if now && Fld.FST_DL_CFG_DELAY.get old != Fld.FST_DL_CFG_DELAY.get v then
    d.setDelay i { d.delay i with oldDelay := Fld.FST_DL_CFG_DELAY.get old, ramp := 0, fromI := false }
  else d

/-- The sample written `n` periods ago, read from memory; silence until there is one. -/
def Dev.dlSample (d : Dev) (i n : Nat) : Word :=
  let x := d.delay i
  if x.written < n then 0
  else bytesWord (d.memBytes (dlMemc i) (d.dlBase i + 4 * ((x.written - n) % 98304)) 4)

/-- Write the sample of a house sample period; a MEMC that carries no traffic stores none (R298). -/
def Dev.dlWrite (d : Dev) (i : Nat) (w : Word) : Dev :=
  let x := d.delay i
  if !(d.memcReady (dlMemc i)) then d.setDelay i { x with written := x.written + 1, ramp := min 48 (x.ramp + 1) }
  else ((d.setMemBytes (dlMemc i) (d.dlBase i + 4 * (x.written % 98304)) (wordBytes w)).setDelay i
    { x with written := x.written + 1, ramp := min 48 (x.ramp + 1) }).memBw (dlMemc i) true (64 * Config.delayBursts i x.written true)

/-! ### The FST page -/

/-- What rejects a write of an FST register; `old` is the word before. -/
def Dev.fstRej (d : Dev) (off : Nat) (old v : Word) : List Rej :=
  let c := d.rd .fst .FST_CH_SEL_CH
  if off == 0x024 then d.chCfgRej c old v
  else if off == 0x028 || off == 0x02C then rejIf (d.chf c .FST_CH_CFG_ENABLE == 1 && old != v) .state
  else if off == 0x030 then d.chCtlRej c v
  else if off == 0x054 then d.dlRej (d.rd .fst .FST_DL_SEL_LINE) old v
  else if off == 0x058 then rejIf (!(d.dlOn 0).isEmpty) .state
  else if off == 0x05C then rejIf (!(d.dlOn 1).isEmpty) .state
  else if off == 0x064 then
    rejIf (d.memcBytes (Fld.FST_APERTURE_BASE_MEMC.get v) < (Fld.FST_APERTURE_BASE_WINDOW.get v + 1) * 2 ^ 25) .range
  else []

/-- What a rejected write of an FST register leaves. -/
def Dev.fstOnRej (d : Dev) (off : Nat) (old v : Word) (r : Rej) : Dev :=
  if off == 0x024 then d.chCfgOnRej (d.rd .fst .FST_CH_SEL_CH) old v r
  else if off == 0x054 then d.dlOnRej (d.rd .fst .FST_DL_SEL_LINE) old v r
  else d

/-- FST.CTL.CNT_CLR: the counts of every channel and of both MEMC pages. -/
def Dev.fstCntClr (d : Dev) : Dev :=
  let d := (List.range 320).foldl (fun e c =>
    [Fld.FST_CH_CNT_DROPS, .FST_CH_CNT_REPEATS, .FST_CH_CNT2_LATE, .FST_CH_CNT2_LOSS, .FST_CH_CNT3_ANC_OVER].foldl
      (fun e f => e.wrB .fst c f 0) e) d
  [0, 1].foldl (fun e m =>
    [Fld.MEMC_LATE_RD_COUNT, .MEMC_LATE_WR_COUNT, .MEMC_LATE_AUD_COUNT, .MEMC_MGMT_WAIT_MAX].foldl
      (fun e f => e.wr (.memc m) f 0) e) d

/-- Every channel and delay line behaves as disabled (FST.PAGE_CTRL.ENABLE = 0, and resets); configuration and reservation stay.
A disable that waits is complete with it. -/
def Dev.fstStop (d : Dev) : Dev :=
  let d := (d.chans.map (·.1)).foldl (fun e c =>
    let i := e.chan c
    if i.stop then e.chOff c
    else (e.wrB .fst c .FST_CH_STAT_STATE 0).setChan c { tile := i.tile, lead := i.lead, conf := i.conf, start := i.start }) d
  (d.delays.map (·.1)).foldl (fun e i => e.setDelay i {}) d

/-- FST is enabled again: configured channels start at their next frame start. -/
def Dev.fstStart (d : Dev) : Dev :=
  (d.chans.map (·.1)).foldl (fun e c =>
    let i := e.chan c
    if i.lead == some c && i.start.isNone then e.setChan c { i with conf := none, start := i.conf } else e) d

/-- What follows an accepted write of an FST register. -/
def Dev.fstAfter (d : Dev) (off : Nat) (old v : Word) : Dev :=
  let c := d.rd .fst .FST_CH_SEL_CH
  if off == 0x024 then d.chCfgAfter c old v
  else if off == 0x030 then d.chCtl c v
  else if off == 0x054 then d.dlAfter (d.rd .fst .FST_DL_SEL_LINE) old v
  else if off == 0x068 then if Fld.FST_CTL_CNT_CLR.get v == 1 then d.fstCntClr else d
  else if off == 0x008 then
    let was := Fld.PAGE_CTRL_ENABLE.get old
    let now := Fld.PAGE_CTRL_ENABLE.get v
    if was == 1 && now == 0 then d.fstStop else if was == 0 && now == 1 then d.fstStart else d
  else d

/-- Every channel and delay line is OFF with its configuration as the registers now have it, and nothing is reserved. -/
def Dev.fstClear (d : Dev) : Dev :=
  [0, 1].foldl (fun e m => e.wr (.memc m) .MEMC_STAT_RESERVED 0) { d with chans := [], delays := [] }

/-- The aperture's MEMC and byte address for an offset in the 32 MiB window (R315). -/
def Dev.apertureAt (d : Dev) (off : Nat) : Nat × Nat :=
  (d.rd .fst .FST_APERTURE_BASE_MEMC, d.rd .fst .FST_APERTURE_BASE_WINDOW * 2 ^ 25 + off)

/-- What a configuration reserves on MEMC `m`. -/
def confCost (m : Nat) (x : Option ChanConf) : Nat :=
  match x with
  | some x => if Fld.FST_CH_CFG_MEMC.get x.cfg == m then x.cost else 0
  | none => 0

/-- RESERVED of a MEMC is what its channels, in force or waiting, and its delay lines reserve (R314). -/
def Dev.reserveAgain (d : Dev) (m : Nat) : Dev :=
  d.wr (.memc m) .MEMC_STAT_RESERVED
    ((d.chans.map (fun e => confCost m e.2.conf + confCost m e.2.start)).sum + (d.dlOn m).length)

/-- On wake from STANDBY enabled channels restart, each with its configuration kept (R300). -/
def Dev.fstWake (d : Dev) : Dev :=
  (d.chans.filter (fun e => e.2.isOn && e.2.lead == some e.1)).foldl (fun e x =>
    let c := x.1
    if c < 256 then
      (e.setChan c { e.chan c with newest := -1, r := -1, writing := false, wline := 0, cmd := 0, arrivals := [] }).setChState c 1
    else if c < 288 then (e.setChan c { e.chan c with cmd := 0 }).wrB .fst c .FST_CH_STAT_STATE 1
    else (e.setChan c { e.chan c with cmd := 0 }).wrB .fst c .FST_CH_STAT_STATE 3) d

end Sys2Proof.Machine
end

