-- ==== Sys2Proof/Machine/Queue.lean ====
section
/-! DEFINITION. Packet queues (R368 to R383): cells and admission, reading, marks, the per-master ports and the DMA rings. -/

namespace Sys2Proof.Machine

/-- A queue's state. -/
def Dev.queue (d : Dev) (q : Nat) : QueueI := Map.get (fun _ => {}) d.queues q
/-- Write a queue's state. -/
def Dev.setQueue (d : Dev) (q : Nat) (v : QueueI) : Dev := { d with queues := Map.put (fun _ => {}) d.queues q v }

/-- The key's default of the open packets: none open is a packet of no words marked dead in queue 0. -/
def noOpen : OpenPkt := { queue := 0, words := [], dead := true }

/-- A field of a queue's registers. -/
def Dev.qf (d : Dev) (q : Nat) (f : Fld) : Nat := d.rdB .qmg q f

/-- The cells that words take (R368). -/
def cellsOf (n : Nat) : Nat := (n + 15) / 16

/-- The queue is a ring queue. -/
def Dev.isRing (d : Dev) (q : Nat) : Bool := d.qf q .QMG_Q_CFG_RING == 1

/-- Cells that a queue's complete packets hold: in a normal queue the cells of the packet at the read point are freed as their
last word is read, unless a mark pins them (R373, R378). -/
def Dev.readCells (d : Dev) (q : Nat) : Nat :=
  let x := d.queue q
  let all := x.pkts.foldl (fun a p => a + cellsOf p.words.length) 0
  if d.isRing q || x.mark.isSome then all else all - x.rdw / 16

/-- Cells that open packets of a queue hold. -/
def Dev.openCells (d : Dev) (q : Nat) : Nat :=
  (d.opens.filter (fun e => e.2.queue == q && !e.2.dead)).foldl (fun a e => a + cellsOf e.2.words.length) 0

/-- The cells of a queue (Q_STAT.CELLS). -/
def Dev.queueCells (d : Dev) (q : Nat) : Nat := d.readCells q + d.openCells q

/-- The queues that hold a cell, once each. -/
def Dev.heldQueues (d : Dev) : List Nat :=
  (d.queues.map (·.1) ++ (d.opens.filter (fun e => !e.2.dead)).map (·.2.queue)).eraseDups

/-- Free cells of the pool (QMG.POOL.FREE). -/
def Dev.poolFree (d : Dev) : Nat := 65536 - d.heldQueues.foldl (fun a q => a + d.queueCells q) 0

/-- A drop of queue `q` is counted (R369). -/
def Dev.qDrop (d : Dev) (q : Nat) (f : Fld) : Dev :=
  let d' := d.addB .qmg q f 1
  d'.setEvtIf (d'.rdB .qmg q f != d.rdB .qmg q f) .qmg 8

/-- Notice line `n` is interrupt source 232 + n (R376). -/
def Dev.notice (d : Dev) (n : Nat) : Dev := d.addEvent (232 + n)

/-- Every master whose RD_SEL names the queue shows the packets passed over (RD_STAT.LOST). -/
def Dev.showLost (d : Dev) (q : Nat) : Dev :=
  (List.range 9).foldl (fun e m =>
    if e.rdB .qmg m .QMG_RD_SEL_QUEUE == q then e.wrB .qmg m .QMG_RD_STAT_LOST (min (e.queue q).passed 65535) else e) d

/-- The writer of a ring discards its oldest complete packet (R370, R379). -/
def Dev.discardOldest (d : Dev) (q : Nat) : Dev :=
  let x := d.queue q
  let d := d.addB .qmg q .QMG_Q_CNT2_OVERWRITE 1
  let atRead := x.rd == 0
  let voids := x.mark == some 0
  let d := d.setQueue q { x with
    pkts := x.pkts.drop 1
    rd := x.rd - 1
    rdw := if atRead then 0 else x.rdw
    mark := if voids then some 0 else x.mark.map (· - 1)
    isVoid := x.isVoid || voids
    sinceMark := x.sinceMark + 1
    passed := if atRead then x.passed + 1 else x.passed
    lostTag := x.lostTag || atRead }
  let d := if atRead then d.showLost q else d
  d.setEvtIf (voids && !x.isVoid) .qmg 10

/-- Make room in a ring for one more cell (R370): false where the writer's own packet is the only one left. -/
def Dev.ringRoom : Nat → Dev → Nat → Dev × Bool
  | 0, d, _ => (d, false)
  | fuel + 1, d, q =>
    if d.queueCells q + 1 ≤ d.qf q .QMG_Q_CFG_QUOTA then (d, true)
    else if (d.queue q).pkts.isEmpty then (d, false)
    else Dev.ringRoom fuel (d.discardOldest q) q

/-- The count a needed cell is dropped in, or none where the cell is there (R369, R370). -/
def Dev.needCell (d : Dev) (q : Nat) : Dev × Option Fld :=
  if d.qf q .QMG_Q_CFG_ENABLE == 0 then (d, some .QMG_Q_CNT2_DROP_REJECT)
  else if d.isRing q then
    let (d, ok) := Dev.ringRoom ((d.queue q).pkts.length + 1) d q
    if !ok then (d, some .QMG_Q_CNT2_DROP_REJECT)
    else if d.poolFree == 0 then (d, some .QMG_Q_CNT_DROP_POOL) else (d, none)
  else if d.qf q .QMG_Q_CFG_QUOTA < d.queueCells q + 1 then (d, some .QMG_Q_CNT_DROP_QUOTA)
  else if d.poolFree == 0 then (d, some .QMG_Q_CNT_DROP_POOL) else (d, none)

/-- The open packet of a port; a dead one where none is open. -/
def Dev.openOf (d : Dev) (port : Nat) : OpenPkt := Map.get (fun _ => noOpen) d.opens port
/-- Write the open packet of a port. -/
def Dev.setOpen (d : Dev) (port : Nat) (o : OpenPkt) : Dev := { d with opens := Map.put (fun _ => noOpen) d.opens port o }

/-- Append one word to the packet open at a port; a packet that cannot take it is dropped whole. -/
def Dev.appendWord (d : Dev) (port : Nat) (w : Word) : Dev :=
  let o := d.openOf port
  if o.dead then d
  else if o.words.length == 4096 then (d.setOpen port { o with words := [], dead := true }).qDrop o.queue .QMG_Q_CNT2_DROP_REJECT
  else
    let (d, miss) := if o.words.length % 16 == 0 then d.needCell o.queue else (d, none)
    match miss with
    | some f => (d.setOpen port { o with words := [], dead := true }).qDrop o.queue f
    | none => { d.setOpen port { o with words := o.words ++ [(w, d.parInj)] } with parInj := false }

/-- Close the packet of a port: it becomes visible and raises its notice (R368, R376). -/
def Dev.closePkt (d : Dev) (port bytes : Nat) : Dev :=
  let o := d.openOf port
  let d := d.setOpen port noOpen
  if o.dead || o.words.isEmpty then d
  else
    let x := d.queue o.queue
    let d := d.setQueue o.queue { x with pkts := x.pkts ++ [⟨o.words, bytes % 4⟩] }
    if d.qf o.queue .QMG_Q_CFG_NOTICE_EN == 1 then d.notice (d.qf o.queue .QMG_Q_CFG_NOTICE) else d

/-- A producer inside the block writes one whole packet; whether it was stored (R369, R371). Port 16 is no master's. -/
def Dev.queuePut (d : Dev) (q : Nat) (words : List Word) (bytes : Nat) : Dev × Bool :=
  let d := words.foldl (fun e w => e.appendWord 16 w) (d.setOpen 16 ⟨q, [], false⟩)
  (d.closePkt 16 bytes, !(d.openOf 16).dead)

/-- The word at a queue's read point: none where no complete packet is unread. -/
def Dev.readPoint (d : Dev) (q : Nat) : Option (QPkt × (Word × Bool)) :=
  let x := d.queue q
  match x.pkts[x.rd]? with
  | some p => (p.words[x.rdw]?).map (fun w => (p, w))
  | none => none

/-- The read point leaves a packet: a normal queue frees it unless a mark pins it. -/
def Dev.leavePkt (d : Dev) (q : Nat) : Dev :=
  let x := d.queue q
  if d.isRing q || x.mark.isSome then d.setQueue q { x with rd := x.rd + 1, rdw := 0 }
  else d.setQueue q { x with pkts := x.pkts.eraseIdx x.rd, rdw := 0 }

/-- Take the word at the read point: read-word bits [31:0] and [63:32] (Table 17.1, R375). -/
def Dev.takeWord (d : Dev) (q : Nat) : Dev × Option (Word × Word) :=
  match d.readPoint q with
  | none => (d, none)
  | some (p, (w, bad)) =>
    let x := d.queue q
    let sop := x.rdw == 0
    let eop := x.rdw + 1 == p.words.length
    let tags := 1 + (if bad then 2 else 0) + (if sop then 4 else 0) + (if eop then 8 + 16 * p.bytes else 0) +
      (if x.lostTag then 128 else 0) + (if sop then 65536 * p.words.length else 0)
    let d := d.setQueue q { x with rdw := x.rdw + 1, lostTag := false, passed := 0 }
    let d := if bad then (d.inc .qmg .QMG_PAR_CNT_COUNT).setEvt .qmg 9 else d
    (if eop then d.leavePkt q else d, some (w, BitVec.ofNat 32 tags))

/-- A read of RD_LO completes: data to the master, tags to its RD_HI (R373). -/
def Dev.readDone (d : Dev) (m : Nat) (lo hi : Word) : Dev :=
  ((d.setReg (regKey .qmg m 0x054) lo).setReg (regKey .qmg m 0x058) hi).respond m ⟨.okay, [lo]⟩

/-- The master's read no longer waits. -/
def Dev.unstall (d : Dev) (m : Nat) : Dev := { d with stalls := Map.put (fun _ => 0) d.stalls m 0 }

/-- A read of RD_LO by master `m` (R373, R374): it stalls only in SERVICE on an enabled queue. -/
def Dev.readLo (d : Dev) (m : Nat) : Dev :=
  let q := d.rdB .qmg m .QMG_RD_SEL_QUEUE
  match d.takeWord q with
  | (d, some (lo, hi)) => d.readDone m lo hi
  | (d, none) =>
    if d.rd .qmg .QMG_CFG_MODE == 1 && d.qf q .QMG_Q_CFG_ENABLE == 1 then
      { d with stalls := Map.put (fun _ => 0) d.stalls m (q + 1) }
    else d.readDone m 0 0

/-- The queue a master's read waits on. -/
def Dev.stallOf (d : Dev) (m : Nat) : Option Nat :=
  match Map.get (fun _ => 0) d.stalls m with
  | 0 => none
  | q + 1 => some q

/-- A stalled read returns where it can (R374). -/
def Dev.stallReturn (d : Dev) (m : Nat) : Dev :=
  match d.stallOf m with
  | none => d
  | some q =>
    match d.takeWord q with
    | (d, some (lo, hi)) => (d.unstall m).readDone m lo hi
    | (d, none) =>
      if d.rd .qmg .QMG_CFG_MODE == 1 && d.qf q .QMG_Q_CFG_ENABLE == 1 then d else (d.unstall m).readDone m 0 0

/-- A stalled read reaches STALL_TIMEOUT (R374). -/
def Dev.stallTimeout (d : Dev) (m : Nat) : Dev :=
  match d.stallOf m with
  | none => d
  | some _ => (d.unstall m).readDone m 0 64

/-- RD_CTL.DROP_REST (R377). -/
def Dev.dropRest (d : Dev) (m : Nat) : Dev :=
  let q := d.rdB .qmg m .QMG_RD_SEL_QUEUE
  if (d.queue q).rdw == 0 then d else d.leavePkt q

/-- Free the packets that lie below both the mark and the read point of a normal queue (R378). -/
def Dev.unpin (d : Dev) (q below : Nat) : Dev :=
  let x := d.queue q
  if d.isRing q then d
  else d.setQueue q { x with pkts := x.pkts.drop below, rd := x.rd - below, mark := x.mark.map (· - below) }

/-- RD_CTL.MARK (R378). -/
def Dev.markPlace (d : Dev) (m : Nat) : Dev :=
  let q := d.rdB .qmg m .QMG_RD_SEL_QUEUE
  let x := d.queue q
  (d.setQueue q { x with mark := some x.rd, isVoid := false, sinceMark := 0 }).unpin q x.rd

/-- RD_CTL.UNMARK (R378). -/
def Dev.markRemove (d : Dev) (m : Nat) : Dev :=
  let q := d.rdB .qmg m .QMG_RD_SEL_QUEUE
  let x := d.queue q
  (d.setQueue q { x with mark := none, isVoid := false, sinceMark := 0 }).unpin q x.rd

/-- RD_CTL.REWIND with a mark set (R378, R379). -/
def Dev.rewindTo (d : Dev) (m : Nat) : Dev :=
  let q := d.rdB .qmg m .QMG_RD_SEL_QUEUE
  let x := d.queue q
  match x.mark with
  | none => d
  | some k =>
    if x.isVoid then
      let d := d.setQueue q { x with rd := 0, rdw := 0, mark := some 0, isVoid := false, sinceMark := 0, lostTag := true, passed := 0 }
      d.wrB .qmg m .QMG_RD_STAT_LOST (min x.sinceMark 65535)
    else d.setQueue q { x with rd := k, rdw := 0 }

/-- What rejects a write of RD_CTL: REWIND with no mark (R378). -/
def Dev.rdCtlRej (d : Dev) (m : Nat) (v : Word) : List Rej :=
  rejIf (Fld.QMG_RD_CTL_REWIND.get v == 1 && (d.queue (d.rdB .qmg m .QMG_RD_SEL_QUEUE)).mark.isNone) .state

/-- RD_CTL commands in the order of their bits. -/
def Dev.rdCtl (d : Dev) (m : Nat) (v : Word) : Dev :=
  let d := if Fld.QMG_RD_CTL_DROP_REST.get v == 1 then d.dropRest m else d
  let d := if Fld.QMG_RD_CTL_MARK.get v == 1 then d.markPlace m else d
  let d := if Fld.QMG_RD_CTL_UNMARK.get v == 1 then d.markRemove m else d
  if Fld.QMG_RD_CTL_REWIND.get v == 1 then d.rewindTo m else d

/-- A master's open packet is abandoned, counted in DROP_REJECT (R380). -/
def Dev.abandon (d : Dev) (m : Nat) : Dev :=
  let o := d.openOf m
  let d := d.setOpen m noOpen
  if o.dead then d else d.qDrop o.queue .QMG_Q_CNT2_DROP_REJECT

/-- A write of WR_DATA (R380): opens a packet where none is open; after a drop the words are discarded up to WR_END. -/
def Dev.wrData (d : Dev) (m : Nat) (v : Word) : Dev :=
  let q := d.rdB .qmg m .QMG_WR_SEL_QUEUE
  let isOpen := d.openOf m != noOpen
  let d := if isOpen then d else (d.setOpen m ⟨q, [], false⟩).wrB .qmg m .QMG_WR_SEL_LAST_DROP 0
  let was := (d.openOf m).dead
  let d := (d.appendWord m v).setReg (regKey .qmg m 0x074) v
  if !was && (d.openOf m).dead then
    (d.setOpen m { d.openOf m with words := [(0, false)] }).wrB .qmg m .QMG_WR_SEL_LAST_DROP 1
  else d

/-- A write of WR_END (R380). -/
def Dev.wrEndWrite (d : Dev) (m bytes : Nat) : Dev := d.closePkt m bytes

/-- A queue is emptied and its mark removed (R382): waiting open packets are dropped too. -/
def Dev.emptyQueue (d : Dev) (q : Nat) : Dev :=
  let d := d.setQueue q {}
  (d.opens.filter (fun e => e.2.queue == q && !e.2.dead)).foldl (fun e o =>
    ((e.setOpen o.1 { o.2 with words := [(0, false)], dead := true }).qDrop q .QMG_Q_CNT2_DROP_REJECT).wrB .qmg o.1
      .QMG_WR_SEL_LAST_DROP 1) d

/-- What rejects a write of Q_CFG beyond its ranges (R383): RING while the queue holds a cell. -/
def Dev.qCfgRej (d : Dev) (v : Word) : List Rej :=
  let q := d.rd .qmg .QMG_Q_SEL_QUEUE
  rejIf (Fld.QMG_Q_CFG_RING.get v != d.qf q .QMG_Q_CFG_RING && d.queueCells q != 0) .state

/-- An accepted Q_CFG write: a disabled queue is emptied. -/
def Dev.qCfgApply (d : Dev) (v : Word) : Dev :=
  if Fld.QMG_Q_CFG_ENABLE.get v == 0 then d.emptyQueue (d.rd .qmg .QMG_Q_SEL_QUEUE) else d

/-- QMG.CTL commands (R383). -/
def Dev.qmgCtl (d : Dev) (v : Word) : Dev :=
  let d := if Fld.QMG_CTL_CNT_CLR.get v == 1 then
      let d := d.wr .qmg .QMG_PAR_CNT_COUNT 0
      { d with regs := d.regs.filter (fun e => !(e.1 % 0x10000000 == 0x903C || e.1 % 0x10000000 == 0x9040)) }
    else d
  if Fld.QMG_CTL_PAR_INJ.get v == 1 then { d with parInj := true } else d

/-- The view of Q_STAT of a queue (Table of QMG). -/
def Dev.qStat (d : Dev) (q : Nat) : Word :=
  let x := d.queue q
  BitVec.ofNat 32 ((if x.mark.isSome then 2 ^ 31 else 0) + (if x.isVoid then 2 ^ 30 else 0) +
    min (x.pkts.length - x.rd) 8191 * 2 ^ 17 + d.queueCells q)

/-- An SRAM word. -/
def Dev.sramGet (d : Dev) (k : Nat) : Word := Map.get (fun _ => 0) d.sram k
/-- Write an SRAM word. -/
def Dev.sramPut (d : Dev) (k : Nat) (w : Word) : Dev := { d with sram := Map.put (fun _ => 0) d.sram k w }

/-- The SRAM word index of bank `b`'s first word. -/
def bankWord (b : Nat) : Nat := b * 262144

/-- A register of DMA channel `c`. -/
def Dev.dma (d : Dev) (c : Nat) (f : Fld) : Nat := d.rd .qmg (f.nth c)

/-- Words of a DMA ring, and the SRAM word of ring index `i` (R381). -/
def Dev.ringWords (d : Dev) (c : Nat) : Nat := 16 * d.dma c .QMG_DMA_RING_SIZE
/-- See `ringWords`. -/
def Dev.ringAt (d : Dev) (c i : Nat) : Nat := bankWord 4 + 16 * d.dma c .QMG_DMA_RING_BASE + i % d.ringWords c

/-- Take every unread word of the packet at a queue's read point: words, POISON, MARK_LOST, bytes of the last word. -/
def Dev.takePkt : Nat → Dev → Nat → List Word → Bool → Bool → Dev × List Word × Bool × Bool × Nat
  | 0, d, _, ws, p, l => (d, ws, p, l, 0)
  | fuel + 1, d, q, ws, p, l =>
    match d.takeWord q with
    | (d, none) => (d, ws, p, l, 0)
    | (d, some (w, t)) =>
      let p := p || t.getLsbD 1
      let l := l || t.getLsbD 7
      if t.getLsbD 3 then (d, ws ++ [w], p, l, (t.toNat / 16) % 4) else Dev.takePkt fuel d q (ws ++ [w]) p l

/-- Bytes of a packet of `n` words whose last word has `b` valid bytes, 0 meaning 4. -/
def pktBytes (n b : Nat) : Nat := 4 * (n - 1) + (if b == 0 then 4 else b)

/-- The channel runs in direction `dir` and has stopped on no entry (R381). -/
def Dev.dmaRuns (d : Dev) (c dir : Nat) : Bool :=
  d.dma c .QMG_DMA_CFG_ENABLE == 1 && d.dma c .QMG_DMA_CFG_DIR == dir && d.dma c .QMG_DMA_CFG_ERR == 0

/-- Words that the packet at the head of a channel's queue has unread; 0 where there is none. -/
def Dev.dmaHead (d : Dev) (c : Nat) : Nat :=
  let x := d.queue (d.dma c .QMG_DMA_CFG_QUEUE)
  match x.pkts[x.rd]? with
  | some p => p.words.length - x.rdw
  | none => 0

/-- Free words of a channel's ring (R381). -/
def Dev.ringFree (d : Dev) (c : Nat) : Nat :=
  let w := d.ringWords c
  w - 1 - (d.dma c .QMG_DMA_WP_PTR + w - d.dma c .QMG_DMA_RP_PTR % w) % w

/-- The channel accesses its ring: it writes an entry that fits, or reads one that is there (R381). -/
def Dev.dmaMoves (d : Dev) (c dir : Nat) : Bool :=
  d.dmaRuns c dir && (if dir == 0 then 0 < d.dmaHead c && d.dmaHead c < d.ringFree c
    else d.dma c .QMG_DMA_WP_PTR != d.dma c .QMG_DMA_RP_PTR)

/-- A DIR 0 channel serves the packet at the head of its queue (R381). -/
def Dev.dmaToRing (d : Dev) (c : Nat) : Dev :=
  let q := d.dma c .QMG_DMA_CFG_QUEUE
  let n := d.dmaHead c
  let w := d.ringWords c
  if !(d.dmaRuns c 0) || n == 0 then d
  else if w - 1 < 1 + n then (d.leavePkt q).qDrop q .QMG_Q_CNT2_DROP_REJECT
  else if !(d.dmaMoves c 0) then d
  else
    let wp := d.dma c .QMG_DMA_WP_PTR
    let (d, ws, poison, lost, b) := Dev.takePkt (n + 1) d q [] false false
    let hdr : Word := BitVec.ofNat 32 (pktBytes n b + (if poison then 65536 else 0) + (if lost then 131072 else 0))
    let d := (hdr :: ws).zipIdx.foldl (fun e (x : Word × Nat) => e.sramPut (e.ringAt c (wp + x.2)) x.1) d
    let d := d.wr .qmg (Fld.nth .QMG_DMA_WP_PTR c) ((wp + 1 + n) % w)
    (d.notice (d.dma c .QMG_DMA_CFG_NOTICE)).bwAdd 328 (4 * (n + 1))

/-- A DIR 1 channel writes the ring entry at RP to its queue (R381). -/
def Dev.dmaToQueue (d : Dev) (c : Nat) : Dev :=
  let w := d.ringWords c
  let rp := d.dma c .QMG_DMA_RP_PTR
  if !(d.dmaMoves c 1) then d
  else
    let hdr := d.sramGet (d.ringAt c rp)
    let len := hdr.toNat % 32768
    if len == 0 || 16384 < len then ((d.bwAdd 328 4).wr .qmg (Fld.nth .QMG_DMA_CFG_ERR c) 1).setEvt .qmg 11
    else
      let n := (len + 3) / 4
      let ws := (List.range n).map (fun i => d.sramGet (d.ringAt c (rp + 1 + i)))
      let (d, _) := d.queuePut (d.dma c .QMG_DMA_CFG_QUEUE) ws (len % 4)
      let d := d.wr .qmg (Fld.nth .QMG_DMA_RP_PTR c) ((rp + 1 + n) % w)
      (d.notice (d.dma c .QMG_DMA_CFG_NOTICE)).bwAdd 328 (4 * (n + 1))

/-- What rejects a write of DMA_CFG, DMA_RING, DMA_WP or DMA_RP of channel `c` (R381, R383). -/
def Dev.dmaRej (d : Dev) (c k : Nat) (v : Word) : List Rej :=
  let en := d.dma c .QMG_DMA_CFG_ENABLE == 1
  let old := d.reg (regKey .qmg 0 (0x100 + 16 * c + 4 * k))
  match k with
  | 0 => rejIf (en && (old ^^^ v) &&& 0x401F03FF != 0) .state
  | 1 => rejIf (32768 < Fld.QMG_DMA_RING_BASE.get v + Fld.QMG_DMA_RING_SIZE.get v) .range ++ rejIf (en && old != v) .state
  | 2 => rejIf (en && d.dma c .QMG_DMA_CFG_DIR == 0) .state
  | _ => rejIf (en && d.dma c .QMG_DMA_CFG_DIR == 1) .state

/-- A write of DMA_CFG: ENABLE 0 clears ERR, so that the channel restarts when it is written 1 (R381). -/
def Dev.dmaCfgApply (d : Dev) (c : Nat) (v : Word) : Dev :=
  if Fld.QMG_DMA_CFG_ENABLE.get v == 0 then d.wr .qmg (Fld.nth .QMG_DMA_CFG_ERR c) 0 else d

/-- Every queue is emptied, every mark removed, the per-master ports and DMA channels return to reset (R382). -/
def Dev.queuesClear (d : Dev) : Dev := { d with queues := [], opens := [], parInj := false, stalls := [] }

end Sys2Proof.Machine
end

