-- ==== Sys2Proof/Machine/LineEngine.lean ====
section
/-! DEFINITION. The line engines (R333 to R349): memories, states, events, the packet paths, and one operation per
instruction of Table 15.6. -/

namespace Sys2Proof.Machine

/-! ### State and memories -/

/-- A line engine's state beyond its registers. -/
def Dev.leng (d : Dev) (n : Nat) : LengI := Map.get (fun _ => {}) d.lengs n

/-- A field of an engine's page. -/
def Dev.lf (d : Dev) (n : Nat) (f : Fld) : Nat := d.rd (.leng n) f

/-- Write a line engine's state; STAT.FIFO and the PKT level follow it (R338). -/
def Dev.setLeng (d : Dev) (n : Nat) (v : LengI) : Dev :=
  let d := { d with lengs := Map.put (fun _ => {}) d.lengs n v }
  let d := d.wr (.leng n) .LENG_STAT_FIFO v.fifo.length
  d.wr (.leng n) .LENG_EVT_LATCHED (d.lf n .LENG_EVT_LATCHED / 2 * 2 + (if v.fifo.isEmpty then 0 else 1))

/-- STAT.STATE (Table 15.2). -/
def Dev.lengState (d : Dev) (n : Nat) : Nat := d.lf n .LENG_STAT_STATE

/-- The engine's ENGINE paths are in force: RUNNING or WAITING (R150, R337). -/
def Dev.lengLive (d : Dev) (n : Nat) : Bool := d.lengState n == 1 || d.lengState n == 2

/-- The undefined content of an instruction store word (R348). -/
def Dev.istoreFree (d : Dev) (k : Nat) : Word := Config.lostWord d.lengGen (k / 1024) (k % 1024)
/-- The undefined content of a data memory word. -/
def Dev.dmemFree (d : Dev) (k : Nat) : Word := Config.lostWord d.lengGen (k / 2048) (1024 + k % 2048)

/-- Word `i` of engine `n`'s instruction store. -/
def Dev.istoreGet (d : Dev) (n i : Nat) : Word := Map.get d.istoreFree d.istore (1024 * n + i)
/-- Write it. -/
def Dev.istorePut (d : Dev) (n i : Nat) (w : Word) : Dev :=
  { d with istore := Map.put d.istoreFree d.istore (1024 * n + i) w }
/-- Word `a` of engine `n`'s data memory. -/
def Dev.dmemGet (d : Dev) (n a : Nat) : Word := Map.get d.dmemFree d.dmem (2048 * n + a)
/-- Write it. -/
def Dev.dmemPut (d : Dev) (n a : Nat) (w : Word) : Dev :=
  { d with dmem := Map.put d.dmemFree d.dmem (2048 * n + a) w }

/-- General register `r`: g0 reads 0 (R333). -/
def Dev.greg (d : Dev) (n r : Nat) : Word := if r == 0 then 0 else Map.get (fun _ => 0) (d.leng n).g r
/-- Write general register `r`; a write to g0 is discarded. -/
def Dev.setGreg (d : Dev) (n r : Nat) (w : Word) : Dev :=
  if r == 0 then d else d.setLeng n { d.leng n with g := Map.put (fun _ => 0) (d.leng n).g r w }

/-- The program counter. -/
def Dev.lpc (d : Dev) (n : Nat) : Nat := d.lf n .LENG_STAT_PC
/-- Write the program counter, modulo 1,024. -/
def Dev.setLpc (d : Dev) (n pc : Nat) : Dev := d.wr (.leng n) .LENG_STAT_PC (pc % 1024)

/-! ### Packets on their way out (R142, R148, R157, R158, R342) -/

/-- A record enters the ancillary stream of its tile (R148). -/
def Dev.ancInto (d : Dev) (r : PktRec) : Dev :=
  d.setTile r.tile { d.tile r.tile with anc := (d.tile r.tile).anc ++ [r] }

/-- An SDI output lane's line in assembly and line sent. -/
def Dev.out (d : Dev) (n : Nat) : OutI := Map.get (fun _ => {}) d.outs n
/-- Write it. -/
def Dev.setOut (d : Dev) (n : Nat) (v : OutI) : Dev := { d with outs := Map.put (fun _ => {}) d.outs n v }

/-- A count of an ancillary context: 2 × tile + kind. ANC_DROP of the output lane's page follows (LANE.PAGE_EVT bit 24, TLL.PAGE_EVT bit 23). -/
def Dev.ancDrop (d : Dev) (i : Nat) (isLate : Bool) : Dev :=
  let c := d.ac i
  let d := d.setAc i (if isLate then { c with late := min (c.late + 1) 65535 } else { c with drop := min (c.drop + 1) 65535 })
  let rises := (if isLate then c.late else c.drop) < 65535
  if i / 2 < 1152 then d.setEvtIf rises (.lane (i / 16)) 24 else d.setEvtIf rises (.tll (outLane (i / 2))) 23

/-- A packet is dropped, late or for want of room: counted in ancillary context `i`, or, where a program built it, by the line engine that did (R157,
R342). -/
def Dev.recLost (d : Dev) (i : Nat) (isLate : Bool) (r : PktRec) : Dev :=
  if r.built then d.inc (.leng (r.tile / 8)) (if isLate then .LENG_PKTCNT2_NEW_LATE else .LENG_PKTCNT_INS_DROP) else d.ancDrop i isLate

/-- The class of a packet on an output lane (R158): the first matching entry of ANCCLASS, else DEFAULT_CLASS. -/
def Dev.ancClassOf (d : Dev) (n : Nat) (r : PktRec) : Nat :=
  let p := Page.lane n
  match (List.range 8).find? (fun i =>
      d.on p (Fld.nth .LANE_ANCCLASS_VALID i) && d.rd p (Fld.nth .LANE_ANCCLASS_DID i) == r.did &&
        (d.on p (Fld.nth .LANE_ANCCLASS_SDID_ANY i) || d.rd p (Fld.nth .LANE_ANCCLASS_SDID i) == r.sdid)) with
  | some i => d.rd p (Fld.nth .LANE_ANCCLASS_CLASS i)
  | none => d.rd p .LANE_ANCCFG_DEFAULT_CLASS

/-- The class of a packet on a Tile Link output lane. -/
def Dev.tllClassOf (d : Dev) (n : Nat) (r : PktRec) : Nat :=
  let p := Page.tll n
  match (List.range 8).find? (fun i =>
      d.on p (Fld.nth .TLL_ANCCLASS_VALID i) && d.rd p (Fld.nth .TLL_ANCCLASS_DID i) == r.did &&
        (d.on p (Fld.nth .TLL_ANCCLASS_SDID_ANY i) || d.rd p (Fld.nth .TLL_ANCCLASS_SDID i) == r.sdid)) with
  | some i => d.rd p (Fld.nth .TLL_ANCCLASS_CLASS i)
  | none => d.rd p .TLL_ANCCFG_DEFAULT_CLASS

/-- The class of a packet on the lane of an output tile. -/
def Dev.outClass (d : Dev) (t : Nat) (r : PktRec) : Nat :=
  if t < 1152 then d.ancClassOf (t / 8) r else d.tllClassOf (outLane t) r

/-- The source tile whose stream an output tile's ancillary context of a kind selects; none where it selects nothing (R153, R155). -/
def Dev.ancSource (d : Dev) (t kind : Nat) : Option Nat :=
  let w := (d.ac (2 * t + kind)).ac d.readWall
  let b := d.outBond t
  if 1408 ≤ t || (patternPhased b.2.2 && b.2.1 % 2 == 1) || d.acceptedWall.isNone then none
  else match w.toNat / 2 ^ 30 with
    | 1 =>
      let c := (d.tc b.1).ac d.readWall
      if cxAction c == 1 then none
      else match d.deriveSrc (cxSrc c) b.2.1 with
        | some s => if d.srcDom s == d.outDom t then some s else none
        | none => none
    | 2 =>
      let s := w.toNat / 65536 % 2048
      if d.srcDom s == d.outDom t then some s else none
    | _ => none

/-- An output tile's ancillary context selects a record that is in the stream of an input tile (R153). -/
def Dev.ancSelects (d : Dev) (t kind : Nat) (r : PktRec) : Bool :=
  match d.ancSource t kind with
  | some s => s < 1408 && (d.syncOf s).isNone && d.protTile s == r.tile && ((d.ac (2 * t + kind)).ac d.readWall).getLsbD (d.outClass t r)
  | none => false

/-- A packet reaches the inserter of an SDI output tile for the line in assembly; on a FOLLOW lane, where packets of line n go into line n + 1 (R161), also
for the line after it. For any other line it is late (R159). -/
def Dev.insertInto (d : Dev) (n : Nat) (x : OutRec) : Dev :=
  let o := d.out n
  let due := if d.isFollow n then x.pkt.line % max 1 (fmtLines (d.outFmt n)) + 1 else x.pkt.line
  if o.line == due && d.outRuns x.tile then d.setOut n { o with recs := o.recs ++ [x] }
  else if d.isFollow n && o.line != 0 && o.line == x.pkt.line && d.outRuns x.tile then d.setOut n { o with next := o.next ++ [x] }
  else d.recLost (2 * x.tile + (if x.pkt.vert then 1 else 0)) true x.pkt

/-- The course of a line has passed in a domain: the last read point is that line's, or one of the half frame after it. -/
def Dev.coursePassed (d : Dev) (k line : Nat) : Bool :=
  let total := fmtLines (d.domFmt k)
  (d.dom k).line != 0 && 2 * ((total + (d.dom k).line - line) % max 1 total) < total

/-- The output tiles whose ancillary contexts select a record's stream and class, and that have taken its line already (R153, R161). -/
def Dev.ancMissed (d : Dev) (r : PktRec) : List Nat :=
  (d.actx.map (fun (e : Nat × AncCtx) => e.1 / 2) ++ d.tctx.map (fun (e : Nat × TileCtx) => e.1)).eraseDups.filter (fun t =>
    d.ancSelects t (if r.vert then 1 else 0) r && (match d.outDom t with
      | some k => d.coursePassed k r.line
      | none => false))

/-- A record that a program forwards on the receive path reaches its tile's stream: outputs that have taken its line count it as late (R159), and a FOLLOW
lane takes it for the next line while it still can (R161). -/
def Dev.ancIntoLate (d : Dev) (r : PktRec) : Dev :=
  let d := (d.ancMissed r).foldl (fun e t => e.recLost (2 * t + (if r.vert then 1 else 0)) true r) (d.ancInto r)
  (d.txLanes.filter (fun n => d.followLane n == some (r.tile / 8) && (d.out n).line == r.line && (d.out n).line != 0)).foldl (fun e n =>
    e.insertInto n { tile := 8 * n + r.tile % 8, cls := e.ancClassOf n r, pkt := r }) d

/-- The program's time leaves a record late (R160). -/
def Dev.recOverdue (d : Dev) (n : Nat) (x : PathRec) : Bool :=
  match x.slack with
  | some k => k < (Config.programTime n ((d.leng n).spent - x.sent) : Int)
  | none => false

/-- A record is sent on its own path (R342, FWD). -/
def Dev.fwdRec (d : Dev) (n : Nat) (x : PathRec) : Dev :=
  match x.tx with
  | none => d.ancIntoLate x.pkt
  | some t =>
    if d.recOverdue n x then d.recLost (2 * t + (if x.pkt.vert then 1 else 0)) true x.pkt
    else d.insertInto n { tile := t, cls := d.ancClassOf n x.pkt, pkt := x.pkt }

/-! ### Halting, starting (R336, R337) -/

/-- The build buffer is discarded; an open build counts in ABANDON. -/
def Dev.buildDrop (d : Dev) (n : Nat) : Dev :=
  let d := if (d.leng n).build.isSome then d.inc (.leng n) .LENG_PKTCNT2_ABANDON else d
  d.setLeng n { d.leng n with build := none }

/-- The build is discarded and every record held or on its way is sent on (R337). -/
def Dev.lengFlush (d : Dev) (n : Nat) : Dev :=
  let d := d.buildDrop n
  let xs := (d.leng n).fifo ++ (d.leng n).inbox
  let d := d.setLeng n { d.leng n with fifo := [], inbox := [], udw := 0, wait := none }
  xs.foldl (fun e x => e.fwdRec n x) d

/-- Entry into HALTED with a code; STAT.PC is as the caller leaves it. -/
def Dev.lengHalt (d : Dev) (n code : Nat) : Dev :=
  let d := (d.wr (.leng n) .LENG_STAT_STATE 3).wr (.leng n) .LENG_STAT_STOP_CODE code
  (d.setEvt (.leng n) 8).lengFlush n

/-- CTL.START. -/
def Dev.lengStart (d : Dev) (n : Nat) : Dev :=
  let d := d.setLpc n (d.lf n .LENG_CFG_ENTRY)
  let d := d.wr (.leng n) .LENG_EVT_LATCHED 0
  let d := d.setLeng n { d.leng n with g := [], stack := [], build := none, slots := 0, udw := 0, wait := none }
  d.wr (.leng n) .LENG_STAT_STATE 1

/-- CTL.STOP and ENABLE = 0: a RUNNING or WAITING engine halts with code HOST. -/
def Dev.lengStop (d : Dev) (n : Nat) : Dev := if d.lengLive n then d.lengHalt n 1 else d

/-! ### Events (R338, R339) -/

/-- A WAIT returns: it writes the latched bits of its mask and clears them but PKT, and the slice begins anew. -/
def Dev.waitReturn (d : Dev) (n r mask : Nat) : Dev :=
  let l := d.lf n .LENG_EVT_LATCHED
  let hit := (BitVec.ofNat 5 l &&& BitVec.ofNat 5 mask).toNat
  let d := d.wr (.leng n) .LENG_EVT_LATCHED (l - hit / 2 * 2)
  let d := d.setLeng n { d.leng n with slots := 0, wait := none }
  ((d.setGreg n r (BitVec.ofNat 32 hit)).setLpc n (d.lpc n + 1)).wr (.leng n) .LENG_STAT_STATE 1

/-- A WAITING engine whose mask matches a latched event resumes. -/
def Dev.lengWake (d : Dev) (n : Nat) : Dev :=
  match (d.leng n).wait with
  | some (r, mask) =>
    if d.lengState n == 2 && (BitVec.ofNat 5 (d.lf n .LENG_EVT_LATCHED) &&& BitVec.ofNat 5 mask) != 0 then d.waitReturn n r mask
    else d
  | none => d

/-- An event of Table 15.4 other than PKT is latched, or counted as lost. -/
def Dev.lengLatch (d : Dev) (n b : Nat) : Dev :=
  let l := d.lf n .LENG_EVT_LATCHED
  if l.testBit b then (d.inc (.leng n) .LENG_EVTCNT_OVR).setEvt (.leng n) 11
  else (d.wr (.leng n) .LENG_EVT_LATCHED (l + 2 ^ b)).lengWake n

/-- LINE, SWL and FRAME occur only as Table 15.4 says: of the receive framer, or of a running domain. -/
def Dev.lengEvent (d : Dev) (n b : Nat) : Dev :=
  let k := d.lf n .LENG_CFG_TDOM
  let domRuns := d.domFmt k != 0
  let rx := d.lf n .LENG_CFG_TBASE == 0
  let sync := d.frmState n == 3 || d.frmState n == 4
  match b with
  | 0 => d.lengWake n
  | 1 => if (if rx then sync else domRuns) then d.lengLatch n 1 else d
  | 2 => if domRuns then d.lengLatch n 2 else d
  | 3 => if (if rx then d.frmState n == 4 else domRuns) then d.lengLatch n 3 else d
  | _ => d

/-- A record sets out for the engine (R150). -/
def Dev.lengSend (d : Dev) (n : Nat) (x : PathRec) : Dev :=
  d.setLeng n { d.leng n with inbox := (d.leng n).inbox ++ [{ x with sent := (d.leng n).spent }] }

/-- The oldest record on its way arrives at the FIFO (R335). -/
def Dev.lengArrive (d : Dev) (n : Nat) : Dev :=
  let i := d.leng n
  match i.inbox with
  | [] => d
  | x :: xs =>
    if i.fifo.length < 64 then (d.setLeng n { i with inbox := xs, fifo := i.fifo ++ [x] }).lengWake n
    else (d.setLeng n { i with inbox := xs }).addEvt (.leng n) .LENG_PKTCNT_FIFO_DROP 1 10

/-! ### Instruction words (R340, Table 15.5) -/

/-- Opcode. -/
def iOp (w : Word) : Nat := w.toNat / 2 ^ 26
/-- Field d. -/
def iD (w : Word) : Nat := w.toNat / 2 ^ 22 % 16
/-- Field a. -/
def iA (w : Word) : Nat := w.toNat / 2 ^ 18 % 16
/-- Field b. -/
def iB (w : Word) : Nat := w.toNat / 2 ^ 14 % 16
/-- imm14, zero-extended. -/
def iZ (w : Word) : Nat := w.toNat % 2 ^ 14
/-- imm14, sign-extended to a word. -/
def iS (w : Word) : Word := (w.extractLsb' 0 14).signExtend 32
/-- imm18. -/
def i18 (w : Word) : Nat := w.toNat % 2 ^ 18

/-- The bits below the opcode that an instruction uses (Table 15.6). -/
def usedBits (op : Nat) : Word :=
  if 0x01 ≤ op && op ≤ 0x07 then 0x03FFC000#32
  else if 0x08 ≤ op && op ≤ 0x0A || op == 0x10 then 0x03FC3FFF#32
  else if op == 0x0B || op == 0x0C then 0x03FC001F#32
  else if op == 0x0D then 0x03C3FFFF#32
  else if op == 0x0E || op == 0x0F then 0x03FC03FF#32
  else if 0x11 ≤ op && op ≤ 0x15 then 0x003FFFFF#32
  else if op == 0x16 || op == 0x17 then 0x000003FF#32
  else if op == 0x19 then 0x03C0001F#32
  else if op == 0x1A then 0x03C00003#32
  else if op == 0x1B then 0x03C00000#32
  else if op == 0x1C then 0x003FC003#32
  else if op == 0x1D || op == 0x26 then 0x003C0000#32
  else if op == 0x1E then 0x03FC0003#32
  else if 0x21 ≤ op && op ≤ 0x23 then 0x03FC0000#32
  else if op == 0x24 then 0x00000007#32
  else if op == 0x25 then 0x03C0003F#32
  else if op == 0x27 then 0x03C00001#32
  else if op == 0x28 then 0x000000FF#32
  else 0

/-- EXT and INS: the field lies inside the word. -/
def fieldOk (w : Word) : Bool := iZ w % 32 + (iZ w / 32 % 32 + 1) ≤ 32

/-- The word is an instruction of Table 15.6 whose unused fields are 0 (R340). -/
def instrOk (w : Word) : Bool :=
  let op := iOp w
  op ≤ 0x28 && (w &&& 0x03FFFFFF#32 &&& ~~~(usedBits op)) == 0 &&
    (if op == 0x0E || op == 0x0F then fieldOk w else true) &&
    (if op == 0x19 then iZ w % 32 != 0 else true) && (if op == 0x1A then iZ w != 3 else true)

/-- The slots an instruction costs (Table 15.6). -/
def instrSlots (op : Nat) : Nat :=
  if op == 0x1E || op == 0x25 then 4 else if op == 0x20 || op == 0x21 then 2 else 1

/-- The instruction word at the program counter. -/
def Dev.fetch (d : Dev) (n : Nat) : Word := d.istoreGet n (d.lpc n)

/-- The next instruction follows. -/
def Dev.nextPc (d : Dev) (n : Nat) : Dev := d.setLpc n (d.lpc n + 1)

/-- Write register d and go on. -/
def Dev.result (d : Dev) (n : Nat) (w : Word) (v : Word) : Dev := (d.setGreg n (iD w) v).nextPc n

/-- A branch on a condition, relative to the following instruction. -/
def Dev.branch (d : Dev) (n : Nat) (w : Word) (c : Bool) : Dev :=
  if c then d.setLpc n (BitVec.ofNat 10 (d.lpc n + 1) + (w.extractLsb' 0 10)).toNat else d.nextPc n

/-! ### One operation per instruction (Table 15.6). Each takes the engine and its instruction word. -/

/-- NOP. -/
def Dev.opNop (d : Dev) (n : Nat) (_w : Word) : Dev := d.nextPc n
/-- ADD. -/
def Dev.opAdd (d : Dev) (n : Nat) (w : Word) : Dev := d.result n w (d.greg n (iA w) + d.greg n (iB w))
/-- SUB. -/
def Dev.opSub (d : Dev) (n : Nat) (w : Word) : Dev := d.result n w (d.greg n (iA w) - d.greg n (iB w))
/-- AND. -/
def Dev.opAnd (d : Dev) (n : Nat) (w : Word) : Dev := d.result n w (d.greg n (iA w) &&& d.greg n (iB w))
/-- OR. -/
def Dev.opOr (d : Dev) (n : Nat) (w : Word) : Dev := d.result n w (d.greg n (iA w) ||| d.greg n (iB w))
/-- XOR. -/
def Dev.opXor (d : Dev) (n : Nat) (w : Word) : Dev := d.result n w (d.greg n (iA w) ^^^ d.greg n (iB w))
/-- SHL. -/
def Dev.opShl (d : Dev) (n : Nat) (w : Word) : Dev := d.result n w (d.greg n (iA w) <<< ((d.greg n (iB w)).toNat % 32))
/-- SHR. -/
def Dev.opShr (d : Dev) (n : Nat) (w : Word) : Dev := d.result n w (d.greg n (iA w) >>> ((d.greg n (iB w)).toNat % 32))
/-- ADDI. -/
def Dev.opAddi (d : Dev) (n : Nat) (w : Word) : Dev := d.result n w (d.greg n (iA w) + iS w)
/-- ANDI. -/
def Dev.opAndi (d : Dev) (n : Nat) (w : Word) : Dev := d.result n w (d.greg n (iA w) &&& BitVec.ofNat 32 (iZ w))
/-- ORI. -/
def Dev.opOri (d : Dev) (n : Nat) (w : Word) : Dev := d.result n w (d.greg n (iA w) ||| BitVec.ofNat 32 (iZ w))
/-- SHLI. -/
def Dev.opShli (d : Dev) (n : Nat) (w : Word) : Dev := d.result n w (d.greg n (iA w) <<< (iZ w % 32))
/-- SHRI. -/
def Dev.opShri (d : Dev) (n : Nat) (w : Word) : Dev := d.result n w (d.greg n (iA w) >>> (iZ w % 32))
/-- LUI. -/
def Dev.opLui (d : Dev) (n : Nat) (w : Word) : Dev := d.result n w (BitVec.ofNat 32 (i18 w * 2 ^ 14))

/-- The mask of the low `k` bits. -/
def lowMask (k : Nat) : Word := BitVec.ofNat 32 (2 ^ k - 1)

/-- EXT. -/
def Dev.opExt (d : Dev) (n : Nat) (w : Word) : Dev :=
  d.result n w ((d.greg n (iA w) >>> (iZ w % 32)) &&& lowMask (iZ w / 32 % 32 + 1))
/-- INS. -/
def Dev.opIns (d : Dev) (n : Nat) (w : Word) : Dev :=
  let m := lowMask (iZ w / 32 % 32 + 1) <<< (iZ w % 32)
  d.result n w ((d.greg n (iD w) &&& ~~~m) ||| ((d.greg n (iA w) <<< (iZ w % 32)) &&& m))

/-- The data address of LD and ST. -/
def Dev.dataAddr (d : Dev) (n : Nat) (w : Word) : Nat := (d.greg n (iA w) + iS w).toNat

/-- LD. -/
def Dev.opLd (d : Dev) (n : Nat) (w : Word) : Dev :=
  if 2047 < d.dataAddr n w then d.lengHalt n 4 else d.result n w (d.dmemGet n (d.dataAddr n w))
/-- ST. -/
def Dev.opSt (d : Dev) (n : Nat) (w : Word) : Dev :=
  if 2047 < d.dataAddr n w then d.lengHalt n 4 else (d.dmemPut n (d.dataAddr n w) (d.greg n (iB w))).nextPc n
/-- BEQ. -/
def Dev.opBeq (d : Dev) (n : Nat) (w : Word) : Dev := d.branch n w (d.greg n (iA w) == d.greg n (iB w))
/-- BNE. -/
def Dev.opBne (d : Dev) (n : Nat) (w : Word) : Dev := d.branch n w (d.greg n (iA w) != d.greg n (iB w))
/-- BLT. -/
def Dev.opBlt (d : Dev) (n : Nat) (w : Word) : Dev := d.branch n w ((d.greg n (iA w)).slt (d.greg n (iB w)))
/-- BGE. -/
def Dev.opBge (d : Dev) (n : Nat) (w : Word) : Dev := d.branch n w (!((d.greg n (iA w)).slt (d.greg n (iB w))))
/-- J. -/
def Dev.opJ (d : Dev) (n : Nat) (w : Word) : Dev := d.setLpc n (i18 w)
/-- CALL. -/
def Dev.opCall (d : Dev) (n : Nat) (w : Word) : Dev :=
  if 8 ≤ (d.leng n).stack.length then d.lengHalt n 5
  else (d.setLeng n { d.leng n with stack := ((d.lpc n + 1) % 1024) :: (d.leng n).stack }).setLpc n (i18 w)
/-- RET. -/
def Dev.opRet (d : Dev) (n : Nat) (_w : Word) : Dev :=
  match (d.leng n).stack with
  | [] => d.lengHalt n 5
  | x :: xs => (d.setLeng n { d.leng n with stack := xs }).setLpc n x
/-- WAIT (R339). -/
def Dev.opWait (d : Dev) (n : Nat) (w : Word) : Dev :=
  let mask := iZ w % 32
  if (BitVec.ofNat 5 (d.lf n .LENG_EVT_LATCHED) &&& BitVec.ofNat 5 mask) != 0 then d.waitReturn n (iD w) mask
  else (d.setLeng n { d.leng n with wait := some (iD w, mask) }).wr (.leng n) .LENG_STAT_STATE 2

/-- The head record. -/
def Dev.head (d : Dev) (n : Nat) : Option PathRec := (d.leng n).fifo.head?

/-- The info word of LDH. -/
def infoWord (x : PathRec) : Word :=
  BitVec.ofNat 32 ((if x.tx.isSome then 2 ^ 31 else 0) + x.tx.getD 0 * 2 ^ 16 + x.pkt.words.length)

/-- LDH. -/
def Dev.opLdh (d : Dev) (n : Nat) (w : Word) : Dev :=
  match d.head n with
  | none => d.lengHalt n 6
  | some x => d.result n w (if iZ w == 0 then x.pkt.word0 else if iZ w == 1 then x.pkt.word1 else infoWord x)
/-- GETU. -/
def Dev.opGetu (d : Dev) (n : Nat) (w : Word) : Dev :=
  match d.head n with
  | none => d.lengHalt n 6
  | some x =>
    match x.pkt.udw[(d.leng n).udw]? with
    | some u => (d.setLeng n { d.leng n with udw := (d.leng n).udw + 1 }).result n w (u.setWidth 32)
    | none => d.result n w 0xFFFFFFFF
/-- NEWP. -/
def Dev.opNewp (d : Dev) (n : Nat) (w : Word) : Dev :=
  let d := d.buildDrop n
  (d.setLeng n { d.leng n with build := some { w0 := d.greg n (iA w), w1 := d.greg n (iB w), cls := iZ w % 4 } }).nextPc n
/-- PUTU. -/
def Dev.opPutu (d : Dev) (n : Nat) (w : Word) : Dev :=
  match (d.leng n).build with
  | none => d.lengHalt n 6
  | some x =>
    if 255 ≤ x.udw.length then d.lengHalt n 7
    else (d.setLeng n { d.leng n with build := some { x with udw := x.udw ++ [(d.greg n (iA w)).setWidth 10] } }).nextPc n

/-- The words of a packet from the DID to the checksum as an inserter sends them (R147, R162). -/
def PktRec.sendWords (r : PktRec) : List Word10 :=
  let ws := [parityWord r.did, parityWord r.sdid, parityWord r.udw.length] ++ r.udw
  let cs := checksumWord ws
  ws ++ [if r.bad then cs ^^^ 1 else cs]

/-- The record that a build closes into (R342): DC set, OFFSET 0. -/
def BuildI.toRec (x : BuildI) : PktRec := { (recOf x.w0 x.w1 []).1 with udw := x.udw, offset := 0, built := true }

/-- Queue `q` lies in the engine's permitted queues (R343). -/
def Dev.queuePerm (d : Dev) (n q : Nat) : Bool :=
  d.lf n .LENG_PERM_QBASE ≤ q && q < d.lf n .LENG_PERM_QBASE + d.lf n .LENG_PERM_QCOUNT

/-- A destination of ENDP is permitted (R343). -/
def Dev.endpPerm (d : Dev) (n dest q tile : Nat) : Bool :=
  match dest with
  | 0 => d.lf n .LENG_PERM_NEW_RX == 1 && tile / 8 == n
  | 1 => d.lf n .LENG_PERM_NEW_TX == 1 && tile / 8 == n
  | 2 => d.queuePerm n q
  | _ => true

/-- ENDP. -/
def Dev.opEndp (d : Dev) (n : Nat) (w : Word) : Dev :=
  match (d.leng n).build with
  | none => d.lengHalt n 6
  | some x =>
    let r := x.toRec
    let q := (d.greg n (iA w)).toNat % 1024
    let dest := iZ w % 4
    if !(d.endpPerm n dest q r.tile) then d.lengHalt n 8
    else
      let d := d.setLeng n { d.leng n with build := none }
      let d := match dest with
        | 0 => d.ancIntoLate r
        | 1 => d.insertInto n { tile := r.tile, cls := x.cls, pkt := r }
        | 2 => (d.queuePut q r.words 0).1
        | _ => d
      d.result n w ((r.sendWords.getLastD 0).setWidth 32)

/-- The head record leaves the FIFO. -/
def Dev.popHead (d : Dev) (n : Nat) : Dev := d.setLeng n { d.leng n with fifo := (d.leng n).fifo.drop 1, udw := 0 }

/-- DROP. -/
def Dev.opDrop (d : Dev) (n : Nat) (_w : Word) : Dev :=
  match d.head n with
  | none => d.lengHalt n 6
  | some _ => (d.popHead n).nextPc n
/-- FWD. -/
def Dev.opFwd (d : Dev) (n : Nat) (_w : Word) : Dev :=
  match d.head n with
  | none => d.lengHalt n 6
  | some x => ((d.popHead n).fwdRec n x).nextPc n
/-- PUSHQ. -/
def Dev.opPushq (d : Dev) (n : Nat) (w : Word) : Dev :=
  match d.head n with
  | none => d.lengHalt n 6
  | some x =>
    let q := (d.greg n (iA w)).toNat % 1024
    if !(d.queuePerm n q) then d.lengHalt n 8
    else
      let y := d.queuePut q x.pkt.words 0
      y.1.result n w (if y.2 then 0 else 1)
/-- PAR. -/
def Dev.opPar (d : Dev) (n : Nat) (w : Word) : Dev :=
  d.result n w ((parityWord ((d.greg n (iA w)).toNat % 256)).setWidth 32)

/-- One bit of the CRC-16 x¹⁶ + x¹² + x⁵ + 1, most significant bit first. -/
def crc16Bit (c : BitVec 16) (b : Bool) : BitVec 16 :=
  let top := c.getLsbD 15 != b
  (c <<< 1) ^^^ (if top then 0x1021 else 0)

/-- The CRC-16 advanced by a byte. -/
def crc16Byte (c : BitVec 16) (b : Byte) : BitVec 16 :=
  (List.range 8).foldl (fun a i => crc16Bit a (b.getLsbD (7 - i))) c

/-- CRC. -/
def Dev.opCrc (d : Dev) (n : Nat) (w : Word) : Dev :=
  d.result n w ((crc16Byte ((d.greg n (iD w)).setWidth 16) ((d.greg n (iA w)).setWidth 8)).setWidth 32)
/-- CINC. -/
def Dev.opCinc (d : Dev) (n : Nat) (w : Word) : Dev :=
  (d.inc (.leng n) (Fld.nth .LENG_UCNT_COUNT (iZ w % 8))).nextPc n
/-- CRD. -/
def Dev.opCrd (d : Dev) (n : Nat) (w : Word) : Dev :=
  if d.lf n .LENG_PERM_PMC_READ == 1 && d.on .pmc .PMC_CTL_USER_READ && d.on .pmc (Fld.nth .PMC_CFG_USER (iZ w % 64)) then
    d.result n w (BitVec.ofNat 32 (d.pmcCount (iZ w % 64)))
  else d.lengHalt n 8
/-- DBELL (R346). -/
def Dev.opDbell (d : Dev) (n : Nat) (w : Word) : Dev :=
  if d.lf n .LENG_PERM_DBELL == 0 then d.lengHalt n 8
  else
    let d := d.wr (.leng n) .LENG_DB_OUT_VALUE ((d.greg n (iA w)).toNat % 65536)
    let d := d.wr (.leng n) .LENG_DB_OUT_COUNT (d.lf n .LENG_DB_OUT_COUNT + 1)
    ((d.setEvt (.leng n) 9).addEvent (344 + n)).nextPc n
/-- TIME. -/
def Dev.opTime (d : Dev) (n : Nat) (w : Word) : Dev :=
  if iZ w == 0 then
    (d.setLeng n { d.leng n with timeHi := d.xo.toNat / 2 ^ 32 }).result n w (d.xo.setWidth 32)
  else d.result n w (BitVec.ofNat 32 (d.leng n).timeHi)
/-- HALT. -/
def Dev.opHalt (d : Dev) (n : Nat) (w : Word) : Dev :=
  ((d.nextPc n).wr (.leng n) .LENG_STAT_USER_CODE (iZ w % 256)).lengHalt n 2

/-! ### Execution (R336, R340, R345) -/

/-- A RUNNING engine executes the instruction of opcode `op` that stands at its program counter, by the operation given; an
instruction that would exceed the slice halts the engine instead. With another word there, or an engine that does not run, this
command cannot occur. -/
def Dev.instrRun (d : Dev) (n op : Nat) (f : Dev → Nat → Word → Dev) : Dev :=
  let w := d.fetch n
  if d.lengState n != 1 || iOp w != op || !(instrOk w) then d
  else
    let s := (d.leng n).slots + instrSlots op
    if 16 * d.lf n .LENG_CFG_SLICE < s then d.lengHalt n 9
    else f (d.setLeng n { d.leng n with slots := s, spent := (d.leng n).spent + instrSlots op }) n w

/-- A RUNNING engine meets a word that is no instruction (R340). -/
def Dev.instrBad (d : Dev) (n : Nat) : Dev :=
  if d.lengState n != 1 || instrOk (d.fetch n) then d else d.lengHalt n 3

/-- The operation of an opcode. -/
def opOf (op : Nat) : Dev → Nat → Word → Dev :=
  match op with
  | 0x00 => Dev.opNop
  | 0x01 => Dev.opAdd
  | 0x02 => Dev.opSub
  | 0x03 => Dev.opAnd
  | 0x04 => Dev.opOr
  | 0x05 => Dev.opXor
  | 0x06 => Dev.opShl
  | 0x07 => Dev.opShr
  | 0x08 => Dev.opAddi
  | 0x09 => Dev.opAndi
  | 0x0A => Dev.opOri
  | 0x0B => Dev.opShli
  | 0x0C => Dev.opShri
  | 0x0D => Dev.opLui
  | 0x0E => Dev.opExt
  | 0x0F => Dev.opIns
  | 0x10 => Dev.opLd
  | 0x11 => Dev.opSt
  | 0x12 => Dev.opBeq
  | 0x13 => Dev.opBne
  | 0x14 => Dev.opBlt
  | 0x15 => Dev.opBge
  | 0x16 => Dev.opJ
  | 0x17 => Dev.opCall
  | 0x18 => Dev.opRet
  | 0x19 => Dev.opWait
  | 0x1A => Dev.opLdh
  | 0x1B => Dev.opGetu
  | 0x1C => Dev.opNewp
  | 0x1D => Dev.opPutu
  | 0x1E => Dev.opEndp
  | 0x1F => Dev.opDrop
  | 0x20 => Dev.opFwd
  | 0x21 => Dev.opPushq
  | 0x22 => Dev.opPar
  | 0x23 => Dev.opCrc
  | 0x24 => Dev.opCinc
  | 0x25 => Dev.opCrd
  | 0x26 => Dev.opDbell
  | 0x27 => Dev.opTime
  | _ => Dev.opHalt

/-- DBG_X.STEP: a HALTED engine executes one instruction and halts again with code HOST; one that the instruction itself halts keeps
that code. -/
def Dev.lengDbgStep (d : Dev) (n : Nat) : Dev :=
  let d := (d.wr (.leng n) .LENG_STAT_STATE 1).setLeng n { d.leng n with slots := 0 }
  let w := d.fetch n
  let d := if instrOk w then d.instrRun n (iOp w) (opOf (iOp w)) else d.instrBad n
  if d.lengLive n then d.lengHalt n 1 else d

/-- The handshake watchdog watches the engine: it is RUNNING and its instruction is no WAIT (R64, R345). -/
def Dev.watchable (d : Dev) (n : Nat) : Bool := d.lengState n == 1 && iOp (d.fetch n) != 0x19

/-- The handshake watchdog expires on an instruction (R345). -/
def Dev.lengWatchdog (d : Dev) (n : Nat) : Dev := if d.watchable n then d.lengHalt n 10 else d

/-! ### Registers and memories as masters see them -/

/-- What rejects a write of an engine's register (R336, R349). -/
def Dev.lengRej (d : Dev) (n off : Nat) (v : Word) : List Rej :=
  let live := d.lengLive n
  if off == 0x020 then rejIf (Fld.LENG_CTL_START.get v == 1 && (live || !(d.enabled (.leng n)))) .state
  else if off == 0x024 then rejIf live .state
  else if off == 0x028 then rejIf (1024 < Fld.LENG_PERM_QBASE.get v + Fld.LENG_PERM_QCOUNT.get v) .range ++ rejIf live .state
  else if off == 0x400 then rejIf (Fld.LENG_DBG_X_STEP.get v == 1 && d.lengState n != 3) .state
  else []

/-- CTL.CNT_CLR. -/
def Dev.lengCntClr (d : Dev) (n : Nat) : Dev :=
  let p := Page.leng n
  let d := (List.range 8).foldl (fun e i => e.wr p (Fld.nth .LENG_UCNT_COUNT i) 0) d
  [Fld.LENG_PKTCNT_FIFO_DROP, .LENG_PKTCNT_INS_DROP, .LENG_PKTCNT2_NEW_LATE, .LENG_PKTCNT2_ABANDON, .LENG_EVTCNT_OVR].foldl
    (fun e f => e.wr p f 0) d

/-- What follows an accepted write of an engine's register. -/
def Dev.lengAfter (d : Dev) (n off : Nat) (old v : Word) : Dev :=
  if off == 0x020 then
    let d := if Fld.LENG_CTL_CNT_CLR.get v == 1 then d.lengCntClr n else d
    let d := if Fld.LENG_CTL_START.get v == 1 then d.lengStart n else d
    if Fld.LENG_CTL_STOP.get v == 1 then d.lengStop n else d
  else if off == 0x034 then if Fld.LENG_DB_IN_RING.get v == 1 then d.lengLatch n 4 else d
  else if off == 0x400 then if Fld.LENG_DBG_X_STEP.get v == 1 then d.lengDbgStep n else d
  else if off == 0x008 then
    if Fld.PAGE_CTRL_ENABLE.get old == 1 && Fld.PAGE_CTRL_ENABLE.get v == 0 then d.lengStop n else d
  else d

/-- DBG_VAL_X: the selected register while STOPPED or HALTED, else 0. -/
def Dev.lengDbgVal (d : Dev) (n : Nat) : Word :=
  if d.lengLive n then 0 else d.greg n (d.lf n .LENG_DBG_X_REG_SEL)

/-- The engine stops as a BLOCK reset or a loss of its memories stops it (R348): STOPPED, FIFO and build emptied as on a halt. The
registers have been reset. -/
def Dev.lengReset (d : Dev) (n : Nat) : Dev := (d.lengFlush n).setLeng n {}

end Sys2Proof.Machine
end

