-- ==== Sys2Proof/Machine/Mix.lean ====
section
/-! DEFINITION. Audio bricks (Table 6.2), crossfade gains and mixing (R210, R211), and the tone samples of R219. -/

namespace Sys2Proof.Machine

/-- One, as a fixed-point number with 64 fraction bits. -/
def fixOne : Int := 18446744073709551616
/-- π, as a fixed-point number. -/
def fixPi : Int := 57952155664616982739

/-- Terms of the cosine series from the `k`th on, given the term before and x². -/
def cosSeries : Nat → Nat → Int → Int → Int
  | 0, _, _, _ => 0
  | fuel + 1, k, term, x2 =>
    let t := -(term * x2) / (fixOne * ((2 * k - 1) * (2 * k) : Nat))
    t + cosSeries fuel (k + 1) t x2

/-- cos x for 0 ≤ x ≤ π/2, in fixed point. -/
def fixCos (x : Int) : Int := fixOne + cosSeries 16 1 fixOne (x * x / fixOne)

/-- round(65536 × (1 − cos(π (2i + 1) / 2N)) / 2) for an angle up to π/2. -/
def gainLow (n i : Nat) : Nat :=
  ((65536 * (fixOne - fixCos (fixPi * (2 * i + 1 : Nat) / (2 * n : Nat))) + fixOne) / (2 * fixOne)).toNat

/-- G[i] of a ramp of N periods (R210), with its symmetry G[i] + G[N − 1 − i] = 65,536. -/
def gain (n i : Nat) : Nat := if 2 * i + 1 ≤ n then gainLow n i else 65536 - gainLow n (n - 1 - i)

/-- SAMPLE of an audio brick, two's complement. -/
def brickSample (w : Word) : Int := (w.extractLsb' 8 24).toInt

/-- PRESENT. -/
def brickPresent (w : Word) : Bool := w.getLsbD 3
/-- BSTART. -/
def brickStart (w : Word) : Bool := w.getLsbD 2
/-- RAMP. -/
def brickRamp (w : Word) : Bool := w.getLsbD 1
/-- SUBST. -/
def brickSubst (w : Word) : Bool := w.getLsbD 0

/-- A 24-bit sample in bits [31:8]. -/
def sampleBits (x : Int) : Word := (BitVec.ofInt 24 x).setWidth 32 <<< 8

/-- A brick marked SUBST. -/
def substBrick (w : Word) : Word := w ||| 1

/-- out = (O (65536 − G) + I G + 32768) >> 16 (R210). -/
def mixSample (g : Nat) (o i : Int) : Int := (o * (65536 - (g : Int)) + i * (g : Int) + 32768) / 65536

/-- One period of a ramp (R210, R211): the brick, and whether V, U, C and BSTART come from I from now on. -/
def mixBrick (g : Nat) (o i : Word) (fromI : Bool) : Word × Bool :=
  let f := fromI || brickStart i
  let side := if f then i else o
  (sampleBits (mixSample g (brickSample o) (brickSample i)) ||| (side &&& 0xF4#32) |||
    (if brickPresent o || brickPresent i then 8 else 0) ||| 2 ||| (if brickSubst o || brickSubst i then 1 else 0), f)

/-- After the ramp of a take, or a cut: the incoming brick with the outgoing signal's C and BSTART until its own next BSTART (R172). -/
def tailBrick (o i : Word) : Word := (i &&& ~~~(0x24#32)) ||| (o &&& 0x24#32)

/-- P of a transmitted subframe computed anew (R171, R174): bit 4 makes the parity of the 24 sample bits and V, U, C, P even. -/
def withParity (w : Word) : Word :=
  let odd := (List.range 27).foldl (fun a k => a != (w.getLsbD (k + 5))) false
  (w &&& ~~~(0x10#32)) ||| (if odd then 0x10 else 0)

/-- Am of R219 by LEVEL. -/
def toneLevels : List Nat :=
  [8388607, 7476354, 6663307, 5938679, 5292853, 4717260, 4204263, 3747053, 3339565, 2976390, 2652710, 2364231, 2107123, 1877975,
    1673747, 1491729, 1329505, 1184922, 1056063, 941217, 838861, 747635] ++
  [666331, 593868, 529285, 471726, 420426, 374705, 333956, 297639, 265271, 236423, 210712, 187798, 167375, 149173, 132950, 118492,
    105606, 94122, 83886, 74764, 66633, 59387, 52929, 47173, 42043, 37471] ++
  [33396, 29764, 26527, 23642, 21071, 18780, 16737, 14917, 13295, 11849, 10561, 9412, 8389, 7476, 6663, 5939]

/-- round(a sin(2π r / 48000)) for r up to 12,000; a half rounds away from 0. -/
def toneQuarter (a r : Nat) : Nat :=
  ((2 * (a : Int) * fixCos (fixPi * (12000 - r : Nat) / 24000) + fixOne + fixOne / 2 ^ 29) / (2 * fixOne)).toNat

/-- The tone sample at phase `p` of 48,000 (R219). -/
def toneSample (level p : Nat) : Int :=
  let a := toneLevels.getD level 0
  let r := p % 24000
  let q : Int := toneQuarter a (if r ≤ 12000 then r else 24000 - r)
  if p % 48000 < 24000 then q else -q

/-- One bit of PRBS-23, x²³ + x¹⁸ + 1: the register after it, its bit 0 the new bit. -/
def prbsBit (s : BitVec 23) : BitVec 23 :=
  (s <<< 1) ||| (if s.getLsbD 22 != s.getLsbD 17 then 1 else 0)

/-- The next 24 bits, first bit into the highest position, and the register after them. -/
def prbs24 (s : BitVec 23) : Nat × BitVec 23 :=
  (List.range 24).foldl (fun (a : Nat × BitVec 23) _ =>
    let t := prbsBit a.2
    (2 * a.1 + (if t.getLsbD 0 then 1 else 0), t)) (0, s)

/-- The largest step of 0.25 dB, from `k` up to 511, that a level with r² = FS² n / S (R220) lies at least below full scale:
10^(k/40) ≤ r². -/
def rmsFloor : Nat → Nat → Nat → Nat → Nat
  | 0, k, _, _ => k
  | fuel + 1, k, a, b => if b ^ 40 * 10 ^ (k + 1) ≤ a ^ 40 then rmsFloor fuel (k + 1) a b else k

end Sys2Proof.Machine
end

