-- ==== Sys2Proof/Machine/Audio.lean ====
section
/-! DEFINITION. The audio fabric (R205 to R222): input streams and slips, output slots and crossfades, generators, meters, and
the house sample period. -/

namespace Sys2Proof.Machine

/-! ### Streams (R213 to R217) -/

/-- A stream's state beyond its registers. -/
def Dev.strm (d : Dev) (s : Nat) : StreamI := Map.get (fun _ => {}) d.streams s
/-- Write it. -/
def Dev.setStrm (d : Dev) (s : Nat) (v : StreamI) : Dev := { d with streams := Map.put (fun _ => {}) d.streams s v }
/-- STRM_STAT.STATE (Table 9.3). -/
def Dev.strmState (d : Dev) (s : Nat) : Nat := d.rdB .afab s .AFAB_STRM_STAT_STATE
/-- Write it. -/
def Dev.setStrmState (d : Dev) (s v : Nat) : Dev := d.wrB .afab s .AFAB_STRM_STAT_STATE v

/-- The slots of a stream. -/
def strmSlots (s : Nat) : Nat := if s < 4608 then 4 else 960

/-- The AUDIO slots of Tile Link lane `n`, lowest first (R242). -/
def Dev.audioSlots (d : Dev) (n : Nat) : List Nat := (List.range 16).filter (fun k => d.slotLocked n k 2)

/-- The source of a stream delivers samples (R213). -/
def Dev.strmLive (d : Dev) (s : Nat) : Bool :=
  if s < 4608 then d.frmState (s / 32) == 4
  else
    let n := (s - 4608) / 2
    match (d.audioSlots n)[(s - 4608) % 2]? with
    | some k => d.crs (1152 + 16 * n + k) == 6
    | none => false

/-- A sample of every slot of a stream arrives, `sub` sixteenths into the house sample period; the buffer keeps 16 (R213). A source that does not
deliver fills none. -/
def Dev.strmPush (d : Dev) (s sub : Nat) (ws : List Word) : Dev :=
  if !(d.strmLive s) then d else
  let i := d.strm s
  let b := i.buf ++ [(16 * d.period + sub % 16, ws)]
  d.setStrm s { i with buf := b.drop (b.length - 16) }

/-- One slot's sample arrives; the stream's sample is complete with its last slot (R173). -/
def Dev.strmPart (d : Dev) (s k sub : Nat) (w : Word) : Dev :=
  let i := d.strm s
  let p := if k == 0 then [w] else i.part ++ [w]
  if p.length < strmSlots s then d.setStrm s { i with part := p }
  else (d.setStrm s { i with part := [] }).strmPush s sub p

/-- What the read of a period does to a stream in RUN: 0 read, 1 underrun, 2 recentre, 3 drop slip, 4 add slip (R214, R215). -/
def StreamI.decide (i : StreamI) (depth now : Nat) : Nat :=
  match i.buf with
  | [] => 1
  | (t, _) :: _ =>
    let a := 16 * now - t
    let free := match i.slipAt with
      | some p => 96 ≤ now - p
      | none => true
    if i.recentre || 16 * (depth + 4) < a || a + 64 < 16 * depth then 2
    else if 16 * (depth + 1) < a && free then 3
    else if a + 16 < 16 * depth && free then 4
    else 0

/-- One period of a ramp over every slot of a stream. -/
def mixAll (g : Nat) (os is : List Word) (fs : List Bool) : List (Word × Bool) :=
  (List.range is.length).map (fun k => mixBrick g (os.getD k 0) (is.getD k 0) (fs.getD k false))

/-- A period of the slip that runs, between two samples of every slot. -/
def StreamI.rampStep (i : StreamI) (os is last : List Word) : StreamI :=
  let r := mixAll (gain 48 i.i) os is i.fromI
  { i with now := r.map (·.1), fromI := r.map (·.2), last := last, i := i.i + 1, kind := if 48 ≤ i.i + 1 then 0 else i.kind }

/-- A period of the ramp from or to silence, over what the read gives. -/
def StreamI.fadeStep (i : StreamI) : StreamI :=
  let zero := i.now.map (fun _ => (0 : Word))
  if i.fade == 0 then i
  else
    let r := if i.fade == 1 then mixAll (gain 48 i.fadeI) zero i.now i.fadeFrom else mixAll (gain 48 i.fadeI) i.now zero i.fadeFrom
    { i with now := r.map (·.1), fadeFrom := r.map (·.2), fadeI := i.fadeI + 1, fade := if 48 ≤ i.fadeI + 1 then 0 else i.fade }

/-- The read of a stream in RUN or RECENTRE with the slip and the ramp that run (R214, R215): a drop slip's O lags its I by a sample, an add slip's
leads it by one. -/
def StreamI.read (i : StreamI) : StreamI :=
  match i.buf with
  | [] => i
  | (_, x) :: rest =>
    let j := { i with buf := rest }
    let r : StreamI := match i.kind with
      | 1 => j.rampStep i.last x x
      | 2 => j.rampStep ((rest.head?.map (·.2)).getD x) x x
      | _ => { j with now := x, last := x }
    r.fadeStep

/-- The read at which a drop slip begins: it advances by one sample. -/
def StreamI.dropSlip (i : StreamI) (now : Nat) : StreamI :=
  let j := { i with kind := 1, i := 0, fromI := [], slipAt := some now }
  match i.buf with
  | (_, x) :: (_, y) :: rest => ({ j with buf := rest }.rampStep x y y).fadeStep
  | [(_, x)] => ({ j with buf := [] }.rampStep x x x).fadeStep
  | [] => i

/-- The read at which an add slip begins: it is held back by one sample. -/
def StreamI.addSlip (i : StreamI) (now : Nat) : StreamI :=
  match i.buf with
  | (_, x) :: _ => ({ i with kind := 2, i := 0, fromI := [], slipAt := some now }.rampStep x i.last i.last).fadeStep
  | [] => i

/-- The target age. -/
def Dev.depth (d : Dev) : Nat := d.rd .afab .AFAB_CFG_DEPTH

/-- Silence on every slot of a stream. -/
def strmSilence (s : Nat) : List Word := List.replicate (strmSlots s) 0

/-- Show the age of the sample about to be read. -/
def Dev.showAge (d : Dev) (s : Nat) : Dev :=
  match (d.strm s).buf with
  | (t, _) :: _ => d.wrB .afab s .AFAB_STRM_STAT_AGE (min 511 (16 * d.period - t))
  | [] => d

/-- Entry into UNDERRUN (R215). -/
def Dev.strmUnder (d : Dev) (s : Nat) : Dev :=
  let i := d.strm s
  let d := ((d.setStrmState s 3).addB .afab s .AFAB_STRM_CNT_UNDERRUN 1).setEvt .afab 9
  d.setStrm s { i with kind := 0, fade := 0, held := 1, now := i.last.map substBrick }

/-- Entry into RECENTRE (R215): a ramp to 0. -/
def Dev.strmRecentre (d : Dev) (s : Nat) : Dev :=
  let d := ((d.setStrmState s 4).addB .afab s .AFAB_STRM_CNT_RECENTRE 1).setEvt .afab 8
  d.setStrm s { d.strm s with fade := 2, fadeI := 0, fadeFrom := [], recentre := false }.read

/-- The read of one stream at a house sample period; `act` is what a stream in RUN does. -/
def Dev.strmStep (d : Dev) (s act : Nat) : Dev :=
  let i := d.strm s
  if !(d.strmLive s) then
    if d.strmState s == 0 then d else (d.setStrmState s 0).setStrm s {}
  else match d.strmState s with
    | 0 => if i.buf.isEmpty then d else (d.setStrmState s 1).setStrm s { i with now := strmSilence s }
    | 1 =>
      match i.buf with
      | (t, _) :: _ =>
        if 16 * d.depth ≤ 16 * d.period - t then
          ((d.setStrmState s 2).showAge s).setStrm s { i with kind := 0, fade := 1, fadeI := 0, fadeFrom := [], slipAt := none, recentre := false }.read
        else d
      | [] => d
    | 2 =>
      let d := d.showAge s
      match act with
      | 1 => d.strmUnder s
      | 2 => d.strmRecentre s
      | 3 => (d.addB .afab s .AFAB_STRM_SLIP_DROP 1).setStrm s (i.dropSlip d.period)
      | 4 => (d.addB .afab s .AFAB_STRM_SLIP_ADD 1).setStrm s (i.addSlip d.period)
      | _ => d.setStrm s i.read
    | 3 =>
      if !i.buf.isEmpty then (d.setStrmState s 1).setStrm s { i with held := 0, now := strmSilence s }
      else if i.held < 4 then d.setStrm s { i with held := i.held + 1, now := i.last.map substBrick }
      else d.setStrm s { i with now := strmSilence s }
    | _ =>
      if i.fade == 2 && !i.buf.isEmpty then d.setStrm s i.read
      else (d.setStrmState s 1).setStrm s { now := strmSilence s }

/-- A MADI lane's streams act as its first one decides (R213). -/
def Dev.strmAct (d : Dev) (s : Nat) : Nat :=
  let i := d.strm s
  if i.buf.isEmpty then 1
  else if s < 4608 && d.rd (.lane (s / 32)) .LANE_RXCFG_MODE == 9 && d.strmState (s / 32 * 32) == 2 then
    (d.strm (s / 32 * 32)).decide d.depth d.period
  else i.decide d.depth d.period

/-- Every stream is read (R214). The decisions are taken before any stream moves. -/
def Dev.strmsRead (d : Dev) : Dev :=
  ((d.streams.map (·.1)).map (fun s => (s, d.strmAct s))).foldl (fun e x => e.strmStep x.1 x.2) d

/-! ### Generators (R219) -/

/-- A generator's state beyond its register. -/
def Dev.agen (d : Dev) (g : Nat) : GenI := Map.get (fun _ => {}) d.gens g
/-- Write it. -/
def Dev.setAgen (d : Dev) (g : Nat) (v : GenI) : Dev := { d with gens := Map.put (fun _ => {}) d.gens g v }

/-- A generator's SAMPLE field in this period, and its PRBS register after it. -/
def Dev.genSample (d : Dev) (g : Nat) : Nat × BitVec 23 :=
  let i := d.agen g
  let f := fun x => d.rdB .afab g x
  match f .AFAB_GEN_CFG_TYPE with
  | 1 => ((BitVec.ofInt 24 (toneSample (f .AFAB_GEN_CFG_LEVEL) (f .AFAB_GEN_CFG_FREQ * i.n))).toNat, i.prbs)
  | 2 => (i.n % 2 ^ 24, i.prbs)
  | 3 => prbs24 i.prbs
  | _ => (0, i.prbs)

/-- The bits of the channel-status block of a generator that R219 fixes: professional, linear audio, no emphasis, 48 kHz (AES3 byte 0, PRESUMED, log
117); the lock bit of byte 0 and bytes 1 to 22 are free. -/
def statusBit (i : Nat) : Bool :=
  if i == 0 || i == 2 || i == 7 then true
  else if i == 1 || i == 3 || i == 4 || i == 6 then false
  else Config.channelStatus i

/-- One bit into the CRC x^8 + x^4 + x^3 + x^2 + 1 of a channel-status block, from all ones (AES3). -/
def crc8Bit (c : BitVec 8) (b : Bool) : BitVec 8 := if c.getLsbD 0 != b then (c >>> 1) ^^^ 0xB8 else c >>> 1

/-- Bit `i` of a generator's channel-status block: its last byte is the CRC of the bytes before (R219). -/
def channelBit (i : Nat) : Bool :=
  if i < 184 then statusBit i
  else ((List.range 184).foldl (fun c k => crc8Bit c (statusBit k)) (0xFF : BitVec 8)).getLsbD (i - 184)

/-- A generator delivers its sample of this period. -/
def Dev.genStep (d : Dev) (g : Nat) : Dev :=
  if d.rdB .afab g .AFAB_GEN_CFG_ENABLE == 0 then d
  else
    let i := d.agen g
    let x := d.genSample g
    let w := BitVec.ofNat 32 (x.1 * 256 + (if channelBit (i.n % 192) then 32 else 0) +
      (if Config.genParity g i.n then 16 else 0) + 8 + (if i.n % 192 == 0 then 4 else 0))
    d.setAgen g { n := i.n + 1, prbs := x.2, brick := w }

/-- Every generator delivers. -/
def Dev.gensStep (d : Dev) : Dev := (List.range 512).foldl (fun e g => e.genStep g) d

/-- What follows an accepted write of GEN_CFG: periods count from the enable. -/
def Dev.genAfter (d : Dev) (g : Nat) (old v : Word) : Dev :=
  let was := Fld.AFAB_GEN_CFG_ENABLE.get old
  let now := Fld.AFAB_GEN_CFG_ENABLE.get v
  if was == 0 && now == 1 || now == 0 then d.setAgen g {} else d

/-! ### Input slots -/

/-- The brick that an input slot delivers in this period (R209, R213, R218, R219). -/
def Dev.inSlot (d : Dev) (s : Nat) : Word :=
  let of := fun (x k : Nat) =>
    match Map.get (fun _ => []) d.protAud x with
    | [] => (d.strm x).now.getD k 0
    | ws => ws.getD k 0
  if s < 18432 then of (s / 4) (s % 4)
  else if s < 49152 then of (4608 + (s - 18432) / 960) ((s - 18432) % 960)
  else if s < 52736 then (d.delay (s - 49152)).last
  else (d.agen (s - 52736)).brick

/-! ### Output slots (R207 to R212, R320) -/

/-- The active copy of an audio context. -/
def Dev.ucActive (d : Dev) (s : Nat) : Word := (d.uc s).ac d.readWall

/-- AFV finds no source (R207): the home tile's lane is FOLLOW or its source is no external SDI tile. -/
def Dev.afvNone (d : Dev) (s : Nat) : Bool :=
  (d.ucActive s).toNat / 2 ^ 30 == 1 && (d.outRoute (s / 16) || 1151 < d.effSrc (s / 16))

/-- What the active copy asks a slot to deliver (Table 9.1, R207). -/
def Dev.slotWant (d : Dev) (s : Nat) : AudSrc :=
  let w := d.ucActive s
  match w.toNat / 2 ^ 30 with
  | 0 => .slot (w.toNat % 65536)
  | 1 => if d.afvNone s then .off else .slot (d.effSrc (s / 16) * 16 + w.toNat % 16)
  | 2 => .silence
  | _ => .off

/-- The brick of a source. -/
def Dev.srcBrick (d : Dev) (x : AudSrc) : Word :=
  match x with
  | .off => 0
  | .silence => 8
  | .slot s => d.inSlot s

/-- The slot belongs to a FOLLOW lane (R135, R208). -/
def Dev.slotRoute (d : Dev) (s : Nat) : Bool := s < 18432 && d.outRoute (s / 16)

/-- The input slot of a FOLLOW lane's slot (R135). -/
def Dev.routeSlot (d : Dev) (s : Nat) : Nat :=
  match d.followLane (s / 128) with
  | some f => f * 128 + s % 128
  | none => s

/-- Ramp periods of an XFADE code (R210). -/
def xfadeLen (w : Word) : Nat := [0, 48, 96, 240, 480, 960].getD (w.toNat / 2 ^ 27 % 8) 0

/-- The ACTION of a slot's active copy. -/
def Dev.slotAct (d : Dev) (s : Nat) : Nat := (d.ucActive s).toNat / 2 ^ 30

/-- A slot of a 96 kHz pair (R206, R211). -/
def Dev.slotPair (d : Dev) (s : Nat) : Bool := if s % 2 == 0 then ucPair (d.ucActive s) else d.slotDerived s

/-- A change of a slot's source or ACTION begins: a ramp, or a cut with N = 0 (R210). -/
def Dev.slotBegin (d : Dev) (s : Nat) (want : AudSrc) : Dev :=
  let i := d.slot s
  (d.setSlot s { i with
    old := i.src, src := want, act := d.slotAct s, want := want, i := 0, n := xfadeLen (d.ucActive s), pair := d.slotPair s, fromI := false
    due := false, pending := false }).addB .afab s .AFAB_SLOT_CNT_TAKES 1

/-- A commit arrives while a ramp runs (R212). -/
def Dev.slotDefer (d : Dev) (s : Nat) (want : AudSrc) : Dev :=
  let e := (d.setSlot s { d.slot s with pending := true, due := false, want := want }).addB .afab s .AFAB_SLOT_CNT_DEFERS 1
  e.setEvtIf (e.rdB .afab s .AFAB_SLOT_CNT_DEFERS != d.rdB .afab s .AFAB_SLOT_CNT_DEFERS) .afab 10

/-- A slot's own commit, or under AFV a commit that changed its source, has not been seen (R207, R210). -/
def Dev.slotAsks (d : Dev) (s : Nat) : Bool := (d.slot s).due || d.slotWant s != (d.slot s).want

/-- A slot follows its context at the start of a period: a new source or ACTION starts, or waits for the ramp that runs. -/
def Dev.slotFollow (d : Dev) (s : Nat) : Dev :=
  let i := d.slot s
  let want := d.slotWant s
  if i.i < i.n then if d.slotAsks s then d.slotDefer s want else d
  else if want != i.src || d.slotAct s != i.act then d.slotBegin s want
  else if i.pending || i.due then d.setSlot s { i with pending := false, due := false, want := want, n := 0, i := 0 }
  else d

/-- A ramp that has run its periods ends (R210). -/
def Dev.rampEnd (d : Dev) (s : Nat) : Dev :=
  let i := d.slot s
  if i.i < i.n then d else d.setSlot s { i with n := 0, i := 0 }

/-- The source has channel-status blocks to start. -/
def AudSrc.blocks : AudSrc → Bool
  | .slot _ => true
  | _ => false

/-- The brick a slot delivers in this period, from its sources: during a ramp mixed; after it the new source's, whose channel status follows from its
next BSTART (R172; log 118). -/
def Dev.slotDeliver (d : Dev) (s : Nat) : Dev :=
  let i := d.slot s
  let b := d.srcBrick i.src
  if i.i < i.n then
    let g := if i.pair then gain (2 * i.n) (2 * i.i + s % 2) else gain i.n i.i
    let r := mixBrick g (d.srcBrick i.old) b i.fromI
    d.setSlot s { i with i := i.i + 1, fromI := r.2, brick := r.1 }
  else if i.fromI || brickStart b || !i.src.blocks then d.setSlot s { i with fromI := true, brick := b }
  else d.setSlot s { i with brick := tailBrick (d.srcBrick i.old) b }

/-- With both claims 0 a slot ramps from its last sample, held, to 0 over 48 periods, then delivers 0 (R320). -/
def Dev.slotZero (d : Dev) (s : Nat) : Dev :=
  let i := d.slot s
  let hold := if i.zero == 0 then i.brick else i.hold
  if 48 ≤ i.zero then d.setSlot s { i with brick := 0 }
  else d.setSlot s { i with zero := i.zero + 1, hold := hold, brick := (mixBrick (gain 48 i.zero) hold 0 false).1 }

/-- The slots that anything but the reset context or state has touched. -/
def Dev.slotKeys (d : Dev) : List Nat := ((d.uctx.map (·.1)) ++ (d.slots.map (·.1))).eraseDups

/-- The walls in which an audio item is late, arrives with a parity error, or is marked bad, and its slot. -/
def audWalls : AudioLate → List Nat × Nat
  | .slot w s => ([w.val], s)
  | .parity w s => ([w.val], s)
  | .bad w s => ([w.val], s)
  | .both s => ([0, 1], s)
  | .parityBoth s => ([0, 1], s)
  | .badBoth s => ([0, 1], s)
  | .line _ => ([], 0)

/-- What the walls count of an audio item. -/
def Dev.audioWalls (d : Dev) (x : AudioLate) : Dev :=
  match x with
  | .slot w _ => d.inc (.wall w) .WALL_LATE_COUNT
  | .both _ => (d.inc (.wall 0) .WALL_LATE_COUNT).inc (.wall 1) .WALL_LATE_COUNT
  | .parity w _ => d.inc (.wall w) .WALL_ERR_CNT_PARITY
  | .parityBoth _ => (d.inc (.wall 0) .WALL_ERR_CNT_PARITY).inc (.wall 1) .WALL_ERR_CNT_PARITY
  | _ => d

/-- A count of FAB.SVC rises (R202). -/
def Dev.svcCount (d : Dev) (f : Fld) : Dev := d.addEvt .fab f 1 11

/-- A slot whose accepted wall has no good sample takes the other wall's, or repeats its previous sample marked SUBST (R319, Table 8.8); `items` are those
of the period. -/
def Dev.audioLate (d : Dev) (items : List AudioLate) (x : AudioLate) (before : Dev) : Dev :=
  let d := d.audioWalls x
  let s := (audWalls x).2
  let wrong := fun (w : Nat) => items.any (fun y => (audWalls y).2 == s && (audWalls y).1.contains w)
  match d.acceptedWall with
  | none => d
  | some a =>
    if !((audWalls x).1.contains a) then d
    else if 0 < d.wallEff (1 - a) && !(wrong (1 - a)) then d.inc .cgate .CGATE_ALT_CNT_COUNT
    else (d.setSlot s { d.slot s with brick := substBrick (before.slot s).brick }).svcCount .FAB_SVC_AUDIO_COUNT

/-! ### Meters (R220) -/

/-- A metering tap's state. -/
def Dev.meter (d : Dev) (p : Nat) : MeterI := Map.get (fun _ => {}) d.meters p
/-- Write it. -/
def Dev.setMeter (d : Dev) (p : Nat) (v : MeterI) : Dev := { d with meters := Map.put (fun _ => {}) d.meters p v }

/-- The checker of a tap sees a sample that is not in a ramp: it locks after 4 correct samples and loses lock after 8 wrong among 16. A sample is correct
where it follows the one before; a PRBS register of 0 follows none. -/
def Dev.meterCheck (d : Dev) (p x : Nat) : Dev :=
  let i := d.meter p
  let locked := d.rdB .afab p .AFAB_MTR_LEVEL_CHECK_LOCK == 1
  let isPrbs := d.rdB .afab p .AFAB_MTR_CFG_CHECK == 2
  let expect := if isPrbs then prbs24 i.prbs else ((i.last.getD 0 + 1) % 2 ^ 24, i.prbs)
  let ok := x == expect.1 && i.last.isSome && !(isPrbs && i.prbs == 0)
  let got : BitVec 23 := BitVec.ofNat 23 x
  let hist := (ok :: i.hist).take 16
  if locked then
    let d := d.setMeter p { i with last := some expect.1, prbs := expect.2, hist := hist }
    let d := if ok then d else d.addB .afab p .AFAB_MTR_LEVEL_CHECK_ERR 1
    if 8 ≤ (hist.filter (fun b => !b)).length then
      ((d.wrB .afab p .AFAB_MTR_LEVEL_CHECK_LOCK 0).setMeter p { d.meter p with run := 0, hist := [] }).setEvt .afab 11
    else d
  else
    let run := if ok then i.run + 1 else 0
    let d := d.setMeter p { i with last := some x, prbs := got, run := run, hist := [] }
    if 4 ≤ run then d.wrB .afab p .AFAB_MTR_LEVEL_CHECK_LOCK 1 else d

/-- A metering tap sees its slot's brick of this period. -/
def Dev.meterStep (d : Dev) (p : Nat) : Dev :=
  if d.rdB .afab p .AFAB_MTR_CFG_ENABLE == 0 then d
  else
    let w := (d.slot (52736 + p)).brick
    let x := brickSample w
    let i := d.meter p
    let d := d.setMeter p { i with
      count := i.count + 1, peak := max i.peak x.natAbs, sum := i.sum + x.natAbs * x.natAbs
      good := i.good && brickPresent w && !(brickSubst w) }
    if d.rdB .afab p .AFAB_MTR_CFG_CHECK == 0 || brickRamp w then d else d.meterCheck p (w.toNat / 256)

/-- RMS in steps of 0.25 dB below full scale, saturating at 511; between two steps, one of them. -/
def rmsSteps (sum count : Nat) : Nat :=
  if sum == 0 then 511
  else
    let full := 8388607 * 8388607 * count
    let k := rmsFloor 511 0 full sum
    min 511 (k + (if sum ^ 40 * 10 ^ k != full ^ 40 && Config.rmsUp sum count then 1 else 0))

/-- A tap's window ends (R220). -/
def Dev.meterEnd (d : Dev) (p : Nat) : Dev :=
  let i := d.meter p
  if d.rdB .afab p .AFAB_MTR_CFG_ENABLE == 0 || !(d.enabled .afab) then d
  else
    let d := (d.wrB .afab p .AFAB_MTR_PEAK_VALID (if i.good && 0 < i.count then 1 else 0)).wrB .afab p .AFAB_MTR_PEAK_PEAK
      (min i.peak (2 ^ 24 - 1))
    let d := d.wrB .afab p .AFAB_MTR_LEVEL_RMS (rmsSteps i.sum i.count)
    d.setMeter p { i with count := 0, peak := 0, sum := 0, good := true }

/-- What follows an accepted write of MTR_CFG: a new measurement. -/
def Dev.meterAfter (d : Dev) (p : Nat) (old v : Word) : Dev :=
  let d := if old == v then d else d.setMeter p {}
  if Fld.AFAB_MTR_CFG_CHECK.get old != Fld.AFAB_MTR_CFG_CHECK.get v || Fld.AFAB_MTR_CFG_ENABLE.get v == 0 then
    d.wrB .afab p .AFAB_MTR_LEVEL_CHECK_LOCK 0
  else d

/-! ### Delay lines in the period (R311) -/

/-- A delay line whose read misses its deadline repeats its previous sample marked SUBST (R312). -/
def Dev.lineLate (d : Dev) (before : Dev) (x : AudioLate) : Dev :=
  match x with
  | .line i =>
    let m := dlMemc i
    let e := (d.setDelay i { d.delay i with last := substBrick (before.delay i).last }).inc (.memc m) .MEMC_LATE_AUD_COUNT
    let up := e.rd (.memc m) .MEMC_LATE_AUD_COUNT != d.rd (.memc m) .MEMC_LATE_AUD_COUNT
    (e.setEvtIf up .fst 10).setEvtIf up (.memc m) 10
  | _ => d

/-- A running delay line delivers the sample of DELAY periods ago, ramping from an old read point; a MEMC that carries no traffic makes it late. -/
def Dev.delayRead (d : Dev) (i : Nat) : Dev :=
  if !(d.dlRuns i) then d.setDelay i { d.delay i with last := 0 }
  else if !(d.memcReady (dlMemc i)) then d.lineLate d (.line i)
  else
    let x := d.delay i
    let now := d.dlSample i (d.dlf i .FST_DL_CFG_DELAY)
    let r := if x.ramp < 48 then mixBrick (gain 48 x.ramp) (d.dlSample i x.oldDelay) now x.fromI else (now, x.fromI)
    (d.setDelay i { x with last := r.1, fromI := r.2 }).memBw (dlMemc i) false (64 * Config.delayBursts i x.written false)

/-- A running delay line writes its output slot's brick. -/
def Dev.delayWrite (d : Dev) (i : Nat) : Dev := if d.dlRuns i then d.dlWrite i (d.slot (49152 + i)).brick else d

/-- The delay lines that run or have run. -/
def Dev.delayKeys (d : Dev) : List Nat :=
  (List.range 3584).filter (fun i => d.dlf i .FST_DL_CFG_ENABLE == 1 || (d.delay i).last != 0)

/-! ### The AFAB page -/

/-- STATE of a slot in SLOT_STAT. -/
def Dev.slotStat (d : Dev) (s : Nat) : Word :=
  if d.lanesIdle then 0 else
  let i := d.slot s
  let st := if d.slotRoute s then 4 else if i.i < i.n then 3 else
    match i.src with
    | .off => 0
    | .silence => 2
    | .slot _ => 1
  let eff := match i.src with
    | .slot x => x
    | _ => 0
  BitVec.ofNat 32 (st * 2 ^ 29 + (if i.pending then 2 ^ 28 else 0) + (if d.afvNone s then 2 ^ 25 else 0) +
    (if d.slotDerived s then 2 ^ 24 else 0) + eff)

/-- Every bank of an AFAB register keeps only the bits of a mask. -/
def Dev.afabMask (d : Dev) (off : Nat) (mask : Word) : Dev :=
  (d.regs.filter (fun x => x.1 % 0x10000000 == Page.afab.base + off)).foldl (fun e x => e.setReg x.1 (x.2 &&& mask)) d

/-- AFAB.CTL.CNT_CLR: every SLOT_CNT, STRM_SLIP, STRM_CNT and CHECK_ERR. -/
def Dev.afabCntClr (d : Dev) : Dev :=
  (((d.afabMask 0x03C 0).afabMask 0x048 0).afabMask 0x04C 0).afabMask 0x064 0x0000FFFF#32

/-- A write of CFG.DEPTH puts every stream in RUN into RECENTRE at its next read (R217). -/
def Dev.depthWrite (d : Dev) : Dev :=
  (d.streams.map (·.1)).foldl (fun e s => if e.strmState s == 2 then e.setStrm s { e.strm s with recentre := true } else e) d

/-- While AFAB is disabled every output slot delivers 0 with PRESENT = 0, and generators and meters stop (R221). -/
def Dev.afabStop (d : Dev) : Dev :=
  let d := { d with gens := [], meters := [] }
  (d.slots.map (·.1)).foldl (fun e s => e.setSlot s { e.slot s with brick := 0 }) d

/-- What follows an accepted write of an AFAB register. -/
def Dev.afabAfter (d : Dev) (off : Nat) (old v : Word) : Dev :=
  if off == 0x020 then d.depthWrite
  else if off == 0x024 then if Fld.AFAB_CTL_CNT_CLR.get v == 1 then d.afabCntClr else d
  else if off == 0x054 then d.genAfter (d.rd .afab .AFAB_GEN_SEL_GEN) old v
  else if off == 0x05C then d.meterAfter (d.rd .afab .AFAB_MTR_SEL_TAP) old v
  else if off == 0x008 then if Fld.PAGE_CTRL_ENABLE.get v == 0 then d.afabStop else d
  else d

/-- A BLOCK reset of AFAB puts every stream into IDLE (R221). -/
def Dev.afabReset (d : Dev) : Dev := { d with streams := [], gens := [], meters := [] }

/-! ### Protected streams (R257, R260) -/

/-- The streams of a member of a group, in the order in which those of W and P correspond. -/
def Dev.memberStreams (d : Dev) (g lead : Nat) : List Nat :=
  if d.pg g .PROT_PG_CFG_KIND == 1 then [4608 + 2 * lead, 4608 + 2 * lead + 1]
  else (d.memberLanes 0 lead).flatMap (fun l => (List.range 32).map (32 * l + ·))

/-- The member whose samples a group's audio goes to: the one whose line is delivered in line repair, else SEL; W while it is disabled. -/
def Dev.audioMember (d : Dev) (g : Nat) : Nat :=
  let s := d.group g
  if !(s.enabled && d.enabled .prot) then 0
  else if d.pg g .PROT_PG_CFG_KIND == 0 && d.pg g .PROT_PG_STAT_EFF_MODE == 0 then s.now
  else d.pg g .PROT_PG_STAT_SEL

/-- The audio of a protection group in one period: a change of member is a ramp of 48 periods (R260). -/
def Dev.groupAudio (d : Dev) (g : Nat) : Dev :=
  let s := d.group g
  let want := d.audioMember g
  let pairs := if s.enabled && s.audioI == 48 then
      (d.memberStreams g (d.pg g .PROT_PG_CFG_W_LEAD)).zip (d.memberStreams g (d.pg g .PROT_PG_CFG_P_LEAD))
    else s.pairs
  let s := { s with pairs := if s.audio == 0 && want == 0 && s.audioI == 48 then [] else pairs }
  let s := if s.audioI == 48 && want != s.audio then { s with audio := want, audioI := 0, audioFrom := [] } else s
  let own := fun (x : Nat) => match (d.strm x).now with
    | [] => strmSilence x
    | ws => ws
  if s.audioI < 48 then
    let r := s.pairs.map (fun x =>
      let o := own (if s.audio == 1 then x.1 else x.2)
      let i := own (if s.audio == 1 then x.2 else x.1)
      (x.1, mixAll (gain 48 s.audioI) o i (Map.get (fun _ => []) s.audioFrom x.1)))
    let d := { d with protAud := r.foldl (fun m (x : Nat × List (Word × Bool)) => Map.put (fun _ => []) m x.1 (x.2.map (fun (y : Word × Bool) => y.1))) d.protAud }
    d.setGroup g { s with
      audioI := s.audioI + 1, audioFrom := r.foldl (fun m (x : Nat × List (Word × Bool)) => Map.put (fun _ => []) m x.1 (x.2.map (fun (y : Word × Bool) => y.2))) s.audioFrom }
  else
    let d := { d with protAud := s.pairs.foldl (fun m (x : Nat × Nat) => Map.put (fun _ => []) m x.1 (if s.audio == 1 then own x.2 else [])) d.protAud }
    d.setGroup g s

/-- The audio of every protection group in one period. -/
def Dev.groupsAudio (d : Dev) : Dev :=
  (d.groups.map (·.1)).foldl (fun e g => e.groupAudio g) { d with protAud := [] }

/-! ### The house sample period (R214, R209) -/

/-- The audio fabric in one house sample period: the streams are read, generators and delay lines deliver, every output slot follows
its context and delivers, and the delay lines and meters take what they are given. -/
def Dev.audioPeriod (d : Dev) (lates : List AudioLate) : Dev :=
  let before := d
  let d := (({ d with period := d.period + 1 }).strmsRead).groupsAudio
  let isOn := d.enabled .afab
  let d := if isOn then d.gensStep else d
  let d := d.delayKeys.foldl (fun e i => e.delayRead i) d
  let d := lates.foldl (fun e x => e.lineLate before x) d
  let keys := d.slotKeys
  let d := keys.foldl (fun e s => if e.slotRoute s then e else e.slotFollow s) d
  let d := match d.acceptedWall with
    | some _ => keys.foldl (fun (e : Dev) s => (e.slotDeliver s).setSlot s { (e.slotDeliver s).slot s with zero := 0 }) d
    | none => keys.foldl (fun (e : Dev) s => e.slotZero s) d
  let d := lates.foldl (fun e x => e.audioLate lates x before) d
  let d := if isOn then d else d.afabStop
  let d := d.delayKeys.foldl (fun e i => e.delayWrite i) d
  if isOn then (List.range 512).foldl (fun e p => e.meterStep p) d else d

/-- The brick of an output slot in this period: on a FOLLOW lane, of the followed lane's slot (R135); 0 while AFAB is disabled (R221). -/
def Dev.outSlot (d : Dev) (s : Nat) : Word :=
  if !(d.enabled .afab) then 0 else if d.slotRoute s then d.inSlot (d.routeSlot s) else (d.slot s).brick

end Sys2Proof.Machine
end

