-- ==== Sys2Proof/Machine/Timing.lean ====
section
/-! DEFINITION. The timing unit (R268 to R296): reference inputs, selection, transitions, holdover, timing domains, their alignment
grid, realignment and slews. -/

namespace Sys2Proof.Machine

/-! ### Numbers -/

/-- A quotient that the spec leaves without a rounding: one of its two neighbours. -/
def divOpen (place : Nat) (n : Int) (k : Nat) : Int :=
  if n % k == 0 then n / k else n / k + (if Config.roundUp place n k then 1 else 0)

/-- The mean of a list of numbers, 0 where there are none. -/
def meanOpen (place : Nat) (xs : List Int) : Int := if xs.isEmpty then 0 else divOpen place xs.sum xs.length

/-- A signed 32-bit number as a field. -/
def field32 (x : Int) : Nat := (x % 4294967296).toNat

/-- The signed number in a field of `w` bits. -/
def signedOf (w v : Nat) : Int := if v < 2 ^ (w - 1) then v else (v : Int) - 2 ^ w

/-- A frame period of a format in 1/16 of a 148.5 MHz period (R282, R290). -/
def framePeriod (fmt : Nat) : Nat :=
  match fmtOf fmt with
  | none => 0
  | some f =>
    let p := 16 * 148500000 / f.fps
    if f.family == 1 || fmt == 1 then p / 1000 * 1001 + p % 1000 * 1001 / 1000 else p

/-! ### Reference inputs (R270 to R276) -/

/-- A reference input's state beyond its registers. -/
def Dev.ref (d : Dev) (r : Nat) : RefI := Map.get (fun _ => {}) d.refs r
/-- Write it. -/
def Dev.setRef (d : Dev) (r : Nat) (v : RefI) : Dev := { d with refs := Map.put (fun _ => {}) d.refs r v }
/-- A field of an input's page. -/
def Dev.rf (d : Dev) (r : Nat) (f : Fld) : Nat := d.rd (.refin r) f
/-- STAT.STATE of an input (Table 12.3). -/
def Dev.refState (d : Dev) (r : Nat) : Nat := d.rf r .REFIN_STAT_STATE
/-- STAT.DRIFT of an input. -/
def Dev.refDrift (d : Dev) (r : Nat) : Bool := d.rf r .REFIN_STAT_DRIFT == 1
/-- The input is eligible (R277). -/
def Dev.eligible (d : Dev) (r : Nat) : Bool := d.refState r == 3 && !(d.refDrift r)

/-- A field of the TMU page. -/
def Dev.tf (d : Dev) (f : Fld) : Nat := d.rd .tmu f
/-- Change the timing unit's state. -/
def Dev.withTmu (d : Dev) (f : TmuI → TmuI) : Dev := { d with tmu := f d.tmu }

/-- TM_ALARM and STAT.ALARM (R276). -/
def Dev.alarmSettle (d : Dev) : Dev :=
  d.wrOn .tmu .TMU_STAT_ALARM ((List.range 8).any (fun r =>
    d.enabled (.refin r) && (d.rf r .REFIN_STAT_LOST == 1 || d.refDrift r)))

/-- The grid period that an input gives, in 1/16 of a 148.5 MHz period; 0 where any period fits (Table 12.6). -/
def Dev.refGrid (d : Dev) (r : Nat) : Option Nat :=
  if d.refState r < 2 then none
  else if r < 2 then
    match d.rf r .REFIN_STAT_TYPE with
    | 1 =>
      if d.rf r .REFIN_STAT_FMT == 2 then some (framePeriod 2)
      else some (if d.rf r .REFIN_STAT_TEN_FIELD == 1 then 5 * framePeriod 1 else framePeriod 1)
    | 2 => some (framePeriod (d.rf r .REFIN_STAT_FMT))
    | _ => none
  else if r == 3 then if d.rf 3 .REFIN_TOD_SEC_HI_TOD_VALID == 1 then some 0 else none
  else if r == 4 || r == 5 then some (framePeriod (d.frmFmt (d.rf r .REFIN_CFG_LANE)))
  else none

/-- A grid exists for a format (R290): the TMU is LOCKED on an input whose grid period is a whole multiple of the frame period. -/
def Dev.gridFor (d : Dev) (fmt : Nat) : Bool :=
  d.tf .TMU_STAT_STATE == 2 && fmt != 0 &&
    (match d.refGrid (d.tf .TMU_STAT_SEL_REF) with
     | some g => g % framePeriod fmt == 0
     | none => false)

/-! ### Domains: realignment (R290 to R293) -/

/-- A field of a domain's page. -/
def Dev.td (d : Dev) (k : Nat) (f : Fld) : Nat := d.rd (.tdom k) f

/-- STAT.SLEWING follows a REALIGN SLEW and the pending offset slew. -/
def Dev.slewSettle (d : Dev) (k : Nat) : Dev :=
  d.wrOn (.tdom k) .TDOM_STAT_SLEWING (d.td k .TDOM_STAT_REALIGN == 2 || (d.dom k).offLeft != 0)

/-- An armed or running REALIGN ends (R292). -/
def Dev.realignEnd (d : Dev) (k : Nat) (cancelled : Bool) : Dev :=
  if d.td k .TDOM_STAT_REALIGN == 0 then d
  else (((d.wr (.tdom k) .TDOM_STAT_REALIGN 0).wrOn (.tdom k) .TDOM_STAT_CANCELLED cancelled).setEvt (.tdom k) 10).slewSettle k

/-- ALIGN_ERR.VALID falls where no grid exists any more, and an armed or running REALIGN is cancelled; it rises where one exists for a domain
whose frames run, with an error that is free until the domain's next frame start brings it (R290, R292, log 124). -/
def Dev.alignSettle (d : Dev) : Dev :=
  (List.range 16).foldl (fun e k =>
    let valid := e.td k .TDOM_ALIGN_ERR_VALID == 1
    let grid := e.gridFor (e.domFmt k)
    if valid && !grid then (e.wr (.tdom k) .TDOM_ALIGN_ERR_VALID 0).realignEnd k true
    else if !valid && grid && !(e.dom k).waits then
      let x := e.draw 31
      (x.2.wr (.tdom k) .TDOM_ALIGN_ERR_VALID 1).wr (.tdom k) .TDOM_ALIGN_ERR_ERR x.1.toNat
    else e) d

/-! ### PHASE_STEP (R293) -/

/-- What remains of a phase step, at a SLEW.RATE of `rate` in 0.1 ppm, in 1/4,096 of a 148.5 MHz period: 148,500,000 × 4,096 × `rate` / 10⁷ of them
go in 40,000,000 XO ticks. -/
def Dev.phaseLeftAt (d : Dev) (rate : Nat) : Int :=
  let x := signedOf 32 (d.tf .TMU_PHASE_LEFT_LEFT)
  let gone : Int := (d.since d.tmu.stepAt * rate * 4752 / 3125000 : Nat)
  if 0 ≤ x then max 0 (x - gone) else min 0 (x + gone)

/-- PHASE_LEFT: what remains of the phase step. -/
def Dev.phaseLeft (d : Dev) : Int := d.phaseLeftAt (d.tf .TMU_SLEW_RATE)

/-! ### The timing unit: states and selection (R277 to R285) -/

/-- 100 ppm as a frequency word (R268). -/
def dcoLimit : Int := 28147497671

/-- The DCO lies within 100 ppm of XO_CAL (R268). -/
def Dev.clampDco (d : Dev) (w : Int) : Int := max (d.tmu.cal - dcoLimit) (min (d.tmu.cal + dcoLimit) w)

/-- The frequency word in force (Table 12.4, R280). -/
def Dev.dcoNow (d : Dev) : Int :=
  match d.tf .TMU_STAT_STATE with
  | 0 => d.tmu.cal
  | 3 => d.clampDco d.tmu.hold
  | 1 =>
    match d.tmu.ramp with
    | some (t, goal) => d.clampDco (d.tmu.dco + divOpen 1 ((goal - d.tmu.dco) * (min (d.since t) 20000000 : Nat)) 20000000)
    | none => d.clampDco d.tmu.dco
  | _ => d.clampDco d.tmu.dco

/-- The entries of the history used for HOLD at anchor `a` (R284). -/
def TmuI.holdSet (t : TmuI) (a holdoff w : Nat) : List Int :=
  let valid := t.hist.filterMap (fun e => e.2.map (fun v => ((e.1 : Int), v)))
  let top : Int := (a : Int) - holdoff
  let near := valid.filter (fun e => top - w ≤ e.1 && e.1 < top)
  if near.isEmpty then ((valid.filter (fun e => e.1 < top)).take w).map (·.2) else near.map (·.2)

/-- HOLD is computed (R284). -/
def Dev.holdCompute (d : Dev) : Dev :=
  let a := match d.tmu.freeze with
    | some x => x.2
    | none => d.tmu.window
  let vs := d.tmu.holdSet a (d.tf .TMU_HOLD_CFG_HOLDOFF) (d.tf .TMU_HOLD_CFG_W)
  let h := if vs.isEmpty then d.tmu.cal else meanOpen 2 vs
  let d := d.withTmu (fun t => { t with hold := h })
  let d := (d.wr .tmu .TMU_HOLD_LO_LO (field32 h)).wr .tmu .TMU_HOLD_HI_HOLD_N vs.length
  if vs.isEmpty then (d.wr .tmu .TMU_STAT_HOLDOVER_SHORT 1).setEvt .tmu 10 else d

/-- The TMU enters a state of Table 12.4. -/
def Dev.tmuEnter (d : Dev) (s : Nat) : Dev :=
  if d.tf .TMU_STAT_STATE == s then d
  else
    let d := if s == 0 || s == 3 then d.wr .tmu .TMU_STAT_SEL_VALID 0 else d
    let d := if s == 3 then d.holdCompute else d
    let d := (d.wr .tmu .TMU_STAT_STATE s).withTmu (fun t => { t with winOk := false, prev := none })
    (d.setEvt .tmu 8).alignSettle

/-- The input of the last selection: SEL_REF while SEL_VALID, else the one that an ended transition gave up. -/
def Dev.lastSel (d : Dev) : Option Nat :=
  if d.tf .TMU_STAT_SEL_VALID == 1 then some (d.tf .TMU_STAT_SEL_REF) else d.tmu.prev

/-- A transition to input `r` starts (R280, step 1): the DCO holds its word, or takes HOLD, which is computed if the transition follows a loss (R284)
and stands as it is if no input was selected (log 125). -/
def Dev.transition (d : Dev) (r : Nat) : Dev :=
  let keeps := match d.lastSel with
    | some p => d.refState p == 3
    | none => false
  let d := if keeps then d.withTmu (fun t => { t with dco := d.dcoNow })
    else
      let d := if d.lastSel.isNone then d else d.holdCompute
      d.withTmu (fun t => { t with dco := t.hold })
  let d := d.withTmu (fun t => { t with ramp := none, step := 1, prev := none, phase := 0, winOk := false })
  let d := (d.wr .tmu .TMU_STAT_TRANSITION 1).wr .tmu .TMU_STAT_TARGET r
  let d := d.tmuEnter 1
  (List.range 16).foldl (fun e k => e.realignEnd k true) d

/-- SEL_CFG.MODE in force: HOLDOVER while the page is disabled. -/
def Dev.tmuMode (d : Dev) : Nat := if d.enabled .tmu then d.tf .TMU_SEL_CFG_MODE else 2

/-- PRIO entry `i`: VALID and REF. -/
def Dev.prio (d : Dev) (i : Nat) : Nat := (d.reg (regKey .tmu 0 0x024)).toNat / 16 ^ i % 16

/-- The wait-to-restore timer of an input has expired or does not run. -/
def Dev.wtrDone (d : Dev) (r : Nat) : Bool := !(d.ref r).wtr

/-- The evaluation of R277; none while a transition runs. -/
def Dev.tmuEval (d : Dev) : Dev :=
  if d.tf .TMU_STAT_TRANSITION == 1 then d
  else
    let cmd := d.tmu.cmd
    let d := d.withTmu (fun t => { t with cmd := false })
    let rest := if d.tmu.wasLocked then 3 else 0
    if d.tmuMode == 1 then d.tmuEnter 0
    else if d.tmuMode == 2 then d.tmuEnter rest
    else
      let man := d.tf .TMU_SEL_CFG_MANUAL
      let sel := d.tf .TMU_STAT_SEL_REF
      let valid := d.tf .TMU_STAT_SEL_VALID == 1
      if cmd && d.eligible man && !(valid && sel == man) then d.transition man
      else if valid && d.refState sel == 3 then
        if d.tf .TMU_SEL_CFG_REVERT == 1 && sel != man && d.eligible man && d.wtrDone man then d.transition man else d
      else if d.eligible man then d.transition man
      else match (List.range 8).find? (fun i => 8 ≤ d.prio i && d.eligible (d.prio i % 8)) with
        | some i => d.transition (d.prio i % 8)
        | none => d.tmuEnter rest

/-- The history thaws (R283). -/
def Dev.thaw (d : Dev) : Dev :=
  (d.withTmu (fun t => { t with freeze := none })).wr .tmu .TMU_STAT_HIST_FROZEN 0

/-- DRIFT of an input rises or falls (R275, R283). -/
def Dev.setDrift (d : Dev) (r : Nat) (v : Bool) : Dev :=
  let d := (d.wrOn (.refin r) .REFIN_STAT_DRIFT v).setRef r { d.ref r with calm := 0 }
  let d :=
    if v then
      let d := d.setEvt (.refin r) 10
      if d.tf .TMU_STAT_SEL_VALID == 1 && d.tf .TMU_STAT_SEL_REF == r && d.tmu.freeze.isNone then
        ((d.withTmu (fun t => { t with freeze := some (r, t.window), winOk := false })).wr .tmu .TMU_STAT_HIST_FROZEN 1).setEvt .tmu 11
      else d
    else
      match d.tmu.freeze with
      | some (q, _) => if q == r then d.thaw else d
      | none => d
  d.alarmSettle

/-- The transition ends without LOCKED (R280): its target was disqualified. -/
def Dev.transitionAbort (d : Dev) : Dev :=
  let w := d.dcoNow
  let p := d.lastSel
  let d := d.withTmu (fun t => { t with dco := w, ramp := none, step := 0, prev := p })
  (d.wr .tmu .TMU_STAT_TRANSITION 0).wr .tmu .TMU_STAT_SEL_VALID 0

/-- Time of day becomes valid or invalid (R272). -/
def Dev.setTod (d : Dev) (v : Bool) : Dev := (d.wrOn (.refin 3) .REFIN_TOD_SEC_HI_TOD_VALID v).alignSettle

/-- The inputs that are QUALIFIED. -/
def Dev.qualified (d : Dev) : List Nat := (List.range 8).filter (fun r => d.refState r == 3)

/-- PEER.VALID falls where the input, or all but two, is no longer QUALIFIED (R273). -/
def Dev.peersSettle (d : Dev) : Dev :=
  (List.range 8).foldl (fun e r =>
    if e.rf r .REFIN_PEER_VALID == 1 && (e.refState r != 3 || e.qualified.length < 3) then e.wr (.refin r) .REFIN_PEER_VALID 0 else e) d

/-- An input changes state (Table 12.3), with no evaluation. QUAL_CNT is zeroed on entry into QUALIFYING and shows 10 on entry into QUALIFIED. -/
def Dev.refGo (d : Dev) (r s : Nat) : Dev :=
  let p := Page.refin r
  let old := d.refState r
  if old == s then d
  else
    let d := (d.wr p .REFIN_STAT_STATE s).wr p .REFIN_STAT_FAULT_PEND 0
    let d := if s == 2 then d.wr p .REFIN_STAT_QUAL_CNT 0 else if s == 3 then d.wr p .REFIN_STAT_QUAL_CNT 10 else d
    let d := if old == 3 then
        let d := (d.wr p .REFIN_STAT_LOST 1).setRef r { d.ref r with wtr := false }
        if s != 0 then (d.inc p .REFIN_CNT_DISQ).setEvt p 9 else d
      else d
    let d := if s == 3 then
        let d := (d.wr p .REFIN_STAT_LOST 0).setEvt p 8
        d.setRef r { d.ref r with wtr := d.tf .TMU_SEL_CFG_WTR != 0, wtrAt := d.xo.toNat }
      else d
    let d := if s < 2 then
        let d := d.setRef r { d.ref r with freqs := [] }
        let d := if d.refDrift r then d.setDrift r false else d
        let d := ((d.wr p .REFIN_STAT_TYPE 0).wr p .REFIN_STAT_TEN_FIELD 0).wr p .REFIN_STAT_FMT 0
        let d := if r == 3 then (d.setRef 3 { d.ref 3 with todRun := 0 }).setTod false else d
        if s == 0 then d.wr p .REFIN_STAT_LOST 0 else d.setEvt p 11
      else d
    let d := if d.tf .TMU_STAT_TRANSITION == 1 && d.tf .TMU_STAT_TARGET == r && old == 3 then d.transitionAbort else d
    d.peersSettle.alarmSettle.alignSettle

/-- The receive lane whose recovered clock an input takes (Table 12.1). -/
def Dev.refLane (d : Dev) (r : Nat) : Option Nat :=
  if r == 4 || r == 5 then some (d.rf r .REFIN_CFG_LANE) else if r == 6 then some (144 + d.rf 6 .REFIN_CFG_LANE % 16) else none

/-- The signal of an input on a lane can be present: its framer is in FRAME_SYNC. -/
def Dev.refCan (d : Dev) (r : Nat) : Bool :=
  match d.refLane r with
  | some l => d.frmState l == 4 && (144 ≤ l || modeSdi (d.rxMode l))
  | none => true

/-- REF_SIGNAL_PRESENT (R274). -/
def Dev.refPresent (d : Dev) (r : Nat) : Dev := if d.refState r == 1 && d.refCan r then (d.refGo r 2).tmuEval else d

/-- REF_SIGNAL_ABSENT (R274). -/
def Dev.refAbsent (d : Dev) (r : Nat) : Dev := if 2 ≤ d.refState r then (d.refGo r 1).tmuEval else d

/-- The inputs on recovered clocks follow their framers (Table 12.1). -/
def Dev.refsSettle (d : Dev) : Dev :=
  ([4, 5, 6].foldl (fun e r => if 2 ≤ e.refState r && !(e.refCan r) then e.refAbsent r else e) d).alignSettle

/-- What a reference input's signal shows (R270, R271): an event, a pulse the filter discards, or an identification. -/
def Dev.refEvent (d : Dev) (r : Nat) (e : RefEvent) : Dev :=
  let p := Page.refin r
  if d.refState r == 0 then d
  else match e with
    | .event => d
    | .discarded => d.inc p .REFIN_CNT_GLITCH
    | .identified type fmt ten =>
      if 1 < r then d
      else if 2 ≤ d.refState r && d.rf r .REFIN_STAT_TYPE != 0 && (d.rf r .REFIN_STAT_TYPE != type || d.rf r .REFIN_STAT_FMT != fmt) then
        d.refAbsent r
      else if 2 ≤ d.refState r then
        (((d.wr p .REFIN_STAT_TYPE type).wr p .REFIN_STAT_FMT fmt).wrOn p .REFIN_STAT_TEN_FIELD (ten && type == 1)).alignSettle
      else d

/-! ### Measurement (R273 to R275, R283) -/

/-- RATE of an input from its measurements, newest first (R273). -/
def rateOf (fs : List Int) : Int :=
  if fs.length < 8 then 0 else divOpen 3 ((fs.take 4).sum - ((fs.drop 4).take 4).sum) 16

/-- Insert into a rising list. -/
def insertUp (x : Int) : List Int → List Int
  | [] => [x]
  | y :: ys => if x ≤ y then x :: y :: ys else y :: insertUp x ys

/-- The median, truncated towards zero with an even number (R273). -/
def median (xs : List Int) : Int :=
  let s := xs.foldr insertUp []
  let m := s.length
  if m == 0 then 0
  else if m % 2 == 1 then s.getD (m / 2) 0
  else Int.tdiv (s.getD (m / 2 - 1) 0 + s.getD (m / 2) 0) 2

/-- One input is judged at the end of a window, with the median of the `m` QUALIFIED inputs (R273 to R275). -/
def Dev.refJudge (d : Dev) (r : Nat) (f med : Int) (m : Nat) : Dev :=
  let p := Page.refin r
  let rate := rateOf (d.ref r).freqs
  let soft : Nat := 10 * d.rf r .REFIN_LIM_SOFT
  let hard : Nat := 10 * d.rf r .REFIN_LIM_HARD
  let valid := d.refState r == 3 && 3 ≤ m
  let peer := f - med
  let d := (d.wrOn p .REFIN_PEER_VALID valid).wr p .REFIN_PEER_PEER ((peer % 2147483648).toNat)
  let bad := hard < f.natAbs || 10 * d.rf r .REFIN_RATE_LIM_RATE_LIM < rate.natAbs || (valid && hard < peer.natAbs)
  let d :=
    if !(d.refDrift r) then if soft < f.natAbs then d.setDrift r true else d
    else
      let c := if 10 * f.natAbs ≤ 9 * soft then (d.ref r).calm + 1 else 0
      if 10 ≤ c then d.setDrift r false else d.setRef r { d.ref r with calm := c }
  if d.refState r == 2 then
    let q := if f.natAbs ≤ soft && !bad then d.rf r .REFIN_STAT_QUAL_CNT + 1 else 0
    if 10 ≤ q then d.refGo r 3 else d.wr p .REFIN_STAT_QUAL_CNT q
  else if bad && d.rf r .REFIN_STAT_FAULT_PEND == 1 then d.refGo r 2
  else d.wrOn p .REFIN_STAT_FAULT_PEND bad

/-- The window's history entry (R283). -/
def Dev.histAppend (d : Dev) (mean : Int) : Dev :=
  let still := d.tf .TMU_STAT_STATE == 2 && d.tf .TMU_STAT_TRANSITION == 0 && d.phaseLeft == 0 && d.tmu.freeze.isNone
  let v := if d.tmu.winOk && still then some (d.clampDco mean) else none
  let d := d.withTmu (fun t => { t with hist := ((t.window, v) :: t.hist).take 1024, winOk := still })
  d.wr .tmu .TMU_HIST_VALID_N (d.tmu.hist.filter (·.2.isSome)).length

/-- REF_MEASUREMENT: a window of 40,000,000 XO ticks ends (R273): what each input measures, the mean DCO of the window, and the word
that the closed loop has reached. The evaluation follows all of it. -/
def Dev.refMeasure (d : Dev) (freqs : List (Option Int)) (mean now : Int) : Dev :=
  let got := (List.range 8).filterMap (fun r =>
    if 2 ≤ d.refState r then (freqs.getD r none).map (fun f => (r, f)) else none)
  let d := if d.tf .TMU_STAT_STATE == 2 then d.withTmu (fun t => { t with dco := now }) else d
  let d := got.foldl (fun e x =>
    let fs := (x.2 :: (e.ref x.1).freqs).take 8
    let e := (e.setRef x.1 { e.ref x.1 with freqs := fs }).wr (.refin x.1) .REFIN_FREQ_FREQ (field32 x.2)
    e.wr (.refin x.1) .REFIN_RATE_RATE (field32 (rateOf fs))) d
  let q := (got.filter (fun x => d.refState x.1 == 3)).map (·.2)
  let d := (got.foldl (fun e x => e.refJudge x.1 x.2 (median q) q.length) d).peersSettle
  let d := (d.histAppend mean).tmuEval
  d.withTmu (fun t => { t with window := t.window + 1 })

/-- REF_WTR_EXPIRY (R278). -/
def Dev.wtrExpire (d : Dev) (r : Nat) : Dev :=
  if (d.ref r).wtr then (d.setRef r { d.ref r with wtr := false }).tmuEval else d

/-- STAT.WTR_LEFT (R278). -/
def Dev.wtrLeft (d : Dev) : Nat :=
  let i := d.ref (d.tf .TMU_SEL_CFG_MANUAL)
  if i.wtr then (divOpen 4 (max 0 ((d.tf .TMU_SEL_CFG_WTR * 40000000 : Nat) - (d.since i.wtrAt : Int))) 40000000).toNat else 0

/-! ### Transition steps (R280, R282) -/

/-- The word that reproduces the mean of an input's last 4 measurements (R280, step 3). -/
def Dev.goalOf (d : Dev) (r : Nat) : Int :=
  let fs := (d.ref r).freqs.take 4
  if fs.isEmpty then d.tmu.cal
  else d.clampDco (d.tmu.cal + divOpen 5 (fs.sum * (2 ^ 48 + d.tmu.cal)) (fs.length * 10 ^ 10))

/-- TRANSITION_PHASE_CAPTURE: step 2, and the ramp of step 3 begins. -/
def Dev.phaseCapture (d : Dev) (phase : Int) : Dev :=
  if d.tf .TMU_STAT_TRANSITION == 1 && d.tmu.step == 1 then
    let g := d.goalOf (d.tf .TMU_STAT_TARGET)
    d.withTmu (fun t => { t with step := 2, phase := 256 * phase, ramp := some (d.xo.toNat, g) })
  else d

/-- TRANSITION_LOOP_CLOSE: step 4. -/
def Dev.loopClose (d : Dev) : Dev :=
  if d.tf .TMU_STAT_TRANSITION == 1 && d.tmu.step == 2 then
    d.withTmu (fun t => { t with step := 3, dco := (t.ramp.map (·.2)).getD t.dco, ramp := none })
  else d

/-- The event period of an input in 1/4,096 of a 148.5 MHz period, as numerator and denominator (Table 12.1). -/
def Dev.eventPeriod (d : Dev) (r : Nat) : Nat × Nat :=
  if r < 2 then (256 * framePeriod (d.rf r .REFIN_STAT_FMT), 1)
  else if r == 2 then (4096 * 1485, 100)
  else if r == 3 then (4096 * 148500000, 1)
  else if r == 4 || r == 5 then (256 * framePeriod (d.frmFmt (d.rf r .REFIN_CFG_LANE)), 1)
  else if r == 6 then (4096 * 148500000, 10000)
  else (4096 * 148500000, 48000)

/-- PBO is brought into half an event period either side (R282) and shown. -/
def Dev.showPbo (d : Dev) (x : Int) : Dev :=
  let e := d.eventPeriod (d.tf .TMU_STAT_SEL_REF)
  let m : Int := (x * e.2) % (max 1 e.1)
  let c : Int := if (e.1 : Int) < 2 * m then m - e.1 else m
  let d := d.withTmu (fun t => { t with pbo := x })
  d.wr .tmu .TMU_PBO_PBO (field32 (divOpen 6 c (256 * e.2)))

/-- TRANSITION_DONE: step 5. -/
def Dev.transitionDone (d : Dev) : Dev :=
  if d.tf .TMU_STAT_TRANSITION == 1 && d.tmu.step == 3 then
    let r := d.tf .TMU_STAT_TARGET
    let d := ((d.wr .tmu .TMU_STAT_SEL_REF r).wr .tmu .TMU_STAT_SEL_VALID 1).wr .tmu .TMU_STAT_TRANSITION 0
    let d := d.withTmu (fun t => { t with wasLocked := true, step := 0 })
    let d := ((d.tmuEnter 2).wr .tmu .TMU_STAT_HOLDOVER_SHORT 0).thaw
    ((d.showPbo d.tmu.phase).setEvt .tmu 9).tmuEval
  else d

/-! ### Commands of the TMU page -/

/-- XO_CAL as its registers store it. -/
def Dev.xoCal (d : Dev) : Int := signedOf 48 (d.tf .TMU_XO_CAL_LO_LO + d.tf .TMU_XO_CAL_HI_HI * 2 ^ 32)

/-- The valid entries of the history. -/
def TmuI.valid (t : TmuI) : List Int := t.hist.filterMap (·.2)

/-- TMU.CTL: HIST_CLR and CAL_CAPTURE (R283, R285). -/
def Dev.tmuCtl (d : Dev) (v : Word) : Dev :=
  let d := if Fld.TMU_CTL_CAL_CAPTURE.get v == 1 then
      let c := meanOpen 7 d.tmu.valid
      let d := (d.wr .tmu .TMU_XO_CAL_LO_LO (field32 c)).wr .tmu .TMU_XO_CAL_HI_HI (((c / 2 ^ 32) % 65536).toNat)
      d.withTmu (fun t => { t with cal := c })
    else d
  if Fld.TMU_CTL_HIST_CLR.get v == 1 then
    (d.withTmu (fun t => { t with hist := t.hist.map (fun e => (e.1, none)) })).wr .tmu .TMU_HIST_VALID_N 0
  else d

/-- PHASE_LEFT takes a value from now on. -/
def Dev.setPhaseLeft (d : Dev) (x : Int) : Dev :=
  (d.wr .tmu .TMU_PHASE_LEFT_LEFT (field32 x)).withTmu (fun t => { t with stepAt := d.xo.toNat })

/-- STEP_DONE: PHASE_LEFT reaches 0 (R293). -/
def Dev.stepDone (d : Dev) : Dev :=
  if d.tf .TMU_PHASE_LEFT_LEFT == 0 then d else (d.setPhaseLeft 0).setEvt .tmu 12

/-- TMU.PHASE_STEP (R293, R282): the amount adds to what remains; with nothing left PHASE_LEFT has reached 0. -/
def Dev.phaseStep (d : Dev) (v : Word) : Dev :=
  let n := signedOf 32 v.toNat
  let left := d.phaseLeft + n
  let d := if left == 0 then d.stepDone else d.setPhaseLeft left
  let d := d.withTmu (fun t => { t with phase := if 2 ≤ t.step then t.phase + n else t.phase, winOk := false })
  if d.tf .TMU_STAT_STATE == 2 then d.showPbo (d.tmu.pbo + n) else d

/-- AUD_DONE: the house sample period is aligned (R296); the audio slew pauses while a phase step runs (R293). -/
def Dev.audDone (d : Dev) : Dev := if d.tmu.aud && d.phaseLeft == 0 then (d.withTmu (fun t => { t with aud := false })).setEvt .tmu 13 else d

/-- The time of day is valid. -/
def Dev.todValid (d : Dev) : Bool := d.rf 3 .REFIN_TOD_SEC_HI_TOD_VALID == 1

/-- Two entries of a PRIO word with VALID = 1 name one input (R278). -/
def prioClash (v : Word) : Bool :=
  let es := ((List.range 8).map (fun i => v.toNat / 16 ^ i % 16)).filter (8 ≤ ·)
  es.eraseDups.length != es.length

/-- What rejects a write of a TMU register. -/
def Dev.tmuRej (d : Dev) (off : Nat) (v : Word) : List Rej :=
  if off == 0x024 then rejIf (prioClash v) .range
  else if off == 0x028 then
    let w := Fld.TMU_HOLD_CFG_W.get v
    let h := Fld.TMU_HOLD_CFG_HOLDOFF.get v
    rejIf (w < 16 || 900 < w || 600 < h || 1024 < h + w) .range
  else if off == 0x038 then
    rejIf (Fld.TMU_CTL_CAL_CAPTURE.get v == 1 && (d.tf .TMU_STAT_STATE != 2 || d.tf .TMU_HIST_VALID_N < 64)) .state
  else if off == 0x058 then
    let x := signedOf 48 (d.tf .TMU_XO_CAL_LO_LO + Fld.TMU_XO_CAL_HI_HI.get v * 2 ^ 32)
    rejIf (2 * dcoLimit + 1 ≤ (x.natAbs : Int)) .range
  else if off == 0x074 then
    let a := d.tf .TMU_AUD_CFG_ALIGN
    rejIf (Fld.TMU_AUD_CTL_REALIGN.get v == 1 &&
      (a == 0 || (a == 1 && d.refState 7 != 3) || (a == 2 && !(d.refState 3 == 3 && d.todValid)))) .state
  else if 0x080 ≤ off && off < 0x090 then
    let line := Fld.TMU_FP_CFG_LINE.get v
    let f := d.domFmt (Fld.TMU_FP_CFG_TDOM.get v)
    rejIf (line == 0 || (f != 0 && fmtLines f < line)) .range
  else []

/-- What follows an accepted write of a TMU register; `old` is the word before. -/
def Dev.tmuAfter (d : Dev) (off : Nat) (old v : Word) : Dev :=
  if off == 0x008 || off == 0x024 then d.tmuEval
  else if off == 0x020 then
    let d := if Fld.TMU_SEL_CFG_MANUAL.get old != Fld.TMU_SEL_CFG_MANUAL.get v then
        d.withTmu (fun t => { t with cmd := true }) else d
    let d := (d.refs.map (·.1)).foldl (fun e r =>
      if (e.ref r).wtr && Fld.TMU_SEL_CFG_WTR.get v * 40000000 ≤ e.since (e.ref r).wtrAt then
        e.setRef r { e.ref r with wtr := false } else e) d
    d.tmuEval
  else if off == 0x02C then d.setPhaseLeft (d.phaseLeftAt (Fld.TMU_SLEW_RATE.get old))
  else if off == 0x030 then d.phaseStep v
  else if off == 0x038 then d.tmuCtl v
  else if off == 0x058 then d.withTmu (fun t => { t with cal := d.xoCal })
  else if off == 0x074 then if Fld.TMU_AUD_CTL_REALIGN.get v == 1 then d.withTmu (fun t => { t with aud := true }) else d
  else d

/-- A read of DCO_LO or HOLD_LO latches the HI register (R70). -/
def Dev.tmuLoRead (d : Dev) (hold : Bool) : Dev :=
  let w := if hold then d.tmu.hold else d.dcoNow
  let hi := ((w / 2 ^ 32) % 65536).toNat
  if hold then d.wr .tmu .TMU_HOLD_HI_HI hi else (d.wr .tmu .TMU_DCO_LO_LO (field32 w)).wr .tmu .TMU_DCO_HI_HI hi

/-! ### Reference pages -/

/-- The legal loop bandwidths of an input in mHz (Table 12.1). -/
def bwRange (r : Nat) : Nat × Nat :=
  [(500, 20000), (500, 20000), (10, 1000), (1, 100), (1000, 100000), (1000, 100000), (1000, 100000), (100, 10000)].getD r (0, 0)

/-- What rejects a write of a REFIN register. -/
def refinRej (r off : Nat) (v : Word) : List Rej :=
  if off == 0x020 then
    let bw := Fld.REFIN_CFG_BW.get v
    let lane := Fld.REFIN_CFG_LANE.get v
    rejIf (lane != 0 && (r < 4 || r == 7)) .rsvd ++
      rejIf (bw < (bwRange r).1 || (bwRange r).2 < bw || ((r == 4 || r == 5) && 143 < lane) || (r == 6 && 15 < lane)) .range
  else if off == 0x024 then
    let s := Fld.REFIN_LIM_SOFT.get v
    rejIf (s < 100 || 50000 < s || Fld.REFIN_LIM_HARD.get v ≤ s) .range
  else []

/-- What follows an accepted write of a REFIN register. -/
def Dev.refinAfter (d : Dev) (r off : Nat) (old v : Word) : Dev :=
  if off == 0x008 then
    if Fld.PAGE_CTRL_ENABLE.get v == 1 then if d.refState r == 0 then (d.refGo r 1).tmuEval else d
    else (d.refGo r 0).tmuEval
  else if off == 0x020 then
    if Fld.REFIN_CFG_LANE.get old != Fld.REFIN_CFG_LANE.get v then d.refAbsent r else d
  else if off == 0x044 then
    if Fld.REFIN_CTL_CNT_CLR.get v == 1 then
      let d := d.setReg (regKey (.refin r) 0 0x040) 0
      if r == 3 then d.setReg (regKey (.refin 3) 0 0x058) 0 else d
    else d
  else d

/-- CRC-8 x⁸ + x² + x + 1 over bytes, most significant bit first (Table 12.2). -/
def crc8 (bs : List Byte) : Byte :=
  bs.foldl (fun c b => (List.range 8).foldl (fun (x : Byte) _ =>
    (x <<< 1) ^^^ (if x.getLsbD 7 then 0x07 else 0)) (c ^^^ b)) 0

/-- A time-of-day message that starts `start` µs after a PPS edge, with a largest gap of `gap` µs (R272); in NO_SIGNAL there is no such edge. -/
def Dev.todMessage (d : Dev) (start gap : Nat) (bs : List Byte) : Dev :=
  let p := Page.refin 3
  let b := fun i => (bs.getD i 0).toNat
  if d.refState 3 == 0 then d
  else if d.refState 3 == 1 || start < 100000 || 900000 < start || 200 < gap || bs.length != 8 || crc8 (bs.take 7) != bs.getD 7 0 || b 0 / 16 != 0xA then
    (d.inc p .REFIN_TOD_CNT_CRC_ERR).setEvt p 12
  else
    let seq := b 0 % 16
    let sec := (List.range 5).foldl (fun a i => a * 256 + b (1 + i)) 0
    let go := match (d.ref 3).todLast with
      | some (q, s) => seq == (q + 1) % 16 && sec == s + 1
      | none => true
    let locked := 128 ≤ b 6
    let run := if locked then (if go then (d.ref 3).todRun + 1 else 1) else 0
    let d := if go then d else (d.inc p .REFIN_TOD_CNT_SEQ_ERR).setEvt p 12
    let d := d.setRef 3 { d.ref 3 with todLast := some (seq, sec), todRun := run }
    let d := ((d.wr p .REFIN_TOD_SEC_LO_SEC_LO (sec % 2 ^ 32)).wr p .REFIN_TOD_SEC_HI_SEC_HI (sec / 2 ^ 32)).wr p
      .REFIN_TOD_SEC_HI_FLAGS (b 6)
    if !go || !locked then d.setTod false else if 3 ≤ run then d.setTod true else d

/-- A second passes without an accepted message (R272). -/
def Dev.todTimeout (d : Dev) : Dev := (d.setRef 3 { d.ref 3 with todRun := 0 }).setTod false

/-! ### Timing domains (R286 to R289, R451) -/

/-- The transmit lanes that belong to a domain (R80, R175). -/
def Dev.domLanes (d : Dev) (k : Nat) : List Nat :=
  d.txLanes.filter (fun n => txWordMode (d.txcfg n) != 9 && txWordMode (d.txcfg n) != 10 && d.txSrc n == some (.dom k))

/-- The VIDEO transmit slots of a domain, as Tile Link lane and slot (R244). -/
def Dev.domSlots (d : Dev) (k : Nat) : List (Nat × Nat) :=
  d.regs.filterMap (fun e =>
    if 0x190000 ≤ e.1 && e.1 < 0x1A0000 && Fld.TLL_TXSLOT_TYPE.off ≤ e.1 % 0x1000 && e.1 % 0x1000 < Fld.TLL_TXSLOT_TYPE.off + 64 &&
        Fld.TLL_TXSLOT_TYPE.get e.2 == 1 && Fld.TLL_TXSLOT_TDOM.get e.2 == k then
      some ((e.1 - 0x190000) / 0x1000, (e.1 % 0x1000 - Fld.TLL_TXSLOT_TYPE.off) / 4)
    else none)

/-- The enabled synchroniser and playout channels whose TDOM is a domain (R304). -/
def Dev.domChans (d : Dev) (k : Nat) : List Nat :=
  ((d.chans.map (·.1)).filter (fun c => c < 288 && ((d.chf c .FST_CH_CFG_ENABLE == 1 && d.chf c .FST_CH_CFG_TDOM == k) ||
    ((d.chan c).isOn && d.chc c .FST_CH_CFG_TDOM == k))))

/-- The domain's format cannot change to `fmt` (R80, R244, R304, R413). -/
def Dev.fmtLocked (d : Dev) (k fmt : Nat) : Bool :=
  if d.domFmt k == fmt then false
  else if d.domFmt k == 0 then
    (d.domLanes k).any (fun n => txWordMode (d.txcfg n) != 11 && !(modeCarries (txWordMode (d.txcfg n)) fmt)) ||
      (d.domSlots k).any (fun x => !(patternFmts (d.rd (.tll x.1) (Fld.nth .TLL_TXSLOT_PATTERN x.2)) fmt)) ||
      (d.domChans k).any (fun c => c < 256 && d.chPattern c != 0 && !(patternFmts (d.chPattern c) fmt))
  else !((d.domLanes k).isEmpty && (d.domSlots k).isEmpty && (d.domChans k).isEmpty)

/-- The stored offsets or switch line lie outside a format (R287, R288). -/
def Dev.fitBad (d : Dev) (k fmt : Nat) : Bool :=
  match fmtOf fmt with
  | some f => f.len ≤ d.td k .TDOM_OFFSET_HOFF || f.lines ≤ d.td k .TDOM_OFFSET_VOFF || f.lines < d.td k .TDOM_SWLINE_SWLINE
  | none => false

/-- What rejects a write of a TDOM register; `old` is the word before. -/
def Dev.tdomRej (d : Dev) (k off : Nat) (old v : Word) : List Rej :=
  let cur := d.domFmt k
  let reg := d.td k .TDOM_FMT_FMT
  if off == 0x020 then
    let f := Fld.TDOM_FMT_FMT.get v
    rejIf (32 < f || d.fitBad k f) .range ++ rejIf (d.enabled (.tdom k) && f != reg && d.fmtLocked k f) .state
  else if off == 0x008 then
    if Fld.PAGE_CTRL_ENABLE.get v == 0 || Fld.PAGE_CTRL_SOFT_RESET.get v == 1 then rejIf (d.fmtLocked k 0) .state
    else if Fld.PAGE_CTRL_ENABLE.get old == 0 then rejIf (d.fitBad k reg) .range ++ rejIf (d.fmtLocked k reg) .state
    else []
  else if off == 0x024 then
    match fmtOf cur with
    | some f => rejIf (f.len ≤ Fld.TDOM_OFFSET_HOFF.get v || f.lines ≤ Fld.TDOM_OFFSET_VOFF.get v) .range
    | none => []
  else if off == 0x028 then rejIf (cur != 0 && fmtLines cur < Fld.TDOM_SWLINE_SWLINE.get v) .range
  else if off == 0x030 then
    let c := Fld.TDOM_REALIGN_CMD.get v
    let diff := (Fld.TDOM_REALIGN_FRAME.get v + 65536 - d.td k .TDOM_FCNT_FCNT % 65536) % 65536
    rejIf ((c == 1 || c == 2) && (d.td k .TDOM_ALIGN_ERR_VALID == 0 || d.td k .TDOM_STAT_REALIGN != 0)) .state ++
      rejIf (c == 1 && (diff < 2 || 32767 < diff)) .state
  else []

/-- The switch line by register and Table 12.5 (R288). -/
def Dev.swLine (d : Dev) (k : Nat) : Nat :=
  let s := d.td k .TDOM_SWLINE_SWLINE
  if s != 0 then s
  else match fmtLines (d.domFmt k) with
    | 525 => 10
    | 625 => 6
    | 0 => 0
    | _ => 7

/-- FCNT is loaded or cleared: a reset of the frame counter, through which FRAME groups stay armed (R193, R289). -/
def Dev.fcntLoad (d : Dev) (k n : Nat) : Dev :=
  let d := d.wr (.tdom k) .TDOM_FCNT_FCNT (n % 2 ^ 32)
  d.setDom k { d.dom k with fired := none }

/-- What is common to every frame start: the FRAME event and the switch line in force from it (R288, R289). -/
def Dev.frameBegin (d : Dev) (k : Nat) : Dev :=
  let d := d.wr (.tdom k) .TDOM_STAT_SWLINE_EFF (d.swLine k)
  (d.setDom k { d.dom k with line := 0, waits := false }).setEvt (.tdom k) 8

/-- The domain stops: a REALIGN is cancelled, the pending slew discarded, synthesisers on it lose their clock (R292, R293, R413). -/
def Dev.domStop (d : Dev) (k : Nat) : Dev :=
  let d := d.realignEnd k true
  let d := (d.setDom k {}).wr (.tdom k) .TDOM_STAT_SWLINE_EFF 0
  let d := (d.slewSettle k).wr (.tdom k) .TDOM_ALIGN_ERR_VALID 0
  let d := (d.plls.filter (fun e => e.2.src == .dom k)).foldl (fun e x => e.setPll x.1 { x.2 with lock := false }) d
  (d.domLanes k).foldl (fun e n => (e.setLane n { e.lane n with txWait := e.txSynth n < 2 }).txSettle n) d

/-- The domain's effective format changed: it stops, which ends the groups armed or deferred with a FRAME trigger of it (R193), or starts line 1
at once or at the next grid instant (R286). -/
def Dev.domRestart (d : Dev) (k : Nat) : Dev :=
  let d := (d.domStop k).fcntLoad k 0
  let f := d.domFmt k
  let d := if f == 0 then d.takeCancel k else d
  let d :=
    if f == 0 then d
    else if d.gridFor f then d.setDom k { d.dom k with waits := true }
    else d.frameBegin k
  d.gensSettle.outSettle.fsSettle

/-- A write of FMT or ENABLE has changed the domain's effective format: the domain follows it, and off cancels a swap armed on it (R329). -/
def Dev.domFollow (d : Dev) (k : Nat) : Dev :=
  let d := d.domRestart k
  if d.domFmt k == 0 then d.swapCancelDom k else d

/-- What follows an accepted write of a TDOM register; `cur` is the format in force before, `old` the word before. -/
def Dev.tdomAfter (d : Dev) (k off cur : Nat) (old v : Word) : Dev :=
  if off == 0x020 then
    if d.domFmt k != cur then d.domFollow k
    else if Fld.TDOM_FMT_FMT.get old != Fld.TDOM_FMT_FMT.get v then d.fcntLoad k 0
    else d
  else if off == 0x008 then if d.domFmt k != cur then d.domFollow k else d
  else if off == 0x024 then
    match fmtOf (d.domFmt k) with
    | some f =>
      let n : Int := f.len * f.lines
      let at' := fun (w : Word) => ((Fld.TDOM_OFFSET_VOFF.get w * f.len + Fld.TDOM_OFFSET_HOFF.get w : Nat) : Int)
      let m := (at' v - at' old) % n
      let m := if n < 2 * m then m - n else m
      (d.setDom k { d.dom k with offLeft := (d.dom k).offLeft + m * 10000000 }).slewSettle k
    | none => d
  else if off == 0x030 then
    match Fld.TDOM_REALIGN_CMD.get v with
    | 1 => (d.setDom k { d.dom k with jumpAt := Fld.TDOM_REALIGN_FRAME.get v }).wr (.tdom k) .TDOM_STAT_REALIGN 1
    | 2 => (d.wr (.tdom k) .TDOM_STAT_REALIGN 2).slewSettle k
    | 3 => d.realignEnd k true
    | _ => d
  else if off == 0x03C then if Fld.TDOM_CTL_FCNT_CLR.get v == 1 then d.fcntLoad k 0 else d
  else d

/-- The frame that starts next carries the number of an armed JUMP (R292). -/
def Dev.jumpDue (d : Dev) (k : Nat) : Bool :=
  d.td k .TDOM_STAT_REALIGN == 1 && (d.td k .TDOM_FCNT_FCNT + 1) % 65536 == (d.dom k).jumpAt

/-- REALIGN_SLEW_DONE (R292); the slew pauses while a phase step runs (R293). -/
def Dev.slewDone (d : Dev) (k : Nat) : Dev :=
  if d.td k .TDOM_STAT_REALIGN == 2 && d.phaseLeft == 0 then (d.wr (.tdom k) .TDOM_ALIGN_ERR_ERR 0).realignEnd k false else d

/-- The pending offset slew works on for a frame (R293): at SLEW.RATE, unless a REALIGN SLEW or a phase step runs. -/
def Dev.offsetSlew (d : Dev) (k : Nat) : Dev :=
  if d.td k .TDOM_STAT_REALIGN == 2 || d.phaseLeft != 0 then d
  else match fmtOf (d.domFmt k) with
    | some f =>
      let n : Int := f.len * f.lines * d.tf .TMU_SLEW_RATE
      let x := (d.dom k).offLeft
      (d.setDom k { d.dom k with offLeft := if 0 < x then max 0 (x - n) else min 0 (x + n) }).slewSettle k
    | none => d

/-- The frame counter and the grid at a frame start of domain `k`, with the measured time from the nearest grid instant and the whole frame
periods since the epoch (R289, R290, R292). -/
def Dev.frameCount (d : Dev) (k : Nat) (err : Int) (epoch : Nat) : Dev :=
  let first := (d.dom k).waits
  let jump := d.jumpDue k
  let d := d.frameBegin k
  let d := if first then d else d.wr (.tdom k) .TDOM_FCNT_FCNT ((d.td k .TDOM_FCNT_FCNT + 1) % 2 ^ 32)
  let d := if jump then
      let load := d.td k .TDOM_FMT_FCNT_EPOCH == 1 && d.tf .TMU_STAT_SEL_VALID == 1 && d.tf .TMU_STAT_SEL_REF == 3 && d.todValid
      let d := if load then d.fcntLoad k epoch else d
      d.realignEnd k false
    else d
  let d := d.offsetSlew k
  if d.gridFor (d.domFmt k) then
    (d.wr (.tdom k) .TDOM_ALIGN_ERR_VALID 1).wr (.tdom k) .TDOM_ALIGN_ERR_ERR
      (((if jump || first then 0 else err) % 2147483648).toNat)
  else d

end Sys2Proof.Machine
end

