-- ==== Sys2Proof/Machine/Anc.lean ====
section
/-! DEFINITION. Ancillary packets and embedded audio as received (R143 to R151, R163 to R167), and the line of a framed lane with what
depends on it (R122, R303). -/

namespace Sys2Proof.Machine

/-! ### The parser (R143 to R151) -/

/-- A header word is valid (R144): bits 8 and 9 follow bits [7:0]. -/
def headerOk (w : Word10) : Bool := w == parityWord (w.toNat % 256)

/-- A lane's stream pairs are split over two tiles by phase (Table 6.3). -/
def Dev.phased (d : Dev) (n : Nat) : Bool :=
  match d.rxMode n with
  | 3 => true
  | 6 => true
  | 8 => (d.framer n).streams == 8
  | _ => false

/-- The tile position to whose ancillary stream a packet of stream `s` (from 0) belongs (R148). -/
def Dev.ancPos (d : Dev) (n s : Nat) : Nat :=
  match d.rxMode n with
  | 4 => s / 2
  | 7 => s / 2
  | 8 => if d.phased n then 2 * (s / 2) else s / 2
  | _ => 0

/-- The packet is one of the lane's embedded-audio packets (R149, Table 7.6): on SD of the one stream, above of the colour-difference
stream. -/
def Dev.isAudioDid (d : Dev) (n s did : Nat) : Bool :=
  if d.rxMode n == 1 then
    [0xFF, 0xFD, 0xFB, 0xF9, 0xFE, 0xFC, 0xFA, 0xF8].contains did || (0xEC ≤ did && did ≤ 0xEF)
  else s % 2 == 1 && ((0xE0 ≤ did && did ≤ 0xE7) || (d.phased n && 0xA0 ≤ did && did ≤ 0xA7))

/-- A count of ANCERR rises (PAGE_EVT.ANC_ERR). -/
def Dev.ancErr (d : Dev) (n : Nat) (f : Fld) : Dev := d.addEvt (.lane n) f 1 23

/-- A kept packet is copied to the queue of every tap that matches (R151). -/
def Dev.ancTaps (d : Dev) (n : Nat) (r : PktRec) : Dev :=
  let p := Page.lane n
  (List.range 4).foldl (fun e i =>
    if e.on p (Fld.nth .LANE_ANCTAP_ENABLE i) && e.rd p (Fld.nth .LANE_ANCTAP_DID i) == r.did &&
        (e.on p (Fld.nth .LANE_ANCTAP_SDID_ANY i) || e.rd p (Fld.nth .LANE_ANCTAP_SDID i) == r.sdid) then
      (e.queuePut (e.rd p (Fld.nth .LANE_ANCTAP_QUEUE i)) r.words 0).1
    else e) d

/-- A kept record goes to its ancillary stream or to the line engine (R150). -/
def Dev.ancDeliver (d : Dev) (n : Nat) (r : PktRec) : Dev :=
  if d.on (.lane n) .LANE_ANCCFG_RX_PATH && d.lengLive n then d.lengSend n { tx := none, pkt := r, slack := none } else d.ancInto r

/-- A record against the limits of its space, line and tile (R146); within them it goes on. -/
def Dev.ancLimit (d : Dev) (n : Nat) (r : PktRec) : Dev :=
  let i := d.tile r.tile
  let pk := if r.vert then i.vPk else i.hPk
  let uw := if r.vert then i.vUdw else i.hUdw
  if 128 < pk + 1 || 2048 < uw + r.udw.length then d.inc (.lane n) .LANE_ANCERR2_OVER
  else
    let j := if r.vert then { i with vPk := pk + 1, vUdw := uw + r.udw.length } else { i with hPk := pk + 1, hUdw := uw + r.udw.length }
    (((d.setTile r.tile j).bwAdd n (4 * r.words.length)).ancTaps n r).ancDeliver n r

/-- A packet whose flag stands at word `start` of its space; `rest` holds the words of the space after the flag (R143 to R147). An embedded-audio packet is
the de-embedder's and never tapped, and a discarded packet with a wrong checksum counts in CS_ERR alone (DEDUCED, log 119). -/
def Dev.ancParsed (d : Dev) (n s line : Nat) (vert : Bool) (start : Nat) (rest : List Word10) : Dev :=
  if !((d.frmState n == 3 || d.frmState n == 4) && modeSdi (d.rxMode n)) then d
  else
    let w := fun i => rest.getD i 0
    let dc := (w 2).toNat % 256
    if rest.length < 3 || !(headerOk (w 0) && headerOk (w 1) && headerOk (w 2)) || rest.length < dc + 4 then
      d.ancErr n .LANE_ANCERR_HDR_ERR
    else
      let did := (w 0).toNat % 256
      let body := rest.take (dc + 3)
      let bad := checksumWord body != w (dc + 3)
      let i := d.framer n
      let d := if vert then d.setFramer n { i with vspans := (s, start, dc + 7) :: i.vspans } else d
      let d := if bad then d.ancErr n .LANE_ANCERR_CS_ERR else d
      if d.isAudioDid n s did || (bad && !(d.on (.lane n) .LANE_ANCCFG_BAD_PKT)) then d
      else if did == 0x80 then d.inc (.lane n) .LANE_ANCERR2_DELETED
      else
        let last := start + dc + 6
        let pairs := if d.rxMode n == 1 || d.phased n then last / 2 else last
        d.ancLimit n {
          did := did, sdid := (w 1).toNat % 256, bad := bad, type1 := 0x80 ≤ did
          spos := d.rxMode n != 1 && s % 2 == 1, vert := vert, line := line, offset := min pairs 1023
          tile := laneTile n (d.ancPos n s), udw := (rest.drop 3).take dc }

/-- ANCCTL.CNT_CLR of an SDI lane: its counts, and word 1 of the ancillary contexts of its output tiles; of a Tile Link lane, the latter. -/
def Dev.ancCntClr (d : Dev) (l : Nat) : Dev :=
  let tiles := if l < 144 then (List.range 8).map (8 * l + ·) else (List.range 16).map (1152 + 16 * (l - 144) + ·)
  let d := if l < 144 then
      [0x108, 0x10C, 0x170, 0x174].foldl (fun e off => e.setReg (regKey (.lane l) 0 off) 0) d
    else d
  tiles.foldl (fun e t => [0, 1].foldl (fun e k =>
    e.setAc (2 * t + k) { e.ac (2 * t + k) with drop := 0, late := 0 }) e) d

/-! ### A line arrives -/

/-- The words that vertical packets cover read as black (R122). -/
def blankWords (spans : List (Nat × Nat × Nat)) (sd : Bool) (s : Nat) (ws : List Word10) : List Word10 :=
  let mine := spans.filter (fun x => x.1 == s)
  if mine.isEmpty then ws
  else ws.zipIdx.map (fun e =>
    if mine.any (fun x => x.2.1 ≤ e.2 && e.2 < x.2.1 + x.2.2) then
      (if (if sd then e.2 % 2 else s % 2) == 0 then 0x040 else 0x200)
    else e.1)

/-- A tile forgets the limits of the line that has ended, and the records of lines it no longer holds (R146, R148). -/
def TileI.nextLine (i : TileI) : TileI :=
  { i with hPk := 0, hUdw := 0, vPk := 0, vUdw := 0, anc := i.anc.filter (fun r => i.lines.any (fun x => x.line == r.line)) }

/-- The frame-store write of an input tile's line misses its deadline. -/
def writeLate (items : List LateItem) (t : Nat) : Bool := items.any (fun x => x.kind == .memWrite && x.tile == t)

/-- A line of an SDI lane: framed and laid into tiles with its packets blanked, and handed to the frame store ahead of the course aligner. -/
def Dev.lineArrives (d : Dev) (n : Nat) (x : LineRx) (items : List LateItem) : Dev :=
  let spans := (d.framer n).vspans
  let line := (d.framer n).lineNo
  let act := x.active.zipIdx.map (fun e => blankWords spans (d.rxMode n == 1) e.2 e.1)
  let d := d.lineReceived n x act
  let d := d.setFramer n { d.framer n with vspans := [] }
  (List.range (modeTiles (d.rxMode n))).foldl (fun e k =>
    let t := laneTile n k
    let e := match (e.tile t).lines with
      | l :: _ => if e.tileFramed t && l.line == line then e.fsLine t line l.bricks (writeLate items t) else e
      | [] => e
    e.setTile t (e.tile t).nextLine) d

/-! ### The de-embedder (R163 to R167) -/

/-- The bit of a group in AUDRXSTAT: of pair `q`, group `g` from 0; none where no tile of the pair holds it (R163). -/
def Dev.audBit (d : Dev) (n q g : Nat) : Option Nat :=
  if d.phased n then some (4 * (2 * q + g / 4) + g % 4)
  else if g < 4 then some (4 * q + g) else none

/-- An embedded group's state. -/
def Dev.deemb (d : Dev) (n b : Nat) : DeembI := Map.get (fun _ => {}) d.deembs (32 * n + b)
/-- Write it. -/
def Dev.setDeemb (d : Dev) (n b : Nat) (v : DeembI) : Dev := { d with deembs := Map.put (fun _ => {}) d.deembs (32 * n + b) v }

/-- Write bit `b` of a register of a lane. -/
def Dev.laneBit (d : Dev) (n : Nat) (f : Fld) (b : Nat) (v : Bool) : Dev :=
  d.wr (.lane n) f (d.rd (.lane n) f - (if (d.rd (.lane n) f).testBit b then 2 ^ b else 0) + (if v then 2 ^ b else 0))

/-- A bit of AUDRXSTAT.PRESENT changes, or not (R166). -/
def Dev.audPresent (d : Dev) (n b : Nat) (v : Bool) : Dev :=
  if (d.rd (.lane n) .LANE_AUDRXSTAT_PRESENT).testBit b == v then d
  else (d.laneBit n .LANE_AUDRXSTAT_PRESENT b v).setEvt (.lane n) 26

/-- The parity of an audio brick's AES3 subframe is even (R164). -/
def brickParityOk (w : Word) : Bool := (List.range 28).foldl (fun a i => a != w.getLsbD (4 + i)) false == false

/-- A received brick: PRESENT set, RAMP and SUBST clear; on SD, SAMPLE[11:8] from the auxiliary bits (R165). -/
def rxBrick (sd : Bool) (w : Word) (aux : BitVec 4) : Word :=
  let w := if sd then (w &&& 0xFFFFF0F4#32) ||| ((aux.setWidth 32) <<< 8) else w &&& 0xFFFFFFF4#32
  w ||| 8

/-- A sample of a group goes to its stream. -/
def Dev.groupSample (d : Dev) (n b sub : Nat) (ws : List Word) : Dev :=
  let bad := (ws.filter (fun w => !(brickParityOk w))).length
  let d := d.addEvt (.lane n) .LANE_AUDERR_PARITY bad 25
  ((d.setDeemb n b { d.deemb n b with last := ws, subst := 0 }).bwAdd n 16).strmPush (32 * n + b) sub ws

/-- A sample is lost: the previous one for at most 4 in a row, then 0 with PRESENT = 0 (R164). -/
def Dev.groupLost (d : Dev) (n b sub : Nat) : Dev :=
  let i := d.deemb n b
  let ws := if i.subst < 4 then i.last.map (fun w => w ||| 1) else [0, 0, 0, 0]
  (d.setDeemb n b { i with subst := i.subst + 1 }).strmPush (32 * n + b) sub ws

/-- What the de-embedder finds of group `g` (from 0) of stream pair `q`, `sub` sixteenths into the house sample period. -/
def Dev.audioRx (d : Dev) (n q g sub : Nat) (x : AudioRx) : Dev :=
  if !((d.frmState n == 3 || d.frmState n == 4) && modeSdi (d.rxMode n)) then d
  else
    let sd := d.rxMode n == 1
    match d.audBit n q g, x with
    | none, .data _ _ ss _ => d.add (.lane n) .LANE_AUDERR2_UNMAPPED (4 * ss.length)
    | none, _ => d
    | some b, .data csumOk eccOk ss aux =>
      if sd && !csumOk && !(d.on (.lane n) .LANE_ANCCFG_BAD_PKT) then d
      else if !sd && !(csumOk && eccOk) then
        (d.addEvt (.lane n) .LANE_AUDERR_PKT_ERR 1 25).groupLost n b sub
      else
        let d := (d.audPresent n b true).setDeemb n b { d.deemb n b with fields := 0 }
        ss.zipIdx.foldl (fun e y =>
          e.groupSample n b sub ((List.range 4).map (fun c => rxBrick sd (y.1.getD c 0) ((aux.getD y.2 []).getD c 0)))) d
    | some b, .missing => d.groupLost n b sub
    | some b, .control asyn r96 => (d.laneBit n .LANE_AUDRXASYNC_ASYNC b asyn).laneBit n .LANE_AUDRXR96_R96 b r96
    | some b, .absentField =>
      let k := min 2 ((d.deemb n b).fields + 1)
      let d := d.setDeemb n b { d.deemb n b with fields := k }
      if k == 2 then d.audPresent n b false else d

end Sys2Proof.Machine
end

