-- ==== Sys2Proof/Machine/Deliver.lean ====
section
/-! DEFINITION. What a course delivers (R175 to R203, R257 to R259, R318 to R320): protection by line, the judgement of R177 to R197, the
claim gates' items, generators, probes, and the ancillary records each output tile selects. -/

namespace Sys2Proof.Machine

/-! ### Protection groups by line (R257, R259) -/

/-- Line `line` of a member bond is good (R259): every tile IN_COURSE, its line there in full with no CRC-bad brick. -/
def Dev.lineGood (d : Dev) (lead line : Nat) : Bool :=
  (d.memberTiles lead).all (fun t =>
    d.crs t == 2 && (match (d.tile t).lines.find? (fun x => x.line == line) with
      | some x => !(x.bricks.isEmpty) && x.bricks.all (fun b => !b.crcb)
      | none => false))

/-- The member whose line a KIND 0 group delivers in this course. -/
def Dev.groupLine (d : Dev) (g line : Nat) : Dev :=
  let sel := d.pg g .PROT_PG_STAT_SEL
  let lead := fun (m : Nat) => if m == 0 then d.pg g .PROT_PG_CFG_W_LEAD else d.pg g .PROT_PG_CFG_P_LEAD
  if d.pg g .PROT_PG_STAT_EFF_MODE != 0 then d.setGroup g { d.group g with now := sel }
  else if d.pg g .PROT_PG_STAT_STATE == 2 then d.setGroup g { d.group g with now := 0 }
  else if d.lineGood (lead sel) line then d.setGroup g { d.group g with now := sel }
  else if d.lineGood (lead (1 - sel)) line then
    (d.addB .prot g .PROT_PG_REPAIR_REPAIRS 1).setGroup g { d.group g with now := 1 - sel }
  else (d.addB .prot g .PROT_PG_CNT_BOTH_BAD 1).setGroup g { d.group g with now := sel }

/-- Every KIND 0 group of a domain chooses its line, while the PROT page is enabled. -/
def Dev.groupLines (d : Dev) (k line : Nat) : Dev :=
  if !(d.enabled .prot) then d else
  (d.groups.filter (fun e => e.2.enabled && d.pg e.1 .PROT_PG_CFG_KIND == 0 && d.tileDom (d.pg e.1 .PROT_PG_CFG_W_LEAD) == k)).foldl
    (fun e x => e.groupLine x.1 line) d

/-! ### Generators (R198, Table 8.7) -/

/-- The words of one line of a picture as streams of word pairs: luma by sample, Cb and Cr by sample pair. -/
def picturePairs (n : Nat) (y : Nat → Nat) (cb cr : Nat) : List (Word10 × Word10) :=
  (List.range n).map (fun i => (BitVec.ofNat 10 (y i), BitVec.ofNat 10 (if i % 2 == 0 then cb else cr)))

/-- The luma of sample `i` of RAMP over `n` samples. -/
def rampY (n i : Nat) : Nat := 64 + (divOpen 8 ((876 * i : Nat) : Int) (max 1 (n - 1))).toNat

/-- The picture's sample, across its width, that sample `i` of member `m` of a bond holds: in SI_OCTET and SI_QUAD, of the two-sample interleave, whose
sub-images 0 and 2 hold samples 4j and 4j + 1 and whose sub-images 1 and 3 hold the next two (PRESUMED, ST 425-5; log 116). -/
def pictureSample (pat m i : Nat) : Nat :=
  let sub := fun (q : Nat) => 4 * (i / 2) + i % 2 + 2 * (q % 2)
  match pat with
  | 5 => sub (m / 2)
  | 6 => sub m
  | 7 => Config.octetSample m i
  | _ => i

/-- The word pairs of a generator's tile in a line: member `m` of its bond with pattern `pat`. SD lays C and Y of one stream into its
pairs. -/
def Dev.genPairs (d : Dev) (g m pat fmt line : Nat) : List (Word10 × Word10) :=
  let lo := BitVec.ofNat 10 (d.rd .fab .FAB_BLACK_LO)
  let hi := BitVec.ofNat 10 (d.rd .fab .FAB_BLACK_HI)
  let pairs := 8 * patternBricks pat fmt
  let full := if patternPhased pat then 2 * pairs else pairs
  let x := pictureSample pat m
  let width := if 5 ≤ pat then 2 * full else full
  let f := fun (y : Nat → Nat) (cb cr : Nat) =>
    if pat == 1 then
      (List.range pairs).map (fun i => (BitVec.ofNat 10 (if i % 2 == 0 then cb else cr), BitVec.ofNat 10 (y i)))
    else
      let ps := picturePairs full (fun i => y (x i)) cb cr
      if patternPhased pat then (ps.zipIdx.filter (fun e => e.2 % 2 == m % 2)).map (·.1) else ps
  match d.genf g .FAB_GEN_PATTERN with
  | 0 => List.replicate pairs (lo, hi)
  | 1 => f (fun _ => d.rd .fab .FAB_GEN_FLAT_Y) (d.rd .fab .FAB_GEN_FLAT_CB) (d.rd .fab .FAB_GEN_FLAT_CR)
  | 2 => f (fun i => rampY width (i % width)) 512 512
  | _ => f (fun _ => 64 + line % 877) 512 (64 + 28 * (g % 32))

/-- The bricks of generator `g` in a line. -/
def Dev.genLine (d : Dev) (g line : Nat) : List Brick :=
  let pat := d.genf g .FAB_GEN_BOND
  let m := g % patternWidth pat
  let ps := d.genPairs (g - m) m pat (d.domFmt (d.genf g .FAB_GEN_TDOM)) line
  lineOfPayloads line ((chunks8 (ps.length + 1) ps).map (fun c => pairsPayload 0 c))

/-! ### Sources -/

/-- The bricks that source tile `s` delivers in course `line`. -/
def Dev.srcBricks (d : Dev) (s line : Nat) : List Brick :=
  if s < 1408 then
    match d.syncOf s with
    | some x => (d.chLine x line).1
    | none =>
      match (d.tile (d.protTile s)).lines.find? (fun x => x.line == line) with
      | some x => x.bricks
      | none => []
  else if s < 1440 then d.genLine (s - 1408) line
  else (d.chLine (256 + (s - 1440)) line).1

/-- The ancillary records of one kind that source tile `s` delivers in course `line`, and whether they come from the frame store, where
they are on time (R148, R308, R309). -/
def Dev.srcRecs (d : Dev) (s line : Nat) (vert : Bool) : List PktRec × Bool :=
  let of := fun (rs : List PktRec) => rs.filter (fun r => r.vert == vert && r.line == line)
  if s < 1408 then
    match d.syncOf s with
    | some x => if d.syncDelivers x then (of (d.chLine x line).2, true) else ([], true)
    | none =>
      let u := d.protTile s
      if d.crs u == 2 then (of (d.tile u).anc, false) else ([], false)
  else if s < 1440 then ([], true)
  else
    let c := 256 + (s - 1440)
    if d.srcDelivers s then (of (d.chLine c line).2, true) else ([], true)

/-! ### The judgement of an output (R177, R194 to R197) -/

/-- The members of an output that is judged as one: its bond, or itself. -/
def Dev.judgeMembers (d : Dev) (t : Nat) : List Nat := if t < 1408 then d.outMembers t else [t]

/-- The first cause for which a member of an output fails with source `src` (R177, R178). -/
def Dev.bondCause (d : Dev) (t src : Nat) : Nat :=
  let pat := (d.outBond t).2.2
  ((d.judgeMembers t).zipIdx.map (fun e => d.connCause e.1 e.2 pat (d.outDom t) src)).foldl (fun a c => if a == 0 then c else a) 0

/-- The state an output ends in when its source is lost (R196): GEN where VOID_ACT asks for it and the generator connects, else BLACK. -/
def Dev.endState (d : Dev) (t : Nat) (w : Word) : Nat :=
  if cxVoid w == 1 && (d.outDom t).isSome && d.bondCause t (1408 + d.rd .fab .FAB_CFG_VOID_GEN) == 0 then 4 else 3

/-- Every member of an output takes a state, a cause and the courses in HOLD; `entry` counts an entry by loss (R195). -/
def Dev.putOut (d : Dev) (t state cause held : Nat) (entry : Bool) : Dev :=
  let d := (d.judgeMembers t).foldl (fun e u =>
    let c := e.tc u
    e.setTc u { c with
      state := state, cause := cause, held := held, fresh := false
      loss := if entry then min (c.loss + 1) 65535 else c.loss }) d
  d.setEvtIf entry .fab 12

/-- The output that tile `t` leads is judged, at a course start or, with no domain, at once. -/
def Dev.outJudge (d : Dev) (t : Nat) : Dev :=
  let c := d.tc t
  let w := c.ac d.readWall
  if cxAction w == 1 then d.putOut t 3 0 0 false
  else
    let cause := d.bondCause t (cxSrc w)
    let fin := d.endState t w
    if cause == 0 then d.putOut t 1 0 0 false
    else if c.state == 1 then
      if cxVoid w == 2 || (d.outDom t).isNone then d.putOut t fin cause 0 true else d.putOut t 2 cause 1 true
    else if c.state == 2 then
      if fmtLines (d.domFmt ((d.outDom t).getD 0)) ≤ c.held then d.putOut t fin cause 0 false
      else d.putOut t 2 cause (c.held + 1) false
    else
      let inEnd := 3 ≤ c.state && c.cause != 0
      d.putOut t fin cause 0 (!inEnd || c.fresh)

/-- HOLD_EXPIRY of an output: as many courses as its format has lines have been held (R196). -/
def Dev.holdExpire (d : Dev) (t : Nat) : Dev :=
  let u := d.outLead t
  let c := d.tc u
  if c.state == 2 && d.outRuns u && fmtLines (d.domFmt ((d.outDom u).getD 0)) ≤ c.held then
    d.putOut u (d.endState u (c.ac d.readWall)) c.cause 0 false
  else d

/-- The ASI outputs and Tile Link data slots that run: outputs with no domain (R175). -/
def Dev.dataOuts (d : Dev) : List Nat :=
  ((d.txLanes.filter (fun n => d.txModeNow n == 10 && !(d.isFollow n))).map (8 * ·) ++
    (d.regs.filterMap (fun (e : Nat × Word) =>
      if 0x10190000 ≤ e.1 && e.1 < 0x101A0000 && Fld.TLL_TXSLOT_TYPE.get e.2 == 3 then
        some (1152 + (e.1 - 0x10190000) / 0x1000 * 16 + (e.1 % 0x1000 - Fld.TLL_TXSLOT_TYPE.off) / 4)
      else none))).filter (fun t => d.outRuns t)

/-- An output with no domain reaches its safe state at once while both claims are 0 (R320). -/
def Dev.safeAtOnce (d : Dev) (t : Nat) : Dev :=
  match d.acceptedWall with
  | some _ => if (d.tc t).safe || (d.tc t).zeroed != 0 then d.setTc t { d.tc t with safe := false, zeroed := 0 } else d
  | none =>
    if (d.tc t).safe then d
    else (d.inc .cgate .CGATE_SAFE_CNT_COUNT).setTc t { d.tc t with safe := true }

/-- Every output with no domain follows its source (R195). -/
def Dev.dataSettle (d : Dev) : Dev := d.dataOuts.foldl (fun e t => (e.outJudge t).safeAtOnce t) d

/-! ### Bricks (R194, R196, R203, R319, R320) -/

/-- A brick marked SUBST. -/
def Brick.marked (b : Brick) : Brick := ({ b with subst := true } : Brick).sealed

/-- The pattern by which an output tile's bricks are laid: its bond's; a capture or probe tile belongs to no bond and takes its source's where that carries
the domain's format, and the format's own otherwise (R194). -/
def Dev.outPattern (d : Dev) (t : Nat) : Nat :=
  if t < 1408 then (d.outBond t).2.2
  else
    let f := d.domFmt ((d.outDom t).getD 0)
    let p := ((d.srcBond (cxSrc ((d.tc t).ac d.readWall))).1).headD 0
    if patternFmts p f then p else fmtPattern f

/-- Active bricks of a line of an output tile (R194). -/
def Dev.outBact (d : Dev) (t : Nat) : Nat :=
  let f := d.domFmt ((d.outDom t).getD 0)
  patternBricks (d.outPattern t) f

/-- What the walls offer an output tile in course `line`, by its state. -/
def Dev.wallBricks (d : Dev) (t line : Nat) : List Brick :=
  let c := d.tc t
  let m := (d.outBond t).2.1
  match c.state with
  | 1 =>
    let bs := match d.deriveSrc (cxSrc ((d.tc (d.outLead t)).ac d.readWall)) m with
      | some s => d.srcBricks s line
      | none => []
    let n := d.outBact t
    if n == 0 then bs else bs ++ List.replicate (n - bs.length) { kind := .void }
  | 2 => c.last.map Brick.marked
  | 4 =>
    match d.deriveSrc (1408 + d.rd .fab .FAB_CFG_VOID_GEN) m with
    | some s => d.srcBricks s line
    | none => d.blackLine (d.outBact t) line
  | _ => d.blackLine (d.outBact t) line

/-- The brick in place of one that is late or bad at position `i` (Table 8.8): that of the previous course, or black where it was not DATA. -/
def Dev.replaceBrick (d : Dev) (prev : List Brick) (shape : Brick) (i : Nat) : Brick :=
  let black := ((d.blackLine 1 0).headD {}).payload
  let p := match prev[i]? with
    | some b => if b.kind == .data then b.payload else black
    | none => black
  ({ shape with kind := .data, payload := p, subst := true, crcb := false } : Brick).sealed

/-- The other wall offers the item good: its claim is above 0 and no item of its own is wrong there (R319). -/
def Dev.altGood (d : Dev) (items : List LateItem) (w t i : Nat) : Bool :=
  let o := 1 - w
  0 < d.wallEff o && !(items.any (fun x => x.tile == t && x.pos == i &&
    (match x.kind with
     | .late v => v.val == o
     | .parity v => v.val == o
     | .bad v => v.val == o
     | _ => false)))

/-- The MORTAR bricks after the bricks of an output tile in a course (R118, R128): a connected input tile's own, otherwise those of its format. -/
def Dev.outMortar (d : Dev) (t line : Nat) : List Brick :=
  let s := d.standTile (d.effSrc t)
  let own := List.replicate (mortarCount (d.outPattern t) (d.domFmt ((d.outDom t).getD 0)) line) (mortarBrick false)
  if (d.tc t).state == 1 && s < 1408 && (d.syncOf s).isNone then
    match (d.tile s).lines.find? (fun x => x.line == line) with
    | some x => x.mortar
    | none => own
  else own

/-- A count of an output tile's context. -/
def Dev.tcCount (d : Dev) (t : Nat) (isLate : Bool) : Dev :=
  let c := d.tc t
  d.setTc t (if isLate then { c with late := min (c.late + 1) 4294967295 } else { c with parity := min (c.parity + 1) 65535 })

/-- A late video or probe brick in the accepted output (Table 8.8). -/
def Dev.brickLate (d : Dev) (t : Nat) : Dev :=
  if t < 1440 then ((d.tcCount t true).inc .fab .FAB_SVC_VIDEO_COUNT).setEvt .fab 11
  else (d.inc .fab .FAB_SVC_PROBE_COUNT).setEvt .fab 11

/-- What one item does to an output tile's bricks: the counts, and whether the brick is replaced. -/
def Dev.itemCount (d : Dev) (items : List LateItem) (x : LateItem) : Dev × Bool :=
  let t := x.tile
  let acc := d.acceptedWall
  match x.kind with
  | .late w =>
    let d := d.inc (.wall w.val) .WALL_LATE_COUNT
    if acc != some w.val then (d, false)
    else if d.altGood items w.val t x.pos then (d.inc .cgate .CGATE_ALT_CNT_COUNT, false)
    else (d.brickLate t, true)
  | .lateBoth => (((d.inc (.wall 0) .WALL_LATE_COUNT).inc (.wall 1) .WALL_LATE_COUNT).brickLate t, true)
  | .parity w =>
    let d := d.inc (.wall w.val) .WALL_ERR_CNT_PARITY
    if acc != some w.val then (d, false)
    else if d.altGood items w.val t x.pos then (d.inc .cgate .CGATE_ALT_CNT_COUNT, false)
    else (d.tcCount t false, true)
  | .parityBoth => (((d.inc (.wall 0) .WALL_ERR_CNT_PARITY).inc (.wall 1) .WALL_ERR_CNT_PARITY).tcCount t false, true)
  | .bad w =>
    if acc != some w.val then (d, false)
    else if d.altGood items w.val t x.pos then (d.inc .cgate .CGATE_ALT_CNT_COUNT, false)
    else (d.brickLate t, true)
  | .badBoth => (d.brickLate t, true)
  | .voided => (d, true)
  | _ => (d, false)

/-- A frame-store read that misses its deadline counts once, whatever outputs its brick reaches (R312). -/
def Dev.memReadLate (d : Dev) (x : LateItem) : Dev :=
  let c := if x.tile < 1408 then d.syncOf x.tile else if 1440 ≤ x.tile && x.tile < 1472 then some (256 + (x.tile - 1440)) else none
  match c with
  | some c => if x.kind == .memRead then d.chLate (d.chLead c) .MEMC_LATE_RD_COUNT 1 else d
  | none => d

/-- The positions of an output tile's bricks in place of which a transmit elastic buffer that ran empty repeats those of the previous line (R69), each
counted as late. -/
def Dev.bufferEmpty (d : Dev) (t : Nat) (items : List LateItem) (prev bs : List Brick) : Dev × List Brick :=
  let mine := items.filter (fun x => x.tile == t && x.pos < bs.length && x.kind == .empty)
  (mine.foldl (fun e _ => e.brickLate t) d,
    bs.zipIdx.map (fun e => if mine.any (fun x => x.pos == e.2) then ((prev[e.2]?).getD e.1).marked else e.1))

/-- The flat field of FAB.GEN_FLAT, produced in a gate (R320). -/
def Dev.flatLine (d : Dev) (t line : Nat) : List Brick :=
  let n := d.outBact t
  let cb := BitVec.ofNat 10 (d.rd .fab .FAB_GEN_FLAT_CB)
  let cr := BitVec.ofNat 10 (d.rd .fab .FAB_GEN_FLAT_CR)
  let y := BitVec.ofNat 10 (d.rd .fab .FAB_GEN_FLAT_Y)
  let pat := (d.outBond t).2.2
  let c := fun i => if patternPhased pat then (if (d.outBond t).2.1 % 2 == 0 then cb else cr) else if i % 2 == 0 then cb else cr
  lineOfPayloads line ((List.range n).map (fun _ =>
    pairsPayload 0 ((List.range 8).map (fun i => if pat == 1 then (c i, y) else (y, c i)))))

/-- The bricks an output tile delivers while both claims are 0 (R320). -/
def Dev.safeBricks (d : Dev) (t line : Nat) : Dev × List Brick :=
  let c := d.tc t
  let z := c.zeroed + 1
  let d := d.setTc t { c with zeroed := z }
  if z ≤ fmtLines (d.domFmt ((d.outDom t).getD 0)) then (d, c.prev.map Brick.marked)
  else
    let d := if c.safe then d else (d.inc .cgate .CGATE_SAFE_CNT_COUNT).setTc t { d.tc t with safe := true }
    (d, match d.rd .cgate .CGATE_CFG_SAFE with
      | 0 => d.blackLine (d.outBact t) line
      | 1 => c.prev.map Brick.marked
      | _ => d.flatLine t line)

/-- GATE_SAFE_STATE: an output reaches its safe state (R320). -/
def Dev.gateSafe (d : Dev) (t : Nat) : Dev :=
  let c := d.tc t
  if d.acceptedWall.isNone && d.outRuns t && !c.safe &&
      (match d.outDom t with
       | none => true
       | some k => fmtLines (d.domFmt k) ≤ c.zeroed) then
    (d.inc .cgate .CGATE_SAFE_CNT_COUNT).setTc t { c with safe := true }
  else d

/-- The bricks that the claim gate of an output tile delivers in course `line`; `items` are those of the course (R319, R320). -/
def Dev.gateBricks (d : Dev) (t line : Nat) (items : List LateItem) : Dev :=
  match d.acceptedWall with
  | none =>
    let x := d.safeBricks t line
    let y := x.1.bufferEmpty t items (d.tc t).out x.2
    let e := y.1.setTc t { y.1.tc t with out := y.2, mortar := y.1.outMortar t line }
    if (e.tc t).zeroed ≤ fmtLines (d.domFmt ((d.outDom t).getD 0)) || d.rd .cgate .CGATE_CFG_SAFE == 1 then e
    else e.setTc t { e.tc t with prev := x.2 }
  | some _ =>
    let bs := d.wallBricks t line
    let prev := (d.tc t).prev
    let mine := items.filter (fun x => x.tile == t && x.pos < bs.length)
    let y := mine.foldl (fun (a : Dev × List Nat) x =>
      let r := a.1.itemCount items x
      (r.1, if r.2 then x.pos :: a.2 else a.2)) (d, [])
    let d := y.1
    let src := d.effSrc t
    let read := fun (i : Nat) => (d.tc t).state == 1 && items.any (fun x => x.kind == .memRead && x.tile == src && x.pos == i)
    let out := bs.zipIdx.map (fun e =>
      if 1440 ≤ t then if y.2.contains e.2 || read e.2 then ({ e.1 with kind := .void } : Brick).sealed else e.1
      else if y.2.contains e.2 || read e.2 || e.1.kind == .void || !e.1.parOk then d.replaceBrick prev e.1 e.2 else e.1)
    let z := d.bufferEmpty t items prev out
    let d := z.1
    let c := d.tc t
    d.setTc t { c with
      prev := out, out := z.2, mortar := d.outMortar t line, last := if c.state == 1 then out else c.last, zeroed := 0, safe := false }

/-! ### Probes (R200) -/

/-- A probe's frame in progress. -/
def Dev.probe (d : Dev) (p : Nat) : ProbeI := Map.get (fun _ => {}) d.probes p
/-- Write it. -/
def Dev.setProbe (d : Dev) (p : Nat) (v : ProbeI) : Dev := { d with probes := Map.put (fun _ => {}) d.probes p v }

/-- One bit of the CRC-32 x³² + … (0x04C1_1DB7), most significant bit of the register first. -/
def crc32Bit (c : BitVec 32) (b : Bool) : BitVec 32 :=
  let top := c.getLsbD 31 != b
  (c <<< 1) ^^^ (if top then 0x04C11DB7 else 0)

/-- The CRC-32 taken on over a payload, least significant bit first. -/
def crc32Payload (c : BitVec 32) (p : Payload) : BitVec 32 := (List.range 160).foldl (fun a i => crc32Bit a (p.getLsbD i)) c

/-- A probe sees the bricks of a course. -/
def Dev.probeSee (d : Dev) (p : Nat) (bs : List Brick) : Dev :=
  if d.rd .fab (Fld.nth .FAB_PROBE_CFG_ENABLE p) == 0 then d
  else
    let black := ((d.blackLine 1 0).headD {}).payload
    d.setProbe p (bs.foldl (fun i b =>
      if b.kind == .data then
        { i with crc := crc32Payload i.crc b.payload, good := i.good && !b.subst, black := i.black && b.payload == black, any := true }
      else if b.kind == .void then { i with good := false } else i) (d.probe p))

/-- A frame of a probe ends. -/
def Dev.probeFrame (d : Dev) (p : Nat) : Dev :=
  let f := fun (f : Fld) => Fld.nth f p
  let i := d.probe p
  if d.rd .fab (f .FAB_PROBE_CFG_ENABLE) == 0 then d
  else
    let valid := i.good && i.any
    let black := i.black && i.any
    let same := i.lastCrc == some i.crc
    let run := if valid then (if same && 0 < i.run then i.run + 1 else 1) else 0
    let wasBlack := d.on .fab (f .FAB_PROBE_STAT_BLACK)
    let wasFrozen := d.on .fab (f .FAB_PROBE_STAT_FROZEN)
    let frozen := (wasFrozen && same) || d.rd .fab (f .FAB_PROBE_CFG_FROZEN_FRAMES) ≤ run
    let d := (d.wr .fab (f .FAB_PROBE_CRC_CRC) i.crc.toNat).wrOn .fab (f .FAB_PROBE_STAT_VALID) valid
    let d := (d.wrOn .fab (f .FAB_PROBE_STAT_BLACK) black).wrOn .fab (f .FAB_PROBE_STAT_FROZEN) frozen
    let d := d.wr .fab (f .FAB_PROBE_STAT_FRAMES) (d.rd .fab (f .FAB_PROBE_STAT_FRAMES) + 1)
    let d := d.setProbe p { lastCrc := some i.crc, run := run }
    d.setEvtIf ((black && !wasBlack) || (frozen && !wasFrozen)) .fab 14

/-- The probes of a domain at a frame start. -/
def Dev.probeFrames (d : Dev) (k : Nat) : Dev :=
  ((List.range 32).filter (fun p => d.rd .fab (Fld.nth .FAB_PROBE_CFG_ENABLE p) == 1 && d.outDom (1440 + p) == some k)).foldl
    (fun e p => e.probeFrame p) d

/-! ### Ancillary selection (R153 to R160) -/

/-- The word pairs that a record of input tile `s` has to spare at the inserter of its own line; it is late where there are fewer than none (R159, R160). -/
def Dev.ancSlack (d : Dev) (s : Nat) (r : PktRec) : Int := d.posOf (d.protTile s) - (8 * ((r.offset + 7) / 8 + 4) : Nat)

/-- The word pairs that a record has to spare at a Tile Link output before the first mortar brick of its own line, which follows the active bricks (R241):
the horizontal space of the line stands ahead of them. -/
def Dev.ancSlackTl (d : Dev) (t s : Nat) (r : PktRec) : Int :=
  let pat := (d.outBond t).2.2
  let fmt := d.domFmt ((d.outDom t).getD 0)
  let blank := match fmtOf fmt with
    | some f => if pat == 1 || patternPhased pat then (f.len - f.active) / 2 else f.len - f.active
    | none => 0
  d.ancSlack s r + ((8 * patternBricks pat fmt + (if r.vert then 0 else blank) : Nat) : Int)

/-- The records of a kind that an output tile selects in course `line`, each with what it has to spare; records from the frame store are on time (R153,
R158, R308). -/
def Dev.ancSelect (d : Dev) (t kind line : Nat) : List (PktRec × Option Int) :=
  match d.ancSource t kind with
  | none => []
  | some s =>
    let x := d.srcRecs s line (kind == 1)
    let filter := (d.ac (2 * t + kind)).ac d.readWall
    (x.1.filter (fun r => filter.getLsbD (d.outClass t r))).map (fun r =>
      (r, if x.2 then none else some (if t < 1152 then d.ancSlack s r else d.ancSlackTl t s r)))

/-- A record with this to spare is on time. -/
def onTime (k : Option Int) : Bool := 0 ≤ k.getD 0

/-- The record at index `i` of an output tile's selection is late in a wall. -/
def recLate (t kind i w : Nat) (items : List LateItem) : Bool :=
  items.any (fun x => x.tile == t && x.pos == i &&
    (match x.kind with
     | .record v vert => v.val == w && vert == (kind == 1)
     | .recordBoth vert => vert == (kind == 1)
     | _ => false))

/-- Records late in the accepted wall come from the other where that holds a claim and has them on time (R319); otherwise they are dropped and
counted (Table 8.8). The others stay. -/
def Dev.ancWallLate (d : Dev) (t kind : Nat) (items : List LateItem) (rs : List (PktRec × Option Int)) : Dev × List (PktRec × Option Int) :=
  let a := d.acceptedWall.getD 0
  let o := 1 - a
  let late := fun (i : Nat) => recLate t kind i a items
  let other := fun (i : Nat) => 0 < d.wallEff o && !(recLate t kind i o items)
  let range := List.range rs.length
  let alt := (range.filter (fun i => late i && other i)).length
  let lost := (range.filter (fun i => late i && !(other i))).length
  let d := (List.range alt).foldl (fun e _ => e.inc .cgate .CGATE_ALT_CNT_COUNT) d
  let d := [0, 1].foldl (fun e w => e.add (.wall w) .WALL_LATE_COUNT (range.filter (fun i => recLate t kind i w items)).length) d
  let d := (List.range lost).foldl (fun e _ => ((e.ancDrop (2 * t + kind) true).inc .fab .FAB_SVC_ANC_COUNT).setEvt .fab 11) d
  (d, (rs.zipIdx.filter (fun e => !(late e.2 && !(other e.2)))).map (·.1))

end Sys2Proof.Machine
end

