-- ==== Sys2Proof/Machine/Output.lean ====
section
/-! DEFINITION. The de-mapper of an SDI output lane (R138 to R142, R156 to R162, R168 to R174): lines with their packets and embedded
audio, lane routes, ASI and MADI outputs. -/

namespace Sys2Proof.Machine

/-! ### The words of a line -/

/-- Words of horizontal space per stream (R143): the line without its active words, EAV and SAV, and without line number and CRC at HD and
above. -/
def spaceWords (mode fmt : Nat) : Nat :=
  match fmtOf fmt with
  | some f => f.len - f.active - (if mode == 1 then 8 else 12)
  | none => 0

/-- Data streams of an output lane. -/
def Dev.outStreams (d : Dev) (n : Nat) : Nat := fmtStreams (d.txModeNow n) (d.outFmt n)

/-- EAV of a line in one stream, with the line number and the CRC at HD and above: the CRC covers the active words sent before and the words from
EAV to LN1 (Table 6.7). -/
def eavWords (mode fmt line : Nat) (before : List Word10) : List Word10 :=
  let trs := [0x3FF, 0x000, 0x000, xyzWord (Config.fieldBit fmt line) (Config.vertBlank fmt line) true]
  if mode == 1 then trs else trs ++ lnWords line ++ crcWords (before ++ trs ++ lnWords line)

/-- SAV of a line. -/
def savWords (fmt line : Nat) : List Word10 :=
  [0x3FF, 0x000, 0x000, xyzWord (Config.fieldBit fmt line) (Config.vertBlank fmt line) false]

/-- The word pairs of delivered bricks. -/
def brickPairs (bs : List Brick) : List (Word10 × Word10) :=
  bs.flatMap (fun b => (List.range 8).map (fun i => (b.payload.extractLsb' (20 * i) 10, b.payload.extractLsb' (20 * i + 10) 10)))

/-- Two lists in turn, as phases 0 and 1 of a word-pair stream (R121). -/
def weave {α : Type} : List α → List α → List α
  | x :: xs, y :: ys => x :: y :: weave xs ys
  | xs, ys => xs ++ ys

/-- The active words of every stream of a line from its tiles' bricks, by the inverse of Table 6.3. -/
def activeStreams (mode fmt : Nat) (tiles : List (List Brick)) : List (List Word10) :=
  let p := fun k => brickPairs (tiles.getD k [])
  let two := fun (ps : List (Word10 × Word10)) => [ps.map (·.1), ps.map (·.2)]
  match mode with
  | 1 => [(p 0).flatMap (fun x => [x.1, x.2])]
  | 2 => two (p 0)
  | 3 => two (weave (p 0) (p 1))
  | 4 => two (p 0) ++ two (p 1)
  | 5 => two (p 0)
  | 6 => two (weave (p 0) (p 1))
  | 7 => (List.range 4).flatMap (fun k => two (p k))
  | 8 =>
    if fmtFast fmt then (List.range 4).flatMap (fun q => two (weave (p (2 * q)) (p (2 * q + 1))))
    else (List.range 8).flatMap (fun k => two (p k))
  | _ => []

/-- The stream of an output lane in which a record of tile position `k` is placed (R156). -/
def recStream (mode fmt k : Nat) (spos : Bool) : Nat :=
  let q := match mode with
    | 4 => k
    | 7 => k
    | 8 => if fmtFast fmt then k / 2 else k
    | _ => 0
  if mode == 1 then 0 else 2 * q + (if spos then 1 else 0)

/-- The ancillary data flag and a packet's words. -/
def PktRec.lineWords (r : PktRec) : List Word10 := [0x000, 0x3FF, 0x3FF] ++ r.sendWords

/-- A word of blanking outside packets (TXREGEN.BLANK); an SD stream's words stand in pairs. -/
def blankWord (plain : Bool) (mode s i : Nat) : Word10 :=
  if plain then 0x040 else if (if mode == 1 then i % 2 else s % 2) == 0 then 0x040 else 0x200

/-- Append words to a space of stream `s` where they fit. -/
def fitWords (room : Nat) (xs : List (List Word10)) (s : Nat) (ws : List Word10) : Option (List (List Word10)) :=
  if s < xs.length && (xs.getD s []).length + ws.length ≤ room then some (xs.set s (xs.getD s [] ++ ws)) else none

/-! ### Fixed items (R140, R141, R168 to R171) -/

/-- Bytes 3 and 4 of a regenerated payload ID (R140). -/
def Dev.pidB34 (d : Dev) (n : Nat) : Nat :=
  let fixed := d.rd (.lane n) .LANE_TXREGEN_PID_B34
  if d.rd (.lane n) .LANE_TXREGEN_PID_MODE == 1 then fixed
  else
    let s := match d.followNow n with
      | some f => 8 * f
      | none => d.effSrc (d.txLeadOf n * 8)
    if s < 1152 && !(d.on (.lane (s / 8)) .LANE_FRMSTAT_PID_ABSENT) then d.rd (.lane (s / 8)) .LANE_PID1_BYTES % 65536 else fixed

/-- The payload ID packet (R140). -/
def Dev.pidRec (d : Dev) (n : Nat) : PktRec :=
  let link := n - d.txLeadOf n
  let b12 := (Config.pidBytes12 (d.txModeNow n) (d.outFmt n) link).toNat
  let b34 := d.pidB34 n
  { did := 0x41, sdid := 0x01, udw := [parityWord (b12 / 256), parityWord (b12 % 256), parityWord (b34 / 256), parityWord (b34 % 256)] }

/-- ST 352 packets that arrive by the ancillary path are discarded while the lane makes its own, and so are EDH packets on SD (R140, R141). -/
def Dev.isRegen (d : Dev) (n : Nat) (r : PktRec) : Bool :=
  (d.rd (.lane n) .LANE_TXREGEN_PID_MODE != 2 && r.did == 0x41 && r.sdid == 0x01) ||
    (d.txModeNow n == 1 && d.on (.lane n) .LANE_TXREGEN_EDH_INS && r.did == 0xF4 && r.sdid == 0x00)

/-- The switch line of an output lane (R161). -/
def Dev.outSwitch (d : Dev) (n : Nat) : Nat :=
  match d.txSrc n with
  | some (.dom k) => d.td k .TDOM_STAT_SWLINE_EFF
  | _ =>
    match fmtLines (d.outFmt n) with
    | 525 => 10
    | 625 => 6
    | _ => 7

/-- The line is the `i`th after the switch line of a field (R169, R170). -/
def Dev.afterSwitch (d : Dev) (n line i : Nat) (both : Bool) : Bool :=
  let fmt := d.outFmt n
  let total := max 1 (fmtLines fmt)
  let s := d.outSwitch n
  let at' := fun (x : Nat) => (x + i - 1) % total + 1 == line
  at' s || (both && ((fmtOf fmt).map (·.interlaced)).getD false && at' (Config.switchLine2 fmt s))

/-- A brick as the embedder sends it (R168, R171): a sample that is not present is 0 with V = 1; P anew over the transmitted subframe, which without
extended data packets on SD holds 20 bits of the sample. -/
def sentBrick (short : Bool) (w : Word) : Word :=
  let w := if w.getLsbD 3 then w else 0x80#32
  withParity (if short then w &&& 0xFFFFF0FF#32 else w)

/-- The frame sequence number of a group's control packet (R170): for a 1/1.001 format, of the domain's frame, or on a FOLLOW lane of its own. -/
def Dev.audFrame (d : Dev) (n : Nat) : Nat :=
  if (fmtOf (d.outFmt n)).map (·.family) != some 1 then 0
  else match d.txSrc n with
    | some (.dom t) => d.td t .TDOM_FCNT_FCNT
    | _ => (d.out n).frames

/-- The fields of a group's audio control packet (R170): frame sequence number, rate code, active bits of the field before, asynchronous flag, delays. -/
def Dev.audControl (d : Dev) (n b : Nat) : List Word :=
  [BitVec.ofNat 32 (d.audFrame n), BitVec.ofNat 32 (d.rd (.lane n) .LANE_AUDTX_R96_R96 / 2 ^ b % 2),
    BitVec.ofNat 32 (Map.get (fun _ => 0) (d.out n).audAct b / 16), 0, 0]

/-- The audio packets of one group on a line: the stream pair's packets, and what stays queued (R169, R170). -/
def Dev.audPackets (d : Dev) (n line b : Nat) : List (List Word10) × List EmbI :=
  let o := d.out n
  let mode := d.txModeNow n
  let q := Map.get (fun _ => []) o.aud b
  let ctrl := d.on (.lane n) .LANE_AUDTX_CTRL_PKT && d.afterSwitch n line 2 true
  let limit := if mode == 1 then q.length else if ctrl then 1 else 2
  let k := if d.afterSwitch n line 1 false then 0 else min limit q.length
  let wide := d.on (.lane n) .LANE_AUDTX_SD_24BIT
  let go := (q.take k).map (fun e => (e.words.map (sentBrick (mode == 1 && !wide)), (o.lines - e.lines, Config.clockPhase n e.period)))
  let words := fun (kind len : Nat) (ss : List Word) (at' : Nat × Nat) =>
    (List.range len).map (fun i => Config.audioWord mode b kind ss at' i)
  let data :=
    if mode == 1 then
      if go.isEmpty then []
      else
        words 0 (Config.sdAudioLen 0 go.length) (go.flatMap (·.1)) (0, 0) ::
          (if wide then [words 1 (Config.sdAudioLen 1 go.length) (go.flatMap (·.1)) (0, 0)] else [])
    else go.map (fun e => words 0 31 e.1 e.2)
  let control := if ctrl then [words 2 (if mode == 1 then Config.sdAudioLen 2 0 else 18) (d.audControl n b) (0, 0)] else []
  (data ++ control, q.drop k)

/-- The stream in which a group's packets go: the colour-difference stream of its pair at HD and above. -/
def Dev.audStream (d : Dev) (n b : Nat) : Nat := recStream (d.txModeNow n) (d.outFmt n) (b / 4) true

/-- The EDH packet (R141): the CRCs of the active picture and of the full field before; eda of both set where the source was an SD field counted errored;
every other flag, and the reserved words, 0 (RP 165). -/
def Dev.edhRec (d : Dev) (n : Nat) : List Word10 :=
  let s := match d.followLane n with
    | some f => 8 * f
    | none => d.effSrc (8 * n)
  let flags := parityWord (if s < 1152 && (d.framer (s / 8)).fieldBad then 8 else 0)
  let o := d.out n
  ({ did := 0xF4, sdid := 0, udw := edhCrcWords o.apLast ++ edhCrcWords o.ffLast ++ [parityWord 0, flags, flags] ++ List.replicate 7 (parityWord 0) } :
    PktRec).lineWords

/-- The field CRCs of an SD output go on over a line as sent (R141). -/
def OutI.edhSent (o : OutI) (fmt line : Nat) (eav space sav act : List Word10) : OutI :=
  let rest := space ++ sav ++ act
  let ap := edhStep (edhActive fmt line) line o.apRun o.apLast act act
  let ff := edhStep (edhFull fmt line) line o.ffRun o.ffLast rest (eav ++ rest)
  { o with apRun := ap.1, apLast := ap.2, ffRun := ff.1, ffLast := ff.2 }

/-! ### A line leaves (R138, R156, R157) -/

/-- A packet found no room (R157). -/
def Dev.insDrop (d : Dev) (x : OutRec) : Dev := d.recLost (2 * x.tile + (if x.pkt.vert then 1 else 0)) false x.pkt

/-- The line in assembly of an output lane is complete: its spaces are filled in the order of R157, and it becomes the line sent. -/
def Dev.finishLine (d : Dev) (n : Nat) : Dev :=
  let o := d.out n
  let mode := d.txModeNow n
  let fmt := d.outFmt n
  let p := Page.lane n
  if o.line == 0 then d
  else
    let ns := d.outStreams n
    let room := spaceWords mode fmt
    let edh := if mode == 1 && d.on p .LANE_TXREGEN_EDH_INS && (edhLines fmt).contains o.line then d.edhRec n else []
    let hroom := room - edh.length
    let vroom := if Config.vertBlank fmt o.line then ((fmtOf fmt).map (·.active)).getD 0 else 0
    let empty : List (List Word10) := List.replicate ns []
    -- fixed items: payload ID, then audio
    let pid := if d.rd p .LANE_TXREGEN_PID_MODE != 2 && pidLine fmt o.line then
        (if mode == 4 then [0, 2] else [0]).map (fun s => (s, (d.pidRec n).lineWords)) else []
    let hor := (pid ++ o.fixed).foldl (fun xs f => (fitWords hroom xs f.1 f.2).getD xs) empty
    -- classes 0 to 3, each in order of arrival
    let recs := (o.recs.filter (fun x => !(d.isRegen n x.pkt)))
    let sorted := [0, 1, 2, 3].flatMap (fun c => recs.filter (fun x => x.cls == c))
    let r := sorted.foldl (fun (a : Dev × List (List Word10) × List (List Word10)) x =>
      let s := recStream mode fmt (tilePos x.tile) x.pkt.spos
      match (if x.pkt.vert then fitWords vroom a.2.2 s x.pkt.lineWords else fitWords hroom a.2.1 s x.pkt.lineWords) with
      | some ys =>
        let e := a.1.bwAdd (144 + n) (4 * x.pkt.words.length)
        if x.pkt.vert then (e, a.2.1, ys) else (e, ys, a.2.2)
      | none => (a.1.insDrop x, a.2.1, a.2.2)) (d, hor, empty)
    let d := r.1
    let plain := d.on p .LANE_TXREGEN_BLANK
    let space := r.2.1.zipIdx.map (fun x =>
      x.1 ++ (List.range (hroom - x.1.length)).map (fun i => blankWord plain mode x.2 (x.1.length + i)) ++ edh)
    let active := o.active.zipIdx.map (fun x =>
      let v := r.2.2.getD x.2 []
      v ++ x.1.drop v.length)
    let eav := (List.range ns).map (fun s => eavWords mode fmt o.line (o.sentActive.getD s []))
    let q := if mode == 1 then (d.out n).edhSent fmt o.line (eav.headD []) (space.headD []) (savWords fmt o.line) (active.headD []) else d.out n
    d.setOut n { q with
      sentLine := o.line, sentFmt := fmt, sentEav := eav, sentSpace := space, sentSav := savWords fmt o.line, sentActive := active
      fixed := [], recs := [], line := 0 }

/-- The line is the first of a field of the format. -/
def fieldStart (fmt line : Nat) : Bool :=
  line == 1 || (((fmtOf fmt).map (·.interlaced)).getD false && line == Config.field2Line fmt)

/-- A field boundary of an output lane's embedder (R168, R170): a group stays while one of the last two fields had a present sample. -/
def Dev.audField (d : Dev) (n : Nat) : Dev :=
  let o := d.out n
  let en := d.rd (.lane n) .LANE_AUDTX_EN_GROUP_EN
  let seen := o.audOn.foldl (fun m b => Map.put (fun _ => 3) m b (min 3 (Map.get (fun _ => 3) m b + 1))) o.audSeen
  let stay := o.audOn.filter (fun b => en.testBit b && Map.get (fun _ => 3) seen b < 3)
  let gone := o.audOn.filter (fun b => !(stay.contains b))
  d.setOut n { o with
    audSeen := seen, audOn := stay
    aud := gone.foldl (fun m b => Map.put (fun _ => []) m b []) o.aud
    audAct := o.audOn.foldl (fun m b => Map.put (fun _ => 0) m b (Map.get (fun _ => 0) m b % 16 * 16)) o.audAct }

/-- The audio packets of the line that begins are those of the samples whose periods began before its horizontal space (R169), group by group in the
order in which they came to be embedded (DESIGN CHOICE, log 120). -/
def Dev.lineAudio (d : Dev) (n line : Nat) : Dev :=
  let o := d.out n
  let auds := o.audOn.map (fun b => (b, d.audPackets n line b))
  d.setOut n { o with
    fixed := auds.flatMap (fun a => a.2.1.map (fun ws => (d.audStream n a.1, ws)))
    aud := auds.foldl (fun m a => Map.put (fun _ => []) m a.1 a.2.2) o.aud }

/-- A line of an output lane begins, with its active words and the packets that wait for it. -/
def Dev.beginWords (d : Dev) (n line : Nat) (active : List (List Word10)) (recs next : List OutRec) : Dev :=
  let d := d.finishLine n
  let d := if fieldStart (d.outFmt n) line then d.audField n else d
  let o := d.out n
  let d := d.setOut n { o with
    line := line, active := active, recs := recs, next := next, lines := o.lines + 1, frames := if line == 1 then o.frames + 1 else o.frames }
  d.lineAudio n line

/-- A line of an output lane begins, with its tiles' bricks and the packets that wait for it. -/
def Dev.beginLine (d : Dev) (n line : Nat) (tiles : List (List Brick)) (recs next : List OutRec) : Dev :=
  let total := tiles.foldl (fun a bs => a + bs.length) 0
  (d.beginWords n line (activeStreams (d.txModeNow n) (d.outFmt n) tiles) recs next).bwAdd (144 + n) (20 * total)

/-- The records that a HOUSE output tile's contexts select for a course: to the inserter, or to the line engine of its lane (R150). -/
def Dev.tileRecs (d : Dev) (t line : Nat) (items : List LateItem) : Dev :=
  let n := t / 8
  let engine := d.on (.lane n) .LANE_ANCCFG_TX_PATH && d.lengLive n
  [0, 1].foldl (fun e kind =>
    let x := e.ancWallLate t kind items (e.ancSelect t kind line)
    x.2.foldl (fun e y =>
      if engine then e.lengSend n { tx := some t, pkt := y.1, slack := y.2 }
      else if onTime y.2 then
        e.setOut n { e.out n with recs := (e.out n).recs ++ [{ tile := t, cls := e.ancClassOf n y.1, pkt := y.1 }] }
      else e.recLost (2 * t + kind) true y.1) x.1) d

/-- The tile positions of an SDI output lane in its mode. -/
def Dev.outPositions (d : Dev) (n : Nat) : List Nat := (List.range (modeTiles (d.txModeNow n))).map (8 * n + ·)

/-- A HOUSE lane's line begins from what its tiles deliver in the course. -/
def Dev.laneCourse (d : Dev) (n line : Nat) (items : List LateItem) : Dev :=
  let ts := d.outPositions n
  let d := d.beginLine n line (ts.map (fun t => (d.tc t).out)) [] []
  ts.foldl (fun e t => e.tileRecs t line items) d

/-! ### Lane routes (R135, R161) -/

/-- The records of line `line` that a lane route passes on, for its next line. -/
def Dev.routeRecs (d : Dev) (n f line : Nat) : List OutRec :=
  (List.range 8).flatMap (fun k =>
    ((d.tile (8 * f + k)).anc.filter (fun r => r.line == line)).map (fun r =>
      { tile := 8 * n + k, cls := d.ancClassOf n r, pkt := r }))

/-- What a lane route passes on in place of the bricks of a tile where its transmit elastic buffer ran empty (R69): those of the line before. -/
def Dev.routeBricks (d : Dev) (n k : Nat) (items : List LateItem) (bs : List Brick) : Dev × List Brick :=
  let t := 8 * n + k
  let x := d.bufferEmpty t items (d.tc t).out bs
  (x.1.setTc t { x.1.tc t with out := x.2 }, x.2)

/-- The bricks of every tile of a lane route in a line. -/
def Dev.routeTiles (d : Dev) (n f line : Nat) (items : List LateItem) : Dev × List (List Brick) :=
  (List.range (modeTiles (d.txModeNow n))).foldl (fun (a : Dev × List (List Brick)) k =>
    let bs := match (a.1.tile (8 * f + k)).lines.find? (fun x => x.line == line) with
      | some x => x.bricks
      | none => []
    let x := a.1.routeBricks n k items bs
    (x.1, a.2 ++ [x.2])) (d, [])

/-- A line that receive lane `f` delivers passes along every lane route that sends it (R135, R136). -/
def Dev.routeLine (d : Dev) (f line : Nat) (items : List LateItem) : Dev :=
  ((d.txLanes.filter (fun n => d.delivers f && d.followLane n == some f && d.rd (.lane n) .LANE_LSTAT_TX_STATE == 2 &&
      modeSdi (d.txModeNow n)))).foldl (fun e n =>
    let x := e.routeTiles n f line items
    let e := x.1
    let tiles := x.2
    let rs := e.routeRecs n f line
    let engine := e.on (.lane n) .LANE_ANCCFG_TX_PATH && e.lengLive n
    let e := e.beginLine n line tiles (e.out n).next (if engine then [] else rs)
    if engine then rs.foldl (fun e r => e.lengSend n { tx := some r.tile, pkt := r.pkt, slack := none }) e else e) d

/-- A FOLLOW lane transmits without its input: the followed framer has left its delivering state (R136). -/
def Dev.routeIdle (d : Dev) (n : Nat) : Bool :=
  d.isFollow n && d.rd (.lane n) .LANE_LSTAT_TX_STATE == 2 && modeSdi (d.txModeNow n) &&
    (match d.followLane n with
     | some f => !d.delivers f
     | none => false)

/-- The active words of a line in place of an input that a FOLLOW lane has lost (R136). -/
def Dev.idleWords (d : Dev) (n : Nat) : List (List Word10) :=
  let width := ((fmtOf (d.outFmt n)).map (·.active)).getD 0
  (List.range (d.outStreams n)).map (fun s => (List.range width).map (fun i =>
    if (if d.txModeNow n == 1 then i else s) % 2 == 0 then 0x040#10 else 0x200#10))

/-- The followed framer of a lane route delivers no longer: the line in assembly goes on with black words and without embedded audio (R136). -/
def Dev.routeBlank (d : Dev) (f : Nat) : Dev :=
  (d.txLanes.filter (fun n => d.routeIdle n && d.followLane n == some f)).foldl (fun e n =>
    let o := e.out n
    e.setOut n { o with line := if o.line == 0 then 1 else o.line, active := e.idleWords n, fixed := [], aud := [], audOn := [], credit := 0 }) d

/-- The next regenerated line of a FOLLOW lane without input: its own line numbers go on (R136, Table 6.7). -/
def Dev.idleLine (d : Dev) (n : Nat) : Dev :=
  let o := d.out n
  d.beginWords n (o.line % max 1 (fmtLines (d.outFmt n)) + 1) (d.idleWords n) o.next []

/-- Lines of a format in 1,001,000 s. -/
def lineRate (fmt : Nat) : Nat :=
  match fmtOf fmt with
  | some f => f.lines * f.fps * (if f.family == 1 then 1000000 else 1001000)
  | none => 0

/-- The regenerated lines of a FOLLOW lane without input that begin in a house sample period, at the frequency held (R136; DESIGN CHOICE, log 121). -/
def Dev.idlePeriod (d : Dev) (n : Nat) : Dev :=
  let c := (d.out n).credit + lineRate (d.outFmt n)
  let per := 48000 * 1001000
  let d := d.setOut n { d.out n with credit := c % per }
  (List.range (c / per)).foldl (fun e _ => e.idleLine n) d

/-! ### The house sample period on outputs (R142, R168, R174) -/

/-- The slots of an output lane's group. -/
def Dev.groupSlots (d : Dev) (n b : Nat) : List Word := (List.range 4).map (fun c => d.outSlot (128 * n + 4 * b + c))

/-- The embedder of a lane takes a sample of each group (R168). -/
def Dev.embedPeriod (d : Dev) (n : Nat) : Dev :=
  let en := d.rd (.lane n) .LANE_AUDTX_EN_GROUP_EN
  let groups := if d.routeIdle n then []
    else (List.range (4 * modeAudioTiles (d.txModeNow n))).filter (fun b => en.testBit b || (d.out n).audOn.contains b)
  groups.foldl (fun e b =>
    let ws := e.groupSlots n b
    let o := e.out n
    let pres := (List.range 4).foldl (fun a c => if (ws.getD c 0).getLsbD 3 then a + 2 ^ c else a) 0
    let o := if pres != 0 && en.testBit b then
        { o with audSeen := Map.put (fun _ => 3) o.audSeen b 0, audOn := if o.audOn.contains b then o.audOn else o.audOn ++ [b] }
      else o
    let act := Map.get (fun _ => 0) o.audAct b
    if o.audOn.contains b then
      (e.setOut n { o with
        aud := Map.put (fun _ => []) o.aud b (Map.get (fun _ => []) o.aud b ++ [{ words := ws, lines := o.lines, period := e.period }])
        audAct := Map.put (fun _ => 0) o.audAct b (act / 16 * 16 + (BitVec.ofNat 4 act ||| BitVec.ofNat 4 pres).toNat) }).bwAdd (144 + n) 16
    else e.setOut n o) d

/-- The channels of a MADI frame or, at 96 kHz, of the two frames of a period, in order: V, U, C, block start and active bit as the brick has them, P anew
(R174). -/
def Dev.madiPeriod (d : Dev) (n : Nat) : Dev :=
  let s := fun c => withParity (d.outSlot (128 * n + c))
  let ws := match d.rd (.lane n) .LANE_AUDTX_MADI_FMT with
    | 0 => (List.range 64).map s
    | 1 => (List.range 56).map s
    | _ => (List.range 32).map (fun j => s (2 * j)) ++ (List.range 32).map (fun j => s (2 * j + 1))
  (d.setOut n { d.out n with madi := ws }).bwAdd (144 + n) (4 * ws.length)

/-- A packet of its data tile reaches an ASI output (R142). -/
def Dev.asiPut (d : Dev) (n src : Nat) (p : List Brick) : Dev :=
  let o := d.out n
  if (o.asi ++ [p]).flatten.length ≤ 576 then d.setOut n { o with asi := o.asi ++ [p] }
  else
    let d := d.tcCount (8 * n) true
    if src < 1152 then d.add (.lane (src / 8)) (Fld.nth .LANE_JUST_DEC 0) 1
    else d.add (.tll ((src - 1152) / 16)) (Fld.nth .TLL_JUST_DEC ((src - 1152) % 16)) 1

/-- The packets that fit the characters of a period go out, each after two K28.5 (R142). -/
def asiDrain : Nat → OutI → OutI
  | 0, o => o
  | fuel + 1, o =>
    match o.asi with
    | [] => { o with asiCredit := 0 }
    | p :: ps =>
      let cost := 2 * ((bricksPacket p).length + 2)
      if cost ≤ o.asiCredit then asiDrain fuel { o with asi := ps, asiCredit := o.asiCredit - cost, asiSent := o.asiSent + 1 } else o

/-- An ASI output in one house sample period: 562.5 characters at 27 MHz. -/
def Dev.asiPeriod (d : Dev) (n : Nat) : Dev :=
  let o := d.out n
  d.setOut n (asiDrain 64 { o with asiCredit := o.asiCredit + 1125 })

/-- Every SDI output lane in a house sample period. -/
def Dev.outPeriod (d : Dev) : Dev :=
  (d.txLanes.filter (fun n => d.rd (.lane n) .LANE_LSTAT_TX_STATE == 2)).foldl (fun e n =>
    let m := e.txModeNow n
    if m == 9 then e.madiPeriod n else if m == 10 then e.asiPeriod n
    else if !(modeSdi m) then e else if e.routeIdle n then e.idlePeriod n else e.embedPeriod n) d

end Sys2Proof.Machine
end

