-- ==== Sys2Proof/Machine/TileLink.lean ====
section
/-! DEFINITION. Tile Link (R115, R116, R223 to R245): block and frame lock, row overhead, the communication channel, justification, header
bricks and receive slots, and the transmitter's frames. -/

namespace Sys2Proof.Machine

/-! ### Bits and bricks -/

/-- Blocks of a frame (R115). -/
def tlFrameBlocks : Nat := 38592

/-- Byte `i` of a block's payload (R227). -/
def blockByte (b : BitVec 64) (i : Nat) : Nat := b.toNat / 2 ^ (8 * i) % 256

/-- The frame alignment marker: row 0's block 0, all 8 bytes (Table 10.2). -/
def tlMarker : BitVec 64 := 0x429C71E50DA63B80#64

/-- A control block carrying the marker. -/
def isMarker (sync : BitVec 2) (b : BitVec 64) : Bool := sync == 0b10 && b == tlMarker

/-- The byte has odd parity. -/
def oddByte (x : Nat) : Bool := (List.range 8).foldl (fun a i => a != x.testBit i) false

/-- A block 0 is consistent for row `row` (R227). -/
def rowConsistent (sync : BitVec 2) (b : BitVec 64) (row : Nat) : Bool :=
  sync == 0b10 && oddByte (blockByte b 0) && blockByte b 0 % 128 == row

/-- The exclusive or of the two halves of a block: its share of the BIP-32 (R228). -/
def foldBlock (b : BitVec 64) : BitVec 32 := b.setWidth 32 ^^^ (b >>> 32).setWidth 32

/-- The ten bricks of a slot from its 25 blocks, bit 0 of the first block first (R225). -/
def slotBricks (bs : List (BitVec 64)) : List Payload :=
  let x : BitVec 1600 := bs.zipIdx.foldl (fun (a : BitVec 1600) (e : BitVec 64 × Nat) => a ||| (e.1.setWidth 1600 <<< (64 * e.2))) 0
  (List.range 10).map (fun p => (x >>> (160 * p)).setWidth 160)

/-- The 25 blocks of a slot's row from its ten bricks (R225). -/
def bricksBlocks (ps : List Payload) : List (BitVec 64) :=
  let x : BitVec 1600 := ps.zipIdx.foldl (fun (a : BitVec 1600) (e : Payload × Nat) => a ||| (e.1.setWidth 1600 <<< (160 * e.2))) 0
  (List.range 25).map (fun i => (x >>> (64 * i)).setWidth 64)

/-- The bits that differ in two BIP-32. -/
def bitCount (x : BitVec 32) : Nat := ((List.range 32).filter (fun i => x.getLsbD i)).length

/-! ### Headers and line geometry (R237, R238) -/

/-- A header brick's fields (Table 10.4). -/
structure Header where
  type : Nat
  fmt : Nat
  pattern : Nat
  member : Nat
  lseq : Nat
  tileId : Nat
  line : Nat
  ptr : Nat
  deriving DecidableEq, Repr

/-- Bits `lo` and up of a payload. -/
def pField (p : Payload) (lo w : Nat) : Nat := p.toNat / 2 ^ lo % 2 ^ w

/-- The CRC-16 of a header's bits [159:16], bit 159 first. -/
def headerCrc (p : Payload) : BitVec 16 :=
  (List.range 144).foldl (fun (c : BitVec 16) i =>
    (c <<< 1) ^^^ (if c.getLsbD 15 != p.getLsbD (159 - i) then 0x1021 else 0)) 0xFFFF

/-- The header is bad (R237). -/
def headerBad (p : Payload) : Bool := headerCrc p != p.setWidth 16 || pField p 16 87 != 0

/-- The fields of a header brick. -/
def headerOf (p : Payload) : Header :=
  { type := pField p 158 2, fmt := pField p 152 6, pattern := pField p 148 4, member := pField p 145 3, lseq := pField p 142 3
    tileId := pField p 130 12, line := pField p 119 11, ptr := pField p 103 16 }

/-- The header brick of fields. -/
def Header.payload (h : Header) : Payload :=
  let p : Payload := BitVec.ofNat 160 (h.type * 2 ^ 158 + h.fmt * 2 ^ 152 + h.pattern * 2 ^ 148 + h.member * 2 ^ 145 + h.lseq * 2 ^ 142 +
    h.tileId * 2 ^ 130 + h.line * 2 ^ 119 + h.ptr * 2 ^ 103)
  p ||| (headerCrc p).setWidth 160

/-- Eight times B of Table 10.5: data bricks per line by type, pattern and format; 0 where there is no line. -/
def linesOct (type pattern fmt : Nat) : Nat :=
  match type with
  | 1 =>
    match fmtOf fmt with
    | some f => if !(patternFmts pattern fmt) then 0 else if pattern == 1 then 11 * f.len / 4 else if patternPhased pattern then f.len / 2 else f.len
    | none => 0
  | 2 => 1536
  | 3 => if fmt == 1 then 80 else if fmt == 2 then 88 else 0
  | _ => 0

/-- Data bricks of line `q` (R238). -/
def lineLen (oct q : Nat) : Nat := (q % 8 + 1) * oct / 8 - q % 8 * oct / 8

/-! ### Receive slots (R234 to R243) -/

/-- A receive slot's state beyond its registers. -/
def Dev.rxs (d : Dev) (n k : Nat) : RxSlotI := Map.get (fun _ => {}) (d.tlr n).slots k
/-- Write it. -/
def Dev.setRxs (d : Dev) (n k : Nat) (v : RxSlotI) : Dev :=
  d.setTlr n { d.tlr n with slots := Map.put (fun _ => {}) (d.tlr n).slots k v }

/-- Write a receive slot's field. -/
def Dev.slotWr (d : Dev) (n k : Nat) (f : Fld) (v : Nat) : Dev := d.wr (.tll n) (f.nth k) v

/-- Eight times B of the tile a receive slot holds. -/
def Dev.slotOct (d : Dev) (n k : Nat) : Nat :=
  linesOct (d.slotRd n k .TLL_RXSLOT_TYPE) (d.slotRd n k .TLL_RXSLOT_PATTERN) (d.slotRd n k .TLL_RXSLOT_FMT)

/-- The records that a mortar area holds, and whether one would overrun it (R241). -/
def areaRecs : Nat → List Word → List PktRec × Bool
  | 0, _ => ([], false)
  | _, [] => ([], false)
  | _, [w] => ([], w != 0)
  | fuel + 1, w0 :: w1 :: rest =>
    if w0 == 0 then ([], false)
    else
      let x := recOf w0 w1 rest
      if rest.length + 2 < x.2 then ([], true)
      else
        let y := areaRecs fuel ((w0 :: w1 :: rest).drop x.2)
        (x.1 :: y.1, y.2)

/-- The words of mortar bricks, five to a brick (R241). -/
def mortarWords (ps : List Payload) : List Word := ps.flatMap (fun (p : Payload) => (List.range 5).map (fun i => (p >>> (32 * i)).setWidth 32))

/-- A received record goes to its tile's stream within the limits of R146. -/
def Dev.tlRecord (d : Dev) (n t line : Nat) (r : PktRec) : Dev :=
  let r := { r with line := line, tile := t }
  let i := d.tile t
  let pk := if r.vert then i.vPk else i.hPk
  let uw := if r.vert then i.vUdw else i.hUdw
  if r.did == 0x80 || 128 < pk + 1 || 2048 < uw + r.udw.length then d
  else
    let j := if r.vert then { i with vPk := pk + 1, vUdw := uw + r.udw.length } else { i with hPk := pk + 1, hUdw := uw + r.udw.length }
    ((d.setTile t j).bwAdd (288 + n) (4 * r.words.length)).ancInto r

/-- A whole transport packet, in bricks, passes through a data tile: every connected output with no domain takes it (R124, R142, R175, R243). -/
def Dev.packetIn (d : Dev) (t : Nat) (p : List Brick) : Dev :=
  let d := d.setTile t { d.tile t with packet := p }
  d.dataOuts.foldl (fun e u =>
    if (e.tc u).state == 1 && e.acceptedWall.isSome && e.protTile (e.effSrc u) == t then
      if u < 1152 then e.asiPut (u / 8) t p
      else
        let n := (u - 1152) / 16
        let x := Map.get (fun _ => {}) (e.tlt n).slots (tilePos u)
        e.setTlt n { e.tlt n with slots := Map.put (fun _ => {}) (e.tlt n).slots (tilePos u) { x with packets := x.packets ++ [p] } }
    else e) d

/-- A line of a LOCKED slot is complete: its bricks go to the course aligner, the stream or the data tile (R240 to R243). `sub` is the arrival
in sixteenths of a house sample period, `late` a frame-store write that misses its deadline. -/
def Dev.slotLine (d : Dev) (n k line : Nat) (ps : List Payload) (sub : Nat) (late : Bool) : Dev :=
  let t := 1152 + 16 * n + k
  match d.slotRd n k .TLL_RXSLOT_TYPE with
  | 1 =>
    let act := patternBricks (d.slotRd n k .TLL_RXSLOT_PATTERN) (d.slotRd n k .TLL_RXSLOT_FMT)
    let bs := lineOfPayloads line (ps.take act)
    if !(d.tileFramed t) then d
    else
      let d := (d.pushLine t line bs).bwAdd (288 + n) (20 * bs.length)
      let d := d.setTile t (d.tile t).nextLine
      let ws := mortarWords (ps.drop act)
      let x := areaRecs (ws.length + 1) ws
      let d := x.1.foldl (fun e r => e.tlRecord n t line r) d
      let d := if x.2 then d.inc (.tll n) .TLL_ANCRX_BAD else d
      d.fsLine t line bs late
  | 2 =>
    let a := (d.audioSlots n).idxOf k
    (d.bwAdd (288 + n) 3840).strmPush (4608 + 2 * n + a) sub (mortarWords ps)
  | 3 =>
    let bytes := (ps.flatMap payloadBytes).take (if d.slotRd n k .TLL_RXSLOT_FMT == 1 then 188 else 204)
    if bytes.headD 0 == 0x47 then (d.bwAdd (288 + n) (20 * ps.length)).packetIn t (packetBricks bytes) else d
  | _ => d

/-- A data brick of a receive slot: the receiver's own count of the line stream goes on, and the brick joins the line (R238 to R240). -/
def Dev.slotBrick (d : Dev) (n k sub : Nat) (late : Bool) (p : Payload) : Dev :=
  let s := d.rxs n k
  let st := d.slotRd n k .TLL_RXSLOT_STATE
  let oct := d.slotOct n k
  if oct == 0 || !(st == 2 || (st == 1 && s.cand)) then d
  else
    let s := if s.toNext == 0 then
        { s with
          toNext := lineLen oct s.seq - 1, seq := (s.seq + 1) % 8, deliver := st == 2, cur := [p], curLine := s.line
          line := if s.line == 0 then 0
            else s.line % max 1 (fmtLines (d.slotRd n k .TLL_RXSLOT_FMT)) + 1 }
      else { s with toNext := s.toNext - 1, cur := s.cur ++ [p] }
    if s.toNext == 0 then
      let d := d.setRxs n k { s with cur := [] }
      if s.deliver then d.slotLine n k s.curLine s.cur sub late else d
    else d.setRxs n k s

/-- The data bricks that a slot holds back behind its header brick go on. -/
def Dev.slotFlush (d : Dev) (n k sub : Nat) (late : Bool) : Dev :=
  let s := d.rxs n k
  s.held.foldl (fun e p => e.slotBrick n k sub late p) (d.setRxs n k { s with hdr := none, held := [] })

/-- The 25 blocks of a slot have arrived in row `row`: fixed positions and, with J = 1, the JO (R234); row 0's header brick waits to be
judged, and the bricks behind it with it. -/
def Dev.slotRow (d : Dev) (n k row sub : Nat) (late : Bool) (bs : List (BitVec 64)) : Dev :=
  let ps := slotBricks bs
  let d := d.slotFlush n k sub late
  let s := d.rxs n k
  let data := (if row == 0 then (ps.take 9).drop 1 else ps.take 9) ++ (if s.j then ps.drop 9 else [])
  if row == 0 then d.setRxs n k { s with hdr := ps.head?.map headBrick, held := data }
  else data.foldl (fun e p => e.slotBrick n k sub late p) d

/-- A slot is LOCKED as VIDEO with this member number and pattern. -/
def Dev.slotMember (d : Dev) (n k m pat : Nat) : Bool :=
  d.slotLocked n k 1 && d.slotRd n k .TLL_RXSLOT_MEMBER == m && d.slotRd n k .TLL_RXSLOT_PATTERN == pat

/-- BOND_ERR of every slot follows the bonds of R240. -/
def Dev.bondErrs (d : Dev) (n : Nat) : Dev :=
  (List.range 16).foldl (fun e k =>
    let m := e.slotRd n k .TLL_RXSLOT_MEMBER
    let pat := e.slotRd n k .TLL_RXSLOT_PATTERN
    let bad := e.slotLocked n k 1 && (k < m || patternWidth pat ≤ m || !(e.slotMember n (k - m) 0 pat))
    e.slotWr n k .TLL_RXSLOT_BOND_ERR (if bad then 1 else 0)) d

/-- Tiles, defects, channels and outputs follow a Tile Link lane. -/
def Dev.tlSettle (d : Dev) (n : Nat) : Dev :=
  (((d.bondErrs n).laneSettle (144 + n)).fsSettle).outSettle.dataSettle

/-- The header's fields as a slot holds them. -/
def Dev.slotHolds (d : Dev) (n k : Nat) (h : Header) : Bool :=
  d.slotRd n k .TLL_RXSLOT_TYPE == h.type && d.slotRd n k .TLL_RXSLOT_FMT == h.fmt && d.slotRd n k .TLL_RXSLOT_PATTERN == h.pattern &&
    d.slotRd n k .TLL_RXSLOT_MEMBER == h.member && d.slotRd n k .TLL_RXSLOT_TILE_ID == h.tileId

/-- A third AUDIO slot of the lane (R242). -/
def Dev.thirdAudio (d : Dev) (n k : Nat) (h : Header) : Bool :=
  h.type == 2 && 2 ≤ ((d.audioSlots n).filter (fun j => j != k)).length

/-- A header that is not bad agrees (R239). -/
def Dev.headerAgrees (d : Dev) (n k : Nat) (h : Header) : Bool :=
  let s := d.rxs n k
  d.slotHolds n k h && !(d.thirdAudio n k h) &&
    (if h.type == 0 then h.ptr == 0 && h.lseq == 0 && h.line == 0
     else d.slotOct n k != 0 && h.ptr == s.toNext && h.lseq == s.seq && h.line == s.line)

/-- A slot holds a header, and counts on from it. -/
def Dev.slotTake (d : Dev) (n k : Nat) (h : Header) : Dev :=
  let w := fun (e : Dev) (f : Fld) (v : Nat) => e.slotWr n k f v
  let d := w (w (w (w (w d .TLL_RXSLOT_TYPE h.type) .TLL_RXSLOT_FMT h.fmt) .TLL_RXSLOT_PATTERN h.pattern) .TLL_RXSLOT_MEMBER h.member)
    .TLL_RXSLOT_TILE_ID h.tileId
  d.setRxs n k { d.rxs n k with cand := true, toNext := h.ptr, seq := h.lseq, line := h.line, cur := [], deliver := false }

/-- A LOCKED slot returns to HUNT (Table 10.6). -/
def Dev.slotRelock (d : Dev) (n k : Nat) : Dev :=
  let d := ((d.slotWr n k .TLL_RXSLOT_STATE 1).add (.tll n) (Fld.nth .TLL_HDRCNT_RELOCK k) 1).setEvt (.tll n) 24
  d.setRxs n k { d.rxs n k with cand := false, deliver := false, cur := [], dis := 0, noAgree := 0 }

/-- A frame without an agreeing header in a LOCKED slot; `dis` is the run of disagreeing ones. -/
def Dev.slotMiss (d : Dev) (n k dis : Nat) : Dev :=
  let s := d.rxs n k
  let d := d.setRxs n k { s with dis := dis, noAgree := s.noAgree + 1 }
  if 3 ≤ dis || 8 ≤ s.noAgree + 1 then d.slotRelock n k else d

/-- A slot's header brick is judged (R239). -/
def Dev.headerBrick (d : Dev) (n k : Nat) (p : Payload) : Dev :=
  let s := d.rxs n k
  let locked := d.slotRd n k .TLL_RXSLOT_STATE == 2
  if headerBad p then
    let d := d.add (.tll n) (Fld.nth .TLL_HDRCNT_CRC_ERR k) 1
    if locked then d.slotMiss n k 0 else d.setRxs n k { s with cand := false }
  else
    let h := headerOf p
    if locked then
      if d.headerAgrees n k h then d.setRxs n k { s with dis := 0, noAgree := 0 }
      else (d.add (.tll n) (Fld.nth .TLL_HDRCNT_MISMATCH k) 1).slotMiss n k (s.dis + 1)
    else if s.cand && d.headerAgrees n k h then
      (d.slotWr n k .TLL_RXSLOT_STATE 2).setRxs n k { s with cand := false, dis := 0, noAgree := 0 }
    else
      let d := if s.cand || d.thirdAudio n k h then d.add (.tll n) (Fld.nth .TLL_HDRCNT_MISMATCH k) 1 else d
      if d.thirdAudio n k h then d.setRxs n k { s with cand := false } else d.slotTake n k h

/-- HEADER_BRICK_RECEIVED: the header brick that slot `k` received in row 0 is judged, and the bricks behind it go on. -/
def Dev.headerReceived (d : Dev) (n k sub : Nat) (late : Bool) : Dev :=
  match (d.rxs n k).hdr, d.slotRd n k .TLL_RXSLOT_STATE with
  | some b, st => if st == 0 then d else ((d.headerBrick n k b.payload).tlSettle n).slotFlush n k sub late
  | none, _ => d

/-! ### Blocks and rows (R115, R116, R224, R227) -/

/-- Loss of sync of a Tile Link framer (R116). -/
def Dev.tlLoss (d : Dev) (n back : Nat) : Dev :=
  let d := (d.inc (.tll n) .TLL_FRMCNT_LOSS_CNT).setEvt (.tll n) 13
  (d.setFrm (144 + n) back).tlSettle n

/-- Frame hunt begins again (R115). -/
def Dev.tlHunt (d : Dev) (n : Nat) : Dev :=
  (d.setFrm (144 + n) 2).setFramer (144 + n) { d.framer (144 + n) with markerRun := 0, markerMiss := 0, rowBad := 0, blockIdx := 0 }

/-- The sync header of a block drives block lock (R115): 64 valid ones in a row at one bit phase, which slips by a bit after each failure; lost with 16
invalid ones in a run of 64. -/
def Dev.tlHeader (d : Dev) (n : Nat) (valid : Bool) : Dev :=
  let i := d.framer (144 + n)
  let d := if valid then d else d.inc (.tll n) .TLL_HDRERR_COUNT
  if !(d.on (.tll n) .TLL_FRMSTAT_BLOCK_LOCK) then
    if !valid then d.setFramer (144 + n) { i with hdrRun := 0, phase := (i.phase + 1) % 66 }
    else if i.hdrRun + 1 < 64 then d.setFramer (144 + n) { i with hdrRun := i.hdrRun + 1 }
    else (d.setFramer (144 + n) { i with hdrRun := 0, hdrLast := [] }).wr (.tll n) .TLL_FRMSTAT_BLOCK_LOCK 1 |>.tlHunt n
  else
    let last := valid :: i.hdrLast
    if 16 ≤ (last.filter (fun b => !b)).length then
      let d := (d.setFramer (144 + n) { i with hdrRun := 0, hdrLast := [] }).wr (.tll n) .TLL_FRMSTAT_BLOCK_LOCK 0
      if d.delivers (144 + n) then d.tlLoss n 1 else d.setFrm (144 + n) 1
    else d.setFramer (144 + n) { i with hdrLast := if last.length == 64 then [] else last }

/-- A data block in FRAME_SYNC (Table 10.1): its share of the BIP-32, the JCW, and the slots' bricks. -/
def Dev.tlData (d : Dev) (n pos sub : Nat) (late : Bool) (b : BitVec 64) : Dev :=
  let blk := pos % 402
  if blk == 0 then d
  else
    let r := d.tlr n
    let d := d.setTlr n { r with bip := r.bip ^^^ foldBlock b, jcw := if blk == 1 then b else r.jcw }
    let d := if blk == 1 then d
      else
        let bs := (d.tlr n).slotBlocks ++ [b]
        if (blk - 2) % 25 == 24 then
          (d.setTlr n { d.tlr n with slotBlocks := [] }).slotRow n ((blk - 2) / 25) (pos / 402) sub late bs
        else d.setTlr n { d.tlr n with slotBlocks := bs }
    if pos + 1 == tlFrameBlocks then d.setTlr n { d.tlr n with bipPrev := some (d.tlr n).bip, bip := 0 } else d

/-- A 66-bit block at the framer's bit phase, from the bits of the link since its place at phase 0: sync header and payload, bit 0 first (R115, R224). -/
def Dev.tlBlock (d : Dev) (n : Nat) (bits : BitVec 132) (sub : Nat) (late : Bool) : Dev :=
  let l := 144 + n
  if d.frmState l == 0 then d
  else
    let cut := bits >>> (d.framer l).phase
    let sync := cut.extractLsb' 0 2
    let payload := cut.extractLsb' 2 64
    let d := d.tlHeader n (sync == 0b01 || sync == 0b10)
    if !(d.on (.tll n) .TLL_FRMSTAT_BLOCK_LOCK) then d
    else
      let i := d.framer l
      let x := descramble i.scram payload
      let d := d.setFramer l { i with scram := x.2, blockIdx := (i.blockIdx + 1) % tlFrameBlocks }
      let d := d.setTlr n { d.tlr n with sync := sync, block := x.1, pos := i.blockIdx }
      if d.delivers l then d.tlData n i.blockIdx sub late x.1 else d

/-- FRAME_SYNC is entered: the slots hunt (R115, Table 10.6), and a trace is accepted from consecutive frames within it (R231). -/
def Dev.tlSync (d : Dev) (n : Nat) : Dev :=
  let d := (d.setFrm (144 + n) 4).setEvt (.tll n) 12
  let d := d.setTlr n { d.tlr n with bip := 0, bipPrev := none, slotBlocks := [], slots := [], cc := none, traceRun := 0 }
  ((List.range 16).foldl (fun e k => e.slotWr n k .TLL_RXSLOT_STATE 1) d).tlSettle n

/-- The block at a row's start, in FRAME_SYNC (R116, R233). -/
def Dev.tlSyncRow (d : Dev) (n row : Nat) : Dev :=
  let r := d.tlr n
  let i := d.framer (144 + n)
  let ok := rowConsistent r.sync r.block row
  let d := d.setTlr n { r with rowOk := ok }
  let d := if ok then d else d.inc (.tll n) .TLL_ROWERR_COUNT
  let d := if !ok && 8 ≤ row then d.ccAbort n else d
  let miss := if row != 0 then i.markerMiss else if isMarker r.sync r.block then 0 else i.markerMiss + 1
  let bad := if ok then 0 else i.rowBad + 1
  let d := d.setFramer (144 + n) { i with markerMiss := miss, rowBad := bad }
  if 2 ≤ miss || 4 ≤ bad then
    let d := d.tlLoss n 2
    d.setFramer (144 + n) { d.framer (144 + n) with markerRun := 0, markerMiss := 0, rowBad := 0, blockIdx := 0 }
  else d

/-- TL_ROW_OVERHEAD: the last block as a row's overhead (R115, R116, R227). -/
def Dev.tlRow (d : Dev) (n : Nat) : Dev :=
  let l := 144 + n
  let r := d.tlr n
  let i := d.framer l
  match d.frmState l with
  | 2 =>
    if isMarker r.sync r.block then
      (d.setFrm l 3).setFramer l { i with markerRun := 1, markerMiss := 0, rowBad := 0, blockIdx := 1 }
    else d
  | 3 =>
    if r.pos == 0 then
      if !(isMarker r.sync r.block) then d.tlHunt n
      else if 3 ≤ i.markerRun + 1 then d.tlSync n
      else d.setFramer l { i with markerRun := i.markerRun + 1 }
    else if isMarker r.sync r.block then ((d.inc (.tll n) .TLL_FRMCNT_AMBIG_CNT).setEvt (.tll n) 14).tlHunt n
    else if r.pos % 402 == 0 && !(rowConsistent r.sync r.block (r.pos / 402)) then d.tlHunt n
    else d
  | 4 => if r.pos % 402 == 0 then d.tlSyncRow n (r.pos / 402) else d
  | _ => d

/-! ### Overhead (R228 to R231) -/

/-- The lane holds the overhead of row `row` in FRAME_SYNC. -/
def Dev.tlAt (d : Dev) (n row : Nat) : Bool := d.delivers (144 + n) && (d.tlr n).pos == 402 * row

/-- TL_BIP_RECEIVED: row 2 against the BIP-32 of the frame before (R228). -/
def Dev.tlBip (d : Dev) (n : Nat) : Dev :=
  let r := d.tlr n
  match r.bipPrev, d.tlAt n 2 with
  | some b, true =>
    let got : BitVec 32 := BitVec.ofNat 32 (blockByte r.block 1 * 2 ^ 24 + blockByte r.block 2 * 2 ^ 16 + blockByte r.block 3 * 2 ^ 8 +
      blockByte r.block 4)
    let k := bitCount (got ^^^ b)
    let d := (d.add (.tll n) .TLL_BIPCNT_COUNT k).setTlr n { r with rei := k, bipPrev := none }
    let q := d.pmOf (144 + n)
    d.setPm (144 + n) { q with units := q.units + 1, err := if k == 0 then q.err else q.err + 1 }
  | _, _ => d

/-- TL_SRQ_RECEIVED: row 3's pair, or a frame without one, against those of the two frames before (R229). -/
def Dev.tlSrq (d : Dev) (n : Nat) : Dev :=
  let r := d.tlr n
  let p := Page.tll n
  let now := if d.tlAt n 3 && r.rowOk then some (blockByte r.block 1 * 256 + blockByte r.block 2) else none
  let d := match now with
    | some x => (d.wr p .TLL_OH_RX_SRQ1_RAW (x / 256)).wr p .TLL_OH_RX_SRQ2_RAW (x % 256)
    | none => d
  let run := match now with
    | some x => r.srqPrev == [some x, some x]
    | none => false
  let d := d.setTlr n { r with srqPrev := (now :: r.srqPrev).take 2, srqRun := if run then 0 else r.srqRun + 1 }
  match now, run with
  | some x, true =>
    let changed := d.rd p .TLL_OH_RX_SRQ1_ACC != x / 256 || d.rd p .TLL_OH_RX_SRQ2_ACC != x % 256
    let d := ((d.wr p .TLL_OH_RX_SRQ1_ACC (x / 256)).wr p .TLL_OH_RX_SRQ2_ACC (x % 256)).wrOn p .TLL_OH_STAT_SRQ_FAIL false
    (d.setEvtIf changed p 27).tlSettle n
  | _, _ =>
    if 12 ≤ r.srqRun + 1 && !(d.on p .TLL_OH_STAT_SRQ_FAIL) then
      ((d.wrOn p .TLL_OH_STAT_SRQ_FAIL true).setEvt p 28).tlSettle n
    else d

/-- TL_RDI_REI_RECEIVED: row 4 (R230). -/
def Dev.tlRdi (d : Dev) (n : Nat) : Dev :=
  let r := d.tlr n
  let p := Page.tll n
  if !(d.tlAt n 4) then d
  else
    let rdi := blockByte r.block 1 % 2 == 1
    let run := if rdi == r.rdiLast then r.rdiRun + 1 else 1
    let d := (d.setTlr n { r with rdiLast := rdi, rdiRun := run }).add p .TLL_REICNT_COUNT (blockByte r.block 2)
    if 3 ≤ run && d.on p .TLL_OH_STAT_RDI_RX != rdi then ((d.wrOn p .TLL_OH_STAT_RDI_RX rdi).setEvtIf rdi p 26).tlSettle n else d

/-- TIM follows the accepted and the expected trace while TRACE_CHK = 1 (R231). -/
def Dev.timSettle (d : Dev) (n : Nat) : Dev :=
  let p := Page.tll n
  if !(d.on p .TLL_OH_CFG_TRACE_CHK && (d.tlr n).traceOk) then d
  else
    let tim := d.reg (regKey p 0 0x2E8) != d.reg (regKey p 0 0x2F0) || d.reg (regKey p 0 0x2EC) != d.reg (regKey p 0 0x2F4)
    if tim == d.on p .TLL_OH_STAT_TIM then d else ((d.wrOn p .TLL_OH_STAT_TIM tim).setEvtIf tim p 29).tlSettle n

/-- TL_TRACE_RECEIVED: row 1 (R231). -/
def Dev.tlTrace (d : Dev) (n : Nat) : Dev :=
  let r := d.tlr n
  let p := Page.tll n
  if !(d.tlAt n 1) then d
  else
    let x := (List.range 7).foldl (fun a i => a * 256 + blockByte r.block (i + 1)) 0
    let run := if x == r.trace && r.traceRun != 0 then r.traceRun + 1 else 1
    let d := d.setTlr n { r with trace := x, traceRun := run }
    if run < 3 then d
    else
      let d := (d.wr p .TLL_TRACE_RX0_ID_LO (x / 256)).wr p .TLL_TRACE_RX1_LANE x
      ((d.wr p .TLL_TRACE_RX1_ID_HI (x / 2 ^ 40)).setTlr n { d.tlr n with traceOk := true }).timSettle n

/-! ### Communication channel (R232, R233) -/

/-- The CRC-32 of bytes: polynomial, initial value and bit order of R200. -/
def crc32Bytes (bs : List Byte) : BitVec 32 :=
  bs.foldl (fun c b => (List.range 8).foldl (fun a i => crc32Bit a (b.getLsbD i)) c) 0xFFFFFFFF

/-- The four bytes of a CRC-32, most significant first. -/
def crcTail (c : BitVec 32) : List Byte := [c.extractLsb' 24 8, c.extractLsb' 16 8, c.extractLsb' 8 8, c.extractLsb' 0 8]

/-- Bytes as queue words, byte 0 lowest. -/
def bytesWords : Nat → List Byte → List Word
  | 0, _ => []
  | fuel + 1, bs => if bs.isEmpty then [] else bytesWord (bs.take 4 ++ [0, 0, 0]) :: bytesWords fuel (bs.drop 4)

/-- A packet of the channel ends (R233). -/
def Dev.ccEnd (d : Dev) (n : Nat) (bs : List Byte) : Dev :=
  let p := Page.tll n
  let body := bs.take (bs.length - 4)
  let d := d.setTlr n { d.tlr n with cc := none }
  if bs.length < 4 || crcTail (crc32Bytes body) != bs.drop (bs.length - 4) then (d.inc p .TLL_CC_RXCNT_CRC_ERR).setEvt p 30
  else (d.inc p .TLL_CC_RXCNT_RX_OK).queuePut (d.rd p .TLL_CC_CFG_RXQ) (bytesWords (body.length + 1) body) (body.length % 4) |>.1

/-- CC_SEGMENT_RECEIVED: the segment of the row's overhead (R233). -/
def Dev.ccSegment (d : Dev) (n : Nat) : Dev :=
  let r := d.tlr n
  let row := r.pos / 402
  if !(d.delivers (144 + n) && r.pos % 402 == 0 && 8 ≤ row && r.rowOk && d.on (.tll n) .TLL_CC_CFG_ENABLE) then d
  else
    let c := blockByte r.block 1
    if c == 0 then d
    else
      let sop := c.testBit 7
      let data := (List.range (min 6 (c % 8))).map (fun i => BitVec.ofNat 8 (blockByte r.block (2 + i)))
      let d := if sop then d.ccAbort n else d
      match (if sop then some [] else r.cc) with
      | none => d
      | some bs =>
        let bs := bs ++ data
        let d := d.setTlr n { d.tlr n with cc := some bs }
        if 4100 < bs.length then d.ccAbort n else if c.testBit 6 then d.ccEnd n bs else d

/-- The segments of a packet's bytes (R232). -/
def ccSegs : Nat → Bool → List Byte → List CcSeg
  | 0, _, _ => []
  | fuel + 1, first, bs =>
    let now := bs.take 6
    let rest := bs.drop 6
    { ctl := BitVec.ofNat 8 ((if first then 128 else 0) + (if rest.isEmpty then 64 else 0) + now.length), bytes := now } ::
      (if rest.isEmpty then [] else ccSegs fuel false rest)

/-- CC_PACKET_TRANSMIT: a whole packet is taken from TXQ when none is being sent (R232). -/
def Dev.ccTransmit (d : Dev) (n : Nat) : Dev :=
  let p := Page.tll n
  let q := d.rd p .TLL_CC_CFG_TXQ
  if !(d.on p .TLL_CC_CFG_ENABLE && d.rd p .TLL_LSTAT_TX_STATE == 2 && (d.tlt n).queue.isEmpty) then d
  else match d.readPoint q with
    | none => d
    | some _ =>
      let x := Dev.takePkt 65536 d q [] false false
      let bytes := ((x.2.1.flatMap wordBytes)).take (pktBytes x.2.1.length x.2.2.2.2)
      if 4096 < bytes.length then x.1.inc p .TLL_CC_ERRCNT_TX_LONG
      else
        let all := bytes ++ crcTail (crc32Bytes bytes)
        x.1.setTlt n { x.1.tlt n with queue := ccSegs (all.length + 1) true all }

/-! ### Justification (R235) -/

/-- The decision of a received code: J, and whether it was corrected; none where two bits differ from both codes. -/
def jcwCode (c : Nat) : Option (Bool × Bool) :=
  match bitCount (BitVec.ofNat 32 (c ^^^ 12)) with
  | 0 => some (true, false)
  | 1 => some (true, true)
  | 3 => some (false, true)
  | 4 => some (false, false)
  | _ => none

/-- JCW_RECEIVED: the row's justification control word is decoded, slot by slot (R235). -/
def Dev.jcwReceived (d : Dev) (n : Nat) : Dev :=
  let r := d.tlr n
  if !(d.delivers (144 + n) && r.pos % 402 == 1) then d
  else (List.range 16).foldl (fun e k =>
    match jcwCode (r.jcw.toNat / 16 ^ k % 16) with
    | some (j, fixed) =>
      let e := if fixed then e.inc (.tll n) .TLL_JCWCNT_CORR else e
      e.setRxs n k { e.rxs n k with j := j }
    | none => (e.inc (.tll n) .TLL_JCWCNT_UNCORR).setEvt (.tll n) 25) d

/-! ### The transmitter (R226 to R232, R234 to R245) -/

/-- A transmit slot's state beyond its registers. -/
def Dev.txs (d : Dev) (n k : Nat) : TxSlotI := Map.get (fun _ => {}) (d.tlt n).slots k
/-- Write it. -/
def Dev.setTxs (d : Dev) (n k : Nat) (v : TxSlotI) : Dev :=
  d.setTlt n { d.tlt n with slots := Map.put (fun _ => {}) (d.tlt n).slots k v }

/-- A field of a transmit slot in force. -/
def Dev.txf (d : Dev) (n k : Nat) (f : Fld) : Nat := d.txSlot (1152 + 16 * n + k) f

/-- Eight times B of the tile a transmit slot sends. -/
def Dev.txOct (d : Dev) (n k : Nat) : Nat :=
  let ty := d.txf n k .TLL_TXSLOT_TYPE
  linesOct ty (d.txf n k .TLL_TXSLOT_PATTERN)
    (if ty == 3 then d.txf n k .TLL_TXSLOT_PKT204 + 1 else d.domFmt (d.txf n k .TLL_TXSLOT_TDOM))

/-- The position in the line stream after `m` data bricks have been sent. -/
def TxSlotI.sent (oct total : Nat) : Nat → Nat → TxSlotI → TxSlotI
  | 0, _, s => s
  | fuel + 1, m, s =>
    if m ≤ s.left then { s with left := s.left - m }
    else
      TxSlotI.sent oct total fuel (m - s.left)
        { s with left := lineLen oct s.seq, seq := (s.seq + 1) % 8, line := if total == 0 then 0 else s.line % total + 1 }

/-- The bricks of a data tile's packet slot (R243): a packet's, or an empty slot. -/
def dataSlot (n : Nat) (p : List Brick) : List Payload := (List.range n).map (fun i => (p.getD i {}).payload)

/-- At least 959 bricks of a data tile, from what waits and its packets. -/
def dataFill : Nat → Nat → TxSlotI → TxSlotI
  | 0, _, s => s
  | fuel + 1, n, s =>
    if 959 ≤ s.bricks.length then s
    else match s.packets with
      | [] => dataFill fuel n { s with bricks := s.bricks ++ dataSlot n [] }
      | p :: ps => dataFill fuel n { s with bricks := s.bricks ++ dataSlot n p, packets := ps }

/-- The ten positions of a slot's row and its J (R234): the header brick in row 0, fixed positions, and the justification opportunity. Positions for which
no brick waits are all zeros. -/
def txRow (row : Nat) (head : Payload) (wait : List Payload) (j : Bool) : List Payload × Bool :=
  let f := if row == 0 then 8 else 9
  ((if row == 0 then [head] else []) ++ (List.range f).map (fun i => wait.getD i 0) ++ [if j then wait.getD f 0 else 0], j)

/-- The rows of a slot from row `row` on (R236): J is 1 in a row in which a brick waits beyond those that the fixed positions take, and always on a data
slot. The tile's own timing has produced the frame's bricks evenly over its rows (DESIGN CHOICE, log 122); `sent` of `total` have been sent. -/
def txRows (head : Payload) (isData : Bool) (total : Nat) : Nat → Nat → Nat → List Payload → List (List Payload × Bool)
  | 0, _, _, _ => []
  | fuel + 1, row, sent, bricks =>
    let f := if row == 0 then 8 else 9
    let made := if isData then total else (row + 1) * total / 96
    let j := isData || f < made - sent
    let m := min (made - sent) (f + (if j then 1 else 0))
    txRow row head (bricks.take m) j :: txRows head isData total fuel (row + 1) (sent + m) (bricks.drop m)

/-- The data bricks that rows carried. -/
def txSent (isData : Bool) (total : Nat) : Nat → Nat → Nat → Nat
  | 0, _, sent => sent
  | fuel + 1, row, sent =>
    let f := if row == 0 then 8 else 9
    let made := if isData then total else (row + 1) * total / 96
    txSent isData total fuel (row + 1) (sent + min (made - sent) (f + (if isData || f < made - sent then 1 else 0)))

/-- What slot `k` sent in the frame that ends, row by row, and the slot after it (R234, R236); a slot without a line stream sends EMPTY. -/
def Dev.txFinish (d : Dev) (n k : Nat) : Dev × List (List Payload × Bool) :=
  let ty := d.txf n k .TLL_TXSLOT_TYPE
  let oct := d.txOct n k
  let head := (((d.tlt n).headers.getD k {}) : Brick).payload
  if ty == 0 || oct == 0 then (d, txRows head false 0 96 0 0 [])
  else
    let s := if ty == 3 then dataFill 200 (oct / 8) (d.txs n k) else d.txs n k
    let have' := s.bricks.length
    let m := txSent (ty == 3) have' 96 0 0
    let total := if ty == 1 then fmtLines (d.domFmt (d.txf n k .TLL_TXSLOT_TDOM)) else 0
    let t := TxSlotI.sent oct total 400 m { s with bricks := s.bricks.drop m }
    ((d.setTxs n k t).bwAdd (304 + n) (if ty == 2 then 20 * m else 0), txRows head (ty == 3) have' 96 0 0 s.bricks)

/-- The row byte (R227): the row number, with odd parity. -/
def rowByte (row : Nat) : Nat := if oddByte row then row else row + 128

/-- A block's payload from its bytes, byte 0 in the low bits. -/
def bytesBlock (bs : List Nat) : BitVec 64 := BitVec.ofNat 64 (bs.zipIdx.foldl (fun a e => a + e.1 % 256 * 256 ^ e.2) 0)

/-- The payload of a row's block 0 (Table 10.2). -/
def TlTxI.overhead (t : TlTxI) (row : Nat) : BitVec 64 :=
  let be := fun (x w : Nat) => (List.range w).map (fun i => x / 256 ^ (w - 1 - i) % 256)
  match row with
  | 0 => tlMarker
  | 1 => bytesBlock (rowByte 1 :: be t.trace.toNat 7)
  | 2 => bytesBlock (rowByte 2 :: be t.sentBip.toNat 4)
  | 3 => bytesBlock [rowByte 3, t.srq1, t.srq2]
  | 4 => bytesBlock [rowByte 4, if t.rdi then 1 else 0, t.rei]
  | _ =>
    match t.segs[row - 8]? with
    | some g => if row < 8 then bytesBlock [rowByte row] else bytesBlock (rowByte row :: g.ctl.toNat :: g.bytes.map (·.toNat))
    | none => bytesBlock [rowByte row]

/-- The justification control word of a row (R235), from each slot's J. -/
def jcwOf (js : List Bool) : BitVec 64 := BitVec.ofNat 64 (js.zipIdx.foldl (fun a e => a + (if e.1 then 12 else 3) * 16 ^ e.2) 0)

/-- The 402 blocks of a row before scrambling (Table 10.1). -/
def TlTxI.rowBlocks (t : TlTxI) (slots : List (List (List Payload × Bool))) (row : Nat) : List (BitVec 2 × BitVec 64) :=
  let rs := slots.map (fun s => s.getD row ([], false))
  (0b10#2, t.overhead row) :: (0b01#2, jcwOf (rs.map (·.2))) :: (rs.flatMap (fun r => bricksBlocks r.1)).map (fun b => (0b01#2, b))

/-- The BIP-32 of a row: blocks 1 to 401 (R228). -/
def rowBip (bs : List (BitVec 2 × BitVec 64)) : BitVec 32 := (bs.drop 1).foldl (fun a b => a ^^^ foldBlock b.2) 0

/-- Blocks as sent: the payloads scrambled without a break, the sync headers plain (R224). -/
def scrambleBlocks (h : BitVec 58) : List (BitVec 2 × BitVec 64) → List (BitVec 2 × BitVec 64) × BitVec 58
  | [] => ([], h)
  | b :: bs =>
    let x := scramble h b.2
    let y := scrambleBlocks x.2 bs
    ((b.1, x.1) :: y.1, y.2)

/-- The frame that ends: its 96 rows as sent, and its BIP-32 (R223, R224, R228). -/
def TlTxI.sendFrame (t : TlTxI) (slots : List (List (List Payload × Bool))) : TlTxI :=
  let rows := (List.range 96).map (t.rowBlocks slots)
  let x := scrambleBlocks t.scram rows.flatten
  { t with frame := x.1, scram := x.2, bip := rows.foldl (fun a r => a ^^^ rowBip r) 0 }

/-- A TXSLOT write takes effect, and the line count restarts (R244). -/
def Dev.txApply (d : Dev) (n k : Nat) : Dev :=
  let off := 0x200 + 4 * k
  let d := d.setReg (regKey (.tll n) 1 off) (d.reg (regKey (.tll n) 0 off))
  let dom := d.txf n k .TLL_TXSLOT_TDOM
  d.setTxs n k { line := (d.dom dom).line % max 1 (fmtLines (d.domFmt dom)) + 1 }

/-- The header that slot `k` sends in the frame that starts (R237); a VIDEO slot of a domain without a format sends EMPTY (R413). -/
def Dev.txHeader (d : Dev) (n k : Nat) : Header :=
  let ty := if d.txOct n k == 0 then 0 else d.txf n k .TLL_TXSLOT_TYPE
  let s := d.txs n k
  let id := d.txf n k .TLL_TXSLOT_TILE_ID
  match ty with
  | 0 => ⟨0, 0, 0, 0, 0, id, 0, 0⟩
  | 1 => ⟨1, d.domFmt (d.txf n k .TLL_TXSLOT_TDOM), d.txf n k .TLL_TXSLOT_PATTERN, d.txf n k .TLL_TXSLOT_MEMBER, s.seq, id, s.line, s.left⟩
  | 2 => ⟨2, 0, 0, 0, s.seq, id, 0, s.left⟩
  | _ => ⟨3, d.txf n k .TLL_TXSLOT_PKT204 + 1, 8, 0, s.seq, id, 0, s.left⟩

/-- The TL_PAIR group that a lane belongs to, enabled. -/
def Dev.pairGroup (d : Dev) (n : Nat) : Option Nat :=
  if !(d.enabled .prot) then none
  else (d.groups.find? (fun e => e.2.enabled && d.pg e.1 .PROT_PG_CFG_KIND == 1 &&
    (d.pg e.1 .PROT_PG_CFG_W_LEAD == n || d.pg e.1 .PROT_PG_CFG_P_LEAD == n))).map (·.1)

/-- SRQ1 and SRQ2 of a group (R267). -/
def Dev.groupSrq (d : Dev) (g : Nat) : Nat × Nat :=
  let s := d.group g
  let loc := d.localRequests g s (d.pg g .PROT_PG_STAT_EFF_MODE)
  let dnr := (loc.filter (fun r => 0 < r.code)).isEmpty && d.pg g .PROT_PG_STAT_STATE == 11
  let top := (loc ++ (if dnr then [(⟨1, 1, false⟩ : Request)] else [])).foldl Request.better (⟨0, 0, false⟩ : Request)
  let c := d.groupCond g
  let status := if d.pg g .PROT_PG_STAT_MISMATCH == 1 then 3 else if c.1 || c.2.2.1 then 2 else if c.2.1 || c.2.2.2 then 1 else 0
  (top.code * 16 + top.member, d.pg g .PROT_PG_STAT_SEL * 16 + d.pg g .PROT_PG_CFG_BIDIR * 4 + status)

/-- The SRQ bytes that a lane sends (R229). -/
def Dev.txSrq (d : Dev) (n : Nat) : Nat × Nat :=
  if d.on (.tll n) .TLL_OH_CFG_SRQ_SRC then (d.rd (.tll n) .TLL_OH_TX_SRQ1, d.rd (.tll n) .TLL_OH_TX_SRQ2)
  else match d.pairGroup n with
    | some g => d.groupSrq g
    | none => (0, 0)

/-- The frame in progress ends: its rows as sent. -/
def Dev.tlFrameEnd (d : Dev) (n : Nat) : Dev :=
  if !((d.tlt n).run) then d.setTlt n { d.tlt n with frame := [], bip := 0 }
  else
    let x := (List.range 16).foldl (fun (a : Dev × List (List (List Payload × Bool))) k =>
      let y := a.1.txFinish n k
      (y.1, a.2 ++ [y.2])) (d, [])
    x.1.setTlt n ((x.1.tlt n).sendFrame x.2)

/-- TL_FRAME_TRANSMIT: the frame in progress ends; TXSLOT writes take effect; and the next frame starts with its headers and overhead (R223 to R237). -/
def Dev.tlFrame (d : Dev) (n : Nat) : Dev :=
  let p := Page.tll n
  let running := d.rd p .TLL_LSTAT_TX_STATE == 2
  let d := d.tlFrameEnd n
  let d := (d.tlt n).waiting.foldl (fun e k => e.txApply n k) d
  let t := { d.tlt n with waiting := [], run := running, headers := [], segs := [] }
  if !running then (d.setTlt n t).outSettle.dataSettle
  else
    let hs := (List.range 16).map (fun k => headBrick (d.txHeader n k).payload)
    let rdi := !(d.delivers (144 + n)) || d.on p .TLL_OH_CFG_RDI_FORCE
    let srq := d.txSrq n
    let trace : BitVec 56 := BitVec.ofNat 56 (d.rd p .TLL_TRACE_TX1_ID_HI * 2 ^ 40 + d.rd p .TLL_TRACE_TX0_ID_LO * 256 +
      d.rd p .TLL_TRACE_TX1_LANE)
    let t := { t with
      headers := hs, sentBip := t.bip, srq1 := srq.1, srq2 := srq.2, rdi := rdi
      rei := (d.tlr n).rei, trace := trace, segs := t.queue.take 88, queue := t.queue.drop 88 }
    ((d.wrOn p .TLL_OH_STAT_RDI_TX rdi).setTlt n t).outSettle.dataSettle

/-- The ancillary area of a video line: records placed whole, those that do not fit dropped and counted, and a word of 0 if room remains
(R241). -/
def Dev.tlArea (d : Dev) (n t room : Nat) (rs : List (Nat × PktRec)) : Dev × List Word :=
  let x := rs.foldl (fun (a : Dev × List Word) r =>
    if r.2.did == 0 then a
    else if a.2.length + r.2.words.length ≤ room then (a.1.bwAdd (304 + n) (4 * r.2.words.length), a.2 ++ r.2.words)
    else (a.1.ancDrop (2 * t + r.1) false, a.2)) (d, [])
  (x.1, x.2 ++ List.replicate (room - x.2.length) 0)

/-- The records that a Tile Link output tile selects in a course, horizontal then vertical, by class and order of arrival (R241). -/
def Dev.tlRecs (d : Dev) (t line : Nat) (items : List LateItem) : Dev × List (Nat × PktRec) :=
  [0, 1].foldl (fun (a : Dev × List (Nat × PktRec)) kind =>
    let x := a.1.ancWallLate t kind items (a.1.ancSelect t kind line)
    let late := (x.2.filter (fun y => !(onTime y.2))).foldl (fun e y => e.recLost (2 * t + kind) true y.1) x.1
    let rs := (x.2.filter (fun y => onTime y.2)).map (·.1)
    (late, a.2 ++ ([0, 1, 2, 3].flatMap (fun c => rs.filter (fun r => late.outClass t r == c))).map (fun r => (kind, r)))) (d, [])

/-- A VIDEO slot produces the line of a course: its delivered bricks, then mortar positions with the ancillary area (R238, R245). -/
def Dev.tlCourse (d : Dev) (n k line : Nat) (items : List LateItem) : Dev :=
  let t := 1152 + 16 * n + k
  let oct := d.txOct n k
  if oct == 0 then d
  else
    let s := d.txs n k
    let len := lineLen oct s.made
    let ps := ((d.tc t).out.map (·.payload)).take len
    let x := d.tlRecs t line items
    let y := x.1.tlArea n t (5 * (len - ps.length)) x.2
    let mortar := (List.range (len - ps.length)).map (fun i =>
      (List.range 5).foldl (fun (a : Payload) j => a ||| ((y.2.getD (5 * i + j) 0).setWidth 160 <<< (32 * j))) 0)
    let d := y.1.bwAdd (304 + n) (20 * ps.length)
    d.setTxs n k { s with
      bricks := s.bricks ++ ps ++ mortar, made := (s.made + 1) % 8, line := if s.bricks.isEmpty && s.left == 0 then line else s.line }

/-- The AUDIO slots that a lane sends, lowest first (R242). -/
def Dev.txAudio (d : Dev) (n : Nat) : List Nat := (List.range 16).filter (fun k => d.txf n k .TLL_TXSLOT_TYPE == 2)

/-- A house sample period on the AUDIO slots of a running lane: 960 channels in 192 bricks (R242). -/
def Dev.tlAudioPeriod (d : Dev) (n : Nat) : Dev :=
  if d.rd (.tll n) .TLL_LSTAT_TX_STATE != 2 then d
  else (d.txAudio n).zipIdx.foldl (fun e x =>
    let s := e.txs n x.1
    let ps := (List.range 192).map (fun b => (List.range 5).foldl (fun (a : Payload) i =>
      a ||| ((e.outSlot (18432 + 1920 * n + 960 * x.2 + 5 * b + i)).setWidth 160 <<< (32 * i))) 0)
    e.setTxs n x.1 { s with bricks := s.bricks ++ ps }) d

/-! ### Writes -/

/-- The slots that a TXSLOT word at slot `k` takes: its bond (R244). -/
def txSlotBond (k : Nat) (v : Word) : List Nat :=
  if Fld.TLL_TXSLOT_TYPE.get v == 1 then (List.range (patternWidth (Fld.TLL_TXSLOT_PATTERN.get v))).map (k + ·) else [k]

/-- What rejects a write of TXSLOT[k] (R244). -/
def Dev.txslotRej (d : Dev) (n k : Nat) (old v : Word) : List Rej :=
  let ty := Fld.TLL_TXSLOT_TYPE.get v
  let pat := Fld.TLL_TXSLOT_PATTERN.get v
  let reg := fun j => d.reg (regKey (.tll n) 0 (0x200 + 4 * j))
  let mine := if Fld.TLL_TXSLOT_TYPE.get old == 1 then txSlotBond k old else [k]
  let others := (List.range 16).filter (fun j => j != k && Fld.TLL_TXSLOT_TYPE.get (reg j) == 2)
  rejIf (ty == 1 && k % patternWidth pat != 0) .range ++
    rejIf (Fld.TLL_TXSLOT_MEMB.get old == 1 ||
      (txSlotBond k v).any (fun j => !(mine.contains j) && Fld.TLL_TXSLOT_TYPE.get (reg j) != 0) ||
      (ty == 2 && 2 ≤ others.length) ||
      (ty == 1 && !(patternFmts pat (d.domFmt (Fld.TLL_TXSLOT_TDOM.get v))))) .state

/-- An accepted write of TXSLOT[k]: members taken and released; it waits for the frame start (R244). -/
def Dev.txslotAfter (d : Dev) (n k : Nat) (old : Word) : Dev :=
  let v := d.reg (regKey (.tll n) 0 (0x200 + 4 * k))
  let gone := (txSlotBond k old).filter (fun j => j != k && !((txSlotBond k v).contains j))
  let d := gone.foldl (fun e j => e.setReg (regKey (.tll n) 0 (0x200 + 4 * j)) (resetWord (regKey (.tll n) 0 (0x200 + 4 * j)))) d
  let d := ((txSlotBond k v).zipIdx.filter (fun x => x.2 != 0)).foldl (fun e x =>
    e.setReg (regKey (.tll n) 0 (0x200 + 4 * x.1)) (Fld.TLL_TXSLOT_MEMB.put (Fld.TLL_TXSLOT_MEMBER.put v x.2) 1)) d
  d.setTlt n { d.tlt n with waiting := ((d.tlt n).waiting ++ gone ++ txSlotBond k v).eraseDups }

/-- OHCTL.CNT_CLR (R116). -/
def Dev.ohCntClr (d : Dev) (n : Nat) : Dev :=
  ((List.range 16).map (0x280 + 4 * ·) ++ [0x2C0, 0x2D4, 0x2D8, 0x304, 0x308, 0x310]).foldl
    (fun e off => e.setReg (regKey (.tll n) 0 off) 0) d

/-- TLL.FRMCTL.CNT_CLR: FRMCNT, HDRERR and ROWERR to 0. -/
def Dev.tlFrmClr (d : Dev) (n : Nat) : Dev :=
  [0x064, 0x068, 0x06C].foldl (fun e off => e.setReg (regKey (.tll n) 0 off) 0) d

end Sys2Proof.Machine
end

