-- ==== Sys2Proof/Machine/Carriers.lean ====
section
/-! DEFINITION. The MADI and ASI framers (R112 to R114), MADI channels (R173) and transport packets (R124). -/

namespace Sys2Proof.Machine

/-! ### MADI (R112, R113, R173) -/

/-- The lane's framer is a MADI framer that runs. -/
def Dev.isMadi (d : Dev) (n : Nat) : Bool := d.rd (.lane n) .LANE_RXCFG_MODE == 9 && d.frmState n != 0

/-- A sync symbol at a 5-bit phase, `gap` data symbols after the one before (R112). -/
def Dev.madiSync (d : Dev) (n phase gap : Nat) : Dev :=
  let i := d.framer n
  if !(d.isMadi n && d.frmState n == 1) then d
  else
    let run := if i.syncRun != 0 && i.syncPhase == phase && gap % 8 == 0 then i.syncRun + 1 else 1
    let d := d.setFramer n { i with
      syncRun := if run < 3 then run else 0, syncPhase := phase, subCount := 0, indTimes := [], spacing := 0, badLast := [] }
    if run < 3 then d else d.setFrm n 2

/-- The frame rate matches `rate` within ±1 %: two frames lasted `ticks` XO ticks. -/
def rateNear (rate ticks : Nat) : Bool := 99 * rate * ticks ≤ 8000000000 && 8000000000 ≤ 101 * rate * ticks

/-- SUBFMT of a channel-0 spacing and the duration of two frames (R112); 0 where no row matches. -/
def madiFmt (c ticks : Nat) : Nat :=
  if c == 64 && rateNear 48000 ticks then 1
  else if c == 56 && rateNear 48000 ticks then 2
  else if c == 32 && rateNear 96000 ticks then 3
  else 0

/-- A channel's sample goes to slot `m` of the lane (R173). -/
def Dev.madiSlot (d : Dev) (n m sub : Nat) (w : Word) : Dev := (d.strmPart (32 * n + m / 4) (m % 4) sub w).bwAdd n 4

/-- The sample of channel `m` of the frame in progress is delivered in the layout of R173. -/
def Dev.madiSample (d : Dev) (n m sub : Nat) (w : Word) : Dev :=
  let i := d.framer n
  match d.rd (.lane n) .LANE_FRMSTAT_SUBFMT with
  | 1 => d.madiSlot n m sub w
  | 2 =>
    let d := d.madiSlot n m sub w
    if m == 55 then (List.range 8).foldl (fun e c => e.strmPart (32 * n + 14 + c / 4) (c % 4) sub 0) d else d
  | 3 =>
    if i.madiLate then (d.madiSlot n (2 * m) sub (i.madiHold.getD m 0)).madiSlot n (2 * m + 1) sub w
    else d.setFramer n { i with madiHold := i.madiHold ++ [w] }
  | _ => d

/-- A frame of the MADI lane ends: a unit of performance monitoring (Table 11.2), and at 96 kHz the other frame of a pair begins. -/
def Dev.madiFrame (d : Dev) (n : Nat) : Dev :=
  let i := d.framer n
  let q := d.pmOf n
  let d := d.setPm n { q with units := q.units + 1, err := if i.frameBad then q.err + 1 else q.err }
  let late := !i.madiLate && i.madiHold.length == 32
  d.setFramer n { i with frameBad := false, madiLate := late, madiHold := if late then i.madiHold else [] }

/-- A channel-0 indicator in FRAME_HUNT (R112): three of one spacing, with a rate of the table, give FRAME_SYNC. -/
def Dev.madiHunt (d : Dev) (n time : Nat) : Dev :=
  let i := d.framer n
  let c := i.subCount
  let same := i.indTimes.length == 2 && c == i.spacing
  let d' := d.setFramer n { i with indTimes := (time :: i.indTimes).take 2, spacing := if i.indTimes.isEmpty then 0 else c, subCount := 0 }
  if !same then d'
  else
    let f := madiFmt c (time - i.indTimes.getD 1 0)
    if f == 0 then (d'.wrOn (.lane n) .LANE_FRMSTAT_FMT_UNKNOWN true).setEvtIf (!(d.on (.lane n) .LANE_FRMSTAT_FMT_UNKNOWN)) (.lane n) 17
    else
      let d := ((d'.setFrm n 4).wr (.lane n) .LANE_FRMSTAT_SUBFMT f).wrOn (.lane n) .LANE_FRMSTAT_FMT_UNKNOWN false
      let d := d.setFramer n { d.framer n with
        wrongSpacing := 0, indLate := false, frameBad := false, madiLate := false, madiHold := [], badLast := [] }
      (d.setEvt (.lane n) 12).laneSettle n

/-- A wrong channel-0 spacing in FRAME_SYNC (R113). -/
def Dev.madiWrong (d : Dev) (n : Nat) : Dev :=
  let i := d.framer n
  if 2 ≤ i.wrongSpacing + 1 then
    (d.setFramer n { i with wrongSpacing := 0, indTimes := [], spacing := 0, subCount := 0 }).frmLoss n 2
  else d.setFramer n { i with wrongSpacing := i.wrongSpacing + 1 }

/-- The place of a subframe in the frame (R113): a frame ends at an indicator or at the count. An indicator that is absent at the count makes
one wrong spacing, and the late one after it begins the frame without a second. -/
def Dev.madiPlace (d : Dev) (n : Nat) (ind : Bool) : Dev :=
  let i := d.framer n
  let at' := fun (late : Bool) (e : Dev) => e.setFramer n { e.framer n with subCount := 0, indLate := late }
  if ind then
    if i.subCount == 0 then d
    else if i.subCount == i.spacing then at' false ((d.setFramer n { i with wrongSpacing := 0 }).madiFrame n)
    else if i.indLate then at' false d
    else at' false ((d.madiFrame n).madiWrong n)
  else if i.subCount == i.spacing then at' true ((d.madiFrame n).madiWrong n)
  else d

/-- The 5B codes of a subframe (R113): 8 invalid ones among the last 64 lose sync. -/
def Dev.madiCodes (d : Dev) (n : Nat) (valid : List Bool) : Dev :=
  let i := d.framer n
  let bad := (valid.filter (fun b => !b)).length
  let last := (valid.reverse ++ i.badLast).take 64
  let d := (d.add (.lane n) .LANE_TRSERR_COUNT bad).setFramer n { i with badLast := last }
  if 8 ≤ (last.filter (fun b => !b)).length then (d.setFramer n { i with badLast := [], syncRun := 0 }).frmLoss n 1 else d

/-- A subframe's even parity fails: the lane counts it (R113), and the audio counts it with its event (R173). -/
def Dev.madiParity (d : Dev) (n : Nat) : Dev :=
  ((d.inc (.lane n) .LANE_LINEERR_COUNT).addEvt (.lane n) .LANE_AUDERR_PARITY 1 25).setFramer n { d.framer n with frameBad := true }

/-- MADI_SUBFRAME (R112, R113): the indicator, the parity, the brick that the subframe makes, whether its eight 5B codes are valid, the XO
tick, and the sixteenths of the house sample period. -/
def Dev.madiSubframe (d : Dev) (n : Nat) (ind parityOk : Bool) (sample : Word) (valid : List Bool) (time sub : Nat) : Dev :=
  if !(d.isMadi n) then d
  else
    let d := if d.frmState n == 2 && ind then d.madiHunt n time else d
    let d := if d.frmState n == 4 then d.madiCodes n valid else d
    let d := if d.frmState n == 4 then d.madiPlace n ind else d
    let d :=
      if d.frmState n == 4 then
        let d := if parityOk then d else d.madiParity n
        d.madiSample n (d.framer n).subCount sub (sample &&& 0xFFFFFFFC#32)
      else d
    d.setFramer n { d.framer n with subCount := (d.framer n).subCount + 1 }

/-- MADI_SYNC_TIMEOUT: no sync symbol for 4 frame periods (R113). -/
def Dev.madiTimeout (d : Dev) (n : Nat) : Dev :=
  if d.isMadi n && d.frmState n == 4 then (d.setFramer n { d.framer n with syncRun := 0 }).frmLoss n 1 else d

/-! ### ASI (R114, R124) -/

/-- The lane's framer is an ASI framer that runs. -/
def Dev.isAsi (d : Dev) (n : Nat) : Bool := d.rd (.lane n) .LANE_RXCFG_MODE == 10 && d.frmState n != 0

/-- What follows a change of an ASI lane's framer. -/
def Dev.asiSettle (d : Dev) (n : Nat) : Dev := (d.laneSettle n).dataSettle

/-- A character, valid or not, in PKT_HUNT or PKT_SYNC: TRSERR counts the invalid ones, and 16 of them among the last 64 lose alignment. -/
def Dev.asiCount (d : Dev) (n : Nat) (ok : Bool) : Dev :=
  let i := d.framer n
  let d := if ok then d else d.inc (.lane n) .LANE_TRSERR_COUNT
  let last := (ok :: i.badLast).take 64
  if 16 ≤ (last.filter (fun b => !b)).length then
    ((d.setFramer n { i with badLast := [], commaPhase := none, pktRun := 0, pktMissing := 0 }).frmLoss n 1).dataSettle
  else d.setFramer n { i with badLast := last }

/-- ASI_CHARACTER (R114). -/
def Dev.asiChar (d : Dev) (n : Nat) (c : AsiChar) : Dev :=
  if !(d.isAsi n) then d
  else if d.frmState n == 1 then
    match c with
    | .comma p => (d.setFramer n { d.framer n with commaPhase := some p.val, badLast := [], pktRun := 0 }).setFrm n 2
    | _ => d
  else
    d.asiCount n (match c with
      | .comma p => d.frmState n != 4 || (d.framer n).commaPhase == some p.val
      | .data _ => true
      | .invalid => false)

/-- FRMCFG.ASI_PKT admits a spacing. -/
def Dev.asiAdmits (d : Dev) (n spacing : Nat) : Bool :=
  let k := d.rd (.lane n) .LANE_FRMCFG_ASI_PKT
  (spacing == 188 && k != 2) || (spacing == 204 && k != 1)

/-- A packet from its sync byte onward passes to the lane's data tile, in bricks (R114, R124). -/
def Dev.asiPacket (d : Dev) (n : Nat) (packet : List Byte) : Dev :=
  if packet.length == (d.framer n).pktSpacing && packet.headD 0 == 0x47 then
    let bs := packetBricks packet
    (d.bwAdd n (20 * bs.length)).packetIn (8 * n) bs
  else d

/-- An 0x47 in PKT_HUNT, `spacing` data bytes after the one before. The packet that the third one begins passes: its sync byte enters
PKT_SYNC, so the whole packet is carried in it. -/
def Dev.asiHunt (d : Dev) (n spacing : Nat) (packet : List Byte) : Dev :=
  let i := d.framer n
  let ok := d.asiAdmits n spacing && i.pktRun != 0
  let run := if !ok then 1 else if i.pktRun == 1 || spacing == i.pktSpacing then i.pktRun + 1 else 2
  let d := d.setFramer n { i with pktRun := run, pktSpacing := spacing, pktMissing := 0 }
  if run < 3 then d
  else ((((d.setFrm n 4).wr (.lane n) .LANE_FRMSTAT_SUBFMT (if spacing == 188 then 1 else 2)).setEvt (.lane n) 12).asiSettle n).asiPacket n packet

/-- ASI_SYNC_BYTE: an expected 0x47 is found, with the packet that it begins, or is missing (R114, R124). -/
def Dev.asiSync (d : Dev) (n : Nat) (found : Bool) (spacing : Nat) (packet : List Byte) : Dev :=
  if !(d.isAsi n) then d
  else
    let i := d.framer n
    match d.frmState n with
    | 2 => if found then d.asiHunt n spacing packet else d.setFramer n { i with pktRun := 0 }
    | 4 =>
      let q := d.pmOf n
      let d := d.setPm n { q with units := q.units + 1, err := if found then q.err else q.err + 1 }
      if found then
        (d.setFramer n { i with pktMissing := 0 }).asiPacket n packet
      else
        let d := d.inc (.lane n) .LANE_LINEERR_COUNT
        if 4 ≤ i.pktMissing + 1 then ((d.setFramer n { i with pktMissing := 0, pktRun := 0 }).frmLoss n 2).dataSettle
        else d.setFramer n { i with pktMissing := i.pktMissing + 1 }
    | _ => d

end Sys2Proof.Machine
end

