-- ==== Sys2Proof/Machine/Course.lean ====
section
/-! DEFINITION. A course of a timing domain (R126, R175 to R203): commits at the switch line, the outputs' judgement, the bricks they deliver,
and where these go; frame starts; and the house sample period. -/

namespace Sys2Proof.Machine

/-- A commit found the slot's ramp running (R212). -/
def Dev.slotPend (d : Dev) (s : Nat) : Dev :=
  let i := d.slot s
  if i.i < i.n && d.slotAsks s then d.slotDefer s (d.slotWant s) else d

/-- The outputs, the take engine and the audio slots follow commits. -/
def Dev.commitSettle (d : Dev) : Dev :=
  let d := d.outSettle.dataSettle
  (d.slots.filter (fun e => e.2.i < e.2.n)).foldl (fun e x => e.slotPend x.1) d

/-- The next course of a domain. -/
def Dev.nextLine (d : Dev) (k : Nat) : Nat := (d.dom k).line % max 1 (fmtLines (d.domFmt k)) + 1

/-- A member is due to commit at this instant (R190, R208): its group executes, and it waits for no switch line, or the next course of its
domain is the switch line, at least SETUP after the trigger. -/
def Dev.commitDue (d : Dev) (g x : Nat) : Bool :=
  let t := d.take g
  t.state == 2 && t.left.contains x &&
    (match d.memberDom x with
     | none => true
     | some k => d.nextLine k == d.td k .TDOM_STAT_SWLINE_EFF && (d.setup ≤ d.since t.since))

/-- A due member commits (R190). -/
def Dev.commitNow (d : Dev) (g x : Nat) : Dev :=
  if !(d.commitDue g x) then d
  else
    let t := d.take g
    (((d.setTake g { t with left := t.left.filter (· != x) }).commitMember x).takeStep g).commitSettle

/-- The VIDEO transmit slots in force of a domain, as Tile Link lane and slot. -/
def Dev.tlVideo (d : Dev) (k : Nat) : List (Nat × Nat) :=
  (d.regs.filterMap (fun (e : Nat × Word) =>
    if 0x10190000 ≤ e.1 && e.1 < 0x101A0000 && Fld.TLL_TXSLOT_TYPE.get e.2 == 1 && Fld.TLL_TXSLOT_TDOM.get e.2 == k then
      some ((e.1 - 0x10190000) / 0x1000, (e.1 % 0x1000 - Fld.TLL_TXSLOT_TYPE.off) / 4)
    else none)).filter (fun x => d.outRuns (1152 + 16 * x.1 + x.2))

/-- The SDI output lanes of a domain that send. -/
def Dev.sdiLanes (d : Dev) (k : Nat) : List Nat :=
  (d.domLanes k).filter (fun n => d.rd (.lane n) .LANE_LSTAT_TX_STATE == 2 && modeSdi (d.txModeNow n))

/-- The capture and probe tiles of a domain. -/
def Dev.internalOuts (d : Dev) (k : Nat) : List Nat :=
  (List.range' 1408 64).filter (fun t => d.outRuns t && d.outDom t == some k)

/-- FP pulses that begin at a line of a domain (R294). -/
def Dev.framePulses (d : Dev) (k line : Nat) : Dev :=
  (List.range 4).foldl (fun e n =>
    if e.on .tmu (Fld.nth .TMU_FP_CFG_ENABLE n) && e.rd .tmu (Fld.nth .TMU_FP_CFG_TDOM n) == k &&
        e.rd .tmu (Fld.nth .TMU_FP_CFG_LINE n) == line then
      { e with fps := Map.put (fun _ => {}) e.fps n { count := (Map.get (fun _ => {}) e.fps n).count + 1, start := e.xo.toNat } }
    else e) d

/-- What a capture or probe tile does with the bricks it delivers (R200, R310). -/
def Dev.internalLine (d : Dev) (t line : Nat) (items : List LateItem) : Dev :=
  let bs := (d.tc t).out
  if 1440 ≤ t then d.probeSee (t - 1440) bs
  else
    let s := d.effSrc t
    let rs := if d.outState t == 1 then (d.srcRecs s line false).1 ++ (d.srcRecs s line true).1 else []
    d.captureLine (288 + (t - 1408)) line bs rs (writeLate items t)

/-- The switch line of a domain (R190, R329): its event, the commits due, and an armed swap. -/
def Dev.switchLine (d : Dev) (k : Nat) : Dev := (((d.setEvt (.tdom k) 9).switchCommit k).swapExecute k).commitSettle

/-- COURSE_READ_POINT: course `line` of domain `k`, with the items that it finds late or in error. -/
def Dev.course (d : Dev) (k line : Nat) (items : List LateItem) : Dev :=
  if d.domFmt k == 0 || (d.dom k).waits || line == 0 || fmtLines (d.domFmt k) < line then d
  else
    let d := d.setDom k { d.dom k with line := line }
    let d := if line == d.td k .TDOM_STAT_SWLINE_EFF then d.switchLine k else d
    if d.lanesIdle then d.framePulses k line else
    let d := (if line == 1 then d.fsDelay k else d).fsReads k
    let d := d.groupLines k line
    let lanes := d.sdiLanes k
    let slots := d.tlVideo k
    let inner := d.internalOuts k
    let outs := lanes.flatMap (fun n => d.outPositions n) ++ slots.map (fun x => 1152 + 16 * x.1 + x.2) ++ inner
    let d := (outs.filter (fun t => !(d.outMember t))).foldl (fun e t => e.outJudge t) d
    let d := items.foldl (fun e x => e.memReadLate x) d
    let d := outs.foldl (fun e t => e.gateBricks t line items) d
    let d := inner.foldl (fun e t => e.internalLine t line items) d
    let d := lanes.foldl (fun e n => e.laneCourse n line items) d
    let d := slots.foldl (fun e x => e.tlCourse x.1 x.2 line items) d
    d.framePulses k line

/-- DOMAIN_FRAME_START: the frame counter and the grid (R286 to R293), the frame store (R305 to R311), a shadowing wall (Table 14.4) and the
probes (R200) at a frame start. -/
def Dev.frameStart (d : Dev) (k : Nat) (err : Int) (epoch : Nat) : Dev :=
  if d.domFmt k == 0 then d
  else
    let d := (d.frameCount k err epoch).probeFrames k
    ((d.fsFrameStart k (d.td k .TDOM_FCNT_FCNT)).shadowFrame k).outSettle

/-- REALIGN_JUMP_EXECUTE: the frame of an armed JUMP starts at the nearest grid instant (R292). -/
def Dev.jumpExecute (d : Dev) (k epoch : Nat) : Dev := if d.jumpDue k then d.frameStart k 0 epoch else d

/-- HOUSE_SAMPLE_PERIOD: streams, slots, delay lines, meters and outputs (R142, R168, R174, R209 to R220, R242). -/
def Dev.samplePeriod (d : Dev) (lates : List AudioLate) : Dev :=
  if d.lanesIdle then { d with period := d.period + 1 }
  else (List.range 16).foldl (fun e n => e.tlAudioPeriod n) (d.audioPeriod lates).outPeriod

end Sys2Proof.Machine
end

