-- ==== Sys2Proof/Machine/Intc.lean ====
section
/-! DEFINITION. The interrupt controller: commitment, delivery, claim and completion, mask writes, software interrupts, register
writes and views, and its resets (R384 to R398). -/

namespace Sys2Proof.Machine

/-- The interrupt target of a matrix master: CCn for Mn, n from 0 to 3, and HOST, 4, for every other (R391). -/
def targetOf (m : Nat) : Nat := if m < 4 then m else 4

/-- The source in a delivery slot, key 2 × target + class. -/
def Dev.slotOf (d : Dev) (t cls : Nat) : Option Nat :=
  match Map.get (fun _ => 0) d.intc.slots (2 * t + cls) with
  | 0 => none
  | k + 1 => some k

/-- Fill a delivery slot, with source + 1, or empty it. -/
def Dev.setSlotOf (d : Dev) (t cls v : Nat) : Dev :=
  { d with intc := { d.intc with slots := Map.put (fun _ => 0) d.intc.slots (2 * t + cls) v } }

/-- Where a source that waits is delivered, and whether by redirection (R386, R394): to its target, or while that core is asleep and no
wake is requested, to the awake target of REDIRECT. -/
def Dev.srcTarget (d : Dev) (k : Nat) : Option (Nat × Bool) :=
  match d.srcRoute k with
  | none => none
  | some t =>
    if !(d.asleep t) then some (t, false)
    else if d.watched (srcNumber k) then none
    else
      let r := d.rd .intc (Fld.nth .INTC_REDIRECT_TARGET t)
      if d.on .intc (Fld.nth .INTC_REDIRECT_EN t) && !(d.asleep r) then some (r, true) else none

/-- Priority of a source. -/
def Dev.srcPrio (d : Dev) (k : Nat) : Nat := d.rdB .intc k .INTC_SRC_CFG_PRIO
/-- Class of a source: 0 normal, 1 fast. -/
def Dev.srcClass (d : Dev) (k : Nat) : Nat := d.rdB .intc k .INTC_SRC_CFG_CLASS

/-- The sources deliverable to a target in a class (R386). -/
def Dev.deliverable (d : Dev) (t cls : Nat) : List Nat :=
  (d.intc.srcs.map (·.1)).filter (fun k =>
    d.srcReady k && d.srcClass k == cls && (match d.srcTarget k with | some x => x.1 == t | none => false))

/-- The deliverable source a free slot takes: highest priority, then lowest number (R386). -/
def Dev.bestSource (d : Dev) (ks : List Nat) : Option Nat :=
  ks.foldl (fun b k => match b with
    | none => some k
    | some j => if d.srcPrio j < d.srcPrio k then some k else some j) none

/-- One MSI-X message of a vector (R395, R430): sent, or held pending while MSI-X is disabled or the vector masked. -/
def Dev.msixRaise (d : Dev) (v : Nat) : Dev :=
  if d.host.msixOn && !(d.on .host (Fld.nth .HOST_MSIX_MASK v)) then { d with host := { d.host with msixLast := some v } }
  else if d.host.msixPend.contains v then d
  else { d with host := { d.host with msixPend := d.host.msixPend ++ [v] } }

/-- INTERRUPT_COMMIT: a free slot takes a source and commits it (R386, R389, R395). -/
def Dev.intCommit (d : Dev) (t cls : Nat) : Dev :=
  if (d.slotOf t cls).isSome then d
  else match d.bestSource (d.deliverable t cls) with
    | none => d
    | some k =>
      let red := match d.srcTarget k with | some x => x.2 | none => false
      let d := d.setSrc k { d.src k with committed := some t, masked := false, redirected := red, window := true }
      let d := d.setSlotOf t cls (k + 1)
      if t == 4 && d.rd .intc .INTC_CFG_HOST_PIN == 0 then d.msixRaise (d.rdB .intc k .INTC_SRC_CFG_VECTOR) else d

/-- INTERRUPT_DELIVERY_DONE: the handshake of a slot completes and its commit window closes (R390). -/
def Dev.intDelivered (d : Dev) (t cls : Nat) : Dev :=
  match d.slotOf t cls with
  | some k => d.setSrc k { d.src k with window := false }
  | none => d

/-- The claim word of Table 18.2. -/
def claimWord (k : Nat) (i : SrcI) (cls n : Nat) : Word :=
  BitVec.ofNat 32 (2 ^ 31 + (if i.masked then 2 ^ 30 else 0) + cls * 2 ^ 29 + (if i.redirected then 2 ^ 28 else 0) +
    n % 256 * 2 ^ 16 + srcNumber k)

/-- What a claim consumes of a count, and what its word shows: one event and the events left, or every event and their number (R391). -/
def claimTakes (all : Bool) (count : Nat) : Nat × Nat := if all then (0, count) else (count - 1, count - 1)

/-- The word a read of CLAIM or CLAIM_ALL returns. -/
def Dev.claimView (d : Dev) (t cls : Nat) (all : Bool) : Word :=
  match d.slotOf t cls with
  | none => 0
  | some k => claimWord k (d.src k) cls (claimTakes all (d.src k).count).2

/-- What a read of CLAIM or CLAIM_ALL does to a full slot: the slot empties, the source is in service (R391). -/
def Dev.claim (d : Dev) (t cls : Nat) (all : Bool) : Dev :=
  match d.slotOf t cls with
  | none => d
  | some k =>
    (d.setSlotOf t cls 0).setSrc k { count := (claimTakes all (d.src k).count).1, insvc := some t }

/-- The pages of a level source (Table 18.1). -/
def sourcePages (s : Nat) : List Page :=
  if s < 144 then [.lane s]
  else if s < 160 then [.tll (s - 144)]
  else if s < 176 then [.tdom (s - 160)]
  else if s < 184 then [.refin (s - 176)]
  else match s with
    | 184 => [.tmu]
    | 192 => [.wall 0]
    | 193 => [.wall 1]
    | 194 => [.cgate]
    | 200 => [.fab]
    | 201 => [.afab]
    | 202 => [.prot]
    | 216 => [.fst]
    | 217 => [.memc 0]
    | 218 => [.memc 1]
    | 264 => [.pwr]
    | 265 => [.aon]
    | 266 => [.dev]
    | 280 => [.mtx]
    | 281 => [.sramc]
    | 282 => [.qmg]
    | 283 => [.intc, .intcF]
    | 296 => [.pmc]
    | 312 => [.host]
    | 313 => [.boot]
    | _ => []

/-- The level of a source is 1. -/
def Dev.levelOf (d : Dev) (s : Nat) : Bool := (sourcePages s).any (fun p => d.pageLevel p)

/-- Service of a source ends: a level source whose level is still 1 and whose count is 0 receives one event (R392). -/
def Dev.serviceEnd (d : Dev) (k : Nat) : Dev :=
  let d := d.setSrc k { d.src k with insvc := none }
  (if d.levelOf k && (d.src k).count == 0 then d.addEvent k else d).wakeFor k

/-- The key of a source number as a master's page shows it (R388). -/
def Dev.srcKey (d : Dev) (m s : Nat) : Nat :=
  if d.intcBanked && 496 ≤ s then 512 + 16 * (if m < 4 then m else 0) + (s - 496) else s

/-- A write of COMPLETE by master `m` on the page of class `cls` (R392). -/
def Dev.complete (d : Dev) (m cls s : Nat) : Dev :=
  let k := d.srcKey m s
  if (d.src k).insvc == some (targetOf m) && d.srcClass k == cls then d.serviceEnd k
  else ((d.wr .intc .INTC_ERR_MASTER m).wr .intc .INTC_ERR_SOURCE s).setEvt .intc 8

/-- A write of SWI by master `m` (R388). -/
def Dev.swi (d : Dev) (m : Nat) (v : Word) : Dev :=
  (List.range 16).foldl (fun e i => if v.getLsbD i then e.addEvent (e.srcKey m (496 + i)) else e) d

/-- The bank of EN that a master sees (R387): of its core for M0 and M1, of HOST for the others; one global set in TARGETED mode. -/
def Dev.enBank (d : Dev) (m : Nat) : Nat := if d.intcBanked then (if m < 2 then m else 2) else 3

/-- Some EN bit of some bank is 1. -/
def Dev.anyEn (d : Dev) : Bool :=
  (List.range 4).any (fun b => (List.range 16).any (fun i => d.rdB .intc b (Fld.nth .INTC_EN_EN i) != 0))

/-- A mask write fell on a committed source (R390). -/
def Dev.maskHit (d : Dev) (k : Nat) : Dev :=
  if (d.src k).committed.isSome then d.setSrc k { d.src k with masked := true } else d

/-- The key that an EN bit of a bank enables. -/
def enKey (bank s : Nat) : Nat := if bank < 2 && 496 ≤ s then 512 + 16 * bank + (s - 496) else s

/-- What rejects a write of a register of INTC (R388, R398). -/
def Dev.intcRej (d : Dev) (m off : Nat) (old v : Word) : List Rej :=
  if off == 0x020 then
    rejIf (Fld.INTC_CFG_MODE.get v != Fld.INTC_CFG_MODE.get old && d.anyEn) .state ++
      rejIf (Fld.INTC_CFG_HOST_PIN.get v != Fld.INTC_CFG_HOST_PIN.get old && ((d.slotOf 4 0).isSome || (d.slotOf 4 1).isSome)) .state
  else if 0x040 ≤ off && off < 0x080 then
    let i := (off - 0x040) / 4
    rejIf (d.intcBanked && (List.range 32).any (fun j =>
      v.getLsbD j && !(old.getLsbD j) && 32 * i + j < 496 &&
        ([0, 1, 2].filter (· != d.enBank m)).any (fun b => d.enBit b (32 * i + j)))) .state
  else if off == 0x0CC then rejIf (d.intcBanked && 4 ≤ m) .state
  else if 0x0E0 ≤ off && off < 0x0F0 then rejIf (Fld.INTC_REDIRECT_TARGET.get v == (off - 0x0E0) / 4) .range
  else if 0x100 ≤ off && off < 0x180 then
    let i := (off - 0x100) / 4
    rejIf (Fld.INTC_WATCH_VALID.get v == 1 && (List.range 32).any (fun j =>
      j != i && d.on .intc (Fld.nth .INTC_WATCH_VALID j) && d.rd .intc (Fld.nth .INTC_WATCH_SOURCE j) == Fld.INTC_WATCH_SOURCE.get v)) .range
  else []

/-- What follows an accepted write of a register of INTC; `old` is the word before. -/
def Dev.intcAfter (d : Dev) (m off : Nat) (old v : Word) : Dev :=
  if off == 0x020 then d.wakeSettle
  else if off == 0x028 then
    let k := d.srcKey m (d.rd .intc .INTC_SRC_SEL_SOURCE)
    let moved := !(d.intcBanked) && k < 512 && Fld.INTC_SRC_CFG_TARGET.get v != Fld.INTC_SRC_CFG_TARGET.get old
    (if moved then d.maskHit k else d).wakeSettle
  else if 0x040 ≤ off && off < 0x080 then
    let i := (off - 0x040) / 4
    ((List.range 32).foldl (fun e j =>
      if old.getLsbD j && !(v.getLsbD j) then e.maskHit (enKey (e.enBank m) (32 * i + j)) else e) d).wakeSettle
  else if off == 0x0C8 then d.complete m 0 (Fld.INTC_COMPLETE_SOURCE.get v)
  else if off == 0x0CC then d.swi m v
  else if 0x100 ≤ off && off < 0x180 then d.wakeSettle
  else d

/-- SRC_STAT of a source. -/
def Dev.srcStat (d : Dev) (k : Nat) : Word :=
  let i := d.src k
  let holder := match i.committed, i.insvc with
    | some t, _ => t
    | none, some t => t
    | none, none => 0
  BitVec.ofNat 32 ((if 0 < i.count then 2 ^ 31 else 0) + (if i.committed.isSome then 2 ^ 30 else 0) +
    (if i.insvc.isSome then 2 ^ 29 else 0) + (if i.sat then 2 ^ 28 else 0) + holder * 2 ^ 24 + i.count)

/-- TGT_STAT: full slots and sleeping cores. -/
def Dev.tgtStat (d : Dev) : Word :=
  BitVec.ofNat 32 (((List.range 10).filter (fun i => (d.slotOf (i / 2) (i % 2)).isSome)).foldl (fun a i => a + 2 ^ (4 + i)) 0 +
    ((List.range 4).filter (fun c => d.asleep c)).foldl (fun a c => a + 2 ^ c) 0)

/-- PEND[i] as a master sees it. -/
def Dev.pendWord (d : Dev) (m i : Nat) : Word :=
  BitVec.ofNat 32 (((List.range 32).filter (fun j => 0 < (d.src (d.srcKey m (32 * i + j))).count)).foldl (fun a j => a + 2 ^ j) 0)

/-- Every count, slot and service state is cleared (R397). -/
def Dev.intcClear (d : Dev) : Dev := { d with intc := {} }

/-- After a MGMT reset or a BLOCK reset of INTC, each level source whose level is 1 receives one event (R397). -/
def Dev.intcRelevel (d : Dev) : Dev := ((List.range 512).filter (fun s => d.levelOf s)).foldl (fun e s => e.addEvent s) d

/-- A CORE reset of CCc (R397): its slots are emptied, their sources pending again, and its sources in service completed. -/
def Dev.intcCore (d : Dev) (c : Nat) : Dev :=
  let d := [0, 1].foldl (fun e cls =>
    match e.slotOf c cls with
    | some k => (e.setSlotOf c cls 0).setSrc k { e.src k with committed := none, masked := false, redirected := false, window := false }
    | none => e) d
  ((d.intc.srcs.map (·.1)).filter (fun k => (d.src k).insvc == some c)).foldl (fun e k => e.serviceEnd k) d.wakeSettle

end Sys2Proof.Machine
end

