-- ==== Sys2Proof/Machine/Pmc.lean ====
section
/-! DEFINITION. The performance counters and bandwidth windows: register writes, reads that latch, window ends, the BAR2 user page
(R399 to R407). -/

namespace Sys2Proof.Machine

/-- What rejects a write of a register of PMC (R400, R405). -/
def pmcRej (off : Nat) (v : Word) : List Rej :=
  if off == 0x030 then rejIf (v.toNat < 40 || 668000000 < v.toNat) .range
  else if 0x100 ≤ off && off < 0x400 && (off - 0x100) % 12 == 0 then
    rejIf ((pageAt (Fld.PMC_CFG_PAGE.get v * 4096)).isNone || (Fld.PMC_CFG_CHAIN.get v == 1 && (off - 0x100) / 12 == 63)) .range
  else []

/-- Counter `n` is set to 0 and its OVF bit cleared (R402). -/
def Dev.pmcClr (d : Dev) (n : Nat) : Dev :=
  let d := d.setPmcCount n 0
  let key := regKey .pmc 0 (if n < 32 then 0x024 else 0x028)
  d.setReg key (d.reg key &&& ~~~(BitVec.ofNat 32 (2 ^ (n % 32))))

/-- CLR_ALL: all 64 counters (R402). -/
def Dev.pmcClrAll (d : Dev) : Dev :=
  (({ d with pmc := { d.pmc with cnt := [] } }).setReg (regKey .pmc 0 0x024) 0).setReg (regKey .pmc 0 0x028) 0

/-- What follows an accepted write of a register of PMC. -/
def Dev.pmcAfter (d : Dev) (off : Nat) (v : Word) : Dev :=
  if off == 0x020 then if Fld.PMC_CTL_CLR_ALL.get v == 1 then d.pmcClrAll else d
  else if off == 0x030 then { d with pmc := { d.pmc with bytes := [] } }
  else if 0x100 ≤ off && off < 0x400 && (off - 0x100) % 12 == 0 then
    if Fld.PMC_CFG_CLR.get v == 1 then d.pmcClr ((off - 0x100) / 12) else d
  else d

/-- The snapshot of a port. -/
def Dev.pmcSnap (d : Dev) (p : Nat) : Nat := Map.get (fun _ => 0) d.pmc.snap p

/-- BW_WINDOW_END (R405): every count to its snapshot, counts to 0, BW_SEQ, the WINDOW event. -/
def Dev.bwWindowEnd (d : Dev) : Dev :=
  if !(d.enabled .pmc) then d
  else
    let seq := (d.rd .pmc .PMC_BW_SEQ_SEQ + 1) % 2 ^ 32
    (({ d with pmc := { d.pmc with snap := d.pmc.bytes, snapSeq := seq, bytes := [] } }).wr .pmc .PMC_BW_SEQ_SEQ seq).setEvt .pmc 9

/-- A read of CNT_LO[n] latches the high bits for the reading master (R403). -/
def Dev.cntLatch (d : Dev) (m n : Nat) : Dev := d.wrB .pmc m (Fld.nth .PMC_CNT_HI_COUNT_HI n) (d.pmcCount n / 2 ^ 32)

/-- A read of BW_SNAP_LO latches the high bits and the window's number for the reading master (R406). -/
def Dev.snapLatch (d : Dev) (m : Nat) : Dev :=
  let p := d.rd .pmc .PMC_BW_SEL_PORT
  (d.wrB .pmc m .PMC_BW_SNAP_HI_BYTES_HI (d.pmcSnap p / 2 ^ 32)).wrB .pmc m .PMC_BW_SNAP_HI_SEQ (d.pmc.snapSeq % 65536)

/-- LEVEL counter `n` counts an XO tick: its page's PAGE_STAT bit, as `level` gives it, reads 1 (R399). -/
def Dev.pmcLevels (d : Dev) (n : Nat) (level : Nat → Nat → Bool) : Bool :=
  let c := d.reg (regKey .pmc 0 (0x100 + 12 * n))
  Fld.PMC_CFG_MODE.get c == 1 && d.pmcOn n && !(d.pmcChained n) && level (Fld.PMC_CFG_PAGE.get c) (Fld.PMC_CFG_EVENT.get c)

/-- LEVEL_COUNTER_WRAP: enough ticks pass that counter `n` wraps (R401). -/
def Dev.levelWrap (d : Dev) (n : Nat) (level : Nat → Nat → Bool) : Dev :=
  if d.pmcLevels n level then Dev.pmcAdd 130 (d.setPmcCount n (2 ^ 48 - 1)) n else d

/-- What a read of the BAR2 page at a 4-byte offset returns, and the latch it leaves to the requester (R407). -/
def Dev.bar2Word (d : Dev) (who off : Nat) : Word × Option Nat :=
  let latch := Map.get (fun _ => 0) d.pmc.bar2Latch who
  if off < 0x200 then
    let n := off / 8
    if !(d.on .pmc (Fld.nth .PMC_CFG_USER n)) then (0, if off % 8 == 0 then some 0 else none)
    else if off % 8 == 0 then (BitVec.ofNat 32 (d.pmcCount n), some (d.pmcCount n / 2 ^ 32))
    else (BitVec.ofNat 32 latch, none)
  else if off < 0x200 + 8 * 334 then
    let x := d.pmcSnap ((off - 0x200) / 8)
    if off % 8 == 0 then (BitVec.ofNat 32 x, some (x / 2 ^ 32)) else (BitVec.ofNat 32 latch, none)
  else if off == 0xFF0 then (BitVec.ofNat 32 (d.rd .pmc .PMC_BW_SEQ_SEQ), none)
  else (0, none)

/-- BAR2_READ: a 4-byte or 8-byte read of the user page by requester `who` (R407). -/
def Dev.bar2Read (d : Dev) (who off : Nat) (wide : Bool) : Dev :=
  let done := fun (e : Dev) (ws : List Word) => { e with host := { e.host with cplStatus := .success, cplData := ws } }
  if !(d.on .pmc .PMC_CTL_USER_READ) then done d (if wide then [0, 0] else [0])
  else
    let keep := fun (e : Dev) (x : Option Nat) => match x with
      | some v => { e with pmc := { e.pmc with bar2Latch := Map.put (fun _ => 0) e.pmc.bar2Latch who v } }
      | none => e
    let lo := d.bar2Word who (off / 4 * 4)
    if !wide then done (keep d lo.2) [lo.1]
    else
      let lo := d.bar2Word who (off / 8 * 8)
      match lo.2 with
      | some hi => done d [lo.1, BitVec.ofNat 32 hi]
      | none => done d [lo.1, (d.bar2Word who (off / 8 * 8 + 4)).1]

end Sys2Proof.Machine
end

