-- ==== Sys2Proof/Machine/Mtx.lean ====
section
/-! DEFINITION. The control matrix: address decode, permissions, the log, parking and arbitration, locked sequences, SRAM words with
collisions and ECC, and the reset of a master (R350 to R367). -/

namespace Sys2Proof.Machine

/-- The target a matrix address decodes to (Table 16.2, R351). -/
def targetAt (a : Nat) : Nat :=
  if (pageAt a).isSome || (0x200000 ≤ a && a < 0x440000) then 6
  else if (0x800000 ≤ a && a ≤ 0x80B7FF) || (0x810000 ≤ a && a ≤ 0x877FFF) || (0x880000 ≤ a && a ≤ 0x885BFF) then 8
  else if 0x1000000 ≤ a && a ≤ 0x13FFFFF then (a - 0x1000000) / 0x100000
  else if 0x1400000 ≤ a && a ≤ 0x15FFFFF then 4
  else if 0x2000000 ≤ a && a ≤ 0x3FFFFFF then 5
  else if 0x4000000 ≤ a && a ≤ 0x7FFFFFF then 7
  else 9

/-- The target's default master (Table 16.1); T9 has none. -/
def defaultMaster (t : Nat) : Nat := if t < 4 then t else if t == 4 then 6 else 4

/-- The master a target is parked on. -/
def Dev.parked (d : Dev) (t : Nat) : Nat := Map.get defaultMaster d.mtx.park t

/-- A target grants a transfer of master `m`: it parks on it, and round-robin goes on after it (R353). -/
def Dev.granted (d : Dev) (t m : Nat) : Dev :=
  { d with mtx := { d.mtx with
      park := if t < 9 then Map.put defaultMaster d.mtx.park t m else d.mtx.park
      last := Map.put (fun _ => 0) d.mtx.last t (m + 1) } }

/-- PARK_RETURN: an idle target returns to its default master (R353). -/
def Dev.parkReturn (d : Dev) (t : Nat) : Dev :=
  { d with mtx := { d.mtx with park := Map.put defaultMaster d.mtx.park t (defaultMaster t) } }

/-- The master may read, or write, the target (R356); T9 needs no permission. -/
def Dev.permits (d : Dev) (m t : Nat) (isWrite : Bool) : Bool :=
  9 ≤ t || (d.rd .mtx (Fld.nth (if isWrite then .MTX_PERM_WRITE else .MTX_PERM_READ) m)).testBit t

/-- The master has PERM.ADMIN. -/
def Dev.admin (d : Dev) (m : Nat) : Bool := d.on .mtx (Fld.nth .MTX_PERM_ADMIN m)

/-- MTX.PAGE_EVT bit of a logged code: 1 DECERR, 2 PERM, 3 TIMEOUT, 4 LOCK_BROKEN. -/
def logEvt (code : Nat) : Nat := if code == 4 then 12 else 7 + code

/-- The matrix logs a transfer (R359). -/
def Dev.mtxLog (d : Dev) (m target addr code : Nat) (isWrite : Bool) : Dev :=
  let again := (d.reg (regKey .mtx 0 0x010)).getLsbD (logEvt code)
  let d := d.wr .mtx .MTX_ERR_ADDR_ADDR addr
  let d := ((d.wr .mtx .MTX_ERR_INFO_TARGET target).wrOn .mtx .MTX_ERR_INFO_WRITE isWrite).wr .mtx .MTX_ERR_INFO_CODE code
  let d := d.wr .mtx .MTX_ERR_INFO_MASTER m
  let d := if again then d.wrOn .mtx .MTX_ERR_INFO_OVERRUN true else d
  d.setEvt .mtx (logEvt code)

/-- A transfer ends with response DECERR: counted and logged; a read returns 0 (R358). -/
def Dev.decErr (d : Dev) (m target addr : Nat) (isWrite : Bool) (n : Nat) : Dev :=
  ((d.inc .mtx .MTX_ERRCNT_DECODE).mtxLog m target addr 1 isWrite).respond m ⟨.decerr, if isWrite then [] else List.replicate n 0⟩

/-- A transfer ends with response PERM, without effect (R356). -/
def Dev.permErr (d : Dev) (m target addr : Nat) (isWrite : Bool) : Dev :=
  ((d.inc .mtx .MTX_ERRCNT2_PERM).mtxLog m target addr 2 isWrite).respond m ⟨.perm, []⟩

/-- A transfer ends with response TIMEOUT (R355, R64); only a request that was not granted counts in ERRCNT. -/
def Dev.timeoutErr (d : Dev) (m target addr : Nat) (isWrite counted : Bool) : Dev :=
  ((if counted then d.inc .mtx .MTX_ERRCNT_TIMEOUT else d).mtxLog m target addr 3 isWrite).respond m ⟨.timeout, []⟩

/-- MATRIX_REQUEST_TIMEOUT: a request not granted within 10 µs is withdrawn (R355). -/
def Dev.requestTimeout (d : Dev) (m addr : Nat) (isWrite : Bool) : Dev :=
  let d := { d with mtx := { d.mtx with waits := d.mtx.waits.filter (fun w => w.master != m) } }
  d.timeoutErr m (targetAt addr) addr isWrite true

/-- Some master but `m` holds the target by a locked sequence (R354). -/
def Dev.lockedOut (d : Dev) (m t : Nat) : Bool :=
  d.mtx.locks.any (fun l => l.target == t && l.master != m)

/-- The locked sequence that master `m` has under way. -/
def Dev.lockOf (d : Dev) (m : Nat) : Option LockI := d.mtx.locks.find? (fun l => l.master == m)

/-! ### SRAM banks -/

/-- The SRAM word index of a matrix address. -/
def sramKey (a : Nat) : Nat := (a - 0x1000000) / 4

/-- The bank of a target, and the word offset of an address within it. -/
def bankOffset (t a : Nat) : Nat := sramKey a - bankWord t

/-- A word with the bytes of a write whose enables are set. -/
def mergeBytes (be : BitVec 4) (old new : Word) : Word :=
  let mask : Word := (List.range 4).foldl (fun (a : Word) i => if be.getLsbD i then a ||| (0xFF#32 <<< (8 * i)) else a) 0
  (old &&& ~~~mask) ||| (new &&& mask)

/-- Write an SRAM word (R366): a reservation of the word is cleared (R354). -/
def Dev.sramWrite (d : Dev) (a : Nat) (be : BitVec 4) (v : Word) : Dev :=
  if be == 0 then d
  else
    let d := d.sramPut (sramKey a) (mergeBytes be (d.sramGet (sramKey a)) v)
    { d with mtx := { d.mtx with reserve := d.mtx.reserve.filter (fun e => e.2 != a / 4 * 4 + 1) } }

/-- The master reaches the bank through port A (R364). -/
def portA (t m : Nat) : Bool := defaultMaster t == m

/-- A beat of port B collided with the owner's write and was retried at once (R365). -/
def Dev.collided (d : Dev) (t a : Nat) : Dev :=
  let d := d.inc .sramc (Fld.nth .SRAMC_COLL_CNT_COUNT t)
  ((d.wr .sramc .SRAMC_COLL_LAST_BANK t).wr .sramc .SRAMC_COLL_LAST_WORD (bankOffset t a)).setEvt .sramc 9

/-- An ECC error found on a read of a bank's word (R366). -/
def Dev.eccFound (d : Dev) (t a : Nat) (double : Bool) : Dev :=
  let d := d.inc .sramc (Fld.nth (if double then .SRAMC_ECC_CNT_UNCORR else .SRAMC_ECC_CNT_CORR) t)
  let d := (d.wrOn .sramc .SRAMC_ECC_LAST_UNCORR double).wr .sramc .SRAMC_ECC_LAST_BANK t
  (d.wr .sramc .SRAMC_ECC_LAST_WORD (bankOffset t a)).setEvt .sramc 8

/-- A DMA channel serves its queue or its ring, which it reaches as M6 through T4 (R350, R364, R381). Without the permission the access ends
with response PERM and has no effect: the entry waits (DEDUCED, log 127). -/
def Dev.dmaServe (d : Dev) (c dir : Nat) : Dev :=
  let serve := fun (e : Dev) => if dir == 0 then e.dmaToRing c else e.dmaToQueue c
  if !(d.dmaMoves c dir) then serve d
  else if d.permits 6 4 (dir == 0) then serve (d.granted 4 6)
  else
    d.permErr 6 4 (0x1000000 + 4 * d.ringAt c (d.dma c (if dir == 0 then .QMG_DMA_WP_PTR else .QMG_DMA_RP_PTR))) (dir == 0)

/-! ### Locked sequences (R354) -/

/-- The word an AMO writes from the word it read and its operand. -/
def amoWord (op : AmoOp) (old v : Word) : Word :=
  match op with
  | .swap => v
  | .add => old + v
  | .xor => old ^^^ v
  | .and => old &&& v
  | .or => old ||| v
  | .min => if old.slt v then old else v
  | .max => if old.slt v then v else old
  | .minu => if old.ult v then old else v
  | .maxu => if old.ult v then v else old

/-- The locks held; STAT shows the oldest. -/
def Dev.setLocks (d : Dev) (ls : List LockI) : Dev :=
  let d := { d with mtx := { d.mtx with locks := ls } }
  (d.wrOn .mtx .MTX_STAT_LOCKED (!ls.isEmpty)).wr .mtx .MTX_STAT_LOCK_MASTER ((ls.head?.map (·.master)).getD 0)

/-- The lock that `m` holds is released. -/
def Dev.unlock (d : Dev) (m : Nat) : Dev := d.setLocks (d.mtx.locks.filter (fun l => l.master != m))

/-- A single read of an SRAM word through the matrix, with what ECC finds (R366): a double-bit error ends it with response ECC. -/
def Dev.eccRead (d : Dev) (t a : Nat) (e : EccFind) : Dev :=
  match e with
  | .none => d
  | .single => d.eccFound t a false
  | .double => d.eccFound t a true

/-- The read of an AMO: granted, it holds its target until its write; to a target but T0 to T4 it has no effect and ends with DECERR; while
another master's sequence holds its target it is not granted, and has no effect yet. A read that finds a double-bit error ends the sequence with
response ECC and without its write (DEDUCED, log 126). -/
def Dev.amoRead (d : Dev) (m addr : Nat) (op : AmoOp) (v : Word) (e : EccFind) : Dev :=
  let t := targetAt addr
  let a := addr / 4 * 4
  if (d.lockOf m).isSome then d
  else if 4 < t then d.decErr m t addr true 0
  else if !(d.permits m t false && d.permits m t true) then d.permErr m t addr (d.permits m t false)
  else if d.lockedOut m t then d
  else
    let old := d.sramGet (sramKey a)
    let d := ((d.granted t m).bwAdd (324 + t) 4).eccRead t a e
    if e == .double then d.respond m ⟨.ecc, []⟩
    else (d.setLocks (d.mtx.locks ++ [⟨m, t, a, amoWord op old v⟩])).respond m ⟨.okay, [old]⟩

/-- The write of the sequence that `m` holds, and the lock's release. -/
def Dev.amoWrite (d : Dev) (m : Nat) : Dev :=
  match d.lockOf m with
  | some l => ((d.sramWrite l.addr 15 l.word).bwAdd (324 + l.target) 4).unlock m
  | none => d

/-- LOCKED_SEQUENCE. -/
def Dev.lockedSeq (d : Dev) (m : Nat) (x : AmoStep) : Dev :=
  match x with
  | .whole addr op v e => (d.amoRead m addr op v e).amoWrite m
  | .read addr op v e => d.amoRead m addr op v e
  | .write => d.amoWrite m

/-- LOCK_BREAK: after 1 µs the matrix performs the write unchanged and breaks the lock (R354), the oldest one. -/
def Dev.lockBreak (d : Dev) : Dev :=
  match d.mtx.locks.head? with
  | some l =>
    (((d.amoWrite l.master).inc .mtx .MTX_ERRCNT2_LOCK_BREAK).mtxLog l.master l.target l.addr 4 true).respond l.master ⟨.lockBroken, []⟩
  | none => d

/-! ### Reset of a master (R362) -/

/-- A stalled queue read with the rest of its burst, or a flash-window read that waits. -/
def Dev.waitsOn (d : Dev) (m : Nat) : Option (Bool × Nat × Nat) :=
  let w := d.mtx.waits.find? (fun w => w.master == m)
  if (d.stallOf m).isSome then some (false, 6, 1 + (w.map (·.beats)).getD 0) else w.map (fun w => (false, 7, w.beats))

/-- What a master has under way: direction, target and beats left. -/
def Dev.underWay (d : Dev) (m : Nat) : Option (Bool × Nat × Nat) :=
  match d.lockOf m with
  | some l => some (true, l.target, 1)
  | none => d.waitsOn m

/-- A master is reset with what it has under way: MTX.ABORT is written and the event set; its lock is released without the write, its reads
discarded, its open packet abandoned (R380), its port's RD_SEL and its reservation reset (R374). -/
def Dev.masterReset (d : Dev) (m : Nat) (under : Option (Bool × Nat × Nat)) : Dev :=
  let held := (d.lockOf m).isSome
  let d := match under with
    | some (isWrite, target, left) =>
      let d := (d.wr .mtx .MTX_ABORT_BEATS_LEFT (min left 16)).wr .mtx .MTX_ABORT_TARGET target
      ((d.wrOn .mtx .MTX_ABORT_WRITE isWrite).wrOn .mtx .MTX_ABORT_LOCK_REL held).wr .mtx .MTX_ABORT_MASTER m |>.setEvt .mtx 11
    | none => d
  let d := if held then d.unlock m else d
  let d := { d with mtx := { d.mtx with
      waits := d.mtx.waits.filter (fun w => w.master != m)
      reserve := Map.put (fun _ => 0) d.mtx.reserve m 0 } }
  (((d.unstall m).abandon m).wrB .qmg m .QMG_RD_SEL_QUEUE 0)

/-- The reset of a master that has nothing else under way than the state shows. -/
def Dev.masterEnd (d : Dev) (m : Nat) : Dev := d.masterReset m (d.underWay m)

/-! ### Register writes of MTX and SRAMC -/

/-- MTX.STAT.CONFIGURE: every lane and Tile Link mode OFF, every MEMC disabled (R361). -/
def Dev.configure (d : Dev) : Bool :=
  d.regs.all (fun e =>
    let off := e.1 % 0x1000
    if 0x100000 ≤ e.1 && e.1 < 0x190000 then
      if off == 0x020 then Fld.LANE_RXCFG_MODE.get e.2 == 0 else if off == 0x024 then Fld.LANE_TXCFG_MODE.get e.2 == 0 else true
    else if 0x190000 ≤ e.1 && e.1 < 0x1A0000 then
      if off == 0x020 then Fld.TLL_CFG_RXMODE.get e.2 == 0 && Fld.TLL_CFG_TXMODE.get e.2 == 0 else true
    else true) && !(d.enabled (.memc 0)) && !(d.enabled (.memc 1))

/-- What rejects a write of a register of MTX (R356, R361). -/
def Dev.mtxRej (d : Dev) (m off : Nat) (old v : Word) : List Rej :=
  rejIf (!(d.admin m)) .locked ++
    (if off == 0x024 then rejIf (v != old && !(d.configure)) .state
     else if 0x040 ≤ off && off < 0x064 then
       let k := (off - 0x040) / 4
       rejIf (Fld.MTX_PERM_ADMIN.get v == 0 && !((List.range 9).any (fun j => j != k && d.admin j))) .range
     else [])

/-- What follows an accepted write of a register of MTX. -/
def Dev.mtxAfter (d : Dev) (off : Nat) (v : Word) : Dev :=
  if off == 0x010 then
    let code := d.rd .mtx .MTX_ERR_INFO_CODE
    if code != 0 && v.getLsbD (logEvt code) then d.wrOn .mtx .MTX_ERR_INFO_OVERRUN false else d
  else if off == 0x084 then
    if Fld.MTX_CTL_CNT_CLR.get v == 1 then (d.setReg (regKey .mtx 0 0x07C) 0).setReg (regKey .mtx 0 0x080) 0 else d
  else d

/-- What follows an accepted write of a register of SRAMC. -/
def Dev.sramcAfter (d : Dev) (off : Nat) (v : Word) : Dev :=
  if off == 0x02C && Fld.SRAMC_CTL_CNT_CLR.get v == 1 then
    (List.range 5).foldl (fun e b => (e.setReg (regKey .sramc 0 (0x040 + 4 * b)) 0).setReg (regKey .sramc 0 (0x060 + 4 * b)) 0) d
  else d

end Sys2Proof.Machine
end

