-- ==== Sys2Proof/Machine/Protect.lean ====
section
/-! DEFINITION. Performance monitoring by PM seconds (R249 to R253), and the writes and timers of the protection groups (R254 to
R265). -/

namespace Sys2Proof.Machine

/-! ### PM seconds and bins (R249 to R253) -/

/-- Write a PM field that LANE and TLL pages hold at one offset. -/
def Dev.pmWr (d : Dev) (l : Nat) (f : Fld) (v : Nat) : Dev := d.wr (rxPage l) f v
/-- Read it. -/
def Dev.pmRd (d : Dev) (l : Nat) (f : Fld) : Nat := d.rd (rxPage l) f

/-- The grading of a lane's second in progress: ES and SES (R251). -/
def Dev.pmGrade (d : Dev) (l : Nat) : Bool × Bool :=
  let q := d.pmOf l
  let es := q.err != 0 || q.defect
  let ses := q.loss || (if l < 144 then 3 * q.units ≤ 20 * q.err else 3 * q.units ≤ 10 * q.err)
  if q.active || d.rxState l != 0 then (es || ses, ses) else (false, false)

/-- One more in a bin's count. -/
def Dev.pmBin (d : Dev) (l : Nat) (f15 f24 : Fld) : Dev := (d.add (rxPage l) f15 1).add (rxPage l) f24 1

/-- A second enters the bins of a lane, and the intervals that end with it close (R253). -/
def Dev.pmEnter (d : Dev) (l : Nat) (x : PmGrade) : Dev :=
  let d := if x.mark then (d.pmWr l .LANE_PM_15C_SUSPECT 1).pmWr l .LANE_PM_24C_ES_SUSPECT 1 else d
  let d := if x.uas then d.pmBin l .LANE_PM_15C_UAS .LANE_PM_24C_UAS_COUNT
    else
      let d := if x.es then d.pmBin l .LANE_PM_15C_ES .LANE_PM_24C_ES_COUNT else d
      if x.ses then d.pmBin l .LANE_PM_15C_SES .LANE_PM_24C_SES_COUNT else d
  let k := fun (off : Nat) => regKey (rxPage l) 0 off
  let d := if (x.second + 1) % 900 == 0 then (d.setReg (k 0x1D8) (d.reg (k 0x1D4))).setReg (k 0x1D4) 0 else d
  if x.second == 86399 then
    [(0x1DC, 0x1E8), (0x1E0, 0x1EC), (0x1E4, 0x1F0)].foldl (fun e o => (e.setReg (k o.2) (e.reg (k o.1))).setReg (k o.1) 0) d
  else d

/-- The seconds not yet entered, with the availability that the last ten give (R252): whether the lane is in unavailable time. -/
def pmAvail (was : Bool) (q : List PmGrade) : Bool × List PmGrade :=
  let n := q.length - 10
  let tail := q.drop n
  if 10 ≤ q.length && !was && tail.all (·.ses) then (true, q.take n ++ tail.map (fun x => { x with uas := true }))
  else if 10 ≤ q.length && was && tail.all (fun x => !x.ses) then (false, q.take n ++ tail.map (fun x => { x with uas := false }))
  else (was, q)

/-- The DEG defect of a lane at the end of a second with `err` errored units (Table 11.1). -/
def Dev.pmDeg (d : Dev) (l err : Nat) : Dev :=
  let q := d.pmOf l
  let hit := d.pmRd l .LANE_DEG_CFG_DEG_THR ≤ err
  let m := d.pmRd l .LANE_DEG_CFG_DEG_M
  let bad := if hit then q.degBad + 1 else 0
  let good := if hit then 0 else q.degGood + 1
  let d := d.setPm l { q with degBad := min bad 10, degGood := min good 10 }
  let deg := d.hasDef l 4
  let w := (d.reg (regKey (rxPage l) 0 0x1C0)).toNat
  if !deg && m ≤ bad then d.setDef l (w + 16) else if deg && m ≤ good then d.setDef l (w - 16) else d

/-- A PM second of one lane ends (R251 to R253). -/
def Dev.pmLane (d : Dev) (l second : Nat) (mark : Bool) : Dev :=
  let g := d.pmGrade l
  let err := (d.pmOf l).err
  let was := d.pmRd l .LANE_PM_CUR_UAS == 1
  let a := pmAvail was ((d.pmOf l).queue ++ [{ es := g.1, ses := g.2, second := second, uas := was, mark := mark }])
  let d := d.pmWr l .LANE_PM_CUR_UAS (if a.1 then 1 else 0)
  let w := d.defWord l
  let d := d.setPm l { d.pmOf l with
    queue := if a.2.length ≤ 10 then a.2 else a.2.drop 1
    err := 0, units := 0, loss := w % 8 != 0, defect := w % 16 != 0, active := d.rxState l != 0 }
  let d := match a.2 with
    | x :: _ => if a.2.length ≤ 10 then d else d.pmEnter l x
    | [] => d
  d.pmDeg l err

/-- The second that enters the bins now ends a 15-minute interval. -/
def Dev.pmCloses (d : Dev) (l : Nat) : Bool :=
  match (d.pmOf l).queue with
  | x :: rest => rest.length == 9 && (x.second + 1) % 900 == 0
  | [] => false

/-- The wait-to-restore times shown in seconds run down. -/
def Dev.wtrCount (d : Dev) : Dev :=
  (d.groups.filter (fun e => e.2.wtr)).foldl (fun e x => e.wrB .prot x.1 .PROT_PG_STAT_WTR_LEFT (max 1 (e.pg x.1 .PROT_PG_STAT_WTR_LEFT - 1))) d

/-- PM_SECOND_END: every lane's second is graded, and the next begins with the number that follows or that PM_SEC was written with. -/
def Dev.pmSecond (d : Dev) : Dev :=
  let sec := d.rd .prot .PROT_PM_SEC_SEC
  let mark := d.pmNext.isSome
  let closes := (List.range 160).any (fun l => d.pmCloses l)
  let d := (List.range 160).foldl (fun e l => e.pmLane l sec mark) d
  let d := (d.wr .prot .PROT_PM_SEC_SEC ((d.pmNext).getD ((sec + 1) % 86400))).setEvtIf closes .prot 12
  ({ d with pmNext := none }.wtrCount).protSettle

/-- PM_SEC is written (R249, R253): the number of the next second; the bins that hold the present second are suspect. -/
def Dev.pmSecWrite (d : Dev) (old v : Word) : Dev :=
  let d := { d.setReg (regKey .prot 0 0x060) old with pmNext := some (Fld.PROT_PM_SEC_SEC.get v) }
  (List.range 160).foldl (fun e l =>
    let q := (e.pmOf l).queue
    let e := if q.any (fun x => (x.second + 1) % 900 == 0) then e else e.pmWr l .LANE_PM_15C_SUSPECT 1
    if q.any (fun x => x.second == 86399) then e else e.pmWr l .LANE_PM_24C_ES_SUSPECT 1) d

/-- PROT.CTL.PM_CLR: every bin 0, every SUSPECT set (R253). -/
def Dev.pmClear (d : Dev) : Dev :=
  (List.range 160).foldl (fun e l => (List.range 8).foldl (fun e i =>
    let k := regKey (rxPage l) 0 (0x1D4 + 4 * i)
    e.setReg k (if i == 0 || i == 1 || i == 2 || i == 5 then 0x80000000#32 else 0)) e) d

/-- What PM_CUR shows of the second in progress. -/
def Dev.pmCur (d : Dev) (l : Nat) : Word :=
  let g := d.pmGrade l
  BitVec.ofNat 32 (d.pmRd l .LANE_PM_CUR_UAS * 2 ^ 31 + (if g.1 then 2 ^ 30 else 0) + min (d.pmOf l).err 16777215)

/-! ### Protection groups (R254 to R265) -/

/-- A tile is member 0 of a bond of its lane's RXCFG.MODE (R254). -/
def Dev.leadsBond (d : Dev) (t : Nat) : Bool :=
  t < 1152 && d.rxLead (t / 8) == t / 8 && tilePos t < max 1 (modeTiles (d.rd (.lane (t / 8)) .LANE_RXCFG_MODE)) &&
    (d.memberTiles t).head? == some t

/-- A lead belongs to another enabled group of the kind. -/
def Dev.leadTaken (d : Dev) (g kind lead : Nat) : Bool :=
  d.groups.any (fun e => e.1 != g && e.2.enabled && d.pg e.1 .PROT_PG_CFG_KIND == kind &&
    (d.pg e.1 .PROT_PG_CFG_W_LEAD == lead || d.pg e.1 .PROT_PG_CFG_P_LEAD == lead))

/-- What rejects a write of PG_CFG of group `g` (R254, R304). -/
def Dev.pgCfgRej (d : Dev) (g : Nat) (old v : Word) : List Rej :=
  let f := fun (x : Fld) => x.get v
  let kind := f .PROT_PG_CFG_KIND
  let w := f .PROT_PG_CFG_W_LEAD
  let p := f .PROT_PG_CFG_P_LEAD
  let same := fun (x : Fld) => d.rd (.lane (w / 8)) x == d.rd (.lane (p / 8)) x
  if f .PROT_PG_CFG_ENABLE == 0 then []
  else
    rejIf ((kind == 0 && !(d.leadsBond w && d.leadsBond p)) || (kind == 1 && (15 < w || 15 < p)) ||
      (kind == 1 && f .PROT_PG_CFG_MODE == 0) || f .PROT_PG_CFG_MODE == 3) .range ++
    rejIf (w == p || d.leadTaken g kind w || d.leadTaken g kind p ||
      (kind == 0 && !(same .LANE_RXCFG_MODE && same .LANE_RXCFG_AUTO && same .LANE_ALIGNCFG_TDOM && w % 8 == p % 8)) ||
      (Fld.PROT_PG_CFG_ENABLE.get old == 1 &&
        (Fld.PROT_PG_CFG_KIND.get old != kind || Fld.PROT_PG_CFG_W_LEAD.get old != w || Fld.PROT_PG_CFG_P_LEAD.get old != p)) ||
      (if kind == 0 then (d.memberTiles w ++ d.memberTiles p).any (fun t => d.chNames 320 t)
       else (List.range 16).any (fun k => d.chNames 320 (1152 + 16 * w + k) || d.chNames 320 (1152 + 16 * p + k)))) .state

/-- The request code of a command (Table 11.4). -/
def cmdCode (c : Nat) : Nat := ((cmdRequest c).map (·.code)).getD 0

/-- What rejects a write of PG_CMD of group `g` (R265). -/
def Dev.pgCmdRej (d : Dev) (g : Nat) (v : Word) : List Rej :=
  let c := Fld.PROT_PG_CMD_CMD.get v
  let s := d.group g
  rejIf (c == 6 || c == 7) .range ++
    rejIf (c != 0 && (!(s.enabled && d.enabled .prot) || (2 ≤ c && cmdCode c < cmdCode s.cmd) ||
      ((c == 4 || c == 5) && 7 < d.pg g .PROT_PG_STAT_TOP_CODE))) .state

/-- The selected group. -/
def Dev.pgSel (d : Dev) : Nat := d.rd .prot .PROT_PG_SEL_GROUP

/-- What rejects a write at an offset of the PROT page. -/
def Dev.protRej (d : Dev) (off : Nat) (old v : Word) : List Rej :=
  match off with
  | 0x024 => d.pgCfgRej d.pgSel old v
  | 0x02C => d.pgCmdRej d.pgSel v
  | _ => []

/-- What follows the groups: outputs whose sources they choose. -/
def Dev.protDone (d : Dev) (g : Nat) : Dev := (d.groupSettle g).dataSettle

/-- An accepted write of PG_CFG: an enabled group starts in NORMAL with W selected and no command (R256). -/
def Dev.pgCfgAfter (d : Dev) (g : Nat) (old v : Word) : Dev :=
  let now := Fld.PROT_PG_CFG_ENABLE.get v == 1
  let s := d.group g
  let fresh : GroupI := { enabled := now, audio := s.audio, audioI := s.audioI, audioFrom := s.audioFrom, pairs := s.pairs }
  (d.setGroup g (if now && Fld.PROT_PG_CFG_ENABLE.get old == 1 then s else fresh)).protDone g

/-- An accepted write of PG_TIME: a running timer keeps its start and uses the new limit (R254). -/
def Dev.pgTimeAfter (d : Dev) (g : Nat) (old v : Word) : Dev :=
  let gone := Fld.PROT_PG_TIME_WTR.get old - d.pg g .PROT_PG_STAT_WTR_LEFT
  let left := Fld.PROT_PG_TIME_WTR.get v - gone
  let d := if !((d.group g).wtr) then d
    else if left == 0 then d.setGroup g { d.group g with wtr := false }
    else d.wrB .prot g .PROT_PG_STAT_WTR_LEFT left
  d.protDone g

/-- A command of PG_CMD (R265). -/
def Dev.pgCommand (d : Dev) (g c : Nat) : Dev :=
  if c == 0 then d else (d.setGroup g { d.group g with cmd := if c == 1 then 0 else c }).protDone g

/-- PROT.CTL commands. -/
def Dev.protCtl (d : Dev) (v : Word) : Dev :=
  let g := d.pgSel
  let d := if Fld.PROT_CTL_CNT_CLR.get v == 1 then (d.setReg (regKey .prot g 0x034) 0).setReg (regKey .prot g 0x038) 0 else d
  if Fld.PROT_CTL_PM_CLR.get v == 1 then d.pmClear else d

/-- What follows an accepted write at an offset of the PROT page. -/
def Dev.protAfter (d : Dev) (off : Nat) (old v : Word) : Dev :=
  match off with
  | 0x008 => d.protSettle.dataSettle
  | 0x024 => d.pgCfgAfter d.pgSel old v
  | 0x028 => d.pgTimeAfter d.pgSel old v
  | 0x02C => d.pgCommand d.pgSel (Fld.PROT_PG_CMD_CMD.get v)
  | 0x060 => d.pmSecWrite old v
  | 0x064 => d.protCtl v
  | _ => d

/-- PROT_HOLDOFF_EXPIRY: a condition has lasted HOLDOFF and becomes a request (R262). -/
def Dev.holdoffExpiry (d : Dev) (g member : Nat) (degrade : Bool) : Dev :=
  let c := d.groupCond g
  let s := d.group g
  let s := match member, degrade with
    | 0, false => { s with sfW := s.sfW || c.1 }
    | 0, true => { s with sdW := s.sdW || c.2.1 }
    | _, false => { s with sfP := s.sfP || c.2.2.1 }
    | _, true => { s with sdP := s.sdP || c.2.2.2 }
  if (d.group g).enabled then (d.setGroup g s).protDone g else d

/-- PROT_WTR_EXPIRY: the wait to restore ends (R264). -/
def Dev.pgWtrExpiry (d : Dev) (g : Nat) : Dev :=
  if (d.group g).wtr then (d.setGroup g { d.group g with wtr := false }).protDone g else d

end Sys2Proof.Machine
end

