-- ==== Sys2Proof/Machine/Reset.lean ====
section
/-! DEFINITION. The resets of Table 20.1: what each returns to its reset value and what it leaves, the control cores' reset, and the
power-on sequence (R408 to R420). -/

namespace Sys2Proof.Machine

/-- The live views of the supply monitors and of the deferral (R424). -/
def Dev.supSettle (d : Dev) : Dev :=
  (d.wr .pwr .PWR_SUP_STAT_WARN (d.pwr.warn.foldl (fun a r => a ||| 2 ^ r) 0)).wrOn .pwr .PWR_SUP_STAT_DEFER d.deferring

/-- Some rail that defers takes is in warning. -/
def Dev.dipNow (d : Dev) : Bool := d.pwr.warn.any (fun r => (d.rd .pwr .PWR_SUP_CFG_DEFER).testBit r)

/-- Takes become deferred while a deferring rail is in warning (R424). -/
def Dev.deferSettle (d : Dev) : Dev := (if d.dipNow && !d.deferring then d.deferBegin else d).supSettle

/-! ### Control cores -/

/-- A control core's state. -/
def Dev.core (d : Dev) (c : Nat) : CoreI := Map.get (fun _ => {}) d.cores c
/-- Write it. -/
def Dev.setCore (d : Dev) (c : Nat) (v : CoreI) : Dev := { d with cores := Map.put (fun _ => {}) d.cores c v }

/-- A CORE reset of CCc: master Mc ends under R362, the interrupt controller acts on R397, and of SLEEP bit c only clears. -/
def Dev.coreReset (d : Dev) (c : Nat) : Dev :=
  let d := (d.masterEnd c).intcCore c
  let sleep := d.rd .pwr .PWR_CORE_CTL_SLEEP
  let d := d.resetRegs .core (fun _ => true)
  (d.wr .pwr .PWR_CORE_CTL_SLEEP (sleep &&& (15 ^^^ 2 ^ c))).setCore c {}

/-- CCc runs exactly while nothing holds it: held, it takes its CORE reset; released, it starts at its reset vector (R412, R436). -/
def Dev.coreSettle (d : Dev) (c : Nat) : Dev :=
  if d.coreHeld c then if (d.core c).on then d.coreReset c else d
  else if (d.core c).on then d
  else (d.setCore c ⟨true, d.reg (regKey .boot 0 (0x030 + 4 * c))⟩).wakeSettle

/-- Every core follows what holds it. -/
def Dev.coresSettle (d : Dev) : Dev := [0, 1, 2, 3].foldl (fun e c => e.coreSettle c) d

/-! ### DATA, TIMING and MGMT resets -/

/-- A DATA reset begins: lanes, framers, mappers, aligner, walls and connection memory, gates, frame store (Table 20.1). -/
def Dev.dataReset (d : Dev) : Dev :=
  let d := d.resetRegs .data (fun _ => true)
  let d := { d with
    lanes := [], plls := [], framers := [], tiles := [], pm := [], groups := [], pmNext := none
    tctx := [], actx := [], uctx := [], takes := [], probes := [], gates := {}, chans := [], delays := []
    outs := [], streams := [], slots := [], gens := [], meters := [], deembs := [], tlrx := [], tltx := [], protAud := [] }
  (d.memLose.wallsStart).refsSettle

/-- A TIMING reset begins: domains off, inputs disabled, the house timebase at XO_CAL, every take group IDLE, an armed swap cancelled
(Table 20.1, R413). -/
def Dev.timingReset (d : Dev) : Dev :=
  let d := ((List.range 16).foldl (fun e k => e.domStop k) d).takesIdle.swapCancel
  let d := d.resetRegs .timing (fun _ => true)
  let d := { d with
    refs := [], doms := [], fps := []
    tmu := { cal := d.tmu.cal, dco := d.tmu.cal } }
  (((d.gensSettle).outSettle).fsSettle).alarmSettle

/-- A MGMT reset begins: transfers end first (R363), then cores, matrix, interrupt controller, counters, queues, HOST and BOOT. -/
def Dev.mgmtReset (d : Dev) : Dev :=
  let d := (List.range 9).foldl (fun e m => e.masterEnd m) d
  let d := (d.resetRegs .mgmt (fun _ => true)).queuesClear
  { d with
    intc := {}, pmc := {}, cores := [], mtx := {}
    host := { perst := d.host.perst }
    boot := { due := false }
    jtag := { d.jtag with wait := false } }

/-- A commanded reset of kind `cmd` begins (R409): RST_STAT shows it. -/
def Dev.commandedReset (d : Dev) (cmd : Nat) : Dev :=
  let d := (d.wr .pwr .PWR_RST_STAT_LAST cmd).wrOn .pwr .PWR_RST_STAT_BUSY true
  if cmd == 1 then d.mgmtReset else if cmd == 2 then d.dataReset else d.timingReset

/-! ### PIN and power-on reset -/

/-- Causes of a device reset: 0 POR, 1 PIN, 2 SUPPLY, 3 THERMAL, 4 SOFT (AON.RESET_CAUSE). -/
def Dev.causeAdd (d : Dev) (c : Nat) (holds : Bool) : Dev :=
  { d with pwr := { d.pwr with
      seen := if d.pwr.seen.contains c then d.pwr.seen else d.pwr.seen ++ [c]
      active := if holds && !(d.pwr.active.contains c) then d.pwr.active ++ [c] else d.pwr.active
      xoOk := d.pwr.xoOk && !holds } }

/-- A cause of the device reset ends. -/
def Dev.causeEnd (d : Dev) (c : Nat) : Dev := { d with pwr := { d.pwr with active := d.pwr.active.filter (· != c) } }

/-- Ticks of the always-on clock since WAKE_TIMER was started, and the clock's phase then, in 1/40,000,000 of its period (R454). -/
def Dev.timerEdges (d : Dev) : Nat × Nat :=
  let x := (d.xo.toNat + 2 ^ 48 - d.pwr.timerAt) % 2 ^ 48 * 32768 + d.pwr.timerPhase
  (x / 40000000, x % 40000000)

/-- What a read of WAKE_TIMER.TICKS returns: the count left at the last edge while the timer counts. -/
def Dev.timerTicks (d : Dev) : Nat :=
  let t := d.rd .aon .AON_WAKE_TIMER_TICKS
  if d.on .aon .AON_WAKE_TIMER_ENABLE then t - (d.timerEdges).1 else t

/-- The timer goes on from what it now shows, `gone` edges later, as the XO tick count restarts at 0. -/
def Dev.timerRebase (d : Dev) (gone : Nat) : Dev :=
  let d' := d.wr .aon .AON_WAKE_TIMER_TICKS (d.timerTicks - gone)
  { d' with pwr := { d'.pwr with timerAt := 0, timerPhase := (d.timerEdges).2 } }

/-- Everything but the AON page and the supply monitors at reset (Table 20.1): SRAM zero, frame store and line-engine memories
undefined, XO_IN to be checked anew. -/
def Dev.pinClear (d0 : Dev) : Dev :=
  let d := d0.timerRebase 0
  { regs := (d.resetRegs .pin (fun _ => true)).regs
    free := d.free
    resp := d.resp
    memGen := d.memGen + 1
    memGenB := d.memGenB + 1
    lengGen := d.lengGen + 1
    deferring := d.deferring
    gpioPins := d.gpioPins
    host := { perst := d.host.perst }
    boot := { due := false }
    jtag := { d.jtag with wait := false }
    pwr := { d.pwr with
      run := .pin, xoOk := false, waking := false, tempWarn := false, memCfg := none, memCfgB := none } }

/-- A PIN reset begins with cause `c`, or the cause joins a device reset that runs (R408, R411). -/
def Dev.pinReset (d : Dev) (c : Nat) (holds : Bool) : Dev :=
  let d := if d.pwr.run == .none then
      (({ d with pwr := { d.pwr with seen := [], active := [] } }).pinClear).deferSettle
    else d
  d.causeAdd c holds

/-- Power-on reset: everything, the AON page included (R420). -/
def Dev.porReset (d : Dev) : Dev :=
  let d := d.pinClear
  let d := { d with
    regs := []
    jtag := {}
    pwr := { run := .powerOn, xoOk := false, warn := d.pwr.warn, seen := d.pwr.seen, active := d.pwr.active } }
  d.deferSettle.causeAdd 0 (!d.pwr.warn.isEmpty)

/-- The cause that RESET_CAUSE records: the first of POR, SUPPLY, THERMAL, PIN and SOFT (R411). -/
def causeOf (seen : List Nat) : Nat := (([0, 2, 3, 1, 4] : List Nat).find? (fun c => seen.contains c)).getD 0

/-- RESET_SEQUENCE_END: BOOTMODE is sampled, RESET_CAUSE written, the boot loader starts (R47, R411, R420). -/
def Dev.resetEnd (d : Dev) (bootmode : Nat) : Dev :=
  if d.pwr.run == .none || !d.pwr.active.isEmpty || !d.pwr.xoOk then d
  else
    let d := d.wr .dev .DEV_STRAP_BOOTMODE bootmode
    let d := (d.wr .aon .AON_RESET_CAUSE_CAUSE (causeOf d.pwr.seen)).wrOn .aon .AON_RESET_CAUSE_WOKE false
    let d := { d with pwr := { d.pwr with run := .none, seen := [] }, boot := { d.boot with due := true } }
    d.supSettle.intcRelevel

end Sys2Proof.Machine
end

