-- ==== Sys2Proof/Machine/Power.lean ====
section
/-! DEFINITION. Power states, wake from DORMANT, supply and temperature monitors, FAULT_N, the wake timer and the brownout log
(R415 to R427, R454), and the margin monitor and handshake watchdogs (R62 to R64). -/

namespace Sys2Proof.Machine

/-! ### Lanes as a whole -/

/-- Reference inputs, synchronisers, the take engine and outputs with no domain follow the lanes. -/
def Dev.rxFollow (d : Dev) : Dev := (((d.refsSettle).fsSettle).outSettle).dataSettle

/-- A receive lane has changed: a FOLLOW transmitter (R81, R136), and what `rxFollow` names, follow it. -/
def Dev.rxSettle (d : Dev) (l : Nat) : Dev :=
  (if l < 144 then (d.followSettle l).routeBlank l else d.bondErrs (l - 144)).rxFollow

/-- Some direction of a lane is configured. -/
def Dev.laneUsed (d : Dev) (l : Nat) : Bool :=
  if l < 144 then d.rxMode l != 0 || txWordMode (d.txcfg l) != 0
  else d.rd (rxPage l) .TLL_CFG_RXMODE != 0 || d.rd (rxPage l) .TLL_CFG_TXMODE != 0

/-- Every configured lane starts again, or stops, as the power state now has it (R87, R89). -/
def Dev.lanesRestart (d : Dev) : Dev :=
  (((List.range 160).filter (fun l => d.laneUsed l)).foldl (fun e l => e.laneEnable l) d).rxFollow

/-- RESET_COMPLETE: a commanded reset ends (R410, R397), and after a DATA reset the lanes start (R87). -/
def Dev.resetComplete (d : Dev) : Dev :=
  if !(d.on .pwr .PWR_RST_STAT_BUSY) then d
  else
    let mgmt := d.resetRuns 1
    let data := d.resetRuns 2
    let d := d.wrOn .pwr .PWR_RST_STAT_BUSY false
    let d := if data then d.lanesRestart else d
    (if mgmt then d.intcRelevel else d).coresSettle

/-! ### Power states (R415 to R417) -/

/-- What rejects a write of PWR.STATE (R415). -/
def Dev.pwrStateRej (d : Dev) : List Rej := rejIf (d.on .pwr .PWR_STATE_BUSY) .state

/-- MEMCs that are in self-refresh leave it and retrain (R416). -/
def Dev.memcsWake (d : Dev) : Dev :=
  [0, 1].foldl (fun e m => if e.mc m .MEMC_STAT_STATE == 3 then e.wr (.memc m) .MEMC_STAT_STATE 1 else e) d

/-- An accepted write of REQ starts the change to another state; of the wake from STANDBY also the MEMCs. -/
def Dev.pwrRequest (d : Dev) : Dev :=
  let req := d.rd .pwr .PWR_STATE_REQ
  if req == d.rd .pwr .PWR_STATE_CUR then d
  else
    let d := d.wrOn .pwr .PWR_STATE_BUSY true
    if req == 0 then d.memcsWake else d

/-- Fields that show the power state itself, and so are not lost on entry into STANDBY and on the wake: a lane's assigned synthesiser
(R416, log 50), and MEMC.STAT.STATE, which shows SELF_REFRESH and then READY. -/
def standbyKeeps (d : Dev) (e : Dev) : Dev :=
  let e := [0, 1].foldl (fun (e : Dev) m => e.wr (.memc m) .MEMC_STAT_STATE (d.mc m .MEMC_STAT_STATE)) e
  (List.range 144).foldl (fun (e : Dev) n => e.wr (.lane n) .LANE_LSTAT_TX_SYNTH (d.rd (.lane n) .LANE_LSTAT_TX_SYNTH)) e

/-- Ready MEMCs enter self-refresh (R300). -/
def Dev.memcsRest (d : Dev) : Dev :=
  [0, 1].foldl (fun e m => if e.memcReady m then e.wr (.memc m) .MEMC_STAT_STATE 3 else e) d

/-- STANDBY is reached (R416): lanes idle, memories in self-refresh, fields not kept by S at reset. -/
def Dev.standbyEnter (d : Dev) : Dev :=
  let d := ((d.wr .pwr .PWR_STATE_CUR 1).memcsRest).lanesRestart
  standbyKeeps d (d.resetRegs .standby (fun _ => true))

/-- DORMANT is reached (R417): every expert half closes; what DORMANT loses, its wake returns to reset (R418, Table 20.3). -/
def Dev.dormantEnter (d : Dev) : Dev :=
  let d := ((d.memcsRest).closeHalves).wr .pwr .PWR_STATE_CUR 2
  { d with pwr := { d.pwr with memCfg := some (d.memcCfg 0), memCfgB := some (d.memcCfg 1) } }

/-- ACTIVE is reached from STANDBY: fields not kept by S are at reset (R8), RESERVED is what the channels reserve, and lanes and frame-store
channels start again, the transmit lanes in WAIT_PLL (R87, R300). -/
def Dev.activeEnter (d : Dev) : Dev :=
  let e := standbyKeeps d (d.resetRegs .standby (fun _ => true))
  ((((e.reserveAgain 0).reserveAgain 1).wr .pwr .PWR_STATE_CUR 0).fstWake).lanesRestart.txWake

/-- Every enabled MEMC is READY (R416). -/
def Dev.memcsReady (d : Dev) : Bool := [0, 1].all (fun m => !(d.enabled (.memc m)) || d.memcReady m)

/-- STATE_DONE: the requested state is reached (R415). -/
def Dev.stateDone (d : Dev) : Dev :=
  let req := d.rd .pwr .PWR_STATE_REQ
  if !(d.on .pwr .PWR_STATE_BUSY) || (req == 0 && !d.memcsReady) then d
  else
    let d := if req == 0 then d.activeEnter else if req == 1 then d.standbyEnter else d.dormantEnter
    (d.wrOn .pwr .PWR_STATE_BUSY false).setEvt .pwr 8

/-! ### Wake from DORMANT (R418, R419) -/

/-- The sources that can raise events in DORMANT (R418). -/
def wakeSource (s : Nat) : Bool := s == 265 || s == 267 || s == 312 || (328 ≤ s && s ≤ 335)

/-- DORMANT_WAKE: an event of a source in the wake set; `ticks` edges of the always-on clock have passed in DORMANT. -/
def Dev.dormantWake (d : Dev) (s ticks : Nat) : Dev :=
  if d.pwr.run != .none || d.pwr.waking || d.rd .pwr .PWR_STATE_CUR != 2 || !(wakeSource s && d.watched s) then d
  else
    let d := d.timerRebase ticks
    let d := { d with xo := 0, pwr := { d.pwr with waking := true, xoOk := false } }
    (d.wr .aon .AON_RESET_CAUSE_WAKE_SRC s).wrOn .aon .AON_RESET_CAUSE_WOKE true

/-- The core domains are powered again (Table 20.3, steps 3 and 4): what lacks Z is at reset, banks without RETAIN are zero, the frame
store keeps its content, the boot loader starts. -/
def Dev.wakeDone (d : Dev) : Dev :=
  let keep := d.rd .sramc .SRAMC_RETAIN_BANK
  let e : Dev :=
    { regs := (d.resetRegs .dormant (fun _ => true)).regs
      free := d.free
      sram := d.sram.filter (fun x => keep.testBit (min (x.1 / 262144) 4))
      mem := d.mem
      memGen := d.memGen
      memGenB := d.memGenB
      lengGen := d.lengGen + 1
      deferring := d.deferring
      gpioPins := d.gpioPins
      host := { perst := d.host.perst }
      jtag := { d.jtag with wait := false }
      pwr := { d.pwr with waking := false, xoOk := true, tempWarn := false, hot := false } }
  e.deferSettle.intcRelevel

/-- XO_CHECK_DONE: XO_IN has run 4,096 periods (R48), which starts once no cause of a device reset holds; the reset or the wake goes on. -/
def Dev.xoCheck (d : Dev) : Dev :=
  if d.pwr.run != .none then
    if d.pwr.active.isEmpty then { d with pwr := { d.pwr with xoOk := true } } else d
  else if d.pwr.waking then d.wakeDone
  else d

/-! ### Supply monitors, the deferral and the brownout log (R421 to R425) -/

/-- Field `f` of log entry `i`. -/
def logFld (f : Fld) (i : Nat) : Fld := f.nth i

/-- A brownout-log entry opens for a rail (R425). -/
def Dev.logOpen (d : Dev) (rail mv : Nat) : Dev :=
  let i := d.rd .aon .AON_LOG_HEAD_NEXT
  let d := if d.on .aon (logFld .AON_LOG_A_VALID i) then d.inc .aon .AON_LOG_HEAD_OVERWRITTEN else d
  let d := d.setReg (regKey .aon 0 (0x080 + 8 * i)) (BitVec.ofNat 32 (2 ^ 29 + rail * 2 ^ 24 + mv % 4096))
  let d := d.setReg (regKey .aon 0 (0x084 + 8 * i)) (BitVec.ofNat 32 (d.pwr.seq % 256 * 2 ^ 24))
  let d := d.wr .aon .AON_LOG_HEAD_NEXT ((i + 1) % 16)
  { d with pwr := { d.pwr with
      opens := (d.pwr.opens.filter (fun x => x.2 != i)) ++ [(rail, i)]
      seq := (d.pwr.seq + 1) % 256 } }

/-- The entry that a rail has open. -/
def Dev.openEntry (d : Dev) (rail : Nat) : Option Nat := (d.pwr.opens.find? (fun x => x.1 == rail)).map (·.2)

/-- RAIL_WARNING_ENTER (R423): `steps` is the level in steps of 5 mV. -/
def Dev.railEnter (d : Dev) (rail steps : Nat) : Dev :=
  if d.pwr.warn.contains rail then d
  else
    let e := ({ d with pwr := { d.pwr with warn := d.pwr.warn ++ [rail] } }).logOpen rail (5 * steps)
    (if d.stopped then e else (e.inc .pwr .PWR_SUP_CNT_WARNS).addEvent 267).deferSettle

/-- The entry that a rail has open closes with the lowest level in millivolts and the time in microseconds (R425). -/
def Dev.logClose (d : Dev) (rail mv us : Nat) : Dev :=
  match d.openEntry rail with
  | some i =>
    let mv := min (d.rd .aon (logFld .AON_LOG_A_MIN_MV i)) (mv % 4096)
    let d := (d.wr .aon (logFld .AON_LOG_A_MIN_MV i) mv).wrOn .aon (logFld .AON_LOG_A_OPEN i) false
    let d := (d.wrOn .aon (logFld .AON_LOG_A_VALID i) true).wr .aon (logFld .AON_LOG_B_DUR_US i) (min us 16777215)
    ({ d with pwr := { d.pwr with opens := d.pwr.opens.filter (fun x => x.1 != rail) } }).setEvt .aon 9
  | none => d

/-- RAIL_WARNING_LEAVE (R423, R425): `steps` is the lowest level in steps of 5 mV, `us` the time in warning. -/
def Dev.railLeave (d : Dev) (rail steps us : Nat) : Dev :=
  if !(d.pwr.warn.contains rail) then d
  else
    let left := d.pwr.warn.filter (· != rail)
    let e := ({ d with pwr := { d.pwr with warn := left } }).logClose rail (5 * steps) us
    let e := if d.stopped then e else e.setEvt .pwr 9
    (if left.isEmpty then (e.causeEnd 2).causeEnd 0 else e).supSettle

/-- RAIL_RESET_LEVEL (R422): the rail, in warning, falls below its reset level; VAON, rail 6, causes a power-on reset. -/
def Dev.railReset (d : Dev) (rail : Nat) : Dev :=
  if !(d.pwr.warn.contains rail) then d
  else
    let d := match d.openEntry rail with
      | some i => d.wrOn .aon (logFld .AON_LOG_A_RESET i) true
      | none => d
    if rail == 6 then d.porReset else d.pinReset 2 true

/-- DEFER_END: 1 ms has passed with no deferring rail in warning (R424). -/
def Dev.deferEnd (d : Dev) : Dev :=
  if !d.deferring || d.dipNow then d
  else if d.stopped then ({ d with deferring := false }).supSettle
  else (((d.deferFinish.swapRearm).supSettle).inc .pwr .PWR_SUP_CNT_DEFERS).setEvt .pwr 10

/-- LOG_CTL.CLR: every closed entry, NEXT and OVERWRITTEN. -/
def Dev.logClr (d : Dev) : Dev :=
  let d := (List.range 16).foldl (fun e i =>
    if e.on .aon (logFld .AON_LOG_A_OPEN i) then e
    else (e.setReg (regKey .aon 0 (0x080 + 8 * i)) 0).setReg (regKey .aon 0 (0x084 + 8 * i)) 0) d
  (d.wr .aon .AON_LOG_HEAD_NEXT 0).wr .aon .AON_LOG_HEAD_OVERWRITTEN 0

/-! ### Temperature, FAULT_N and the wake timer -/

/-- TEMP_READING: the highest sensor in 0.25 °C (R426); during a THERMAL reset, whether it may end. -/
def Dev.tempReading (d : Dev) (q : Int) : Dev :=
  let d := { d with pwr := { d.pwr with hot := 500 ≤ q } }
  if d.stopped then if q < 400 then d.causeEnd 3 else d
  else
    let warn : Int := d.rd .pwr .PWR_TEMP_CFG_WARN
    let d := d.wr .pwr .PWR_TEMP_MAX (q % 4096).toNat
    if warn * 4 ≤ q then ({ d with pwr := { d.pwr with tempWarn := true } }).setEvtIf (!d.pwr.tempWarn) .pwr 11
    else if q < (warn - 5) * 4 then { d with pwr := { d.pwr with tempWarn := false } }
    else d

/-- THERMAL_SHUTDOWN: a reading of 125 °C or more has lasted 1 ms (R426). -/
def Dev.thermalShutdown (d : Dev) : Dev := if d.pwr.hot && !d.stopped then d.pinReset 3 true else d

/-- FAULT_N is driven low (R45, R427): never while VAON, rail 6, is not good. -/
def Dev.faultLow (d : Dev) : Bool :=
  if d.pwr.warn.contains 6 then false
  else if d.pwr.run != .none then true
  else if d.stopped then !d.pwr.warn.isEmpty
  else
    let en := d.rd .pwr .PWR_FAULT_EN_EN
    (en.testBit 0 && !d.pwr.warn.isEmpty) || (en.testBit 1 && d.pwr.tempWarn) ||
      (en.testBit 2 && d.on .cgate .CGATE_STAT_BOTH_ZERO) ||
      (en.testBit 3 && [0, 1].any (fun w => d.wallState w == 2)) ||
      (en.testBit 4 && (d.rd .tmu .TMU_STAT_STATE == 3 || (d.rd .tmu .TMU_STAT_STATE == 0 && d.tmu.wasLocked))) ||
      d.on .pwr .PWR_FAULT_EN_FORCE

/-- A write of WAKE_TIMER: the timer starts at a phase of the always-on clock that nothing fixes (R454). -/
def Dev.timerWrite (d : Dev) : Dev :=
  if d.on .aon .AON_WAKE_TIMER_ENABLE then
    let (x, d) := d.draw 32
    { d with pwr := { d.pwr with timerAt := d.xo.toNat, timerPhase := x.toNat % 40000000 } }
  else d

/-- WAKE_TIMER_EXPIRY: TICKS reaches 0 (R454). -/
def Dev.timerExpiry (d : Dev) : Dev :=
  if d.on .aon .AON_WAKE_TIMER_ENABLE then
    ((d.wr .aon .AON_WAKE_TIMER_TICKS 0).wrOn .aon .AON_WAKE_TIMER_ENABLE false).setEvt .aon 8
  else d

/-! ### Margin monitor and handshake watchdogs -/

/-- One region's window (R62). -/
def Dev.marginPut (d : Dev) (n v : Nat) : Dev :=
  let v := min v 511
  (d.wr .dev (Fld.nth .DEV_MARGIN_NOW n) v).wr .dev (Fld.nth .DEV_MARGIN_MIN n) (min v (d.rd .dev (Fld.nth .DEV_MARGIN_MIN n)))

/-- MARGIN_WINDOW_END: every region's margin in 0.01, truncated, and FAB_MARGIN (R62, R63). -/
def Dev.marginWindow (d : Dev) (ns : List Nat) : Dev :=
  let d := ns.zipIdx.foldl (fun e x => e.marginPut x.2 x.1) d
  let now := fun n => d.rd .dev (Fld.nth .DEV_MARGIN_NOW n)
  let low := [0, 1, 2, 3].any (fun n => now n < d.rd .dev .DEV_MARGIN_CFG_WARN_LEVEL)
  let high := [0, 1, 2, 3].all (fun n => d.rd .dev .DEV_MARGIN_CFG_CLEAR_LEVEL ≤ now n)
  if low then ({ d with fabMargin := true, marginRun := 0 }).setEvtIf (!d.fabMargin) .dev 8
  else if high then
    { d with marginRun := min (d.marginRun + 1) 16, fabMargin := d.fabMargin && d.marginRun + 1 < 16 }
  else { d with marginRun := 0 }

/-- An expiry counts in WDOG_CNT and sets its event (R64). -/
def Dev.wdogCount (d : Dev) (mgmt : Bool) : Dev :=
  if mgmt then (d.inc .dev .DEV_WDOG_CNT_MGMT).setEvt .dev 10 else (d.inc .dev .DEV_WDOG_CNT_DATA).setEvt .dev 9

/-- HANDSHAKE_WATCHDOG_EXPIRY (Table 3.3). The brick or sample that an ingress or egress expiry loses is an item of its course or house
sample period: an egress brick as one that the transmit elastic buffer lacks. An engine that is not RUNNING or that is on a WAIT, and a master in a stalled queue read
(R65), run no watchdog. -/
def Dev.wdogExpiry (d : Dev) (s : WdogStage) : Dev :=
  match s with
  | .wall w => ((d.wdogCount false).diag w.val .watchdog).outSettle.dataSettle
  | .ingress => d.wdogCount false
  | .egress => d.wdogCount false
  | .lineEngine n => if d.watchable n.val then (d.wdogCount true).lengWatchdog n.val else d
  | .management m isWrite addr =>
    if (d.stallOf m.val).isSome then d else (d.wdogCount true).timeoutErr m.val (targetAt addr) addr isWrite false

end Sys2Proof.Machine
end

