-- ==== Sys2Proof/Machine/Balls.lean ====
section
/-! DEFINITION. What the output balls carry (Table 2.6, R44, R45, R51, R276, R279, R294, R295, R332, R395, R427). A ball that carries data only while a
frame, a shift or a flash access lasts (SPI_MISO, JTAG_TDO, QSPI) is given as between them. -/

namespace Sys2Proof.Machine

/-- What a ball carries: nothing (high impedance), a level, or a square wave of 50 % duty at `num` / `den` Hz. -/
inductive Drive where
  | z | low | high
  | clock (num den : Nat)
  deriving DecidableEq, Repr

/-- A level as what a ball carries. -/
def driveOf (b : Bool) : Drive := if b then .high else .low

/-- An open-drain ball: driven low or not driven. -/
def openDrain (b : Bool) : Drive := if b then .low else .z

/-- A device reset runs: power-on or PIN. -/
def Dev.inReset (d : Dev) : Bool := d.pwr.run != .none

/-- The LVO and LVB balls are high impedance: some rail has not been good since the device reset began (R51, log 123), or JTAG HIGHZ (R442). -/
def Dev.ballsOff (d : Dev) : Bool := (d.inReset && !d.pwr.warn.isEmpty) || d.jtag.tap == .highz

/-- An output ball, by its state "In reset" and in DORMANT, and what it carries otherwise (R44). -/
def Dev.ball (d : Dev) (rest : Drive) (live : Drive) : Drive :=
  if d.ballsOff then .z else if d.stopped then rest else live

/-- FAULT_N (R45, R427): high impedance while VAON, rail 6, is not good. -/
def Dev.faultN (d : Dev) : Drive := if d.jtag.tap == .highz then .z else openDrain d.faultLow

/-- INT_N (R395): low while a HOST slot holds a committed source that is not yet claimed; Z in reset and DORMANT. -/
def Dev.intN (d : Dev) : Drive :=
  d.ball .z (openDrain (d.on .intc .INTC_CFG_HOST_PIN && ((d.slotOf 4 0).isSome || (d.slotOf 4 1).isSome)))

/-- WALL_A_OK and WALL_B_OK (R332): high while the wall is ACTIVE or STANDBY, low in reset and DORMANT. -/
def Dev.wallOk (d : Dev) (w : Nat) : Drive := d.ball .low (driveOf (d.wallState w < 2))

/-- TM_STATE[i] (R279). -/
def Dev.tmState (d : Dev) (i : Nat) : Drive := d.ball .low (driveOf ((d.tf .TMU_STAT_STATE).testBit i))

/-- TM_ALARM (R276). -/
def Dev.tmAlarm (d : Dev) : Drive := d.ball .low (driveOf (d.tf .TMU_STAT_ALARM == 1))

/-- FP[n] (R294): the active level of POL for WIDTH µs from the start of a pulse, and the other level between pulses; low while ENABLE = 0, while the
domain is off, and where the domain's format has no line LINE. -/
def Dev.fpBall (d : Dev) (n : Nat) : Drive :=
  let f := fun (f : Fld) => d.rd .tmu (f.nth n)
  let fmt := d.domFmt (f .TMU_FP_CFG_TDOM)
  let p := Map.get (fun _ => {}) d.fps n
  let active := p.count != 0 && d.since p.start < 40 * f .TMU_FP_CFG_WIDTH
  d.ball .low (driveOf (f .TMU_FP_CFG_ENABLE == 1 && fmt != 0 && f .TMU_FP_CFG_LINE ≤ fmtLines fmt &&
    active == (f .TMU_FP_CFG_POL == 0)))

/-- The frequency that a FREQ code names, divided by 1.001 where FAM is 1 (R295). -/
def clkDrive (freq fam : Nat) : Drive :=
  let hz := match freq with
    | 1 => 27000000
    | 2 => 74250000
    | _ => 148500000
  if freq == 0 then .low else if fam == 1 then .clock (1000 * hz) 1001 else .clock hz 1

/-- CLK_OUT[n] (R295). -/
def Dev.clkOut (d : Dev) (n : Nat) : Drive :=
  d.ball .low (if n == 0 then clkDrive (d.tf .TMU_CLK_CFG_FREQ0) (d.tf .TMU_CLK_CFG_FAM0)
    else clkDrive (d.tf .TMU_CLK_CFG_FREQ1) (d.tf .TMU_CLK_CFG_FAM1))

/-- WCLK_OUT (R295): 48 kHz, rising with each house sample period, while WCLK_EN = 1. -/
def Dev.wclkOut (d : Dev) : Drive := d.ball .low (if d.tf .TMU_AUD_CFG_WCLK_EN == 1 then .clock 48000 1 else .low)

/-- GPIO[i] as driven by the block (R54): an input in reset; in DORMANT the level that it had at entry is held. -/
def Dev.gpioDrive (d : Dev) (i : Nat) : Drive :=
  if d.ballsOff || d.inReset || !((d.rd .dev .DEV_GPIO_DIR_DIR).testBit i) then .z
  else driveOf ((d.rd .dev .DEV_GPIO_OUT_OUT).testBit i)

/-- QSPI_CS_N between flash accesses, and QSPI_SCK. -/
def Dev.qspiCsN (d : Dev) : Drive := d.ball .high .high
def Dev.qspiSck (d : Dev) : Drive := d.ball .low .low

/-- SPI_MISO between frames, JTAG_TDO outside the shift states, QSPI_IO between accesses, and PCIE_CLKREQ_N. -/
def Dev.quietBall (d : Dev) : Drive := d.ball .z .z

/-- A transmit lane is in electrical idle (R51, R87): in reset and DORMANT, and in every TX_STATE but ACTIVE and TEST. -/
def Dev.txIdle (d : Dev) (l : Nat) : Bool :=
  d.stopped || d.lanesIdle ||
    !([2, 4].contains (if l < 144 then d.rd (.lane l) .LANE_LSTAT_TX_STATE else d.rd (rxPage l) .TLL_LSTAT_TX_STATE))

end Sys2Proof.Machine
end

