-- ==== Sys2Proof/Machine/BlockReset.lean ====
section
/-! DEFINITION. BLOCK resets of each page (R17 and the chapters of the pages), and register writes of PWR, AON, DEV, HOST and BOOT
with what they do. -/

namespace Sys2Proof.Machine

/-! ### PWR, AON and DEV -/

/-- What rejects a write of PWR.RESET (R409). -/
def Dev.pwrResetRej (d : Dev) (m : Nat) : List Rej := rejIf (!(d.admin m)) .locked ++ rejIf (d.on .pwr .PWR_RST_STAT_BUSY) .state

/-- An accepted write of PWR.RESET: the reset its CMD names begins (R408, R409). -/
def Dev.pwrResetCmd (d : Dev) (c : Nat) : Dev :=
  if c == 0 then d else if c == 4 then d.pinReset 4 false else d.commandedReset c

/-- An accepted write of CORE_CTL (R412). A core named by RESET takes a CORE reset, held or not, and restarts if nothing holds it. -/
def Dev.coreCtl (d : Dev) (v : Word) : Dev :=
  let d := d.coresSettle
  let d := [0, 1, 2, 3].foldl (fun (e : Dev) c =>
    if (Fld.PWR_CORE_CTL_RESET.get v).testBit c then (e.coreReset c).coreSettle c else e) d
  d.wakeSettle

/-- What follows an accepted write of a PWR register. -/
def Dev.pwrAfter (d : Dev) (off : Nat) (v : Word) : Dev :=
  if off == 0x020 then d.pwrRequest
  else if off == 0x024 then d.pwrResetCmd (Fld.PWR_RESET_CMD.get v)
  else if off == 0x02C then d.coreCtl v
  else if off == 0x030 then d.deferSettle
  else d

/-- What follows an accepted write of an AON register. -/
def Dev.aonAfter (d : Dev) (off : Nat) (v : Word) : Dev :=
  if off == 0x030 then d.timerWrite
  else if off == 0x038 then if Fld.AON_LOG_CTL_CLR.get v == 1 then d.logClr else d
  else d

/-- What follows an accepted write of a DEV register (R62, R64). -/
def Dev.devAfter (d : Dev) (off : Nat) (v : Word) : Dev :=
  if 0x040 ≤ off && off < 0x058 then
    if Fld.DEV_MARGIN_MIN_CLR.get v == 1 then d.wr .dev (Fld.nth .DEV_MARGIN_MIN ((off - 0x040) / 4)) 0x1FF else d
  else if off == 0x06C then if Fld.DEV_WDOG_CLR_CLEAR.get v == 1 then d.setReg (regKey .dev 0 0x068) 0 else d
  else d

/-! ### BOOT -/

/-- BOOT.STAT.STATE. -/
def Dev.bootState (d : Dev) : Nat := d.rd .boot .BOOT_STAT_STATE

/-- The loader waits for host software: WAIT_HOST or FAIL (R441). -/
def Dev.bootWaits (d : Dev) : Bool := d.bootState == 3 || d.bootState == 5

/-- The loader runs: DISCOVER or LOADING (R437, R444). -/
def Dev.bootRuns (d : Dev) : Bool := d.bootState == 1 || d.bootState == 2

/-- What rejects a write of a BOOT register (R436, R441, R443, R444). -/
def Dev.bootRej (d : Dev) (m off : Nat) (v : Word) : List Rej :=
  if off == 0x024 then
    rejIf (Fld.BOOT_CTL_LOAD_IMG.get v == 1 && !d.bootWaits) .state ++
      rejIf (Fld.BOOT_CTL_DONE.get v == 1 && (!d.bootWaits || Config.secure)) .state
  else if off == 0x028 then
    rejIf (v.toNat % 64 != 0 || v.toNat < 0x1400000 || 0x15FFFFF < v.toNat) .range
  else if 0x030 ≤ off && off < 0x040 then rejIf (v.toNat % 4 != 0) .range
  else if off == 0x040 then rejIf (!(d.admin m)) .locked
  else if off == 0x044 then rejIf (d.on .boot .BOOT_FLASH_CMD_BUSY || d.bootRuns) .state
  else []

/-- The boot enters DONE: the cores whose RUN bit is set start (R436). -/
def Dev.bootDone (d : Dev) : Dev :=
  (((d.wr .boot .BOOT_STAT_STATE 4).wr .boot .BOOT_STAT_CAUSE 0).setEvt .boot 8).coresSettle

/-- What follows an accepted write of a BOOT register (R441, R444). With LOAD_IMG and DONE both written 1, DONE stands. -/
def Dev.bootAfter (d : Dev) (off : Nat) (v : Word) : Dev :=
  if off == 0x024 then
    if Fld.BOOT_CTL_DONE.get v == 1 then d.bootDone
    else if Fld.BOOT_CTL_LOAD_IMG.get v == 1 then
      { d.wr .boot .BOOT_STAT_STATE 2 with boot := { d.boot with fromBank := true } }
    else d
  else if off == 0x044 then d.wrOn .boot .BOOT_FLASH_CMD_BUSY true
  else d

/-! ### BLOCK resets -/

/-- Both directions of an SDI lane, and the bonds it leads, go to OFF (R89). -/
def Dev.laneOff (d : Dev) (n : Nat) : Dev :=
  let tx := d.txcfg n
  let d := if txWordMode tx == 0 then d
    else (d.wr (.lane n) .LANE_TXCFG_MODE 0).txcfgApply n tx (Fld.LANE_TXCFG_MODE.put tx 0)
  let rx := d.rxcfg n
  if Fld.LANE_RXCFG_MODE.get rx == 0 then d
  else (d.wr (.lane n) .LANE_RXCFG_MODE 0).rxcfgApply n rx (Fld.LANE_RXCFG_MODE.put rx 0)

/-- The state of a lane that no register shows, at reset. -/
def Dev.laneForget (d : Dev) (l : Nat) : Dev :=
  let d := ((d.setLane l {}).setFramer l {}).setPm l {}
  (lanePositions l).foldl (fun e k => e.setTile (laneTile l k) {}) d

/-- What a BLOCK reset ends before the page's registers return to reset. -/
def Dev.blockEnd (d : Dev) (p : Page) : Dev :=
  match p with
  | .pwr => if d.rd .pwr .PWR_STATE_CUR != 0 then d.memcsWake.activeEnter else d
  | .qmg => d.masterEnd 6
  | .refin r => (d.refGo r 0).tmuEval
  | .tdom k => (d.wr (.tdom k) .TDOM_FMT_FMT 0).domRestart k
  | .lane n => d.laneOff n
  | .tll n => (d.wr (.tll n) .TLL_CFG_RXMODE 0).rxRestart (144 + n)
  | .prot => (d.groups.map (·.1)).foldl (fun e g => e.groupOff g) d
  | _ => d

/-- The block's internal state after a BLOCK reset of its page; its registers have been reset. -/
def Dev.blockClear (d : Dev) (p : Page) : Dev :=
  match p with
  | .dev => d
  | .pwr =>
    (({ d with pwr := { d.pwr with tempWarn := false } }.deferSettle).coresSettle).wakeSettle
  | .aon => d
  | .host => { d with host := { perst := d.host.perst } }
  | .boot => ({ d with boot := { due := false } }).coresSettle
  | .mtx => { d with mtx := { waits := d.mtx.waits } }
  | .intc => d.intcClear
  | .intcF => d
  | .pmc => { d with pmc := {} }
  | .qmg => d.queuesClear
  | .sramc => d
  | .tmu => { d with tmu := { cal := d.tmu.cal, dco := d.tmu.cal, wasLocked := d.tmu.wasLocked } }
  | .refin r => (d.setRef r {}).alarmSettle
  | .tdom k => d.setDom k {}
  | .fab =>
    let d := d.takesIdle
    { d with probes := [], tctx := Map.update (fun _ => {}) (fun _ c => c.unjudged) d.tctx }
  | .afab => d.afabReset
  | .wall _ => d
  | .cgate => d
  | .prot => ({ d with groups := [], pmNext := none, protAud := [] }).dataSettle
  | .fst => d.fstClear.outSettle
  | .memc _ => d
  | .lane n => (((d.laneForget n).setOut n {}).laneEnable n).rxSettle n
  | .tll n => ((((d.laneForget (144 + n)).setTlr n {}).setTlt n {}).laneEnable (144 + n)).rxSettle (144 + n)
  | .leng n => d.lengReset n

/-- A BLOCK reset of a page begins (R17): its internal state is cleared, its registers return to reset, whatever the clearing counted in
them, its expert half closes, RESET_BUSY reads 1. -/
def Dev.blockReset (d : Dev) (p : Page) : Dev :=
  let d := ((d.blockEnd p).resetRegs .block (fun q => q == p)).blockClear p
  (d.resetRegs .block (fun q => q == p)).wrOn p .PAGE_STAT_RESET_BUSY true

/-- What a block does once its BLOCK reset has ended: it follows its conditions again; level sources raise their events again after one of INTC
(R397). -/
def Dev.blockStart (d : Dev) (p : Page) : Dev :=
  match p with
  | .pwr => d.deferSettle
  | .tmu => d.tmuEval.alarmSettle
  | .fab => d.gensSettle.outSettle
  | .intc => d.intcRelevel
  | _ => d

/-- BLOCK_RESET_DONE: RESET_BUSY returns to 0. -/
def Dev.blockDone (d : Dev) (p : Page) : Dev :=
  if !(d.on p .PAGE_STAT_RESET_BUSY) then d
  else (d.wrOn p .PAGE_STAT_RESET_BUSY false).blockStart p

end Sys2Proof.Machine
end

