-- ==== Sys2Proof/Machine/Pages.lean ====
section
/-! DEFINITION. The common register page: which copy of a register a master sees, what rejects a write and in which order, what an
accepted write stores and starts, what a read returns and does (R10 to R22, R453). -/

namespace Sys2Proof.Machine

/-- The copy of a register that a master reaches: by selector, by master, or by interrupt source and routing mode. -/
def Dev.bankOf (d : Dev) (m : Nat) (p : Page) (off : Nat) : Nat :=
  match p with
  | .prot => if 0x024 ≤ off && off ≤ 0x038 then d.pgSel else 0
  | .fst =>
    if 0x024 ≤ off && off ≤ 0x048 then d.rd .fst .FST_CH_SEL_CH
    else if off == 0x054 then d.rd .fst .FST_DL_SEL_LINE else 0
  | .afab =>
    if 0x034 ≤ off && off ≤ 0x03C then d.rd .afab .AFAB_SLOT_SEL_SLOT
    else if 0x044 ≤ off && off ≤ 0x04C then d.rd .afab .AFAB_STRM_SEL_STREAM
    else if off == 0x054 then d.rd .afab .AFAB_GEN_SEL_GEN
    else if 0x05C ≤ off && off ≤ 0x064 then d.rd .afab .AFAB_MTR_SEL_TAP else 0
  | .qmg =>
    if 0x034 ≤ off && off ≤ 0x040 then d.rd .qmg .QMG_Q_SEL_QUEUE
    else if 0x050 ≤ off && off ≤ 0x078 then m else 0
  | .intc =>
    if off == 0x028 then d.srcKey m (d.rd .intc .INTC_SRC_SEL_SOURCE)
    else if 0x040 ≤ off && off < 0x080 then d.enBank m else 0
  | .pmc => if off == 0x040 || (0x100 ≤ off && off < 0x400 && off % 12 == 0x108 % 12) then m else 0
  | _ => 0

/-- The key of the register that a master reaches at a page offset. -/
def Dev.pageKey (d : Dev) (m : Nat) (p : Page) (off : Nat) : Nat := regKey p (d.bankOf m p off) off

/-! ### What rejects a write -/

/-- Pages whose ENABLE cannot be written 0. -/
def alwaysOn : Page → Bool
  | .dev | .fab | .pwr | .aon | .cgate | .mtx | .sramc | .qmg | .intc | .intcF | .host | .boot => true
  | _ => false

/-- What rejects a write of QMG (R378, R381, R383). -/
def Dev.qmgRej (d : Dev) (m off : Nat) (v : Word) : List Rej :=
  if off == 0x034 then d.qCfgRej v
  else if off == 0x05C then d.rdCtlRej m v
  else if 0x100 ≤ off && off < 0x180 then d.dmaRej ((off - 0x100) / 16) ((off - 0x100) % 16 / 4) v
  else []

/-- What rejects a write of the expert registers that LANE and TLL pages share (R92, R129). -/
def Dev.laneXRej (d : Dev) (l off : Nat) (v : Word) : List Rej :=
  if off == 0x404 then txffeRej v
  else if off == 0x408 then d.loopbackRej l v
  else if off == 0x40C then losxRej v
  else if off == 0x420 then rejIf (Fld.LANE_ALIGN_X_PTR_MAX.get v < Fld.LANE_ALIGN_X_PTR_MIN.get v + 64) .range
  else []

/-- What rejects a write of a LANE page. -/
def Dev.laneRej (d : Dev) (n off : Nat) (v : Word) : List Rej :=
  if off == 0x020 then d.rxcfgRej n v
  else if off == 0x024 then d.txcfgRej n v
  else if off == 0x030 then rejIf (4 < Fld.LANE_TESTCFG_PATTERN.get v) .range
  else if off == 0x0A0 then rejIf (Fld.LANE_ALIGNCFG_TDOM.get v != d.rd (.lane n) .LANE_ALIGNCFG_TDOM && d.protLocks n) .state
  else if off == 0x008 then
    rejIf (Fld.PAGE_CTRL_SOFT_RESET.get v == 1 && ((d.lane n).rxLead.isSome || (d.lane n).txLead.isSome)) .state
  else d.laneXRej n off v

/-- What rejects a write of a TLL page. -/
def Dev.tllRej (d : Dev) (n off : Nat) (old v : Word) : List Rej :=
  if off == 0x030 then rejIf (2 < Fld.TLL_TESTCFG_PATTERN.get v) .range
  else if 0x200 ≤ off && off < 0x240 then d.txslotRej n ((off - 0x200) / 4) old v
  else d.laneXRej (144 + n) off v

/-- What the page's own rules reject beyond its field tables. -/
def Dev.pageRejOwn (d : Dev) (m : Nat) (p : Page) (off : Nat) (old v : Word) : List Rej :=
  match p with
  | .dev =>
    if off == 0x060 then rejIf (Fld.DEV_MARGIN_CFG_CLEAR_LEVEL.get v ≤ Fld.DEV_MARGIN_CFG_WARN_LEVEL.get v) .range else []
  | .pwr => if off == 0x020 then d.pwrStateRej else if off == 0x024 then d.pwrResetRej m else []
  | .boot => d.bootRej m off v
  | .mtx => d.mtxRej m off old v
  | .intc => d.intcRej m off old v
  | .pmc => pmcRej off v
  | .qmg => d.qmgRej m off v
  | .tmu => d.tmuRej off v
  | .refin r => refinRej r off v
  | .tdom k => d.tdomRej k off old v
  | .fab =>
    if off == 0x030 then d.tgCmdRej v
    else if 0x100 ≤ off && off < 0x180 then d.genRej ((off - 0x100) / 4) v
    else []
  | .wall w => d.wallRej w off v
  | .cgate => if off == 0x024 then d.swapRej v else []
  | .prot => d.protRej off old v
  | .fst => d.fstRej off old v
  | .memc i => d.memcRej i off v
  | .lane n => d.laneRej n off v
  | .tll n => d.tllRej n off old v
  | .leng n => d.lengRej n off v
  | .aon | .host | .intcF | .sramc | .afab => []

/-- The bits of a register that a write may carry as 1; every other bit is reserved. The low two bits of PAGE_ERRADDR belong to OFFSET's row and
read 0 (log 11). -/
def RegD.bits (r : RegD) : Word :=
  r.fields.foldl (fun (a : Word) f => a ||| BitVec.ofNat 32 f.mask) (if r.off == 0x018 then 3 else 0)

/-- A field's value is one a write may carry. -/
def Fld.legal (f : Fld) (v : Word) : Bool :=
  f.acc == .ro || f.acc == .w1c || (f.mn ≤ f.get v && f.get v ≤ f.mx)

/-- The expert half of a page is open (R14). -/
def Dev.expertOpen (d : Dev) (p : Page) : Bool := d.rd p .PAGE_CTRL_EXPERT_KEY == 0x5A

/-- What rejects a full-width write by the field tables and the page header (R13, R16, R17, R19). -/
def Dev.pageRejTable (d : Dev) (p : Page) (off : Nat) (old v : Word) : List Rej :=
  match regAt p off with
  | none => [.rsvd]
  | some r =>
    rejIf (r.fields.any (fun f => f.acc == .xrw && f.get v != f.get old) && !(d.expertOpen p)) .expert ++
      rejIf (v &&& ~~~r.bits != 0) .rsvd ++ rejIf (!(r.fields.all (fun f => f.legal v))) .range ++
      rejIf (off == 0x008 && alwaysOn p && Fld.PAGE_CTRL_ENABLE.get v == 0) .range ++
      rejIf (0x020 ≤ off && d.on p .PAGE_STAT_RESET_BUSY) .state

/-- Every cause that rejects a write (R12, R19, R20). -/
def Dev.pageRej (d : Dev) (m : Nat) (p : Page) (off : Nat) (be : BitVec 4) (old v : Word) : List Rej :=
  let lock := rejIf (0x020 ≤ off && d.on p .PAGE_CTRL_LOCK) .locked
  if be != 15 then lock ++ [.rsvd]
  else lock ++ d.pageRejTable p off old v ++ d.pageRejOwn m p off old v

/-- A rejected write is recorded in the page header (R19, R21): the word offset within the page, of a rejected write of the LENG instruction store, whose
window lies beyond the page, its low 12 bits (DESIGN CHOICE, log 11). -/
def Dev.recordRej (d : Dev) (m : Nat) (p : Page) (off : Nat) (r : Rej) : Dev :=
  let again := (d.reg (regKey p 0 0x010)).getLsbD 0
  let d := (d.wr p .PAGE_ERRADDR_MASTER m).wr p .PAGE_ERRADDR_OFFSET (off % 0x1000 / 4)
  let d := d.wr p .PAGE_ERRCODE_CODE r.code
  (if again then d.wrOn p .PAGE_ERRCODE_OVERRUN true else d).setEvt p 0

/-- What a rejected write leaves beyond the page header: FST.ADMIT_ERR (R314). -/
def Dev.pageOnRej (d : Dev) (p : Page) (off : Nat) (old v : Word) (r : Rej) : Dev :=
  match p with
  | .fst => d.fstOnRej off old v r
  | .memc i => d.memcOnRej i off v r
  | _ => d

/-! ### What an accepted write does -/

/-- A register after an accepted write (R5). -/
def applyWord (r : RegD) (old v : Word) : Word :=
  r.fields.foldl (fun w f =>
    match f.acc with
    | .rw => f.put w (f.get v)
    | .xrw => f.put w (f.get v)
    | .w1c => w &&& ~~~(v &&& BitVec.ofNat 32 f.mask)
    | .wc => f.put w 0
    | .ro => w) old

/-- What follows an accepted write of QMG. -/
def Dev.qmgAfter (d : Dev) (m off : Nat) (v : Word) : Dev :=
  if off == 0x02C then d.qmgCtl v
  else if off == 0x034 then d.qCfgApply v
  else if off == 0x05C then d.rdCtl m v
  else if off == 0x070 then if d.openOf m != noOpen then d.abandon m else d
  else if off == 0x074 then d.wrData m v
  else if off == 0x078 then if Fld.QMG_WR_END_END.get v == 1 then d.wrEndWrite m (Fld.QMG_WR_END_BYTES.get v) else d
  else if 0x100 ≤ off && off < 0x180 && off % 16 == 0 then d.dmaCfgApply ((off - 0x100) / 16) v
  else d

/-- CRSCTL.CNT_CLR: CRSCNT and every JUST (R128). -/
def Dev.crsCntClr (d : Dev) (l : Nat) : Dev :=
  let p := rxPage l
  (List.range (if l < 144 then 8 else 16)).foldl (fun (e : Dev) k => e.setReg (regKey p 0 ((if l < 144 then 0x0E0 else 0x100) + 4 * k)) 0)
    (d.setReg (regKey p 0 0x0A8) 0)

/-- FRMCTL.CNT_CLR of a LANE page (R101). -/
def Dev.frmCntClr (d : Dev) (n : Nat) : Dev :=
  [0x070, 0x074, 0x078, 0x07C].foldl (fun (e : Dev) off => e.setReg (regKey (.lane n) 0 off) 0) d

/-- Transmit lanes changed: outputs and take groups follow. -/
def Dev.txFollow (d : Dev) : Dev := d.outSettle.dataSettle

/-- What follows an accepted write of a LANE page. -/
def Dev.laneAfter (d : Dev) (n off : Nat) (old v : Word) : Dev :=
  if off == 0x020 then (d.rxcfgApply n old v).rxSettle n
  else if off == 0x024 then ((d.txcfgApply n old v).followTake n).txFollow
  else if off == 0x0A0 then d.laneSettle n
  else if off == 0x030 then (d.testcfgApply n).rxSettle n
  else if off == 0x034 then d.testctlApply n v
  else if off == 0x088 then if Fld.LANE_FRMCTL_CNT_CLR.get v == 1 then d.frmCntClr n else d
  else if off == 0x0AC then if Fld.LANE_CRSCTL_CNT_CLR.get v == 1 then d.crsCntClr n else d
  else if off == 0x104 then if Fld.LANE_ANCCTL_CNT_CLR.get v == 1 then d.ancCntClr n else d
  else if off == 0x008 then
    if Fld.PAGE_CTRL_ENABLE.get old != Fld.PAGE_CTRL_ENABLE.get v then ((d.laneEnable n).rxSettle n).txFollow else d
  else d

/-- What follows an accepted write of a TLL page. -/
def Dev.tllAfter (d : Dev) (n off : Nat) (old v : Word) : Dev :=
  let l := 144 + n
  if off == 0x020 then ((d.tllCfgApply n old v).rxSettle l).txFollow
  else if off == 0x030 then (d.testcfgApply l).rxSettle l
  else if off == 0x034 then d.testctlApply l v
  else if off == 0x070 then if Fld.TLL_FRMCTL_CNT_CLR.get v == 1 then d.tlFrmClr n else d
  else if off == 0x0AC then if Fld.TLL_CRSCTL_CNT_CLR.get v == 1 then d.crsCntClr l else d
  else if off == 0x144 then if Fld.TLL_ANCCTL_CNT_CLR.get v == 1 then d.ancCntClr l else d
  else if 0x200 ≤ off && off < 0x240 then d.txslotAfter n ((off - 0x200) / 4) old
  else if off == 0x2C4 || off == 0x2F0 || off == 0x2F4 then (d.timSettle n).protSettle
  else if off == 0x30C then if Fld.TLL_OHCTL_CNT_CLR.get v == 1 then d.ohCntClr n else d
  else if off == 0x008 then
    if Fld.PAGE_CTRL_ENABLE.get old != Fld.PAGE_CTRL_ENABLE.get v then ((d.laneEnable l).rxSettle l).txFollow else d
  else d

/-- What follows an accepted write of FAB. -/
def Dev.fabAfter (d : Dev) (off : Nat) (old v : Word) : Dev :=
  if off == 0x030 then (d.tgCmd v).commitSettle
  else if 0x100 ≤ off && off < 0x180 then (d.genApply ((off - 0x100) / 4) old v).txFollow
  else if 0x180 ≤ off && off < 0x300 && (off - 0x180) % 12 == 0 then
    if Fld.FAB_PROBE_CFG_ENABLE.get old != Fld.FAB_PROBE_CFG_ENABLE.get v then d.setProbe ((off - 0x180) / 12) {} else d
  else if off == 0x314 then if Fld.FAB_CTL_CNT_CLR.get v == 1 then d.fabCntClr else d
  else d

/-- What follows an accepted write at a page's offset; `cur` is the format in force of the domain before it. -/
def Dev.pageAfter (d : Dev) (m : Nat) (p : Page) (off cur : Nat) (old v : Word) : Dev :=
  match p with
  | .dev => d.devAfter off v
  | .pwr => d.pwrAfter off v
  | .aon => d.aonAfter off v
  | .boot => d.bootAfter off v
  | .mtx => d.mtxAfter off v
  | .intc => d.intcAfter m off old v
  | .intcF => if off == 0x028 then d.complete m 1 (Fld.INTC_F_COMPLETE_SOURCE.get v) else d
  | .pmc => d.pmcAfter off v
  | .qmg => d.qmgAfter m off v
  | .sramc => d.sramcAfter off v
  | .tmu => d.tmuAfter off old v
  | .refin r => d.refinAfter r off old v
  | .tdom k => d.tdomAfter k off cur old v
  | .fab => d.fabAfter off old v
  | .afab => d.afabAfter off old v
  | .wall w => (d.wallAfter w off old v).txFollow
  | .cgate => d.cgateAfter off v
  | .prot => d.protAfter off old v
  | .fst => (d.fstAfter off old v).txFollow
  | .memc i => d.memcAfter i off old v
  | .lane n => d.laneAfter n off old v
  | .tll n => d.tllAfter n off old v
  | .leng n => d.lengAfter n off old v
  | .host => d

/-- The format in force of the page's domain; 0 for a page of no domain. -/
def Dev.pageFmt (d : Dev) (p : Page) : Nat :=
  match p with
  | .tdom k => d.domFmt k
  | _ => 0

/-- What the header registers do beyond storing: the expert key, the BLOCK reset, the overrun flag, the page's level (R14, R17, R18). -/
def Dev.headAfter (d before : Dev) (p : Page) (off : Nat) (v : Word) : Dev :=
  if off == 0x008 then
    let d := d.wr p .PAGE_CTRL_EXPERT_KEY (if Fld.PAGE_CTRL_EXPERT_KEY.get v == 0x5A then 0x5A else 0)
    if Fld.PAGE_CTRL_SOFT_RESET.get v == 1 then d.blockReset p else d
  else if off == 0x010 then if v.getLsbD 0 then d.wrOn p .PAGE_ERRCODE_OVERRUN false else d
  else if off == 0x014 then before.levelled d p
  else d

/-- A write that reaches a page (R19 to R22): rejected whole and recorded, or applied. -/
def Dev.pageWrite (d : Dev) (m : Nat) (p : Page) (off : Nat) (be : BitVec 4) (v : Word) : Dev :=
  let key := d.pageKey m p off
  let old := d.reg key
  match firstRej (d.pageRej m p off be old v), regAt p off with
  | some r, _ => (d.recordRej m p off r).pageOnRej p off old v r
  | none, none => d
  | none, some r =>
    let e := d.setReg key (applyWord r old v)
    let soft := off == 0x008 && Fld.PAGE_CTRL_SOFT_RESET.get v == 1
    let e := if soft then e else e.pageAfter m p off (d.pageFmt p) old v
    if off < 0x020 then e.headAfter d p off v else e

/-! ### What a read returns and does -/

/-- BLOCK_STAT bit 8 of a page: FAB_MARGIN of DEV, a group that is not IDLE of FAB, a group on P of PROT. -/
def Dev.blockStat (d : Dev) (p : Page) : Bool :=
  match p with
  | .dev => d.fabMargin
  | .fab => !d.takes.isEmpty
  | .prot => d.groups.any (fun e => d.pg e.1 .PROT_PG_STAT_SEL == 1)
  | _ => false

/-- PAGE_STAT of a page. -/
def Dev.pageStat (d : Dev) (p : Page) : Word :=
  BitVec.ofNat 32 ((if d.enabled p then 1 else 0) + d.rd p .PAGE_STAT_RESET_BUSY * 2 + d.rd p .PAGE_CTRL_LOCK * 4 +
    (if d.expertOpen p then 8 else 0) + (if d.blockStat p then 256 else 0))

/-- One PLL of QUADSTAT: its source, lock and followed lane. -/
def Dev.pllView (d : Dev) (k : Nat) : Nat :=
  let p := d.pll k
  let lock := if p.lock then 2 ^ 7 else 0
  match p.src with
  | .stopped => 31
  | .dom t => t + lock
  | .follow f => 16 + lock + f * 256

/-- What a LANE page shows beyond what its registers hold. -/
def Dev.laneView (d : Dev) (n off : Nat) (w : Word) : Word :=
  if off == 0x040 then
    let w := Fld.LANE_LSTAT_BOND_RX.put w (if (d.lane n).rxLead.isSome && !d.lanesIdle then 1 else 0)
    let w := Fld.LANE_LSTAT_BOND_TX.put w (if (d.lane n).txLead.isSome && !d.lanesIdle then 1 else 0)
    if d.lanesIdle then Fld.LANE_LSTAT_TX_SYNTH.put w 3 else w
  else if off == 0x04C then
    BitVec.ofNat 32 (if d.lanesIdle then 0x001F001F else d.pllView (2 * (n / 4) + 1) * 65536 + d.pllView (2 * (n / 4)))
  else if off == 0x110 then
    let idle := !(d.lengLive n)
    let w := Fld.LANE_ANCSTAT_RX_BYPASS.put w (if idle && d.on (.lane n) .LANE_ANCCFG_RX_PATH then 1 else 0)
    Fld.LANE_ANCSTAT_TX_BYPASS.put w (if idle && d.on (.lane n) .LANE_ANCCFG_TX_PATH then 1 else 0)
  else if off == 0x1D0 then d.pmCur n
  else w

/-- What a REFIN page shows beyond what its registers hold: GRID, and the format of a recovered clock. -/
def Dev.refinView (d : Dev) (r off : Nat) (w : Word) : Word :=
  if off == 0x030 then
    let w := Fld.REFIN_STAT_GRID.put w (if (d.refGrid r).isSome then 1 else 0)
    if (r == 4 || r == 5) && 2 ≤ d.refState r then Fld.REFIN_STAT_FMT.put w (d.frmFmt (d.rf r .REFIN_CFG_LANE)) else w
  else w

/-- What a page's own registers show that are no stored words. -/
def Dev.ownView (d : Dev) (m : Nat) (p : Page) (off : Nat) (w : Word) : Word :=
  match p with
  | .dev =>
    if off == 0x038 then
      let dir : BitVec 16 := BitVec.ofNat 16 (d.rd .dev .DEV_GPIO_DIR_DIR)
      let out : BitVec 16 := BitVec.ofNat 16 (d.rd .dev .DEV_GPIO_OUT_OUT)
      ((d.gpioPins &&& ~~~dir) ||| (out &&& dir)).zeroExtend 32
    else if off == 0x070 then BitVec.ofNat 32 d.xo.toNat
    else w
  | .pwr => if off == 0x044 then Fld.PWR_FAULT_EN_FAULT.put w (if d.faultLow then 1 else 0) else w
  | .aon => if off == 0x030 then Fld.AON_WAKE_TIMER_TICKS.put w d.timerTicks else w
  | .host => if off == 0x300 then BitVec.ofNat 32 (d.host.msixPend.foldl (fun a v => a ||| 2 ^ v) 0) else w
  | .mtx => if off == 0x020 then Fld.MTX_STAT_CONFIGURE.put w (if d.configure then 1 else 0) else w
  | .intc =>
    if off == 0x02C then d.srcStat (d.srcKey m (d.rd .intc .INTC_SRC_SEL_SOURCE))
    else if off == 0x030 then d.tgtStat
    else if 0x080 ≤ off && off < 0x0C0 then d.pendWord m ((off - 0x080) / 4)
    else if off == 0x0C0 then d.claimView (targetOf m) 0 false
    else if off == 0x0C4 then d.claimView (targetOf m) 0 true
    else w
  | .intcF =>
    if off == 0x020 then d.claimView (targetOf m) 1 false
    else if off == 0x024 then d.claimView (targetOf m) 1 true
    else w
  | .pmc =>
    if off == 0x03C then BitVec.ofNat 32 (d.pmcSnap (d.rd .pmc .PMC_BW_SEL_PORT))
    else if 0x100 ≤ off && off < 0x400 && (off - 0x100) % 12 == 4 then BitVec.ofNat 32 (d.pmcCount ((off - 0x100) / 12))
    else w
  | .qmg =>
    if off == 0x024 then BitVec.ofNat 32 d.poolFree
    else if off == 0x038 then d.qStat (d.rd .qmg .QMG_Q_SEL_QUEUE)
    else w
  | .tmu =>
    if off == 0x034 then BitVec.ofNat 32 (field32 d.phaseLeft)
    else if off == 0x040 then Fld.TMU_STAT_WTR_LEFT.put w d.wtrLeft
    else if off == 0x044 then BitVec.ofNat 32 (field32 d.dcoNow)
    else if off == 0x04C then BitVec.ofNat 32 (field32 d.tmu.hold)
    else w
  | .refin r => d.refinView r off w
  | .fab =>
    if off == 0x03C then d.tgStat (d.rd .fab .FAB_TG_SEL_SEL)
    else if 0x040 ≤ off && off < 0x060 then d.tgArmed ((off - 0x040) / 4)
    else w
  | .afab =>
    if off == 0x034 then d.ucActive (d.rd .afab .AFAB_SLOT_SEL_SLOT)
    else if off == 0x038 then d.slotStat (d.rd .afab .AFAB_SLOT_SEL_SLOT)
    else w
  | .fst =>
    let c := d.rd .fst .FST_CH_SEL_CH
    if off == 0x034 then d.reg (regKey .fst (d.chLead c) 0x034)
    else if off == 0x048 then BitVec.ofNat 32 ((d.setChan c { d.chan c with conf := none }).chCost c)
    else w
  | .memc i => if off == 0x02C then BitVec.ofNat 32 (memcMib (d.memcCfg i)) else w
  | .lane n => d.laneView n off w
  | .tll n => if off == 0x1D0 then d.pmCur (144 + n) else w
  | .leng n => if off == 0x404 then d.lengDbgVal n else w
  | .boot | .sramc | .tdom _ | .wall _ | .cgate | .prot => w

/-- What a read of a page offset returns (R13); command fields read 0. -/
def Dev.pageView (d : Dev) (m : Nat) (p : Page) (off : Nat) : Word :=
  if off == 0x00C then d.pageStat p
  else match regAt p off with
    | none => 0
    | some _ => d.ownView m p off (d.reg (d.pageKey m p off))

/-- What a read does: latches, and interrupt claims. -/
def Dev.readAfter (d : Dev) (m : Nat) (p : Page) (off : Nat) : Dev :=
  match p with
  | .dev => if off == 0x070 then d.wr .dev .DEV_XO_TIME_HI_HI (d.xo.toNat / 2 ^ 32) else d
  | .tmu => if off == 0x044 then d.tmuLoRead false else if off == 0x04C then d.tmuLoRead true else d
  | .intc =>
    if off == 0x0C0 then d.claim (targetOf m) 0 false else if off == 0x0C4 then d.claim (targetOf m) 0 true else d
  | .intcF =>
    if off == 0x020 then d.claim (targetOf m) 1 false else if off == 0x024 then d.claim (targetOf m) 1 true else d
  | .pmc =>
    if off == 0x03C then d.snapLatch m
    else if 0x100 ≤ off && off < 0x400 && (off - 0x100) % 12 == 4 then d.cntLatch m ((off - 0x100) / 12)
    else d
  | _ => d

/-- A read that reaches a page, answered to its master. A read of RD_LO may stall (R373, R374). -/
def Dev.pageRead (d : Dev) (m : Nat) (p : Page) (off : Nat) : Dev :=
  if p == .qmg && off == 0x054 then d.readLo m
  else (d.readAfter m p off).respond m ⟨.okay, [d.pageView m p off]⟩

/-- The level of a PAGE_STAT bit of the page with a page number, as a LEVEL counter sees it (R399). -/
def Dev.statLevel (d : Dev) (page bit : Nat) : Bool :=
  match pageAt (page * 4096) with
  | some p => (d.pageStat p).getLsbD bit
  | none => false

end Sys2Proof.Machine
end

