-- ==== Sys2Proof/Machine/Bus.lean ====
section
/-! DEFINITION. Transfers of the matrix masters: to SRAM banks, the frame-store aperture, register pages and line-engine windows, the flash
window and the context windows; and what the PCIe endpoint and the SPI slave make of them (R350 to R367, R428 to R434, R444, R448). -/

namespace Sys2Proof.Machine

/-! ### Single accesses of the page bus -/

/-- Writes of the host masters that are refused while the boot loader runs (R437). -/
def Dev.hostBarred (d : Dev) (m a : Nat) : Bool :=
  (m == 4 || m == 5 || m == 7) && !(0x3000 ≤ a && a < 0x5000) && d.bootRuns

/-- A write of a page by a master: refused by the matrix (R356, R437), or performed by the page and answered OKAY (R357, R360). -/
def Dev.mWrite (d : Dev) (m : Nat) (p : Page) (off : Nat) (be : BitVec 4) (v : Word) : Dev :=
  if d.hostBarred m (p.base + off) || !(d.permits m 6 true) then d.permErr m 6 (p.base + off) true
  else ((((d.granted 6 m).bwAdd 330 (if be == 0 then 0 else 4)).pageWrite m p off be v).respond m ⟨.okay, []⟩)

/-- A read of a page by a master: refused by the matrix, or answered by the page. -/
def Dev.mRead (d : Dev) (m : Nat) (p : Page) (off : Nat) : Dev :=
  if !(d.permits m 6 false) then d.permErr m 6 (p.base + off) false
  else ((d.granted 6 m).bwAdd 330 4).pageRead m p off

/-- A write of a context window (T8) by a master, at a byte offset from 0x080_0000 (R182 to R185, R448). -/
def Dev.mCtxWrite (d : Dev) (m off : Nat) (be : BitVec 4) (v : Word) : Dev :=
  let a := 0x800000 + off
  if d.hostBarred m a || !(d.permits m 8 true) then d.permErr m 8 a true
  else ((((d.granted 8 m).bwAdd 332 (if be == 0 then 0 else 4)).ctxWrite m off (be == 15) v).respond m ⟨.okay, []⟩)

/-- The answer to a master's last transfer. -/
def Dev.respOf (d : Dev) (m : Nat) : Resp := Map.get (fun _ => {}) d.resp m

/-! ### Transfers -/

/-- A transfer in progress: the block, the words read, a response that ends it badly, and where it waits behind a stalled read: the next
address and the beats left. -/
structure Run where
  d : Dev
  got : List Word := []
  bad : Option RespCode := none
  left : Option (Nat × Nat) := none

/-- The bytes of a word that a read asks for. -/
def asked (b : Beat) (w : Word) : Word := mergeBytes b.be 0 w

/-- A beat reads a word. -/
def Run.word (r : Run) (b : Beat) (w : Word) : Run := { r with got := r.got ++ [asked b w] }

/-- A read of an SRAM word with the errors found there (R366). -/
def Run.sramRead (r : Run) (t a i : Nat) (env : XferEnv) : Run × Bool :=
  if env.double.contains i then ({ r with d := r.d.eccFound t a true, bad := some .ecc }, false)
  else if env.single.contains i then ({ r with d := r.d.eccFound t a false }, true)
  else (r, true)

/-- A beat to an SRAM bank (R364 to R366). A partial write whose read finds a double-bit error leaves the word undefined. -/
def Run.sramBeat (r : Run) (m t a i : Nat) (isWrite : Bool) (b : Beat) (env : XferEnv) : Run :=
  if !isWrite then
    let x := r.sramRead t a i env
    if x.2 then x.1.word b (x.1.d.sramGet (sramKey a)) else x.1
  else if b.be == 0 then r
  else
    let x := if b.be == 15 then (r, true) else r.sramRead t a i env
    let d := if !(portA t m) && env.collide.contains i then x.1.d.collided t a else x.1.d
    if x.2 then { x.1 with d := d.sramWrite a b.be b.data }
    else
      let y := d.draw 32
      { x.1 with d := y.2.sramWrite a 15 y.1 }

/-- A beat to the frame-store aperture (R315). -/
def Run.memBeat (r : Run) (a : Nat) (isWrite : Bool) (b : Beat) : Run :=
  let x := r.d.apertureAt (a - 0x2000000)
  if isWrite then
    { r with d := (List.range 4).foldl (fun e j =>
        if b.be.getLsbD j then e.setMemByte x.1 (x.2 + j) (b.data.extractLsb' (8 * j) 8) else e) r.d }
  else r.word b (bytesWord (r.d.memBytes x.1 x.2 4))

/-- What rejects a write of a line engine's instruction store (R334, R349). -/
def Dev.istoreRej (d : Dev) (n : Nat) : List Rej := rejIf (d.on (.leng n) .PAGE_CTRL_LOCK) .locked ++ rejIf (d.lengLive n) .state

/-- A write of a line engine's memories at an offset of its window (R334, Table 15.1). -/
def Dev.lengMemWrite (d : Dev) (m n off : Nat) (be : BitVec 4) (v : Word) : Dev :=
  if off < 0x2000 then
    let i := (off - 0x1000) / 4
    match firstRej (d.istoreRej n) with
    | some r => d.recordRej m (.leng n) off r
    | none => d.istorePut n i (mergeBytes be (d.istoreGet n i) v)
  else
    let i := (off - 0x2000) / 4
    d.dmemPut n i (mergeBytes be (d.dmemGet n i) v)

/-- A read of a line engine's memories. -/
def Dev.lengMemRead (d : Dev) (n off : Nat) : Word :=
  if off < 0x2000 then d.istoreGet n ((off - 0x1000) / 4) else d.dmemGet n ((off - 0x2000) / 4)

/-- A beat to the page bridge (R352, R360). A stalled read of RD_LO holds the beats behind it. -/
def Run.pageBeat (r : Run) (m a : Nat) (isWrite : Bool) (b : Beat) : Run :=
  match pageAt a with
  | some p =>
    if isWrite then { r with d := r.d.pageWrite m p (a % 0x1000) b.be b.data }
    else
      let d := r.d.pageRead m p (a % 0x1000)
      if (d.stallOf m).isSome then { r with d := d, left := some (a + 4, 0) }
      else { r with d := d }.word b ((d.respOf m).data.headD 0)
  | none =>
    let n := (a - 0x200000) / 0x4000
    let off := (a - 0x200000) % 0x4000
    if isWrite then { r with d := r.d.lengMemWrite m n off b.be b.data } else r.word b (r.d.lengMemRead n off)

/-- A beat to the context windows. -/
def Run.ctxBeat (r : Run) (m a : Nat) (isWrite : Bool) (b : Beat) : Run :=
  if isWrite then { r with d := r.d.ctxWrite m (a - 0x800000) (b.be == 15) b.data } else r.word b (r.d.ctxRead (a - 0x800000))

/-- Beat `i` of a transfer, at its address. -/
def Run.beat (r : Run) (m t a i : Nat) (isWrite : Bool) (b : Beat) (env : XferEnv) : Run :=
  match r.left with
  | some l => { r with left := some (l.1, l.2 + 1) }
  | none =>
    if t < 5 then r.sramBeat m t a i isWrite b env
    else if t == 5 then r.memBeat a isWrite b
    else if t == 6 then r.pageBeat m a isWrite b
    else if t == 7 then r.word b (env.flash.getD i 0)
    else r.ctxBeat m a isWrite b

/-- The beats of a transfer in turn, from beat number `i`. -/
def Run.beats (r : Run) (m t a i : Nat) (isWrite : Bool) (env : XferEnv) : List Beat → Run
  | [] => r
  | b :: bs => Run.beats (r.beat m t a i isWrite b env) m t (a + 4) (i + 1) isWrite env bs

/-- A transfer ends with its response, or waits. -/
def Run.finish (r : Run) (m : Nat) : Dev :=
  match r.left with
  | some l => { r.d with mtx := { r.d.mtx with waits := r.d.mtx.waits ++ [⟨m, l.1, l.2, r.got⟩] } }
  | none =>
    match r.bad with
    | some c => r.d.respond m ⟨c, []⟩
    | none => r.d.respond m ⟨.okay, r.got⟩

/-- Bytes that the beats of a transfer carry at the target's bandwidth port (R404). -/
def beatBytes (bs : List Beat) : Nat := 4 * bs.countP (fun b => b.be != 0)

/-- A single access or burst that has been granted; `i` is the number of its first beat. -/
def Dev.perform (d : Dev) (m t a i : Nat) (isWrite : Bool) (bs : List Beat) (env : XferEnv) : Dev :=
  let d := (d.granted t m).bwAdd (324 + t) (beatBytes bs)
  let d := if t == 5 then
      let k := (d.apertureAt 0).1
      (d.memBw k isWrite 64).wr (.memc k) .MEMC_MGMT_WAIT_MAX (max (d.rd (.memc k) .MEMC_MGMT_WAIT_MAX) (min env.wait (2 ^ 32 - 1)))
    else d
  Run.finish (Run.beats { d := d } m t a i isWrite env bs) m

/-- A transfer that reads or writes (R351 to R360), arbitrated, decoded and checked. While another master's locked sequence holds its target it is
not granted, and has no effect yet. -/
def Dev.transfer (d : Dev) (m addr i : Nat) (isWrite : Bool) (bs : List Beat) (env : XferEnv) : Dev :=
  let a := addr / 4 * 4
  let t := targetAt a
  if isWrite && d.hostBarred m a then d.permErr m t a true
  else if t == 9 then (d.bwAdd 333 (beatBytes bs)).decErr m 9 a isWrite bs.length
  else if !(d.permits m t isWrite) then d.permErr m t a isWrite
  else if t == 7 && isWrite then d.decErr m 7 a true 0
  else if d.lockedOut m t then d
  else if t == 5 && !(d.memcReady (d.apertureAt 0).1) then d.timeoutErr m 5 a isWrite false
  else if t == 7 && d.on .boot .BOOT_FLASH_CMD_BUSY then
    { d with mtx := { d.mtx with waits := d.mtx.waits ++ [⟨m, a, bs.length, []⟩] } }
  else d.perform m t a i isWrite bs env

/-- A load-reserve, or a store-conditional of `v` (RV32A, R354): only SRAM banks hold reservations. -/
def Dev.reserved (d : Dev) (m addr : Nat) (isWrite : Bool) (v : Word) (env : XferEnv) : Dev :=
  let a := addr / 4 * 4
  let t := targetAt a
  if 4 < t then d.decErr m t a isWrite (if isWrite then 0 else 1)
  else if !(d.permits m t isWrite) then d.permErr m t a isWrite
  else if d.lockedOut m t then d
  else
    let d := (d.granted t m).bwAdd (324 + t) 4
    let held := Map.get (fun _ => 0) d.mtx.reserve m == a + 1
    let e : EccFind := if env.double.contains 0 then .double else if env.single.contains 0 then .single else .none
    if !isWrite then
      let w := d.sramGet (sramKey a)
      let d := d.eccRead t a e
      if e == .double then d.respond m ⟨.ecc, []⟩
      else ({ d with mtx := { d.mtx with reserve := Map.put (fun _ => 0) d.mtx.reserve m (a + 1) } }).respond m ⟨.okay, [w]⟩
    else if held then
      let d := if !(portA t m) && env.collide.contains 0 then d.collided t a else d
      (d.sramWrite a 15 v).respond m ⟨.okay, [0]⟩
    else ({ d with mtx := { d.mtx with reserve := Map.put (fun _ => 0) d.mtx.reserve m 0 } }).respond m ⟨.okay, [1]⟩

/-- MATRIX_TRANSFER. -/
def Dev.matrixTransfer (d : Dev) (m : Nat) (x : Xfer) : Dev :=
  match x.kind with
  | .read => d.transfer m x.addr 0 false x.beats x.env
  | .write => d.transfer m x.addr 0 true x.beats x.env
  | .lr => d.reserved m x.addr false 0 x.env
  | .sc => d.reserved m x.addr true (x.beats.headD {}).data x.env

/-- A host interface whose master is reset no longer waits for an access. -/
def Dev.hostDrop (d : Dev) (m : Nat) : Dev :=
  if m == 4 then { d with host := { d.host with pciWait := false } }
  else if m == 5 then { d with host := { d.host with spiWait := false } }
  else if m == 7 then { d with jtag := { d.jtag with wait := false } }
  else d

/-- MASTER_RESET: master `m` is reset with transfer `x` under way, `n` of its beats performed (R362). The answer that the performed beats would
have had does not reach it. -/
def Dev.masterAbort (d : Dev) (m : Nat) (x : Option Xfer) (n : Nat) : Dev :=
  match x with
  | none => (d.masterEnd m).hostDrop m
  | some x =>
    let a := x.addr / 4 * 4
    let t := targetAt a
    let isWrite := x.kind == .write || x.kind == .sc
    if t == 9 || !(d.permits m t isWrite) || (isWrite && (d.hostBarred m a || t == 7)) || d.lockedOut m t then
      (d.masterEnd m).hostDrop m
    else
      ({ d.perform m t a 0 isWrite (x.beats.take n) x.env with resp := d.resp }.masterReset m (some (isWrite, t, x.beats.length - n))).hostDrop m

/-! ### PCIe (R428 to R431) -/

/-- The PCIe endpoint is completed. -/
def Dev.pciDone (d : Dev) (s : PciStatus) (ws : List Word) : Dev :=
  { d with host := { d.host with cplStatus := s, cplData := ws, pciWait := false } }

/-- How a response of M4 reaches the requester of a read (Table 16.3). -/
def pciStatusOf : RespCode → PciStatus
  | .okay => .success
  | .decerr => .unsupported
  | _ => .abort

/-- A request's beats, split at every 64-byte boundary (R429). -/
def split64 (a : Nat) : List Beat → List (Nat × List Beat)
  | [] => []
  | b :: bs =>
    match split64 (a + 4) bs with
    | [] => [(a, [b])]
    | (a', l) :: rest => if a / 64 == a' / 64 then (a, b :: l) :: rest else (a, [b]) :: (a', l) :: rest

/-- The bursts of a request in turn: the first failing response decides the completion; behind a stalled read, the beats wait with it. -/
def Dev.pciBursts (d : Dev) (isWrite : Bool) (env : XferEnv) (i : Nat) (ws : List Word) (st : PciStatus) :
    List (Nat × List Beat) → Dev
  | [] => if isWrite then d.pciDone .none [] else if st == .success then d.pciDone st ws else d.pciDone st []
  | (a, l) :: rest =>
    let d := d.transfer 4 a i isWrite l env
    if (d.stallOf 4).isSome then
      let n := (rest.map (fun x => x.2.length)).foldl (fun x y => x + y) 0
      let more := fun (w : ReadWait) => if w.master == 4 then { w with beats := w.beats + n, got := ws ++ w.got } else w
      { d with
        mtx := { d.mtx with waits := d.mtx.waits.map more }
        host := { d.host with pciWait := true, cplStatus := .none, cplData := [] } }
    else
      let r := d.respOf 4
      Dev.pciBursts d isWrite env (i + l.length) (ws ++ r.data) (if st == .success then pciStatusOf r.code else st) rest

/-- The endpoint takes requests: out of reset, its link up, and not in boot mode TEST (R431, Table 21.3). -/
def Dev.pciOn (d : Dev) : Bool := d.host.perst && d.on .host .HOST_PCI_STAT_LINK_UP && d.rd .dev .DEV_STRAP_BOOTMODE != 3

/-- PCIE_REQUEST. -/
def Dev.pcieRequest (d : Dev) (r : PciReq) : Dev :=
  if !d.pciOn || d.host.pciWait then d
  else
    match r with
    | .memory bar4 isWrite off bs env =>
      let a := if bar4 then 0x2000000 + off % 2 ^ 25 else off % 2 ^ 26
      let parts := split64 (a / 4 * 4) bs
      if parts.any (fun x => d.lockedOut 4 (targetAt x.1)) then d else d.pciBursts isWrite env 0 [] .success parts
    | .userRead who off wide => d.bar2Read who (off % 4096) wide
    | .userWrite => d.pciDone .none []
    | .other => d.pciDone .unsupported []

/-- PCIE_LINK_RESET (R431): M4, the configuration space and the MSI-X table are reset; all but a function-level reset drop the link. -/
def Dev.pcieLinkReset (d : Dev) (k : LinkReset) : Dev :=
  let was := d.on .host .HOST_PCI_STAT_LINK_UP
  let d := d.masterEnd 4
  let d := { d with
    regs := d.regs.filter (fun e => !(0x3100 ≤ e.1 && e.1 < 0x3300))
    host := { d.host with
      perst := d.host.perst && k != .perst, msixOn := false, msixPend := []
      cplStatus := .none, cplData := [], pciWait := false } }
  if k == .flr then d
  else (d.setReg (regKey .host 0 0x024) 0).setEvtIf was .host 8

/-- PCIE_PERST_N falls while the block does not run: M4 and the endpoint stay in reset until it rises (R431). -/
def Dev.perstFall (d : Dev) (k : LinkReset) : Dev := if k == .perst then { d with host := { d.host with perst := false } } else d

/-- PCIE_PERST_RISE (R431): the ball rises; the event is set while the block runs. -/
def Dev.perstRise (d : Dev) : Dev := { d with host := { d.host with perst := true } }

/-- PCIE_LINK_UP: the link has trained at generation `speed` on `width` lanes (R428, Table 21.3). -/
def Dev.pcieLinkUp (d : Dev) (speed width : Nat) : Dev :=
  let mode := d.rd .dev .DEV_STRAP_BOOTMODE
  if !d.host.perst || mode == 2 || mode == 3 || d.on .host .HOST_PCI_STAT_LINK_UP then d
  else
    (((d.wr .host .HOST_PCI_STAT_WIDTH width).wr .host .HOST_PCI_STAT_SPEED speed).wrOn .host .HOST_PCI_STAT_LINK_UP true).setEvt .host 8

/-- MSIX_SEND (R395, R430): with the MSI-X Enable bit as host software has set it, the pending message of vector `v` is sent if it can be. -/
def Dev.msixSend (d : Dev) (enable : Bool) (v : Nat) : Dev :=
  let d := { d with host := { d.host with msixOn := enable } }
  if enable && d.host.msixPend.contains v && !(d.on .host (Fld.nth .HOST_MSIX_MASK v)) then
    { d with host := { d.host with msixPend := d.host.msixPend.filter (fun x => x != v), msixLast := some v } }
  else d

/-! ### SPI (R432 to R434) -/

/-- STATUS.CODE of a response (R433). -/
def spiCode : RespCode → Nat
  | .okay => 0
  | .decerr => 1
  | .perm => 2
  | .timeout => 3
  | .ecc => 4
  | .lockBroken => 4

/-- A frame completes with a status code and, on a read, a word. -/
def Dev.spiEnd (d : Dev) (code : Nat) (w : Word) : Dev :=
  let d := { d with host := { d.host with
    spiWait := false
    spiStatus := BitVec.ofNat 32 (0xA0000000 + d.host.spiSeq * 65536 + code)
    spiData := if d.host.spiRead then w else 0
    spiSeq := (d.host.spiSeq + 1) % 256 } }
  d.inc .host .HOST_SPI_CNT_FRAMES

/-- M5 waits for its access. -/
def Dev.waiting (d : Dev) (m : Nat) : Bool := (d.stallOf m).isSome || d.mtx.waits.any (fun w => w.master == m)

/-- The frame's access has ended. -/
def Dev.spiSettle (d : Dev) : Dev :=
  if d.host.spiWait && !(d.waiting 5) then
    let r := d.respOf 5
    d.spiEnd (spiCode r.code) (r.data.headD 0)
  else d

/-- Address bits [30:27] or [1:0] are not 0. -/
def spiMalformed (a : Word) : Bool := (a &&& 0x78000003#32) != 0

/-- The access of a frame. -/
def Dev.spiAccess (d : Dev) (f : SpiFrame) : Dev :=
  d.transfer 5 (f.addr.toNat % 2 ^ 27) 0 (!(f.addr.getLsbD 31)) [{ data := f.data }] f.env

/-- The SPI slave takes frames: not in boot mode TEST (Table 21.3). -/
def Dev.spiOn (d : Dev) : Bool := d.rd .dev .DEV_STRAP_BOOTMODE != 3

/-- SPI_FRAME: SPI_CS_N falls, the access is made, and the frame completes unless the access waits. -/
def Dev.spiFrame (d : Dev) (f : SpiFrame) : Dev :=
  if d.host.spiWait || !d.spiOn || d.lockedOut 5 (targetAt (f.addr.toNat % 2 ^ 27)) then d
  else
    let d := d.setEvt .host 11
    let d := { d with host := { d.host with spiRead := f.addr.getLsbD 31 } }
    if spiMalformed f.addr then d.spiEnd 5 0
    else ({ d with host := { d.host with spiWait := true } }.spiAccess f).spiSettle

/-- SPI_ABORT (R434): the frame in progress, or one that has performed access `f`, or no access yet, is aborted. -/
def Dev.spiAbort (d : Dev) (f : Option SpiFrame) : Dev :=
  if !d.spiOn then d
  else
    let d := if d.host.spiWait then d
      else
        let d := d.setEvt .host 11
        match f with
        | some f => if spiMalformed f.addr then d else d.spiAccess f
        | none => d
    let d := d.masterEnd 5
    let d := { d with host := { d.host with spiWait := false } }
    (d.inc .host .HOST_SPI_CNT_ABORTS).setEvt .host 9

/-! ### Reads that waited -/

/-- The beats behind a stalled read of RD_LO go on when it has returned (R374). -/
def Dev.burstGoOn (d : Dev) (m : Nat) : Dev :=
  if (d.stallOf m).isSome then d
  else
    match d.mtx.waits.find? (fun w => w.master == m && targetAt w.addr != 7) with
    | none => d
    | some w =>
      let d := { d with mtx := { d.mtx with waits := d.mtx.waits.filter (fun x => x.master != m) } }
      let r : Run := { d := d, got := w.got ++ (d.respOf m).data }
      Run.finish (Run.beats r m 6 w.addr 0 false {} (List.replicate w.beats {})) m

/-- The frame or request whose read waited completes. -/
def Dev.hostSettle (d : Dev) : Dev :=
  let d := d.spiSettle
  if d.host.pciWait && !(d.waiting 4) then
    let r := d.respOf 4
    d.pciDone (pciStatusOf r.code) r.data
  else d

end Sys2Proof.Machine
end

