-- ==== Sys2Proof/Machine/Boot.lean ====
section
/-! DEFINITION. The boot loader, firmware images, flash commands and JTAG (R435 to R444). -/

namespace Sys2Proof.Machine

/-! ### Start and discovery -/

/-- BOOT_START: the loader starts by BOOTMODE (Table 21.3). -/
def Dev.bootStart (d : Dev) : Dev :=
  if !d.boot.due then d
  else
    let d := { d with boot := { due := false } }
    match d.rd .dev .DEV_STRAP_BOOTMODE with
    | 0 => (d.wr .boot .BOOT_STAT_STATE 1).wr .boot .BOOT_STAT_IMAGE 0
    | 3 => d.wr .boot .BOOT_STAT_STATE 0
    | _ => d.wr .boot .BOOT_STAT_STATE 3

/-- The boot fails with a cause (R440). -/
def Dev.bootFail (d : Dev) (cause : Nat) : Dev := ((d.wr .boot .BOOT_STAT_STATE 5).wr .boot .BOOT_STAT_CAUSE cause).setEvt .boot 9

/-- SFDP_DISCOVERY_DONE (R438, R444). -/
def Dev.sfdpDone (d : Dev) (found addr4 quad : Bool) : Dev :=
  if d.bootState != 1 then d
  else if !found then d.bootFail 1
  else
    let d := { d with boot := { d.boot with addr4 := addr4, quad := quad } }
    (d.wrOn .boot .BOOT_FLASH_CMD_ADDR4 addr4).wr .boot .BOOT_STAT_STATE 2

/-! ### Images (Table 21.4, R439) -/

/-- An image as the loader reads it, a word at a word index. -/
abbrev Image := Nat → Word

/-- Byte `i` of an image: byte i mod 4 of its word, the least significant first. -/
def imageByte (x : Image) (i : Nat) : Byte := (x (i / 4)).extractLsb' (8 * (i % 4)) 8

/-- The word at a byte offset, which need not be aligned. -/
def imageWord (x : Image) (i : Nat) : Word :=
  if i % 4 == 0 then x (i / 4) else bytesWord ((List.range 4).map (fun j => imageByte x (i + j)))

/-- Bytes of an image from one offset up to another. -/
def imageBytes (x : Image) (lo hi : Nat) : List Byte := (List.range' lo (hi - lo)).map (imageByte x)

/-- A segment of the table: destination, length, offset, and whether it writes 0. -/
structure Segment where
  dest : Nat
  len : Nat
  offset : Nat
  zero : Bool

/-- The segment table. -/
def segments (x : Image) : List Segment :=
  (List.range (x 3).toNat).map (fun n =>
    let k := 48 + 4 * n
    ⟨(x k).toNat, (x (k + 1)).toNat, (x (k + 2)).toNat,
      if x (k + 3) == 0 then false else if x (k + 3) == 1 then true else Config.segmentZero (x (k + 3))⟩)

/-- IMG_LEN and SEG_COUNT lie in range, and every COPY segment within the image. -/
def imageRanges (x : Image) : Bool :=
  let len := (x 2).toNat
  len % 4 == 0 && 0xD0 ≤ len && len ≤ 0x1000000 && 1 ≤ (x 3).toNat && (x 3).toNat ≤ 64 &&
    (segments x).all (fun s => s.zero || s.offset + s.len ≤ len)

/-- The CRC-32 that the header is to hold. -/
def imageCrc (x : Image) : Word := crc32Bytes (imageBytes x 0 0x3C ++ imageBytes x 0x40 (x 2).toNat)

/-- The words of the key and of the signature. -/
def imageKey (x : Image) : List Word := (List.range' 16 16).map x
/-- The signature. -/
def imageSig (x : Image) : List Word := (List.range' 32 16).map x

/-- A destination the loader may write: SRAM banks, line-engine windows and register pages, context windows. -/
def loadable (a : Nat) : Bool := targetAt a < 5 || targetAt a == 6 || targetAt a == 8

/-- Check 5 of R439; an image in bank 4 is not to be overwritten (R441), its place given by `at4`. -/
def segmentsOk (x : Image) (at4 : Option Nat) : Bool :=
  (segments x).all (fun s =>
    s.dest % 4 == 0 && s.len % 4 == 0 && (List.range (s.len / 4)).all (fun i => loadable (s.dest + 4 * i)) &&
      (match at4 with
       | some a => s.dest + s.len ≤ a || a + (x 2).toNat ≤ s.dest
       | none => true))

/-- The cause with which an image's check fails (R439); none where it passes. -/
def imageCause (x : Image) (at4 : Option Nat) : Option Nat :=
  if x 0 != 0x4E4C4231#32 || x 1 != 1 then some 2
  else if !(imageRanges x) then some 6
  else if x 15 != imageCrc x then some 3
  else if Config.secure && !(Config.keyMatches (imageKey x)) then some 4
  else if Config.secure && !(Config.sigVerifies (imageKey x) (imageSig x) (imageBytes x 0 0x80 ++ imageBytes x 0xC0 (x 2).toNat)) then
    some 5
  else if !(segmentsOk x at4) then some 6
  else none

/-- The words a segment writes, with their addresses. -/
def Segment.writes (s : Segment) (x : Image) : List (Nat × Word) :=
  (List.range (s.len / 4)).map (fun i => (s.dest + 4 * i, if s.zero then 0 else imageWord x (s.offset + 4 * i)))

/-- RUN and RESET_VEC as the loader writes them after the segments. -/
def finalWrites (x : Image) : List (Nat × Word) :=
  (Page.pwr.base + 0x02C, x 4 &&& 15) :: (List.range 4).map (fun n => (Page.boot.base + 0x030 + 4 * n, x (8 + n)))

/-- The page or the context window would reject a write of the loader (R440). -/
def Dev.loadRejected (d : Dev) (a : Nat) (v : Word) : Bool :=
  match targetAt a with
  | 6 =>
    match pageAt a with
    | some p => (firstRej (d.pageRej 8 p (a % 0x1000) 15 (d.reg (d.pageKey 8 p (a % 0x1000))) v)).isSome
    | none => (a - 0x200000) % 0x4000 < 0x2000 && (firstRej (d.istoreRej ((a - 0x200000) / 0x4000))).isSome
  | 8 => (firstRej (d.ctxRej (a - 0x800000) true v)).isSome
  | _ => false

/-- The loader's single-word writes in order; a rejected one ends the boot with its address (R440). A write that resets the loader ends
it too. -/
def Dev.loadWrites (d : Dev) : List (Nat × Word) → Dev × Bool
  | [] => (d, true)
  | (a, v) :: rest =>
    let no := d.permits 8 (targetAt a) true && d.loadRejected a v
    let d := d.transfer 8 a 0 true [{ data := v }] {}
    if no then ((d.setReg (regKey .boot 0 0x02C) (BitVec.ofNat 32 a)).bootFail 7, false)
    else if d.bootState != 2 || d.stopped then (d, false)
    else Dev.loadWrites d rest

/-- A check fails: the primary image of a flash that reaches beyond 8 MiB gives way to the alternate, else the boot fails (R440). -/
def Dev.imageFail (d : Dev) (cause : Nat) (big : Bool) : Dev :=
  if !d.boot.fromBank && d.rd .boot .BOOT_STAT_IMAGE == 0 && big then (d.wr .boot .BOOT_STAT_IMAGE 1).wr .boot .BOOT_STAT_CAUSE cause
  else d.bootFail cause

/-- The image that is checked: the words that the flash holds from the image's first byte, or bank 4 from IMG_ADDR (R441). -/
def Dev.imageNow (d : Dev) (flash : List Word) : Image :=
  if d.boot.fromBank then fun k => d.sramGet (sramKey (d.rd .boot .BOOT_IMG_ADDR_ADDR) + k) else fun k => flash.getD k 0

/-- An image in bank 4 reaches beyond the bank, where the loader's reads meet T9. -/
def Dev.imageOver (d : Dev) (x : Image) : Bool :=
  d.boot.fromBank && x 0 == 0x4E4C4231#32 && x 1 == 1 && imageRanges x &&
    0x1600000 < d.rd .boot .BOOT_IMG_ADDR_ADDR + (x 2).toNat

/-- IMAGE_CHECK_DONE: the image has been read and checked, and is applied, or fails (R439 to R441). `bus`: a read of the loader got an error
response before the check decided; `big`: the flash reaches beyond 8 MiB. -/
def Dev.imageDone (d : Dev) (flash : List Word) (bus big : Bool) : Dev :=
  if d.bootState != 2 then d
  else
    let t := if d.boot.fromBank then 4 else 7
    let base := if d.boot.fromBank then d.rd .boot .BOOT_IMG_ADDR_ADDR else 0x4000000 + d.rd .boot .BOOT_STAT_IMAGE * 0x800000
    let x := d.imageNow flash
    if !(d.permits 8 t false) then (d.permErr 8 t base false).imageFail 8 big
    else if bus then d.imageFail 8 big
    else if d.imageOver x then (d.decErr 8 9 0x1600000 false 1).imageFail 8 big
    else
      match imageCause x (if d.boot.fromBank then some base else none) with
      | some c => d.imageFail c big
      | none =>
        let r := d.loadWrites ((segments x).flatMap (fun s => s.writes x) ++ finalWrites x)
        if r.2 then r.1.bootDone else r.1

/-! ### Flash commands (R444) -/

/-- A byte of SRAM bank 4. -/
def Dev.bankByte (d : Dev) (off : Nat) (b : Byte) : Dev :=
  if 0x200000 ≤ off then d
  else
    d.sramWrite (0x1400000 + off / 4 * 4) (BitVec.ofNat 4 (2 ^ (off % 4))) ((b.zeroExtend 32) <<< (8 * (off % 4)))

/-- A read command's data bytes go to the buffer; bytes beyond the bank's end are dropped. -/
def Dev.flashData (d : Dev) (off : Nat) : List Byte → Dev
  | [] => d
  | b :: bs => Dev.flashData (d.bankByte off b) (off + 1) bs

/-- The reads of the flash window that waited are performed, with the words the flash returns to each. -/
def Dev.flashReads (d : Dev) : List ReadWait → List (List Word) → Dev
  | [], _ => d
  | w :: ws, rs =>
    Dev.flashReads (d.perform w.master 7 w.addr 0 false (List.replicate w.beats {}) { flash := rs.headD [] }) ws rs.tail

/-- DEBUG's access has ended: the words it shifts out. The status word's SEQ is stated for SPI frames only. -/
def Dev.dbgSettle (d : Dev) : Dev :=
  if d.jtag.wait && !(d.waiting 7) then
    let r := d.respOf 7
    let q := d.draw 8
    { q.2 with jtag := { q.2.jtag with
        wait := false
        status := BitVec.ofNat 32 (0xA0000000 + q.1.toNat * 65536 + spiCode r.code)
        data := if q.2.jtag.isRead then r.data.headD 0 else 0 } }
  else d

/-- FLASH_CMD_DONE: BUSY clears, data read reach the buffer, waiting reads proceed. -/
def Dev.flashDone (d : Dev) (data : List Byte) (reads : List (List Word)) : Dev :=
  if !(d.on .boot .BOOT_FLASH_CMD_BUSY) then d
  else
    let d := d.wrOn .boot .BOOT_FLASH_CMD_BUSY false
    let d := if d.on .boot .BOOT_FLASH_CMD_WRITE then d
      else d.flashData (4 * d.rd .boot .BOOT_FLASH_BUF_WORD) (data.take (d.rd .boot .BOOT_FLASH_CMD_LEN))
    let ws := d.mtx.waits.filter (fun w => targetAt w.addr == 7)
    let d := { d with mtx := { d.mtx with waits := d.mtx.waits.filter (fun w => targetAt w.addr != 7) } }
    ((d.flashReads ws reads).hostSettle).dbgSettle

/-! ### JTAG (R442, R443) -/

/-- JTAG_TRST: the TAP returns to IDCODE, and M7 is reset. -/
def Dev.trst (d : Dev) : Dev :=
  let d := d.masterEnd 7
  { d with jtag := { d.jtag with tap := .idcode, wait := false } }

/-- A TAP instruction is selected. -/
def Dev.tapSelect (d : Dev) (i : TapInstr) : Dev := { d with jtag := { d.jtag with tap := i } }

/-- The identification register (R442). -/
def identWord : Word := BitVec.ofNat 32 (0x11472001 + Config.manufacturer.toNat * 2)

/-- IDCODE. -/
def Dev.idcode (d : Dev) : Dev := { d.tapSelect .idcode with jtag := { (d.tapSelect .idcode).jtag with ident := identWord } }

/-- SAMPLE/PRELOAD: the chain samples the balls and takes new contents. -/
def Dev.samplePreload (d : Dev) (balls load : List Bool) : Dev :=
  { d with jtag := { d.jtag with tap := .samplePreload, sampled := balls, scan := load } }

/-- EXTEST: the chain drives the balls, samples them, and takes new contents. -/
def Dev.extest (d : Dev) (balls load : List Bool) : Dev :=
  { d with jtag := { d.jtag with tap := .extest, sampled := balls, scan := load } }

/-- DEBUG makes accesses: SECURE is 0, or BOOT.DBG_UNLOCK is 1. -/
def Dev.dbgOpen (d : Dev) : Bool := d.on .boot .BOOT_DBG_UNLOCK_UNLOCK || !Config.secure

/-- DEBUG: one M7 access of an address and a data word at Update-DR; locked, it acts as BYPASS (R443). -/
def Dev.debug (d : Dev) (f : SpiFrame) : Dev :=
  if !d.dbgOpen then d.tapSelect .bypass
  else
    let d := d.tapSelect .debug
    if d.stopped || d.jtag.wait || d.lockedOut 7 (targetAt (f.addr.toNat % 2 ^ 27)) then d
    else
      let d := { d with jtag := { d.jtag with isRead := f.addr.getLsbD 31 } }
      if spiMalformed f.addr then
        let q := d.draw 8
        { q.2 with jtag := { q.2.jtag with status := BitVec.ofNat 32 (0xA0000000 + q.1.toNat * 65536 + 5), data := 0 } }
      else
        let d := { d with jtag := { d.jtag with wait := true } }
        (d.transfer 7 (f.addr.toNat % 2 ^ 27) 0 (!(f.addr.getLsbD 31)) [{ data := f.data }] f.env).dbgSettle

/-! ### Reads that waited -/

/-- QUEUE_STALL_RETURN. -/
def Dev.stallBack (d : Dev) (m : Nat) : Dev := (((d.stallReturn m).burstGoOn m).hostSettle).dbgSettle

/-- QUEUE_STALL_TIMEOUT. -/
def Dev.stallEnd (d : Dev) (m : Nat) : Dev := (((d.stallTimeout m).burstGoOn m).hostSettle).dbgSettle

/-- MATRIX_REQUEST_TIMEOUT. -/
def Dev.requestEnd (d : Dev) (m addr : Nat) (isWrite : Bool) : Dev := ((d.requestTimeout m addr isWrite).hostSettle).dbgSettle

end Sys2Proof.Machine
end

