-- ==== Sys2Proof/Machine/Live.lean ====
section
/-! DEFINITION. What every meaning goes through: a command acts on the block while its core domains run, or at any time. -/

namespace Sys2Proof.Machine

/-- An effect on the block, which while the core domains do not run (a PIN or power-on reset, DORMANT, a wake from it) has none: what the
command tells cannot come about then. -/
def Dev.live (d : Dev) (f : Dev → Dev) : Dev := if d.stopped then d else f d

/-- A meaning whose effect needs running core domains. -/
def State.live (s : State) (f : Dev → Dev) : Host.Outcome State Fault Refusal := .next { s with dev := s.dev.live f }

/-- A meaning whose effect comes about at any time. -/
def State.always (s : State) (f : Dev → Dev) : Host.Outcome State Fault Refusal := .next { s with dev := f s.dev }

/-- A receive lane has changed: its tiles and defects, then all that follows the lanes. -/
def Dev.rxDone (d : Dev) (l : Nat) : Dev := (d.laneSettle l).rxSettle l

/-- The line start of line 1 of a tile's frame is remembered (R308). -/
def Dev.lineMark (d : Dev) (t line : Nat) : Dev :=
  if line == 1 then d.setTile t { d.tile t with frameAt := d.xo.toNat } else d

end Sys2Proof.Machine
end

