-- ==== Sys2Proof/Machine/ExecAudio.lean ====
section
/-! DEFINITION. The commands of one family, one meaning each: the audio fabric (R205 to R222). -/

namespace Sys2Proof.Machine

/-- AUDIO_CONTEXT_WRITE (R205): A write of word 0 or word 1 of an audio context updates its shadow or group, with the PAIR checks, or it is rejected. -/
def execAudioContextWrite (m : Master) (slot : Fin 53248) (group : Bool) (v : Word) (s : State) : Host.Outcome State Fault Refusal :=
  s.live fun d => d.mCtxWrite m.val (0x10000 + 8 * slot.val + (if group then 4 else 0)) 15 v

/-- AUDIO_CONTEXT_COMMIT (R208): An audio context commits at its slot kind's instant, and a crossfade ramp starts or is left pending. -/
def execAudioContextCommit (g : Fin 256) (slot : Fin 53248) (s : State) : Host.Outcome State Fault Refusal :=
  s.live fun d => d.commitNow g.val (2000 + slot.val)

/-- RAMP_END (R212): A crossfade or slip ramp ends after N periods, and any pending change starts at the next period. -/
def execRampEnd (slot : Fin 53248) (s : State) : Host.Outcome State Fault Refusal :=
  s.live fun d => d.rampEnd slot.val

/-- HOUSE_SAMPLE_PERIOD (R214): At each house sample period the aligner reads every stream, slips or changes stream state, and the audio fabric delivers
each slot. -/
def execHouseSamplePeriod (lates : List AudioLate) (s : State) : Host.Outcome State Fault Refusal :=
  s.live fun d => d.samplePeriod lates

/-- AFAB_DEPTH_WRITE (R217): A write of AFAB.CFG.DEPTH puts every running stream into RECENTRE. -/
def execAfabDepthWrite (m : Master) (v : Word) (s : State) : Host.Outcome State Fault Refusal :=
  s.live fun d => d.mWrite m.val .afab 0x020 15 v

/-- AFAB_ENABLE_WRITE (R221): A write of AFAB PAGE_CTRL.ENABLE silences every output slot and stops generators and meters, or resumes them. -/
def execAfabEnableWrite (m : Master) (v : Word) (s : State) : Host.Outcome State Fault Refusal :=
  s.live fun d => d.mWrite m.val .afab 0x008 15 v

/-- METER_WINDOW_END (R220): A metering tap's window ends, and PEAK, RMS and VALID are written. -/
def execMeterWindowEnd (p : Fin 512) (s : State) : Host.Outcome State Fault Refusal :=
  s.live fun d => d.meterEnd p.val

/-- AFAB_CNT_CLR (R215): A write of AFAB.CTL.CNT_CLR clears the slot, stream and checker counts. -/
def execAfabCntClr (m : Master) (s : State) : Host.Outcome State Fault Refusal :=
  s.live fun d => d.mWrite m.val .afab 0x024 15 1

end Sys2Proof.Machine
end

