-- ==== Sys2Proof/Machine/ExecCounters.lean ====
section
/-! DEFINITION. The commands of one family, one meaning each: performance counters and bandwidth windows (R399 to R407). -/

namespace Sys2Proof.Machine

/-- PMC_CFG_WRITE (R400): A write of PMC.CFG[n] configures a counter from the next XO tick. -/
def execPmcCfgWrite (m : Master) (n : Fin 64) (v : Word) (s : State) : Host.Outcome State Fault Refusal :=
  s.live fun d => d.mWrite m.val .pmc (0x100 + 12 * n.val) 15 v

/-- PMC_CFG_CLR (R402): A write of PMC.CFG[n].CLR sets counter n to 0 and clears its OVF bit. -/
def execPmcCfgClr (m : Master) (n : Fin 64) (rest : Word) (s : State) : Host.Outcome State Fault Refusal :=
  s.live fun d => d.mWrite m.val .pmc (0x100 + 12 * n.val) 15 (rest ||| 0x08000000)

/-- CLR_ALL (R402): PMC.CTL.CLR_ALL clears all 64 counters in one tick. -/
def execClrAll (m : Master) (rest : Word) (s : State) : Host.Outcome State Fault Refusal :=
  s.live fun d => d.mWrite m.val .pmc 0x020 15 (rest ||| 1)

/-- FREEZE_WRITE (R402): A write of PMC.CTL.FREEZE stops or restarts every counter in one tick. -/
def execFreezeWrite (m : Master) (v : Word) (s : State) : Host.Outcome State Fault Refusal :=
  s.live fun d => d.mWrite m.val .pmc 0x020 15 v

/-- CNT_LO_READ (R403): A read of PMC.CNT_LO returns the low bits and latches the high bits for the master. -/
def execCntLoRead (m : Master) (n : Fin 64) (s : State) : Host.Outcome State Fault Refusal :=
  s.live fun d => d.mRead m.val .pmc (0x104 + 12 * n.val)

/-- BW_WINDOW_END (R405): A bandwidth window ends and the port counts are snapshotted, cleared and BW_SEQ incremented. -/
def execBwWindowEnd (s : State) : Host.Outcome State Fault Refusal :=
  s.live fun d => d.bwWindowEnd

/-- BW_WIN_WRITE (R405): A write of PMC.BW_WIN discards the current counts and starts a new window. -/
def execBwWinWrite (m : Master) (v : Word) (s : State) : Host.Outcome State Fault Refusal :=
  s.live fun d => d.mWrite m.val .pmc 0x030 15 v

/-- BW_SNAP_LO_READ (R406): A read of BW_SNAP_LO returns snapshot bits and latches the high bits and sequence. -/
def execBwSnapLoRead (m : Master) (s : State) : Host.Outcome State Fault Refusal :=
  s.live fun d => d.mRead m.val .pmc 0x03C

/-- BAR2_READ (R407): A host read of the BAR2 user page returns counters or snapshots with a per-requester latch. -/
def execBar2Read (who off : Nat) (wide : Bool) (s : State) : Host.Outcome State Fault Refusal :=
  s.live fun d => d.pcieRequest (.userRead who off wide)

/-- LEVEL_COUNTER_WRAP (R401): A LEVEL-mode performance counter that counts XO ticks passes 2^48 − 1 and wraps, setting OVF and either PAGE_EVT.OVF or a
carry into the next counter. -/
def execLevelCounterWrap (n : Fin 64) (s : State) : Host.Outcome State Fault Refusal :=
  s.live fun d => d.levelWrap n.val d.statLevel

end Sys2Proof.Machine
end

