-- ==== Sys2Proof/Machine/ExecCourses.lean ====
section
/-! DEFINITION. The commands of one family, one meaning each: the course aligner, ancillary data and embedded audio (R125 to R174). -/

namespace Sys2Proof.Machine

/-- TILE_LINE_START (R130): A tile's line start reaches the course aligner: POS is measured, J is justified, and the course state may change. -/
def execTileLineStart (t : Fin 1408) (line : Nat) (pos : Int) (s : State) : Host.Outcome State Fault Refusal :=
  s.live fun d => ((d.tileLineStart t.val pos).lineMark t.val line).rxFollow

/-- ALIGN_DRIFT_WINDOW (R133): At the end of each 1 s window the net justification count is compared with DRIFT_LIMIT, and DRIFT is set or cleared. -/
def execAlignDriftWindow (s : State) : Host.Outcome State Fault Refusal :=
  s.live fun d => d.driftWindows

/-- ALIGNCFG_WRITE (R134): A write of ALIGNCFG, TDOMSEL or ALIGN_X takes effect at the next line start of each affected tile. -/
def execAligncfgWrite (m : Master) (r : AlignReg) (v : Word) (s : State) : Host.Outcome State Fault Refusal :=
  s.live fun d =>
    match r with
    | .aligncfg n => d.mWrite m.val (.lane n.val) 0x0A0 15 v
    | .tdomsel n half => d.mWrite m.val (.tll n.val) (0x0A0 + 4 * half.val) 15 v
    | .alignX l => d.mWrite m.val (rxPage l.val) 0x420 15 v

/-- CRSCTL_CNT_CLR (R128): A write of CRSCTL.CNT_CLR sets CRSCNT and JUST to 0. -/
def execCrsctlCntClr (m : Master) (l : RxId) (s : State) : Host.Outcome State Fault Refusal :=
  s.live fun d => d.mWrite m.val (rxPage l.val) 0x0AC 15 1

/-- ANC_PACKET_PARSED (R144): The parser finds an ancillary packet, which it validates, discards or keeps as a record, taps and routes. -/
def execAncPacketParsed (n : Fin 144) (stream line : Nat) (vert : Bool) (start : Nat) (rest : List Word10) (s : State) : Host.Outcome State Fault Refusal :=
  s.live fun d => d.ancParsed n.val stream line vert start rest

/-- ANCCTL_CNT_CLR (R152): A write of ANCCTL.CNT_CLR clears the ancillary and audio error counts and the lane's ancillary context counts. -/
def execAncctlCntClr (m : Master) (l : RxId) (s : State) : Host.Outcome State Fault Refusal :=
  s.live fun d => d.mWrite m.val (rxPage l.val) (if l.val < 144 then 0x104 else 0x144) 15 1

/-- ANC_CONTEXT_WRITE (R152): A write of word 0 of an ancillary context updates its shadow copy, or it is rejected. -/
def execAncContextWrite (m : Master) (i : Fin 2944) (v : Word) (s : State) : Host.Outcome State Fault Refusal :=
  s.live fun d => d.mCtxWrite m.val (0x80000 + 8 * i.val) 15 v

/-- AUDIO_PACKET_RECEIVED (R164): An embedded-audio packet is checked and de-embedded into slots, or it is discarded with substitution. -/
def execAudioPacketReceived (n : Fin 144) (pair : Nat) (group : Fin 8) (sub : Fin 16) (x : AudioRx) (s : State) : Host.Outcome State Fault Refusal :=
  s.live fun d => d.audioRx n.val pair group.val sub.val x

end Sys2Proof.Machine
end

