-- ==== Sys2Proof/Machine/ExecEngines.lean ====
section
/-! DEFINITION. The commands of one family, one meaning each: line engines: control, events and the instructions of Table 15.6 (R333 to R349). -/

namespace Sys2Proof.Machine

/-- LENG_START (R336): LENG.CTL.START sets PC to ENTRY, clears registers and starts execution. -/
def execLengStart (m : Master) (n : Fin 144) (s : State) : Host.Outcome State Fault Refusal :=
  s.live fun d => d.mWrite m.val (.leng n.val) 0x020 15 1

/-- LENG_STOP (R336): LENG.CTL.STOP halts a running or waiting engine with code HOST. -/
def execLengStop (m : Master) (n : Fin 144) (s : State) : Host.Outcome State Fault Refusal :=
  s.live fun d => d.mWrite m.val (.leng n.val) 0x020 15 2

/-- LENG_ENABLE_WRITE (R336): A write of LENG PAGE_CTRL.ENABLE = 0 halts a running engine with code HOST and forbids START. -/
def execLengEnableWrite (m : Master) (n : Fin 144) (v : Word) (s : State) : Host.Outcome State Fault Refusal :=
  s.live fun d => d.mWrite m.val (.leng n.val) 0x008 15 v

/-- LENG_CNT_CLR (R347): A write of LENG.CTL.CNT_CLR clears UCNT, PKTCNT, PKTCNT2 and EVTCNT. -/
def execLengCntClr (m : Master) (n : Fin 144) (s : State) : Host.Outcome State Fault Refusal :=
  s.live fun d => d.mWrite m.val (.leng n.val) 0x020 15 4

/-- LENG_ISTORE_WRITE (R334): A master writes the instruction store, which is rejected unless the engine is STOPPED or HALTED. -/
def execLengIstoreWrite (m : Master) (n : Fin 144) (i : Fin 1024) (v : Word) (s : State) : Host.Outcome State Fault Refusal :=
  s.live fun d => d.transfer m.val (0x201000 + 0x4000 * n.val + 4 * i.val) 0 true [⟨15, v⟩] {}

/-- LENG_RECORD_ARRIVAL (R335): A record arrives at the engine's input FIFO and is held or dropped when the FIFO is full. -/
def execLengRecordArrival (n : Fin 144) (s : State) : Host.Outcome State Fault Refusal :=
  s.live fun d => d.lengArrive n.val

/-- LENG_EVENT (R338): A LINE, SWL, FRAME, DB or PKT event is latched, or counted as overrun, and a waiting engine resumes. -/
def execLengEvent (n : Fin 144) (b : Fin 5) (s : State) : Host.Outcome State Fault Refusal :=
  s.live fun d => d.lengEvent n.val b.val

/-- DB_IN_RING (R346): A write of LENG.DB_IN.RING latches event DB. -/
def execDbInRing (m : Master) (n : Fin 144) (s : State) : Host.Outcome State Fault Refusal :=
  s.live fun d => d.mWrite m.val (.leng n.val) 0x034 15 1

/-- DBG_STEP (R336): A write of LENG.DBG_X.STEP executes one instruction of a halted engine and halts it again. -/
def execDbgStep (m : Master) (n : Fin 144) (rest : Word) (s : State) : Host.Outcome State Fault Refusal :=
  s.live fun d => d.mWrite m.val (.leng n.val) 0x400 15 (rest ||| 0x80000000)

/-- NOP (R341): Instruction NOP does nothing. -/
def execNop (n : Fin 144) (s : State) : Host.Outcome State Fault Refusal :=
  s.live fun d => d.instrRun n.val 0x00 Dev.opNop

/-- ADD (R341): Instruction ADD writes a + b to d. -/
def execAdd (n : Fin 144) (s : State) : Host.Outcome State Fault Refusal :=
  s.live fun d => d.instrRun n.val 0x01 Dev.opAdd

/-- SUB (R341): Instruction SUB writes a − b to d. -/
def execSub (n : Fin 144) (s : State) : Host.Outcome State Fault Refusal :=
  s.live fun d => d.instrRun n.val 0x02 Dev.opSub

/-- AND (R341): Instruction AND writes a & b to d. -/
def execAnd (n : Fin 144) (s : State) : Host.Outcome State Fault Refusal :=
  s.live fun d => d.instrRun n.val 0x03 Dev.opAnd

/-- OR (R341): Instruction OR writes a | b to d. -/
def execOr (n : Fin 144) (s : State) : Host.Outcome State Fault Refusal :=
  s.live fun d => d.instrRun n.val 0x04 Dev.opOr

/-- XOR (R341): Instruction XOR writes a ^ b to d. -/
def execXor (n : Fin 144) (s : State) : Host.Outcome State Fault Refusal :=
  s.live fun d => d.instrRun n.val 0x05 Dev.opXor

/-- SHL (R341): Instruction SHL shifts a left by b[4:0]. -/
def execShl (n : Fin 144) (s : State) : Host.Outcome State Fault Refusal :=
  s.live fun d => d.instrRun n.val 0x06 Dev.opShl

/-- SHR (R341): Instruction SHR shifts a right logically by b[4:0]. -/
def execShr (n : Fin 144) (s : State) : Host.Outcome State Fault Refusal :=
  s.live fun d => d.instrRun n.val 0x07 Dev.opShr

/-- ADDI (R341): Instruction ADDI adds a sign-extended immediate. -/
def execAddi (n : Fin 144) (s : State) : Host.Outcome State Fault Refusal :=
  s.live fun d => d.instrRun n.val 0x08 Dev.opAddi

/-- ANDI (R341): Instruction ANDI ands a zero-extended immediate. -/
def execAndi (n : Fin 144) (s : State) : Host.Outcome State Fault Refusal :=
  s.live fun d => d.instrRun n.val 0x09 Dev.opAndi

/-- ORI (R341): Instruction ORI ors a zero-extended immediate. -/
def execOri (n : Fin 144) (s : State) : Host.Outcome State Fault Refusal :=
  s.live fun d => d.instrRun n.val 0x0A Dev.opOri

/-- SHLI (R341): Instruction SHLI shifts left by an immediate. -/
def execShli (n : Fin 144) (s : State) : Host.Outcome State Fault Refusal :=
  s.live fun d => d.instrRun n.val 0x0B Dev.opShli

/-- SHRI (R341): Instruction SHRI shifts right logically by an immediate. -/
def execShri (n : Fin 144) (s : State) : Host.Outcome State Fault Refusal :=
  s.live fun d => d.instrRun n.val 0x0C Dev.opShri

/-- LUI (R341): Instruction LUI writes imm18 << 14 to d. -/
def execLui (n : Fin 144) (s : State) : Host.Outcome State Fault Refusal :=
  s.live fun d => d.instrRun n.val 0x0D Dev.opLui

/-- EXT (R341): Instruction EXT extracts a bit field of a into d. -/
def execExt (n : Fin 144) (s : State) : Host.Outcome State Fault Refusal :=
  s.live fun d => d.instrRun n.val 0x0E Dev.opExt

/-- INS (R341): Instruction INS inserts the low bits of a into a field of d. -/
def execIns (n : Fin 144) (s : State) : Host.Outcome State Fault Refusal :=
  s.live fun d => d.instrRun n.val 0x0F Dev.opIns

/-- LD (R341): Instruction LD loads a data-memory word, or halts with DMEM. -/
def execLd (n : Fin 144) (s : State) : Host.Outcome State Fault Refusal :=
  s.live fun d => d.instrRun n.val 0x10 Dev.opLd

/-- ST (R341): Instruction ST stores a data-memory word, or halts with DMEM. -/
def execSt (n : Fin 144) (s : State) : Host.Outcome State Fault Refusal :=
  s.live fun d => d.instrRun n.val 0x11 Dev.opSt

/-- BEQ (R341): Instruction BEQ branches if a = b. -/
def execBeq (n : Fin 144) (s : State) : Host.Outcome State Fault Refusal :=
  s.live fun d => d.instrRun n.val 0x12 Dev.opBeq

/-- BNE (R341): Instruction BNE branches if a ≠ b. -/
def execBne (n : Fin 144) (s : State) : Host.Outcome State Fault Refusal :=
  s.live fun d => d.instrRun n.val 0x13 Dev.opBne

/-- BLT (R341): Instruction BLT branches if a < b, signed. -/
def execBlt (n : Fin 144) (s : State) : Host.Outcome State Fault Refusal :=
  s.live fun d => d.instrRun n.val 0x14 Dev.opBlt

/-- BGE (R341): Instruction BGE branches if a ≥ b, signed. -/
def execBge (n : Fin 144) (s : State) : Host.Outcome State Fault Refusal :=
  s.live fun d => d.instrRun n.val 0x15 Dev.opBge

/-- J (R341): Instruction J jumps to an absolute address. -/
def execJ (n : Fin 144) (s : State) : Host.Outcome State Fault Refusal :=
  s.live fun d => d.instrRun n.val 0x16 Dev.opJ

/-- CALL (R341): Instruction CALL pushes the next address and jumps, or halts with STACK. -/
def execCall (n : Fin 144) (s : State) : Host.Outcome State Fault Refusal :=
  s.live fun d => d.instrRun n.val 0x17 Dev.opCall

/-- RET (R341): Instruction RET pops and jumps, or halts with STACK. -/
def execRet (n : Fin 144) (s : State) : Host.Outcome State Fault Refusal :=
  s.live fun d => d.instrRun n.val 0x18 Dev.opRet

/-- WAIT (R339): Instruction WAIT returns the latched events of its mask, or enters WAITING. -/
def execWait (n : Fin 144) (s : State) : Host.Outcome State Fault Refusal :=
  s.live fun d => d.instrRun n.val 0x19 Dev.opWait

/-- LDH (R342): Instruction LDH reads a word or the info of the head record. -/
def execLdh (n : Fin 144) (s : State) : Host.Outcome State Fault Refusal :=
  s.live fun d => d.instrRun n.val 0x1A Dev.opLdh

/-- GETU (R341): Instruction GETU reads the next UDW of the head record. -/
def execGetu (n : Fin 144) (s : State) : Host.Outcome State Fault Refusal :=
  s.live fun d => d.instrRun n.val 0x1B Dev.opGetu

/-- NEWP (R342): Instruction NEWP opens a build, abandoning any open one. -/
def execNewp (n : Fin 144) (s : State) : Host.Outcome State Fault Refusal :=
  s.live fun d => d.instrRun n.val 0x1C Dev.opNewp

/-- PUTU (R341): Instruction PUTU appends a UDW to the build, or halts with DC. -/
def execPutu (n : Fin 144) (s : State) : Host.Outcome State Fault Refusal :=
  s.live fun d => d.instrRun n.val 0x1D Dev.opPutu

/-- ENDP (R342): Instruction ENDP closes the build, computes its checksum and sends the packet to its destination. -/
def execEndp (n : Fin 144) (s : State) : Host.Outcome State Fault Refusal :=
  s.live fun d => d.instrRun n.val 0x1E Dev.opEndp

/-- DROP (R342): Instruction DROP discards the head record. -/
def execDrop (n : Fin 144) (s : State) : Host.Outcome State Fault Refusal :=
  s.live fun d => d.instrRun n.val 0x1F Dev.opDrop

/-- FWD (R342): Instruction FWD sends the head record on its own path. -/
def execFwd (n : Fin 144) (s : State) : Host.Outcome State Fault Refusal :=
  s.live fun d => d.instrRun n.val 0x20 Dev.opFwd

/-- PUSHQ (R342): Instruction PUSHQ copies the head record to a queue and reports a tail drop. -/
def execPushq (n : Fin 144) (s : State) : Host.Outcome State Fault Refusal :=
  s.live fun d => d.instrRun n.val 0x21 Dev.opPushq

/-- PAR (R341): Instruction PAR forms a 10-bit word with parity bits. -/
def execPar (n : Fin 144) (s : State) : Host.Outcome State Fault Refusal :=
  s.live fun d => d.instrRun n.val 0x22 Dev.opPar

/-- CRC (R341): Instruction CRC advances a CRC-16 by one byte. -/
def execCrc (n : Fin 144) (s : State) : Host.Outcome State Fault Refusal :=
  s.live fun d => d.instrRun n.val 0x23 Dev.opCrc

/-- CINC (R347): Instruction CINC increments a local counter. -/
def execCinc (n : Fin 144) (s : State) : Host.Outcome State Fault Refusal :=
  s.live fun d => d.instrRun n.val 0x24 Dev.opCinc

/-- CRD (R347): Instruction CRD reads a performance counter if permitted. -/
def execCrd (n : Fin 144) (s : State) : Host.Outcome State Fault Refusal :=
  s.live fun d => d.instrRun n.val 0x25 Dev.opCrd

/-- DBELL (R346): Instruction DBELL writes DB_OUT and raises a doorbell interrupt event. -/
def execDbell (n : Fin 144) (s : State) : Host.Outcome State Fault Refusal :=
  s.live fun d => d.instrRun n.val 0x26 Dev.opDbell

/-- TIME (R341): Instruction TIME reads the XO tick count or its latched upper bits. -/
def execTime (n : Fin 144) (s : State) : Host.Outcome State Fault Refusal :=
  s.live fun d => d.instrRun n.val 0x27 Dev.opTime

/-- HALT (R341): Instruction HALT halts the engine with a user code. -/
def execHalt (n : Fin 144) (s : State) : Host.Outcome State Fault Refusal :=
  s.live fun d => d.instrRun n.val 0x28 Dev.opHalt

/-- ILLEGAL_INSTRUCTION (R340): An unknown opcode or a non-zero unused field halts the engine with ILLEGAL. -/
def execIllegalInstruction (n : Fin 144) (s : State) : Host.Outcome State Fault Refusal :=
  s.live fun d => d.instrBad n.val

end Sys2Proof.Machine
end

