-- ==== Sys2Proof/Machine/ExecFabric.lean ====
section
/-! DEFINITION. The commands of one family, one meaning each: connection memory, take groups and courses (R175 to R204, R294). -/

namespace Sys2Proof.Machine

/-- TILE_CONTEXT_WRITE (R181): A write of word 0 of a tile context updates the shadow copy in every wall that has a claim, or it is rejected. -/
def execTileContextWrite (m : Master) (t : Fin 1472) (v : Word) (s : State) : Host.Outcome State Fault Refusal :=
  s.live fun d => d.mCtxWrite m.val (32 * t.val) 15 v

/-- TILE_GROUP_WRITE (R184): A write of word 1 of a context sets its take group at once, or it is rejected with ARMED. -/
def execTileGroupWrite (m : Master) (t : Fin 1472) (v : Word) (s : State) : Host.Outcome State Fault Refusal :=
  s.live fun d => d.mCtxWrite m.val (32 * t.val + 4) 15 v

/-- ARM (R188): TG_CMD ARM arms a group with the trigger in TG_TRIG, and a NEXT_SWITCH trigger fires at once. -/
def execArm (m : Master) (g : Fin 256) (s : State) : Host.Outcome State Fault Refusal :=
  s.live fun d => d.mWrite m.val .fab 0x030 15 (BitVec.ofNat 32 (0x100 + g.val))

/-- DISARM (R188): TG_CMD DISARM returns an ARMED group to IDLE. -/
def execDisarm (m : Master) (g : Fin 256) (s : State) : Host.Outcome State Fault Refusal :=
  s.live fun d => d.mWrite m.val .fab 0x030 15 (BitVec.ofNat 32 (0x200 + g.val))

/-- FRAME_TRIGGER_FIRE (R189): A FRAME trigger fires SETUP before its switch line's read point, and the group goes to EXECUTING or DEFERRED. -/
def execFrameTriggerFire (k : Fin 16) (frame : BitVec 16) (s : State) : Host.Outcome State Fault Refusal :=
  s.live fun d => (d.frameFire k.val frame.toNat).commitSettle

/-- GPI_FILTERED_EDGE (R192): A TAKE_GPI level holds for the debounce time, which gives a filtered edge that fires matching groups and counts EDGES. -/
def execGpiFilteredEdge (n : Fin 8) (level : Bool) (s : State) : Host.Outcome State Fault Refusal :=
  s.live fun d => (d.gpiEdge n.val level).commitSettle

/-- FAB_GPI_WRITE (R192): A write of FAB.GPI[n] changes DEBOUNCE at once, applied to a raw level being counted. -/
def execFabGpiWrite (m : Master) (n : Fin 8) (v : Word) (s : State) : Host.Outcome State Fault Refusal :=
  s.live fun d => d.mWrite m.val .fab (0x0A0 + 4 * n.val) 15 v

/-- CONTEXT_COMMIT (R190): A member context commits at its switch line or instant: word 0 is copied to word 2 in both walls, with its ancillary contexts. -/
def execContextCommit (g : Fin 256) (t : Fin 1472) (s : State) : Host.Outcome State Fault Refusal :=
  s.live fun d => d.commitNow g.val t.val

/-- HOLD_EXPIRY (R196): An output has held for one frame of courses, and it goes to BLACK or GEN by VOID_ACT. -/
def execHoldExpiry (t : Fin 1472) (s : State) : Host.Outcome State Fault Refusal :=
  s.live fun d => d.holdExpire t.val

/-- FAB_GEN_WRITE (R198): A write of FAB.GEN[n] configures a generator and its bond, releasing or rejecting members. -/
def execFabGenWrite (m : Master) (n : Fin 32) (v : Word) (s : State) : Host.Outcome State Fault Refusal :=
  s.live fun d => d.mWrite m.val .fab (0x100 + 4 * n.val) 15 v

/-- FAB_CNT_CLR (R181): A write of FAB.CTL.CNT_CLR clears the tile context counts, the SVC counts and TAKE_CNT. -/
def execFabCntClr (m : Master) (s : State) : Host.Outcome State Fault Refusal :=
  s.live fun d => d.mWrite m.val .fab 0x314 15 1

/-- COURSE_READ_POINT (R126): A course read point of a domain occurs: each output tile's source is checked and bricks, packets and audio are delivered and
built into lines. -/
def execCourseReadPoint (k : Fin 16) (line : Nat) (items : List LateItem) (s : State) : Host.Outcome State Fault Refusal :=
  s.live fun d => d.course k.val line items

/-- DOMAIN_FRAME_START (R289): A domain's frame starts: FCNT increments, FRAME is set, and frame-start actions of channels and probes run. -/
def execDomainFrameStart (k : Fin 16) (err : Int) (epoch : Nat) (s : State) : Host.Outcome State Fault Refusal :=
  s.live fun d => d.frameStart k.val err epoch

end Sys2Proof.Machine
end

