-- ==== Sys2Proof/Machine/ExecFrameStore.lean ====
section
/-! DEFINITION. The commands of one family, one meaning each: the frame store (R298 to R315). -/

namespace Sys2Proof.Machine

/-- MEMC_ENABLE_WRITE (R298): A write of MEMC PAGE_CTRL.ENABLE starts initialisation and training, or stops the MEMC. -/
def execMemcEnableWrite (m : Master) (i : Fin 2) (v : Word) (s : State) : Host.Outcome State Fault Refusal :=
  s.live fun d => d.mWrite m.val (.memc i.val) 0x008 15 v

/-- MEMC_TRAIN_DONE (R298): Training ends, and the MEMC becomes READY or FAIL. -/
def execMemcTrainDone (i : Fin 2) (pass : Bool) (failCh : Fin 16) (s : State) : Host.Outcome State Fault Refusal :=
  s.live fun d => d.memcTrained i.val pass failCh.val

/-- MEMC_RETRAIN (R299): Every 100 ms the MEMC retrains WCK-to-DQ timing without stopping traffic. -/
def execMemcRetrain (i : Fin 2) (derate : Bool) (s : State) : Host.Outcome State Fault Refusal :=
  s.live fun d => d.memcRetrain i.val derate

/-- CH_CFG_WRITE (R302): A write of FST.CH_CFG enables or disables a channel after admission checks, with effect at the next frame start. -/
def execChCfgWrite (m : Master) (v : Word) (s : State) : Host.Outcome State Fault Refusal :=
  s.live fun d => d.mWrite m.val .fst 0x024 15 v

/-- FS_FRAME_WRITTEN (R305): A frame synchroniser completes writing a frame, or loses input and marks it unreadable. -/
def execFsFrameWritten (c : Fin 256) (s : State) : Host.Outcome State Fault Refusal :=
  s.live fun d => (d.fsFrame c.val).txFollow

/-- FREEZE (R306): CH_CTL FREEZE puts a synchroniser into FROZEN. -/
def execFreeze (m : Master) (s : State) : Host.Outcome State Fault Refusal :=
  s.live fun d => d.mWrite m.val .fst 0x030 15 0x10000

/-- UNFREEZE (R306): CH_CTL UNFREEZE returns a synchroniser to RUN at the next frame start. -/
def execUnfreeze (m : Master) (s : State) : Host.Outcome State Fault Refusal :=
  s.live fun d => d.mWrite m.val .fst 0x030 15 0x20000

/-- PLAY (R309): CH_CTL PLAY starts playout at the next frame start. -/
def execPlay (m : Master) (s : State) : Host.Outcome State Fault Refusal :=
  s.live fun d => d.mWrite m.val .fst 0x030 15 0x10000

/-- STOP (R309): CH_CTL STOP enters STOPPED at the next frame start. -/
def execStop (m : Master) (s : State) : Host.Outcome State Fault Refusal :=
  s.live fun d => d.mWrite m.val .fst 0x030 15 0x20000

/-- PLAY_AT (R309): CH_CTL PLAY_AT starts playout at the frame whose count equals FRAME. -/
def execPlayAt (m : Master) (frame : BitVec 16) (s : State) : Host.Outcome State Fault Refusal :=
  s.live fun d => d.mWrite m.val .fst 0x030 15 (BitVec.ofNat 32 (0x30000 + frame.toNat))

/-- CAPTURE_START (R310): CH_CTL START begins capture at the next frame start of its domain. -/
def execCaptureStart (m : Master) (s : State) : Host.Outcome State Fault Refusal :=
  s.live fun d => d.mWrite m.val .fst 0x030 15 0x10000

/-- CAPTURE_STOP (R310): CH_CTL STOP ends a ring capture at the end of the current frame. -/
def execCaptureStop (m : Master) (s : State) : Host.Outcome State Fault Refusal :=
  s.live fun d => d.mWrite m.val .fst 0x030 15 0x20000

/-- DL_CFG_WRITE (R311): A write of FST.DL_CFG enables a delay line or changes its delay with a ramp. -/
def execDlCfgWrite (m : Master) (v : Word) (s : State) : Host.Outcome State Fault Refusal :=
  s.live fun d => d.mWrite m.val .fst 0x054 15 v

/-- APERTURE_BASE_WRITE (R315): A write of FST.APERTURE_BASE moves the aperture for every later access. -/
def execApertureBaseWrite (m : Master) (v : Word) (s : State) : Host.Outcome State Fault Refusal :=
  s.live fun d => d.mWrite m.val .fst 0x064 15 v

/-- FST_CNT_CLR (R312): A write of FST.CTL.CNT_CLR clears every channel's counts and both MEMC pages' counts. -/
def execFstCntClr (m : Master) (s : State) : Host.Outcome State Fault Refusal :=
  s.live fun d => d.mWrite m.val .fst 0x068 15 1

end Sys2Proof.Machine
end

