-- ==== Sys2Proof/Machine/ExecHost.lean ====
section
/-! DEFINITION. The commands of one family, one meaning each: host access, boot and JTAG (R428 to R444). -/

namespace Sys2Proof.Machine

/-- PCIE_REQUEST (R429): A PCIe memory request is split into M4 transfers and completed, or answered Unsupported Request. -/
def execPcieRequest (r : PciReq) (s : State) : Host.Outcome State Fault Refusal :=
  s.live fun d => d.pcieRequest r

/-- PCIE_LINK_RESET (R431): PERST, link down, hot reset or FLR resets M4, the configuration space and the MSI-X table. -/
def execPcieLinkReset (k : LinkReset) (s : State) : Host.Outcome State Fault Refusal :=
  s.always fun d => if d.stopped then d.perstFall k else d.pcieLinkReset k

/-- MSIX_SEND (R430): A pending MSI-X message is sent once MSI-X is enabled and its vector unmasked. -/
def execMsixSend (enable : Bool) (v : Fin 32) (s : State) : Host.Outcome State Fault Refusal :=
  s.live fun d => d.msixSend enable v.val

/-- SPI_FRAME (R432): An SPI frame carries one 32-bit access and returns wait, status and read-data words. -/
def execSpiFrame (f : SpiFrame) (s : State) : Host.Outcome State Fault Refusal :=
  s.live fun d => d.spiFrame f

/-- SPI_ABORT (R434): SPI_CS_N rises early or SPI_SCK idles too long, and the frame aborts and M5 is reset. -/
def execSpiAbort (f : Option SpiFrame) (s : State) : Host.Outcome State Fault Refusal :=
  s.live fun d => d.spiAbort f

/-- BOOT_START (R435): The boot loader starts by BOOTMODE: flash discovery, WAIT_HOST or no boot. -/
def execBootStart (s : State) : Host.Outcome State Fault Refusal :=
  s.live fun d => d.bootStart

/-- SFDP_DISCOVERY_DONE (R438): The SFDP tables are read and the fast read chosen, or the boot fails with NO_FLASH. -/
def execSfdpDiscoveryDone (found addr4 quad : Bool) (s : State) : Host.Outcome State Fault Refusal :=
  s.live fun d => d.sfdpDone found addr4 quad

/-- IMAGE_CHECK_DONE (R439): An image has been read and checked, and its segments are applied and DONE entered, or it fails to the alternate or FAIL. -/
def execImageCheckDone (flash : List Word) (bus big : Bool) (s : State) : Host.Outcome State Fault Refusal :=
  s.live fun d => d.imageDone flash bus big

/-- LOAD_IMG (R441): BOOT.CTL.LOAD_IMG checks and applies the image in bank 4. -/
def execLoadImg (m : Master) (s : State) : Host.Outcome State Fault Refusal :=
  s.live fun d => d.mWrite m.val .boot 0x024 15 2

/-- DONE (R436): BOOT.CTL.DONE enters DONE and starts the cores whose RUN bit is set. -/
def execDone (m : Master) (s : State) : Host.Outcome State Fault Refusal :=
  s.live fun d => d.mWrite m.val .boot 0x024 15 1

/-- FLASH_CMD_WRITE (R444): A write of BOOT.FLASH_CMD sends one 1-1-1 flash command. -/
def execFlashCmdWrite (m : Master) (v : Word) (s : State) : Host.Outcome State Fault Refusal :=
  s.live fun d => d.mWrite m.val .boot 0x044 15 v

/-- FLASH_CMD_DONE (R444): A flash command ends, BUSY clears and waiting flash-window reads proceed. -/
def execFlashCmdDone (data : List Byte) (reads : List (List Word)) (s : State) : Host.Outcome State Fault Refusal :=
  s.live fun d => d.flashDone data reads

/-- JTAG_TRST (R362): JTAG_TRST_N low resets the TAP and master M7. -/
def execJtagTrst (s : State) : Host.Outcome State Fault Refusal :=
  s.always fun d => d.trst

/-- IDCODE (R442): TAP instruction IDCODE selects the identification register. -/
def execIdcode (s : State) : Host.Outcome State Fault Refusal :=
  s.always fun d => d.idcode

/-- SAMPLE_PRELOAD (R442): TAP instruction SAMPLE/PRELOAD samples or preloads the boundary-scan chain. -/
def execSamplePreload (balls load : List Bool) (s : State) : Host.Outcome State Fault Refusal :=
  s.always fun d => d.samplePreload balls load

/-- EXTEST (R442): TAP instruction EXTEST drives the boundary-scan chain onto the balls. -/
def execExtest (balls load : List Bool) (s : State) : Host.Outcome State Fault Refusal :=
  s.always fun d => d.extest balls load

/-- CLAMP (R442): TAP instruction CLAMP holds the balls and selects bypass. -/
def execClamp (s : State) : Host.Outcome State Fault Refusal :=
  s.always fun d => d.tapSelect .clamp

/-- HIGHZ (R442): TAP instruction HIGHZ puts the scanned outputs in high impedance. -/
def execHighz (s : State) : Host.Outcome State Fault Refusal :=
  s.always fun d => d.tapSelect .highz

/-- BYPASS (R442): TAP instruction BYPASS, or any unlisted code, selects the bypass register. -/
def execBypass (s : State) : Host.Outcome State Fault Refusal :=
  s.always fun d => d.tapSelect .bypass

/-- DEBUG (R443): TAP instruction DEBUG makes one M7 matrix access per Update-DR, unless locked by SECURE. -/
def execDebug (f : SpiFrame) (s : State) : Host.Outcome State Fault Refusal :=
  s.always fun d => d.debug f

/-- PCIE_PERST_RISE (R431): PCIE_PERST_N rises, releasing M4 and the endpoint from reset and setting HOST.PAGE_EVT.PERST_RISE. -/
def execPciePerstRise (s : State) : Host.Outcome State Fault Refusal :=
  s.always fun d => if d.stopped then d.perstRise else d.perstRise.setEvt .host 10

/-- PCIE_LINK_UP (R428): The PCIe link finishes training, and PCI_STAT reports LINK_UP, SPEED and WIDTH, with HOST.PAGE_EVT.LINK_CHANGE set. -/
def execPcieLinkUp (speed width : Fin 5) (s : State) : Host.Outcome State Fault Refusal :=
  s.live fun d => d.pcieLinkUp speed.val width.val

end Sys2Proof.Machine
end

