-- ==== Sys2Proof/Machine/ExecInterrupts.lean ====
section
/-! DEFINITION. The commands of one family, one meaning each: the interrupt controller (R384 to R398). -/

namespace Sys2Proof.Machine

/-- INTERRUPT_COMMIT (R389): A free slot takes the highest-priority deliverable source, commits it and raises the target's line or MSI-X. -/
def execInterruptCommit (t : Fin 5) (fast : Bool) (s : State) : Host.Outcome State Fault Refusal :=
  s.live fun d => d.intCommit t.val (if fast then 1 else 0)

/-- INTERRUPT_DELIVERY_DONE (R390): The delivery handshake completes and the commit window closes. -/
def execInterruptDeliveryDone (t : Fin 5) (fast : Bool) (s : State) : Host.Outcome State Fault Refusal :=
  s.live fun d => d.intDelivered t.val (if fast then 1 else 0)

/-- CLAIM (R391): A read of CLAIM consumes one event, empties the slot and puts the source in service. -/
def execClaim (m : Master) (fast : Bool) (s : State) : Host.Outcome State Fault Refusal :=
  s.live fun d => if fast then d.mRead m.val .intcF 0x020 else d.mRead m.val .intc 0x0C0

/-- CLAIM_ALL (R391): A read of CLAIM_ALL consumes every event of the committed source. -/
def execClaimAll (m : Master) (fast : Bool) (s : State) : Host.Outcome State Fault Refusal :=
  s.live fun d => if fast then d.mRead m.val .intcF 0x024 else d.mRead m.val .intc 0x0C4

/-- COMPLETE (R392): A write of COMPLETE ends service, re-pending the source or logging a bad complete. -/
def execComplete (m : Master) (fast : Bool) (source : Fin 512) (s : State) : Host.Outcome State Fault Refusal :=
  s.live fun d => if fast then d.mWrite m.val .intcF 0x028 15 (BitVec.ofNat 32 source.val) else d.mWrite m.val .intc 0x0C8 15 (BitVec.ofNat 32 source.val)

/-- SWI_WRITE (R388): A write of INTC.SWI adds events to software interrupt sources. -/
def execSwiWrite (m : Master) (raise : BitVec 16) (s : State) : Host.Outcome State Fault Refusal :=
  s.live fun d => d.mWrite m.val .intc 0x0CC 15 (raise.zeroExtend 32)

/-- INTC_EN_WRITE (R390): A write of INTC.EN enables or masks sources, with mask writes acting under the commit window. -/
def execIntcEnWrite (m : Master) (i : Fin 16) (v : Word) (s : State) : Host.Outcome State Fault Refusal :=
  s.live fun d => d.mWrite m.val .intc (0x040 + 4 * i.val) 15 v

/-- SRC_CFG_WRITE (R393): A write of INTC.SRC_CFG changes class, priority, vector or route. -/
def execSrcCfgWrite (m : Master) (v : Word) (s : State) : Host.Outcome State Fault Refusal :=
  s.live fun d => d.mWrite m.val .intc 0x028 15 v

/-- INTC_CFG_WRITE (R398): A write of INTC.CFG changes MODE or HOST_PIN when permitted. -/
def execIntcCfgWrite (m : Master) (v : Word) (s : State) : Host.Outcome State Fault Refusal :=
  s.live fun d => d.mWrite m.val .intc 0x020 15 v

/-- WATCH_WRITE (R396): A write of INTC.WATCH changes the wake set. -/
def execWatchWrite (m : Master) (i : Fin 32) (v : Word) (s : State) : Host.Outcome State Fault Refusal :=
  s.live fun d => d.mWrite m.val .intc (0x100 + 4 * i.val) 15 v

end Sys2Proof.Machine
end

