-- ==== Sys2Proof/Machine/ExecLane.lean ====
section
/-! DEFINITION. The commands of one family, one meaning each: lanes and their framers (R71 to R114, R246). -/

namespace Sys2Proof.Machine

/-- TXCFG_WRITE (R75): A write of LANE.TXCFG assigns, shares or releases a transmit synthesiser, forms or releases a transmit bond, or changes a lane
route, or it is rejected. -/
def execTxcfgWrite (m : Master) (n : Fin 144) (v : Word) (s : State) : Host.Outcome State Fault Refusal :=
  s.live fun d => d.mWrite m.val (.lane n.val) 0x024 15 v

/-- SYNTHESISER_LOCK (R76): A newly assigned synthesiser locks within 500 µs, and its lanes leave WAIT_PLL for ACTIVE: PLL0, PLL1 or AUX of a quad,
those of the Tile Link lanes from quad 36 on. -/
def execSynthesiserLock (q : Fin 40) (pll : Fin 3) (s : State) : Host.Outcome State Fault Refusal :=
  s.live fun d => (d.synthLock q.val pll.val).txFollow

/-- RXCFG_WRITE (R88): A write of LANE.RXCFG restarts the receiver in NO_SIGNAL with LOS set, forms or releases a receive bond, and clears DET_CHANGES. -/
def execRxcfgWrite (m : Master) (n : Fin 144) (v : Word) (s : State) : Host.Outcome State Fault Refusal :=
  s.live fun d => d.mWrite m.val (.lane n.val) 0x020 15 v

/-- LANE_ENABLE_WRITE (R89): A write of LANE PAGE_CTRL.ENABLE makes both directions behave as OFF or restarts them, and keeps the configuration and the
synthesiser. -/
def execLaneEnableWrite (m : Master) (n : Fin 144) (v : Word) (s : State) : Host.Outcome State Fault Refusal :=
  s.live fun d => d.mWrite m.val (.lane n.val) 0x008 15 v

/-- LOS_SET (R86): The receive swing stays below the LOS set level for 10 µs, LOS is set and the receiver enters NO_SIGNAL. -/
def execLosSet (l : RxId) (s : State) : Host.Outcome State Fault Refusal :=
  s.live fun d => (d.losSet l.val).rxDone l.val

/-- LOS_CLEAR (R86): The swing stays above the clear level for 100 µs, LOS clears and the receiver enters ACQUIRE or HUNT. -/
def execLosClear (l : RxId) (s : State) : Host.Outcome State Fault Refusal :=
  s.live fun d => (d.losClear l.val).rxDone l.val

/-- LOL_SET (R86): A CDR frequency or phase error persists for 8 µs and LOL is set. -/
def execLolSet (l : RxId) (s : State) : Host.Outcome State Fault Refusal :=
  s.live fun d => (d.lolSet l.val).rxDone l.val

/-- CDR_LOCK (R85): The CDR holds lock for 64 µs without a break, LOL clears and the receiver enters LOCKED. -/
def execCdrLock (l : RxId) (s : State) : Host.Outcome State Fault Refusal :=
  s.live fun d => (d.cdrLock l.val).rxDone l.val

/-- CDR_RESTART (R85): LOL persists for 200 µs in ACQUIRE, and the CDR is restarted. -/
def execCdrRestart (l : RxId) (s : State) : Host.Outcome State Fault Refusal :=
  s.live fun d => d.cdrRestart l.val

/-- AUTO_CANDIDATE_TIMEOUT (R83): An AUTO candidate rate has been held for 2.2 ms without detection, and the receiver hunts on the next candidate rate. -/
def execAutoCandidateTimeout (n : Fin 144) (s : State) : Host.Outcome State Fault Refusal :=
  s.live fun d => (d.autoNext n.val).rxDone n.val

/-- TESTCTL_INJECT (R91): A write of TESTCTL.INJECT inverts one transmitted bit. -/
def execTestctlInject (m : Master) (l : RxId) (s : State) : Host.Outcome State Fault Refusal :=
  s.live fun d => d.mWrite m.val (rxPage l.val) 0x034 15 1

/-- TESTCTL_CNT_CLR (R91): A write of TESTCTL.CNT_CLR sets TESTCNT to 0. -/
def execTestctlCntClr (m : Master) (l : RxId) (s : State) : Host.Outcome State Fault Refusal :=
  s.live fun d => d.mWrite m.val (rxPage l.val) 0x034 15 2

/-- TEST_CHECKER_LOCK_CHANGE (R91): The test checker locks after enough correct bits or word pairs, or loses lock with 32 errors in 64 and sets
TEST_LOCK_LOST. -/
def execTestCheckerLockChange (l : RxId) (levels : List Bool) (s : State) : Host.Outcome State Fault Refusal :=
  s.live fun d => d.checkLevels l.val levels

/-- TRS_RECEIVED (R97): A checking EAV or SAV reaches the framer, and it creates or advances a candidate, confirms it, or ends VERIFY in LINE_SYNC or
ambiguity. -/
def execTrsReceived (n : Fin 144) (word : Nat) (bit : Fin 10) (lead trs : List Bool) (offset : Int) (line1 : Bool) (s : State) :
    Host.Outcome State Fault Refusal :=
  s.live fun d => (d.trsReceived n.val (10 * word + bit.val) (lead ++ trs) offset line1).rxDone n.val

/-- CANDIDATE_EXPIRY (R98): No EAV advances a candidate within its line length plus 16 words, and the candidate is freed. -/
def execCandidateExpiry (n : Fin 144) (cand : Fin 4) (s : State) : Host.Outcome State Fault Refusal :=
  s.live fun d => d.candExpiry n.val cand.val

/-- VERIFY_EAV_MISSING (R99): The confirmed candidate's expected EAV is absent at its position, candidates clear and the framer re-enters HUNT. -/
def execVerifyEavMissing (n : Fin 144) (s : State) : Host.Outcome State Fault Refusal :=
  s.live fun d => (d.verifyMissing n.val).rxDone n.val

/-- EXPECTED_TRS_MISSING (R101): An expected TRS is missing and TRSERR is incremented; after LOSS_TRS in a row the framer goes to HUNT with FRM_LOSS. -/
def execExpectedTrsMissing (n : Fin 144) (eav stream2 : Bool) (s : State) : Host.Outcome State Fault Refusal :=
  s.live fun d => (d.trsMissing n.val eav stream2).rxDone n.val

/-- FRAME_COMPLETE (R104): A line 1 ends a complete frame, and the framer identifies the format, enters FRAME_SYNC, flags FMT_UNKNOWN or counts a
departure. -/
def execFrameComplete (n : Fin 144) (meas : FrameMeas) (s : State) : Host.Outcome State Fault Refusal :=
  s.live fun d => (d.frameComplete n.val meas.offset meas.skew).rxDone n.val

/-- LINE_RECEIVED (R109, R135): A framed line ends: at HD or above its CRC and line number are checked and its CRC mark is passed on; the line
passes along the lane routes of its lane. -/
def execLineReceived (n : Fin 144) (line : LineRx) (items : List LateItem) (s : State) : Host.Outcome State Fault Refusal :=
  s.live fun d => ((d.lineArrives n.val line items).routeLine n.val (d.framer n.val).lineNo items).rxDone n.val

/-- EDH_FIELD_CHECK (R110): An SD field's CRCs are compared with the EDH packet of the following field. -/
def execEdhFieldCheck (n : Fin 144) (present : Bool) (ap ff : List Word10) (s : State) : Host.Outcome State Fault Refusal :=
  s.live fun d => (d.edhCheck n.val (if present then some (ap ++ ff) else none)).rxDone n.val

/-- PID_PACKET_RECEIVED (R111): An ST 352 packet is read, held in PID1 or PID2, and compared with FMT for PID_MISMATCH. -/
def execPidPacketReceived (n : Fin 144) (stream2 : Bool) (line : Nat) (words : List Word10) (s : State) : Host.Outcome State Fault Refusal :=
  s.live fun d => (d.pidReceived n.val stream2 line words).rxDone n.val

/-- FRMCTL_CNT_CLR (R101): A write of FRMCTL.CNT_CLR sets FRMCNT, TRSERR, LINEERR and LNERR to 0. -/
def execFrmctlCntClr (m : Master) (n : Fin 144) (s : State) : Host.Outcome State Fault Refusal :=
  s.live fun d => d.mWrite m.val (.lane n.val) 0x088 15 1

/-- MADI_SYNC_SYMBOL (R112): A MADI sync symbol is received and advances symbol and frame hunt. -/
def execMadiSyncSymbol (n : Fin 144) (phase : Fin 5) (gap : Nat) (s : State) : Host.Outcome State Fault Refusal :=
  s.live fun d => (d.madiSync n.val phase.val gap).rxDone n.val

/-- MADI_SUBFRAME (R113): A MADI subframe is received: the channel-0 indicator drives frame lock, parity is checked and the sample goes to its slot. -/
def execMadiSubframe (n : Fin 144) (ind parityOk : Bool) (sample : Word) (valid : List Bool) (time : Nat) (sub : Fin 16) (s : State) : Host.Outcome State Fault Refusal :=
  s.live fun d => (d.madiSubframe n.val ind parityOk sample valid time sub.val).rxDone n.val

/-- MADI_SYNC_TIMEOUT (R113): No sync symbol arrives for 4 frame periods, and the MADI framer returns to SYM_HUNT. -/
def execMadiSyncTimeout (n : Fin 144) (s : State) : Host.Outcome State Fault Refusal :=
  s.live fun d => (d.madiTimeout n.val).rxDone n.val

/-- ASI_CHARACTER (R114): An 8B/10B character is received: commas align or are discarded, invalid characters are counted, and losses follow. -/
def execAsiCharacter (n : Fin 144) (c : AsiChar) (s : State) : Host.Outcome State Fault Refusal :=
  s.live fun d => (d.asiChar n.val c).rxDone n.val

/-- ASI_SYNC_BYTE (R114): An expected 0x47 byte is found or missing, which drives PKT_SYNC and its loss. -/
def execAsiSyncByte (n : Fin 144) (found : Bool) (spacing : Nat) (packet : List Byte) (s : State) : Host.Outcome State Fault Refusal :=
  s.live fun d => (d.asiSync n.val found spacing packet).rxDone n.val

/-- LOF_TIMER (R246): A framer has not reached, or has held, its delivering state for 100 ms, and LOF is set or cleared. -/
def execLofTimer (l : RxId) (s : State) : Host.Outcome State Fault Refusal :=
  s.live fun d => (d.lofTimer l.val).rxDone l.val

/-- FOLLOW_ROUTE_SWITCH (R137): At the first EAV of the new input after a FOLLOW_LANE change, the lane route sends the new input. -/
def execFollowRouteSwitch (n : Fin 144) (s : State) : Host.Outcome State Fault Refusal :=
  s.live fun d => (d.routeSwitch n.val).txFollow

end Sys2Proof.Machine
end

