-- ==== Sys2Proof/Machine/ExecMatrix.lean ====
section
/-! DEFINITION. The commands of one family, one meaning each: the control matrix and the SRAM banks (R350 to R367). -/

namespace Sys2Proof.Machine

/-- MATRIX_TRANSFER (R353): A master's transfer is arbitrated, decoded, checked for permission and performed with one response. -/
def execMatrixTransfer (m : Master) (x : Xfer) (s : State) : Host.Outcome State Fault Refusal :=
  s.live fun d => d.matrixTransfer m.val x

/-- LOCKED_SEQUENCE (R354): An AMO from a core holds its target through a read and a write of one word. -/
def execLockedSequence (m : Fin 4) (x : AmoStep) (s : State) : Host.Outcome State Fault Refusal :=
  s.live fun d => d.lockedSeq m.val x

/-- LOCK_BREAK (R354): A lock is held 1 µs, the matrix performs the write and responds LOCK_BROKEN. -/
def execLockBreak (s : State) : Host.Outcome State Fault Refusal :=
  s.live fun d => d.lockBreak

/-- MATRIX_REQUEST_TIMEOUT (R355): A request is not granted within 10 µs and is withdrawn with TIMEOUT. -/
def execMatrixRequestTimeout (m : Master) (addr : Nat) (isWrite : Bool) (s : State) : Host.Outcome State Fault Refusal :=
  s.live fun d => d.requestEnd m.val addr isWrite

/-- PARK_RETURN (R353): A target idle for 40 XO ticks returns to its default master. -/
def execParkReturn (t : Fin 9) (s : State) : Host.Outcome State Fault Refusal :=
  s.live fun d => d.parkReturn t.val

/-- MASTER_RESET (R362): A master is reset mid-transfer, and its beats are completed or discarded, locks are released and MTX.ABORT is written. -/
def execMasterReset (m : Master) (x : Option Xfer) (done : Nat) (s : State) : Host.Outcome State Fault Refusal :=
  s.live fun d => d.masterAbort m.val x done

/-- SLICE_WRITE (R361): A write of MTX.SLICE changes register slices, and is accepted only while CONFIGURE = 1. -/
def execSliceWrite (m : Master) (v : Word) (s : State) : Host.Outcome State Fault Refusal :=
  s.live fun d => d.mWrite m.val .mtx 0x024 15 v

/-- MTX_PERM_WRITE (R356): A write of MTX.PERM changes master permissions, keeping at least one ADMIN. -/
def execMtxPermWrite (m : Master) (k : Fin 9) (v : Word) (s : State) : Host.Outcome State Fault Refusal :=
  s.live fun d => d.mWrite m.val .mtx (0x040 + 4 * k.val) 15 v

/-- MTX_CNT_CLR (R355): A write of MTX.CTL.CNT_CLR sets ERRCNT and ERRCNT2 to 0. -/
def execMtxCntClr (m : Master) (s : State) : Host.Outcome State Fault Refusal :=
  s.live fun d => d.mWrite m.val .mtx 0x084 15 1

/-- SRAMC_CNT_CLR (R365): A write of SRAMC.CTL.CNT_CLR sets every COLL_CNT and ECC_CNT to 0. -/
def execSramcCntClr (m : Master) (s : State) : Host.Outcome State Fault Refusal :=
  s.live fun d => d.mWrite m.val .sramc 0x02C 15 1

end Sys2Proof.Machine
end

