-- ==== Sys2Proof/Machine/ExecPages.lean ====
section
/-! DEFINITION. The commands of one family, one meaning each: register pages, the device page, and what the block does in every page (R10 to R22, R46 to R48, R54, R62 to R70). -/

namespace Sys2Proof.Machine

/-- REGISTER_WRITE (R19): A write to a register field that has no row of its own is checked for LOCKED, EXPERT, RSVD, RANGE, ARMED and STATE and is then
applied or rejected whole. -/
def execRegisterWrite (m : Master) (p : Page) (w : Fin 1024) (be : BitVec 4) (v : Word) (s : State) : Host.Outcome State Fault Refusal :=
  s.live fun d => d.mWrite m.val p (4 * w.val) be v

/-- EXPERT_KEY_WRITE (R14): A write of PAGE_CTRL.EXPERT_KEY opens the expert half with 0x5A and restarts its 1 s count, and any other value closes it. -/
def execExpertKeyWrite (m : Master) (p : Page) (v : Word) (s : State) : Host.Outcome State Fault Refusal :=
  s.live fun d => d.mWrite m.val p 0x008 15 v

/-- EXPERT_TIMEOUT (R15): The expert half closes when its 1 s count expires, and PAGE_EVT.EXPERT_TIMEOUT is set. -/
def execExpertTimeout (p : Page) (s : State) : Host.Outcome State Fault Refusal :=
  s.live fun d => if d.expertOpen p then (d.wr p .PAGE_CTRL_EXPERT_KEY 0).setEvt p 1 else d

/-- SOFT_RESET (R17): A write of PAGE_CTRL.SOFT_RESET starts a BLOCK reset of the page: fields read their reset values, RESET_BUSY is set and the expert
half closes. -/
def execSoftReset (m : Master) (p : Page) (rest : Word) (s : State) : Host.Outcome State Fault Refusal :=
  s.live fun d => d.mWrite m.val p 0x008 15 (rest ||| 2)

/-- BLOCK_RESET_DONE (R17): A BLOCK reset completes within 10 µs, the block's internal state is at reset and RESET_BUSY returns to 0. -/
def execBlockResetDone (p : Page) (s : State) : Host.Outcome State Fault Refusal :=
  s.live fun d => d.blockDone p

/-- PIN_RESET (R46): RESET_N held low, a rail other than VAON below its reset level, thermal shutdown or PWR.RESET FULL starts a PIN reset of everything
except the AON page. -/
def execPinReset (cause : PinCause) (s : State) : Host.Outcome State Fault Refusal :=
  s.always fun d =>
    match cause with
    | .resetN => d.pinReset 1 true
    | .supply => d.pinReset 2 (!d.pwr.warn.isEmpty)
    | .thermal => d.pinReset 3 true
    | .soft => d.pinReset 4 false

/-- POWER_ON_RESET (R420): First power-up, or VAON below its reset level, runs the power-on sequence and returns everything to reset. -/
def execPowerOnReset (s : State) : Host.Outcome State Fault Refusal :=
  s.always fun d => d.porReset

/-- XO_CHECK_DONE (R48): XO_IN has run 4,096 consecutive periods within ±1,000 ppm, and the reset or wake sequence moves on to its next step. -/
def execXoCheckDone (s : State) : Host.Outcome State Fault Refusal :=
  s.always fun d => d.xoCheck

/-- RESET_SEQUENCE_END (R420): A power-on or PIN reset ends: BOOTMODE is sampled, RESET_CAUSE is written, FAULT_N is released and the boot loader starts. -/
def execResetSequenceEnd (bootmode : Fin 4) (s : State) : Host.Outcome State Fault Refusal :=
  s.always fun d => d.resetEnd bootmode.val

/-- RESET_N_RISE (R46): RESET_N rises after a PIN reset, ending its cause and starting the XO check and the rest of the PIN-reset sequence, which
completes within 2 ms of the edge. -/
def execResetNRise (s : State) : Host.Outcome State Fault Refusal :=
  s.always fun d => d.causeEnd 1

/-- GPIO_WRITE (R54): A write of DEV.GPIO_DIR or GPIO_OUT drives or releases the GPIO balls from the moment it is accepted. -/
def execGpioWrite (m : Master) (isDir : Bool) (v : Word) (s : State) : Host.Outcome State Fault Refusal :=
  s.live fun d => d.mWrite m.val .dev (if isDir then 0x030 else 0x034) 15 v

/-- MARGIN_WINDOW_END (R62): At the end of each 1 ms window the margin monitor writes MARGIN[n].NOW, lowers MIN, and updates FAB_MARGIN. -/
def execMarginWindowEnd (n0 n1 n2 n3 n4 n5 : Nat) (s : State) : Host.Outcome State Fault Refusal :=
  s.live fun d => d.marginWindow [n0, n1, n2, n3, n4, n5]

/-- MIN_CLR (R62): A write of DEV.MARGIN[n].MIN_CLR sets MIN to 0x1FF. -/
def execMinClr (m : Master) (n : Fin 6) (s : State) : Host.Outcome State Fault Refusal :=
  s.live fun d => d.mWrite m.val .dev (0x040 + 4 * n.val) 15 0x80000000

/-- HANDSHAKE_WATCHDOG_EXPIRY (R64): A stage's request is not acknowledged within its limit, and the region takes the action of Table 3.3 and counts it in
WDOG_CNT. -/
def execHandshakeWatchdogExpiry (stage : WdogStage) (s : State) : Host.Outcome State Fault Refusal :=
  s.live fun d => d.wdogExpiry stage

/-- WDOG_CLR (R64): A write of DEV.WDOG_CLR.CLEAR sets both watchdog counts to 0. -/
def execWdogClr (m : Master) (s : State) : Host.Outcome State Fault Refusal :=
  s.live fun d => d.mWrite m.val .dev 0x06C 15 1

/-- XO_TIME_LO_READ (R70): A read of DEV.XO_TIME_LO returns bits [31:0] of the XO tick count and latches bits [47:32] into XO_TIME_HI. -/
def execXoTimeLoRead (m : Master) (s : State) : Host.Outcome State Fault Refusal :=
  s.live fun d => d.mRead m.val .dev 0x070

end Sys2Proof.Machine
end

