-- ==== Sys2Proof/Machine/ExecPower.lean ====
section
/-! DEFINITION. The commands of one family, one meaning each: resets, power states, supplies and temperature (R408 to R427, R454). -/

namespace Sys2Proof.Machine

/-- MGMT_RESET (R408): PWR.RESET CMD 1 resets the control cores, the matrix and management pages and the queues. -/
def execMgmtReset (m : Master) (s : State) : Host.Outcome State Fault Refusal :=
  s.live fun d => d.mWrite m.val .pwr 0x024 15 1

/-- DATA_RESET (R408): PWR.RESET CMD 2 resets the data plane and its pages. -/
def execDataReset (m : Master) (s : State) : Host.Outcome State Fault Refusal :=
  s.live fun d => d.mWrite m.val .pwr 0x024 15 2

/-- TIMING_RESET (R408): PWR.RESET CMD 3 resets the timing unit, the domains, frame counters and take groups. -/
def execTimingReset (m : Master) (s : State) : Host.Outcome State Fault Refusal :=
  s.live fun d => d.mWrite m.val .pwr 0x024 15 3

/-- FULL (R409): PWR.RESET CMD 4 starts a PIN reset with cause SOFT. -/
def execFull (m : Master) (s : State) : Host.Outcome State Fault Refusal :=
  s.live fun d => d.mWrite m.val .pwr 0x024 15 4

/-- RESET_COMPLETE (R410): A commanded reset completes within its time, and blocks leave reset when the later of overlapping resets ends. -/
def execResetComplete (s : State) : Host.Outcome State Fault Refusal :=
  s.live fun d => d.resetComplete

/-- CORE_RUN_WRITE (R412): A write of PWR.CORE_CTL.RUN holds cores in CORE reset or starts them at their reset vector. -/
def execCoreRunWrite (m : Master) (v : Word) (s : State) : Host.Outcome State Fault Refusal :=
  s.live fun d => d.mWrite m.val .pwr 0x02C 15 v

/-- CORE_RESET (R412): A write of PWR.CORE_CTL.RESET applies one CORE reset to a core. -/
def execCoreReset (m : Master) (c : Fin 4) (rest : Word) (s : State) : Host.Outcome State Fault Refusal :=
  s.live fun d => d.mWrite m.val .pwr 0x02C 15 (rest ||| BitVec.ofNat 32 (2 ^ (4 + c.val)))

/-- CORE_SLEEP (R412): A write of PWR.CORE_CTL.SLEEP puts a core to sleep after its current instruction, or wakes it. -/
def execCoreSleep (m : Master) (v : Word) (s : State) : Host.Outcome State Fault Refusal :=
  s.live fun d => d.mWrite m.val .pwr 0x02C 15 v

/-- STANDBY (R416): A write of PWR.STATE.REQ = 1 enters STANDBY within 1 ms. -/
def execStandby (m : Master) (s : State) : Host.Outcome State Fault Refusal :=
  s.live fun d => d.mWrite m.val .pwr 0x020 15 1

/-- DORMANT (R417): A write of PWR.STATE.REQ = 2 enters DORMANT within 2 ms. -/
def execDormant (m : Master) (s : State) : Host.Outcome State Fault Refusal :=
  s.live fun d => d.mWrite m.val .pwr 0x020 15 2

/-- ACTIVE (R416): A write of PWR.STATE.REQ = 0 starts the wake from STANDBY. -/
def execActive (m : Master) (s : State) : Host.Outcome State Fault Refusal :=
  s.live fun d => d.mWrite m.val .pwr 0x020 15 0

/-- STATE_DONE (R415): A power-state change completes, CUR is updated and STATE_DONE is set. -/
def execStateDone (s : State) : Host.Outcome State Fault Refusal :=
  s.live fun d => d.stateDone

/-- DORMANT_WAKE (R418): A wake-set event in DORMANT starts the wake sequence, which powers the core domains and restarts the boot loader. -/
def execDormantWake (source : Fin 512) (ticks : Nat) (s : State) : Host.Outcome State Fault Refusal :=
  s.always fun d => d.dormantWake source.val ticks

/-- RAIL_WARNING_ENTER (R423): A rail falls below its warning level: SUP_WARN is raised, a log entry opens and takes may be deferred. -/
def execRailWarningEnter (rail : Fin 8) (steps : Nat) (s : State) : Host.Outcome State Fault Refusal :=
  s.always fun d => d.railEnter rail.val steps

/-- RAIL_WARNING_LEAVE (R423): A rail rises above warning plus hysteresis, its log entry closes and SUP_OK is set. -/
def execRailWarningLeave (rail : Fin 8) (steps us : Nat) (s : State) : Host.Outcome State Fault Refusal :=
  s.always fun d => d.railLeave rail.val steps us

/-- RAIL_RESET_LEVEL (R422): A rail falls below its reset level and causes a PIN or power-on reset. -/
def execRailResetLevel (rail : Fin 8) (s : State) : Host.Outcome State Fault Refusal :=
  s.always fun d => d.railReset rail.val

/-- DEFER_END (R424): 1 ms passes with no deferring rail in warning: takes resume, deferred groups commit and DEFER_END is set. -/
def execDeferEnd (s : State) : Host.Outcome State Fault Refusal :=
  s.always fun d => d.deferEnd

/-- TEMP_READING (R426): The sensors are read every 1 ms, and TEMP.MAX and TEMP_WARN are updated. -/
def execTempReading (quarters : Int) (s : State) : Host.Outcome State Fault Refusal :=
  s.always fun d => d.tempReading quarters

/-- THERMAL_SHUTDOWN (R426): A reading of 125 °C or more for 1 ms causes a PIN reset with cause THERMAL. -/
def execThermalShutdown (s : State) : Host.Outcome State Fault Refusal :=
  s.live fun d => d.thermalShutdown

/-- WAKE_TIMER_WRITE (R454): A write of AON.WAKE_TIMER starts the always-on countdown. -/
def execWakeTimerWrite (m : Master) (v : Word) (s : State) : Host.Outcome State Fault Refusal :=
  s.live fun d => d.mWrite m.val .aon 0x030 15 v

/-- WAKE_TIMER_EXPIRY (R454): TICKS reaches 0, PAGE_EVT.TIMER is set and ENABLE clears. -/
def execWakeTimerExpiry (s : State) : Host.Outcome State Fault Refusal :=
  s.always fun d => d.timerExpiry

/-- LOG_CTL_CLR (R425): AON.LOG_CTL.CLR clears every closed log entry, NEXT and OVERWRITTEN. -/
def execLogCtlClr (m : Master) (s : State) : Host.Outcome State Fault Refusal :=
  s.live fun d => d.mWrite m.val .aon 0x038 15 1

end Sys2Proof.Machine
end

