-- ==== Sys2Proof/Machine/ExecProtect.lean ====
section
/-! DEFINITION. The commands of one family, one meaning each: performance monitoring and protection (R249 to R266). -/

namespace Sys2Proof.Machine

/-- PM_SECOND_END (R251): A PM second ends: each lane's second is graded, DEG and availability are updated, and the second from 10 s earlier enters the
bins. -/
def execPmSecondEnd (s : State) : Host.Outcome State Fault Refusal :=
  s.live fun d => d.pmSecond.dataSettle

/-- PM_SEC_WRITE (R249): A write of PROT.PM_SEC sets the number of the next PM second and marks the bins SUSPECT. -/
def execPmSecWrite (m : Master) (v : Word) (s : State) : Host.Outcome State Fault Refusal :=
  s.live fun d => d.mWrite m.val .prot 0x060 15 v

/-- PM_CLR (R253): A write of PROT.CTL.PM_CLR sets every PM bin to 0 and sets every SUSPECT bit. -/
def execPmClr (m : Master) (s : State) : Host.Outcome State Fault Refusal :=
  s.live fun d => d.mWrite m.val .prot 0x064 15 2

/-- PROT_CNT_CLR (R259): A write of PROT.CTL.CNT_CLR clears PG_CNT and PG_REPAIR of the selected group. -/
def execProtCntClr (m : Master) (s : State) : Host.Outcome State Fault Refusal :=
  s.live fun d => d.mWrite m.val .prot 0x064 15 1

/-- PG_CFG_WRITE (R254): A write of PROT.PG_CFG enables, disables or reconfigures a protection group, or it is rejected. -/
def execPgCfgWrite (m : Master) (v : Word) (s : State) : Host.Outcome State Fault Refusal :=
  s.live fun d => d.mWrite m.val .prot 0x024 15 v

/-- CLEAR (R265): PG_CMD CLEAR removes the stored command. -/
def execClear (m : Master) (s : State) : Host.Outcome State Fault Refusal :=
  s.live fun d => d.mWrite m.val .prot 0x02C 15 1

/-- LOCKOUT (R265): PG_CMD LOCKOUT stores a lockout-of-protection request. -/
def execLockout (m : Master) (s : State) : Host.Outcome State Fault Refusal :=
  s.live fun d => d.mWrite m.val .prot 0x02C 15 2

/-- FORCED (R265): PG_CMD FORCED stores a forced switch to P. -/
def execForced (m : Master) (s : State) : Host.Outcome State Fault Refusal :=
  s.live fun d => d.mWrite m.val .prot 0x02C 15 3

/-- MANUAL_W (R265): PG_CMD MANUAL_W stores a manual switch to W. -/
def execManualW (m : Master) (s : State) : Host.Outcome State Fault Refusal :=
  s.live fun d => d.mWrite m.val .prot 0x02C 15 4

/-- MANUAL_P (R265): PG_CMD MANUAL_P stores a manual switch to P. -/
def execManualP (m : Master) (s : State) : Host.Outcome State Fault Refusal :=
  s.live fun d => d.mWrite m.val .prot 0x02C 15 5

/-- PROT_HOLDOFF_EXPIRY (R262): A member's SF or SD has lasted HOLDOFF, and it becomes a request that may change SEL. -/
def execProtHoldoffExpiry (g : Fin 256) (member : Fin 2) (degrade : Bool) (s : State) : Host.Outcome State Fault Refusal :=
  s.live fun d => (d.holdoffExpiry g.val member.val degrade).dataSettle

/-- PROT_WTR_EXPIRY (R264): The wait-to-restore timer expires, and the group reverts to W. -/
def execProtWtrExpiry (g : Fin 256) (s : State) : Host.Outcome State Fault Refusal :=
  s.live fun d => (d.pgWtrExpiry g.val).dataSettle

end Sys2Proof.Machine
end

