-- ==== Sys2Proof/Machine/ExecQueues.lean ====
section
/-! DEFINITION. The commands of one family, one meaning each: packet queues and DMA (R368 to R383). -/

namespace Sys2Proof.Machine

/-- QUEUE_PACKET_WRITE (R369): A producer writes a packet into a queue, which stores it, drops it on quota or pool limits, or overwrites in a ring. -/
def execQueuePacketWrite (q : Fin 1024) (words : List Word) (bytes : Nat) (s : State) : Host.Outcome State Fault Refusal :=
  s.live fun d => (d.queuePut q.val words bytes).1

/-- WR_DATA_WRITE (R380): A write of QMG.WR_DATA appends a word to the master's open packet. -/
def execWrDataWrite (m : Master) (v : Word) (s : State) : Host.Outcome State Fault Refusal :=
  s.live fun d => d.mWrite m.val .qmg 0x074 15 v

/-- WR_END (R380): A write of QMG.WR_END closes the master's open packet. -/
def execWrEnd (m : Master) (bytes : Fin 4) (s : State) : Host.Outcome State Fault Refusal :=
  s.live fun d => d.mWrite m.val .qmg 0x078 15 (BitVec.ofNat 32 (4 + bytes.val))

/-- WR_SEL_WRITE (R380): A write of QMG.WR_SEL selects a queue and discards any open packet. -/
def execWrSelWrite (m : Master) (v : Word) (s : State) : Host.Outcome State Fault Refusal :=
  s.live fun d => d.mWrite m.val .qmg 0x070 15 v

/-- RD_LO_READ (R373): A read of RD_LO takes the next word of the selected queue and latches the tags, or stalls in SERVICE. -/
def execRdLoRead (m : Master) (s : State) : Host.Outcome State Fault Refusal :=
  s.live fun d => d.mRead m.val .qmg 0x054

/-- QUEUE_STALL_RETURN (R374): A stalled queue read returns when a word becomes available, or when the mode leaves SERVICE or the queue is disabled. -/
def execQueueStallReturn (m : Master) (s : State) : Host.Outcome State Fault Refusal :=
  s.live fun d => d.stallBack m.val

/-- QUEUE_STALL_TIMEOUT (R374): A stalled read reaches STALL_TIMEOUT and returns VALID 0 with TIMEOUT 1. -/
def execQueueStallTimeout (m : Master) (s : State) : Host.Outcome State Fault Refusal :=
  s.live fun d => d.stallEnd m.val

/-- DROP_REST (R377): RD_CTL.DROP_REST discards the unread rest of the current packet. -/
def execDropRest (m : Master) (s : State) : Host.Outcome State Fault Refusal :=
  s.live fun d => d.mWrite m.val .qmg 0x05C 15 1

/-- MARK (R378): RD_CTL.MARK places the queue's mark. -/
def execMark (m : Master) (s : State) : Host.Outcome State Fault Refusal :=
  s.live fun d => d.mWrite m.val .qmg 0x05C 15 2

/-- UNMARK (R378): RD_CTL.UNMARK removes the mark and frees pinned cells. -/
def execUnmark (m : Master) (s : State) : Host.Outcome State Fault Refusal :=
  s.live fun d => d.mWrite m.val .qmg 0x05C 15 4

/-- REWIND (R379): RD_CTL.REWIND moves the read point to the mark, or after a void mark to the oldest packet. -/
def execRewind (m : Master) (s : State) : Host.Outcome State Fault Refusal :=
  s.live fun d => d.mWrite m.val .qmg 0x05C 15 8

/-- Q_CFG_WRITE (R383): A write of QMG.Q_CFG configures a queue, and disabling it empties it. -/
def execQCfgWrite (m : Master) (v : Word) (s : State) : Host.Outcome State Fault Refusal :=
  s.live fun d => d.mWrite m.val .qmg 0x034 15 v

/-- PAR_INJ (R383): QMG.CTL.PAR_INJ stores the next queue word with inverted parity. -/
def execParInj (m : Master) (s : State) : Host.Outcome State Fault Refusal :=
  s.live fun d => d.mWrite m.val .qmg 0x02C 15 2

/-- QMG_CNT_CLR (R375): A write of QMG.CTL.CNT_CLR clears PAR_CNT and every queue count. -/
def execQmgCntClr (m : Master) (s : State) : Host.Outcome State Fault Refusal :=
  s.live fun d => d.mWrite m.val .qmg 0x02C 15 1

/-- DMA_PACKET_TO_RING (R381): A DIR 0 channel moves a whole queue packet to its ring when the entry fits, and advances WP. -/
def execDmaPacketToRing (c : Fin 8) (s : State) : Host.Outcome State Fault Refusal :=
  s.live fun d => d.dmaServe c.val 0

/-- DMA_ENTRY_TO_QUEUE (R381): A DIR 1 channel writes a ring entry to its queue when one is present, and advances RP. -/
def execDmaEntryToQueue (c : Fin 8) (s : State) : Host.Outcome State Fault Refusal :=
  s.live fun d => d.dmaServe c.val 1

/-- DMA_POINTER_WRITE (R381): Host software writes DMA_WP or DMA_RP, which is rejected for the channel's own pointer while enabled. -/
def execDmaPointerWrite (m : Master) (c : Fin 8) (isRead : Bool) (v : Word) (s : State) : Host.Outcome State Fault Refusal :=
  s.live fun d => d.mWrite m.val .qmg ((if isRead then 0x10C else 0x108) + 16 * c.val) 15 v

end Sys2Proof.Machine
end

