-- ==== Sys2Proof/Machine/ExecTileLink.lean ====
section
/-! DEFINITION. The commands of one family, one meaning each: tile Link lanes (R115, R116, R223 to R245). -/

namespace Sys2Proof.Machine

/-- TL_BLOCK_RECEIVED (R115): A 66-bit Tile Link block is received; its sync header drives block lock, and its payload is descrambled. -/
def execTlBlockReceived (n : Fin 16) (bits next : BitVec 66) (sub : Fin 16) (late : Bool) (s : State) : Host.Outcome State Fault Refusal :=
  s.live fun d => (d.tlBlock n.val (next ++ bits) sub.val late).tlSettle n.val

/-- TL_ROW_OVERHEAD (R227): Block 0 of a row is checked for consistency, and frame alignment markers drive frame lock and loss. -/
def execTlRowOverhead (n : Fin 16) (s : State) : Host.Outcome State Fault Refusal :=
  s.live fun d => (d.tlRow n.val).tlSettle n.val

/-- TL_BIP_RECEIVED (R228): Row 2 is compared with the BIP-32 computed over the previous frame, and BIPCNT and REI are updated. -/
def execTlBipReceived (n : Fin 16) (s : State) : Host.Outcome State Fault Refusal :=
  s.live fun d => d.tlBip n.val

/-- TL_SRQ_RECEIVED (R229): Row 3's SRQ bytes are filtered into the accepted pair, or raise SRQ_FAIL. -/
def execTlSrqReceived (n : Fin 16) (s : State) : Host.Outcome State Fault Refusal :=
  s.live fun d => (d.tlSrq n.val).tlSettle n.val

/-- TL_RDI_REI_RECEIVED (R230): Row 4's RDI is filtered into RDI_RX, and REI is added to REICNT. -/
def execTlRdiReiReceived (n : Fin 16) (s : State) : Host.Outcome State Fault Refusal :=
  s.live fun d => (d.tlRdi n.val).tlSettle n.val

/-- TL_TRACE_RECEIVED (R231): Row 1's lane trace is accepted after 3 identical frames and checked for TIM. -/
def execTlTraceReceived (n : Fin 16) (s : State) : Host.Outcome State Fault Refusal :=
  s.live fun d => (d.tlTrace n.val).tlSettle n.val

/-- CC_SEGMENT_RECEIVED (R233): A communication-channel segment is assembled into a packet, which is delivered to RXQ, discarded for bad CRC or aborted. -/
def execCcSegmentReceived (n : Fin 16) (s : State) : Host.Outcome State Fault Refusal :=
  s.live fun d => d.ccSegment n.val

/-- CC_PACKET_TRANSMIT (R232): The transmitter takes a whole packet from TXQ when one is available, and sends it in segments with its CRC-32. -/
def execCcPacketTransmit (n : Fin 16) (s : State) : Host.Outcome State Fault Refusal :=
  s.live fun d => d.ccTransmit n.val

/-- JCW_RECEIVED (R235): A row's justification control word is decoded per slot, with correction or an uncorrectable count. -/
def execJcwReceived (n : Fin 16) (s : State) : Host.Outcome State Fault Refusal :=
  s.live fun d => d.jcwReceived n.val

/-- HEADER_BRICK_RECEIVED (R239): A slot's header brick is checked for CRC and agreement, and it drives the receive slot's HUNT and LOCKED states. -/
def execHeaderBrickReceived (n k : Fin 16) (sub : Fin 16) (late : Bool) (s : State) : Host.Outcome State Fault Refusal :=
  s.live fun d => (d.headerReceived n.val k.val sub.val late).tlSettle n.val

/-- TL_FRAME_TRANSMIT (R226): A Tile Link transmitter starts a frame: the header bricks, BIP, SRQ, RDI, REI and trace are sent, and TXSLOT writes take
effect. -/
def execTlFrameTransmit (n : Fin 16) (others : List (Fin 16)) (s : State) : Host.Outcome State Fault Refusal :=
  s.live fun d => (n :: others).foldl (fun e k => (e.tlFrame k.val).txFollow) d

/-- TXSLOT_WRITE (R244): A write of TLL.TXSLOT configures a transmit slot and its bond members, or it is rejected. -/
def execTxslotWrite (m : Master) (n k : Fin 16) (v : Word) (s : State) : Host.Outcome State Fault Refusal :=
  s.live fun d => d.mWrite m.val (.tll n.val) (0x200 + 4 * k.val) 15 v

/-- OHCTL_CNT_CLR (R116): A write of TLL.OHCTL.CNT_CLR clears the header, JCW, BIP, REI, channel and ANCRX counts. -/
def execOhctlCntClr (m : Master) (n : Fin 16) (s : State) : Host.Outcome State Fault Refusal :=
  s.live fun d => d.mWrite m.val (.tll n.val) 0x30C 15 1

/-- TLL_FRMCTL_CNT_CLR (R116): A write of TLL.FRMCTL.CNT_CLR sets FRMCNT, HDRERR and ROWERR to 0. -/
def execTllFrmctlCntClr (m : Master) (n : Fin 16) (s : State) : Host.Outcome State Fault Refusal :=
  s.live fun d => d.mWrite m.val (.tll n.val) 0x070 15 1

end Sys2Proof.Machine
end

