-- ==== Sys2Proof/Machine/ExecTiming.lean ====
section
/-! DEFINITION. The commands of one family, one meaning each: the timing unit and the timing domains (R268 to R296). -/

namespace Sys2Proof.Machine

/-- REF_MEASUREMENT (R273): At each 1 s window end each input measures FREQ, RATE and PEER, updates its state and DRIFT, and the history entry is written. -/
def execRefMeasurement (freqs : List (Option Int)) (mean now : Int) (s : State) : Host.Outcome State Fault Refusal :=
  s.live fun d => d.refMeasure freqs mean now

/-- REF_SIGNAL_ABSENT (R274): An input's signal check fails, and the input goes to NO_SIGNAL and is disqualified if it was qualified. -/
def execRefSignalAbsent (r : Fin 8) (s : State) : Host.Outcome State Fault Refusal :=
  s.live fun d => d.refAbsent r.val

/-- REF_SIGNAL_PRESENT (R274): An input's signal check passes, and the input enters QUALIFYING. -/
def execRefSignalPresent (r : Fin 8) (s : State) : Host.Outcome State Fault Refusal :=
  s.live fun d => d.refPresent r.val

/-- REFERENCE_EVENT (R270): An event arrives on a reference input (a line-1 start, a 10 MHz crossing, a PPS edge, an SDI or Tile Link frame, or a DARS
preamble); it is filtered, discarded and counted in GLITCH, or passed on for the phase comparison and for identification. -/
def execReferenceEvent (r : Fin 8) (e : RefEvent) (s : State) : Host.Outcome State Fault Refusal :=
  s.live fun d => d.refEvent r.val e

/-- REFIN_ENABLE_WRITE (R270): A write of REFIN PAGE_CTRL.ENABLE moves the input between DISABLED and NO_SIGNAL. -/
def execRefinEnableWrite (m : Master) (r : Fin 8) (v : Word) (s : State) : Host.Outcome State Fault Refusal :=
  s.live fun d => d.mWrite m.val (.refin r.val) 0x008 15 v

/-- REFIN_CFG_WRITE (R270): A write of REFIN.CFG sets the loop bandwidth, and a LANE change puts the input into NO_SIGNAL. -/
def execRefinCfgWrite (m : Master) (r : Fin 8) (v : Word) (s : State) : Host.Outcome State Fault Refusal :=
  s.live fun d => d.mWrite m.val (.refin r.val) 0x020 15 v

/-- REFIN_CNT_CLR (R270): A write of REFIN.CTL.CNT_CLR sets CNT and TOD_CNT to 0. -/
def execRefinCntClr (m : Master) (r : Fin 8) (s : State) : Host.Outcome State Fault Refusal :=
  s.live fun d => d.mWrite m.val (.refin r.val) 0x044 15 1

/-- TOD_MESSAGE (R272): A time-of-day message is received and accepted or discarded, and TOD_VALID is updated. -/
def execTodMessage (start gap : Nat) (bytes : List Byte) (s : State) : Host.Outcome State Fault Refusal :=
  s.live fun d => d.todMessage start gap bytes

/-- TOD_TIMEOUT (R272): A second passes without an accepted message, and the time of day becomes invalid. -/
def execTodTimeout (s : State) : Host.Outcome State Fault Refusal :=
  s.live fun d => d.todTimeout

/-- SEL_CFG_WRITE (R278): A write of TMU.SEL_CFG changes mode or timers, and a change of MANUAL acts as a command for the next evaluation. -/
def execSelCfgWrite (m : Master) (v : Word) (s : State) : Host.Outcome State Fault Refusal :=
  s.live fun d => d.mWrite m.val .tmu 0x020 15 v

/-- PRIO_WRITE (R277): A write of TMU.PRIO changes the fallback order and triggers an evaluation. -/
def execPrioWrite (m : Master) (v : Word) (s : State) : Host.Outcome State Fault Refusal :=
  s.live fun d => d.mWrite m.val .tmu 0x024 15 v

/-- REF_WTR_EXPIRY (R278): An input's wait-to-restore timer expires, and an evaluation may revert to the manual choice. -/
def execRefWtrExpiry (r : Fin 8) (s : State) : Host.Outcome State Fault Refusal :=
  s.live fun d => d.wtrExpire r.val

/-- TRANSITION_PHASE_CAPTURE (R280): The target's first event after T0 arrives, its phase is captured, and the DCO ramp starts. -/
def execTransitionPhaseCapture (phase : Int) (s : State) : Host.Outcome State Fault Refusal :=
  s.live fun d => d.phaseCapture phase

/-- TRANSITION_LOOP_CLOSE (R280): The 0.5 s DCO ramp ends, and the loop closes at the input's bandwidth. -/
def execTransitionLoopClose (s : State) : Host.Outcome State Fault Refusal :=
  s.live fun d => d.loopClose

/-- TRANSITION_DONE (R280): A transition completes at T0 + 2 s: the TMU is LOCKED on the target and held evaluations run. -/
def execTransitionDone (s : State) : Host.Outcome State Fault Refusal :=
  s.live fun d => d.transitionDone

/-- CAL_CAPTURE (R285): TMU.CTL.CAL_CAPTURE copies the mean of the valid history into XO_CAL. -/
def execCalCapture (m : Master) (s : State) : Host.Outcome State Fault Refusal :=
  s.live fun d => d.mWrite m.val .tmu 0x038 15 1

/-- HIST_CLR (R283): TMU.CTL.HIST_CLR marks every history entry invalid. -/
def execHistClr (m : Master) (s : State) : Host.Outcome State Fault Refusal :=
  s.live fun d => d.mWrite m.val .tmu 0x038 15 2

/-- XO_CAL_WRITE (R269): A write of XO_CAL_HI applies the stored XO_CAL pair. -/
def execXoCalWrite (m : Master) (hi : Bool) (v : Word) (s : State) : Host.Outcome State Fault Refusal :=
  s.live fun d => d.mWrite m.val .tmu (if hi then 0x058 else 0x054) 15 v

/-- TMU_LO_READ (R70): A read of DCO_LO or HOLD_LO latches the HI half. -/
def execTmuLoRead (m : Master) (hold : Bool) (s : State) : Host.Outcome State Fault Refusal :=
  s.live fun d => d.mRead m.val .tmu (if hold then 0x04C else 0x044)

/-- PHASE_STEP (R293): A write of TMU.PHASE_STEP adds a signed amount to the house timebase slew. -/
def execPhaseStep (m : Master) (v : Word) (s : State) : Host.Outcome State Fault Refusal :=
  s.live fun d => d.mWrite m.val .tmu 0x030 15 v

/-- STEP_DONE (R293): PHASE_LEFT reaches 0, and paused domain and audio slews resume. -/
def execStepDone (s : State) : Host.Outcome State Fault Refusal :=
  s.live fun d => d.stepDone

/-- TDOM_FMT_WRITE (R286): A write of TDOM.FMT starts, stops or restarts a domain and clears FCNT, or it is rejected. -/
def execTdomFmtWrite (m : Master) (k : Fin 16) (v : Word) (s : State) : Host.Outcome State Fault Refusal :=
  s.live fun d => d.mWrite m.val (.tdom k.val) 0x020 15 v

/-- TDOM_ENABLE_WRITE (R286): A write of TDOM PAGE_CTRL.ENABLE stops the domain as FMT 0 would, or starts it as a write of FMT would. -/
def execTdomEnableWrite (m : Master) (k : Fin 16) (v : Word) (s : State) : Host.Outcome State Fault Refusal :=
  s.live fun d => d.mWrite m.val (.tdom k.val) 0x008 15 v

/-- TDOM_OFFSET_WRITE (R293): A write of TDOM.OFFSET adds to the domain's pending offset slew, or while the domain is off only stores the offsets. -/
def execTdomOffsetWrite (m : Master) (k : Fin 16) (v : Word) (s : State) : Host.Outcome State Fault Refusal :=
  s.live fun d => d.mWrite m.val (.tdom k.val) 0x024 15 v

/-- TDOM_SWLINE_WRITE (R288): A write of TDOM.SWLINE sets the switch line, effective at the next frame start. -/
def execTdomSwlineWrite (m : Master) (k : Fin 16) (v : Word) (s : State) : Host.Outcome State Fault Refusal :=
  s.live fun d => d.mWrite m.val (.tdom k.val) 0x028 15 v

/-- JUMP (R292): REALIGN CMD JUMP arms a jump of frame FRAME to the nearest grid instant. -/
def execJump (m : Master) (k : Fin 16) (frame : BitVec 16) (s : State) : Host.Outcome State Fault Refusal :=
  s.live fun d => d.mWrite m.val (.tdom k.val) 0x030 15 (BitVec.ofNat 32 (0x10000 + frame.toNat))

/-- SLEW (R292): REALIGN CMD SLEW starts slewing the domain to reduce ALIGN_ERR. -/
def execSlew (m : Master) (k : Fin 16) (s : State) : Host.Outcome State Fault Refusal :=
  s.live fun d => d.mWrite m.val (.tdom k.val) 0x030 15 0x20000

/-- CANCEL (R292): REALIGN CMD CANCEL withdraws an armed JUMP or stops a running SLEW. -/
def execCancel (m : Master) (k : Fin 16) (s : State) : Host.Outcome State Fault Refusal :=
  s.live fun d => d.mWrite m.val (.tdom k.val) 0x030 15 0x30000

/-- REALIGN_JUMP_EXECUTE (R292): The last line of frame FRAME − 1 ends early or late, and REALIGN_DONE is set and FCNT may be loaded from the epoch. -/
def execRealignJumpExecute (k : Fin 16) (epoch : Nat) (s : State) : Host.Outcome State Fault Refusal :=
  s.live fun d => d.jumpExecute k.val epoch

/-- REALIGN_SLEW_DONE (R292): |ALIGN_ERR| falls below one unit, the SLEW ends and REALIGN_DONE is set. -/
def execRealignSlewDone (k : Fin 16) (s : State) : Host.Outcome State Fault Refusal :=
  s.live fun d => d.slewDone k.val

/-- FCNT_CLR (R289): A write of TDOM.CTL.FCNT_CLR sets FCNT to 0, which counts as a frame-counter reset. -/
def execFcntClr (m : Master) (k : Fin 16) (s : State) : Host.Outcome State Fault Refusal :=
  s.live fun d => d.mWrite m.val (.tdom k.val) 0x03C 15 1

/-- CLK_CFG_WRITE (R295): A write of TMU.CLK_CFG changes CLK_OUT after at least 1 µs low. -/
def execClkCfgWrite (m : Master) (v : Word) (s : State) : Host.Outcome State Fault Refusal :=
  s.live fun d => d.mWrite m.val .tmu 0x090 15 v

/-- AUD_REALIGN (R296): A write of AUD_CTL.REALIGN starts slewing the house sample period to its target. -/
def execAudRealign (m : Master) (s : State) : Host.Outcome State Fault Refusal :=
  s.live fun d => d.mWrite m.val .tmu 0x074 15 1

/-- AUD_DONE (R296): The house sample period reaches its target, and AUD_DONE is set. -/
def execAudDone (s : State) : Host.Outcome State Fault Refusal :=
  s.live fun d => d.audDone

end Sys2Proof.Machine
end

