-- ==== Sys2Proof/Machine/ExecWalls.lean ====
section
/-! DEFINITION. The commands of one family, one meaning each: the walls and the claim gates (R316 to R332). -/

namespace Sys2Proof.Machine

/-- GIVE_UP (R324): WALL.CTL.GIVE_UP makes the wall FAILED with EFF 0, and the gates move. -/
def execGiveUp (m : Master) (w : Fin 2) (s : State) : Host.Outcome State Fault Refusal :=
  s.live fun d => d.mWrite m.val (.wall w.val) 0x024 15 1

/-- WALL_ENABLE_WRITE (R324): A write of WALL PAGE_CTRL.ENABLE = 0 makes the wall give up with cause HOST, and 1 permits REJOIN. -/
def execWallEnableWrite (m : Master) (w : Fin 2) (v : Word) (s : State) : Host.Outcome State Fault Refusal :=
  s.live fun d => d.mWrite m.val (.wall w.val) 0x008 15 v

/-- WALL_SELF_DIAG_FAILURE (R321): A wall detects an ECC2, CRC, parity, watchdog or probe failure and gives up. -/
def execWallSelfDiagFailure (w : Fin 2) (c : DiagCheck) (s : State) : Host.Outcome State Fault Refusal :=
  s.live fun d => (d.diag w.val c).txFollow

/-- CROSS_COMPARE_MISMATCH (R322): A gate finds the walls' items differ, a shadowing wall gives up, or a targeted self-test starts. -/
def execCrossCompareMismatch (kind : Fin 4) (index : Fin 65536) (s : State) : Host.Outcome State Fault Refusal :=
  s.live fun d => (d.mismatch kind.val index.val).txFollow

/-- SELFTEST_DONE (R322): A targeted self-test completes, and a failing wall gives up or MM_POLICY applies. -/
def execSelftestDone (failA failB : Bool) (s : State) : Host.Outcome State Fault Refusal :=
  s.live fun d => (d.selfTestDone failA failB).txFollow

/-- GATE_SAFE_STATE (R320): With both claims 0 for a frame of courses, an output applies CGATE.CFG.SAFE. -/
def execGateSafeState (t : Fin 1472) (s : State) : Host.Outcome State Fault Refusal :=
  s.live fun d => d.gateSafe t.val

/-- WALL_RESET (R325): WALL.CTL.WALL_RESET gives up the wall, clears its connection memory and starts a rejoin in TEST. -/
def execWallReset (m : Master) (w : Fin 2) (s : State) : Host.Outcome State Fault Refusal :=
  s.live fun d => d.mWrite m.val (.wall w.val) 0x024 15 4

/-- REJOIN (R326): WALL.CTL.REJOIN starts a rejoin of a FAILED wall with its built-in self-test. -/
def execRejoin (m : Master) (w : Fin 2) (s : State) : Host.Outcome State Fault Refusal :=
  s.live fun d => d.mWrite m.val (.wall w.val) 0x024 15 2

/-- REJOIN_BIST_DONE (R326): The rejoin self-test ends, and the wall enters COPY, or ACTIVE if no wall has a claim, or fails with BIST. -/
def execRejoinBistDone (w : Fin 2) (pass : Bool) (tiles ancs slots : List Nat) (s : State) : Host.Outcome State Fault Refusal :=
  s.live fun d => (d.bistDone w.val pass tiles ancs slots).txFollow

/-- REJOIN_COPY_DONE (R326): A copy pass finds nothing changed, and the wall enters SHADOW. -/
def execRejoinCopyDone (w : Fin 2) (us passes : Nat) (s : State) : Host.Outcome State Fault Refusal :=
  s.live fun d => (d.copyDone w.val us passes).txFollow

/-- REJOIN_COPY_TIMEOUT (R326): COPY exceeds 10 ms, and the wall returns to FAILED with COPY_TIMEOUT. -/
def execRejoinCopyTimeout (w : Fin 2) (s : State) : Host.Outcome State Fault Refusal :=
  s.live fun d => (d.copyTimeout w.val).txFollow

/-- REJOIN_SHADOW_DONE (R326): Two whole frames of every running domain pass in SHADOW, and the wall becomes STANDBY and sets REJOINED. -/
def execRejoinShadowDone (w : Fin 2) (s : State) : Host.Outcome State Fault Refusal :=
  s.live fun d => (d.shadowDone w.val).txFollow

/-- SWAP_ARM (R329): CGATE.SWAP CMD 1 arms a swap at the next switch line of SWAP.TDOM. -/
def execSwapArm (m : Master) (k : Fin 16) (s : State) : Host.Outcome State Fault Refusal :=
  s.live fun d => d.mWrite m.val .cgate 0x024 15 (BitVec.ofNat 32 (0x10000 + k.val))

/-- SWAP_CANCEL (R329): CGATE.SWAP CMD 2 cancels an armed swap and sets SWAP_DONE with SWAP_CANCELLED. -/
def execSwapCancel (m : Master) (s : State) : Host.Outcome State Fault Refusal :=
  s.live fun d => d.mWrite m.val .cgate 0x024 15 0x20000

/-- SWAP_EXECUTE (R329): At the switch-line read point the STANDBY wall becomes ACTIVE and the other wall STANDBY. -/
def execSwapExecute (k : Fin 16) (s : State) : Host.Outcome State Fault Refusal :=
  s.live fun d => (d.swapExecute k.val).txFollow

/-- CLAIM_CONFIG_WRITE (R330): A write of WALL.CLAIM.CONFIG changes the configured claim and EFF within Table 14.1. -/
def execClaimConfigWrite (m : Master) (w : Fin 2) (v : Word) (s : State) : Host.Outcome State Fault Refusal :=
  s.live fun d => d.mWrite m.val (.wall w.val) 0x020 15 v

/-- WALL_CNT_CLR (R321): A write of WALL.CTL.CNT_CLR clears ECC_CNT, ERR_CNT, PROBE_ERR and LATE. -/
def execWallCntClr (m : Master) (w : Fin 2) (s : State) : Host.Outcome State Fault Refusal :=
  s.live fun d => d.mWrite m.val (.wall w.val) 0x024 15 8

/-- CGATE_CNT_CLR (R322): A write of CGATE.CTL.CNT_CLR clears MM_CNT, MM_SEEN, ALT_CNT and SAFE_CNT. -/
def execCgateCntClr (m : Master) (s : State) : Host.Outcome State Fault Refusal :=
  s.live fun d => d.mWrite m.val .cgate 0x040 15 1

end Sys2Proof.Machine
end

