-- ==== Sys2Proof/Machine/Dispatch.lean ====
section
/-! DEFINITION. The dispatch of every command to its meaning. -/

namespace Sys2Proof.Machine

def exec (i : Instr) (s : State) : Host.Outcome State Fault Refusal :=
  match i with
  | .registerWrite m p w be v => Sys2Proof.Machine.execRegisterWrite m p w be v s
  | .expertKeyWrite m p v => Sys2Proof.Machine.execExpertKeyWrite m p v s
  | .expertTimeout p => Sys2Proof.Machine.execExpertTimeout p s
  | .softReset m p rest => Sys2Proof.Machine.execSoftReset m p rest s
  | .blockResetDone p => Sys2Proof.Machine.execBlockResetDone p s
  | .pinReset cause => Sys2Proof.Machine.execPinReset cause s
  | .powerOnReset => Sys2Proof.Machine.execPowerOnReset s
  | .xoCheckDone => Sys2Proof.Machine.execXoCheckDone s
  | .resetSequenceEnd bootmode => Sys2Proof.Machine.execResetSequenceEnd bootmode s
  | .gpioWrite m isDir v => Sys2Proof.Machine.execGpioWrite m isDir v s
  | .marginWindowEnd n0 n1 n2 n3 n4 n5 => Sys2Proof.Machine.execMarginWindowEnd n0 n1 n2 n3 n4 n5 s
  | .minClr m n => Sys2Proof.Machine.execMinClr m n s
  | .handshakeWatchdogExpiry stage => Sys2Proof.Machine.execHandshakeWatchdogExpiry stage s
  | .wdogClr m => Sys2Proof.Machine.execWdogClr m s
  | .xoTimeLoRead m => Sys2Proof.Machine.execXoTimeLoRead m s
  | .txcfgWrite m n v => Sys2Proof.Machine.execTxcfgWrite m n v s
  | .synthesiserLock q pll => Sys2Proof.Machine.execSynthesiserLock q pll s
  | .rxcfgWrite m n v => Sys2Proof.Machine.execRxcfgWrite m n v s
  | .laneEnableWrite m n v => Sys2Proof.Machine.execLaneEnableWrite m n v s
  | .losSet l => Sys2Proof.Machine.execLosSet l s
  | .losClear l => Sys2Proof.Machine.execLosClear l s
  | .lolSet l => Sys2Proof.Machine.execLolSet l s
  | .cdrLock l => Sys2Proof.Machine.execCdrLock l s
  | .cdrRestart l => Sys2Proof.Machine.execCdrRestart l s
  | .autoCandidateTimeout n => Sys2Proof.Machine.execAutoCandidateTimeout n s
  | .testctlInject m l => Sys2Proof.Machine.execTestctlInject m l s
  | .testctlCntClr m l => Sys2Proof.Machine.execTestctlCntClr m l s
  | .testCheckerLockChange l levels => Sys2Proof.Machine.execTestCheckerLockChange l levels s
  | .trsReceived n word bit lead trs offset line1 => Sys2Proof.Machine.execTrsReceived n word bit lead trs offset line1 s
  | .candidateExpiry n cand => Sys2Proof.Machine.execCandidateExpiry n cand s
  | .verifyEavMissing n => Sys2Proof.Machine.execVerifyEavMissing n s
  | .expectedTrsMissing n eav stream2 => Sys2Proof.Machine.execExpectedTrsMissing n eav stream2 s
  | .frameComplete n meas => Sys2Proof.Machine.execFrameComplete n meas s
  | .lineReceived n line items => Sys2Proof.Machine.execLineReceived n line items s
  | .edhFieldCheck n present ap ff => Sys2Proof.Machine.execEdhFieldCheck n present ap ff s
  | .pidPacketReceived n stream2 line words => Sys2Proof.Machine.execPidPacketReceived n stream2 line words s
  | .frmctlCntClr m n => Sys2Proof.Machine.execFrmctlCntClr m n s
  | .madiSyncSymbol n phase gap => Sys2Proof.Machine.execMadiSyncSymbol n phase gap s
  | .madiSubframe n ind parityOk sample valid time sub => Sys2Proof.Machine.execMadiSubframe n ind parityOk sample valid time sub s
  | .madiSyncTimeout n => Sys2Proof.Machine.execMadiSyncTimeout n s
  | .asiCharacter n c => Sys2Proof.Machine.execAsiCharacter n c s
  | .asiSyncByte n found spacing packet => Sys2Proof.Machine.execAsiSyncByte n found spacing packet s
  | .tlBlockReceived n bits next sub late => Sys2Proof.Machine.execTlBlockReceived n bits next sub late s
  | .tlRowOverhead n => Sys2Proof.Machine.execTlRowOverhead n s
  | .tlBipReceived n => Sys2Proof.Machine.execTlBipReceived n s
  | .tlSrqReceived n => Sys2Proof.Machine.execTlSrqReceived n s
  | .tlRdiReiReceived n => Sys2Proof.Machine.execTlRdiReiReceived n s
  | .tlTraceReceived n => Sys2Proof.Machine.execTlTraceReceived n s
  | .ccSegmentReceived n => Sys2Proof.Machine.execCcSegmentReceived n s
  | .ccPacketTransmit n => Sys2Proof.Machine.execCcPacketTransmit n s
  | .jcwReceived n => Sys2Proof.Machine.execJcwReceived n s
  | .headerBrickReceived n k sub late => Sys2Proof.Machine.execHeaderBrickReceived n k sub late s
  | .tlFrameTransmit n others => Sys2Proof.Machine.execTlFrameTransmit n others s
  | .txslotWrite m n k v => Sys2Proof.Machine.execTxslotWrite m n k v s
  | .ohctlCntClr m n => Sys2Proof.Machine.execOhctlCntClr m n s
  | .tllFrmctlCntClr m n => Sys2Proof.Machine.execTllFrmctlCntClr m n s
  | .tileLineStart t line pos => Sys2Proof.Machine.execTileLineStart t line pos s
  | .alignDriftWindow => Sys2Proof.Machine.execAlignDriftWindow s
  | .aligncfgWrite m r v => Sys2Proof.Machine.execAligncfgWrite m r v s
  | .crsctlCntClr m l => Sys2Proof.Machine.execCrsctlCntClr m l s
  | .followRouteSwitch n => Sys2Proof.Machine.execFollowRouteSwitch n s
  | .ancPacketParsed n stream line vert start rest => Sys2Proof.Machine.execAncPacketParsed n stream line vert start rest s
  | .ancctlCntClr m l => Sys2Proof.Machine.execAncctlCntClr m l s
  | .ancContextWrite m j v => Sys2Proof.Machine.execAncContextWrite m j v s
  | .audioPacketReceived n pair group sub x => Sys2Proof.Machine.execAudioPacketReceived n pair group sub x s
  | .tileContextWrite m t v => Sys2Proof.Machine.execTileContextWrite m t v s
  | .tileGroupWrite m t v => Sys2Proof.Machine.execTileGroupWrite m t v s
  | .arm m g => Sys2Proof.Machine.execArm m g s
  | .disarm m g => Sys2Proof.Machine.execDisarm m g s
  | .frameTriggerFire k frame => Sys2Proof.Machine.execFrameTriggerFire k frame s
  | .gpiFilteredEdge n level => Sys2Proof.Machine.execGpiFilteredEdge n level s
  | .fabGpiWrite m n v => Sys2Proof.Machine.execFabGpiWrite m n v s
  | .contextCommit g t => Sys2Proof.Machine.execContextCommit g t s
  | .holdExpiry t => Sys2Proof.Machine.execHoldExpiry t s
  | .fabGenWrite m n v => Sys2Proof.Machine.execFabGenWrite m n v s
  | .fabCntClr m => Sys2Proof.Machine.execFabCntClr m s
  | .audioContextWrite m slot group v => Sys2Proof.Machine.execAudioContextWrite m slot group v s
  | .audioContextCommit g slot => Sys2Proof.Machine.execAudioContextCommit g slot s
  | .rampEnd slot => Sys2Proof.Machine.execRampEnd slot s
  | .houseSamplePeriod lates => Sys2Proof.Machine.execHouseSamplePeriod lates s
  | .afabDepthWrite m v => Sys2Proof.Machine.execAfabDepthWrite m v s
  | .afabEnableWrite m v => Sys2Proof.Machine.execAfabEnableWrite m v s
  | .meterWindowEnd p => Sys2Proof.Machine.execMeterWindowEnd p s
  | .afabCntClr m => Sys2Proof.Machine.execAfabCntClr m s
  | .pmSecondEnd => Sys2Proof.Machine.execPmSecondEnd s
  | .pmSecWrite m v => Sys2Proof.Machine.execPmSecWrite m v s
  | .pmClr m => Sys2Proof.Machine.execPmClr m s
  | .protCntClr m => Sys2Proof.Machine.execProtCntClr m s
  | .lofTimer l => Sys2Proof.Machine.execLofTimer l s
  | .pgCfgWrite m v => Sys2Proof.Machine.execPgCfgWrite m v s
  | .clear m => Sys2Proof.Machine.execClear m s
  | .lockout m => Sys2Proof.Machine.execLockout m s
  | .forced m => Sys2Proof.Machine.execForced m s
  | .manualW m => Sys2Proof.Machine.execManualW m s
  | .manualP m => Sys2Proof.Machine.execManualP m s
  | .protHoldoffExpiry g member degrade => Sys2Proof.Machine.execProtHoldoffExpiry g member degrade s
  | .protWtrExpiry g => Sys2Proof.Machine.execProtWtrExpiry g s
  | .refMeasurement freqs mean now => Sys2Proof.Machine.execRefMeasurement freqs mean now s
  | .refSignalAbsent r => Sys2Proof.Machine.execRefSignalAbsent r s
  | .refSignalPresent r => Sys2Proof.Machine.execRefSignalPresent r s
  | .refinEnableWrite m r v => Sys2Proof.Machine.execRefinEnableWrite m r v s
  | .refinCfgWrite m r v => Sys2Proof.Machine.execRefinCfgWrite m r v s
  | .refinCntClr m r => Sys2Proof.Machine.execRefinCntClr m r s
  | .todMessage start gap bytes => Sys2Proof.Machine.execTodMessage start gap bytes s
  | .todTimeout => Sys2Proof.Machine.execTodTimeout s
  | .selCfgWrite m v => Sys2Proof.Machine.execSelCfgWrite m v s
  | .prioWrite m v => Sys2Proof.Machine.execPrioWrite m v s
  | .refWtrExpiry r => Sys2Proof.Machine.execRefWtrExpiry r s
  | .transitionPhaseCapture phase => Sys2Proof.Machine.execTransitionPhaseCapture phase s
  | .transitionLoopClose => Sys2Proof.Machine.execTransitionLoopClose s
  | .transitionDone => Sys2Proof.Machine.execTransitionDone s
  | .calCapture m => Sys2Proof.Machine.execCalCapture m s
  | .histClr m => Sys2Proof.Machine.execHistClr m s
  | .xoCalWrite m hi v => Sys2Proof.Machine.execXoCalWrite m hi v s
  | .tmuLoRead m hold => Sys2Proof.Machine.execTmuLoRead m hold s
  | .phaseStep m v => Sys2Proof.Machine.execPhaseStep m v s
  | .stepDone => Sys2Proof.Machine.execStepDone s
  | .tdomFmtWrite m k v => Sys2Proof.Machine.execTdomFmtWrite m k v s
  | .tdomEnableWrite m k v => Sys2Proof.Machine.execTdomEnableWrite m k v s
  | .tdomOffsetWrite m k v => Sys2Proof.Machine.execTdomOffsetWrite m k v s
  | .tdomSwlineWrite m k v => Sys2Proof.Machine.execTdomSwlineWrite m k v s
  | .jump m k frame => Sys2Proof.Machine.execJump m k frame s
  | .slew m k => Sys2Proof.Machine.execSlew m k s
  | .cancel m k => Sys2Proof.Machine.execCancel m k s
  | .realignJumpExecute k epoch => Sys2Proof.Machine.execRealignJumpExecute k epoch s
  | .realignSlewDone k => Sys2Proof.Machine.execRealignSlewDone k s
  | .fcntClr m k => Sys2Proof.Machine.execFcntClr m k s
  | .domainFrameStart k err epoch => Sys2Proof.Machine.execDomainFrameStart k err epoch s
  | .courseReadPoint k line items => Sys2Proof.Machine.execCourseReadPoint k line items s
  | .clkCfgWrite m v => Sys2Proof.Machine.execClkCfgWrite m v s
  | .audRealign m => Sys2Proof.Machine.execAudRealign m s
  | .audDone => Sys2Proof.Machine.execAudDone s
  | .memcEnableWrite m j v => Sys2Proof.Machine.execMemcEnableWrite m j v s
  | .memcTrainDone j pass failCh => Sys2Proof.Machine.execMemcTrainDone j pass failCh s
  | .memcRetrain j derate => Sys2Proof.Machine.execMemcRetrain j derate s
  | .chCfgWrite m v => Sys2Proof.Machine.execChCfgWrite m v s
  | .fsFrameWritten c => Sys2Proof.Machine.execFsFrameWritten c s
  | .freeze m => Sys2Proof.Machine.execFreeze m s
  | .unfreeze m => Sys2Proof.Machine.execUnfreeze m s
  | .play m => Sys2Proof.Machine.execPlay m s
  | .stop m => Sys2Proof.Machine.execStop m s
  | .playAt m frame => Sys2Proof.Machine.execPlayAt m frame s
  | .captureStart m => Sys2Proof.Machine.execCaptureStart m s
  | .captureStop m => Sys2Proof.Machine.execCaptureStop m s
  | .dlCfgWrite m v => Sys2Proof.Machine.execDlCfgWrite m v s
  | .apertureBaseWrite m v => Sys2Proof.Machine.execApertureBaseWrite m v s
  | .fstCntClr m => Sys2Proof.Machine.execFstCntClr m s
  | .giveUp m w => Sys2Proof.Machine.execGiveUp m w s
  | .wallEnableWrite m w v => Sys2Proof.Machine.execWallEnableWrite m w v s
  | .wallSelfDiagFailure w c => Sys2Proof.Machine.execWallSelfDiagFailure w c s
  | .crossCompareMismatch kind index => Sys2Proof.Machine.execCrossCompareMismatch kind index s
  | .selftestDone failA failB => Sys2Proof.Machine.execSelftestDone failA failB s
  | .gateSafeState t => Sys2Proof.Machine.execGateSafeState t s
  | .wallReset m w => Sys2Proof.Machine.execWallReset m w s
  | .rejoin m w => Sys2Proof.Machine.execRejoin m w s
  | .rejoinBistDone w pass tiles ancs slots => Sys2Proof.Machine.execRejoinBistDone w pass tiles ancs slots s
  | .rejoinCopyDone w us passes => Sys2Proof.Machine.execRejoinCopyDone w us passes s
  | .rejoinCopyTimeout w => Sys2Proof.Machine.execRejoinCopyTimeout w s
  | .rejoinShadowDone w => Sys2Proof.Machine.execRejoinShadowDone w s
  | .swapArm m k => Sys2Proof.Machine.execSwapArm m k s
  | .swapCancel m => Sys2Proof.Machine.execSwapCancel m s
  | .swapExecute k => Sys2Proof.Machine.execSwapExecute k s
  | .claimConfigWrite m w v => Sys2Proof.Machine.execClaimConfigWrite m w v s
  | .wallCntClr m w => Sys2Proof.Machine.execWallCntClr m w s
  | .cgateCntClr m => Sys2Proof.Machine.execCgateCntClr m s
  | .lengStart m n => Sys2Proof.Machine.execLengStart m n s
  | .lengStop m n => Sys2Proof.Machine.execLengStop m n s
  | .lengEnableWrite m n v => Sys2Proof.Machine.execLengEnableWrite m n v s
  | .lengCntClr m n => Sys2Proof.Machine.execLengCntClr m n s
  | .lengIstoreWrite m n j v => Sys2Proof.Machine.execLengIstoreWrite m n j v s
  | .lengRecordArrival n => Sys2Proof.Machine.execLengRecordArrival n s
  | .lengEvent n b => Sys2Proof.Machine.execLengEvent n b s
  | .dbInRing m n => Sys2Proof.Machine.execDbInRing m n s
  | .dbgStep m n rest => Sys2Proof.Machine.execDbgStep m n rest s
  | .nop n => Sys2Proof.Machine.execNop n s
  | .add n => Sys2Proof.Machine.execAdd n s
  | .sub n => Sys2Proof.Machine.execSub n s
  | .and n => Sys2Proof.Machine.execAnd n s
  | .or n => Sys2Proof.Machine.execOr n s
  | .xor n => Sys2Proof.Machine.execXor n s
  | .shl n => Sys2Proof.Machine.execShl n s
  | .shr n => Sys2Proof.Machine.execShr n s
  | .addi n => Sys2Proof.Machine.execAddi n s
  | .andi n => Sys2Proof.Machine.execAndi n s
  | .ori n => Sys2Proof.Machine.execOri n s
  | .shli n => Sys2Proof.Machine.execShli n s
  | .shri n => Sys2Proof.Machine.execShri n s
  | .lui n => Sys2Proof.Machine.execLui n s
  | .ext n => Sys2Proof.Machine.execExt n s
  | .ins n => Sys2Proof.Machine.execIns n s
  | .ld n => Sys2Proof.Machine.execLd n s
  | .st n => Sys2Proof.Machine.execSt n s
  | .beq n => Sys2Proof.Machine.execBeq n s
  | .bne n => Sys2Proof.Machine.execBne n s
  | .blt n => Sys2Proof.Machine.execBlt n s
  | .bge n => Sys2Proof.Machine.execBge n s
  | .j n => Sys2Proof.Machine.execJ n s
  | .call n => Sys2Proof.Machine.execCall n s
  | .ret n => Sys2Proof.Machine.execRet n s
  | .wait n => Sys2Proof.Machine.execWait n s
  | .ldh n => Sys2Proof.Machine.execLdh n s
  | .getu n => Sys2Proof.Machine.execGetu n s
  | .newp n => Sys2Proof.Machine.execNewp n s
  | .putu n => Sys2Proof.Machine.execPutu n s
  | .endp n => Sys2Proof.Machine.execEndp n s
  | .drop n => Sys2Proof.Machine.execDrop n s
  | .fwd n => Sys2Proof.Machine.execFwd n s
  | .pushq n => Sys2Proof.Machine.execPushq n s
  | .par n => Sys2Proof.Machine.execPar n s
  | .crc n => Sys2Proof.Machine.execCrc n s
  | .cinc n => Sys2Proof.Machine.execCinc n s
  | .crd n => Sys2Proof.Machine.execCrd n s
  | .dbell n => Sys2Proof.Machine.execDbell n s
  | .time n => Sys2Proof.Machine.execTime n s
  | .halt n => Sys2Proof.Machine.execHalt n s
  | .illegalInstruction n => Sys2Proof.Machine.execIllegalInstruction n s
  | .matrixTransfer m x => Sys2Proof.Machine.execMatrixTransfer m x s
  | .lockedSequence m x => Sys2Proof.Machine.execLockedSequence m x s
  | .lockBreak => Sys2Proof.Machine.execLockBreak s
  | .matrixRequestTimeout m addr isWrite => Sys2Proof.Machine.execMatrixRequestTimeout m addr isWrite s
  | .parkReturn t => Sys2Proof.Machine.execParkReturn t s
  | .masterReset m x done => Sys2Proof.Machine.execMasterReset m x done s
  | .sliceWrite m v => Sys2Proof.Machine.execSliceWrite m v s
  | .mtxPermWrite m k v => Sys2Proof.Machine.execMtxPermWrite m k v s
  | .mtxCntClr m => Sys2Proof.Machine.execMtxCntClr m s
  | .sramcCntClr m => Sys2Proof.Machine.execSramcCntClr m s
  | .queuePacketWrite q words bytes => Sys2Proof.Machine.execQueuePacketWrite q words bytes s
  | .wrDataWrite m v => Sys2Proof.Machine.execWrDataWrite m v s
  | .wrEnd m bytes => Sys2Proof.Machine.execWrEnd m bytes s
  | .wrSelWrite m v => Sys2Proof.Machine.execWrSelWrite m v s
  | .rdLoRead m => Sys2Proof.Machine.execRdLoRead m s
  | .queueStallReturn m => Sys2Proof.Machine.execQueueStallReturn m s
  | .queueStallTimeout m => Sys2Proof.Machine.execQueueStallTimeout m s
  | .dropRest m => Sys2Proof.Machine.execDropRest m s
  | .mark m => Sys2Proof.Machine.execMark m s
  | .unmark m => Sys2Proof.Machine.execUnmark m s
  | .rewind m => Sys2Proof.Machine.execRewind m s
  | .qCfgWrite m v => Sys2Proof.Machine.execQCfgWrite m v s
  | .parInj m => Sys2Proof.Machine.execParInj m s
  | .qmgCntClr m => Sys2Proof.Machine.execQmgCntClr m s
  | .dmaPacketToRing c => Sys2Proof.Machine.execDmaPacketToRing c s
  | .dmaEntryToQueue c => Sys2Proof.Machine.execDmaEntryToQueue c s
  | .dmaPointerWrite m c isRead v => Sys2Proof.Machine.execDmaPointerWrite m c isRead v s
  | .interruptCommit t fast => Sys2Proof.Machine.execInterruptCommit t fast s
  | .interruptDeliveryDone t fast => Sys2Proof.Machine.execInterruptDeliveryDone t fast s
  | .claim m fast => Sys2Proof.Machine.execClaim m fast s
  | .claimAll m fast => Sys2Proof.Machine.execClaimAll m fast s
  | .complete m fast source => Sys2Proof.Machine.execComplete m fast source s
  | .swiWrite m raise => Sys2Proof.Machine.execSwiWrite m raise s
  | .intcEnWrite m j v => Sys2Proof.Machine.execIntcEnWrite m j v s
  | .srcCfgWrite m v => Sys2Proof.Machine.execSrcCfgWrite m v s
  | .intcCfgWrite m v => Sys2Proof.Machine.execIntcCfgWrite m v s
  | .watchWrite m j v => Sys2Proof.Machine.execWatchWrite m j v s
  | .pmcCfgWrite m n v => Sys2Proof.Machine.execPmcCfgWrite m n v s
  | .pmcCfgClr m n rest => Sys2Proof.Machine.execPmcCfgClr m n rest s
  | .clrAll m rest => Sys2Proof.Machine.execClrAll m rest s
  | .freezeWrite m v => Sys2Proof.Machine.execFreezeWrite m v s
  | .cntLoRead m n => Sys2Proof.Machine.execCntLoRead m n s
  | .bwWindowEnd => Sys2Proof.Machine.execBwWindowEnd s
  | .bwWinWrite m v => Sys2Proof.Machine.execBwWinWrite m v s
  | .bwSnapLoRead m => Sys2Proof.Machine.execBwSnapLoRead m s
  | .bar2Read who off wide => Sys2Proof.Machine.execBar2Read who off wide s
  | .mgmtReset m => Sys2Proof.Machine.execMgmtReset m s
  | .dataReset m => Sys2Proof.Machine.execDataReset m s
  | .timingReset m => Sys2Proof.Machine.execTimingReset m s
  | .full m => Sys2Proof.Machine.execFull m s
  | .resetComplete => Sys2Proof.Machine.execResetComplete s
  | .coreRunWrite m v => Sys2Proof.Machine.execCoreRunWrite m v s
  | .coreReset m c rest => Sys2Proof.Machine.execCoreReset m c rest s
  | .coreSleep m v => Sys2Proof.Machine.execCoreSleep m v s
  | .standby m => Sys2Proof.Machine.execStandby m s
  | .dormant m => Sys2Proof.Machine.execDormant m s
  | .active m => Sys2Proof.Machine.execActive m s
  | .stateDone => Sys2Proof.Machine.execStateDone s
  | .dormantWake source ticks => Sys2Proof.Machine.execDormantWake source ticks s
  | .railWarningEnter rail steps => Sys2Proof.Machine.execRailWarningEnter rail steps s
  | .railWarningLeave rail steps us => Sys2Proof.Machine.execRailWarningLeave rail steps us s
  | .railResetLevel rail => Sys2Proof.Machine.execRailResetLevel rail s
  | .deferEnd => Sys2Proof.Machine.execDeferEnd s
  | .tempReading quarters => Sys2Proof.Machine.execTempReading quarters s
  | .thermalShutdown => Sys2Proof.Machine.execThermalShutdown s
  | .wakeTimerWrite m v => Sys2Proof.Machine.execWakeTimerWrite m v s
  | .wakeTimerExpiry => Sys2Proof.Machine.execWakeTimerExpiry s
  | .logCtlClr m => Sys2Proof.Machine.execLogCtlClr m s
  | .pcieRequest r => Sys2Proof.Machine.execPcieRequest r s
  | .pcieLinkReset k => Sys2Proof.Machine.execPcieLinkReset k s
  | .msixSend enable v => Sys2Proof.Machine.execMsixSend enable v s
  | .spiFrame f => Sys2Proof.Machine.execSpiFrame f s
  | .spiAbort f => Sys2Proof.Machine.execSpiAbort f s
  | .bootStart => Sys2Proof.Machine.execBootStart s
  | .sfdpDiscoveryDone found addr4 quad => Sys2Proof.Machine.execSfdpDiscoveryDone found addr4 quad s
  | .imageCheckDone flash bus big => Sys2Proof.Machine.execImageCheckDone flash bus big s
  | .loadImg m => Sys2Proof.Machine.execLoadImg m s
  | .done m => Sys2Proof.Machine.execDone m s
  | .flashCmdWrite m v => Sys2Proof.Machine.execFlashCmdWrite m v s
  | .flashCmdDone data reads => Sys2Proof.Machine.execFlashCmdDone data reads s
  | .jtagTrst => Sys2Proof.Machine.execJtagTrst s
  | .idcode => Sys2Proof.Machine.execIdcode s
  | .samplePreload balls load => Sys2Proof.Machine.execSamplePreload balls load s
  | .extest balls load => Sys2Proof.Machine.execExtest balls load s
  | .clamp => Sys2Proof.Machine.execClamp s
  | .highz => Sys2Proof.Machine.execHighz s
  | .bypass => Sys2Proof.Machine.execBypass s
  | .debug f => Sys2Proof.Machine.execDebug f s
  | .resetNRise => Sys2Proof.Machine.execResetNRise s
  | .pciePerstRise => Sys2Proof.Machine.execPciePerstRise s
  | .pcieLinkUp speed width => Sys2Proof.Machine.execPcieLinkUp speed width s
  | .referenceEvent r e => Sys2Proof.Machine.execReferenceEvent r e s
  | .levelCounterWrap n => Sys2Proof.Machine.execLevelCounterWrap n s

end Sys2Proof.Machine
end

