-- ==== Sys2Proof/Machine/Idle.lean ====
section
/-! DEFINITION. What the block does while no command waits: one XO tick passes. -/

namespace Sys2Proof.Machine

/-- The LEVEL counters that count the tick in progress (R399). -/
def Dev.levelsOn (d : Dev) : List Nat := (d.pmcCfgs.map (·.1)).filter (fun n => d.pmcLevels n d.statLevel)

/-- One XO tick (R70, R399): the tick count rises, and every LEVEL counter whose bit reads 1 counts. No tick passes while the core domains do
not run. -/
def Dev.tick (d : Dev) : Dev :=
  if d.stopped then d
  else d.levelsOn.foldl (fun e n => Dev.pmcAdd 130 e n) { d with xo := d.xo + 1 }

end Sys2Proof.Machine
end

