-- ==== Sys2Proof/Machine/Step.lean ====
section
/-! DEFINITION. One step: the command at the front of the queue, or, while none waits, one XO tick. -/

namespace Sys2Proof.Machine

/-- One step of the block: the command at the front of the queue is taken off it and runs with the rest of the queue; with none waiting, an XO
tick passes. -/
def step (s : State) : Host.Outcome State Fault Refusal :=
  match s.pending with
  | [] => .next { s with dev := s.dev.tick }
  | c :: rest => exec c { s with pending := rest }

/-- The state with the command that a table word spells put at the front of its queue. -/
def State.withFetchWord (s : State) (nbits w : Nat) : State :=
  match decodeTableWord nbits w with
  | some c => { s with pending := c :: s.pending }
  | none => s

end Sys2Proof.Machine
end

