-- ==== Sys2Proof/Safety.lean ====
section
/-! DEFINITION. What a safe state and a safe step are: every memory and every table of the block is in its one canonical form (keys
strictly rising, no entry equal to what its unlisted key reads as), and a step answers a next state, never a fault or a refusal. -/

namespace Sys2Proof.Machine

/-- The addressed memories of the block (Table 20.2) are in canonical form: SRAM banks, frame store, instruction stores and data memories of
the line engines. -/
def Memory.wf (d : Dev) : Bool :=
  Map.wf (fun _ => 0) d.sram && Map.wf d.memFree d.mem && Map.wf d.istoreFree d.istore && Map.wf d.dmemFree d.dmem

/-- Every sparse table of the block, the register file and the memories among them, is in canonical form. -/
structure Dev.Wf (d : Dev) : Prop where
  regs : Map.wf resetWord d.regs = true
  resp : Map.wf (fun _ => {}) d.resp = true
  lanes : Map.wf (fun _ => {}) d.lanes = true
  plls : Map.wf (fun _ => {}) d.plls = true
  framers : Map.wf (fun _ => {}) d.framers = true
  tiles : Map.wf (fun _ => {}) d.tiles = true
  pm : Map.wf (fun _ => {}) d.pm = true
  groups : Map.wf (fun _ => {}) d.groups = true
  tctx : Map.wf (fun _ => {}) d.tctx = true
  actx : Map.wf (fun _ => {}) d.actx = true
  uctx : Map.wf (fun _ => {}) d.uctx = true
  takes : Map.wf (fun _ => {}) d.takes = true
  probes : Map.wf (fun _ => {}) d.probes = true
  doms : Map.wf (fun _ => {}) d.doms = true
  chans : Map.wf (fun _ => {}) d.chans = true
  delays : Map.wf (fun _ => {}) d.delays = true
  mem : Map.wf d.memFree d.mem = true
  queues : Map.wf (fun _ => {}) d.queues = true
  opens : Map.wf (fun _ => noOpen) d.opens = true
  stalls : Map.wf (fun _ => 0) d.stalls = true
  sram : Map.wf (fun _ => 0) d.sram = true
  lengs : Map.wf (fun _ => {}) d.lengs = true
  istore : Map.wf d.istoreFree d.istore = true
  dmem : Map.wf d.dmemFree d.dmem = true
  outs : Map.wf (fun _ => {}) d.outs = true
  streams : Map.wf (fun _ => {}) d.streams = true
  slots : Map.wf (fun _ => {}) d.slots = true
  gens : Map.wf (fun _ => {}) d.gens = true
  meters : Map.wf (fun _ => {}) d.meters = true
  deembs : Map.wf (fun _ => {}) d.deembs = true
  refs : Map.wf (fun _ => {}) d.refs = true
  fps : Map.wf (fun _ => {}) d.fps = true
  tlrx : Map.wf (fun _ => {}) d.tlrx = true
  tltx : Map.wf (fun _ => {}) d.tltx = true
  protAud : Map.wf (fun _ => []) d.protAud = true
  cores : Map.wf (fun _ => {}) d.cores = true

/-- The invariant of the block: its tables are canonical. -/
def State.Inv (s : State) : Prop := s.dev.Wf

/-- A step from the state answers a next state. -/
def SafeStep (s : State) : Prop := ∃ t, step s = .next t

/-! ### An accepted access of a register page -/

/-- The block as an access of a page by master `m` finds it: the matrix has granted it and its four bytes are counted (R353, R404). -/
def Dev.passed (d : Dev) (m : Nat) : Dev := (d.granted 6 m).bwAdd 330 4

/-- The word that the write of a page register finds there. -/
def Dev.held (d : Dev) (m : Nat) (p : Page) (off : Nat) : Word := (d.passed m).reg ((d.passed m).pageKey m p off)

/-- Nothing turns the write away: the block runs, the matrix lets it through (R356, R437), the register exists, and no cause of R19 rejects
it. -/
def Dev.admits (d : Dev) (m : Nat) (p : Page) (off : Nat) (v : Word) : Bool :=
  !d.stopped && !(d.hostBarred m (p.base + off)) && d.permits m 6 true && (regAt p off).isSome &&
    (firstRej ((d.passed m).pageRej m p off 15 (d.held m p off) v)).isNone

/-- The block as a write of a page by master `m` finds it: the matrix has granted it and its bytes are counted (R353, R404). -/
def Dev.reached (d : Dev) (m : Nat) (be : BitVec 4) : Dev := (d.granted 6 m).bwAdd 330 (if be == 0 then 0 else 4)

/-- The cause that rejects a write which reaches the page: the first in the order of R20, none where the write is accepted. -/
def Dev.rejects (d : Dev) (m : Nat) (p : Page) (off : Nat) (be : BitVec 4) (v : Word) : Option Rej :=
  firstRej ((d.reached m be).pageRej m p off be ((d.reached m be).reg ((d.reached m be).pageKey m p off)) v)

/-- The place of a cause in the order of R20. -/
def Rej.place : Rej → Nat
  | .locked => 0
  | .expert => 1
  | .rsvd => 2
  | .range => 3
  | .armed => 4
  | .state => 5

/-- The register after the accepted write, as its access codes say (R5); nothing else has changed yet. -/
def Dev.stored (d : Dev) (m : Nat) (p : Page) (off : Nat) (v : Word) : Dev :=
  match regAt p off with
  | some r => (d.passed m).setReg ((d.passed m).pageKey m p off) (applyWord r (d.held m p off) v)
  | none => d.passed m

/-- The write is answered OKAY (R357, R360). -/
def Dev.okay (d : Dev) (m : Nat) : Dev := d.respond m ⟨.okay, []⟩

/-- The block as a write of a context window by master `m` finds it. -/
def Dev.ctxPassed (d : Dev) (m : Nat) : Dev := (d.granted 8 m).bwAdd 332 4

/-- Nothing turns the write of a context window away (R184, R185, R356, R437). -/
def Dev.ctxAdmits (d : Dev) (m off : Nat) (v : Word) : Bool :=
  !d.stopped && !(d.hostBarred m (0x800000 + off)) && d.permits m 8 true && (firstRej ((d.ctxPassed m).ctxRej off true v)).isNone

/-- What an accepted write of PAGE_CTRL does to the expert key: 0x5A opens the expert half, any other value closes it (R14). -/
def Dev.keyed (d : Dev) (p : Page) (v : Word) : Dev :=
  d.wr p .PAGE_CTRL_EXPERT_KEY (if Fld.PAGE_CTRL_EXPERT_KEY.get v == 0x5A then 0x5A else 0)

/-- A running line engine stands at an instruction of opcode `op` that its slice still admits (R336, R340, R345). -/
def Dev.meets (d : Dev) (n op : Nat) : Bool :=
  !d.stopped && d.lengState n == 1 && iOp (d.fetch n) == op && instrOk (d.fetch n) &&
    (d.leng n).slots + instrSlots op ≤ 16 * d.lf n .LENG_CFG_SLICE

/-- The engine with the slots of an instruction of opcode `op` counted against its slice (R345). -/
def Dev.billed (d : Dev) (n op : Nat) : Dev :=
  d.setLeng n { d.leng n with slots := (d.leng n).slots + instrSlots op, spent := (d.leng n).spent + instrSlots op }

/-! ### Frames -/

/-- The registers that an occurrence of an event of page `p` can change: its PAGE_EVT, PMC's OVF registers and PAGE_EVT (R399, R401), INTC's PAGE_EVT
(R385), and CORE_CTL, whose SLEEP bit a wake clears (R394). -/
def eventKeys (p : Page) : List Nat :=
  [regKey p 0 0x010, regKey .pmc 0 0x024, regKey .pmc 0 0x028, regKey .pmc 0 0x010, regKey .intc 0 0x010, regKey .pwr 0 0x02C]

/-- The keys of the registers that a transfer logged by the matrix may change: ERR_ADDR, ERR_INFO, the two error counts, and what the event changes
(R355, R356, R358, R359). -/
def mtxLogKeys : List Nat :=
  [regKey .mtx 0 0x070, regKey .mtx 0 0x074, regKey .mtx 0 0x07C, regKey .mtx 0 0x080] ++ eventKeys .mtx

/-- The registers that a rejected write of page `p` can change: its two error registers, what its event changes, and FST.ADMIT_ERR with the event
of a refused admission (R19, R21, R314). -/
def rejectKeys (p : Page) : List Nat :=
  [regKey p 0 0x018, regKey p 0 0x01C, regKey .fst 0 0x060] ++ eventKeys p

/-- The command has its effect while the core domains do not run as well: resets and wakes, supply and temperature events, and the test access
port (R410, R412, R420, R441). -/
def whenStopped : Instr → Bool
  | .jtagTrst | .idcode | .samplePreload .. | .extest .. | .clamp | .highz | .bypass | .debug .. | .pciePerstRise | .pcieLinkReset .perst | .pinReset .. |
    .powerOnReset | .xoCheckDone | .resetSequenceEnd .. | .resetNRise | .dormantWake .. | .railWarningEnter .. | .railWarningLeave .. |
    .railResetLevel .. | .deferEnd | .tempReading .. | .wakeTimerExpiry => true
  | _ => false

/-- Block `e` is block `d` but for the registers at the keys `ks`, the answers that masters have received, the interrupt sources, the counters of
PMC and the arbiters of the matrix: every other register, every memory, queue, buffer and mode is the same. -/
structure Dev.Keeps (ks : List Nat) (d e : Dev) : Prop where
  regs : ∀ k, k ∉ ks → e.reg k = d.reg k
  locks : e.mtx.locks = d.mtx.locks
  reserve : e.mtx.reserve = d.mtx.reserve
  waits : e.mtx.waits = d.mtx.waits
  rest : { e with regs := d.regs, resp := d.resp, intc := d.intc, pmc := d.pmc, mtx := d.mtx } = d

end Sys2Proof.Machine
end

