-- ==== Sys2Proof/Certificates/Slice0/Obligations.lean ====
section
/-! DEFINITION. The statements about the block: what each command does, what it leaves alone, what every step keeps. -/

open Sys2Proof Sys2Proof.Machine

/-- A step with a command at the front of the queue is exec of it with the rest of the queue. For every command c, block d and queue q, step of the
state with c in front of q is exec of c on d with queue q. The queue itself is the model's (log entry 1). (R22, R360) -/
def Obligations.StepRunsFront : Prop := ∀ (c : Instr) (d : Dev) (q : List Instr), step ⟨d, c :: q⟩ = exec c ⟨d, q⟩

/-- Two page writes apply one at a time, the second checked against the state left by the first. Two register writes of one page, by any masters, in
the queue: the first step leaves the block that the page write of the first gives, granted or not, and the second step is the page write of the
second on exactly that block. (R22) -/
def Obligations.PageWritesInOrder : Prop :=
  ∀ (d : Dev) (q : List Instr) (p : Page) (m m' : Master) (w w' : Fin 1024) (be be' : BitVec 4) (v v' : Word), d.stopped = false →
    ∃ e : Dev, step ⟨d, .registerWrite m p w be v :: .registerWrite m' p w' be' v' :: q⟩ = .next ⟨e, .registerWrite m' p w' be' v' :: q⟩ ∧
      e = d.mWrite m.val p (4 * w.val) be v ∧
      step ⟨e, .registerWrite m' p w' be' v' :: q⟩ = .next ⟨e.live (fun e => e.mWrite m'.val p (4 * w'.val) be' v'), q⟩ ∧
      (d.hostBarred m.val (p.base + 4 * w.val) = false → d.permits m.val 6 true = true →
        e = ((d.reached m.val be).pageWrite m.val p (4 * w.val) be v).okay m.val)

/-- XO_TIME counts ticks in 48 bits and wraps; LO latches HI; TIME reads the same count. While the core domains run: an idle step (the model's tick,
log entry 2) adds 1 to the 48-bit count, and 2^48 - 1 goes to 0. A read of XO_TIME_LO returns bits 31 to 0, and a read of XO_TIME_HI after it
bits 47 to 32 of the same count. TIME of a line engine writes bits 31 to 0 of the count. (R70, R341) -/
def Obligations.XoTimeCounts : Prop :=
  ∀ (d : Dev) (q : List Instr), d.stopped = false →
    (∃ e : Dev, step ⟨d, []⟩ = .next ⟨e, []⟩ ∧ e.xo = d.xo + 1 ∧ (d.xo = BitVec.allOnes 48 → e.xo = 0)) ∧
    (∀ m : Master, d.permits m.val 6 false = true → d.lockedOut m.val 6 = false → d.stallOf m.val = none → ∃ (e f : Dev) (w : Word),
      exec (.xoTimeLoRead m) ⟨d, q⟩ = .next ⟨e, q⟩ ∧ e.respOf m.val = ⟨.okay, [d.xo.extractLsb' 0 32]⟩ ∧
      exec (.matrixTransfer m ⟨.read, 0x74, [{}], {}⟩) ⟨e, q⟩ = .next ⟨f, q⟩ ∧
      f.respOf m.val = ⟨.okay, [w]⟩ ∧ w.extractLsb' 0 16 = d.xo.extractLsb' 32 16) ∧
    (∀ n : Fin 144, d.meets n.val 0x27 = true → iZ (d.fetch n.val) = 0 → iD (d.fetch n.val) ≠ 0 →
      ∃ e : Dev, exec (.time n) ⟨d, q⟩ = .next ⟨e, q⟩ ∧ e.greg n.val (iD (d.fetch n.val)) = d.xo.extractLsb' 0 32)

/-- A step on an empty queue is one XO tick and changes nothing but counters and what they set. With no command waiting a step answers a next state:
the same block while the core domains are stopped; else the tick count risen by 1, and beside it only registers that a counter overflow sets, the
counters, and interrupt sources; nothing but the tick count where no LEVEL counter counts. That the idle step is a tick is the model's choice
(log entry 2). (R70, R399) -/
def Obligations.IdleStepIsOneTick : Prop :=
  ∀ d : Dev, ∃ e : Dev, step ⟨d, []⟩ = .next ⟨e, []⟩ ∧ (d.stopped = true → e = d) ∧
    (d.stopped = false → ({ d with xo := d.xo + 1 } : Dev).Keeps (eventKeys .pmc) e) ∧
    (d.stopped = false → d.levelsOn = [] → e = { d with xo := d.xo + 1 })

/-- Every step keeps every memory and table in its one canonical form. For every state in which the register file, the SRAM banks, the frame store,
the instruction and data memories of the line engines and every other sparse table are canonical (keys strictly rising, no entry equal to what
its unlisted key reads as), a step that answers a next state keeps them so. It speaks of all 309 commands and of the idle step. (R12, R300, R334,
R348, R366, R367) -/
def Obligations.StepKeepsInvariant : Prop := ∀ s t : State, s.Inv → step s = .next t → t.Inv

/-- The state after reset has the invariant, canonical memories and an empty queue. State.reset meets State.Inv, its memories are canonical, and no
command waits. The queue is the model's (log entry 1). (R367) -/
def Obligations.ResetHasInvariant : Prop := State.reset.Inv ∧ Memory.wf State.reset.dev = true ∧ State.reset.pending = []

/-- Every command answers a next state on every state and leaves the rest of the queue. For every command, with whatever operands, and every state,
exec answers a next state, never a fault or a refusal, and the queue is the one given. (R19, R357) -/
def Obligations.EveryCommandCompletes : Prop := ∀ (c : Instr) (s : State), ∃ d : Dev, exec c s = .next ⟨d, s.pending⟩

/-- While the core domains do not run, only resets, wakes, supply events and JTAG act. In a PIN or power-on reset, in DORMANT or in a wake from it,
every command but those that whenStopped names leaves the whole state as it is. This reading is the model's (log entry 5). (R410, R412, R415) -/
def Obligations.StoppedBlockActsOnNothing : Prop :=
  ∀ (c : Instr) (s : State), s.dev.stopped = true → whenStopped c = false → exec c s = .next s

/-- A rejected write changes no register but the page header, is recorded there, and is answered OKAY. A write of any register of any page, with any
byte enables, that reaches the page and has a cause of rejection: MASTER, OFFSET and CODE of the page describe it, OVERRUN is set if the event
was set, PAGE_EVT.WRITE_REJECT is set, the master gets OKAY; every other register but those that the event sets (and FST.ADMIT_ERR) and every
memory, queue and mode is unchanged. (R19, R21, R357) -/
def Obligations.RejectedWriteIsRecorded : Prop :=
  ∀ (d : Dev) (q : List Instr) (m : Master) (p : Page) (w : Fin 1024) (be : BitVec 4) (v : Word) (r : Rej),
    d.stopped = false → d.hostBarred m.val (p.base + 4 * w.val) = false → d.permits m.val 6 true = true →
    d.rejects m.val p (4 * w.val) be v = some r →
    ∃ e : Dev, exec (.registerWrite m p w be v) ⟨d, q⟩ = .next ⟨e, q⟩ ∧
      e.rd p .PAGE_ERRADDR_MASTER = m.val ∧ e.rd p .PAGE_ERRADDR_OFFSET = w.val ∧ e.rd p .PAGE_ERRCODE_CODE = r.code ∧
      ((d.reg (regKey p 0 0x010)).getLsbD 0 = true → e.on p .PAGE_ERRCODE_OVERRUN = true) ∧
      (e.reg (regKey p 0 0x010)).getLsbD 0 = true ∧ e.respOf m.val = ⟨.okay, []⟩ ∧ d.Keeps (rejectKeys p) e

/-- CODE is the first cause in the order LOCKED, EXPERT, RSVD, RANGE, ARMED, STATE; partial writes give LOCKED or RSVD. For a write with all byte
enables set, the recorded cause is one of the causes that apply, and none that applies comes earlier in the order of R20; where a cause applies,
one is recorded. For a write whose byte enables are not all set, the cause is LOCKED where LOCK forbids the offset, else RSVD, whatever the
value. (R20) -/
def Obligations.RejectionOrder : Prop :=
  ∀ (d : Dev) (m : Nat) (p : Page) (off : Nat) (be : BitVec 4) (v : Word),
    let old := (d.reached m be).reg ((d.reached m be).pageKey m p off)
    (∀ r, be = 15 → d.rejects m p off be v = some r →
      r ∈ (d.reached m be).pageRej m p off be old v ∧ ∀ x ∈ (d.reached m be).pageRej m p off be old v, r.place ≤ x.place) ∧
    (∀ x, be = 15 → x ∈ (d.reached m be).pageRej m p off be old v → (d.rejects m p off be v).isSome = true) ∧
    (be ≠ 15 → d.rejects m p off be v = some (if 0x020 ≤ off ∧ d.on p .PAGE_CTRL_LOCK = true then .locked else .rsvd))

/-- LOCK = 1 turns every write at or above 0x020 away with LOCKED, and never one below 0x020. With PAGE_CTRL.LOCK = 1 a write of any offset from
0x020 that reaches the page records CODE 4 and leaves every register outside the page header and its event as it was. A write below 0x020 of any
page but MTX (where R356 asks for ADMIN) is never rejected LOCKED. (R16, R20) -/
def Obligations.LockForbidsWrites : Prop :=
  ∀ (d : Dev) (q : List Instr) (m : Master) (p : Page) (w : Fin 1024) (be : BitVec 4) (v : Word),
    (8 ≤ w.val → d.stopped = false → d.on p .PAGE_CTRL_LOCK = true → d.hostBarred m.val (p.base + 4 * w.val) = false → d.permits m.val 6 true = true →
      ∃ e : Dev, exec (.registerWrite m p w be v) ⟨d, q⟩ = .next ⟨e, q⟩ ∧ e.rd p .PAGE_ERRCODE_CODE = 4 ∧
        ∀ k, k ∉ rejectKeys p → e.reg k = d.reg k) ∧
    (w.val < 8 → p ≠ .mtx → d.rejects m.val p (4 * w.val) be v ≠ some .locked)

/-- An offset that holds no register reads 0 and rejects writes with RSVD. For every page that exists and every offset with no register: a permitted
read answers OKAY with 0 and changes no register; a write with all byte enables set that reaches the page is rejected with CODE 2, or with CODE 4
where a LOCKED cause comes first (LOCK = 1 from 0x020 up; MTX without ADMIN). (R13) -/
def Obligations.NoRegisterThere : Prop :=
  ∀ (d : Dev) (q : List Instr) (m : Master) (p : Page) (w : Fin 1024) (v : Word), d.stopped = false → p.exists = true → regAt p (4 * w.val) = none →
    (d.permits m.val 6 false = true → d.lockedOut m.val 6 = false → d.stallOf m.val = none →
      ∃ e : Dev, exec (.matrixTransfer m ⟨.read, p.base + 4 * w.val, [{}], {}⟩) ⟨d, q⟩ = .next ⟨e, q⟩ ∧
      e.respOf m.val = ⟨.okay, [0]⟩ ∧ e.regs = d.regs) ∧
    (d.hostBarred m.val (p.base + 4 * w.val) = false → d.permits m.val 6 true = true →
      ∃ e : Dev, exec (.registerWrite m p w 15 v) ⟨d, q⟩ = .next ⟨e, q⟩ ∧
        e.rd p .PAGE_ERRCODE_CODE = if (8 ≤ w.val ∧ d.on p .PAGE_CTRL_LOCK = true) ∨ (p = .mtx ∧ d.admin m.val = false) then 4 else 2)

/-- Only 0x5A opens the expert half, a rejected PAGE_CTRL write keeps it, SOFT_RESET sets RESET_BUSY, which rejects writes. An accepted PAGE_CTRL
write without SOFT_RESET leaves the expert half open exactly if EXPERT_KEY is 0x5A; a rejected one leaves it as it was; an accepted SOFT_RESET
leaves RESET_BUSY 1; while RESET_BUSY is 1 every write from 0x020 up is rejected. (R14, R17) -/
def Obligations.ExpertHalfAndBlockReset : Prop :=
  ∀ (d : Dev) (q : List Instr) (m : Master) (p : Page) (w : Fin 1024) (v : Word),
    (d.admits m.val p 0x008 v = true → Fld.PAGE_CTRL_SOFT_RESET.get v = 0 → ∃ e : Dev, exec (.registerWrite m p 2 15 v) ⟨d, q⟩ = .next ⟨e, q⟩ ∧
      e.expertOpen p = (Fld.PAGE_CTRL_EXPERT_KEY.get v == 0x5A)) ∧
    (d.stopped = false → d.hostBarred m.val (p.base + 8) = false → d.permits m.val 6 true = true → (d.rejects m.val p 0x008 15 v).isSome = true →
      ∃ e : Dev, exec (.registerWrite m p 2 15 v) ⟨d, q⟩ = .next ⟨e, q⟩ ∧ e.expertOpen p = d.expertOpen p) ∧
    (d.admits m.val p 0x008 (v ||| 2) = true → ∃ e : Dev, exec (.softReset m p v) ⟨d, q⟩ = .next ⟨e, q⟩ ∧ e.on p .PAGE_STAT_RESET_BUSY = true) ∧
    (8 ≤ w.val → d.on p .PAGE_STAT_RESET_BUSY = true →
      ∃ r, d.rejects m.val p (4 * w.val) 15 v = some r ∧ (d.on p .PAGE_CTRL_LOCK = true → r = .locked))

/-- An accepted write sets RW and XRW fields, keeps RO, clears W1C bits written 1, and leaves WC reading 0. For every register of every page and each
of its fields: after the write is applied to the word, an RW or XRW field holds the value written, an RO field the old one, a WC field 0, and
each bit of a W1C field its old value and not the bit written. (R5) -/
def Obligations.AcceptedWriteSetsFields : Prop :=
  ∀ (p : Page) (off : Nat) (r : RegD) (f : Fld) (old v : Word), regAt p off = some r → f ∈ r.fields →
    (f.acc = .rw ∨ f.acc = .xrw → f.get (applyWord r old v) = f.get v) ∧
    (f.acc = .ro → f.get (applyWord r old v) = f.get old) ∧
    (f.acc = .wc → f.get (applyWord r old v) = 0) ∧
    (f.acc = .w1c → ∀ i < f.w, (f.get (applyWord r old v)).testBit i = ((f.get old).testBit i && !(f.get v).testBit i))

/-- A transfer without permission answers PERM, has no effect, and is counted and logged. For every read or write, of any length, to a target but T9
that PERM does not let the master read or write: the answer is PERM, ERRCNT2.PERM rises by 1 up to its maximum, ERR_ADDR and ERR_INFO describe
the transfer, PAGE_EVT.PERM is set, and everything else but what that event sets is unchanged. (R356, R359) -/
def Obligations.TransferWithoutPermission : Prop :=
  ∀ (d : Dev) (q : List Instr) (m : Master) (addr : Nat) (isWrite : Bool) (bs : List Beat) (env : XferEnv),
    d.stopped = false → targetAt (addr / 4 * 4) ≠ 9 → d.permits m.val (targetAt (addr / 4 * 4)) isWrite = false →
    ∃ e : Dev, exec (.matrixTransfer m ⟨if isWrite then .write else .read, addr, bs, env⟩) ⟨d, q⟩ = .next ⟨e, q⟩ ∧
      e.respOf m.val = ⟨.perm, []⟩ ∧ e.rd .mtx .MTX_ERRCNT2_PERM = min (d.rd .mtx .MTX_ERRCNT2_PERM + 1) 0xFFFF ∧
      e.rd .mtx .MTX_ERR_ADDR_ADDR = addr / 4 * 4 % 2 ^ 32 ∧ e.rd .mtx .MTX_ERR_INFO_TARGET = targetAt (addr / 4 * 4) ∧
      e.rd .mtx .MTX_ERR_INFO_MASTER = m.val ∧ e.rd .mtx .MTX_ERR_INFO_CODE = 2 ∧ e.on .mtx .MTX_ERR_INFO_WRITE = isWrite ∧
      (e.reg (regKey .mtx 0 0x010)).getLsbD 9 = true ∧ d.Keeps mtxLogKeys e

/-- T9 answers every transfer with DECERR, reads with 0, logs it, and never stalls. Every transfer to an address that decodes to T9 (for a write, one
that R437 does not bar first) is answered in the same step: DECERR, with a word of 0 for each beat read; ERR_ADDR and ERR_INFO describe it, with
OVERRUN if the event was set; PAGE_EVT.DECODE is set; everything else but what that event sets is unchanged. (R358) -/
def Obligations.DefaultTargetAnswersDecerr : Prop :=
  ∀ (d : Dev) (q : List Instr) (m : Master) (x : Xfer), d.stopped = false → targetAt (x.addr / 4 * 4) = 9 →
    (x.kind = .write → d.hostBarred m.val (x.addr / 4 * 4) = false) →
    ∃ e : Dev, exec (.matrixTransfer m x) ⟨d, q⟩ = .next ⟨e, q⟩ ∧
      e.respOf m.val = ⟨.decerr, match x.kind with
        | .read => List.replicate x.beats.length 0
        | .lr => [0]
        | _ => []⟩ ∧
      e.rd .mtx .MTX_ERR_ADDR_ADDR = x.addr / 4 * 4 % 2 ^ 32 ∧ e.rd .mtx .MTX_ERR_INFO_TARGET = 9 ∧ e.rd .mtx .MTX_ERR_INFO_MASTER = m.val ∧
      e.rd .mtx .MTX_ERR_INFO_CODE = 1 ∧ e.on .mtx .MTX_ERR_INFO_WRITE = (x.kind == .write || x.kind == .sc) ∧
      ((d.reg (regKey .mtx 0 0x010)).getLsbD 8 = true → e.on .mtx .MTX_ERR_INFO_OVERRUN = true) ∧
      (e.reg (regKey .mtx 0 0x010)).getLsbD 8 = true ∧ d.Keeps mtxLogKeys e

/-- While the loader runs, writes of M4, M5 and M7 outside HOST and BOOT answer PERM and are counted. With BOOT.STAT.STATE DISCOVER or LOADING, a
write of any length by M4, M5 or M7 to an address outside the HOST and BOOT pages answers PERM and counts in ERRCNT2.PERM; everything but the log
and what its event sets is unchanged. (R437) -/
def Obligations.LoaderBarsHostWrites : Prop :=
  ∀ (d : Dev) (q : List Instr) (m : Master) (addr : Nat) (bs : List Beat) (env : XferEnv),
    d.stopped = false → m = 4 ∨ m = 5 ∨ m = 7 → d.rd .boot .BOOT_STAT_STATE = 1 ∨ d.rd .boot .BOOT_STAT_STATE = 2 →
    ¬(0x3000 ≤ addr / 4 * 4 ∧ addr / 4 * 4 < 0x5000) →
    ∃ e : Dev, exec (.matrixTransfer m ⟨.write, addr, bs, env⟩) ⟨d, q⟩ = .next ⟨e, q⟩ ∧ e.respOf m.val = ⟨.perm, []⟩ ∧
      e.rd .mtx .MTX_ERRCNT2_PERM = min (d.rd .mtx .MTX_ERRCNT2_PERM + 1) 0xFFFF ∧ d.Keeps mtxLogKeys e

/-- A read of CNT_LO returns bits 31 to 0 and latches bits 47 to 32 for the reading master alone. A permitted read of PMC.CNT_LO[n] answers bits 31
to 0 of counter n; CNT_HI[n] of that master then holds, and a read of it shows, bits 47 to 32; every other register, so every other master's
latch and every other counter's, is unchanged, and no counter changes. (R403) -/
def Obligations.CounterReadLatches : Prop :=
  ∀ (d : Dev) (q : List Instr) (m : Master) (n : Fin 64), d.stopped = false → d.permits m.val 6 false = true → d.pmcCount n.val < 2 ^ 48 →
    ∃ e : Dev, exec (.cntLoRead m n) ⟨d, q⟩ = .next ⟨e, q⟩ ∧ e.respOf m.val = ⟨.okay, [BitVec.ofNat 32 (d.pmcCount n.val)]⟩ ∧
      e.rdB .pmc m.val (Fld.nth .PMC_CNT_HI_COUNT_HI n.val) = d.pmcCount n.val / 2 ^ 32 ∧
      (e.pageView m.val .pmc (0x108 + 12 * n.val)).toNat % 2 ^ 16 = d.pmcCount n.val / 2 ^ 32 ∧
      d.Keeps [regKey .pmc m.val (0x108 + 12 * n.val)] e ∧ e.pmc.cnt = d.pmc.cnt

/-- A write of an SRAM word changes the enabled bytes of that word alone and ends reservations of it. A granted single write with any byte enable
set: enabled bytes take the written ones, the others stay, every other word stays, no master holds a reservation of the word afterwards and every
other reservation stays, no register changes, and nothing else but the matrix, the bandwidth counters and the answer. (R351, R354, R360, R366) -/
def Obligations.SramWordIsWritten : Prop :=
  ∀ (d : Dev) (q : List Instr) (m : Master) (addr : Nat) (be : BitVec 4) (v : Word),
    let a := addr / 4 * 4
    d.stopped = false → targetAt a < 5 → d.hostBarred m.val a = false → d.permits m.val (targetAt a) true = true →
    d.lockedOut m.val (targetAt a) = false → be ≠ 0 →
    ∃ e : Dev, exec (.matrixTransfer m ⟨.write, addr, [⟨be, v⟩], {}⟩) ⟨d, q⟩ = .next ⟨e, q⟩ ∧ e.respOf m.val = ⟨.okay, []⟩ ∧
      (∀ i < 32, (e.sramGet (sramKey a)).getLsbD i = if be.getLsbD (i / 8) then v.getLsbD i else (d.sramGet (sramKey a)).getLsbD i) ∧
      (∀ k, k ≠ sramKey a → e.sramGet k = d.sramGet k) ∧
      (∀ j : Master, Map.get (fun _ => 0) e.mtx.reserve j.val ≠ a + 1) ∧
      (∀ j : Master, Map.get (fun _ => 0) d.mtx.reserve j.val ≠ a + 1 → Map.get (fun _ => 0) e.mtx.reserve j.val = Map.get (fun _ => 0) d.mtx.reserve j.val) ∧
      e.regs = d.regs ∧ { e with sram := d.sram, mtx := d.mtx, pmc := d.pmc, resp := d.resp } = d

/-- A store-conditional writes exactly if its master holds the reservation. A granted store-conditional: with the reservation of the word it writes
and answers 0; without, it answers 1 and writes nothing; in both cases every other word stays and the reservation is gone, and no register
changes unless the beat collided on port B (R365). The answer values are RV32A's (log entry 25). (R354) -/
def Obligations.StoreConditionalNeedsReservation : Prop :=
  ∀ (d : Dev) (q : List Instr) (m : Master) (addr : Nat) (v : Word) (env : XferEnv),
    let a := addr / 4 * 4
    d.stopped = false → targetAt a < 5 → d.permits m.val (targetAt a) true = true → d.lockedOut m.val (targetAt a) = false →
    ∃ e : Dev, exec (.matrixTransfer m ⟨.sc, addr, [⟨15, v⟩], env⟩) ⟨d, q⟩ = .next ⟨e, q⟩ ∧
      (Map.get (fun _ => 0) d.mtx.reserve m.val = a + 1 → e.respOf m.val = ⟨.okay, [0]⟩ ∧ e.sramGet (sramKey a) = v) ∧
      (Map.get (fun _ => 0) d.mtx.reserve m.val ≠ a + 1 → e.respOf m.val = ⟨.okay, [1]⟩ ∧ e.sram = d.sram) ∧
      (∀ k, k ≠ sramKey a → e.sramGet k = d.sramGet k) ∧ Map.get (fun _ => 0) e.mtx.reserve m.val ≠ a + 1 ∧ (env.collide.contains 0 = false → e.regs = d.regs)

/-- A write to the aperture changes the enabled bytes at APERTURE_BASE plus the offset and no other byte. A granted single write to T5 with the MEMC
READY: each enabled byte i of the word goes to the byte at WINDOW x 32 MiB + offset + i of the MEMC that APERTURE_BASE names; every other byte of
both memories, every SRAM word and every register but MEMC.MGMT_WAIT_MAX stay. Which byte of the word lies lower is the model's (log entry 16).
(R315, R404) -/
def Obligations.ApertureWritesItsBytes : Prop :=
  ∀ (d : Dev) (q : List Instr) (m : Master) (addr : Nat) (be : BitVec 4) (v : Word) (env : XferEnv),
    let a := addr / 4 * 4
    let k := d.rd .fst .FST_APERTURE_BASE_MEMC
    let b := d.rd .fst .FST_APERTURE_BASE_WINDOW * 2 ^ 25 + (a - 0x2000000)
    d.stopped = false → targetAt a = 5 → d.hostBarred m.val a = false → d.permits m.val 5 true = true → d.lockedOut m.val 5 = false →
    d.memcReady k = true →
    ∃ e : Dev, exec (.matrixTransfer m ⟨.write, addr, [⟨be, v⟩], env⟩) ⟨d, q⟩ = .next ⟨e, q⟩ ∧ e.respOf m.val = ⟨.okay, []⟩ ∧
      (∀ i < 4, e.memByte k (b + i) = if be.getLsbD i then v.extractLsb' (8 * i) 8 else d.memByte k (b + i)) ∧
      (∀ j c, (∀ i < 4, memKey j c ≠ memKey k (b + i)) → e.memByte j c = d.memByte j c) ∧
      e.sram = d.sram ∧ d.Keeps [regKey (.memc k) 0 0x03C] { e with mem := d.mem }

/-- An accepted write of word 0 of a tile context updates the shadow of every wall with a claim and no other. For every output tile: the shadow word
of each wall with EFF above 0 is the value written, of a wall with EFF 0 the old one; active copies, groups, every other tile's context, audio
and ancillary contexts and registers stay. (R182, R183) -/
def Obligations.ContextWriteReachesBothWalls : Prop :=
  ∀ (d : Dev) (q : List Instr) (m : Master) (t : Fin 1472) (v : Word), d.ctxAdmits m.val (32 * t.val) v = true → d.lockedOut m.val 8 = false →
    ∃ e : Dev, exec (.matrixTransfer m ⟨.write, 0x800000 + 32 * t.val, [⟨15, v⟩], {}⟩) ⟨d, q⟩ = .next ⟨e, q⟩ ∧
      (∀ w : Fin 2, (e.tc t.val).sh w.val = if 0 < d.wallEff w.val then v else (d.tc t.val).sh w.val) ∧
      (∀ w : Fin 2, (e.tc t.val).ac w.val = (d.tc t.val).ac w.val ∧ (e.tc t.val).gr w.val = (d.tc t.val).gr w.val) ∧
      (∀ j, j ≠ t.val → e.tc j = d.tc j) ∧ e.uctx = d.uctx ∧ e.actx = d.actx ∧ e.regs = d.regs

/-- After every change the gates stand at the wall with the higher EFF, keep theirs on a tie, and at none when both are 0. For every block, after
wallsSettle, with which every command that changes a claim ends: the wall with the higher EFF is accepted; with equal EFF above 0 the wall
accepted before, Wall A if none was, and TIE reads 1; with both 0 none. (R318) -/
def Obligations.GatesAcceptTheHigherClaim : Prop :=
  ∀ (d : Dev) (a b : Nat), d.wallsSettle.wallEff 0 = a → d.wallsSettle.wallEff 1 = b →
    (b < a → d.wallsSettle.gateWall = some 0) ∧ (a < b → d.wallsSettle.gateWall = some 1) ∧
    (a = b → 0 < a → d.wallsSettle.gateWall = some (d.gateWall.getD 0) ∧ d.wallsSettle.on .cgate .CGATE_STAT_TIE = true) ∧
    (a = 0 → b = 0 → d.wallsSettle.gateWall = none)

/-- A free delivery slot takes the deliverable source of highest priority, lowest number among equals. For every target and class with a free slot:
with no deliverable source nothing changes; else the slot holds a deliverable source such that every other has a lower PRIO, or the same PRIO and
a higher number; it is committed to the target; no register changes. (R386, R389) -/
def Obligations.SlotTakesHighestPriority : Prop :=
  ∀ (d : Dev) (q : List Instr) (t : Fin 5) (fast : Bool), d.Wf → d.stopped = false →
    let c := if fast then 1 else 0
    d.slotOf t.val c = none →
    ∃ e : Dev, exec (.interruptCommit t fast) ⟨d, q⟩ = .next ⟨e, q⟩ ∧
      (d.deliverable t.val c = [] → e = d) ∧
      (d.deliverable t.val c ≠ [] → ∃ k, e.slotOf t.val c = some k ∧ k ∈ d.deliverable t.val c ∧ (e.src k).committed = some t.val ∧
        ∀ j ∈ d.deliverable t.val c, d.srcPrio j < d.srcPrio k ∨ (d.srcPrio j = d.srcPrio k ∧ k ≤ j)) ∧ e.regs = d.regs

/-- CLAIM and CLAIM_ALL take the caller's slot as R391 says, and read 0 of an empty one. For every master and class: a read of an empty slot returns
0 and leaves the interrupt state; of a full slot empties it, takes one event (all for CLAIM_ALL), puts the source in service with the caller's
target (CCn for Mn up to 3, else HOST), returns the claim word with the events left (consumed for CLAIM_ALL); other sources stay; a later event
of the source counts anew; registers stay. (R391) -/
def Obligations.ClaimTakesTheSlot : Prop :=
  ∀ (d : Dev) (q : List Instr) (m : Master) (fast : Bool), d.stopped = false → d.permits m.val 6 false = true →
    let t := if m.val < 4 then m.val else 4
    let c := if fast then 1 else 0
    ∃ e f : Dev, exec (.claim m fast) ⟨d, q⟩ = .next ⟨e, q⟩ ∧ exec (.claimAll m fast) ⟨d, q⟩ = .next ⟨f, q⟩ ∧
      (d.slotOf t c = none → e.respOf m.val = ⟨.okay, [0]⟩ ∧ f.respOf m.val = ⟨.okay, [0]⟩ ∧ e.intc = d.intc ∧ f.intc = d.intc) ∧
      (∀ k, d.slotOf t c = some k →
        e.slotOf t c = none ∧ f.slotOf t c = none ∧
        (e.src k).count = (d.src k).count - 1 ∧ (f.src k).count = 0 ∧
        (e.src k).insvc = some t ∧ (f.src k).insvc = some t ∧
        e.respOf m.val = ⟨.okay, [claimWord k (d.src k) c ((d.src k).count - 1)]⟩ ∧
        f.respOf m.val = ⟨.okay, [claimWord k (d.src k) c (d.src k).count]⟩ ∧
        (∀ j, j ≠ k → e.src j = d.src j ∧ f.src j = d.src j) ∧
        ∀ g ∈ [e, f], g.intcLost = false → (g.src k).count < 255 → ((g.addEventRaw k).src k).count = (g.src k).count + 1) ∧
      e.regs = d.regs ∧ f.regs = d.regs

/-- With FREEZE = 1 no event and no tick changes a counter. With PMC.CTL.FREEZE = 1, an event of any page and an idle step leave every counter as it
was. (R399, R402) -/
def Obligations.FreezeStopsCounters : Prop :=
  ∀ (d : Dev) (p : Page) (b n : Nat), d.on .pmc .PMC_CTL_FREEZE = true →
    (d.setEvt p b).pmcCount n = d.pmcCount n ∧ ∃ e : Dev, step ⟨d, []⟩ = .next ⟨e, []⟩ ∧ e.pmcCount n = d.pmcCount n

/-- A GPIO ball shows the GPIO_OUT bit written where its direction is output, else the level outside. An accepted write of GPIO_OUT stores all 16
bits whatever the direction, and GPIO_IN then shows each written bit where GPIO_DIR is 1 and the outside level where it is 0. The outside levels
have no row (log entry 21). (R54) -/
def Obligations.GpioShowsWhatItDrives : Prop :=
  ∀ (d : Dev) (q : List Instr) (m : Master) (v : Word), d.admits m.val .dev 0x034 v = true →
    ∃ e : Dev, exec (.gpioWrite m false v) ⟨d, q⟩ = .next ⟨e, q⟩ ∧ e.rd .dev .DEV_GPIO_OUT_OUT = v.toNat % 2 ^ 16 ∧
      ∀ i < 16, (e.pageView m.val .dev 0x038).getLsbD i =
        if (e.reg (regKey .dev 0 0x030)).getLsbD i then v.getLsbD i else d.gpioPins.getLsbD i

/-- Line-engine arithmetic changes register d, the program counter and the slot count of its own engine, nothing else. NOP, ADD, SUB, AND, OR, XOR,
SHL, SHR, ADDI, ANDI, ORI, SHLI, SHRI, LUI, EXT, INS, PAR and CRC: where the engine stands at it, the program counter rises by 1 modulo 1,024, g0
reads 0, every register but d stays (all for NOP), every other engine, the rest of this engine, every register outside its STAT and EVT, every
memory and all else stay. (R333, R340, R341) -/
def Obligations.EngineArithmeticFrame : Prop :=
  ∀ (d : Dev) (q : List Instr) (n : Fin 144) (c : Instr) (op : Nat),
    (c, op) ∈ [(.nop n, 0x00), (.add n, 0x01), (.sub n, 0x02), (.and n, 0x03), (.or n, 0x04), (.xor n, 0x05), (.shl n, 0x06), (.shr n, 0x07), (.addi n, 0x08),
      (.andi n, 0x09), (.ori n, 0x0A), (.shli n, 0x0B), (.shri n, 0x0C), (.lui n, 0x0D), (.ext n, 0x0E), (.ins n, 0x0F), (.par n, 0x22), (.crc n, 0x23)] →
    d.meets n.val op = true → ∃ e : Dev, exec c ⟨d, q⟩ = .next ⟨e, q⟩ ∧
    e.lpc n.val = (d.lpc n.val + 1) % 1024 ∧ e.greg n.val 0 = 0 ∧
    (∀ r, r ≠ iD (d.fetch n.val) → e.greg n.val r = d.greg n.val r) ∧ (c = .nop n → ∀ r, e.greg n.val r = d.greg n.val r) ∧
    (∀ j, j ≠ n.val → e.leng j = d.leng j) ∧ { e.leng n.val with g := (d.leng n.val).g, slots := (d.leng n.val).slots, spent := (d.leng n.val).spent } = d.leng n.val ∧
    (∀ k, k ∉ [regKey (.leng n.val) 0 0x02C, regKey (.leng n.val) 0 0x030] → e.reg k = d.reg k) ∧
    { e with lengs := d.lengs, regs := d.regs } = d

/-- ST changes the data word at the address it computes and no other word of any engine. Where the engine stands at ST and its address (computed as
LD does, by dataAddr) is at most 2,047: that word is register b; every other data word of every engine, its registers, every other engine and all
else but its own STAT and EVT stay; the program counter rises by 1. (R333, R334, R341) -/
def Obligations.EngineStoreFrame : Prop :=
  ∀ (d : Dev) (q : List Instr) (n : Fin 144), d.meets n.val 0x11 = true →
    let a := (d.billed n.val 0x11).dataAddr n.val (d.fetch n.val)
    a ≤ 2047 →
    ∃ e : Dev, exec (.st n) ⟨d, q⟩ = .next ⟨e, q⟩ ∧ e.dmemGet n.val a = d.greg n.val (iB (d.fetch n.val)) ∧
      (∀ (j : Fin 144) (b : Fin 2048), j ≠ n ∨ b.val ≠ a → e.dmemGet j.val b.val = d.dmemGet j.val b.val) ∧
      (∀ r, e.greg n.val r = d.greg n.val r) ∧ e.lpc n.val = (d.lpc n.val + 1) % 1024 ∧
      (∀ j, j ≠ n.val → e.leng j = d.leng j) ∧ { e with lengs := d.lengs, regs := d.regs, dmem := d.dmem } = d

/-- A read of RD_LO takes the next word of the queue that RD_SEL names, for that master alone. With a word at the read point: the answer is the word;
the master's RD_HI shows the first and last word of the packet; every other queue and every other master's RD_HI stay; inside a packet the read
point moves on by one word; at its last word a normal queue without a mark frees it; SRAM and frame store stay. (R373, R375) -/
def Obligations.QueueReadFrame : Prop :=
  ∀ (d : Dev) (q : List Instr) (m : Master) (p : QPkt) (w : Word) (bad : Bool),
    let k := d.rdB .qmg m.val .QMG_RD_SEL_QUEUE
    d.stopped = false → d.permits m.val 6 false = true → d.readPoint k = some (p, (w, bad)) →
    ∃ e : Dev, exec (.rdLoRead m) ⟨d, q⟩ = .next ⟨e, q⟩ ∧ e.respOf m.val = ⟨.okay, [w]⟩ ∧
      (e.reg (regKey .qmg m.val 0x058)).getLsbD 2 = decide ((d.queue k).rdw = 0) ∧
      (e.reg (regKey .qmg m.val 0x058)).getLsbD 3 = decide ((d.queue k).rdw + 1 = p.words.length) ∧
      (∀ j, j ≠ k → e.queue j = d.queue j) ∧ (∀ j : Master, j ≠ m → e.reg (regKey .qmg j.val 0x058) = d.reg (regKey .qmg j.val 0x058)) ∧
      ((d.queue k).rdw + 1 < p.words.length → (e.queue k).pkts = (d.queue k).pkts ∧ (e.queue k).rdw = (d.queue k).rdw + 1) ∧
      ((d.queue k).rdw + 1 = p.words.length → d.isRing k = false → (d.queue k).mark = none →
        (e.queue k).pkts = (d.queue k).pkts.eraseIdx (d.queue k).rd) ∧
      e.sram = d.sram ∧ e.mem = d.mem

/-- Writes of GPIO_DIR, GPIO_OUT, SLICE, INTC.CFG and the DMA pointers change that register alone. For each of these commands with the write
admitted: the answer is OKAY, the register holds the value written, and every other register and all else but what the access itself counts stay;
of INTC.CFG, where no source holds an event, since a change of MODE may make a waiting source wake a core (R394). (R5, R19, R54, R361) -/
def Obligations.StoredRegisterFrame : Prop :=
  ∀ (d : Dev) (q : List Instr) (m : Master) (v : Word) (c : Instr) (p : Page) (off : Nat),
    (c, p, off) ∈ [(Instr.gpioWrite m true v, Page.dev, 0x030), (.gpioWrite m false v, .dev, 0x034), (.sliceWrite m v, .mtx, 0x024), (.intcCfgWrite m v, .intc, 0x020),
      (.dmaPointerWrite m 0 false v, .qmg, 0x108), (.dmaPointerWrite m 0 true v, .qmg, 0x10C)] →
    d.admits m.val p off v = true → (c = .intcCfgWrite m v → d.intc.srcs = []) → ∃ e : Dev, exec c ⟨d, q⟩ = .next ⟨e, q⟩ ∧ e.respOf m.val = ⟨.okay, []⟩ ∧
      e.reg (d.pageKey m.val p off) &&& (regAt p off).elim 0 RegD.bits = v ∧ d.Keeps [d.pageKey m.val p off] e ∧ e.intc = d.intc

/-- What reset leaves: no event, no enable, no lock, engines STOPPED, lanes OFF, no interrupt, no packet. In State.reset the core domains run; DEV.ID
reads 0x4C147200; every page's PAGE_EVT and PAGE_EVT_EN are 0, its expert half closed, LOCK and RESET_BUSY 0; line engines STOPPED, SDI lanes OFF
both ways, Wall A accepted, no interrupt pending or in service, queues empty, no lock and no reservation, counters 0. That it is the state after
a finished power-on sequence is the model's (log entry 7). (R5, R336, R367) -/
def Obligations.ResetLeavesTheBlockIdle : Prop :=
  let d := State.reset.dev
  d.stopped = false ∧ d.xo = 0 ∧ d.reg (regKey .dev 0 0x020) = 0x4C147200#32 ∧
    (∀ p : Page, p.exists = true → d.reg (regKey p 0 0x010) = 0 ∧ d.reg (regKey p 0 0x014) = 0 ∧ d.expertOpen p = false ∧
      d.on p .PAGE_CTRL_LOCK = false ∧ d.on p .PAGE_STAT_RESET_BUSY = false) ∧
    (∀ n : Fin 144, d.lengState n.val = 0 ∧ d.rd (.lane n.val) .LANE_RXCFG_MODE = 0 ∧ d.rd (.lane n.val) .LANE_TXCFG_MODE = 0) ∧
    d.gateWall = some 0 ∧ (∀ k, (d.src k).count = 0 ∧ (d.src k).insvc = none) ∧ (∀ k, (d.queue k).pkts = []) ∧
    d.mtx.locks = [] ∧ (∀ m, Map.get (fun _ => 0) d.mtx.reserve m = 0) ∧ (∀ n, d.pmcCount n = 0)

/-- Register pages and DEV: each command completes with the next state written out, where its conditions hold. The state after each command is
written out, so whatever it does not change stays. Conditions are on the state and the operands alone. (R5, R14, R15, R17, R54, R62, R64, R70) -/
def Obligations.PageCommandsComplete : Prop :=
  ∀ (d : Dev) (q : List Instr),
    -- REGISTER_WRITE (R19)
    (∀ (m : Master) (p : Page) (w : Fin 1024) (v : Word), 8 ≤ w.val → d.admits m.val p (4 * w.val) v = true → exec (.registerWrite m p w 15 v) ⟨d, q⟩ = .next ⟨((d.stored m.val p (4 * w.val) v).pageAfter m.val p (4 * w.val) ((d.passed m.val).pageFmt p) (d.held m.val p (4 * w.val)) v).okay m.val, q⟩) ∧
    -- EXPERT_KEY_WRITE (R14)
    (∀ (m : Master) (p : Page) (v : Word), Fld.PAGE_CTRL_SOFT_RESET.get v = 0 → d.admits m.val p 0x008 v = true → exec (.expertKeyWrite m p v) ⟨d, q⟩ = .next ⟨(((d.stored m.val p 0x008 v).pageAfter m.val p 0x008 ((d.passed m.val).pageFmt p) (d.held m.val p 0x008) v).keyed p v).okay m.val, q⟩) ∧
    -- EXPERT_TIMEOUT (R15)
    (∀ (p : Page), d.stopped = false → d.expertOpen p = true → exec (.expertTimeout p) ⟨d, q⟩ = .next ⟨(d.wr p .PAGE_CTRL_EXPERT_KEY 0).setEvt p 1, q⟩) ∧
    -- SOFT_RESET (R17)
    (∀ (m : Master) (p : Page) (rest : Word), d.admits m.val p 0x008 (rest ||| 2) = true → exec (.softReset m p rest) ⟨d, q⟩ = .next ⟨(((d.stored m.val p 0x008 (rest ||| 2)).keyed p (rest ||| 2)).blockReset p).okay m.val, q⟩) ∧
    -- BLOCK_RESET_DONE (R17)
    (∀ (p : Page), d.stopped = false → p ≠ .intc → p ≠ .pwr → p ≠ .tmu → p ≠ .fab → d.on p .PAGE_STAT_RESET_BUSY = true → exec (.blockResetDone p) ⟨d, q⟩ = .next ⟨d.wrOn p .PAGE_STAT_RESET_BUSY false, q⟩) ∧
    -- BLOCK_RESET_DONE (R17)
    (d.stopped = false → d.on .intc .PAGE_STAT_RESET_BUSY = true → exec (.blockResetDone .intc) ⟨d, q⟩ = .next ⟨(d.wrOn .intc .PAGE_STAT_RESET_BUSY false).intcRelevel, q⟩) ∧
    -- BLOCK_RESET_DONE (R17)
    (d.stopped = false → d.on .pwr .PAGE_STAT_RESET_BUSY = true → exec (.blockResetDone .pwr) ⟨d, q⟩ = .next ⟨(d.wrOn .pwr .PAGE_STAT_RESET_BUSY false).deferSettle, q⟩) ∧
    -- BLOCK_RESET_DONE (R17)
    (d.stopped = false → d.on .tmu .PAGE_STAT_RESET_BUSY = true → exec (.blockResetDone .tmu) ⟨d, q⟩ = .next ⟨(d.wrOn .tmu .PAGE_STAT_RESET_BUSY false).tmuEval.alarmSettle, q⟩) ∧
    -- BLOCK_RESET_DONE (R17)
    (d.stopped = false → d.on .fab .PAGE_STAT_RESET_BUSY = true → exec (.blockResetDone .fab) ⟨d, q⟩ = .next ⟨(d.wrOn .fab .PAGE_STAT_RESET_BUSY false).gensSettle.outSettle, q⟩) ∧
    -- GPIO_WRITE (R54)
    (∀ (m : Master) (v : Word), d.admits m.val .dev 0x030 v = true → exec (.gpioWrite m true v) ⟨d, q⟩ = .next ⟨(d.stored m.val .dev 0x030 v).okay m.val, q⟩) ∧
    -- GPIO_WRITE (R54)
    (∀ (m : Master) (v : Word), d.admits m.val .dev 0x034 v = true → exec (.gpioWrite m false v) ⟨d, q⟩ = .next ⟨(d.stored m.val .dev 0x034 v).okay m.val, q⟩) ∧
    -- MARGIN_WINDOW_END (R62)
    (∀ (n0 n1 n2 n3 n4 n5 : Nat) (f : Dev), d.stopped = false → f = [n0, n1, n2, n3, n4, n5].zipIdx.foldl (fun (e : Dev) (x : Nat × Nat) => (e.wr .dev (Fld.nth .DEV_MARGIN_NOW x.2) (min x.1 511)).wr .dev (Fld.nth .DEV_MARGIN_MIN x.2) (min (min x.1 511) (e.rd .dev (Fld.nth .DEV_MARGIN_MIN x.2)))) d → [0, 1, 2, 3].any (fun n => f.rd .dev (Fld.nth .DEV_MARGIN_NOW n) < f.rd .dev .DEV_MARGIN_CFG_WARN_LEVEL) = true → exec (.marginWindowEnd n0 n1 n2 n3 n4 n5) ⟨d, q⟩ = .next ⟨({ f with fabMargin := true, marginRun := 0 } : Dev).setEvtIf (!f.fabMargin) .dev 8, q⟩) ∧
    -- MIN_CLR (R62)
    (∀ (m : Master) (n : Fin 6), d.admits m.val .dev (0x040 + 4 * n.val) 0x80000000 = true → exec (.minClr m n) ⟨d, q⟩ = .next ⟨((d.stored m.val .dev (0x040 + 4 * n.val) 0x80000000).wr .dev (Fld.nth .DEV_MARGIN_MIN n.val) 0x1FF).okay m.val, q⟩) ∧
    -- HANDSHAKE_WATCHDOG_EXPIRY (R64)
    (∀ (w : Fin 2), d.stopped = false → exec (.handshakeWatchdogExpiry (.wall w)) ⟨d, q⟩ = .next ⟨(((d.inc .dev .DEV_WDOG_CNT_DATA).setEvt .dev 9).diag w.val .watchdog).outSettle.dataSettle, q⟩) ∧
    -- HANDSHAKE_WATCHDOG_EXPIRY (R64)
    (d.stopped = false → exec (.handshakeWatchdogExpiry .ingress) ⟨d, q⟩ = .next ⟨(d.inc .dev .DEV_WDOG_CNT_DATA).setEvt .dev 9, q⟩) ∧
    -- HANDSHAKE_WATCHDOG_EXPIRY (R64)
    (d.stopped = false → exec (.handshakeWatchdogExpiry .egress) ⟨d, q⟩ = .next ⟨(d.inc .dev .DEV_WDOG_CNT_DATA).setEvt .dev 9, q⟩) ∧
    -- HANDSHAKE_WATCHDOG_EXPIRY (R64)
    (∀ (n : Fin 144), d.stopped = false → d.lengState n.val = 1 → iOp (d.fetch n.val) ≠ 0x19 → exec (.handshakeWatchdogExpiry (.lineEngine n)) ⟨d, q⟩ = .next ⟨((d.inc .dev .DEV_WDOG_CNT_MGMT).setEvt .dev 10).lengWatchdog n.val, q⟩) ∧
    -- HANDSHAKE_WATCHDOG_EXPIRY (R64)
    (∀ (i : Master) (isWrite : Bool) (addr : Nat), d.stopped = false → d.stallOf i.val = none → exec (.handshakeWatchdogExpiry (.management i isWrite addr)) ⟨d, q⟩ = .next ⟨((d.inc .dev .DEV_WDOG_CNT_MGMT).setEvt .dev 10).timeoutErr i.val (targetAt addr) addr isWrite false, q⟩) ∧
    -- WDOG_CLR (R64)
    (∀ (m : Master), d.admits m.val .dev 0x06C 1 = true → exec (.wdogClr m) ⟨d, q⟩ = .next ⟨((d.stored m.val .dev 0x06C 1).setReg (regKey .dev 0 0x068) 0).okay m.val, q⟩) ∧
    -- XO_TIME_LO_READ (R70)
    (∀ (m : Master), d.stopped = false → d.permits m.val 6 false = true → exec (.xoTimeLoRead m) ⟨d, q⟩ = .next ⟨((d.passed m.val).wr .dev .DEV_XO_TIME_HI_HI (d.xo.toNat / 2 ^ 32)).respond m.val ⟨.okay, [BitVec.ofNat 32 d.xo.toNat]⟩, q⟩)

/-- Device and commanded resets and their ends: each completes with the next state written out, where its conditions hold. The state after each
command is written out, so whatever it does not change stays. Conditions are on the state and the operands alone. (R46, R47, R48, R408, R409,
R410, R411, R412, R420) -/
def Obligations.ResetCommandsComplete : Prop :=
  ∀ (d : Dev) (q : List Instr),
    -- PIN_RESET (R46)
    (d.pwr.run = .none → exec (.pinReset .resetN) ⟨d, q⟩ = .next ⟨(({ d with pwr := { d.pwr with seen := [], active := [] } } : Dev).pinClear.deferSettle).causeAdd 1 true, q⟩) ∧
    -- PIN_RESET (R46)
    (d.pwr.run = .none → exec (.pinReset .supply) ⟨d, q⟩ = .next ⟨(({ d with pwr := { d.pwr with seen := [], active := [] } } : Dev).pinClear.deferSettle).causeAdd 2 (!d.pwr.warn.isEmpty), q⟩) ∧
    -- PIN_RESET (R46)
    (d.pwr.run = .none → exec (.pinReset .thermal) ⟨d, q⟩ = .next ⟨(({ d with pwr := { d.pwr with seen := [], active := [] } } : Dev).pinClear.deferSettle).causeAdd 3 true, q⟩) ∧
    -- PIN_RESET (R46)
    (d.pwr.run = .none → exec (.pinReset .soft) ⟨d, q⟩ = .next ⟨(({ d with pwr := { d.pwr with seen := [], active := [] } } : Dev).pinClear.deferSettle).causeAdd 4 false, q⟩) ∧
    -- PIN_RESET (R46)
    (d.pwr.run ≠ .none → exec (.pinReset .resetN) ⟨d, q⟩ = .next ⟨d.causeAdd 1 true, q⟩) ∧
    -- POWER_ON_RESET (R420)
    (exec (.powerOnReset) ⟨d, q⟩ = .next ⟨(({ d.pinClear with regs := [], jtag := {}, pwr := { run := .powerOn, xoOk := false, warn := d.pwr.warn, seen := d.pwr.seen, active := d.pwr.active } } : Dev).deferSettle).causeAdd 0 (!d.pwr.warn.isEmpty), q⟩) ∧
    -- XO_CHECK_DONE (R48)
    (d.pwr.run ≠ .none → d.pwr.active = [] → exec (.xoCheckDone) ⟨d, q⟩ = .next ⟨{ d with pwr := { d.pwr with xoOk := true } }, q⟩) ∧
    -- XO_CHECK_DONE (R48)
    (d.pwr.run = .none → d.pwr.waking = true → exec (.xoCheckDone) ⟨d, q⟩ = .next ⟨d.wakeDone, q⟩) ∧
    -- RESET_SEQUENCE_END (R420)
    (∀ (b : Fin 4), d.pwr.run ≠ .none → d.pwr.active = [] → d.pwr.xoOk = true → exec (.resetSequenceEnd b) ⟨d, q⟩ = .next ⟨(let e := ((d.wr .dev .DEV_STRAP_BOOTMODE b.val).wr .aon .AON_RESET_CAUSE_CAUSE (causeOf d.pwr.seen)).wrOn .aon .AON_RESET_CAUSE_WOKE false; (({ e with pwr := { e.pwr with run := .none, seen := [] }, boot := { e.boot with due := true } } : Dev).supSettle.intcRelevel)), q⟩) ∧
    -- RESET_N_RISE (R46)
    (exec (.resetNRise) ⟨d, q⟩ = .next ⟨{ d with pwr := { d.pwr with active := d.pwr.active.filter (· != 1) } }, q⟩) ∧
    -- MGMT_RESET (R408)
    (∀ (m : Master), d.admits m.val .pwr 0x024 1 = true → exec (.mgmtReset m) ⟨d, q⟩ = .next ⟨((((d.stored m.val .pwr 0x024 1).wr .pwr .PWR_RST_STAT_LAST 1).wrOn .pwr .PWR_RST_STAT_BUSY true).mgmtReset).okay m.val, q⟩) ∧
    -- DATA_RESET (R408)
    (∀ (m : Master), d.admits m.val .pwr 0x024 2 = true → exec (.dataReset m) ⟨d, q⟩ = .next ⟨((((d.stored m.val .pwr 0x024 2).wr .pwr .PWR_RST_STAT_LAST 2).wrOn .pwr .PWR_RST_STAT_BUSY true).dataReset).okay m.val, q⟩) ∧
    -- TIMING_RESET (R408)
    (∀ (m : Master), d.admits m.val .pwr 0x024 3 = true → exec (.timingReset m) ⟨d, q⟩ = .next ⟨((((d.stored m.val .pwr 0x024 3).wr .pwr .PWR_RST_STAT_LAST 3).wrOn .pwr .PWR_RST_STAT_BUSY true).timingReset).okay m.val, q⟩) ∧
    -- FULL (R409)
    (∀ (m : Master), d.admits m.val .pwr 0x024 4 = true → exec (.full m) ⟨d, q⟩ = .next ⟨((d.stored m.val .pwr 0x024 4).pinReset 4 false).okay m.val, q⟩) ∧
    -- RESET_COMPLETE (R410)
    (d.stopped = false → d.on .pwr .PWR_RST_STAT_BUSY = true → d.rd .pwr .PWR_RST_STAT_LAST = 1 → exec (.resetComplete) ⟨d, q⟩ = .next ⟨((d.wrOn .pwr .PWR_RST_STAT_BUSY false).intcRelevel).coresSettle, q⟩) ∧
    -- RESET_COMPLETE (R410)
    (d.stopped = false → d.on .pwr .PWR_RST_STAT_BUSY = true → d.rd .pwr .PWR_RST_STAT_LAST = 2 → exec (.resetComplete) ⟨d, q⟩ = .next ⟨((d.wrOn .pwr .PWR_RST_STAT_BUSY false).lanesRestart).coresSettle, q⟩) ∧
    -- RESET_COMPLETE (R410)
    (d.stopped = false → d.on .pwr .PWR_RST_STAT_BUSY = true → d.rd .pwr .PWR_RST_STAT_LAST ≠ 1 → d.rd .pwr .PWR_RST_STAT_LAST ≠ 2 → exec (.resetComplete) ⟨d, q⟩ = .next ⟨(d.wrOn .pwr .PWR_RST_STAT_BUSY false).coresSettle, q⟩) ∧
    -- CORE_RUN_WRITE (R412)
    (∀ (m : Master) (v : Word), d.admits m.val .pwr 0x02C v = true → Fld.PWR_CORE_CTL_RESET.get v = 0 → exec (.coreRunWrite m v) ⟨d, q⟩ = .next ⟨((d.stored m.val .pwr 0x02C v).coresSettle.wakeSettle).okay m.val, q⟩) ∧
    -- CORE_SLEEP (R412)
    (∀ (m : Master) (v : Word), d.admits m.val .pwr 0x02C v = true → Fld.PWR_CORE_CTL_RESET.get v = 0 → exec (.coreSleep m v) ⟨d, q⟩ = .next ⟨((d.stored m.val .pwr 0x02C v).coresSettle.wakeSettle).okay m.val, q⟩) ∧
    -- CORE_RESET (R412)
    (∀ (m : Master) (c : Fin 4) (rest : Word), let v : Word := rest ||| BitVec.ofNat 32 (2 ^ (4 + c.val)); d.admits m.val .pwr 0x02C v = true → exec (.coreReset m c rest) ⟨d, q⟩ = .next ⟨((([0, 1, 2, 3].filter (fun (k : Nat) => (Fld.PWR_CORE_CTL_RESET.get v).testBit k)).foldl (fun (e : Dev) (k : Nat) => (e.coreReset k).coreSettle k) (d.stored m.val .pwr 0x02C v).coresSettle).wakeSettle).okay m.val, q⟩)

/-- Power states, supplies, temperature, wake timer and brownout log: each command completes with the next state written out, where its conditions
hold. The state after each command is written out, so whatever it does not change stays. Conditions are on the state and the operands alone.
(R415, R417, R418, R422, R423, R424, R425, R426, R454) -/
def Obligations.PowerCommandsComplete : Prop :=
  ∀ (d : Dev) (q : List Instr),
    -- STANDBY (R416)
    (∀ (m : Master), d.admits m.val .pwr 0x020 1 = true → (d.stored m.val .pwr 0x020 1).rd .pwr .PWR_STATE_CUR ≠ 1 → exec (.standby m) ⟨d, q⟩ = .next ⟨((d.stored m.val .pwr 0x020 1).wrOn .pwr .PWR_STATE_BUSY true).okay m.val, q⟩) ∧
    -- DORMANT (R417)
    (∀ (m : Master), d.admits m.val .pwr 0x020 2 = true → (d.stored m.val .pwr 0x020 2).rd .pwr .PWR_STATE_CUR ≠ 2 → exec (.dormant m) ⟨d, q⟩ = .next ⟨((d.stored m.val .pwr 0x020 2).wrOn .pwr .PWR_STATE_BUSY true).okay m.val, q⟩) ∧
    -- ACTIVE (R416)
    (∀ (m : Master), d.admits m.val .pwr 0x020 0 = true → (d.stored m.val .pwr 0x020 0).rd .pwr .PWR_STATE_CUR ≠ 0 → exec (.active m) ⟨d, q⟩ = .next ⟨((d.stored m.val .pwr 0x020 0).wrOn .pwr .PWR_STATE_BUSY true).memcsWake.okay m.val, q⟩) ∧
    -- STATE_DONE (R415)
    (d.stopped = false → d.on .pwr .PWR_STATE_BUSY = true → d.rd .pwr .PWR_STATE_REQ = 0 → d.memcsReady = true → exec (.stateDone) ⟨d, q⟩ = .next ⟨(d.activeEnter.wrOn .pwr .PWR_STATE_BUSY false).setEvt .pwr 8, q⟩) ∧
    -- STATE_DONE (R415)
    (d.stopped = false → d.on .pwr .PWR_STATE_BUSY = true → d.rd .pwr .PWR_STATE_REQ = 1 → exec (.stateDone) ⟨d, q⟩ = .next ⟨((d.standbyEnter).wrOn .pwr .PWR_STATE_BUSY false).setEvt .pwr 8, q⟩) ∧
    -- STATE_DONE (R415)
    (d.stopped = false → d.on .pwr .PWR_STATE_BUSY = true → d.rd .pwr .PWR_STATE_REQ = 2 → exec (.stateDone) ⟨d, q⟩ = .next ⟨((d.dormantEnter).wrOn .pwr .PWR_STATE_BUSY false).setEvt .pwr 8, q⟩) ∧
    -- DORMANT_WAKE (R418)
    (∀ (k : Fin 512) (ticks : Nat), d.pwr.run = .none → d.pwr.waking = false → d.rd .pwr .PWR_STATE_CUR = 2 → wakeSource k.val = true → d.watched k.val = true → exec (.dormantWake k ticks) ⟨d, q⟩ = .next ⟨(let e := d.timerRebase ticks; (({ e with xo := 0, pwr := { e.pwr with waking := true, xoOk := false } } : Dev).wr .aon .AON_RESET_CAUSE_WAKE_SRC k.val).wrOn .aon .AON_RESET_CAUSE_WOKE true), q⟩) ∧
    -- RAIL_WARNING_ENTER (R423)
    (∀ (r : Fin 8) (steps : Nat), d.pwr.warn.contains r.val = false → let e : Dev := ({ d with pwr := { d.pwr with warn := d.pwr.warn ++ [r.val] } } : Dev).logOpen r.val (5 * steps); exec (.railWarningEnter r steps) ⟨d, q⟩ = .next ⟨(if d.stopped then e else (e.inc .pwr .PWR_SUP_CNT_WARNS).addEvent 267).deferSettle, q⟩) ∧
    -- RAIL_WARNING_LEAVE (R423)
    (∀ (r : Fin 8) (steps us : Nat), d.pwr.warn.contains r.val = true → let e : Dev := ({ d with pwr := { d.pwr with warn := d.pwr.warn.filter (· != r.val) } } : Dev).logClose r.val (5 * steps) us; let f : Dev := (if d.stopped then e else e.setEvt .pwr 9); exec (.railWarningLeave r steps us) ⟨d, q⟩ = .next ⟨(if (d.pwr.warn.filter (· != r.val)).isEmpty then (f.causeEnd 2).causeEnd 0 else f).supSettle, q⟩) ∧
    -- RAIL_RESET_LEVEL (R422)
    (∀ (r : Fin 8), d.pwr.warn.contains r.val = true → let e : Dev := (match d.openEntry r.val with | some i => d.wrOn .aon (logFld .AON_LOG_A_RESET i) true | none => d); exec (.railResetLevel r) ⟨d, q⟩ = .next ⟨(if r.val = 6 then e.porReset else e.pinReset 2 true), q⟩) ∧
    -- DEFER_END (R424)
    (d.deferring = true → d.dipNow = false → d.stopped = false → exec (.deferEnd) ⟨d, q⟩ = .next ⟨(((d.deferFinish.swapRearm).supSettle).inc .pwr .PWR_SUP_CNT_DEFERS).setEvt .pwr 10, q⟩) ∧
    -- DEFER_END (R424)
    (d.deferring = true → d.dipNow = false → d.stopped = true → exec (.deferEnd) ⟨d, q⟩ = .next ⟨({ d with deferring := false } : Dev).supSettle, q⟩) ∧
    -- TEMP_READING (R426)
    (∀ (t : Int), d.stopped = true → t < 400 → exec (.tempReading t) ⟨d, q⟩ = .next ⟨({ d with pwr := { d.pwr with hot := decide (500 ≤ t) } } : Dev).causeEnd 3, q⟩) ∧
    -- TEMP_READING (R426)
    (∀ (t : Int), d.stopped = false → ¬ (d.rd .pwr .PWR_TEMP_CFG_WARN : Int) * 4 ≤ t → t < ((d.rd .pwr .PWR_TEMP_CFG_WARN : Int) - 5) * 4 → exec (.tempReading t) ⟨d, q⟩ = .next ⟨(let e := ({ d with pwr := { d.pwr with hot := decide (500 ≤ t) } } : Dev).wr .pwr .PWR_TEMP_MAX (t % 4096).toNat; ({ e with pwr := { e.pwr with tempWarn := false } } : Dev)), q⟩) ∧
    -- TEMP_READING (R426)
    (∀ (t : Int), d.stopped = false → (d.rd .pwr .PWR_TEMP_CFG_WARN : Int) * 4 ≤ t → exec (.tempReading t) ⟨d, q⟩ = .next ⟨(let e := ({ d with pwr := { d.pwr with hot := decide (500 ≤ t) } } : Dev).wr .pwr .PWR_TEMP_MAX (t % 4096).toNat; ({ e with pwr := { e.pwr with tempWarn := true } } : Dev).setEvtIf (!d.pwr.tempWarn) .pwr 11), q⟩) ∧
    -- THERMAL_SHUTDOWN (R426)
    (d.pwr.hot = true → d.stopped = false → exec (.thermalShutdown) ⟨d, q⟩ = .next ⟨d.pinReset 3 true, q⟩) ∧
    -- WAKE_TIMER_WRITE (R454)
    (∀ (m : Master) (v : Word), d.admits m.val .aon 0x030 v = true → (d.stored m.val .aon 0x030 v).on .aon .AON_WAKE_TIMER_ENABLE = true → exec (.wakeTimerWrite m v) ⟨d, q⟩ = .next ⟨({ d.stored m.val .aon 0x030 v with free := (d.stored m.val .aon 0x030 v).free + 1, pwr := { (d.stored m.val .aon 0x030 v).pwr with timerAt := (d.stored m.val .aon 0x030 v).xo.toNat, timerPhase := (Config.freeValue 32 (d.stored m.val .aon 0x030 v).free).toNat % 40000000 } } : Dev).okay m.val, q⟩) ∧
    -- WAKE_TIMER_WRITE (R454)
    (∀ (m : Master) (v : Word), d.admits m.val .aon 0x030 v = true → (d.stored m.val .aon 0x030 v).on .aon .AON_WAKE_TIMER_ENABLE = false → exec (.wakeTimerWrite m v) ⟨d, q⟩ = .next ⟨(d.stored m.val .aon 0x030 v).okay m.val, q⟩) ∧
    -- WAKE_TIMER_EXPIRY (R454)
    (d.on .aon .AON_WAKE_TIMER_ENABLE = true → exec (.wakeTimerExpiry) ⟨d, q⟩ = .next ⟨((d.wr .aon .AON_WAKE_TIMER_TICKS 0).wrOn .aon .AON_WAKE_TIMER_ENABLE false).setEvt .aon 8, q⟩) ∧
    -- LOG_CTL_CLR (R425)
    (∀ (m : Master), d.admits m.val .aon 0x038 1 = true → exec (.logCtlClr m) ⟨d, q⟩ = .next ⟨((d.stored m.val .aon 0x038 1).logClr).okay m.val, q⟩)

/-- SDI lanes and receivers: each command or event completes with the next state written out, where its conditions hold. The state after each command
is written out, so whatever it does not change stays. Conditions are on the state and the operands alone. (R76, R85, R86, R88, R89, R91, R92,
R137, R246) -/
def Obligations.LaneCommandsComplete : Prop :=
  ∀ (d : Dev) (q : List Instr),
    -- TXCFG_WRITE (R75)
    (∀ (m : Master) (n : Fin 144) (v : Word), d.admits m.val (.lane n.val) 0x024 v = true → exec (.txcfgWrite m n v) ⟨d, q⟩ = .next ⟨(((d.stored m.val (.lane n.val) 0x024 v).txcfgApply n.val (d.held m.val (.lane n.val) 0x024) v).followTake n.val).txFollow.okay m.val, q⟩) ∧
    -- SYNTHESISER_LOCK (R76)
    (∀ (u : Fin 40) (k : Fin 3) (t : Nat), d.stopped = false → u.val < 36 → k.val < 2 → (d.pll (2 * u.val + k.val)).src = .dom t → (d.pll (2 * u.val + k.val)).lock = false → d.domFmt t ≠ 0 → exec (.synthesiserLock u k) ⟨d, q⟩ = .next ⟨((d.setPll (2 * u.val + k.val) { d.pll (2 * u.val + k.val) with lock := true }).txStart u.val k.val).txFollow, q⟩) ∧
    -- SYNTHESISER_LOCK (R76)
    (∀ (u : Fin 40) (k : Fin 3) (f : Nat), d.stopped = false → u.val < 36 → k.val < 2 → (d.pll (2 * u.val + k.val)).src = .follow f → (d.pll (2 * u.val + k.val)).lock = false → d.rxState f = 3 → d.frmFmt f ≠ 0 → exec (.synthesiserLock u k) ⟨d, q⟩ = .next ⟨((d.setPll (2 * u.val + k.val) { d.pll (2 * u.val + k.val) with lock := true }).txStart u.val k.val).txFollow, q⟩) ∧
    -- SYNTHESISER_LOCK (R76)
    (∀ (u : Fin 40) (k : Fin 3), d.stopped = false → (36 ≤ u.val ∨ k.val = 2) → exec (.synthesiserLock u k) ⟨d, q⟩ = .next ⟨(d.txStart u.val k.val).txFollow, q⟩) ∧
    -- RXCFG_WRITE (R88)
    (∀ (m : Master) (n : Fin 144) (v : Word), d.admits m.val (.lane n.val) 0x020 v = true → exec (.rxcfgWrite m n v) ⟨d, q⟩ = .next ⟨(((d.stored m.val (.lane n.val) 0x020 v).rxcfgApply n.val (d.held m.val (.lane n.val) 0x020) v).rxSettle n.val).okay m.val, q⟩) ∧
    -- LANE_ENABLE_WRITE (R89)
    (∀ (m : Master) (n : Fin 144) (v : Word), d.admits m.val (.lane n.val) 0x008 v = true → Fld.PAGE_CTRL_SOFT_RESET.get v = 0 → Fld.PAGE_CTRL_ENABLE.get (d.held m.val (.lane n.val) 0x008) ≠ Fld.PAGE_CTRL_ENABLE.get v → exec (.laneEnableWrite m n v) ⟨d, q⟩ = .next ⟨((((d.stored m.val (.lane n.val) 0x008 v).laneEnable n.val).rxSettle n.val).txFollow.keyed (.lane n.val) v).okay m.val, q⟩) ∧
    -- LOS_SET (R86)
    (∀ (l : RxId), d.stopped = false → d.rxState l.val ≠ 0 → d.los l.val = false → exec (.losSet l) ⟨d, q⟩ = .next ⟨(let e := (d.rxWr l.val .LANE_LSTAT_LOS .TLL_LSTAT_LOS 1).rxWr l.val .LANE_LSTAT_LOL .TLL_LSTAT_LOL 0; let e := (e.setLane l.val { e.lane l.val with cdrHeld := false }).rxEvt l.val 8; (((if d.rxState l.val = 5 then e else (if d.isAuto l.val then e.detLost l.val else e).setRx l.val 1).framerSettle l.val).rxDone l.val)), q⟩) ∧
    -- LOS_CLEAR (R86)
    (∀ (l : RxId), d.stopped = false → d.rxState l.val = 1 → d.los l.val = true → exec (.losClear l) ⟨d, q⟩ = .next ⟨(((((d.rxWr l.val .LANE_LSTAT_LOS .TLL_LSTAT_LOS 0).rxEvt l.val 9).setRx l.val (if d.rxTest l.val then 5 else if d.isAuto l.val then 4 else 2)).framerSettle l.val).rxDone l.val), q⟩) ∧
    -- LOL_SET (R86)
    (∀ (l : RxId), d.stopped = false → d.rxState l.val ≠ 0 → d.los l.val = false → exec (.lolSet l) ⟨d, q⟩ = .next ⟨(let e := (d.rxWr l.val .LANE_LSTAT_LOL .TLL_LSTAT_LOL 1).setLane l.val { d.lane l.val with cdrHeld := false }; (((if d.rxState l.val ≠ 3 then e else if d.isAuto l.val then (e.detLost l.val).setRx l.val 4 else e.setRx l.val 2).framerSettle l.val).rxDone l.val)), q⟩) ∧
    -- CDR_LOCK (R85)
    (∀ (l : RxId), d.stopped = false → d.rxState l.val = 2 → d.los l.val = false → exec (.cdrLock l) ⟨d, q⟩ = .next ⟨(((((d.rxWr l.val .LANE_LSTAT_LOL .TLL_LSTAT_LOL 0).setLane l.val { d.lane l.val with cdrHeld := true }).setRx l.val 3).framerSettle l.val).rxDone l.val), q⟩) ∧
    -- CDR_RESTART (R85)
    (∀ (l : RxId), d.stopped = false → d.rxState l.val = 2 → d.lol l.val = true → exec (.cdrRestart l) ⟨d, q⟩ = .next ⟨d.setLane l.val { d.lane l.val with cdrHeld := false }, q⟩) ∧
    -- AUTO_CANDIDATE_TIMEOUT (R83)
    (∀ (n : Fin 144), d.stopped = false → d.rxState n.val = 4 → exec (.autoCandidateTimeout n) ⟨d, q⟩ = .next ⟨(d.setLane n.val { d.lane n.val with cand := ((d.lane n.val).cand + 1) % 5, cdrHeld := false }).rxDone n.val, q⟩) ∧
    -- TESTCTL_INJECT (R91)
    (∀ (m : Master) (l : RxId), d.admits m.val (rxPage l.val) 0x034 1 = true → (d.stored m.val (rxPage l.val) 0x034 1).testSends l.val = true → exec (.testctlInject m l) ⟨d, q⟩ = .next ⟨(let e := d.stored m.val (rxPage l.val) 0x034 1; e.setLane l.val { e.lane l.val with gen := { (e.lane l.val).gen with invert := (e.lane l.val).gen.invert + 1 } }).okay m.val, q⟩) ∧
    -- TESTCTL_INJECT (R91)
    (∀ (m : Master) (l : RxId), d.admits m.val (rxPage l.val) 0x034 1 = true → (d.stored m.val (rxPage l.val) 0x034 1).testSends l.val = false → exec (.testctlInject m l) ⟨d, q⟩ = .next ⟨(d.stored m.val (rxPage l.val) 0x034 1).okay m.val, q⟩) ∧
    -- TESTCTL_CNT_CLR (R91)
    (∀ (m : Master) (l : RxId), d.admits m.val (rxPage l.val) 0x034 2 = true → exec (.testctlCntClr m l) ⟨d, q⟩ = .next ⟨((d.stored m.val (rxPage l.val) 0x034 2).rxWr l.val .LANE_TESTCNT_COUNT .TLL_TESTCNT_COUNT 0).okay m.val, q⟩) ∧
    -- TEST_CHECKER_LOCK_CHANGE (R91)
    (∀ (l : RxId) (levels : List Bool), d.stopped = false → let e : Dev := d.testSend l.val levels.length; e.checking l.val = true → exec (.testCheckerLockChange l levels) ⟨d, q⟩ = .next ⟨(polarity (e.rxRd l.val .LANE_RXCFG_POL_INV .TLL_CFG_RX_POL_INV == 1) (if e.rxRd l.val .LANE_LOOPBACK_X_NEAR_END .TLL_LOOPBACK_X_NEAR_END == 1 then (e.lane l.val).gen.sent else levels)).foldl (fun (f : Dev) b => f.checkBit l.val b) e, q⟩) ∧
    -- LOF_TIMER (R246)
    (∀ (l : RxId), d.stopped = false → exec (.lofTimer l) ⟨d, q⟩ = .next ⟨((((if d.delivers l.val then d.setPm l.val { d.pmOf l.val with lofRaw := false } else if d.rxState l.val = 3 ∨ d.rxState l.val = 4 then d.setPm l.val { d.pmOf l.val with lofRaw := true } else d).defSettle l.val).protSettle).rxDone l.val), q⟩) ∧
    -- FOLLOW_ROUTE_SWITCH (R137)
    (∀ (n : Fin 144) (f : Nat), d.stopped = false → (d.lane n.val).routeNext = some f → exec (.followRouteSwitch n) ⟨d, q⟩ = .next ⟨((d.setLane n.val { d.lane n.val with route := some f, routeNext := none, txAuto := 0 }).followTake n.val).txFollow, q⟩)

/-- SDI, MADI and ASI framers: each event completes with the next state written out, where its conditions hold. The state after each command is
written out, so whatever it does not change stays. Conditions are on the state and the operands alone. (R97, R98, R99, R100, R101, R104, R110,
R111, R112, R113, R114) -/
def Obligations.FramerCommandsComplete : Prop :=
  ∀ (d : Dev) (q : List Instr),
    -- TRS_RECEIVED (R97)
    (∀ (n : Fin 144) (word : Nat) (bit : Fin 10) (lead trs : List Bool) (offset : Int) (line1 : Bool) (s : Nat), d.stopped = false → let pos : Nat := 10 * word + bit.val; let levels : List Bool := lead ++ trs; modeSdi (d.rd (.lane n.val) .LANE_RXCFG_MODE) = true → let x : Dev × List Bool := d.decodeSdi n.val levels; d.eavStreams n.val x.2 = some s → d.frmState n.val = 1 → (x.1.framer n.val).verify = none → (x.1.framer n.val).cands.findIdx? (fun z => (z.advances (lensFor (x.1.huntModes n.val) s) pos s).isSome) = none → (x.1.framer n.val).cands.length < 4 → exec (.trsReceived n word bit lead trs offset line1) ⟨d, q⟩ = .next ⟨(x.1.setCands n.val ((x.1.framer n.val).cands ++ [(⟨pos, 1, none, s⟩ : Cand)])).rxDone n.val, q⟩) ∧
    -- TRS_RECEIVED (R97)
    (∀ (n : Fin 144) (word : Nat) (bit : Fin 10) (lead trs : List Bool) (offset : Int) (line1 : Bool) (s k : Nat), d.stopped = false → let pos : Nat := 10 * word + bit.val; let levels : List Bool := lead ++ trs; modeSdi (d.rd (.lane n.val) .LANE_RXCFG_MODE) = true → let x : Dev × List Bool := d.decodeSdi n.val levels; d.eavStreams n.val x.2 = some s → d.frmState n.val = 1 → (x.1.framer n.val).verify = none → (x.1.framer n.val).cands.findIdx? (fun z => (z.advances (lensFor (x.1.huntModes n.val) s) pos s).isSome) = some k → let c : Cand := (x.1.framer n.val).cands.getD k ⟨0, 0, none, 0⟩; c.count + 1 ≠ 3 → exec (.trsReceived n word bit lead trs offset line1) ⟨d, q⟩ = .next ⟨(x.1.setCands n.val ((x.1.framer n.val).cands.set k (⟨pos, c.count + 1, c.advances (lensFor (x.1.huntModes n.val) s) pos s, c.streams⟩ : Cand))).rxDone n.val, q⟩) ∧
    -- TRS_RECEIVED (R97)
    (∀ (n : Fin 144) (word : Nat) (bit : Fin 10) (lead trs : List Bool) (offset : Int) (line1 : Bool) (s k : Nat), d.stopped = false → let pos : Nat := 10 * word + bit.val; let levels : List Bool := lead ++ trs; modeSdi (d.rd (.lane n.val) .LANE_RXCFG_MODE) = true → let x : Dev × List Bool := d.decodeSdi n.val levels; d.eavStreams n.val x.2 = some s → d.frmState n.val = 1 → (x.1.framer n.val).verify = none → (x.1.framer n.val).cands.findIdx? (fun z => (z.advances (lensFor (x.1.huntModes n.val) s) pos s).isSome) = some k → let c : Cand := (x.1.framer n.val).cands.getD k ⟨0, 0, none, 0⟩; c.count = 2 → let y : Cand := (⟨pos, 3, c.advances (lensFor (x.1.huntModes n.val) s) pos s, c.streams⟩ : Cand); let e : Dev := x.1.setCands n.val ((x.1.framer n.val).cands.set k y); exec (.trsReceived n word bit lead trs offset line1) ⟨d, q⟩ = .next ⟨((e.setFramer n.val { e.framer n.val with verify := some y }).setFrm n.val 2).rxDone n.val, q⟩) ∧
    -- TRS_RECEIVED (R97)
    (∀ (n : Fin 144) (word : Nat) (bit : Fin 10) (lead trs : List Bool) (offset : Int) (line1 : Bool) (s len : Nat) (c : Cand), d.stopped = false → let pos : Nat := 10 * word + bit.val; let levels : List Bool := lead ++ trs; modeSdi (d.rd (.lane n.val) .LANE_RXCFG_MODE) = true → let x : Dev × List Bool := d.decodeSdi n.val levels; d.eavStreams n.val x.2 = some s → d.frmState n.val = 2 → (x.1.framer n.val).verify = some c → c.advances [] pos s = some len → exec (.trsReceived n word bit lead trs offset line1) ⟨d, q⟩ = .next ⟨(x.1.lineSync n.val pos len s offset line1).rxDone n.val, q⟩) ∧
    -- TRS_RECEIVED (R97)
    (∀ (n : Fin 144) (word : Nat) (bit : Fin 10) (lead trs : List Bool) (offset : Int) (line1 : Bool) (w : Word10), d.stopped = false → let pos : Nat := 10 * word + bit.val; let levels : List Bool := lead ++ trs; modeSdi (d.rd (.lane n.val) .LANE_RXCFG_MODE) = true → (d.frmState n.val = 3 ∨ d.frmState n.val = 4) → d.rxMode n.val ≠ 4 → let x : Dev × List Bool := d.decodeSdi n.val levels; let i : FramerI := x.1.framer n.val; trsOf i.streams (lastWords i.streams x.2) = some w → w.getLsbD 6 = true → pos = i.lastEav + i.lineLen * (i.streams * 10) → exec (.trsReceived n word bit lead trs offset line1) ⟨d, q⟩ = .next ⟨(x.1.setFramer n.val { i with lastEav := pos, missing := 0 }).rxDone n.val, q⟩) ∧
    -- TRS_RECEIVED (R97)
    (∀ (n : Fin 144) (word : Nat) (bit : Fin 10) (lead trs : List Bool) (offset : Int) (line1 : Bool) (w : Word10) (o : Nat), d.stopped = false → let pos : Nat := 10 * word + bit.val; let levels : List Bool := lead ++ trs; modeSdi (d.rd (.lane n.val) .LANE_RXCFG_MODE) = true → (d.frmState n.val = 3 ∨ d.frmState n.val = 4) → d.rxMode n.val ≠ 4 → let x : Dev × List Bool := d.decodeSdi n.val levels; let i : FramerI := x.1.framer n.val; trsOf i.streams (lastWords i.streams x.2) = some w → w.getLsbD 6 = false → i.savOff = some o → pos = i.lastEav + o * (i.streams * 10) → exec (.trsReceived n word bit lead trs offset line1) ⟨d, q⟩ = .next ⟨(x.1.setFramer n.val { i with missing := 0 }).rxDone n.val, q⟩) ∧
    -- CANDIDATE_EXPIRY (R98)
    (∀ (n : Fin 144) (k : Fin 4), d.stopped = false → exec (.candidateExpiry n k) ⟨d, q⟩ = .next ⟨((d.setFramer n.val { d.framer n.val with cands := (d.framer n.val).cands.eraseIdx k.val }).wr (.lane n.val) .LANE_FRMSTAT_CAND ((d.framer n.val).cands.eraseIdx k.val).length), q⟩) ∧
    -- VERIFY_EAV_MISSING (R99)
    (∀ (n : Fin 144), d.stopped = false → d.frmState n.val = 2 → modeSdi (d.rd (.lane n.val) .LANE_RXCFG_MODE) = true → let e : Dev := d.setCands n.val []; exec (.verifyEavMissing n) ⟨d, q⟩ = .next ⟨((e.setFramer n.val { e.framer n.val with verify := none }).setFrm n.val 1).rxDone n.val, q⟩) ∧
    -- EXPECTED_TRS_MISSING (R101)
    (∀ (n : Fin 144) (eav : Bool), d.stopped = false → modeSdi (d.rd (.lane n.val) .LANE_RXCFG_MODE) = true → (d.frmState n.val = 3 ∨ d.frmState n.val = 4) → let i : FramerI := d.framer n.val; let e : Dev := (d.inc (.lane n.val) .LANE_TRSERR_COUNT).setFramer n.val { i with missing := i.missing + 1, lastEav := if eav then i.lastEav + i.lineLen * i.streams * 10 else i.lastEav }; i.missing + 1 < d.rd (.lane n.val) .LANE_FRM_X_LOSS_TRS → exec (.expectedTrsMissing n eav false) ⟨d, q⟩ = .next ⟨e.rxDone n.val, q⟩) ∧
    -- EXPECTED_TRS_MISSING (R101)
    (∀ (n : Fin 144) (eav : Bool), d.stopped = false → modeSdi (d.rd (.lane n.val) .LANE_RXCFG_MODE) = true → (d.frmState n.val = 3 ∨ d.frmState n.val = 4) → let i : FramerI := d.framer n.val; let e : Dev := (d.inc (.lane n.val) .LANE_TRSERR_COUNT).setFramer n.val { i with missing := i.missing + 1, lastEav := if eav then i.lastEav + i.lineLen * i.streams * 10 else i.lastEav }; d.rd (.lane n.val) .LANE_FRM_X_LOSS_TRS ≤ i.missing + 1 → exec (.expectedTrsMissing n eav false) ⟨d, q⟩ = .next ⟨(e.frmLoss n.val 1).rxDone n.val, q⟩) ∧
    -- EXPECTED_TRS_MISSING (R101)
    (∀ (n : Fin 144) (eav : Bool), d.stopped = false → modeSdi (d.rd (.lane n.val) .LANE_RXCFG_MODE) = true → (d.frmState n.val = 3 ∨ d.frmState n.val = 4) → let i : FramerI := d.framer n.val; let e : Dev := (d.inc (.lane n.val) .LANE_TRSERR_COUNT).setFramer n.val { i with s2missing := i.s2missing + 1, s2ok := if eav then 0 else i.s2ok }; exec (.expectedTrsMissing n eav true) ⟨d, q⟩ = .next ⟨(if d.rd (.lane n.val) .LANE_FRM_X_LOSS_TRS ≤ i.s2missing + 1 ∧ d.rxMode n.val = 4 then (e.wrOn (.lane n.val) .LANE_FRMSTAT_S2_LOSS true).laneSettle n.val else e).rxDone n.val, q⟩) ∧
    -- FRAME_COMPLETE (R104)
    (∀ (n : Fin 144) (offset skew : Int), d.stopped = false → modeSdi (d.rd (.lane n.val) .LANE_RXCFG_MODE) = true → (d.frmState n.val = 3 ∨ d.frmState n.val = 4) → let e : Dev := ((d.wr (.lane n.val) .LANE_FRMLINES_BOND_SKEW (field16 skew)).skewSettle n.val).showFreq n.val offset; (e.framer n.val).inFrame = false → exec (.frameComplete n ⟨offset, skew⟩) ⟨d, q⟩ = .next ⟨((e.setFramer n.val { e.framer n.val with inFrame := true, lineNo := 1, fieldMoved := false, savOff := none, family := nearFamily (e.isSd n.val) offset }).laneSettle n.val).rxDone n.val, q⟩) ∧
    -- FRAME_COMPLETE (R104)
    (∀ (n : Fin 144) (offset skew : Int), d.stopped = false → modeSdi (d.rd (.lane n.val) .LANE_RXCFG_MODE) = true → let e : Dev := ((d.wr (.lane n.val) .LANE_FRMLINES_BOND_SKEW (field16 skew)).skewSettle n.val).showFreq n.val offset; (e.framer n.val).inFrame = true → e.frmState n.val = 3 → let m : Nat × Bool × Nat := e.frameMeasured n.val; let code : Option Nat := identify (e.rxMode n.val) (e.framer n.val).streams (e.framer n.val).lineLen m.2.2 m.1 m.2.1 (nearFamily (e.isSd n.val) offset); let f : Dev := (e.frameShow n.val m).frameNamed n.val (if (e.frameShow n.val m).familyNear n.val offset then code else none); exec (.frameComplete n ⟨offset, skew⟩) ⟨d, q⟩ = .next ⟨((f.setFramer n.val { f.framer n.val with inFrame := true, lineNo := 1, fieldMoved := false, savOff := none, family := nearFamily (f.isSd n.val) offset }).laneSettle n.val).rxDone n.val, q⟩) ∧
    -- FRAME_COMPLETE (R104)
    (∀ (n : Fin 144) (offset skew : Int), d.stopped = false → modeSdi (d.rd (.lane n.val) .LANE_RXCFG_MODE) = true → let e : Dev := ((d.wr (.lane n.val) .LANE_FRMLINES_BOND_SKEW (field16 skew)).skewSettle n.val).showFreq n.val offset; (e.framer n.val).inFrame = true → e.frmState n.val = 4 → let m : Nat × Bool × Nat := e.frameMeasured n.val; let f : Dev := (e.frameShow n.val m).frameWatched n.val (e.framer n.val).departing ((e.frameShow n.val m).frameDeparts n.val m); exec (.frameComplete n ⟨offset, skew⟩) ⟨d, q⟩ = .next ⟨((f.setFramer n.val { f.framer n.val with inFrame := true, lineNo := 1, fieldMoved := false, savOff := none, family := nearFamily (f.isSd n.val) offset }).laneSettle n.val).rxDone n.val, q⟩) ∧
    -- LINE_RECEIVED (R109)
    (∀ (n : Fin 144) (x : LineRx) (items : List LateItem), d.stopped = false → modeSdi (d.rd (.lane n.val) .LANE_RXCFG_MODE) = true → (d.frmState n.val = 3 ∨ d.frmState n.val = 4) → let act : List (List Word10) := x.active.zipIdx.map (fun (e : List Word10 × Nat) => blankWords (d.framer n.val).vspans (d.rxMode n.val == 1) e.2 e.1); let f : Dev := d.lineReceived n.val x act; exec (.lineReceived n x items) ⟨d, q⟩ = .next ⟨(((List.range (modeTiles (f.rxMode n.val))).foldl (fun (e : Dev) k => let e' := match (e.tile (laneTile n.val k)).lines with | l :: _ => if e.tileFramed (laneTile n.val k) && l.line == (d.framer n.val).lineNo then e.fsLine (laneTile n.val k) (d.framer n.val).lineNo l.bricks (writeLate items (laneTile n.val k)) else e | [] => e; e'.setTile (laneTile n.val k) (e'.tile (laneTile n.val k)).nextLine) (f.setFramer n.val { f.framer n.val with vspans := [] })).routeLine n.val (d.framer n.val).lineNo items).rxDone n.val, q⟩) ∧
    -- EDH_FIELD_CHECK (R110)
    (∀ (n : Fin 144) (ap ff : List Word10), d.stopped = false → d.rxMode n.val = 1 → (d.frmState n.val = 3 ∨ d.frmState n.val = 4) → d.on (.lane n.val) .LANE_FRMCFG_EDH_CHECK = true → let e : Dev := d.wrOn (.lane n.val) .LANE_FRMSTAT_EDH_ABSENT true; let f : Dev := e.setPm n.val { e.pmOf n.val with units := (e.pmOf n.val).units + 1 }; exec (.edhFieldCheck n false ap ff) ⟨d, q⟩ = .next ⟨(f.setFramer n.val { f.framer n.val with fieldBad := false }).rxDone n.val, q⟩) ∧
    -- EDH_FIELD_CHECK (R110)
    (∀ (n : Fin 144) (ap ff : List Word10), d.stopped = false → let udw : List Word10 := ap ++ ff; d.rxMode n.val = 1 → (d.frmState n.val = 3 ∨ d.frmState n.val = 4) → d.on (.lane n.val) .LANE_FRMCFG_EDH_CHECK = true → (d.framer n.val).edhAgrees udw = true → let e : Dev := d.wrOn (.lane n.val) .LANE_FRMSTAT_EDH_ABSENT false; let f : Dev := e.setPm n.val { e.pmOf n.val with units := (e.pmOf n.val).units + 1 }; exec (.edhFieldCheck n true ap ff) ⟨d, q⟩ = .next ⟨(f.setFramer n.val { f.framer n.val with fieldBad := false }).rxDone n.val, q⟩) ∧
    -- EDH_FIELD_CHECK (R110)
    (∀ (n : Fin 144) (ap ff : List Word10), d.stopped = false → let udw : List Word10 := ap ++ ff; d.rxMode n.val = 1 → (d.frmState n.val = 3 ∨ d.frmState n.val = 4) → d.on (.lane n.val) .LANE_FRMCFG_EDH_CHECK = true → (d.framer n.val).edhAgrees udw = false → let e : Dev := (d.wrOn (.lane n.val) .LANE_FRMSTAT_EDH_ABSENT false).inc (.lane n.val) .LANE_LINEERR_COUNT; let f : Dev := e.setPm n.val { e.pmOf n.val with units := (e.pmOf n.val).units + 1, err := (e.pmOf n.val).err + 1 }; exec (.edhFieldCheck n true ap ff) ⟨d, q⟩ = .next ⟨(f.setFramer n.val { f.framer n.val with fieldBad := true }).rxDone n.val, q⟩) ∧
    -- EDH_FIELD_CHECK (R110)
    (∀ (n : Fin 144) (present : Bool) (ap ff : List Word10), d.stopped = false → d.rxMode n.val = 1 → (d.frmState n.val = 3 ∨ d.frmState n.val = 4) → d.on (.lane n.val) .LANE_FRMCFG_EDH_CHECK = false → let e : Dev := d; let f : Dev := e.setPm n.val { e.pmOf n.val with units := (e.pmOf n.val).units + 1 }; exec (.edhFieldCheck n present ap ff) ⟨d, q⟩ = .next ⟨(f.setFramer n.val { f.framer n.val with fieldBad := false }).rxDone n.val, q⟩) ∧
    -- PID_PACKET_RECEIVED (R111)
    (∀ (n : Fin 144) (line : Nat) (words : List Word10), d.stopped = false → d.delivers n.val = true → modeSdi (d.rxMode n.val) = true → d.on (.lane n.val) .LANE_FRMCFG_PID_CHECK = true → pidLine (d.frmFmt n.val) line = true → (words.length ≠ 8 ∨ words.drop 7 ≠ [checksumWord (words.take 7)]) → exec (.pidPacketReceived n false line words) ⟨d, q⟩ = .next ⟨(d.inc (.lane n.val) .LANE_LNERR_PID_CSUM).rxDone n.val, q⟩) ∧
    -- PID_PACKET_RECEIVED (R111)
    (∀ (n : Fin 144) (line : Nat) (words : List Word10), d.stopped = false → d.delivers n.val = true → modeSdi (d.rxMode n.val) = true → d.on (.lane n.val) .LANE_FRMCFG_PID_CHECK = true → pidLine (d.frmFmt n.val) line = true → words.length = 8 → words.drop 7 = [checksumWord (words.take 7)] → (d.rxBond n.val).length ≤ 1 → exec (.pidPacketReceived n false line words) ⟨d, q⟩ = .next ⟨(((d.wr (.lane n.val) .LANE_PID1_BYTES (pidBytes words).toNat).wrOn (.lane n.val) .LANE_FRMSTAT_PID_ABSENT false).pidCompare n.val (pidBytes words)).rxDone n.val, q⟩) ∧
    -- PID_PACKET_RECEIVED (R111)
    (∀ (n : Fin 144) (line : Nat) (words : List Word10), d.stopped = false → d.delivers n.val = true → modeSdi (d.rxMode n.val) = true → d.on (.lane n.val) .LANE_FRMCFG_PID_CHECK = true → pidLine (d.frmFmt n.val) line = true → d.rxMode n.val = 4 → words.length = 8 → words.drop 7 = [checksumWord (words.take 7)] → (d.rxBond n.val).length ≤ 1 → exec (.pidPacketReceived n true line words) ⟨d, q⟩ = .next ⟨(((d.wr (.lane n.val) .LANE_PID2_BYTES (pidBytes words).toNat).wrOn (.lane n.val) .LANE_FRMSTAT_PID_ABSENT false).pidCompare n.val (pidBytes words)).rxDone n.val, q⟩) ∧
    -- FRMCTL_CNT_CLR (R101)
    (∀ (m : Master) (n : Fin 144), d.admits m.val (.lane n.val) 0x088 1 = true → exec (.frmctlCntClr m n) ⟨d, q⟩ = .next ⟨((((((d.stored m.val (.lane n.val) 0x088 1).setReg (regKey (.lane n.val) 0 0x070) 0).setReg (regKey (.lane n.val) 0 0x074) 0).setReg (regKey (.lane n.val) 0 0x078) 0).setReg (regKey (.lane n.val) 0 0x07C) 0)).okay m.val, q⟩) ∧
    -- MADI_SYNC_SYMBOL (R112)
    (∀ (n : Fin 144) (p : Fin 5) (gap : Nat), d.stopped = false → d.isMadi n.val = true → d.frmState n.val = 1 → let i : FramerI := d.framer n.val; let run : Nat := (if i.syncRun ≠ 0 ∧ i.syncPhase = p.val ∧ gap % 8 = 0 then i.syncRun + 1 else 1); run < 3 → exec (.madiSyncSymbol n p gap) ⟨d, q⟩ = .next ⟨(d.setFramer n.val { i with syncRun := run, syncPhase := p.val, subCount := 0, indTimes := [], spacing := 0, badLast := [] }).rxDone n.val, q⟩) ∧
    -- MADI_SYNC_SYMBOL (R112)
    (∀ (n : Fin 144) (p : Fin 5) (gap : Nat), d.stopped = false → d.isMadi n.val = true → d.frmState n.val = 1 → let i : FramerI := d.framer n.val; i.syncRun = 2 → i.syncPhase = p.val → gap % 8 = 0 → exec (.madiSyncSymbol n p gap) ⟨d, q⟩ = .next ⟨((d.setFramer n.val { i with syncRun := 0, syncPhase := p.val, subCount := 0, indTimes := [], spacing := 0, badLast := [] }).setFrm n.val 2).rxDone n.val, q⟩) ∧
    -- MADI_SUBFRAME (R113)
    (∀ (n : Fin 144) (ind parityOk : Bool) (sample : Word) (valid : List Bool) (time : Nat) (sub : Fin 16), d.stopped = false → d.isMadi n.val = true → d.frmState n.val = 4 → let e : Dev := d.madiCodes n.val valid; e.frmState n.val = 4 → let f : Dev := e.madiPlace n.val ind; f.frmState n.val = 4 → let g : Dev := (if parityOk then f else f.madiParity n.val); let h : Dev := g.madiSample n.val (g.framer n.val).subCount sub.val (sample &&& 0xFFFFFFFC#32); exec (.madiSubframe n ind parityOk sample valid time sub) ⟨d, q⟩ = .next ⟨(h.setFramer n.val { h.framer n.val with subCount := (h.framer n.val).subCount + 1 }).rxDone n.val, q⟩) ∧
    -- MADI_SUBFRAME (R113)
    (∀ (n : Fin 144) (ind parityOk : Bool) (sample : Word) (valid : List Bool) (time : Nat) (sub : Fin 16), d.stopped = false → d.isMadi n.val = true → d.frmState n.val = 2 → let e : Dev := (if ind then d.madiHunt n.val time else d); e.frmState n.val = 2 → exec (.madiSubframe n ind parityOk sample valid time sub) ⟨d, q⟩ = .next ⟨(e.setFramer n.val { e.framer n.val with subCount := (e.framer n.val).subCount + 1 }).rxDone n.val, q⟩) ∧
    -- MADI_SYNC_TIMEOUT (R113)
    (∀ (n : Fin 144), d.stopped = false → d.isMadi n.val = true → d.frmState n.val = 4 → exec (.madiSyncTimeout n) ⟨d, q⟩ = .next ⟨((d.setFramer n.val { d.framer n.val with syncRun := 0 }).frmLoss n.val 1).rxDone n.val, q⟩) ∧
    -- ASI_CHARACTER (R114)
    (∀ (n : Fin 144) (p : Fin 10), d.stopped = false → d.isAsi n.val = true → d.frmState n.val = 1 → exec (.asiCharacter n (.comma p)) ⟨d, q⟩ = .next ⟨((d.setFramer n.val { d.framer n.val with commaPhase := some p.val, badLast := [], pktRun := 0 }).setFrm n.val 2).rxDone n.val, q⟩) ∧
    -- ASI_CHARACTER (R114)
    (∀ (n : Fin 144) (b : Byte), d.stopped = false → d.isAsi n.val = true → d.frmState n.val ≠ 1 → let last : List Bool := (true :: (d.framer n.val).badLast).take 64; (last.filter (fun y => !y)).length < 16 → exec (.asiCharacter n (.data b)) ⟨d, q⟩ = .next ⟨(d.setFramer n.val { d.framer n.val with badLast := last }).rxDone n.val, q⟩) ∧
    -- ASI_CHARACTER (R114)
    (∀ (n : Fin 144), d.stopped = false → d.isAsi n.val = true → d.frmState n.val ≠ 1 → let last : List Bool := (false :: (d.framer n.val).badLast).take 64; (last.filter (fun y => !y)).length < 16 → exec (.asiCharacter n .invalid) ⟨d, q⟩ = .next ⟨((d.inc (.lane n.val) .LANE_TRSERR_COUNT).setFramer n.val { d.framer n.val with badLast := last }).rxDone n.val, q⟩) ∧
    -- ASI_CHARACTER (R114)
    (∀ (n : Fin 144), d.stopped = false → d.isAsi n.val = true → d.frmState n.val ≠ 1 → 16 ≤ (((false :: (d.framer n.val).badLast).take 64).filter (fun y => !y)).length → exec (.asiCharacter n .invalid) ⟨d, q⟩ = .next ⟨(((((d.inc (.lane n.val) .LANE_TRSERR_COUNT).setFramer n.val { d.framer n.val with badLast := [], commaPhase := none, pktRun := 0, pktMissing := 0 }).frmLoss n.val 1).dataSettle).rxDone n.val), q⟩) ∧
    -- ASI_SYNC_BYTE (R114)
    (∀ (n : Fin 144) (spacing : Nat) (packet : List Byte), d.stopped = false → d.isAsi n.val = true → d.frmState n.val = 4 → let e : Dev := d.setPm n.val { d.pmOf n.val with units := (d.pmOf n.val).units + 1 }; exec (.asiSyncByte n true spacing packet) ⟨d, q⟩ = .next ⟨((e.setFramer n.val { d.framer n.val with pktMissing := 0 }).asiPacket n.val packet).rxDone n.val, q⟩) ∧
    -- ASI_SYNC_BYTE (R114)
    (∀ (n : Fin 144) (spacing : Nat) (packet : List Byte), d.stopped = false → d.isAsi n.val = true → d.frmState n.val = 4 → let e : Dev := d.setPm n.val { d.pmOf n.val with units := (d.pmOf n.val).units + 1, err := (d.pmOf n.val).err + 1 }; (d.framer n.val).pktMissing + 1 < 4 → exec (.asiSyncByte n false spacing packet) ⟨d, q⟩ = .next ⟨((e.inc (.lane n.val) .LANE_LINEERR_COUNT).setFramer n.val { d.framer n.val with pktMissing := (d.framer n.val).pktMissing + 1 }).rxDone n.val, q⟩) ∧
    -- ASI_SYNC_BYTE (R114)
    (∀ (n : Fin 144) (spacing : Nat) (packet : List Byte), d.stopped = false → d.isAsi n.val = true → d.frmState n.val = 4 → let e : Dev := d.setPm n.val { d.pmOf n.val with units := (d.pmOf n.val).units + 1, err := (d.pmOf n.val).err + 1 }; 4 ≤ (d.framer n.val).pktMissing + 1 → exec (.asiSyncByte n false spacing packet) ⟨d, q⟩ = .next ⟨((((e.inc (.lane n.val) .LANE_LINEERR_COUNT).setFramer n.val { d.framer n.val with pktMissing := 0, pktRun := 0 }).frmLoss n.val 2).dataSettle).rxDone n.val, q⟩) ∧
    -- ASI_SYNC_BYTE (R114)
    (∀ (n : Fin 144) (spacing : Nat) (packet : List Byte), d.stopped = false → d.isAsi n.val = true → d.frmState n.val = 2 → (d.asiAdmits n.val spacing = false ∨ (d.framer n.val).pktRun = 0) → exec (.asiSyncByte n true spacing packet) ⟨d, q⟩ = .next ⟨(d.setFramer n.val { d.framer n.val with pktRun := 1, pktSpacing := spacing, pktMissing := 0 }).rxDone n.val, q⟩) ∧
    -- ASI_SYNC_BYTE (R114)
    (∀ (n : Fin 144) (spacing : Nat) (packet : List Byte), d.stopped = false → d.isAsi n.val = true → d.frmState n.val = 2 → d.asiAdmits n.val spacing = true → (d.framer n.val).pktRun = 2 → spacing = (d.framer n.val).pktSpacing → let e : Dev := d.setFramer n.val { d.framer n.val with pktRun := 3, pktMissing := 0 }; exec (.asiSyncByte n true spacing packet) ⟨d, q⟩ = .next ⟨(((((e.setFrm n.val 4).wr (.lane n.val) .LANE_FRMSTAT_SUBFMT (if spacing = 188 then 1 else 2)).setEvt (.lane n.val) 12).asiSettle n.val).asiPacket n.val packet).rxDone n.val, q⟩)

/-- Tile Link lanes: each command or event completes with the next state written out, where its conditions hold. The state after each command is
written out, so whatever it does not change stays. Conditions are on the state and the operands alone. (R115, R116, R228, R229, R230, R231, R232,
R233, R235, R239, R244) -/
def Obligations.TileLinkCommandsComplete : Prop :=
  ∀ (d : Dev) (q : List Instr),
    -- TL_BLOCK_RECEIVED (R115)
    (∀ (n : Fin 16) (lo hi : BitVec 66) (sub : Fin 16) (late : Bool), d.stopped = false → let bits : BitVec 132 := hi ++ lo; d.frmState (144 + n.val) ≠ 0 → let i : FramerI := d.framer (144 + n.val); let sync : BitVec 2 := (bits >>> i.phase).extractLsb' 0 2; d.on (.tll n.val) .TLL_FRMSTAT_BLOCK_LOCK = false → (sync == 0b01 || sync == 0b10) = true → i.hdrRun + 1 < 64 → exec (.tlBlockReceived n lo hi sub late) ⟨d, q⟩ = .next ⟨(d.setFramer (144 + n.val) { i with hdrRun := i.hdrRun + 1 }).tlSettle n.val, q⟩) ∧
    -- TL_BLOCK_RECEIVED (R115)
    (∀ (n : Fin 16) (lo hi : BitVec 66) (sub : Fin 16) (late : Bool), d.stopped = false → let bits : BitVec 132 := hi ++ lo; d.frmState (144 + n.val) ≠ 0 → let i : FramerI := d.framer (144 + n.val); let sync : BitVec 2 := (bits >>> i.phase).extractLsb' 0 2; d.on (.tll n.val) .TLL_FRMSTAT_BLOCK_LOCK = false → (sync == 0b01 || sync == 0b10) = false → exec (.tlBlockReceived n lo hi sub late) ⟨d, q⟩ = .next ⟨((d.inc (.tll n.val) .TLL_HDRERR_COUNT).setFramer (144 + n.val) { i with hdrRun := 0, phase := (i.phase + 1) % 66 }).tlSettle n.val, q⟩) ∧
    -- TL_BLOCK_RECEIVED (R115)
    (∀ (n : Fin 16) (lo hi : BitVec 66) (sub : Fin 16) (late : Bool), d.stopped = false → let bits : BitVec 132 := hi ++ lo; d.frmState (144 + n.val) ≠ 0 → let i : FramerI := d.framer (144 + n.val); let sync : BitVec 2 := (bits >>> i.phase).extractLsb' 0 2; d.on (.tll n.val) .TLL_FRMSTAT_BLOCK_LOCK = false → (sync == 0b01 || sync == 0b10) = true → i.hdrRun + 1 = 64 → let e : Dev := ((d.setFramer (144 + n.val) { i with hdrRun := 0, hdrLast := [] }).wr (.tll n.val) .TLL_FRMSTAT_BLOCK_LOCK 1).tlHunt n.val; let j : FramerI := e.framer (144 + n.val); let x : BitVec 64 × BitVec 58 := descramble j.scram ((bits >>> i.phase).extractLsb' 2 64); let f : Dev := e.setFramer (144 + n.val) { j with scram := x.2, blockIdx := (j.blockIdx + 1) % tlFrameBlocks }; let g : Dev := f.setTlr n.val { f.tlr n.val with sync := sync, block := x.1, pos := j.blockIdx }; exec (.tlBlockReceived n lo hi sub late) ⟨d, q⟩ = .next ⟨g.tlSettle n.val, q⟩) ∧
    -- TL_BLOCK_RECEIVED (R115)
    (∀ (n : Fin 16) (lo hi : BitVec 66) (sub : Fin 16) (late : Bool), d.stopped = false → let bits : BitVec 132 := hi ++ lo; d.frmState (144 + n.val) ≠ 0 → let i : FramerI := d.framer (144 + n.val); let sync : BitVec 2 := (bits >>> i.phase).extractLsb' 0 2; d.frmState (144 + n.val) = 4 → d.on (.tll n.val) .TLL_FRMSTAT_BLOCK_LOCK = true → let e : Dev := d.tlHeader n.val (sync == 0b01 || sync == 0b10); e.on (.tll n.val) .TLL_FRMSTAT_BLOCK_LOCK = true → let j : FramerI := e.framer (144 + n.val); let x : BitVec 64 × BitVec 58 := descramble j.scram ((bits >>> i.phase).extractLsb' 2 64); let f : Dev := e.setFramer (144 + n.val) { j with scram := x.2, blockIdx := (j.blockIdx + 1) % tlFrameBlocks }; let g : Dev := f.setTlr n.val { f.tlr n.val with sync := sync, block := x.1, pos := j.blockIdx }; exec (.tlBlockReceived n lo hi sub late) ⟨d, q⟩ = .next ⟨(if g.delivers (144 + n.val) then g.tlData n.val j.blockIdx sub.val late x.1 else g).tlSettle n.val, q⟩) ∧
    -- TL_ROW_OVERHEAD (R227)
    (∀ (n : Fin 16), d.stopped = false → d.frmState (144 + n.val) = 2 → isMarker (d.tlr n.val).sync (d.tlr n.val).block = true → exec (.tlRowOverhead n) ⟨d, q⟩ = .next ⟨((d.setFrm (144 + n.val) 3).setFramer (144 + n.val) { d.framer (144 + n.val) with markerRun := 1, markerMiss := 0, rowBad := 0, blockIdx := 1 }).tlSettle n.val, q⟩) ∧
    -- TL_ROW_OVERHEAD (R227)
    (∀ (n : Fin 16), d.stopped = false → d.frmState (144 + n.val) = 3 → (d.tlr n.val).pos = 0 → isMarker (d.tlr n.val).sync (d.tlr n.val).block = true → (d.framer (144 + n.val)).markerRun = 2 → exec (.tlRowOverhead n) ⟨d, q⟩ = .next ⟨(d.tlSync n.val).tlSettle n.val, q⟩) ∧
    -- TL_ROW_OVERHEAD (R227)
    (∀ (n : Fin 16), d.stopped = false → d.frmState (144 + n.val) = 4 → (d.tlr n.val).pos % 402 = 0 → exec (.tlRowOverhead n) ⟨d, q⟩ = .next ⟨(d.tlSyncRow n.val ((d.tlr n.val).pos / 402)).tlSettle n.val, q⟩) ∧
    -- TL_BIP_RECEIVED (R228)
    (∀ (n : Fin 16) (b : BitVec 32), d.stopped = false → d.tlAt n.val 2 = true → (d.tlr n.val).bipPrev = some b → let k : Nat := bitCount (BitVec.ofNat 32 (blockByte (d.tlr n.val).block 1 * 2 ^ 24 + blockByte (d.tlr n.val).block 2 * 2 ^ 16 + blockByte (d.tlr n.val).block 3 * 2 ^ 8 + blockByte (d.tlr n.val).block 4) ^^^ b); exec (.tlBipReceived n) ⟨d, q⟩ = .next ⟨(let e := (d.add (.tll n.val) .TLL_BIPCNT_COUNT k).setTlr n.val { d.tlr n.val with rei := k, bipPrev := none }; let u := e.pmOf (144 + n.val); e.setPm (144 + n.val) { u with units := u.units + 1, err := if k == 0 then u.err else u.err + 1 }), q⟩) ∧
    -- TL_SRQ_RECEIVED (R229)
    (∀ (n : Fin 16), d.stopped = false → d.tlAt n.val 3 = true → (d.tlr n.val).rowOk = true → let x : Nat := blockByte (d.tlr n.val).block 1 * 256 + blockByte (d.tlr n.val).block 2; (d.tlr n.val).srqPrev = [some x, some x] → exec (.tlSrqReceived n) ⟨d, q⟩ = .next ⟨(let p : Page := .tll n.val; let e := (d.wr p .TLL_OH_RX_SRQ1_RAW (x / 256)).wr p .TLL_OH_RX_SRQ2_RAW (x % 256); let e := e.setTlr n.val { d.tlr n.val with srqPrev := [some x, some x], srqRun := 0 }; let ch := e.rd p .TLL_OH_RX_SRQ1_ACC != x / 256 || e.rd p .TLL_OH_RX_SRQ2_ACC != x % 256; let e := ((e.wr p .TLL_OH_RX_SRQ1_ACC (x / 256)).wr p .TLL_OH_RX_SRQ2_ACC (x % 256)).wrOn p .TLL_OH_STAT_SRQ_FAIL false; ((e.setEvtIf ch p 27).tlSettle n.val).tlSettle n.val), q⟩) ∧
    -- TL_RDI_REI_RECEIVED (R230)
    (∀ (n : Fin 16), d.stopped = false → d.tlAt n.val 4 = true → let r : TlRxI := d.tlr n.val; let rdi : Bool := (blockByte r.block 1 % 2 == 1); let run : Nat := (if rdi = r.rdiLast then r.rdiRun + 1 else 1); let e : Dev := (d.setTlr n.val { r with rdiLast := rdi, rdiRun := run }).add (.tll n.val) .TLL_REICNT_COUNT (blockByte r.block 2); exec (.tlRdiReiReceived n) ⟨d, q⟩ = .next ⟨(if 3 ≤ run ∧ e.on (.tll n.val) .TLL_OH_STAT_RDI_RX ≠ rdi then ((e.wrOn (.tll n.val) .TLL_OH_STAT_RDI_RX rdi).setEvtIf rdi (.tll n.val) 26).tlSettle n.val else e).tlSettle n.val, q⟩) ∧
    -- TL_TRACE_RECEIVED (R231)
    (∀ (n : Fin 16), d.stopped = false → d.tlAt n.val 1 = true → let x : Nat := (List.range 7).foldl (fun a i => a * 256 + blockByte (d.tlr n.val).block (i + 1)) 0; let run : Nat := (if x = (d.tlr n.val).trace ∧ (d.tlr n.val).traceRun ≠ 0 then (d.tlr n.val).traceRun + 1 else 1); run < 3 → exec (.tlTraceReceived n) ⟨d, q⟩ = .next ⟨(d.setTlr n.val { d.tlr n.val with trace := x, traceRun := run }).tlSettle n.val, q⟩) ∧
    -- TL_TRACE_RECEIVED (R231)
    (∀ (n : Fin 16), d.stopped = false → d.tlAt n.val 1 = true → let x : Nat := (List.range 7).foldl (fun a i => a * 256 + blockByte (d.tlr n.val).block (i + 1)) 0; (d.tlr n.val).trace = x → (d.tlr n.val).traceRun = 2 → exec (.tlTraceReceived n) ⟨d, q⟩ = .next ⟨(let p : Page := .tll n.val; let e := d.setTlr n.val { d.tlr n.val with trace := x, traceRun := 3 }; let e := (e.wr p .TLL_TRACE_RX0_ID_LO (x / 256)).wr p .TLL_TRACE_RX1_LANE x; let e := e.wr p .TLL_TRACE_RX1_ID_HI (x / 2 ^ 40); ((e.setTlr n.val { e.tlr n.val with traceOk := true }).timSettle n.val).tlSettle n.val), q⟩) ∧
    -- CC_SEGMENT_RECEIVED (R233)
    (∀ (n : Fin 16) (bs : List Byte), d.stopped = false → d.delivers (144 + n.val) = true → (d.tlr n.val).pos % 402 = 0 → 8 ≤ (d.tlr n.val).pos / 402 → (d.tlr n.val).rowOk = true → d.on (.tll n.val) .TLL_CC_CFG_ENABLE = true → let c : Nat := blockByte (d.tlr n.val).block 1; c ≠ 0 → let data : List Byte := (List.range (min 6 (c % 8))).map (fun y => BitVec.ofNat 8 (blockByte (d.tlr n.val).block (2 + y))); let e : Dev := (if c.testBit 7 then d.ccAbort n.val else d); (if c.testBit 7 then some [] else (d.tlr n.val).cc) = some bs → let f : Dev := e.setTlr n.val { e.tlr n.val with cc := some (bs ++ data) }; exec (.ccSegmentReceived n) ⟨d, q⟩ = .next ⟨(if 4100 < (bs ++ data).length then f.ccAbort n.val else if c.testBit 6 then f.ccEnd n.val (bs ++ data) else f), q⟩) ∧
    -- CC_PACKET_TRANSMIT (R232)
    (∀ (n : Fin 16), d.stopped = false → d.on (.tll n.val) .TLL_CC_CFG_ENABLE = true → d.rd (.tll n.val) .TLL_LSTAT_TX_STATE = 2 → (d.tlt n.val).queue = [] → (d.readPoint (d.rd (.tll n.val) .TLL_CC_CFG_TXQ)).isSome = true → let x : Dev × List Word × Bool × Bool × Nat := Dev.takePkt 65536 d (d.rd (.tll n.val) .TLL_CC_CFG_TXQ) [] false false; let bs : List Byte := (x.2.1.flatMap wordBytes).take (pktBytes x.2.1.length x.2.2.2.2); bs.length ≤ 4096 → exec (.ccPacketTransmit n) ⟨d, q⟩ = .next ⟨x.1.setTlt n.val { x.1.tlt n.val with queue := ccSegs ((bs ++ crcTail (crc32Bytes bs)).length + 1) true (bs ++ crcTail (crc32Bytes bs)) }, q⟩) ∧
    -- JCW_RECEIVED (R235)
    (∀ (n : Fin 16), d.stopped = false → d.delivers (144 + n.val) = true → (d.tlr n.val).pos % 402 = 1 → exec (.jcwReceived n) ⟨d, q⟩ = .next ⟨(List.range 16).foldl (fun (e : Dev) k => match jcwCode ((d.tlr n.val).jcw.toNat / 16 ^ k % 16) with | some (j, fixed) => (let f := if fixed then e.inc (.tll n.val) .TLL_JCWCNT_CORR else e; f.setRxs n.val k { f.rxs n.val k with j := j }) | none => (e.inc (.tll n.val) .TLL_JCWCNT_UNCORR).setEvt (.tll n.val) 25) d, q⟩) ∧
    -- HEADER_BRICK_RECEIVED (R239)
    (∀ (n k sub : Fin 16) (late : Bool) (b : Brick), d.stopped = false → (d.rxs n.val k.val).hdr = some b → d.slotRd n.val k.val .TLL_RXSLOT_STATE ≠ 0 → exec (.headerBrickReceived n k sub late) ⟨d, q⟩ = .next ⟨((((d.headerBrick n.val k.val b.payload).tlSettle n.val).slotFlush n.val k.val sub.val late).tlSettle n.val), q⟩) ∧
    -- TL_FRAME_TRANSMIT (R226)
    (∀ (n : Fin 16) (others : List (Fin 16)), d.stopped = false → exec (.tlFrameTransmit n others) ⟨d, q⟩ = .next ⟨(n :: others).foldl (fun (e : Dev) (k : Fin 16) => (e.tlFrame k.val).txFollow) d, q⟩) ∧
    -- TL_FRAME_TRANSMIT (R226)
    (∀ (n : Fin 16), d.stopped = false → d.rd (.tll n.val) .TLL_LSTAT_TX_STATE = 2 → let e : Dev := ((d.tlFrameEnd n.val).tlt n.val).waiting.foldl (fun (y : Dev) k => y.txApply n.val k) (d.tlFrameEnd n.val); let t : TlTxI := e.tlt n.val; let rdi : Bool := (!(e.delivers (144 + n.val)) || e.on (.tll n.val) .TLL_OH_CFG_RDI_FORCE); exec (.tlFrameTransmit n []) ⟨d, q⟩ = .next ⟨((((e.wrOn (.tll n.val) .TLL_OH_STAT_RDI_TX rdi).setTlt n.val { t with waiting := [], run := true, headers := (List.range 16).map (fun k => headBrick (e.txHeader n.val k).payload), sentBip := t.bip, srq1 := (e.txSrq n.val).1, srq2 := (e.txSrq n.val).2, rdi := rdi, rei := (e.tlr n.val).rei, trace := BitVec.ofNat 56 (e.rd (.tll n.val) .TLL_TRACE_TX1_ID_HI * 2 ^ 40 + e.rd (.tll n.val) .TLL_TRACE_TX0_ID_LO * 256 + e.rd (.tll n.val) .TLL_TRACE_TX1_LANE), segs := t.queue.take 88, queue := t.queue.drop 88 }).outSettle.dataSettle).txFollow), q⟩) ∧
    -- TL_FRAME_TRANSMIT (R226)
    (∀ (n : Fin 16), d.stopped = false → d.rd (.tll n.val) .TLL_LSTAT_TX_STATE ≠ 2 → let e : Dev := ((d.tlFrameEnd n.val).tlt n.val).waiting.foldl (fun (y : Dev) k => y.txApply n.val k) (d.tlFrameEnd n.val); exec (.tlFrameTransmit n []) ⟨d, q⟩ = .next ⟨((e.setTlt n.val { e.tlt n.val with waiting := [], run := false, headers := [], segs := [] }).outSettle.dataSettle).txFollow, q⟩) ∧
    -- TXSLOT_WRITE (R244)
    (∀ (m : Master) (n k : Fin 16) (v : Word), d.admits m.val (.tll n.val) (0x200 + 4 * k.val) v = true → exec (.txslotWrite m n k v) ⟨d, q⟩ = .next ⟨((d.stored m.val (.tll n.val) (0x200 + 4 * k.val) v).txslotAfter n.val k.val (d.held m.val (.tll n.val) (0x200 + 4 * k.val))).okay m.val, q⟩) ∧
    -- OHCTL_CNT_CLR (R116)
    (∀ (m : Master) (n : Fin 16), d.admits m.val (.tll n.val) 0x30C 1 = true → exec (.ohctlCntClr m n) ⟨d, q⟩ = .next ⟨((d.stored m.val (.tll n.val) 0x30C 1).ohCntClr n.val).okay m.val, q⟩) ∧
    -- TLL_FRMCTL_CNT_CLR (R116)
    (∀ (m : Master) (n : Fin 16), d.admits m.val (.tll n.val) 0x070 1 = true → exec (.tllFrmctlCntClr m n) ⟨d, q⟩ = .next ⟨((((d.stored m.val (.tll n.val) 0x070 1).setReg (regKey (.tll n.val) 0 0x064) 0).setReg (regKey (.tll n.val) 0 0x068) 0).setReg (regKey (.tll n.val) 0 0x06C) 0).okay m.val, q⟩)

/-- Course aligner, ancillary data and embedded audio: each command or event completes with the next state written out, where its conditions hold.
The state after each command is written out, so whatever it does not change stays. Conditions are on the state and the operands alone. (R127,
R128, R133, R134, R144, R145, R146, R152, R164, R165, R167) -/
def Obligations.CourseCommandsComplete : Prop :=
  ∀ (d : Dev) (q : List Instr),
    -- TILE_LINE_START (R130)
    (∀ (t : Fin 1408) (line : Nat) (pos : Int), d.stopped = false → (d.tileFramed t.val = false ∨ d.tileData t.val = true) → exec (.tileLineStart t line pos) ⟨d, q⟩ = .next ⟨(d.lineMark t.val line).rxFollow, q⟩) ∧
    -- TILE_LINE_START (R130)
    (∀ (t : Fin 1408) (line : Nat) (pos : Int), d.stopped = false → d.tileFramed t.val = true → d.tileData t.val = false → let ts : List Nat := (match d.tileBond t.val with | [] => [t.val] | b => b); let e : Dev := (d.setTile t.val { (d.tile t.val).measure (d.tileWindow t.val).1 (d.tileWindow t.val).2 pos with dom := d.tileDom t.val }).setPos t.val pos; let f : Dev := (if d.tileLead t.val = t.val then e.bondStep t.val ts ((d.tile t.val).posSeen && (d.tile t.val).dom != d.tileDom t.val) else e); let g : Dev := (if f.crs t.val = 0 then f.setPos t.val 0 else f.justify t.val pos); exec (.tileLineStart t line pos) ⟨d, q⟩ = .next ⟨((((tilePages ts).foldl (fun (y : Dev) l => y.defSettle l) g).protSettle).lineMark t.val line).rxFollow, q⟩) ∧
    -- ALIGN_DRIFT_WINDOW (R133)
    (d.stopped = false → exec (.alignDriftWindow) ⟨d, q⟩ = .next ⟨d.ptrTiles.foldl (fun (e : Dev) t => e.driftWindow t) d, q⟩) ∧
    -- ALIGNCFG_WRITE (R134)
    (∀ (m : Master) (v : Word) (n : Fin 144), d.admits m.val (.lane n.val) 0x0A0 v = true → exec (.aligncfgWrite m (.aligncfg n) v) ⟨d, q⟩ = .next ⟨((d.stored m.val (.lane n.val) 0x0A0 v).laneSettle n.val).okay m.val, q⟩) ∧
    -- ALIGNCFG_WRITE (R134)
    (∀ (m : Master) (v : Word) (n : Fin 16) (half : Fin 2), d.admits m.val (.tll n.val) (0x0A0 + 4 * half.val) v = true → exec (.aligncfgWrite m (.tdomsel n half) v) ⟨d, q⟩ = .next ⟨(d.stored m.val (.tll n.val) (0x0A0 + 4 * half.val) v).okay m.val, q⟩) ∧
    -- ALIGNCFG_WRITE (R134)
    (∀ (m : Master) (v : Word) (l : RxId), d.admits m.val (rxPage l.val) 0x420 v = true → exec (.aligncfgWrite m (.alignX l) v) ⟨d, q⟩ = .next ⟨(d.stored m.val (rxPage l.val) 0x420 v).okay m.val, q⟩) ∧
    -- CRSCTL_CNT_CLR (R128)
    (∀ (m : Master) (l : RxId), d.admits m.val (rxPage l.val) 0x0AC 1 = true → exec (.crsctlCntClr m l) ⟨d, q⟩ = .next ⟨((List.range (if l.val < 144 then 8 else 16)).foldl (fun (e : Dev) k => e.setReg (regKey (rxPage l.val) 0 ((if l.val < 144 then 0x0E0 else 0x100) + 4 * k)) 0) ((d.stored m.val (rxPage l.val) 0x0AC 1).setReg (regKey (rxPage l.val) 0 0x0A8) 0)).okay m.val, q⟩) ∧
    -- ANC_PACKET_PARSED (R144)
    (∀ (n : Fin 144) (stream line : Nat) (vert : Bool) (start : Nat) (rest : List Word10), d.stopped = false → (d.frmState n.val = 3 ∨ d.frmState n.val = 4) → modeSdi (d.rxMode n.val) = true → rest.length < 3 → exec (.ancPacketParsed n stream line vert start rest) ⟨d, q⟩ = .next ⟨d.ancErr n.val .LANE_ANCERR_HDR_ERR, q⟩) ∧
    -- ANC_PACKET_PARSED (R144)
    (∀ (n : Fin 144) (stream line : Nat) (vert : Bool) (start : Nat) (w0 w1 w2 : Word10) (ws : List Word10), d.stopped = false → (d.frmState n.val = 3 ∨ d.frmState n.val = 4) → modeSdi (d.rxMode n.val) = true → ((headerOk w0 && headerOk w1 && headerOk w2) = false ∨ ws.length ≤ w2.toNat % 256) → exec (.ancPacketParsed n stream line vert start (w0 :: w1 :: w2 :: ws)) ⟨d, q⟩ = .next ⟨d.ancErr n.val .LANE_ANCERR_HDR_ERR, q⟩) ∧
    -- ANC_PACKET_PARSED (R144)
    (∀ (n : Fin 144) (stream line : Nat) (vert : Bool) (start : Nat) (w0 w1 w2 : Word10) (ws : List Word10), d.stopped = false → (d.frmState n.val = 3 ∨ d.frmState n.val = 4) → modeSdi (d.rxMode n.val) = true → (headerOk w0 && headerOk w1 && headerOk w2) = true → w2.toNat % 256 < ws.length → let e : Dev := (if vert then d.setFramer n.val { d.framer n.val with vspans := (stream, start, w2.toNat % 256 + 7) :: (d.framer n.val).vspans } else d); checksumWord ((w0 :: w1 :: w2 :: ws).take (w2.toNat % 256 + 3)) = ws.getD (w2.toNat % 256) 0 → d.isAudioDid n.val stream (w0.toNat % 256) = false → w0.toNat % 256 ≠ 0x80 → exec (.ancPacketParsed n stream line vert start (w0 :: w1 :: w2 :: ws)) ⟨d, q⟩ = .next ⟨e.ancLimit n.val { did := w0.toNat % 256, sdid := w1.toNat % 256, bad := false, type1 := decide (0x80 ≤ w0.toNat % 256), spos := d.rxMode n.val != 1 && stream % 2 == 1, vert := vert, line := line, offset := min (if d.rxMode n.val == 1 || d.phased n.val then (start + w2.toNat % 256 + 6) / 2 else start + w2.toNat % 256 + 6) 1023, tile := laneTile n.val (d.ancPos n.val stream), udw := ws.take (w2.toNat % 256) }, q⟩) ∧
    -- ANC_PACKET_PARSED (R144)
    (∀ (n : Fin 144) (stream line : Nat) (vert : Bool) (start : Nat) (w0 w1 w2 : Word10) (ws : List Word10), d.stopped = false → (d.frmState n.val = 3 ∨ d.frmState n.val = 4) → modeSdi (d.rxMode n.val) = true → (headerOk w0 && headerOk w1 && headerOk w2) = true → w2.toNat % 256 < ws.length → let e : Dev := (if vert then d.setFramer n.val { d.framer n.val with vspans := (stream, start, w2.toNat % 256 + 7) :: (d.framer n.val).vspans } else d); checksumWord ((w0 :: w1 :: w2 :: ws).take (w2.toNat % 256 + 3)) = ws.getD (w2.toNat % 256) 0 → d.isAudioDid n.val stream (w0.toNat % 256) = false → w0.toNat % 256 = 0x80 → exec (.ancPacketParsed n stream line vert start (w0 :: w1 :: w2 :: ws)) ⟨d, q⟩ = .next ⟨e.inc (.lane n.val) .LANE_ANCERR2_DELETED, q⟩) ∧
    -- ANC_PACKET_PARSED (R144)
    (∀ (n : Fin 144) (stream line : Nat) (vert : Bool) (start : Nat) (w0 w1 w2 : Word10) (ws : List Word10), d.stopped = false → (d.frmState n.val = 3 ∨ d.frmState n.val = 4) → modeSdi (d.rxMode n.val) = true → (headerOk w0 && headerOk w1 && headerOk w2) = true → w2.toNat % 256 < ws.length → let e : Dev := (if vert then d.setFramer n.val { d.framer n.val with vspans := (stream, start, w2.toNat % 256 + 7) :: (d.framer n.val).vspans } else d); checksumWord ((w0 :: w1 :: w2 :: ws).take (w2.toNat % 256 + 3)) ≠ ws.getD (w2.toNat % 256) 0 → d.on (.lane n.val) .LANE_ANCCFG_BAD_PKT = false → exec (.ancPacketParsed n stream line vert start (w0 :: w1 :: w2 :: ws)) ⟨d, q⟩ = .next ⟨e.ancErr n.val .LANE_ANCERR_CS_ERR, q⟩) ∧
    -- ANCCTL_CNT_CLR (R152)
    (∀ (m : Master) (l : RxId), l.val < 144 → d.admits m.val (.lane l.val) 0x104 1 = true → exec (.ancctlCntClr m l) ⟨d, q⟩ = .next ⟨((d.stored m.val (.lane l.val) 0x104 1).ancCntClr l.val).okay m.val, q⟩) ∧
    -- ANCCTL_CNT_CLR (R152)
    (∀ (m : Master) (l : RxId), ¬ l.val < 144 → d.admits m.val (.tll (l.val - 144)) 0x144 1 = true → exec (.ancctlCntClr m l) ⟨d, q⟩ = .next ⟨((d.stored m.val (.tll (l.val - 144)) 0x144 1).ancCntClr (144 + (l.val - 144))).okay m.val, q⟩) ∧
    -- ANC_CONTEXT_WRITE (R152)
    (∀ (m : Master) (i : Fin 2944) (v : Word), d.ctxAdmits m.val (0x80000 + 8 * i.val) v = true → exec (.ancContextWrite m i v) ⟨d, q⟩ = .next ⟨(let e := d.ctxPassed m.val; e.setAc i.val (e.liveWalls.foldl (fun c w => c.putSh w v) (e.ac i.val))).okay m.val, q⟩) ∧
    -- AUDIO_PACKET_RECEIVED (R164)
    (∀ (n : Fin 144) (pair : Nat) (group : Fin 8) (sub : Fin 16) (csumOk eccOk : Bool) (ss : List (List Word)) (aux : List (List (BitVec 4))), d.stopped = false → (d.frmState n.val = 3 ∨ d.frmState n.val = 4) → modeSdi (d.rxMode n.val) = true → d.audBit n.val pair group.val = none → exec (.audioPacketReceived n pair group sub (.data csumOk eccOk ss aux)) ⟨d, q⟩ = .next ⟨d.add (.lane n.val) .LANE_AUDERR2_UNMAPPED (4 * ss.length), q⟩) ∧
    -- AUDIO_PACKET_RECEIVED (R164)
    (∀ (n : Fin 144) (pair : Nat) (group : Fin 8) (sub : Fin 16) (ss : List (List Word)) (aux : List (List (BitVec 4))) (b : Nat), d.stopped = false → (d.frmState n.val = 3 ∨ d.frmState n.val = 4) → modeSdi (d.rxMode n.val) = true → d.rxMode n.val ≠ 1 → d.audBit n.val pair group.val = some b → exec (.audioPacketReceived n pair group sub (.data true true ss aux)) ⟨d, q⟩ = .next ⟨(let e := d.audPresent n.val b true; ss.zipIdx.foldl (fun (e : Dev) (y : List Word × Nat) => e.groupSample n.val b sub.val ((List.range 4).map (fun c => rxBrick false (y.1.getD c 0) ((aux.getD y.2 []).getD c 0)))) (e.setDeemb n.val b { d.deemb n.val b with fields := 0 })), q⟩) ∧
    -- AUDIO_PACKET_RECEIVED (R164)
    (∀ (n : Fin 144) (pair : Nat) (group : Fin 8) (sub : Fin 16) (b : Nat), d.stopped = false → (d.frmState n.val = 3 ∨ d.frmState n.val = 4) → modeSdi (d.rxMode n.val) = true → d.audBit n.val pair group.val = some b → exec (.audioPacketReceived n pair group sub .missing) ⟨d, q⟩ = .next ⟨d.groupLost n.val b sub.val, q⟩) ∧
    -- AUDIO_PACKET_RECEIVED (R164)
    (∀ (n : Fin 144) (pair : Nat) (group : Fin 8) (sub : Fin 16) (asyn r96 : Bool) (b : Nat), d.stopped = false → (d.frmState n.val = 3 ∨ d.frmState n.val = 4) → modeSdi (d.rxMode n.val) = true → d.audBit n.val pair group.val = some b → exec (.audioPacketReceived n pair group sub (.control asyn r96)) ⟨d, q⟩ = .next ⟨(d.laneBit n.val .LANE_AUDRXASYNC_ASYNC b asyn).laneBit n.val .LANE_AUDRXR96_R96 b r96, q⟩)

/-- Connection memory, take groups, generators, courses: each command or event completes with the next state written out, where its conditions hold.
The state after each command is written out, so whatever it does not change stays. Conditions are on the state and the operands alone. (R182,
R184, R188, R189, R190, R192, R196, R198, R286, R294) -/
def Obligations.FabricCommandsComplete : Prop :=
  ∀ (d : Dev) (q : List Instr),
    -- TILE_CONTEXT_WRITE (R181)
    (∀ (m : Master) (t : Fin 1472) (v : Word), d.ctxAdmits m.val (32 * t.val) v = true → exec (.tileContextWrite m t v) ⟨d, q⟩ = .next ⟨(let e := d.ctxPassed m.val; e.setTc t.val (e.liveWalls.foldl (fun c w => c.putSh w v) (e.tc t.val))).okay m.val, q⟩) ∧
    -- TILE_GROUP_WRITE (R184)
    (∀ (m : Master) (t : Fin 1472) (v : Word), d.ctxAdmits m.val (32 * t.val + 4) v = true → exec (.tileGroupWrite m t v) ⟨d, q⟩ = .next ⟨(let e := d.ctxPassed m.val; e.setTc t.val (e.liveWalls.foldl (fun c w => c.putGr w (v.toNat % 256)) (e.tc t.val))).okay m.val, q⟩) ∧
    -- ARM (R188)
    (∀ (m : Master) (g : Fin 256), d.admits m.val .fab 0x030 (BitVec.ofNat 32 (0x100 + g.val)) = true → (d.stored m.val .fab 0x030 (BitVec.ofNat 32 (0x100 + g.val))).rd .fab .FAB_TG_TRIG_TYPE ≠ 0 → exec (.arm m g) ⟨d, q⟩ = .next ⟨(let e := d.stored m.val .fab 0x030 (BitVec.ofNat 32 (0x100 + g.val)); (e.setTake g.val { state := 1, type := e.rd .fab .FAB_TG_TRIG_TYPE, tdom := e.rd .fab .FAB_TG_TRIG_TDOM, gpi := e.rd .fab .FAB_TG_TRIG_GPI, frame := e.rd .fab .FAB_TG_TRIG_FRAME }).commitSettle.okay m.val), q⟩) ∧
    -- ARM (R188)
    (∀ (m : Master) (g : Fin 256), let v : Word := BitVec.ofNat 32 (0x100 + g.val); d.admits m.val .fab 0x030 v = true → let e : Dev := d.stored m.val .fab 0x030 v; e.rd .fab .FAB_TG_TRIG_TYPE = 0 → exec (.arm m g) ⟨d, q⟩ = .next ⟨((e.setTake g.val { state := 1, type := 0, tdom := e.rd .fab .FAB_TG_TRIG_TDOM, gpi := e.rd .fab .FAB_TG_TRIG_GPI, frame := e.rd .fab .FAB_TG_TRIG_FRAME }).takeFire g.val).commitSettle.okay m.val, q⟩) ∧
    -- DISARM (R188)
    (∀ (m : Master) (g : Fin 256), d.admits m.val .fab 0x030 (BitVec.ofNat 32 (0x200 + g.val)) = true → exec (.disarm m g) ⟨d, q⟩ = .next ⟨((d.stored m.val .fab 0x030 (BitVec.ofNat 32 (0x200 + g.val))).setTake g.val {}).commitSettle.okay m.val, q⟩) ∧
    -- FRAME_TRIGGER_FIRE (R189)
    (∀ (k : Fin 16) (frame : BitVec 16), d.stopped = false → exec (.frameTriggerFire k frame) ⟨d, q⟩ = .next ⟨((d.setDom k.val { d.dom k.val with fired := some frame.toNat }).fireWhere (fun x => x.type == 1 && x.tdom == k.val && x.frame == frame.toNat)).commitSettle, q⟩) ∧
    -- GPI_FILTERED_EDGE (R192)
    (∀ (n : Fin 8) (level : Bool), d.stopped = false → d.on .fab (Fld.nth .FAB_GPI_LEVEL n.val) ≠ level → (d.wrOn .fab (Fld.nth .FAB_GPI_LEVEL n.val) level).rd .fab (Fld.nth .FAB_GPI_EDGE n.val) = 2 → exec (.gpiFilteredEdge n level) ⟨d, q⟩ = .next ⟨(let e := d.wrOn .fab (Fld.nth .FAB_GPI_LEVEL n.val) level; (((e.wr .fab (Fld.nth .FAB_GPI_EDGES n.val) (e.rd .fab (Fld.nth .FAB_GPI_EDGES n.val) + 1)).setEvt .fab 13).fireWhere (fun x => x.type == 2 && x.gpi == n.val)).commitSettle), q⟩) ∧
    -- GPI_FILTERED_EDGE (R192)
    (∀ (n : Fin 8) (level : Bool), d.stopped = false → d.on .fab (Fld.nth .FAB_GPI_LEVEL n.val) ≠ level → let e : Dev := d.wrOn .fab (Fld.nth .FAB_GPI_LEVEL n.val) level; e.rd .fab (Fld.nth .FAB_GPI_EDGE n.val) ≠ 2 → (e.rd .fab (Fld.nth .FAB_GPI_EDGE n.val) == 1) = level → exec (.gpiFilteredEdge n level) ⟨d, q⟩ = .next ⟨(((e.wr .fab (Fld.nth .FAB_GPI_EDGES n.val) (e.rd .fab (Fld.nth .FAB_GPI_EDGES n.val) + 1)).setEvt .fab 13).fireWhere (fun x => x.type == 2 && x.gpi == n.val)).commitSettle, q⟩) ∧
    -- FAB_GPI_WRITE (R192)
    (∀ (m : Master) (n : Fin 8) (v : Word), d.admits m.val .fab (0x0A0 + 4 * n.val) v = true → exec (.fabGpiWrite m n v) ⟨d, q⟩ = .next ⟨(d.stored m.val .fab (0x0A0 + 4 * n.val) v).okay m.val, q⟩) ∧
    -- CONTEXT_COMMIT (R190)
    (∀ (g : Fin 256) (t : Fin 1472), d.stopped = false → d.commitDue g.val t.val = true → exec (.contextCommit g t) ⟨d, q⟩ = .next ⟨(((d.setTake g.val { d.take g.val with left := (d.take g.val).left.filter (· != t.val) }).commitTile t.val).takeStep g.val).commitSettle, q⟩) ∧
    -- HOLD_EXPIRY (R196)
    (∀ (t : Fin 1472), d.stopped = false → (d.tc (d.outLead t.val)).state = 2 → d.outRuns (d.outLead t.val) = true → fmtLines (d.domFmt ((d.outDom (d.outLead t.val)).getD 0)) ≤ (d.tc (d.outLead t.val)).held → exec (.holdExpiry t) ⟨d, q⟩ = .next ⟨(let u := d.outLead t.val; let c := d.tc u; d.putOut u (d.endState u (c.ac d.readWall)) c.cause 0 false), q⟩) ∧
    -- FAB_GEN_WRITE (R198)
    (∀ (m : Master) (n : Fin 32) (v : Word), d.admits m.val .fab (0x100 + 4 * n.val) v = true → exec (.fabGenWrite m n v) ⟨d, q⟩ = .next ⟨((d.stored m.val .fab (0x100 + 4 * n.val) v).genApply n.val (d.held m.val .fab (0x100 + 4 * n.val)) v).txFollow.okay m.val, q⟩) ∧
    -- FAB_CNT_CLR (R181)
    (∀ (m : Master), d.admits m.val .fab 0x314 1 = true → exec (.fabCntClr m) ⟨d, q⟩ = .next ⟨((d.stored m.val .fab 0x314 1).fabCntClr).okay m.val, q⟩) ∧
    -- COURSE_READ_POINT (R126)
    (∀ (k : Fin 16) (line : Nat) (items : List LateItem), d.stopped = false → d.domFmt k.val ≠ 0 → (d.dom k.val).waits = false → 1 ≤ line → line ≤ fmtLines (d.domFmt k.val) → let c : Dev := d.setDom k.val { d.dom k.val with line := line }; let f : Dev := (if line = c.td k.val .TDOM_STAT_SWLINE_EFF then c.switchLine k.val else c); f.lanesIdle = false → exec (.courseReadPoint k line items) ⟨d, q⟩ = .next ⟨(let e := ((if line == 1 then f.fsDelay k.val else f).fsReads k.val).groupLines k.val line; let lanes := e.sdiLanes k.val; let slots := e.tlVideo k.val; let inner := e.internalOuts k.val; let outs := lanes.flatMap (fun n => e.outPositions n) ++ slots.map (fun (x : Nat × Nat) => 1152 + 16 * x.1 + x.2) ++ inner; let e := (outs.filter (fun t => !(e.outMember t))).foldl (fun (e : Dev) t => e.outJudge t) e; let e := items.foldl (fun (e : Dev) x => e.memReadLate x) e; let e := outs.foldl (fun (e : Dev) t => e.gateBricks t line items) e; let e := inner.foldl (fun (e : Dev) t => e.internalLine t line items) e; let e := lanes.foldl (fun (e : Dev) n => e.laneCourse n line items) e; let e := slots.foldl (fun (e : Dev) (x : Nat × Nat) => e.tlCourse x.1 x.2 line items) e; e.framePulses k.val line), q⟩) ∧
    -- COURSE_READ_POINT (R126)
    (∀ (k : Fin 16) (line : Nat) (items : List LateItem), d.stopped = false → d.domFmt k.val ≠ 0 → (d.dom k.val).waits = false → 1 ≤ line → line ≤ fmtLines (d.domFmt k.val) → let c : Dev := d.setDom k.val { d.dom k.val with line := line }; let f : Dev := (if line = c.td k.val .TDOM_STAT_SWLINE_EFF then c.switchLine k.val else c); f.lanesIdle = true → exec (.courseReadPoint k line items) ⟨d, q⟩ = .next ⟨f.framePulses k.val line, q⟩) ∧
    -- DOMAIN_FRAME_START (R289)
    (∀ (k : Fin 16) (err : Int) (epoch : Nat), d.stopped = false → d.domFmt k.val ≠ 0 → exec (.domainFrameStart k err epoch) ⟨d, q⟩ = .next ⟨(let e := (d.frameCount k.val err epoch).probeFrames k.val; ((e.fsFrameStart k.val (e.td k.val .TDOM_FCNT_FCNT)).shadowFrame k.val).outSettle), q⟩)

/-- Audio fabric: each command or event completes with the next state written out, where its conditions hold. The state after each command is written
out, so whatever it does not change stays. Conditions are on the state and the operands alone. (R142, R206, R208, R210, R217, R220, R221) -/
def Obligations.AudioCommandsComplete : Prop :=
  ∀ (d : Dev) (q : List Instr),
    -- AUDIO_CONTEXT_WRITE (R205)
    (∀ (m : Master) (s : Fin 53248) (v : Word), d.ctxAdmits m.val (0x10000 + 8 * s.val) v = true → exec (.audioContextWrite m s false v) ⟨d, q⟩ = .next ⟨(let e := d.ctxPassed m.val; e.setUc s.val (e.liveWalls.foldl (fun c w => c.putSh w v) (e.uc s.val))).okay m.val, q⟩) ∧
    -- AUDIO_CONTEXT_WRITE (R205)
    (∀ (m : Master) (s : Fin 53248) (v : Word), d.ctxAdmits m.val (0x10000 + 8 * s.val + 4) v = true → exec (.audioContextWrite m s true v) ⟨d, q⟩ = .next ⟨(let e := d.ctxPassed m.val; e.setUc s.val (e.liveWalls.foldl (fun c w => c.putGr w (v.toNat % 256)) (e.uc s.val))).okay m.val, q⟩) ∧
    -- AUDIO_CONTEXT_COMMIT (R208)
    (∀ (g : Fin 256) (s : Fin 53248), d.stopped = false → d.commitDue g.val (2000 + s.val) = true → exec (.audioContextCommit g s) ⟨d, q⟩ = .next ⟨(((d.setTake g.val { d.take g.val with left := (d.take g.val).left.filter (· != 2000 + s.val) }).commitSlot s.val).takeStep g.val).commitSettle, q⟩) ∧
    -- RAMP_END (R212)
    (∀ (s : Fin 53248), d.stopped = false → (d.slot s.val).n ≤ (d.slot s.val).i → exec (.rampEnd s) ⟨d, q⟩ = .next ⟨d.setSlot s.val { d.slot s.val with n := 0, i := 0 }, q⟩) ∧
    -- HOUSE_SAMPLE_PERIOD (R214)
    (∀ (lates : List AudioLate), d.stopped = false → d.lanesIdle = false → exec (.houseSamplePeriod lates) ⟨d, q⟩ = .next ⟨(List.range 16).foldl (fun (e : Dev) n => e.tlAudioPeriod n) (d.audioPeriod lates).outPeriod, q⟩) ∧
    -- HOUSE_SAMPLE_PERIOD (R214)
    (∀ (lates : List AudioLate), d.stopped = false → d.lanesIdle = true → exec (.houseSamplePeriod lates) ⟨d, q⟩ = .next ⟨{ d with period := d.period + 1 }, q⟩) ∧
    -- AFAB_DEPTH_WRITE (R217)
    (∀ (m : Master) (v : Word), d.admits m.val .afab 0x020 v = true → exec (.afabDepthWrite m v) ⟨d, q⟩ = .next ⟨(((d.stored m.val .afab 0x020 v).streams.map Prod.fst).foldl (fun (e : Dev) s => if e.strmState s == 2 then e.setStrm s { e.strm s with recentre := true } else e) (d.stored m.val .afab 0x020 v)).okay m.val, q⟩) ∧
    -- AFAB_ENABLE_WRITE (R221)
    (∀ (m : Master) (v : Word), d.admits m.val .afab 0x008 v = true → Fld.PAGE_CTRL_SOFT_RESET.get v = 0 → Fld.PAGE_CTRL_ENABLE.get v = 1 → exec (.afabEnableWrite m v) ⟨d, q⟩ = .next ⟨((d.stored m.val .afab 0x008 v).keyed .afab v).okay m.val, q⟩) ∧
    -- AFAB_ENABLE_WRITE (R221)
    (∀ (m : Master) (v : Word), d.admits m.val .afab 0x008 v = true → Fld.PAGE_CTRL_SOFT_RESET.get v = 0 → Fld.PAGE_CTRL_ENABLE.get v = 0 → exec (.afabEnableWrite m v) ⟨d, q⟩ = .next ⟨(((d.stored m.val .afab 0x008 v).afabStop).keyed .afab v).okay m.val, q⟩) ∧
    -- METER_WINDOW_END (R220)
    (∀ (p : Fin 512), d.stopped = false → d.rdB .afab p.val .AFAB_MTR_CFG_ENABLE ≠ 0 → d.enabled .afab = true → exec (.meterWindowEnd p) ⟨d, q⟩ = .next ⟨(let i := d.meter p.val; let e := (d.wrB .afab p.val .AFAB_MTR_PEAK_VALID (if i.good && 0 < i.count then 1 else 0)).wrB .afab p.val .AFAB_MTR_PEAK_PEAK (min i.peak (2 ^ 24 - 1)); (e.wrB .afab p.val .AFAB_MTR_LEVEL_RMS (rmsSteps i.sum i.count)).setMeter p.val { i with count := 0, peak := 0, sum := 0, good := true }), q⟩) ∧
    -- AFAB_CNT_CLR (R215)
    (∀ (m : Master), d.admits m.val .afab 0x024 1 = true → exec (.afabCntClr m) ⟨d, q⟩ = .next ⟨((d.stored m.val .afab 0x024 1).afabCntClr).okay m.val, q⟩)

/-- Performance monitoring and protection: each command or event completes with the next state written out, where its conditions hold. The state
after each command is written out, so whatever it does not change stays. Conditions are on the state and the operands alone. (R249, R251, R253,
R256, R262, R264, R265) -/
def Obligations.ProtectCommandsComplete : Prop :=
  ∀ (d : Dev) (q : List Instr),
    -- PM_SECOND_END (R251)
    (d.stopped = false → exec (.pmSecondEnd) ⟨d, q⟩ = .next ⟨(let sec := d.rd .prot .PROT_PM_SEC_SEC; let e := (List.range 160).foldl (fun (e : Dev) l => e.pmLane l sec d.pmNext.isSome) d; let e := (e.wr .prot .PROT_PM_SEC_SEC ((e.pmNext).getD ((sec + 1) % 86400))).setEvtIf ((List.range 160).any (fun l => d.pmCloses l)) .prot 12; (({ e with pmNext := none } : Dev).wtrCount).protSettle.dataSettle), q⟩) ∧
    -- PM_SEC_WRITE (R249)
    (∀ (m : Master) (v : Word), d.admits m.val .prot 0x060 v = true → exec (.pmSecWrite m v) ⟨d, q⟩ = .next ⟨((d.stored m.val .prot 0x060 v).pmSecWrite (d.held m.val .prot 0x060) v).okay m.val, q⟩) ∧
    -- PM_CLR (R253)
    (∀ (m : Master), d.admits m.val .prot 0x064 2 = true → exec (.pmClr m) ⟨d, q⟩ = .next ⟨((d.stored m.val .prot 0x064 2).pmClear).okay m.val, q⟩) ∧
    -- PROT_CNT_CLR (R259)
    (∀ (m : Master), d.admits m.val .prot 0x064 1 = true → exec (.protCntClr m) ⟨d, q⟩ = .next ⟨(let e := (d.stored m.val .prot 0x064 1); (e.setReg (regKey .prot e.pgSel 0x034) 0).setReg (regKey .prot e.pgSel 0x038) 0).okay m.val, q⟩) ∧
    -- PG_CFG_WRITE (R254)
    (∀ (m : Master) (v : Word), d.admits m.val .prot 0x024 v = true → Fld.PROT_PG_CFG_ENABLE.get v = 0 → exec (.pgCfgWrite m v) ⟨d, q⟩ = .next ⟨(let e := (d.stored m.val .prot 0x024 v); let s := e.group e.pgSel; (e.setGroup e.pgSel { enabled := false, audio := s.audio, audioI := s.audioI, audioFrom := s.audioFrom, pairs := s.pairs }).protDone e.pgSel).okay m.val, q⟩) ∧
    -- PG_CFG_WRITE (R254)
    (∀ (m : Master) (v : Word), d.admits m.val .prot 0x024 v = true → Fld.PROT_PG_CFG_ENABLE.get v = 1 → Fld.PROT_PG_CFG_ENABLE.get (d.held m.val .prot 0x024) = 0 → exec (.pgCfgWrite m v) ⟨d, q⟩ = .next ⟨(let e := (d.stored m.val .prot 0x024 v); let s := e.group e.pgSel; (e.setGroup e.pgSel { enabled := true, audio := s.audio, audioI := s.audioI, audioFrom := s.audioFrom, pairs := s.pairs }).protDone e.pgSel).okay m.val, q⟩) ∧
    -- CLEAR (R265)
    (∀ (m : Master), d.admits m.val .prot 0x02C 1 = true → exec (.clear m) ⟨d, q⟩ = .next ⟨(let e := (d.stored m.val .prot 0x02C 1); (e.setGroup e.pgSel { e.group e.pgSel with cmd := 0 }).protDone e.pgSel).okay m.val, q⟩) ∧
    -- LOCKOUT (R265)
    (∀ (m : Master), d.admits m.val .prot 0x02C 2 = true → exec (.lockout m) ⟨d, q⟩ = .next ⟨(let e := (d.stored m.val .prot 0x02C 2); (e.setGroup e.pgSel { e.group e.pgSel with cmd := 2 }).protDone e.pgSel).okay m.val, q⟩) ∧
    -- FORCED (R265)
    (∀ (m : Master), d.admits m.val .prot 0x02C 3 = true → exec (.forced m) ⟨d, q⟩ = .next ⟨(let e := (d.stored m.val .prot 0x02C 3); (e.setGroup e.pgSel { e.group e.pgSel with cmd := 3 }).protDone e.pgSel).okay m.val, q⟩) ∧
    -- MANUAL_W (R265)
    (∀ (m : Master), d.admits m.val .prot 0x02C 4 = true → exec (.manualW m) ⟨d, q⟩ = .next ⟨(let e := (d.stored m.val .prot 0x02C 4); (e.setGroup e.pgSel { e.group e.pgSel with cmd := 4 }).protDone e.pgSel).okay m.val, q⟩) ∧
    -- MANUAL_P (R265)
    (∀ (m : Master), d.admits m.val .prot 0x02C 5 = true → exec (.manualP m) ⟨d, q⟩ = .next ⟨(let e := (d.stored m.val .prot 0x02C 5); (e.setGroup e.pgSel { e.group e.pgSel with cmd := 5 }).protDone e.pgSel).okay m.val, q⟩) ∧
    -- PROT_HOLDOFF_EXPIRY (R262)
    (∀ (g : Fin 256), d.stopped = false → (d.group g.val).enabled = true → exec (.protHoldoffExpiry g 0 false) ⟨d, q⟩ = .next ⟨((d.setGroup g.val { d.group g.val with sfW := (d.group g.val).sfW || (d.groupCond g.val).1 }).protDone g.val).dataSettle, q⟩) ∧
    -- PROT_HOLDOFF_EXPIRY (R262)
    (∀ (g : Fin 256), d.stopped = false → (d.group g.val).enabled = true → exec (.protHoldoffExpiry g 1 true) ⟨d, q⟩ = .next ⟨((d.setGroup g.val { d.group g.val with sdP := (d.group g.val).sdP || (d.groupCond g.val).2.2.2 }).protDone g.val).dataSettle, q⟩) ∧
    -- PROT_HOLDOFF_EXPIRY (R262)
    (∀ (g : Fin 256), d.stopped = false → (d.group g.val).enabled = true → exec (.protHoldoffExpiry g 0 true) ⟨d, q⟩ = .next ⟨((d.setGroup g.val { d.group g.val with sdW := (d.group g.val).sdW || (d.groupCond g.val).2.1 }).protDone g.val).dataSettle, q⟩) ∧
    -- PROT_HOLDOFF_EXPIRY (R262)
    (∀ (g : Fin 256), d.stopped = false → (d.group g.val).enabled = true → exec (.protHoldoffExpiry g 1 false) ⟨d, q⟩ = .next ⟨((d.setGroup g.val { d.group g.val with sfP := (d.group g.val).sfP || (d.groupCond g.val).2.2.1 }).protDone g.val).dataSettle, q⟩) ∧
    -- PROT_WTR_EXPIRY (R264)
    (∀ (g : Fin 256), d.stopped = false → (d.group g.val).wtr = true → exec (.protWtrExpiry g) ⟨d, q⟩ = .next ⟨((d.setGroup g.val { d.group g.val with wtr := false }).protDone g.val).dataSettle, q⟩)

/-- Reference inputs: each command or event completes with the next state written out, where its conditions hold. The state after each command is
written out, so whatever it does not change stays. Conditions are on the state and the operands alone. (R270, R272, R273, R274, R278) -/
def Obligations.ReferenceCommandsComplete : Prop :=
  ∀ (d : Dev) (q : List Instr),
    -- REF_MEASUREMENT (R273)
    (∀ (freqs : List (Option Int)) (mean now : Int), d.stopped = false → let got : List (Nat × Int) := (List.range 8).filterMap (fun r => if 2 ≤ d.refState r then (freqs.getD r none).map (fun f => (r, f)) else none); let e : Dev := (if d.tf .TMU_STAT_STATE = 2 then d.withTmu (fun (t : TmuI) => { t with dco := now }) else d); let f : Dev := got.foldl (fun (y : Dev) (x : Nat × Int) => ((y.setRef x.1 { y.ref x.1 with freqs := (x.2 :: (y.ref x.1).freqs).take 8 }).wr (.refin x.1) .REFIN_FREQ_FREQ (field32 x.2)).wr (.refin x.1) .REFIN_RATE_RATE (field32 (rateOf ((x.2 :: (y.ref x.1).freqs).take 8)))) e; let qs : List Int := (got.filter (fun (x : Nat × Int) => f.refState x.1 == 3)).map Prod.snd; exec (.refMeasurement freqs mean now) ⟨d, q⟩ = .next ⟨((((got.foldl (fun (y : Dev) (x : Nat × Int) => y.refJudge x.1 x.2 (median qs) qs.length) f).peersSettle).histAppend mean).tmuEval).withTmu (fun (t : TmuI) => { t with window := t.window + 1 }), q⟩) ∧
    -- REF_SIGNAL_ABSENT (R274)
    (∀ (r : Fin 8), d.stopped = false → 2 ≤ d.refState r.val → exec (.refSignalAbsent r) ⟨d, q⟩ = .next ⟨(d.refGo r.val 1).tmuEval, q⟩) ∧
    -- REF_SIGNAL_PRESENT (R274)
    (∀ (r : Fin 8), d.stopped = false → d.refState r.val = 1 → d.refCan r.val = true → exec (.refSignalPresent r) ⟨d, q⟩ = .next ⟨(d.refGo r.val 2).tmuEval, q⟩) ∧
    -- REFERENCE_EVENT (R270)
    (∀ (r : Fin 8), d.stopped = false → d.refState r.val ≠ 0 → exec (.referenceEvent r .discarded) ⟨d, q⟩ = .next ⟨d.inc (.refin r.val) .REFIN_CNT_GLITCH, q⟩) ∧
    -- REFERENCE_EVENT (R270)
    (∀ (r : Fin 8) (type fmt : Nat) (ten : Bool), d.stopped = false → r.val ≤ 1 → 2 ≤ d.refState r.val → d.rf r.val .REFIN_STAT_TYPE = 0 → exec (.referenceEvent r (.identified type fmt ten)) ⟨d, q⟩ = .next ⟨(((d.wr (.refin r.val) .REFIN_STAT_TYPE type).wr (.refin r.val) .REFIN_STAT_FMT fmt).wrOn (.refin r.val) .REFIN_STAT_TEN_FIELD (ten && type == 1)).alignSettle, q⟩) ∧
    -- REFERENCE_EVENT (R270)
    (∀ (r : Fin 8) (type fmt : Nat) (ten : Bool), d.stopped = false → r.val ≤ 1 → 2 ≤ d.refState r.val → d.rf r.val .REFIN_STAT_TYPE ≠ 0 → (d.rf r.val .REFIN_STAT_TYPE ≠ type ∨ d.rf r.val .REFIN_STAT_FMT ≠ fmt) → exec (.referenceEvent r (.identified type fmt ten)) ⟨d, q⟩ = .next ⟨d.refAbsent r.val, q⟩) ∧
    -- REFERENCE_EVENT (R270)
    (∀ (r : Fin 8), d.stopped = false → exec (.referenceEvent r .event) ⟨d, q⟩ = .next ⟨d, q⟩) ∧
    -- REFIN_ENABLE_WRITE (R270)
    (∀ (m : Master) (r : Fin 8) (v : Word), d.admits m.val (.refin r.val) 0x008 v = true → Fld.PAGE_CTRL_SOFT_RESET.get v = 0 → Fld.PAGE_CTRL_ENABLE.get v = 0 → exec (.refinEnableWrite m r v) ⟨d, q⟩ = .next ⟨((((d.stored m.val (.refin r.val) 0x008 v).refGo r.val 0).tmuEval).keyed (.refin r.val) v).okay m.val, q⟩) ∧
    -- REFIN_ENABLE_WRITE (R270)
    (∀ (m : Master) (r : Fin 8) (v : Word), d.admits m.val (.refin r.val) 0x008 v = true → Fld.PAGE_CTRL_SOFT_RESET.get v = 0 → Fld.PAGE_CTRL_ENABLE.get v = 1 → (d.stored m.val (.refin r.val) 0x008 v).refState r.val = 0 → exec (.refinEnableWrite m r v) ⟨d, q⟩ = .next ⟨((((d.stored m.val (.refin r.val) 0x008 v).refGo r.val 1).tmuEval).keyed (.refin r.val) v).okay m.val, q⟩) ∧
    -- REFIN_CFG_WRITE (R270)
    (∀ (m : Master) (r : Fin 8) (v : Word), d.admits m.val (.refin r.val) 0x020 v = true → Fld.REFIN_CFG_LANE.get (d.held m.val (.refin r.val) 0x020) = Fld.REFIN_CFG_LANE.get v → exec (.refinCfgWrite m r v) ⟨d, q⟩ = .next ⟨(d.stored m.val (.refin r.val) 0x020 v).okay m.val, q⟩) ∧
    -- REFIN_CFG_WRITE (R270)
    (∀ (m : Master) (r : Fin 8) (v : Word), d.admits m.val (.refin r.val) 0x020 v = true → Fld.REFIN_CFG_LANE.get (d.held m.val (.refin r.val) 0x020) ≠ Fld.REFIN_CFG_LANE.get v → exec (.refinCfgWrite m r v) ⟨d, q⟩ = .next ⟨((d.stored m.val (.refin r.val) 0x020 v).refAbsent r.val).okay m.val, q⟩) ∧
    -- REFIN_CNT_CLR (R270)
    (∀ (m : Master) (r : Fin 8), d.admits m.val (.refin r.val) 0x044 1 = true → r.val ≠ 3 → exec (.refinCntClr m r) ⟨d, q⟩ = .next ⟨((d.stored m.val (.refin r.val) 0x044 1).setReg (regKey (.refin r.val) 0 0x040) 0).okay m.val, q⟩) ∧
    -- REFIN_CNT_CLR (R270)
    (∀ (m : Master), d.admits m.val (.refin 3) 0x044 1 = true → exec (.refinCntClr m 3) ⟨d, q⟩ = .next ⟨(((d.stored m.val (.refin 3) 0x044 1).setReg (regKey (.refin 3) 0 0x040) 0).setReg (regKey (.refin 3) 0 0x058) 0).okay m.val, q⟩) ∧
    -- TOD_MESSAGE (R272)
    (∀ (start gap : Nat) (bytes : List Byte), d.stopped = false → d.refState 3 ≠ 0 → (d.refState 3 = 1 ∨ start < 100000 ∨ 900000 < start ∨ 200 < gap ∨ bytes.length ≠ 8 ∨ crc8 (bytes.take 7) ≠ bytes.getD 7 0 ∨ (bytes.getD 0 0).toNat / 16 ≠ 0xA) → exec (.todMessage start gap bytes) ⟨d, q⟩ = .next ⟨(d.inc (.refin 3) .REFIN_TOD_CNT_CRC_ERR).setEvt (.refin 3) 12, q⟩) ∧
    -- TOD_MESSAGE (R272)
    (∀ (start gap : Nat) (bytes : List Byte), d.stopped = false → 2 ≤ d.refState 3 → 100000 ≤ start → start ≤ 900000 → gap ≤ 200 → bytes.length = 8 → crc8 (bytes.take 7) = bytes.getD 7 0 → (bytes.getD 0 0).toNat / 16 = 0xA → let seq : Nat := (bytes.getD 0 0).toNat % 16; let sec : Nat := (List.range 5).foldl (fun (a : Nat) (i : Nat) => a * 256 + (bytes.getD (1 + i) 0).toNat) 0; let go : Bool := (match (d.ref 3).todLast with | some (s, t) => seq == (s + 1) % 16 && sec == t + 1 | none => true); let locked : Bool := decide (128 ≤ (bytes.getD 6 0).toNat); let run : Nat := (if locked then (if go then (d.ref 3).todRun + 1 else 1) else 0); let e : Dev := (if go then d else (d.inc (.refin 3) .REFIN_TOD_CNT_SEQ_ERR).setEvt (.refin 3) 12); let f : Dev := (((e.setRef 3 { e.ref 3 with todLast := some (seq, sec), todRun := run }).wr (.refin 3) .REFIN_TOD_SEC_LO_SEC_LO (sec % 2 ^ 32)).wr (.refin 3) .REFIN_TOD_SEC_HI_SEC_HI (sec / 2 ^ 32)).wr (.refin 3) .REFIN_TOD_SEC_HI_FLAGS (bytes.getD 6 0).toNat; exec (.todMessage start gap bytes) ⟨d, q⟩ = .next ⟨(if go = false ∨ locked = false then f.setTod false else if 3 ≤ run then f.setTod true else f), q⟩) ∧
    -- TOD_TIMEOUT (R272)
    (d.stopped = false → exec (.todTimeout) ⟨d, q⟩ = .next ⟨(d.setRef 3 { d.ref 3 with todRun := 0 }).setTod false, q⟩) ∧
    -- REF_WTR_EXPIRY (R278)
    (∀ (r : Fin 8), d.stopped = false → (d.ref r.val).wtr = true → exec (.refWtrExpiry r) ⟨d, q⟩ = .next ⟨(d.setRef r.val { d.ref r.val with wtr := false }).tmuEval, q⟩)

/-- Timing unit: each command or event completes with the next state written out, where its conditions hold. The state after each command is written
out, so whatever it does not change stays. Conditions are on the state and the operands alone. (R269, R277, R278, R280, R283, R285, R293, R295,
R296, R70) -/
def Obligations.TimingUnitCommandsComplete : Prop :=
  ∀ (d : Dev) (q : List Instr),
    -- SEL_CFG_WRITE (R278)
    (∀ (m : Master) (v : Word), d.admits m.val .tmu 0x020 v = true → let e : Dev := d.stored m.val .tmu 0x020 v; let f : Dev := (if Fld.TMU_SEL_CFG_MANUAL.get (d.held m.val .tmu 0x020) ≠ Fld.TMU_SEL_CFG_MANUAL.get v then e.withTmu (fun (t : TmuI) => { t with cmd := true }) else e); exec (.selCfgWrite m v) ⟨d, q⟩ = .next ⟨(((f.refs.map Prod.fst).foldl (fun (y : Dev) r => if (y.ref r).wtr && decide (Fld.TMU_SEL_CFG_WTR.get v * 40000000 ≤ y.since (y.ref r).wtrAt) then y.setRef r { y.ref r with wtr := false } else y) f).tmuEval).okay m.val, q⟩) ∧
    -- PRIO_WRITE (R277)
    (∀ (m : Master) (v : Word), d.admits m.val .tmu 0x024 v = true → exec (.prioWrite m v) ⟨d, q⟩ = .next ⟨((d.stored m.val .tmu 0x024 v).tmuEval).okay m.val, q⟩) ∧
    -- TRANSITION_PHASE_CAPTURE (R280)
    (∀ (ph : Int), d.stopped = false → d.tf .TMU_STAT_TRANSITION = 1 → d.tmu.step = 1 → exec (.transitionPhaseCapture ph) ⟨d, q⟩ = .next ⟨d.withTmu (fun (t : TmuI) => { t with step := 2, phase := 256 * ph, ramp := some (d.xo.toNat, d.goalOf (d.tf .TMU_STAT_TARGET)) }), q⟩) ∧
    -- TRANSITION_LOOP_CLOSE (R280)
    (d.stopped = false → d.tf .TMU_STAT_TRANSITION = 1 → d.tmu.step = 2 → exec (.transitionLoopClose) ⟨d, q⟩ = .next ⟨d.withTmu (fun (t : TmuI) => { t with step := 3, dco := (t.ramp.map Prod.snd).getD t.dco, ramp := none }), q⟩) ∧
    -- TRANSITION_DONE (R280)
    (d.stopped = false → d.tf .TMU_STAT_TRANSITION = 1 → d.tmu.step = 3 → exec (.transitionDone) ⟨d, q⟩ = .next ⟨(let e := ((d.wr .tmu .TMU_STAT_SEL_REF (d.tf .TMU_STAT_TARGET)).wr .tmu .TMU_STAT_SEL_VALID 1).wr .tmu .TMU_STAT_TRANSITION 0; let e := e.withTmu (fun (t : TmuI) => { t with wasLocked := true, step := 0 }); let e := ((e.tmuEnter 2).wr .tmu .TMU_STAT_HOLDOVER_SHORT 0).thaw; ((e.showPbo e.tmu.phase).setEvt .tmu 9).tmuEval), q⟩) ∧
    -- CAL_CAPTURE (R285)
    (∀ (m : Master), d.admits m.val .tmu 0x038 1 = true → exec (.calCapture m) ⟨d, q⟩ = .next ⟨(let e := d.stored m.val .tmu 0x038 1; let c := meanOpen 7 e.tmu.valid; ((e.wr .tmu .TMU_XO_CAL_LO_LO (field32 c)).wr .tmu .TMU_XO_CAL_HI_HI (((c / 2 ^ 32) % 65536).toNat)).withTmu (fun (t : TmuI) => { t with cal := c })).okay m.val, q⟩) ∧
    -- HIST_CLR (R283)
    (∀ (m : Master), d.admits m.val .tmu 0x038 2 = true → exec (.histClr m) ⟨d, q⟩ = .next ⟨(((d.stored m.val .tmu 0x038 2).withTmu (fun (t : TmuI) => { t with hist := t.hist.map (fun (x : Nat × Option Int) => (x.1, none)) })).wr .tmu .TMU_HIST_VALID_N 0).okay m.val, q⟩) ∧
    -- XO_CAL_WRITE (R269)
    (∀ (m : Master) (v : Word), d.admits m.val .tmu 0x054 v = true → exec (.xoCalWrite m false v) ⟨d, q⟩ = .next ⟨(d.stored m.val .tmu 0x054 v).okay m.val, q⟩) ∧
    -- XO_CAL_WRITE (R269)
    (∀ (m : Master) (v : Word), d.admits m.val .tmu 0x058 v = true → exec (.xoCalWrite m true v) ⟨d, q⟩ = .next ⟨(let e := d.stored m.val .tmu 0x058 v; e.withTmu (fun (t : TmuI) => { t with cal := e.xoCal })).okay m.val, q⟩) ∧
    -- TMU_LO_READ (R70)
    (∀ (m : Master) (hold : Bool), d.stopped = false → d.permits m.val 6 false = true → exec (.tmuLoRead m hold) ⟨d, q⟩ = .next ⟨((d.passed m.val).tmuLoRead hold).respond m.val ⟨.okay, [BitVec.ofNat 32 (field32 (if hold then d.tmu.hold else d.dcoNow))]⟩, q⟩) ∧
    -- PHASE_STEP (R293)
    (∀ (m : Master) (v : Word), d.admits m.val .tmu 0x030 v = true → let e : Dev := d.stored m.val .tmu 0x030 v; let x : Int := signedOf 32 v.toNat; let f : Dev := (if e.phaseLeft + x = 0 then e.stepDone else e.setPhaseLeft (e.phaseLeft + x)); let g : Dev := f.withTmu (fun (t : TmuI) => { t with phase := if 2 ≤ t.step then t.phase + x else t.phase, winOk := false }); exec (.phaseStep m v) ⟨d, q⟩ = .next ⟨(if g.tf .TMU_STAT_STATE = 2 then g.showPbo (g.tmu.pbo + x) else g).okay m.val, q⟩) ∧
    -- STEP_DONE (R293)
    (d.stopped = false → d.tf .TMU_PHASE_LEFT_LEFT ≠ 0 → exec (.stepDone) ⟨d, q⟩ = .next ⟨(d.setPhaseLeft 0).setEvt .tmu 12, q⟩) ∧
    -- CLK_CFG_WRITE (R295)
    (∀ (m : Master) (v : Word), d.admits m.val .tmu 0x090 v = true → exec (.clkCfgWrite m v) ⟨d, q⟩ = .next ⟨(d.stored m.val .tmu 0x090 v).okay m.val, q⟩) ∧
    -- AUD_REALIGN (R296)
    (∀ (m : Master), d.admits m.val .tmu 0x074 1 = true → exec (.audRealign m) ⟨d, q⟩ = .next ⟨((d.stored m.val .tmu 0x074 1).withTmu (fun (t : TmuI) => { t with aud := true })).okay m.val, q⟩) ∧
    -- AUD_DONE (R296)
    (d.stopped = false → d.tmu.aud = true → d.phaseLeft = 0 → exec (.audDone) ⟨d, q⟩ = .next ⟨(d.withTmu (fun (t : TmuI) => { t with aud := false })).setEvt .tmu 13, q⟩)

/-- Timing domains: each command or event completes with the next state written out, where its conditions hold. The state after each command is
written out, so whatever it does not change stays. Conditions are on the state and the operands alone. (R286, R288, R289, R292, R293) -/
def Obligations.TimingDomainCommandsComplete : Prop :=
  ∀ (d : Dev) (q : List Instr),
    -- TDOM_FMT_WRITE (R286)
    (∀ (m : Master) (k : Fin 16) (v : Word), d.admits m.val (.tdom k.val) 0x020 v = true → let e : Dev := d.stored m.val (.tdom k.val) 0x020 v; exec (.tdomFmtWrite m k v) ⟨d, q⟩ = .next ⟨(if e.domFmt k.val ≠ d.domFmt k.val then e.domFollow k.val else if Fld.TDOM_FMT_FMT.get (d.held m.val (.tdom k.val) 0x020) ≠ Fld.TDOM_FMT_FMT.get v then e.fcntLoad k.val 0 else e).okay m.val, q⟩) ∧
    -- TDOM_ENABLE_WRITE (R286)
    (∀ (m : Master) (k : Fin 16) (v : Word), d.admits m.val (.tdom k.val) 0x008 v = true → Fld.PAGE_CTRL_SOFT_RESET.get v = 0 → let e : Dev := d.stored m.val (.tdom k.val) 0x008 v; exec (.tdomEnableWrite m k v) ⟨d, q⟩ = .next ⟨((if e.domFmt k.val ≠ d.domFmt k.val then e.domFollow k.val else e).keyed (.tdom k.val) v).okay m.val, q⟩) ∧
    -- TDOM_OFFSET_WRITE (R293)
    (∀ (m : Master) (k : Fin 16) (v : Word), d.admits m.val (.tdom k.val) 0x024 v = true → fmtOf ((d.stored m.val (.tdom k.val) 0x024 v).domFmt k.val) = none → exec (.tdomOffsetWrite m k v) ⟨d, q⟩ = .next ⟨(d.stored m.val (.tdom k.val) 0x024 v).okay m.val, q⟩) ∧
    -- TDOM_OFFSET_WRITE (R293)
    (∀ (m : Master) (k : Fin 16) (v : Word) (f : Fmt), d.admits m.val (.tdom k.val) 0x024 v = true → fmtOf ((d.stored m.val (.tdom k.val) 0x024 v).domFmt k.val) = some f → let o : Int := (((Fld.TDOM_OFFSET_VOFF.get v * f.len + Fld.TDOM_OFFSET_HOFF.get v : Nat) : Int) - ((Fld.TDOM_OFFSET_VOFF.get (d.held m.val (.tdom k.val) 0x024) * f.len + Fld.TDOM_OFFSET_HOFF.get (d.held m.val (.tdom k.val) 0x024) : Nat) : Int)) % ((f.len : Int) * f.lines); let off : Int := (if (f.len : Int) * f.lines < 2 * o then o - (f.len : Int) * f.lines else o); exec (.tdomOffsetWrite m k v) ⟨d, q⟩ = .next ⟨(let e := d.stored m.val (.tdom k.val) 0x024 v; (e.setDom k.val { e.dom k.val with offLeft := (e.dom k.val).offLeft + off * 10000000 }).slewSettle k.val).okay m.val, q⟩) ∧
    -- TDOM_SWLINE_WRITE (R288)
    (∀ (m : Master) (k : Fin 16) (v : Word), d.admits m.val (.tdom k.val) 0x028 v = true → exec (.tdomSwlineWrite m k v) ⟨d, q⟩ = .next ⟨(d.stored m.val (.tdom k.val) 0x028 v).okay m.val, q⟩) ∧
    -- JUMP (R292)
    (∀ (m : Master) (k : Fin 16) (frame : BitVec 16), d.admits m.val (.tdom k.val) 0x030 (BitVec.ofNat 32 (0x10000 + frame.toNat)) = true → exec (.jump m k frame) ⟨d, q⟩ = .next ⟨(let e := d.stored m.val (.tdom k.val) 0x030 (BitVec.ofNat 32 (0x10000 + frame.toNat)); (e.setDom k.val { e.dom k.val with jumpAt := frame.toNat }).wr (.tdom k.val) .TDOM_STAT_REALIGN 1).okay m.val, q⟩) ∧
    -- SLEW (R292)
    (∀ (m : Master) (k : Fin 16), d.admits m.val (.tdom k.val) 0x030 0x20000 = true → exec (.slew m k) ⟨d, q⟩ = .next ⟨(((d.stored m.val (.tdom k.val) 0x030 0x20000).wr (.tdom k.val) .TDOM_STAT_REALIGN 2).slewSettle k.val).okay m.val, q⟩) ∧
    -- CANCEL (R292)
    (∀ (m : Master) (k : Fin 16), d.admits m.val (.tdom k.val) 0x030 0x30000 = true → exec (.cancel m k) ⟨d, q⟩ = .next ⟨((d.stored m.val (.tdom k.val) 0x030 0x30000).realignEnd k.val true).okay m.val, q⟩) ∧
    -- REALIGN_JUMP_EXECUTE (R292)
    (∀ (k : Fin 16) (epoch : Nat), d.stopped = false → d.domFmt k.val ≠ 0 → d.jumpDue k.val = true → exec (.realignJumpExecute k epoch) ⟨d, q⟩ = .next ⟨(let e := (d.frameCount k.val 0 epoch).probeFrames k.val; ((e.fsFrameStart k.val (e.td k.val .TDOM_FCNT_FCNT)).shadowFrame k.val).outSettle), q⟩) ∧
    -- REALIGN_SLEW_DONE (R292)
    (∀ (k : Fin 16), d.stopped = false → d.td k.val .TDOM_STAT_REALIGN = 2 → d.phaseLeft = 0 → exec (.realignSlewDone k) ⟨d, q⟩ = .next ⟨(d.wr (.tdom k.val) .TDOM_ALIGN_ERR_ERR 0).realignEnd k.val false, q⟩) ∧
    -- FCNT_CLR (R289)
    (∀ (m : Master) (k : Fin 16), d.admits m.val (.tdom k.val) 0x03C 1 = true → exec (.fcntClr m k) ⟨d, q⟩ = .next ⟨(let e := (d.stored m.val (.tdom k.val) 0x03C 1).wr (.tdom k.val) .TDOM_FCNT_FCNT 0; e.setDom k.val { e.dom k.val with fired := none }).okay m.val, q⟩)

/-- Frame store and memory controllers: each command or event completes with the next state written out, where its conditions hold. The state after
each command is written out, so whatever it does not change stays. Conditions are on the state and the operands alone. (R298, R299, R302, R305,
R306, R309, R310, R311, R312, R315) -/
def Obligations.FrameStoreCommandsComplete : Prop :=
  ∀ (d : Dev) (q : List Instr),
    -- MEMC_ENABLE_WRITE (R298)
    (∀ (m : Master) (i : Fin 2) (v : Word), d.admits m.val (.memc i.val) 0x008 v = true → Fld.PAGE_CTRL_SOFT_RESET.get v = 0 → Fld.PAGE_CTRL_ENABLE.get (d.held m.val (.memc i.val) 0x008) = 0 → Fld.PAGE_CTRL_ENABLE.get v = 1 → let f : Dev := (d.stored m.val (.memc i.val) 0x008 v); let held : Option Word := (if i.val = 0 then f.pwr.memCfg else f.pwr.memCfgB); let g : Dev := { f with pwr := if i.val = 0 then { f.pwr with memCfg := none } else { f.pwr with memCfgB := none } }; exec (.memcEnableWrite m i v) ⟨d, q⟩ = .next ⟨(((if held ≠ none ∧ held ≠ some (g.memcCfg i.val) then g.memLoseOne i.val else g).wr (.memc i.val) .MEMC_STAT_STATE 1).keyed (.memc i.val) v).okay m.val, q⟩) ∧
    -- MEMC_ENABLE_WRITE (R298)
    (∀ (m : Master) (i : Fin 2) (v : Word), d.admits m.val (.memc i.val) 0x008 v = true → Fld.PAGE_CTRL_SOFT_RESET.get v = 0 → Fld.PAGE_CTRL_ENABLE.get (d.held m.val (.memc i.val) 0x008) = 1 → Fld.PAGE_CTRL_ENABLE.get v = 0 → exec (.memcEnableWrite m i v) ⟨d, q⟩ = .next ⟨((((d.stored m.val (.memc i.val) 0x008 v).wr (.memc i.val) .MEMC_STAT_STATE 0).wr (.memc i.val) .MEMC_STAT_DERATE 0).keyed (.memc i.val) v).okay m.val, q⟩) ∧
    -- MEMC_TRAIN_DONE (R298)
    (∀ (i : Fin 2) (fc : Fin 16), d.stopped = false → d.mc i.val .MEMC_STAT_STATE = 1 → exec (.memcTrainDone i true fc) ⟨d, q⟩ = .next ⟨(d.wr (.memc i.val) .MEMC_STAT_STATE 2).setEvt (.memc i.val) 8, q⟩) ∧
    -- MEMC_TRAIN_DONE (R298)
    (∀ (i : Fin 2) (fc : Fin 16), d.stopped = false → d.mc i.val .MEMC_STAT_STATE = 1 → exec (.memcTrainDone i false fc) ⟨d, q⟩ = .next ⟨((d.wr (.memc i.val) .MEMC_STAT_STATE 4).wr (.memc i.val) .MEMC_STAT_FAIL_CH fc.val).setEvt (.memc i.val) 9, q⟩) ∧
    -- MEMC_RETRAIN (R299)
    (∀ (i : Fin 2) (derate : Bool), d.stopped = false → d.mc i.val .MEMC_STAT_STATE = 2 → exec (.memcRetrain i derate) ⟨d, q⟩ = .next ⟨d.wrOn (.memc i.val) .MEMC_STAT_DERATE derate, q⟩) ∧
    -- CH_CFG_WRITE (R302)
    (∀ (m : Master) (v : Word), d.admits m.val .fst 0x024 v = true → let f : Dev := (d.stored m.val .fst 0x024 v); let c : Nat := f.rd .fst .FST_CH_SEL_CH; Fld.FST_CH_CFG_ENABLE.get (d.held m.val .fst 0x024) = 0 → Fld.FST_CH_CFG_ENABLE.get v = 1 → let x : ChanConf := (f.setChan c { f.chan c with conf := none }).chConf c; exec (.chCfgWrite m v) ⟨d, q⟩ = .next ⟨(((f.reserve (Fld.FST_CH_CFG_MEMC.get x.cfg) x.cost).setChan c { f.chan c with start := some x }).txFollow).okay m.val, q⟩) ∧
    -- CH_CFG_WRITE (R302)
    (∀ (m : Master) (v : Word), d.admits m.val .fst 0x024 v = true → let f : Dev := (d.stored m.val .fst 0x024 v); let c : Nat := f.rd .fst .FST_CH_SEL_CH; Fld.FST_CH_CFG_ENABLE.get (d.held m.val .fst 0x024) = 1 → Fld.FST_CH_CFG_ENABLE.get v = 0 → (f.chan c).start = none → (f.chan c).isOn = true → f.chFmt c ≠ 0 → exec (.chCfgWrite m v) ⟨d, q⟩ = .next ⟨(f.setChan c { f.chan c with stop := true }).txFollow.okay m.val, q⟩) ∧
    -- CH_CFG_WRITE (R302)
    (∀ (m : Master) (v : Word), d.admits m.val .fst 0x024 v = true → let f : Dev := (d.stored m.val .fst 0x024 v); let c : Nat := f.rd .fst .FST_CH_SEL_CH; Fld.FST_CH_CFG_ENABLE.get (d.held m.val .fst 0x024) = 1 → Fld.FST_CH_CFG_ENABLE.get v = 0 → (f.chan c).start = none → ((f.chan c).isOn = false ∨ f.chFmt c = 0) → exec (.chCfgWrite m v) ⟨d, q⟩ = .next ⟨(f.chOff c).txFollow.okay m.val, q⟩) ∧
    -- CH_CFG_WRITE (R302)
    (∀ (m : Master) (v : Word), d.admits m.val .fst 0x024 v = true → let f : Dev := (d.stored m.val .fst 0x024 v); let c : Nat := f.rd .fst .FST_CH_SEL_CH; Fld.FST_CH_CFG_ENABLE.get (d.held m.val .fst 0x024) = 1 → Fld.FST_CH_CFG_ENABLE.get v = 0 → (f.chan c).start ≠ none → exec (.chCfgWrite m v) ⟨d, q⟩ = .next ⟨((f.confRelease (f.chan c).start).setChan c { f.chan c with start := none }).txFollow.okay m.val, q⟩) ∧
    -- CH_CFG_WRITE (R302)
    (∀ (m : Master) (v : Word), d.admits m.val .fst 0x024 v = true → Fld.FST_CH_CFG_ENABLE.get (d.held m.val .fst 0x024) = Fld.FST_CH_CFG_ENABLE.get v → exec (.chCfgWrite m v) ⟨d, q⟩ = .next ⟨(d.stored m.val .fst 0x024 v).txFollow.okay m.val, q⟩) ∧
    -- FS_FRAME_WRITTEN (R305)
    (∀ (c : Fin 256), d.stopped = false → (d.chan c.val).isOn = true → (d.chan c.val).lead = some c.val → (d.chan c.val).writing = true → d.chInput c.val = true → (d.chMembers c.val).all (fun (y : Nat) => (d.chan y).wline == fmtLines (d.chFmt c.val)) = true → exec (.fsFrameWritten c) ⟨d, q⟩ = .next ⟨(let f := d.chBreak c.val; f.setChan c.val { f.chan c.val with newest := (d.chan c.val).newest + 1, ready := true }).txFollow, q⟩) ∧
    -- FS_FRAME_WRITTEN (R305)
    (∀ (c : Fin 256), d.stopped = false → (d.chan c.val).isOn = true → (d.chan c.val).lead = some c.val → (d.chan c.val).writing = true → d.chInput c.val = false → exec (.fsFrameWritten c) ⟨d, q⟩ = .next ⟨(d.chBreak c.val).txFollow, q⟩) ∧
    -- FREEZE (R306)
    (∀ (m : Master), d.admits m.val .fst 0x030 0x10000 = true → let f : Dev := (d.stored m.val .fst 0x030 0x10000); let c : Nat := f.rd .fst .FST_CH_SEL_CH; c < 256 → (f.chan (f.chLead c)).isOn = true → f.chState (f.chLead c) = 2 → exec (.freeze m) ⟨d, q⟩ = .next ⟨(f.wrB .fst (f.chLead c) .FST_CH_STAT_STATE 5).txFollow.okay m.val, q⟩) ∧
    -- UNFREEZE (R306)
    (∀ (m : Master), d.admits m.val .fst 0x030 0x20000 = true → let f : Dev := (d.stored m.val .fst 0x030 0x20000); let c : Nat := f.rd .fst .FST_CH_SEL_CH; c < 256 → (f.chan (f.chLead c)).isOn = true → f.chState (f.chLead c) = 5 → exec (.unfreeze m) ⟨d, q⟩ = .next ⟨(f.setChan (f.chLead c) { f.chan (f.chLead c) with cmd := 2 }).txFollow.okay m.val, q⟩) ∧
    -- PLAY (R309)
    (∀ (m : Master), d.admits m.val .fst 0x030 0x10000 = true → let f : Dev := (d.stored m.val .fst 0x030 0x10000); let c : Nat := f.rd .fst .FST_CH_SEL_CH; ¬ c < 256 → c < 288 → (f.chan (f.chLead c)).isOn = true → exec (.play m) ⟨d, q⟩ = .next ⟨(f.setChan (f.chLead c) { f.chan (f.chLead c) with cmd := 1, playAt := 0 }).txFollow.okay m.val, q⟩) ∧
    -- STOP (R309)
    (∀ (m : Master), d.admits m.val .fst 0x030 0x20000 = true → let f : Dev := (d.stored m.val .fst 0x030 0x20000); let c : Nat := f.rd .fst .FST_CH_SEL_CH; ¬ c < 256 → c < 288 → (f.chan (f.chLead c)).isOn = true → exec (.stop m) ⟨d, q⟩ = .next ⟨(f.setChan (f.chLead c) { f.chan (f.chLead c) with cmd := 2, playAt := 0 }).txFollow.okay m.val, q⟩) ∧
    -- PLAY_AT (R309)
    (∀ (m : Master) (frame : BitVec 16), d.admits m.val .fst 0x030 (BitVec.ofNat 32 (0x30000 + frame.toNat)) = true → let f : Dev := (d.stored m.val .fst 0x030 (BitVec.ofNat 32 (0x30000 + frame.toNat))); let c : Nat := f.rd .fst .FST_CH_SEL_CH; ¬ c < 256 → c < 288 → (f.chan (f.chLead c)).isOn = true → exec (.playAt m frame) ⟨d, q⟩ = .next ⟨(f.setChan (f.chLead c) { f.chan (f.chLead c) with cmd := 3, playAt := frame.toNat }).txFollow.okay m.val, q⟩) ∧
    -- CAPTURE_START (R310)
    (∀ (m : Master), d.admits m.val .fst 0x030 0x10000 = true → let f : Dev := (d.stored m.val .fst 0x030 0x10000); let c : Nat := f.rd .fst .FST_CH_SEL_CH; ¬ c < 256 → ¬ c < 288 → (f.chan (f.chLead c)).isOn = true → exec (.captureStart m) ⟨d, q⟩ = .next ⟨(f.setChan (f.chLead c) { f.chan (f.chLead c) with cmd := 1 }).txFollow.okay m.val, q⟩) ∧
    -- CAPTURE_STOP (R310)
    (∀ (m : Master), d.admits m.val .fst 0x030 0x20000 = true → let f : Dev := (d.stored m.val .fst 0x030 0x20000); let c : Nat := f.rd .fst .FST_CH_SEL_CH; ¬ c < 256 → ¬ c < 288 → (f.chan (f.chLead c)).isOn = true → f.chState (f.chLead c) = 2 → exec (.captureStop m) ⟨d, q⟩ = .next ⟨(f.setChan (f.chLead c) { f.chan (f.chLead c) with cmd := 2 }).txFollow.okay m.val, q⟩) ∧
    -- DL_CFG_WRITE (R311)
    (∀ (m : Master) (v : Word), d.admits m.val .fst 0x054 v = true → let f : Dev := (d.stored m.val .fst 0x054 v); let i : Nat := f.rd .fst .FST_DL_SEL_LINE; Fld.FST_DL_CFG_ENABLE.get (d.held m.val .fst 0x054) = 0 → Fld.FST_DL_CFG_ENABLE.get v = 1 → exec (.dlCfgWrite m v) ⟨d, q⟩ = .next ⟨((f.reserve (dlMemc i) 1).setDelay i {}).txFollow.okay m.val, q⟩) ∧
    -- DL_CFG_WRITE (R311)
    (∀ (m : Master) (v : Word), d.admits m.val .fst 0x054 v = true → let f : Dev := (d.stored m.val .fst 0x054 v); let i : Nat := f.rd .fst .FST_DL_SEL_LINE; Fld.FST_DL_CFG_ENABLE.get (d.held m.val .fst 0x054) = 1 → Fld.FST_DL_CFG_ENABLE.get v = 1 → Fld.FST_DL_CFG_DELAY.get (d.held m.val .fst 0x054) ≠ Fld.FST_DL_CFG_DELAY.get v → exec (.dlCfgWrite m v) ⟨d, q⟩ = .next ⟨(f.setDelay i { f.delay i with oldDelay := Fld.FST_DL_CFG_DELAY.get (d.held m.val .fst 0x054), ramp := 0 }).txFollow.okay m.val, q⟩) ∧
    -- DL_CFG_WRITE (R311)
    (∀ (m : Master) (v : Word), d.admits m.val .fst 0x054 v = true → let f : Dev := (d.stored m.val .fst 0x054 v); let i : Nat := f.rd .fst .FST_DL_SEL_LINE; Fld.FST_DL_CFG_ENABLE.get (d.held m.val .fst 0x054) = 1 → Fld.FST_DL_CFG_ENABLE.get v = 0 → exec (.dlCfgWrite m v) ⟨d, q⟩ = .next ⟨((f.reserve (dlMemc i) (-1)).setDelay i {}).txFollow.okay m.val, q⟩) ∧
    -- APERTURE_BASE_WRITE (R315)
    (∀ (m : Master) (v : Word), d.admits m.val .fst 0x064 v = true → exec (.apertureBaseWrite m v) ⟨d, q⟩ = .next ⟨(d.stored m.val .fst 0x064 v).txFollow.okay m.val, q⟩) ∧
    -- FST_CNT_CLR (R312)
    (∀ (m : Master), d.admits m.val .fst 0x068 1 = true → exec (.fstCntClr m) ⟨d, q⟩ = .next ⟨((d.stored m.val .fst 0x068 1).fstCntClr).txFollow.okay m.val, q⟩)

/-- Walls: each command or event completes with the next state written out, where its conditions hold. The state after each command is written out,
so whatever it does not change stays. Conditions are on the state and the operands alone. (R320, R321, R322, R324, R325, R326, R327, R328) -/
def Obligations.WallCommandsComplete : Prop :=
  ∀ (d : Dev) (q : List Instr),
    -- GIVE_UP (R324)
    (∀ (m : Master) (w : Fin 2), d.admits m.val (.wall w.val) 0x024 1 = true → (d.stored m.val (.wall w.val) 0x024 1).wallState w.val ≠ 2 → exec (.giveUp m w) ⟨d, q⟩ = .next ⟨((((d.stored m.val (.wall w.val) 0x024 1).wallFail w.val 1 true).wallsSettle).txFollow).okay m.val, q⟩) ∧
    -- WALL_ENABLE_WRITE (R324)
    (∀ (m : Master) (w : Fin 2) (v : Word), d.admits m.val (.wall w.val) 0x008 v = true → Fld.PAGE_CTRL_SOFT_RESET.get v = 0 → Fld.PAGE_CTRL_ENABLE.get (d.held m.val (.wall w.val) 0x008) = 1 → Fld.PAGE_CTRL_ENABLE.get v = 0 → (d.stored m.val (.wall w.val) 0x008 v).wallState w.val ≠ 2 → exec (.wallEnableWrite m w v) ⟨d, q⟩ = .next ⟨(((((d.stored m.val (.wall w.val) 0x008 v).wallFail w.val 1 true).wallsSettle).txFollow).keyed (.wall w.val) v).okay m.val, q⟩) ∧
    -- WALL_ENABLE_WRITE (R324)
    (∀ (m : Master) (w : Fin 2) (v : Word), d.admits m.val (.wall w.val) 0x008 v = true → Fld.PAGE_CTRL_SOFT_RESET.get v = 0 → Fld.PAGE_CTRL_ENABLE.get v = 1 → exec (.wallEnableWrite m w v) ⟨d, q⟩ = .next ⟨(((d.stored m.val (.wall w.val) 0x008 v).txFollow).keyed (.wall w.val) v).okay m.val, q⟩) ∧
    -- WALL_SELF_DIAG_FAILURE (R321)
    (∀ (w : Fin 2), d.stopped = false → exec (.wallSelfDiagFailure w .corrected) ⟨d, q⟩ = .next ⟨((d.inc (.wall w.val) .WALL_ECC_CNT_CORR).setEvt (.wall w.val) 11).txFollow, q⟩) ∧
    -- WALL_SELF_DIAG_FAILURE (R321)
    (∀ (w : Fin 2), d.stopped = false → exec (.wallSelfDiagFailure w .ecc2) ⟨d, q⟩ = .next ⟨((d.inc (.wall w.val) .WALL_ECC_CNT_UNCORR).diagFail w.val 2).txFollow, q⟩) ∧
    -- WALL_SELF_DIAG_FAILURE (R321)
    (∀ (w : Fin 2), d.stopped = false → exec (.wallSelfDiagFailure w .crc) ⟨d, q⟩ = .next ⟨((d.inc (.wall w.val) .WALL_ERR_CNT_CRC).diagFail w.val 3).txFollow, q⟩) ∧
    -- WALL_SELF_DIAG_FAILURE (R321)
    (∀ (w : Fin 2) (n : Nat), d.stopped = false → exec (.wallSelfDiagFailure w (.parity n)) ⟨d, q⟩ = .next ⟨(if d.rd (.wall w.val) .WALL_DIAG_CFG_PAR_LIMIT < n then d.diagFail w.val 4 else d).txFollow, q⟩) ∧
    -- WALL_SELF_DIAG_FAILURE (R321)
    (∀ (w : Fin 2), d.stopped = false → exec (.wallSelfDiagFailure w .watchdog) ⟨d, q⟩ = .next ⟨(d.diagFail w.val 5).txFollow, q⟩) ∧
    -- WALL_SELF_DIAG_FAILURE (R321)
    (∀ (w : Fin 2) (n : Nat), d.stopped = false → n < 2 → exec (.wallSelfDiagFailure w (.probe n)) ⟨d, q⟩ = .next ⟨(d.add (.wall w.val) .WALL_PROBE_ERR_COUNT n).txFollow, q⟩) ∧
    -- WALL_SELF_DIAG_FAILURE (R321)
    (∀ (w : Fin 2) (n : Nat), d.stopped = false → 2 ≤ n → exec (.wallSelfDiagFailure w (.probe n)) ⟨d, q⟩ = .next ⟨((d.add (.wall w.val) .WALL_PROBE_ERR_COUNT n).diagFail w.val 6).txFollow, q⟩) ∧
    -- CROSS_COMPARE_MISMATCH (R322)
    (∀ (kind : Fin 4) (index : Fin 65536) (a : Nat), d.stopped = false → d.gateWall = some a → d.wallEff (otherWall a) ≠ 0 → ((d.inc .cgate .CGATE_MM_SEEN_COUNT).setEvt .cgate 11).wallState (otherWall a) = 5 → exec (.crossCompareMismatch kind index) ⟨d, q⟩ = .next ⟨((((d.inc .cgate .CGATE_MM_SEEN_COUNT).setEvt .cgate 11).giveUp (otherWall a) 8)).txFollow, q⟩) ∧
    -- CROSS_COMPARE_MISMATCH (R322)
    (∀ (kind : Fin 4) (index : Fin 65536) (a : Nat), d.stopped = false → d.gateWall = some a → d.wallEff (otherWall a) ≠ 0 → ((d.inc .cgate .CGATE_MM_SEEN_COUNT).setEvt .cgate 11).wallState (otherWall a) = 1 → ((d.inc .cgate .CGATE_MM_SEEN_COUNT).setEvt .cgate 11).gates.testing = none → exec (.crossCompareMismatch kind index) ⟨d, q⟩ = .next ⟨((((d.inc .cgate .CGATE_MM_SEEN_COUNT).setEvt .cgate 11).selfTest (kind.val * 65536 + index.val))).txFollow, q⟩) ∧
    -- CROSS_COMPARE_MISMATCH (R322)
    (∀ (kind : Fin 4) (index : Fin 65536) (a : Nat), d.stopped = false → d.gateWall = some a → d.wallEff (otherWall a) ≠ 0 → let e : Dev := (d.inc .cgate .CGATE_MM_SEEN_COUNT).setEvt .cgate 11; e.wallState (otherWall a) = 1 → e.gates.testing ≠ none → exec (.crossCompareMismatch kind index) ⟨d, q⟩ = .next ⟨({ e with gates := { e.gates with again := some (kind.val * 65536 + index.val) } } : Dev).txFollow, q⟩) ∧
    -- SELFTEST_DONE (R322)
    (∀ (failA failB : Bool) (path : Nat), d.stopped = false → d.gates.testing = some path → let e : Dev := (((({ d with gates := { d.gates with testing := none } } : Dev).wr .cgate .CGATE_STAT_SELFTEST 0).wr .cgate .CGATE_MM_LAST_KIND (path / 65536)).wr .cgate .CGATE_MM_LAST_INDEX (path % 65536)).wr .cgate .CGATE_MM_LAST_RESULT ((if failA then 1 else 0) + (if failB then 2 else 0)); (failA || failB) = true → let f : Dev := (if failA = true ∧ e.wallState 0 ≠ 2 then e.wallFail 0 7 true else e); let g : Dev := (if failB = true ∧ f.wallState 1 ≠ 2 then f.wallFail 1 7 true else f).wallsSettle; exec (.selftestDone failA failB) ⟨d, q⟩ = .next ⟨(match g.gates.again with | some p => g.selfTest p | none => g).txFollow, q⟩) ∧
    -- SELFTEST_DONE (R322)
    (∀ (path : Nat), d.stopped = false → d.gates.testing = some path → let e : Dev := ((((({ d with gates := { d.gates with testing := none } } : Dev).wr .cgate .CGATE_STAT_SELFTEST 0).wr .cgate .CGATE_MM_LAST_KIND (path / 65536)).wr .cgate .CGATE_MM_LAST_INDEX (path % 65536)).wr .cgate .CGATE_MM_LAST_RESULT 0).inc .cgate .CGATE_MM_CNT_COUNT; e.rd .cgate .CGATE_CFG_MM_POLICY ≠ 1 → let g : Dev := e.wallsSettle; exec (.selftestDone false false) ⟨d, q⟩ = .next ⟨(match g.gates.again with | some p => g.selfTest p | none => g).txFollow, q⟩) ∧
    -- GATE_SAFE_STATE (R320)
    (∀ (t : Fin 1472), d.stopped = false → d.acceptedWall = none → d.outRuns t.val = true → (d.tc t.val).safe = false → d.outDom t.val = none → exec (.gateSafeState t) ⟨d, q⟩ = .next ⟨(d.inc .cgate .CGATE_SAFE_CNT_COUNT).setTc t.val { d.tc t.val with safe := true }, q⟩) ∧
    -- GATE_SAFE_STATE (R320)
    (∀ (t : Fin 1472) (k : Nat), d.stopped = false → d.acceptedWall = none → d.outRuns t.val = true → (d.tc t.val).safe = false → d.outDom t.val = some k → fmtLines (d.domFmt k) ≤ (d.tc t.val).zeroed → exec (.gateSafeState t) ⟨d, q⟩ = .next ⟨(d.inc .cgate .CGATE_SAFE_CNT_COUNT).setTc t.val { d.tc t.val with safe := true }, q⟩) ∧
    -- WALL_RESET (R325)
    (∀ (m : Master) (w : Fin 2), d.admits m.val (.wall w.val) 0x024 4 = true → exec (.wallReset m w) ⟨d, q⟩ = .next ⟨(((d.stored m.val (.wall w.val) 0x024 4).wallReset w.val).txFollow).okay m.val, q⟩) ∧
    -- REJOIN (R326)
    (∀ (m : Master) (w : Fin 2), d.admits m.val (.wall w.val) 0x024 2 = true → exec (.rejoin m w) ⟨d, q⟩ = .next ⟨(((d.stored m.val (.wall w.val) 0x024 2).rejoinStart w.val).txFollow).okay m.val, q⟩) ∧
    -- REJOIN_BIST_DONE (R326)
    (∀ (w : Fin 2) (tiles ancs slots : List Nat), d.stopped = false → d.wallState w.val = 3 → d.gates.noCopy.contains w.val = false → exec (.rejoinBistDone w true tiles ancs slots) ⟨d, q⟩ = .next ⟨((d.setWallState w.val 4).wallsSettle).txFollow, q⟩) ∧
    -- REJOIN_BIST_DONE (R326)
    (∀ (w : Fin 2) (tiles ancs slots : List Nat), d.stopped = false → d.wallState w.val = 3 → d.gates.noCopy.contains w.val = true → d.wallEff (otherWall w.val) = 0 → exec (.rejoinBistDone w true tiles ancs slots) ⟨d, q⟩ = .next ⟨(let e := { d with gates := { d.gates with noCopy := d.gates.noCopy.filter (fun (x : Nat) => x != w.val) } }; (((e.crcClear w.val tiles ancs slots).setWallState w.val 0).wallsSettle).txFollow), q⟩) ∧
    -- REJOIN_BIST_DONE (R326)
    (∀ (w : Fin 2) (tiles ancs slots : List Nat), d.stopped = false → d.wallState w.val = 3 → exec (.rejoinBistDone w false tiles ancs slots) ⟨d, q⟩ = .next ⟨((d.wallFail w.val 9 false).wallsSettle).txFollow, q⟩) ∧
    -- REJOIN_COPY_DONE (R326)
    (∀ (w : Fin 2) (us passes : Nat), d.stopped = false → d.wallState w.val = 4 → d.wallEff (otherWall w.val) ≠ 0 → exec (.rejoinCopyDone w us passes) ⟨d, q⟩ = .next ⟨(let e := d.wallCopy (otherWall w.val) w.val; let e := (e.wr (.wall w.val) .WALL_REJOIN_STAT_COPY_US (min us 65535)).wr (.wall w.val) .WALL_REJOIN_STAT_PASSES (min passes 15); let e := { e with gates := { e.gates with shadow := e.shadowWait } }; ((e.setWallState w.val 5).wallsSettle).txFollow), q⟩) ∧
    -- REJOIN_COPY_TIMEOUT (R326)
    (∀ (w : Fin 2), d.stopped = false → d.wallState w.val = 4 → exec (.rejoinCopyTimeout w) ⟨d, q⟩ = .next ⟨((d.wallFail w.val 10 false).wallsSettle).txFollow, q⟩) ∧
    -- REJOIN_SHADOW_DONE (R326)
    (∀ (w : Fin 2), d.stopped = false → d.wallState w.val = 5 → d.shadowOver = true → exec (.rejoinShadowDone w) ⟨d, q⟩ = .next ⟨(let e := d.setWallState w.val 1; let e := { e with gates := { e.gates with capped := w.val :: e.gates.capped } }; ((e.setEvt (.wall w.val) 9).wallsSettle).txFollow), q⟩) ∧
    -- CLAIM_CONFIG_WRITE (R330)
    (∀ (m : Master) (w : Fin 2) (v : Word), d.admits m.val (.wall w.val) 0x020 v = true → exec (.claimConfigWrite m w v) ⟨d, q⟩ = .next ⟨(((d.stored m.val (.wall w.val) 0x020 v).wallsSettle).txFollow).okay m.val, q⟩) ∧
    -- WALL_CNT_CLR (R321)
    (∀ (m : Master) (w : Fin 2), d.admits m.val (.wall w.val) 0x024 8 = true → exec (.wallCntClr m w) ⟨d, q⟩ = .next ⟨(((((((((d.stored m.val (.wall w.val) 0x024 8).wr (.wall w.val) .WALL_ECC_CNT_CORR 0).wr (.wall w.val) .WALL_ECC_CNT_UNCORR 0).wr (.wall w.val) .WALL_ERR_CNT_CRC 0).wr (.wall w.val) .WALL_ERR_CNT_PARITY 0).wr (.wall w.val) .WALL_PROBE_ERR_COUNT 0).wr (.wall w.val) .WALL_LATE_COUNT 0).txFollow)).okay m.val, q⟩)

/-- Claim gates: each command or event completes with the next state written out, where its conditions hold. The state after each command is written
out, so whatever it does not change stays. Conditions are on the state and the operands alone. (R322, R329) -/
def Obligations.ClaimGateCommandsComplete : Prop :=
  ∀ (d : Dev) (q : List Instr),
    -- SWAP_ARM (R329)
    (∀ (m : Master) (k : Fin 16), d.admits m.val .cgate 0x024 (BitVec.ofNat 32 (0x10000 + k.val)) = true → exec (.swapArm m k) ⟨d, q⟩ = .next ⟨(let e := (d.stored m.val .cgate 0x024 (BitVec.ofNat 32 (0x10000 + k.val))); ({ e with gates := { e.gates with swap := some (k.val, e.xo.toNat) } } : Dev).wr .cgate .CGATE_STAT_SWAP_PEND 1).okay m.val, q⟩) ∧
    -- SWAP_CANCEL (R329)
    (∀ (m : Master), d.admits m.val .cgate 0x024 0x20000 = true → (d.stored m.val .cgate 0x024 0x20000).gates.swap = none → exec (.swapCancel m) ⟨d, q⟩ = .next ⟨(d.stored m.val .cgate 0x024 0x20000).okay m.val, q⟩) ∧
    -- SWAP_CANCEL (R329)
    (∀ (m : Master), d.admits m.val .cgate 0x024 0x20000 = true → (d.stored m.val .cgate 0x024 0x20000).gates.swap ≠ none → exec (.swapCancel m) ⟨d, q⟩ = .next ⟨((d.stored m.val .cgate 0x024 0x20000).swapEnd true).okay m.val, q⟩) ∧
    -- SWAP_EXECUTE (R329)
    (∀ (k : Fin 16) (t : Nat), d.stopped = false → d.gates.swap = some (k.val, t) → d.deferring = false → d.setup ≤ d.since t → exec (.swapExecute k) ⟨d, q⟩ = .next ⟨(let e := (d.setWallState d.swapTarget 0).setWallState (otherWall d.swapTarget) 1; let e := { e with gates := { e.gates with capped := otherWall d.swapTarget :: e.gates.capped } }; ((e.swapEnd false).wallsSettle).txFollow), q⟩) ∧
    -- CGATE_CNT_CLR (R322)
    (∀ (m : Master), d.admits m.val .cgate 0x040 1 = true → exec (.cgateCntClr m) ⟨d, q⟩ = .next ⟨(((((d.stored m.val .cgate 0x040 1).wr .cgate .CGATE_MM_CNT_COUNT 0).wr .cgate .CGATE_MM_SEEN_COUNT 0).wr .cgate .CGATE_ALT_CNT_COUNT 0).wr .cgate .CGATE_SAFE_CNT_COUNT 0).okay m.val, q⟩)

/-- Line-engine arithmetic: each instruction writes its result and goes to the next instruction. The state after each command is written out, so
whatever it does not change stays. Conditions are on the state and the operands alone. (R333, R340, R341, R345) -/
def Obligations.EngineArithmeticComplete : Prop :=
  ∀ (d : Dev) (q : List Instr),
    -- NOP (R341)
    (∀ (n : Fin 144), d.meets n.val 0x00 = true → exec (.nop n) ⟨d, q⟩ = .next ⟨(let e := d.billed n.val 0x00; e.nextPc n.val), q⟩) ∧
    -- ADD (R341)
    (∀ (n : Fin 144), d.meets n.val 0x01 = true → exec (.add n) ⟨d, q⟩ = .next ⟨(let e := d.billed n.val 0x01; let w := d.fetch n.val; e.result n.val w (e.greg n.val (iA w) + e.greg n.val (iB w))), q⟩) ∧
    -- SUB (R341)
    (∀ (n : Fin 144), d.meets n.val 0x02 = true → exec (.sub n) ⟨d, q⟩ = .next ⟨(let e := d.billed n.val 0x02; let w := d.fetch n.val; e.result n.val w (e.greg n.val (iA w) - e.greg n.val (iB w))), q⟩) ∧
    -- AND (R341)
    (∀ (n : Fin 144), d.meets n.val 0x03 = true → exec (.and n) ⟨d, q⟩ = .next ⟨(let e := d.billed n.val 0x03; let w := d.fetch n.val; e.result n.val w (e.greg n.val (iA w) &&& e.greg n.val (iB w))), q⟩) ∧
    -- OR (R341)
    (∀ (n : Fin 144), d.meets n.val 0x04 = true → exec (.or n) ⟨d, q⟩ = .next ⟨(let e := d.billed n.val 0x04; let w := d.fetch n.val; e.result n.val w (e.greg n.val (iA w) ||| e.greg n.val (iB w))), q⟩) ∧
    -- XOR (R341)
    (∀ (n : Fin 144), d.meets n.val 0x05 = true → exec (.xor n) ⟨d, q⟩ = .next ⟨(let e := d.billed n.val 0x05; let w := d.fetch n.val; e.result n.val w (e.greg n.val (iA w) ^^^ e.greg n.val (iB w))), q⟩) ∧
    -- SHL (R341)
    (∀ (n : Fin 144), d.meets n.val 0x06 = true → exec (.shl n) ⟨d, q⟩ = .next ⟨(let e := d.billed n.val 0x06; let w := d.fetch n.val; e.result n.val w (e.greg n.val (iA w) <<< ((e.greg n.val (iB w)).toNat % 32))), q⟩) ∧
    -- SHR (R341)
    (∀ (n : Fin 144), d.meets n.val 0x07 = true → exec (.shr n) ⟨d, q⟩ = .next ⟨(let e := d.billed n.val 0x07; let w := d.fetch n.val; e.result n.val w (e.greg n.val (iA w) >>> ((e.greg n.val (iB w)).toNat % 32))), q⟩) ∧
    -- ADDI (R341)
    (∀ (n : Fin 144), d.meets n.val 0x08 = true → exec (.addi n) ⟨d, q⟩ = .next ⟨(let e := d.billed n.val 0x08; let w := d.fetch n.val; e.result n.val w (e.greg n.val (iA w) + (w.extractLsb' 0 14).signExtend 32)), q⟩) ∧
    -- ANDI (R341)
    (∀ (n : Fin 144), d.meets n.val 0x09 = true → exec (.andi n) ⟨d, q⟩ = .next ⟨(let e := d.billed n.val 0x09; let w := d.fetch n.val; e.result n.val w (e.greg n.val (iA w) &&& BitVec.ofNat 32 (w.toNat % 2 ^ 14))), q⟩) ∧
    -- ORI (R341)
    (∀ (n : Fin 144), d.meets n.val 0x0A = true → exec (.ori n) ⟨d, q⟩ = .next ⟨(let e := d.billed n.val 0x0A; let w := d.fetch n.val; e.result n.val w (e.greg n.val (iA w) ||| BitVec.ofNat 32 (w.toNat % 2 ^ 14))), q⟩) ∧
    -- SHLI (R341)
    (∀ (n : Fin 144), d.meets n.val 0x0B = true → exec (.shli n) ⟨d, q⟩ = .next ⟨(let e := d.billed n.val 0x0B; let w := d.fetch n.val; e.result n.val w (e.greg n.val (iA w) <<< (w.toNat % 2 ^ 14 % 32))), q⟩) ∧
    -- SHRI (R341)
    (∀ (n : Fin 144), d.meets n.val 0x0C = true → exec (.shri n) ⟨d, q⟩ = .next ⟨(let e := d.billed n.val 0x0C; let w := d.fetch n.val; e.result n.val w (e.greg n.val (iA w) >>> (w.toNat % 2 ^ 14 % 32))), q⟩) ∧
    -- LUI (R341)
    (∀ (n : Fin 144), d.meets n.val 0x0D = true → exec (.lui n) ⟨d, q⟩ = .next ⟨(let e := d.billed n.val 0x0D; let w := d.fetch n.val; e.result n.val w (BitVec.ofNat 32 (i18 w * 2 ^ 14))), q⟩) ∧
    -- EXT (R341)
    (∀ (n : Fin 144), d.meets n.val 0x0E = true → exec (.ext n) ⟨d, q⟩ = .next ⟨(let e := d.billed n.val 0x0E; let w := d.fetch n.val; e.result n.val w ((e.greg n.val (iA w) >>> (iZ w % 32)) &&& lowMask (iZ w / 32 % 32 + 1))), q⟩) ∧
    -- INS (R341)
    (∀ (n : Fin 144), d.meets n.val 0x0F = true → exec (.ins n) ⟨d, q⟩ = .next ⟨(let e := d.billed n.val 0x0F; let w := d.fetch n.val; e.result n.val w ((e.greg n.val (iD w) &&& ~~~(lowMask (iZ w / 32 % 32 + 1) <<< (iZ w % 32))) ||| ((e.greg n.val (iA w) <<< (iZ w % 32)) &&& (lowMask (iZ w / 32 % 32 + 1) <<< (iZ w % 32))))), q⟩) ∧
    -- PAR (R341)
    (∀ (n : Fin 144), d.meets n.val 0x22 = true → exec (.par n) ⟨d, q⟩ = .next ⟨(let e := d.billed n.val 0x22; let w := d.fetch n.val; e.result n.val w ((parityWord ((e.greg n.val (iA w)).toNat % 256)).setWidth 32)), q⟩) ∧
    -- CRC (R341)
    (∀ (n : Fin 144), d.meets n.val 0x23 = true → exec (.crc n) ⟨d, q⟩ = .next ⟨(let e := d.billed n.val 0x23; let w := d.fetch n.val; e.result n.val w ((crc16Byte ((e.greg n.val (iD w)).setWidth 16) ((e.greg n.val (iA w)).setWidth 8)).setWidth 32)), q⟩) ∧
    -- TIME (R341)
    (∀ (n : Fin 144), d.meets n.val 0x27 = true → iZ (d.fetch n.val) = 0 → exec (.time n) ⟨d, q⟩ = .next ⟨(let e := d.billed n.val 0x27; let w := d.fetch n.val; (e.setLeng n.val { e.leng n.val with timeHi := e.xo.toNat / 2 ^ 32 }).result n.val w (e.xo.setWidth 32)), q⟩) ∧
    -- TIME (R341)
    (∀ (n : Fin 144), d.meets n.val 0x27 = true → iZ (d.fetch n.val) ≠ 0 → exec (.time n) ⟨d, q⟩ = .next ⟨(let e := d.billed n.val 0x27; let w := d.fetch n.val; e.result n.val w (BitVec.ofNat 32 (e.leng n.val).timeHi)), q⟩)

/-- Line-engine loads, stores, jumps, WAIT, counters, doorbell, HALT: effect or halt, each as its rule says. The state after each command is written
out, so whatever it does not change stays. Conditions are on the state and the operands alone. (R333, R334, R338, R339, R340, R341, R343, R345,
R346, R347) -/
def Obligations.EngineControlComplete : Prop :=
  ∀ (d : Dev) (q : List Instr),
    -- LD (R341)
    (∀ (n : Fin 144), d.meets n.val 0x10 = true → ¬ 2047 < (d.billed n.val 0x10).dataAddr n.val (d.fetch n.val) → exec (.ld n) ⟨d, q⟩ = .next ⟨(let e := d.billed n.val 0x10; let w := d.fetch n.val; e.result n.val w (e.dmemGet n.val (e.dataAddr n.val w))), q⟩) ∧
    -- LD (R341)
    (∀ (n : Fin 144), d.meets n.val 0x10 = true → 2047 < (d.billed n.val 0x10).dataAddr n.val (d.fetch n.val) → exec (.ld n) ⟨d, q⟩ = .next ⟨(let e := d.billed n.val 0x10; e.lengHalt n.val 4), q⟩) ∧
    -- ST (R341)
    (∀ (n : Fin 144), d.meets n.val 0x11 = true → ¬ 2047 < (d.billed n.val 0x11).dataAddr n.val (d.fetch n.val) → exec (.st n) ⟨d, q⟩ = .next ⟨(let e := d.billed n.val 0x11; let w := d.fetch n.val; (e.dmemPut n.val (e.dataAddr n.val w) (e.greg n.val (iB w))).nextPc n.val), q⟩) ∧
    -- ST (R341)
    (∀ (n : Fin 144), d.meets n.val 0x11 = true → 2047 < (d.billed n.val 0x11).dataAddr n.val (d.fetch n.val) → exec (.st n) ⟨d, q⟩ = .next ⟨(let e := d.billed n.val 0x11; e.lengHalt n.val 4), q⟩) ∧
    -- BEQ (R341)
    (∀ (n : Fin 144), d.meets n.val 0x12 = true → exec (.beq n) ⟨d, q⟩ = .next ⟨(let e := d.billed n.val 0x12; let w := d.fetch n.val; e.branch n.val w (e.greg n.val (iA w) == e.greg n.val (iB w))), q⟩) ∧
    -- BNE (R341)
    (∀ (n : Fin 144), d.meets n.val 0x13 = true → exec (.bne n) ⟨d, q⟩ = .next ⟨(let e := d.billed n.val 0x13; let w := d.fetch n.val; e.branch n.val w (e.greg n.val (iA w) != e.greg n.val (iB w))), q⟩) ∧
    -- BLT (R341)
    (∀ (n : Fin 144), d.meets n.val 0x14 = true → exec (.blt n) ⟨d, q⟩ = .next ⟨(let e := d.billed n.val 0x14; let w := d.fetch n.val; e.branch n.val w ((e.greg n.val (iA w)).slt (e.greg n.val (iB w)))), q⟩) ∧
    -- BGE (R341)
    (∀ (n : Fin 144), d.meets n.val 0x15 = true → exec (.bge n) ⟨d, q⟩ = .next ⟨(let e := d.billed n.val 0x15; let w := d.fetch n.val; e.branch n.val w (!((e.greg n.val (iA w)).slt (e.greg n.val (iB w))))), q⟩) ∧
    -- J (R341)
    (∀ (n : Fin 144), d.meets n.val 0x16 = true → exec (.j n) ⟨d, q⟩ = .next ⟨(let e := d.billed n.val 0x16; let w := d.fetch n.val; e.setLpc n.val (i18 w)), q⟩) ∧
    -- CALL (R341)
    (∀ (n : Fin 144), d.meets n.val 0x17 = true → ¬ 8 ≤ ((d.billed n.val 0x17).leng n.val).stack.length → exec (.call n) ⟨d, q⟩ = .next ⟨(let e := d.billed n.val 0x17; let w := d.fetch n.val; (e.setLeng n.val { e.leng n.val with stack := ((e.lpc n.val + 1) % 1024) :: (e.leng n.val).stack }).setLpc n.val (i18 w)), q⟩) ∧
    -- CALL (R341)
    (∀ (n : Fin 144), d.meets n.val 0x17 = true → 8 ≤ ((d.billed n.val 0x17).leng n.val).stack.length → exec (.call n) ⟨d, q⟩ = .next ⟨(let e := d.billed n.val 0x17; e.lengHalt n.val 5), q⟩) ∧
    -- RET (R341)
    (∀ (n : Fin 144) (y : Nat) (ys : List Nat), d.meets n.val 0x18 = true → ((d.billed n.val 0x18).leng n.val).stack = y :: ys → exec (.ret n) ⟨d, q⟩ = .next ⟨(let e := d.billed n.val 0x18; (e.setLeng n.val { e.leng n.val with stack := ys }).setLpc n.val y), q⟩) ∧
    -- RET (R341)
    (∀ (n : Fin 144), d.meets n.val 0x18 = true → ((d.billed n.val 0x18).leng n.val).stack = [] → exec (.ret n) ⟨d, q⟩ = .next ⟨(let e := d.billed n.val 0x18; e.lengHalt n.val 5), q⟩) ∧
    -- WAIT (R339)
    (∀ (n : Fin 144), d.meets n.val 0x19 = true → (BitVec.ofNat 5 ((d.billed n.val 0x19).lf n.val .LENG_EVT_LATCHED) &&& BitVec.ofNat 5 (iZ (d.fetch n.val) % 32)) ≠ 0 → exec (.wait n) ⟨d, q⟩ = .next ⟨(let e := d.billed n.val 0x19; let w := d.fetch n.val; e.waitReturn n.val (iD w) (iZ w % 32)), q⟩) ∧
    -- WAIT (R339)
    (∀ (n : Fin 144), d.meets n.val 0x19 = true → (BitVec.ofNat 5 ((d.billed n.val 0x19).lf n.val .LENG_EVT_LATCHED) &&& BitVec.ofNat 5 (iZ (d.fetch n.val) % 32)) = 0 → exec (.wait n) ⟨d, q⟩ = .next ⟨(let e := d.billed n.val 0x19; let w := d.fetch n.val; (e.setLeng n.val { e.leng n.val with wait := some (iD w, iZ w % 32) }).wr (.leng n.val) .LENG_STAT_STATE 2), q⟩) ∧
    -- CINC (R347)
    (∀ (n : Fin 144), d.meets n.val 0x24 = true → exec (.cinc n) ⟨d, q⟩ = .next ⟨(let e := d.billed n.val 0x24; let w := d.fetch n.val; (e.inc (.leng n.val) (Fld.nth .LENG_UCNT_COUNT (iZ w % 8))).nextPc n.val), q⟩) ∧
    -- CRD (R347)
    (∀ (n : Fin 144), d.meets n.val 0x25 = true → (d.billed n.val 0x25).lf n.val .LENG_PERM_PMC_READ = 1 → (d.billed n.val 0x25).on .pmc .PMC_CTL_USER_READ = true → (d.billed n.val 0x25).on .pmc (Fld.nth .PMC_CFG_USER (iZ (d.fetch n.val) % 64)) = true → exec (.crd n) ⟨d, q⟩ = .next ⟨(let e := d.billed n.val 0x25; let w := d.fetch n.val; e.result n.val w (BitVec.ofNat 32 (e.pmcCount (iZ w % 64)))), q⟩) ∧
    -- CRD (R347)
    (∀ (n : Fin 144), d.meets n.val 0x25 = true → (d.billed n.val 0x25).lf n.val .LENG_PERM_PMC_READ ≠ 1 → exec (.crd n) ⟨d, q⟩ = .next ⟨(let e := d.billed n.val 0x25; e.lengHalt n.val 8), q⟩) ∧
    -- DBELL (R346)
    (∀ (n : Fin 144), d.meets n.val 0x26 = true → (d.billed n.val 0x26).lf n.val .LENG_PERM_DBELL ≠ 0 → exec (.dbell n) ⟨d, q⟩ = .next ⟨(let e := d.billed n.val 0x26; let w := d.fetch n.val; (let e := e.wr (.leng n.val) .LENG_DB_OUT_VALUE ((e.greg n.val (iA w)).toNat % 65536); let e := e.wr (.leng n.val) .LENG_DB_OUT_COUNT (e.lf n.val .LENG_DB_OUT_COUNT + 1); ((e.setEvt (.leng n.val) 9).addEvent (344 + n.val)).nextPc n.val)), q⟩) ∧
    -- DBELL (R346)
    (∀ (n : Fin 144), d.meets n.val 0x26 = true → (d.billed n.val 0x26).lf n.val .LENG_PERM_DBELL = 0 → exec (.dbell n) ⟨d, q⟩ = .next ⟨(let e := d.billed n.val 0x26; e.lengHalt n.val 8), q⟩) ∧
    -- HALT (R341)
    (∀ (n : Fin 144), d.meets n.val 0x28 = true → exec (.halt n) ⟨d, q⟩ = .next ⟨(let e := d.billed n.val 0x28; let w := d.fetch n.val; ((e.nextPc n.val).wr (.leng n.val) .LENG_STAT_USER_CODE (iZ w % 256)).lengHalt n.val 2), q⟩) ∧
    -- ILLEGAL_INSTRUCTION (R340)
    (∀ (n : Fin 144), d.stopped = false → d.lengState n.val = 1 → instrOk (d.fetch n.val) = false → exec (.illegalInstruction n) ⟨d, q⟩ = .next ⟨d.lengHalt n.val 3, q⟩)

/-- Line-engine packet instructions: each completes with the next state written out, where its conditions hold. The state after each command is
written out, so whatever it does not change stays. Conditions are on the state and the operands alone. (R333, R341, R342, R343, R345) -/
def Obligations.EnginePacketComplete : Prop :=
  ∀ (d : Dev) (q : List Instr),
    -- LDH (R342)
    (∀ (n : Fin 144) (y : PathRec), d.meets n.val 0x1A = true → (d.billed n.val 0x1A).head n.val = some y → exec (.ldh n) ⟨d, q⟩ = .next ⟨(let e := d.billed n.val 0x1A; let w := d.fetch n.val; e.result n.val w (if iZ w = 0 then y.pkt.word0 else if iZ w = 1 then y.pkt.word1 else infoWord y)), q⟩) ∧
    -- GETU (R341)
    (∀ (n : Fin 144) (y : PathRec) (u : Word10), d.meets n.val 0x1B = true → (d.billed n.val 0x1B).head n.val = some y → y.pkt.udw[((d.billed n.val 0x1B).leng n.val).udw]? = some u → exec (.getu n) ⟨d, q⟩ = .next ⟨(let e := d.billed n.val 0x1B; let w := d.fetch n.val; (e.setLeng n.val { e.leng n.val with udw := (e.leng n.val).udw + 1 }).result n.val w (u.setWidth 32)), q⟩) ∧
    -- GETU (R341)
    (∀ (n : Fin 144) (y : PathRec), d.meets n.val 0x1B = true → (d.billed n.val 0x1B).head n.val = some y → y.pkt.udw[((d.billed n.val 0x1B).leng n.val).udw]? = none → exec (.getu n) ⟨d, q⟩ = .next ⟨(let e := d.billed n.val 0x1B; let w := d.fetch n.val; e.result n.val w 0xFFFFFFFF), q⟩) ∧
    -- NEWP (R342)
    (∀ (n : Fin 144), d.meets n.val 0x1C = true → exec (.newp n) ⟨d, q⟩ = .next ⟨(let e := d.billed n.val 0x1C; let w := d.fetch n.val; (let e := e.buildDrop n.val; (e.setLeng n.val { e.leng n.val with build := some { w0 := e.greg n.val (iA w), w1 := e.greg n.val (iB w), cls := iZ w % 4 } }).nextPc n.val)), q⟩) ∧
    -- PUTU (R341)
    (∀ (n : Fin 144) (y : BuildI), d.meets n.val 0x1D = true → ((d.billed n.val 0x1D).leng n.val).build = some y → ¬ 255 ≤ y.udw.length → exec (.putu n) ⟨d, q⟩ = .next ⟨(let e := d.billed n.val 0x1D; let w := d.fetch n.val; (e.setLeng n.val { e.leng n.val with build := some { y with udw := y.udw ++ [(e.greg n.val (iA w)).setWidth 10] } }).nextPc n.val), q⟩) ∧
    -- PUTU (R341)
    (∀ (n : Fin 144) (y : BuildI), d.meets n.val 0x1D = true → ((d.billed n.val 0x1D).leng n.val).build = some y → 255 ≤ y.udw.length → exec (.putu n) ⟨d, q⟩ = .next ⟨(let e := d.billed n.val 0x1D; e.lengHalt n.val 7), q⟩) ∧
    -- ENDP (R342)
    (∀ (n : Fin 144) (y : BuildI), d.meets n.val 0x1E = true → ((d.billed n.val 0x1E).leng n.val).build = some y → iZ (d.fetch n.val) % 4 = 0 → (d.billed n.val 0x1E).lf n.val .LENG_PERM_NEW_RX = 1 → y.toRec.tile / 8 = n.val → exec (.endp n) ⟨d, q⟩ = .next ⟨(let e := d.billed n.val 0x1E; let w := d.fetch n.val; ((e.setLeng n.val { e.leng n.val with build := none }).ancIntoLate y.toRec).result n.val w ((y.toRec.sendWords.getLastD 0).setWidth 32)), q⟩) ∧
    -- ENDP (R342)
    (∀ (n : Fin 144) (y : BuildI), d.meets n.val 0x1E = true → ((d.billed n.val 0x1E).leng n.val).build = some y → iZ (d.fetch n.val) % 4 = 1 → (d.billed n.val 0x1E).lf n.val .LENG_PERM_NEW_TX = 1 → y.toRec.tile / 8 = n.val → exec (.endp n) ⟨d, q⟩ = .next ⟨(let e := d.billed n.val 0x1E; let w := d.fetch n.val; ((e.setLeng n.val { e.leng n.val with build := none }).insertInto n.val { tile := y.toRec.tile, cls := y.cls, pkt := y.toRec }).result n.val w ((y.toRec.sendWords.getLastD 0).setWidth 32)), q⟩) ∧
    -- ENDP (R342)
    (∀ (n : Fin 144) (y : BuildI), d.meets n.val 0x1E = true → ((d.billed n.val 0x1E).leng n.val).build = some y → iZ (d.fetch n.val) % 4 = 2 → (d.billed n.val 0x1E).queuePerm n.val (((d.billed n.val 0x1E).greg n.val (iA (d.fetch n.val))).toNat % 1024) = true → exec (.endp n) ⟨d, q⟩ = .next ⟨(let e := d.billed n.val 0x1E; let w := d.fetch n.val; ((e.setLeng n.val { e.leng n.val with build := none }).queuePut ((e.greg n.val (iA w)).toNat % 1024) y.toRec.words 0).1.result n.val w ((y.toRec.sendWords.getLastD 0).setWidth 32)), q⟩) ∧
    -- DROP (R342)
    (∀ (n : Fin 144) (y : PathRec), d.meets n.val 0x1F = true → (d.billed n.val 0x1F).head n.val = some y → exec (.drop n) ⟨d, q⟩ = .next ⟨(let e := d.billed n.val 0x1F; (e.popHead n.val).nextPc n.val), q⟩) ∧
    -- FWD (R342)
    (∀ (n : Fin 144) (y : PathRec), d.meets n.val 0x20 = true → (d.billed n.val 0x20).head n.val = some y → exec (.fwd n) ⟨d, q⟩ = .next ⟨(let e := d.billed n.val 0x20; ((e.popHead n.val).fwdRec n.val y).nextPc n.val), q⟩) ∧
    -- PUSHQ (R342)
    (∀ (n : Fin 144) (y : PathRec), d.meets n.val 0x21 = true → (d.billed n.val 0x21).head n.val = some y → (d.billed n.val 0x21).queuePerm n.val (((d.billed n.val 0x21).greg n.val (iA (d.fetch n.val))).toNat % 1024) = true → exec (.pushq n) ⟨d, q⟩ = .next ⟨(let e := d.billed n.val 0x21; let w := d.fetch n.val; (let z := e.queuePut ((e.greg n.val (iA w)).toNat % 1024) y.pkt.words 0; z.1.result n.val w (if z.2 then 0 else 1))), q⟩) ∧
    -- ENDP (R342)
    (∀ (n : Fin 144) (y : BuildI), d.meets n.val 0x1E = true → ((d.billed n.val 0x1E).leng n.val).build = some y → (d.billed n.val 0x1E).endpPerm n.val (iZ (d.fetch n.val) % 4) (((d.billed n.val 0x1E).greg n.val (iA (d.fetch n.val))).toNat % 1024) y.toRec.tile = false → exec (.endp n) ⟨d, q⟩ = .next ⟨(let e := d.billed n.val 0x1E; e.lengHalt n.val 8), q⟩) ∧
    -- PUSHQ (R342)
    (∀ (n : Fin 144) (y : PathRec), d.meets n.val 0x21 = true → (d.billed n.val 0x21).head n.val = some y → (d.billed n.val 0x21).queuePerm n.val (((d.billed n.val 0x21).greg n.val (iA (d.fetch n.val))).toNat % 1024) = false → exec (.pushq n) ⟨d, q⟩ = .next ⟨(let e := d.billed n.val 0x21; e.lengHalt n.val 8), q⟩) ∧
    -- LDH (R342)
    (∀ (n : Fin 144), d.meets n.val 0x1A = true → (d.billed n.val 0x1A).head n.val = none → exec (.ldh n) ⟨d, q⟩ = .next ⟨(let e := d.billed n.val 0x1A; e.lengHalt n.val 6), q⟩) ∧
    -- GETU (R341)
    (∀ (n : Fin 144), d.meets n.val 0x1B = true → (d.billed n.val 0x1B).head n.val = none → exec (.getu n) ⟨d, q⟩ = .next ⟨(let e := d.billed n.val 0x1B; e.lengHalt n.val 6), q⟩) ∧
    -- DROP (R342)
    (∀ (n : Fin 144), d.meets n.val 0x1F = true → (d.billed n.val 0x1F).head n.val = none → exec (.drop n) ⟨d, q⟩ = .next ⟨(let e := d.billed n.val 0x1F; e.lengHalt n.val 6), q⟩) ∧
    -- FWD (R342)
    (∀ (n : Fin 144), d.meets n.val 0x20 = true → (d.billed n.val 0x20).head n.val = none → exec (.fwd n) ⟨d, q⟩ = .next ⟨(let e := d.billed n.val 0x20; e.lengHalt n.val 6), q⟩) ∧
    -- PUSHQ (R342)
    (∀ (n : Fin 144), d.meets n.val 0x21 = true → (d.billed n.val 0x21).head n.val = none → exec (.pushq n) ⟨d, q⟩ = .next ⟨(let e := d.billed n.val 0x21; e.lengHalt n.val 6), q⟩) ∧
    -- PUTU (R341)
    (∀ (n : Fin 144), d.meets n.val 0x1D = true → ((d.billed n.val 0x1D).leng n.val).build = none → exec (.putu n) ⟨d, q⟩ = .next ⟨(let e := d.billed n.val 0x1D; e.lengHalt n.val 6), q⟩) ∧
    -- ENDP (R342)
    (∀ (n : Fin 144), d.meets n.val 0x1E = true → ((d.billed n.val 0x1E).leng n.val).build = none → exec (.endp n) ⟨d, q⟩ = .next ⟨(let e := d.billed n.val 0x1E; e.lengHalt n.val 6), q⟩)

/-- Line-engine registers and events: each command completes with the next state written out, where its conditions hold. The state after each command
is written out, so whatever it does not change stays. Conditions are on the state and the operands alone. (R334, R335, R336, R337, R338, R346,
R347) -/
def Obligations.EngineCommandsComplete : Prop :=
  ∀ (d : Dev) (q : List Instr),
    -- LENG_START (R336)
    (∀ (m : Master) (n : Fin 144), d.admits m.val (.leng n.val) 0x020 1 = true → exec (.lengStart m n) ⟨d, q⟩ = .next ⟨((d.stored m.val (.leng n.val) 0x020 1).lengStart n.val).okay m.val, q⟩) ∧
    -- LENG_STOP (R336)
    (∀ (m : Master) (n : Fin 144), d.admits m.val (.leng n.val) 0x020 2 = true → (d.stored m.val (.leng n.val) 0x020 2).lengLive n.val = true → exec (.lengStop m n) ⟨d, q⟩ = .next ⟨((d.stored m.val (.leng n.val) 0x020 2).lengHalt n.val 1).okay m.val, q⟩) ∧
    -- LENG_ENABLE_WRITE (R336)
    (∀ (m : Master) (n : Fin 144) (v : Word), d.admits m.val (.leng n.val) 0x008 v = true → Fld.PAGE_CTRL_SOFT_RESET.get v = 0 → Fld.PAGE_CTRL_ENABLE.get v = 1 → exec (.lengEnableWrite m n v) ⟨d, q⟩ = .next ⟨((d.stored m.val (.leng n.val) 0x008 v).keyed (.leng n.val) v).okay m.val, q⟩) ∧
    -- LENG_ENABLE_WRITE (R336)
    (∀ (m : Master) (n : Fin 144) (v : Word), d.admits m.val (.leng n.val) 0x008 v = true → Fld.PAGE_CTRL_SOFT_RESET.get v = 0 → Fld.PAGE_CTRL_ENABLE.get (d.held m.val (.leng n.val) 0x008) = 1 → Fld.PAGE_CTRL_ENABLE.get v = 0 → (d.stored m.val (.leng n.val) 0x008 v).lengLive n.val = true → exec (.lengEnableWrite m n v) ⟨d, q⟩ = .next ⟨(((d.stored m.val (.leng n.val) 0x008 v).lengHalt n.val 1).keyed (.leng n.val) v).okay m.val, q⟩) ∧
    -- LENG_CNT_CLR (R347)
    (∀ (m : Master) (n : Fin 144), d.admits m.val (.leng n.val) 0x020 4 = true → exec (.lengCntClr m n) ⟨d, q⟩ = .next ⟨((d.stored m.val (.leng n.val) 0x020 4).lengCntClr n.val).okay m.val, q⟩) ∧
    -- LENG_ISTORE_WRITE (R334)
    (∀ (m : Master) (n : Fin 144) (i : Fin 1024) (v : Word), d.stopped = false → d.hostBarred m.val (0x201000 + 0x4000 * n.val + 4 * i.val) = false → d.permits m.val 6 true = true → d.lockedOut m.val 6 = false → d.on (.leng n.val) .PAGE_CTRL_LOCK = false → d.lengLive n.val = false → exec (.lengIstoreWrite m n i v) ⟨d, q⟩ = .next ⟨((d.passed m.val).istorePut n.val i.val v).okay m.val, q⟩) ∧
    -- LENG_RECORD_ARRIVAL (R335)
    (∀ (n : Fin 144) (y : PathRec) (ys : List PathRec), d.stopped = false → (d.leng n.val).inbox = y :: ys → (d.leng n.val).fifo.length < 64 → exec (.lengRecordArrival n) ⟨d, q⟩ = .next ⟨(d.setLeng n.val { d.leng n.val with inbox := ys, fifo := (d.leng n.val).fifo ++ [y] }).lengWake n.val, q⟩) ∧
    -- LENG_RECORD_ARRIVAL (R335)
    (∀ (n : Fin 144) (y : PathRec) (ys : List PathRec), d.stopped = false → (d.leng n.val).inbox = y :: ys → ¬ (d.leng n.val).fifo.length < 64 → exec (.lengRecordArrival n) ⟨d, q⟩ = .next ⟨(d.setLeng n.val { d.leng n.val with inbox := ys }).addEvt (.leng n.val) .LENG_PKTCNT_FIFO_DROP 1 10, q⟩) ∧
    -- LENG_EVENT (R338)
    (∀ (n : Fin 144), d.stopped = false → exec (.lengEvent n 0) ⟨d, q⟩ = .next ⟨d.lengWake n.val, q⟩) ∧
    -- LENG_EVENT (R338)
    (∀ (n : Fin 144), d.stopped = false → d.lf n.val .LENG_CFG_TBASE = 0 → (d.frmState n.val = 3 ∨ d.frmState n.val = 4) → exec (.lengEvent n 1) ⟨d, q⟩ = .next ⟨d.lengLatch n.val 1, q⟩) ∧
    -- LENG_EVENT (R338)
    (∀ (n : Fin 144), d.stopped = false → d.lf n.val .LENG_CFG_TBASE ≠ 0 → d.domFmt (d.lf n.val .LENG_CFG_TDOM) ≠ 0 → exec (.lengEvent n 1) ⟨d, q⟩ = .next ⟨d.lengLatch n.val 1, q⟩) ∧
    -- LENG_EVENT (R338)
    (∀ (n : Fin 144), d.stopped = false → d.lf n.val .LENG_CFG_TBASE = 0 → d.frmState n.val = 4 → exec (.lengEvent n 3) ⟨d, q⟩ = .next ⟨d.lengLatch n.val 3, q⟩) ∧
    -- LENG_EVENT (R338)
    (∀ (n : Fin 144), d.stopped = false → d.domFmt (d.lf n.val .LENG_CFG_TDOM) ≠ 0 → exec (.lengEvent n 2) ⟨d, q⟩ = .next ⟨d.lengLatch n.val 2, q⟩) ∧
    -- LENG_EVENT (R338)
    (∀ (n : Fin 144), d.stopped = false → d.lf n.val .LENG_CFG_TBASE ≠ 0 → d.domFmt (d.lf n.val .LENG_CFG_TDOM) ≠ 0 → exec (.lengEvent n 3) ⟨d, q⟩ = .next ⟨d.lengLatch n.val 3, q⟩) ∧
    -- DB_IN_RING (R346)
    (∀ (m : Master) (n : Fin 144), d.admits m.val (.leng n.val) 0x034 1 = true → exec (.dbInRing m n) ⟨d, q⟩ = .next ⟨((d.stored m.val (.leng n.val) 0x034 1).lengLatch n.val 4).okay m.val, q⟩) ∧
    -- DBG_STEP (R336)
    (∀ (m : Master) (n : Fin 144) (rest : Word), d.admits m.val (.leng n.val) 0x400 (rest ||| 0x80000000) = true → Fld.LENG_DBG_X_STEP.get (rest ||| 0x80000000) = 1 → exec (.dbgStep m n rest) ⟨d, q⟩ = .next ⟨((d.stored m.val (.leng n.val) 0x400 (rest ||| 0x80000000)).lengDbgStep n.val).okay m.val, q⟩)

/-- Matrix transfers to SRAM, reservations and locked sequences answer with the word read or written. The state after each command is written out, so
whatever it does not change stays. Conditions are on the state and the operands alone. (R351, R352, R353, R354, R357, R359, R366) -/
def Obligations.MatrixTransferComplete : Prop :=
  ∀ (d : Dev) (q : List Instr),
    -- MATRIX_TRANSFER (R353)
    (∀ (m : Master) (addr : Nat) (bs : List Beat) (env : XferEnv), d.stopped = false → let t : Nat := targetAt (addr / 4 * 4); t ≠ 9 → d.permits m.val t false = true → d.lockedOut m.val t = false → (t = 5 → d.memcReady (d.apertureAt 0).1 = true) → (t = 7 → d.on .boot .BOOT_FLASH_CMD_BUSY = false) → exec (.matrixTransfer m ⟨.read, addr, bs, env⟩) ⟨d, q⟩ = .next ⟨d.perform m.val t (addr / 4 * 4) 0 false bs env, q⟩) ∧
    -- MATRIX_TRANSFER (R353)
    (∀ (m : Master) (addr : Nat) (bs : List Beat) (env : XferEnv), d.stopped = false → let t : Nat := targetAt (addr / 4 * 4); t ≠ 9 → t ≠ 7 → d.hostBarred m.val (addr / 4 * 4) = false → d.permits m.val t true = true → d.lockedOut m.val t = false → (t = 5 → d.memcReady (d.apertureAt 0).1 = true) → exec (.matrixTransfer m ⟨.write, addr, bs, env⟩) ⟨d, q⟩ = .next ⟨d.perform m.val t (addr / 4 * 4) 0 true bs env, q⟩) ∧
    -- MATRIX_TRANSFER (R353)
    (∀ (m : Master) (addr : Nat) (env : XferEnv), d.stopped = false → let t : Nat := targetAt (addr / 4 * 4); t < 5 → d.permits m.val t false = true → d.lockedOut m.val t = false → env.single.contains 0 = false → env.double.contains 0 = false → env.collide.contains 0 = false → exec (.matrixTransfer m ⟨.read, addr, [{}], env⟩) ⟨d, q⟩ = .next ⟨((d.granted t m.val).bwAdd (324 + t) 4).respond m.val ⟨.okay, [d.sramGet (sramKey (addr / 4 * 4))]⟩, q⟩) ∧
    -- MATRIX_TRANSFER (R353)
    (∀ (m : Master) (addr : Nat) (v : Word) (env : XferEnv), d.stopped = false → let t : Nat := targetAt (addr / 4 * 4); t < 5 → d.hostBarred m.val (addr / 4 * 4) = false → d.permits m.val t true = true → d.lockedOut m.val t = false → env.collide.contains 0 = false → exec (.matrixTransfer m ⟨.write, addr, [⟨15, v⟩], env⟩) ⟨d, q⟩ = .next ⟨(((d.granted t m.val).bwAdd (324 + t) 4).sramWrite (addr / 4 * 4) 15 v).okay m.val, q⟩) ∧
    -- MATRIX_TRANSFER (R353)
    (∀ (m : Master) (addr : Nat) (bs : List Beat) (env : XferEnv), d.stopped = false → let t : Nat := targetAt (addr / 4 * 4); t < 5 → d.permits m.val t false = true → d.lockedOut m.val t = false → env.single.contains 0 = false → env.double.contains 0 = false → let e : Dev := (d.granted t m.val).bwAdd (324 + t) 4; exec (.matrixTransfer m ⟨.lr, addr, bs, env⟩) ⟨d, q⟩ = .next ⟨({ e with mtx := { e.mtx with reserve := Map.put (fun _ => 0) e.mtx.reserve m.val (addr / 4 * 4 + 1) } } : Dev).respond m.val ⟨.okay, [e.sramGet (sramKey (addr / 4 * 4))]⟩, q⟩) ∧
    -- MATRIX_TRANSFER (R353)
    (∀ (m : Master) (addr : Nat) (be : BitVec 4) (v : Word) (env : XferEnv), d.stopped = false → let t : Nat := targetAt (addr / 4 * 4); t < 5 → d.permits m.val t true = true → d.lockedOut m.val t = false → Map.get (fun _ => 0) d.mtx.reserve m.val = addr / 4 * 4 + 1 → env.collide.contains 0 = false → exec (.matrixTransfer m ⟨.sc, addr, [⟨be, v⟩], env⟩) ⟨d, q⟩ = .next ⟨(((d.granted t m.val).bwAdd (324 + t) 4).sramWrite (addr / 4 * 4) 15 v).respond m.val ⟨.okay, [0]⟩, q⟩) ∧
    -- MATRIX_TRANSFER (R353)
    (∀ (m : Master) (addr : Nat) (be : BitVec 4) (v : Word) (env : XferEnv), d.stopped = false → let t : Nat := targetAt (addr / 4 * 4); t < 5 → d.permits m.val t true = true → d.lockedOut m.val t = false → Map.get (fun _ => 0) d.mtx.reserve m.val ≠ addr / 4 * 4 + 1 → let e : Dev := (d.granted t m.val).bwAdd (324 + t) 4; exec (.matrixTransfer m ⟨.sc, addr, [⟨be, v⟩], env⟩) ⟨d, q⟩ = .next ⟨({ e with mtx := { e.mtx with reserve := Map.put (fun _ => 0) e.mtx.reserve m.val 0 } } : Dev).respond m.val ⟨.okay, [1]⟩, q⟩) ∧
    -- LOCKED_SEQUENCE (R354)
    (∀ (m : Fin 4) (addr : Nat) (op : AmoOp) (v : Word), d.stopped = false → d.lockOf m.val = none → targetAt addr < 5 → d.permits m.val (targetAt addr) false = true → d.permits m.val (targetAt addr) true = true → d.lockedOut m.val (targetAt addr) = false → let e : Dev := (d.granted (targetAt addr) m.val).bwAdd (324 + targetAt addr) 4; exec (.lockedSequence m (.read addr op v .none)) ⟨d, q⟩ = .next ⟨(e.setLocks (e.mtx.locks ++ [(⟨m.val, targetAt addr, addr / 4 * 4, amoWord op (d.sramGet (sramKey (addr / 4 * 4))) v⟩ : LockI)])).respond m.val ⟨.okay, [d.sramGet (sramKey (addr / 4 * 4))]⟩, q⟩) ∧
    -- LOCKED_SEQUENCE (R354)
    (∀ (m : Fin 4) (addr : Nat) (op : AmoOp) (v : Word), d.stopped = false → d.lockOf m.val = none → targetAt addr < 5 → d.permits m.val (targetAt addr) false = true → d.permits m.val (targetAt addr) true = true → d.lockedOut m.val (targetAt addr) = false → let e : Dev := (d.granted (targetAt addr) m.val).bwAdd (324 + targetAt addr) 4; exec (.lockedSequence m (.whole addr op v .none)) ⟨d, q⟩ = .next ⟨((e.setLocks (e.mtx.locks ++ [(⟨m.val, targetAt addr, addr / 4 * 4, amoWord op (d.sramGet (sramKey (addr / 4 * 4))) v⟩ : LockI)])).respond m.val ⟨.okay, [d.sramGet (sramKey (addr / 4 * 4))]⟩).amoWrite m.val, q⟩) ∧
    -- LOCKED_SEQUENCE (R354)
    (∀ (m : Fin 4) (addr : Nat) (op : AmoOp) (v : Word), d.stopped = false → d.lockOf m.val = none → targetAt addr < 5 → d.permits m.val (targetAt addr) false = true → d.permits m.val (targetAt addr) true = true → d.lockedOut m.val (targetAt addr) = false → exec (.lockedSequence m (.read addr op v .double)) ⟨d, q⟩ = .next ⟨(((d.granted (targetAt addr) m.val).bwAdd (324 + targetAt addr) 4).eccFound (targetAt addr) (addr / 4 * 4) true).respond m.val ⟨.ecc, []⟩, q⟩) ∧
    -- LOCKED_SEQUENCE (R354)
    (∀ (m : Fin 4) (l : LockI), d.stopped = false → d.lockOf m.val = some l → exec (.lockedSequence m .write) ⟨d, q⟩ = .next ⟨((d.sramWrite l.addr 15 l.word).bwAdd (324 + l.target) 4).unlock m.val, q⟩) ∧
    -- LOCK_BREAK (R354)
    (∀ (l : LockI), d.stopped = false → d.mtx.locks.head? = some l → exec (.lockBreak) ⟨d, q⟩ = .next ⟨(((d.amoWrite l.master).inc .mtx .MTX_ERRCNT2_LOCK_BREAK).mtxLog l.master l.target l.addr 4 true).respond l.master ⟨.lockBroken, []⟩, q⟩)

/-- The other matrix and SRAM commands and events: each completes with the next state written out, where its conditions hold. The state after each
command is written out, so whatever it does not change stays. Conditions are on the state and the operands alone. (R353, R355, R356, R361, R362,
R365) -/
def Obligations.MatrixCommandsComplete : Prop :=
  ∀ (d : Dev) (q : List Instr),
    -- MATRIX_REQUEST_TIMEOUT (R355)
    (∀ (m : Master) (addr : Nat) (isWrite : Bool), d.stopped = false → let e : Dev := { d with mtx := { d.mtx with waits := d.mtx.waits.filter (fun (w : ReadWait) => w.master != m.val) } }; exec (.matrixRequestTimeout m addr isWrite) ⟨d, q⟩ = .next ⟨((((e.inc .mtx .MTX_ERRCNT_TIMEOUT).mtxLog m.val (targetAt addr) addr 3 isWrite).respond m.val ⟨.timeout, []⟩).hostSettle).dbgSettle, q⟩) ∧
    -- PARK_RETURN (R353)
    (∀ (t : Fin 9), d.stopped = false → exec (.parkReturn t) ⟨d, q⟩ = .next ⟨{ d with mtx := { d.mtx with park := Map.put defaultMaster d.mtx.park t.val (defaultMaster t.val) } }, q⟩) ∧
    -- MASTER_RESET (R362)
    (∀ (m : Master) (done : Nat), d.stopped = false → exec (.masterReset m none done) ⟨d, q⟩ = .next ⟨((d.masterReset m.val (d.underWay m.val)).hostDrop m.val), q⟩) ∧
    -- MASTER_RESET (R362)
    (∀ (m : Master) (done addr : Nat) (bs : List Beat) (env : XferEnv), d.stopped = false → let t : Nat := targetAt (addr / 4 * 4); t ≠ 9 → t ≠ 7 → d.permits m.val t true = true → d.hostBarred m.val (addr / 4 * 4) = false → d.lockedOut m.val t = false → exec (.masterReset m (some ⟨.write, addr, bs, env⟩) done) ⟨d, q⟩ = .next ⟨(({ d.perform m.val t (addr / 4 * 4) 0 true (bs.take done) env with resp := d.resp } : Dev).masterReset m.val (some (true, t, bs.length - done))).hostDrop m.val, q⟩) ∧
    -- SLICE_WRITE (R361)
    (∀ (m : Master) (v : Word), d.admits m.val .mtx 0x024 v = true → exec (.sliceWrite m v) ⟨d, q⟩ = .next ⟨(d.stored m.val .mtx 0x024 v).okay m.val, q⟩) ∧
    -- MTX_PERM_WRITE (R356)
    (∀ (m : Master) (k : Fin 9) (v : Word), d.admits m.val .mtx (0x040 + 4 * k.val) v = true → exec (.mtxPermWrite m k v) ⟨d, q⟩ = .next ⟨(d.stored m.val .mtx (0x040 + 4 * k.val) v).okay m.val, q⟩) ∧
    -- MTX_CNT_CLR (R355)
    (∀ (m : Master), d.admits m.val .mtx 0x084 1 = true → exec (.mtxCntClr m) ⟨d, q⟩ = .next ⟨(((d.stored m.val .mtx 0x084 1).setReg (regKey .mtx 0 0x07C) 0).setReg (regKey .mtx 0 0x080) 0).okay m.val, q⟩) ∧
    -- SRAMC_CNT_CLR (R365)
    (∀ (m : Master), d.admits m.val .sramc 0x02C 1 = true → exec (.sramcCntClr m) ⟨d, q⟩ = .next ⟨((List.range 5).foldl (fun (e : Dev) (b : Nat) => (e.setReg (regKey .sramc 0 (0x040 + 4 * b)) 0).setReg (regKey .sramc 0 (0x060 + 4 * b)) 0) (d.stored m.val .sramc 0x02C 1)).okay m.val, q⟩)

/-- Queue manager: each command or event completes with the next state written out, where its conditions hold. The state after each command is
written out, so whatever it does not change stays. Conditions are on the state and the operands alone. (R369, R371, R373, R374, R375, R377, R378,
R379, R380, R383) -/
def Obligations.QueueCommandsComplete : Prop :=
  ∀ (d : Dev) (q : List Instr),
    -- QUEUE_PACKET_WRITE (R369)
    (∀ (words : List Word) (bytes : Nat) (k : Fin 1024), d.stopped = false → exec (.queuePacketWrite k words bytes) ⟨d, q⟩ = .next ⟨((words.foldl (fun (e : Dev) (w : Word) => e.appendWord 16 w) (d.setOpen 16 ⟨k.val, [], false⟩)).closePkt 16 bytes), q⟩) ∧
    -- WR_DATA_WRITE (R380)
    (∀ (m : Master) (v : Word), d.admits m.val .qmg 0x074 v = true → exec (.wrDataWrite m v) ⟨d, q⟩ = .next ⟨((d.stored m.val .qmg 0x074 v).wrData m.val v).okay m.val, q⟩) ∧
    -- WR_END (R380)
    (∀ (m : Master) (bytes : Fin 4), d.admits m.val .qmg 0x078 (BitVec.ofNat 32 (4 + bytes.val)) = true → exec (.wrEnd m bytes) ⟨d, q⟩ = .next ⟨((d.stored m.val .qmg 0x078 (BitVec.ofNat 32 (4 + bytes.val))).closePkt m.val bytes.val).okay m.val, q⟩) ∧
    -- WR_SEL_WRITE (R380)
    (∀ (m : Master) (v : Word), d.admits m.val .qmg 0x070 v = true → (d.stored m.val .qmg 0x070 v).openOf m.val = noOpen → exec (.wrSelWrite m v) ⟨d, q⟩ = .next ⟨(d.stored m.val .qmg 0x070 v).okay m.val, q⟩) ∧
    -- WR_SEL_WRITE (R380)
    (∀ (m : Master) (v : Word), d.admits m.val .qmg 0x070 v = true → (d.stored m.val .qmg 0x070 v).openOf m.val ≠ noOpen → exec (.wrSelWrite m v) ⟨d, q⟩ = .next ⟨((d.stored m.val .qmg 0x070 v).abandon m.val).okay m.val, q⟩) ∧
    -- RD_LO_READ (R373)
    (∀ (m : Master) (f : Dev) (lo hi : Word), d.stopped = false → d.permits m.val 6 false = true → let k : Nat := (d.passed m.val).rdB .qmg m.val .QMG_RD_SEL_QUEUE; (d.passed m.val).takeWord k = (f, some (lo, hi)) → exec (.rdLoRead m) ⟨d, q⟩ = .next ⟨((f.setReg (regKey .qmg m.val 0x054) lo).setReg (regKey .qmg m.val 0x058) hi).respond m.val ⟨.okay, [lo]⟩, q⟩) ∧
    -- RD_LO_READ (R373)
    (∀ (m : Master), d.stopped = false → d.permits m.val 6 false = true → let k : Nat := (d.passed m.val).rdB .qmg m.val .QMG_RD_SEL_QUEUE; (d.passed m.val).readPoint k = none → ((d.passed m.val).rd .qmg .QMG_CFG_MODE ≠ 1 ∨ (d.passed m.val).qf k .QMG_Q_CFG_ENABLE ≠ 1) → exec (.rdLoRead m) ⟨d, q⟩ = .next ⟨((((d.passed m.val).setReg (regKey .qmg m.val 0x054) 0).setReg (regKey .qmg m.val 0x058) 0).respond m.val ⟨.okay, [0]⟩), q⟩) ∧
    -- RD_LO_READ (R373)
    (∀ (m : Master), d.stopped = false → d.permits m.val 6 false = true → let k : Nat := (d.passed m.val).rdB .qmg m.val .QMG_RD_SEL_QUEUE; (d.passed m.val).readPoint k = none → (d.passed m.val).rd .qmg .QMG_CFG_MODE = 1 → (d.passed m.val).qf k .QMG_Q_CFG_ENABLE = 1 → exec (.rdLoRead m) ⟨d, q⟩ = .next ⟨({ d.passed m.val with stalls := Map.put (fun _ => 0) (d.passed m.val).stalls m.val (k + 1) }), q⟩) ∧
    -- QUEUE_STALL_RETURN (R374)
    (∀ (m : Master), d.stopped = false → exec (.queueStallReturn m) ⟨d, q⟩ = .next ⟨(((d.stallReturn m.val).burstGoOn m.val).hostSettle).dbgSettle, q⟩) ∧
    -- QUEUE_STALL_TIMEOUT (R374)
    (∀ (m : Master), d.stopped = false → exec (.queueStallTimeout m) ⟨d, q⟩ = .next ⟨(((d.stallTimeout m.val).burstGoOn m.val).hostSettle).dbgSettle, q⟩) ∧
    -- DROP_REST (R377)
    (∀ (m : Master), d.admits m.val .qmg 0x05C 1 = true → exec (.dropRest m) ⟨d, q⟩ = .next ⟨((d.stored m.val .qmg 0x05C 1).dropRest m.val).okay m.val, q⟩) ∧
    -- MARK (R378)
    (∀ (m : Master), d.admits m.val .qmg 0x05C 2 = true → exec (.mark m) ⟨d, q⟩ = .next ⟨((d.stored m.val .qmg 0x05C 2).markPlace m.val).okay m.val, q⟩) ∧
    -- UNMARK (R378)
    (∀ (m : Master), d.admits m.val .qmg 0x05C 4 = true → exec (.unmark m) ⟨d, q⟩ = .next ⟨((d.stored m.val .qmg 0x05C 4).markRemove m.val).okay m.val, q⟩) ∧
    -- REWIND (R379)
    (∀ (m : Master), d.admits m.val .qmg 0x05C 8 = true → exec (.rewind m) ⟨d, q⟩ = .next ⟨((d.stored m.val .qmg 0x05C 8).rewindTo m.val).okay m.val, q⟩) ∧
    -- Q_CFG_WRITE (R383)
    (∀ (m : Master) (v : Word), d.admits m.val .qmg 0x034 v = true → Fld.QMG_Q_CFG_ENABLE.get v = 0 → exec (.qCfgWrite m v) ⟨d, q⟩ = .next ⟨(let e := (d.stored m.val .qmg 0x034 v); e.emptyQueue (e.rd .qmg .QMG_Q_SEL_QUEUE)).okay m.val, q⟩) ∧
    -- Q_CFG_WRITE (R383)
    (∀ (m : Master) (v : Word), d.admits m.val .qmg 0x034 v = true → Fld.QMG_Q_CFG_ENABLE.get v = 1 → exec (.qCfgWrite m v) ⟨d, q⟩ = .next ⟨(d.stored m.val .qmg 0x034 v).okay m.val, q⟩) ∧
    -- PAR_INJ (R383)
    (∀ (m : Master), d.admits m.val .qmg 0x02C 2 = true → exec (.parInj m) ⟨d, q⟩ = .next ⟨({ (d.stored m.val .qmg 0x02C 2) with parInj := true } : Dev).okay m.val, q⟩) ∧
    -- QMG_CNT_CLR (R375)
    (∀ (m : Master), d.admits m.val .qmg 0x02C 1 = true → exec (.qmgCntClr m) ⟨d, q⟩ = .next ⟨(let e := (d.stored m.val .qmg 0x02C 1).wr .qmg .QMG_PAR_CNT_COUNT 0; ({ e with regs := e.regs.filter (fun (x : Nat × Word) => !(x.1 % 0x10000000 == 0x903C || x.1 % 0x10000000 == 0x9040)) } : Dev)).okay m.val, q⟩) ∧
    -- DMA_PACKET_TO_RING (R381)
    (∀ (c : Fin 8), d.stopped = false → d.dmaMoves c.val 0 = true → d.permits 6 4 true = true → let f : Dev := d.granted 4 6; let k : Nat := d.dma c.val .QMG_DMA_CFG_QUEUE; let n : Nat := d.dmaHead c.val; let w : Nat := d.ringWords c.val; let wp : Nat := d.dma c.val .QMG_DMA_WP_PTR; let x : Dev × List Word × Bool × Bool × Nat := Dev.takePkt (n + 1) f k [] false false; let hdr : Word := BitVec.ofNat 32 (pktBytes n x.2.2.2.2 + (if x.2.2.1 then 65536 else 0) + (if x.2.2.2.1 then 131072 else 0)); let e : Dev := (hdr :: x.2.1).zipIdx.foldl (fun (e : Dev) (y : Word × Nat) => e.sramPut (e.ringAt c.val (wp + y.2)) y.1) x.1; let g : Dev := e.wr .qmg (Fld.nth .QMG_DMA_WP_PTR c.val) ((wp + 1 + n) % w); exec (.dmaPacketToRing c) ⟨d, q⟩ = .next ⟨(g.notice (g.dma c.val .QMG_DMA_CFG_NOTICE)).bwAdd 328 (4 * (n + 1)), q⟩) ∧
    -- DMA_PACKET_TO_RING (R381)
    (∀ (c : Fin 8), d.stopped = false → d.dmaRuns c.val 0 = true → let k : Nat := d.dma c.val .QMG_DMA_CFG_QUEUE; d.ringWords c.val ≤ d.dmaHead c.val + 1 → d.dmaHead c.val ≠ 0 → d.dmaMoves c.val 0 = false → exec (.dmaPacketToRing c) ⟨d, q⟩ = .next ⟨(d.leavePkt k).qDrop k .QMG_Q_CNT2_DROP_REJECT, q⟩) ∧
    -- DMA_ENTRY_TO_QUEUE (R381)
    (∀ (c : Fin 8), d.stopped = false → d.dmaMoves c.val 1 = true → d.permits 6 4 false = true → let f : Dev := d.granted 4 6; let rp : Nat := d.dma c.val .QMG_DMA_RP_PTR; let len : Nat := (d.sramGet (d.ringAt c.val rp)).toNat % 32768; len ≠ 0 → ¬ 16384 < len → let n : Nat := (len + 3) / 4; let e : Dev := (f.queuePut (d.dma c.val .QMG_DMA_CFG_QUEUE) ((List.range n).map (fun (i : Nat) => d.sramGet (d.ringAt c.val (rp + 1 + i)))) (len % 4)).1; let g : Dev := e.wr .qmg (Fld.nth .QMG_DMA_RP_PTR c.val) ((rp + 1 + n) % d.ringWords c.val); exec (.dmaEntryToQueue c) ⟨d, q⟩ = .next ⟨(g.notice (g.dma c.val .QMG_DMA_CFG_NOTICE)).bwAdd 328 (4 * (n + 1)), q⟩) ∧
    -- DMA_ENTRY_TO_QUEUE (R381)
    (∀ (c : Fin 8), d.stopped = false → d.dmaMoves c.val 1 = true → d.permits 6 4 false = true → let f : Dev := d.granted 4 6; let len : Nat := (d.sramGet (d.ringAt c.val (d.dma c.val .QMG_DMA_RP_PTR))).toNat % 32768; (len = 0 ∨ 16384 < len) → exec (.dmaEntryToQueue c) ⟨d, q⟩ = .next ⟨((f.bwAdd 328 4).wr .qmg (Fld.nth .QMG_DMA_CFG_ERR c.val) 1).setEvt .qmg 11, q⟩) ∧
    -- DMA_POINTER_WRITE (R381)
    (∀ (m : Master) (c : Fin 8) (isRead : Bool) (v : Word), d.admits m.val .qmg ((if isRead then 0x10C else 0x108) + 16 * c.val) v = true → exec (.dmaPointerWrite m c isRead v) ⟨d, q⟩ = .next ⟨(d.stored m.val .qmg ((if isRead then 0x10C else 0x108) + 16 * c.val) v).okay m.val, q⟩)

/-- Interrupt controller: each command or event completes with the next state written out, where its conditions hold. The state after each command is
written out, so whatever it does not change stays. Conditions are on the state and the operands alone. (R386, R387, R388, R389, R390, R391, R392,
R393, R396, R398) -/
def Obligations.InterruptCommandsComplete : Prop :=
  ∀ (d : Dev) (q : List Instr),
    -- INTERRUPT_COMMIT (R389)
    (∀ (t : Fin 5) (fast : Bool) (k : Nat) (r : Bool), d.stopped = false → let c : Nat := (if fast then 1 else 0); d.slotOf t.val c = none → d.bestSource (d.deliverable t.val c) = some k → d.srcTarget k = some (t.val, r) → let e : Dev := (d.setSrc k { d.src k with committed := some t.val, masked := false, redirected := r, window := true }).setSlotOf t.val c (k + 1); (t.val ≠ 4 ∨ e.rd .intc .INTC_CFG_HOST_PIN ≠ 0) → exec (.interruptCommit t fast) ⟨d, q⟩ = .next ⟨e, q⟩) ∧
    -- INTERRUPT_COMMIT (R389)
    (∀ (fast : Bool) (k : Nat) (r : Bool), d.stopped = false → let c : Nat := (if fast then 1 else 0); d.slotOf 4 c = none → d.bestSource (d.deliverable 4 c) = some k → d.srcTarget k = some (4, r) → let e : Dev := (d.setSrc k { d.src k with committed := some 4, masked := false, redirected := r, window := true }).setSlotOf 4 c (k + 1); e.rd .intc .INTC_CFG_HOST_PIN = 0 → exec (.interruptCommit 4 fast) ⟨d, q⟩ = .next ⟨e.msixRaise (e.rdB .intc k .INTC_SRC_CFG_VECTOR), q⟩) ∧
    -- INTERRUPT_DELIVERY_DONE (R390)
    (∀ (t : Fin 5) (fast : Bool) (k : Nat), d.stopped = false → let c : Nat := (if fast then 1 else 0); d.slotOf t.val c = some k → exec (.interruptDeliveryDone t fast) ⟨d, q⟩ = .next ⟨d.setSrc k { d.src k with window := false }, q⟩) ∧
    -- CLAIM (R391)
    (∀ (m : Master) (k : Nat), d.stopped = false → d.permits m.val 6 false = true → d.slotOf (targetOf m.val) 0 = some k → exec (.claim m false) ⟨d, q⟩ = .next ⟨(((d.passed m.val).setSlotOf (targetOf m.val) 0 0).setSrc k { count := (d.src k).count - 1, insvc := some (targetOf m.val) }).respond m.val ⟨.okay, [claimWord k (d.src k) 0 ((d.src k).count - 1)]⟩, q⟩) ∧
    -- CLAIM (R391)
    (∀ (m : Master) (k : Nat), d.stopped = false → d.permits m.val 6 false = true → d.slotOf (targetOf m.val) 1 = some k → exec (.claim m true) ⟨d, q⟩ = .next ⟨(((d.passed m.val).setSlotOf (targetOf m.val) 1 0).setSrc k { count := (d.src k).count - 1, insvc := some (targetOf m.val) }).respond m.val ⟨.okay, [claimWord k (d.src k) 1 ((d.src k).count - 1)]⟩, q⟩) ∧
    -- CLAIM_ALL (R391)
    (∀ (m : Master) (k : Nat), d.stopped = false → d.permits m.val 6 false = true → d.slotOf (targetOf m.val) 0 = some k → exec (.claimAll m false) ⟨d, q⟩ = .next ⟨(((d.passed m.val).setSlotOf (targetOf m.val) 0 0).setSrc k { count := 0, insvc := some (targetOf m.val) }).respond m.val ⟨.okay, [claimWord k (d.src k) 0 (d.src k).count]⟩, q⟩) ∧
    -- CLAIM_ALL (R391)
    (∀ (m : Master) (k : Nat), d.stopped = false → d.permits m.val 6 false = true → d.slotOf (targetOf m.val) 1 = some k → exec (.claimAll m true) ⟨d, q⟩ = .next ⟨(((d.passed m.val).setSlotOf (targetOf m.val) 1 0).setSrc k { count := 0, insvc := some (targetOf m.val) }).respond m.val ⟨.okay, [claimWord k (d.src k) 1 (d.src k).count]⟩, q⟩) ∧
    -- COMPLETE (R392)
    (∀ (m : Master) (source : Fin 512), d.admits m.val .intc 0x0C8 (BitVec.ofNat 32 source.val) = true → let f : Dev := (d.stored m.val .intc 0x0C8 (BitVec.ofNat 32 source.val)); let k : Nat := f.srcKey m.val source.val; (f.src k).insvc = some (targetOf m.val) → f.srcClass k = 0 → exec (.complete m false source) ⟨d, q⟩ = .next ⟨(f.serviceEnd k).okay m.val, q⟩) ∧
    -- COMPLETE (R392)
    (∀ (m : Master) (source : Fin 512), d.admits m.val .intcF 0x028 (BitVec.ofNat 32 source.val) = true → let f : Dev := (d.stored m.val .intcF 0x028 (BitVec.ofNat 32 source.val)); let k : Nat := f.srcKey m.val source.val; (f.src k).insvc = some (targetOf m.val) → f.srcClass k = 1 → exec (.complete m true source) ⟨d, q⟩ = .next ⟨(f.serviceEnd k).okay m.val, q⟩) ∧
    -- COMPLETE (R392)
    (∀ (m : Master) (source : Fin 512), d.admits m.val .intc 0x0C8 (BitVec.ofNat 32 source.val) = true → let f : Dev := (d.stored m.val .intc 0x0C8 (BitVec.ofNat 32 source.val)); let k : Nat := f.srcKey m.val source.val; ((f.src k).insvc ≠ some (targetOf m.val) ∨ f.srcClass k ≠ 0) → exec (.complete m false source) ⟨d, q⟩ = .next ⟨(((f.wr .intc .INTC_ERR_MASTER m.val).wr .intc .INTC_ERR_SOURCE source.val).setEvt .intc 8).okay m.val, q⟩) ∧
    -- COMPLETE (R392)
    (∀ (m : Master) (source : Fin 512), d.admits m.val .intcF 0x028 (BitVec.ofNat 32 source.val) = true → let f : Dev := (d.stored m.val .intcF 0x028 (BitVec.ofNat 32 source.val)); let k : Nat := f.srcKey m.val source.val; ((f.src k).insvc ≠ some (targetOf m.val) ∨ f.srcClass k ≠ 1) → exec (.complete m true source) ⟨d, q⟩ = .next ⟨(((f.wr .intc .INTC_ERR_MASTER m.val).wr .intc .INTC_ERR_SOURCE source.val).setEvt .intc 8).okay m.val, q⟩) ∧
    -- SWI_WRITE (R388)
    (∀ (m : Master) (raise : BitVec 16), d.admits m.val .intc 0x0CC (raise.zeroExtend 32) = true → exec (.swiWrite m raise) ⟨d, q⟩ = .next ⟨((d.stored m.val .intc 0x0CC (raise.zeroExtend 32)).swi m.val (raise.zeroExtend 32)).okay m.val, q⟩) ∧
    -- INTC_EN_WRITE (R390)
    (∀ (m : Master) (i : Fin 16) (v : Word), d.admits m.val .intc (0x040 + 4 * i.val) v = true → exec (.intcEnWrite m i v) ⟨d, q⟩ = .next ⟨(((List.range 32).foldl (fun (e : Dev) (j : Nat) => if (d.held m.val .intc (0x040 + 4 * i.val)).getLsbD j && !(v.getLsbD j) then e.maskHit (enKey (e.enBank m.val) (32 * i.val + j)) else e) (d.stored m.val .intc (0x040 + 4 * i.val) v)).wakeSettle).okay m.val, q⟩) ∧
    -- SRC_CFG_WRITE (R393)
    (∀ (m : Master) (v : Word), d.admits m.val .intc 0x028 v = true → let f : Dev := (d.stored m.val .intc 0x028 v); (f.intcBanked = true ∨ Fld.INTC_SRC_CFG_TARGET.get v = Fld.INTC_SRC_CFG_TARGET.get (d.held m.val .intc 0x028)) → exec (.srcCfgWrite m v) ⟨d, q⟩ = .next ⟨(f.wakeSettle).okay m.val, q⟩) ∧
    -- SRC_CFG_WRITE (R393)
    (∀ (m : Master) (v : Word), d.admits m.val .intc 0x028 v = true → let f : Dev := (d.stored m.val .intc 0x028 v); let k : Nat := f.srcKey m.val (f.rd .intc .INTC_SRC_SEL_SOURCE); k < 512 → f.intcBanked = false → Fld.INTC_SRC_CFG_TARGET.get v ≠ Fld.INTC_SRC_CFG_TARGET.get (d.held m.val .intc 0x028) → exec (.srcCfgWrite m v) ⟨d, q⟩ = .next ⟨((f.maskHit k).wakeSettle).okay m.val, q⟩) ∧
    -- INTC_CFG_WRITE (R398)
    (∀ (m : Master) (v : Word), d.admits m.val .intc 0x020 v = true → exec (.intcCfgWrite m v) ⟨d, q⟩ = .next ⟨((d.stored m.val .intc 0x020 v).wakeSettle).okay m.val, q⟩) ∧
    -- WATCH_WRITE (R396)
    (∀ (m : Master) (i : Fin 32) (v : Word), d.admits m.val .intc (0x100 + 4 * i.val) v = true → exec (.watchWrite m i v) ⟨d, q⟩ = .next ⟨((d.stored m.val .intc (0x100 + 4 * i.val) v).wakeSettle).okay m.val, q⟩)

/-- Performance monitor: each command or event completes with the next state written out, where its conditions hold. The state after each command is
written out, so whatever it does not change stays. Conditions are on the state and the operands alone. (R400, R401, R402, R403, R405, R406, R407) -/
def Obligations.CounterCommandsComplete : Prop :=
  ∀ (d : Dev) (q : List Instr),
    -- PMC_CFG_WRITE (R400)
    (∀ (m : Master) (n : Fin 64) (v : Word), d.admits m.val .pmc (0x100 + 12 * n.val) v = true → Fld.PMC_CFG_CLR.get v = 0 → exec (.pmcCfgWrite m n v) ⟨d, q⟩ = .next ⟨(d.stored m.val .pmc (0x100 + 12 * n.val) v).okay m.val, q⟩) ∧
    -- PMC_CFG_WRITE (R400)
    (∀ (m : Master) (n : Fin 64) (v : Word), d.admits m.val .pmc (0x100 + 12 * n.val) v = true → Fld.PMC_CFG_CLR.get v = 1 → let f : Dev := (d.stored m.val .pmc (0x100 + 12 * n.val) v); let k : Nat := regKey .pmc 0 (if n.val < 32 then 0x024 else 0x028); exec (.pmcCfgWrite m n v) ⟨d, q⟩ = .next ⟨((f.setPmcCount n.val 0).setReg k ((f.setPmcCount n.val 0).reg k &&& ~~~(BitVec.ofNat 32 (2 ^ (n.val % 32))))).okay m.val, q⟩) ∧
    -- PMC_CFG_CLR (R402)
    (∀ (m : Master) (n : Fin 64) (rest : Word), d.admits m.val .pmc (0x100 + 12 * n.val) (rest ||| 0x08000000) = true → exec (.pmcCfgClr m n rest) ⟨d, q⟩ = .next ⟨((d.stored m.val .pmc (0x100 + 12 * n.val) (rest ||| 0x08000000)).pmcClr n.val).okay m.val, q⟩) ∧
    -- CLR_ALL (R402)
    (∀ (m : Master) (rest : Word), d.admits m.val .pmc 0x020 (rest ||| 1) = true → exec (.clrAll m rest) ⟨d, q⟩ = .next ⟨((d.stored m.val .pmc 0x020 (rest ||| 1)).pmcClrAll).okay m.val, q⟩) ∧
    -- FREEZE_WRITE (R402)
    (∀ (m : Master) (v : Word), d.admits m.val .pmc 0x020 v = true → Fld.PMC_CTL_CLR_ALL.get v = 0 → exec (.freezeWrite m v) ⟨d, q⟩ = .next ⟨(d.stored m.val .pmc 0x020 v).okay m.val, q⟩) ∧
    -- FREEZE_WRITE (R402)
    (∀ (m : Master) (v : Word), d.admits m.val .pmc 0x020 v = true → Fld.PMC_CTL_CLR_ALL.get v = 1 → exec (.freezeWrite m v) ⟨d, q⟩ = .next ⟨((d.stored m.val .pmc 0x020 v).pmcClrAll).okay m.val, q⟩) ∧
    -- CNT_LO_READ (R403)
    (∀ (m : Master) (n : Fin 64), d.stopped = false → d.permits m.val 6 false = true → exec (.cntLoRead m n) ⟨d, q⟩ = .next ⟨(((d.passed m.val).wrB .pmc m.val (Fld.nth .PMC_CNT_HI_COUNT_HI n.val) (d.pmcCount n.val / 2 ^ 32)).respond m.val ⟨.okay, [BitVec.ofNat 32 (d.pmcCount n.val)]⟩), q⟩) ∧
    -- BW_WINDOW_END (R405)
    (d.stopped = false → d.enabled .pmc = true → exec (.bwWindowEnd) ⟨d, q⟩ = .next ⟨(let e := { d with pmc := { d.pmc with snap := d.pmc.bytes, snapSeq := (d.rd .pmc .PMC_BW_SEQ_SEQ + 1) % 2 ^ 32, bytes := [] } }; (e.wr .pmc .PMC_BW_SEQ_SEQ ((d.rd .pmc .PMC_BW_SEQ_SEQ + 1) % 2 ^ 32)).setEvt .pmc 9), q⟩) ∧
    -- BW_WIN_WRITE (R405)
    (∀ (m : Master) (v : Word), d.admits m.val .pmc 0x030 v = true → exec (.bwWinWrite m v) ⟨d, q⟩ = .next ⟨(let e := (d.stored m.val .pmc 0x030 v); ({ e with pmc := { e.pmc with bytes := [] } } : Dev)).okay m.val, q⟩) ∧
    -- BW_SNAP_LO_READ (R406)
    (∀ (m : Master), d.stopped = false → d.permits m.val 6 false = true → let k : Nat := d.rd .pmc .PMC_BW_SEL_PORT; exec (.bwSnapLoRead m) ⟨d, q⟩ = .next ⟨((((d.passed m.val).wrB .pmc m.val .PMC_BW_SNAP_HI_BYTES_HI (d.pmcSnap k / 2 ^ 32)).wrB .pmc m.val .PMC_BW_SNAP_HI_SEQ (d.pmc.snapSeq % 65536)).respond m.val ⟨.okay, [BitVec.ofNat 32 (d.pmcSnap k)]⟩), q⟩) ∧
    -- BAR2_READ (R407)
    (∀ (who off : Nat) (wide : Bool), d.stopped = false → d.pciOn = true → d.host.pciWait = false → d.on .pmc .PMC_CTL_USER_READ = false → exec (.bar2Read who off wide) ⟨d, q⟩ = .next ⟨{ d with host := { d.host with cplStatus := .success, cplData := if wide then [0, 0] else [0] } }, q⟩) ∧
    -- BAR2_READ (R407)
    (∀ (who off : Nat) (lo : Word) (h : Nat), d.stopped = false → d.pciOn = true → d.host.pciWait = false → d.on .pmc .PMC_CTL_USER_READ = true → d.bar2Word who (off % 4096 / 4 * 4) = (lo, some h) → exec (.bar2Read who off false) ⟨d, q⟩ = .next ⟨{ d with pmc := { d.pmc with bar2Latch := Map.put (fun _ => 0) d.pmc.bar2Latch who h }, host := { d.host with cplStatus := .success, cplData := [lo] } }, q⟩) ∧
    -- BAR2_READ (R407)
    (∀ (who off : Nat) (lo : Word), d.stopped = false → d.pciOn = true → d.host.pciWait = false → d.on .pmc .PMC_CTL_USER_READ = true → d.bar2Word who (off % 4096 / 4 * 4) = (lo, none) → exec (.bar2Read who off false) ⟨d, q⟩ = .next ⟨{ d with host := { d.host with cplStatus := .success, cplData := [lo] } }, q⟩) ∧
    -- BAR2_READ (R407)
    (∀ (who off : Nat) (lo : Word) (h : Nat), d.stopped = false → d.pciOn = true → d.host.pciWait = false → d.on .pmc .PMC_CTL_USER_READ = true → d.bar2Word who (off % 4096 / 8 * 8) = (lo, some h) → exec (.bar2Read who off true) ⟨d, q⟩ = .next ⟨{ d with host := { d.host with cplStatus := .success, cplData := [lo, BitVec.ofNat 32 h] } }, q⟩) ∧
    -- BAR2_READ (R407)
    (∀ (who off : Nat) (lo : Word), d.stopped = false → d.pciOn = true → d.host.pciWait = false → d.on .pmc .PMC_CTL_USER_READ = true → d.bar2Word who (off % 4096 / 8 * 8) = (lo, none) → exec (.bar2Read who off true) ⟨d, q⟩ = .next ⟨{ d with host := { d.host with cplStatus := .success, cplData := [lo, (d.bar2Word who (off % 4096 / 8 * 8 + 4)).1] } }, q⟩) ∧
    -- LEVEL_COUNTER_WRAP (R401)
    (∀ (n : Fin 64), d.stopped = false → d.pmcLevels n.val d.statLevel = true → exec (.levelCounterWrap n) ⟨d, q⟩ = .next ⟨Dev.pmcAdd 130 (d.setPmcCount n.val (2 ^ 48 - 1)) n.val, q⟩)

/-- PCIe and SPI: each command or event completes with the next state written out, where its conditions hold. The state after each command is written
out, so whatever it does not change stays. Conditions are on the state and the operands alone. (R428, R429, R430, R431, R432, R433, R434) -/
def Obligations.HostInterfaceCommandsComplete : Prop :=
  ∀ (d : Dev) (q : List Instr),
    -- PCIE_REQUEST (R429)
    (∀ (bar4 isWrite : Bool) (off : Nat) (bs : List Beat) (env : XferEnv), d.stopped = false → d.pciOn = true → d.host.pciWait = false → let ps : List (Nat × List Beat) := split64 ((if bar4 then 0x2000000 + off % 2 ^ 25 else off % 2 ^ 26) / 4 * 4) bs; ps.all (fun (y : Nat × List Beat) => !(d.lockedOut 4 (targetAt y.1))) = true → exec (.pcieRequest (.memory bar4 isWrite off bs env)) ⟨d, q⟩ = .next ⟨d.pciBursts isWrite env 0 [] .success ps, q⟩) ∧
    -- PCIE_REQUEST (R429)
    (d.stopped = false → d.pciOn = true → d.host.pciWait = false → exec (.pcieRequest .userWrite) ⟨d, q⟩ = .next ⟨d.pciDone .none [], q⟩) ∧
    -- PCIE_REQUEST (R429)
    (d.stopped = false → d.pciOn = true → d.host.pciWait = false → exec (.pcieRequest .other) ⟨d, q⟩ = .next ⟨d.pciDone .unsupported [], q⟩) ∧
    -- PCIE_LINK_RESET (R431)
    (d.stopped = false → exec (.pcieLinkReset .flr) ⟨d, q⟩ = .next ⟨(let e := d.masterEnd 4; { e with regs := e.regs.filter (fun (y : Nat × Word) => !(0x3100 ≤ y.1 && y.1 < 0x3300)), host := { e.host with msixOn := false, msixPend := [], cplStatus := .none, cplData := [], pciWait := false } }), q⟩) ∧
    -- PCIE_LINK_RESET (R431)
    (d.stopped = false → exec (.pcieLinkReset .perst) ⟨d, q⟩ = .next ⟨(let e := d.masterEnd 4; let e := { e with regs := e.regs.filter (fun (y : Nat × Word) => !(0x3100 ≤ y.1 && y.1 < 0x3300)), host := { e.host with perst := false, msixOn := false, msixPend := [], cplStatus := .none, cplData := [], pciWait := false } }; (e.setReg (regKey .host 0 0x024) 0).setEvtIf (d.on .host .HOST_PCI_STAT_LINK_UP) .host 8), q⟩) ∧
    -- PCIE_LINK_RESET (R431)
    (d.stopped = true → exec (.pcieLinkReset .perst) ⟨d, q⟩ = .next ⟨{ d with host := { d.host with perst := false } }, q⟩) ∧
    -- MSIX_SEND (R430)
    (∀ (v : Fin 32), d.stopped = false → d.host.msixPend.contains v.val = true → d.on .host (Fld.nth .HOST_MSIX_MASK v.val) = false → exec (.msixSend true v) ⟨d, q⟩ = .next ⟨{ d with host := { d.host with msixOn := true, msixPend := d.host.msixPend.filter (fun (y : Nat) => y != v.val), msixLast := some v.val } }, q⟩) ∧
    -- MSIX_SEND (R430)
    (∀ (v : Fin 32), d.stopped = false → exec (.msixSend false v) ⟨d, q⟩ = .next ⟨{ d with host := { d.host with msixOn := false } }, q⟩) ∧
    -- SPI_FRAME (R432)
    (∀ (f : SpiFrame), d.stopped = false → d.host.spiWait = false → d.spiOn = true → d.lockedOut 5 (targetAt (f.addr.toNat % 2 ^ 27)) = false → spiMalformed f.addr = false → exec (.spiFrame f) ⟨d, q⟩ = .next ⟨(let e := d.setEvt .host 11; ({ e with host := { e.host with spiRead := f.addr.getLsbD 31, spiWait := true } } : Dev).spiAccess f |>.spiSettle), q⟩) ∧
    -- SPI_FRAME (R432)
    (∀ (f : SpiFrame), d.stopped = false → d.host.spiWait = false → d.spiOn = true → d.lockedOut 5 (targetAt (f.addr.toNat % 2 ^ 27)) = false → spiMalformed f.addr = true → exec (.spiFrame f) ⟨d, q⟩ = .next ⟨(let e := d.setEvt .host 11; ({ e with host := { e.host with spiRead := f.addr.getLsbD 31 } } : Dev).spiEnd 5 0), q⟩) ∧
    -- SPI_ABORT (R434)
    (d.stopped = false → d.spiOn = true → d.host.spiWait = false → exec (.spiAbort none) ⟨d, q⟩ = .next ⟨(let e := (d.setEvt .host 11).masterEnd 5; (({ e with host := { e.host with spiWait := false } } : Dev).inc .host .HOST_SPI_CNT_ABORTS).setEvt .host 9), q⟩) ∧
    -- PCIE_PERST_RISE (R431)
    (d.stopped = false → exec (.pciePerstRise) ⟨d, q⟩ = .next ⟨({ d with host := { d.host with perst := true } } : Dev).setEvt .host 10, q⟩) ∧
    -- PCIE_PERST_RISE (R431)
    (d.stopped = true → exec (.pciePerstRise) ⟨d, q⟩ = .next ⟨{ d with host := { d.host with perst := true } }, q⟩) ∧
    -- PCIE_LINK_UP (R428)
    (∀ (speed width : Fin 5), d.stopped = false → d.host.perst = true → d.rd .dev .DEV_STRAP_BOOTMODE ≠ 2 → d.rd .dev .DEV_STRAP_BOOTMODE ≠ 3 → d.on .host .HOST_PCI_STAT_LINK_UP = false → exec (.pcieLinkUp speed width) ⟨d, q⟩ = .next ⟨(((d.wr .host .HOST_PCI_STAT_WIDTH width.val).wr .host .HOST_PCI_STAT_SPEED speed.val).wrOn .host .HOST_PCI_STAT_LINK_UP true).setEvt .host 8, q⟩)

/-- Boot loader, firmware and flash: each command or event completes with the next state written out, where its conditions hold. The state after each
command is written out, so whatever it does not change stays. Conditions are on the state and the operands alone. (R435, R436, R437, R438, R439,
R440, R441, R444) -/
def Obligations.BootCommandsComplete : Prop :=
  ∀ (d : Dev) (q : List Instr),
    -- BOOT_START (R435)
    (d.stopped = false → d.boot.due = true → d.rd .dev .DEV_STRAP_BOOTMODE = 0 → exec (.bootStart) ⟨d, q⟩ = .next ⟨(({ d with boot := { due := false } } : Dev).wr .boot .BOOT_STAT_STATE 1).wr .boot .BOOT_STAT_IMAGE 0, q⟩) ∧
    -- BOOT_START (R435)
    (d.stopped = false → d.boot.due = true → d.rd .dev .DEV_STRAP_BOOTMODE = 3 → exec (.bootStart) ⟨d, q⟩ = .next ⟨({ d with boot := { due := false } } : Dev).wr .boot .BOOT_STAT_STATE 0, q⟩) ∧
    -- BOOT_START (R435)
    (d.stopped = false → d.boot.due = true → d.rd .dev .DEV_STRAP_BOOTMODE ≠ 0 → d.rd .dev .DEV_STRAP_BOOTMODE ≠ 3 → exec (.bootStart) ⟨d, q⟩ = .next ⟨({ d with boot := { due := false } } : Dev).wr .boot .BOOT_STAT_STATE 3, q⟩) ∧
    -- SFDP_DISCOVERY_DONE (R438)
    (∀ (a4 qd : Bool), d.stopped = false → d.rd .boot .BOOT_STAT_STATE = 1 → exec (.sfdpDiscoveryDone true a4 qd) ⟨d, q⟩ = .next ⟨((({ d with boot := { d.boot with addr4 := a4, quad := qd } } : Dev).wrOn .boot .BOOT_FLASH_CMD_ADDR4 a4).wr .boot .BOOT_STAT_STATE 2), q⟩) ∧
    -- SFDP_DISCOVERY_DONE (R438)
    (∀ (addr4 quad : Bool), d.stopped = false → d.rd .boot .BOOT_STAT_STATE = 1 → exec (.sfdpDiscoveryDone false addr4 quad) ⟨d, q⟩ = .next ⟨((d.wr .boot .BOOT_STAT_STATE 5).wr .boot .BOOT_STAT_CAUSE 1).setEvt .boot 9, q⟩) ∧
    -- IMAGE_CHECK_DONE (R439)
    (∀ (flash : List Word) (big : Bool), d.stopped = false → d.rd .boot .BOOT_STAT_STATE = 2 → d.boot.fromBank = false → d.permits 8 7 false = true → exec (.imageCheckDone flash false big) ⟨d, q⟩ = .next ⟨(match imageCause (fun (k : Nat) => flash.getD k 0) none with | some c => d.imageFail c big | none => (let r := d.loadWrites ((segments (fun (k : Nat) => flash.getD k 0)).flatMap (fun (s : Segment) => s.writes (fun (k : Nat) => flash.getD k 0)) ++ finalWrites (fun (k : Nat) => flash.getD k 0)); if r.2 then r.1.bootDone else r.1)), q⟩) ∧
    -- IMAGE_CHECK_DONE (R439)
    (∀ (flash : List Word) (big : Bool), d.stopped = false → d.rd .boot .BOOT_STAT_STATE = 2 → d.boot.fromBank = false → d.permits 8 7 false = true → exec (.imageCheckDone flash true big) ⟨d, q⟩ = .next ⟨d.imageFail 8 big, q⟩) ∧
    -- LOAD_IMG (R441)
    (∀ (m : Master), d.admits m.val .boot 0x024 2 = true → exec (.loadImg m) ⟨d, q⟩ = .next ⟨(let e := (d.stored m.val .boot 0x024 2); ({ e.wr .boot .BOOT_STAT_STATE 2 with boot := { e.boot with fromBank := true } } : Dev)).okay m.val, q⟩) ∧
    -- DONE (R436)
    (∀ (m : Master), d.admits m.val .boot 0x024 0 = true → d.bootWaits = true → exec (.done m) ⟨d, q⟩ = .next ⟨(if Config.secure then (d.passed m.val).recordRej m.val .boot 0x024 .state else (d.stored m.val .boot 0x024 1).bootDone).okay m.val, q⟩) ∧
    -- FLASH_CMD_WRITE (R444)
    (∀ (m : Master) (v : Word), d.admits m.val .boot 0x044 v = true → exec (.flashCmdWrite m v) ⟨d, q⟩ = .next ⟨((d.stored m.val .boot 0x044 v).wrOn .boot .BOOT_FLASH_CMD_BUSY true).okay m.val, q⟩) ∧
    -- FLASH_CMD_DONE (R444)
    (∀ (data : List Byte) (reads : List (List Word)), d.stopped = false → d.on .boot .BOOT_FLASH_CMD_BUSY = true → (d.wrOn .boot .BOOT_FLASH_CMD_BUSY false).on .boot .BOOT_FLASH_CMD_WRITE = false → exec (.flashCmdDone data reads) ⟨d, q⟩ = .next ⟨(let e := d.wrOn .boot .BOOT_FLASH_CMD_BUSY false; let e := e.flashData (4 * e.rd .boot .BOOT_FLASH_BUF_WORD) (data.take (e.rd .boot .BOOT_FLASH_CMD_LEN)); let ws := e.mtx.waits.filter (fun (w : ReadWait) => targetAt w.addr == 7); let e := { e with mtx := { e.mtx with waits := e.mtx.waits.filter (fun (w : ReadWait) => targetAt w.addr != 7) } }; ((e.flashReads ws reads).hostSettle).dbgSettle), q⟩)

/-- JTAG: each TAP instruction completes with the next state written out, and all but DEBUG whether or not the core domains run. The state after each
command is written out, so whatever it does not change stays. Conditions are on the state and the operands alone. (R362, R442, R443) -/
def Obligations.JtagCommandsComplete : Prop :=
  ∀ (d : Dev) (q : List Instr),
    -- JTAG_TRST (R362)
    (exec (.jtagTrst) ⟨d, q⟩ = .next ⟨(let e := d.masterEnd 7; { e with jtag := { e.jtag with tap := .idcode, wait := false } }), q⟩) ∧
    -- IDCODE (R442)
    (exec (.idcode) ⟨d, q⟩ = .next ⟨{ d with jtag := { d.jtag with tap := .idcode, ident := identWord } }, q⟩) ∧
    -- SAMPLE_PRELOAD (R442)
    (∀ (balls load : List Bool), exec (.samplePreload balls load) ⟨d, q⟩ = .next ⟨{ d with jtag := { d.jtag with tap := .samplePreload, sampled := balls, scan := load } }, q⟩) ∧
    -- EXTEST (R442)
    (∀ (balls load : List Bool), exec (.extest balls load) ⟨d, q⟩ = .next ⟨{ d with jtag := { d.jtag with tap := .extest, sampled := balls, scan := load } }, q⟩) ∧
    -- CLAMP (R442)
    (exec (.clamp) ⟨d, q⟩ = .next ⟨{ d with jtag := { d.jtag with tap := .clamp } }, q⟩) ∧
    -- HIGHZ (R442)
    (exec (.highz) ⟨d, q⟩ = .next ⟨{ d with jtag := { d.jtag with tap := .highz } }, q⟩) ∧
    -- BYPASS (R442)
    (exec (.bypass) ⟨d, q⟩ = .next ⟨{ d with jtag := { d.jtag with tap := .bypass } }, q⟩) ∧
    -- DEBUG (R443)
    (∀ (f : SpiFrame), d.dbgOpen = true → d.stopped = false → d.jtag.wait = false → d.lockedOut 7 (targetAt (f.addr.toNat % 2 ^ 27)) = false → spiMalformed f.addr = false → exec (.debug f) ⟨d, q⟩ = .next ⟨(({ d with jtag := { d.jtag with tap := .debug, isRead := f.addr.getLsbD 31, wait := true } } : Dev).transfer 7 (f.addr.toNat % 2 ^ 27) 0 (!(f.addr.getLsbD 31)) [{ data := f.data }] f.env).dbgSettle, q⟩)
end

