-- ==== Sys2Proof/Laws/Fields.lean ====
section
/-! SUPPORT. Register fields as bits: what setting one field leaves of it and of the others. -/

namespace Sys2Proof.Machine

/-- Bit `i` of a field's value is bit `lo + i` of the word. -/
theorem Fld.get_testBit (f : Fld) (w : Word) (i : Nat) : (f.get w).testBit i = (decide (i < f.w) && w.getLsbD (f.lo + i)) := by
  simp [Fld.get, Nat.testBit_mod_two_pow, Nat.testBit_shiftRight, BitVec.testBit_toNat]

/-- Bit `i` of a field's mask. -/
theorem Fld.mask_testBit (f : Fld) (i : Nat) : f.mask.testBit i = (decide (f.lo ≤ i) && decide (i < f.lo + f.w)) := by
  simp only [Fld.mask, Nat.testBit_shiftLeft, Nat.testBit_two_pow_sub_one]
  by_cases h : f.lo ≤ i
  · simp [h]
    omega
  · simp [h]

/-- Bit `i` of a word with a field set. -/
theorem Fld.put_getLsbD (f : Fld) (w : Word) (v i : Nat) (h : i < 32) :
    (f.put w v).getLsbD i = if f.lo ≤ i ∧ i < f.lo + f.w then v.testBit (i - f.lo) else w.getLsbD i := by
  have hm : (v % 2 ^ f.w * 2 ^ f.lo).testBit i = (decide (f.lo ≤ i) && (decide (i - f.lo < f.w) && v.testBit (i - f.lo))) := by
    rw [← Nat.shiftLeft_eq, Nat.testBit_shiftLeft, Nat.testBit_mod_two_pow]
  simp only [Fld.put, BitVec.getLsbD_or, BitVec.getLsbD_and, BitVec.getLsbD_not, BitVec.getLsbD_ofNat, h, decide_true, Bool.true_and,
    Fld.mask_testBit, Nat.shiftLeft_eq, hm]
  by_cases h1 : f.lo ≤ i <;> by_cases h2 : i < f.lo + f.w
  · have h3 : i - f.lo < f.w := by omega
    simp [h1, h2, h3]
  · have h3 : ¬ i - f.lo < f.w := by omega
    simp [h1, h2, h3]
  · simp [h1]
  · simp [h1]

/-- A field reads as it was set. -/
theorem Fld.get_put (f : Fld) (w : Word) (v : Nat) (h : f.lo + f.w ≤ 32) : f.get (f.put w v) = v % 2 ^ f.w := by
  apply Nat.eq_of_testBit_eq
  intro i
  rw [Fld.get_testBit, Nat.testBit_mod_two_pow]
  by_cases hi : i < f.w
  · rw [Fld.put_getLsbD _ _ _ _ (by omega)]
    simp [hi]
  · simp [hi]

/-- Setting a field leaves every field that shares no bit with it. -/
theorem Fld.get_put_other (f g : Fld) (w : Word) (v : Nat) (h : g.lo + g.w ≤ 32) (hd : f.lo + f.w ≤ g.lo ∨ g.lo + g.w ≤ f.lo) :
    g.get (f.put w v) = g.get w := by
  apply Nat.eq_of_testBit_eq
  intro i
  rw [Fld.get_testBit, Fld.get_testBit]
  by_cases hi : i < g.w
  · rw [Fld.put_getLsbD _ _ _ _ (by omega), if_neg (by omega)]
  · simp [hi]

/-- A field's value fits its width. -/
theorem Fld.get_lt (f : Fld) (w : Word) : f.get w < 2 ^ f.w := Nat.mod_lt _ (Nat.two_pow_pos _)

end Sys2Proof.Machine
end

