-- ==== Sys2Proof/Laws/Maps.lean ====
section
/-! SUPPORT. What every operation on sparse data does: a read after a write, and the canonical form is kept. -/

namespace Sys2Proof.Machine

variable {α : Type} (dflt : Nat → α)

theorem Map.get_erase_same (m : Map α) (k : Nat) : Map.get dflt (Map.erase m k) k = dflt k := by
  induction m with
  | nil => rfl
  | cons e m ih =>
    obtain ⟨j, v⟩ := e
    by_cases h : j = k
    · simpa [Map.erase, h] using ih
    · simpa [Map.erase, Map.get, h] using ih

theorem Map.get_erase_other (m : Map α) {j k : Nat} (h : j ≠ k) :
    Map.get dflt (Map.erase m k) j = Map.get dflt m j := by
  induction m with
  | nil => rfl
  | cons e m ih =>
    obtain ⟨i, v⟩ := e
    by_cases hi : i = k
    · have : i ≠ j := fun he => h (by omega)
      simpa [Map.erase, Map.get, hi, this, show k ≠ j by omega] using ih
    · by_cases hj : i = j
      · simp [Map.erase, Map.get, hj, h]
      · simpa [Map.erase, Map.get, hi, hj] using ih

theorem Map.get_insert_other (m : Map α) {j k : Nat} (v : α) (h : j ≠ k) :
    Map.get dflt (Map.insert k v m) j = Map.get dflt m j := by
  induction m with
  | nil => simp [Map.insert, Map.get, Ne.symm h]
  | cons e m ih =>
    obtain ⟨i, w⟩ := e
    by_cases hi : k < i
    · simp [Map.insert, Map.get, hi, Ne.symm h]
    · by_cases hj : i = j
      · subst hj; simp [Map.insert, Map.get, hi]
      · simp [Map.insert, Map.get, hi, hj, ih]

theorem Map.get_insert_same (m : Map α) (k : Nat) (v : α) (h : ∀ e ∈ m, e.1 ≠ k) :
    Map.get dflt (Map.insert k v m) k = v := by
  induction m with
  | nil => simp [Map.insert, Map.get]
  | cons e m ih =>
    obtain ⟨i, w⟩ := e
    have h1 : i ≠ k := h (i, w) (by simp)
    have h2 := ih (fun e he => h e (by simp [he]))
    by_cases hi : k < i <;> simp [Map.insert, Map.get, hi, h1, h2]

theorem Map.mem_erase {m : Map α} {k : Nat} {e : Nat × α} (h : e ∈ Map.erase m k) : e.1 ≠ k := by
  simp [Map.erase] at h
  exact h.2

variable [DecidableEq α]

/-- A read after a write to the same key gives the value written. -/
@[simp] theorem Map.get_put_same (m : Map α) (k : Nat) (v : α) :
    Map.get dflt (Map.put dflt m k v) k = v := by
  by_cases h : v = dflt k
  · simp [Map.put, h, Map.get_erase_same]
  · simpa [Map.put, h] using Map.get_insert_same dflt _ k v (fun e he => Map.mem_erase he)

/-- A write leaves every other key alone. -/
@[simp] theorem Map.get_put_other (m : Map α) {j k : Nat} (v : α) (h : j ≠ k) :
    Map.get dflt (Map.put dflt m k v) j = Map.get dflt m j := by
  by_cases hv : v = dflt k
  · simp [Map.put, hv, Map.get_erase_other dflt m h]
  · simp [Map.put, hv, Map.get_insert_other dflt _ v h, Map.get_erase_other dflt m h]

/-- The read of any key after a write. -/
theorem Map.get_put (m : Map α) (j k : Nat) (v : α) :
    Map.get dflt (Map.put dflt m k v) j = if j = k then v else Map.get dflt m j := by
  by_cases h : j = k
  · subst h; simp
  · simp [h]

theorem Map.wfFrom_mono {m : Map α} {a b : Nat} (h : a ≤ b) (hm : Map.wfFrom dflt m b = true) :
    Map.wfFrom dflt m a = true := by
  cases m with
  | nil => rfl
  | cons e m =>
    obtain ⟨j, v⟩ := e
    simp [Map.wfFrom] at *
    exact ⟨⟨by omega, hm.1.2⟩, hm.2⟩

theorem Map.wfFrom_erase {m : Map α} {a : Nat} (k : Nat) (hm : Map.wfFrom dflt m a = true) :
    Map.wfFrom dflt (Map.erase m k) a = true := by
  induction m generalizing a with
  | nil => rfl
  | cons e m ih =>
    obtain ⟨j, v⟩ := e
    simp [Map.wfFrom] at hm
    have h2 := ih hm.2
    by_cases h : j = k
    · simpa [Map.erase, h] using Map.wfFrom_mono dflt (by omega) h2
    · simpa [Map.erase, h, Map.wfFrom, hm.1.1, hm.1.2] using h2

theorem Map.wfFrom_insert {m : Map α} {a k : Nat} {v : α} (ha : a ≤ k) (hv : v ≠ dflt k)
    (hk : ∀ e ∈ m, e.1 ≠ k) (hm : Map.wfFrom dflt m a = true) :
    Map.wfFrom dflt (Map.insert k v m) a = true := by
  induction m generalizing a with
  | nil => simp [Map.insert, Map.wfFrom, ha, hv]
  | cons e m ih =>
    obtain ⟨j, w⟩ := e
    have hj : j ≠ k := hk (j, w) (by simp)
    simp [Map.wfFrom] at hm
    by_cases h : k < j
    · have : k + 1 ≤ j := h
      simp [Map.insert, h, Map.wfFrom, ha, hv, hm.1.2, hm.2, this]
    · have := ih (a := j + 1) (by omega) (fun e he => hk e (by simp [he])) hm.2
      simp [Map.insert, h, Map.wfFrom, hm.1.1, hm.1.2, this]

/-- Every write keeps the canonical form. -/
theorem Map.wf_put {m : Map α} (k : Nat) (v : α) (hm : Map.wf dflt m = true) :
    Map.wf dflt (Map.put dflt m k v) = true := by
  unfold Map.wf at *
  by_cases h : v = dflt k
  · simpa [Map.put, h] using Map.wfFrom_erase dflt k hm
  · simpa [Map.put, h] using
      Map.wfFrom_insert dflt (Nat.zero_le k) h (fun e he => Map.mem_erase he) (Map.wfFrom_erase dflt k hm)

theorem Map.wfFrom_update {m : Map α} {a : Nat} (f : Nat → α → α) (hm : Map.wfFrom dflt m a = true) :
    Map.wfFrom dflt (Map.update dflt f m) a = true := by
  induction m generalizing a with
  | nil => rfl
  | cons e m ih =>
    obtain ⟨j, v⟩ := e
    simp only [Map.wfFrom, Bool.and_eq_true, decide_eq_true_eq] at hm
    have h2 := ih hm.2
    simp only [Map.update] at h2
    by_cases hw : f j v = dflt j
    · simpa [Map.update, hw] using Map.wfFrom_mono dflt (by omega) h2
    · simpa [Map.update, hw, Map.wfFrom, hm.1.1] using h2

/-- A change of every entry keeps the canonical form. -/
theorem Map.wf_update {m : Map α} (f : Nat → α → α) (hm : Map.wf dflt m = true) : Map.wf dflt (Map.update dflt f m) = true :=
  Map.wfFrom_update dflt f hm

end Sys2Proof.Machine
end

