-- ==== Sys2Proof/Laws/Events.lean ====
section
/-! SUPPORT. What the shared operations of the register file change, said once each: events, counters, answers, rejections and the matrix log. -/

namespace Sys2Proof.Machine

theorem Dev.Keeps.refl (ks : List Nat) (d : Dev) : d.Keeps ks d := ⟨fun _ _ => rfl, rfl, rfl, rfl, rfl⟩

theorem Dev.Keeps.trans {ks : List Nat} {d e f : Dev} (h : Dev.Keeps ks d e) (g : Dev.Keeps ks e f) : Dev.Keeps ks d f := by
  refine ⟨fun k hk => (g.regs k hk).trans (h.regs k hk), g.locks.trans h.locks, g.reserve.trans h.reserve, g.waits.trans h.waits, ?_⟩
  have a := g.rest
  have b := h.rest
  rw [← b, ← a]

theorem Dev.Keeps.mono {ks js : List Nat} {d e : Dev} (h : Dev.Keeps ks d e) (s : ∀ k ∈ ks, k ∈ js) : Dev.Keeps js d e :=
  ⟨fun k hk => h.regs k (fun x => hk (s k x)), h.locks, h.reserve, h.waits, h.rest⟩

theorem Dev.setReg_same (d : Dev) (k : Nat) (w : Word) : (d.setReg k w).reg k = w := by simp [Dev.setReg, Dev.reg]

theorem Dev.setReg_other (d : Dev) {k j : Nat} (w : Word) (h : j ≠ k) : (d.setReg k w).reg j = d.reg j := by
  simp [Dev.setReg, Dev.reg, h]

theorem Dev.setReg_keeps {ks : List Nat} (d : Dev) {k : Nat} (w : Word) (h : k ∈ ks) : d.Keeps ks (d.setReg k w) :=
  ⟨fun _ hj => Dev.setReg_other d w (fun e => hj (e ▸ h)), rfl, rfl, rfl, rfl⟩

/-- A field written reads as it was written, modulo its width. -/
theorem Dev.rd_wr (d : Dev) (p : Page) (f : Fld) (v : Nat) (h : f.lo + f.w ≤ 32) : (d.wr p f v).rd p f = v % 2 ^ f.w := by
  simp only [Dev.rd, Dev.wr, Dev.setReg_same, Fld.get_put _ _ _ h]

/-- A field written leaves every field of a register elsewhere, or of other bits. -/
theorem Dev.rd_wr_other (d : Dev) (p q : Page) (f g : Fld) (v : Nat) (h : g.lo + g.w ≤ 32)
    (hd : regKey p 0 f.off ≠ regKey q 0 g.off ∨ f.lo + f.w ≤ g.lo ∨ g.lo + g.w ≤ f.lo) : (d.wr p f v).rd q g = d.rd q g := by
  by_cases hk : regKey p 0 f.off = regKey q 0 g.off
  · have hd' : f.lo + f.w ≤ g.lo ∨ g.lo + g.w ≤ f.lo := hd.resolve_left (fun h => h hk)
    simp only [Dev.rd, Dev.wr, hk, Dev.setReg_same, Fld.get_put_other _ _ _ _ h hd']
  · simp only [Dev.rd, Dev.wr, Dev.setReg_other _ _ (Ne.symm hk)]

/-- A field of a register outside the changed ones reads as before. -/
theorem Dev.Keeps.rd {ks : List Nat} {d e : Dev} (h : Dev.Keeps ks d e) (p : Page) (f : Fld) (hk : regKey p 0 f.off ∉ ks) : e.rd p f = d.rd p f := by
  simp only [Dev.rd, h.regs _ hk]

theorem Dev.wr_keeps {ks : List Nat} (d : Dev) (p : Page) (f : Fld) (v : Nat) (h : regKey p 0 f.off ∈ ks) : d.Keeps ks (d.wr p f v) :=
  Dev.setReg_keeps d _ h

theorem Dev.wrOn_keeps {ks : List Nat} (d : Dev) (p : Page) (f : Fld) (b : Bool) (h : regKey p 0 f.off ∈ ks) : d.Keeps ks (d.wrOn p f b) :=
  Dev.setReg_keeps d _ h

theorem Dev.inc_keeps {ks : List Nat} (d : Dev) (p : Page) (f : Fld) (h : regKey p 0 f.off ∈ ks) : d.Keeps ks (d.inc p f) :=
  Dev.setReg_keeps d _ h

theorem Dev.keeps_foldl {α : Type} {ks : List Nat} (f : Dev → α → Dev) (h : ∀ (d : Dev) a, d.Keeps ks (f d a)) (l : List α) (d : Dev) :
    d.Keeps ks (l.foldl f d) := by
  induction l generalizing d with
  | nil => exact Dev.Keeps.refl ks d
  | cons a l ih => exact (h d a).trans (ih (f d a))

theorem Dev.setSrc_keeps (ks : List Nat) (d : Dev) (s : Nat) (v : SrcI) : d.Keeps ks (d.setSrc s v) := ⟨fun _ _ => rfl, rfl, rfl, rfl, rfl⟩

theorem Dev.setPmcCount_keeps (ks : List Nat) (d : Dev) (n v : Nat) : d.Keeps ks (d.setPmcCount n v) := ⟨fun _ _ => rfl, rfl, rfl, rfl, rfl⟩

theorem Dev.bwAdd_keeps (ks : List Nat) (d : Dev) (p n : Nat) : d.Keeps ks (d.bwAdd p n) := by
  unfold Dev.bwAdd
  split
  · exact ⟨fun _ _ => rfl, rfl, rfl, rfl, rfl⟩
  · exact Dev.Keeps.refl ks d

theorem Dev.respond_keeps (ks : List Nat) (d : Dev) (m : Nat) (r : Resp) : d.Keeps ks (d.respond m r) := ⟨fun _ _ => rfl, rfl, rfl, rfl, rfl⟩

theorem Dev.granted_keeps (ks : List Nat) (d : Dev) (t m : Nat) : d.Keeps ks (d.granted t m) := ⟨fun _ _ => rfl, rfl, rfl, rfl, rfl⟩

theorem Dev.passed_keeps (ks : List Nat) (d : Dev) (m : Nat) : d.Keeps ks (d.passed m) := (Dev.granted_keeps ks d 6 m).trans (Dev.bwAdd_keeps ks _ _ _)

theorem Dev.wakeFor_keeps {ks : List Nat} (d : Dev) (k : Nat) (h : regKey .pwr 0 0x02C ∈ ks) : d.Keeps ks (d.wakeFor k) := by
  unfold Dev.wakeFor
  split
  · split
    · exact Dev.wr_keeps d _ _ _ h
    · exact Dev.Keeps.refl ks d
  · exact Dev.Keeps.refl ks d

theorem Dev.addEventRaw_keeps {ks : List Nat} (d : Dev) (s : Nat) (h : regKey .pwr 0 0x02C ∈ ks) : d.Keeps ks (d.addEventRaw s) := by
  unfold Dev.addEventRaw
  split
  · exact Dev.Keeps.refl ks d
  · split
    · exact (Dev.setSrc_keeps ks d s _).trans (Dev.wakeFor_keeps _ s h)
    · exact Dev.setSrc_keeps ks d s _

theorem Dev.setOvf_keeps {ks : List Nat} (d : Dev) (n : Nat) (h : ∀ k ∈ eventKeys .pmc, k ∈ ks) : d.Keeps ks (d.setOvf n) := by
  unfold Dev.setOvf
  split <;> exact Dev.setReg_keeps d _ (h _ (by simp [eventKeys]))

theorem Dev.pmcAdd_keeps {ks : List Nat} (h : ∀ k ∈ eventKeys .pmc, k ∈ ks) (fuel : Nat) (d : Dev) (n : Nat) : d.Keeps ks (Dev.pmcAdd fuel d n) := by
  have hw : regKey .pwr 0 0x02C ∈ ks := h _ (by simp [eventKeys])
  have he : ∀ d : Dev, d.Keeps ks (d.evtBit .pmc 8) := fun d => Dev.setReg_keeps d _ (h _ (by simp [eventKeys]))
  induction fuel generalizing d n with
  | zero => exact Dev.Keeps.refl ks d
  | succ fuel ih =>
    unfold Dev.pmcAdd
    split
    · exact Dev.setPmcCount_keeps ks d _ _
    · have hb : d.Keeps ks ((d.setPmcCount n 0).setOvf n) := (Dev.setPmcCount_keeps ks d n 0).trans (Dev.setOvf_keeps _ n h)
      generalize (d.setPmcCount n 0).setOvf n = e at hb ⊢
      dsimp only
      split
      · split
        · exact hb.trans (ih _ _)
        · exact hb
      · have hf : e.Keeps ks ((e.pmcEdge .pmc 8).foldl (fun e k => Dev.pmcAdd fuel e k) (e.evtBit .pmc 8)) :=
          (he e).trans (Dev.keeps_foldl _ (fun d a => ih d a) _ _)
        split
        · exact hb.trans (hf.trans (Dev.addEventRaw_keeps _ _ hw))
        · exact hb.trans hf

theorem Dev.pmcOccur_keeps {ks : List Nat} (h : ∀ k ∈ eventKeys .pmc, k ∈ ks) (d : Dev) (p : Page) (b : Nat) : d.Keeps ks (d.pmcOccur p b) :=
  Dev.keeps_foldl _ (fun d a => Dev.pmcAdd_keeps h 130 d a) _ _

theorem Dev.addEvent_keeps {ks : List Nat} (h : ∀ k ∈ eventKeys .pmc, k ∈ ks) (d : Dev) (s : Nat) : d.Keeps ks (d.addEvent s) := by
  have hw : regKey .pwr 0 0x02C ∈ ks := h _ (by simp [eventKeys])
  unfold Dev.addEvent
  split
  · exact Dev.addEventRaw_keeps d s hw
  · have hf : d.Keeps ks (((d.addEventRaw s).pmcOccur .intc 9).evtBit .intc 9) :=
      ((Dev.addEventRaw_keeps d s hw).trans (Dev.pmcOccur_keeps h _ _ _)).trans (Dev.setReg_keeps _ _ (h _ (by simp [eventKeys])))
    dsimp only
    split
    · exact hf.trans (Dev.addEventRaw_keeps _ _ hw)
    · exact hf

theorem eventKeys_pmc (p : Page) : ∀ k ∈ eventKeys .pmc, k ∈ eventKeys p := by
  intro k hk
  simp only [eventKeys, List.mem_cons, List.not_mem_nil, or_false] at hk ⊢
  omega

/-- An occurrence of an event changes event registers, counters and interrupt sources, and nothing else. -/
theorem Dev.setEvt_keeps (d : Dev) (p : Page) (b : Nat) : d.Keeps (eventKeys p) (d.setEvt p b) := by
  unfold Dev.setEvt Dev.levelled
  have h : d.Keeps (eventKeys p) ((d.pmcOccur p b).evtBit p b) :=
    (Dev.pmcOccur_keeps (eventKeys_pmc p) d p b).trans (Dev.setReg_keeps _ _ (by simp [eventKeys]))
  dsimp only
  split
  · split
    · exact h.trans (Dev.addEvent_keeps (eventKeys_pmc p) _ _)
    · exact h
  · exact h

theorem Dev.setEvtIf_keeps (d : Dev) (c : Bool) (p : Page) (b : Nat) : d.Keeps (eventKeys p) (d.setEvtIf c p b) := by
  unfold Dev.setEvtIf
  split
  · exact Dev.setEvt_keeps d p b
  · exact Dev.Keeps.refl _ d

/-- What a rejected write changes: the page's error registers, and what its event changes (R19, R21). -/
theorem Dev.recordRej_keeps (d : Dev) (m : Nat) (p : Page) (off : Nat) (r : Rej) :
    d.Keeps (regKey p 0 0x018 :: regKey p 0 0x01C :: eventKeys p) (d.recordRej m p off r) := by
  have hs : ∀ k ∈ eventKeys p, k ∈ regKey p 0 0x018 :: regKey p 0 0x01C :: eventKeys p := fun k hk => by simp [hk]
  unfold Dev.recordRej
  dsimp only
  refine Dev.Keeps.trans ?_ ((Dev.setEvt_keeps _ p 0).mono hs)
  have a : ∀ (e : Dev) v, e.Keeps (regKey p 0 0x018 :: regKey p 0 0x01C :: eventKeys p) (e.wr p .PAGE_ERRADDR_MASTER v) := fun e v =>
    Dev.wr_keeps e p _ v (by simp [Fld.PAGE_ERRADDR_MASTER, fRO])
  have b : ∀ (e : Dev) v, e.Keeps (regKey p 0 0x018 :: regKey p 0 0x01C :: eventKeys p) (e.wr p .PAGE_ERRADDR_OFFSET v) := fun e v =>
    Dev.wr_keeps e p _ v (by simp [Fld.PAGE_ERRADDR_OFFSET, fRO])
  have c : ∀ (e : Dev) v, e.Keeps (regKey p 0 0x018 :: regKey p 0 0x01C :: eventKeys p) (e.wr p .PAGE_ERRCODE_CODE v) := fun e v =>
    Dev.wr_keeps e p _ v (by simp [Fld.PAGE_ERRCODE_CODE, fRO])
  refine Dev.Keeps.trans (((a d m).trans (b _ (off % 0x1000 / 4))).trans (c _ r.code)) ?_
  split
  · exact Dev.wrOn_keeps _ p _ _ (by simp [Fld.PAGE_ERRCODE_OVERRUN, fRO])
  · exact Dev.Keeps.refl _ _

/-- The registers that a logged transfer changes (R355, R356, R358, R359). -/
theorem Dev.mtxLog_keeps (d : Dev) (m target addr code : Nat) (isWrite : Bool) :
    d.Keeps (mtxLogKeys) (d.mtxLog m target addr code isWrite) := by
  have hs : ∀ k ∈ eventKeys .mtx, k ∈ mtxLogKeys := fun k hk => by simp [mtxLogKeys, hk]
  unfold Dev.mtxLog
  dsimp only
  refine Dev.Keeps.trans ?_ ((Dev.setEvt_keeps _ .mtx _).mono hs)
  have a : ∀ (e : Dev) v, e.Keeps mtxLogKeys (e.wr .mtx .MTX_ERR_ADDR_ADDR v) := fun e v => Dev.wr_keeps e .mtx _ v (by simp [mtxLogKeys, Fld.MTX_ERR_ADDR_ADDR, fRO])
  have b : ∀ (e : Dev) v, e.Keeps mtxLogKeys (e.wr .mtx .MTX_ERR_INFO_TARGET v) := fun e v => Dev.wr_keeps e .mtx _ v (by simp [mtxLogKeys, Fld.MTX_ERR_INFO_TARGET, fRO])
  have c : ∀ (e : Dev) v, e.Keeps mtxLogKeys (e.wrOn .mtx .MTX_ERR_INFO_WRITE v) := fun e v => Dev.wrOn_keeps e .mtx _ v (by simp [mtxLogKeys, Fld.MTX_ERR_INFO_WRITE, fRO])
  have f : ∀ (e : Dev) v, e.Keeps mtxLogKeys (e.wr .mtx .MTX_ERR_INFO_CODE v) := fun e v => Dev.wr_keeps e .mtx _ v (by simp [mtxLogKeys, Fld.MTX_ERR_INFO_CODE, fRO])
  have g : ∀ (e : Dev) v, e.Keeps mtxLogKeys (e.wr .mtx .MTX_ERR_INFO_MASTER v) := fun e v => Dev.wr_keeps e .mtx _ v (by simp [mtxLogKeys, Fld.MTX_ERR_INFO_MASTER, fRO])
  have o : ∀ (e : Dev) v, e.Keeps mtxLogKeys (e.wrOn .mtx .MTX_ERR_INFO_OVERRUN v) := fun e v => Dev.wrOn_keeps e .mtx _ v (by simp [mtxLogKeys, Fld.MTX_ERR_INFO_OVERRUN, fRO])
  refine Dev.Keeps.trans (((((a d addr).trans (b _ target)).trans (c _ isWrite)).trans (f _ code)).trans (g _ m)) ?_
  split
  · exact o _ _
  · exact Dev.Keeps.refl _ _

/-- A transfer without permission changes the matrix log and its count only (R356). -/
theorem Dev.permErr_keeps (d : Dev) (m target addr : Nat) (isWrite : Bool) : d.Keeps mtxLogKeys (d.permErr m target addr isWrite) :=
  ((Dev.inc_keeps d .mtx .MTX_ERRCNT2_PERM (by simp [mtxLogKeys, Fld.MTX_ERRCNT2_PERM, fRO])).trans (Dev.mtxLog_keeps _ _ _ _ _ _)).trans (Dev.respond_keeps _ _ _ _)

/-- A transfer that ends with DECERR changes the matrix log and its count only (R358). -/
theorem Dev.decErr_keeps (d : Dev) (m target addr : Nat) (isWrite : Bool) (n : Nat) : d.Keeps mtxLogKeys (d.decErr m target addr isWrite n) :=
  ((Dev.inc_keeps d .mtx .MTX_ERRCNT_DECODE (by simp [mtxLogKeys, Fld.MTX_ERRCNT_DECODE, fRO])).trans (Dev.mtxLog_keeps _ _ _ _ _ _)).trans (Dev.respond_keeps _ _ _ _)

/-! ### Event bits stay set -/

/-- Page offsets that differ below 4,096 are different registers. -/
theorem regKey_ne (p q : Page) {a b : Nat} (h : a % 4096 ≠ b % 4096) : regKey p 0 a ≠ regKey q 0 b := by
  have base : ∀ p : Page, p.base % 4096 = 0 := by intro p; cases p <;> simp [Page.base] <;> omega
  have hp := base p
  have hq := base q
  simp [regKey]
  omega

/-- The error registers of a page are none that an event changes. -/
theorem not_mem_eventKeys (p q : Page) {a : Nat} (h : a % 4096 ≠ 0x010 ∧ a % 4096 ≠ 0x024 ∧ a % 4096 ≠ 0x028 ∧ a % 4096 ≠ 0x02C) :
    regKey p 0 a ∉ eventKeys q := by
  simp only [eventKeys, List.mem_cons, List.not_mem_nil, or_false, not_or]
  refine ⟨?_, ?_, ?_, ?_, ?_, ?_⟩ <;> exact regKey_ne _ _ (by omega)

/-- PAGE_EVT of page `p` has bit `i` set after, if it had before. -/
def Dev.EvtStays (p : Page) (i : Nat) (d e : Dev) : Prop :=
  (d.reg (regKey p 0 0x010)).getLsbD i = true → (e.reg (regKey p 0 0x010)).getLsbD i = true

theorem Dev.EvtStays.of_eq {p : Page} {i : Nat} {d e : Dev} (h : e.reg (regKey p 0 0x010) = d.reg (regKey p 0 0x010)) : Dev.EvtStays p i d e :=
  fun x => h ▸ x

theorem Dev.EvtStays.trans {p : Page} {i : Nat} {d e f : Dev} (h : Dev.EvtStays p i d e) (g : Dev.EvtStays p i e f) : Dev.EvtStays p i d f :=
  fun x => g (h x)

theorem Dev.evtBit_stays (d : Dev) (p q : Page) (b i : Nat) : Dev.EvtStays p i d (d.evtBit q b) := by
  intro h
  by_cases hk : regKey q 0 0x010 = regKey p 0 0x010
  · simp only [Dev.evtBit, hk, Dev.setReg_same, BitVec.getLsbD_or, h, Bool.true_or]
  · simpa only [Dev.evtBit, Dev.setReg_other _ _ (Ne.symm hk)] using h

theorem Dev.wakeFor_stays (d : Dev) (p : Page) (i k : Nat) : Dev.EvtStays p i d (d.wakeFor k) :=
  .of_eq ((Dev.wakeFor_keeps (ks := [regKey .pwr 0 0x02C]) d k (by simp)).regs _ (by simp [regKey_ne p .pwr (a := 0x010) (b := 0x02C) (by omega)]))

theorem Dev.addEventRaw_stays (d : Dev) (p : Page) (i s : Nat) : Dev.EvtStays p i d (d.addEventRaw s) :=
  .of_eq ((Dev.addEventRaw_keeps (ks := [regKey .pwr 0 0x02C]) d s (by simp)).regs _ (by simp [regKey_ne p .pwr (a := 0x010) (b := 0x02C) (by omega)]))

theorem Dev.foldl_stays {α : Type} {p : Page} {i : Nat} (f : Dev → α → Dev) (h : ∀ (d : Dev) a, Dev.EvtStays p i d (f d a)) (l : List α) (d : Dev) :
    Dev.EvtStays p i d (l.foldl f d) := by
  induction l generalizing d with
  | nil => exact fun x => x
  | cons a l ih => exact (h d a).trans (ih (f d a))

theorem Dev.setOvf_stays (d : Dev) (p : Page) (i n : Nat) : Dev.EvtStays p i d (d.setOvf n) := by
  unfold Dev.setOvf
  split <;> exact .of_eq (Dev.setReg_other _ _ (regKey_ne _ _ (by omega)))

theorem Dev.pmcAdd_stays (p : Page) (i fuel : Nat) (d : Dev) (n : Nat) : Dev.EvtStays p i d (Dev.pmcAdd fuel d n) := by
  induction fuel generalizing d n with
  | zero => exact fun x => x
  | succ fuel ih =>
    unfold Dev.pmcAdd
    split
    · exact fun x => x
    · have hb : Dev.EvtStays p i d ((d.setPmcCount n 0).setOvf n) :=
        Dev.EvtStays.trans (e := d.setPmcCount n 0) (fun x => x) (Dev.setOvf_stays _ p i n)
      generalize (d.setPmcCount n 0).setOvf n = e at hb ⊢
      dsimp only
      split
      · split
        · exact hb.trans (ih _ _)
        · exact hb
      · have hf : Dev.EvtStays p i e ((e.pmcEdge .pmc 8).foldl (fun e k => Dev.pmcAdd fuel e k) (e.evtBit .pmc 8)) :=
          (Dev.evtBit_stays e p .pmc 8 i).trans (Dev.foldl_stays _ (fun d a => ih d a) _ _)
        split
        · exact hb.trans (hf.trans (Dev.addEventRaw_stays _ p i _))
        · exact hb.trans hf

theorem Dev.pmcOccur_stays (d : Dev) (p q : Page) (i b : Nat) : Dev.EvtStays p i d (d.pmcOccur q b) :=
  Dev.foldl_stays _ (fun d a => Dev.pmcAdd_stays p i 130 d a) _ _

theorem Dev.addEvent_stays (d : Dev) (p : Page) (i s : Nat) : Dev.EvtStays p i d (d.addEvent s) := by
  unfold Dev.addEvent
  split
  · exact Dev.addEventRaw_stays d p i s
  · have hf : Dev.EvtStays p i d (((d.addEventRaw s).pmcOccur .intc 9).evtBit .intc 9) :=
      ((Dev.addEventRaw_stays d p i s).trans (Dev.pmcOccur_stays _ p _ i _)).trans (Dev.evtBit_stays _ p _ _ i)
    dsimp only
    split
    · exact hf.trans (Dev.addEventRaw_stays _ p i _)
    · exact hf

theorem Dev.levelled_stays (d e : Dev) (p q : Page) (i : Nat) : Dev.EvtStays p i e (d.levelled e q) := by
  unfold Dev.levelled
  split
  · split
    · exact Dev.addEvent_stays _ p i _
    · exact fun x => x
  · exact fun x => x

/-- An event sets its PAGE_EVT bit (R18). -/
theorem Dev.setEvt_bit (d : Dev) (p : Page) (b : Nat) (h : b < 32) : ((d.setEvt p b).reg (regKey p 0 0x010)).getLsbD b = true := by
  unfold Dev.setEvt
  refine Dev.levelled_stays _ _ p p b ?_
  rw [Dev.evtBit, Dev.setReg_same, BitVec.getLsbD_or, BitVec.getLsbD_ofNat, Nat.testBit_two_pow_self]
  simp [h]

/-- An event leaves every PAGE_EVT bit that was set. -/
theorem Dev.setEvt_stays (d : Dev) (p q : Page) (b i : Nat) : Dev.EvtStays p i d (d.setEvt q b) :=
  ((Dev.pmcOccur_stays d p q i b).trans (Dev.evtBit_stays _ p q b i)).trans (Dev.levelled_stays _ _ p q i)

end Sys2Proof.Machine
end

