-- ==== Sys2Proof/Laws/Logs.lean ====
section
/-! SUPPORT. What a rejected write and a logged transfer leave in the error registers, said once. -/

namespace Sys2Proof.Machine

/-- The page header after a rejected write describes it (R19, R21). -/
theorem Dev.recordRej_vals (d : Dev) (m : Master) (p : Page) (off : Nat) (r : Rej) :
    (d.recordRej m.val p off r).rd p .PAGE_ERRADDR_MASTER = m.val ∧ (d.recordRej m.val p off r).rd p .PAGE_ERRADDR_OFFSET = off % 0x1000 / 4 ∧
      (d.recordRej m.val p off r).rd p .PAGE_ERRCODE_CODE = r.code ∧
      ((d.reg (regKey p 0 0x010)).getLsbD 0 = true → (d.recordRej m.val p off r).on p .PAGE_ERRCODE_OVERRUN = true) ∧
      ((d.recordRej m.val p off r).reg (regKey p 0 0x010)).getLsbD 0 = true := by
  have ne : regKey p 0 0x018 ≠ regKey p 0 0x01C := regKey_ne _ _ (by omega)
  have hm := m.isLt
  have hr : r.code < 8 := by cases r <;> simp [Rej.code]
  have ho : off % 4096 / 4 < 1024 := by omega
  have N : ∀ f : Fld, f.off = 0x018 ∨ f.off = 0x01C → regKey p 0 f.off ∉ eventKeys p := fun f hf => not_mem_eventKeys p p (by omega)
  simp only [Dev.recordRej]
  have K := fun (e : Dev) => Dev.setEvt_keeps e p 0
  refine ⟨?_, ?_, ?_, ?_, Dev.setEvt_bit _ _ _ (by omega)⟩
  · rw [(K _).rd _ _ (N _ (by simp [Fld.PAGE_ERRADDR_MASTER, fRO]))]
    split <;> simp [Dev.wrOn, Dev.rd_wr_other, Dev.rd_wr, Fld.PAGE_ERRADDR_MASTER, Fld.PAGE_ERRADDR_OFFSET, Fld.PAGE_ERRCODE_CODE, Fld.PAGE_ERRCODE_OVERRUN, fRO, ne.symm] <;> omega
  · rw [(K _).rd _ _ (N _ (by simp [Fld.PAGE_ERRADDR_OFFSET, fRO]))]
    split <;> simp [Dev.wrOn, Dev.rd_wr_other, Dev.rd_wr, Fld.PAGE_ERRADDR_MASTER, Fld.PAGE_ERRADDR_OFFSET, Fld.PAGE_ERRCODE_CODE, Fld.PAGE_ERRCODE_OVERRUN, fRO, ne.symm] <;> omega
  · rw [(K _).rd _ _ (N _ (by simp [Fld.PAGE_ERRCODE_CODE, fRO]))]
    split <;> simp [Dev.wrOn, Dev.rd_wr_other, Dev.rd_wr, Fld.PAGE_ERRADDR_MASTER, Fld.PAGE_ERRADDR_OFFSET, Fld.PAGE_ERRCODE_CODE, Fld.PAGE_ERRCODE_OVERRUN, fRO] <;> omega
  · intro h
    rw [if_pos h, Dev.on, (K _).rd _ _ (N _ (by simp [Fld.PAGE_ERRCODE_OVERRUN, fRO])), Dev.wrOn, Dev.rd_wr _ _ _ _ (by simp [Fld.PAGE_ERRCODE_OVERRUN, fRO])]
    rfl

/-- The matrix log after a transfer describes it (R359). -/
theorem Dev.mtxLog_vals (d : Dev) (m : Master) (t a c : Nat) (w : Bool) (hc : c < 5) (ht : t < 16) :
    (d.mtxLog m.val t a c w).rd .mtx .MTX_ERR_ADDR_ADDR = a % 2 ^ 32 ∧ (d.mtxLog m.val t a c w).rd .mtx .MTX_ERR_INFO_TARGET = t ∧
      (d.mtxLog m.val t a c w).rd .mtx .MTX_ERR_INFO_MASTER = m.val ∧ (d.mtxLog m.val t a c w).rd .mtx .MTX_ERR_INFO_CODE = c ∧
      (d.mtxLog m.val t a c w).on .mtx .MTX_ERR_INFO_WRITE = w ∧
      ((d.reg (regKey .mtx 0 0x010)).getLsbD (logEvt c) = true → (d.mtxLog m.val t a c w).on .mtx .MTX_ERR_INFO_OVERRUN = true) ∧
      ((d.mtxLog m.val t a c w).reg (regKey .mtx 0 0x010)).getLsbD (logEvt c) = true ∧
      (d.mtxLog m.val t a c w).rd .mtx .MTX_ERRCNT2_PERM = d.rd .mtx .MTX_ERRCNT2_PERM := by
  have hm := m.isLt
  simp only [Dev.mtxLog]
  have K := fun (e : Dev) => Dev.setEvt_keeps e .mtx (logEvt c)
  have N : ∀ f : Fld, f.off = 0x070 ∨ f.off = 0x074 ∨ f.off = 0x080 → regKey .mtx 0 f.off ∉ eventKeys .mtx :=
    fun f hf => not_mem_eventKeys .mtx .mtx (by omega)
  have hl : logEvt c < 32 := by
    unfold logEvt
    split <;> omega
  refine ⟨?_, ?_, ?_, ?_, ?_, ?_, Dev.setEvt_bit _ _ _ hl, ?_⟩
  · rw [(K _).rd _ _ (N _ (by simp [Fld.MTX_ERR_ADDR_ADDR, fRO]))]
    split <;> simp [Dev.wrOn, Dev.rd_wr_other, Dev.rd_wr, Fld.MTX_ERR_ADDR_ADDR, Fld.MTX_ERR_INFO_TARGET, Fld.MTX_ERR_INFO_WRITE, Fld.MTX_ERR_INFO_CODE, Fld.MTX_ERR_INFO_MASTER, Fld.MTX_ERR_INFO_OVERRUN, fRO, regKey]
  · rw [(K _).rd _ _ (N _ (by simp [Fld.MTX_ERR_INFO_TARGET, fRO]))]
    split <;> simp [Dev.wrOn, Dev.rd_wr_other, Dev.rd_wr, Fld.MTX_ERR_ADDR_ADDR, Fld.MTX_ERR_INFO_TARGET, Fld.MTX_ERR_INFO_WRITE, Fld.MTX_ERR_INFO_CODE, Fld.MTX_ERR_INFO_MASTER, Fld.MTX_ERR_INFO_OVERRUN, fRO, regKey] <;> omega
  · rw [(K _).rd _ _ (N _ (by simp [Fld.MTX_ERR_INFO_MASTER, fRO]))]
    split <;> simp [Dev.wrOn, Dev.rd_wr_other, Dev.rd_wr, Fld.MTX_ERR_ADDR_ADDR, Fld.MTX_ERR_INFO_TARGET, Fld.MTX_ERR_INFO_WRITE, Fld.MTX_ERR_INFO_CODE, Fld.MTX_ERR_INFO_MASTER, Fld.MTX_ERR_INFO_OVERRUN, fRO, regKey] <;> omega
  · rw [(K _).rd _ _ (N _ (by simp [Fld.MTX_ERR_INFO_CODE, fRO]))]
    split <;> simp [Dev.wrOn, Dev.rd_wr_other, Dev.rd_wr, Fld.MTX_ERR_ADDR_ADDR, Fld.MTX_ERR_INFO_TARGET, Fld.MTX_ERR_INFO_WRITE, Fld.MTX_ERR_INFO_CODE, Fld.MTX_ERR_INFO_MASTER, Fld.MTX_ERR_INFO_OVERRUN, fRO, regKey] <;> omega
  · rw [Dev.on, (K _).rd _ _ (N _ (by simp [Fld.MTX_ERR_INFO_WRITE, fRO]))]
    split <;> simp [Dev.wrOn, Dev.rd_wr_other, Dev.rd_wr, Fld.MTX_ERR_ADDR_ADDR, Fld.MTX_ERR_INFO_TARGET, Fld.MTX_ERR_INFO_WRITE, Fld.MTX_ERR_INFO_CODE, Fld.MTX_ERR_INFO_MASTER, Fld.MTX_ERR_INFO_OVERRUN, fRO, regKey] <;> cases w <;> simp
  · intro h
    rw [if_pos h, Dev.on, (K _).rd _ _ (N _ (by simp [Fld.MTX_ERR_INFO_OVERRUN, fRO])), Dev.wrOn, Dev.rd_wr _ _ _ _ (by simp [Fld.MTX_ERR_INFO_OVERRUN, fRO])]
    rfl
  · rw [(K _).rd _ _ (N _ (by simp [Fld.MTX_ERRCNT2_PERM, fRO]))]
    split <;> simp [Dev.wrOn, Dev.rd_wr_other, Fld.MTX_ERR_ADDR_ADDR, Fld.MTX_ERR_INFO_TARGET, Fld.MTX_ERR_INFO_WRITE, Fld.MTX_ERR_INFO_CODE, Fld.MTX_ERR_INFO_MASTER, Fld.MTX_ERR_INFO_OVERRUN, fRO, regKey, Fld.MTX_ERRCNT2_PERM]

/-- A count that saturates rises by one. -/
theorem Dev.inc_rd (d : Dev) (p : Page) (f : Fld) (h : f.lo + f.w ≤ 32) : (d.inc p f).rd p f = min (d.rd p f + 1) (2 ^ f.w - 1) := by
  have hp := Nat.two_pow_pos f.w
  rw [Dev.inc, Dev.add, Dev.rd_wr _ _ _ _ h]
  exact Nat.mod_eq_of_lt (Nat.lt_of_le_of_lt (Nat.min_le_right _ _) (by omega))

end Sys2Proof.Machine
end

