-- ==== Sys2Proof/Laws/Pages.lean ====
section
/-! SUPPORT. What a write of a register page by a master can do, said once. -/

namespace Sys2Proof.Machine

/-- An accepted write of a register at or above 0x020 stores it, has the effect of its offset, and is answered OKAY. -/
theorem Dev.mWrite_admits {d : Dev} {m off : Nat} {p : Page} {v : Word} (h : d.admits m p off v = true) (hs : 0x020 ≤ off) :
    d.live (fun d => d.mWrite m p off 15 v) =
      ((d.stored m p off v).pageAfter m p off ((d.passed m).pageFmt p) (d.held m p off) v).okay m := by
  unfold Dev.admits at h
  simp only [Bool.and_eq_true, Bool.not_eq_true', Option.isNone_iff_eq_none, Option.isSome_iff_exists] at h
  obtain ⟨⟨⟨⟨h1, h2⟩, h3⟩, ⟨r, h4⟩⟩, h5⟩ := h
  have hb : (off == 0x008) = false := by simp; omega
  have hn : ¬ off < 0x020 := by omega
  unfold Dev.held at h5
  simp only [Dev.passed, BitVec.ofNat_eq_ofNat] at h5
  simp [Dev.live, h1, Dev.mWrite, h2, h3, Dev.pageWrite, Dev.stored, Dev.held, Dev.passed, h4, h5, hb, hn, Dev.okay]

/-- An accepted write of PAGE_CTRL that starts no BLOCK reset. -/
theorem Dev.mWrite_ctrl {d : Dev} {m : Nat} {p : Page} {v : Word} (h : d.admits m p 0x008 v = true)
    (hs : Fld.PAGE_CTRL_SOFT_RESET.get v = 0) :
    d.live (fun d => d.mWrite m p 0x008 15 v) =
      (((d.stored m p 0x008 v).pageAfter m p 0x008 ((d.passed m).pageFmt p) (d.held m p 0x008) v).keyed p v).okay m := by
  unfold Dev.admits at h
  simp only [Bool.and_eq_true, Bool.not_eq_true', Option.isNone_iff_eq_none, Option.isSome_iff_exists] at h
  obtain ⟨⟨⟨⟨h1, h2⟩, h3⟩, ⟨r, h4⟩⟩, h5⟩ := h
  unfold Dev.held at h5
  simp only [Dev.passed, BitVec.ofNat_eq_ofNat] at h5
  simp [Dev.live, h1, Dev.mWrite, h2, h3, Dev.pageWrite, Dev.stored, Dev.held, Dev.passed, h4, h5, Dev.okay, hs, Dev.headAfter, Dev.keyed]

/-- An accepted write of PAGE_CTRL that starts a BLOCK reset: nothing but the reset follows (R17). -/
theorem Dev.mWrite_soft {d : Dev} {m : Nat} {p : Page} {v : Word} (h : d.admits m p 0x008 v = true)
    (hs : Fld.PAGE_CTRL_SOFT_RESET.get v = 1) :
    d.live (fun d => d.mWrite m p 0x008 15 v) = (((d.stored m p 0x008 v).keyed p v).blockReset p).okay m := by
  unfold Dev.admits at h
  simp only [Bool.and_eq_true, Bool.not_eq_true', Option.isNone_iff_eq_none, Option.isSome_iff_exists] at h
  obtain ⟨⟨⟨⟨h1, h2⟩, h3⟩, ⟨r, h4⟩⟩, h5⟩ := h
  unfold Dev.held at h5
  simp only [Dev.passed, BitVec.ofNat_eq_ofNat] at h5
  simp [Dev.live, h1, Dev.mWrite, h2, h3, Dev.pageWrite, Dev.stored, Dev.held, Dev.passed, h4, h5, Dev.okay, hs, Dev.headAfter, Dev.keyed]

/-- A write that carries SOFT_RESET carries it as a 1. -/
theorem soft_or (rest : Word) : Fld.PAGE_CTRL_SOFT_RESET.get (rest ||| 2) = 1 := by
  have h : (rest ||| 2).toNat.testBit 1 = true := by
    rw [BitVec.testBit_toNat]
    simp
  rw [Nat.testBit_eq_decide_div_mod_eq] at h
  simpa [Fld.PAGE_CTRL_SOFT_RESET, fWC, Fld.get, Nat.shiftRight_eq_div_pow] using h

/-- An accepted write of a context window updates it, and is answered OKAY. -/
theorem Dev.mCtxWrite_admits {d : Dev} {m off : Nat} {v : Word} (h : d.ctxAdmits m off v = true) :
    d.live (fun d => d.mCtxWrite m off 15 v) = ((d.ctxPassed m).ctxPut off v).okay m := by
  unfold Dev.ctxAdmits at h
  simp only [Bool.and_eq_true, Bool.not_eq_true', Option.isNone_iff_eq_none] at h
  obtain ⟨⟨⟨h1, h2⟩, h3⟩, h4⟩ := h
  simp only [Dev.ctxPassed] at h4
  simp [Dev.live, h1, Dev.mCtxWrite, h2, h3, Dev.ctxWrite, Dev.ctxPassed, h4, Dev.okay]

/-- A read of a page register that the matrix lets through is answered OKAY with what the register showed, after its latches; a read of
RD_LO alone may stall instead (R373). -/
theorem Dev.mRead_okay {d : Dev} {m off : Nat} {p : Page} (h1 : d.stopped = false) (h2 : d.permits m 6 false = true)
    (h3 : (p == .qmg && off == 0x054) = false) :
    d.live (fun d => d.mRead m p off) =
      ((d.passed m).readAfter m p off).respond m ⟨.okay, [(d.passed m).pageView m p off]⟩ := by
  simp [Dev.live, h1, Dev.mRead, h2, Dev.pageRead, h3, Dev.passed]

/-- What a line engine does with the instruction it stands at: the slots are counted, and the instruction runs. -/
theorem Dev.instrRun_meets {d : Dev} {n op : Nat} {f : Dev → Nat → Word → Dev} (h : d.meets n op = true) :
    d.live (fun d => d.instrRun n op f) = f (d.billed n op) n (d.fetch n) := by
  unfold Dev.meets at h
  simp only [Bool.and_eq_true, Bool.not_eq_true', beq_iff_eq, decide_eq_true_eq] at h
  obtain ⟨⟨⟨⟨h1, h2⟩, h3⟩, h4⟩, h5⟩ := h
  simp [Dev.live, h1, Dev.instrRun, h2, h3, h4, Nat.not_lt_of_le h5, Dev.billed]

/-- A rejected write is recorded in the page header, leaves what a refused admission leaves, and is answered OKAY (R19, R357). -/
theorem Dev.mWrite_rejects {d : Dev} {m off : Nat} {p : Page} {be : BitVec 4} {v : Word} {r : Rej} (h1 : d.hostBarred m (p.base + off) = false)
    (h2 : d.permits m 6 true = true) (h : d.rejects m p off be v = some r) :
    d.mWrite m p off be v = ((((d.reached m be).recordRej m p off r).pageOnRej p off
      ((d.reached m be).reg ((d.reached m be).pageKey m p off)) v r).respond m ⟨.okay, []⟩) := by
  unfold Dev.mWrite
  rw [if_neg (by simp [h1, h2])]
  change ((d.reached m be).pageWrite m p off be v).respond m _ = _
  unfold Dev.rejects at h
  simp only [Dev.pageWrite, h]

end Sys2Proof.Machine
end

