-- ==== Sys2Proof/Laws/State.lean ====
section
/-! SUPPORT. What the basic updates of the block leave alone: one lemma per update and field, by computation. -/

namespace Sys2Proof.Machine

@[simp] theorem Dev.setReg_free (d : Dev) (k : Nat) (w : Word) : (d.setReg k w).free = d.free := rfl
@[simp] theorem Dev.setReg_xo (d : Dev) (k : Nat) (w : Word) : (d.setReg k w).xo = d.xo := rfl
@[simp] theorem Dev.setReg_resp (d : Dev) (k : Nat) (w : Word) : (d.setReg k w).resp = d.resp := rfl
@[simp] theorem Dev.setReg_fabMargin (d : Dev) (k : Nat) (w : Word) : (d.setReg k w).fabMargin = d.fabMargin := rfl
@[simp] theorem Dev.setReg_marginRun (d : Dev) (k : Nat) (w : Word) : (d.setReg k w).marginRun = d.marginRun := rfl
@[simp] theorem Dev.setReg_intc (d : Dev) (k : Nat) (w : Word) : (d.setReg k w).intc = d.intc := rfl
@[simp] theorem Dev.setReg_pmc (d : Dev) (k : Nat) (w : Word) : (d.setReg k w).pmc = d.pmc := rfl
@[simp] theorem Dev.setReg_lanes (d : Dev) (k : Nat) (w : Word) : (d.setReg k w).lanes = d.lanes := rfl
@[simp] theorem Dev.setReg_plls (d : Dev) (k : Nat) (w : Word) : (d.setReg k w).plls = d.plls := rfl
@[simp] theorem Dev.setReg_framers (d : Dev) (k : Nat) (w : Word) : (d.setReg k w).framers = d.framers := rfl
@[simp] theorem Dev.setReg_tiles (d : Dev) (k : Nat) (w : Word) : (d.setReg k w).tiles = d.tiles := rfl
@[simp] theorem Dev.setReg_pm (d : Dev) (k : Nat) (w : Word) : (d.setReg k w).pm = d.pm := rfl
@[simp] theorem Dev.setReg_groups (d : Dev) (k : Nat) (w : Word) : (d.setReg k w).groups = d.groups := rfl
@[simp] theorem Dev.setReg_pmNext (d : Dev) (k : Nat) (w : Word) : (d.setReg k w).pmNext = d.pmNext := rfl
@[simp] theorem Dev.setReg_tctx (d : Dev) (k : Nat) (w : Word) : (d.setReg k w).tctx = d.tctx := rfl
@[simp] theorem Dev.setReg_actx (d : Dev) (k : Nat) (w : Word) : (d.setReg k w).actx = d.actx := rfl
@[simp] theorem Dev.setReg_uctx (d : Dev) (k : Nat) (w : Word) : (d.setReg k w).uctx = d.uctx := rfl
@[simp] theorem Dev.setReg_takes (d : Dev) (k : Nat) (w : Word) : (d.setReg k w).takes = d.takes := rfl
@[simp] theorem Dev.setReg_probes (d : Dev) (k : Nat) (w : Word) : (d.setReg k w).probes = d.probes := rfl
@[simp] theorem Dev.setReg_doms (d : Dev) (k : Nat) (w : Word) : (d.setReg k w).doms = d.doms := rfl
@[simp] theorem Dev.setReg_gates (d : Dev) (k : Nat) (w : Word) : (d.setReg k w).gates = d.gates := rfl
@[simp] theorem Dev.setReg_deferring (d : Dev) (k : Nat) (w : Word) : (d.setReg k w).deferring = d.deferring := rfl
@[simp] theorem Dev.setReg_chans (d : Dev) (k : Nat) (w : Word) : (d.setReg k w).chans = d.chans := rfl
@[simp] theorem Dev.setReg_delays (d : Dev) (k : Nat) (w : Word) : (d.setReg k w).delays = d.delays := rfl
@[simp] theorem Dev.setReg_mem (d : Dev) (k : Nat) (w : Word) : (d.setReg k w).mem = d.mem := rfl
@[simp] theorem Dev.setReg_memGen (d : Dev) (k : Nat) (w : Word) : (d.setReg k w).memGen = d.memGen := rfl
@[simp] theorem Dev.setReg_memGenB (d : Dev) (k : Nat) (w : Word) : (d.setReg k w).memGenB = d.memGenB := rfl
@[simp] theorem Dev.setReg_queues (d : Dev) (k : Nat) (w : Word) : (d.setReg k w).queues = d.queues := rfl
@[simp] theorem Dev.setReg_opens (d : Dev) (k : Nat) (w : Word) : (d.setReg k w).opens = d.opens := rfl
@[simp] theorem Dev.setReg_parInj (d : Dev) (k : Nat) (w : Word) : (d.setReg k w).parInj = d.parInj := rfl
@[simp] theorem Dev.setReg_stalls (d : Dev) (k : Nat) (w : Word) : (d.setReg k w).stalls = d.stalls := rfl
@[simp] theorem Dev.setReg_sram (d : Dev) (k : Nat) (w : Word) : (d.setReg k w).sram = d.sram := rfl
@[simp] theorem Dev.setReg_lengs (d : Dev) (k : Nat) (w : Word) : (d.setReg k w).lengs = d.lengs := rfl
@[simp] theorem Dev.setReg_istore (d : Dev) (k : Nat) (w : Word) : (d.setReg k w).istore = d.istore := rfl
@[simp] theorem Dev.setReg_dmem (d : Dev) (k : Nat) (w : Word) : (d.setReg k w).dmem = d.dmem := rfl
@[simp] theorem Dev.setReg_lengGen (d : Dev) (k : Nat) (w : Word) : (d.setReg k w).lengGen = d.lengGen := rfl
@[simp] theorem Dev.setReg_outs (d : Dev) (k : Nat) (w : Word) : (d.setReg k w).outs = d.outs := rfl
@[simp] theorem Dev.setReg_period (d : Dev) (k : Nat) (w : Word) : (d.setReg k w).period = d.period := rfl
@[simp] theorem Dev.setReg_streams (d : Dev) (k : Nat) (w : Word) : (d.setReg k w).streams = d.streams := rfl
@[simp] theorem Dev.setReg_slots (d : Dev) (k : Nat) (w : Word) : (d.setReg k w).slots = d.slots := rfl
@[simp] theorem Dev.setReg_gens (d : Dev) (k : Nat) (w : Word) : (d.setReg k w).gens = d.gens := rfl
@[simp] theorem Dev.setReg_meters (d : Dev) (k : Nat) (w : Word) : (d.setReg k w).meters = d.meters := rfl
@[simp] theorem Dev.setReg_deembs (d : Dev) (k : Nat) (w : Word) : (d.setReg k w).deembs = d.deembs := rfl
@[simp] theorem Dev.setReg_refs (d : Dev) (k : Nat) (w : Word) : (d.setReg k w).refs = d.refs := rfl
@[simp] theorem Dev.setReg_tmu (d : Dev) (k : Nat) (w : Word) : (d.setReg k w).tmu = d.tmu := rfl
@[simp] theorem Dev.setReg_fps (d : Dev) (k : Nat) (w : Word) : (d.setReg k w).fps = d.fps := rfl
@[simp] theorem Dev.setReg_tlrx (d : Dev) (k : Nat) (w : Word) : (d.setReg k w).tlrx = d.tlrx := rfl
@[simp] theorem Dev.setReg_tltx (d : Dev) (k : Nat) (w : Word) : (d.setReg k w).tltx = d.tltx := rfl
@[simp] theorem Dev.setReg_protAud (d : Dev) (k : Nat) (w : Word) : (d.setReg k w).protAud = d.protAud := rfl
@[simp] theorem Dev.setReg_pwr (d : Dev) (k : Nat) (w : Word) : (d.setReg k w).pwr = d.pwr := rfl
@[simp] theorem Dev.setReg_cores (d : Dev) (k : Nat) (w : Word) : (d.setReg k w).cores = d.cores := rfl
@[simp] theorem Dev.setReg_mtx (d : Dev) (k : Nat) (w : Word) : (d.setReg k w).mtx = d.mtx := rfl
@[simp] theorem Dev.setReg_host (d : Dev) (k : Nat) (w : Word) : (d.setReg k w).host = d.host := rfl
@[simp] theorem Dev.setReg_boot (d : Dev) (k : Nat) (w : Word) : (d.setReg k w).boot = d.boot := rfl
@[simp] theorem Dev.setReg_jtag (d : Dev) (k : Nat) (w : Word) : (d.setReg k w).jtag = d.jtag := rfl
@[simp] theorem Dev.setReg_gpioPins (d : Dev) (k : Nat) (w : Word) : (d.setReg k w).gpioPins = d.gpioPins := rfl

@[simp] theorem Dev.respond_regs (d : Dev) (m : Nat) (r : Resp) : (d.respond m r).regs = d.regs := rfl
@[simp] theorem Dev.respond_free (d : Dev) (m : Nat) (r : Resp) : (d.respond m r).free = d.free := rfl
@[simp] theorem Dev.respond_xo (d : Dev) (m : Nat) (r : Resp) : (d.respond m r).xo = d.xo := rfl
@[simp] theorem Dev.respond_fabMargin (d : Dev) (m : Nat) (r : Resp) : (d.respond m r).fabMargin = d.fabMargin := rfl
@[simp] theorem Dev.respond_marginRun (d : Dev) (m : Nat) (r : Resp) : (d.respond m r).marginRun = d.marginRun := rfl
@[simp] theorem Dev.respond_intc (d : Dev) (m : Nat) (r : Resp) : (d.respond m r).intc = d.intc := rfl
@[simp] theorem Dev.respond_pmc (d : Dev) (m : Nat) (r : Resp) : (d.respond m r).pmc = d.pmc := rfl
@[simp] theorem Dev.respond_lanes (d : Dev) (m : Nat) (r : Resp) : (d.respond m r).lanes = d.lanes := rfl
@[simp] theorem Dev.respond_plls (d : Dev) (m : Nat) (r : Resp) : (d.respond m r).plls = d.plls := rfl
@[simp] theorem Dev.respond_framers (d : Dev) (m : Nat) (r : Resp) : (d.respond m r).framers = d.framers := rfl
@[simp] theorem Dev.respond_tiles (d : Dev) (m : Nat) (r : Resp) : (d.respond m r).tiles = d.tiles := rfl
@[simp] theorem Dev.respond_pm (d : Dev) (m : Nat) (r : Resp) : (d.respond m r).pm = d.pm := rfl
@[simp] theorem Dev.respond_groups (d : Dev) (m : Nat) (r : Resp) : (d.respond m r).groups = d.groups := rfl
@[simp] theorem Dev.respond_pmNext (d : Dev) (m : Nat) (r : Resp) : (d.respond m r).pmNext = d.pmNext := rfl
@[simp] theorem Dev.respond_tctx (d : Dev) (m : Nat) (r : Resp) : (d.respond m r).tctx = d.tctx := rfl
@[simp] theorem Dev.respond_actx (d : Dev) (m : Nat) (r : Resp) : (d.respond m r).actx = d.actx := rfl
@[simp] theorem Dev.respond_uctx (d : Dev) (m : Nat) (r : Resp) : (d.respond m r).uctx = d.uctx := rfl
@[simp] theorem Dev.respond_takes (d : Dev) (m : Nat) (r : Resp) : (d.respond m r).takes = d.takes := rfl
@[simp] theorem Dev.respond_probes (d : Dev) (m : Nat) (r : Resp) : (d.respond m r).probes = d.probes := rfl
@[simp] theorem Dev.respond_doms (d : Dev) (m : Nat) (r : Resp) : (d.respond m r).doms = d.doms := rfl
@[simp] theorem Dev.respond_gates (d : Dev) (m : Nat) (r : Resp) : (d.respond m r).gates = d.gates := rfl
@[simp] theorem Dev.respond_deferring (d : Dev) (m : Nat) (r : Resp) : (d.respond m r).deferring = d.deferring := rfl
@[simp] theorem Dev.respond_chans (d : Dev) (m : Nat) (r : Resp) : (d.respond m r).chans = d.chans := rfl
@[simp] theorem Dev.respond_delays (d : Dev) (m : Nat) (r : Resp) : (d.respond m r).delays = d.delays := rfl
@[simp] theorem Dev.respond_mem (d : Dev) (m : Nat) (r : Resp) : (d.respond m r).mem = d.mem := rfl
@[simp] theorem Dev.respond_memGen (d : Dev) (m : Nat) (r : Resp) : (d.respond m r).memGen = d.memGen := rfl
@[simp] theorem Dev.respond_memGenB (d : Dev) (m : Nat) (r : Resp) : (d.respond m r).memGenB = d.memGenB := rfl
@[simp] theorem Dev.respond_queues (d : Dev) (m : Nat) (r : Resp) : (d.respond m r).queues = d.queues := rfl
@[simp] theorem Dev.respond_opens (d : Dev) (m : Nat) (r : Resp) : (d.respond m r).opens = d.opens := rfl
@[simp] theorem Dev.respond_parInj (d : Dev) (m : Nat) (r : Resp) : (d.respond m r).parInj = d.parInj := rfl
@[simp] theorem Dev.respond_stalls (d : Dev) (m : Nat) (r : Resp) : (d.respond m r).stalls = d.stalls := rfl
@[simp] theorem Dev.respond_sram (d : Dev) (m : Nat) (r : Resp) : (d.respond m r).sram = d.sram := rfl
@[simp] theorem Dev.respond_lengs (d : Dev) (m : Nat) (r : Resp) : (d.respond m r).lengs = d.lengs := rfl
@[simp] theorem Dev.respond_istore (d : Dev) (m : Nat) (r : Resp) : (d.respond m r).istore = d.istore := rfl
@[simp] theorem Dev.respond_dmem (d : Dev) (m : Nat) (r : Resp) : (d.respond m r).dmem = d.dmem := rfl
@[simp] theorem Dev.respond_lengGen (d : Dev) (m : Nat) (r : Resp) : (d.respond m r).lengGen = d.lengGen := rfl
@[simp] theorem Dev.respond_outs (d : Dev) (m : Nat) (r : Resp) : (d.respond m r).outs = d.outs := rfl
@[simp] theorem Dev.respond_period (d : Dev) (m : Nat) (r : Resp) : (d.respond m r).period = d.period := rfl
@[simp] theorem Dev.respond_streams (d : Dev) (m : Nat) (r : Resp) : (d.respond m r).streams = d.streams := rfl
@[simp] theorem Dev.respond_slots (d : Dev) (m : Nat) (r : Resp) : (d.respond m r).slots = d.slots := rfl
@[simp] theorem Dev.respond_gens (d : Dev) (m : Nat) (r : Resp) : (d.respond m r).gens = d.gens := rfl
@[simp] theorem Dev.respond_meters (d : Dev) (m : Nat) (r : Resp) : (d.respond m r).meters = d.meters := rfl
@[simp] theorem Dev.respond_deembs (d : Dev) (m : Nat) (r : Resp) : (d.respond m r).deembs = d.deembs := rfl
@[simp] theorem Dev.respond_refs (d : Dev) (m : Nat) (r : Resp) : (d.respond m r).refs = d.refs := rfl
@[simp] theorem Dev.respond_tmu (d : Dev) (m : Nat) (r : Resp) : (d.respond m r).tmu = d.tmu := rfl
@[simp] theorem Dev.respond_fps (d : Dev) (m : Nat) (r : Resp) : (d.respond m r).fps = d.fps := rfl
@[simp] theorem Dev.respond_tlrx (d : Dev) (m : Nat) (r : Resp) : (d.respond m r).tlrx = d.tlrx := rfl
@[simp] theorem Dev.respond_tltx (d : Dev) (m : Nat) (r : Resp) : (d.respond m r).tltx = d.tltx := rfl
@[simp] theorem Dev.respond_protAud (d : Dev) (m : Nat) (r : Resp) : (d.respond m r).protAud = d.protAud := rfl
@[simp] theorem Dev.respond_pwr (d : Dev) (m : Nat) (r : Resp) : (d.respond m r).pwr = d.pwr := rfl
@[simp] theorem Dev.respond_cores (d : Dev) (m : Nat) (r : Resp) : (d.respond m r).cores = d.cores := rfl
@[simp] theorem Dev.respond_mtx (d : Dev) (m : Nat) (r : Resp) : (d.respond m r).mtx = d.mtx := rfl
@[simp] theorem Dev.respond_host (d : Dev) (m : Nat) (r : Resp) : (d.respond m r).host = d.host := rfl
@[simp] theorem Dev.respond_boot (d : Dev) (m : Nat) (r : Resp) : (d.respond m r).boot = d.boot := rfl
@[simp] theorem Dev.respond_jtag (d : Dev) (m : Nat) (r : Resp) : (d.respond m r).jtag = d.jtag := rfl
@[simp] theorem Dev.respond_gpioPins (d : Dev) (m : Nat) (r : Resp) : (d.respond m r).gpioPins = d.gpioPins := rfl

@[simp] theorem Dev.granted_regs (d : Dev) (t m : Nat) : (d.granted t m).regs = d.regs := rfl
@[simp] theorem Dev.granted_free (d : Dev) (t m : Nat) : (d.granted t m).free = d.free := rfl
@[simp] theorem Dev.granted_xo (d : Dev) (t m : Nat) : (d.granted t m).xo = d.xo := rfl
@[simp] theorem Dev.granted_resp (d : Dev) (t m : Nat) : (d.granted t m).resp = d.resp := rfl
@[simp] theorem Dev.granted_fabMargin (d : Dev) (t m : Nat) : (d.granted t m).fabMargin = d.fabMargin := rfl
@[simp] theorem Dev.granted_marginRun (d : Dev) (t m : Nat) : (d.granted t m).marginRun = d.marginRun := rfl
@[simp] theorem Dev.granted_intc (d : Dev) (t m : Nat) : (d.granted t m).intc = d.intc := rfl
@[simp] theorem Dev.granted_pmc (d : Dev) (t m : Nat) : (d.granted t m).pmc = d.pmc := rfl
@[simp] theorem Dev.granted_lanes (d : Dev) (t m : Nat) : (d.granted t m).lanes = d.lanes := rfl
@[simp] theorem Dev.granted_plls (d : Dev) (t m : Nat) : (d.granted t m).plls = d.plls := rfl
@[simp] theorem Dev.granted_framers (d : Dev) (t m : Nat) : (d.granted t m).framers = d.framers := rfl
@[simp] theorem Dev.granted_tiles (d : Dev) (t m : Nat) : (d.granted t m).tiles = d.tiles := rfl
@[simp] theorem Dev.granted_pm (d : Dev) (t m : Nat) : (d.granted t m).pm = d.pm := rfl
@[simp] theorem Dev.granted_groups (d : Dev) (t m : Nat) : (d.granted t m).groups = d.groups := rfl
@[simp] theorem Dev.granted_pmNext (d : Dev) (t m : Nat) : (d.granted t m).pmNext = d.pmNext := rfl
@[simp] theorem Dev.granted_tctx (d : Dev) (t m : Nat) : (d.granted t m).tctx = d.tctx := rfl
@[simp] theorem Dev.granted_actx (d : Dev) (t m : Nat) : (d.granted t m).actx = d.actx := rfl
@[simp] theorem Dev.granted_uctx (d : Dev) (t m : Nat) : (d.granted t m).uctx = d.uctx := rfl
@[simp] theorem Dev.granted_takes (d : Dev) (t m : Nat) : (d.granted t m).takes = d.takes := rfl
@[simp] theorem Dev.granted_probes (d : Dev) (t m : Nat) : (d.granted t m).probes = d.probes := rfl
@[simp] theorem Dev.granted_doms (d : Dev) (t m : Nat) : (d.granted t m).doms = d.doms := rfl
@[simp] theorem Dev.granted_gates (d : Dev) (t m : Nat) : (d.granted t m).gates = d.gates := rfl
@[simp] theorem Dev.granted_deferring (d : Dev) (t m : Nat) : (d.granted t m).deferring = d.deferring := rfl
@[simp] theorem Dev.granted_chans (d : Dev) (t m : Nat) : (d.granted t m).chans = d.chans := rfl
@[simp] theorem Dev.granted_delays (d : Dev) (t m : Nat) : (d.granted t m).delays = d.delays := rfl
@[simp] theorem Dev.granted_mem (d : Dev) (t m : Nat) : (d.granted t m).mem = d.mem := rfl
@[simp] theorem Dev.granted_memGen (d : Dev) (t m : Nat) : (d.granted t m).memGen = d.memGen := rfl
@[simp] theorem Dev.granted_memGenB (d : Dev) (t m : Nat) : (d.granted t m).memGenB = d.memGenB := rfl
@[simp] theorem Dev.granted_queues (d : Dev) (t m : Nat) : (d.granted t m).queues = d.queues := rfl
@[simp] theorem Dev.granted_opens (d : Dev) (t m : Nat) : (d.granted t m).opens = d.opens := rfl
@[simp] theorem Dev.granted_parInj (d : Dev) (t m : Nat) : (d.granted t m).parInj = d.parInj := rfl
@[simp] theorem Dev.granted_stalls (d : Dev) (t m : Nat) : (d.granted t m).stalls = d.stalls := rfl
@[simp] theorem Dev.granted_sram (d : Dev) (t m : Nat) : (d.granted t m).sram = d.sram := rfl
@[simp] theorem Dev.granted_lengs (d : Dev) (t m : Nat) : (d.granted t m).lengs = d.lengs := rfl
@[simp] theorem Dev.granted_istore (d : Dev) (t m : Nat) : (d.granted t m).istore = d.istore := rfl
@[simp] theorem Dev.granted_dmem (d : Dev) (t m : Nat) : (d.granted t m).dmem = d.dmem := rfl
@[simp] theorem Dev.granted_lengGen (d : Dev) (t m : Nat) : (d.granted t m).lengGen = d.lengGen := rfl
@[simp] theorem Dev.granted_outs (d : Dev) (t m : Nat) : (d.granted t m).outs = d.outs := rfl
@[simp] theorem Dev.granted_period (d : Dev) (t m : Nat) : (d.granted t m).period = d.period := rfl
@[simp] theorem Dev.granted_streams (d : Dev) (t m : Nat) : (d.granted t m).streams = d.streams := rfl
@[simp] theorem Dev.granted_slots (d : Dev) (t m : Nat) : (d.granted t m).slots = d.slots := rfl
@[simp] theorem Dev.granted_gens (d : Dev) (t m : Nat) : (d.granted t m).gens = d.gens := rfl
@[simp] theorem Dev.granted_meters (d : Dev) (t m : Nat) : (d.granted t m).meters = d.meters := rfl
@[simp] theorem Dev.granted_deembs (d : Dev) (t m : Nat) : (d.granted t m).deembs = d.deembs := rfl
@[simp] theorem Dev.granted_refs (d : Dev) (t m : Nat) : (d.granted t m).refs = d.refs := rfl
@[simp] theorem Dev.granted_tmu (d : Dev) (t m : Nat) : (d.granted t m).tmu = d.tmu := rfl
@[simp] theorem Dev.granted_fps (d : Dev) (t m : Nat) : (d.granted t m).fps = d.fps := rfl
@[simp] theorem Dev.granted_tlrx (d : Dev) (t m : Nat) : (d.granted t m).tlrx = d.tlrx := rfl
@[simp] theorem Dev.granted_tltx (d : Dev) (t m : Nat) : (d.granted t m).tltx = d.tltx := rfl
@[simp] theorem Dev.granted_protAud (d : Dev) (t m : Nat) : (d.granted t m).protAud = d.protAud := rfl
@[simp] theorem Dev.granted_pwr (d : Dev) (t m : Nat) : (d.granted t m).pwr = d.pwr := rfl
@[simp] theorem Dev.granted_cores (d : Dev) (t m : Nat) : (d.granted t m).cores = d.cores := rfl
@[simp] theorem Dev.granted_host (d : Dev) (t m : Nat) : (d.granted t m).host = d.host := rfl
@[simp] theorem Dev.granted_boot (d : Dev) (t m : Nat) : (d.granted t m).boot = d.boot := rfl
@[simp] theorem Dev.granted_jtag (d : Dev) (t m : Nat) : (d.granted t m).jtag = d.jtag := rfl
@[simp] theorem Dev.granted_gpioPins (d : Dev) (t m : Nat) : (d.granted t m).gpioPins = d.gpioPins := rfl

@[simp] theorem Dev.setSrc_regs (d : Dev) (k : Nat) (v : SrcI) : (d.setSrc k v).regs = d.regs := rfl
@[simp] theorem Dev.setSrc_free (d : Dev) (k : Nat) (v : SrcI) : (d.setSrc k v).free = d.free := rfl
@[simp] theorem Dev.setSrc_xo (d : Dev) (k : Nat) (v : SrcI) : (d.setSrc k v).xo = d.xo := rfl
@[simp] theorem Dev.setSrc_resp (d : Dev) (k : Nat) (v : SrcI) : (d.setSrc k v).resp = d.resp := rfl
@[simp] theorem Dev.setSrc_fabMargin (d : Dev) (k : Nat) (v : SrcI) : (d.setSrc k v).fabMargin = d.fabMargin := rfl
@[simp] theorem Dev.setSrc_marginRun (d : Dev) (k : Nat) (v : SrcI) : (d.setSrc k v).marginRun = d.marginRun := rfl
@[simp] theorem Dev.setSrc_pmc (d : Dev) (k : Nat) (v : SrcI) : (d.setSrc k v).pmc = d.pmc := rfl
@[simp] theorem Dev.setSrc_lanes (d : Dev) (k : Nat) (v : SrcI) : (d.setSrc k v).lanes = d.lanes := rfl
@[simp] theorem Dev.setSrc_plls (d : Dev) (k : Nat) (v : SrcI) : (d.setSrc k v).plls = d.plls := rfl
@[simp] theorem Dev.setSrc_framers (d : Dev) (k : Nat) (v : SrcI) : (d.setSrc k v).framers = d.framers := rfl
@[simp] theorem Dev.setSrc_tiles (d : Dev) (k : Nat) (v : SrcI) : (d.setSrc k v).tiles = d.tiles := rfl
@[simp] theorem Dev.setSrc_pm (d : Dev) (k : Nat) (v : SrcI) : (d.setSrc k v).pm = d.pm := rfl
@[simp] theorem Dev.setSrc_groups (d : Dev) (k : Nat) (v : SrcI) : (d.setSrc k v).groups = d.groups := rfl
@[simp] theorem Dev.setSrc_pmNext (d : Dev) (k : Nat) (v : SrcI) : (d.setSrc k v).pmNext = d.pmNext := rfl
@[simp] theorem Dev.setSrc_tctx (d : Dev) (k : Nat) (v : SrcI) : (d.setSrc k v).tctx = d.tctx := rfl
@[simp] theorem Dev.setSrc_actx (d : Dev) (k : Nat) (v : SrcI) : (d.setSrc k v).actx = d.actx := rfl
@[simp] theorem Dev.setSrc_uctx (d : Dev) (k : Nat) (v : SrcI) : (d.setSrc k v).uctx = d.uctx := rfl
@[simp] theorem Dev.setSrc_takes (d : Dev) (k : Nat) (v : SrcI) : (d.setSrc k v).takes = d.takes := rfl
@[simp] theorem Dev.setSrc_probes (d : Dev) (k : Nat) (v : SrcI) : (d.setSrc k v).probes = d.probes := rfl
@[simp] theorem Dev.setSrc_doms (d : Dev) (k : Nat) (v : SrcI) : (d.setSrc k v).doms = d.doms := rfl
@[simp] theorem Dev.setSrc_gates (d : Dev) (k : Nat) (v : SrcI) : (d.setSrc k v).gates = d.gates := rfl
@[simp] theorem Dev.setSrc_deferring (d : Dev) (k : Nat) (v : SrcI) : (d.setSrc k v).deferring = d.deferring := rfl
@[simp] theorem Dev.setSrc_chans (d : Dev) (k : Nat) (v : SrcI) : (d.setSrc k v).chans = d.chans := rfl
@[simp] theorem Dev.setSrc_delays (d : Dev) (k : Nat) (v : SrcI) : (d.setSrc k v).delays = d.delays := rfl
@[simp] theorem Dev.setSrc_mem (d : Dev) (k : Nat) (v : SrcI) : (d.setSrc k v).mem = d.mem := rfl
@[simp] theorem Dev.setSrc_memGen (d : Dev) (k : Nat) (v : SrcI) : (d.setSrc k v).memGen = d.memGen := rfl
@[simp] theorem Dev.setSrc_memGenB (d : Dev) (k : Nat) (v : SrcI) : (d.setSrc k v).memGenB = d.memGenB := rfl
@[simp] theorem Dev.setSrc_queues (d : Dev) (k : Nat) (v : SrcI) : (d.setSrc k v).queues = d.queues := rfl
@[simp] theorem Dev.setSrc_opens (d : Dev) (k : Nat) (v : SrcI) : (d.setSrc k v).opens = d.opens := rfl
@[simp] theorem Dev.setSrc_parInj (d : Dev) (k : Nat) (v : SrcI) : (d.setSrc k v).parInj = d.parInj := rfl
@[simp] theorem Dev.setSrc_stalls (d : Dev) (k : Nat) (v : SrcI) : (d.setSrc k v).stalls = d.stalls := rfl
@[simp] theorem Dev.setSrc_sram (d : Dev) (k : Nat) (v : SrcI) : (d.setSrc k v).sram = d.sram := rfl
@[simp] theorem Dev.setSrc_lengs (d : Dev) (k : Nat) (v : SrcI) : (d.setSrc k v).lengs = d.lengs := rfl
@[simp] theorem Dev.setSrc_istore (d : Dev) (k : Nat) (v : SrcI) : (d.setSrc k v).istore = d.istore := rfl
@[simp] theorem Dev.setSrc_dmem (d : Dev) (k : Nat) (v : SrcI) : (d.setSrc k v).dmem = d.dmem := rfl
@[simp] theorem Dev.setSrc_lengGen (d : Dev) (k : Nat) (v : SrcI) : (d.setSrc k v).lengGen = d.lengGen := rfl
@[simp] theorem Dev.setSrc_outs (d : Dev) (k : Nat) (v : SrcI) : (d.setSrc k v).outs = d.outs := rfl
@[simp] theorem Dev.setSrc_period (d : Dev) (k : Nat) (v : SrcI) : (d.setSrc k v).period = d.period := rfl
@[simp] theorem Dev.setSrc_streams (d : Dev) (k : Nat) (v : SrcI) : (d.setSrc k v).streams = d.streams := rfl
@[simp] theorem Dev.setSrc_slots (d : Dev) (k : Nat) (v : SrcI) : (d.setSrc k v).slots = d.slots := rfl
@[simp] theorem Dev.setSrc_gens (d : Dev) (k : Nat) (v : SrcI) : (d.setSrc k v).gens = d.gens := rfl
@[simp] theorem Dev.setSrc_meters (d : Dev) (k : Nat) (v : SrcI) : (d.setSrc k v).meters = d.meters := rfl
@[simp] theorem Dev.setSrc_deembs (d : Dev) (k : Nat) (v : SrcI) : (d.setSrc k v).deembs = d.deembs := rfl
@[simp] theorem Dev.setSrc_refs (d : Dev) (k : Nat) (v : SrcI) : (d.setSrc k v).refs = d.refs := rfl
@[simp] theorem Dev.setSrc_tmu (d : Dev) (k : Nat) (v : SrcI) : (d.setSrc k v).tmu = d.tmu := rfl
@[simp] theorem Dev.setSrc_fps (d : Dev) (k : Nat) (v : SrcI) : (d.setSrc k v).fps = d.fps := rfl
@[simp] theorem Dev.setSrc_tlrx (d : Dev) (k : Nat) (v : SrcI) : (d.setSrc k v).tlrx = d.tlrx := rfl
@[simp] theorem Dev.setSrc_tltx (d : Dev) (k : Nat) (v : SrcI) : (d.setSrc k v).tltx = d.tltx := rfl
@[simp] theorem Dev.setSrc_protAud (d : Dev) (k : Nat) (v : SrcI) : (d.setSrc k v).protAud = d.protAud := rfl
@[simp] theorem Dev.setSrc_pwr (d : Dev) (k : Nat) (v : SrcI) : (d.setSrc k v).pwr = d.pwr := rfl
@[simp] theorem Dev.setSrc_cores (d : Dev) (k : Nat) (v : SrcI) : (d.setSrc k v).cores = d.cores := rfl
@[simp] theorem Dev.setSrc_mtx (d : Dev) (k : Nat) (v : SrcI) : (d.setSrc k v).mtx = d.mtx := rfl
@[simp] theorem Dev.setSrc_host (d : Dev) (k : Nat) (v : SrcI) : (d.setSrc k v).host = d.host := rfl
@[simp] theorem Dev.setSrc_boot (d : Dev) (k : Nat) (v : SrcI) : (d.setSrc k v).boot = d.boot := rfl
@[simp] theorem Dev.setSrc_jtag (d : Dev) (k : Nat) (v : SrcI) : (d.setSrc k v).jtag = d.jtag := rfl
@[simp] theorem Dev.setSrc_gpioPins (d : Dev) (k : Nat) (v : SrcI) : (d.setSrc k v).gpioPins = d.gpioPins := rfl

@[simp] theorem Dev.setSlotOf_regs (d : Dev) (t c v : Nat) : (d.setSlotOf t c v).regs = d.regs := rfl
@[simp] theorem Dev.setSlotOf_free (d : Dev) (t c v : Nat) : (d.setSlotOf t c v).free = d.free := rfl
@[simp] theorem Dev.setSlotOf_xo (d : Dev) (t c v : Nat) : (d.setSlotOf t c v).xo = d.xo := rfl
@[simp] theorem Dev.setSlotOf_resp (d : Dev) (t c v : Nat) : (d.setSlotOf t c v).resp = d.resp := rfl
@[simp] theorem Dev.setSlotOf_fabMargin (d : Dev) (t c v : Nat) : (d.setSlotOf t c v).fabMargin = d.fabMargin := rfl
@[simp] theorem Dev.setSlotOf_marginRun (d : Dev) (t c v : Nat) : (d.setSlotOf t c v).marginRun = d.marginRun := rfl
@[simp] theorem Dev.setSlotOf_pmc (d : Dev) (t c v : Nat) : (d.setSlotOf t c v).pmc = d.pmc := rfl
@[simp] theorem Dev.setSlotOf_lanes (d : Dev) (t c v : Nat) : (d.setSlotOf t c v).lanes = d.lanes := rfl
@[simp] theorem Dev.setSlotOf_plls (d : Dev) (t c v : Nat) : (d.setSlotOf t c v).plls = d.plls := rfl
@[simp] theorem Dev.setSlotOf_framers (d : Dev) (t c v : Nat) : (d.setSlotOf t c v).framers = d.framers := rfl
@[simp] theorem Dev.setSlotOf_tiles (d : Dev) (t c v : Nat) : (d.setSlotOf t c v).tiles = d.tiles := rfl
@[simp] theorem Dev.setSlotOf_pm (d : Dev) (t c v : Nat) : (d.setSlotOf t c v).pm = d.pm := rfl
@[simp] theorem Dev.setSlotOf_groups (d : Dev) (t c v : Nat) : (d.setSlotOf t c v).groups = d.groups := rfl
@[simp] theorem Dev.setSlotOf_pmNext (d : Dev) (t c v : Nat) : (d.setSlotOf t c v).pmNext = d.pmNext := rfl
@[simp] theorem Dev.setSlotOf_tctx (d : Dev) (t c v : Nat) : (d.setSlotOf t c v).tctx = d.tctx := rfl
@[simp] theorem Dev.setSlotOf_actx (d : Dev) (t c v : Nat) : (d.setSlotOf t c v).actx = d.actx := rfl
@[simp] theorem Dev.setSlotOf_uctx (d : Dev) (t c v : Nat) : (d.setSlotOf t c v).uctx = d.uctx := rfl
@[simp] theorem Dev.setSlotOf_takes (d : Dev) (t c v : Nat) : (d.setSlotOf t c v).takes = d.takes := rfl
@[simp] theorem Dev.setSlotOf_probes (d : Dev) (t c v : Nat) : (d.setSlotOf t c v).probes = d.probes := rfl
@[simp] theorem Dev.setSlotOf_doms (d : Dev) (t c v : Nat) : (d.setSlotOf t c v).doms = d.doms := rfl
@[simp] theorem Dev.setSlotOf_gates (d : Dev) (t c v : Nat) : (d.setSlotOf t c v).gates = d.gates := rfl
@[simp] theorem Dev.setSlotOf_deferring (d : Dev) (t c v : Nat) : (d.setSlotOf t c v).deferring = d.deferring := rfl
@[simp] theorem Dev.setSlotOf_chans (d : Dev) (t c v : Nat) : (d.setSlotOf t c v).chans = d.chans := rfl
@[simp] theorem Dev.setSlotOf_delays (d : Dev) (t c v : Nat) : (d.setSlotOf t c v).delays = d.delays := rfl
@[simp] theorem Dev.setSlotOf_mem (d : Dev) (t c v : Nat) : (d.setSlotOf t c v).mem = d.mem := rfl
@[simp] theorem Dev.setSlotOf_memGen (d : Dev) (t c v : Nat) : (d.setSlotOf t c v).memGen = d.memGen := rfl
@[simp] theorem Dev.setSlotOf_memGenB (d : Dev) (t c v : Nat) : (d.setSlotOf t c v).memGenB = d.memGenB := rfl
@[simp] theorem Dev.setSlotOf_queues (d : Dev) (t c v : Nat) : (d.setSlotOf t c v).queues = d.queues := rfl
@[simp] theorem Dev.setSlotOf_opens (d : Dev) (t c v : Nat) : (d.setSlotOf t c v).opens = d.opens := rfl
@[simp] theorem Dev.setSlotOf_parInj (d : Dev) (t c v : Nat) : (d.setSlotOf t c v).parInj = d.parInj := rfl
@[simp] theorem Dev.setSlotOf_stalls (d : Dev) (t c v : Nat) : (d.setSlotOf t c v).stalls = d.stalls := rfl
@[simp] theorem Dev.setSlotOf_sram (d : Dev) (t c v : Nat) : (d.setSlotOf t c v).sram = d.sram := rfl
@[simp] theorem Dev.setSlotOf_lengs (d : Dev) (t c v : Nat) : (d.setSlotOf t c v).lengs = d.lengs := rfl
@[simp] theorem Dev.setSlotOf_istore (d : Dev) (t c v : Nat) : (d.setSlotOf t c v).istore = d.istore := rfl
@[simp] theorem Dev.setSlotOf_dmem (d : Dev) (t c v : Nat) : (d.setSlotOf t c v).dmem = d.dmem := rfl
@[simp] theorem Dev.setSlotOf_lengGen (d : Dev) (t c v : Nat) : (d.setSlotOf t c v).lengGen = d.lengGen := rfl
@[simp] theorem Dev.setSlotOf_outs (d : Dev) (t c v : Nat) : (d.setSlotOf t c v).outs = d.outs := rfl
@[simp] theorem Dev.setSlotOf_period (d : Dev) (t c v : Nat) : (d.setSlotOf t c v).period = d.period := rfl
@[simp] theorem Dev.setSlotOf_streams (d : Dev) (t c v : Nat) : (d.setSlotOf t c v).streams = d.streams := rfl
@[simp] theorem Dev.setSlotOf_slots (d : Dev) (t c v : Nat) : (d.setSlotOf t c v).slots = d.slots := rfl
@[simp] theorem Dev.setSlotOf_gens (d : Dev) (t c v : Nat) : (d.setSlotOf t c v).gens = d.gens := rfl
@[simp] theorem Dev.setSlotOf_meters (d : Dev) (t c v : Nat) : (d.setSlotOf t c v).meters = d.meters := rfl
@[simp] theorem Dev.setSlotOf_deembs (d : Dev) (t c v : Nat) : (d.setSlotOf t c v).deembs = d.deembs := rfl
@[simp] theorem Dev.setSlotOf_refs (d : Dev) (t c v : Nat) : (d.setSlotOf t c v).refs = d.refs := rfl
@[simp] theorem Dev.setSlotOf_tmu (d : Dev) (t c v : Nat) : (d.setSlotOf t c v).tmu = d.tmu := rfl
@[simp] theorem Dev.setSlotOf_fps (d : Dev) (t c v : Nat) : (d.setSlotOf t c v).fps = d.fps := rfl
@[simp] theorem Dev.setSlotOf_tlrx (d : Dev) (t c v : Nat) : (d.setSlotOf t c v).tlrx = d.tlrx := rfl
@[simp] theorem Dev.setSlotOf_tltx (d : Dev) (t c v : Nat) : (d.setSlotOf t c v).tltx = d.tltx := rfl
@[simp] theorem Dev.setSlotOf_protAud (d : Dev) (t c v : Nat) : (d.setSlotOf t c v).protAud = d.protAud := rfl
@[simp] theorem Dev.setSlotOf_pwr (d : Dev) (t c v : Nat) : (d.setSlotOf t c v).pwr = d.pwr := rfl
@[simp] theorem Dev.setSlotOf_cores (d : Dev) (t c v : Nat) : (d.setSlotOf t c v).cores = d.cores := rfl
@[simp] theorem Dev.setSlotOf_mtx (d : Dev) (t c v : Nat) : (d.setSlotOf t c v).mtx = d.mtx := rfl
@[simp] theorem Dev.setSlotOf_host (d : Dev) (t c v : Nat) : (d.setSlotOf t c v).host = d.host := rfl
@[simp] theorem Dev.setSlotOf_boot (d : Dev) (t c v : Nat) : (d.setSlotOf t c v).boot = d.boot := rfl
@[simp] theorem Dev.setSlotOf_jtag (d : Dev) (t c v : Nat) : (d.setSlotOf t c v).jtag = d.jtag := rfl
@[simp] theorem Dev.setSlotOf_gpioPins (d : Dev) (t c v : Nat) : (d.setSlotOf t c v).gpioPins = d.gpioPins := rfl

@[simp] theorem Dev.setPmcCount_regs (d : Dev) (n v : Nat) : (d.setPmcCount n v).regs = d.regs := rfl
@[simp] theorem Dev.setPmcCount_free (d : Dev) (n v : Nat) : (d.setPmcCount n v).free = d.free := rfl
@[simp] theorem Dev.setPmcCount_xo (d : Dev) (n v : Nat) : (d.setPmcCount n v).xo = d.xo := rfl
@[simp] theorem Dev.setPmcCount_resp (d : Dev) (n v : Nat) : (d.setPmcCount n v).resp = d.resp := rfl
@[simp] theorem Dev.setPmcCount_fabMargin (d : Dev) (n v : Nat) : (d.setPmcCount n v).fabMargin = d.fabMargin := rfl
@[simp] theorem Dev.setPmcCount_marginRun (d : Dev) (n v : Nat) : (d.setPmcCount n v).marginRun = d.marginRun := rfl
@[simp] theorem Dev.setPmcCount_intc (d : Dev) (n v : Nat) : (d.setPmcCount n v).intc = d.intc := rfl
@[simp] theorem Dev.setPmcCount_lanes (d : Dev) (n v : Nat) : (d.setPmcCount n v).lanes = d.lanes := rfl
@[simp] theorem Dev.setPmcCount_plls (d : Dev) (n v : Nat) : (d.setPmcCount n v).plls = d.plls := rfl
@[simp] theorem Dev.setPmcCount_framers (d : Dev) (n v : Nat) : (d.setPmcCount n v).framers = d.framers := rfl
@[simp] theorem Dev.setPmcCount_tiles (d : Dev) (n v : Nat) : (d.setPmcCount n v).tiles = d.tiles := rfl
@[simp] theorem Dev.setPmcCount_pm (d : Dev) (n v : Nat) : (d.setPmcCount n v).pm = d.pm := rfl
@[simp] theorem Dev.setPmcCount_groups (d : Dev) (n v : Nat) : (d.setPmcCount n v).groups = d.groups := rfl
@[simp] theorem Dev.setPmcCount_pmNext (d : Dev) (n v : Nat) : (d.setPmcCount n v).pmNext = d.pmNext := rfl
@[simp] theorem Dev.setPmcCount_tctx (d : Dev) (n v : Nat) : (d.setPmcCount n v).tctx = d.tctx := rfl
@[simp] theorem Dev.setPmcCount_actx (d : Dev) (n v : Nat) : (d.setPmcCount n v).actx = d.actx := rfl
@[simp] theorem Dev.setPmcCount_uctx (d : Dev) (n v : Nat) : (d.setPmcCount n v).uctx = d.uctx := rfl
@[simp] theorem Dev.setPmcCount_takes (d : Dev) (n v : Nat) : (d.setPmcCount n v).takes = d.takes := rfl
@[simp] theorem Dev.setPmcCount_probes (d : Dev) (n v : Nat) : (d.setPmcCount n v).probes = d.probes := rfl
@[simp] theorem Dev.setPmcCount_doms (d : Dev) (n v : Nat) : (d.setPmcCount n v).doms = d.doms := rfl
@[simp] theorem Dev.setPmcCount_gates (d : Dev) (n v : Nat) : (d.setPmcCount n v).gates = d.gates := rfl
@[simp] theorem Dev.setPmcCount_deferring (d : Dev) (n v : Nat) : (d.setPmcCount n v).deferring = d.deferring := rfl
@[simp] theorem Dev.setPmcCount_chans (d : Dev) (n v : Nat) : (d.setPmcCount n v).chans = d.chans := rfl
@[simp] theorem Dev.setPmcCount_delays (d : Dev) (n v : Nat) : (d.setPmcCount n v).delays = d.delays := rfl
@[simp] theorem Dev.setPmcCount_mem (d : Dev) (n v : Nat) : (d.setPmcCount n v).mem = d.mem := rfl
@[simp] theorem Dev.setPmcCount_memGen (d : Dev) (n v : Nat) : (d.setPmcCount n v).memGen = d.memGen := rfl
@[simp] theorem Dev.setPmcCount_memGenB (d : Dev) (n v : Nat) : (d.setPmcCount n v).memGenB = d.memGenB := rfl
@[simp] theorem Dev.setPmcCount_queues (d : Dev) (n v : Nat) : (d.setPmcCount n v).queues = d.queues := rfl
@[simp] theorem Dev.setPmcCount_opens (d : Dev) (n v : Nat) : (d.setPmcCount n v).opens = d.opens := rfl
@[simp] theorem Dev.setPmcCount_parInj (d : Dev) (n v : Nat) : (d.setPmcCount n v).parInj = d.parInj := rfl
@[simp] theorem Dev.setPmcCount_stalls (d : Dev) (n v : Nat) : (d.setPmcCount n v).stalls = d.stalls := rfl
@[simp] theorem Dev.setPmcCount_sram (d : Dev) (n v : Nat) : (d.setPmcCount n v).sram = d.sram := rfl
@[simp] theorem Dev.setPmcCount_lengs (d : Dev) (n v : Nat) : (d.setPmcCount n v).lengs = d.lengs := rfl
@[simp] theorem Dev.setPmcCount_istore (d : Dev) (n v : Nat) : (d.setPmcCount n v).istore = d.istore := rfl
@[simp] theorem Dev.setPmcCount_dmem (d : Dev) (n v : Nat) : (d.setPmcCount n v).dmem = d.dmem := rfl
@[simp] theorem Dev.setPmcCount_lengGen (d : Dev) (n v : Nat) : (d.setPmcCount n v).lengGen = d.lengGen := rfl
@[simp] theorem Dev.setPmcCount_outs (d : Dev) (n v : Nat) : (d.setPmcCount n v).outs = d.outs := rfl
@[simp] theorem Dev.setPmcCount_period (d : Dev) (n v : Nat) : (d.setPmcCount n v).period = d.period := rfl
@[simp] theorem Dev.setPmcCount_streams (d : Dev) (n v : Nat) : (d.setPmcCount n v).streams = d.streams := rfl
@[simp] theorem Dev.setPmcCount_slots (d : Dev) (n v : Nat) : (d.setPmcCount n v).slots = d.slots := rfl
@[simp] theorem Dev.setPmcCount_gens (d : Dev) (n v : Nat) : (d.setPmcCount n v).gens = d.gens := rfl
@[simp] theorem Dev.setPmcCount_meters (d : Dev) (n v : Nat) : (d.setPmcCount n v).meters = d.meters := rfl
@[simp] theorem Dev.setPmcCount_deembs (d : Dev) (n v : Nat) : (d.setPmcCount n v).deembs = d.deembs := rfl
@[simp] theorem Dev.setPmcCount_refs (d : Dev) (n v : Nat) : (d.setPmcCount n v).refs = d.refs := rfl
@[simp] theorem Dev.setPmcCount_tmu (d : Dev) (n v : Nat) : (d.setPmcCount n v).tmu = d.tmu := rfl
@[simp] theorem Dev.setPmcCount_fps (d : Dev) (n v : Nat) : (d.setPmcCount n v).fps = d.fps := rfl
@[simp] theorem Dev.setPmcCount_tlrx (d : Dev) (n v : Nat) : (d.setPmcCount n v).tlrx = d.tlrx := rfl
@[simp] theorem Dev.setPmcCount_tltx (d : Dev) (n v : Nat) : (d.setPmcCount n v).tltx = d.tltx := rfl
@[simp] theorem Dev.setPmcCount_protAud (d : Dev) (n v : Nat) : (d.setPmcCount n v).protAud = d.protAud := rfl
@[simp] theorem Dev.setPmcCount_pwr (d : Dev) (n v : Nat) : (d.setPmcCount n v).pwr = d.pwr := rfl
@[simp] theorem Dev.setPmcCount_cores (d : Dev) (n v : Nat) : (d.setPmcCount n v).cores = d.cores := rfl
@[simp] theorem Dev.setPmcCount_mtx (d : Dev) (n v : Nat) : (d.setPmcCount n v).mtx = d.mtx := rfl
@[simp] theorem Dev.setPmcCount_host (d : Dev) (n v : Nat) : (d.setPmcCount n v).host = d.host := rfl
@[simp] theorem Dev.setPmcCount_boot (d : Dev) (n v : Nat) : (d.setPmcCount n v).boot = d.boot := rfl
@[simp] theorem Dev.setPmcCount_jtag (d : Dev) (n v : Nat) : (d.setPmcCount n v).jtag = d.jtag := rfl
@[simp] theorem Dev.setPmcCount_gpioPins (d : Dev) (n v : Nat) : (d.setPmcCount n v).gpioPins = d.gpioPins := rfl

@[simp] theorem Dev.sramPut_regs (d : Dev) (k : Nat) (w : Word) : (d.sramPut k w).regs = d.regs := rfl
@[simp] theorem Dev.sramPut_free (d : Dev) (k : Nat) (w : Word) : (d.sramPut k w).free = d.free := rfl
@[simp] theorem Dev.sramPut_xo (d : Dev) (k : Nat) (w : Word) : (d.sramPut k w).xo = d.xo := rfl
@[simp] theorem Dev.sramPut_resp (d : Dev) (k : Nat) (w : Word) : (d.sramPut k w).resp = d.resp := rfl
@[simp] theorem Dev.sramPut_fabMargin (d : Dev) (k : Nat) (w : Word) : (d.sramPut k w).fabMargin = d.fabMargin := rfl
@[simp] theorem Dev.sramPut_marginRun (d : Dev) (k : Nat) (w : Word) : (d.sramPut k w).marginRun = d.marginRun := rfl
@[simp] theorem Dev.sramPut_intc (d : Dev) (k : Nat) (w : Word) : (d.sramPut k w).intc = d.intc := rfl
@[simp] theorem Dev.sramPut_pmc (d : Dev) (k : Nat) (w : Word) : (d.sramPut k w).pmc = d.pmc := rfl
@[simp] theorem Dev.sramPut_lanes (d : Dev) (k : Nat) (w : Word) : (d.sramPut k w).lanes = d.lanes := rfl
@[simp] theorem Dev.sramPut_plls (d : Dev) (k : Nat) (w : Word) : (d.sramPut k w).plls = d.plls := rfl
@[simp] theorem Dev.sramPut_framers (d : Dev) (k : Nat) (w : Word) : (d.sramPut k w).framers = d.framers := rfl
@[simp] theorem Dev.sramPut_tiles (d : Dev) (k : Nat) (w : Word) : (d.sramPut k w).tiles = d.tiles := rfl
@[simp] theorem Dev.sramPut_pm (d : Dev) (k : Nat) (w : Word) : (d.sramPut k w).pm = d.pm := rfl
@[simp] theorem Dev.sramPut_groups (d : Dev) (k : Nat) (w : Word) : (d.sramPut k w).groups = d.groups := rfl
@[simp] theorem Dev.sramPut_pmNext (d : Dev) (k : Nat) (w : Word) : (d.sramPut k w).pmNext = d.pmNext := rfl
@[simp] theorem Dev.sramPut_tctx (d : Dev) (k : Nat) (w : Word) : (d.sramPut k w).tctx = d.tctx := rfl
@[simp] theorem Dev.sramPut_actx (d : Dev) (k : Nat) (w : Word) : (d.sramPut k w).actx = d.actx := rfl
@[simp] theorem Dev.sramPut_uctx (d : Dev) (k : Nat) (w : Word) : (d.sramPut k w).uctx = d.uctx := rfl
@[simp] theorem Dev.sramPut_takes (d : Dev) (k : Nat) (w : Word) : (d.sramPut k w).takes = d.takes := rfl
@[simp] theorem Dev.sramPut_probes (d : Dev) (k : Nat) (w : Word) : (d.sramPut k w).probes = d.probes := rfl
@[simp] theorem Dev.sramPut_doms (d : Dev) (k : Nat) (w : Word) : (d.sramPut k w).doms = d.doms := rfl
@[simp] theorem Dev.sramPut_gates (d : Dev) (k : Nat) (w : Word) : (d.sramPut k w).gates = d.gates := rfl
@[simp] theorem Dev.sramPut_deferring (d : Dev) (k : Nat) (w : Word) : (d.sramPut k w).deferring = d.deferring := rfl
@[simp] theorem Dev.sramPut_chans (d : Dev) (k : Nat) (w : Word) : (d.sramPut k w).chans = d.chans := rfl
@[simp] theorem Dev.sramPut_delays (d : Dev) (k : Nat) (w : Word) : (d.sramPut k w).delays = d.delays := rfl
@[simp] theorem Dev.sramPut_mem (d : Dev) (k : Nat) (w : Word) : (d.sramPut k w).mem = d.mem := rfl
@[simp] theorem Dev.sramPut_memGen (d : Dev) (k : Nat) (w : Word) : (d.sramPut k w).memGen = d.memGen := rfl
@[simp] theorem Dev.sramPut_memGenB (d : Dev) (k : Nat) (w : Word) : (d.sramPut k w).memGenB = d.memGenB := rfl
@[simp] theorem Dev.sramPut_queues (d : Dev) (k : Nat) (w : Word) : (d.sramPut k w).queues = d.queues := rfl
@[simp] theorem Dev.sramPut_opens (d : Dev) (k : Nat) (w : Word) : (d.sramPut k w).opens = d.opens := rfl
@[simp] theorem Dev.sramPut_parInj (d : Dev) (k : Nat) (w : Word) : (d.sramPut k w).parInj = d.parInj := rfl
@[simp] theorem Dev.sramPut_stalls (d : Dev) (k : Nat) (w : Word) : (d.sramPut k w).stalls = d.stalls := rfl
@[simp] theorem Dev.sramPut_lengs (d : Dev) (k : Nat) (w : Word) : (d.sramPut k w).lengs = d.lengs := rfl
@[simp] theorem Dev.sramPut_istore (d : Dev) (k : Nat) (w : Word) : (d.sramPut k w).istore = d.istore := rfl
@[simp] theorem Dev.sramPut_dmem (d : Dev) (k : Nat) (w : Word) : (d.sramPut k w).dmem = d.dmem := rfl
@[simp] theorem Dev.sramPut_lengGen (d : Dev) (k : Nat) (w : Word) : (d.sramPut k w).lengGen = d.lengGen := rfl
@[simp] theorem Dev.sramPut_outs (d : Dev) (k : Nat) (w : Word) : (d.sramPut k w).outs = d.outs := rfl
@[simp] theorem Dev.sramPut_period (d : Dev) (k : Nat) (w : Word) : (d.sramPut k w).period = d.period := rfl
@[simp] theorem Dev.sramPut_streams (d : Dev) (k : Nat) (w : Word) : (d.sramPut k w).streams = d.streams := rfl
@[simp] theorem Dev.sramPut_slots (d : Dev) (k : Nat) (w : Word) : (d.sramPut k w).slots = d.slots := rfl
@[simp] theorem Dev.sramPut_gens (d : Dev) (k : Nat) (w : Word) : (d.sramPut k w).gens = d.gens := rfl
@[simp] theorem Dev.sramPut_meters (d : Dev) (k : Nat) (w : Word) : (d.sramPut k w).meters = d.meters := rfl
@[simp] theorem Dev.sramPut_deembs (d : Dev) (k : Nat) (w : Word) : (d.sramPut k w).deembs = d.deembs := rfl
@[simp] theorem Dev.sramPut_refs (d : Dev) (k : Nat) (w : Word) : (d.sramPut k w).refs = d.refs := rfl
@[simp] theorem Dev.sramPut_tmu (d : Dev) (k : Nat) (w : Word) : (d.sramPut k w).tmu = d.tmu := rfl
@[simp] theorem Dev.sramPut_fps (d : Dev) (k : Nat) (w : Word) : (d.sramPut k w).fps = d.fps := rfl
@[simp] theorem Dev.sramPut_tlrx (d : Dev) (k : Nat) (w : Word) : (d.sramPut k w).tlrx = d.tlrx := rfl
@[simp] theorem Dev.sramPut_tltx (d : Dev) (k : Nat) (w : Word) : (d.sramPut k w).tltx = d.tltx := rfl
@[simp] theorem Dev.sramPut_protAud (d : Dev) (k : Nat) (w : Word) : (d.sramPut k w).protAud = d.protAud := rfl
@[simp] theorem Dev.sramPut_pwr (d : Dev) (k : Nat) (w : Word) : (d.sramPut k w).pwr = d.pwr := rfl
@[simp] theorem Dev.sramPut_cores (d : Dev) (k : Nat) (w : Word) : (d.sramPut k w).cores = d.cores := rfl
@[simp] theorem Dev.sramPut_mtx (d : Dev) (k : Nat) (w : Word) : (d.sramPut k w).mtx = d.mtx := rfl
@[simp] theorem Dev.sramPut_host (d : Dev) (k : Nat) (w : Word) : (d.sramPut k w).host = d.host := rfl
@[simp] theorem Dev.sramPut_boot (d : Dev) (k : Nat) (w : Word) : (d.sramPut k w).boot = d.boot := rfl
@[simp] theorem Dev.sramPut_jtag (d : Dev) (k : Nat) (w : Word) : (d.sramPut k w).jtag = d.jtag := rfl
@[simp] theorem Dev.sramPut_gpioPins (d : Dev) (k : Nat) (w : Word) : (d.sramPut k w).gpioPins = d.gpioPins := rfl

@[simp] theorem Dev.dmemPut_regs (d : Dev) (n a : Nat) (w : Word) : (d.dmemPut n a w).regs = d.regs := rfl
@[simp] theorem Dev.dmemPut_free (d : Dev) (n a : Nat) (w : Word) : (d.dmemPut n a w).free = d.free := rfl
@[simp] theorem Dev.dmemPut_xo (d : Dev) (n a : Nat) (w : Word) : (d.dmemPut n a w).xo = d.xo := rfl
@[simp] theorem Dev.dmemPut_resp (d : Dev) (n a : Nat) (w : Word) : (d.dmemPut n a w).resp = d.resp := rfl
@[simp] theorem Dev.dmemPut_fabMargin (d : Dev) (n a : Nat) (w : Word) : (d.dmemPut n a w).fabMargin = d.fabMargin := rfl
@[simp] theorem Dev.dmemPut_marginRun (d : Dev) (n a : Nat) (w : Word) : (d.dmemPut n a w).marginRun = d.marginRun := rfl
@[simp] theorem Dev.dmemPut_intc (d : Dev) (n a : Nat) (w : Word) : (d.dmemPut n a w).intc = d.intc := rfl
@[simp] theorem Dev.dmemPut_pmc (d : Dev) (n a : Nat) (w : Word) : (d.dmemPut n a w).pmc = d.pmc := rfl
@[simp] theorem Dev.dmemPut_lanes (d : Dev) (n a : Nat) (w : Word) : (d.dmemPut n a w).lanes = d.lanes := rfl
@[simp] theorem Dev.dmemPut_plls (d : Dev) (n a : Nat) (w : Word) : (d.dmemPut n a w).plls = d.plls := rfl
@[simp] theorem Dev.dmemPut_framers (d : Dev) (n a : Nat) (w : Word) : (d.dmemPut n a w).framers = d.framers := rfl
@[simp] theorem Dev.dmemPut_tiles (d : Dev) (n a : Nat) (w : Word) : (d.dmemPut n a w).tiles = d.tiles := rfl
@[simp] theorem Dev.dmemPut_pm (d : Dev) (n a : Nat) (w : Word) : (d.dmemPut n a w).pm = d.pm := rfl
@[simp] theorem Dev.dmemPut_groups (d : Dev) (n a : Nat) (w : Word) : (d.dmemPut n a w).groups = d.groups := rfl
@[simp] theorem Dev.dmemPut_pmNext (d : Dev) (n a : Nat) (w : Word) : (d.dmemPut n a w).pmNext = d.pmNext := rfl
@[simp] theorem Dev.dmemPut_tctx (d : Dev) (n a : Nat) (w : Word) : (d.dmemPut n a w).tctx = d.tctx := rfl
@[simp] theorem Dev.dmemPut_actx (d : Dev) (n a : Nat) (w : Word) : (d.dmemPut n a w).actx = d.actx := rfl
@[simp] theorem Dev.dmemPut_uctx (d : Dev) (n a : Nat) (w : Word) : (d.dmemPut n a w).uctx = d.uctx := rfl
@[simp] theorem Dev.dmemPut_takes (d : Dev) (n a : Nat) (w : Word) : (d.dmemPut n a w).takes = d.takes := rfl
@[simp] theorem Dev.dmemPut_probes (d : Dev) (n a : Nat) (w : Word) : (d.dmemPut n a w).probes = d.probes := rfl
@[simp] theorem Dev.dmemPut_doms (d : Dev) (n a : Nat) (w : Word) : (d.dmemPut n a w).doms = d.doms := rfl
@[simp] theorem Dev.dmemPut_gates (d : Dev) (n a : Nat) (w : Word) : (d.dmemPut n a w).gates = d.gates := rfl
@[simp] theorem Dev.dmemPut_deferring (d : Dev) (n a : Nat) (w : Word) : (d.dmemPut n a w).deferring = d.deferring := rfl
@[simp] theorem Dev.dmemPut_chans (d : Dev) (n a : Nat) (w : Word) : (d.dmemPut n a w).chans = d.chans := rfl
@[simp] theorem Dev.dmemPut_delays (d : Dev) (n a : Nat) (w : Word) : (d.dmemPut n a w).delays = d.delays := rfl
@[simp] theorem Dev.dmemPut_mem (d : Dev) (n a : Nat) (w : Word) : (d.dmemPut n a w).mem = d.mem := rfl
@[simp] theorem Dev.dmemPut_memGen (d : Dev) (n a : Nat) (w : Word) : (d.dmemPut n a w).memGen = d.memGen := rfl
@[simp] theorem Dev.dmemPut_memGenB (d : Dev) (n a : Nat) (w : Word) : (d.dmemPut n a w).memGenB = d.memGenB := rfl
@[simp] theorem Dev.dmemPut_queues (d : Dev) (n a : Nat) (w : Word) : (d.dmemPut n a w).queues = d.queues := rfl
@[simp] theorem Dev.dmemPut_opens (d : Dev) (n a : Nat) (w : Word) : (d.dmemPut n a w).opens = d.opens := rfl
@[simp] theorem Dev.dmemPut_parInj (d : Dev) (n a : Nat) (w : Word) : (d.dmemPut n a w).parInj = d.parInj := rfl
@[simp] theorem Dev.dmemPut_stalls (d : Dev) (n a : Nat) (w : Word) : (d.dmemPut n a w).stalls = d.stalls := rfl
@[simp] theorem Dev.dmemPut_sram (d : Dev) (n a : Nat) (w : Word) : (d.dmemPut n a w).sram = d.sram := rfl
@[simp] theorem Dev.dmemPut_lengs (d : Dev) (n a : Nat) (w : Word) : (d.dmemPut n a w).lengs = d.lengs := rfl
@[simp] theorem Dev.dmemPut_istore (d : Dev) (n a : Nat) (w : Word) : (d.dmemPut n a w).istore = d.istore := rfl
@[simp] theorem Dev.dmemPut_lengGen (d : Dev) (n a : Nat) (w : Word) : (d.dmemPut n a w).lengGen = d.lengGen := rfl
@[simp] theorem Dev.dmemPut_outs (d : Dev) (n a : Nat) (w : Word) : (d.dmemPut n a w).outs = d.outs := rfl
@[simp] theorem Dev.dmemPut_period (d : Dev) (n a : Nat) (w : Word) : (d.dmemPut n a w).period = d.period := rfl
@[simp] theorem Dev.dmemPut_streams (d : Dev) (n a : Nat) (w : Word) : (d.dmemPut n a w).streams = d.streams := rfl
@[simp] theorem Dev.dmemPut_slots (d : Dev) (n a : Nat) (w : Word) : (d.dmemPut n a w).slots = d.slots := rfl
@[simp] theorem Dev.dmemPut_gens (d : Dev) (n a : Nat) (w : Word) : (d.dmemPut n a w).gens = d.gens := rfl
@[simp] theorem Dev.dmemPut_meters (d : Dev) (n a : Nat) (w : Word) : (d.dmemPut n a w).meters = d.meters := rfl
@[simp] theorem Dev.dmemPut_deembs (d : Dev) (n a : Nat) (w : Word) : (d.dmemPut n a w).deembs = d.deembs := rfl
@[simp] theorem Dev.dmemPut_refs (d : Dev) (n a : Nat) (w : Word) : (d.dmemPut n a w).refs = d.refs := rfl
@[simp] theorem Dev.dmemPut_tmu (d : Dev) (n a : Nat) (w : Word) : (d.dmemPut n a w).tmu = d.tmu := rfl
@[simp] theorem Dev.dmemPut_fps (d : Dev) (n a : Nat) (w : Word) : (d.dmemPut n a w).fps = d.fps := rfl
@[simp] theorem Dev.dmemPut_tlrx (d : Dev) (n a : Nat) (w : Word) : (d.dmemPut n a w).tlrx = d.tlrx := rfl
@[simp] theorem Dev.dmemPut_tltx (d : Dev) (n a : Nat) (w : Word) : (d.dmemPut n a w).tltx = d.tltx := rfl
@[simp] theorem Dev.dmemPut_protAud (d : Dev) (n a : Nat) (w : Word) : (d.dmemPut n a w).protAud = d.protAud := rfl
@[simp] theorem Dev.dmemPut_pwr (d : Dev) (n a : Nat) (w : Word) : (d.dmemPut n a w).pwr = d.pwr := rfl
@[simp] theorem Dev.dmemPut_cores (d : Dev) (n a : Nat) (w : Word) : (d.dmemPut n a w).cores = d.cores := rfl
@[simp] theorem Dev.dmemPut_mtx (d : Dev) (n a : Nat) (w : Word) : (d.dmemPut n a w).mtx = d.mtx := rfl
@[simp] theorem Dev.dmemPut_host (d : Dev) (n a : Nat) (w : Word) : (d.dmemPut n a w).host = d.host := rfl
@[simp] theorem Dev.dmemPut_boot (d : Dev) (n a : Nat) (w : Word) : (d.dmemPut n a w).boot = d.boot := rfl
@[simp] theorem Dev.dmemPut_jtag (d : Dev) (n a : Nat) (w : Word) : (d.dmemPut n a w).jtag = d.jtag := rfl
@[simp] theorem Dev.dmemPut_gpioPins (d : Dev) (n a : Nat) (w : Word) : (d.dmemPut n a w).gpioPins = d.gpioPins := rfl

@[simp] theorem Dev.istorePut_regs (d : Dev) (n i : Nat) (w : Word) : (d.istorePut n i w).regs = d.regs := rfl
@[simp] theorem Dev.istorePut_free (d : Dev) (n i : Nat) (w : Word) : (d.istorePut n i w).free = d.free := rfl
@[simp] theorem Dev.istorePut_xo (d : Dev) (n i : Nat) (w : Word) : (d.istorePut n i w).xo = d.xo := rfl
@[simp] theorem Dev.istorePut_resp (d : Dev) (n i : Nat) (w : Word) : (d.istorePut n i w).resp = d.resp := rfl
@[simp] theorem Dev.istorePut_fabMargin (d : Dev) (n i : Nat) (w : Word) : (d.istorePut n i w).fabMargin = d.fabMargin := rfl
@[simp] theorem Dev.istorePut_marginRun (d : Dev) (n i : Nat) (w : Word) : (d.istorePut n i w).marginRun = d.marginRun := rfl
@[simp] theorem Dev.istorePut_intc (d : Dev) (n i : Nat) (w : Word) : (d.istorePut n i w).intc = d.intc := rfl
@[simp] theorem Dev.istorePut_pmc (d : Dev) (n i : Nat) (w : Word) : (d.istorePut n i w).pmc = d.pmc := rfl
@[simp] theorem Dev.istorePut_lanes (d : Dev) (n i : Nat) (w : Word) : (d.istorePut n i w).lanes = d.lanes := rfl
@[simp] theorem Dev.istorePut_plls (d : Dev) (n i : Nat) (w : Word) : (d.istorePut n i w).plls = d.plls := rfl
@[simp] theorem Dev.istorePut_framers (d : Dev) (n i : Nat) (w : Word) : (d.istorePut n i w).framers = d.framers := rfl
@[simp] theorem Dev.istorePut_tiles (d : Dev) (n i : Nat) (w : Word) : (d.istorePut n i w).tiles = d.tiles := rfl
@[simp] theorem Dev.istorePut_pm (d : Dev) (n i : Nat) (w : Word) : (d.istorePut n i w).pm = d.pm := rfl
@[simp] theorem Dev.istorePut_groups (d : Dev) (n i : Nat) (w : Word) : (d.istorePut n i w).groups = d.groups := rfl
@[simp] theorem Dev.istorePut_pmNext (d : Dev) (n i : Nat) (w : Word) : (d.istorePut n i w).pmNext = d.pmNext := rfl
@[simp] theorem Dev.istorePut_tctx (d : Dev) (n i : Nat) (w : Word) : (d.istorePut n i w).tctx = d.tctx := rfl
@[simp] theorem Dev.istorePut_actx (d : Dev) (n i : Nat) (w : Word) : (d.istorePut n i w).actx = d.actx := rfl
@[simp] theorem Dev.istorePut_uctx (d : Dev) (n i : Nat) (w : Word) : (d.istorePut n i w).uctx = d.uctx := rfl
@[simp] theorem Dev.istorePut_takes (d : Dev) (n i : Nat) (w : Word) : (d.istorePut n i w).takes = d.takes := rfl
@[simp] theorem Dev.istorePut_probes (d : Dev) (n i : Nat) (w : Word) : (d.istorePut n i w).probes = d.probes := rfl
@[simp] theorem Dev.istorePut_doms (d : Dev) (n i : Nat) (w : Word) : (d.istorePut n i w).doms = d.doms := rfl
@[simp] theorem Dev.istorePut_gates (d : Dev) (n i : Nat) (w : Word) : (d.istorePut n i w).gates = d.gates := rfl
@[simp] theorem Dev.istorePut_deferring (d : Dev) (n i : Nat) (w : Word) : (d.istorePut n i w).deferring = d.deferring := rfl
@[simp] theorem Dev.istorePut_chans (d : Dev) (n i : Nat) (w : Word) : (d.istorePut n i w).chans = d.chans := rfl
@[simp] theorem Dev.istorePut_delays (d : Dev) (n i : Nat) (w : Word) : (d.istorePut n i w).delays = d.delays := rfl
@[simp] theorem Dev.istorePut_mem (d : Dev) (n i : Nat) (w : Word) : (d.istorePut n i w).mem = d.mem := rfl
@[simp] theorem Dev.istorePut_memGen (d : Dev) (n i : Nat) (w : Word) : (d.istorePut n i w).memGen = d.memGen := rfl
@[simp] theorem Dev.istorePut_memGenB (d : Dev) (n i : Nat) (w : Word) : (d.istorePut n i w).memGenB = d.memGenB := rfl
@[simp] theorem Dev.istorePut_queues (d : Dev) (n i : Nat) (w : Word) : (d.istorePut n i w).queues = d.queues := rfl
@[simp] theorem Dev.istorePut_opens (d : Dev) (n i : Nat) (w : Word) : (d.istorePut n i w).opens = d.opens := rfl
@[simp] theorem Dev.istorePut_parInj (d : Dev) (n i : Nat) (w : Word) : (d.istorePut n i w).parInj = d.parInj := rfl
@[simp] theorem Dev.istorePut_stalls (d : Dev) (n i : Nat) (w : Word) : (d.istorePut n i w).stalls = d.stalls := rfl
@[simp] theorem Dev.istorePut_sram (d : Dev) (n i : Nat) (w : Word) : (d.istorePut n i w).sram = d.sram := rfl
@[simp] theorem Dev.istorePut_lengs (d : Dev) (n i : Nat) (w : Word) : (d.istorePut n i w).lengs = d.lengs := rfl
@[simp] theorem Dev.istorePut_dmem (d : Dev) (n i : Nat) (w : Word) : (d.istorePut n i w).dmem = d.dmem := rfl
@[simp] theorem Dev.istorePut_lengGen (d : Dev) (n i : Nat) (w : Word) : (d.istorePut n i w).lengGen = d.lengGen := rfl
@[simp] theorem Dev.istorePut_outs (d : Dev) (n i : Nat) (w : Word) : (d.istorePut n i w).outs = d.outs := rfl
@[simp] theorem Dev.istorePut_period (d : Dev) (n i : Nat) (w : Word) : (d.istorePut n i w).period = d.period := rfl
@[simp] theorem Dev.istorePut_streams (d : Dev) (n i : Nat) (w : Word) : (d.istorePut n i w).streams = d.streams := rfl
@[simp] theorem Dev.istorePut_slots (d : Dev) (n i : Nat) (w : Word) : (d.istorePut n i w).slots = d.slots := rfl
@[simp] theorem Dev.istorePut_gens (d : Dev) (n i : Nat) (w : Word) : (d.istorePut n i w).gens = d.gens := rfl
@[simp] theorem Dev.istorePut_meters (d : Dev) (n i : Nat) (w : Word) : (d.istorePut n i w).meters = d.meters := rfl
@[simp] theorem Dev.istorePut_deembs (d : Dev) (n i : Nat) (w : Word) : (d.istorePut n i w).deembs = d.deembs := rfl
@[simp] theorem Dev.istorePut_refs (d : Dev) (n i : Nat) (w : Word) : (d.istorePut n i w).refs = d.refs := rfl
@[simp] theorem Dev.istorePut_tmu (d : Dev) (n i : Nat) (w : Word) : (d.istorePut n i w).tmu = d.tmu := rfl
@[simp] theorem Dev.istorePut_fps (d : Dev) (n i : Nat) (w : Word) : (d.istorePut n i w).fps = d.fps := rfl
@[simp] theorem Dev.istorePut_tlrx (d : Dev) (n i : Nat) (w : Word) : (d.istorePut n i w).tlrx = d.tlrx := rfl
@[simp] theorem Dev.istorePut_tltx (d : Dev) (n i : Nat) (w : Word) : (d.istorePut n i w).tltx = d.tltx := rfl
@[simp] theorem Dev.istorePut_protAud (d : Dev) (n i : Nat) (w : Word) : (d.istorePut n i w).protAud = d.protAud := rfl
@[simp] theorem Dev.istorePut_pwr (d : Dev) (n i : Nat) (w : Word) : (d.istorePut n i w).pwr = d.pwr := rfl
@[simp] theorem Dev.istorePut_cores (d : Dev) (n i : Nat) (w : Word) : (d.istorePut n i w).cores = d.cores := rfl
@[simp] theorem Dev.istorePut_mtx (d : Dev) (n i : Nat) (w : Word) : (d.istorePut n i w).mtx = d.mtx := rfl
@[simp] theorem Dev.istorePut_host (d : Dev) (n i : Nat) (w : Word) : (d.istorePut n i w).host = d.host := rfl
@[simp] theorem Dev.istorePut_boot (d : Dev) (n i : Nat) (w : Word) : (d.istorePut n i w).boot = d.boot := rfl
@[simp] theorem Dev.istorePut_jtag (d : Dev) (n i : Nat) (w : Word) : (d.istorePut n i w).jtag = d.jtag := rfl
@[simp] theorem Dev.istorePut_gpioPins (d : Dev) (n i : Nat) (w : Word) : (d.istorePut n i w).gpioPins = d.gpioPins := rfl

@[simp] theorem Dev.setMemByte_regs (d : Dev) (m a : Nat) (b : Byte) : (d.setMemByte m a b).regs = d.regs := rfl
@[simp] theorem Dev.setMemByte_free (d : Dev) (m a : Nat) (b : Byte) : (d.setMemByte m a b).free = d.free := rfl
@[simp] theorem Dev.setMemByte_xo (d : Dev) (m a : Nat) (b : Byte) : (d.setMemByte m a b).xo = d.xo := rfl
@[simp] theorem Dev.setMemByte_resp (d : Dev) (m a : Nat) (b : Byte) : (d.setMemByte m a b).resp = d.resp := rfl
@[simp] theorem Dev.setMemByte_fabMargin (d : Dev) (m a : Nat) (b : Byte) : (d.setMemByte m a b).fabMargin = d.fabMargin := rfl
@[simp] theorem Dev.setMemByte_marginRun (d : Dev) (m a : Nat) (b : Byte) : (d.setMemByte m a b).marginRun = d.marginRun := rfl
@[simp] theorem Dev.setMemByte_intc (d : Dev) (m a : Nat) (b : Byte) : (d.setMemByte m a b).intc = d.intc := rfl
@[simp] theorem Dev.setMemByte_pmc (d : Dev) (m a : Nat) (b : Byte) : (d.setMemByte m a b).pmc = d.pmc := rfl
@[simp] theorem Dev.setMemByte_lanes (d : Dev) (m a : Nat) (b : Byte) : (d.setMemByte m a b).lanes = d.lanes := rfl
@[simp] theorem Dev.setMemByte_plls (d : Dev) (m a : Nat) (b : Byte) : (d.setMemByte m a b).plls = d.plls := rfl
@[simp] theorem Dev.setMemByte_framers (d : Dev) (m a : Nat) (b : Byte) : (d.setMemByte m a b).framers = d.framers := rfl
@[simp] theorem Dev.setMemByte_tiles (d : Dev) (m a : Nat) (b : Byte) : (d.setMemByte m a b).tiles = d.tiles := rfl
@[simp] theorem Dev.setMemByte_pm (d : Dev) (m a : Nat) (b : Byte) : (d.setMemByte m a b).pm = d.pm := rfl
@[simp] theorem Dev.setMemByte_groups (d : Dev) (m a : Nat) (b : Byte) : (d.setMemByte m a b).groups = d.groups := rfl
@[simp] theorem Dev.setMemByte_pmNext (d : Dev) (m a : Nat) (b : Byte) : (d.setMemByte m a b).pmNext = d.pmNext := rfl
@[simp] theorem Dev.setMemByte_tctx (d : Dev) (m a : Nat) (b : Byte) : (d.setMemByte m a b).tctx = d.tctx := rfl
@[simp] theorem Dev.setMemByte_actx (d : Dev) (m a : Nat) (b : Byte) : (d.setMemByte m a b).actx = d.actx := rfl
@[simp] theorem Dev.setMemByte_uctx (d : Dev) (m a : Nat) (b : Byte) : (d.setMemByte m a b).uctx = d.uctx := rfl
@[simp] theorem Dev.setMemByte_takes (d : Dev) (m a : Nat) (b : Byte) : (d.setMemByte m a b).takes = d.takes := rfl
@[simp] theorem Dev.setMemByte_probes (d : Dev) (m a : Nat) (b : Byte) : (d.setMemByte m a b).probes = d.probes := rfl
@[simp] theorem Dev.setMemByte_doms (d : Dev) (m a : Nat) (b : Byte) : (d.setMemByte m a b).doms = d.doms := rfl
@[simp] theorem Dev.setMemByte_gates (d : Dev) (m a : Nat) (b : Byte) : (d.setMemByte m a b).gates = d.gates := rfl
@[simp] theorem Dev.setMemByte_deferring (d : Dev) (m a : Nat) (b : Byte) : (d.setMemByte m a b).deferring = d.deferring := rfl
@[simp] theorem Dev.setMemByte_chans (d : Dev) (m a : Nat) (b : Byte) : (d.setMemByte m a b).chans = d.chans := rfl
@[simp] theorem Dev.setMemByte_delays (d : Dev) (m a : Nat) (b : Byte) : (d.setMemByte m a b).delays = d.delays := rfl
@[simp] theorem Dev.setMemByte_memGen (d : Dev) (m a : Nat) (b : Byte) : (d.setMemByte m a b).memGen = d.memGen := rfl
@[simp] theorem Dev.setMemByte_memGenB (d : Dev) (m a : Nat) (b : Byte) : (d.setMemByte m a b).memGenB = d.memGenB := rfl
@[simp] theorem Dev.setMemByte_queues (d : Dev) (m a : Nat) (b : Byte) : (d.setMemByte m a b).queues = d.queues := rfl
@[simp] theorem Dev.setMemByte_opens (d : Dev) (m a : Nat) (b : Byte) : (d.setMemByte m a b).opens = d.opens := rfl
@[simp] theorem Dev.setMemByte_parInj (d : Dev) (m a : Nat) (b : Byte) : (d.setMemByte m a b).parInj = d.parInj := rfl
@[simp] theorem Dev.setMemByte_stalls (d : Dev) (m a : Nat) (b : Byte) : (d.setMemByte m a b).stalls = d.stalls := rfl
@[simp] theorem Dev.setMemByte_sram (d : Dev) (m a : Nat) (b : Byte) : (d.setMemByte m a b).sram = d.sram := rfl
@[simp] theorem Dev.setMemByte_lengs (d : Dev) (m a : Nat) (b : Byte) : (d.setMemByte m a b).lengs = d.lengs := rfl
@[simp] theorem Dev.setMemByte_istore (d : Dev) (m a : Nat) (b : Byte) : (d.setMemByte m a b).istore = d.istore := rfl
@[simp] theorem Dev.setMemByte_dmem (d : Dev) (m a : Nat) (b : Byte) : (d.setMemByte m a b).dmem = d.dmem := rfl
@[simp] theorem Dev.setMemByte_lengGen (d : Dev) (m a : Nat) (b : Byte) : (d.setMemByte m a b).lengGen = d.lengGen := rfl
@[simp] theorem Dev.setMemByte_outs (d : Dev) (m a : Nat) (b : Byte) : (d.setMemByte m a b).outs = d.outs := rfl
@[simp] theorem Dev.setMemByte_period (d : Dev) (m a : Nat) (b : Byte) : (d.setMemByte m a b).period = d.period := rfl
@[simp] theorem Dev.setMemByte_streams (d : Dev) (m a : Nat) (b : Byte) : (d.setMemByte m a b).streams = d.streams := rfl
@[simp] theorem Dev.setMemByte_slots (d : Dev) (m a : Nat) (b : Byte) : (d.setMemByte m a b).slots = d.slots := rfl
@[simp] theorem Dev.setMemByte_gens (d : Dev) (m a : Nat) (b : Byte) : (d.setMemByte m a b).gens = d.gens := rfl
@[simp] theorem Dev.setMemByte_meters (d : Dev) (m a : Nat) (b : Byte) : (d.setMemByte m a b).meters = d.meters := rfl
@[simp] theorem Dev.setMemByte_deembs (d : Dev) (m a : Nat) (b : Byte) : (d.setMemByte m a b).deembs = d.deembs := rfl
@[simp] theorem Dev.setMemByte_refs (d : Dev) (m a : Nat) (b : Byte) : (d.setMemByte m a b).refs = d.refs := rfl
@[simp] theorem Dev.setMemByte_tmu (d : Dev) (m a : Nat) (b : Byte) : (d.setMemByte m a b).tmu = d.tmu := rfl
@[simp] theorem Dev.setMemByte_fps (d : Dev) (m a : Nat) (b : Byte) : (d.setMemByte m a b).fps = d.fps := rfl
@[simp] theorem Dev.setMemByte_tlrx (d : Dev) (m a : Nat) (b : Byte) : (d.setMemByte m a b).tlrx = d.tlrx := rfl
@[simp] theorem Dev.setMemByte_tltx (d : Dev) (m a : Nat) (b : Byte) : (d.setMemByte m a b).tltx = d.tltx := rfl
@[simp] theorem Dev.setMemByte_protAud (d : Dev) (m a : Nat) (b : Byte) : (d.setMemByte m a b).protAud = d.protAud := rfl
@[simp] theorem Dev.setMemByte_pwr (d : Dev) (m a : Nat) (b : Byte) : (d.setMemByte m a b).pwr = d.pwr := rfl
@[simp] theorem Dev.setMemByte_cores (d : Dev) (m a : Nat) (b : Byte) : (d.setMemByte m a b).cores = d.cores := rfl
@[simp] theorem Dev.setMemByte_mtx (d : Dev) (m a : Nat) (b : Byte) : (d.setMemByte m a b).mtx = d.mtx := rfl
@[simp] theorem Dev.setMemByte_host (d : Dev) (m a : Nat) (b : Byte) : (d.setMemByte m a b).host = d.host := rfl
@[simp] theorem Dev.setMemByte_boot (d : Dev) (m a : Nat) (b : Byte) : (d.setMemByte m a b).boot = d.boot := rfl
@[simp] theorem Dev.setMemByte_jtag (d : Dev) (m a : Nat) (b : Byte) : (d.setMemByte m a b).jtag = d.jtag := rfl
@[simp] theorem Dev.setMemByte_gpioPins (d : Dev) (m a : Nat) (b : Byte) : (d.setMemByte m a b).gpioPins = d.gpioPins := rfl

@[simp] theorem Dev.setQueue_regs (d : Dev) (k : Nat) (v : QueueI) : (d.setQueue k v).regs = d.regs := rfl
@[simp] theorem Dev.setQueue_free (d : Dev) (k : Nat) (v : QueueI) : (d.setQueue k v).free = d.free := rfl
@[simp] theorem Dev.setQueue_xo (d : Dev) (k : Nat) (v : QueueI) : (d.setQueue k v).xo = d.xo := rfl
@[simp] theorem Dev.setQueue_resp (d : Dev) (k : Nat) (v : QueueI) : (d.setQueue k v).resp = d.resp := rfl
@[simp] theorem Dev.setQueue_fabMargin (d : Dev) (k : Nat) (v : QueueI) : (d.setQueue k v).fabMargin = d.fabMargin := rfl
@[simp] theorem Dev.setQueue_marginRun (d : Dev) (k : Nat) (v : QueueI) : (d.setQueue k v).marginRun = d.marginRun := rfl
@[simp] theorem Dev.setQueue_intc (d : Dev) (k : Nat) (v : QueueI) : (d.setQueue k v).intc = d.intc := rfl
@[simp] theorem Dev.setQueue_pmc (d : Dev) (k : Nat) (v : QueueI) : (d.setQueue k v).pmc = d.pmc := rfl
@[simp] theorem Dev.setQueue_lanes (d : Dev) (k : Nat) (v : QueueI) : (d.setQueue k v).lanes = d.lanes := rfl
@[simp] theorem Dev.setQueue_plls (d : Dev) (k : Nat) (v : QueueI) : (d.setQueue k v).plls = d.plls := rfl
@[simp] theorem Dev.setQueue_framers (d : Dev) (k : Nat) (v : QueueI) : (d.setQueue k v).framers = d.framers := rfl
@[simp] theorem Dev.setQueue_tiles (d : Dev) (k : Nat) (v : QueueI) : (d.setQueue k v).tiles = d.tiles := rfl
@[simp] theorem Dev.setQueue_pm (d : Dev) (k : Nat) (v : QueueI) : (d.setQueue k v).pm = d.pm := rfl
@[simp] theorem Dev.setQueue_groups (d : Dev) (k : Nat) (v : QueueI) : (d.setQueue k v).groups = d.groups := rfl
@[simp] theorem Dev.setQueue_pmNext (d : Dev) (k : Nat) (v : QueueI) : (d.setQueue k v).pmNext = d.pmNext := rfl
@[simp] theorem Dev.setQueue_tctx (d : Dev) (k : Nat) (v : QueueI) : (d.setQueue k v).tctx = d.tctx := rfl
@[simp] theorem Dev.setQueue_actx (d : Dev) (k : Nat) (v : QueueI) : (d.setQueue k v).actx = d.actx := rfl
@[simp] theorem Dev.setQueue_uctx (d : Dev) (k : Nat) (v : QueueI) : (d.setQueue k v).uctx = d.uctx := rfl
@[simp] theorem Dev.setQueue_takes (d : Dev) (k : Nat) (v : QueueI) : (d.setQueue k v).takes = d.takes := rfl
@[simp] theorem Dev.setQueue_probes (d : Dev) (k : Nat) (v : QueueI) : (d.setQueue k v).probes = d.probes := rfl
@[simp] theorem Dev.setQueue_doms (d : Dev) (k : Nat) (v : QueueI) : (d.setQueue k v).doms = d.doms := rfl
@[simp] theorem Dev.setQueue_gates (d : Dev) (k : Nat) (v : QueueI) : (d.setQueue k v).gates = d.gates := rfl
@[simp] theorem Dev.setQueue_deferring (d : Dev) (k : Nat) (v : QueueI) : (d.setQueue k v).deferring = d.deferring := rfl
@[simp] theorem Dev.setQueue_chans (d : Dev) (k : Nat) (v : QueueI) : (d.setQueue k v).chans = d.chans := rfl
@[simp] theorem Dev.setQueue_delays (d : Dev) (k : Nat) (v : QueueI) : (d.setQueue k v).delays = d.delays := rfl
@[simp] theorem Dev.setQueue_mem (d : Dev) (k : Nat) (v : QueueI) : (d.setQueue k v).mem = d.mem := rfl
@[simp] theorem Dev.setQueue_memGen (d : Dev) (k : Nat) (v : QueueI) : (d.setQueue k v).memGen = d.memGen := rfl
@[simp] theorem Dev.setQueue_memGenB (d : Dev) (k : Nat) (v : QueueI) : (d.setQueue k v).memGenB = d.memGenB := rfl
@[simp] theorem Dev.setQueue_opens (d : Dev) (k : Nat) (v : QueueI) : (d.setQueue k v).opens = d.opens := rfl
@[simp] theorem Dev.setQueue_parInj (d : Dev) (k : Nat) (v : QueueI) : (d.setQueue k v).parInj = d.parInj := rfl
@[simp] theorem Dev.setQueue_stalls (d : Dev) (k : Nat) (v : QueueI) : (d.setQueue k v).stalls = d.stalls := rfl
@[simp] theorem Dev.setQueue_sram (d : Dev) (k : Nat) (v : QueueI) : (d.setQueue k v).sram = d.sram := rfl
@[simp] theorem Dev.setQueue_lengs (d : Dev) (k : Nat) (v : QueueI) : (d.setQueue k v).lengs = d.lengs := rfl
@[simp] theorem Dev.setQueue_istore (d : Dev) (k : Nat) (v : QueueI) : (d.setQueue k v).istore = d.istore := rfl
@[simp] theorem Dev.setQueue_dmem (d : Dev) (k : Nat) (v : QueueI) : (d.setQueue k v).dmem = d.dmem := rfl
@[simp] theorem Dev.setQueue_lengGen (d : Dev) (k : Nat) (v : QueueI) : (d.setQueue k v).lengGen = d.lengGen := rfl
@[simp] theorem Dev.setQueue_outs (d : Dev) (k : Nat) (v : QueueI) : (d.setQueue k v).outs = d.outs := rfl
@[simp] theorem Dev.setQueue_period (d : Dev) (k : Nat) (v : QueueI) : (d.setQueue k v).period = d.period := rfl
@[simp] theorem Dev.setQueue_streams (d : Dev) (k : Nat) (v : QueueI) : (d.setQueue k v).streams = d.streams := rfl
@[simp] theorem Dev.setQueue_slots (d : Dev) (k : Nat) (v : QueueI) : (d.setQueue k v).slots = d.slots := rfl
@[simp] theorem Dev.setQueue_gens (d : Dev) (k : Nat) (v : QueueI) : (d.setQueue k v).gens = d.gens := rfl
@[simp] theorem Dev.setQueue_meters (d : Dev) (k : Nat) (v : QueueI) : (d.setQueue k v).meters = d.meters := rfl
@[simp] theorem Dev.setQueue_deembs (d : Dev) (k : Nat) (v : QueueI) : (d.setQueue k v).deembs = d.deembs := rfl
@[simp] theorem Dev.setQueue_refs (d : Dev) (k : Nat) (v : QueueI) : (d.setQueue k v).refs = d.refs := rfl
@[simp] theorem Dev.setQueue_tmu (d : Dev) (k : Nat) (v : QueueI) : (d.setQueue k v).tmu = d.tmu := rfl
@[simp] theorem Dev.setQueue_fps (d : Dev) (k : Nat) (v : QueueI) : (d.setQueue k v).fps = d.fps := rfl
@[simp] theorem Dev.setQueue_tlrx (d : Dev) (k : Nat) (v : QueueI) : (d.setQueue k v).tlrx = d.tlrx := rfl
@[simp] theorem Dev.setQueue_tltx (d : Dev) (k : Nat) (v : QueueI) : (d.setQueue k v).tltx = d.tltx := rfl
@[simp] theorem Dev.setQueue_protAud (d : Dev) (k : Nat) (v : QueueI) : (d.setQueue k v).protAud = d.protAud := rfl
@[simp] theorem Dev.setQueue_pwr (d : Dev) (k : Nat) (v : QueueI) : (d.setQueue k v).pwr = d.pwr := rfl
@[simp] theorem Dev.setQueue_cores (d : Dev) (k : Nat) (v : QueueI) : (d.setQueue k v).cores = d.cores := rfl
@[simp] theorem Dev.setQueue_mtx (d : Dev) (k : Nat) (v : QueueI) : (d.setQueue k v).mtx = d.mtx := rfl
@[simp] theorem Dev.setQueue_host (d : Dev) (k : Nat) (v : QueueI) : (d.setQueue k v).host = d.host := rfl
@[simp] theorem Dev.setQueue_boot (d : Dev) (k : Nat) (v : QueueI) : (d.setQueue k v).boot = d.boot := rfl
@[simp] theorem Dev.setQueue_jtag (d : Dev) (k : Nat) (v : QueueI) : (d.setQueue k v).jtag = d.jtag := rfl
@[simp] theorem Dev.setQueue_gpioPins (d : Dev) (k : Nat) (v : QueueI) : (d.setQueue k v).gpioPins = d.gpioPins := rfl

@[simp] theorem Dev.setTc_regs (d : Dev) (t : Nat) (v : TileCtx) : (d.setTc t v).regs = d.regs := rfl
@[simp] theorem Dev.setTc_free (d : Dev) (t : Nat) (v : TileCtx) : (d.setTc t v).free = d.free := rfl
@[simp] theorem Dev.setTc_xo (d : Dev) (t : Nat) (v : TileCtx) : (d.setTc t v).xo = d.xo := rfl
@[simp] theorem Dev.setTc_resp (d : Dev) (t : Nat) (v : TileCtx) : (d.setTc t v).resp = d.resp := rfl
@[simp] theorem Dev.setTc_fabMargin (d : Dev) (t : Nat) (v : TileCtx) : (d.setTc t v).fabMargin = d.fabMargin := rfl
@[simp] theorem Dev.setTc_marginRun (d : Dev) (t : Nat) (v : TileCtx) : (d.setTc t v).marginRun = d.marginRun := rfl
@[simp] theorem Dev.setTc_intc (d : Dev) (t : Nat) (v : TileCtx) : (d.setTc t v).intc = d.intc := rfl
@[simp] theorem Dev.setTc_pmc (d : Dev) (t : Nat) (v : TileCtx) : (d.setTc t v).pmc = d.pmc := rfl
@[simp] theorem Dev.setTc_lanes (d : Dev) (t : Nat) (v : TileCtx) : (d.setTc t v).lanes = d.lanes := rfl
@[simp] theorem Dev.setTc_plls (d : Dev) (t : Nat) (v : TileCtx) : (d.setTc t v).plls = d.plls := rfl
@[simp] theorem Dev.setTc_framers (d : Dev) (t : Nat) (v : TileCtx) : (d.setTc t v).framers = d.framers := rfl
@[simp] theorem Dev.setTc_tiles (d : Dev) (t : Nat) (v : TileCtx) : (d.setTc t v).tiles = d.tiles := rfl
@[simp] theorem Dev.setTc_pm (d : Dev) (t : Nat) (v : TileCtx) : (d.setTc t v).pm = d.pm := rfl
@[simp] theorem Dev.setTc_groups (d : Dev) (t : Nat) (v : TileCtx) : (d.setTc t v).groups = d.groups := rfl
@[simp] theorem Dev.setTc_pmNext (d : Dev) (t : Nat) (v : TileCtx) : (d.setTc t v).pmNext = d.pmNext := rfl
@[simp] theorem Dev.setTc_actx (d : Dev) (t : Nat) (v : TileCtx) : (d.setTc t v).actx = d.actx := rfl
@[simp] theorem Dev.setTc_uctx (d : Dev) (t : Nat) (v : TileCtx) : (d.setTc t v).uctx = d.uctx := rfl
@[simp] theorem Dev.setTc_takes (d : Dev) (t : Nat) (v : TileCtx) : (d.setTc t v).takes = d.takes := rfl
@[simp] theorem Dev.setTc_probes (d : Dev) (t : Nat) (v : TileCtx) : (d.setTc t v).probes = d.probes := rfl
@[simp] theorem Dev.setTc_doms (d : Dev) (t : Nat) (v : TileCtx) : (d.setTc t v).doms = d.doms := rfl
@[simp] theorem Dev.setTc_gates (d : Dev) (t : Nat) (v : TileCtx) : (d.setTc t v).gates = d.gates := rfl
@[simp] theorem Dev.setTc_deferring (d : Dev) (t : Nat) (v : TileCtx) : (d.setTc t v).deferring = d.deferring := rfl
@[simp] theorem Dev.setTc_chans (d : Dev) (t : Nat) (v : TileCtx) : (d.setTc t v).chans = d.chans := rfl
@[simp] theorem Dev.setTc_delays (d : Dev) (t : Nat) (v : TileCtx) : (d.setTc t v).delays = d.delays := rfl
@[simp] theorem Dev.setTc_mem (d : Dev) (t : Nat) (v : TileCtx) : (d.setTc t v).mem = d.mem := rfl
@[simp] theorem Dev.setTc_memGen (d : Dev) (t : Nat) (v : TileCtx) : (d.setTc t v).memGen = d.memGen := rfl
@[simp] theorem Dev.setTc_memGenB (d : Dev) (t : Nat) (v : TileCtx) : (d.setTc t v).memGenB = d.memGenB := rfl
@[simp] theorem Dev.setTc_queues (d : Dev) (t : Nat) (v : TileCtx) : (d.setTc t v).queues = d.queues := rfl
@[simp] theorem Dev.setTc_opens (d : Dev) (t : Nat) (v : TileCtx) : (d.setTc t v).opens = d.opens := rfl
@[simp] theorem Dev.setTc_parInj (d : Dev) (t : Nat) (v : TileCtx) : (d.setTc t v).parInj = d.parInj := rfl
@[simp] theorem Dev.setTc_stalls (d : Dev) (t : Nat) (v : TileCtx) : (d.setTc t v).stalls = d.stalls := rfl
@[simp] theorem Dev.setTc_sram (d : Dev) (t : Nat) (v : TileCtx) : (d.setTc t v).sram = d.sram := rfl
@[simp] theorem Dev.setTc_lengs (d : Dev) (t : Nat) (v : TileCtx) : (d.setTc t v).lengs = d.lengs := rfl
@[simp] theorem Dev.setTc_istore (d : Dev) (t : Nat) (v : TileCtx) : (d.setTc t v).istore = d.istore := rfl
@[simp] theorem Dev.setTc_dmem (d : Dev) (t : Nat) (v : TileCtx) : (d.setTc t v).dmem = d.dmem := rfl
@[simp] theorem Dev.setTc_lengGen (d : Dev) (t : Nat) (v : TileCtx) : (d.setTc t v).lengGen = d.lengGen := rfl
@[simp] theorem Dev.setTc_outs (d : Dev) (t : Nat) (v : TileCtx) : (d.setTc t v).outs = d.outs := rfl
@[simp] theorem Dev.setTc_period (d : Dev) (t : Nat) (v : TileCtx) : (d.setTc t v).period = d.period := rfl
@[simp] theorem Dev.setTc_streams (d : Dev) (t : Nat) (v : TileCtx) : (d.setTc t v).streams = d.streams := rfl
@[simp] theorem Dev.setTc_slots (d : Dev) (t : Nat) (v : TileCtx) : (d.setTc t v).slots = d.slots := rfl
@[simp] theorem Dev.setTc_gens (d : Dev) (t : Nat) (v : TileCtx) : (d.setTc t v).gens = d.gens := rfl
@[simp] theorem Dev.setTc_meters (d : Dev) (t : Nat) (v : TileCtx) : (d.setTc t v).meters = d.meters := rfl
@[simp] theorem Dev.setTc_deembs (d : Dev) (t : Nat) (v : TileCtx) : (d.setTc t v).deembs = d.deembs := rfl
@[simp] theorem Dev.setTc_refs (d : Dev) (t : Nat) (v : TileCtx) : (d.setTc t v).refs = d.refs := rfl
@[simp] theorem Dev.setTc_tmu (d : Dev) (t : Nat) (v : TileCtx) : (d.setTc t v).tmu = d.tmu := rfl
@[simp] theorem Dev.setTc_fps (d : Dev) (t : Nat) (v : TileCtx) : (d.setTc t v).fps = d.fps := rfl
@[simp] theorem Dev.setTc_tlrx (d : Dev) (t : Nat) (v : TileCtx) : (d.setTc t v).tlrx = d.tlrx := rfl
@[simp] theorem Dev.setTc_tltx (d : Dev) (t : Nat) (v : TileCtx) : (d.setTc t v).tltx = d.tltx := rfl
@[simp] theorem Dev.setTc_protAud (d : Dev) (t : Nat) (v : TileCtx) : (d.setTc t v).protAud = d.protAud := rfl
@[simp] theorem Dev.setTc_pwr (d : Dev) (t : Nat) (v : TileCtx) : (d.setTc t v).pwr = d.pwr := rfl
@[simp] theorem Dev.setTc_cores (d : Dev) (t : Nat) (v : TileCtx) : (d.setTc t v).cores = d.cores := rfl
@[simp] theorem Dev.setTc_mtx (d : Dev) (t : Nat) (v : TileCtx) : (d.setTc t v).mtx = d.mtx := rfl
@[simp] theorem Dev.setTc_host (d : Dev) (t : Nat) (v : TileCtx) : (d.setTc t v).host = d.host := rfl
@[simp] theorem Dev.setTc_boot (d : Dev) (t : Nat) (v : TileCtx) : (d.setTc t v).boot = d.boot := rfl
@[simp] theorem Dev.setTc_jtag (d : Dev) (t : Nat) (v : TileCtx) : (d.setTc t v).jtag = d.jtag := rfl
@[simp] theorem Dev.setTc_gpioPins (d : Dev) (t : Nat) (v : TileCtx) : (d.setTc t v).gpioPins = d.gpioPins := rfl

@[simp] theorem Dev.setUc_regs (d : Dev) (s : Nat) (v : AudCtx) : (d.setUc s v).regs = d.regs := rfl
@[simp] theorem Dev.setUc_free (d : Dev) (s : Nat) (v : AudCtx) : (d.setUc s v).free = d.free := rfl
@[simp] theorem Dev.setUc_xo (d : Dev) (s : Nat) (v : AudCtx) : (d.setUc s v).xo = d.xo := rfl
@[simp] theorem Dev.setUc_resp (d : Dev) (s : Nat) (v : AudCtx) : (d.setUc s v).resp = d.resp := rfl
@[simp] theorem Dev.setUc_fabMargin (d : Dev) (s : Nat) (v : AudCtx) : (d.setUc s v).fabMargin = d.fabMargin := rfl
@[simp] theorem Dev.setUc_marginRun (d : Dev) (s : Nat) (v : AudCtx) : (d.setUc s v).marginRun = d.marginRun := rfl
@[simp] theorem Dev.setUc_intc (d : Dev) (s : Nat) (v : AudCtx) : (d.setUc s v).intc = d.intc := rfl
@[simp] theorem Dev.setUc_pmc (d : Dev) (s : Nat) (v : AudCtx) : (d.setUc s v).pmc = d.pmc := rfl
@[simp] theorem Dev.setUc_lanes (d : Dev) (s : Nat) (v : AudCtx) : (d.setUc s v).lanes = d.lanes := rfl
@[simp] theorem Dev.setUc_plls (d : Dev) (s : Nat) (v : AudCtx) : (d.setUc s v).plls = d.plls := rfl
@[simp] theorem Dev.setUc_framers (d : Dev) (s : Nat) (v : AudCtx) : (d.setUc s v).framers = d.framers := rfl
@[simp] theorem Dev.setUc_tiles (d : Dev) (s : Nat) (v : AudCtx) : (d.setUc s v).tiles = d.tiles := rfl
@[simp] theorem Dev.setUc_pm (d : Dev) (s : Nat) (v : AudCtx) : (d.setUc s v).pm = d.pm := rfl
@[simp] theorem Dev.setUc_groups (d : Dev) (s : Nat) (v : AudCtx) : (d.setUc s v).groups = d.groups := rfl
@[simp] theorem Dev.setUc_pmNext (d : Dev) (s : Nat) (v : AudCtx) : (d.setUc s v).pmNext = d.pmNext := rfl
@[simp] theorem Dev.setUc_tctx (d : Dev) (s : Nat) (v : AudCtx) : (d.setUc s v).tctx = d.tctx := rfl
@[simp] theorem Dev.setUc_actx (d : Dev) (s : Nat) (v : AudCtx) : (d.setUc s v).actx = d.actx := rfl
@[simp] theorem Dev.setUc_takes (d : Dev) (s : Nat) (v : AudCtx) : (d.setUc s v).takes = d.takes := rfl
@[simp] theorem Dev.setUc_probes (d : Dev) (s : Nat) (v : AudCtx) : (d.setUc s v).probes = d.probes := rfl
@[simp] theorem Dev.setUc_doms (d : Dev) (s : Nat) (v : AudCtx) : (d.setUc s v).doms = d.doms := rfl
@[simp] theorem Dev.setUc_gates (d : Dev) (s : Nat) (v : AudCtx) : (d.setUc s v).gates = d.gates := rfl
@[simp] theorem Dev.setUc_deferring (d : Dev) (s : Nat) (v : AudCtx) : (d.setUc s v).deferring = d.deferring := rfl
@[simp] theorem Dev.setUc_chans (d : Dev) (s : Nat) (v : AudCtx) : (d.setUc s v).chans = d.chans := rfl
@[simp] theorem Dev.setUc_delays (d : Dev) (s : Nat) (v : AudCtx) : (d.setUc s v).delays = d.delays := rfl
@[simp] theorem Dev.setUc_mem (d : Dev) (s : Nat) (v : AudCtx) : (d.setUc s v).mem = d.mem := rfl
@[simp] theorem Dev.setUc_memGen (d : Dev) (s : Nat) (v : AudCtx) : (d.setUc s v).memGen = d.memGen := rfl
@[simp] theorem Dev.setUc_memGenB (d : Dev) (s : Nat) (v : AudCtx) : (d.setUc s v).memGenB = d.memGenB := rfl
@[simp] theorem Dev.setUc_queues (d : Dev) (s : Nat) (v : AudCtx) : (d.setUc s v).queues = d.queues := rfl
@[simp] theorem Dev.setUc_opens (d : Dev) (s : Nat) (v : AudCtx) : (d.setUc s v).opens = d.opens := rfl
@[simp] theorem Dev.setUc_parInj (d : Dev) (s : Nat) (v : AudCtx) : (d.setUc s v).parInj = d.parInj := rfl
@[simp] theorem Dev.setUc_stalls (d : Dev) (s : Nat) (v : AudCtx) : (d.setUc s v).stalls = d.stalls := rfl
@[simp] theorem Dev.setUc_sram (d : Dev) (s : Nat) (v : AudCtx) : (d.setUc s v).sram = d.sram := rfl
@[simp] theorem Dev.setUc_lengs (d : Dev) (s : Nat) (v : AudCtx) : (d.setUc s v).lengs = d.lengs := rfl
@[simp] theorem Dev.setUc_istore (d : Dev) (s : Nat) (v : AudCtx) : (d.setUc s v).istore = d.istore := rfl
@[simp] theorem Dev.setUc_dmem (d : Dev) (s : Nat) (v : AudCtx) : (d.setUc s v).dmem = d.dmem := rfl
@[simp] theorem Dev.setUc_lengGen (d : Dev) (s : Nat) (v : AudCtx) : (d.setUc s v).lengGen = d.lengGen := rfl
@[simp] theorem Dev.setUc_outs (d : Dev) (s : Nat) (v : AudCtx) : (d.setUc s v).outs = d.outs := rfl
@[simp] theorem Dev.setUc_period (d : Dev) (s : Nat) (v : AudCtx) : (d.setUc s v).period = d.period := rfl
@[simp] theorem Dev.setUc_streams (d : Dev) (s : Nat) (v : AudCtx) : (d.setUc s v).streams = d.streams := rfl
@[simp] theorem Dev.setUc_slots (d : Dev) (s : Nat) (v : AudCtx) : (d.setUc s v).slots = d.slots := rfl
@[simp] theorem Dev.setUc_gens (d : Dev) (s : Nat) (v : AudCtx) : (d.setUc s v).gens = d.gens := rfl
@[simp] theorem Dev.setUc_meters (d : Dev) (s : Nat) (v : AudCtx) : (d.setUc s v).meters = d.meters := rfl
@[simp] theorem Dev.setUc_deembs (d : Dev) (s : Nat) (v : AudCtx) : (d.setUc s v).deembs = d.deembs := rfl
@[simp] theorem Dev.setUc_refs (d : Dev) (s : Nat) (v : AudCtx) : (d.setUc s v).refs = d.refs := rfl
@[simp] theorem Dev.setUc_tmu (d : Dev) (s : Nat) (v : AudCtx) : (d.setUc s v).tmu = d.tmu := rfl
@[simp] theorem Dev.setUc_fps (d : Dev) (s : Nat) (v : AudCtx) : (d.setUc s v).fps = d.fps := rfl
@[simp] theorem Dev.setUc_tlrx (d : Dev) (s : Nat) (v : AudCtx) : (d.setUc s v).tlrx = d.tlrx := rfl
@[simp] theorem Dev.setUc_tltx (d : Dev) (s : Nat) (v : AudCtx) : (d.setUc s v).tltx = d.tltx := rfl
@[simp] theorem Dev.setUc_protAud (d : Dev) (s : Nat) (v : AudCtx) : (d.setUc s v).protAud = d.protAud := rfl
@[simp] theorem Dev.setUc_pwr (d : Dev) (s : Nat) (v : AudCtx) : (d.setUc s v).pwr = d.pwr := rfl
@[simp] theorem Dev.setUc_cores (d : Dev) (s : Nat) (v : AudCtx) : (d.setUc s v).cores = d.cores := rfl
@[simp] theorem Dev.setUc_mtx (d : Dev) (s : Nat) (v : AudCtx) : (d.setUc s v).mtx = d.mtx := rfl
@[simp] theorem Dev.setUc_host (d : Dev) (s : Nat) (v : AudCtx) : (d.setUc s v).host = d.host := rfl
@[simp] theorem Dev.setUc_boot (d : Dev) (s : Nat) (v : AudCtx) : (d.setUc s v).boot = d.boot := rfl
@[simp] theorem Dev.setUc_jtag (d : Dev) (s : Nat) (v : AudCtx) : (d.setUc s v).jtag = d.jtag := rfl
@[simp] theorem Dev.setUc_gpioPins (d : Dev) (s : Nat) (v : AudCtx) : (d.setUc s v).gpioPins = d.gpioPins := rfl

@[simp] theorem Dev.setAc_regs (d : Dev) (i : Nat) (v : AncCtx) : (d.setAc i v).regs = d.regs := rfl
@[simp] theorem Dev.setAc_free (d : Dev) (i : Nat) (v : AncCtx) : (d.setAc i v).free = d.free := rfl
@[simp] theorem Dev.setAc_xo (d : Dev) (i : Nat) (v : AncCtx) : (d.setAc i v).xo = d.xo := rfl
@[simp] theorem Dev.setAc_resp (d : Dev) (i : Nat) (v : AncCtx) : (d.setAc i v).resp = d.resp := rfl
@[simp] theorem Dev.setAc_fabMargin (d : Dev) (i : Nat) (v : AncCtx) : (d.setAc i v).fabMargin = d.fabMargin := rfl
@[simp] theorem Dev.setAc_marginRun (d : Dev) (i : Nat) (v : AncCtx) : (d.setAc i v).marginRun = d.marginRun := rfl
@[simp] theorem Dev.setAc_intc (d : Dev) (i : Nat) (v : AncCtx) : (d.setAc i v).intc = d.intc := rfl
@[simp] theorem Dev.setAc_pmc (d : Dev) (i : Nat) (v : AncCtx) : (d.setAc i v).pmc = d.pmc := rfl
@[simp] theorem Dev.setAc_lanes (d : Dev) (i : Nat) (v : AncCtx) : (d.setAc i v).lanes = d.lanes := rfl
@[simp] theorem Dev.setAc_plls (d : Dev) (i : Nat) (v : AncCtx) : (d.setAc i v).plls = d.plls := rfl
@[simp] theorem Dev.setAc_framers (d : Dev) (i : Nat) (v : AncCtx) : (d.setAc i v).framers = d.framers := rfl
@[simp] theorem Dev.setAc_tiles (d : Dev) (i : Nat) (v : AncCtx) : (d.setAc i v).tiles = d.tiles := rfl
@[simp] theorem Dev.setAc_pm (d : Dev) (i : Nat) (v : AncCtx) : (d.setAc i v).pm = d.pm := rfl
@[simp] theorem Dev.setAc_groups (d : Dev) (i : Nat) (v : AncCtx) : (d.setAc i v).groups = d.groups := rfl
@[simp] theorem Dev.setAc_pmNext (d : Dev) (i : Nat) (v : AncCtx) : (d.setAc i v).pmNext = d.pmNext := rfl
@[simp] theorem Dev.setAc_tctx (d : Dev) (i : Nat) (v : AncCtx) : (d.setAc i v).tctx = d.tctx := rfl
@[simp] theorem Dev.setAc_uctx (d : Dev) (i : Nat) (v : AncCtx) : (d.setAc i v).uctx = d.uctx := rfl
@[simp] theorem Dev.setAc_takes (d : Dev) (i : Nat) (v : AncCtx) : (d.setAc i v).takes = d.takes := rfl
@[simp] theorem Dev.setAc_probes (d : Dev) (i : Nat) (v : AncCtx) : (d.setAc i v).probes = d.probes := rfl
@[simp] theorem Dev.setAc_doms (d : Dev) (i : Nat) (v : AncCtx) : (d.setAc i v).doms = d.doms := rfl
@[simp] theorem Dev.setAc_gates (d : Dev) (i : Nat) (v : AncCtx) : (d.setAc i v).gates = d.gates := rfl
@[simp] theorem Dev.setAc_deferring (d : Dev) (i : Nat) (v : AncCtx) : (d.setAc i v).deferring = d.deferring := rfl
@[simp] theorem Dev.setAc_chans (d : Dev) (i : Nat) (v : AncCtx) : (d.setAc i v).chans = d.chans := rfl
@[simp] theorem Dev.setAc_delays (d : Dev) (i : Nat) (v : AncCtx) : (d.setAc i v).delays = d.delays := rfl
@[simp] theorem Dev.setAc_mem (d : Dev) (i : Nat) (v : AncCtx) : (d.setAc i v).mem = d.mem := rfl
@[simp] theorem Dev.setAc_memGen (d : Dev) (i : Nat) (v : AncCtx) : (d.setAc i v).memGen = d.memGen := rfl
@[simp] theorem Dev.setAc_memGenB (d : Dev) (i : Nat) (v : AncCtx) : (d.setAc i v).memGenB = d.memGenB := rfl
@[simp] theorem Dev.setAc_queues (d : Dev) (i : Nat) (v : AncCtx) : (d.setAc i v).queues = d.queues := rfl
@[simp] theorem Dev.setAc_opens (d : Dev) (i : Nat) (v : AncCtx) : (d.setAc i v).opens = d.opens := rfl
@[simp] theorem Dev.setAc_parInj (d : Dev) (i : Nat) (v : AncCtx) : (d.setAc i v).parInj = d.parInj := rfl
@[simp] theorem Dev.setAc_stalls (d : Dev) (i : Nat) (v : AncCtx) : (d.setAc i v).stalls = d.stalls := rfl
@[simp] theorem Dev.setAc_sram (d : Dev) (i : Nat) (v : AncCtx) : (d.setAc i v).sram = d.sram := rfl
@[simp] theorem Dev.setAc_lengs (d : Dev) (i : Nat) (v : AncCtx) : (d.setAc i v).lengs = d.lengs := rfl
@[simp] theorem Dev.setAc_istore (d : Dev) (i : Nat) (v : AncCtx) : (d.setAc i v).istore = d.istore := rfl
@[simp] theorem Dev.setAc_dmem (d : Dev) (i : Nat) (v : AncCtx) : (d.setAc i v).dmem = d.dmem := rfl
@[simp] theorem Dev.setAc_lengGen (d : Dev) (i : Nat) (v : AncCtx) : (d.setAc i v).lengGen = d.lengGen := rfl
@[simp] theorem Dev.setAc_outs (d : Dev) (i : Nat) (v : AncCtx) : (d.setAc i v).outs = d.outs := rfl
@[simp] theorem Dev.setAc_period (d : Dev) (i : Nat) (v : AncCtx) : (d.setAc i v).period = d.period := rfl
@[simp] theorem Dev.setAc_streams (d : Dev) (i : Nat) (v : AncCtx) : (d.setAc i v).streams = d.streams := rfl
@[simp] theorem Dev.setAc_slots (d : Dev) (i : Nat) (v : AncCtx) : (d.setAc i v).slots = d.slots := rfl
@[simp] theorem Dev.setAc_gens (d : Dev) (i : Nat) (v : AncCtx) : (d.setAc i v).gens = d.gens := rfl
@[simp] theorem Dev.setAc_meters (d : Dev) (i : Nat) (v : AncCtx) : (d.setAc i v).meters = d.meters := rfl
@[simp] theorem Dev.setAc_deembs (d : Dev) (i : Nat) (v : AncCtx) : (d.setAc i v).deembs = d.deembs := rfl
@[simp] theorem Dev.setAc_refs (d : Dev) (i : Nat) (v : AncCtx) : (d.setAc i v).refs = d.refs := rfl
@[simp] theorem Dev.setAc_tmu (d : Dev) (i : Nat) (v : AncCtx) : (d.setAc i v).tmu = d.tmu := rfl
@[simp] theorem Dev.setAc_fps (d : Dev) (i : Nat) (v : AncCtx) : (d.setAc i v).fps = d.fps := rfl
@[simp] theorem Dev.setAc_tlrx (d : Dev) (i : Nat) (v : AncCtx) : (d.setAc i v).tlrx = d.tlrx := rfl
@[simp] theorem Dev.setAc_tltx (d : Dev) (i : Nat) (v : AncCtx) : (d.setAc i v).tltx = d.tltx := rfl
@[simp] theorem Dev.setAc_protAud (d : Dev) (i : Nat) (v : AncCtx) : (d.setAc i v).protAud = d.protAud := rfl
@[simp] theorem Dev.setAc_pwr (d : Dev) (i : Nat) (v : AncCtx) : (d.setAc i v).pwr = d.pwr := rfl
@[simp] theorem Dev.setAc_cores (d : Dev) (i : Nat) (v : AncCtx) : (d.setAc i v).cores = d.cores := rfl
@[simp] theorem Dev.setAc_mtx (d : Dev) (i : Nat) (v : AncCtx) : (d.setAc i v).mtx = d.mtx := rfl
@[simp] theorem Dev.setAc_host (d : Dev) (i : Nat) (v : AncCtx) : (d.setAc i v).host = d.host := rfl
@[simp] theorem Dev.setAc_boot (d : Dev) (i : Nat) (v : AncCtx) : (d.setAc i v).boot = d.boot := rfl
@[simp] theorem Dev.setAc_jtag (d : Dev) (i : Nat) (v : AncCtx) : (d.setAc i v).jtag = d.jtag := rfl
@[simp] theorem Dev.setAc_gpioPins (d : Dev) (i : Nat) (v : AncCtx) : (d.setAc i v).gpioPins = d.gpioPins := rfl

@[simp] theorem State.live_stopped (s : State) (f : Dev → Dev) (h : s.dev.stopped = true) : s.live f = .next s := by simp [State.live, Dev.live, h]
@[simp] theorem State.live_runs (s : State) (f : Dev → Dev) (h : s.dev.stopped = false) : s.live f = .next ⟨f s.dev, s.pending⟩ := by simp [State.live, Dev.live, h]
@[simp] theorem State.always_runs (s : State) (f : Dev → Dev) : s.always f = .next ⟨f s.dev, s.pending⟩ := rfl

/-- Whatever it does, a meaning that needs running core domains answers a next state with the same queue. -/
theorem State.live_next (s : State) (f : Dev → Dev) : ∃ d : Dev, s.live f = .next ⟨d, s.pending⟩ := ⟨_, rfl⟩

/-- So does one that acts at any time. -/
theorem State.always_next (s : State) (f : Dev → Dev) : ∃ d : Dev, s.always f = .next ⟨d, s.pending⟩ := ⟨_, rfl⟩

end Sys2Proof.Machine
end

