-- ==== Sys2Proof/Laws/Wf.lean ====
section
/-! SUPPORT. The canonical form of the block's tables (Dev.Wf) through the elementary constructions: a record update that touches no
table, an update of one table, a choice, a fold. -/

set_option linter.unusedTactic false
set_option linter.unreachableTactic false

namespace Sys2Proof.Machine

/-- Filtering keeps the canonical form. -/
theorem Map.wf_filter {α : Type} [DecidableEq α] {dflt : Nat → α} {m : Map α} (p : Nat × α → Bool) (h : Map.wf dflt m = true) :
    Map.wf dflt (m.filter p) = true := by
  have key : ∀ (m : Map α) (a : Nat), Map.wfFrom dflt m a = true → Map.wfFrom dflt (m.filter p) a = true := by
    intro m
    induction m with
    | nil => intro a _; rfl
    | cons e m ih =>
      obtain ⟨j, v⟩ := e
      intro a hm
      simp [Map.wfFrom] at hm
      by_cases hp : p (j, v) = true
      · simp [List.filter, hp, Map.wfFrom, hm.1.1, hm.1.2, ih _ hm.2]
      · simp [List.filter, hp]
        exact Map.wfFrom_mono dflt (by omega) (ih _ hm.2)
  exact key m 0 h

/-- The canonical form of a state that is written out as its parts. -/
def Dev.Built (d : Dev) : Prop := d.Wf

theorem Dev.wf_built {regs : Map Word} {free : Nat} {xo : BitVec 48} {resp : Map Resp} {fabMargin : Bool} {marginRun : Nat} {intc : IntcS}
    {pmc : PmcS} {lanes : Map LaneI} {plls : Map PllI} {framers : Map FramerI} {tiles : Map TileI} {pm : Map PmI} {groups : Map GroupI}
    {pmNext : Option Nat} {tctx : Map TileCtx} {actx : Map AncCtx} {uctx : Map AudCtx} {takes : Map TakeGroup} {probes : Map ProbeI} {doms :
    Map DomI} {gates : GateI} {deferring : Bool} {chans : Map ChanI} {delays : Map DelayI} {mem : Map Byte} {memGen : Nat} {memGenB : Nat}
    {queues : Map QueueI} {opens : Map OpenPkt} {parInj : Bool} {stalls : Map Nat} {sram : Map Word} {lengs : Map LengI} {istore : Map Word}
    {dmem : Map Word} {lengGen : Nat} {outs : Map OutI} {period : Nat} {streams : Map StreamI} {slots : Map SlotI} {gens : Map GenI} {meters :
    Map MeterI} {deembs : Map DeembI} {refs : Map RefI} {tmu : TmuI} {fps : Map FpI} {tlrx : Map TlRxI} {tltx : Map TlTxI} {protAud : Map
    (List Word)} {pwr : PwrI} {cores : Map CoreI} {mtx : MtxI} {host : HostI} {boot : BootI} {jtag : JtagI} {gpioPins : BitVec 16} :
    Dev.Wf (Dev.mk regs free xo resp fabMargin marginRun intc pmc lanes plls framers tiles pm groups pmNext tctx actx uctx takes probes doms
    gates deferring chans delays mem memGen memGenB queues opens parInj stalls sram lengs istore dmem lengGen outs period streams slots gens
    meters deembs refs tmu fps tlrx tltx protAud pwr cores mtx host boot jtag gpioPins) ↔ Dev.Built (Dev.mk regs free xo resp fabMargin
    marginRun intc pmc lanes plls framers tiles pm groups pmNext tctx actx uctx takes probes doms gates deferring chans delays mem memGen
    memGenB queues opens parInj stalls sram lengs istore dmem lengGen outs period streams slots gens meters deembs refs tmu fps tlrx tltx
    protAud pwr cores mtx host boot jtag gpioPins) := Iff.rfl

/-- An update of no table. -/
theorem Dev.Built.other {e : Dev} (h : e.Wf) {free : Nat} {xo : BitVec 48} {fabMargin : Bool} {marginRun : Nat} {intc : IntcS} {pmc :
    PmcS} {pmNext : Option Nat} {gates : GateI} {deferring : Bool} {parInj : Bool} {period : Nat} {tmu : TmuI} {pwr : PwrI} {mtx : MtxI} {host
    : HostI} {boot : BootI} {jtag : JtagI} {gpioPins : BitVec 16} :
    Dev.Built (Dev.mk e.regs free xo e.resp fabMargin marginRun intc pmc e.lanes e.plls e.framers e.tiles e.pm e.groups pmNext e.tctx e.actx
    e.uctx e.takes e.probes e.doms gates deferring e.chans e.delays e.mem e.memGen e.memGenB e.queues e.opens parInj e.stalls e.sram e.lengs
    e.istore e.dmem e.lengGen e.outs period e.streams e.slots e.gens e.meters e.deembs e.refs tmu e.fps e.tlrx e.tltx e.protAud pwr
    e.cores mtx host boot jtag gpioPins) :=
  ⟨h.regs, h.resp, h.lanes, h.plls, h.framers, h.tiles, h.pm, h.groups, h.tctx, h.actx, h.uctx, h.takes, h.probes, h.doms, h.chans,
    h.delays, h.mem, h.queues, h.opens, h.stalls, h.sram, h.lengs, h.istore, h.dmem, h.outs, h.streams, h.slots, h.gens, h.meters, h.deembs,
    h.refs, h.fps, h.tlrx, h.tltx, h.protAud, h.cores⟩

/-- An update of `regs` and of no other table. -/
theorem Dev.Built.up_regs {e : Dev} (h : e.Wf) {m : Map Word} (hm : Map.wf resetWord m = true) {free : Nat} {xo : BitVec 48} {fabMargin :
    Bool} {marginRun : Nat} {intc : IntcS} {pmc : PmcS} {pmNext : Option Nat} {gates : GateI} {deferring : Bool} {parInj : Bool} {period :
    Nat} {tmu : TmuI} {pwr : PwrI} {mtx : MtxI} {host : HostI} {boot : BootI} {jtag : JtagI} {gpioPins : BitVec 16} :
    Dev.Built (Dev.mk m free xo e.resp fabMargin marginRun intc pmc e.lanes e.plls e.framers e.tiles e.pm e.groups pmNext e.tctx e.actx e.uctx
    e.takes e.probes e.doms gates deferring e.chans e.delays e.mem e.memGen e.memGenB e.queues e.opens parInj e.stalls e.sram e.lengs e.istore
    e.dmem e.lengGen e.outs period e.streams e.slots e.gens e.meters e.deembs e.refs tmu e.fps e.tlrx e.tltx e.protAud pwr e.cores mtx
    host boot jtag gpioPins) :=
  ⟨hm, h.resp, h.lanes, h.plls, h.framers, h.tiles, h.pm, h.groups, h.tctx, h.actx, h.uctx, h.takes, h.probes, h.doms, h.chans, h.delays,
    h.mem, h.queues, h.opens, h.stalls, h.sram, h.lengs, h.istore, h.dmem, h.outs, h.streams, h.slots, h.gens, h.meters, h.deembs, h.refs,
    h.fps, h.tlrx, h.tltx, h.protAud, h.cores⟩

/-- An update of `resp` and of no other table. -/
theorem Dev.Built.up_resp {e : Dev} (h : e.Wf) {m : Map Resp} (hm : Map.wf (fun _ => {}) m = true) {free : Nat} {xo : BitVec 48}
    {fabMargin : Bool} {marginRun : Nat} {intc : IntcS} {pmc : PmcS} {pmNext : Option Nat} {gates : GateI} {deferring : Bool} {parInj : Bool}
    {period : Nat} {tmu : TmuI} {pwr : PwrI} {mtx : MtxI} {host : HostI} {boot : BootI} {jtag : JtagI} {gpioPins : BitVec 16} :
    Dev.Built (Dev.mk e.regs free xo m fabMargin marginRun intc pmc e.lanes e.plls e.framers e.tiles e.pm e.groups pmNext e.tctx e.actx e.uctx
    e.takes e.probes e.doms gates deferring e.chans e.delays e.mem e.memGen e.memGenB e.queues e.opens parInj e.stalls e.sram e.lengs e.istore
    e.dmem e.lengGen e.outs period e.streams e.slots e.gens e.meters e.deembs e.refs tmu e.fps e.tlrx e.tltx e.protAud pwr e.cores mtx
    host boot jtag gpioPins) :=
  ⟨h.regs, hm, h.lanes, h.plls, h.framers, h.tiles, h.pm, h.groups, h.tctx, h.actx, h.uctx, h.takes, h.probes, h.doms, h.chans, h.delays,
    h.mem, h.queues, h.opens, h.stalls, h.sram, h.lengs, h.istore, h.dmem, h.outs, h.streams, h.slots, h.gens, h.meters, h.deembs, h.refs,
    h.fps, h.tlrx, h.tltx, h.protAud, h.cores⟩

/-- An update of `lanes` and of no other table. -/
theorem Dev.Built.up_lanes {e : Dev} (h : e.Wf) {m : Map LaneI} (hm : Map.wf (fun _ => {}) m = true) {free : Nat} {xo : BitVec 48}
    {fabMargin : Bool} {marginRun : Nat} {intc : IntcS} {pmc : PmcS} {pmNext : Option Nat} {gates : GateI} {deferring : Bool} {parInj : Bool}
    {period : Nat} {tmu : TmuI} {pwr : PwrI} {mtx : MtxI} {host : HostI} {boot : BootI} {jtag : JtagI} {gpioPins : BitVec 16} :
    Dev.Built (Dev.mk e.regs free xo e.resp fabMargin marginRun intc pmc m e.plls e.framers e.tiles e.pm e.groups pmNext e.tctx e.actx e.uctx
    e.takes e.probes e.doms gates deferring e.chans e.delays e.mem e.memGen e.memGenB e.queues e.opens parInj e.stalls e.sram e.lengs e.istore
    e.dmem e.lengGen e.outs period e.streams e.slots e.gens e.meters e.deembs e.refs tmu e.fps e.tlrx e.tltx e.protAud pwr e.cores mtx
    host boot jtag gpioPins) :=
  ⟨h.regs, h.resp, hm, h.plls, h.framers, h.tiles, h.pm, h.groups, h.tctx, h.actx, h.uctx, h.takes, h.probes, h.doms, h.chans, h.delays,
    h.mem, h.queues, h.opens, h.stalls, h.sram, h.lengs, h.istore, h.dmem, h.outs, h.streams, h.slots, h.gens, h.meters, h.deembs, h.refs,
    h.fps, h.tlrx, h.tltx, h.protAud, h.cores⟩

/-- An update of `plls` and of no other table. -/
theorem Dev.Built.up_plls {e : Dev} (h : e.Wf) {m : Map PllI} (hm : Map.wf (fun _ => {}) m = true) {free : Nat} {xo : BitVec 48}
    {fabMargin : Bool} {marginRun : Nat} {intc : IntcS} {pmc : PmcS} {pmNext : Option Nat} {gates : GateI} {deferring : Bool} {parInj : Bool}
    {period : Nat} {tmu : TmuI} {pwr : PwrI} {mtx : MtxI} {host : HostI} {boot : BootI} {jtag : JtagI} {gpioPins : BitVec 16} :
    Dev.Built (Dev.mk e.regs free xo e.resp fabMargin marginRun intc pmc e.lanes m e.framers e.tiles e.pm e.groups pmNext e.tctx e.actx e.uctx
    e.takes e.probes e.doms gates deferring e.chans e.delays e.mem e.memGen e.memGenB e.queues e.opens parInj e.stalls e.sram e.lengs e.istore
    e.dmem e.lengGen e.outs period e.streams e.slots e.gens e.meters e.deembs e.refs tmu e.fps e.tlrx e.tltx e.protAud pwr e.cores mtx
    host boot jtag gpioPins) :=
  ⟨h.regs, h.resp, h.lanes, hm, h.framers, h.tiles, h.pm, h.groups, h.tctx, h.actx, h.uctx, h.takes, h.probes, h.doms, h.chans, h.delays,
    h.mem, h.queues, h.opens, h.stalls, h.sram, h.lengs, h.istore, h.dmem, h.outs, h.streams, h.slots, h.gens, h.meters, h.deembs, h.refs,
    h.fps, h.tlrx, h.tltx, h.protAud, h.cores⟩

/-- An update of `framers` and of no other table. -/
theorem Dev.Built.up_framers {e : Dev} (h : e.Wf) {m : Map FramerI} (hm : Map.wf (fun _ => {}) m = true) {free : Nat} {xo : BitVec 48}
    {fabMargin : Bool} {marginRun : Nat} {intc : IntcS} {pmc : PmcS} {pmNext : Option Nat} {gates : GateI} {deferring : Bool} {parInj : Bool}
    {period : Nat} {tmu : TmuI} {pwr : PwrI} {mtx : MtxI} {host : HostI} {boot : BootI} {jtag : JtagI} {gpioPins : BitVec 16} :
    Dev.Built (Dev.mk e.regs free xo e.resp fabMargin marginRun intc pmc e.lanes e.plls m e.tiles e.pm e.groups pmNext e.tctx e.actx e.uctx
    e.takes e.probes e.doms gates deferring e.chans e.delays e.mem e.memGen e.memGenB e.queues e.opens parInj e.stalls e.sram e.lengs e.istore
    e.dmem e.lengGen e.outs period e.streams e.slots e.gens e.meters e.deembs e.refs tmu e.fps e.tlrx e.tltx e.protAud pwr e.cores mtx
    host boot jtag gpioPins) :=
  ⟨h.regs, h.resp, h.lanes, h.plls, hm, h.tiles, h.pm, h.groups, h.tctx, h.actx, h.uctx, h.takes, h.probes, h.doms, h.chans, h.delays,
    h.mem, h.queues, h.opens, h.stalls, h.sram, h.lengs, h.istore, h.dmem, h.outs, h.streams, h.slots, h.gens, h.meters, h.deembs, h.refs,
    h.fps, h.tlrx, h.tltx, h.protAud, h.cores⟩

/-- An update of `tiles` and of no other table. -/
theorem Dev.Built.up_tiles {e : Dev} (h : e.Wf) {m : Map TileI} (hm : Map.wf (fun _ => {}) m = true) {free : Nat} {xo : BitVec 48}
    {fabMargin : Bool} {marginRun : Nat} {intc : IntcS} {pmc : PmcS} {pmNext : Option Nat} {gates : GateI} {deferring : Bool} {parInj : Bool}
    {period : Nat} {tmu : TmuI} {pwr : PwrI} {mtx : MtxI} {host : HostI} {boot : BootI} {jtag : JtagI} {gpioPins : BitVec 16} :
    Dev.Built (Dev.mk e.regs free xo e.resp fabMargin marginRun intc pmc e.lanes e.plls e.framers m e.pm e.groups pmNext e.tctx e.actx e.uctx
    e.takes e.probes e.doms gates deferring e.chans e.delays e.mem e.memGen e.memGenB e.queues e.opens parInj e.stalls e.sram e.lengs e.istore
    e.dmem e.lengGen e.outs period e.streams e.slots e.gens e.meters e.deembs e.refs tmu e.fps e.tlrx e.tltx e.protAud pwr e.cores mtx
    host boot jtag gpioPins) :=
  ⟨h.regs, h.resp, h.lanes, h.plls, h.framers, hm, h.pm, h.groups, h.tctx, h.actx, h.uctx, h.takes, h.probes, h.doms, h.chans, h.delays,
    h.mem, h.queues, h.opens, h.stalls, h.sram, h.lengs, h.istore, h.dmem, h.outs, h.streams, h.slots, h.gens, h.meters, h.deembs, h.refs,
    h.fps, h.tlrx, h.tltx, h.protAud, h.cores⟩

/-- An update of `pm` and of no other table. -/
theorem Dev.Built.up_pm {e : Dev} (h : e.Wf) {m : Map PmI} (hm : Map.wf (fun _ => {}) m = true) {free : Nat} {xo : BitVec 48} {fabMargin :
    Bool} {marginRun : Nat} {intc : IntcS} {pmc : PmcS} {pmNext : Option Nat} {gates : GateI} {deferring : Bool} {parInj : Bool} {period :
    Nat} {tmu : TmuI} {pwr : PwrI} {mtx : MtxI} {host : HostI} {boot : BootI} {jtag : JtagI} {gpioPins : BitVec 16} :
    Dev.Built (Dev.mk e.regs free xo e.resp fabMargin marginRun intc pmc e.lanes e.plls e.framers e.tiles m e.groups pmNext e.tctx e.actx
    e.uctx e.takes e.probes e.doms gates deferring e.chans e.delays e.mem e.memGen e.memGenB e.queues e.opens parInj e.stalls e.sram e.lengs
    e.istore e.dmem e.lengGen e.outs period e.streams e.slots e.gens e.meters e.deembs e.refs tmu e.fps e.tlrx e.tltx e.protAud pwr
    e.cores mtx host boot jtag gpioPins) :=
  ⟨h.regs, h.resp, h.lanes, h.plls, h.framers, h.tiles, hm, h.groups, h.tctx, h.actx, h.uctx, h.takes, h.probes, h.doms, h.chans, h.delays,
    h.mem, h.queues, h.opens, h.stalls, h.sram, h.lengs, h.istore, h.dmem, h.outs, h.streams, h.slots, h.gens, h.meters, h.deembs, h.refs,
    h.fps, h.tlrx, h.tltx, h.protAud, h.cores⟩

/-- An update of `groups` and of no other table. -/
theorem Dev.Built.up_groups {e : Dev} (h : e.Wf) {m : Map GroupI} (hm : Map.wf (fun _ => {}) m = true) {free : Nat} {xo : BitVec 48}
    {fabMargin : Bool} {marginRun : Nat} {intc : IntcS} {pmc : PmcS} {pmNext : Option Nat} {gates : GateI} {deferring : Bool} {parInj : Bool}
    {period : Nat} {tmu : TmuI} {pwr : PwrI} {mtx : MtxI} {host : HostI} {boot : BootI} {jtag : JtagI} {gpioPins : BitVec 16} :
    Dev.Built (Dev.mk e.regs free xo e.resp fabMargin marginRun intc pmc e.lanes e.plls e.framers e.tiles e.pm m pmNext e.tctx e.actx e.uctx
    e.takes e.probes e.doms gates deferring e.chans e.delays e.mem e.memGen e.memGenB e.queues e.opens parInj e.stalls e.sram e.lengs e.istore
    e.dmem e.lengGen e.outs period e.streams e.slots e.gens e.meters e.deembs e.refs tmu e.fps e.tlrx e.tltx e.protAud pwr e.cores mtx
    host boot jtag gpioPins) :=
  ⟨h.regs, h.resp, h.lanes, h.plls, h.framers, h.tiles, h.pm, hm, h.tctx, h.actx, h.uctx, h.takes, h.probes, h.doms, h.chans, h.delays,
    h.mem, h.queues, h.opens, h.stalls, h.sram, h.lengs, h.istore, h.dmem, h.outs, h.streams, h.slots, h.gens, h.meters, h.deembs, h.refs,
    h.fps, h.tlrx, h.tltx, h.protAud, h.cores⟩

/-- An update of `tctx` and of no other table. -/
theorem Dev.Built.up_tctx {e : Dev} (h : e.Wf) {m : Map TileCtx} (hm : Map.wf (fun _ => {}) m = true) {free : Nat} {xo : BitVec 48}
    {fabMargin : Bool} {marginRun : Nat} {intc : IntcS} {pmc : PmcS} {pmNext : Option Nat} {gates : GateI} {deferring : Bool} {parInj : Bool}
    {period : Nat} {tmu : TmuI} {pwr : PwrI} {mtx : MtxI} {host : HostI} {boot : BootI} {jtag : JtagI} {gpioPins : BitVec 16} :
    Dev.Built (Dev.mk e.regs free xo e.resp fabMargin marginRun intc pmc e.lanes e.plls e.framers e.tiles e.pm e.groups pmNext m e.actx e.uctx
    e.takes e.probes e.doms gates deferring e.chans e.delays e.mem e.memGen e.memGenB e.queues e.opens parInj e.stalls e.sram e.lengs e.istore
    e.dmem e.lengGen e.outs period e.streams e.slots e.gens e.meters e.deembs e.refs tmu e.fps e.tlrx e.tltx e.protAud pwr e.cores mtx
    host boot jtag gpioPins) :=
  ⟨h.regs, h.resp, h.lanes, h.plls, h.framers, h.tiles, h.pm, h.groups, hm, h.actx, h.uctx, h.takes, h.probes, h.doms, h.chans, h.delays,
    h.mem, h.queues, h.opens, h.stalls, h.sram, h.lengs, h.istore, h.dmem, h.outs, h.streams, h.slots, h.gens, h.meters, h.deembs, h.refs,
    h.fps, h.tlrx, h.tltx, h.protAud, h.cores⟩

/-- An update of `actx` and of no other table. -/
theorem Dev.Built.up_actx {e : Dev} (h : e.Wf) {m : Map AncCtx} (hm : Map.wf (fun _ => {}) m = true) {free : Nat} {xo : BitVec 48}
    {fabMargin : Bool} {marginRun : Nat} {intc : IntcS} {pmc : PmcS} {pmNext : Option Nat} {gates : GateI} {deferring : Bool} {parInj : Bool}
    {period : Nat} {tmu : TmuI} {pwr : PwrI} {mtx : MtxI} {host : HostI} {boot : BootI} {jtag : JtagI} {gpioPins : BitVec 16} :
    Dev.Built (Dev.mk e.regs free xo e.resp fabMargin marginRun intc pmc e.lanes e.plls e.framers e.tiles e.pm e.groups pmNext e.tctx m e.uctx
    e.takes e.probes e.doms gates deferring e.chans e.delays e.mem e.memGen e.memGenB e.queues e.opens parInj e.stalls e.sram e.lengs e.istore
    e.dmem e.lengGen e.outs period e.streams e.slots e.gens e.meters e.deembs e.refs tmu e.fps e.tlrx e.tltx e.protAud pwr e.cores mtx
    host boot jtag gpioPins) :=
  ⟨h.regs, h.resp, h.lanes, h.plls, h.framers, h.tiles, h.pm, h.groups, h.tctx, hm, h.uctx, h.takes, h.probes, h.doms, h.chans, h.delays,
    h.mem, h.queues, h.opens, h.stalls, h.sram, h.lengs, h.istore, h.dmem, h.outs, h.streams, h.slots, h.gens, h.meters, h.deembs, h.refs,
    h.fps, h.tlrx, h.tltx, h.protAud, h.cores⟩

/-- An update of `uctx` and of no other table. -/
theorem Dev.Built.up_uctx {e : Dev} (h : e.Wf) {m : Map AudCtx} (hm : Map.wf (fun _ => {}) m = true) {free : Nat} {xo : BitVec 48}
    {fabMargin : Bool} {marginRun : Nat} {intc : IntcS} {pmc : PmcS} {pmNext : Option Nat} {gates : GateI} {deferring : Bool} {parInj : Bool}
    {period : Nat} {tmu : TmuI} {pwr : PwrI} {mtx : MtxI} {host : HostI} {boot : BootI} {jtag : JtagI} {gpioPins : BitVec 16} :
    Dev.Built (Dev.mk e.regs free xo e.resp fabMargin marginRun intc pmc e.lanes e.plls e.framers e.tiles e.pm e.groups pmNext e.tctx e.actx m
    e.takes e.probes e.doms gates deferring e.chans e.delays e.mem e.memGen e.memGenB e.queues e.opens parInj e.stalls e.sram e.lengs e.istore
    e.dmem e.lengGen e.outs period e.streams e.slots e.gens e.meters e.deembs e.refs tmu e.fps e.tlrx e.tltx e.protAud pwr e.cores mtx
    host boot jtag gpioPins) :=
  ⟨h.regs, h.resp, h.lanes, h.plls, h.framers, h.tiles, h.pm, h.groups, h.tctx, h.actx, hm, h.takes, h.probes, h.doms, h.chans, h.delays,
    h.mem, h.queues, h.opens, h.stalls, h.sram, h.lengs, h.istore, h.dmem, h.outs, h.streams, h.slots, h.gens, h.meters, h.deembs, h.refs,
    h.fps, h.tlrx, h.tltx, h.protAud, h.cores⟩

/-- An update of `takes` and of no other table. -/
theorem Dev.Built.up_takes {e : Dev} (h : e.Wf) {m : Map TakeGroup} (hm : Map.wf (fun _ => {}) m = true) {free : Nat} {xo : BitVec 48}
    {fabMargin : Bool} {marginRun : Nat} {intc : IntcS} {pmc : PmcS} {pmNext : Option Nat} {gates : GateI} {deferring : Bool} {parInj : Bool}
    {period : Nat} {tmu : TmuI} {pwr : PwrI} {mtx : MtxI} {host : HostI} {boot : BootI} {jtag : JtagI} {gpioPins : BitVec 16} :
    Dev.Built (Dev.mk e.regs free xo e.resp fabMargin marginRun intc pmc e.lanes e.plls e.framers e.tiles e.pm e.groups pmNext e.tctx e.actx
    e.uctx m e.probes e.doms gates deferring e.chans e.delays e.mem e.memGen e.memGenB e.queues e.opens parInj e.stalls e.sram e.lengs
    e.istore e.dmem e.lengGen e.outs period e.streams e.slots e.gens e.meters e.deembs e.refs tmu e.fps e.tlrx e.tltx e.protAud pwr
    e.cores mtx host boot jtag gpioPins) :=
  ⟨h.regs, h.resp, h.lanes, h.plls, h.framers, h.tiles, h.pm, h.groups, h.tctx, h.actx, h.uctx, hm, h.probes, h.doms, h.chans, h.delays,
    h.mem, h.queues, h.opens, h.stalls, h.sram, h.lengs, h.istore, h.dmem, h.outs, h.streams, h.slots, h.gens, h.meters, h.deembs, h.refs,
    h.fps, h.tlrx, h.tltx, h.protAud, h.cores⟩

/-- An update of `probes` and of no other table. -/
theorem Dev.Built.up_probes {e : Dev} (h : e.Wf) {m : Map ProbeI} (hm : Map.wf (fun _ => {}) m = true) {free : Nat} {xo : BitVec 48}
    {fabMargin : Bool} {marginRun : Nat} {intc : IntcS} {pmc : PmcS} {pmNext : Option Nat} {gates : GateI} {deferring : Bool} {parInj : Bool}
    {period : Nat} {tmu : TmuI} {pwr : PwrI} {mtx : MtxI} {host : HostI} {boot : BootI} {jtag : JtagI} {gpioPins : BitVec 16} :
    Dev.Built (Dev.mk e.regs free xo e.resp fabMargin marginRun intc pmc e.lanes e.plls e.framers e.tiles e.pm e.groups pmNext e.tctx e.actx
    e.uctx e.takes m e.doms gates deferring e.chans e.delays e.mem e.memGen e.memGenB e.queues e.opens parInj e.stalls e.sram e.lengs e.istore
    e.dmem e.lengGen e.outs period e.streams e.slots e.gens e.meters e.deembs e.refs tmu e.fps e.tlrx e.tltx e.protAud pwr e.cores mtx
    host boot jtag gpioPins) :=
  ⟨h.regs, h.resp, h.lanes, h.plls, h.framers, h.tiles, h.pm, h.groups, h.tctx, h.actx, h.uctx, h.takes, hm, h.doms, h.chans, h.delays,
    h.mem, h.queues, h.opens, h.stalls, h.sram, h.lengs, h.istore, h.dmem, h.outs, h.streams, h.slots, h.gens, h.meters, h.deembs, h.refs,
    h.fps, h.tlrx, h.tltx, h.protAud, h.cores⟩

/-- An update of `doms` and of no other table. -/
theorem Dev.Built.up_doms {e : Dev} (h : e.Wf) {m : Map DomI} (hm : Map.wf (fun _ => {}) m = true) {free : Nat} {xo : BitVec 48}
    {fabMargin : Bool} {marginRun : Nat} {intc : IntcS} {pmc : PmcS} {pmNext : Option Nat} {gates : GateI} {deferring : Bool} {parInj : Bool}
    {period : Nat} {tmu : TmuI} {pwr : PwrI} {mtx : MtxI} {host : HostI} {boot : BootI} {jtag : JtagI} {gpioPins : BitVec 16} :
    Dev.Built (Dev.mk e.regs free xo e.resp fabMargin marginRun intc pmc e.lanes e.plls e.framers e.tiles e.pm e.groups pmNext e.tctx e.actx
    e.uctx e.takes e.probes m gates deferring e.chans e.delays e.mem e.memGen e.memGenB e.queues e.opens parInj e.stalls e.sram e.lengs
    e.istore e.dmem e.lengGen e.outs period e.streams e.slots e.gens e.meters e.deembs e.refs tmu e.fps e.tlrx e.tltx e.protAud pwr
    e.cores mtx host boot jtag gpioPins) :=
  ⟨h.regs, h.resp, h.lanes, h.plls, h.framers, h.tiles, h.pm, h.groups, h.tctx, h.actx, h.uctx, h.takes, h.probes, hm, h.chans, h.delays,
    h.mem, h.queues, h.opens, h.stalls, h.sram, h.lengs, h.istore, h.dmem, h.outs, h.streams, h.slots, h.gens, h.meters, h.deembs, h.refs,
    h.fps, h.tlrx, h.tltx, h.protAud, h.cores⟩

/-- An update of `chans` and of no other table. -/
theorem Dev.Built.up_chans {e : Dev} (h : e.Wf) {m : Map ChanI} (hm : Map.wf (fun _ => {}) m = true) {free : Nat} {xo : BitVec 48}
    {fabMargin : Bool} {marginRun : Nat} {intc : IntcS} {pmc : PmcS} {pmNext : Option Nat} {gates : GateI} {deferring : Bool} {parInj : Bool}
    {period : Nat} {tmu : TmuI} {pwr : PwrI} {mtx : MtxI} {host : HostI} {boot : BootI} {jtag : JtagI} {gpioPins : BitVec 16} :
    Dev.Built (Dev.mk e.regs free xo e.resp fabMargin marginRun intc pmc e.lanes e.plls e.framers e.tiles e.pm e.groups pmNext e.tctx e.actx
    e.uctx e.takes e.probes e.doms gates deferring m e.delays e.mem e.memGen e.memGenB e.queues e.opens parInj e.stalls e.sram e.lengs
    e.istore e.dmem e.lengGen e.outs period e.streams e.slots e.gens e.meters e.deembs e.refs tmu e.fps e.tlrx e.tltx e.protAud pwr
    e.cores mtx host boot jtag gpioPins) :=
  ⟨h.regs, h.resp, h.lanes, h.plls, h.framers, h.tiles, h.pm, h.groups, h.tctx, h.actx, h.uctx, h.takes, h.probes, h.doms, hm, h.delays,
    h.mem, h.queues, h.opens, h.stalls, h.sram, h.lengs, h.istore, h.dmem, h.outs, h.streams, h.slots, h.gens, h.meters, h.deembs, h.refs,
    h.fps, h.tlrx, h.tltx, h.protAud, h.cores⟩

/-- An update of `delays` and of no other table. -/
theorem Dev.Built.up_delays {e : Dev} (h : e.Wf) {m : Map DelayI} (hm : Map.wf (fun _ => {}) m = true) {free : Nat} {xo : BitVec 48}
    {fabMargin : Bool} {marginRun : Nat} {intc : IntcS} {pmc : PmcS} {pmNext : Option Nat} {gates : GateI} {deferring : Bool} {parInj : Bool}
    {period : Nat} {tmu : TmuI} {pwr : PwrI} {mtx : MtxI} {host : HostI} {boot : BootI} {jtag : JtagI} {gpioPins : BitVec 16} :
    Dev.Built (Dev.mk e.regs free xo e.resp fabMargin marginRun intc pmc e.lanes e.plls e.framers e.tiles e.pm e.groups pmNext e.tctx e.actx
    e.uctx e.takes e.probes e.doms gates deferring e.chans m e.mem e.memGen e.memGenB e.queues e.opens parInj e.stalls e.sram e.lengs e.istore
    e.dmem e.lengGen e.outs period e.streams e.slots e.gens e.meters e.deembs e.refs tmu e.fps e.tlrx e.tltx e.protAud pwr e.cores mtx
    host boot jtag gpioPins) :=
  ⟨h.regs, h.resp, h.lanes, h.plls, h.framers, h.tiles, h.pm, h.groups, h.tctx, h.actx, h.uctx, h.takes, h.probes, h.doms, h.chans, hm,
    h.mem, h.queues, h.opens, h.stalls, h.sram, h.lengs, h.istore, h.dmem, h.outs, h.streams, h.slots, h.gens, h.meters, h.deembs, h.refs,
    h.fps, h.tlrx, h.tltx, h.protAud, h.cores⟩

/-- An update of `mem` and of no other table. -/
theorem Dev.Built.up_mem {e : Dev} (h : e.Wf) {m : Map Byte} (hm : Map.wf e.memFree m = true) {free : Nat} {xo : BitVec 48} {fabMargin :
    Bool} {marginRun : Nat} {intc : IntcS} {pmc : PmcS} {pmNext : Option Nat} {gates : GateI} {deferring : Bool} {parInj : Bool} {period :
    Nat} {tmu : TmuI} {pwr : PwrI} {mtx : MtxI} {host : HostI} {boot : BootI} {jtag : JtagI} {gpioPins : BitVec 16} :
    Dev.Built (Dev.mk e.regs free xo e.resp fabMargin marginRun intc pmc e.lanes e.plls e.framers e.tiles e.pm e.groups pmNext e.tctx e.actx
    e.uctx e.takes e.probes e.doms gates deferring e.chans e.delays m e.memGen e.memGenB e.queues e.opens parInj e.stalls e.sram e.lengs
    e.istore e.dmem e.lengGen e.outs period e.streams e.slots e.gens e.meters e.deembs e.refs tmu e.fps e.tlrx e.tltx e.protAud pwr
    e.cores mtx host boot jtag gpioPins) :=
  ⟨h.regs, h.resp, h.lanes, h.plls, h.framers, h.tiles, h.pm, h.groups, h.tctx, h.actx, h.uctx, h.takes, h.probes, h.doms, h.chans,
    h.delays, hm, h.queues, h.opens, h.stalls, h.sram, h.lengs, h.istore, h.dmem, h.outs, h.streams, h.slots, h.gens, h.meters, h.deembs,
    h.refs, h.fps, h.tlrx, h.tltx, h.protAud, h.cores⟩

/-- An update of `queues` and of no other table. -/
theorem Dev.Built.up_queues {e : Dev} (h : e.Wf) {m : Map QueueI} (hm : Map.wf (fun _ => {}) m = true) {free : Nat} {xo : BitVec 48}
    {fabMargin : Bool} {marginRun : Nat} {intc : IntcS} {pmc : PmcS} {pmNext : Option Nat} {gates : GateI} {deferring : Bool} {parInj : Bool}
    {period : Nat} {tmu : TmuI} {pwr : PwrI} {mtx : MtxI} {host : HostI} {boot : BootI} {jtag : JtagI} {gpioPins : BitVec 16} :
    Dev.Built (Dev.mk e.regs free xo e.resp fabMargin marginRun intc pmc e.lanes e.plls e.framers e.tiles e.pm e.groups pmNext e.tctx e.actx
    e.uctx e.takes e.probes e.doms gates deferring e.chans e.delays e.mem e.memGen e.memGenB m e.opens parInj e.stalls e.sram e.lengs e.istore
    e.dmem e.lengGen e.outs period e.streams e.slots e.gens e.meters e.deembs e.refs tmu e.fps e.tlrx e.tltx e.protAud pwr e.cores mtx
    host boot jtag gpioPins) :=
  ⟨h.regs, h.resp, h.lanes, h.plls, h.framers, h.tiles, h.pm, h.groups, h.tctx, h.actx, h.uctx, h.takes, h.probes, h.doms, h.chans,
    h.delays, h.mem, hm, h.opens, h.stalls, h.sram, h.lengs, h.istore, h.dmem, h.outs, h.streams, h.slots, h.gens, h.meters, h.deembs, h.refs,
    h.fps, h.tlrx, h.tltx, h.protAud, h.cores⟩

/-- An update of `opens` and of no other table. -/
theorem Dev.Built.up_opens {e : Dev} (h : e.Wf) {m : Map OpenPkt} (hm : Map.wf (fun _ => noOpen) m = true) {free : Nat} {xo : BitVec 48}
    {fabMargin : Bool} {marginRun : Nat} {intc : IntcS} {pmc : PmcS} {pmNext : Option Nat} {gates : GateI} {deferring : Bool} {parInj : Bool}
    {period : Nat} {tmu : TmuI} {pwr : PwrI} {mtx : MtxI} {host : HostI} {boot : BootI} {jtag : JtagI} {gpioPins : BitVec 16} :
    Dev.Built (Dev.mk e.regs free xo e.resp fabMargin marginRun intc pmc e.lanes e.plls e.framers e.tiles e.pm e.groups pmNext e.tctx e.actx
    e.uctx e.takes e.probes e.doms gates deferring e.chans e.delays e.mem e.memGen e.memGenB e.queues m parInj e.stalls e.sram e.lengs
    e.istore e.dmem e.lengGen e.outs period e.streams e.slots e.gens e.meters e.deembs e.refs tmu e.fps e.tlrx e.tltx e.protAud pwr
    e.cores mtx host boot jtag gpioPins) :=
  ⟨h.regs, h.resp, h.lanes, h.plls, h.framers, h.tiles, h.pm, h.groups, h.tctx, h.actx, h.uctx, h.takes, h.probes, h.doms, h.chans,
    h.delays, h.mem, h.queues, hm, h.stalls, h.sram, h.lengs, h.istore, h.dmem, h.outs, h.streams, h.slots, h.gens, h.meters, h.deembs,
    h.refs, h.fps, h.tlrx, h.tltx, h.protAud, h.cores⟩

/-- An update of `stalls` and of no other table. -/
theorem Dev.Built.up_stalls {e : Dev} (h : e.Wf) {m : Map Nat} (hm : Map.wf (fun _ => 0) m = true) {free : Nat} {xo : BitVec 48}
    {fabMargin : Bool} {marginRun : Nat} {intc : IntcS} {pmc : PmcS} {pmNext : Option Nat} {gates : GateI} {deferring : Bool} {parInj : Bool}
    {period : Nat} {tmu : TmuI} {pwr : PwrI} {mtx : MtxI} {host : HostI} {boot : BootI} {jtag : JtagI} {gpioPins : BitVec 16} :
    Dev.Built (Dev.mk e.regs free xo e.resp fabMargin marginRun intc pmc e.lanes e.plls e.framers e.tiles e.pm e.groups pmNext e.tctx e.actx
    e.uctx e.takes e.probes e.doms gates deferring e.chans e.delays e.mem e.memGen e.memGenB e.queues e.opens parInj m e.sram e.lengs e.istore
    e.dmem e.lengGen e.outs period e.streams e.slots e.gens e.meters e.deembs e.refs tmu e.fps e.tlrx e.tltx e.protAud pwr e.cores mtx
    host boot jtag gpioPins) :=
  ⟨h.regs, h.resp, h.lanes, h.plls, h.framers, h.tiles, h.pm, h.groups, h.tctx, h.actx, h.uctx, h.takes, h.probes, h.doms, h.chans,
    h.delays, h.mem, h.queues, h.opens, hm, h.sram, h.lengs, h.istore, h.dmem, h.outs, h.streams, h.slots, h.gens, h.meters, h.deembs, h.refs,
    h.fps, h.tlrx, h.tltx, h.protAud, h.cores⟩

/-- An update of `sram` and of no other table. -/
theorem Dev.Built.up_sram {e : Dev} (h : e.Wf) {m : Map Word} (hm : Map.wf (fun _ => 0) m = true) {free : Nat} {xo : BitVec 48} {fabMargin
    : Bool} {marginRun : Nat} {intc : IntcS} {pmc : PmcS} {pmNext : Option Nat} {gates : GateI} {deferring : Bool} {parInj : Bool} {period :
    Nat} {tmu : TmuI} {pwr : PwrI} {mtx : MtxI} {host : HostI} {boot : BootI} {jtag : JtagI} {gpioPins : BitVec 16} :
    Dev.Built (Dev.mk e.regs free xo e.resp fabMargin marginRun intc pmc e.lanes e.plls e.framers e.tiles e.pm e.groups pmNext e.tctx e.actx
    e.uctx e.takes e.probes e.doms gates deferring e.chans e.delays e.mem e.memGen e.memGenB e.queues e.opens parInj e.stalls m e.lengs
    e.istore e.dmem e.lengGen e.outs period e.streams e.slots e.gens e.meters e.deembs e.refs tmu e.fps e.tlrx e.tltx e.protAud pwr
    e.cores mtx host boot jtag gpioPins) :=
  ⟨h.regs, h.resp, h.lanes, h.plls, h.framers, h.tiles, h.pm, h.groups, h.tctx, h.actx, h.uctx, h.takes, h.probes, h.doms, h.chans,
    h.delays, h.mem, h.queues, h.opens, h.stalls, hm, h.lengs, h.istore, h.dmem, h.outs, h.streams, h.slots, h.gens, h.meters, h.deembs,
    h.refs, h.fps, h.tlrx, h.tltx, h.protAud, h.cores⟩

/-- An update of `lengs` and of no other table. -/
theorem Dev.Built.up_lengs {e : Dev} (h : e.Wf) {m : Map LengI} (hm : Map.wf (fun _ => {}) m = true) {free : Nat} {xo : BitVec 48}
    {fabMargin : Bool} {marginRun : Nat} {intc : IntcS} {pmc : PmcS} {pmNext : Option Nat} {gates : GateI} {deferring : Bool} {parInj : Bool}
    {period : Nat} {tmu : TmuI} {pwr : PwrI} {mtx : MtxI} {host : HostI} {boot : BootI} {jtag : JtagI} {gpioPins : BitVec 16} :
    Dev.Built (Dev.mk e.regs free xo e.resp fabMargin marginRun intc pmc e.lanes e.plls e.framers e.tiles e.pm e.groups pmNext e.tctx e.actx
    e.uctx e.takes e.probes e.doms gates deferring e.chans e.delays e.mem e.memGen e.memGenB e.queues e.opens parInj e.stalls e.sram m
    e.istore e.dmem e.lengGen e.outs period e.streams e.slots e.gens e.meters e.deembs e.refs tmu e.fps e.tlrx e.tltx e.protAud pwr
    e.cores mtx host boot jtag gpioPins) :=
  ⟨h.regs, h.resp, h.lanes, h.plls, h.framers, h.tiles, h.pm, h.groups, h.tctx, h.actx, h.uctx, h.takes, h.probes, h.doms, h.chans,
    h.delays, h.mem, h.queues, h.opens, h.stalls, h.sram, hm, h.istore, h.dmem, h.outs, h.streams, h.slots, h.gens, h.meters, h.deembs,
    h.refs, h.fps, h.tlrx, h.tltx, h.protAud, h.cores⟩

/-- An update of `istore` and of no other table. -/
theorem Dev.Built.up_istore {e : Dev} (h : e.Wf) {m : Map Word} (hm : Map.wf e.istoreFree m = true) {free : Nat} {xo : BitVec 48}
    {fabMargin : Bool} {marginRun : Nat} {intc : IntcS} {pmc : PmcS} {pmNext : Option Nat} {gates : GateI} {deferring : Bool} {parInj : Bool}
    {period : Nat} {tmu : TmuI} {pwr : PwrI} {mtx : MtxI} {host : HostI} {boot : BootI} {jtag : JtagI} {gpioPins : BitVec 16} :
    Dev.Built (Dev.mk e.regs free xo e.resp fabMargin marginRun intc pmc e.lanes e.plls e.framers e.tiles e.pm e.groups pmNext e.tctx e.actx
    e.uctx e.takes e.probes e.doms gates deferring e.chans e.delays e.mem e.memGen e.memGenB e.queues e.opens parInj e.stalls e.sram e.lengs m
    e.dmem e.lengGen e.outs period e.streams e.slots e.gens e.meters e.deembs e.refs tmu e.fps e.tlrx e.tltx e.protAud pwr e.cores mtx
    host boot jtag gpioPins) :=
  ⟨h.regs, h.resp, h.lanes, h.plls, h.framers, h.tiles, h.pm, h.groups, h.tctx, h.actx, h.uctx, h.takes, h.probes, h.doms, h.chans,
    h.delays, h.mem, h.queues, h.opens, h.stalls, h.sram, h.lengs, hm, h.dmem, h.outs, h.streams, h.slots, h.gens, h.meters, h.deembs, h.refs,
    h.fps, h.tlrx, h.tltx, h.protAud, h.cores⟩

/-- An update of `dmem` and of no other table. -/
theorem Dev.Built.up_dmem {e : Dev} (h : e.Wf) {m : Map Word} (hm : Map.wf e.dmemFree m = true) {free : Nat} {xo : BitVec 48} {fabMargin :
    Bool} {marginRun : Nat} {intc : IntcS} {pmc : PmcS} {pmNext : Option Nat} {gates : GateI} {deferring : Bool} {parInj : Bool} {period :
    Nat} {tmu : TmuI} {pwr : PwrI} {mtx : MtxI} {host : HostI} {boot : BootI} {jtag : JtagI} {gpioPins : BitVec 16} :
    Dev.Built (Dev.mk e.regs free xo e.resp fabMargin marginRun intc pmc e.lanes e.plls e.framers e.tiles e.pm e.groups pmNext e.tctx e.actx
    e.uctx e.takes e.probes e.doms gates deferring e.chans e.delays e.mem e.memGen e.memGenB e.queues e.opens parInj e.stalls e.sram e.lengs
    e.istore m e.lengGen e.outs period e.streams e.slots e.gens e.meters e.deembs e.refs tmu e.fps e.tlrx e.tltx e.protAud pwr e.cores
    mtx host boot jtag gpioPins) :=
  ⟨h.regs, h.resp, h.lanes, h.plls, h.framers, h.tiles, h.pm, h.groups, h.tctx, h.actx, h.uctx, h.takes, h.probes, h.doms, h.chans,
    h.delays, h.mem, h.queues, h.opens, h.stalls, h.sram, h.lengs, h.istore, hm, h.outs, h.streams, h.slots, h.gens, h.meters, h.deembs,
    h.refs, h.fps, h.tlrx, h.tltx, h.protAud, h.cores⟩

/-- An update of `outs` and of no other table. -/
theorem Dev.Built.up_outs {e : Dev} (h : e.Wf) {m : Map OutI} (hm : Map.wf (fun _ => {}) m = true) {free : Nat} {xo : BitVec 48}
    {fabMargin : Bool} {marginRun : Nat} {intc : IntcS} {pmc : PmcS} {pmNext : Option Nat} {gates : GateI} {deferring : Bool} {parInj : Bool}
    {period : Nat} {tmu : TmuI} {pwr : PwrI} {mtx : MtxI} {host : HostI} {boot : BootI} {jtag : JtagI} {gpioPins : BitVec 16} :
    Dev.Built (Dev.mk e.regs free xo e.resp fabMargin marginRun intc pmc e.lanes e.plls e.framers e.tiles e.pm e.groups pmNext e.tctx e.actx
    e.uctx e.takes e.probes e.doms gates deferring e.chans e.delays e.mem e.memGen e.memGenB e.queues e.opens parInj e.stalls e.sram e.lengs
    e.istore e.dmem e.lengGen m period e.streams e.slots e.gens e.meters e.deembs e.refs tmu e.fps e.tlrx e.tltx e.protAud pwr e.cores
    mtx host boot jtag gpioPins) :=
  ⟨h.regs, h.resp, h.lanes, h.plls, h.framers, h.tiles, h.pm, h.groups, h.tctx, h.actx, h.uctx, h.takes, h.probes, h.doms, h.chans,
    h.delays, h.mem, h.queues, h.opens, h.stalls, h.sram, h.lengs, h.istore, h.dmem, hm, h.streams, h.slots, h.gens, h.meters, h.deembs,
    h.refs, h.fps, h.tlrx, h.tltx, h.protAud, h.cores⟩

/-- An update of `streams` and of no other table. -/
theorem Dev.Built.up_streams {e : Dev} (h : e.Wf) {m : Map StreamI} (hm : Map.wf (fun _ => {}) m = true) {free : Nat} {xo : BitVec 48}
    {fabMargin : Bool} {marginRun : Nat} {intc : IntcS} {pmc : PmcS} {pmNext : Option Nat} {gates : GateI} {deferring : Bool} {parInj : Bool}
    {period : Nat} {tmu : TmuI} {pwr : PwrI} {mtx : MtxI} {host : HostI} {boot : BootI} {jtag : JtagI} {gpioPins : BitVec 16} :
    Dev.Built (Dev.mk e.regs free xo e.resp fabMargin marginRun intc pmc e.lanes e.plls e.framers e.tiles e.pm e.groups pmNext e.tctx e.actx
    e.uctx e.takes e.probes e.doms gates deferring e.chans e.delays e.mem e.memGen e.memGenB e.queues e.opens parInj e.stalls e.sram e.lengs
    e.istore e.dmem e.lengGen e.outs period m e.slots e.gens e.meters e.deembs e.refs tmu e.fps e.tlrx e.tltx e.protAud pwr e.cores mtx
    host boot jtag gpioPins) :=
  ⟨h.regs, h.resp, h.lanes, h.plls, h.framers, h.tiles, h.pm, h.groups, h.tctx, h.actx, h.uctx, h.takes, h.probes, h.doms, h.chans,
    h.delays, h.mem, h.queues, h.opens, h.stalls, h.sram, h.lengs, h.istore, h.dmem, h.outs, hm, h.slots, h.gens, h.meters, h.deembs, h.refs,
    h.fps, h.tlrx, h.tltx, h.protAud, h.cores⟩

/-- An update of `slots` and of no other table. -/
theorem Dev.Built.up_slots {e : Dev} (h : e.Wf) {m : Map SlotI} (hm : Map.wf (fun _ => {}) m = true) {free : Nat} {xo : BitVec 48}
    {fabMargin : Bool} {marginRun : Nat} {intc : IntcS} {pmc : PmcS} {pmNext : Option Nat} {gates : GateI} {deferring : Bool} {parInj : Bool}
    {period : Nat} {tmu : TmuI} {pwr : PwrI} {mtx : MtxI} {host : HostI} {boot : BootI} {jtag : JtagI} {gpioPins : BitVec 16} :
    Dev.Built (Dev.mk e.regs free xo e.resp fabMargin marginRun intc pmc e.lanes e.plls e.framers e.tiles e.pm e.groups pmNext e.tctx e.actx
    e.uctx e.takes e.probes e.doms gates deferring e.chans e.delays e.mem e.memGen e.memGenB e.queues e.opens parInj e.stalls e.sram e.lengs
    e.istore e.dmem e.lengGen e.outs period e.streams m e.gens e.meters e.deembs e.refs tmu e.fps e.tlrx e.tltx e.protAud pwr e.cores mtx
    host boot jtag gpioPins) :=
  ⟨h.regs, h.resp, h.lanes, h.plls, h.framers, h.tiles, h.pm, h.groups, h.tctx, h.actx, h.uctx, h.takes, h.probes, h.doms, h.chans,
    h.delays, h.mem, h.queues, h.opens, h.stalls, h.sram, h.lengs, h.istore, h.dmem, h.outs, h.streams, hm, h.gens, h.meters, h.deembs,
    h.refs, h.fps, h.tlrx, h.tltx, h.protAud, h.cores⟩

/-- An update of `gens` and of no other table. -/
theorem Dev.Built.up_gens {e : Dev} (h : e.Wf) {m : Map GenI} (hm : Map.wf (fun _ => {}) m = true) {free : Nat} {xo : BitVec 48}
    {fabMargin : Bool} {marginRun : Nat} {intc : IntcS} {pmc : PmcS} {pmNext : Option Nat} {gates : GateI} {deferring : Bool} {parInj : Bool}
    {period : Nat} {tmu : TmuI} {pwr : PwrI} {mtx : MtxI} {host : HostI} {boot : BootI} {jtag : JtagI} {gpioPins : BitVec 16} :
    Dev.Built (Dev.mk e.regs free xo e.resp fabMargin marginRun intc pmc e.lanes e.plls e.framers e.tiles e.pm e.groups pmNext e.tctx e.actx
    e.uctx e.takes e.probes e.doms gates deferring e.chans e.delays e.mem e.memGen e.memGenB e.queues e.opens parInj e.stalls e.sram e.lengs
    e.istore e.dmem e.lengGen e.outs period e.streams e.slots m e.meters e.deembs e.refs tmu e.fps e.tlrx e.tltx e.protAud pwr e.cores
    mtx host boot jtag gpioPins) :=
  ⟨h.regs, h.resp, h.lanes, h.plls, h.framers, h.tiles, h.pm, h.groups, h.tctx, h.actx, h.uctx, h.takes, h.probes, h.doms, h.chans,
    h.delays, h.mem, h.queues, h.opens, h.stalls, h.sram, h.lengs, h.istore, h.dmem, h.outs, h.streams, h.slots, hm, h.meters, h.deembs,
    h.refs, h.fps, h.tlrx, h.tltx, h.protAud, h.cores⟩

/-- An update of `meters` and of no other table. -/
theorem Dev.Built.up_meters {e : Dev} (h : e.Wf) {m : Map MeterI} (hm : Map.wf (fun _ => {}) m = true) {free : Nat} {xo : BitVec 48}
    {fabMargin : Bool} {marginRun : Nat} {intc : IntcS} {pmc : PmcS} {pmNext : Option Nat} {gates : GateI} {deferring : Bool} {parInj : Bool}
    {period : Nat} {tmu : TmuI} {pwr : PwrI} {mtx : MtxI} {host : HostI} {boot : BootI} {jtag : JtagI} {gpioPins : BitVec 16} :
    Dev.Built (Dev.mk e.regs free xo e.resp fabMargin marginRun intc pmc e.lanes e.plls e.framers e.tiles e.pm e.groups pmNext e.tctx e.actx
    e.uctx e.takes e.probes e.doms gates deferring e.chans e.delays e.mem e.memGen e.memGenB e.queues e.opens parInj e.stalls e.sram e.lengs
    e.istore e.dmem e.lengGen e.outs period e.streams e.slots e.gens m e.deembs e.refs tmu e.fps e.tlrx e.tltx e.protAud pwr e.cores mtx
    host boot jtag gpioPins) :=
  ⟨h.regs, h.resp, h.lanes, h.plls, h.framers, h.tiles, h.pm, h.groups, h.tctx, h.actx, h.uctx, h.takes, h.probes, h.doms, h.chans,
    h.delays, h.mem, h.queues, h.opens, h.stalls, h.sram, h.lengs, h.istore, h.dmem, h.outs, h.streams, h.slots, h.gens, hm, h.deembs, h.refs,
    h.fps, h.tlrx, h.tltx, h.protAud, h.cores⟩

/-- An update of `deembs` and of no other table. -/
theorem Dev.Built.up_deembs {e : Dev} (h : e.Wf) {m : Map DeembI} (hm : Map.wf (fun _ => {}) m = true) {free : Nat} {xo : BitVec 48}
    {fabMargin : Bool} {marginRun : Nat} {intc : IntcS} {pmc : PmcS} {pmNext : Option Nat} {gates : GateI} {deferring : Bool} {parInj : Bool}
    {period : Nat} {tmu : TmuI} {pwr : PwrI} {mtx : MtxI} {host : HostI} {boot : BootI} {jtag : JtagI} {gpioPins : BitVec 16} :
    Dev.Built (Dev.mk e.regs free xo e.resp fabMargin marginRun intc pmc e.lanes e.plls e.framers e.tiles e.pm e.groups pmNext e.tctx e.actx
    e.uctx e.takes e.probes e.doms gates deferring e.chans e.delays e.mem e.memGen e.memGenB e.queues e.opens parInj e.stalls e.sram e.lengs
    e.istore e.dmem e.lengGen e.outs period e.streams e.slots e.gens e.meters m e.refs tmu e.fps e.tlrx e.tltx e.protAud pwr e.cores mtx
    host boot jtag gpioPins) :=
  ⟨h.regs, h.resp, h.lanes, h.plls, h.framers, h.tiles, h.pm, h.groups, h.tctx, h.actx, h.uctx, h.takes, h.probes, h.doms, h.chans,
    h.delays, h.mem, h.queues, h.opens, h.stalls, h.sram, h.lengs, h.istore, h.dmem, h.outs, h.streams, h.slots, h.gens, h.meters, hm, h.refs,
    h.fps, h.tlrx, h.tltx, h.protAud, h.cores⟩

/-- An update of `refs` and of no other table. -/
theorem Dev.Built.up_refs {e : Dev} (h : e.Wf) {m : Map RefI} (hm : Map.wf (fun _ => {}) m = true) {free : Nat} {xo : BitVec 48}
    {fabMargin : Bool} {marginRun : Nat} {intc : IntcS} {pmc : PmcS} {pmNext : Option Nat} {gates : GateI} {deferring : Bool} {parInj : Bool}
    {period : Nat} {tmu : TmuI} {pwr : PwrI} {mtx : MtxI} {host : HostI} {boot : BootI} {jtag : JtagI} {gpioPins : BitVec 16} :
    Dev.Built (Dev.mk e.regs free xo e.resp fabMargin marginRun intc pmc e.lanes e.plls e.framers e.tiles e.pm e.groups pmNext e.tctx e.actx
    e.uctx e.takes e.probes e.doms gates deferring e.chans e.delays e.mem e.memGen e.memGenB e.queues e.opens parInj e.stalls e.sram e.lengs
    e.istore e.dmem e.lengGen e.outs period e.streams e.slots e.gens e.meters e.deembs m tmu e.fps e.tlrx e.tltx e.protAud pwr e.cores
    mtx host boot jtag gpioPins) :=
  ⟨h.regs, h.resp, h.lanes, h.plls, h.framers, h.tiles, h.pm, h.groups, h.tctx, h.actx, h.uctx, h.takes, h.probes, h.doms, h.chans,
    h.delays, h.mem, h.queues, h.opens, h.stalls, h.sram, h.lengs, h.istore, h.dmem, h.outs, h.streams, h.slots, h.gens, h.meters, h.deembs,
    hm, h.fps, h.tlrx, h.tltx, h.protAud, h.cores⟩

/-- An update of `fps` and of no other table. -/
theorem Dev.Built.up_fps {e : Dev} (h : e.Wf) {m : Map FpI} (hm : Map.wf (fun _ => {}) m = true) {free : Nat} {xo : BitVec 48}
    {fabMargin : Bool} {marginRun : Nat} {intc : IntcS} {pmc : PmcS} {pmNext : Option Nat} {gates : GateI} {deferring : Bool} {parInj : Bool}
    {period : Nat} {tmu : TmuI} {pwr : PwrI} {mtx : MtxI} {host : HostI} {boot : BootI} {jtag : JtagI} {gpioPins : BitVec 16} :
    Dev.Built (Dev.mk e.regs free xo e.resp fabMargin marginRun intc pmc e.lanes e.plls e.framers e.tiles e.pm e.groups pmNext e.tctx e.actx
    e.uctx e.takes e.probes e.doms gates deferring e.chans e.delays e.mem e.memGen e.memGenB e.queues e.opens parInj e.stalls e.sram e.lengs
    e.istore e.dmem e.lengGen e.outs period e.streams e.slots e.gens e.meters e.deembs e.refs tmu m e.tlrx e.tltx e.protAud pwr e.cores mtx
    host boot jtag gpioPins) :=
  ⟨h.regs, h.resp, h.lanes, h.plls, h.framers, h.tiles, h.pm, h.groups, h.tctx, h.actx, h.uctx, h.takes, h.probes, h.doms, h.chans,
    h.delays, h.mem, h.queues, h.opens, h.stalls, h.sram, h.lengs, h.istore, h.dmem, h.outs, h.streams, h.slots, h.gens, h.meters, h.deembs,
    h.refs, hm, h.tlrx, h.tltx, h.protAud, h.cores⟩

/-- An update of `tlrx` and of no other table. -/
theorem Dev.Built.up_tlrx {e : Dev} (h : e.Wf) {m : Map TlRxI} (hm : Map.wf (fun _ => {}) m = true) {free : Nat} {xo : BitVec 48}
    {fabMargin : Bool} {marginRun : Nat} {intc : IntcS} {pmc : PmcS} {pmNext : Option Nat} {gates : GateI} {deferring : Bool} {parInj : Bool}
    {period : Nat} {tmu : TmuI} {pwr : PwrI} {mtx : MtxI} {host : HostI} {boot : BootI} {jtag : JtagI} {gpioPins : BitVec 16} :
    Dev.Built (Dev.mk e.regs free xo e.resp fabMargin marginRun intc pmc e.lanes e.plls e.framers e.tiles e.pm e.groups pmNext e.tctx e.actx
    e.uctx e.takes e.probes e.doms gates deferring e.chans e.delays e.mem e.memGen e.memGenB e.queues e.opens parInj e.stalls e.sram e.lengs
    e.istore e.dmem e.lengGen e.outs period e.streams e.slots e.gens e.meters e.deembs e.refs tmu e.fps m e.tltx e.protAud pwr e.cores
    mtx host boot jtag gpioPins) :=
  ⟨h.regs, h.resp, h.lanes, h.plls, h.framers, h.tiles, h.pm, h.groups, h.tctx, h.actx, h.uctx, h.takes, h.probes, h.doms, h.chans,
    h.delays, h.mem, h.queues, h.opens, h.stalls, h.sram, h.lengs, h.istore, h.dmem, h.outs, h.streams, h.slots, h.gens, h.meters, h.deembs,
    h.refs, h.fps, hm, h.tltx, h.protAud, h.cores⟩

/-- An update of `tltx` and of no other table. -/
theorem Dev.Built.up_tltx {e : Dev} (h : e.Wf) {m : Map TlTxI} (hm : Map.wf (fun _ => {}) m = true) {free : Nat} {xo : BitVec 48}
    {fabMargin : Bool} {marginRun : Nat} {intc : IntcS} {pmc : PmcS} {pmNext : Option Nat} {gates : GateI} {deferring : Bool} {parInj : Bool}
    {period : Nat} {tmu : TmuI} {pwr : PwrI} {mtx : MtxI} {host : HostI} {boot : BootI} {jtag : JtagI} {gpioPins : BitVec 16} :
    Dev.Built (Dev.mk e.regs free xo e.resp fabMargin marginRun intc pmc e.lanes e.plls e.framers e.tiles e.pm e.groups pmNext e.tctx e.actx
    e.uctx e.takes e.probes e.doms gates deferring e.chans e.delays e.mem e.memGen e.memGenB e.queues e.opens parInj e.stalls e.sram e.lengs
    e.istore e.dmem e.lengGen e.outs period e.streams e.slots e.gens e.meters e.deembs e.refs tmu e.fps e.tlrx m e.protAud pwr e.cores
    mtx host boot jtag gpioPins) :=
  ⟨h.regs, h.resp, h.lanes, h.plls, h.framers, h.tiles, h.pm, h.groups, h.tctx, h.actx, h.uctx, h.takes, h.probes, h.doms, h.chans,
    h.delays, h.mem, h.queues, h.opens, h.stalls, h.sram, h.lengs, h.istore, h.dmem, h.outs, h.streams, h.slots, h.gens, h.meters, h.deembs,
    h.refs, h.fps, h.tlrx, hm, h.protAud, h.cores⟩

/-- An update of `protAud` and of no other table. -/
theorem Dev.Built.up_protAud {e : Dev} (h : e.Wf) {m : Map (List Word)} (hm : Map.wf (fun _ => []) m = true) {free : Nat} {xo : BitVec 48}
    {fabMargin : Bool} {marginRun : Nat} {intc : IntcS} {pmc : PmcS} {pmNext : Option Nat} {gates : GateI} {deferring : Bool} {parInj : Bool}
    {period : Nat} {tmu : TmuI} {pwr : PwrI} {mtx : MtxI} {host : HostI} {boot : BootI} {jtag : JtagI} {gpioPins : BitVec 16} :
    Dev.Built (Dev.mk e.regs free xo e.resp fabMargin marginRun intc pmc e.lanes e.plls e.framers e.tiles e.pm e.groups pmNext e.tctx e.actx
    e.uctx e.takes e.probes e.doms gates deferring e.chans e.delays e.mem e.memGen e.memGenB e.queues e.opens parInj e.stalls e.sram e.lengs
    e.istore e.dmem e.lengGen e.outs period e.streams e.slots e.gens e.meters e.deembs e.refs tmu e.fps e.tlrx e.tltx m pwr e.cores mtx
    host boot jtag gpioPins) :=
  ⟨h.regs, h.resp, h.lanes, h.plls, h.framers, h.tiles, h.pm, h.groups, h.tctx, h.actx, h.uctx, h.takes, h.probes, h.doms, h.chans,
    h.delays, h.mem, h.queues, h.opens, h.stalls, h.sram, h.lengs, h.istore, h.dmem, h.outs, h.streams, h.slots, h.gens, h.meters, h.deembs,
    h.refs, h.fps, h.tlrx, h.tltx, hm, h.cores⟩

/-- An update of `cores` and of no other table. -/
theorem Dev.Built.up_cores {e : Dev} (h : e.Wf) {m : Map CoreI} (hm : Map.wf (fun _ => {}) m = true) {free : Nat} {xo : BitVec 48}
    {fabMargin : Bool} {marginRun : Nat} {intc : IntcS} {pmc : PmcS} {pmNext : Option Nat} {gates : GateI} {deferring : Bool} {parInj : Bool}
    {period : Nat} {tmu : TmuI} {pwr : PwrI} {mtx : MtxI} {host : HostI} {boot : BootI} {jtag : JtagI} {gpioPins : BitVec 16} :
    Dev.Built (Dev.mk e.regs free xo e.resp fabMargin marginRun intc pmc e.lanes e.plls e.framers e.tiles e.pm e.groups pmNext e.tctx e.actx
    e.uctx e.takes e.probes e.doms gates deferring e.chans e.delays e.mem e.memGen e.memGenB e.queues e.opens parInj e.stalls e.sram e.lengs
    e.istore e.dmem e.lengGen e.outs period e.streams e.slots e.gens e.meters e.deembs e.refs tmu e.fps e.tlrx e.tltx e.protAud pwr m mtx
    host boot jtag gpioPins) :=
  ⟨h.regs, h.resp, h.lanes, h.plls, h.framers, h.tiles, h.pm, h.groups, h.tctx, h.actx, h.uctx, h.takes, h.probes, h.doms, h.chans,
    h.delays, h.mem, h.queues, h.opens, h.stalls, h.sram, h.lengs, h.istore, h.dmem, h.outs, h.streams, h.slots, h.gens, h.meters, h.deembs,
    h.refs, h.fps, h.tlrx, h.tltx, h.protAud, hm⟩

/-- A choice between canonical states. -/
theorem Dev.Wf.ite {c : Prop} [Decidable c] {a b : Dev} (ha : a.Wf) (hb : b.Wf) : (if c then a else b).Wf := by
  split <;> assumption

/-- A fold whose every step keeps the canonical form. -/
theorem Dev.Wf.fold {α : Type} {f : Dev → α → Dev} {d : Dev} (l : List α) (h : d.Wf) (hf : ∀ e x, e.Wf → (f e x).Wf) :
    (l.foldl f d).Wf := by
  induction l generalizing d with
  | nil => exact h
  | cons x l ih => exact ih (hf d x h)

/-- A fold that carries something beside the block. -/
theorem Dev.Wf.foldPair {α β : Type} {f : Dev × β → α → Dev × β} {d : Dev × β} (l : List α) (h : d.1.Wf)
    (hf : ∀ (e : Dev × β) x, e.1.Wf → (f e x).1.Wf) : (l.foldl f d).1.Wf := by
  induction l generalizing d with
  | nil => exact h
  | cons x l ih => exact ih (hf d x h)

/-- The block of a pair that an operation answered. -/
theorem Dev.Wf.ofPair {α : Type} {x : Dev × α} {d : Dev} {a : α} (h : x = (d, a)) (hx : x.1.Wf) : d.Wf := by
  subst h; exact hx

/-- The block of a pair that answers it second. -/
theorem Dev.Wf.ofPairSnd {α : Type} {x : α × Dev} {d : Dev} {a : α} (h : x = (a, d)) (hx : x.2.Wf) : d.Wf := by
  subst h; exact hx

/-- Both branches of a choice that carries something beside the block. -/
theorem Dev.Wf.itePair {α : Type} {c : Prop} [Decidable c] {a b : Dev × α} (ha : a.1.Wf) (hb : b.1.Wf) :
    (if c then a else b).1.Wf := by
  split <;> assumption

end Sys2Proof.Machine
end

