-- ==== Sys2Proof/Laws/WfOps.lean ====
section
/-! SUPPORT. The operations of Machine/Ops.lean keep every table of the block canonical. -/

set_option linter.unusedTactic false
set_option linter.unreachableTactic false

namespace Sys2Proof.Machine

theorem Dev.setReg_wf (d : Dev) (key : Nat) (w : Sys2Proof.Word) (h_d : d.Wf) :
    Dev.Wf (Dev.setReg d key w) := by
  unfold Dev.setReg
  try dsimp only
  repeat' (first
    | with_reducible assumption
    | with_reducible apply Dev.Wf.ite
    | with_reducible (refine Dev.Wf.fold _ ?_ ?_; rotate_left; intro e x he)
    | with_reducible (refine Dev.Wf.foldPair _ ?_ ?_; rotate_left; intro e x he)
    | split
    | simp only [Dev.wf_built]
    | with_reducible apply Dev.Built.other
    | with_reducible apply Dev.Built.up_regs
    | with_reducible apply Map.wf_put
    | with_reducible apply Map.wf_filter
    | exact rfl
    | with_reducible apply Dev.Wf.regs
    | with_reducible apply Dev.Wf.itePair
    | with_reducible (refine Dev.Wf.ofPair (by assumption) ?_)
    | with_reducible (refine Dev.Wf.ofPairSnd (by assumption) ?_)
    | with_reducible dsimp only)

theorem Dev.wr_wf (d : Dev) (p : Sys2Proof.Page) (f : Fld) (v : Nat) (h_d : d.Wf) :
    Dev.Wf (Dev.wr d p f v) := by
  unfold Dev.wr
  try dsimp only
  repeat' (first
    | with_reducible assumption
    | with_reducible apply Dev.setReg_wf
    | with_reducible apply Dev.Wf.ite
    | with_reducible (refine Dev.Wf.fold _ ?_ ?_; rotate_left; intro e x he)
    | with_reducible (refine Dev.Wf.foldPair _ ?_ ?_; rotate_left; intro e x he)
    | split
    | simp only [Dev.wf_built]
    | with_reducible apply Dev.Built.other
    | with_reducible apply Dev.Wf.itePair
    | with_reducible (refine Dev.Wf.ofPair (by assumption) ?_)
    | with_reducible (refine Dev.Wf.ofPairSnd (by assumption) ?_)
    | with_reducible dsimp only)

theorem Dev.wrB_wf (d : Dev) (p : Sys2Proof.Page) (bank : Nat) (f : Fld) (v : Nat) (h_d : d.Wf) :
    Dev.Wf (Dev.wrB d p bank f v) := by
  unfold Dev.wrB
  try dsimp only
  repeat' (first
    | with_reducible assumption
    | with_reducible apply Dev.setReg_wf
    | with_reducible apply Dev.Wf.ite
    | with_reducible (refine Dev.Wf.fold _ ?_ ?_; rotate_left; intro e x he)
    | with_reducible (refine Dev.Wf.foldPair _ ?_ ?_; rotate_left; intro e x he)
    | split
    | simp only [Dev.wf_built]
    | with_reducible apply Dev.Built.other
    | with_reducible apply Dev.Wf.itePair
    | with_reducible (refine Dev.Wf.ofPair (by assumption) ?_)
    | with_reducible (refine Dev.Wf.ofPairSnd (by assumption) ?_)
    | with_reducible dsimp only)

theorem Dev.wrOn_wf (d : Dev) (p : Sys2Proof.Page) (f : Fld) (b : Bool) (h_d : d.Wf) :
    Dev.Wf (Dev.wrOn d p f b) := by
  unfold Dev.wrOn
  try dsimp only
  repeat' (first
    | with_reducible assumption
    | with_reducible apply Dev.wr_wf
    | with_reducible apply Dev.Wf.ite
    | with_reducible (refine Dev.Wf.fold _ ?_ ?_; rotate_left; intro e x he)
    | with_reducible (refine Dev.Wf.foldPair _ ?_ ?_; rotate_left; intro e x he)
    | split
    | simp only [Dev.wf_built]
    | with_reducible apply Dev.Built.other
    | with_reducible apply Dev.Wf.itePair
    | with_reducible (refine Dev.Wf.ofPair (by assumption) ?_)
    | with_reducible (refine Dev.Wf.ofPairSnd (by assumption) ?_)
    | with_reducible dsimp only)

theorem Dev.add_wf (d : Dev) (p : Sys2Proof.Page) (f : Fld) (n : Nat) (h_d : d.Wf) :
    Dev.Wf (Dev.add d p f n) := by
  unfold Dev.add
  try dsimp only
  repeat' (first
    | with_reducible assumption
    | with_reducible apply Dev.wr_wf
    | with_reducible apply Dev.Wf.ite
    | with_reducible (refine Dev.Wf.fold _ ?_ ?_; rotate_left; intro e x he)
    | with_reducible (refine Dev.Wf.foldPair _ ?_ ?_; rotate_left; intro e x he)
    | split
    | simp only [Dev.wf_built]
    | with_reducible apply Dev.Built.other
    | with_reducible apply Dev.Wf.itePair
    | with_reducible (refine Dev.Wf.ofPair (by assumption) ?_)
    | with_reducible (refine Dev.Wf.ofPairSnd (by assumption) ?_)
    | with_reducible dsimp only)

theorem Dev.addB_wf (d : Dev) (p : Sys2Proof.Page) (bank : Nat) (f : Fld) (n : Nat) (h_d : d.Wf) :
    Dev.Wf (Dev.addB d p bank f n) := by
  unfold Dev.addB
  try dsimp only
  repeat' (first
    | with_reducible assumption
    | with_reducible apply Dev.wrB_wf
    | with_reducible apply Dev.Wf.ite
    | with_reducible (refine Dev.Wf.fold _ ?_ ?_; rotate_left; intro e x he)
    | with_reducible (refine Dev.Wf.foldPair _ ?_ ?_; rotate_left; intro e x he)
    | split
    | simp only [Dev.wf_built]
    | with_reducible apply Dev.Built.other
    | with_reducible apply Dev.Wf.itePair
    | with_reducible (refine Dev.Wf.ofPair (by assumption) ?_)
    | with_reducible (refine Dev.Wf.ofPairSnd (by assumption) ?_)
    | with_reducible dsimp only)

theorem Dev.inc_wf (d : Dev) (p : Sys2Proof.Page) (f : Fld) (h_d : d.Wf) :
    Dev.Wf (Dev.inc d p f) := by
  unfold Dev.inc
  try dsimp only
  repeat' (first
    | with_reducible assumption
    | with_reducible apply Dev.add_wf
    | with_reducible apply Dev.Wf.ite
    | with_reducible (refine Dev.Wf.fold _ ?_ ?_; rotate_left; intro e x he)
    | with_reducible (refine Dev.Wf.foldPair _ ?_ ?_; rotate_left; intro e x he)
    | split
    | simp only [Dev.wf_built]
    | with_reducible apply Dev.Built.other
    | with_reducible apply Dev.Wf.itePair
    | with_reducible (refine Dev.Wf.ofPair (by assumption) ?_)
    | with_reducible (refine Dev.Wf.ofPairSnd (by assumption) ?_)
    | with_reducible dsimp only)

theorem Dev.draw_wf (d : Dev) (w : Nat) (h_d : d.Wf) :
    (Dev.draw d w).2.Wf := by
  unfold Dev.draw
  try dsimp only
  repeat' (first
    | with_reducible assumption
    | with_reducible apply Dev.Wf.ite
    | with_reducible (refine Dev.Wf.fold _ ?_ ?_; rotate_left; intro e x he)
    | with_reducible (refine Dev.Wf.foldPair _ ?_ ?_; rotate_left; intro e x he)
    | split
    | simp only [Dev.wf_built]
    | with_reducible apply Dev.Built.other
    | with_reducible apply Dev.Wf.itePair
    | with_reducible (refine Dev.Wf.ofPair (by assumption) ?_)
    | with_reducible (refine Dev.Wf.ofPairSnd (by assumption) ?_)
    | with_reducible dsimp only)

theorem Dev.setSrc_wf (d : Dev) (s : Nat) (v : SrcI) (h_d : d.Wf) :
    Dev.Wf (Dev.setSrc d s v) := by
  unfold Dev.setSrc
  try dsimp only
  repeat' (first
    | with_reducible assumption
    | with_reducible apply Dev.Wf.ite
    | with_reducible (refine Dev.Wf.fold _ ?_ ?_; rotate_left; intro e x he)
    | with_reducible (refine Dev.Wf.foldPair _ ?_ ?_; rotate_left; intro e x he)
    | split
    | simp only [Dev.wf_built]
    | with_reducible apply Dev.Built.other
    | with_reducible apply Dev.Wf.itePair
    | with_reducible (refine Dev.Wf.ofPair (by assumption) ?_)
    | with_reducible (refine Dev.Wf.ofPairSnd (by assumption) ?_)
    | with_reducible dsimp only)

theorem Dev.wakeFor_wf (d : Dev) (k : Nat) (h_d : d.Wf) :
    Dev.Wf (Dev.wakeFor d k) := by
  unfold Dev.wakeFor
  try dsimp only
  repeat' (first
    | with_reducible assumption
    | with_reducible apply Dev.wr_wf
    | with_reducible apply Dev.Wf.ite
    | with_reducible (refine Dev.Wf.fold _ ?_ ?_; rotate_left; intro e x he)
    | with_reducible (refine Dev.Wf.foldPair _ ?_ ?_; rotate_left; intro e x he)
    | split
    | simp only [Dev.wf_built]
    | with_reducible apply Dev.Built.other
    | with_reducible apply Dev.Wf.itePair
    | with_reducible (refine Dev.Wf.ofPair (by assumption) ?_)
    | with_reducible (refine Dev.Wf.ofPairSnd (by assumption) ?_)
    | with_reducible dsimp only)

theorem Dev.wakeSettle_wf (d : Dev) (h_d : d.Wf) :
    Dev.Wf (Dev.wakeSettle d) := by
  unfold Dev.wakeSettle
  try dsimp only
  repeat' (first
    | with_reducible assumption
    | with_reducible apply Dev.wakeFor_wf
    | with_reducible apply Dev.Wf.ite
    | with_reducible (refine Dev.Wf.fold _ ?_ ?_; rotate_left; intro e x he)
    | with_reducible (refine Dev.Wf.foldPair _ ?_ ?_; rotate_left; intro e x he)
    | split
    | simp only [Dev.wf_built]
    | with_reducible apply Dev.Built.other
    | with_reducible apply Dev.Wf.itePair
    | with_reducible (refine Dev.Wf.ofPair (by assumption) ?_)
    | with_reducible (refine Dev.Wf.ofPairSnd (by assumption) ?_)
    | with_reducible dsimp only)

theorem Dev.addEventRaw_wf (d : Dev) (s : Nat) (h_d : d.Wf) :
    Dev.Wf (Dev.addEventRaw d s) := by
  unfold Dev.addEventRaw
  try dsimp only
  repeat' (first
    | with_reducible assumption
    | with_reducible apply Dev.wakeFor_wf
    | with_reducible apply Dev.setSrc_wf
    | with_reducible apply Dev.Wf.ite
    | with_reducible (refine Dev.Wf.fold _ ?_ ?_; rotate_left; intro e x he)
    | with_reducible (refine Dev.Wf.foldPair _ ?_ ?_; rotate_left; intro e x he)
    | split
    | simp only [Dev.wf_built]
    | with_reducible apply Dev.Built.other
    | with_reducible apply Dev.Wf.itePair
    | with_reducible (refine Dev.Wf.ofPair (by assumption) ?_)
    | with_reducible (refine Dev.Wf.ofPairSnd (by assumption) ?_)
    | with_reducible dsimp only)

theorem Dev.setPmcCount_wf (d : Dev) (n : Nat) (v : Nat) (h_d : d.Wf) :
    Dev.Wf (Dev.setPmcCount d n v) := by
  unfold Dev.setPmcCount
  try dsimp only
  repeat' (first
    | with_reducible assumption
    | with_reducible apply Dev.Wf.ite
    | with_reducible (refine Dev.Wf.fold _ ?_ ?_; rotate_left; intro e x he)
    | with_reducible (refine Dev.Wf.foldPair _ ?_ ?_; rotate_left; intro e x he)
    | split
    | simp only [Dev.wf_built]
    | with_reducible apply Dev.Built.other
    | with_reducible apply Dev.Wf.itePair
    | with_reducible (refine Dev.Wf.ofPair (by assumption) ?_)
    | with_reducible (refine Dev.Wf.ofPairSnd (by assumption) ?_)
    | with_reducible dsimp only)

theorem Dev.setOvf_wf (d : Dev) (n : Nat) (h_d : d.Wf) :
    Dev.Wf (Dev.setOvf d n) := by
  unfold Dev.setOvf
  try dsimp only
  repeat' (first
    | with_reducible assumption
    | with_reducible apply Dev.setReg_wf
    | with_reducible apply Dev.Wf.ite
    | with_reducible (refine Dev.Wf.fold _ ?_ ?_; rotate_left; intro e x he)
    | with_reducible (refine Dev.Wf.foldPair _ ?_ ?_; rotate_left; intro e x he)
    | split
    | simp only [Dev.wf_built]
    | with_reducible apply Dev.Built.other
    | with_reducible apply Dev.Wf.itePair
    | with_reducible (refine Dev.Wf.ofPair (by assumption) ?_)
    | with_reducible (refine Dev.Wf.ofPairSnd (by assumption) ?_)
    | with_reducible dsimp only)

theorem Dev.evtBit_wf (d : Dev) (p : Sys2Proof.Page) (b : Nat) (h_d : d.Wf) :
    Dev.Wf (Dev.evtBit d p b) := by
  unfold Dev.evtBit
  try dsimp only
  repeat' (first
    | with_reducible assumption
    | with_reducible apply Dev.setReg_wf
    | with_reducible apply Dev.Wf.ite
    | with_reducible (refine Dev.Wf.fold _ ?_ ?_; rotate_left; intro e x he)
    | with_reducible (refine Dev.Wf.foldPair _ ?_ ?_; rotate_left; intro e x he)
    | split
    | simp only [Dev.wf_built]
    | with_reducible apply Dev.Built.other
    | with_reducible apply Dev.Wf.itePair
    | with_reducible (refine Dev.Wf.ofPair (by assumption) ?_)
    | with_reducible (refine Dev.Wf.ofPairSnd (by assumption) ?_)
    | with_reducible dsimp only)

theorem Dev.pmcAdd_wf (fuel : Nat) (d : Dev) (n : Nat) (h_d : d.Wf) : (Dev.pmcAdd fuel d n).Wf := by
  induction fuel generalizing d n with
  | zero => exact h_d
  | succ fuel ih =>
    unfold Dev.pmcAdd
    dsimp only
    repeat' first
      | assumption
      | with_reducible apply Dev.setPmcCount_wf
      | with_reducible apply Dev.setOvf_wf
      | with_reducible apply Dev.evtBit_wf
      | with_reducible apply Dev.addEventRaw_wf
      | with_reducible apply ih
      | with_reducible apply Dev.Wf.ite
      | (with_reducible apply Dev.Wf.fold; rotate_left; intro e x he)

theorem Dev.pmcOccur_wf (d : Dev) (p : Sys2Proof.Page) (b : Nat) (h_d : d.Wf) :
    Dev.Wf (Dev.pmcOccur d p b) := by
  unfold Dev.pmcOccur
  try dsimp only
  repeat' (first
    | with_reducible assumption
    | with_reducible apply Dev.pmcAdd_wf
    | with_reducible apply Dev.Wf.ite
    | with_reducible (refine Dev.Wf.fold _ ?_ ?_; rotate_left; intro e x he)
    | with_reducible (refine Dev.Wf.foldPair _ ?_ ?_; rotate_left; intro e x he)
    | split
    | simp only [Dev.wf_built]
    | with_reducible apply Dev.Built.other
    | with_reducible apply Dev.Wf.itePair
    | with_reducible (refine Dev.Wf.ofPair (by assumption) ?_)
    | with_reducible (refine Dev.Wf.ofPairSnd (by assumption) ?_)
    | with_reducible dsimp only)

theorem Dev.addEvent_wf (d : Dev) (s : Nat) (h_d : d.Wf) :
    Dev.Wf (Dev.addEvent d s) := by
  unfold Dev.addEvent
  try dsimp only
  repeat' (first
    | with_reducible assumption
    | with_reducible apply Dev.addEventRaw_wf
    | with_reducible apply Dev.evtBit_wf
    | with_reducible apply Dev.pmcOccur_wf
    | with_reducible apply Dev.Wf.ite
    | with_reducible (refine Dev.Wf.fold _ ?_ ?_; rotate_left; intro e x he)
    | with_reducible (refine Dev.Wf.foldPair _ ?_ ?_; rotate_left; intro e x he)
    | split
    | simp only [Dev.wf_built]
    | with_reducible apply Dev.Built.other
    | with_reducible apply Dev.Wf.itePair
    | with_reducible (refine Dev.Wf.ofPair (by assumption) ?_)
    | with_reducible (refine Dev.Wf.ofPairSnd (by assumption) ?_)
    | with_reducible dsimp only)

theorem Dev.levelled_wf (d : Dev) (d' : Dev) (p : Sys2Proof.Page) (h_d : d.Wf) (h_d' : d'.Wf) :
    Dev.Wf (Dev.levelled d d' p) := by
  unfold Dev.levelled
  try dsimp only
  repeat' (first
    | with_reducible assumption
    | with_reducible apply Dev.addEvent_wf
    | with_reducible apply Dev.Wf.ite
    | with_reducible (refine Dev.Wf.fold _ ?_ ?_; rotate_left; intro e x he)
    | with_reducible (refine Dev.Wf.foldPair _ ?_ ?_; rotate_left; intro e x he)
    | split
    | simp only [Dev.wf_built]
    | with_reducible apply Dev.Built.other
    | with_reducible apply Dev.Wf.itePair
    | with_reducible (refine Dev.Wf.ofPair (by assumption) ?_)
    | with_reducible (refine Dev.Wf.ofPairSnd (by assumption) ?_)
    | with_reducible dsimp only)

theorem Dev.setEvt_wf (d : Dev) (p : Sys2Proof.Page) (b : Nat) (h_d : d.Wf) :
    Dev.Wf (Dev.setEvt d p b) := by
  unfold Dev.setEvt
  try dsimp only
  repeat' (first
    | with_reducible assumption
    | with_reducible apply Dev.pmcOccur_wf
    | with_reducible apply Dev.levelled_wf
    | with_reducible apply Dev.evtBit_wf
    | with_reducible apply Dev.Wf.ite
    | with_reducible (refine Dev.Wf.fold _ ?_ ?_; rotate_left; intro e x he)
    | with_reducible (refine Dev.Wf.foldPair _ ?_ ?_; rotate_left; intro e x he)
    | split
    | simp only [Dev.wf_built]
    | with_reducible apply Dev.Built.other
    | with_reducible apply Dev.Wf.itePair
    | with_reducible (refine Dev.Wf.ofPair (by assumption) ?_)
    | with_reducible (refine Dev.Wf.ofPairSnd (by assumption) ?_)
    | with_reducible dsimp only)

theorem Dev.setEvtIf_wf (d : Dev) (c : Bool) (p : Sys2Proof.Page) (b : Nat) (h_d : d.Wf) :
    Dev.Wf (Dev.setEvtIf d c p b) := by
  unfold Dev.setEvtIf
  try dsimp only
  repeat' (first
    | with_reducible assumption
    | with_reducible apply Dev.setEvt_wf
    | with_reducible apply Dev.Wf.ite
    | with_reducible (refine Dev.Wf.fold _ ?_ ?_; rotate_left; intro e x he)
    | with_reducible (refine Dev.Wf.foldPair _ ?_ ?_; rotate_left; intro e x he)
    | split
    | simp only [Dev.wf_built]
    | with_reducible apply Dev.Built.other
    | with_reducible apply Dev.Wf.itePair
    | with_reducible (refine Dev.Wf.ofPair (by assumption) ?_)
    | with_reducible (refine Dev.Wf.ofPairSnd (by assumption) ?_)
    | with_reducible dsimp only)

theorem Dev.addEvt_wf (d : Dev) (p : Sys2Proof.Page) (f : Fld) (n : ℕ) (b : ℕ) (h_d : d.Wf) :
    Dev.Wf (Dev.addEvt d p f n b) := by
  unfold Dev.addEvt
  try dsimp only
  repeat' (first
    | with_reducible assumption
    | with_reducible apply Dev.setEvtIf_wf
    | with_reducible apply Dev.add_wf
    | with_reducible apply Dev.Wf.ite
    | with_reducible (refine Dev.Wf.fold _ ?_ ?_; rotate_left; intro e x he)
    | with_reducible (refine Dev.Wf.foldPair _ ?_ ?_; rotate_left; intro e x he)
    | split
    | simp only [Dev.wf_built]
    | with_reducible apply Dev.Built.other
    | with_reducible apply Dev.Wf.itePair
    | with_reducible (refine Dev.Wf.ofPair (by assumption) ?_)
    | with_reducible (refine Dev.Wf.ofPairSnd (by assumption) ?_)
    | with_reducible dsimp only)

theorem Dev.bwAdd_wf (d : Dev) (port : Nat) (n : Nat) (h_d : d.Wf) :
    Dev.Wf (Dev.bwAdd d port n) := by
  unfold Dev.bwAdd
  try dsimp only
  repeat' (first
    | with_reducible assumption
    | with_reducible apply Dev.Wf.ite
    | with_reducible (refine Dev.Wf.fold _ ?_ ?_; rotate_left; intro e x he)
    | with_reducible (refine Dev.Wf.foldPair _ ?_ ?_; rotate_left; intro e x he)
    | split
    | simp only [Dev.wf_built]
    | with_reducible apply Dev.Built.other
    | with_reducible apply Dev.Wf.itePair
    | with_reducible (refine Dev.Wf.ofPair (by assumption) ?_)
    | with_reducible (refine Dev.Wf.ofPairSnd (by assumption) ?_)
    | with_reducible dsimp only)

theorem Dev.respond_wf (d : Dev) (m : Nat) (r : Resp) (h_d : d.Wf) :
    Dev.Wf (Dev.respond d m r) := by
  unfold Dev.respond
  try dsimp only
  repeat' (first
    | with_reducible assumption
    | with_reducible apply Dev.Wf.ite
    | with_reducible (refine Dev.Wf.fold _ ?_ ?_; rotate_left; intro e x he)
    | with_reducible (refine Dev.Wf.foldPair _ ?_ ?_; rotate_left; intro e x he)
    | split
    | simp only [Dev.wf_built]
    | with_reducible apply Dev.Built.other
    | with_reducible apply Dev.Built.up_resp
    | with_reducible apply Map.wf_put
    | with_reducible apply Map.wf_filter
    | exact rfl
    | with_reducible apply Dev.Wf.resp
    | with_reducible apply Dev.Wf.itePair
    | with_reducible (refine Dev.Wf.ofPair (by assumption) ?_)
    | with_reducible (refine Dev.Wf.ofPairSnd (by assumption) ?_)
    | with_reducible dsimp only)

theorem Dev.resetRegs_wf (d : Dev) (k : ResetKind) (which : Page → Bool) (h_d : d.Wf) : (Dev.resetRegs d k which).Wf :=
  Dev.Built.up_regs h_d (Map.wf_update resetWord _ h_d.regs)

theorem Dev.closeHalves_wf (d : Dev) (h_d : d.Wf) : (Dev.closeHalves d).Wf :=
  Dev.Built.up_regs h_d (Map.wf_update resetWord _ h_d.regs)

end Sys2Proof.Machine
end

