-- ==== Sys2Proof/Laws/WfQueue.lean ====
section
/-! SUPPORT. The operations of Machine/Queue.lean keep every table of the block canonical. -/

set_option linter.unusedTactic false
set_option linter.unreachableTactic false

namespace Sys2Proof.Machine

theorem Dev.setQueue_wf (d : Dev) (q : Nat) (v : QueueI) (h_d : d.Wf) :
    Dev.Wf (Dev.setQueue d q v) := by
  unfold Dev.setQueue
  try dsimp only
  repeat' (first
    | with_reducible assumption
    | with_reducible apply Dev.Wf.ite
    | with_reducible (refine Dev.Wf.fold _ ?_ ?_; rotate_left; intro e x he)
    | with_reducible (refine Dev.Wf.foldPair _ ?_ ?_; rotate_left; intro e x he)
    | split
    | simp only [Dev.wf_built]
    | with_reducible apply Dev.Built.other
    | with_reducible apply Dev.Built.up_queues
    | with_reducible apply Map.wf_put
    | with_reducible apply Map.wf_filter
    | exact rfl
    | with_reducible apply Dev.Wf.queues
    | with_reducible apply Dev.Wf.itePair
    | with_reducible (refine Dev.Wf.ofPair (by assumption) ?_)
    | with_reducible (refine Dev.Wf.ofPairSnd (by assumption) ?_)
    | with_reducible dsimp only)

theorem Dev.qDrop_wf (d : Dev) (q : Nat) (f : Fld) (h_d : d.Wf) :
    Dev.Wf (Dev.qDrop d q f) := by
  unfold Dev.qDrop
  try dsimp only
  repeat' (first
    | with_reducible assumption
    | with_reducible apply Dev.addB_wf
    | with_reducible apply Dev.setEvtIf_wf
    | with_reducible apply Dev.Wf.ite
    | with_reducible (refine Dev.Wf.fold _ ?_ ?_; rotate_left; intro e x he)
    | with_reducible (refine Dev.Wf.foldPair _ ?_ ?_; rotate_left; intro e x he)
    | split
    | simp only [Dev.wf_built]
    | with_reducible apply Dev.Built.other
    | with_reducible apply Dev.Wf.itePair
    | with_reducible (refine Dev.Wf.ofPair (by assumption) ?_)
    | with_reducible (refine Dev.Wf.ofPairSnd (by assumption) ?_)
    | with_reducible dsimp only)

theorem Dev.notice_wf (d : Dev) (n : Nat) (h_d : d.Wf) :
    Dev.Wf (Dev.notice d n) := by
  unfold Dev.notice
  try dsimp only
  repeat' (first
    | with_reducible assumption
    | with_reducible apply Dev.addEvent_wf
    | with_reducible apply Dev.Wf.ite
    | with_reducible (refine Dev.Wf.fold _ ?_ ?_; rotate_left; intro e x he)
    | with_reducible (refine Dev.Wf.foldPair _ ?_ ?_; rotate_left; intro e x he)
    | split
    | simp only [Dev.wf_built]
    | with_reducible apply Dev.Built.other
    | with_reducible apply Dev.Wf.itePair
    | with_reducible (refine Dev.Wf.ofPair (by assumption) ?_)
    | with_reducible (refine Dev.Wf.ofPairSnd (by assumption) ?_)
    | with_reducible dsimp only)

theorem Dev.showLost_wf (d : Dev) (q : Nat) (h_d : d.Wf) :
    Dev.Wf (Dev.showLost d q) := by
  unfold Dev.showLost
  try dsimp only
  repeat' (first
    | with_reducible assumption
    | with_reducible apply Dev.wrB_wf
    | with_reducible apply Dev.Wf.ite
    | with_reducible (refine Dev.Wf.fold _ ?_ ?_; rotate_left; intro e x he)
    | with_reducible (refine Dev.Wf.foldPair _ ?_ ?_; rotate_left; intro e x he)
    | split
    | simp only [Dev.wf_built]
    | with_reducible apply Dev.Built.other
    | with_reducible apply Dev.Wf.itePair
    | with_reducible (refine Dev.Wf.ofPair (by assumption) ?_)
    | with_reducible (refine Dev.Wf.ofPairSnd (by assumption) ?_)
    | with_reducible dsimp only)

theorem Dev.discardOldest_wf (d : Dev) (q : Nat) (h_d : d.Wf) :
    Dev.Wf (Dev.discardOldest d q) := by
  unfold Dev.discardOldest
  try dsimp only
  repeat' (first
    | with_reducible assumption
    | with_reducible apply Dev.addB_wf
    | with_reducible apply Dev.setQueue_wf
    | with_reducible apply Dev.showLost_wf
    | with_reducible apply Dev.setEvtIf_wf
    | with_reducible apply Dev.Wf.ite
    | with_reducible (refine Dev.Wf.fold _ ?_ ?_; rotate_left; intro e x he)
    | with_reducible (refine Dev.Wf.foldPair _ ?_ ?_; rotate_left; intro e x he)
    | split
    | simp only [Dev.wf_built]
    | with_reducible apply Dev.Built.other
    | with_reducible apply Dev.Wf.itePair
    | with_reducible (refine Dev.Wf.ofPair (by assumption) ?_)
    | with_reducible (refine Dev.Wf.ofPairSnd (by assumption) ?_)
    | with_reducible dsimp only)

theorem Dev.ringRoom_wf (fuel : Nat) (d : Dev) (q : Nat) (h_d : d.Wf) : (Dev.ringRoom fuel d q).1.Wf := by
  induction fuel generalizing d with
  | zero => exact h_d
  | succ fuel ih =>
    unfold Dev.ringRoom
    split
    · exact h_d
    · split
      · exact h_d
      · exact ih _ (Dev.discardOldest_wf d q h_d)

theorem Dev.needCell_wf (d : Dev) (q : Nat) (h_d : d.Wf) :
    (Dev.needCell d q).1.Wf := by
  unfold Dev.needCell
  try dsimp only
  repeat' (first
    | with_reducible assumption
    | with_reducible apply Dev.ringRoom_wf
    | with_reducible apply Dev.Wf.ite
    | with_reducible (refine Dev.Wf.fold _ ?_ ?_; rotate_left; intro e x he)
    | with_reducible (refine Dev.Wf.foldPair _ ?_ ?_; rotate_left; intro e x he)
    | split
    | simp only [Dev.wf_built]
    | with_reducible apply Dev.Built.other
    | with_reducible apply Dev.Wf.itePair
    | with_reducible (refine Dev.Wf.ofPair (by assumption) ?_)
    | with_reducible (refine Dev.Wf.ofPairSnd (by assumption) ?_)
    | with_reducible dsimp only)

theorem Dev.setOpen_wf (d : Dev) (port : Nat) (o : OpenPkt) (h_d : d.Wf) :
    Dev.Wf (Dev.setOpen d port o) := by
  unfold Dev.setOpen
  try dsimp only
  repeat' (first
    | with_reducible assumption
    | with_reducible apply Dev.Wf.ite
    | with_reducible (refine Dev.Wf.fold _ ?_ ?_; rotate_left; intro e x he)
    | with_reducible (refine Dev.Wf.foldPair _ ?_ ?_; rotate_left; intro e x he)
    | split
    | simp only [Dev.wf_built]
    | with_reducible apply Dev.Built.other
    | with_reducible apply Dev.Built.up_opens
    | with_reducible apply Map.wf_put
    | with_reducible apply Map.wf_filter
    | exact rfl
    | with_reducible apply Dev.Wf.opens
    | with_reducible apply Dev.Wf.itePair
    | with_reducible (refine Dev.Wf.ofPair (by assumption) ?_)
    | with_reducible (refine Dev.Wf.ofPairSnd (by assumption) ?_)
    | with_reducible dsimp only)

theorem Dev.appendWord_wf (d : Dev) (port : Nat) (w : Sys2Proof.Word) (h_d : d.Wf) :
    Dev.Wf (Dev.appendWord d port w) := by
  unfold Dev.appendWord
  try dsimp only
  repeat' (first
    | with_reducible assumption
    | with_reducible apply Dev.qDrop_wf
    | with_reducible apply Dev.setOpen_wf
    | with_reducible apply Dev.needCell_wf
    | with_reducible apply Dev.Wf.ite
    | with_reducible (refine Dev.Wf.fold _ ?_ ?_; rotate_left; intro e x he)
    | with_reducible (refine Dev.Wf.foldPair _ ?_ ?_; rotate_left; intro e x he)
    | split
    | simp only [Dev.wf_built]
    | with_reducible apply Dev.Built.other
    | with_reducible apply Dev.Wf.itePair
    | with_reducible (refine Dev.Wf.ofPair (by assumption) ?_)
    | with_reducible (refine Dev.Wf.ofPairSnd (by assumption) ?_)
    | with_reducible dsimp only)

theorem Dev.closePkt_wf (d : Dev) (port : Nat) (bytes : Nat) (h_d : d.Wf) :
    Dev.Wf (Dev.closePkt d port bytes) := by
  unfold Dev.closePkt
  try dsimp only
  repeat' (first
    | with_reducible assumption
    | with_reducible apply Dev.setOpen_wf
    | with_reducible apply Dev.setQueue_wf
    | with_reducible apply Dev.notice_wf
    | with_reducible apply Dev.Wf.ite
    | with_reducible (refine Dev.Wf.fold _ ?_ ?_; rotate_left; intro e x he)
    | with_reducible (refine Dev.Wf.foldPair _ ?_ ?_; rotate_left; intro e x he)
    | split
    | simp only [Dev.wf_built]
    | with_reducible apply Dev.Built.other
    | with_reducible apply Dev.Wf.itePair
    | with_reducible (refine Dev.Wf.ofPair (by assumption) ?_)
    | with_reducible (refine Dev.Wf.ofPairSnd (by assumption) ?_)
    | with_reducible dsimp only)

theorem Dev.queuePut_wf (d : Dev) (q : Nat) (words : List Sys2Proof.Word) (bytes : Nat) (h_d : d.Wf) :
    (Dev.queuePut d q words bytes).1.Wf := by
  unfold Dev.queuePut
  try dsimp only
  repeat' (first
    | with_reducible assumption
    | with_reducible apply Dev.appendWord_wf
    | with_reducible apply Dev.setOpen_wf
    | with_reducible apply Dev.closePkt_wf
    | with_reducible apply Dev.Wf.ite
    | with_reducible (refine Dev.Wf.fold _ ?_ ?_; rotate_left; intro e x he)
    | with_reducible (refine Dev.Wf.foldPair _ ?_ ?_; rotate_left; intro e x he)
    | split
    | simp only [Dev.wf_built]
    | with_reducible apply Dev.Built.other
    | with_reducible apply Dev.Wf.itePair
    | with_reducible (refine Dev.Wf.ofPair (by assumption) ?_)
    | with_reducible (refine Dev.Wf.ofPairSnd (by assumption) ?_)
    | with_reducible dsimp only)

theorem Dev.leavePkt_wf (d : Dev) (q : Nat) (h_d : d.Wf) :
    Dev.Wf (Dev.leavePkt d q) := by
  unfold Dev.leavePkt
  try dsimp only
  repeat' (first
    | with_reducible assumption
    | with_reducible apply Dev.setQueue_wf
    | with_reducible apply Dev.Wf.ite
    | with_reducible (refine Dev.Wf.fold _ ?_ ?_; rotate_left; intro e x he)
    | with_reducible (refine Dev.Wf.foldPair _ ?_ ?_; rotate_left; intro e x he)
    | split
    | simp only [Dev.wf_built]
    | with_reducible apply Dev.Built.other
    | with_reducible apply Dev.Wf.itePair
    | with_reducible (refine Dev.Wf.ofPair (by assumption) ?_)
    | with_reducible (refine Dev.Wf.ofPairSnd (by assumption) ?_)
    | with_reducible dsimp only)

theorem Dev.takeWord_wf (d : Dev) (q : Nat) (h_d : d.Wf) :
    (Dev.takeWord d q).1.Wf := by
  unfold Dev.takeWord
  try dsimp only
  repeat' (first
    | with_reducible assumption
    | with_reducible apply Dev.setQueue_wf
    | with_reducible apply Dev.setEvt_wf
    | with_reducible apply Dev.inc_wf
    | with_reducible apply Dev.leavePkt_wf
    | with_reducible apply Dev.Wf.ite
    | with_reducible (refine Dev.Wf.fold _ ?_ ?_; rotate_left; intro e x he)
    | with_reducible (refine Dev.Wf.foldPair _ ?_ ?_; rotate_left; intro e x he)
    | split
    | simp only [Dev.wf_built]
    | with_reducible apply Dev.Built.other
    | with_reducible apply Dev.Wf.itePair
    | with_reducible (refine Dev.Wf.ofPair (by assumption) ?_)
    | with_reducible (refine Dev.Wf.ofPairSnd (by assumption) ?_)
    | with_reducible dsimp only)

theorem Dev.readDone_wf (d : Dev) (m : Nat) (lo : Sys2Proof.Word) (hi : Sys2Proof.Word) (h_d : d.Wf) :
    Dev.Wf (Dev.readDone d m lo hi) := by
  unfold Dev.readDone
  try dsimp only
  repeat' (first
    | with_reducible assumption
    | with_reducible apply Dev.respond_wf
    | with_reducible apply Dev.setReg_wf
    | with_reducible apply Dev.Wf.ite
    | with_reducible (refine Dev.Wf.fold _ ?_ ?_; rotate_left; intro e x he)
    | with_reducible (refine Dev.Wf.foldPair _ ?_ ?_; rotate_left; intro e x he)
    | split
    | simp only [Dev.wf_built]
    | with_reducible apply Dev.Built.other
    | with_reducible apply Dev.Wf.itePair
    | with_reducible (refine Dev.Wf.ofPair (by assumption) ?_)
    | with_reducible (refine Dev.Wf.ofPairSnd (by assumption) ?_)
    | with_reducible dsimp only)

theorem Dev.unstall_wf (d : Dev) (m : Nat) (h_d : d.Wf) :
    Dev.Wf (Dev.unstall d m) := by
  unfold Dev.unstall
  try dsimp only
  repeat' (first
    | with_reducible assumption
    | with_reducible apply Dev.Wf.ite
    | with_reducible (refine Dev.Wf.fold _ ?_ ?_; rotate_left; intro e x he)
    | with_reducible (refine Dev.Wf.foldPair _ ?_ ?_; rotate_left; intro e x he)
    | split
    | simp only [Dev.wf_built]
    | with_reducible apply Dev.Built.other
    | with_reducible apply Dev.Built.up_stalls
    | with_reducible apply Map.wf_put
    | with_reducible apply Map.wf_filter
    | exact rfl
    | with_reducible apply Dev.Wf.stalls
    | with_reducible apply Dev.Wf.itePair
    | with_reducible (refine Dev.Wf.ofPair (by assumption) ?_)
    | with_reducible (refine Dev.Wf.ofPairSnd (by assumption) ?_)
    | with_reducible dsimp only)

theorem Dev.readLo_wf (d : Dev) (m : Nat) (h_d : d.Wf) :
    Dev.Wf (Dev.readLo d m) := by
  unfold Dev.readLo
  try dsimp only
  repeat' (first
    | with_reducible assumption
    | with_reducible apply Dev.takeWord_wf
    | with_reducible apply Dev.readDone_wf
    | with_reducible apply Dev.Wf.ite
    | with_reducible (refine Dev.Wf.fold _ ?_ ?_; rotate_left; intro e x he)
    | with_reducible (refine Dev.Wf.foldPair _ ?_ ?_; rotate_left; intro e x he)
    | split
    | simp only [Dev.wf_built]
    | with_reducible apply Dev.Built.other
    | with_reducible apply Dev.Built.up_stalls
    | with_reducible apply Map.wf_put
    | with_reducible apply Map.wf_filter
    | exact rfl
    | with_reducible apply Dev.Wf.stalls
    | with_reducible apply Dev.Wf.itePair
    | with_reducible (refine Dev.Wf.ofPair (by assumption) ?_)
    | with_reducible (refine Dev.Wf.ofPairSnd (by assumption) ?_)
    | with_reducible dsimp only)

theorem Dev.stallReturn_wf (d : Dev) (m : Nat) (h_d : d.Wf) :
    Dev.Wf (Dev.stallReturn d m) := by
  unfold Dev.stallReturn
  try dsimp only
  repeat' (first
    | with_reducible assumption
    | with_reducible apply Dev.takeWord_wf
    | with_reducible apply Dev.readDone_wf
    | with_reducible apply Dev.unstall_wf
    | with_reducible apply Dev.Wf.ite
    | with_reducible (refine Dev.Wf.fold _ ?_ ?_; rotate_left; intro e x he)
    | with_reducible (refine Dev.Wf.foldPair _ ?_ ?_; rotate_left; intro e x he)
    | split
    | simp only [Dev.wf_built]
    | with_reducible apply Dev.Built.other
    | with_reducible apply Dev.Wf.itePair
    | with_reducible (refine Dev.Wf.ofPair (by assumption) ?_)
    | with_reducible (refine Dev.Wf.ofPairSnd (by assumption) ?_)
    | with_reducible dsimp only)

theorem Dev.stallTimeout_wf (d : Dev) (m : Nat) (h_d : d.Wf) :
    Dev.Wf (Dev.stallTimeout d m) := by
  unfold Dev.stallTimeout
  try dsimp only
  repeat' (first
    | with_reducible assumption
    | with_reducible apply Dev.readDone_wf
    | with_reducible apply Dev.unstall_wf
    | with_reducible apply Dev.Wf.ite
    | with_reducible (refine Dev.Wf.fold _ ?_ ?_; rotate_left; intro e x he)
    | with_reducible (refine Dev.Wf.foldPair _ ?_ ?_; rotate_left; intro e x he)
    | split
    | simp only [Dev.wf_built]
    | with_reducible apply Dev.Built.other
    | with_reducible apply Dev.Wf.itePair
    | with_reducible (refine Dev.Wf.ofPair (by assumption) ?_)
    | with_reducible (refine Dev.Wf.ofPairSnd (by assumption) ?_)
    | with_reducible dsimp only)

theorem Dev.dropRest_wf (d : Dev) (m : Nat) (h_d : d.Wf) :
    Dev.Wf (Dev.dropRest d m) := by
  unfold Dev.dropRest
  try dsimp only
  repeat' (first
    | with_reducible assumption
    | with_reducible apply Dev.leavePkt_wf
    | with_reducible apply Dev.Wf.ite
    | with_reducible (refine Dev.Wf.fold _ ?_ ?_; rotate_left; intro e x he)
    | with_reducible (refine Dev.Wf.foldPair _ ?_ ?_; rotate_left; intro e x he)
    | split
    | simp only [Dev.wf_built]
    | with_reducible apply Dev.Built.other
    | with_reducible apply Dev.Wf.itePair
    | with_reducible (refine Dev.Wf.ofPair (by assumption) ?_)
    | with_reducible (refine Dev.Wf.ofPairSnd (by assumption) ?_)
    | with_reducible dsimp only)

theorem Dev.unpin_wf (d : Dev) (q : Nat) (below : Nat) (h_d : d.Wf) :
    Dev.Wf (Dev.unpin d q below) := by
  unfold Dev.unpin
  try dsimp only
  repeat' (first
    | with_reducible assumption
    | with_reducible apply Dev.setQueue_wf
    | with_reducible apply Dev.Wf.ite
    | with_reducible (refine Dev.Wf.fold _ ?_ ?_; rotate_left; intro e x he)
    | with_reducible (refine Dev.Wf.foldPair _ ?_ ?_; rotate_left; intro e x he)
    | split
    | simp only [Dev.wf_built]
    | with_reducible apply Dev.Built.other
    | with_reducible apply Dev.Wf.itePair
    | with_reducible (refine Dev.Wf.ofPair (by assumption) ?_)
    | with_reducible (refine Dev.Wf.ofPairSnd (by assumption) ?_)
    | with_reducible dsimp only)

theorem Dev.markPlace_wf (d : Dev) (m : Nat) (h_d : d.Wf) :
    Dev.Wf (Dev.markPlace d m) := by
  unfold Dev.markPlace
  try dsimp only
  repeat' (first
    | with_reducible assumption
    | with_reducible apply Dev.unpin_wf
    | with_reducible apply Dev.setQueue_wf
    | with_reducible apply Dev.Wf.ite
    | with_reducible (refine Dev.Wf.fold _ ?_ ?_; rotate_left; intro e x he)
    | with_reducible (refine Dev.Wf.foldPair _ ?_ ?_; rotate_left; intro e x he)
    | split
    | simp only [Dev.wf_built]
    | with_reducible apply Dev.Built.other
    | with_reducible apply Dev.Wf.itePair
    | with_reducible (refine Dev.Wf.ofPair (by assumption) ?_)
    | with_reducible (refine Dev.Wf.ofPairSnd (by assumption) ?_)
    | with_reducible dsimp only)

theorem Dev.markRemove_wf (d : Dev) (m : Nat) (h_d : d.Wf) :
    Dev.Wf (Dev.markRemove d m) := by
  unfold Dev.markRemove
  try dsimp only
  repeat' (first
    | with_reducible assumption
    | with_reducible apply Dev.unpin_wf
    | with_reducible apply Dev.setQueue_wf
    | with_reducible apply Dev.Wf.ite
    | with_reducible (refine Dev.Wf.fold _ ?_ ?_; rotate_left; intro e x he)
    | with_reducible (refine Dev.Wf.foldPair _ ?_ ?_; rotate_left; intro e x he)
    | split
    | simp only [Dev.wf_built]
    | with_reducible apply Dev.Built.other
    | with_reducible apply Dev.Wf.itePair
    | with_reducible (refine Dev.Wf.ofPair (by assumption) ?_)
    | with_reducible (refine Dev.Wf.ofPairSnd (by assumption) ?_)
    | with_reducible dsimp only)

theorem Dev.rewindTo_wf (d : Dev) (m : Nat) (h_d : d.Wf) :
    Dev.Wf (Dev.rewindTo d m) := by
  unfold Dev.rewindTo
  try dsimp only
  repeat' (first
    | with_reducible assumption
    | with_reducible apply Dev.setQueue_wf
    | with_reducible apply Dev.wrB_wf
    | with_reducible apply Dev.Wf.ite
    | with_reducible (refine Dev.Wf.fold _ ?_ ?_; rotate_left; intro e x he)
    | with_reducible (refine Dev.Wf.foldPair _ ?_ ?_; rotate_left; intro e x he)
    | split
    | simp only [Dev.wf_built]
    | with_reducible apply Dev.Built.other
    | with_reducible apply Dev.Wf.itePair
    | with_reducible (refine Dev.Wf.ofPair (by assumption) ?_)
    | with_reducible (refine Dev.Wf.ofPairSnd (by assumption) ?_)
    | with_reducible dsimp only)

theorem Dev.rdCtl_wf (d : Dev) (m : Nat) (v : Sys2Proof.Word) (h_d : d.Wf) :
    Dev.Wf (Dev.rdCtl d m v) := by
  unfold Dev.rdCtl
  try dsimp only
  repeat' (first
    | with_reducible assumption
    | with_reducible apply Dev.dropRest_wf
    | with_reducible apply Dev.markPlace_wf
    | with_reducible apply Dev.markRemove_wf
    | with_reducible apply Dev.rewindTo_wf
    | with_reducible apply Dev.Wf.ite
    | with_reducible (refine Dev.Wf.fold _ ?_ ?_; rotate_left; intro e x he)
    | with_reducible (refine Dev.Wf.foldPair _ ?_ ?_; rotate_left; intro e x he)
    | split
    | simp only [Dev.wf_built]
    | with_reducible apply Dev.Built.other
    | with_reducible apply Dev.Wf.itePair
    | with_reducible (refine Dev.Wf.ofPair (by assumption) ?_)
    | with_reducible (refine Dev.Wf.ofPairSnd (by assumption) ?_)
    | with_reducible dsimp only)

theorem Dev.abandon_wf (d : Dev) (m : Nat) (h_d : d.Wf) :
    Dev.Wf (Dev.abandon d m) := by
  unfold Dev.abandon
  try dsimp only
  repeat' (first
    | with_reducible assumption
    | with_reducible apply Dev.setOpen_wf
    | with_reducible apply Dev.qDrop_wf
    | with_reducible apply Dev.Wf.ite
    | with_reducible (refine Dev.Wf.fold _ ?_ ?_; rotate_left; intro e x he)
    | with_reducible (refine Dev.Wf.foldPair _ ?_ ?_; rotate_left; intro e x he)
    | split
    | simp only [Dev.wf_built]
    | with_reducible apply Dev.Built.other
    | with_reducible apply Dev.Wf.itePair
    | with_reducible (refine Dev.Wf.ofPair (by assumption) ?_)
    | with_reducible (refine Dev.Wf.ofPairSnd (by assumption) ?_)
    | with_reducible dsimp only)

theorem Dev.wrData_wf (d : Dev) (m : Nat) (v : Sys2Proof.Word) (h_d : d.Wf) :
    Dev.Wf (Dev.wrData d m v) := by
  unfold Dev.wrData
  try dsimp only
  repeat' (first
    | with_reducible assumption
    | with_reducible apply Dev.wrB_wf
    | with_reducible apply Dev.setOpen_wf
    | with_reducible apply Dev.setReg_wf
    | with_reducible apply Dev.appendWord_wf
    | with_reducible apply Dev.Wf.ite
    | with_reducible (refine Dev.Wf.fold _ ?_ ?_; rotate_left; intro e x he)
    | with_reducible (refine Dev.Wf.foldPair _ ?_ ?_; rotate_left; intro e x he)
    | split
    | simp only [Dev.wf_built]
    | with_reducible apply Dev.Built.other
    | with_reducible apply Dev.Wf.itePair
    | with_reducible (refine Dev.Wf.ofPair (by assumption) ?_)
    | with_reducible (refine Dev.Wf.ofPairSnd (by assumption) ?_)
    | with_reducible dsimp only)

theorem Dev.wrEndWrite_wf (d : Dev) (m : Nat) (bytes : Nat) (h_d : d.Wf) :
    Dev.Wf (Dev.wrEndWrite d m bytes) := by
  unfold Dev.wrEndWrite
  try dsimp only
  repeat' (first
    | with_reducible assumption
    | with_reducible apply Dev.closePkt_wf
    | with_reducible apply Dev.Wf.ite
    | with_reducible (refine Dev.Wf.fold _ ?_ ?_; rotate_left; intro e x he)
    | with_reducible (refine Dev.Wf.foldPair _ ?_ ?_; rotate_left; intro e x he)
    | split
    | simp only [Dev.wf_built]
    | with_reducible apply Dev.Built.other
    | with_reducible apply Dev.Wf.itePair
    | with_reducible (refine Dev.Wf.ofPair (by assumption) ?_)
    | with_reducible (refine Dev.Wf.ofPairSnd (by assumption) ?_)
    | with_reducible dsimp only)

theorem Dev.emptyQueue_wf (d : Dev) (q : Nat) (h_d : d.Wf) :
    Dev.Wf (Dev.emptyQueue d q) := by
  unfold Dev.emptyQueue
  try dsimp only
  repeat' (first
    | with_reducible assumption
    | with_reducible apply Dev.setQueue_wf
    | with_reducible apply Dev.wrB_wf
    | with_reducible apply Dev.qDrop_wf
    | with_reducible apply Dev.setOpen_wf
    | with_reducible apply Dev.Wf.ite
    | with_reducible (refine Dev.Wf.fold _ ?_ ?_; rotate_left; intro e x he)
    | with_reducible (refine Dev.Wf.foldPair _ ?_ ?_; rotate_left; intro e x he)
    | split
    | simp only [Dev.wf_built]
    | with_reducible apply Dev.Built.other
    | with_reducible apply Dev.Wf.itePair
    | with_reducible (refine Dev.Wf.ofPair (by assumption) ?_)
    | with_reducible (refine Dev.Wf.ofPairSnd (by assumption) ?_)
    | with_reducible dsimp only)

theorem Dev.qCfgApply_wf (d : Dev) (v : Sys2Proof.Word) (h_d : d.Wf) :
    Dev.Wf (Dev.qCfgApply d v) := by
  unfold Dev.qCfgApply
  try dsimp only
  repeat' (first
    | with_reducible assumption
    | with_reducible apply Dev.emptyQueue_wf
    | with_reducible apply Dev.Wf.ite
    | with_reducible (refine Dev.Wf.fold _ ?_ ?_; rotate_left; intro e x he)
    | with_reducible (refine Dev.Wf.foldPair _ ?_ ?_; rotate_left; intro e x he)
    | split
    | simp only [Dev.wf_built]
    | with_reducible apply Dev.Built.other
    | with_reducible apply Dev.Wf.itePair
    | with_reducible (refine Dev.Wf.ofPair (by assumption) ?_)
    | with_reducible (refine Dev.Wf.ofPairSnd (by assumption) ?_)
    | with_reducible dsimp only)

theorem Dev.qmgCtl_wf (d : Dev) (v : Sys2Proof.Word) (h_d : d.Wf) :
    Dev.Wf (Dev.qmgCtl d v) := by
  unfold Dev.qmgCtl
  try dsimp only
  repeat' (first
    | with_reducible assumption
    | with_reducible apply Dev.wr_wf
    | with_reducible apply Dev.Wf.ite
    | with_reducible (refine Dev.Wf.fold _ ?_ ?_; rotate_left; intro e x he)
    | with_reducible (refine Dev.Wf.foldPair _ ?_ ?_; rotate_left; intro e x he)
    | split
    | simp only [Dev.wf_built]
    | with_reducible apply Dev.Built.other
    | with_reducible apply Dev.Built.up_regs
    | with_reducible apply Map.wf_put
    | with_reducible apply Map.wf_filter
    | exact rfl
    | with_reducible apply Dev.Wf.regs
    | with_reducible apply Dev.Wf.itePair
    | with_reducible (refine Dev.Wf.ofPair (by assumption) ?_)
    | with_reducible (refine Dev.Wf.ofPairSnd (by assumption) ?_)
    | with_reducible dsimp only)

theorem Dev.sramPut_wf (d : Dev) (k : Nat) (w : Sys2Proof.Word) (h_d : d.Wf) :
    Dev.Wf (Dev.sramPut d k w) := by
  unfold Dev.sramPut
  try dsimp only
  repeat' (first
    | with_reducible assumption
    | with_reducible apply Dev.Wf.ite
    | with_reducible (refine Dev.Wf.fold _ ?_ ?_; rotate_left; intro e x he)
    | with_reducible (refine Dev.Wf.foldPair _ ?_ ?_; rotate_left; intro e x he)
    | split
    | simp only [Dev.wf_built]
    | with_reducible apply Dev.Built.other
    | with_reducible apply Dev.Built.up_sram
    | with_reducible apply Map.wf_put
    | with_reducible apply Map.wf_filter
    | exact rfl
    | with_reducible apply Dev.Wf.sram
    | with_reducible apply Dev.Wf.itePair
    | with_reducible (refine Dev.Wf.ofPair (by assumption) ?_)
    | with_reducible (refine Dev.Wf.ofPairSnd (by assumption) ?_)
    | with_reducible dsimp only)

theorem Dev.takePkt_wf (fuel : Nat) (d : Dev) (q : Nat) (ws : List Word) (p l : Bool) (h_d : d.Wf) :
    (Dev.takePkt fuel d q ws p l).1.Wf := by
  induction fuel generalizing d ws p l with
  | zero => exact h_d
  | succ fuel ih =>
    have ht := Dev.takeWord_wf d q h_d
    unfold Dev.takePkt
    split
    · rename_i e
      rw [e] at ht
      exact ht
    · rename_i e
      rw [e] at ht
      dsimp only
      split
      · exact ht
      · exact ih _ _ _ _ ht

theorem Dev.dmaToRing_wf (d : Dev) (c : ℕ) (h_d : d.Wf) :
    Dev.Wf (Dev.dmaToRing d c) := by
  unfold Dev.dmaToRing
  try dsimp only
  repeat' (first
    | with_reducible assumption
    | with_reducible apply Dev.qDrop_wf
    | with_reducible apply Dev.leavePkt_wf
    | with_reducible apply Dev.takePkt_wf
    | with_reducible apply Dev.sramPut_wf
    | with_reducible apply Dev.wr_wf
    | with_reducible apply Dev.bwAdd_wf
    | with_reducible apply Dev.notice_wf
    | with_reducible apply Dev.Wf.ite
    | with_reducible (refine Dev.Wf.fold _ ?_ ?_; rotate_left; intro e x he)
    | with_reducible (refine Dev.Wf.foldPair _ ?_ ?_; rotate_left; intro e x he)
    | split
    | simp only [Dev.wf_built]
    | with_reducible apply Dev.Built.other
    | with_reducible apply Dev.Wf.itePair
    | with_reducible (refine Dev.Wf.ofPair (by assumption) ?_)
    | with_reducible (refine Dev.Wf.ofPairSnd (by assumption) ?_)
    | with_reducible dsimp only)

theorem Dev.dmaToQueue_wf (d : Dev) (c : ℕ) (h_d : d.Wf) :
    Dev.Wf (Dev.dmaToQueue d c) := by
  unfold Dev.dmaToQueue
  try dsimp only
  repeat' (first
    | with_reducible assumption
    | with_reducible apply Dev.setEvt_wf
    | with_reducible apply Dev.wr_wf
    | with_reducible apply Dev.bwAdd_wf
    | with_reducible apply Dev.queuePut_wf
    | with_reducible apply Dev.notice_wf
    | with_reducible apply Dev.Wf.ite
    | with_reducible (refine Dev.Wf.fold _ ?_ ?_; rotate_left; intro e x he)
    | with_reducible (refine Dev.Wf.foldPair _ ?_ ?_; rotate_left; intro e x he)
    | split
    | simp only [Dev.wf_built]
    | with_reducible apply Dev.Built.other
    | with_reducible apply Dev.Wf.itePair
    | with_reducible (refine Dev.Wf.ofPair (by assumption) ?_)
    | with_reducible (refine Dev.Wf.ofPairSnd (by assumption) ?_)
    | with_reducible dsimp only)

theorem Dev.dmaCfgApply_wf (d : Dev) (c : Nat) (v : Sys2Proof.Word) (h_d : d.Wf) :
    Dev.Wf (Dev.dmaCfgApply d c v) := by
  unfold Dev.dmaCfgApply
  try dsimp only
  repeat' (first
    | with_reducible assumption
    | with_reducible apply Dev.wr_wf
    | with_reducible apply Dev.Wf.ite
    | with_reducible (refine Dev.Wf.fold _ ?_ ?_; rotate_left; intro e x he)
    | with_reducible (refine Dev.Wf.foldPair _ ?_ ?_; rotate_left; intro e x he)
    | split
    | simp only [Dev.wf_built]
    | with_reducible apply Dev.Built.other
    | with_reducible apply Dev.Wf.itePair
    | with_reducible (refine Dev.Wf.ofPair (by assumption) ?_)
    | with_reducible (refine Dev.Wf.ofPairSnd (by assumption) ?_)
    | with_reducible dsimp only)

theorem Dev.queuesClear_wf (d : Dev) (h_d : d.Wf) : (Dev.queuesClear d).Wf :=
  { h_d with queues := rfl, opens := rfl, stalls := rfl }

end Sys2Proof.Machine
end

