-- ==== Sys2Proof/Laws/WfTiles.lean ====
section
/-! SUPPORT. The operations of Machine/Tiles.lean keep every table of the block canonical. -/

set_option linter.unusedTactic false
set_option linter.unreachableTactic false

namespace Sys2Proof.Machine

theorem Dev.setLane_wf (d : Dev) (l : Nat) (v : LaneI) (h_d : d.Wf) :
    Dev.Wf (Dev.setLane d l v) := by
  unfold Dev.setLane
  try dsimp only
  repeat' (first
    | with_reducible assumption
    | with_reducible apply Dev.Wf.ite
    | with_reducible (refine Dev.Wf.fold _ ?_ ?_; rotate_left; intro e x he)
    | with_reducible (refine Dev.Wf.foldPair _ ?_ ?_; rotate_left; intro e x he)
    | split
    | simp only [Dev.wf_built]
    | with_reducible apply Dev.Built.other
    | with_reducible apply Dev.Built.up_lanes
    | with_reducible apply Map.wf_put
    | with_reducible apply Map.wf_filter
    | exact rfl
    | with_reducible apply Dev.Wf.lanes
    | with_reducible apply Dev.Wf.itePair
    | with_reducible (refine Dev.Wf.ofPair (by assumption) ?_)
    | with_reducible (refine Dev.Wf.ofPairSnd (by assumption) ?_)
    | with_reducible dsimp only)

theorem Dev.setFramer_wf (d : Dev) (l : Nat) (v : FramerI) (h_d : d.Wf) :
    Dev.Wf (Dev.setFramer d l v) := by
  unfold Dev.setFramer
  try dsimp only
  repeat' (first
    | with_reducible assumption
    | with_reducible apply Dev.Wf.ite
    | with_reducible (refine Dev.Wf.fold _ ?_ ?_; rotate_left; intro e x he)
    | with_reducible (refine Dev.Wf.foldPair _ ?_ ?_; rotate_left; intro e x he)
    | split
    | simp only [Dev.wf_built]
    | with_reducible apply Dev.Built.other
    | with_reducible apply Dev.Built.up_framers
    | with_reducible apply Map.wf_put
    | with_reducible apply Map.wf_filter
    | exact rfl
    | with_reducible apply Dev.Wf.framers
    | with_reducible apply Dev.Wf.itePair
    | with_reducible (refine Dev.Wf.ofPair (by assumption) ?_)
    | with_reducible (refine Dev.Wf.ofPairSnd (by assumption) ?_)
    | with_reducible dsimp only)

theorem Dev.setTile_wf (d : Dev) (t : Nat) (v : TileI) (h_d : d.Wf) :
    Dev.Wf (Dev.setTile d t v) := by
  unfold Dev.setTile
  try dsimp only
  repeat' (first
    | with_reducible assumption
    | with_reducible apply Dev.Wf.ite
    | with_reducible (refine Dev.Wf.fold _ ?_ ?_; rotate_left; intro e x he)
    | with_reducible (refine Dev.Wf.foldPair _ ?_ ?_; rotate_left; intro e x he)
    | split
    | simp only [Dev.wf_built]
    | with_reducible apply Dev.Built.other
    | with_reducible apply Dev.Built.up_tiles
    | with_reducible apply Map.wf_put
    | with_reducible apply Map.wf_filter
    | exact rfl
    | with_reducible apply Dev.Wf.tiles
    | with_reducible apply Dev.Wf.itePair
    | with_reducible (refine Dev.Wf.ofPair (by assumption) ?_)
    | with_reducible (refine Dev.Wf.ofPairSnd (by assumption) ?_)
    | with_reducible dsimp only)

theorem Dev.setPm_wf (d : Dev) (l : Nat) (v : PmI) (h_d : d.Wf) :
    Dev.Wf (Dev.setPm d l v) := by
  unfold Dev.setPm
  try dsimp only
  repeat' (first
    | with_reducible assumption
    | with_reducible apply Dev.Wf.ite
    | with_reducible (refine Dev.Wf.fold _ ?_ ?_; rotate_left; intro e x he)
    | with_reducible (refine Dev.Wf.foldPair _ ?_ ?_; rotate_left; intro e x he)
    | split
    | simp only [Dev.wf_built]
    | with_reducible apply Dev.Built.other
    | with_reducible apply Dev.Built.up_pm
    | with_reducible apply Map.wf_put
    | with_reducible apply Map.wf_filter
    | exact rfl
    | with_reducible apply Dev.Wf.pm
    | with_reducible apply Dev.Wf.itePair
    | with_reducible (refine Dev.Wf.ofPair (by assumption) ?_)
    | with_reducible (refine Dev.Wf.ofPairSnd (by assumption) ?_)
    | with_reducible dsimp only)

theorem Dev.setTlr_wf (d : Dev) (n : Nat) (v : TlRxI) (h_d : d.Wf) :
    Dev.Wf (Dev.setTlr d n v) := by
  unfold Dev.setTlr
  try dsimp only
  repeat' (first
    | with_reducible assumption
    | with_reducible apply Dev.Wf.ite
    | with_reducible (refine Dev.Wf.fold _ ?_ ?_; rotate_left; intro e x he)
    | with_reducible (refine Dev.Wf.foldPair _ ?_ ?_; rotate_left; intro e x he)
    | split
    | simp only [Dev.wf_built]
    | with_reducible apply Dev.Built.other
    | with_reducible apply Dev.Built.up_tlrx
    | with_reducible apply Map.wf_put
    | with_reducible apply Map.wf_filter
    | exact rfl
    | with_reducible apply Dev.Wf.tlrx
    | with_reducible apply Dev.Wf.itePair
    | with_reducible (refine Dev.Wf.ofPair (by assumption) ?_)
    | with_reducible (refine Dev.Wf.ofPairSnd (by assumption) ?_)
    | with_reducible dsimp only)

theorem Dev.setTlt_wf (d : Dev) (n : Nat) (v : TlTxI) (h_d : d.Wf) :
    Dev.Wf (Dev.setTlt d n v) := by
  unfold Dev.setTlt
  try dsimp only
  repeat' (first
    | with_reducible assumption
    | with_reducible apply Dev.Wf.ite
    | with_reducible (refine Dev.Wf.fold _ ?_ ?_; rotate_left; intro e x he)
    | with_reducible (refine Dev.Wf.foldPair _ ?_ ?_; rotate_left; intro e x he)
    | split
    | simp only [Dev.wf_built]
    | with_reducible apply Dev.Built.other
    | with_reducible apply Dev.Built.up_tltx
    | with_reducible apply Map.wf_put
    | with_reducible apply Map.wf_filter
    | exact rfl
    | with_reducible apply Dev.Wf.tltx
    | with_reducible apply Dev.Wf.itePair
    | with_reducible (refine Dev.Wf.ofPair (by assumption) ?_)
    | with_reducible (refine Dev.Wf.ofPairSnd (by assumption) ?_)
    | with_reducible dsimp only)

theorem Dev.rxWr_wf (d : Dev) (l : Nat) (fl : Fld) (ft : Fld) (v : Nat) (h_d : d.Wf) :
    Dev.Wf (Dev.rxWr d l fl ft v) := by
  unfold Dev.rxWr
  try dsimp only
  repeat' (first
    | with_reducible assumption
    | with_reducible apply Dev.wr_wf
    | with_reducible apply Dev.Wf.ite
    | with_reducible (refine Dev.Wf.fold _ ?_ ?_; rotate_left; intro e x he)
    | with_reducible (refine Dev.Wf.foldPair _ ?_ ?_; rotate_left; intro e x he)
    | split
    | simp only [Dev.wf_built]
    | with_reducible apply Dev.Built.other
    | with_reducible apply Dev.Wf.itePair
    | with_reducible (refine Dev.Wf.ofPair (by assumption) ?_)
    | with_reducible (refine Dev.Wf.ofPairSnd (by assumption) ?_)
    | with_reducible dsimp only)

theorem Dev.rxAdd_wf (d : Dev) (l : Nat) (fl : Fld) (ft : Fld) (n : Nat) (h_d : d.Wf) :
    Dev.Wf (Dev.rxAdd d l fl ft n) := by
  unfold Dev.rxAdd
  try dsimp only
  repeat' (first
    | with_reducible assumption
    | with_reducible apply Dev.add_wf
    | with_reducible apply Dev.Wf.ite
    | with_reducible (refine Dev.Wf.fold _ ?_ ?_; rotate_left; intro e x he)
    | with_reducible (refine Dev.Wf.foldPair _ ?_ ?_; rotate_left; intro e x he)
    | split
    | simp only [Dev.wf_built]
    | with_reducible apply Dev.Built.other
    | with_reducible apply Dev.Wf.itePair
    | with_reducible (refine Dev.Wf.ofPair (by assumption) ?_)
    | with_reducible (refine Dev.Wf.ofPairSnd (by assumption) ?_)
    | with_reducible dsimp only)

theorem Dev.setCrs_wf (d : Dev) (t : Nat) (v : Nat) (h_d : d.Wf) :
    Dev.Wf (Dev.setCrs d t v) := by
  unfold Dev.setCrs
  try dsimp only
  repeat' (first
    | with_reducible assumption
    | with_reducible apply Dev.wr_wf
    | with_reducible apply Dev.Wf.ite
    | with_reducible (refine Dev.Wf.fold _ ?_ ?_; rotate_left; intro e x he)
    | with_reducible (refine Dev.Wf.foldPair _ ?_ ?_; rotate_left; intro e x he)
    | split
    | simp only [Dev.wf_built]
    | with_reducible apply Dev.Built.other
    | with_reducible apply Dev.Wf.itePair
    | with_reducible (refine Dev.Wf.ofPair (by assumption) ?_)
    | with_reducible (refine Dev.Wf.ofPairSnd (by assumption) ?_)
    | with_reducible dsimp only)

theorem Dev.setPos_wf (d : Dev) (t : Nat) (p : Int) (h_d : d.Wf) :
    Dev.Wf (Dev.setPos d t p) := by
  unfold Dev.setPos
  try dsimp only
  repeat' (first
    | with_reducible assumption
    | with_reducible apply Dev.wr_wf
    | with_reducible apply Dev.Wf.ite
    | with_reducible (refine Dev.Wf.fold _ ?_ ?_; rotate_left; intro e x he)
    | with_reducible (refine Dev.Wf.foldPair _ ?_ ?_; rotate_left; intro e x he)
    | split
    | simp only [Dev.wf_built]
    | with_reducible apply Dev.Built.other
    | with_reducible apply Dev.Wf.itePair
    | with_reducible (refine Dev.Wf.ofPair (by assumption) ?_)
    | with_reducible (refine Dev.Wf.ofPairSnd (by assumption) ?_)
    | with_reducible dsimp only)

end Sys2Proof.Machine
end

