-- ==== Sys2Proof/Laws/WfDefects.lean ====
section
/-! SUPPORT. The operations of Machine/Defects.lean keep every table of the block canonical. -/

set_option linter.unusedTactic false
set_option linter.unreachableTactic false

namespace Sys2Proof.Machine

theorem Dev.setDef_wf (d : Dev) (l : Nat) (new : Nat) (h_d : d.Wf) :
    Dev.Wf (Dev.setDef d l new) := by
  unfold Dev.setDef
  try dsimp only
  repeat' (first
    | with_reducible assumption
    | with_reducible apply Dev.setReg_wf
    | with_reducible apply Dev.setEvt_wf
    | with_reducible apply Dev.setPm_wf
    | with_reducible apply Dev.Wf.ite
    | with_reducible (refine Dev.Wf.fold _ ?_ ?_; rotate_left; intro e x he)
    | with_reducible (refine Dev.Wf.foldPair _ ?_ ?_; rotate_left; intro e x he)
    | split
    | simp only [Dev.wf_built]
    | with_reducible apply Dev.Built.other
    | with_reducible apply Dev.Wf.itePair
    | with_reducible (refine Dev.Wf.ofPair (by assumption) ?_)
    | with_reducible (refine Dev.Wf.ofPairSnd (by assumption) ?_)
    | with_reducible dsimp only)

theorem Dev.defSettle_wf (d : Dev) (l : Nat) (h_d : d.Wf) :
    Dev.Wf (Dev.defSettle d l) := by
  unfold Dev.defSettle
  try dsimp only
  repeat' (first
    | with_reducible assumption
    | with_reducible apply Dev.setDef_wf
    | with_reducible apply Dev.Wf.ite
    | with_reducible (refine Dev.Wf.fold _ ?_ ?_; rotate_left; intro e x he)
    | with_reducible (refine Dev.Wf.foldPair _ ?_ ?_; rotate_left; intro e x he)
    | split
    | simp only [Dev.wf_built]
    | with_reducible apply Dev.Built.other
    | with_reducible apply Dev.Wf.itePair
    | with_reducible (refine Dev.Wf.ofPair (by assumption) ?_)
    | with_reducible (refine Dev.Wf.ofPairSnd (by assumption) ?_)
    | with_reducible dsimp only)

theorem Dev.setGroup_wf (d : Dev) (g : Nat) (v : GroupI) (h_d : d.Wf) :
    Dev.Wf (Dev.setGroup d g v) := by
  unfold Dev.setGroup
  try dsimp only
  repeat' (first
    | with_reducible assumption
    | with_reducible apply Dev.Wf.ite
    | with_reducible (refine Dev.Wf.fold _ ?_ ?_; rotate_left; intro e x he)
    | with_reducible (refine Dev.Wf.foldPair _ ?_ ?_; rotate_left; intro e x he)
    | split
    | simp only [Dev.wf_built]
    | with_reducible apply Dev.Built.other
    | with_reducible apply Dev.Built.up_groups
    | with_reducible apply Map.wf_put
    | with_reducible apply Map.wf_filter
    | exact rfl
    | with_reducible apply Dev.Wf.groups
    | with_reducible apply Dev.Wf.itePair
    | with_reducible (refine Dev.Wf.ofPair (by assumption) ?_)
    | with_reducible (refine Dev.Wf.ofPairSnd (by assumption) ?_)
    | with_reducible dsimp only)

theorem Dev.setSel_wf (d : Dev) (g : Nat) (sel : Nat) (h_d : d.Wf) :
    Dev.Wf (Dev.setSel d g sel) := by
  unfold Dev.setSel
  try dsimp only
  repeat' (first
    | with_reducible assumption
    | with_reducible apply Dev.wrB_wf
    | with_reducible apply Dev.setReg_wf
    | with_reducible apply Dev.setEvt_wf
    | with_reducible apply Dev.addB_wf
    | with_reducible apply Dev.Wf.ite
    | with_reducible (refine Dev.Wf.fold _ ?_ ?_; rotate_left; intro e x he)
    | with_reducible (refine Dev.Wf.foldPair _ ?_ ?_; rotate_left; intro e x he)
    | split
    | simp only [Dev.wf_built]
    | with_reducible apply Dev.Built.other
    | with_reducible apply Dev.Wf.itePair
    | with_reducible (refine Dev.Wf.ofPair (by assumption) ?_)
    | with_reducible (refine Dev.Wf.ofPairSnd (by assumption) ?_)
    | with_reducible dsimp only)

theorem Dev.groupOff_wf (d : Dev) (g : Nat) (h_d : d.Wf) :
    Dev.Wf (Dev.groupOff d g) := by
  unfold Dev.groupOff
  try dsimp only
  repeat' (first
    | with_reducible assumption
    | with_reducible apply Dev.setGroup_wf
    | with_reducible apply Dev.setSel_wf
    | with_reducible apply Dev.setReg_wf
    | with_reducible apply Dev.Wf.ite
    | with_reducible (refine Dev.Wf.fold _ ?_ ?_; rotate_left; intro e x he)
    | with_reducible (refine Dev.Wf.foldPair _ ?_ ?_; rotate_left; intro e x he)
    | split
    | simp only [Dev.wf_built]
    | with_reducible apply Dev.Built.other
    | with_reducible apply Dev.Wf.itePair
    | with_reducible (refine Dev.Wf.ofPair (by assumption) ?_)
    | with_reducible (refine Dev.Wf.ofPairSnd (by assumption) ?_)
    | with_reducible dsimp only)

theorem Dev.groupSettle_wf (d : Dev) (g : Nat) (h_d : d.Wf) :
    Dev.Wf (Dev.groupSettle d g) := by
  unfold Dev.groupSettle
  try dsimp only
  repeat' (first
    | with_reducible assumption
    | with_reducible apply Dev.groupOff_wf
    | with_reducible apply Dev.wrB_wf
    | with_reducible apply Dev.setEvtIf_wf
    | with_reducible apply Dev.setGroup_wf
    | with_reducible apply Dev.setSel_wf
    | with_reducible apply Dev.Wf.ite
    | with_reducible (refine Dev.Wf.fold _ ?_ ?_; rotate_left; intro e x he)
    | with_reducible (refine Dev.Wf.foldPair _ ?_ ?_; rotate_left; intro e x he)
    | split
    | simp only [Dev.wf_built]
    | with_reducible apply Dev.Built.other
    | with_reducible apply Dev.Wf.itePair
    | with_reducible (refine Dev.Wf.ofPair (by assumption) ?_)
    | with_reducible (refine Dev.Wf.ofPairSnd (by assumption) ?_)
    | with_reducible dsimp only)

theorem Dev.protSettle_wf (d : Dev) (h_d : d.Wf) :
    Dev.Wf (Dev.protSettle d) := by
  unfold Dev.protSettle
  try dsimp only
  repeat' (first
    | with_reducible assumption
    | with_reducible apply Dev.groupSettle_wf
    | with_reducible apply Dev.Wf.ite
    | with_reducible (refine Dev.Wf.fold _ ?_ ?_; rotate_left; intro e x he)
    | with_reducible (refine Dev.Wf.foldPair _ ?_ ?_; rotate_left; intro e x he)
    | split
    | simp only [Dev.wf_built]
    | with_reducible apply Dev.Built.other
    | with_reducible apply Dev.Wf.itePair
    | with_reducible (refine Dev.Wf.ofPair (by assumption) ?_)
    | with_reducible (refine Dev.Wf.ofPairSnd (by assumption) ?_)
    | with_reducible dsimp only)

end Sys2Proof.Machine
end

