-- ==== Sys2Proof/Laws/WfAligner.lean ====
section
/-! SUPPORT. The operations of Machine/Aligner.lean keep every table of the block canonical. -/

set_option linter.unusedTactic false
set_option linter.unreachableTactic false

namespace Sys2Proof.Machine

theorem Dev.tileIdle_wf (d : Dev) (t : ℕ) (h_d : d.Wf) :
    Dev.Wf (Dev.tileIdle d t) := by
  unfold Dev.tileIdle
  try dsimp only
  repeat' (first
    | with_reducible assumption
    | with_reducible apply Dev.setTile_wf
    | with_reducible apply Dev.setPos_wf
    | with_reducible apply Dev.setCrs_wf
    | with_reducible apply Dev.Wf.ite
    | with_reducible (refine Dev.Wf.fold _ ?_ ?_; rotate_left; intro e x he)
    | with_reducible (refine Dev.Wf.foldPair _ ?_ ?_; rotate_left; intro e x he)
    | split
    | simp only [Dev.wf_built]
    | with_reducible apply Dev.Built.other
    | with_reducible apply Dev.Wf.itePair
    | with_reducible (refine Dev.Wf.ofPair (by assumption) ?_)
    | with_reducible (refine Dev.Wf.ofPairSnd (by assumption) ?_)
    | with_reducible dsimp only)

theorem Dev.tileSettle_wf (d : Dev) (t : Nat) (h_d : d.Wf) :
    Dev.Wf (Dev.tileSettle d t) := by
  unfold Dev.tileSettle
  try dsimp only
  repeat' (first
    | with_reducible assumption
    | with_reducible apply Dev.setCrs_wf
    | with_reducible apply Dev.tileIdle_wf
    | with_reducible apply Dev.Wf.ite
    | with_reducible (refine Dev.Wf.fold _ ?_ ?_; rotate_left; intro e x he)
    | with_reducible (refine Dev.Wf.foldPair _ ?_ ?_; rotate_left; intro e x he)
    | split
    | simp only [Dev.wf_built]
    | with_reducible apply Dev.Built.other
    | with_reducible apply Dev.Wf.itePair
    | with_reducible (refine Dev.Wf.ofPair (by assumption) ?_)
    | with_reducible (refine Dev.Wf.ofPairSnd (by assumption) ?_)
    | with_reducible dsimp only)

theorem Dev.laneSettle_wf (d : Dev) (l : Nat) (h_d : d.Wf) :
    Dev.Wf (Dev.laneSettle d l) := by
  unfold Dev.laneSettle
  try dsimp only
  repeat' (first
    | with_reducible assumption
    | with_reducible apply Dev.tileSettle_wf
    | with_reducible apply Dev.defSettle_wf
    | with_reducible apply Dev.protSettle_wf
    | with_reducible apply Dev.Wf.ite
    | with_reducible (refine Dev.Wf.fold _ ?_ ?_; rotate_left; intro e x he)
    | with_reducible (refine Dev.Wf.foldPair _ ?_ ?_; rotate_left; intro e x he)
    | split
    | simp only [Dev.wf_built]
    | with_reducible apply Dev.Built.other
    | with_reducible apply Dev.Wf.itePair
    | with_reducible (refine Dev.Wf.ofPair (by assumption) ?_)
    | with_reducible (refine Dev.Wf.ofPairSnd (by assumption) ?_)
    | with_reducible dsimp only)

theorem Dev.bondEvt_wf (d : Dev) (ts : List Nat) (b : Nat) (h_d : d.Wf) :
    Dev.Wf (Dev.bondEvt d ts b) := by
  unfold Dev.bondEvt
  try dsimp only
  repeat' (first
    | with_reducible assumption
    | with_reducible apply Dev.setEvt_wf
    | with_reducible apply Dev.Wf.ite
    | with_reducible (refine Dev.Wf.fold _ ?_ ?_; rotate_left; intro e x he)
    | with_reducible (refine Dev.Wf.foldPair _ ?_ ?_; rotate_left; intro e x he)
    | split
    | simp only [Dev.wf_built]
    | with_reducible apply Dev.Built.other
    | with_reducible apply Dev.Wf.itePair
    | with_reducible (refine Dev.Wf.ofPair (by assumption) ?_)
    | with_reducible (refine Dev.Wf.ofPairSnd (by assumption) ?_)
    | with_reducible dsimp only)

theorem Dev.bondCount_wf (d : Dev) (ts : List Nat) (fl : Fld) (ft : Fld) (h_d : d.Wf) :
    Dev.Wf (Dev.bondCount d ts fl ft) := by
  unfold Dev.bondCount
  try dsimp only
  repeat' (first
    | with_reducible assumption
    | with_reducible apply Dev.rxAdd_wf
    | with_reducible apply Dev.Wf.ite
    | with_reducible (refine Dev.Wf.fold _ ?_ ?_; rotate_left; intro e x he)
    | with_reducible (refine Dev.Wf.foldPair _ ?_ ?_; rotate_left; intro e x he)
    | split
    | simp only [Dev.wf_built]
    | with_reducible apply Dev.Built.other
    | with_reducible apply Dev.Wf.itePair
    | with_reducible (refine Dev.Wf.ofPair (by assumption) ?_)
    | with_reducible (refine Dev.Wf.ofPairSnd (by assumption) ?_)
    | with_reducible dsimp only)

theorem Dev.bondState_wf (d : Dev) (ts : List Nat) (s : Nat) (h_d : d.Wf) :
    Dev.Wf (Dev.bondState d ts s) := by
  unfold Dev.bondState
  try dsimp only
  repeat' (first
    | with_reducible assumption
    | with_reducible apply Dev.setTile_wf
    | with_reducible apply Dev.setCrs_wf
    | with_reducible apply Dev.Wf.ite
    | with_reducible (refine Dev.Wf.fold _ ?_ ?_; rotate_left; intro e x he)
    | with_reducible (refine Dev.Wf.foldPair _ ?_ ?_; rotate_left; intro e x he)
    | split
    | simp only [Dev.wf_built]
    | with_reducible apply Dev.Built.other
    | with_reducible apply Dev.Wf.itePair
    | with_reducible (refine Dev.Wf.ofPair (by assumption) ?_)
    | with_reducible (refine Dev.Wf.ofPairSnd (by assumption) ?_)
    | with_reducible dsimp only)

theorem Dev.bondJ_wf (d : Dev) (ts : List Nat) (h_d : d.Wf) :
    Dev.Wf (Dev.bondJ d ts) := by
  unfold Dev.bondJ
  try dsimp only
  repeat' (first
    | with_reducible assumption
    | with_reducible apply Dev.setTile_wf
    | with_reducible apply Dev.Wf.ite
    | with_reducible (refine Dev.Wf.fold _ ?_ ?_; rotate_left; intro e x he)
    | with_reducible (refine Dev.Wf.foldPair _ ?_ ?_; rotate_left; intro e x he)
    | split
    | simp only [Dev.wf_built]
    | with_reducible apply Dev.Built.other
    | with_reducible apply Dev.Wf.itePair
    | with_reducible (refine Dev.Wf.ofPair (by assumption) ?_)
    | with_reducible (refine Dev.Wf.ofPairSnd (by assumption) ?_)
    | with_reducible dsimp only)

theorem Dev.bondStep_wf (d : Dev) (t : Nat) (ts : List Nat) (domChanged : Bool) (h_d : d.Wf) :
    Dev.Wf (Dev.bondStep d t ts domChanged) := by
  unfold Dev.bondStep
  try dsimp only
  repeat' (first
    | with_reducible assumption
    | with_reducible apply Dev.tileIdle_wf
    | with_reducible apply Dev.bondState_wf
    | with_reducible apply Dev.bondEvt_wf
    | with_reducible apply Dev.bondJ_wf
    | with_reducible apply Dev.bondCount_wf
    | with_reducible apply Dev.Wf.ite
    | with_reducible (refine Dev.Wf.fold _ ?_ ?_; rotate_left; intro e x he)
    | with_reducible (refine Dev.Wf.foldPair _ ?_ ?_; rotate_left; intro e x he)
    | split
    | simp only [Dev.wf_built]
    | with_reducible apply Dev.Built.other
    | with_reducible apply Dev.Wf.itePair
    | with_reducible (refine Dev.Wf.ofPair (by assumption) ?_)
    | with_reducible (refine Dev.Wf.ofPairSnd (by assumption) ?_)
    | with_reducible dsimp only)

theorem Dev.justify_wf (d : Dev) (t : Nat) (pos : Int) (h_d : d.Wf) :
    Dev.Wf (Dev.justify d t pos) := by
  unfold Dev.justify
  try dsimp only
  repeat' (first
    | with_reducible assumption
    | with_reducible apply Dev.add_wf
    | with_reducible apply Dev.setTile_wf
    | with_reducible apply Dev.Wf.ite
    | with_reducible (refine Dev.Wf.fold _ ?_ ?_; rotate_left; intro e x he)
    | with_reducible (refine Dev.Wf.foldPair _ ?_ ?_; rotate_left; intro e x he)
    | split
    | simp only [Dev.wf_built]
    | with_reducible apply Dev.Built.other
    | with_reducible apply Dev.Wf.itePair
    | with_reducible (refine Dev.Wf.ofPair (by assumption) ?_)
    | with_reducible (refine Dev.Wf.ofPairSnd (by assumption) ?_)
    | with_reducible dsimp only)

theorem Dev.tileLineStart_wf (d : Dev) (t : ℕ) (pos : ℤ) (h_d : d.Wf) :
    Dev.Wf (Dev.tileLineStart d t pos) := by
  unfold Dev.tileLineStart
  try dsimp only
  repeat' (first
    | with_reducible assumption
    | with_reducible apply Dev.setPos_wf
    | with_reducible apply Dev.setTile_wf
    | with_reducible apply Dev.bondStep_wf
    | with_reducible apply Dev.justify_wf
    | with_reducible apply Dev.defSettle_wf
    | with_reducible apply Dev.protSettle_wf
    | with_reducible apply Dev.Wf.ite
    | with_reducible (refine Dev.Wf.fold _ ?_ ?_; rotate_left; intro e x he)
    | with_reducible (refine Dev.Wf.foldPair _ ?_ ?_; rotate_left; intro e x he)
    | split
    | simp only [Dev.wf_built]
    | with_reducible apply Dev.Built.other
    | with_reducible apply Dev.Wf.itePair
    | with_reducible (refine Dev.Wf.ofPair (by assumption) ?_)
    | with_reducible (refine Dev.Wf.ofPairSnd (by assumption) ?_)
    | with_reducible dsimp only)

theorem Dev.driftWindow_wf (d : Dev) (t : Nat) (h_d : d.Wf) :
    Dev.Wf (Dev.driftWindow d t) := by
  unfold Dev.driftWindow
  try dsimp only
  repeat' (first
    | with_reducible assumption
    | with_reducible apply Dev.setTile_wf
    | with_reducible apply Dev.setEvtIf_wf
    | with_reducible apply Dev.wrOn_wf
    | with_reducible apply Dev.Wf.ite
    | with_reducible (refine Dev.Wf.fold _ ?_ ?_; rotate_left; intro e x he)
    | with_reducible (refine Dev.Wf.foldPair _ ?_ ?_; rotate_left; intro e x he)
    | split
    | simp only [Dev.wf_built]
    | with_reducible apply Dev.Built.other
    | with_reducible apply Dev.Wf.itePair
    | with_reducible (refine Dev.Wf.ofPair (by assumption) ?_)
    | with_reducible (refine Dev.Wf.ofPairSnd (by assumption) ?_)
    | with_reducible dsimp only)

theorem Dev.driftWindows_wf (d : Dev) (h_d : d.Wf) :
    Dev.Wf (Dev.driftWindows d) := by
  unfold Dev.driftWindows
  try dsimp only
  repeat' (first
    | with_reducible assumption
    | with_reducible apply Dev.driftWindow_wf
    | with_reducible apply Dev.Wf.ite
    | with_reducible (refine Dev.Wf.fold _ ?_ ?_; rotate_left; intro e x he)
    | with_reducible (refine Dev.Wf.foldPair _ ?_ ?_; rotate_left; intro e x he)
    | split
    | simp only [Dev.wf_built]
    | with_reducible apply Dev.Built.other
    | with_reducible apply Dev.Wf.itePair
    | with_reducible (refine Dev.Wf.ofPair (by assumption) ?_)
    | with_reducible (refine Dev.Wf.ofPairSnd (by assumption) ?_)
    | with_reducible dsimp only)

theorem Dev.pushLine_wf (d : Dev) (t : ℕ) (line : ℕ) (bs : List Brick) (h_d : d.Wf) :
    Dev.Wf (Dev.pushLine d t line bs) := by
  unfold Dev.pushLine
  try dsimp only
  repeat' (first
    | with_reducible assumption
    | with_reducible apply Dev.setTile_wf
    | with_reducible apply Dev.Wf.ite
    | with_reducible (refine Dev.Wf.fold _ ?_ ?_; rotate_left; intro e x he)
    | with_reducible (refine Dev.Wf.foldPair _ ?_ ?_; rotate_left; intro e x he)
    | split
    | simp only [Dev.wf_built]
    | with_reducible apply Dev.Built.other
    | with_reducible apply Dev.Wf.itePair
    | with_reducible (refine Dev.Wf.ofPair (by assumption) ?_)
    | with_reducible (refine Dev.Wf.ofPairSnd (by assumption) ?_)
    | with_reducible dsimp only)

end Sys2Proof.Machine
end

