-- ==== Sys2Proof/Laws/WfFramer.lean ====
section
/-! SUPPORT. The operations of Machine/Framer.lean keep every table of the block canonical. -/

set_option linter.unusedTactic false
set_option linter.unreachableTactic false

namespace Sys2Proof.Machine

theorem Dev.ccAbort_wf (d : Dev) (n : Nat) (h_d : d.Wf) :
    Dev.Wf (Dev.ccAbort d n) := by
  unfold Dev.ccAbort
  try dsimp only
  repeat' (first
    | with_reducible assumption
    | with_reducible apply Dev.setTlr_wf
    | with_reducible apply Dev.setEvt_wf
    | with_reducible apply Dev.inc_wf
    | with_reducible apply Dev.Wf.ite
    | with_reducible (refine Dev.Wf.fold _ ?_ ?_; rotate_left; intro e x he)
    | with_reducible (refine Dev.Wf.foldPair _ ?_ ?_; rotate_left; intro e x he)
    | split
    | simp only [Dev.wf_built]
    | with_reducible apply Dev.Built.other
    | with_reducible apply Dev.Wf.itePair
    | with_reducible (refine Dev.Wf.ofPair (by assumption) ?_)
    | with_reducible (refine Dev.Wf.ofPairSnd (by assumption) ?_)
    | with_reducible dsimp only)

theorem Dev.tlLeave_wf (d : Dev) (n : Nat) (h_d : d.Wf) :
    Dev.Wf (Dev.tlLeave d n) := by
  unfold Dev.tlLeave
  try dsimp only
  repeat' (first
    | with_reducible assumption
    | with_reducible apply Dev.ccAbort_wf
    | with_reducible apply Dev.setTlr_wf
    | with_reducible apply Dev.wr_wf
    | with_reducible apply Dev.Wf.ite
    | with_reducible (refine Dev.Wf.fold _ ?_ ?_; rotate_left; intro e x he)
    | with_reducible (refine Dev.Wf.foldPair _ ?_ ?_; rotate_left; intro e x he)
    | split
    | simp only [Dev.wf_built]
    | with_reducible apply Dev.Built.other
    | with_reducible apply Dev.Built.up_slots
    | with_reducible apply Map.wf_put
    | with_reducible apply Map.wf_filter
    | exact rfl
    | with_reducible apply Dev.Wf.slots
    | with_reducible apply Dev.Wf.itePair
    | with_reducible (refine Dev.Wf.ofPair (by assumption) ?_)
    | with_reducible (refine Dev.Wf.ofPairSnd (by assumption) ?_)
    | with_reducible dsimp only)

theorem Dev.setFrm_wf (d : Dev) (l : Nat) (s : Nat) (h_d : d.Wf) :
    Dev.Wf (Dev.setFrm d l s) := by
  unfold Dev.setFrm
  try dsimp only
  repeat' (first
    | with_reducible assumption
    | with_reducible apply Dev.setPm_wf
    | with_reducible apply Dev.tlLeave_wf
    | with_reducible apply Dev.rxWr_wf
    | with_reducible apply Dev.wr_wf
    | with_reducible apply Dev.Wf.ite
    | with_reducible (refine Dev.Wf.fold _ ?_ ?_; rotate_left; intro e x he)
    | with_reducible (refine Dev.Wf.foldPair _ ?_ ?_; rotate_left; intro e x he)
    | split
    | simp only [Dev.wf_built]
    | with_reducible apply Dev.Built.other
    | with_reducible apply Dev.Wf.itePair
    | with_reducible (refine Dev.Wf.ofPair (by assumption) ?_)
    | with_reducible (refine Dev.Wf.ofPairSnd (by assumption) ?_)
    | with_reducible dsimp only)

theorem Dev.setCands_wf (d : Dev) (n : Nat) (cs : List Cand) (h_d : d.Wf) :
    Dev.Wf (Dev.setCands d n cs) := by
  unfold Dev.setCands
  try dsimp only
  repeat' (first
    | with_reducible assumption
    | with_reducible apply Dev.wr_wf
    | with_reducible apply Dev.setFramer_wf
    | with_reducible apply Dev.Wf.ite
    | with_reducible (refine Dev.Wf.fold _ ?_ ?_; rotate_left; intro e x he)
    | with_reducible (refine Dev.Wf.foldPair _ ?_ ?_; rotate_left; intro e x he)
    | split
    | simp only [Dev.wf_built]
    | with_reducible apply Dev.Built.other
    | with_reducible apply Dev.Wf.itePair
    | with_reducible (refine Dev.Wf.ofPair (by assumption) ?_)
    | with_reducible (refine Dev.Wf.ofPairSnd (by assumption) ?_)
    | with_reducible dsimp only)

theorem Dev.framerOff_wf (d : Dev) (l : Nat) (h_d : d.Wf) :
    Dev.Wf (Dev.framerOff d l) := by
  unfold Dev.framerOff
  try dsimp only
  repeat' (first
    | with_reducible assumption
    | with_reducible apply Dev.setFrm_wf
    | with_reducible apply Dev.setFramer_wf
    | with_reducible apply Dev.wr_wf
    | with_reducible apply Dev.Wf.ite
    | with_reducible (refine Dev.Wf.fold _ ?_ ?_; rotate_left; intro e x he)
    | with_reducible (refine Dev.Wf.foldPair _ ?_ ?_; rotate_left; intro e x he)
    | split
    | simp only [Dev.wf_built]
    | with_reducible apply Dev.Built.other
    | with_reducible apply Dev.Wf.itePair
    | with_reducible (refine Dev.Wf.ofPair (by assumption) ?_)
    | with_reducible (refine Dev.Wf.ofPairSnd (by assumption) ?_)
    | with_reducible dsimp only)

theorem Dev.framerSettle_wf (d : Dev) (l : Nat) (h_d : d.Wf) :
    Dev.Wf (Dev.framerSettle d l) := by
  unfold Dev.framerSettle
  try dsimp only
  repeat' (first
    | with_reducible assumption
    | with_reducible apply Dev.setFrm_wf
    | with_reducible apply Dev.setFramer_wf
    | with_reducible apply Dev.framerOff_wf
    | with_reducible apply Dev.laneSettle_wf
    | with_reducible apply Dev.Wf.ite
    | with_reducible (refine Dev.Wf.fold _ ?_ ?_; rotate_left; intro e x he)
    | with_reducible (refine Dev.Wf.foldPair _ ?_ ?_; rotate_left; intro e x he)
    | split
    | simp only [Dev.wf_built]
    | with_reducible apply Dev.Built.other
    | with_reducible apply Dev.Wf.itePair
    | with_reducible (refine Dev.Wf.ofPair (by assumption) ?_)
    | with_reducible (refine Dev.Wf.ofPairSnd (by assumption) ?_)
    | with_reducible dsimp only)

theorem Dev.detLost_wf (d : Dev) (n : Nat) (h_d : d.Wf) :
    Dev.Wf (Dev.detLost d n) := by
  unfold Dev.detLost
  try dsimp only
  repeat' (first
    | with_reducible assumption
    | with_reducible apply Dev.wrOn_wf
    | with_reducible apply Dev.setLane_wf
    | with_reducible apply Dev.Wf.ite
    | with_reducible (refine Dev.Wf.fold _ ?_ ?_; rotate_left; intro e x he)
    | with_reducible (refine Dev.Wf.foldPair _ ?_ ?_; rotate_left; intro e x he)
    | split
    | simp only [Dev.wf_built]
    | with_reducible apply Dev.Built.other
    | with_reducible apply Dev.Wf.itePair
    | with_reducible (refine Dev.Wf.ofPair (by assumption) ?_)
    | with_reducible (refine Dev.Wf.ofPairSnd (by assumption) ?_)
    | with_reducible dsimp only)

theorem Dev.detect_wf (d : Dev) (n : Nat) (streams : Nat) (family : Nat) (h_d : d.Wf) :
    Dev.Wf (Dev.detect d n streams family) := by
  unfold Dev.detect
  try dsimp only
  repeat' (first
    | with_reducible assumption
    | with_reducible apply Dev.setEvt_wf
    | with_reducible apply Dev.inc_wf
    | with_reducible apply Dev.wrOn_wf
    | with_reducible apply Dev.wr_wf
    | with_reducible apply Dev.setLane_wf
    | with_reducible apply Dev.Wf.ite
    | with_reducible (refine Dev.Wf.fold _ ?_ ?_; rotate_left; intro e x he)
    | with_reducible (refine Dev.Wf.foldPair _ ?_ ?_; rotate_left; intro e x he)
    | split
    | simp only [Dev.wf_built]
    | with_reducible apply Dev.Built.other
    | with_reducible apply Dev.Wf.itePair
    | with_reducible (refine Dev.Wf.ofPair (by assumption) ?_)
    | with_reducible (refine Dev.Wf.ofPairSnd (by assumption) ?_)
    | with_reducible dsimp only)

theorem Dev.showFreq_wf (d : Dev) (n : ℕ) (offset : ℤ) (h_d : d.Wf) :
    Dev.Wf (Dev.showFreq d n offset) := by
  unfold Dev.showFreq
  try dsimp only
  repeat' (first
    | with_reducible assumption
    | with_reducible apply Dev.wr_wf
    | with_reducible apply Dev.Wf.ite
    | with_reducible (refine Dev.Wf.fold _ ?_ ?_; rotate_left; intro e x he)
    | with_reducible (refine Dev.Wf.foldPair _ ?_ ?_; rotate_left; intro e x he)
    | split
    | simp only [Dev.wf_built]
    | with_reducible apply Dev.Built.other
    | with_reducible apply Dev.Wf.itePair
    | with_reducible (refine Dev.Wf.ofPair (by assumption) ?_)
    | with_reducible (refine Dev.Wf.ofPairSnd (by assumption) ?_)
    | with_reducible dsimp only)

theorem Dev.lineSync_wf (d : Dev) (n : ℕ) (pos : ℕ) (len : ℕ) (streams : ℕ) (offset : ℤ) (line1 : Bool) (h_d : d.Wf) :
    Dev.Wf (Dev.lineSync d n pos len streams offset line1) := by
  unfold Dev.lineSync
  try dsimp only
  repeat' (first
    | with_reducible assumption
    | with_reducible apply Dev.setFrm_wf
    | with_reducible apply Dev.setFramer_wf
    | with_reducible apply Dev.wr_wf
    | with_reducible apply Dev.detect_wf
    | with_reducible apply Dev.setEvt_wf
    | with_reducible apply Dev.laneSettle_wf
    | with_reducible apply Dev.showFreq_wf
    | with_reducible apply Dev.Wf.ite
    | with_reducible (refine Dev.Wf.fold _ ?_ ?_; rotate_left; intro e x he)
    | with_reducible (refine Dev.Wf.foldPair _ ?_ ?_; rotate_left; intro e x he)
    | split
    | simp only [Dev.wf_built]
    | with_reducible apply Dev.Built.other
    | with_reducible apply Dev.Built.up_streams
    | with_reducible apply Map.wf_put
    | with_reducible apply Map.wf_filter
    | exact rfl
    | with_reducible apply Dev.Wf.streams
    | with_reducible apply Dev.Wf.itePair
    | with_reducible (refine Dev.Wf.ofPair (by assumption) ?_)
    | with_reducible (refine Dev.Wf.ofPairSnd (by assumption) ?_)
    | with_reducible dsimp only)

theorem Dev.ambiguous_wf (d : Dev) (n : Nat) (h_d : d.Wf) :
    Dev.Wf (Dev.ambiguous d n) := by
  unfold Dev.ambiguous
  try dsimp only
  repeat' (first
    | with_reducible assumption
    | with_reducible apply Dev.setEvt_wf
    | with_reducible apply Dev.inc_wf
    | with_reducible apply Dev.setFrm_wf
    | with_reducible apply Dev.setFramer_wf
    | with_reducible apply Dev.setCands_wf
    | with_reducible apply Dev.Wf.ite
    | with_reducible (refine Dev.Wf.fold _ ?_ ?_; rotate_left; intro e x he)
    | with_reducible (refine Dev.Wf.foldPair _ ?_ ?_; rotate_left; intro e x he)
    | split
    | simp only [Dev.wf_built]
    | with_reducible apply Dev.Built.other
    | with_reducible apply Dev.Wf.itePair
    | with_reducible (refine Dev.Wf.ofPair (by assumption) ?_)
    | with_reducible (refine Dev.Wf.ofPairSnd (by assumption) ?_)
    | with_reducible dsimp only)

theorem Dev.huntEav_wf (d : Dev) (n : Nat) (pos : Nat) (streams : Nat) (offset : Int) (line1 : Bool) (h_d : d.Wf) :
    Dev.Wf (Dev.huntEav d n pos streams offset line1) := by
  unfold Dev.huntEav
  try dsimp only
  repeat' (first
    | with_reducible assumption
    | with_reducible apply Dev.lineSync_wf
    | with_reducible apply Dev.setCands_wf
    | with_reducible apply Dev.ambiguous_wf
    | with_reducible apply Dev.setFrm_wf
    | with_reducible apply Dev.setFramer_wf
    | with_reducible apply Dev.inc_wf
    | with_reducible apply Dev.Wf.ite
    | with_reducible (refine Dev.Wf.fold _ ?_ ?_; rotate_left; intro e x he)
    | with_reducible (refine Dev.Wf.foldPair _ ?_ ?_; rotate_left; intro e x he)
    | split
    | simp only [Dev.wf_built]
    | with_reducible apply Dev.Built.other
    | with_reducible apply Dev.Wf.itePair
    | with_reducible (refine Dev.Wf.ofPair (by assumption) ?_)
    | with_reducible (refine Dev.Wf.ofPairSnd (by assumption) ?_)
    | with_reducible dsimp only)

theorem Dev.syncTrs_wf (d : Dev) (n : ℕ) (pos : ℕ) (eav : Bool) (h_d : d.Wf) :
    Dev.Wf (Dev.syncTrs d n pos eav) := by
  unfold Dev.syncTrs
  try dsimp only
  repeat' (first
    | with_reducible assumption
    | with_reducible apply Dev.setFramer_wf
    | with_reducible apply Dev.wr_wf
    | with_reducible apply Dev.Wf.ite
    | with_reducible (refine Dev.Wf.fold _ ?_ ?_; rotate_left; intro e x he)
    | with_reducible (refine Dev.Wf.foldPair _ ?_ ?_; rotate_left; intro e x he)
    | split
    | simp only [Dev.wf_built]
    | with_reducible apply Dev.Built.other
    | with_reducible apply Dev.Wf.itePair
    | with_reducible (refine Dev.Wf.ofPair (by assumption) ?_)
    | with_reducible (refine Dev.Wf.ofPairSnd (by assumption) ?_)
    | with_reducible dsimp only)

theorem Dev.secondTrs_wf (d : Dev) (n : ℕ) (pos : ℕ) (eav : Bool) (h_d : d.Wf) :
    Dev.Wf (Dev.secondTrs d n pos eav) := by
  unfold Dev.secondTrs
  try dsimp only
  repeat' (first
    | with_reducible assumption
    | with_reducible apply Dev.setFramer_wf
    | with_reducible apply Dev.laneSettle_wf
    | with_reducible apply Dev.wrOn_wf
    | with_reducible apply Dev.Wf.ite
    | with_reducible (refine Dev.Wf.fold _ ?_ ?_; rotate_left; intro e x he)
    | with_reducible (refine Dev.Wf.foldPair _ ?_ ?_; rotate_left; intro e x he)
    | split
    | simp only [Dev.wf_built]
    | with_reducible apply Dev.Built.other
    | with_reducible apply Dev.Wf.itePair
    | with_reducible (refine Dev.Wf.ofPair (by assumption) ?_)
    | with_reducible (refine Dev.Wf.ofPairSnd (by assumption) ?_)
    | with_reducible dsimp only)

theorem Dev.lockedTrs_wf (d : Dev) (n : ℕ) (pos : ℕ) (ws : List Sys2Proof.Word10) (h_d : d.Wf) :
    Dev.Wf (Dev.lockedTrs d n pos ws) := by
  unfold Dev.lockedTrs
  try dsimp only
  repeat' (first
    | with_reducible assumption
    | with_reducible apply Dev.syncTrs_wf
    | with_reducible apply Dev.secondTrs_wf
    | with_reducible apply Dev.Wf.ite
    | with_reducible (refine Dev.Wf.fold _ ?_ ?_; rotate_left; intro e x he)
    | with_reducible (refine Dev.Wf.foldPair _ ?_ ?_; rotate_left; intro e x he)
    | split
    | simp only [Dev.wf_built]
    | with_reducible apply Dev.Built.other
    | with_reducible apply Dev.Wf.itePair
    | with_reducible (refine Dev.Wf.ofPair (by assumption) ?_)
    | with_reducible (refine Dev.Wf.ofPairSnd (by assumption) ?_)
    | with_reducible dsimp only)

theorem Dev.decodeSdi_wf (d : Dev) (n : ℕ) (levels : List Bool) (h_d : d.Wf) :
    (Dev.decodeSdi d n levels).1.Wf := by
  unfold Dev.decodeSdi
  try dsimp only
  repeat' (first
    | with_reducible assumption
    | with_reducible apply Dev.setFramer_wf
    | with_reducible apply Dev.Wf.ite
    | with_reducible (refine Dev.Wf.fold _ ?_ ?_; rotate_left; intro e x he)
    | with_reducible (refine Dev.Wf.foldPair _ ?_ ?_; rotate_left; intro e x he)
    | split
    | simp only [Dev.wf_built]
    | with_reducible apply Dev.Built.other
    | with_reducible apply Dev.Wf.itePair
    | with_reducible (refine Dev.Wf.ofPair (by assumption) ?_)
    | with_reducible (refine Dev.Wf.ofPairSnd (by assumption) ?_)
    | with_reducible dsimp only)

theorem Dev.trsReceived_wf (d : Dev) (n : ℕ) (pos : ℕ) (levels : List Bool) (offset : ℤ) (line1 : Bool) (h_d : d.Wf) :
    Dev.Wf (Dev.trsReceived d n pos levels offset line1) := by
  unfold Dev.trsReceived
  try dsimp only
  repeat' (first
    | with_reducible assumption
    | with_reducible apply Dev.decodeSdi_wf
    | with_reducible apply Dev.huntEav_wf
    | with_reducible apply Dev.lockedTrs_wf
    | with_reducible apply Dev.Wf.ite
    | with_reducible (refine Dev.Wf.fold _ ?_ ?_; rotate_left; intro e x he)
    | with_reducible (refine Dev.Wf.foldPair _ ?_ ?_; rotate_left; intro e x he)
    | split
    | simp only [Dev.wf_built]
    | with_reducible apply Dev.Built.other
    | with_reducible apply Dev.Wf.itePair
    | with_reducible (refine Dev.Wf.ofPair (by assumption) ?_)
    | with_reducible (refine Dev.Wf.ofPairSnd (by assumption) ?_)
    | with_reducible dsimp only)

theorem Dev.frmLoss_wf (d : Dev) (n : ℕ) (back : ℕ) (h_d : d.Wf) :
    Dev.Wf (Dev.frmLoss d n back) := by
  unfold Dev.frmLoss
  try dsimp only
  repeat' (first
    | with_reducible assumption
    | with_reducible apply Dev.setEvt_wf
    | with_reducible apply Dev.inc_wf
    | with_reducible apply Dev.wr_wf
    | with_reducible apply Dev.setFrm_wf
    | with_reducible apply Dev.setFramer_wf
    | with_reducible apply Dev.detLost_wf
    | with_reducible apply Dev.laneSettle_wf
    | with_reducible apply Dev.Wf.ite
    | with_reducible (refine Dev.Wf.fold _ ?_ ?_; rotate_left; intro e x he)
    | with_reducible (refine Dev.Wf.foldPair _ ?_ ?_; rotate_left; intro e x he)
    | split
    | simp only [Dev.wf_built]
    | with_reducible apply Dev.Built.other
    | with_reducible apply Dev.Wf.itePair
    | with_reducible (refine Dev.Wf.ofPair (by assumption) ?_)
    | with_reducible (refine Dev.Wf.ofPairSnd (by assumption) ?_)
    | with_reducible dsimp only)

theorem Dev.candExpiry_wf (d : Dev) (n : Nat) (k : Nat) (h_d : d.Wf) :
    Dev.Wf (Dev.candExpiry d n k) := by
  unfold Dev.candExpiry
  try dsimp only
  repeat' (first
    | with_reducible assumption
    | with_reducible apply Dev.setCands_wf
    | with_reducible apply Dev.Wf.ite
    | with_reducible (refine Dev.Wf.fold _ ?_ ?_; rotate_left; intro e x he)
    | with_reducible (refine Dev.Wf.foldPair _ ?_ ?_; rotate_left; intro e x he)
    | split
    | simp only [Dev.wf_built]
    | with_reducible apply Dev.Built.other
    | with_reducible apply Dev.Wf.itePair
    | with_reducible (refine Dev.Wf.ofPair (by assumption) ?_)
    | with_reducible (refine Dev.Wf.ofPairSnd (by assumption) ?_)
    | with_reducible dsimp only)

theorem Dev.verifyMissing_wf (d : Dev) (n : Nat) (h_d : d.Wf) :
    Dev.Wf (Dev.verifyMissing d n) := by
  unfold Dev.verifyMissing
  try dsimp only
  repeat' (first
    | with_reducible assumption
    | with_reducible apply Dev.setCands_wf
    | with_reducible apply Dev.setFrm_wf
    | with_reducible apply Dev.setFramer_wf
    | with_reducible apply Dev.Wf.ite
    | with_reducible (refine Dev.Wf.fold _ ?_ ?_; rotate_left; intro e x he)
    | with_reducible (refine Dev.Wf.foldPair _ ?_ ?_; rotate_left; intro e x he)
    | split
    | simp only [Dev.wf_built]
    | with_reducible apply Dev.Built.other
    | with_reducible apply Dev.Wf.itePair
    | with_reducible (refine Dev.Wf.ofPair (by assumption) ?_)
    | with_reducible (refine Dev.Wf.ofPairSnd (by assumption) ?_)
    | with_reducible dsimp only)

theorem Dev.trsMissing_wf (d : Dev) (n : ℕ) (eav : Bool) (stream2 : Bool) (h_d : d.Wf) :
    Dev.Wf (Dev.trsMissing d n eav stream2) := by
  unfold Dev.trsMissing
  try dsimp only
  repeat' (first
    | with_reducible assumption
    | with_reducible apply Dev.inc_wf
    | with_reducible apply Dev.setFramer_wf
    | with_reducible apply Dev.laneSettle_wf
    | with_reducible apply Dev.wrOn_wf
    | with_reducible apply Dev.frmLoss_wf
    | with_reducible apply Dev.Wf.ite
    | with_reducible (refine Dev.Wf.fold _ ?_ ?_; rotate_left; intro e x he)
    | with_reducible (refine Dev.Wf.foldPair _ ?_ ?_; rotate_left; intro e x he)
    | split
    | simp only [Dev.wf_built]
    | with_reducible apply Dev.Built.other
    | with_reducible apply Dev.Wf.itePair
    | with_reducible (refine Dev.Wf.ofPair (by assumption) ?_)
    | with_reducible (refine Dev.Wf.ofPairSnd (by assumption) ?_)
    | with_reducible dsimp only)

theorem Dev.skewSettle_wf (d : Dev) (n : Nat) (h_d : d.Wf) :
    Dev.Wf (Dev.skewSettle d n) := by
  unfold Dev.skewSettle
  try dsimp only
  repeat' (first
    | with_reducible assumption
    | with_reducible apply Dev.wrOn_wf
    | with_reducible apply Dev.Wf.ite
    | with_reducible (refine Dev.Wf.fold _ ?_ ?_; rotate_left; intro e x he)
    | with_reducible (refine Dev.Wf.foldPair _ ?_ ?_; rotate_left; intro e x he)
    | split
    | simp only [Dev.wf_built]
    | with_reducible apply Dev.Built.other
    | with_reducible apply Dev.Wf.itePair
    | with_reducible (refine Dev.Wf.ofPair (by assumption) ?_)
    | with_reducible (refine Dev.Wf.ofPairSnd (by assumption) ?_)
    | with_reducible dsimp only)

theorem Dev.pidFrame_wf (d : Dev) (n : Nat) (h_d : d.Wf) :
    Dev.Wf (Dev.pidFrame d n) := by
  unfold Dev.pidFrame
  try dsimp only
  repeat' (first
    | with_reducible assumption
    | with_reducible apply Dev.setFramer_wf
    | with_reducible apply Dev.wrOn_wf
    | with_reducible apply Dev.Wf.ite
    | with_reducible (refine Dev.Wf.fold _ ?_ ?_; rotate_left; intro e x he)
    | with_reducible (refine Dev.Wf.foldPair _ ?_ ?_; rotate_left; intro e x he)
    | split
    | simp only [Dev.wf_built]
    | with_reducible apply Dev.Built.other
    | with_reducible apply Dev.Wf.itePair
    | with_reducible (refine Dev.Wf.ofPair (by assumption) ?_)
    | with_reducible (refine Dev.Wf.ofPairSnd (by assumption) ?_)
    | with_reducible dsimp only)

theorem Dev.frameNamed_wf (d : Dev) (n : Nat) (code : Option Nat) (h_d : d.Wf) :
    Dev.Wf (Dev.frameNamed d n code) := by
  unfold Dev.frameNamed
  try dsimp only
  repeat' (first
    | with_reducible assumption
    | with_reducible apply Dev.wrOn_wf
    | with_reducible apply Dev.setFramer_wf
    | with_reducible apply Dev.wr_wf
    | with_reducible apply Dev.setFrm_wf
    | with_reducible apply Dev.setEvt_wf
    | with_reducible apply Dev.Wf.ite
    | with_reducible (refine Dev.Wf.fold _ ?_ ?_; rotate_left; intro e x he)
    | with_reducible (refine Dev.Wf.foldPair _ ?_ ?_; rotate_left; intro e x he)
    | split
    | simp only [Dev.wf_built]
    | with_reducible apply Dev.Built.other
    | with_reducible apply Dev.Wf.itePair
    | with_reducible (refine Dev.Wf.ofPair (by assumption) ?_)
    | with_reducible (refine Dev.Wf.ofPairSnd (by assumption) ?_)
    | with_reducible dsimp only)

theorem Dev.frameWatched_wf (d : Dev) (n : ℕ) (before : ℕ) (departs : Bool) (h_d : d.Wf) :
    Dev.Wf (Dev.frameWatched d n before departs) := by
  unfold Dev.frameWatched
  try dsimp only
  repeat' (first
    | with_reducible assumption
    | with_reducible apply Dev.pidFrame_wf
    | with_reducible apply Dev.setEvt_wf
    | with_reducible apply Dev.setFrm_wf
    | with_reducible apply Dev.setFramer_wf
    | with_reducible apply Dev.Wf.ite
    | with_reducible (refine Dev.Wf.fold _ ?_ ?_; rotate_left; intro e x he)
    | with_reducible (refine Dev.Wf.foldPair _ ?_ ?_; rotate_left; intro e x he)
    | split
    | simp only [Dev.wf_built]
    | with_reducible apply Dev.Built.other
    | with_reducible apply Dev.Wf.itePair
    | with_reducible (refine Dev.Wf.ofPair (by assumption) ?_)
    | with_reducible (refine Dev.Wf.ofPairSnd (by assumption) ?_)
    | with_reducible dsimp only)

theorem Dev.frameShow_wf (d : Dev) (n : ℕ) (m : ℕ × Bool × ℕ) (h_d : d.Wf) :
    Dev.Wf (Dev.frameShow d n m) := by
  unfold Dev.frameShow
  try dsimp only
  repeat' (first
    | with_reducible assumption
    | with_reducible apply Dev.wr_wf
    | with_reducible apply Dev.wrOn_wf
    | with_reducible apply Dev.Wf.ite
    | with_reducible (refine Dev.Wf.fold _ ?_ ?_; rotate_left; intro e x he)
    | with_reducible (refine Dev.Wf.foldPair _ ?_ ?_; rotate_left; intro e x he)
    | split
    | simp only [Dev.wf_built]
    | with_reducible apply Dev.Built.other
    | with_reducible apply Dev.Wf.itePair
    | with_reducible (refine Dev.Wf.ofPair (by assumption) ?_)
    | with_reducible (refine Dev.Wf.ofPairSnd (by assumption) ?_)
    | with_reducible dsimp only)

theorem Dev.frameEnds_wf (d : Dev) (n : ℕ) (offset : ℤ) (h_d : d.Wf) :
    Dev.Wf (Dev.frameEnds d n offset) := by
  unfold Dev.frameEnds
  try dsimp only
  repeat' (first
    | with_reducible assumption
    | with_reducible apply Dev.frameShow_wf
    | with_reducible apply Dev.frameNamed_wf
    | with_reducible apply Dev.frameWatched_wf
    | with_reducible apply Dev.Wf.ite
    | with_reducible (refine Dev.Wf.fold _ ?_ ?_; rotate_left; intro e x he)
    | with_reducible (refine Dev.Wf.foldPair _ ?_ ?_; rotate_left; intro e x he)
    | split
    | simp only [Dev.wf_built]
    | with_reducible apply Dev.Built.other
    | with_reducible apply Dev.Wf.itePair
    | with_reducible (refine Dev.Wf.ofPair (by assumption) ?_)
    | with_reducible (refine Dev.Wf.ofPairSnd (by assumption) ?_)
    | with_reducible dsimp only)

theorem Dev.frameComplete_wf (d : Dev) (n : ℕ) (offset : ℤ) (skew : ℤ) (h_d : d.Wf) :
    Dev.Wf (Dev.frameComplete d n offset skew) := by
  unfold Dev.frameComplete
  try dsimp only
  repeat' (first
    | with_reducible assumption
    | with_reducible apply Dev.showFreq_wf
    | with_reducible apply Dev.skewSettle_wf
    | with_reducible apply Dev.wr_wf
    | with_reducible apply Dev.frameEnds_wf
    | with_reducible apply Dev.laneSettle_wf
    | with_reducible apply Dev.setFramer_wf
    | with_reducible apply Dev.Wf.ite
    | with_reducible (refine Dev.Wf.fold _ ?_ ?_; rotate_left; intro e x he)
    | with_reducible (refine Dev.Wf.foldPair _ ?_ ?_; rotate_left; intro e x he)
    | split
    | simp only [Dev.wf_built]
    | with_reducible apply Dev.Built.other
    | with_reducible apply Dev.Wf.itePair
    | with_reducible (refine Dev.Wf.ofPair (by assumption) ?_)
    | with_reducible (refine Dev.Wf.ofPairSnd (by assumption) ?_)
    | with_reducible dsimp only)

theorem Dev.lineReceived_wf (d : Dev) (n : ℕ) (x : Sys2Proof.LineRx) (act : List (List Sys2Proof.Word10)) (h_d : d.Wf) :
    Dev.Wf (Dev.lineReceived d n x act) := by
  unfold Dev.lineReceived
  try dsimp only
  repeat' (first
    | with_reducible assumption
    | with_reducible apply Dev.inc_wf
    | with_reducible apply Dev.setPm_wf
    | with_reducible apply Dev.setFramer_wf
    | with_reducible apply Dev.bwAdd_wf
    | with_reducible apply Dev.pushLine_wf
    | with_reducible apply Dev.Wf.ite
    | with_reducible (refine Dev.Wf.fold _ ?_ ?_; rotate_left; intro e x he)
    | with_reducible (refine Dev.Wf.foldPair _ ?_ ?_; rotate_left; intro e x he)
    | split
    | simp only [Dev.wf_built]
    | with_reducible apply Dev.Built.other
    | with_reducible apply Dev.Wf.itePair
    | with_reducible (refine Dev.Wf.ofPair (by assumption) ?_)
    | with_reducible (refine Dev.Wf.ofPairSnd (by assumption) ?_)
    | with_reducible dsimp only)

theorem Dev.edhCheck_wf (d : Dev) (n : ℕ) (packet : Option (List Sys2Proof.Word10)) (h_d : d.Wf) :
    Dev.Wf (Dev.edhCheck d n packet) := by
  unfold Dev.edhCheck
  try dsimp only
  repeat' (first
    | with_reducible assumption
    | with_reducible apply Dev.wrOn_wf
    | with_reducible apply Dev.inc_wf
    | with_reducible apply Dev.setPm_wf
    | with_reducible apply Dev.setFramer_wf
    | with_reducible apply Dev.Wf.ite
    | with_reducible (refine Dev.Wf.fold _ ?_ ?_; rotate_left; intro e x he)
    | with_reducible (refine Dev.Wf.foldPair _ ?_ ?_; rotate_left; intro e x he)
    | split
    | simp only [Dev.wf_built]
    | with_reducible apply Dev.Built.other
    | with_reducible apply Dev.Wf.itePair
    | with_reducible (refine Dev.Wf.ofPair (by assumption) ?_)
    | with_reducible (refine Dev.Wf.ofPairSnd (by assumption) ?_)
    | with_reducible dsimp only)

theorem Dev.pidCompare_wf (d : Dev) (n : ℕ) (bytes : Sys2Proof.Word) (h_d : d.Wf) :
    Dev.Wf (Dev.pidCompare d n bytes) := by
  unfold Dev.pidCompare
  try dsimp only
  repeat' (first
    | with_reducible assumption
    | with_reducible apply Dev.wrOn_wf
    | with_reducible apply Dev.setFramer_wf
    | with_reducible apply Dev.setEvt_wf
    | with_reducible apply Dev.Wf.ite
    | with_reducible (refine Dev.Wf.fold _ ?_ ?_; rotate_left; intro e x he)
    | with_reducible (refine Dev.Wf.foldPair _ ?_ ?_; rotate_left; intro e x he)
    | split
    | simp only [Dev.wf_built]
    | with_reducible apply Dev.Built.other
    | with_reducible apply Dev.Wf.itePair
    | with_reducible (refine Dev.Wf.ofPair (by assumption) ?_)
    | with_reducible (refine Dev.Wf.ofPairSnd (by assumption) ?_)
    | with_reducible dsimp only)

theorem Dev.pidReceived_wf (d : Dev) (n : ℕ) (stream2 : Bool) (line : ℕ) (ws : List Sys2Proof.Word10) (h_d : d.Wf) :
    Dev.Wf (Dev.pidReceived d n stream2 line ws) := by
  unfold Dev.pidReceived
  try dsimp only
  repeat' (first
    | with_reducible assumption
    | with_reducible apply Dev.inc_wf
    | with_reducible apply Dev.wr_wf
    | with_reducible apply Dev.wrOn_wf
    | with_reducible apply Dev.pidCompare_wf
    | with_reducible apply Dev.Wf.ite
    | with_reducible (refine Dev.Wf.fold _ ?_ ?_; rotate_left; intro e x he)
    | with_reducible (refine Dev.Wf.foldPair _ ?_ ?_; rotate_left; intro e x he)
    | split
    | simp only [Dev.wf_built]
    | with_reducible apply Dev.Built.other
    | with_reducible apply Dev.Wf.itePair
    | with_reducible (refine Dev.Wf.ofPair (by assumption) ?_)
    | with_reducible (refine Dev.Wf.ofPairSnd (by assumption) ?_)
    | with_reducible dsimp only)

end Sys2Proof.Machine
end

