-- ==== Sys2Proof/Laws/WfLane.lean ====
section
/-! SUPPORT. The operations of Machine/Lane.lean keep every table of the block canonical. -/

set_option linter.unusedTactic false
set_option linter.unreachableTactic false

namespace Sys2Proof.Machine

theorem Dev.setPll_wf (d : Dev) (k : Nat) (v : PllI) (h_d : d.Wf) :
    Dev.Wf (Dev.setPll d k v) := by
  unfold Dev.setPll
  try dsimp only
  repeat' (first
    | with_reducible assumption
    | with_reducible apply Dev.Wf.ite
    | with_reducible (refine Dev.Wf.fold _ ?_ ?_; rotate_left; intro e x he)
    | with_reducible (refine Dev.Wf.foldPair _ ?_ ?_; rotate_left; intro e x he)
    | split
    | simp only [Dev.wf_built]
    | with_reducible apply Dev.Built.other
    | with_reducible apply Dev.Built.up_plls
    | with_reducible apply Map.wf_put
    | with_reducible apply Map.wf_filter
    | exact rfl
    | with_reducible apply Dev.Wf.plls
    | with_reducible apply Dev.Wf.itePair
    | with_reducible (refine Dev.Wf.ofPair (by assumption) ?_)
    | with_reducible (refine Dev.Wf.ofPairSnd (by assumption) ?_)
    | with_reducible dsimp only)

theorem Dev.txSettle_wf (d : Dev) (l : Nat) (h_d : d.Wf) :
    Dev.Wf (Dev.txSettle d l) := by
  unfold Dev.txSettle
  try dsimp only
  repeat' (first
    | with_reducible assumption
    | with_reducible apply Dev.wr_wf
    | with_reducible apply Dev.Wf.ite
    | with_reducible (refine Dev.Wf.fold _ ?_ ?_; rotate_left; intro e x he)
    | with_reducible (refine Dev.Wf.foldPair _ ?_ ?_; rotate_left; intro e x he)
    | split
    | simp only [Dev.wf_built]
    | with_reducible apply Dev.Built.other
    | with_reducible apply Dev.Wf.itePair
    | with_reducible (refine Dev.Wf.ofPair (by assumption) ?_)
    | with_reducible (refine Dev.Wf.ofPairSnd (by assumption) ?_)
    | with_reducible dsimp only)

theorem Dev.txRestart_wf (d : Dev) (n : Nat) (h_d : d.Wf) :
    Dev.Wf (Dev.txRestart d n) := by
  unfold Dev.txRestart
  try dsimp only
  repeat' (first
    | with_reducible assumption
    | with_reducible apply Dev.txSettle_wf
    | with_reducible apply Dev.setLane_wf
    | with_reducible apply Dev.Wf.ite
    | with_reducible (refine Dev.Wf.fold _ ?_ ?_; rotate_left; intro e x he)
    | with_reducible (refine Dev.Wf.foldPair _ ?_ ?_; rotate_left; intro e x he)
    | split
    | simp only [Dev.wf_built]
    | with_reducible apply Dev.Built.other
    | with_reducible apply Dev.Wf.itePair
    | with_reducible (refine Dev.Wf.ofPair (by assumption) ?_)
    | with_reducible (refine Dev.Wf.ofPairSnd (by assumption) ?_)
    | with_reducible dsimp only)

theorem Dev.pllStop_wf (d : Dev) (q : Nat) (h_d : d.Wf) :
    Dev.Wf (Dev.pllStop d q) := by
  unfold Dev.pllStop
  try dsimp only
  repeat' (first
    | with_reducible assumption
    | with_reducible apply Dev.setPll_wf
    | with_reducible apply Dev.Wf.ite
    | with_reducible (refine Dev.Wf.fold _ ?_ ?_; rotate_left; intro e x he)
    | with_reducible (refine Dev.Wf.foldPair _ ?_ ?_; rotate_left; intro e x he)
    | split
    | simp only [Dev.wf_built]
    | with_reducible apply Dev.Built.other
    | with_reducible apply Dev.Wf.itePair
    | with_reducible (refine Dev.Wf.ofPair (by assumption) ?_)
    | with_reducible (refine Dev.Wf.ofPairSnd (by assumption) ?_)
    | with_reducible dsimp only)

theorem Dev.txStart_wf (d : Dev) (q : ℕ) (k : ℕ) (h_d : d.Wf) :
    Dev.Wf (Dev.txStart d q k) := by
  unfold Dev.txStart
  try dsimp only
  repeat' (first
    | with_reducible assumption
    | with_reducible apply Dev.txSettle_wf
    | with_reducible apply Dev.setLane_wf
    | with_reducible apply Dev.Wf.ite
    | with_reducible (refine Dev.Wf.fold _ ?_ ?_; rotate_left; intro e x he)
    | with_reducible (refine Dev.Wf.foldPair _ ?_ ?_; rotate_left; intro e x he)
    | split
    | simp only [Dev.wf_built]
    | with_reducible apply Dev.Built.other
    | with_reducible apply Dev.Wf.itePair
    | with_reducible (refine Dev.Wf.ofPair (by assumption) ?_)
    | with_reducible (refine Dev.Wf.ofPairSnd (by assumption) ?_)
    | with_reducible dsimp only)

theorem Dev.txWake_wf (d : Dev) (h_d : d.Wf) : (Dev.txWake d).Wf := by
  refine Dev.Wf.fold _ (Dev.Built.up_plls h_d (Map.wf_update _ _ h_d.plls)) (fun e l he => ?_)
  exact Dev.Wf.ite (Dev.txSettle_wf _ _ (Dev.setLane_wf _ _ _ he)) he

theorem Dev.synthLock_wf (d : Dev) (q : ℕ) (k : ℕ) (h_d : d.Wf) :
    Dev.Wf (Dev.synthLock d q k) := by
  unfold Dev.synthLock
  try dsimp only
  repeat' (first
    | with_reducible assumption
    | with_reducible apply Dev.txStart_wf
    | with_reducible apply Dev.setPll_wf
    | with_reducible apply Dev.Wf.ite
    | with_reducible (refine Dev.Wf.fold _ ?_ ?_; rotate_left; intro e x he)
    | with_reducible (refine Dev.Wf.foldPair _ ?_ ?_; rotate_left; intro e x he)
    | split
    | simp only [Dev.wf_built]
    | with_reducible apply Dev.Built.other
    | with_reducible apply Dev.Wf.itePair
    | with_reducible (refine Dev.Wf.ofPair (by assumption) ?_)
    | with_reducible (refine Dev.Wf.ofPairSnd (by assumption) ?_)
    | with_reducible dsimp only)

theorem Dev.txcfgApply_wf (d0 : Dev) (n : ℕ) (old : Sys2Proof.Word) (w : Sys2Proof.Word) (h_d0 : d0.Wf) :
    Dev.Wf (Dev.txcfgApply d0 n old w) := by
  unfold Dev.txcfgApply
  try dsimp only
  repeat' (first
    | with_reducible assumption
    | with_reducible apply Dev.setReg_wf
    | with_reducible apply Dev.txSettle_wf
    | with_reducible apply Dev.wr_wf
    | with_reducible apply Dev.setLane_wf
    | with_reducible apply Dev.setPll_wf
    | with_reducible apply Dev.pllStop_wf
    | with_reducible apply Dev.txRestart_wf
    | with_reducible apply Dev.Wf.ite
    | with_reducible (refine Dev.Wf.fold _ ?_ ?_; rotate_left; intro e x he)
    | with_reducible (refine Dev.Wf.foldPair _ ?_ ?_; rotate_left; intro e x he)
    | split
    | simp only [Dev.wf_built]
    | with_reducible apply Dev.Built.other
    | with_reducible apply Dev.Wf.itePair
    | with_reducible (refine Dev.Wf.ofPair (by assumption) ?_)
    | with_reducible (refine Dev.Wf.ofPairSnd (by assumption) ?_)
    | with_reducible dsimp only)

theorem Dev.followSettle_wf (d : Dev) (f : ℕ) (h_d : d.Wf) :
    Dev.Wf (Dev.followSettle d f) := by
  unfold Dev.followSettle
  try dsimp only
  repeat' (first
    | with_reducible assumption
    | with_reducible apply Dev.setLane_wf
    | with_reducible apply Dev.Wf.ite
    | with_reducible (refine Dev.Wf.fold _ ?_ ?_; rotate_left; intro e x he)
    | with_reducible (refine Dev.Wf.foldPair _ ?_ ?_; rotate_left; intro e x he)
    | split
    | simp only [Dev.wf_built]
    | with_reducible apply Dev.Built.other
    | with_reducible apply Dev.Wf.itePair
    | with_reducible (refine Dev.Wf.ofPair (by assumption) ?_)
    | with_reducible (refine Dev.Wf.ofPairSnd (by assumption) ?_)
    | with_reducible dsimp only)

theorem Dev.followTake_wf (d : Dev) (n : ℕ) (h_d : d.Wf) :
    Dev.Wf (Dev.followTake d n) := by
  unfold Dev.followTake
  try dsimp only
  repeat' (first
    | with_reducible assumption
    | with_reducible apply Dev.followSettle_wf
    | with_reducible apply Dev.Wf.ite
    | with_reducible (refine Dev.Wf.fold _ ?_ ?_; rotate_left; intro e x he)
    | with_reducible (refine Dev.Wf.foldPair _ ?_ ?_; rotate_left; intro e x he)
    | split
    | simp only [Dev.wf_built]
    | with_reducible apply Dev.Built.other
    | with_reducible apply Dev.Wf.itePair
    | with_reducible (refine Dev.Wf.ofPair (by assumption) ?_)
    | with_reducible (refine Dev.Wf.ofPairSnd (by assumption) ?_)
    | with_reducible dsimp only)

theorem Dev.routeSwitch_wf (d : Dev) (n : ℕ) (h_d : d.Wf) :
    Dev.Wf (Dev.routeSwitch d n) := by
  unfold Dev.routeSwitch
  try dsimp only
  repeat' (first
    | with_reducible assumption
    | with_reducible apply Dev.followTake_wf
    | with_reducible apply Dev.setLane_wf
    | with_reducible apply Dev.Wf.ite
    | with_reducible (refine Dev.Wf.fold _ ?_ ?_; rotate_left; intro e x he)
    | with_reducible (refine Dev.Wf.foldPair _ ?_ ?_; rotate_left; intro e x he)
    | split
    | simp only [Dev.wf_built]
    | with_reducible apply Dev.Built.other
    | with_reducible apply Dev.Wf.itePair
    | with_reducible (refine Dev.Wf.ofPair (by assumption) ?_)
    | with_reducible (refine Dev.Wf.ofPairSnd (by assumption) ?_)
    | with_reducible dsimp only)

theorem Dev.rxEvt_wf (d : Dev) (l : Nat) (b : Nat) (h_d : d.Wf) :
    Dev.Wf (Dev.rxEvt d l b) := by
  unfold Dev.rxEvt
  try dsimp only
  repeat' (first
    | with_reducible assumption
    | with_reducible apply Dev.setEvt_wf
    | with_reducible apply Dev.Wf.ite
    | with_reducible (refine Dev.Wf.fold _ ?_ ?_; rotate_left; intro e x he)
    | with_reducible (refine Dev.Wf.foldPair _ ?_ ?_; rotate_left; intro e x he)
    | split
    | simp only [Dev.wf_built]
    | with_reducible apply Dev.Built.other
    | with_reducible apply Dev.Wf.itePair
    | with_reducible (refine Dev.Wf.ofPair (by assumption) ?_)
    | with_reducible (refine Dev.Wf.ofPairSnd (by assumption) ?_)
    | with_reducible dsimp only)

theorem Dev.setRx_wf (d : Dev) (l : Nat) (s : Nat) (h_d : d.Wf) :
    Dev.Wf (Dev.setRx d l s) := by
  unfold Dev.setRx
  try dsimp only
  repeat' (first
    | with_reducible assumption
    | with_reducible apply Dev.rxWr_wf
    | with_reducible apply Dev.Wf.ite
    | with_reducible (refine Dev.Wf.fold _ ?_ ?_; rotate_left; intro e x he)
    | with_reducible (refine Dev.Wf.foldPair _ ?_ ?_; rotate_left; intro e x he)
    | split
    | simp only [Dev.wf_built]
    | with_reducible apply Dev.Built.other
    | with_reducible apply Dev.Wf.itePair
    | with_reducible (refine Dev.Wf.ofPair (by assumption) ?_)
    | with_reducible (refine Dev.Wf.ofPairSnd (by assumption) ?_)
    | with_reducible dsimp only)

theorem Dev.checkerOff_wf (d : Dev) (l : ℕ) (h_d : d.Wf) :
    Dev.Wf (Dev.checkerOff d l) := by
  unfold Dev.checkerOff
  try dsimp only
  repeat' (first
    | with_reducible assumption
    | with_reducible apply Dev.rxWr_wf
    | with_reducible apply Dev.setLane_wf
    | with_reducible apply Dev.Wf.ite
    | with_reducible (refine Dev.Wf.fold _ ?_ ?_; rotate_left; intro e x he)
    | with_reducible (refine Dev.Wf.foldPair _ ?_ ?_; rotate_left; intro e x he)
    | split
    | simp only [Dev.wf_built]
    | with_reducible apply Dev.Built.other
    | with_reducible apply Dev.Wf.itePair
    | with_reducible (refine Dev.Wf.ofPair (by assumption) ?_)
    | with_reducible (refine Dev.Wf.ofPairSnd (by assumption) ?_)
    | with_reducible dsimp only)

theorem Dev.rxRestart_wf (d : Dev) (l : ℕ) (h_d : d.Wf) :
    Dev.Wf (Dev.rxRestart d l) := by
  unfold Dev.rxRestart
  try dsimp only
  repeat' (first
    | with_reducible assumption
    | with_reducible apply Dev.checkerOff_wf
    | with_reducible apply Dev.setLane_wf
    | with_reducible apply Dev.wrOn_wf
    | with_reducible apply Dev.setRx_wf
    | with_reducible apply Dev.rxWr_wf
    | with_reducible apply Dev.rxEvt_wf
    | with_reducible apply Dev.setPm_wf
    | with_reducible apply Dev.framerSettle_wf
    | with_reducible apply Dev.Wf.ite
    | with_reducible (refine Dev.Wf.fold _ ?_ ?_; rotate_left; intro e x he)
    | with_reducible (refine Dev.Wf.foldPair _ ?_ ?_; rotate_left; intro e x he)
    | split
    | simp only [Dev.wf_built]
    | with_reducible apply Dev.Built.other
    | with_reducible apply Dev.Wf.itePair
    | with_reducible (refine Dev.Wf.ofPair (by assumption) ?_)
    | with_reducible (refine Dev.Wf.ofPairSnd (by assumption) ?_)
    | with_reducible dsimp only)

theorem Dev.losSet_wf (d : Dev) (l : Nat) (h_d : d.Wf) :
    Dev.Wf (Dev.losSet d l) := by
  unfold Dev.losSet
  try dsimp only
  repeat' (first
    | with_reducible assumption
    | with_reducible apply Dev.rxWr_wf
    | with_reducible apply Dev.rxEvt_wf
    | with_reducible apply Dev.setLane_wf
    | with_reducible apply Dev.framerSettle_wf
    | with_reducible apply Dev.setRx_wf
    | with_reducible apply Dev.detLost_wf
    | with_reducible apply Dev.Wf.ite
    | with_reducible (refine Dev.Wf.fold _ ?_ ?_; rotate_left; intro e x he)
    | with_reducible (refine Dev.Wf.foldPair _ ?_ ?_; rotate_left; intro e x he)
    | split
    | simp only [Dev.wf_built]
    | with_reducible apply Dev.Built.other
    | with_reducible apply Dev.Wf.itePair
    | with_reducible (refine Dev.Wf.ofPair (by assumption) ?_)
    | with_reducible (refine Dev.Wf.ofPairSnd (by assumption) ?_)
    | with_reducible dsimp only)

theorem Dev.losClear_wf (d : Dev) (l : ℕ) (h_d : d.Wf) :
    Dev.Wf (Dev.losClear d l) := by
  unfold Dev.losClear
  try dsimp only
  repeat' (first
    | with_reducible assumption
    | with_reducible apply Dev.rxEvt_wf
    | with_reducible apply Dev.rxWr_wf
    | with_reducible apply Dev.framerSettle_wf
    | with_reducible apply Dev.setRx_wf
    | with_reducible apply Dev.Wf.ite
    | with_reducible (refine Dev.Wf.fold _ ?_ ?_; rotate_left; intro e x he)
    | with_reducible (refine Dev.Wf.foldPair _ ?_ ?_; rotate_left; intro e x he)
    | split
    | simp only [Dev.wf_built]
    | with_reducible apply Dev.Built.other
    | with_reducible apply Dev.Wf.itePair
    | with_reducible (refine Dev.Wf.ofPair (by assumption) ?_)
    | with_reducible (refine Dev.Wf.ofPairSnd (by assumption) ?_)
    | with_reducible dsimp only)

theorem Dev.lolSet_wf (d : Dev) (l : Nat) (h_d : d.Wf) :
    Dev.Wf (Dev.lolSet d l) := by
  unfold Dev.lolSet
  try dsimp only
  repeat' (first
    | with_reducible assumption
    | with_reducible apply Dev.setLane_wf
    | with_reducible apply Dev.rxWr_wf
    | with_reducible apply Dev.framerSettle_wf
    | with_reducible apply Dev.setRx_wf
    | with_reducible apply Dev.detLost_wf
    | with_reducible apply Dev.Wf.ite
    | with_reducible (refine Dev.Wf.fold _ ?_ ?_; rotate_left; intro e x he)
    | with_reducible (refine Dev.Wf.foldPair _ ?_ ?_; rotate_left; intro e x he)
    | split
    | simp only [Dev.wf_built]
    | with_reducible apply Dev.Built.other
    | with_reducible apply Dev.Wf.itePair
    | with_reducible (refine Dev.Wf.ofPair (by assumption) ?_)
    | with_reducible (refine Dev.Wf.ofPairSnd (by assumption) ?_)
    | with_reducible dsimp only)

theorem Dev.cdrLock_wf (d : Dev) (l : Nat) (h_d : d.Wf) :
    Dev.Wf (Dev.cdrLock d l) := by
  unfold Dev.cdrLock
  try dsimp only
  repeat' (first
    | with_reducible assumption
    | with_reducible apply Dev.setLane_wf
    | with_reducible apply Dev.rxWr_wf
    | with_reducible apply Dev.framerSettle_wf
    | with_reducible apply Dev.setRx_wf
    | with_reducible apply Dev.Wf.ite
    | with_reducible (refine Dev.Wf.fold _ ?_ ?_; rotate_left; intro e x he)
    | with_reducible (refine Dev.Wf.foldPair _ ?_ ?_; rotate_left; intro e x he)
    | split
    | simp only [Dev.wf_built]
    | with_reducible apply Dev.Built.other
    | with_reducible apply Dev.Wf.itePair
    | with_reducible (refine Dev.Wf.ofPair (by assumption) ?_)
    | with_reducible (refine Dev.Wf.ofPairSnd (by assumption) ?_)
    | with_reducible dsimp only)

theorem Dev.cdrRestart_wf (d : Dev) (l : Nat) (h_d : d.Wf) :
    Dev.Wf (Dev.cdrRestart d l) := by
  unfold Dev.cdrRestart
  try dsimp only
  repeat' (first
    | with_reducible assumption
    | with_reducible apply Dev.setLane_wf
    | with_reducible apply Dev.Wf.ite
    | with_reducible (refine Dev.Wf.fold _ ?_ ?_; rotate_left; intro e x he)
    | with_reducible (refine Dev.Wf.foldPair _ ?_ ?_; rotate_left; intro e x he)
    | split
    | simp only [Dev.wf_built]
    | with_reducible apply Dev.Built.other
    | with_reducible apply Dev.Wf.itePair
    | with_reducible (refine Dev.Wf.ofPair (by assumption) ?_)
    | with_reducible (refine Dev.Wf.ofPairSnd (by assumption) ?_)
    | with_reducible dsimp only)

theorem Dev.autoNext_wf (d : Dev) (n : ℕ) (h_d : d.Wf) :
    Dev.Wf (Dev.autoNext d n) := by
  unfold Dev.autoNext
  try dsimp only
  repeat' (first
    | with_reducible assumption
    | with_reducible apply Dev.setLane_wf
    | with_reducible apply Dev.Wf.ite
    | with_reducible (refine Dev.Wf.fold _ ?_ ?_; rotate_left; intro e x he)
    | with_reducible (refine Dev.Wf.foldPair _ ?_ ?_; rotate_left; intro e x he)
    | split
    | simp only [Dev.wf_built]
    | with_reducible apply Dev.Built.other
    | with_reducible apply Dev.Wf.itePair
    | with_reducible (refine Dev.Wf.ofPair (by assumption) ?_)
    | with_reducible (refine Dev.Wf.ofPairSnd (by assumption) ?_)
    | with_reducible dsimp only)

theorem Dev.framerHunt_wf (d : Dev) (n : ℕ) (h_d : d.Wf) :
    Dev.Wf (Dev.framerHunt d n) := by
  unfold Dev.framerHunt
  try dsimp only
  repeat' (first
    | with_reducible assumption
    | with_reducible apply Dev.wr_wf
    | with_reducible apply Dev.setFrm_wf
    | with_reducible apply Dev.framerSettle_wf
    | with_reducible apply Dev.setFramer_wf
    | with_reducible apply Dev.Wf.ite
    | with_reducible (refine Dev.Wf.fold _ ?_ ?_; rotate_left; intro e x he)
    | with_reducible (refine Dev.Wf.foldPair _ ?_ ?_; rotate_left; intro e x he)
    | split
    | simp only [Dev.wf_built]
    | with_reducible apply Dev.Built.other
    | with_reducible apply Dev.Wf.itePair
    | with_reducible (refine Dev.Wf.ofPair (by assumption) ?_)
    | with_reducible (refine Dev.Wf.ofPairSnd (by assumption) ?_)
    | with_reducible dsimp only)

theorem Dev.rxcfgApply_wf (d0 : Dev) (n : ℕ) (old : Sys2Proof.Word) (w : Sys2Proof.Word) (h_d0 : d0.Wf) :
    Dev.Wf (Dev.rxcfgApply d0 n old w) := by
  unfold Dev.rxcfgApply
  try dsimp only
  repeat' (first
    | with_reducible assumption
    | with_reducible apply Dev.setReg_wf
    | with_reducible apply Dev.wr_wf
    | with_reducible apply Dev.setLane_wf
    | with_reducible apply Dev.wrOn_wf
    | with_reducible apply Dev.rxRestart_wf
    | with_reducible apply Dev.framerHunt_wf
    | with_reducible apply Dev.setRx_wf
    | with_reducible apply Dev.framerSettle_wf
    | with_reducible apply Dev.Wf.ite
    | with_reducible (refine Dev.Wf.fold _ ?_ ?_; rotate_left; intro e x he)
    | with_reducible (refine Dev.Wf.foldPair _ ?_ ?_; rotate_left; intro e x he)
    | split
    | simp only [Dev.wf_built]
    | with_reducible apply Dev.Built.other
    | with_reducible apply Dev.Wf.itePair
    | with_reducible (refine Dev.Wf.ofPair (by assumption) ?_)
    | with_reducible (refine Dev.Wf.ofPairSnd (by assumption) ?_)
    | with_reducible dsimp only)

theorem Dev.laneEnable_wf (d : Dev) (l : Nat) (h_d : d.Wf) :
    Dev.Wf (Dev.laneEnable d l) := by
  unfold Dev.laneEnable
  try dsimp only
  repeat' (first
    | with_reducible assumption
    | with_reducible apply Dev.txRestart_wf
    | with_reducible apply Dev.txSettle_wf
    | with_reducible apply Dev.rxRestart_wf
    | with_reducible apply Dev.Wf.ite
    | with_reducible (refine Dev.Wf.fold _ ?_ ?_; rotate_left; intro e x he)
    | with_reducible (refine Dev.Wf.foldPair _ ?_ ?_; rotate_left; intro e x he)
    | split
    | simp only [Dev.wf_built]
    | with_reducible apply Dev.Built.other
    | with_reducible apply Dev.Wf.itePair
    | with_reducible (refine Dev.Wf.ofPair (by assumption) ?_)
    | with_reducible (refine Dev.Wf.ofPairSnd (by assumption) ?_)
    | with_reducible dsimp only)

theorem Dev.testcfgApply_wf (d : Dev) (l : ℕ) (h_d : d.Wf) :
    Dev.Wf (Dev.testcfgApply d l) := by
  unfold Dev.testcfgApply
  try dsimp only
  repeat' (first
    | with_reducible assumption
    | with_reducible apply Dev.checkerOff_wf
    | with_reducible apply Dev.framerSettle_wf
    | with_reducible apply Dev.setRx_wf
    | with_reducible apply Dev.Wf.ite
    | with_reducible (refine Dev.Wf.fold _ ?_ ?_; rotate_left; intro e x he)
    | with_reducible (refine Dev.Wf.foldPair _ ?_ ?_; rotate_left; intro e x he)
    | split
    | simp only [Dev.wf_built]
    | with_reducible apply Dev.Built.other
    | with_reducible apply Dev.Wf.itePair
    | with_reducible (refine Dev.Wf.ofPair (by assumption) ?_)
    | with_reducible (refine Dev.Wf.ofPairSnd (by assumption) ?_)
    | with_reducible dsimp only)

theorem Dev.testctlApply_wf (d : Dev) (l : ℕ) (v : Sys2Proof.Word) (h_d : d.Wf) :
    Dev.Wf (Dev.testctlApply d l v) := by
  unfold Dev.testctlApply
  try dsimp only
  repeat' (first
    | with_reducible assumption
    | with_reducible apply Dev.rxWr_wf
    | with_reducible apply Dev.setLane_wf
    | with_reducible apply Dev.Wf.ite
    | with_reducible (refine Dev.Wf.fold _ ?_ ?_; rotate_left; intro e x he)
    | with_reducible (refine Dev.Wf.foldPair _ ?_ ?_; rotate_left; intro e x he)
    | split
    | simp only [Dev.wf_built]
    | with_reducible apply Dev.Built.other
    | with_reducible apply Dev.Wf.itePair
    | with_reducible (refine Dev.Wf.ofPair (by assumption) ?_)
    | with_reducible (refine Dev.Wf.ofPairSnd (by assumption) ?_)
    | with_reducible dsimp only)

theorem Dev.testSend_wf (d : Dev) (l : ℕ) (n : ℕ) (h_d : d.Wf) :
    Dev.Wf (Dev.testSend d l n) := by
  unfold Dev.testSend
  try dsimp only
  repeat' (first
    | with_reducible assumption
    | with_reducible apply Dev.setLane_wf
    | with_reducible apply Dev.Wf.ite
    | with_reducible (refine Dev.Wf.fold _ ?_ ?_; rotate_left; intro e x he)
    | with_reducible (refine Dev.Wf.foldPair _ ?_ ?_; rotate_left; intro e x he)
    | split
    | simp only [Dev.wf_built]
    | with_reducible apply Dev.Built.other
    | with_reducible apply Dev.Wf.itePair
    | with_reducible (refine Dev.Wf.ofPair (by assumption) ?_)
    | with_reducible (refine Dev.Wf.ofPairSnd (by assumption) ?_)
    | with_reducible dsimp only)

theorem Dev.checkUnit_wf (d : Dev) (l : ℕ) (ok : Bool) (h_d : d.Wf) :
    Dev.Wf (Dev.checkUnit d l ok) := by
  unfold Dev.checkUnit
  try dsimp only
  repeat' (first
    | with_reducible assumption
    | with_reducible apply Dev.rxWr_wf
    | with_reducible apply Dev.setLane_wf
    | with_reducible apply Dev.rxAdd_wf
    | with_reducible apply Dev.rxEvt_wf
    | with_reducible apply Dev.Wf.ite
    | with_reducible (refine Dev.Wf.fold _ ?_ ?_; rotate_left; intro e x he)
    | with_reducible (refine Dev.Wf.foldPair _ ?_ ?_; rotate_left; intro e x he)
    | split
    | simp only [Dev.wf_built]
    | with_reducible apply Dev.Built.other
    | with_reducible apply Dev.Wf.itePair
    | with_reducible (refine Dev.Wf.ofPair (by assumption) ?_)
    | with_reducible (refine Dev.Wf.ofPairSnd (by assumption) ?_)
    | with_reducible dsimp only)

theorem Dev.checkBit_wf (d : Dev) (l : ℕ) (b : Bool) (h_d : d.Wf) :
    Dev.Wf (Dev.checkBit d l b) := by
  unfold Dev.checkBit
  try dsimp only
  repeat' (first
    | with_reducible assumption
    | with_reducible apply Dev.setLane_wf
    | with_reducible apply Dev.checkUnit_wf
    | with_reducible apply Dev.Wf.ite
    | with_reducible (refine Dev.Wf.fold _ ?_ ?_; rotate_left; intro e x he)
    | with_reducible (refine Dev.Wf.foldPair _ ?_ ?_; rotate_left; intro e x he)
    | split
    | simp only [Dev.wf_built]
    | with_reducible apply Dev.Built.other
    | with_reducible apply Dev.Wf.itePair
    | with_reducible (refine Dev.Wf.ofPair (by assumption) ?_)
    | with_reducible (refine Dev.Wf.ofPairSnd (by assumption) ?_)
    | with_reducible dsimp only)

theorem Dev.checkLevels_wf (d : Dev) (l : ℕ) (levels : List Bool) (h_d : d.Wf) :
    Dev.Wf (Dev.checkLevels d l levels) := by
  unfold Dev.checkLevels
  try dsimp only
  repeat' (first
    | with_reducible assumption
    | with_reducible apply Dev.testSend_wf
    | with_reducible apply Dev.checkBit_wf
    | with_reducible apply Dev.Wf.ite
    | with_reducible (refine Dev.Wf.fold _ ?_ ?_; rotate_left; intro e x he)
    | with_reducible (refine Dev.Wf.foldPair _ ?_ ?_; rotate_left; intro e x he)
    | split
    | simp only [Dev.wf_built]
    | with_reducible apply Dev.Built.other
    | with_reducible apply Dev.Wf.itePair
    | with_reducible (refine Dev.Wf.ofPair (by assumption) ?_)
    | with_reducible (refine Dev.Wf.ofPairSnd (by assumption) ?_)
    | with_reducible dsimp only)

theorem Dev.tllCfgApply_wf (d : Dev) (n : Nat) (old : Sys2Proof.Word) (w : Sys2Proof.Word) (h_d : d.Wf) :
    Dev.Wf (Dev.tllCfgApply d n old w) := by
  unfold Dev.tllCfgApply
  try dsimp only
  repeat' (first
    | with_reducible assumption
    | with_reducible apply Dev.txSettle_wf
    | with_reducible apply Dev.rxRestart_wf
    | with_reducible apply Dev.Wf.ite
    | with_reducible (refine Dev.Wf.fold _ ?_ ?_; rotate_left; intro e x he)
    | with_reducible (refine Dev.Wf.foldPair _ ?_ ?_; rotate_left; intro e x he)
    | split
    | simp only [Dev.wf_built]
    | with_reducible apply Dev.Built.other
    | with_reducible apply Dev.Wf.itePair
    | with_reducible (refine Dev.Wf.ofPair (by assumption) ?_)
    | with_reducible (refine Dev.Wf.ofPairSnd (by assumption) ?_)
    | with_reducible dsimp only)

theorem Dev.lofTimer_wf (d : Dev) (l : Nat) (h_d : d.Wf) :
    Dev.Wf (Dev.lofTimer d l) := by
  unfold Dev.lofTimer
  try dsimp only
  repeat' (first
    | with_reducible assumption
    | with_reducible apply Dev.setPm_wf
    | with_reducible apply Dev.protSettle_wf
    | with_reducible apply Dev.defSettle_wf
    | with_reducible apply Dev.Wf.ite
    | with_reducible (refine Dev.Wf.fold _ ?_ ?_; rotate_left; intro e x he)
    | with_reducible (refine Dev.Wf.foldPair _ ?_ ?_; rotate_left; intro e x he)
    | split
    | simp only [Dev.wf_built]
    | with_reducible apply Dev.Built.other
    | with_reducible apply Dev.Wf.itePair
    | with_reducible (refine Dev.Wf.ofPair (by assumption) ?_)
    | with_reducible (refine Dev.Wf.ofPairSnd (by assumption) ?_)
    | with_reducible dsimp only)

end Sys2Proof.Machine
end

