-- ==== Sys2Proof/Laws/WfWalls.lean ====
section
/-! SUPPORT. The operations of Machine/Walls.lean keep every table of the block canonical. -/

set_option linter.unusedTactic false
set_option linter.unreachableTactic false

namespace Sys2Proof.Machine

theorem Dev.setWallState_wf (d : Dev) (w : Nat) (v : Nat) (h_d : d.Wf) :
    Dev.Wf (Dev.setWallState d w v) := by
  unfold Dev.setWallState
  try dsimp only
  repeat' (first
    | with_reducible assumption
    | with_reducible apply Dev.wr_wf
    | with_reducible apply Dev.Wf.ite
    | with_reducible (refine Dev.Wf.fold _ ?_ ?_; rotate_left; intro e x he)
    | with_reducible (refine Dev.Wf.foldPair _ ?_ ?_; rotate_left; intro e x he)
    | split
    | simp only [Dev.wf_built]
    | with_reducible apply Dev.Built.other
    | with_reducible apply Dev.Wf.itePair
    | with_reducible (refine Dev.Wf.ofPair (by assumption) ?_)
    | with_reducible (refine Dev.Wf.ofPairSnd (by assumption) ?_)
    | with_reducible dsimp only)

theorem Dev.wallFollow_wf (d : Dev) (target : Option Nat) (w : Nat) (h_d : d.Wf) :
    Dev.Wf (Dev.wallFollow d target w) := by
  unfold Dev.wallFollow
  try dsimp only
  repeat' (first
    | with_reducible assumption
    | with_reducible apply Dev.setEvtIf_wf
    | with_reducible apply Dev.setWallState_wf
    | with_reducible apply Dev.Wf.ite
    | with_reducible (refine Dev.Wf.fold _ ?_ ?_; rotate_left; intro e x he)
    | with_reducible (refine Dev.Wf.foldPair _ ?_ ?_; rotate_left; intro e x he)
    | split
    | simp only [Dev.wf_built]
    | with_reducible apply Dev.Built.other
    | with_reducible apply Dev.Wf.itePair
    | with_reducible (refine Dev.Wf.ofPair (by assumption) ?_)
    | with_reducible (refine Dev.Wf.ofPairSnd (by assumption) ?_)
    | with_reducible dsimp only)

theorem Dev.effsPut_wf (d : Dev) (h_d : d.Wf) :
    Dev.Wf (Dev.effsPut d) := by
  unfold Dev.effsPut
  try dsimp only
  repeat' (first
    | with_reducible assumption
    | with_reducible apply Dev.wr_wf
    | with_reducible apply Dev.Wf.ite
    | with_reducible (refine Dev.Wf.fold _ ?_ ?_; rotate_left; intro e x he)
    | with_reducible (refine Dev.Wf.foldPair _ ?_ ?_; rotate_left; intro e x he)
    | split
    | simp only [Dev.wf_built]
    | with_reducible apply Dev.Built.other
    | with_reducible apply Dev.Wf.itePair
    | with_reducible (refine Dev.Wf.ofPair (by assumption) ?_)
    | with_reducible (refine Dev.Wf.ofPairSnd (by assumption) ?_)
    | with_reducible dsimp only)

theorem Dev.safeRestart_wf (d : Dev) (h_d : d.Wf) :
    Dev.Wf (Dev.safeRestart d) := by
  unfold Dev.safeRestart
  try dsimp only
  repeat' (first
    | with_reducible assumption
    | with_reducible apply Dev.setTc_wf
    | with_reducible apply Dev.Wf.ite
    | with_reducible (refine Dev.Wf.fold _ ?_ ?_; rotate_left; intro e x he)
    | with_reducible (refine Dev.Wf.foldPair _ ?_ ?_; rotate_left; intro e x he)
    | split
    | simp only [Dev.wf_built]
    | with_reducible apply Dev.Built.other
    | with_reducible apply Dev.Wf.itePair
    | with_reducible (refine Dev.Wf.ofPair (by assumption) ?_)
    | with_reducible (refine Dev.Wf.ofPairSnd (by assumption) ?_)
    | with_reducible dsimp only)

theorem Dev.wallsSettle_wf (d : Dev) (h_d : d.Wf) :
    Dev.Wf (Dev.wallsSettle d) := by
  unfold Dev.wallsSettle
  try dsimp only
  repeat' (first
    | with_reducible assumption
    | with_reducible apply Dev.effsPut_wf
    | with_reducible apply Dev.wallFollow_wf
    | with_reducible apply Dev.wrOn_wf
    | with_reducible apply Dev.setEvtIf_wf
    | with_reducible apply Dev.wr_wf
    | with_reducible apply Dev.setEvt_wf
    | with_reducible apply Dev.safeRestart_wf
    | with_reducible apply Dev.Wf.ite
    | with_reducible (refine Dev.Wf.fold _ ?_ ?_; rotate_left; intro e x he)
    | with_reducible (refine Dev.Wf.foldPair _ ?_ ?_; rotate_left; intro e x he)
    | split
    | simp only [Dev.wf_built]
    | with_reducible apply Dev.Built.other
    | with_reducible apply Dev.Wf.itePair
    | with_reducible (refine Dev.Wf.ofPair (by assumption) ?_)
    | with_reducible (refine Dev.Wf.ofPairSnd (by assumption) ?_)
    | with_reducible dsimp only)

theorem Dev.swapEnd_wf (d : Dev) (cancelled : Bool) (h_d : d.Wf) :
    Dev.Wf (Dev.swapEnd d cancelled) := by
  unfold Dev.swapEnd
  try dsimp only
  repeat' (first
    | with_reducible assumption
    | with_reducible apply Dev.setEvt_wf
    | with_reducible apply Dev.wrOn_wf
    | with_reducible apply Dev.wr_wf
    | with_reducible apply Dev.Wf.ite
    | with_reducible (refine Dev.Wf.fold _ ?_ ?_; rotate_left; intro e x he)
    | with_reducible (refine Dev.Wf.foldPair _ ?_ ?_; rotate_left; intro e x he)
    | split
    | simp only [Dev.wf_built]
    | with_reducible apply Dev.Built.other
    | with_reducible apply Dev.Wf.itePair
    | with_reducible (refine Dev.Wf.ofPair (by assumption) ?_)
    | with_reducible (refine Dev.Wf.ofPairSnd (by assumption) ?_)
    | with_reducible dsimp only)

theorem Dev.swapCancel_wf (d : Dev) (h_d : d.Wf) :
    Dev.Wf (Dev.swapCancel d) := by
  unfold Dev.swapCancel
  try dsimp only
  repeat' (first
    | with_reducible assumption
    | with_reducible apply Dev.swapEnd_wf
    | with_reducible apply Dev.Wf.ite
    | with_reducible (refine Dev.Wf.fold _ ?_ ?_; rotate_left; intro e x he)
    | with_reducible (refine Dev.Wf.foldPair _ ?_ ?_; rotate_left; intro e x he)
    | split
    | simp only [Dev.wf_built]
    | with_reducible apply Dev.Built.other
    | with_reducible apply Dev.Wf.itePair
    | with_reducible (refine Dev.Wf.ofPair (by assumption) ?_)
    | with_reducible (refine Dev.Wf.ofPairSnd (by assumption) ?_)
    | with_reducible dsimp only)

theorem Dev.swapCancelDom_wf (d : Dev) (k : Nat) (h_d : d.Wf) :
    Dev.Wf (Dev.swapCancelDom d k) := by
  unfold Dev.swapCancelDom
  try dsimp only
  repeat' (first
    | with_reducible assumption
    | with_reducible apply Dev.swapEnd_wf
    | with_reducible apply Dev.Wf.ite
    | with_reducible (refine Dev.Wf.fold _ ?_ ?_; rotate_left; intro e x he)
    | with_reducible (refine Dev.Wf.foldPair _ ?_ ?_; rotate_left; intro e x he)
    | split
    | simp only [Dev.wf_built]
    | with_reducible apply Dev.Built.other
    | with_reducible apply Dev.Wf.itePair
    | with_reducible (refine Dev.Wf.ofPair (by assumption) ?_)
    | with_reducible (refine Dev.Wf.ofPairSnd (by assumption) ?_)
    | with_reducible dsimp only)

theorem Dev.wallFail_wf (d : Dev) (w : Nat) (cause : Nat) (isGiveUp : Bool) (h_d : d.Wf) :
    Dev.Wf (Dev.wallFail d w cause isGiveUp) := by
  unfold Dev.wallFail
  try dsimp only
  repeat' (first
    | with_reducible assumption
    | with_reducible apply Dev.wr_wf
    | with_reducible apply Dev.setWallState_wf
    | with_reducible apply Dev.swapCancel_wf
    | with_reducible apply Dev.setEvt_wf
    | with_reducible apply Dev.inc_wf
    | with_reducible apply Dev.setEvtIf_wf
    | with_reducible apply Dev.Wf.ite
    | with_reducible (refine Dev.Wf.fold _ ?_ ?_; rotate_left; intro e x he)
    | with_reducible (refine Dev.Wf.foldPair _ ?_ ?_; rotate_left; intro e x he)
    | split
    | simp only [Dev.wf_built]
    | with_reducible apply Dev.Built.other
    | with_reducible apply Dev.Wf.itePair
    | with_reducible (refine Dev.Wf.ofPair (by assumption) ?_)
    | with_reducible (refine Dev.Wf.ofPairSnd (by assumption) ?_)
    | with_reducible dsimp only)

theorem Dev.giveUp_wf (d : Dev) (w : Nat) (cause : Nat) (h_d : d.Wf) :
    Dev.Wf (Dev.giveUp d w cause) := by
  unfold Dev.giveUp
  try dsimp only
  repeat' (first
    | with_reducible assumption
    | with_reducible apply Dev.wallsSettle_wf
    | with_reducible apply Dev.wallFail_wf
    | with_reducible apply Dev.Wf.ite
    | with_reducible (refine Dev.Wf.fold _ ?_ ?_; rotate_left; intro e x he)
    | with_reducible (refine Dev.Wf.foldPair _ ?_ ?_; rotate_left; intro e x he)
    | split
    | simp only [Dev.wf_built]
    | with_reducible apply Dev.Built.other
    | with_reducible apply Dev.Wf.itePair
    | with_reducible (refine Dev.Wf.ofPair (by assumption) ?_)
    | with_reducible (refine Dev.Wf.ofPairSnd (by assumption) ?_)
    | with_reducible dsimp only)

theorem Dev.diagFail_wf (d : Dev) (w : Nat) (cause : Nat) (h_d : d.Wf) :
    Dev.Wf (Dev.diagFail d w cause) := by
  unfold Dev.diagFail
  try dsimp only
  repeat' (first
    | with_reducible assumption
    | with_reducible apply Dev.wallsSettle_wf
    | with_reducible apply Dev.wallFail_wf
    | with_reducible apply Dev.Wf.ite
    | with_reducible (refine Dev.Wf.fold _ ?_ ?_; rotate_left; intro e x he)
    | with_reducible (refine Dev.Wf.foldPair _ ?_ ?_; rotate_left; intro e x he)
    | split
    | simp only [Dev.wf_built]
    | with_reducible apply Dev.Built.other
    | with_reducible apply Dev.Wf.itePair
    | with_reducible (refine Dev.Wf.ofPair (by assumption) ?_)
    | with_reducible (refine Dev.Wf.ofPairSnd (by assumption) ?_)
    | with_reducible dsimp only)

theorem Dev.diag_wf (d : Dev) (w : Nat) (c : Sys2Proof.DiagCheck) (h_d : d.Wf) :
    Dev.Wf (Dev.diag d w c) := by
  unfold Dev.diag
  try dsimp only
  repeat' (first
    | with_reducible assumption
    | with_reducible apply Dev.setEvt_wf
    | with_reducible apply Dev.inc_wf
    | with_reducible apply Dev.diagFail_wf
    | with_reducible apply Dev.add_wf
    | with_reducible apply Dev.Wf.ite
    | with_reducible (refine Dev.Wf.fold _ ?_ ?_; rotate_left; intro e x he)
    | with_reducible (refine Dev.Wf.foldPair _ ?_ ?_; rotate_left; intro e x he)
    | split
    | simp only [Dev.wf_built]
    | with_reducible apply Dev.Built.other
    | with_reducible apply Dev.Wf.itePair
    | with_reducible (refine Dev.Wf.ofPair (by assumption) ?_)
    | with_reducible (refine Dev.Wf.ofPairSnd (by assumption) ?_)
    | with_reducible dsimp only)

theorem Dev.ctxClear_wf (d : Dev) (w : Nat) (tiles : List Nat) (ancs : List Nat) (slots : List Nat) (h_d : d.Wf) :
    Dev.Wf (Dev.ctxClear d w tiles ancs slots) := by
  unfold Dev.ctxClear
  try dsimp only
  repeat' (first
    | with_reducible assumption
    | with_reducible apply Dev.setTc_wf
    | with_reducible apply Dev.setAc_wf
    | with_reducible apply Dev.setUc_wf
    | with_reducible apply Dev.Wf.ite
    | with_reducible (refine Dev.Wf.fold _ ?_ ?_; rotate_left; intro e x he)
    | with_reducible (refine Dev.Wf.foldPair _ ?_ ?_; rotate_left; intro e x he)
    | split
    | simp only [Dev.wf_built]
    | with_reducible apply Dev.Built.other
    | with_reducible apply Dev.Wf.itePair
    | with_reducible (refine Dev.Wf.ofPair (by assumption) ?_)
    | with_reducible (refine Dev.Wf.ofPairSnd (by assumption) ?_)
    | with_reducible dsimp only)

theorem Dev.wallClear_wf (d : Dev) (w : Nat) (h_d : d.Wf) :
    Dev.Wf (Dev.wallClear d w) := by
  unfold Dev.wallClear
  try dsimp only
  repeat' (first
    | with_reducible assumption
    | with_reducible apply Dev.ctxClear_wf
    | with_reducible apply Dev.Wf.ite
    | with_reducible (refine Dev.Wf.fold _ ?_ ?_; rotate_left; intro e x he)
    | with_reducible (refine Dev.Wf.foldPair _ ?_ ?_; rotate_left; intro e x he)
    | split
    | simp only [Dev.wf_built]
    | with_reducible apply Dev.Built.other
    | with_reducible apply Dev.Wf.itePair
    | with_reducible (refine Dev.Wf.ofPair (by assumption) ?_)
    | with_reducible (refine Dev.Wf.ofPairSnd (by assumption) ?_)
    | with_reducible dsimp only)

theorem Dev.wallCopy_wf (d : Dev) (o : Nat) (w : Nat) (h_d : d.Wf) :
    Dev.Wf (Dev.wallCopy d o w) := by
  unfold Dev.wallCopy
  try dsimp only
  repeat' (first
    | with_reducible assumption
    | with_reducible apply Dev.setTc_wf
    | with_reducible apply Dev.setAc_wf
    | with_reducible apply Dev.setUc_wf
    | with_reducible apply Dev.Wf.ite
    | with_reducible (refine Dev.Wf.fold _ ?_ ?_; rotate_left; intro e x he)
    | with_reducible (refine Dev.Wf.foldPair _ ?_ ?_; rotate_left; intro e x he)
    | split
    | simp only [Dev.wf_built]
    | with_reducible apply Dev.Built.other
    | with_reducible apply Dev.Wf.itePair
    | with_reducible (refine Dev.Wf.ofPair (by assumption) ?_)
    | with_reducible (refine Dev.Wf.ofPairSnd (by assumption) ?_)
    | with_reducible dsimp only)

theorem Dev.rejoinStart_wf (d : Dev) (w : Nat) (h_d : d.Wf) :
    Dev.Wf (Dev.rejoinStart d w) := by
  unfold Dev.rejoinStart
  try dsimp only
  repeat' (first
    | with_reducible assumption
    | with_reducible apply Dev.setWallState_wf
    | with_reducible apply Dev.wallsSettle_wf
    | with_reducible apply Dev.Wf.ite
    | with_reducible (refine Dev.Wf.fold _ ?_ ?_; rotate_left; intro e x he)
    | with_reducible (refine Dev.Wf.foldPair _ ?_ ?_; rotate_left; intro e x he)
    | split
    | simp only [Dev.wf_built]
    | with_reducible apply Dev.Built.other
    | with_reducible apply Dev.Wf.itePair
    | with_reducible (refine Dev.Wf.ofPair (by assumption) ?_)
    | with_reducible (refine Dev.Wf.ofPairSnd (by assumption) ?_)
    | with_reducible dsimp only)

theorem Dev.wallReset_wf (d : Dev) (w : Nat) (h_d : d.Wf) :
    Dev.Wf (Dev.wallReset d w) := by
  unfold Dev.wallReset
  try dsimp only
  repeat' (first
    | with_reducible assumption
    | with_reducible apply Dev.rejoinStart_wf
    | with_reducible apply Dev.resetRegs_wf
    | with_reducible apply Dev.wallClear_wf
    | with_reducible apply Dev.wallsSettle_wf
    | with_reducible apply Dev.wallFail_wf
    | with_reducible apply Dev.Wf.ite
    | with_reducible (refine Dev.Wf.fold _ ?_ ?_; rotate_left; intro e x he)
    | with_reducible (refine Dev.Wf.foldPair _ ?_ ?_; rotate_left; intro e x he)
    | split
    | simp only [Dev.wf_built]
    | with_reducible apply Dev.Built.other
    | with_reducible apply Dev.Wf.itePair
    | with_reducible (refine Dev.Wf.ofPair (by assumption) ?_)
    | with_reducible (refine Dev.Wf.ofPairSnd (by assumption) ?_)
    | with_reducible dsimp only)

theorem Dev.crcClear_wf (d : Dev) (w : Nat) (tiles : List Nat) (ancs : List Nat) (slots : List Nat) (h_d : d.Wf) :
    Dev.Wf (Dev.crcClear d w tiles ancs slots) := by
  unfold Dev.crcClear
  try dsimp only
  repeat' (first
    | with_reducible assumption
    | with_reducible apply Dev.ctxClear_wf
    | with_reducible apply Dev.add_wf
    | with_reducible apply Dev.Wf.ite
    | with_reducible (refine Dev.Wf.fold _ ?_ ?_; rotate_left; intro e x he)
    | with_reducible (refine Dev.Wf.foldPair _ ?_ ?_; rotate_left; intro e x he)
    | split
    | simp only [Dev.wf_built]
    | with_reducible apply Dev.Built.other
    | with_reducible apply Dev.Wf.itePair
    | with_reducible (refine Dev.Wf.ofPair (by assumption) ?_)
    | with_reducible (refine Dev.Wf.ofPairSnd (by assumption) ?_)
    | with_reducible dsimp only)

theorem Dev.bistDone_wf (d : Dev) (w : Nat) (pass : Bool) (tiles : List Nat) (ancs : List Nat) (slots : List Nat) (h_d : d.Wf) :
    Dev.Wf (Dev.bistDone d w pass tiles ancs slots) := by
  unfold Dev.bistDone
  try dsimp only
  repeat' (first
    | with_reducible assumption
    | with_reducible apply Dev.diagFail_wf
    | with_reducible apply Dev.wallsSettle_wf
    | with_reducible apply Dev.setWallState_wf
    | with_reducible apply Dev.crcClear_wf
    | with_reducible apply Dev.Wf.ite
    | with_reducible (refine Dev.Wf.fold _ ?_ ?_; rotate_left; intro e x he)
    | with_reducible (refine Dev.Wf.foldPair _ ?_ ?_; rotate_left; intro e x he)
    | split
    | simp only [Dev.wf_built]
    | with_reducible apply Dev.Built.other
    | with_reducible apply Dev.Wf.itePair
    | with_reducible (refine Dev.Wf.ofPair (by assumption) ?_)
    | with_reducible (refine Dev.Wf.ofPairSnd (by assumption) ?_)
    | with_reducible dsimp only)

theorem Dev.copyDone_wf (d : Dev) (w : Nat) (us : Nat) (passes : Nat) (h_d : d.Wf) :
    Dev.Wf (Dev.copyDone d w us passes) := by
  unfold Dev.copyDone
  try dsimp only
  repeat' (first
    | with_reducible assumption
    | with_reducible apply Dev.wallCopy_wf
    | with_reducible apply Dev.wr_wf
    | with_reducible apply Dev.wallsSettle_wf
    | with_reducible apply Dev.setWallState_wf
    | with_reducible apply Dev.Wf.ite
    | with_reducible (refine Dev.Wf.fold _ ?_ ?_; rotate_left; intro e x he)
    | with_reducible (refine Dev.Wf.foldPair _ ?_ ?_; rotate_left; intro e x he)
    | split
    | simp only [Dev.wf_built]
    | with_reducible apply Dev.Built.other
    | with_reducible apply Dev.Wf.itePair
    | with_reducible (refine Dev.Wf.ofPair (by assumption) ?_)
    | with_reducible (refine Dev.Wf.ofPairSnd (by assumption) ?_)
    | with_reducible dsimp only)

theorem Dev.copyTimeout_wf (d : Dev) (w : Nat) (h_d : d.Wf) :
    Dev.Wf (Dev.copyTimeout d w) := by
  unfold Dev.copyTimeout
  try dsimp only
  repeat' (first
    | with_reducible assumption
    | with_reducible apply Dev.diagFail_wf
    | with_reducible apply Dev.Wf.ite
    | with_reducible (refine Dev.Wf.fold _ ?_ ?_; rotate_left; intro e x he)
    | with_reducible (refine Dev.Wf.foldPair _ ?_ ?_; rotate_left; intro e x he)
    | split
    | simp only [Dev.wf_built]
    | with_reducible apply Dev.Built.other
    | with_reducible apply Dev.Wf.itePair
    | with_reducible (refine Dev.Wf.ofPair (by assumption) ?_)
    | with_reducible (refine Dev.Wf.ofPairSnd (by assumption) ?_)
    | with_reducible dsimp only)

theorem Dev.shadowFrame_wf (d : Dev) (k : Nat) (h_d : d.Wf) :
    Dev.Wf (Dev.shadowFrame d k) := by
  unfold Dev.shadowFrame
  try dsimp only
  repeat' (first
    | with_reducible assumption
    | with_reducible apply Dev.Wf.ite
    | with_reducible (refine Dev.Wf.fold _ ?_ ?_; rotate_left; intro e x he)
    | with_reducible (refine Dev.Wf.foldPair _ ?_ ?_; rotate_left; intro e x he)
    | split
    | simp only [Dev.wf_built]
    | with_reducible apply Dev.Built.other
    | with_reducible apply Dev.Wf.itePair
    | with_reducible (refine Dev.Wf.ofPair (by assumption) ?_)
    | with_reducible (refine Dev.Wf.ofPairSnd (by assumption) ?_)
    | with_reducible dsimp only)

theorem Dev.shadowDone_wf (d : Dev) (w : Nat) (h_d : d.Wf) :
    Dev.Wf (Dev.shadowDone d w) := by
  unfold Dev.shadowDone
  try dsimp only
  repeat' (first
    | with_reducible assumption
    | with_reducible apply Dev.setWallState_wf
    | with_reducible apply Dev.wallsSettle_wf
    | with_reducible apply Dev.setEvt_wf
    | with_reducible apply Dev.Wf.ite
    | with_reducible (refine Dev.Wf.fold _ ?_ ?_; rotate_left; intro e x he)
    | with_reducible (refine Dev.Wf.foldPair _ ?_ ?_; rotate_left; intro e x he)
    | split
    | simp only [Dev.wf_built]
    | with_reducible apply Dev.Built.other
    | with_reducible apply Dev.Wf.itePair
    | with_reducible (refine Dev.Wf.ofPair (by assumption) ?_)
    | with_reducible (refine Dev.Wf.ofPairSnd (by assumption) ?_)
    | with_reducible dsimp only)

theorem Dev.swapCmd_wf (d : Dev) (v : Sys2Proof.Word) (h_d : d.Wf) :
    Dev.Wf (Dev.swapCmd d v) := by
  unfold Dev.swapCmd
  try dsimp only
  repeat' (first
    | with_reducible assumption
    | with_reducible apply Dev.wr_wf
    | with_reducible apply Dev.swapCancel_wf
    | with_reducible apply Dev.Wf.ite
    | with_reducible (refine Dev.Wf.fold _ ?_ ?_; rotate_left; intro e x he)
    | with_reducible (refine Dev.Wf.foldPair _ ?_ ?_; rotate_left; intro e x he)
    | split
    | simp only [Dev.wf_built]
    | with_reducible apply Dev.Built.other
    | with_reducible apply Dev.Wf.itePair
    | with_reducible (refine Dev.Wf.ofPair (by assumption) ?_)
    | with_reducible (refine Dev.Wf.ofPairSnd (by assumption) ?_)
    | with_reducible dsimp only)

theorem Dev.swapExecute_wf (d : Dev) (k : Nat) (h_d : d.Wf) :
    Dev.Wf (Dev.swapExecute d k) := by
  unfold Dev.swapExecute
  try dsimp only
  repeat' (first
    | with_reducible assumption
    | with_reducible apply Dev.setWallState_wf
    | with_reducible apply Dev.wallsSettle_wf
    | with_reducible apply Dev.swapEnd_wf
    | with_reducible apply Dev.Wf.ite
    | with_reducible (refine Dev.Wf.fold _ ?_ ?_; rotate_left; intro e x he)
    | with_reducible (refine Dev.Wf.foldPair _ ?_ ?_; rotate_left; intro e x he)
    | split
    | simp only [Dev.wf_built]
    | with_reducible apply Dev.Built.other
    | with_reducible apply Dev.Wf.itePair
    | with_reducible (refine Dev.Wf.ofPair (by assumption) ?_)
    | with_reducible (refine Dev.Wf.ofPairSnd (by assumption) ?_)
    | with_reducible dsimp only)

theorem Dev.swapRearm_wf (d : Dev) (h_d : d.Wf) :
    Dev.Wf (Dev.swapRearm d) := by
  unfold Dev.swapRearm
  try dsimp only
  repeat' (first
    | with_reducible assumption
    | with_reducible apply Dev.Wf.ite
    | with_reducible (refine Dev.Wf.fold _ ?_ ?_; rotate_left; intro e x he)
    | with_reducible (refine Dev.Wf.foldPair _ ?_ ?_; rotate_left; intro e x he)
    | split
    | simp only [Dev.wf_built]
    | with_reducible apply Dev.Built.other
    | with_reducible apply Dev.Wf.itePair
    | with_reducible (refine Dev.Wf.ofPair (by assumption) ?_)
    | with_reducible (refine Dev.Wf.ofPairSnd (by assumption) ?_)
    | with_reducible dsimp only)

theorem Dev.selfTest_wf (d : Dev) (path : Nat) (h_d : d.Wf) :
    Dev.Wf (Dev.selfTest d path) := by
  unfold Dev.selfTest
  try dsimp only
  repeat' (first
    | with_reducible assumption
    | with_reducible apply Dev.wr_wf
    | with_reducible apply Dev.Wf.ite
    | with_reducible (refine Dev.Wf.fold _ ?_ ?_; rotate_left; intro e x he)
    | with_reducible (refine Dev.Wf.foldPair _ ?_ ?_; rotate_left; intro e x he)
    | split
    | simp only [Dev.wf_built]
    | with_reducible apply Dev.Built.other
    | with_reducible apply Dev.Wf.itePair
    | with_reducible (refine Dev.Wf.ofPair (by assumption) ?_)
    | with_reducible (refine Dev.Wf.ofPairSnd (by assumption) ?_)
    | with_reducible dsimp only)

theorem Dev.mismatch_wf (d : Dev) (kind : Nat) (index : Nat) (h_d : d.Wf) :
    Dev.Wf (Dev.mismatch d kind index) := by
  unfold Dev.mismatch
  try dsimp only
  repeat' (first
    | with_reducible assumption
    | with_reducible apply Dev.setEvt_wf
    | with_reducible apply Dev.inc_wf
    | with_reducible apply Dev.giveUp_wf
    | with_reducible apply Dev.selfTest_wf
    | with_reducible apply Dev.Wf.ite
    | with_reducible (refine Dev.Wf.fold _ ?_ ?_; rotate_left; intro e x he)
    | with_reducible (refine Dev.Wf.foldPair _ ?_ ?_; rotate_left; intro e x he)
    | split
    | simp only [Dev.wf_built]
    | with_reducible apply Dev.Built.other
    | with_reducible apply Dev.Wf.itePair
    | with_reducible (refine Dev.Wf.ofPair (by assumption) ?_)
    | with_reducible (refine Dev.Wf.ofPairSnd (by assumption) ?_)
    | with_reducible dsimp only)

theorem Dev.selfTestDone_wf (d : Dev) (failA : Bool) (failB : Bool) (h_d : d.Wf) :
    Dev.Wf (Dev.selfTestDone d failA failB) := by
  unfold Dev.selfTestDone
  try dsimp only
  repeat' (first
    | with_reducible assumption
    | with_reducible apply Dev.wr_wf
    | with_reducible apply Dev.wallFail_wf
    | with_reducible apply Dev.inc_wf
    | with_reducible apply Dev.wallsSettle_wf
    | with_reducible apply Dev.selfTest_wf
    | with_reducible apply Dev.Wf.ite
    | with_reducible (refine Dev.Wf.fold _ ?_ ?_; rotate_left; intro e x he)
    | with_reducible (refine Dev.Wf.foldPair _ ?_ ?_; rotate_left; intro e x he)
    | split
    | simp only [Dev.wf_built]
    | with_reducible apply Dev.Built.other
    | with_reducible apply Dev.Wf.itePair
    | with_reducible (refine Dev.Wf.ofPair (by assumption) ?_)
    | with_reducible (refine Dev.Wf.ofPairSnd (by assumption) ?_)
    | with_reducible dsimp only)

theorem Dev.wallCtl_wf (d : Dev) (w : Nat) (v : Sys2Proof.Word) (h_d : d.Wf) :
    Dev.Wf (Dev.wallCtl d w v) := by
  unfold Dev.wallCtl
  try dsimp only
  repeat' (first
    | with_reducible assumption
    | with_reducible apply Dev.wr_wf
    | with_reducible apply Dev.wallReset_wf
    | with_reducible apply Dev.giveUp_wf
    | with_reducible apply Dev.rejoinStart_wf
    | with_reducible apply Dev.Wf.ite
    | with_reducible (refine Dev.Wf.fold _ ?_ ?_; rotate_left; intro e x he)
    | with_reducible (refine Dev.Wf.foldPair _ ?_ ?_; rotate_left; intro e x he)
    | split
    | simp only [Dev.wf_built]
    | with_reducible apply Dev.Built.other
    | with_reducible apply Dev.Wf.itePair
    | with_reducible (refine Dev.Wf.ofPair (by assumption) ?_)
    | with_reducible (refine Dev.Wf.ofPairSnd (by assumption) ?_)
    | with_reducible dsimp only)

theorem Dev.wallAfter_wf (d : Dev) (w : Nat) (off : Nat) (old : Sys2Proof.Word) (v : Sys2Proof.Word) (h_d : d.Wf) :
    Dev.Wf (Dev.wallAfter d w off old v) := by
  unfold Dev.wallAfter
  try dsimp only
  repeat' (first
    | with_reducible assumption
    | with_reducible apply Dev.wallsSettle_wf
    | with_reducible apply Dev.wallCtl_wf
    | with_reducible apply Dev.giveUp_wf
    | with_reducible apply Dev.Wf.ite
    | with_reducible (refine Dev.Wf.fold _ ?_ ?_; rotate_left; intro e x he)
    | with_reducible (refine Dev.Wf.foldPair _ ?_ ?_; rotate_left; intro e x he)
    | split
    | simp only [Dev.wf_built]
    | with_reducible apply Dev.Built.other
    | with_reducible apply Dev.Wf.itePair
    | with_reducible (refine Dev.Wf.ofPair (by assumption) ?_)
    | with_reducible (refine Dev.Wf.ofPairSnd (by assumption) ?_)
    | with_reducible dsimp only)

theorem Dev.cgateCntClr_wf (d : Dev) (h_d : d.Wf) :
    Dev.Wf (Dev.cgateCntClr d) := by
  unfold Dev.cgateCntClr
  try dsimp only
  repeat' (first
    | with_reducible assumption
    | with_reducible apply Dev.wr_wf
    | with_reducible apply Dev.Wf.ite
    | with_reducible (refine Dev.Wf.fold _ ?_ ?_; rotate_left; intro e x he)
    | with_reducible (refine Dev.Wf.foldPair _ ?_ ?_; rotate_left; intro e x he)
    | split
    | simp only [Dev.wf_built]
    | with_reducible apply Dev.Built.other
    | with_reducible apply Dev.Wf.itePair
    | with_reducible (refine Dev.Wf.ofPair (by assumption) ?_)
    | with_reducible (refine Dev.Wf.ofPairSnd (by assumption) ?_)
    | with_reducible dsimp only)

theorem Dev.cgateAfter_wf (d : Dev) (off : Nat) (v : Sys2Proof.Word) (h_d : d.Wf) :
    Dev.Wf (Dev.cgateAfter d off v) := by
  unfold Dev.cgateAfter
  try dsimp only
  repeat' (first
    | with_reducible assumption
    | with_reducible apply Dev.swapCmd_wf
    | with_reducible apply Dev.cgateCntClr_wf
    | with_reducible apply Dev.Wf.ite
    | with_reducible (refine Dev.Wf.fold _ ?_ ?_; rotate_left; intro e x he)
    | with_reducible (refine Dev.Wf.foldPair _ ?_ ?_; rotate_left; intro e x he)
    | split
    | simp only [Dev.wf_built]
    | with_reducible apply Dev.Built.other
    | with_reducible apply Dev.Wf.itePair
    | with_reducible (refine Dev.Wf.ofPair (by assumption) ?_)
    | with_reducible (refine Dev.Wf.ofPairSnd (by assumption) ?_)
    | with_reducible dsimp only)

theorem Dev.wallsStart_wf (d : Dev) (h_d : d.Wf) :
    Dev.Wf (Dev.wallsStart d) := by
  unfold Dev.wallsStart
  try dsimp only
  repeat' (first
    | with_reducible assumption
    | with_reducible apply Dev.wallClear_wf
    | with_reducible apply Dev.Wf.ite
    | with_reducible (refine Dev.Wf.fold _ ?_ ?_; rotate_left; intro e x he)
    | with_reducible (refine Dev.Wf.foldPair _ ?_ ?_; rotate_left; intro e x he)
    | split
    | simp only [Dev.wf_built]
    | with_reducible apply Dev.Built.other
    | with_reducible apply Dev.Wf.itePair
    | with_reducible (refine Dev.Wf.ofPair (by assumption) ?_)
    | with_reducible (refine Dev.Wf.ofPairSnd (by assumption) ?_)
    | with_reducible dsimp only)

end Sys2Proof.Machine
end

