-- ==== Sys2Proof/Laws/WfFrameStore.lean ====
section
/-! SUPPORT. The operations of Machine/FrameStore.lean keep every table of the block canonical. -/

set_option linter.unusedTactic false
set_option linter.unreachableTactic false

namespace Sys2Proof.Machine

theorem Dev.setMemByte_wf (d : Dev) (m : Nat) (a : Nat) (b : Sys2Proof.Byte) (h_d : d.Wf) :
    Dev.Wf (Dev.setMemByte d m a b) := by
  unfold Dev.setMemByte
  try dsimp only
  repeat' (first
    | with_reducible assumption
    | with_reducible apply Dev.Wf.ite
    | with_reducible (refine Dev.Wf.fold _ ?_ ?_; rotate_left; intro e x he)
    | with_reducible (refine Dev.Wf.foldPair _ ?_ ?_; rotate_left; intro e x he)
    | split
    | simp only [Dev.wf_built]
    | with_reducible apply Dev.Built.other
    | with_reducible apply Dev.Built.up_mem
    | with_reducible apply Map.wf_put
    | with_reducible apply Map.wf_filter
    | exact rfl
    | with_reducible apply Dev.Wf.mem
    | with_reducible apply Dev.Wf.itePair
    | with_reducible (refine Dev.Wf.ofPair (by assumption) ?_)
    | with_reducible (refine Dev.Wf.ofPairSnd (by assumption) ?_)
    | with_reducible dsimp only)

theorem Dev.setMemBytes_wf (d : Dev) (m a : Nat) (bs : List Byte) (h_d : d.Wf) : (Dev.setMemBytes d m a bs).Wf := by
  induction bs generalizing d a with
  | nil => exact h_d
  | cons b bs ih => exact ih _ _ (Dev.setMemByte_wf d m a b h_d)

theorem Dev.memBw_wf (d : Dev) (m : Nat) (isWrite : Bool) (n : Nat) (h_d : d.Wf) :
    Dev.Wf (Dev.memBw d m isWrite n) := by
  unfold Dev.memBw
  try dsimp only
  repeat' (first
    | with_reducible assumption
    | with_reducible apply Dev.bwAdd_wf
    | with_reducible apply Dev.Wf.ite
    | with_reducible (refine Dev.Wf.fold _ ?_ ?_; rotate_left; intro e x he)
    | with_reducible (refine Dev.Wf.foldPair _ ?_ ?_; rotate_left; intro e x he)
    | split
    | simp only [Dev.wf_built]
    | with_reducible apply Dev.Built.other
    | with_reducible apply Dev.Wf.itePair
    | with_reducible (refine Dev.Wf.ofPair (by assumption) ?_)
    | with_reducible (refine Dev.Wf.ofPairSnd (by assumption) ?_)
    | with_reducible dsimp only)

theorem Dev.memLose_wf (d : Dev) (h_d : d.Wf) : (Dev.memLose d).Wf :=
  { h_d with mem := rfl }

theorem memLoseOne_mem (m : Nat) (f g : Nat → Byte) (hfg : ∀ k, ((k / 2 ^ 34 == 0) != (m == 0)) = true → g k = f k) (l : Map Byte) (a : Nat)
    (hl : Map.wfFrom f l a = true) : Map.wfFrom g (l.filter (fun e => (e.1 / 2 ^ 34 == 0) != (m == 0))) a = true := by
  induction l generalizing a with
  | nil => rfl
  | cons e l ih =>
    obtain ⟨j, v⟩ := e
    simp only [Map.wfFrom, Bool.and_eq_true, decide_eq_true_eq, Bool.not_eq_true', decide_eq_false_iff_not] at hl
    by_cases hj : ((j / 2 ^ 34 == 0) != (m == 0)) = true
    · rw [show List.filter (fun (e : Nat × Byte) => (e.1 / 2 ^ 34 == 0) != (m == 0)) ((j, v) :: l) =
        (j, v) :: List.filter (fun (e : Nat × Byte) => (e.1 / 2 ^ 34 == 0) != (m == 0)) l from List.filter_cons_of_pos (by exact hj)]
      simp only [Map.wfFrom, Bool.and_eq_true, decide_eq_true_eq, Bool.not_eq_true', decide_eq_false_iff_not]
      refine ⟨⟨hl.1.1, ?_⟩, ih _ hl.2⟩
      rw [hfg j hj]
      exact hl.1.2
    · rw [show List.filter (fun (e : Nat × Byte) => (e.1 / 2 ^ 34 == 0) != (m == 0)) ((j, v) :: l) =
        List.filter (fun (e : Nat × Byte) => (e.1 / 2 ^ 34 == 0) != (m == 0)) l from List.filter_cons_of_neg (by exact hj)]
      exact Map.wfFrom_mono g (by omega) (ih _ hl.2)

theorem Dev.memLoseOne_wf (d : Dev) (m : Nat) (h_d : d.Wf) : (Dev.memLoseOne d m).Wf := by
  unfold Dev.memLoseOne
  dsimp only
  split
  · rename_i hm
    refine { h_d with mem := memLoseOne_mem m _ _ ?_ _ _ h_d.mem }
    intro k hk
    simp only [Dev.memFree]
    rw [hm] at hk
    have : (k / 2 ^ 34 == 0) = false := by revert hk; cases (k / 2 ^ 34 == 0) <;> simp
    simp only [this, Bool.false_eq_true, ↓reduceIte]
  · rename_i hm
    refine { h_d with mem := memLoseOne_mem m _ _ ?_ _ _ h_d.mem }
    intro k hk
    simp only [Dev.memFree]
    have hm' : (m == 0) = false := by simpa using hm
    rw [hm'] at hk
    have : (k / 2 ^ 34 == 0) = true := by revert hk; cases (k / 2 ^ 34 == 0) <;> simp
    simp only [this, ↓reduceIte]

theorem Dev.admitErr_wf (d : Dev) (cause : Nat) (shortfall : Nat) (h_d : d.Wf) :
    Dev.Wf (Dev.admitErr d cause shortfall) := by
  unfold Dev.admitErr
  try dsimp only
  repeat' (first
    | with_reducible assumption
    | with_reducible apply Dev.wr_wf
    | with_reducible apply Dev.Wf.ite
    | with_reducible (refine Dev.Wf.fold _ ?_ ?_; rotate_left; intro e x he)
    | with_reducible (refine Dev.Wf.foldPair _ ?_ ?_; rotate_left; intro e x he)
    | split
    | simp only [Dev.wf_built]
    | with_reducible apply Dev.Built.other
    | with_reducible apply Dev.Wf.itePair
    | with_reducible (refine Dev.Wf.ofPair (by assumption) ?_)
    | with_reducible (refine Dev.Wf.ofPairSnd (by assumption) ?_)
    | with_reducible dsimp only)

theorem Dev.reserve_wf (d : Dev) (m : Nat) (n : Int) (h_d : d.Wf) :
    Dev.Wf (Dev.reserve d m n) := by
  unfold Dev.reserve
  try dsimp only
  repeat' (first
    | with_reducible assumption
    | with_reducible apply Dev.wr_wf
    | with_reducible apply Dev.Wf.ite
    | with_reducible (refine Dev.Wf.fold _ ?_ ?_; rotate_left; intro e x he)
    | with_reducible (refine Dev.Wf.foldPair _ ?_ ?_; rotate_left; intro e x he)
    | split
    | simp only [Dev.wf_built]
    | with_reducible apply Dev.Built.other
    | with_reducible apply Dev.Wf.itePair
    | with_reducible (refine Dev.Wf.ofPair (by assumption) ?_)
    | with_reducible (refine Dev.Wf.ofPairSnd (by assumption) ?_)
    | with_reducible dsimp only)

theorem Dev.memcOnRej_wf (d : Dev) (m : Nat) (off : Nat) (v : Sys2Proof.Word) (r : Rej) (h_d : d.Wf) :
    Dev.Wf (Dev.memcOnRej d m off v r) := by
  unfold Dev.memcOnRej
  try dsimp only
  repeat' (first
    | with_reducible assumption
    | with_reducible apply Dev.admitErr_wf
    | with_reducible apply Dev.Wf.ite
    | with_reducible (refine Dev.Wf.fold _ ?_ ?_; rotate_left; intro e x he)
    | with_reducible (refine Dev.Wf.foldPair _ ?_ ?_; rotate_left; intro e x he)
    | split
    | simp only [Dev.wf_built]
    | with_reducible apply Dev.Built.other
    | with_reducible apply Dev.Wf.itePair
    | with_reducible (refine Dev.Wf.ofPair (by assumption) ?_)
    | with_reducible (refine Dev.Wf.ofPairSnd (by assumption) ?_)
    | with_reducible dsimp only)

theorem Dev.memcAfter_wf (d : Dev) (m : Nat) (off : Nat) (old : Sys2Proof.Word) (v : Sys2Proof.Word) (h_d : d.Wf) :
    Dev.Wf (Dev.memcAfter d m off old v) := by
  unfold Dev.memcAfter
  try dsimp only
  repeat' (first
    | with_reducible assumption
    | with_reducible apply Dev.wr_wf
    | with_reducible apply Dev.memLoseOne_wf
    | with_reducible apply Dev.Wf.ite
    | with_reducible (refine Dev.Wf.fold _ ?_ ?_; rotate_left; intro e x he)
    | with_reducible (refine Dev.Wf.foldPair _ ?_ ?_; rotate_left; intro e x he)
    | split
    | simp only [Dev.wf_built]
    | with_reducible apply Dev.Built.other
    | with_reducible apply Dev.Wf.itePair
    | with_reducible (refine Dev.Wf.ofPair (by assumption) ?_)
    | with_reducible (refine Dev.Wf.ofPairSnd (by assumption) ?_)
    | with_reducible dsimp only)

theorem Dev.memcTrained_wf (d : Dev) (m : Nat) (pass : Bool) (failCh : Nat) (h_d : d.Wf) :
    Dev.Wf (Dev.memcTrained d m pass failCh) := by
  unfold Dev.memcTrained
  try dsimp only
  repeat' (first
    | with_reducible assumption
    | with_reducible apply Dev.setEvt_wf
    | with_reducible apply Dev.wr_wf
    | with_reducible apply Dev.Wf.ite
    | with_reducible (refine Dev.Wf.fold _ ?_ ?_; rotate_left; intro e x he)
    | with_reducible (refine Dev.Wf.foldPair _ ?_ ?_; rotate_left; intro e x he)
    | split
    | simp only [Dev.wf_built]
    | with_reducible apply Dev.Built.other
    | with_reducible apply Dev.Wf.itePair
    | with_reducible (refine Dev.Wf.ofPair (by assumption) ?_)
    | with_reducible (refine Dev.Wf.ofPairSnd (by assumption) ?_)
    | with_reducible dsimp only)

theorem Dev.memcRetrain_wf (d : Dev) (m : Nat) (derate : Bool) (h_d : d.Wf) :
    Dev.Wf (Dev.memcRetrain d m derate) := by
  unfold Dev.memcRetrain
  try dsimp only
  repeat' (first
    | with_reducible assumption
    | with_reducible apply Dev.wrOn_wf
    | with_reducible apply Dev.Wf.ite
    | with_reducible (refine Dev.Wf.fold _ ?_ ?_; rotate_left; intro e x he)
    | with_reducible (refine Dev.Wf.foldPair _ ?_ ?_; rotate_left; intro e x he)
    | split
    | simp only [Dev.wf_built]
    | with_reducible apply Dev.Built.other
    | with_reducible apply Dev.Wf.itePair
    | with_reducible (refine Dev.Wf.ofPair (by assumption) ?_)
    | with_reducible (refine Dev.Wf.ofPairSnd (by assumption) ?_)
    | with_reducible dsimp only)

theorem Dev.setChState_wf (d : Dev) (c : Nat) (s : Nat) (h_d : d.Wf) :
    Dev.Wf (Dev.setChState d c s) := by
  unfold Dev.setChState
  try dsimp only
  repeat' (first
    | with_reducible assumption
    | with_reducible apply Dev.setChan_wf
    | with_reducible apply Dev.wrB_wf
    | with_reducible apply Dev.Wf.ite
    | with_reducible (refine Dev.Wf.fold _ ?_ ?_; rotate_left; intro e x he)
    | with_reducible (refine Dev.Wf.foldPair _ ?_ ?_; rotate_left; intro e x he)
    | split
    | simp only [Dev.wf_built]
    | with_reducible apply Dev.Built.other
    | with_reducible apply Dev.Wf.itePair
    | with_reducible (refine Dev.Wf.ofPair (by assumption) ?_)
    | with_reducible (refine Dev.Wf.ofPairSnd (by assumption) ?_)
    | with_reducible dsimp only)

theorem Dev.withChCfg_wf (d : Dev) (c : ℕ) (v : Sys2Proof.Word) (h_d : d.Wf) :
    Dev.Wf (Dev.withChCfg d c v) := by
  unfold Dev.withChCfg
  try dsimp only
  repeat' (first
    | with_reducible assumption
    | with_reducible apply Dev.setChan_wf
    | with_reducible apply Dev.setReg_wf
    | with_reducible apply Dev.Wf.ite
    | with_reducible (refine Dev.Wf.fold _ ?_ ?_; rotate_left; intro e x he)
    | with_reducible (refine Dev.Wf.foldPair _ ?_ ?_; rotate_left; intro e x he)
    | split
    | simp only [Dev.wf_built]
    | with_reducible apply Dev.Built.other
    | with_reducible apply Dev.Wf.itePair
    | with_reducible (refine Dev.Wf.ofPair (by assumption) ?_)
    | with_reducible (refine Dev.Wf.ofPairSnd (by assumption) ?_)
    | with_reducible dsimp only)

theorem Dev.chCfgOnRej_wf (d : Dev) (c : ℕ) (old : Sys2Proof.Word) (v : Sys2Proof.Word) (r : Rej) (h_d : d.Wf) :
    Dev.Wf (Dev.chCfgOnRej d c old v r) := by
  unfold Dev.chCfgOnRej
  try dsimp only
  repeat' (first
    | with_reducible assumption
    | with_reducible apply Dev.withChCfg_wf
    | with_reducible apply Dev.setEvt_wf
    | with_reducible apply Dev.admitErr_wf
    | with_reducible apply Dev.Wf.ite
    | with_reducible (refine Dev.Wf.fold _ ?_ ?_; rotate_left; intro e x he)
    | with_reducible (refine Dev.Wf.foldPair _ ?_ ?_; rotate_left; intro e x he)
    | split
    | simp only [Dev.wf_built]
    | with_reducible apply Dev.Built.other
    | with_reducible apply Dev.Wf.itePair
    | with_reducible (refine Dev.Wf.ofPair (by assumption) ?_)
    | with_reducible (refine Dev.Wf.ofPairSnd (by assumption) ?_)
    | with_reducible dsimp only)

theorem Dev.confRelease_wf (d : Dev) (x : Option ChanConf) (h_d : d.Wf) :
    Dev.Wf (Dev.confRelease d x) := by
  unfold Dev.confRelease
  try dsimp only
  repeat' (first
    | with_reducible assumption
    | with_reducible apply Dev.reserve_wf
    | with_reducible apply Dev.Wf.ite
    | with_reducible (refine Dev.Wf.fold _ ?_ ?_; rotate_left; intro e x he)
    | with_reducible (refine Dev.Wf.foldPair _ ?_ ?_; rotate_left; intro e x he)
    | split
    | simp only [Dev.wf_built]
    | with_reducible apply Dev.Built.other
    | with_reducible apply Dev.Wf.itePair
    | with_reducible (refine Dev.Wf.ofPair (by assumption) ?_)
    | with_reducible (refine Dev.Wf.ofPairSnd (by assumption) ?_)
    | with_reducible dsimp only)

theorem Dev.chOff_wf (d : Dev) (c : ℕ) (h_d : d.Wf) :
    Dev.Wf (Dev.chOff d c) := by
  unfold Dev.chOff
  try dsimp only
  repeat' (first
    | with_reducible assumption
    | with_reducible apply Dev.confRelease_wf
    | with_reducible apply Dev.wrB_wf
    | with_reducible apply Dev.setChan_wf
    | with_reducible apply Dev.Wf.ite
    | with_reducible (refine Dev.Wf.fold _ ?_ ?_; rotate_left; intro e x he)
    | with_reducible (refine Dev.Wf.foldPair _ ?_ ?_; rotate_left; intro e x he)
    | split
    | simp only [Dev.wf_built]
    | with_reducible apply Dev.Built.other
    | with_reducible apply Dev.Wf.itePair
    | with_reducible (refine Dev.Wf.ofPair (by assumption) ?_)
    | with_reducible (refine Dev.Wf.ofPairSnd (by assumption) ?_)
    | with_reducible dsimp only)

theorem Dev.chOn_wf (d : Dev) (c : ℕ) (x : ChanConf) (h_d : d.Wf) :
    Dev.Wf (Dev.chOn d c x) := by
  unfold Dev.chOn
  try dsimp only
  repeat' (first
    | with_reducible assumption
    | with_reducible apply Dev.setChan_wf
    | with_reducible apply Dev.setChState_wf
    | with_reducible apply Dev.wrB_wf
    | with_reducible apply Dev.Wf.ite
    | with_reducible (refine Dev.Wf.fold _ ?_ ?_; rotate_left; intro e x he)
    | with_reducible (refine Dev.Wf.foldPair _ ?_ ?_; rotate_left; intro e x he)
    | split
    | simp only [Dev.wf_built]
    | with_reducible apply Dev.Built.other
    | with_reducible apply Dev.Wf.itePair
    | with_reducible (refine Dev.Wf.ofPair (by assumption) ?_)
    | with_reducible (refine Dev.Wf.ofPairSnd (by assumption) ?_)
    | with_reducible dsimp only)

theorem Dev.chCfgAfter_wf (d : Dev) (c : ℕ) (old : Sys2Proof.Word) (v : Sys2Proof.Word) (h_d : d.Wf) :
    Dev.Wf (Dev.chCfgAfter d c old v) := by
  unfold Dev.chCfgAfter
  try dsimp only
  repeat' (first
    | with_reducible assumption
    | with_reducible apply Dev.setChan_wf
    | with_reducible apply Dev.reserve_wf
    | with_reducible apply Dev.confRelease_wf
    | with_reducible apply Dev.chOff_wf
    | with_reducible apply Dev.Wf.ite
    | with_reducible (refine Dev.Wf.fold _ ?_ ?_; rotate_left; intro e x he)
    | with_reducible (refine Dev.Wf.foldPair _ ?_ ?_; rotate_left; intro e x he)
    | split
    | simp only [Dev.wf_built]
    | with_reducible apply Dev.Built.other
    | with_reducible apply Dev.Wf.itePair
    | with_reducible (refine Dev.Wf.ofPair (by assumption) ?_)
    | with_reducible (refine Dev.Wf.ofPairSnd (by assumption) ?_)
    | with_reducible dsimp only)

theorem Dev.chBreak_wf (d : Dev) (c : Nat) (h_d : d.Wf) :
    Dev.Wf (Dev.chBreak d c) := by
  unfold Dev.chBreak
  try dsimp only
  repeat' (first
    | with_reducible assumption
    | with_reducible apply Dev.setChan_wf
    | with_reducible apply Dev.Wf.ite
    | with_reducible (refine Dev.Wf.fold _ ?_ ?_; rotate_left; intro e x he)
    | with_reducible (refine Dev.Wf.foldPair _ ?_ ?_; rotate_left; intro e x he)
    | split
    | simp only [Dev.wf_built]
    | with_reducible apply Dev.Built.other
    | with_reducible apply Dev.Wf.itePair
    | with_reducible (refine Dev.Wf.ofPair (by assumption) ?_)
    | with_reducible (refine Dev.Wf.ofPairSnd (by assumption) ?_)
    | with_reducible dsimp only)

theorem Dev.chFollow_wf (d : Dev) (c : Nat) (h_d : d.Wf) :
    Dev.Wf (Dev.chFollow d c) := by
  unfold Dev.chFollow
  try dsimp only
  repeat' (first
    | with_reducible assumption
    | with_reducible apply Dev.chBreak_wf
    | with_reducible apply Dev.setEvt_wf
    | with_reducible apply Dev.addB_wf
    | with_reducible apply Dev.setChState_wf
    | with_reducible apply Dev.Wf.ite
    | with_reducible (refine Dev.Wf.fold _ ?_ ?_; rotate_left; intro e x he)
    | with_reducible (refine Dev.Wf.foldPair _ ?_ ?_; rotate_left; intro e x he)
    | split
    | simp only [Dev.wf_built]
    | with_reducible apply Dev.Built.other
    | with_reducible apply Dev.Wf.itePair
    | with_reducible (refine Dev.Wf.ofPair (by assumption) ?_)
    | with_reducible (refine Dev.Wf.ofPairSnd (by assumption) ?_)
    | with_reducible dsimp only)

theorem Dev.fsSettle_wf (d : Dev) (h_d : d.Wf) :
    Dev.Wf (Dev.fsSettle d) := by
  unfold Dev.fsSettle
  try dsimp only
  repeat' (first
    | with_reducible assumption
    | with_reducible apply Dev.chFollow_wf
    | with_reducible apply Dev.Wf.ite
    | with_reducible (refine Dev.Wf.fold _ ?_ ?_; rotate_left; intro e x he)
    | with_reducible (refine Dev.Wf.foldPair _ ?_ ?_; rotate_left; intro e x he)
    | split
    | simp only [Dev.wf_built]
    | with_reducible apply Dev.Built.other
    | with_reducible apply Dev.Wf.itePair
    | with_reducible (refine Dev.Wf.ofPair (by assumption) ?_)
    | with_reducible (refine Dev.Wf.ofPairSnd (by assumption) ?_)
    | with_reducible dsimp only)

theorem Dev.chLate_wf (d : Dev) (c : ℕ) (f : Fld) (n : ℕ) (h_d : d.Wf) :
    Dev.Wf (Dev.chLate d c f n) := by
  unfold Dev.chLate
  try dsimp only
  repeat' (first
    | with_reducible assumption
    | with_reducible apply Dev.add_wf
    | with_reducible apply Dev.addB_wf
    | with_reducible apply Dev.setEvtIf_wf
    | with_reducible apply Dev.Wf.ite
    | with_reducible (refine Dev.Wf.fold _ ?_ ?_; rotate_left; intro e x he)
    | with_reducible (refine Dev.Wf.foldPair _ ?_ ?_; rotate_left; intro e x he)
    | split
    | simp only [Dev.wf_built]
    | with_reducible apply Dev.Built.other
    | with_reducible apply Dev.Wf.itePair
    | with_reducible (refine Dev.Wf.ofPair (by assumption) ?_)
    | with_reducible (refine Dev.Wf.ofPairSnd (by assumption) ?_)
    | with_reducible dsimp only)

theorem Dev.putLine_wf (d : Dev) (c : ℕ) (m : ℕ) (f : ℕ) (line : ℕ) (bs : List Brick) (rs : List PktRec) (h_d : d.Wf) :
    Dev.Wf (Dev.putLine d c m f line bs rs) := by
  unfold Dev.putLine
  try dsimp only
  repeat' (first
    | with_reducible assumption
    | with_reducible apply Dev.setMemBytes_wf
    | with_reducible apply Dev.memBw_wf
    | with_reducible apply Dev.addB_wf
    | with_reducible apply Dev.Wf.ite
    | with_reducible (refine Dev.Wf.fold _ ?_ ?_; rotate_left; intro e x he)
    | with_reducible (refine Dev.Wf.foldPair _ ?_ ?_; rotate_left; intro e x he)
    | split
    | simp only [Dev.wf_built]
    | with_reducible apply Dev.Built.other
    | with_reducible apply Dev.Wf.itePair
    | with_reducible (refine Dev.Wf.ofPair (by assumption) ?_)
    | with_reducible (refine Dev.Wf.ofPairSnd (by assumption) ?_)
    | with_reducible dsimp only)

theorem Dev.fsLine_wf (d : Dev) (t : ℕ) (line : ℕ) (bs : List Brick) (isLate : Bool) (h_d : d.Wf) :
    Dev.Wf (Dev.fsLine d t line bs isLate) := by
  unfold Dev.fsLine
  try dsimp only
  repeat' (first
    | with_reducible assumption
    | with_reducible apply Dev.setChan_wf
    | with_reducible apply Dev.chLate_wf
    | with_reducible apply Dev.putLine_wf
    | with_reducible apply Dev.Wf.ite
    | with_reducible (refine Dev.Wf.fold _ ?_ ?_; rotate_left; intro e x he)
    | with_reducible (refine Dev.Wf.foldPair _ ?_ ?_; rotate_left; intro e x he)
    | split
    | simp only [Dev.wf_built]
    | with_reducible apply Dev.Built.other
    | with_reducible apply Dev.Wf.itePair
    | with_reducible (refine Dev.Wf.ofPair (by assumption) ?_)
    | with_reducible (refine Dev.Wf.ofPairSnd (by assumption) ?_)
    | with_reducible dsimp only)

theorem Dev.fsFrame_wf (d : Dev) (c : Nat) (h_d : d.Wf) :
    Dev.Wf (Dev.fsFrame d c) := by
  unfold Dev.fsFrame
  try dsimp only
  repeat' (first
    | with_reducible assumption
    | with_reducible apply Dev.chBreak_wf
    | with_reducible apply Dev.setChan_wf
    | with_reducible apply Dev.Wf.ite
    | with_reducible (refine Dev.Wf.fold _ ?_ ?_; rotate_left; intro e x he)
    | with_reducible (refine Dev.Wf.foldPair _ ?_ ?_; rotate_left; intro e x he)
    | split
    | simp only [Dev.wf_built]
    | with_reducible apply Dev.Built.other
    | with_reducible apply Dev.Wf.itePair
    | with_reducible (refine Dev.Wf.ofPair (by assumption) ?_)
    | with_reducible (refine Dev.Wf.ofPairSnd (by assumption) ?_)
    | with_reducible dsimp only)

theorem Dev.chRun_wf (d : Dev) (c : ℕ) (h_d : d.Wf) :
    Dev.Wf (Dev.chRun d c) := by
  unfold Dev.chRun
  try dsimp only
  repeat' (first
    | with_reducible assumption
    | with_reducible apply Dev.setChState_wf
    | with_reducible apply Dev.setChan_wf
    | with_reducible apply Dev.wrB_wf
    | with_reducible apply Dev.Wf.ite
    | with_reducible (refine Dev.Wf.fold _ ?_ ?_; rotate_left; intro e x he)
    | with_reducible (refine Dev.Wf.foldPair _ ?_ ?_; rotate_left; intro e x he)
    | split
    | simp only [Dev.wf_built]
    | with_reducible apply Dev.Built.other
    | with_reducible apply Dev.Wf.itePair
    | with_reducible (refine Dev.Wf.ofPair (by assumption) ?_)
    | with_reducible (refine Dev.Wf.ofPairSnd (by assumption) ?_)
    | with_reducible dsimp only)

theorem Dev.chChoose_wf (d : Dev) (c : ℕ) (h_d : d.Wf) :
    Dev.Wf (Dev.chChoose d c) := by
  unfold Dev.chChoose
  try dsimp only
  repeat' (first
    | with_reducible assumption
    | with_reducible apply Dev.wrB_wf
    | with_reducible apply Dev.setEvt_wf
    | with_reducible apply Dev.addB_wf
    | with_reducible apply Dev.setChan_wf
    | with_reducible apply Dev.Wf.ite
    | with_reducible (refine Dev.Wf.fold _ ?_ ?_; rotate_left; intro e x he)
    | with_reducible (refine Dev.Wf.foldPair _ ?_ ?_; rotate_left; intro e x he)
    | split
    | simp only [Dev.wf_built]
    | with_reducible apply Dev.Built.other
    | with_reducible apply Dev.Wf.itePair
    | with_reducible (refine Dev.Wf.ofPair (by assumption) ?_)
    | with_reducible (refine Dev.Wf.ofPairSnd (by assumption) ?_)
    | with_reducible dsimp only)

theorem Dev.syncFrame_wf (d : Dev) (c : Nat) (h_d : d.Wf) :
    Dev.Wf (Dev.syncFrame d c) := by
  unfold Dev.syncFrame
  try dsimp only
  repeat' (first
    | with_reducible assumption
    | with_reducible apply Dev.chRun_wf
    | with_reducible apply Dev.chFollow_wf
    | with_reducible apply Dev.chChoose_wf
    | with_reducible apply Dev.setChan_wf
    | with_reducible apply Dev.Wf.ite
    | with_reducible (refine Dev.Wf.fold _ ?_ ?_; rotate_left; intro e x he)
    | with_reducible (refine Dev.Wf.foldPair _ ?_ ?_; rotate_left; intro e x he)
    | split
    | simp only [Dev.wf_built]
    | with_reducible apply Dev.Built.other
    | with_reducible apply Dev.Wf.itePair
    | with_reducible (refine Dev.Wf.ofPair (by assumption) ?_)
    | with_reducible (refine Dev.Wf.ofPairSnd (by assumption) ?_)
    | with_reducible dsimp only)

theorem Dev.playFrame_wf (d : Dev) (c : ℕ) (fcnt : ℕ) (h_d : d.Wf) :
    Dev.Wf (Dev.playFrame d c fcnt) := by
  unfold Dev.playFrame
  try dsimp only
  repeat' (first
    | with_reducible assumption
    | with_reducible apply Dev.setChan_wf
    | with_reducible apply Dev.wrB_wf
    | with_reducible apply Dev.Wf.ite
    | with_reducible (refine Dev.Wf.fold _ ?_ ?_; rotate_left; intro e x he)
    | with_reducible (refine Dev.Wf.foldPair _ ?_ ?_; rotate_left; intro e x he)
    | split
    | simp only [Dev.wf_built]
    | with_reducible apply Dev.Built.other
    | with_reducible apply Dev.Wf.itePair
    | with_reducible (refine Dev.Wf.ofPair (by assumption) ?_)
    | with_reducible (refine Dev.Wf.ofPairSnd (by assumption) ?_)
    | with_reducible dsimp only)

theorem Dev.captureFrame_wf (d : Dev) (c : ℕ) (h_d : d.Wf) :
    Dev.Wf (Dev.captureFrame d c) := by
  unfold Dev.captureFrame
  try dsimp only
  repeat' (first
    | with_reducible assumption
    | with_reducible apply Dev.wrB_wf
    | with_reducible apply Dev.setEvt_wf
    | with_reducible apply Dev.setChan_wf
    | with_reducible apply Dev.Wf.ite
    | with_reducible (refine Dev.Wf.fold _ ?_ ?_; rotate_left; intro e x he)
    | with_reducible (refine Dev.Wf.foldPair _ ?_ ?_; rotate_left; intro e x he)
    | split
    | simp only [Dev.wf_built]
    | with_reducible apply Dev.Built.other
    | with_reducible apply Dev.Wf.itePair
    | with_reducible (refine Dev.Wf.ofPair (by assumption) ?_)
    | with_reducible (refine Dev.Wf.ofPairSnd (by assumption) ?_)
    | with_reducible dsimp only)

theorem Dev.chLatch_wf (d : Dev) (c : ℕ) (h_d : d.Wf) :
    Dev.Wf (Dev.chLatch d c) := by
  unfold Dev.chLatch
  try dsimp only
  repeat' (first
    | with_reducible assumption
    | with_reducible apply Dev.setChan_wf
    | with_reducible apply Dev.Wf.ite
    | with_reducible (refine Dev.Wf.fold _ ?_ ?_; rotate_left; intro e x he)
    | with_reducible (refine Dev.Wf.foldPair _ ?_ ?_; rotate_left; intro e x he)
    | split
    | simp only [Dev.wf_built]
    | with_reducible apply Dev.Built.other
    | with_reducible apply Dev.Wf.itePair
    | with_reducible (refine Dev.Wf.ofPair (by assumption) ?_)
    | with_reducible (refine Dev.Wf.ofPairSnd (by assumption) ?_)
    | with_reducible dsimp only)

theorem Dev.chFrame_wf (d : Dev) (c : ℕ) (fcnt : ℕ) (h_d : d.Wf) :
    Dev.Wf (Dev.chFrame d c fcnt) := by
  unfold Dev.chFrame
  try dsimp only
  repeat' (first
    | with_reducible assumption
    | with_reducible apply Dev.chOff_wf
    | with_reducible apply Dev.chOn_wf
    | with_reducible apply Dev.chLatch_wf
    | with_reducible apply Dev.syncFrame_wf
    | with_reducible apply Dev.playFrame_wf
    | with_reducible apply Dev.captureFrame_wf
    | with_reducible apply Dev.Wf.ite
    | with_reducible (refine Dev.Wf.fold _ ?_ ?_; rotate_left; intro e x he)
    | with_reducible (refine Dev.Wf.foldPair _ ?_ ?_; rotate_left; intro e x he)
    | split
    | simp only [Dev.wf_built]
    | with_reducible apply Dev.Built.other
    | with_reducible apply Dev.Wf.itePair
    | with_reducible (refine Dev.Wf.ofPair (by assumption) ?_)
    | with_reducible (refine Dev.Wf.ofPairSnd (by assumption) ?_)
    | with_reducible dsimp only)

theorem Dev.fsFrameStart_wf (d : Dev) (k : ℕ) (fcnt : ℕ) (h_d : d.Wf) :
    Dev.Wf (Dev.fsFrameStart d k fcnt) := by
  unfold Dev.fsFrameStart
  try dsimp only
  repeat' (first
    | with_reducible assumption
    | with_reducible apply Dev.chFrame_wf
    | with_reducible apply Dev.Wf.ite
    | with_reducible (refine Dev.Wf.fold _ ?_ ?_; rotate_left; intro e x he)
    | with_reducible (refine Dev.Wf.foldPair _ ?_ ?_; rotate_left; intro e x he)
    | split
    | simp only [Dev.wf_built]
    | with_reducible apply Dev.Built.other
    | with_reducible apply Dev.Wf.itePair
    | with_reducible (refine Dev.Wf.ofPair (by assumption) ?_)
    | with_reducible (refine Dev.Wf.ofPairSnd (by assumption) ?_)
    | with_reducible dsimp only)

theorem Dev.fsDelay_wf (d : Dev) (k : Nat) (h_d : d.Wf) :
    Dev.Wf (Dev.fsDelay d k) := by
  unfold Dev.fsDelay
  try dsimp only
  repeat' (first
    | with_reducible assumption
    | with_reducible apply Dev.wrB_wf
    | with_reducible apply Dev.Wf.ite
    | with_reducible (refine Dev.Wf.fold _ ?_ ?_; rotate_left; intro e x he)
    | with_reducible (refine Dev.Wf.foldPair _ ?_ ?_; rotate_left; intro e x he)
    | split
    | simp only [Dev.wf_built]
    | with_reducible apply Dev.Built.other
    | with_reducible apply Dev.Wf.itePair
    | with_reducible (refine Dev.Wf.ofPair (by assumption) ?_)
    | with_reducible (refine Dev.Wf.ofPairSnd (by assumption) ?_)
    | with_reducible dsimp only)

theorem Dev.chCtl_wf (d : Dev) (c : Nat) (v : Sys2Proof.Word) (h_d : d.Wf) :
    Dev.Wf (Dev.chCtl d c v) := by
  unfold Dev.chCtl
  try dsimp only
  repeat' (first
    | with_reducible assumption
    | with_reducible apply Dev.wrB_wf
    | with_reducible apply Dev.setChan_wf
    | with_reducible apply Dev.Wf.ite
    | with_reducible (refine Dev.Wf.fold _ ?_ ?_; rotate_left; intro e x he)
    | with_reducible (refine Dev.Wf.foldPair _ ?_ ?_; rotate_left; intro e x he)
    | split
    | simp only [Dev.wf_built]
    | with_reducible apply Dev.Built.other
    | with_reducible apply Dev.Wf.itePair
    | with_reducible (refine Dev.Wf.ofPair (by assumption) ?_)
    | with_reducible (refine Dev.Wf.ofPairSnd (by assumption) ?_)
    | with_reducible dsimp only)

theorem Dev.fsReads_wf (d : Dev) (k : ℕ) (h_d : d.Wf) :
    Dev.Wf (Dev.fsReads d k) := by
  unfold Dev.fsReads
  try dsimp only
  repeat' (first
    | with_reducible assumption
    | with_reducible apply Dev.memBw_wf
    | with_reducible apply Dev.chLate_wf
    | with_reducible apply Dev.Wf.ite
    | with_reducible (refine Dev.Wf.fold _ ?_ ?_; rotate_left; intro e x he)
    | with_reducible (refine Dev.Wf.foldPair _ ?_ ?_; rotate_left; intro e x he)
    | split
    | simp only [Dev.wf_built]
    | with_reducible apply Dev.Built.other
    | with_reducible apply Dev.Wf.itePair
    | with_reducible (refine Dev.Wf.ofPair (by assumption) ?_)
    | with_reducible (refine Dev.Wf.ofPairSnd (by assumption) ?_)
    | with_reducible dsimp only)

theorem Dev.captureLine_wf (d : Dev) (c : ℕ) (line : ℕ) (bs : List Brick) (rs : List PktRec) (isLate : Bool) (h_d : d.Wf) :
    Dev.Wf (Dev.captureLine d c line bs rs isLate) := by
  unfold Dev.captureLine
  try dsimp only
  repeat' (first
    | with_reducible assumption
    | with_reducible apply Dev.chLate_wf
    | with_reducible apply Dev.putLine_wf
    | with_reducible apply Dev.Wf.ite
    | with_reducible (refine Dev.Wf.fold _ ?_ ?_; rotate_left; intro e x he)
    | with_reducible (refine Dev.Wf.foldPair _ ?_ ?_; rotate_left; intro e x he)
    | split
    | simp only [Dev.wf_built]
    | with_reducible apply Dev.Built.other
    | with_reducible apply Dev.Wf.itePair
    | with_reducible (refine Dev.Wf.ofPair (by assumption) ?_)
    | with_reducible (refine Dev.Wf.ofPairSnd (by assumption) ?_)
    | with_reducible dsimp only)

theorem Dev.setDelay_wf (d : Dev) (i : Nat) (v : DelayI) (h_d : d.Wf) :
    Dev.Wf (Dev.setDelay d i v) := by
  unfold Dev.setDelay
  try dsimp only
  repeat' (first
    | with_reducible assumption
    | with_reducible apply Dev.Wf.ite
    | with_reducible (refine Dev.Wf.fold _ ?_ ?_; rotate_left; intro e x he)
    | with_reducible (refine Dev.Wf.foldPair _ ?_ ?_; rotate_left; intro e x he)
    | split
    | simp only [Dev.wf_built]
    | with_reducible apply Dev.Built.other
    | with_reducible apply Dev.Built.up_delays
    | with_reducible apply Map.wf_put
    | with_reducible apply Map.wf_filter
    | exact rfl
    | with_reducible apply Dev.Wf.delays
    | with_reducible apply Dev.Wf.itePair
    | with_reducible (refine Dev.Wf.ofPair (by assumption) ?_)
    | with_reducible (refine Dev.Wf.ofPairSnd (by assumption) ?_)
    | with_reducible dsimp only)

theorem Dev.dlOnRej_wf (d : Dev) (i : Nat) (old : Sys2Proof.Word) (v : Sys2Proof.Word) (r : Rej) (h_d : d.Wf) :
    Dev.Wf (Dev.dlOnRej d i old v r) := by
  unfold Dev.dlOnRej
  try dsimp only
  repeat' (first
    | with_reducible assumption
    | with_reducible apply Dev.setEvt_wf
    | with_reducible apply Dev.admitErr_wf
    | with_reducible apply Dev.Wf.ite
    | with_reducible (refine Dev.Wf.fold _ ?_ ?_; rotate_left; intro e x he)
    | with_reducible (refine Dev.Wf.foldPair _ ?_ ?_; rotate_left; intro e x he)
    | split
    | simp only [Dev.wf_built]
    | with_reducible apply Dev.Built.other
    | with_reducible apply Dev.Wf.itePair
    | with_reducible (refine Dev.Wf.ofPair (by assumption) ?_)
    | with_reducible (refine Dev.Wf.ofPairSnd (by assumption) ?_)
    | with_reducible dsimp only)

theorem Dev.dlAfter_wf (d : Dev) (i : ℕ) (old : Sys2Proof.Word) (v : Sys2Proof.Word) (h_d : d.Wf) :
    Dev.Wf (Dev.dlAfter d i old v) := by
  unfold Dev.dlAfter
  try dsimp only
  repeat' (first
    | with_reducible assumption
    | with_reducible apply Dev.setDelay_wf
    | with_reducible apply Dev.reserve_wf
    | with_reducible apply Dev.Wf.ite
    | with_reducible (refine Dev.Wf.fold _ ?_ ?_; rotate_left; intro e x he)
    | with_reducible (refine Dev.Wf.foldPair _ ?_ ?_; rotate_left; intro e x he)
    | split
    | simp only [Dev.wf_built]
    | with_reducible apply Dev.Built.other
    | with_reducible apply Dev.Wf.itePair
    | with_reducible (refine Dev.Wf.ofPair (by assumption) ?_)
    | with_reducible (refine Dev.Wf.ofPairSnd (by assumption) ?_)
    | with_reducible dsimp only)

theorem Dev.dlWrite_wf (d : Dev) (i : ℕ) (w : Sys2Proof.Word) (h_d : d.Wf) :
    Dev.Wf (Dev.dlWrite d i w) := by
  unfold Dev.dlWrite
  try dsimp only
  repeat' (first
    | with_reducible assumption
    | with_reducible apply Dev.setDelay_wf
    | with_reducible apply Dev.memBw_wf
    | with_reducible apply Dev.setMemBytes_wf
    | with_reducible apply Dev.Wf.ite
    | with_reducible (refine Dev.Wf.fold _ ?_ ?_; rotate_left; intro e x he)
    | with_reducible (refine Dev.Wf.foldPair _ ?_ ?_; rotate_left; intro e x he)
    | split
    | simp only [Dev.wf_built]
    | with_reducible apply Dev.Built.other
    | with_reducible apply Dev.Wf.itePair
    | with_reducible (refine Dev.Wf.ofPair (by assumption) ?_)
    | with_reducible (refine Dev.Wf.ofPairSnd (by assumption) ?_)
    | with_reducible dsimp only)

theorem Dev.fstOnRej_wf (d : Dev) (off : Nat) (old : Sys2Proof.Word) (v : Sys2Proof.Word) (r : Rej) (h_d : d.Wf) :
    Dev.Wf (Dev.fstOnRej d off old v r) := by
  unfold Dev.fstOnRej
  try dsimp only
  repeat' (first
    | with_reducible assumption
    | with_reducible apply Dev.chCfgOnRej_wf
    | with_reducible apply Dev.dlOnRej_wf
    | with_reducible apply Dev.Wf.ite
    | with_reducible (refine Dev.Wf.fold _ ?_ ?_; rotate_left; intro e x he)
    | with_reducible (refine Dev.Wf.foldPair _ ?_ ?_; rotate_left; intro e x he)
    | split
    | simp only [Dev.wf_built]
    | with_reducible apply Dev.Built.other
    | with_reducible apply Dev.Wf.itePair
    | with_reducible (refine Dev.Wf.ofPair (by assumption) ?_)
    | with_reducible (refine Dev.Wf.ofPairSnd (by assumption) ?_)
    | with_reducible dsimp only)

theorem Dev.fstCntClr_wf (d : Dev) (h_d : d.Wf) :
    Dev.Wf (Dev.fstCntClr d) := by
  unfold Dev.fstCntClr
  try dsimp only
  repeat' (first
    | with_reducible assumption
    | with_reducible apply Dev.wrB_wf
    | with_reducible apply Dev.wr_wf
    | with_reducible apply Dev.Wf.ite
    | with_reducible (refine Dev.Wf.fold _ ?_ ?_; rotate_left; intro e x he)
    | with_reducible (refine Dev.Wf.foldPair _ ?_ ?_; rotate_left; intro e x he)
    | split
    | simp only [Dev.wf_built]
    | with_reducible apply Dev.Built.other
    | with_reducible apply Dev.Wf.itePair
    | with_reducible (refine Dev.Wf.ofPair (by assumption) ?_)
    | with_reducible (refine Dev.Wf.ofPairSnd (by assumption) ?_)
    | with_reducible dsimp only)

theorem Dev.fstStop_wf (d : Dev) (h_d : d.Wf) :
    Dev.Wf (Dev.fstStop d) := by
  unfold Dev.fstStop
  try dsimp only
  repeat' (first
    | with_reducible assumption
    | with_reducible apply Dev.chOff_wf
    | with_reducible apply Dev.setChan_wf
    | with_reducible apply Dev.wrB_wf
    | with_reducible apply Dev.setDelay_wf
    | with_reducible apply Dev.Wf.ite
    | with_reducible (refine Dev.Wf.fold _ ?_ ?_; rotate_left; intro e x he)
    | with_reducible (refine Dev.Wf.foldPair _ ?_ ?_; rotate_left; intro e x he)
    | split
    | simp only [Dev.wf_built]
    | with_reducible apply Dev.Built.other
    | with_reducible apply Dev.Wf.itePair
    | with_reducible (refine Dev.Wf.ofPair (by assumption) ?_)
    | with_reducible (refine Dev.Wf.ofPairSnd (by assumption) ?_)
    | with_reducible dsimp only)

theorem Dev.fstStart_wf (d : Dev) (h_d : d.Wf) :
    Dev.Wf (Dev.fstStart d) := by
  unfold Dev.fstStart
  try dsimp only
  repeat' (first
    | with_reducible assumption
    | with_reducible apply Dev.setChan_wf
    | with_reducible apply Dev.Wf.ite
    | with_reducible (refine Dev.Wf.fold _ ?_ ?_; rotate_left; intro e x he)
    | with_reducible (refine Dev.Wf.foldPair _ ?_ ?_; rotate_left; intro e x he)
    | split
    | simp only [Dev.wf_built]
    | with_reducible apply Dev.Built.other
    | with_reducible apply Dev.Wf.itePair
    | with_reducible (refine Dev.Wf.ofPair (by assumption) ?_)
    | with_reducible (refine Dev.Wf.ofPairSnd (by assumption) ?_)
    | with_reducible dsimp only)

theorem Dev.fstAfter_wf (d : Dev) (off : Nat) (old : Sys2Proof.Word) (v : Sys2Proof.Word) (h_d : d.Wf) :
    Dev.Wf (Dev.fstAfter d off old v) := by
  unfold Dev.fstAfter
  try dsimp only
  repeat' (first
    | with_reducible assumption
    | with_reducible apply Dev.chCfgAfter_wf
    | with_reducible apply Dev.chCtl_wf
    | with_reducible apply Dev.dlAfter_wf
    | with_reducible apply Dev.fstCntClr_wf
    | with_reducible apply Dev.fstStop_wf
    | with_reducible apply Dev.fstStart_wf
    | with_reducible apply Dev.Wf.ite
    | with_reducible (refine Dev.Wf.fold _ ?_ ?_; rotate_left; intro e x he)
    | with_reducible (refine Dev.Wf.foldPair _ ?_ ?_; rotate_left; intro e x he)
    | split
    | simp only [Dev.wf_built]
    | with_reducible apply Dev.Built.other
    | with_reducible apply Dev.Wf.itePair
    | with_reducible (refine Dev.Wf.ofPair (by assumption) ?_)
    | with_reducible (refine Dev.Wf.ofPairSnd (by assumption) ?_)
    | with_reducible dsimp only)

theorem Dev.fstClear_wf (d : Dev) (h_d : d.Wf) : (Dev.fstClear d).Wf := by
  have h : ({ d with chans := [], delays := [] } : Dev).Wf := { h_d with chans := rfl, delays := rfl }
  exact Dev.Wf.fold _ h (fun e m he => Dev.wr_wf e _ _ _ he)

theorem Dev.reserveAgain_wf (d : Dev) (m : ℕ) (h_d : d.Wf) :
    Dev.Wf (Dev.reserveAgain d m) := by
  unfold Dev.reserveAgain
  try dsimp only
  repeat' (first
    | with_reducible assumption
    | with_reducible apply Dev.wr_wf
    | with_reducible apply Dev.Wf.ite
    | with_reducible (refine Dev.Wf.fold _ ?_ ?_; rotate_left; intro e x he)
    | with_reducible (refine Dev.Wf.foldPair _ ?_ ?_; rotate_left; intro e x he)
    | split
    | simp only [Dev.wf_built]
    | with_reducible apply Dev.Built.other
    | with_reducible apply Dev.Wf.itePair
    | with_reducible (refine Dev.Wf.ofPair (by assumption) ?_)
    | with_reducible (refine Dev.Wf.ofPairSnd (by assumption) ?_)
    | with_reducible dsimp only)

theorem Dev.fstWake_wf (d : Dev) (h_d : d.Wf) :
    Dev.Wf (Dev.fstWake d) := by
  unfold Dev.fstWake
  try dsimp only
  repeat' (first
    | with_reducible assumption
    | with_reducible apply Dev.setChState_wf
    | with_reducible apply Dev.setChan_wf
    | with_reducible apply Dev.wrB_wf
    | with_reducible apply Dev.Wf.ite
    | with_reducible (refine Dev.Wf.fold _ ?_ ?_; rotate_left; intro e x he)
    | with_reducible (refine Dev.Wf.foldPair _ ?_ ?_; rotate_left; intro e x he)
    | split
    | simp only [Dev.wf_built]
    | with_reducible apply Dev.Built.other
    | with_reducible apply Dev.Wf.itePair
    | with_reducible (refine Dev.Wf.ofPair (by assumption) ?_)
    | with_reducible (refine Dev.Wf.ofPairSnd (by assumption) ?_)
    | with_reducible dsimp only)

end Sys2Proof.Machine
end

