-- ==== Sys2Proof/Laws/WfLineEngine.lean ====
section
/-! SUPPORT. The operations of Machine/LineEngine.lean keep every table of the block canonical. -/

set_option linter.unusedTactic false
set_option linter.unreachableTactic false

namespace Sys2Proof.Machine

theorem Dev.setLeng_wf (d : Dev) (n : Nat) (v : LengI) (h_d : d.Wf) :
    Dev.Wf (Dev.setLeng d n v) := by
  unfold Dev.setLeng
  try dsimp only
  repeat' (first
    | with_reducible assumption
    | with_reducible apply Dev.wr_wf
    | with_reducible apply Dev.Wf.ite
    | with_reducible (refine Dev.Wf.fold _ ?_ ?_; rotate_left; intro e x he)
    | with_reducible (refine Dev.Wf.foldPair _ ?_ ?_; rotate_left; intro e x he)
    | split
    | simp only [Dev.wf_built]
    | with_reducible apply Dev.Built.other
    | with_reducible apply Dev.Built.up_lengs
    | with_reducible apply Map.wf_put
    | with_reducible apply Map.wf_filter
    | exact rfl
    | with_reducible apply Dev.Wf.lengs
    | with_reducible apply Dev.Wf.itePair
    | with_reducible (refine Dev.Wf.ofPair (by assumption) ?_)
    | with_reducible (refine Dev.Wf.ofPairSnd (by assumption) ?_)
    | with_reducible dsimp only)

theorem Dev.istorePut_wf (d : Dev) (n : Nat) (i : Nat) (w : Sys2Proof.Word) (h_d : d.Wf) :
    Dev.Wf (Dev.istorePut d n i w) := by
  unfold Dev.istorePut
  try dsimp only
  repeat' (first
    | with_reducible assumption
    | with_reducible apply Dev.Wf.ite
    | with_reducible (refine Dev.Wf.fold _ ?_ ?_; rotate_left; intro e x he)
    | with_reducible (refine Dev.Wf.foldPair _ ?_ ?_; rotate_left; intro e x he)
    | split
    | simp only [Dev.wf_built]
    | with_reducible apply Dev.Built.other
    | with_reducible apply Dev.Built.up_istore
    | with_reducible apply Map.wf_put
    | with_reducible apply Map.wf_filter
    | exact rfl
    | with_reducible apply Dev.Wf.istore
    | with_reducible apply Dev.Wf.itePair
    | with_reducible (refine Dev.Wf.ofPair (by assumption) ?_)
    | with_reducible (refine Dev.Wf.ofPairSnd (by assumption) ?_)
    | with_reducible dsimp only)

theorem Dev.dmemPut_wf (d : Dev) (n : Nat) (a : Nat) (w : Sys2Proof.Word) (h_d : d.Wf) :
    Dev.Wf (Dev.dmemPut d n a w) := by
  unfold Dev.dmemPut
  try dsimp only
  repeat' (first
    | with_reducible assumption
    | with_reducible apply Dev.Wf.ite
    | with_reducible (refine Dev.Wf.fold _ ?_ ?_; rotate_left; intro e x he)
    | with_reducible (refine Dev.Wf.foldPair _ ?_ ?_; rotate_left; intro e x he)
    | split
    | simp only [Dev.wf_built]
    | with_reducible apply Dev.Built.other
    | with_reducible apply Dev.Built.up_dmem
    | with_reducible apply Map.wf_put
    | with_reducible apply Map.wf_filter
    | exact rfl
    | with_reducible apply Dev.Wf.dmem
    | with_reducible apply Dev.Wf.itePair
    | with_reducible (refine Dev.Wf.ofPair (by assumption) ?_)
    | with_reducible (refine Dev.Wf.ofPairSnd (by assumption) ?_)
    | with_reducible dsimp only)

theorem Dev.setGreg_wf (d : Dev) (n : Nat) (r : Nat) (w : Sys2Proof.Word) (h_d : d.Wf) :
    Dev.Wf (Dev.setGreg d n r w) := by
  unfold Dev.setGreg
  try dsimp only
  repeat' (first
    | with_reducible assumption
    | with_reducible apply Dev.setLeng_wf
    | with_reducible apply Dev.Wf.ite
    | with_reducible (refine Dev.Wf.fold _ ?_ ?_; rotate_left; intro e x he)
    | with_reducible (refine Dev.Wf.foldPair _ ?_ ?_; rotate_left; intro e x he)
    | split
    | simp only [Dev.wf_built]
    | with_reducible apply Dev.Built.other
    | with_reducible apply Dev.Wf.itePair
    | with_reducible (refine Dev.Wf.ofPair (by assumption) ?_)
    | with_reducible (refine Dev.Wf.ofPairSnd (by assumption) ?_)
    | with_reducible dsimp only)

theorem Dev.setLpc_wf (d : Dev) (n : Nat) (pc : Nat) (h_d : d.Wf) :
    Dev.Wf (Dev.setLpc d n pc) := by
  unfold Dev.setLpc
  try dsimp only
  repeat' (first
    | with_reducible assumption
    | with_reducible apply Dev.wr_wf
    | with_reducible apply Dev.Wf.ite
    | with_reducible (refine Dev.Wf.fold _ ?_ ?_; rotate_left; intro e x he)
    | with_reducible (refine Dev.Wf.foldPair _ ?_ ?_; rotate_left; intro e x he)
    | split
    | simp only [Dev.wf_built]
    | with_reducible apply Dev.Built.other
    | with_reducible apply Dev.Wf.itePair
    | with_reducible (refine Dev.Wf.ofPair (by assumption) ?_)
    | with_reducible (refine Dev.Wf.ofPairSnd (by assumption) ?_)
    | with_reducible dsimp only)

theorem Dev.ancInto_wf (d : Dev) (r : PktRec) (h_d : d.Wf) :
    Dev.Wf (Dev.ancInto d r) := by
  unfold Dev.ancInto
  try dsimp only
  repeat' (first
    | with_reducible assumption
    | with_reducible apply Dev.setTile_wf
    | with_reducible apply Dev.Wf.ite
    | with_reducible (refine Dev.Wf.fold _ ?_ ?_; rotate_left; intro e x he)
    | with_reducible (refine Dev.Wf.foldPair _ ?_ ?_; rotate_left; intro e x he)
    | split
    | simp only [Dev.wf_built]
    | with_reducible apply Dev.Built.other
    | with_reducible apply Dev.Wf.itePair
    | with_reducible (refine Dev.Wf.ofPair (by assumption) ?_)
    | with_reducible (refine Dev.Wf.ofPairSnd (by assumption) ?_)
    | with_reducible dsimp only)

theorem Dev.setOut_wf (d : Dev) (n : Nat) (v : OutI) (h_d : d.Wf) :
    Dev.Wf (Dev.setOut d n v) := by
  unfold Dev.setOut
  try dsimp only
  repeat' (first
    | with_reducible assumption
    | with_reducible apply Dev.Wf.ite
    | with_reducible (refine Dev.Wf.fold _ ?_ ?_; rotate_left; intro e x he)
    | with_reducible (refine Dev.Wf.foldPair _ ?_ ?_; rotate_left; intro e x he)
    | split
    | simp only [Dev.wf_built]
    | with_reducible apply Dev.Built.other
    | with_reducible apply Dev.Built.up_outs
    | with_reducible apply Map.wf_put
    | with_reducible apply Map.wf_filter
    | exact rfl
    | with_reducible apply Dev.Wf.outs
    | with_reducible apply Dev.Wf.itePair
    | with_reducible (refine Dev.Wf.ofPair (by assumption) ?_)
    | with_reducible (refine Dev.Wf.ofPairSnd (by assumption) ?_)
    | with_reducible dsimp only)

theorem Dev.ancDrop_wf (d : Dev) (i : ℕ) (isLate : Bool) (h_d : d.Wf) :
    Dev.Wf (Dev.ancDrop d i isLate) := by
  unfold Dev.ancDrop
  try dsimp only
  repeat' (first
    | with_reducible assumption
    | with_reducible apply Dev.setAc_wf
    | with_reducible apply Dev.setEvtIf_wf
    | with_reducible apply Dev.Wf.ite
    | with_reducible (refine Dev.Wf.fold _ ?_ ?_; rotate_left; intro e x he)
    | with_reducible (refine Dev.Wf.foldPair _ ?_ ?_; rotate_left; intro e x he)
    | split
    | simp only [Dev.wf_built]
    | with_reducible apply Dev.Built.other
    | with_reducible apply Dev.Wf.itePair
    | with_reducible (refine Dev.Wf.ofPair (by assumption) ?_)
    | with_reducible (refine Dev.Wf.ofPairSnd (by assumption) ?_)
    | with_reducible dsimp only)

theorem Dev.recLost_wf (d : Dev) (i : ℕ) (isLate : Bool) (r : PktRec) (h_d : d.Wf) :
    Dev.Wf (Dev.recLost d i isLate r) := by
  unfold Dev.recLost
  try dsimp only
  repeat' (first
    | with_reducible assumption
    | with_reducible apply Dev.inc_wf
    | with_reducible apply Dev.ancDrop_wf
    | with_reducible apply Dev.Wf.ite
    | with_reducible (refine Dev.Wf.fold _ ?_ ?_; rotate_left; intro e x he)
    | with_reducible (refine Dev.Wf.foldPair _ ?_ ?_; rotate_left; intro e x he)
    | split
    | simp only [Dev.wf_built]
    | with_reducible apply Dev.Built.other
    | with_reducible apply Dev.Wf.itePair
    | with_reducible (refine Dev.Wf.ofPair (by assumption) ?_)
    | with_reducible (refine Dev.Wf.ofPairSnd (by assumption) ?_)
    | with_reducible dsimp only)

theorem Dev.insertInto_wf (d : Dev) (n : ℕ) (x : OutRec) (h_d : d.Wf) :
    Dev.Wf (Dev.insertInto d n x) := by
  unfold Dev.insertInto
  try dsimp only
  repeat' (first
    | with_reducible assumption
    | with_reducible apply Dev.setOut_wf
    | with_reducible apply Dev.add_wf
    | with_reducible apply Dev.recLost_wf
    | with_reducible apply Dev.Wf.ite
    | with_reducible (refine Dev.Wf.fold _ ?_ ?_; rotate_left; intro e x he)
    | with_reducible (refine Dev.Wf.foldPair _ ?_ ?_; rotate_left; intro e x he)
    | split
    | simp only [Dev.wf_built]
    | with_reducible apply Dev.Built.other
    | with_reducible apply Dev.Wf.itePair
    | with_reducible (refine Dev.Wf.ofPair (by assumption) ?_)
    | with_reducible (refine Dev.Wf.ofPairSnd (by assumption) ?_)
    | with_reducible dsimp only)

theorem Dev.ancIntoLate_wf (d : Dev) (r : PktRec) (h_d : d.Wf) :
    Dev.Wf (Dev.ancIntoLate d r) := by
  unfold Dev.ancIntoLate
  try dsimp only
  repeat' (first
    | with_reducible assumption
    | with_reducible apply Dev.recLost_wf
    | with_reducible apply Dev.ancInto_wf
    | with_reducible apply Dev.insertInto_wf
    | with_reducible apply Dev.Wf.ite
    | with_reducible (refine Dev.Wf.fold _ ?_ ?_; rotate_left; intro e x he)
    | with_reducible (refine Dev.Wf.foldPair _ ?_ ?_; rotate_left; intro e x he)
    | split
    | simp only [Dev.wf_built]
    | with_reducible apply Dev.Built.other
    | with_reducible apply Dev.Wf.itePair
    | with_reducible (refine Dev.Wf.ofPair (by assumption) ?_)
    | with_reducible (refine Dev.Wf.ofPairSnd (by assumption) ?_)
    | with_reducible dsimp only)

theorem Dev.fwdRec_wf (d : Dev) (n : ℕ) (x : PathRec) (h_d : d.Wf) :
    Dev.Wf (Dev.fwdRec d n x) := by
  unfold Dev.fwdRec
  try dsimp only
  repeat' (first
    | with_reducible assumption
    | with_reducible apply Dev.ancIntoLate_wf
    | with_reducible apply Dev.recLost_wf
    | with_reducible apply Dev.insertInto_wf
    | with_reducible apply Dev.Wf.ite
    | with_reducible (refine Dev.Wf.fold _ ?_ ?_; rotate_left; intro e x he)
    | with_reducible (refine Dev.Wf.foldPair _ ?_ ?_; rotate_left; intro e x he)
    | split
    | simp only [Dev.wf_built]
    | with_reducible apply Dev.Built.other
    | with_reducible apply Dev.Wf.itePair
    | with_reducible (refine Dev.Wf.ofPair (by assumption) ?_)
    | with_reducible (refine Dev.Wf.ofPairSnd (by assumption) ?_)
    | with_reducible dsimp only)

theorem Dev.buildDrop_wf (d : Dev) (n : Nat) (h_d : d.Wf) :
    Dev.Wf (Dev.buildDrop d n) := by
  unfold Dev.buildDrop
  try dsimp only
  repeat' (first
    | with_reducible assumption
    | with_reducible apply Dev.inc_wf
    | with_reducible apply Dev.setLeng_wf
    | with_reducible apply Dev.Wf.ite
    | with_reducible (refine Dev.Wf.fold _ ?_ ?_; rotate_left; intro e x he)
    | with_reducible (refine Dev.Wf.foldPair _ ?_ ?_; rotate_left; intro e x he)
    | split
    | simp only [Dev.wf_built]
    | with_reducible apply Dev.Built.other
    | with_reducible apply Dev.Wf.itePair
    | with_reducible (refine Dev.Wf.ofPair (by assumption) ?_)
    | with_reducible (refine Dev.Wf.ofPairSnd (by assumption) ?_)
    | with_reducible dsimp only)

theorem Dev.lengFlush_wf (d : Dev) (n : Nat) (h_d : d.Wf) :
    Dev.Wf (Dev.lengFlush d n) := by
  unfold Dev.lengFlush
  try dsimp only
  repeat' (first
    | with_reducible assumption
    | with_reducible apply Dev.buildDrop_wf
    | with_reducible apply Dev.setLeng_wf
    | with_reducible apply Dev.fwdRec_wf
    | with_reducible apply Dev.Wf.ite
    | with_reducible (refine Dev.Wf.fold _ ?_ ?_; rotate_left; intro e x he)
    | with_reducible (refine Dev.Wf.foldPair _ ?_ ?_; rotate_left; intro e x he)
    | split
    | simp only [Dev.wf_built]
    | with_reducible apply Dev.Built.other
    | with_reducible apply Dev.Wf.itePair
    | with_reducible (refine Dev.Wf.ofPair (by assumption) ?_)
    | with_reducible (refine Dev.Wf.ofPairSnd (by assumption) ?_)
    | with_reducible dsimp only)

theorem Dev.lengHalt_wf (d : Dev) (n : Nat) (code : Nat) (h_d : d.Wf) :
    Dev.Wf (Dev.lengHalt d n code) := by
  unfold Dev.lengHalt
  try dsimp only
  repeat' (first
    | with_reducible assumption
    | with_reducible apply Dev.wr_wf
    | with_reducible apply Dev.lengFlush_wf
    | with_reducible apply Dev.setEvt_wf
    | with_reducible apply Dev.Wf.ite
    | with_reducible (refine Dev.Wf.fold _ ?_ ?_; rotate_left; intro e x he)
    | with_reducible (refine Dev.Wf.foldPair _ ?_ ?_; rotate_left; intro e x he)
    | split
    | simp only [Dev.wf_built]
    | with_reducible apply Dev.Built.other
    | with_reducible apply Dev.Wf.itePair
    | with_reducible (refine Dev.Wf.ofPair (by assumption) ?_)
    | with_reducible (refine Dev.Wf.ofPairSnd (by assumption) ?_)
    | with_reducible dsimp only)

theorem Dev.lengStart_wf (d : Dev) (n : Nat) (h_d : d.Wf) :
    Dev.Wf (Dev.lengStart d n) := by
  unfold Dev.lengStart
  try dsimp only
  repeat' (first
    | with_reducible assumption
    | with_reducible apply Dev.setLpc_wf
    | with_reducible apply Dev.wr_wf
    | with_reducible apply Dev.setLeng_wf
    | with_reducible apply Dev.Wf.ite
    | with_reducible (refine Dev.Wf.fold _ ?_ ?_; rotate_left; intro e x he)
    | with_reducible (refine Dev.Wf.foldPair _ ?_ ?_; rotate_left; intro e x he)
    | split
    | simp only [Dev.wf_built]
    | with_reducible apply Dev.Built.other
    | with_reducible apply Dev.Built.up_slots
    | with_reducible apply Map.wf_put
    | with_reducible apply Map.wf_filter
    | exact rfl
    | with_reducible apply Dev.Wf.slots
    | with_reducible apply Dev.Wf.itePair
    | with_reducible (refine Dev.Wf.ofPair (by assumption) ?_)
    | with_reducible (refine Dev.Wf.ofPairSnd (by assumption) ?_)
    | with_reducible dsimp only)

theorem Dev.lengStop_wf (d : Dev) (n : Nat) (h_d : d.Wf) :
    Dev.Wf (Dev.lengStop d n) := by
  unfold Dev.lengStop
  try dsimp only
  repeat' (first
    | with_reducible assumption
    | with_reducible apply Dev.lengHalt_wf
    | with_reducible apply Dev.Wf.ite
    | with_reducible (refine Dev.Wf.fold _ ?_ ?_; rotate_left; intro e x he)
    | with_reducible (refine Dev.Wf.foldPair _ ?_ ?_; rotate_left; intro e x he)
    | split
    | simp only [Dev.wf_built]
    | with_reducible apply Dev.Built.other
    | with_reducible apply Dev.Wf.itePair
    | with_reducible (refine Dev.Wf.ofPair (by assumption) ?_)
    | with_reducible (refine Dev.Wf.ofPairSnd (by assumption) ?_)
    | with_reducible dsimp only)

theorem Dev.waitReturn_wf (d : Dev) (n : Nat) (r : Nat) (mask : Nat) (h_d : d.Wf) :
    Dev.Wf (Dev.waitReturn d n r mask) := by
  unfold Dev.waitReturn
  try dsimp only
  repeat' (first
    | with_reducible assumption
    | with_reducible apply Dev.wr_wf
    | with_reducible apply Dev.setLeng_wf
    | with_reducible apply Dev.setLpc_wf
    | with_reducible apply Dev.setGreg_wf
    | with_reducible apply Dev.Wf.ite
    | with_reducible (refine Dev.Wf.fold _ ?_ ?_; rotate_left; intro e x he)
    | with_reducible (refine Dev.Wf.foldPair _ ?_ ?_; rotate_left; intro e x he)
    | split
    | simp only [Dev.wf_built]
    | with_reducible apply Dev.Built.other
    | with_reducible apply Dev.Built.up_slots
    | with_reducible apply Map.wf_put
    | with_reducible apply Map.wf_filter
    | exact rfl
    | with_reducible apply Dev.Wf.slots
    | with_reducible apply Dev.Wf.itePair
    | with_reducible (refine Dev.Wf.ofPair (by assumption) ?_)
    | with_reducible (refine Dev.Wf.ofPairSnd (by assumption) ?_)
    | with_reducible dsimp only)

theorem Dev.lengWake_wf (d : Dev) (n : Nat) (h_d : d.Wf) :
    Dev.Wf (Dev.lengWake d n) := by
  unfold Dev.lengWake
  try dsimp only
  repeat' (first
    | with_reducible assumption
    | with_reducible apply Dev.waitReturn_wf
    | with_reducible apply Dev.Wf.ite
    | with_reducible (refine Dev.Wf.fold _ ?_ ?_; rotate_left; intro e x he)
    | with_reducible (refine Dev.Wf.foldPair _ ?_ ?_; rotate_left; intro e x he)
    | split
    | simp only [Dev.wf_built]
    | with_reducible apply Dev.Built.other
    | with_reducible apply Dev.Wf.itePair
    | with_reducible (refine Dev.Wf.ofPair (by assumption) ?_)
    | with_reducible (refine Dev.Wf.ofPairSnd (by assumption) ?_)
    | with_reducible dsimp only)

theorem Dev.lengLatch_wf (d : Dev) (n : Nat) (b : Nat) (h_d : d.Wf) :
    Dev.Wf (Dev.lengLatch d n b) := by
  unfold Dev.lengLatch
  try dsimp only
  repeat' (first
    | with_reducible assumption
    | with_reducible apply Dev.setEvt_wf
    | with_reducible apply Dev.inc_wf
    | with_reducible apply Dev.lengWake_wf
    | with_reducible apply Dev.wr_wf
    | with_reducible apply Dev.Wf.ite
    | with_reducible (refine Dev.Wf.fold _ ?_ ?_; rotate_left; intro e x he)
    | with_reducible (refine Dev.Wf.foldPair _ ?_ ?_; rotate_left; intro e x he)
    | split
    | simp only [Dev.wf_built]
    | with_reducible apply Dev.Built.other
    | with_reducible apply Dev.Wf.itePair
    | with_reducible (refine Dev.Wf.ofPair (by assumption) ?_)
    | with_reducible (refine Dev.Wf.ofPairSnd (by assumption) ?_)
    | with_reducible dsimp only)

theorem Dev.lengEvent_wf (d : Dev) (n : Nat) (b : Nat) (h_d : d.Wf) :
    Dev.Wf (Dev.lengEvent d n b) := by
  unfold Dev.lengEvent
  try dsimp only
  repeat' (first
    | with_reducible assumption
    | with_reducible apply Dev.lengWake_wf
    | with_reducible apply Dev.lengLatch_wf
    | with_reducible apply Dev.Wf.ite
    | with_reducible (refine Dev.Wf.fold _ ?_ ?_; rotate_left; intro e x he)
    | with_reducible (refine Dev.Wf.foldPair _ ?_ ?_; rotate_left; intro e x he)
    | split
    | simp only [Dev.wf_built]
    | with_reducible apply Dev.Built.other
    | with_reducible apply Dev.Wf.itePair
    | with_reducible (refine Dev.Wf.ofPair (by assumption) ?_)
    | with_reducible (refine Dev.Wf.ofPairSnd (by assumption) ?_)
    | with_reducible dsimp only)

theorem Dev.lengSend_wf (d : Dev) (n : ℕ) (x : PathRec) (h_d : d.Wf) :
    Dev.Wf (Dev.lengSend d n x) := by
  unfold Dev.lengSend
  try dsimp only
  repeat' (first
    | with_reducible assumption
    | with_reducible apply Dev.setLeng_wf
    | with_reducible apply Dev.Wf.ite
    | with_reducible (refine Dev.Wf.fold _ ?_ ?_; rotate_left; intro e x he)
    | with_reducible (refine Dev.Wf.foldPair _ ?_ ?_; rotate_left; intro e x he)
    | split
    | simp only [Dev.wf_built]
    | with_reducible apply Dev.Built.other
    | with_reducible apply Dev.Wf.itePair
    | with_reducible (refine Dev.Wf.ofPair (by assumption) ?_)
    | with_reducible (refine Dev.Wf.ofPairSnd (by assumption) ?_)
    | with_reducible dsimp only)

theorem Dev.lengArrive_wf (d : Dev) (n : ℕ) (h_d : d.Wf) :
    Dev.Wf (Dev.lengArrive d n) := by
  unfold Dev.lengArrive
  try dsimp only
  repeat' (first
    | with_reducible assumption
    | with_reducible apply Dev.lengWake_wf
    | with_reducible apply Dev.setLeng_wf
    | with_reducible apply Dev.addEvt_wf
    | with_reducible apply Dev.Wf.ite
    | with_reducible (refine Dev.Wf.fold _ ?_ ?_; rotate_left; intro e x he)
    | with_reducible (refine Dev.Wf.foldPair _ ?_ ?_; rotate_left; intro e x he)
    | split
    | simp only [Dev.wf_built]
    | with_reducible apply Dev.Built.other
    | with_reducible apply Dev.Wf.itePair
    | with_reducible (refine Dev.Wf.ofPair (by assumption) ?_)
    | with_reducible (refine Dev.Wf.ofPairSnd (by assumption) ?_)
    | with_reducible dsimp only)

theorem Dev.nextPc_wf (d : Dev) (n : Nat) (h_d : d.Wf) :
    Dev.Wf (Dev.nextPc d n) := by
  unfold Dev.nextPc
  try dsimp only
  repeat' (first
    | with_reducible assumption
    | with_reducible apply Dev.setLpc_wf
    | with_reducible apply Dev.Wf.ite
    | with_reducible (refine Dev.Wf.fold _ ?_ ?_; rotate_left; intro e x he)
    | with_reducible (refine Dev.Wf.foldPair _ ?_ ?_; rotate_left; intro e x he)
    | split
    | simp only [Dev.wf_built]
    | with_reducible apply Dev.Built.other
    | with_reducible apply Dev.Wf.itePair
    | with_reducible (refine Dev.Wf.ofPair (by assumption) ?_)
    | with_reducible (refine Dev.Wf.ofPairSnd (by assumption) ?_)
    | with_reducible dsimp only)

theorem Dev.result_wf (d : Dev) (n : Nat) (w : Sys2Proof.Word) (v : Sys2Proof.Word) (h_d : d.Wf) :
    Dev.Wf (Dev.result d n w v) := by
  unfold Dev.result
  try dsimp only
  repeat' (first
    | with_reducible assumption
    | with_reducible apply Dev.nextPc_wf
    | with_reducible apply Dev.setGreg_wf
    | with_reducible apply Dev.Wf.ite
    | with_reducible (refine Dev.Wf.fold _ ?_ ?_; rotate_left; intro e x he)
    | with_reducible (refine Dev.Wf.foldPair _ ?_ ?_; rotate_left; intro e x he)
    | split
    | simp only [Dev.wf_built]
    | with_reducible apply Dev.Built.other
    | with_reducible apply Dev.Wf.itePair
    | with_reducible (refine Dev.Wf.ofPair (by assumption) ?_)
    | with_reducible (refine Dev.Wf.ofPairSnd (by assumption) ?_)
    | with_reducible dsimp only)

theorem Dev.branch_wf (d : Dev) (n : Nat) (w : Sys2Proof.Word) (c : Bool) (h_d : d.Wf) :
    Dev.Wf (Dev.branch d n w c) := by
  unfold Dev.branch
  try dsimp only
  repeat' (first
    | with_reducible assumption
    | with_reducible apply Dev.setLpc_wf
    | with_reducible apply Dev.nextPc_wf
    | with_reducible apply Dev.Wf.ite
    | with_reducible (refine Dev.Wf.fold _ ?_ ?_; rotate_left; intro e x he)
    | with_reducible (refine Dev.Wf.foldPair _ ?_ ?_; rotate_left; intro e x he)
    | split
    | simp only [Dev.wf_built]
    | with_reducible apply Dev.Built.other
    | with_reducible apply Dev.Wf.itePair
    | with_reducible (refine Dev.Wf.ofPair (by assumption) ?_)
    | with_reducible (refine Dev.Wf.ofPairSnd (by assumption) ?_)
    | with_reducible dsimp only)

theorem Dev.opNop_wf (d : Dev) (n : Nat) (_w : Sys2Proof.Word) (h_d : d.Wf) :
    Dev.Wf (Dev.opNop d n _w) := by
  unfold Dev.opNop
  try dsimp only
  repeat' (first
    | with_reducible assumption
    | with_reducible apply Dev.nextPc_wf
    | with_reducible apply Dev.Wf.ite
    | with_reducible (refine Dev.Wf.fold _ ?_ ?_; rotate_left; intro e x he)
    | with_reducible (refine Dev.Wf.foldPair _ ?_ ?_; rotate_left; intro e x he)
    | split
    | simp only [Dev.wf_built]
    | with_reducible apply Dev.Built.other
    | with_reducible apply Dev.Wf.itePair
    | with_reducible (refine Dev.Wf.ofPair (by assumption) ?_)
    | with_reducible (refine Dev.Wf.ofPairSnd (by assumption) ?_)
    | with_reducible dsimp only)

theorem Dev.opAdd_wf (d : Dev) (n : Nat) (w : Sys2Proof.Word) (h_d : d.Wf) :
    Dev.Wf (Dev.opAdd d n w) := by
  unfold Dev.opAdd
  try dsimp only
  repeat' (first
    | with_reducible assumption
    | with_reducible apply Dev.result_wf
    | with_reducible apply Dev.Wf.ite
    | with_reducible (refine Dev.Wf.fold _ ?_ ?_; rotate_left; intro e x he)
    | with_reducible (refine Dev.Wf.foldPair _ ?_ ?_; rotate_left; intro e x he)
    | split
    | simp only [Dev.wf_built]
    | with_reducible apply Dev.Built.other
    | with_reducible apply Dev.Wf.itePair
    | with_reducible (refine Dev.Wf.ofPair (by assumption) ?_)
    | with_reducible (refine Dev.Wf.ofPairSnd (by assumption) ?_)
    | with_reducible dsimp only)

theorem Dev.opSub_wf (d : Dev) (n : Nat) (w : Sys2Proof.Word) (h_d : d.Wf) :
    Dev.Wf (Dev.opSub d n w) := by
  unfold Dev.opSub
  try dsimp only
  repeat' (first
    | with_reducible assumption
    | with_reducible apply Dev.result_wf
    | with_reducible apply Dev.Wf.ite
    | with_reducible (refine Dev.Wf.fold _ ?_ ?_; rotate_left; intro e x he)
    | with_reducible (refine Dev.Wf.foldPair _ ?_ ?_; rotate_left; intro e x he)
    | split
    | simp only [Dev.wf_built]
    | with_reducible apply Dev.Built.other
    | with_reducible apply Dev.Wf.itePair
    | with_reducible (refine Dev.Wf.ofPair (by assumption) ?_)
    | with_reducible (refine Dev.Wf.ofPairSnd (by assumption) ?_)
    | with_reducible dsimp only)

theorem Dev.opAnd_wf (d : Dev) (n : Nat) (w : Sys2Proof.Word) (h_d : d.Wf) :
    Dev.Wf (Dev.opAnd d n w) := by
  unfold Dev.opAnd
  try dsimp only
  repeat' (first
    | with_reducible assumption
    | with_reducible apply Dev.result_wf
    | with_reducible apply Dev.Wf.ite
    | with_reducible (refine Dev.Wf.fold _ ?_ ?_; rotate_left; intro e x he)
    | with_reducible (refine Dev.Wf.foldPair _ ?_ ?_; rotate_left; intro e x he)
    | split
    | simp only [Dev.wf_built]
    | with_reducible apply Dev.Built.other
    | with_reducible apply Dev.Wf.itePair
    | with_reducible (refine Dev.Wf.ofPair (by assumption) ?_)
    | with_reducible (refine Dev.Wf.ofPairSnd (by assumption) ?_)
    | with_reducible dsimp only)

theorem Dev.opOr_wf (d : Dev) (n : Nat) (w : Sys2Proof.Word) (h_d : d.Wf) :
    Dev.Wf (Dev.opOr d n w) := by
  unfold Dev.opOr
  try dsimp only
  repeat' (first
    | with_reducible assumption
    | with_reducible apply Dev.result_wf
    | with_reducible apply Dev.Wf.ite
    | with_reducible (refine Dev.Wf.fold _ ?_ ?_; rotate_left; intro e x he)
    | with_reducible (refine Dev.Wf.foldPair _ ?_ ?_; rotate_left; intro e x he)
    | split
    | simp only [Dev.wf_built]
    | with_reducible apply Dev.Built.other
    | with_reducible apply Dev.Wf.itePair
    | with_reducible (refine Dev.Wf.ofPair (by assumption) ?_)
    | with_reducible (refine Dev.Wf.ofPairSnd (by assumption) ?_)
    | with_reducible dsimp only)

theorem Dev.opXor_wf (d : Dev) (n : Nat) (w : Sys2Proof.Word) (h_d : d.Wf) :
    Dev.Wf (Dev.opXor d n w) := by
  unfold Dev.opXor
  try dsimp only
  repeat' (first
    | with_reducible assumption
    | with_reducible apply Dev.result_wf
    | with_reducible apply Dev.Wf.ite
    | with_reducible (refine Dev.Wf.fold _ ?_ ?_; rotate_left; intro e x he)
    | with_reducible (refine Dev.Wf.foldPair _ ?_ ?_; rotate_left; intro e x he)
    | split
    | simp only [Dev.wf_built]
    | with_reducible apply Dev.Built.other
    | with_reducible apply Dev.Wf.itePair
    | with_reducible (refine Dev.Wf.ofPair (by assumption) ?_)
    | with_reducible (refine Dev.Wf.ofPairSnd (by assumption) ?_)
    | with_reducible dsimp only)

theorem Dev.opShl_wf (d : Dev) (n : Nat) (w : Sys2Proof.Word) (h_d : d.Wf) :
    Dev.Wf (Dev.opShl d n w) := by
  unfold Dev.opShl
  try dsimp only
  repeat' (first
    | with_reducible assumption
    | with_reducible apply Dev.result_wf
    | with_reducible apply Dev.Wf.ite
    | with_reducible (refine Dev.Wf.fold _ ?_ ?_; rotate_left; intro e x he)
    | with_reducible (refine Dev.Wf.foldPair _ ?_ ?_; rotate_left; intro e x he)
    | split
    | simp only [Dev.wf_built]
    | with_reducible apply Dev.Built.other
    | with_reducible apply Dev.Wf.itePair
    | with_reducible (refine Dev.Wf.ofPair (by assumption) ?_)
    | with_reducible (refine Dev.Wf.ofPairSnd (by assumption) ?_)
    | with_reducible dsimp only)

theorem Dev.opShr_wf (d : Dev) (n : Nat) (w : Sys2Proof.Word) (h_d : d.Wf) :
    Dev.Wf (Dev.opShr d n w) := by
  unfold Dev.opShr
  try dsimp only
  repeat' (first
    | with_reducible assumption
    | with_reducible apply Dev.result_wf
    | with_reducible apply Dev.Wf.ite
    | with_reducible (refine Dev.Wf.fold _ ?_ ?_; rotate_left; intro e x he)
    | with_reducible (refine Dev.Wf.foldPair _ ?_ ?_; rotate_left; intro e x he)
    | split
    | simp only [Dev.wf_built]
    | with_reducible apply Dev.Built.other
    | with_reducible apply Dev.Wf.itePair
    | with_reducible (refine Dev.Wf.ofPair (by assumption) ?_)
    | with_reducible (refine Dev.Wf.ofPairSnd (by assumption) ?_)
    | with_reducible dsimp only)

theorem Dev.opAddi_wf (d : Dev) (n : Nat) (w : Sys2Proof.Word) (h_d : d.Wf) :
    Dev.Wf (Dev.opAddi d n w) := by
  unfold Dev.opAddi
  try dsimp only
  repeat' (first
    | with_reducible assumption
    | with_reducible apply Dev.result_wf
    | with_reducible apply Dev.Wf.ite
    | with_reducible (refine Dev.Wf.fold _ ?_ ?_; rotate_left; intro e x he)
    | with_reducible (refine Dev.Wf.foldPair _ ?_ ?_; rotate_left; intro e x he)
    | split
    | simp only [Dev.wf_built]
    | with_reducible apply Dev.Built.other
    | with_reducible apply Dev.Wf.itePair
    | with_reducible (refine Dev.Wf.ofPair (by assumption) ?_)
    | with_reducible (refine Dev.Wf.ofPairSnd (by assumption) ?_)
    | with_reducible dsimp only)

theorem Dev.opAndi_wf (d : Dev) (n : Nat) (w : Sys2Proof.Word) (h_d : d.Wf) :
    Dev.Wf (Dev.opAndi d n w) := by
  unfold Dev.opAndi
  try dsimp only
  repeat' (first
    | with_reducible assumption
    | with_reducible apply Dev.result_wf
    | with_reducible apply Dev.Wf.ite
    | with_reducible (refine Dev.Wf.fold _ ?_ ?_; rotate_left; intro e x he)
    | with_reducible (refine Dev.Wf.foldPair _ ?_ ?_; rotate_left; intro e x he)
    | split
    | simp only [Dev.wf_built]
    | with_reducible apply Dev.Built.other
    | with_reducible apply Dev.Wf.itePair
    | with_reducible (refine Dev.Wf.ofPair (by assumption) ?_)
    | with_reducible (refine Dev.Wf.ofPairSnd (by assumption) ?_)
    | with_reducible dsimp only)

theorem Dev.opOri_wf (d : Dev) (n : Nat) (w : Sys2Proof.Word) (h_d : d.Wf) :
    Dev.Wf (Dev.opOri d n w) := by
  unfold Dev.opOri
  try dsimp only
  repeat' (first
    | with_reducible assumption
    | with_reducible apply Dev.result_wf
    | with_reducible apply Dev.Wf.ite
    | with_reducible (refine Dev.Wf.fold _ ?_ ?_; rotate_left; intro e x he)
    | with_reducible (refine Dev.Wf.foldPair _ ?_ ?_; rotate_left; intro e x he)
    | split
    | simp only [Dev.wf_built]
    | with_reducible apply Dev.Built.other
    | with_reducible apply Dev.Wf.itePair
    | with_reducible (refine Dev.Wf.ofPair (by assumption) ?_)
    | with_reducible (refine Dev.Wf.ofPairSnd (by assumption) ?_)
    | with_reducible dsimp only)

theorem Dev.opShli_wf (d : Dev) (n : Nat) (w : Sys2Proof.Word) (h_d : d.Wf) :
    Dev.Wf (Dev.opShli d n w) := by
  unfold Dev.opShli
  try dsimp only
  repeat' (first
    | with_reducible assumption
    | with_reducible apply Dev.result_wf
    | with_reducible apply Dev.Wf.ite
    | with_reducible (refine Dev.Wf.fold _ ?_ ?_; rotate_left; intro e x he)
    | with_reducible (refine Dev.Wf.foldPair _ ?_ ?_; rotate_left; intro e x he)
    | split
    | simp only [Dev.wf_built]
    | with_reducible apply Dev.Built.other
    | with_reducible apply Dev.Wf.itePair
    | with_reducible (refine Dev.Wf.ofPair (by assumption) ?_)
    | with_reducible (refine Dev.Wf.ofPairSnd (by assumption) ?_)
    | with_reducible dsimp only)

theorem Dev.opShri_wf (d : Dev) (n : Nat) (w : Sys2Proof.Word) (h_d : d.Wf) :
    Dev.Wf (Dev.opShri d n w) := by
  unfold Dev.opShri
  try dsimp only
  repeat' (first
    | with_reducible assumption
    | with_reducible apply Dev.result_wf
    | with_reducible apply Dev.Wf.ite
    | with_reducible (refine Dev.Wf.fold _ ?_ ?_; rotate_left; intro e x he)
    | with_reducible (refine Dev.Wf.foldPair _ ?_ ?_; rotate_left; intro e x he)
    | split
    | simp only [Dev.wf_built]
    | with_reducible apply Dev.Built.other
    | with_reducible apply Dev.Wf.itePair
    | with_reducible (refine Dev.Wf.ofPair (by assumption) ?_)
    | with_reducible (refine Dev.Wf.ofPairSnd (by assumption) ?_)
    | with_reducible dsimp only)

theorem Dev.opLui_wf (d : Dev) (n : Nat) (w : Sys2Proof.Word) (h_d : d.Wf) :
    Dev.Wf (Dev.opLui d n w) := by
  unfold Dev.opLui
  try dsimp only
  repeat' (first
    | with_reducible assumption
    | with_reducible apply Dev.result_wf
    | with_reducible apply Dev.Wf.ite
    | with_reducible (refine Dev.Wf.fold _ ?_ ?_; rotate_left; intro e x he)
    | with_reducible (refine Dev.Wf.foldPair _ ?_ ?_; rotate_left; intro e x he)
    | split
    | simp only [Dev.wf_built]
    | with_reducible apply Dev.Built.other
    | with_reducible apply Dev.Wf.itePair
    | with_reducible (refine Dev.Wf.ofPair (by assumption) ?_)
    | with_reducible (refine Dev.Wf.ofPairSnd (by assumption) ?_)
    | with_reducible dsimp only)

theorem Dev.opExt_wf (d : Dev) (n : Nat) (w : Sys2Proof.Word) (h_d : d.Wf) :
    Dev.Wf (Dev.opExt d n w) := by
  unfold Dev.opExt
  try dsimp only
  repeat' (first
    | with_reducible assumption
    | with_reducible apply Dev.result_wf
    | with_reducible apply Dev.Wf.ite
    | with_reducible (refine Dev.Wf.fold _ ?_ ?_; rotate_left; intro e x he)
    | with_reducible (refine Dev.Wf.foldPair _ ?_ ?_; rotate_left; intro e x he)
    | split
    | simp only [Dev.wf_built]
    | with_reducible apply Dev.Built.other
    | with_reducible apply Dev.Wf.itePair
    | with_reducible (refine Dev.Wf.ofPair (by assumption) ?_)
    | with_reducible (refine Dev.Wf.ofPairSnd (by assumption) ?_)
    | with_reducible dsimp only)

theorem Dev.opIns_wf (d : Dev) (n : Nat) (w : Sys2Proof.Word) (h_d : d.Wf) :
    Dev.Wf (Dev.opIns d n w) := by
  unfold Dev.opIns
  try dsimp only
  repeat' (first
    | with_reducible assumption
    | with_reducible apply Dev.result_wf
    | with_reducible apply Dev.Wf.ite
    | with_reducible (refine Dev.Wf.fold _ ?_ ?_; rotate_left; intro e x he)
    | with_reducible (refine Dev.Wf.foldPair _ ?_ ?_; rotate_left; intro e x he)
    | split
    | simp only [Dev.wf_built]
    | with_reducible apply Dev.Built.other
    | with_reducible apply Dev.Wf.itePair
    | with_reducible (refine Dev.Wf.ofPair (by assumption) ?_)
    | with_reducible (refine Dev.Wf.ofPairSnd (by assumption) ?_)
    | with_reducible dsimp only)

theorem Dev.opLd_wf (d : Dev) (n : Nat) (w : Sys2Proof.Word) (h_d : d.Wf) :
    Dev.Wf (Dev.opLd d n w) := by
  unfold Dev.opLd
  try dsimp only
  repeat' (first
    | with_reducible assumption
    | with_reducible apply Dev.lengHalt_wf
    | with_reducible apply Dev.result_wf
    | with_reducible apply Dev.Wf.ite
    | with_reducible (refine Dev.Wf.fold _ ?_ ?_; rotate_left; intro e x he)
    | with_reducible (refine Dev.Wf.foldPair _ ?_ ?_; rotate_left; intro e x he)
    | split
    | simp only [Dev.wf_built]
    | with_reducible apply Dev.Built.other
    | with_reducible apply Dev.Wf.itePair
    | with_reducible (refine Dev.Wf.ofPair (by assumption) ?_)
    | with_reducible (refine Dev.Wf.ofPairSnd (by assumption) ?_)
    | with_reducible dsimp only)

theorem Dev.opSt_wf (d : Dev) (n : Nat) (w : Sys2Proof.Word) (h_d : d.Wf) :
    Dev.Wf (Dev.opSt d n w) := by
  unfold Dev.opSt
  try dsimp only
  repeat' (first
    | with_reducible assumption
    | with_reducible apply Dev.lengHalt_wf
    | with_reducible apply Dev.nextPc_wf
    | with_reducible apply Dev.dmemPut_wf
    | with_reducible apply Dev.Wf.ite
    | with_reducible (refine Dev.Wf.fold _ ?_ ?_; rotate_left; intro e x he)
    | with_reducible (refine Dev.Wf.foldPair _ ?_ ?_; rotate_left; intro e x he)
    | split
    | simp only [Dev.wf_built]
    | with_reducible apply Dev.Built.other
    | with_reducible apply Dev.Wf.itePair
    | with_reducible (refine Dev.Wf.ofPair (by assumption) ?_)
    | with_reducible (refine Dev.Wf.ofPairSnd (by assumption) ?_)
    | with_reducible dsimp only)

theorem Dev.opBeq_wf (d : Dev) (n : Nat) (w : Sys2Proof.Word) (h_d : d.Wf) :
    Dev.Wf (Dev.opBeq d n w) := by
  unfold Dev.opBeq
  try dsimp only
  repeat' (first
    | with_reducible assumption
    | with_reducible apply Dev.branch_wf
    | with_reducible apply Dev.Wf.ite
    | with_reducible (refine Dev.Wf.fold _ ?_ ?_; rotate_left; intro e x he)
    | with_reducible (refine Dev.Wf.foldPair _ ?_ ?_; rotate_left; intro e x he)
    | split
    | simp only [Dev.wf_built]
    | with_reducible apply Dev.Built.other
    | with_reducible apply Dev.Wf.itePair
    | with_reducible (refine Dev.Wf.ofPair (by assumption) ?_)
    | with_reducible (refine Dev.Wf.ofPairSnd (by assumption) ?_)
    | with_reducible dsimp only)

theorem Dev.opBne_wf (d : Dev) (n : Nat) (w : Sys2Proof.Word) (h_d : d.Wf) :
    Dev.Wf (Dev.opBne d n w) := by
  unfold Dev.opBne
  try dsimp only
  repeat' (first
    | with_reducible assumption
    | with_reducible apply Dev.branch_wf
    | with_reducible apply Dev.Wf.ite
    | with_reducible (refine Dev.Wf.fold _ ?_ ?_; rotate_left; intro e x he)
    | with_reducible (refine Dev.Wf.foldPair _ ?_ ?_; rotate_left; intro e x he)
    | split
    | simp only [Dev.wf_built]
    | with_reducible apply Dev.Built.other
    | with_reducible apply Dev.Wf.itePair
    | with_reducible (refine Dev.Wf.ofPair (by assumption) ?_)
    | with_reducible (refine Dev.Wf.ofPairSnd (by assumption) ?_)
    | with_reducible dsimp only)

theorem Dev.opBlt_wf (d : Dev) (n : Nat) (w : Sys2Proof.Word) (h_d : d.Wf) :
    Dev.Wf (Dev.opBlt d n w) := by
  unfold Dev.opBlt
  try dsimp only
  repeat' (first
    | with_reducible assumption
    | with_reducible apply Dev.branch_wf
    | with_reducible apply Dev.Wf.ite
    | with_reducible (refine Dev.Wf.fold _ ?_ ?_; rotate_left; intro e x he)
    | with_reducible (refine Dev.Wf.foldPair _ ?_ ?_; rotate_left; intro e x he)
    | split
    | simp only [Dev.wf_built]
    | with_reducible apply Dev.Built.other
    | with_reducible apply Dev.Wf.itePair
    | with_reducible (refine Dev.Wf.ofPair (by assumption) ?_)
    | with_reducible (refine Dev.Wf.ofPairSnd (by assumption) ?_)
    | with_reducible dsimp only)

theorem Dev.opBge_wf (d : Dev) (n : Nat) (w : Sys2Proof.Word) (h_d : d.Wf) :
    Dev.Wf (Dev.opBge d n w) := by
  unfold Dev.opBge
  try dsimp only
  repeat' (first
    | with_reducible assumption
    | with_reducible apply Dev.branch_wf
    | with_reducible apply Dev.Wf.ite
    | with_reducible (refine Dev.Wf.fold _ ?_ ?_; rotate_left; intro e x he)
    | with_reducible (refine Dev.Wf.foldPair _ ?_ ?_; rotate_left; intro e x he)
    | split
    | simp only [Dev.wf_built]
    | with_reducible apply Dev.Built.other
    | with_reducible apply Dev.Wf.itePair
    | with_reducible (refine Dev.Wf.ofPair (by assumption) ?_)
    | with_reducible (refine Dev.Wf.ofPairSnd (by assumption) ?_)
    | with_reducible dsimp only)

theorem Dev.opJ_wf (d : Dev) (n : Nat) (w : Sys2Proof.Word) (h_d : d.Wf) :
    Dev.Wf (Dev.opJ d n w) := by
  unfold Dev.opJ
  try dsimp only
  repeat' (first
    | with_reducible assumption
    | with_reducible apply Dev.setLpc_wf
    | with_reducible apply Dev.Wf.ite
    | with_reducible (refine Dev.Wf.fold _ ?_ ?_; rotate_left; intro e x he)
    | with_reducible (refine Dev.Wf.foldPair _ ?_ ?_; rotate_left; intro e x he)
    | split
    | simp only [Dev.wf_built]
    | with_reducible apply Dev.Built.other
    | with_reducible apply Dev.Wf.itePair
    | with_reducible (refine Dev.Wf.ofPair (by assumption) ?_)
    | with_reducible (refine Dev.Wf.ofPairSnd (by assumption) ?_)
    | with_reducible dsimp only)

theorem Dev.opCall_wf (d : Dev) (n : Nat) (w : Sys2Proof.Word) (h_d : d.Wf) :
    Dev.Wf (Dev.opCall d n w) := by
  unfold Dev.opCall
  try dsimp only
  repeat' (first
    | with_reducible assumption
    | with_reducible apply Dev.lengHalt_wf
    | with_reducible apply Dev.setLpc_wf
    | with_reducible apply Dev.setLeng_wf
    | with_reducible apply Dev.Wf.ite
    | with_reducible (refine Dev.Wf.fold _ ?_ ?_; rotate_left; intro e x he)
    | with_reducible (refine Dev.Wf.foldPair _ ?_ ?_; rotate_left; intro e x he)
    | split
    | simp only [Dev.wf_built]
    | with_reducible apply Dev.Built.other
    | with_reducible apply Dev.Wf.itePair
    | with_reducible (refine Dev.Wf.ofPair (by assumption) ?_)
    | with_reducible (refine Dev.Wf.ofPairSnd (by assumption) ?_)
    | with_reducible dsimp only)

theorem Dev.opRet_wf (d : Dev) (n : Nat) (_w : Sys2Proof.Word) (h_d : d.Wf) :
    Dev.Wf (Dev.opRet d n _w) := by
  unfold Dev.opRet
  try dsimp only
  repeat' (first
    | with_reducible assumption
    | with_reducible apply Dev.lengHalt_wf
    | with_reducible apply Dev.setLpc_wf
    | with_reducible apply Dev.setLeng_wf
    | with_reducible apply Dev.Wf.ite
    | with_reducible (refine Dev.Wf.fold _ ?_ ?_; rotate_left; intro e x he)
    | with_reducible (refine Dev.Wf.foldPair _ ?_ ?_; rotate_left; intro e x he)
    | split
    | simp only [Dev.wf_built]
    | with_reducible apply Dev.Built.other
    | with_reducible apply Dev.Wf.itePair
    | with_reducible (refine Dev.Wf.ofPair (by assumption) ?_)
    | with_reducible (refine Dev.Wf.ofPairSnd (by assumption) ?_)
    | with_reducible dsimp only)

theorem Dev.opWait_wf (d : Dev) (n : Nat) (w : Sys2Proof.Word) (h_d : d.Wf) :
    Dev.Wf (Dev.opWait d n w) := by
  unfold Dev.opWait
  try dsimp only
  repeat' (first
    | with_reducible assumption
    | with_reducible apply Dev.waitReturn_wf
    | with_reducible apply Dev.wr_wf
    | with_reducible apply Dev.setLeng_wf
    | with_reducible apply Dev.Wf.ite
    | with_reducible (refine Dev.Wf.fold _ ?_ ?_; rotate_left; intro e x he)
    | with_reducible (refine Dev.Wf.foldPair _ ?_ ?_; rotate_left; intro e x he)
    | split
    | simp only [Dev.wf_built]
    | with_reducible apply Dev.Built.other
    | with_reducible apply Dev.Wf.itePair
    | with_reducible (refine Dev.Wf.ofPair (by assumption) ?_)
    | with_reducible (refine Dev.Wf.ofPairSnd (by assumption) ?_)
    | with_reducible dsimp only)

theorem Dev.opLdh_wf (d : Dev) (n : Nat) (w : Sys2Proof.Word) (h_d : d.Wf) :
    Dev.Wf (Dev.opLdh d n w) := by
  unfold Dev.opLdh
  try dsimp only
  repeat' (first
    | with_reducible assumption
    | with_reducible apply Dev.lengHalt_wf
    | with_reducible apply Dev.result_wf
    | with_reducible apply Dev.Wf.ite
    | with_reducible (refine Dev.Wf.fold _ ?_ ?_; rotate_left; intro e x he)
    | with_reducible (refine Dev.Wf.foldPair _ ?_ ?_; rotate_left; intro e x he)
    | split
    | simp only [Dev.wf_built]
    | with_reducible apply Dev.Built.other
    | with_reducible apply Dev.Wf.itePair
    | with_reducible (refine Dev.Wf.ofPair (by assumption) ?_)
    | with_reducible (refine Dev.Wf.ofPairSnd (by assumption) ?_)
    | with_reducible dsimp only)

theorem Dev.opGetu_wf (d : Dev) (n : Nat) (w : Sys2Proof.Word) (h_d : d.Wf) :
    Dev.Wf (Dev.opGetu d n w) := by
  unfold Dev.opGetu
  try dsimp only
  repeat' (first
    | with_reducible assumption
    | with_reducible apply Dev.lengHalt_wf
    | with_reducible apply Dev.result_wf
    | with_reducible apply Dev.setLeng_wf
    | with_reducible apply Dev.Wf.ite
    | with_reducible (refine Dev.Wf.fold _ ?_ ?_; rotate_left; intro e x he)
    | with_reducible (refine Dev.Wf.foldPair _ ?_ ?_; rotate_left; intro e x he)
    | split
    | simp only [Dev.wf_built]
    | with_reducible apply Dev.Built.other
    | with_reducible apply Dev.Wf.itePair
    | with_reducible (refine Dev.Wf.ofPair (by assumption) ?_)
    | with_reducible (refine Dev.Wf.ofPairSnd (by assumption) ?_)
    | with_reducible dsimp only)

theorem Dev.opNewp_wf (d : Dev) (n : Nat) (w : Sys2Proof.Word) (h_d : d.Wf) :
    Dev.Wf (Dev.opNewp d n w) := by
  unfold Dev.opNewp
  try dsimp only
  repeat' (first
    | with_reducible assumption
    | with_reducible apply Dev.buildDrop_wf
    | with_reducible apply Dev.nextPc_wf
    | with_reducible apply Dev.setLeng_wf
    | with_reducible apply Dev.Wf.ite
    | with_reducible (refine Dev.Wf.fold _ ?_ ?_; rotate_left; intro e x he)
    | with_reducible (refine Dev.Wf.foldPair _ ?_ ?_; rotate_left; intro e x he)
    | split
    | simp only [Dev.wf_built]
    | with_reducible apply Dev.Built.other
    | with_reducible apply Dev.Wf.itePair
    | with_reducible (refine Dev.Wf.ofPair (by assumption) ?_)
    | with_reducible (refine Dev.Wf.ofPairSnd (by assumption) ?_)
    | with_reducible dsimp only)

theorem Dev.opPutu_wf (d : Dev) (n : Nat) (w : Sys2Proof.Word) (h_d : d.Wf) :
    Dev.Wf (Dev.opPutu d n w) := by
  unfold Dev.opPutu
  try dsimp only
  repeat' (first
    | with_reducible assumption
    | with_reducible apply Dev.lengHalt_wf
    | with_reducible apply Dev.nextPc_wf
    | with_reducible apply Dev.setLeng_wf
    | with_reducible apply Dev.Wf.ite
    | with_reducible (refine Dev.Wf.fold _ ?_ ?_; rotate_left; intro e x he)
    | with_reducible (refine Dev.Wf.foldPair _ ?_ ?_; rotate_left; intro e x he)
    | split
    | simp only [Dev.wf_built]
    | with_reducible apply Dev.Built.other
    | with_reducible apply Dev.Wf.itePair
    | with_reducible (refine Dev.Wf.ofPair (by assumption) ?_)
    | with_reducible (refine Dev.Wf.ofPairSnd (by assumption) ?_)
    | with_reducible dsimp only)

theorem Dev.opEndp_wf (d : Dev) (n : ℕ) (w : Sys2Proof.Word) (h_d : d.Wf) :
    Dev.Wf (Dev.opEndp d n w) := by
  unfold Dev.opEndp
  try dsimp only
  repeat' (first
    | with_reducible assumption
    | with_reducible apply Dev.lengHalt_wf
    | with_reducible apply Dev.setLeng_wf
    | with_reducible apply Dev.ancIntoLate_wf
    | with_reducible apply Dev.insertInto_wf
    | with_reducible apply Dev.queuePut_wf
    | with_reducible apply Dev.result_wf
    | with_reducible apply Dev.Wf.ite
    | with_reducible (refine Dev.Wf.fold _ ?_ ?_; rotate_left; intro e x he)
    | with_reducible (refine Dev.Wf.foldPair _ ?_ ?_; rotate_left; intro e x he)
    | split
    | simp only [Dev.wf_built]
    | with_reducible apply Dev.Built.other
    | with_reducible apply Dev.Wf.itePair
    | with_reducible (refine Dev.Wf.ofPair (by assumption) ?_)
    | with_reducible (refine Dev.Wf.ofPairSnd (by assumption) ?_)
    | with_reducible dsimp only)

theorem Dev.popHead_wf (d : Dev) (n : Nat) (h_d : d.Wf) :
    Dev.Wf (Dev.popHead d n) := by
  unfold Dev.popHead
  try dsimp only
  repeat' (first
    | with_reducible assumption
    | with_reducible apply Dev.setLeng_wf
    | with_reducible apply Dev.Wf.ite
    | with_reducible (refine Dev.Wf.fold _ ?_ ?_; rotate_left; intro e x he)
    | with_reducible (refine Dev.Wf.foldPair _ ?_ ?_; rotate_left; intro e x he)
    | split
    | simp only [Dev.wf_built]
    | with_reducible apply Dev.Built.other
    | with_reducible apply Dev.Wf.itePair
    | with_reducible (refine Dev.Wf.ofPair (by assumption) ?_)
    | with_reducible (refine Dev.Wf.ofPairSnd (by assumption) ?_)
    | with_reducible dsimp only)

theorem Dev.opDrop_wf (d : Dev) (n : Nat) (_w : Sys2Proof.Word) (h_d : d.Wf) :
    Dev.Wf (Dev.opDrop d n _w) := by
  unfold Dev.opDrop
  try dsimp only
  repeat' (first
    | with_reducible assumption
    | with_reducible apply Dev.lengHalt_wf
    | with_reducible apply Dev.nextPc_wf
    | with_reducible apply Dev.popHead_wf
    | with_reducible apply Dev.Wf.ite
    | with_reducible (refine Dev.Wf.fold _ ?_ ?_; rotate_left; intro e x he)
    | with_reducible (refine Dev.Wf.foldPair _ ?_ ?_; rotate_left; intro e x he)
    | split
    | simp only [Dev.wf_built]
    | with_reducible apply Dev.Built.other
    | with_reducible apply Dev.Wf.itePair
    | with_reducible (refine Dev.Wf.ofPair (by assumption) ?_)
    | with_reducible (refine Dev.Wf.ofPairSnd (by assumption) ?_)
    | with_reducible dsimp only)

theorem Dev.opFwd_wf (d : Dev) (n : Nat) (_w : Sys2Proof.Word) (h_d : d.Wf) :
    Dev.Wf (Dev.opFwd d n _w) := by
  unfold Dev.opFwd
  try dsimp only
  repeat' (first
    | with_reducible assumption
    | with_reducible apply Dev.lengHalt_wf
    | with_reducible apply Dev.nextPc_wf
    | with_reducible apply Dev.fwdRec_wf
    | with_reducible apply Dev.popHead_wf
    | with_reducible apply Dev.Wf.ite
    | with_reducible (refine Dev.Wf.fold _ ?_ ?_; rotate_left; intro e x he)
    | with_reducible (refine Dev.Wf.foldPair _ ?_ ?_; rotate_left; intro e x he)
    | split
    | simp only [Dev.wf_built]
    | with_reducible apply Dev.Built.other
    | with_reducible apply Dev.Wf.itePair
    | with_reducible (refine Dev.Wf.ofPair (by assumption) ?_)
    | with_reducible (refine Dev.Wf.ofPairSnd (by assumption) ?_)
    | with_reducible dsimp only)

theorem Dev.opPushq_wf (d : Dev) (n : Nat) (w : Sys2Proof.Word) (h_d : d.Wf) :
    Dev.Wf (Dev.opPushq d n w) := by
  unfold Dev.opPushq
  try dsimp only
  repeat' (first
    | with_reducible assumption
    | with_reducible apply Dev.lengHalt_wf
    | with_reducible apply Dev.queuePut_wf
    | with_reducible apply Dev.result_wf
    | with_reducible apply Dev.Wf.ite
    | with_reducible (refine Dev.Wf.fold _ ?_ ?_; rotate_left; intro e x he)
    | with_reducible (refine Dev.Wf.foldPair _ ?_ ?_; rotate_left; intro e x he)
    | split
    | simp only [Dev.wf_built]
    | with_reducible apply Dev.Built.other
    | with_reducible apply Dev.Wf.itePair
    | with_reducible (refine Dev.Wf.ofPair (by assumption) ?_)
    | with_reducible (refine Dev.Wf.ofPairSnd (by assumption) ?_)
    | with_reducible dsimp only)

theorem Dev.opPar_wf (d : Dev) (n : Nat) (w : Sys2Proof.Word) (h_d : d.Wf) :
    Dev.Wf (Dev.opPar d n w) := by
  unfold Dev.opPar
  try dsimp only
  repeat' (first
    | with_reducible assumption
    | with_reducible apply Dev.result_wf
    | with_reducible apply Dev.Wf.ite
    | with_reducible (refine Dev.Wf.fold _ ?_ ?_; rotate_left; intro e x he)
    | with_reducible (refine Dev.Wf.foldPair _ ?_ ?_; rotate_left; intro e x he)
    | split
    | simp only [Dev.wf_built]
    | with_reducible apply Dev.Built.other
    | with_reducible apply Dev.Wf.itePair
    | with_reducible (refine Dev.Wf.ofPair (by assumption) ?_)
    | with_reducible (refine Dev.Wf.ofPairSnd (by assumption) ?_)
    | with_reducible dsimp only)

theorem Dev.opCrc_wf (d : Dev) (n : Nat) (w : Sys2Proof.Word) (h_d : d.Wf) :
    Dev.Wf (Dev.opCrc d n w) := by
  unfold Dev.opCrc
  try dsimp only
  repeat' (first
    | with_reducible assumption
    | with_reducible apply Dev.result_wf
    | with_reducible apply Dev.Wf.ite
    | with_reducible (refine Dev.Wf.fold _ ?_ ?_; rotate_left; intro e x he)
    | with_reducible (refine Dev.Wf.foldPair _ ?_ ?_; rotate_left; intro e x he)
    | split
    | simp only [Dev.wf_built]
    | with_reducible apply Dev.Built.other
    | with_reducible apply Dev.Wf.itePair
    | with_reducible (refine Dev.Wf.ofPair (by assumption) ?_)
    | with_reducible (refine Dev.Wf.ofPairSnd (by assumption) ?_)
    | with_reducible dsimp only)

theorem Dev.opCinc_wf (d : Dev) (n : Nat) (w : Sys2Proof.Word) (h_d : d.Wf) :
    Dev.Wf (Dev.opCinc d n w) := by
  unfold Dev.opCinc
  try dsimp only
  repeat' (first
    | with_reducible assumption
    | with_reducible apply Dev.nextPc_wf
    | with_reducible apply Dev.inc_wf
    | with_reducible apply Dev.Wf.ite
    | with_reducible (refine Dev.Wf.fold _ ?_ ?_; rotate_left; intro e x he)
    | with_reducible (refine Dev.Wf.foldPair _ ?_ ?_; rotate_left; intro e x he)
    | split
    | simp only [Dev.wf_built]
    | with_reducible apply Dev.Built.other
    | with_reducible apply Dev.Wf.itePair
    | with_reducible (refine Dev.Wf.ofPair (by assumption) ?_)
    | with_reducible (refine Dev.Wf.ofPairSnd (by assumption) ?_)
    | with_reducible dsimp only)

theorem Dev.opCrd_wf (d : Dev) (n : Nat) (w : Sys2Proof.Word) (h_d : d.Wf) :
    Dev.Wf (Dev.opCrd d n w) := by
  unfold Dev.opCrd
  try dsimp only
  repeat' (first
    | with_reducible assumption
    | with_reducible apply Dev.result_wf
    | with_reducible apply Dev.lengHalt_wf
    | with_reducible apply Dev.Wf.ite
    | with_reducible (refine Dev.Wf.fold _ ?_ ?_; rotate_left; intro e x he)
    | with_reducible (refine Dev.Wf.foldPair _ ?_ ?_; rotate_left; intro e x he)
    | split
    | simp only [Dev.wf_built]
    | with_reducible apply Dev.Built.other
    | with_reducible apply Dev.Wf.itePair
    | with_reducible (refine Dev.Wf.ofPair (by assumption) ?_)
    | with_reducible (refine Dev.Wf.ofPairSnd (by assumption) ?_)
    | with_reducible dsimp only)

theorem Dev.opDbell_wf (d : Dev) (n : Nat) (w : Sys2Proof.Word) (h_d : d.Wf) :
    Dev.Wf (Dev.opDbell d n w) := by
  unfold Dev.opDbell
  try dsimp only
  repeat' (first
    | with_reducible assumption
    | with_reducible apply Dev.lengHalt_wf
    | with_reducible apply Dev.wr_wf
    | with_reducible apply Dev.nextPc_wf
    | with_reducible apply Dev.addEvent_wf
    | with_reducible apply Dev.setEvt_wf
    | with_reducible apply Dev.Wf.ite
    | with_reducible (refine Dev.Wf.fold _ ?_ ?_; rotate_left; intro e x he)
    | with_reducible (refine Dev.Wf.foldPair _ ?_ ?_; rotate_left; intro e x he)
    | split
    | simp only [Dev.wf_built]
    | with_reducible apply Dev.Built.other
    | with_reducible apply Dev.Wf.itePair
    | with_reducible (refine Dev.Wf.ofPair (by assumption) ?_)
    | with_reducible (refine Dev.Wf.ofPairSnd (by assumption) ?_)
    | with_reducible dsimp only)

theorem Dev.opTime_wf (d : Dev) (n : Nat) (w : Sys2Proof.Word) (h_d : d.Wf) :
    Dev.Wf (Dev.opTime d n w) := by
  unfold Dev.opTime
  try dsimp only
  repeat' (first
    | with_reducible assumption
    | with_reducible apply Dev.result_wf
    | with_reducible apply Dev.setLeng_wf
    | with_reducible apply Dev.Wf.ite
    | with_reducible (refine Dev.Wf.fold _ ?_ ?_; rotate_left; intro e x he)
    | with_reducible (refine Dev.Wf.foldPair _ ?_ ?_; rotate_left; intro e x he)
    | split
    | simp only [Dev.wf_built]
    | with_reducible apply Dev.Built.other
    | with_reducible apply Dev.Wf.itePair
    | with_reducible (refine Dev.Wf.ofPair (by assumption) ?_)
    | with_reducible (refine Dev.Wf.ofPairSnd (by assumption) ?_)
    | with_reducible dsimp only)

theorem Dev.opHalt_wf (d : Dev) (n : Nat) (w : Sys2Proof.Word) (h_d : d.Wf) :
    Dev.Wf (Dev.opHalt d n w) := by
  unfold Dev.opHalt
  try dsimp only
  repeat' (first
    | with_reducible assumption
    | with_reducible apply Dev.lengHalt_wf
    | with_reducible apply Dev.wr_wf
    | with_reducible apply Dev.nextPc_wf
    | with_reducible apply Dev.Wf.ite
    | with_reducible (refine Dev.Wf.fold _ ?_ ?_; rotate_left; intro e x he)
    | with_reducible (refine Dev.Wf.foldPair _ ?_ ?_; rotate_left; intro e x he)
    | split
    | simp only [Dev.wf_built]
    | with_reducible apply Dev.Built.other
    | with_reducible apply Dev.Wf.itePair
    | with_reducible (refine Dev.Wf.ofPair (by assumption) ?_)
    | with_reducible (refine Dev.Wf.ofPairSnd (by assumption) ?_)
    | with_reducible dsimp only)

theorem Dev.instrRun_wf (d : Dev) (n op : Nat) (f : Dev → Nat → Word → Dev) (h_d : d.Wf) (h_f : ∀ e n w, e.Wf → (f e n w).Wf) :
    (Dev.instrRun d n op f).Wf := by
  unfold Dev.instrRun
  dsimp only
  split
  · exact h_d
  · split
    · exact Dev.lengHalt_wf _ _ _ h_d
    · exact h_f _ _ _ (Dev.setLeng_wf _ _ _ h_d)

theorem Dev.instrBad_wf (d : Dev) (n : Nat) (h_d : d.Wf) :
    Dev.Wf (Dev.instrBad d n) := by
  unfold Dev.instrBad
  try dsimp only
  repeat' (first
    | with_reducible assumption
    | with_reducible apply Dev.lengHalt_wf
    | with_reducible apply Dev.Wf.ite
    | with_reducible (refine Dev.Wf.fold _ ?_ ?_; rotate_left; intro e x he)
    | with_reducible (refine Dev.Wf.foldPair _ ?_ ?_; rotate_left; intro e x he)
    | split
    | simp only [Dev.wf_built]
    | with_reducible apply Dev.Built.other
    | with_reducible apply Dev.Wf.itePair
    | with_reducible (refine Dev.Wf.ofPair (by assumption) ?_)
    | with_reducible (refine Dev.Wf.ofPairSnd (by assumption) ?_)
    | with_reducible dsimp only)

theorem opOf_wf (op : Nat) (x1 : Dev) (x2 : Nat) (x3 : Sys2Proof.Word) (h_x1 : x1.Wf) :
    Dev.Wf (opOf op x1 x2 x3) := by
  unfold opOf
  try dsimp only
  repeat' (first
    | with_reducible assumption
    | with_reducible apply Dev.opNop_wf
    | with_reducible apply Dev.opAdd_wf
    | with_reducible apply Dev.opSub_wf
    | with_reducible apply Dev.opAnd_wf
    | with_reducible apply Dev.opOr_wf
    | with_reducible apply Dev.opXor_wf
    | with_reducible apply Dev.opShl_wf
    | with_reducible apply Dev.opShr_wf
    | with_reducible apply Dev.opAddi_wf
    | with_reducible apply Dev.opAndi_wf
    | with_reducible apply Dev.opOri_wf
    | with_reducible apply Dev.opShli_wf
    | with_reducible apply Dev.opShri_wf
    | with_reducible apply Dev.opLui_wf
    | with_reducible apply Dev.opExt_wf
    | with_reducible apply Dev.opIns_wf
    | with_reducible apply Dev.opLd_wf
    | with_reducible apply Dev.opSt_wf
    | with_reducible apply Dev.opBeq_wf
    | with_reducible apply Dev.opBne_wf
    | with_reducible apply Dev.opBlt_wf
    | with_reducible apply Dev.opBge_wf
    | with_reducible apply Dev.opJ_wf
    | with_reducible apply Dev.opCall_wf
    | with_reducible apply Dev.opRet_wf
    | with_reducible apply Dev.opWait_wf
    | with_reducible apply Dev.opLdh_wf
    | with_reducible apply Dev.opGetu_wf
    | with_reducible apply Dev.opNewp_wf
    | with_reducible apply Dev.opPutu_wf
    | with_reducible apply Dev.opEndp_wf
    | with_reducible apply Dev.opDrop_wf
    | with_reducible apply Dev.opFwd_wf
    | with_reducible apply Dev.opPushq_wf
    | with_reducible apply Dev.opPar_wf
    | with_reducible apply Dev.opCrc_wf
    | with_reducible apply Dev.opCinc_wf
    | with_reducible apply Dev.opCrd_wf
    | with_reducible apply Dev.opDbell_wf
    | with_reducible apply Dev.opTime_wf
    | with_reducible apply Dev.opHalt_wf
    | with_reducible apply Dev.Wf.ite
    | with_reducible (refine Dev.Wf.fold _ ?_ ?_; rotate_left; intro e x he)
    | with_reducible (refine Dev.Wf.foldPair _ ?_ ?_; rotate_left; intro e x he)
    | split
    | simp only [Dev.wf_built]
    | with_reducible apply Dev.Built.other
    | with_reducible apply Dev.Wf.itePair
    | with_reducible (refine Dev.Wf.ofPair (by assumption) ?_)
    | with_reducible (refine Dev.Wf.ofPairSnd (by assumption) ?_)
    | with_reducible dsimp only)

theorem Dev.lengDbgStep_wf (d : Dev) (n : Nat) (h_d : d.Wf) :
    Dev.Wf (Dev.lengDbgStep d n) := by
  unfold Dev.lengDbgStep
  try dsimp only
  repeat' (first
    | with_reducible assumption
    | with_reducible apply Dev.setLeng_wf
    | with_reducible apply Dev.wr_wf
    | with_reducible apply Dev.instrRun_wf
    | with_reducible apply opOf_wf
    | with_reducible apply Dev.instrBad_wf
    | with_reducible apply Dev.lengHalt_wf
    | with_reducible apply Dev.Wf.ite
    | with_reducible (refine Dev.Wf.fold _ ?_ ?_; rotate_left; intro e x he)
    | with_reducible (refine Dev.Wf.foldPair _ ?_ ?_; rotate_left; intro e x he)
    | split
    | simp only [Dev.wf_built]
    | with_reducible apply Dev.Built.other
    | with_reducible apply Dev.Built.up_slots
    | with_reducible apply Map.wf_put
    | with_reducible apply Map.wf_filter
    | exact rfl
    | with_reducible apply Dev.Wf.slots
    | with_reducible apply Dev.Wf.itePair
    | with_reducible (refine Dev.Wf.ofPair (by assumption) ?_)
    | with_reducible (refine Dev.Wf.ofPairSnd (by assumption) ?_)
    | with_reducible dsimp only)

theorem Dev.lengWatchdog_wf (d : Dev) (n : Nat) (h_d : d.Wf) :
    Dev.Wf (Dev.lengWatchdog d n) := by
  unfold Dev.lengWatchdog
  try dsimp only
  repeat' (first
    | with_reducible assumption
    | with_reducible apply Dev.lengHalt_wf
    | with_reducible apply Dev.Wf.ite
    | with_reducible (refine Dev.Wf.fold _ ?_ ?_; rotate_left; intro e x he)
    | with_reducible (refine Dev.Wf.foldPair _ ?_ ?_; rotate_left; intro e x he)
    | split
    | simp only [Dev.wf_built]
    | with_reducible apply Dev.Built.other
    | with_reducible apply Dev.Wf.itePair
    | with_reducible (refine Dev.Wf.ofPair (by assumption) ?_)
    | with_reducible (refine Dev.Wf.ofPairSnd (by assumption) ?_)
    | with_reducible dsimp only)

theorem Dev.lengCntClr_wf (d : Dev) (n : Nat) (h_d : d.Wf) :
    Dev.Wf (Dev.lengCntClr d n) := by
  unfold Dev.lengCntClr
  try dsimp only
  repeat' (first
    | with_reducible assumption
    | with_reducible apply Dev.wr_wf
    | with_reducible apply Dev.Wf.ite
    | with_reducible (refine Dev.Wf.fold _ ?_ ?_; rotate_left; intro e x he)
    | with_reducible (refine Dev.Wf.foldPair _ ?_ ?_; rotate_left; intro e x he)
    | split
    | simp only [Dev.wf_built]
    | with_reducible apply Dev.Built.other
    | with_reducible apply Dev.Wf.itePair
    | with_reducible (refine Dev.Wf.ofPair (by assumption) ?_)
    | with_reducible (refine Dev.Wf.ofPairSnd (by assumption) ?_)
    | with_reducible dsimp only)

theorem Dev.lengAfter_wf (d : Dev) (n : Nat) (off : Nat) (old : Sys2Proof.Word) (v : Sys2Proof.Word) (h_d : d.Wf) :
    Dev.Wf (Dev.lengAfter d n off old v) := by
  unfold Dev.lengAfter
  try dsimp only
  repeat' (first
    | with_reducible assumption
    | with_reducible apply Dev.lengCntClr_wf
    | with_reducible apply Dev.lengStart_wf
    | with_reducible apply Dev.lengStop_wf
    | with_reducible apply Dev.lengLatch_wf
    | with_reducible apply Dev.lengDbgStep_wf
    | with_reducible apply Dev.Wf.ite
    | with_reducible (refine Dev.Wf.fold _ ?_ ?_; rotate_left; intro e x he)
    | with_reducible (refine Dev.Wf.foldPair _ ?_ ?_; rotate_left; intro e x he)
    | split
    | simp only [Dev.wf_built]
    | with_reducible apply Dev.Built.other
    | with_reducible apply Dev.Wf.itePair
    | with_reducible (refine Dev.Wf.ofPair (by assumption) ?_)
    | with_reducible (refine Dev.Wf.ofPairSnd (by assumption) ?_)
    | with_reducible dsimp only)

theorem Dev.lengReset_wf (d : Dev) (n : Nat) (h_d : d.Wf) :
    Dev.Wf (Dev.lengReset d n) := by
  unfold Dev.lengReset
  try dsimp only
  repeat' (first
    | with_reducible assumption
    | with_reducible apply Dev.setLeng_wf
    | with_reducible apply Dev.lengFlush_wf
    | with_reducible apply Dev.Wf.ite
    | with_reducible (refine Dev.Wf.fold _ ?_ ?_; rotate_left; intro e x he)
    | with_reducible (refine Dev.Wf.foldPair _ ?_ ?_; rotate_left; intro e x he)
    | split
    | simp only [Dev.wf_built]
    | with_reducible apply Dev.Built.other
    | with_reducible apply Dev.Wf.itePair
    | with_reducible (refine Dev.Wf.ofPair (by assumption) ?_)
    | with_reducible (refine Dev.Wf.ofPairSnd (by assumption) ?_)
    | with_reducible dsimp only)

end Sys2Proof.Machine
end

