-- ==== Sys2Proof/Laws/WfAudio.lean ====
section
/-! SUPPORT. The operations of Machine/Audio.lean keep every table of the block canonical. -/

set_option linter.unusedTactic false
set_option linter.unreachableTactic false

namespace Sys2Proof.Machine

theorem Dev.setStrm_wf (d : Dev) (s : Nat) (v : StreamI) (h_d : d.Wf) :
    Dev.Wf (Dev.setStrm d s v) := by
  unfold Dev.setStrm
  try dsimp only
  repeat' (first
    | with_reducible assumption
    | with_reducible apply Dev.Wf.ite
    | with_reducible (refine Dev.Wf.fold _ ?_ ?_; rotate_left; intro e x he)
    | with_reducible (refine Dev.Wf.foldPair _ ?_ ?_; rotate_left; intro e x he)
    | split
    | simp only [Dev.wf_built]
    | with_reducible apply Dev.Built.other
    | with_reducible apply Dev.Built.up_streams
    | with_reducible apply Map.wf_put
    | with_reducible apply Map.wf_filter
    | exact rfl
    | with_reducible apply Dev.Wf.streams
    | with_reducible apply Dev.Wf.itePair
    | with_reducible (refine Dev.Wf.ofPair (by assumption) ?_)
    | with_reducible (refine Dev.Wf.ofPairSnd (by assumption) ?_)
    | with_reducible dsimp only)

theorem Dev.setStrmState_wf (d : Dev) (s : Nat) (v : Nat) (h_d : d.Wf) :
    Dev.Wf (Dev.setStrmState d s v) := by
  unfold Dev.setStrmState
  try dsimp only
  repeat' (first
    | with_reducible assumption
    | with_reducible apply Dev.wrB_wf
    | with_reducible apply Dev.Wf.ite
    | with_reducible (refine Dev.Wf.fold _ ?_ ?_; rotate_left; intro e x he)
    | with_reducible (refine Dev.Wf.foldPair _ ?_ ?_; rotate_left; intro e x he)
    | split
    | simp only [Dev.wf_built]
    | with_reducible apply Dev.Built.other
    | with_reducible apply Dev.Wf.itePair
    | with_reducible (refine Dev.Wf.ofPair (by assumption) ?_)
    | with_reducible (refine Dev.Wf.ofPairSnd (by assumption) ?_)
    | with_reducible dsimp only)

theorem Dev.strmPush_wf (d : Dev) (s : ℕ) (sub : ℕ) (ws : List Sys2Proof.Word) (h_d : d.Wf) :
    Dev.Wf (Dev.strmPush d s sub ws) := by
  unfold Dev.strmPush
  try dsimp only
  repeat' (first
    | with_reducible assumption
    | with_reducible apply Dev.setStrm_wf
    | with_reducible apply Dev.Wf.ite
    | with_reducible (refine Dev.Wf.fold _ ?_ ?_; rotate_left; intro e x he)
    | with_reducible (refine Dev.Wf.foldPair _ ?_ ?_; rotate_left; intro e x he)
    | split
    | simp only [Dev.wf_built]
    | with_reducible apply Dev.Built.other
    | with_reducible apply Dev.Wf.itePair
    | with_reducible (refine Dev.Wf.ofPair (by assumption) ?_)
    | with_reducible (refine Dev.Wf.ofPairSnd (by assumption) ?_)
    | with_reducible dsimp only)

theorem Dev.strmPart_wf (d : Dev) (s : Nat) (k : Nat) (sub : Nat) (w : Sys2Proof.Word) (h_d : d.Wf) :
    Dev.Wf (Dev.strmPart d s k sub w) := by
  unfold Dev.strmPart
  try dsimp only
  repeat' (first
    | with_reducible assumption
    | with_reducible apply Dev.setStrm_wf
    | with_reducible apply Dev.strmPush_wf
    | with_reducible apply Dev.Wf.ite
    | with_reducible (refine Dev.Wf.fold _ ?_ ?_; rotate_left; intro e x he)
    | with_reducible (refine Dev.Wf.foldPair _ ?_ ?_; rotate_left; intro e x he)
    | split
    | simp only [Dev.wf_built]
    | with_reducible apply Dev.Built.other
    | with_reducible apply Dev.Wf.itePair
    | with_reducible (refine Dev.Wf.ofPair (by assumption) ?_)
    | with_reducible (refine Dev.Wf.ofPairSnd (by assumption) ?_)
    | with_reducible dsimp only)

theorem Dev.showAge_wf (d : Dev) (s : Nat) (h_d : d.Wf) :
    Dev.Wf (Dev.showAge d s) := by
  unfold Dev.showAge
  try dsimp only
  repeat' (first
    | with_reducible assumption
    | with_reducible apply Dev.wrB_wf
    | with_reducible apply Dev.Wf.ite
    | with_reducible (refine Dev.Wf.fold _ ?_ ?_; rotate_left; intro e x he)
    | with_reducible (refine Dev.Wf.foldPair _ ?_ ?_; rotate_left; intro e x he)
    | split
    | simp only [Dev.wf_built]
    | with_reducible apply Dev.Built.other
    | with_reducible apply Dev.Wf.itePair
    | with_reducible (refine Dev.Wf.ofPair (by assumption) ?_)
    | with_reducible (refine Dev.Wf.ofPairSnd (by assumption) ?_)
    | with_reducible dsimp only)

theorem Dev.strmUnder_wf (d : Dev) (s : ℕ) (h_d : d.Wf) :
    Dev.Wf (Dev.strmUnder d s) := by
  unfold Dev.strmUnder
  try dsimp only
  repeat' (first
    | with_reducible assumption
    | with_reducible apply Dev.setEvt_wf
    | with_reducible apply Dev.addB_wf
    | with_reducible apply Dev.setStrmState_wf
    | with_reducible apply Dev.setStrm_wf
    | with_reducible apply Dev.Wf.ite
    | with_reducible (refine Dev.Wf.fold _ ?_ ?_; rotate_left; intro e x he)
    | with_reducible (refine Dev.Wf.foldPair _ ?_ ?_; rotate_left; intro e x he)
    | split
    | simp only [Dev.wf_built]
    | with_reducible apply Dev.Built.other
    | with_reducible apply Dev.Wf.itePair
    | with_reducible (refine Dev.Wf.ofPair (by assumption) ?_)
    | with_reducible (refine Dev.Wf.ofPairSnd (by assumption) ?_)
    | with_reducible dsimp only)

theorem Dev.strmRecentre_wf (d : Dev) (s : ℕ) (h_d : d.Wf) :
    Dev.Wf (Dev.strmRecentre d s) := by
  unfold Dev.strmRecentre
  try dsimp only
  repeat' (first
    | with_reducible assumption
    | with_reducible apply Dev.setEvt_wf
    | with_reducible apply Dev.addB_wf
    | with_reducible apply Dev.setStrmState_wf
    | with_reducible apply Dev.setStrm_wf
    | with_reducible apply Dev.Wf.ite
    | with_reducible (refine Dev.Wf.fold _ ?_ ?_; rotate_left; intro e x he)
    | with_reducible (refine Dev.Wf.foldPair _ ?_ ?_; rotate_left; intro e x he)
    | split
    | simp only [Dev.wf_built]
    | with_reducible apply Dev.Built.other
    | with_reducible apply Dev.Wf.itePair
    | with_reducible (refine Dev.Wf.ofPair (by assumption) ?_)
    | with_reducible (refine Dev.Wf.ofPairSnd (by assumption) ?_)
    | with_reducible dsimp only)

theorem Dev.strmStep_wf (d : Dev) (s : ℕ) (act : ℕ) (h_d : d.Wf) :
    Dev.Wf (Dev.strmStep d s act) := by
  unfold Dev.strmStep
  try dsimp only
  repeat' (first
    | with_reducible assumption
    | with_reducible apply Dev.setStrm_wf
    | with_reducible apply Dev.setStrmState_wf
    | with_reducible apply Dev.showAge_wf
    | with_reducible apply Dev.strmUnder_wf
    | with_reducible apply Dev.strmRecentre_wf
    | with_reducible apply Dev.addB_wf
    | with_reducible apply Dev.Wf.ite
    | with_reducible (refine Dev.Wf.fold _ ?_ ?_; rotate_left; intro e x he)
    | with_reducible (refine Dev.Wf.foldPair _ ?_ ?_; rotate_left; intro e x he)
    | split
    | simp only [Dev.wf_built]
    | with_reducible apply Dev.Built.other
    | with_reducible apply Dev.Wf.itePair
    | with_reducible (refine Dev.Wf.ofPair (by assumption) ?_)
    | with_reducible (refine Dev.Wf.ofPairSnd (by assumption) ?_)
    | with_reducible dsimp only)

theorem Dev.strmsRead_wf (d : Dev) (h_d : d.Wf) :
    Dev.Wf (Dev.strmsRead d) := by
  unfold Dev.strmsRead
  try dsimp only
  repeat' (first
    | with_reducible assumption
    | with_reducible apply Dev.strmStep_wf
    | with_reducible apply Dev.Wf.ite
    | with_reducible (refine Dev.Wf.fold _ ?_ ?_; rotate_left; intro e x he)
    | with_reducible (refine Dev.Wf.foldPair _ ?_ ?_; rotate_left; intro e x he)
    | split
    | simp only [Dev.wf_built]
    | with_reducible apply Dev.Built.other
    | with_reducible apply Dev.Wf.itePair
    | with_reducible (refine Dev.Wf.ofPair (by assumption) ?_)
    | with_reducible (refine Dev.Wf.ofPairSnd (by assumption) ?_)
    | with_reducible dsimp only)

theorem Dev.setAgen_wf (d : Dev) (g : Nat) (v : GenI) (h_d : d.Wf) :
    Dev.Wf (Dev.setAgen d g v) := by
  unfold Dev.setAgen
  try dsimp only
  repeat' (first
    | with_reducible assumption
    | with_reducible apply Dev.Wf.ite
    | with_reducible (refine Dev.Wf.fold _ ?_ ?_; rotate_left; intro e x he)
    | with_reducible (refine Dev.Wf.foldPair _ ?_ ?_; rotate_left; intro e x he)
    | split
    | simp only [Dev.wf_built]
    | with_reducible apply Dev.Built.other
    | with_reducible apply Dev.Built.up_gens
    | with_reducible apply Map.wf_put
    | with_reducible apply Map.wf_filter
    | exact rfl
    | with_reducible apply Dev.Wf.gens
    | with_reducible apply Dev.Wf.itePair
    | with_reducible (refine Dev.Wf.ofPair (by assumption) ?_)
    | with_reducible (refine Dev.Wf.ofPairSnd (by assumption) ?_)
    | with_reducible dsimp only)

theorem Dev.genStep_wf (d : Dev) (g : ℕ) (h_d : d.Wf) :
    Dev.Wf (Dev.genStep d g) := by
  unfold Dev.genStep
  try dsimp only
  repeat' (first
    | with_reducible assumption
    | with_reducible apply Dev.setAgen_wf
    | with_reducible apply Dev.Wf.ite
    | with_reducible (refine Dev.Wf.fold _ ?_ ?_; rotate_left; intro e x he)
    | with_reducible (refine Dev.Wf.foldPair _ ?_ ?_; rotate_left; intro e x he)
    | split
    | simp only [Dev.wf_built]
    | with_reducible apply Dev.Built.other
    | with_reducible apply Dev.Wf.itePair
    | with_reducible (refine Dev.Wf.ofPair (by assumption) ?_)
    | with_reducible (refine Dev.Wf.ofPairSnd (by assumption) ?_)
    | with_reducible dsimp only)

theorem Dev.gensStep_wf (d : Dev) (h_d : d.Wf) :
    Dev.Wf (Dev.gensStep d) := by
  unfold Dev.gensStep
  try dsimp only
  repeat' (first
    | with_reducible assumption
    | with_reducible apply Dev.genStep_wf
    | with_reducible apply Dev.Wf.ite
    | with_reducible (refine Dev.Wf.fold _ ?_ ?_; rotate_left; intro e x he)
    | with_reducible (refine Dev.Wf.foldPair _ ?_ ?_; rotate_left; intro e x he)
    | split
    | simp only [Dev.wf_built]
    | with_reducible apply Dev.Built.other
    | with_reducible apply Dev.Wf.itePair
    | with_reducible (refine Dev.Wf.ofPair (by assumption) ?_)
    | with_reducible (refine Dev.Wf.ofPairSnd (by assumption) ?_)
    | with_reducible dsimp only)

theorem Dev.genAfter_wf (d : Dev) (g : Nat) (old : Sys2Proof.Word) (v : Sys2Proof.Word) (h_d : d.Wf) :
    Dev.Wf (Dev.genAfter d g old v) := by
  unfold Dev.genAfter
  try dsimp only
  repeat' (first
    | with_reducible assumption
    | with_reducible apply Dev.setAgen_wf
    | with_reducible apply Dev.Wf.ite
    | with_reducible (refine Dev.Wf.fold _ ?_ ?_; rotate_left; intro e x he)
    | with_reducible (refine Dev.Wf.foldPair _ ?_ ?_; rotate_left; intro e x he)
    | split
    | simp only [Dev.wf_built]
    | with_reducible apply Dev.Built.other
    | with_reducible apply Dev.Wf.itePair
    | with_reducible (refine Dev.Wf.ofPair (by assumption) ?_)
    | with_reducible (refine Dev.Wf.ofPairSnd (by assumption) ?_)
    | with_reducible dsimp only)

theorem Dev.slotBegin_wf (d : Dev) (s : ℕ) (want : AudSrc) (h_d : d.Wf) :
    Dev.Wf (Dev.slotBegin d s want) := by
  unfold Dev.slotBegin
  try dsimp only
  repeat' (first
    | with_reducible assumption
    | with_reducible apply Dev.addB_wf
    | with_reducible apply Dev.setSlot_wf
    | with_reducible apply Dev.Wf.ite
    | with_reducible (refine Dev.Wf.fold _ ?_ ?_; rotate_left; intro e x he)
    | with_reducible (refine Dev.Wf.foldPair _ ?_ ?_; rotate_left; intro e x he)
    | split
    | simp only [Dev.wf_built]
    | with_reducible apply Dev.Built.other
    | with_reducible apply Dev.Wf.itePair
    | with_reducible (refine Dev.Wf.ofPair (by assumption) ?_)
    | with_reducible (refine Dev.Wf.ofPairSnd (by assumption) ?_)
    | with_reducible dsimp only)

theorem Dev.slotDefer_wf (d : Dev) (s : ℕ) (want : AudSrc) (h_d : d.Wf) :
    Dev.Wf (Dev.slotDefer d s want) := by
  unfold Dev.slotDefer
  try dsimp only
  repeat' (first
    | with_reducible assumption
    | with_reducible apply Dev.addB_wf
    | with_reducible apply Dev.setSlot_wf
    | with_reducible apply Dev.setEvtIf_wf
    | with_reducible apply Dev.Wf.ite
    | with_reducible (refine Dev.Wf.fold _ ?_ ?_; rotate_left; intro e x he)
    | with_reducible (refine Dev.Wf.foldPair _ ?_ ?_; rotate_left; intro e x he)
    | split
    | simp only [Dev.wf_built]
    | with_reducible apply Dev.Built.other
    | with_reducible apply Dev.Wf.itePair
    | with_reducible (refine Dev.Wf.ofPair (by assumption) ?_)
    | with_reducible (refine Dev.Wf.ofPairSnd (by assumption) ?_)
    | with_reducible dsimp only)

theorem Dev.slotFollow_wf (d : Dev) (s : ℕ) (h_d : d.Wf) :
    Dev.Wf (Dev.slotFollow d s) := by
  unfold Dev.slotFollow
  try dsimp only
  repeat' (first
    | with_reducible assumption
    | with_reducible apply Dev.slotDefer_wf
    | with_reducible apply Dev.slotBegin_wf
    | with_reducible apply Dev.setSlot_wf
    | with_reducible apply Dev.Wf.ite
    | with_reducible (refine Dev.Wf.fold _ ?_ ?_; rotate_left; intro e x he)
    | with_reducible (refine Dev.Wf.foldPair _ ?_ ?_; rotate_left; intro e x he)
    | split
    | simp only [Dev.wf_built]
    | with_reducible apply Dev.Built.other
    | with_reducible apply Dev.Wf.itePair
    | with_reducible (refine Dev.Wf.ofPair (by assumption) ?_)
    | with_reducible (refine Dev.Wf.ofPairSnd (by assumption) ?_)
    | with_reducible dsimp only)

theorem Dev.rampEnd_wf (d : Dev) (s : ℕ) (h_d : d.Wf) :
    Dev.Wf (Dev.rampEnd d s) := by
  unfold Dev.rampEnd
  try dsimp only
  repeat' (first
    | with_reducible assumption
    | with_reducible apply Dev.setSlot_wf
    | with_reducible apply Dev.Wf.ite
    | with_reducible (refine Dev.Wf.fold _ ?_ ?_; rotate_left; intro e x he)
    | with_reducible (refine Dev.Wf.foldPair _ ?_ ?_; rotate_left; intro e x he)
    | split
    | simp only [Dev.wf_built]
    | with_reducible apply Dev.Built.other
    | with_reducible apply Dev.Wf.itePair
    | with_reducible (refine Dev.Wf.ofPair (by assumption) ?_)
    | with_reducible (refine Dev.Wf.ofPairSnd (by assumption) ?_)
    | with_reducible dsimp only)

theorem Dev.slotDeliver_wf (d : Dev) (s : ℕ) (h_d : d.Wf) :
    Dev.Wf (Dev.slotDeliver d s) := by
  unfold Dev.slotDeliver
  try dsimp only
  repeat' (first
    | with_reducible assumption
    | with_reducible apply Dev.setSlot_wf
    | with_reducible apply Dev.Wf.ite
    | with_reducible (refine Dev.Wf.fold _ ?_ ?_; rotate_left; intro e x he)
    | with_reducible (refine Dev.Wf.foldPair _ ?_ ?_; rotate_left; intro e x he)
    | split
    | simp only [Dev.wf_built]
    | with_reducible apply Dev.Built.other
    | with_reducible apply Dev.Wf.itePair
    | with_reducible (refine Dev.Wf.ofPair (by assumption) ?_)
    | with_reducible (refine Dev.Wf.ofPairSnd (by assumption) ?_)
    | with_reducible dsimp only)

theorem Dev.slotZero_wf (d : Dev) (s : Nat) (h_d : d.Wf) :
    Dev.Wf (Dev.slotZero d s) := by
  unfold Dev.slotZero
  try dsimp only
  repeat' (first
    | with_reducible assumption
    | with_reducible apply Dev.setSlot_wf
    | with_reducible apply Dev.Wf.ite
    | with_reducible (refine Dev.Wf.fold _ ?_ ?_; rotate_left; intro e x he)
    | with_reducible (refine Dev.Wf.foldPair _ ?_ ?_; rotate_left; intro e x he)
    | split
    | simp only [Dev.wf_built]
    | with_reducible apply Dev.Built.other
    | with_reducible apply Dev.Wf.itePair
    | with_reducible (refine Dev.Wf.ofPair (by assumption) ?_)
    | with_reducible (refine Dev.Wf.ofPairSnd (by assumption) ?_)
    | with_reducible dsimp only)

theorem Dev.audioWalls_wf (d : Dev) (x : Sys2Proof.AudioLate) (h_d : d.Wf) :
    Dev.Wf (Dev.audioWalls d x) := by
  unfold Dev.audioWalls
  try dsimp only
  repeat' (first
    | with_reducible assumption
    | with_reducible apply Dev.inc_wf
    | with_reducible apply Dev.Wf.ite
    | with_reducible (refine Dev.Wf.fold _ ?_ ?_; rotate_left; intro e x he)
    | with_reducible (refine Dev.Wf.foldPair _ ?_ ?_; rotate_left; intro e x he)
    | split
    | simp only [Dev.wf_built]
    | with_reducible apply Dev.Built.other
    | with_reducible apply Dev.Wf.itePair
    | with_reducible (refine Dev.Wf.ofPair (by assumption) ?_)
    | with_reducible (refine Dev.Wf.ofPairSnd (by assumption) ?_)
    | with_reducible dsimp only)

theorem Dev.svcCount_wf (d : Dev) (f : Fld) (h_d : d.Wf) :
    Dev.Wf (Dev.svcCount d f) := by
  unfold Dev.svcCount
  try dsimp only
  repeat' (first
    | with_reducible assumption
    | with_reducible apply Dev.addEvt_wf
    | with_reducible apply Dev.Wf.ite
    | with_reducible (refine Dev.Wf.fold _ ?_ ?_; rotate_left; intro e x he)
    | with_reducible (refine Dev.Wf.foldPair _ ?_ ?_; rotate_left; intro e x he)
    | split
    | simp only [Dev.wf_built]
    | with_reducible apply Dev.Built.other
    | with_reducible apply Dev.Wf.itePair
    | with_reducible (refine Dev.Wf.ofPair (by assumption) ?_)
    | with_reducible (refine Dev.Wf.ofPairSnd (by assumption) ?_)
    | with_reducible dsimp only)

theorem Dev.audioLate_wf (d : Dev) (items : List Sys2Proof.AudioLate) (x : Sys2Proof.AudioLate) (before : Dev) (h_d : d.Wf) (h_before : before.Wf) :
    Dev.Wf (Dev.audioLate d items x before) := by
  unfold Dev.audioLate
  try dsimp only
  repeat' (first
    | with_reducible assumption
    | with_reducible apply Dev.audioWalls_wf
    | with_reducible apply Dev.inc_wf
    | with_reducible apply Dev.svcCount_wf
    | with_reducible apply Dev.setSlot_wf
    | with_reducible apply Dev.Wf.ite
    | with_reducible (refine Dev.Wf.fold _ ?_ ?_; rotate_left; intro e x he)
    | with_reducible (refine Dev.Wf.foldPair _ ?_ ?_; rotate_left; intro e x he)
    | split
    | simp only [Dev.wf_built]
    | with_reducible apply Dev.Built.other
    | with_reducible apply Dev.Wf.itePair
    | with_reducible (refine Dev.Wf.ofPair (by assumption) ?_)
    | with_reducible (refine Dev.Wf.ofPairSnd (by assumption) ?_)
    | with_reducible dsimp only)

theorem Dev.setMeter_wf (d : Dev) (p : Nat) (v : MeterI) (h_d : d.Wf) :
    Dev.Wf (Dev.setMeter d p v) := by
  unfold Dev.setMeter
  try dsimp only
  repeat' (first
    | with_reducible assumption
    | with_reducible apply Dev.Wf.ite
    | with_reducible (refine Dev.Wf.fold _ ?_ ?_; rotate_left; intro e x he)
    | with_reducible (refine Dev.Wf.foldPair _ ?_ ?_; rotate_left; intro e x he)
    | split
    | simp only [Dev.wf_built]
    | with_reducible apply Dev.Built.other
    | with_reducible apply Dev.Built.up_meters
    | with_reducible apply Map.wf_put
    | with_reducible apply Map.wf_filter
    | exact rfl
    | with_reducible apply Dev.Wf.meters
    | with_reducible apply Dev.Wf.itePair
    | with_reducible (refine Dev.Wf.ofPair (by assumption) ?_)
    | with_reducible (refine Dev.Wf.ofPairSnd (by assumption) ?_)
    | with_reducible dsimp only)

theorem Dev.meterCheck_wf (d : Dev) (p : ℕ) (x : ℕ) (h_d : d.Wf) :
    Dev.Wf (Dev.meterCheck d p x) := by
  unfold Dev.meterCheck
  try dsimp only
  repeat' (first
    | with_reducible assumption
    | with_reducible apply Dev.setMeter_wf
    | with_reducible apply Dev.addB_wf
    | with_reducible apply Dev.setEvt_wf
    | with_reducible apply Dev.wrB_wf
    | with_reducible apply Dev.Wf.ite
    | with_reducible (refine Dev.Wf.fold _ ?_ ?_; rotate_left; intro e x he)
    | with_reducible (refine Dev.Wf.foldPair _ ?_ ?_; rotate_left; intro e x he)
    | split
    | simp only [Dev.wf_built]
    | with_reducible apply Dev.Built.other
    | with_reducible apply Dev.Wf.itePair
    | with_reducible (refine Dev.Wf.ofPair (by assumption) ?_)
    | with_reducible (refine Dev.Wf.ofPairSnd (by assumption) ?_)
    | with_reducible dsimp only)

theorem Dev.meterStep_wf (d : Dev) (p : Nat) (h_d : d.Wf) :
    Dev.Wf (Dev.meterStep d p) := by
  unfold Dev.meterStep
  try dsimp only
  repeat' (first
    | with_reducible assumption
    | with_reducible apply Dev.setMeter_wf
    | with_reducible apply Dev.meterCheck_wf
    | with_reducible apply Dev.Wf.ite
    | with_reducible (refine Dev.Wf.fold _ ?_ ?_; rotate_left; intro e x he)
    | with_reducible (refine Dev.Wf.foldPair _ ?_ ?_; rotate_left; intro e x he)
    | split
    | simp only [Dev.wf_built]
    | with_reducible apply Dev.Built.other
    | with_reducible apply Dev.Wf.itePair
    | with_reducible (refine Dev.Wf.ofPair (by assumption) ?_)
    | with_reducible (refine Dev.Wf.ofPairSnd (by assumption) ?_)
    | with_reducible dsimp only)

theorem Dev.meterEnd_wf (d : Dev) (p : Nat) (h_d : d.Wf) :
    Dev.Wf (Dev.meterEnd d p) := by
  unfold Dev.meterEnd
  try dsimp only
  repeat' (first
    | with_reducible assumption
    | with_reducible apply Dev.wrB_wf
    | with_reducible apply Dev.setMeter_wf
    | with_reducible apply Dev.Wf.ite
    | with_reducible (refine Dev.Wf.fold _ ?_ ?_; rotate_left; intro e x he)
    | with_reducible (refine Dev.Wf.foldPair _ ?_ ?_; rotate_left; intro e x he)
    | split
    | simp only [Dev.wf_built]
    | with_reducible apply Dev.Built.other
    | with_reducible apply Dev.Wf.itePair
    | with_reducible (refine Dev.Wf.ofPair (by assumption) ?_)
    | with_reducible (refine Dev.Wf.ofPairSnd (by assumption) ?_)
    | with_reducible dsimp only)

theorem Dev.meterAfter_wf (d : Dev) (p : Nat) (old : Sys2Proof.Word) (v : Sys2Proof.Word) (h_d : d.Wf) :
    Dev.Wf (Dev.meterAfter d p old v) := by
  unfold Dev.meterAfter
  try dsimp only
  repeat' (first
    | with_reducible assumption
    | with_reducible apply Dev.setMeter_wf
    | with_reducible apply Dev.wrB_wf
    | with_reducible apply Dev.Wf.ite
    | with_reducible (refine Dev.Wf.fold _ ?_ ?_; rotate_left; intro e x he)
    | with_reducible (refine Dev.Wf.foldPair _ ?_ ?_; rotate_left; intro e x he)
    | split
    | simp only [Dev.wf_built]
    | with_reducible apply Dev.Built.other
    | with_reducible apply Dev.Wf.itePair
    | with_reducible (refine Dev.Wf.ofPair (by assumption) ?_)
    | with_reducible (refine Dev.Wf.ofPairSnd (by assumption) ?_)
    | with_reducible dsimp only)

theorem Dev.lineLate_wf (d : Dev) (before : Dev) (x : Sys2Proof.AudioLate) (h_d : d.Wf) (h_before : before.Wf) :
    Dev.Wf (Dev.lineLate d before x) := by
  unfold Dev.lineLate
  try dsimp only
  repeat' (first
    | with_reducible assumption
    | with_reducible apply Dev.inc_wf
    | with_reducible apply Dev.setDelay_wf
    | with_reducible apply Dev.setEvtIf_wf
    | with_reducible apply Dev.Wf.ite
    | with_reducible (refine Dev.Wf.fold _ ?_ ?_; rotate_left; intro e x he)
    | with_reducible (refine Dev.Wf.foldPair _ ?_ ?_; rotate_left; intro e x he)
    | split
    | simp only [Dev.wf_built]
    | with_reducible apply Dev.Built.other
    | with_reducible apply Dev.Wf.itePair
    | with_reducible (refine Dev.Wf.ofPair (by assumption) ?_)
    | with_reducible (refine Dev.Wf.ofPairSnd (by assumption) ?_)
    | with_reducible dsimp only)

theorem Dev.delayRead_wf (d : Dev) (i : ℕ) (h_d : d.Wf) :
    Dev.Wf (Dev.delayRead d i) := by
  unfold Dev.delayRead
  try dsimp only
  repeat' (first
    | with_reducible assumption
    | with_reducible apply Dev.setDelay_wf
    | with_reducible apply Dev.lineLate_wf
    | with_reducible apply Dev.memBw_wf
    | with_reducible apply Dev.Wf.ite
    | with_reducible (refine Dev.Wf.fold _ ?_ ?_; rotate_left; intro e x he)
    | with_reducible (refine Dev.Wf.foldPair _ ?_ ?_; rotate_left; intro e x he)
    | split
    | simp only [Dev.wf_built]
    | with_reducible apply Dev.Built.other
    | with_reducible apply Dev.Wf.itePair
    | with_reducible (refine Dev.Wf.ofPair (by assumption) ?_)
    | with_reducible (refine Dev.Wf.ofPairSnd (by assumption) ?_)
    | with_reducible dsimp only)

theorem Dev.delayWrite_wf (d : Dev) (i : Nat) (h_d : d.Wf) :
    Dev.Wf (Dev.delayWrite d i) := by
  unfold Dev.delayWrite
  try dsimp only
  repeat' (first
    | with_reducible assumption
    | with_reducible apply Dev.dlWrite_wf
    | with_reducible apply Dev.Wf.ite
    | with_reducible (refine Dev.Wf.fold _ ?_ ?_; rotate_left; intro e x he)
    | with_reducible (refine Dev.Wf.foldPair _ ?_ ?_; rotate_left; intro e x he)
    | split
    | simp only [Dev.wf_built]
    | with_reducible apply Dev.Built.other
    | with_reducible apply Dev.Wf.itePair
    | with_reducible (refine Dev.Wf.ofPair (by assumption) ?_)
    | with_reducible (refine Dev.Wf.ofPairSnd (by assumption) ?_)
    | with_reducible dsimp only)

theorem Dev.afabMask_wf (d : Dev) (off : Nat) (mask : Sys2Proof.Word) (h_d : d.Wf) :
    Dev.Wf (Dev.afabMask d off mask) := by
  unfold Dev.afabMask
  try dsimp only
  repeat' (first
    | with_reducible assumption
    | with_reducible apply Dev.setReg_wf
    | with_reducible apply Dev.Wf.ite
    | with_reducible (refine Dev.Wf.fold _ ?_ ?_; rotate_left; intro e x he)
    | with_reducible (refine Dev.Wf.foldPair _ ?_ ?_; rotate_left; intro e x he)
    | split
    | simp only [Dev.wf_built]
    | with_reducible apply Dev.Built.other
    | with_reducible apply Dev.Wf.itePair
    | with_reducible (refine Dev.Wf.ofPair (by assumption) ?_)
    | with_reducible (refine Dev.Wf.ofPairSnd (by assumption) ?_)
    | with_reducible dsimp only)

theorem Dev.afabCntClr_wf (d : Dev) (h_d : d.Wf) :
    Dev.Wf (Dev.afabCntClr d) := by
  unfold Dev.afabCntClr
  try dsimp only
  repeat' (first
    | with_reducible assumption
    | with_reducible apply Dev.afabMask_wf
    | with_reducible apply Dev.Wf.ite
    | with_reducible (refine Dev.Wf.fold _ ?_ ?_; rotate_left; intro e x he)
    | with_reducible (refine Dev.Wf.foldPair _ ?_ ?_; rotate_left; intro e x he)
    | split
    | simp only [Dev.wf_built]
    | with_reducible apply Dev.Built.other
    | with_reducible apply Dev.Wf.itePair
    | with_reducible (refine Dev.Wf.ofPair (by assumption) ?_)
    | with_reducible (refine Dev.Wf.ofPairSnd (by assumption) ?_)
    | with_reducible dsimp only)

theorem Dev.depthWrite_wf (d : Dev) (h_d : d.Wf) :
    Dev.Wf (Dev.depthWrite d) := by
  unfold Dev.depthWrite
  try dsimp only
  repeat' (first
    | with_reducible assumption
    | with_reducible apply Dev.setStrm_wf
    | with_reducible apply Dev.Wf.ite
    | with_reducible (refine Dev.Wf.fold _ ?_ ?_; rotate_left; intro e x he)
    | with_reducible (refine Dev.Wf.foldPair _ ?_ ?_; rotate_left; intro e x he)
    | split
    | simp only [Dev.wf_built]
    | with_reducible apply Dev.Built.other
    | with_reducible apply Dev.Wf.itePair
    | with_reducible (refine Dev.Wf.ofPair (by assumption) ?_)
    | with_reducible (refine Dev.Wf.ofPairSnd (by assumption) ?_)
    | with_reducible dsimp only)

theorem Dev.afabStop_wf (d : Dev) (h_d : d.Wf) : (Dev.afabStop d).Wf := by
  have h : ({ d with gens := [], meters := [] } : Dev).Wf := { h_d with gens := rfl, meters := rfl }
  exact Dev.Wf.fold _ h (fun e s he => Dev.setSlot_wf e _ _ he)

theorem Dev.afabAfter_wf (d : Dev) (off : Nat) (old : Sys2Proof.Word) (v : Sys2Proof.Word) (h_d : d.Wf) :
    Dev.Wf (Dev.afabAfter d off old v) := by
  unfold Dev.afabAfter
  try dsimp only
  repeat' (first
    | with_reducible assumption
    | with_reducible apply Dev.depthWrite_wf
    | with_reducible apply Dev.afabCntClr_wf
    | with_reducible apply Dev.genAfter_wf
    | with_reducible apply Dev.meterAfter_wf
    | with_reducible apply Dev.afabStop_wf
    | with_reducible apply Dev.Wf.ite
    | with_reducible (refine Dev.Wf.fold _ ?_ ?_; rotate_left; intro e x he)
    | with_reducible (refine Dev.Wf.foldPair _ ?_ ?_; rotate_left; intro e x he)
    | split
    | simp only [Dev.wf_built]
    | with_reducible apply Dev.Built.other
    | with_reducible apply Dev.Wf.itePair
    | with_reducible (refine Dev.Wf.ofPair (by assumption) ?_)
    | with_reducible (refine Dev.Wf.ofPairSnd (by assumption) ?_)
    | with_reducible dsimp only)

theorem Dev.afabReset_wf (d : Dev) (h_d : d.Wf) : (Dev.afabReset d).Wf :=
  { h_d with streams := rfl, gens := rfl, meters := rfl }

theorem wf_putAll {α β : Type} [DecidableEq α] (dflt : Nat → α) (k : β → Nat) (v : β → α) (l : List β) (m : Map α)
    (h : Map.wf dflt m = true) : Map.wf dflt (l.foldl (fun m x => Map.put dflt m (k x) (v x)) m) = true := by
  induction l generalizing m with
  | nil => exact h
  | cons x l ih => exact ih _ (Map.wf_put dflt _ _ h)

theorem Dev.groupAudio_wf (d : Dev) (g : Nat) (h_d : d.Wf) : (Dev.groupAudio d g).Wf := by
  unfold Dev.groupAudio
  extract_lets
  split
  all_goals
    apply Dev.setGroup_wf
    exact Dev.Built.up_protAud h_d (wf_putAll _ _ _ _ _ h_d.protAud)

theorem Dev.groupsAudio_wf (d : Dev) (h_d : d.Wf) :
    Dev.Wf (Dev.groupsAudio d) := by
  unfold Dev.groupsAudio
  try dsimp only
  repeat' (first
    | with_reducible assumption
    | with_reducible apply Dev.groupAudio_wf
    | with_reducible apply Dev.Wf.ite
    | with_reducible (refine Dev.Wf.fold _ ?_ ?_; rotate_left; intro e x he)
    | with_reducible (refine Dev.Wf.foldPair _ ?_ ?_; rotate_left; intro e x he)
    | split
    | simp only [Dev.wf_built]
    | with_reducible apply Dev.Built.other
    | with_reducible apply Dev.Built.up_protAud
    | with_reducible apply Map.wf_put
    | with_reducible apply Map.wf_filter
    | exact rfl
    | with_reducible apply Dev.Wf.protAud
    | with_reducible apply Dev.Wf.itePair
    | with_reducible (refine Dev.Wf.ofPair (by assumption) ?_)
    | with_reducible (refine Dev.Wf.ofPairSnd (by assumption) ?_)
    | with_reducible dsimp only)

theorem Dev.audioPeriod_wf (d : Dev) (lates : List Sys2Proof.AudioLate) (h_d : d.Wf) :
    Dev.Wf (Dev.audioPeriod d lates) := by
  unfold Dev.audioPeriod
  try dsimp only
  repeat' (first
    | with_reducible assumption
    | with_reducible apply Dev.groupsAudio_wf
    | with_reducible apply Dev.strmsRead_wf
    | with_reducible apply Dev.gensStep_wf
    | with_reducible apply Dev.delayRead_wf
    | with_reducible apply Dev.lineLate_wf
    | with_reducible apply Dev.slotFollow_wf
    | with_reducible apply Dev.setSlot_wf
    | with_reducible apply Dev.slotDeliver_wf
    | with_reducible apply Dev.slotZero_wf
    | with_reducible apply Dev.audioLate_wf
    | with_reducible apply Dev.afabStop_wf
    | with_reducible apply Dev.delayWrite_wf
    | with_reducible apply Dev.meterStep_wf
    | with_reducible apply Dev.Wf.ite
    | with_reducible (refine Dev.Wf.fold _ ?_ ?_; rotate_left; intro e x he)
    | with_reducible (refine Dev.Wf.foldPair _ ?_ ?_; rotate_left; intro e x he)
    | split
    | simp only [Dev.wf_built]
    | with_reducible apply Dev.Built.other
    | with_reducible apply Dev.Wf.itePair
    | with_reducible (refine Dev.Wf.ofPair (by assumption) ?_)
    | with_reducible (refine Dev.Wf.ofPairSnd (by assumption) ?_)
    | with_reducible dsimp only)

end Sys2Proof.Machine
end

