-- ==== Sys2Proof/Laws/WfTiming.lean ====
section
/-! SUPPORT. The operations of Machine/Timing.lean keep every table of the block canonical. -/

set_option linter.unusedTactic false
set_option linter.unreachableTactic false

namespace Sys2Proof.Machine

theorem Dev.setRef_wf (d : Dev) (r : Nat) (v : RefI) (h_d : d.Wf) :
    Dev.Wf (Dev.setRef d r v) := by
  unfold Dev.setRef
  try dsimp only
  repeat' (first
    | with_reducible assumption
    | with_reducible apply Dev.Wf.ite
    | with_reducible (refine Dev.Wf.fold _ ?_ ?_; rotate_left; intro e x he)
    | with_reducible (refine Dev.Wf.foldPair _ ?_ ?_; rotate_left; intro e x he)
    | split
    | simp only [Dev.wf_built]
    | with_reducible apply Dev.Built.other
    | with_reducible apply Dev.Built.up_refs
    | with_reducible apply Map.wf_put
    | with_reducible apply Map.wf_filter
    | exact rfl
    | with_reducible apply Dev.Wf.refs
    | with_reducible apply Dev.Wf.itePair
    | with_reducible (refine Dev.Wf.ofPair (by assumption) ?_)
    | with_reducible (refine Dev.Wf.ofPairSnd (by assumption) ?_)
    | with_reducible dsimp only)

theorem Dev.withTmu_wf (d : Dev) (f : TmuI → TmuI) (h_d : d.Wf) :
    Dev.Wf (Dev.withTmu d f) := by
  unfold Dev.withTmu
  try dsimp only
  repeat' (first
    | with_reducible assumption
    | with_reducible apply Dev.Wf.ite
    | with_reducible (refine Dev.Wf.fold _ ?_ ?_; rotate_left; intro e x he)
    | with_reducible (refine Dev.Wf.foldPair _ ?_ ?_; rotate_left; intro e x he)
    | split
    | simp only [Dev.wf_built]
    | with_reducible apply Dev.Built.other
    | with_reducible apply Dev.Wf.itePair
    | with_reducible (refine Dev.Wf.ofPair (by assumption) ?_)
    | with_reducible (refine Dev.Wf.ofPairSnd (by assumption) ?_)
    | with_reducible dsimp only)

theorem Dev.alarmSettle_wf (d : Dev) (h_d : d.Wf) :
    Dev.Wf (Dev.alarmSettle d) := by
  unfold Dev.alarmSettle
  try dsimp only
  repeat' (first
    | with_reducible assumption
    | with_reducible apply Dev.wrOn_wf
    | with_reducible apply Dev.Wf.ite
    | with_reducible (refine Dev.Wf.fold _ ?_ ?_; rotate_left; intro e x he)
    | with_reducible (refine Dev.Wf.foldPair _ ?_ ?_; rotate_left; intro e x he)
    | split
    | simp only [Dev.wf_built]
    | with_reducible apply Dev.Built.other
    | with_reducible apply Dev.Wf.itePair
    | with_reducible (refine Dev.Wf.ofPair (by assumption) ?_)
    | with_reducible (refine Dev.Wf.ofPairSnd (by assumption) ?_)
    | with_reducible dsimp only)

theorem Dev.slewSettle_wf (d : Dev) (k : Nat) (h_d : d.Wf) :
    Dev.Wf (Dev.slewSettle d k) := by
  unfold Dev.slewSettle
  try dsimp only
  repeat' (first
    | with_reducible assumption
    | with_reducible apply Dev.wrOn_wf
    | with_reducible apply Dev.Wf.ite
    | with_reducible (refine Dev.Wf.fold _ ?_ ?_; rotate_left; intro e x he)
    | with_reducible (refine Dev.Wf.foldPair _ ?_ ?_; rotate_left; intro e x he)
    | split
    | simp only [Dev.wf_built]
    | with_reducible apply Dev.Built.other
    | with_reducible apply Dev.Wf.itePair
    | with_reducible (refine Dev.Wf.ofPair (by assumption) ?_)
    | with_reducible (refine Dev.Wf.ofPairSnd (by assumption) ?_)
    | with_reducible dsimp only)

theorem Dev.realignEnd_wf (d : Dev) (k : Nat) (cancelled : Bool) (h_d : d.Wf) :
    Dev.Wf (Dev.realignEnd d k cancelled) := by
  unfold Dev.realignEnd
  try dsimp only
  repeat' (first
    | with_reducible assumption
    | with_reducible apply Dev.slewSettle_wf
    | with_reducible apply Dev.setEvt_wf
    | with_reducible apply Dev.wrOn_wf
    | with_reducible apply Dev.wr_wf
    | with_reducible apply Dev.Wf.ite
    | with_reducible (refine Dev.Wf.fold _ ?_ ?_; rotate_left; intro e x he)
    | with_reducible (refine Dev.Wf.foldPair _ ?_ ?_; rotate_left; intro e x he)
    | split
    | simp only [Dev.wf_built]
    | with_reducible apply Dev.Built.other
    | with_reducible apply Dev.Wf.itePair
    | with_reducible (refine Dev.Wf.ofPair (by assumption) ?_)
    | with_reducible (refine Dev.Wf.ofPairSnd (by assumption) ?_)
    | with_reducible dsimp only)

theorem Dev.alignSettle_wf (d : Dev) (h_d : d.Wf) :
    Dev.Wf (Dev.alignSettle d) := by
  unfold Dev.alignSettle
  try dsimp only
  repeat' (first
    | with_reducible assumption
    | with_reducible apply Dev.realignEnd_wf
    | with_reducible apply Dev.wr_wf
    | with_reducible apply Dev.draw_wf
    | with_reducible apply Dev.Wf.ite
    | with_reducible (refine Dev.Wf.fold _ ?_ ?_; rotate_left; intro e x he)
    | with_reducible (refine Dev.Wf.foldPair _ ?_ ?_; rotate_left; intro e x he)
    | split
    | simp only [Dev.wf_built]
    | with_reducible apply Dev.Built.other
    | with_reducible apply Dev.Wf.itePair
    | with_reducible (refine Dev.Wf.ofPair (by assumption) ?_)
    | with_reducible (refine Dev.Wf.ofPairSnd (by assumption) ?_)
    | with_reducible dsimp only)

theorem Dev.holdCompute_wf (d : Dev) (h_d : d.Wf) :
    Dev.Wf (Dev.holdCompute d) := by
  unfold Dev.holdCompute
  try dsimp only
  repeat' (first
    | with_reducible assumption
    | with_reducible apply Dev.withTmu_wf
    | with_reducible apply Dev.wr_wf
    | with_reducible apply Dev.setEvt_wf
    | with_reducible apply Dev.Wf.ite
    | with_reducible (refine Dev.Wf.fold _ ?_ ?_; rotate_left; intro e x he)
    | with_reducible (refine Dev.Wf.foldPair _ ?_ ?_; rotate_left; intro e x he)
    | split
    | simp only [Dev.wf_built]
    | with_reducible apply Dev.Built.other
    | with_reducible apply Dev.Wf.itePair
    | with_reducible (refine Dev.Wf.ofPair (by assumption) ?_)
    | with_reducible (refine Dev.Wf.ofPairSnd (by assumption) ?_)
    | with_reducible dsimp only)

theorem Dev.tmuEnter_wf (d : Dev) (s : Nat) (h_d : d.Wf) :
    Dev.Wf (Dev.tmuEnter d s) := by
  unfold Dev.tmuEnter
  try dsimp only
  repeat' (first
    | with_reducible assumption
    | with_reducible apply Dev.wr_wf
    | with_reducible apply Dev.holdCompute_wf
    | with_reducible apply Dev.withTmu_wf
    | with_reducible apply Dev.alignSettle_wf
    | with_reducible apply Dev.setEvt_wf
    | with_reducible apply Dev.Wf.ite
    | with_reducible (refine Dev.Wf.fold _ ?_ ?_; rotate_left; intro e x he)
    | with_reducible (refine Dev.Wf.foldPair _ ?_ ?_; rotate_left; intro e x he)
    | split
    | simp only [Dev.wf_built]
    | with_reducible apply Dev.Built.other
    | with_reducible apply Dev.Wf.itePair
    | with_reducible (refine Dev.Wf.ofPair (by assumption) ?_)
    | with_reducible (refine Dev.Wf.ofPairSnd (by assumption) ?_)
    | with_reducible dsimp only)

theorem Dev.transition_wf (d : Dev) (r : ℕ) (h_d : d.Wf) :
    Dev.Wf (Dev.transition d r) := by
  unfold Dev.transition
  try dsimp only
  repeat' (first
    | with_reducible assumption
    | with_reducible apply Dev.withTmu_wf
    | with_reducible apply Dev.holdCompute_wf
    | with_reducible apply Dev.wr_wf
    | with_reducible apply Dev.tmuEnter_wf
    | with_reducible apply Dev.realignEnd_wf
    | with_reducible apply Dev.Wf.ite
    | with_reducible (refine Dev.Wf.fold _ ?_ ?_; rotate_left; intro e x he)
    | with_reducible (refine Dev.Wf.foldPair _ ?_ ?_; rotate_left; intro e x he)
    | split
    | simp only [Dev.wf_built]
    | with_reducible apply Dev.Built.other
    | with_reducible apply Dev.Wf.itePair
    | with_reducible (refine Dev.Wf.ofPair (by assumption) ?_)
    | with_reducible (refine Dev.Wf.ofPairSnd (by assumption) ?_)
    | with_reducible dsimp only)

theorem Dev.tmuEval_wf (d : Dev) (h_d : d.Wf) :
    Dev.Wf (Dev.tmuEval d) := by
  unfold Dev.tmuEval
  try dsimp only
  repeat' (first
    | with_reducible assumption
    | with_reducible apply Dev.withTmu_wf
    | with_reducible apply Dev.tmuEnter_wf
    | with_reducible apply Dev.transition_wf
    | with_reducible apply Dev.Wf.ite
    | with_reducible (refine Dev.Wf.fold _ ?_ ?_; rotate_left; intro e x he)
    | with_reducible (refine Dev.Wf.foldPair _ ?_ ?_; rotate_left; intro e x he)
    | split
    | simp only [Dev.wf_built]
    | with_reducible apply Dev.Built.other
    | with_reducible apply Dev.Wf.itePair
    | with_reducible (refine Dev.Wf.ofPair (by assumption) ?_)
    | with_reducible (refine Dev.Wf.ofPairSnd (by assumption) ?_)
    | with_reducible dsimp only)

theorem Dev.thaw_wf (d : Dev) (h_d : d.Wf) :
    Dev.Wf (Dev.thaw d) := by
  unfold Dev.thaw
  try dsimp only
  repeat' (first
    | with_reducible assumption
    | with_reducible apply Dev.wr_wf
    | with_reducible apply Dev.withTmu_wf
    | with_reducible apply Dev.Wf.ite
    | with_reducible (refine Dev.Wf.fold _ ?_ ?_; rotate_left; intro e x he)
    | with_reducible (refine Dev.Wf.foldPair _ ?_ ?_; rotate_left; intro e x he)
    | split
    | simp only [Dev.wf_built]
    | with_reducible apply Dev.Built.other
    | with_reducible apply Dev.Wf.itePair
    | with_reducible (refine Dev.Wf.ofPair (by assumption) ?_)
    | with_reducible (refine Dev.Wf.ofPairSnd (by assumption) ?_)
    | with_reducible dsimp only)

theorem Dev.setDrift_wf (d : Dev) (r : Nat) (v : Bool) (h_d : d.Wf) :
    Dev.Wf (Dev.setDrift d r v) := by
  unfold Dev.setDrift
  try dsimp only
  repeat' (first
    | with_reducible assumption
    | with_reducible apply Dev.setRef_wf
    | with_reducible apply Dev.wrOn_wf
    | with_reducible apply Dev.setEvt_wf
    | with_reducible apply Dev.wr_wf
    | with_reducible apply Dev.withTmu_wf
    | with_reducible apply Dev.thaw_wf
    | with_reducible apply Dev.alarmSettle_wf
    | with_reducible apply Dev.Wf.ite
    | with_reducible (refine Dev.Wf.fold _ ?_ ?_; rotate_left; intro e x he)
    | with_reducible (refine Dev.Wf.foldPair _ ?_ ?_; rotate_left; intro e x he)
    | split
    | simp only [Dev.wf_built]
    | with_reducible apply Dev.Built.other
    | with_reducible apply Dev.Wf.itePair
    | with_reducible (refine Dev.Wf.ofPair (by assumption) ?_)
    | with_reducible (refine Dev.Wf.ofPairSnd (by assumption) ?_)
    | with_reducible dsimp only)

theorem Dev.transitionAbort_wf (d : Dev) (h_d : d.Wf) :
    Dev.Wf (Dev.transitionAbort d) := by
  unfold Dev.transitionAbort
  try dsimp only
  repeat' (first
    | with_reducible assumption
    | with_reducible apply Dev.withTmu_wf
    | with_reducible apply Dev.wr_wf
    | with_reducible apply Dev.Wf.ite
    | with_reducible (refine Dev.Wf.fold _ ?_ ?_; rotate_left; intro e x he)
    | with_reducible (refine Dev.Wf.foldPair _ ?_ ?_; rotate_left; intro e x he)
    | split
    | simp only [Dev.wf_built]
    | with_reducible apply Dev.Built.other
    | with_reducible apply Dev.Wf.itePair
    | with_reducible (refine Dev.Wf.ofPair (by assumption) ?_)
    | with_reducible (refine Dev.Wf.ofPairSnd (by assumption) ?_)
    | with_reducible dsimp only)

theorem Dev.setTod_wf (d : Dev) (v : Bool) (h_d : d.Wf) :
    Dev.Wf (Dev.setTod d v) := by
  unfold Dev.setTod
  try dsimp only
  repeat' (first
    | with_reducible assumption
    | with_reducible apply Dev.alignSettle_wf
    | with_reducible apply Dev.wrOn_wf
    | with_reducible apply Dev.Wf.ite
    | with_reducible (refine Dev.Wf.fold _ ?_ ?_; rotate_left; intro e x he)
    | with_reducible (refine Dev.Wf.foldPair _ ?_ ?_; rotate_left; intro e x he)
    | split
    | simp only [Dev.wf_built]
    | with_reducible apply Dev.Built.other
    | with_reducible apply Dev.Wf.itePair
    | with_reducible (refine Dev.Wf.ofPair (by assumption) ?_)
    | with_reducible (refine Dev.Wf.ofPairSnd (by assumption) ?_)
    | with_reducible dsimp only)

theorem Dev.peersSettle_wf (d : Dev) (h_d : d.Wf) :
    Dev.Wf (Dev.peersSettle d) := by
  unfold Dev.peersSettle
  try dsimp only
  repeat' (first
    | with_reducible assumption
    | with_reducible apply Dev.wr_wf
    | with_reducible apply Dev.Wf.ite
    | with_reducible (refine Dev.Wf.fold _ ?_ ?_; rotate_left; intro e x he)
    | with_reducible (refine Dev.Wf.foldPair _ ?_ ?_; rotate_left; intro e x he)
    | split
    | simp only [Dev.wf_built]
    | with_reducible apply Dev.Built.other
    | with_reducible apply Dev.Wf.itePair
    | with_reducible (refine Dev.Wf.ofPair (by assumption) ?_)
    | with_reducible (refine Dev.Wf.ofPairSnd (by assumption) ?_)
    | with_reducible dsimp only)

theorem Dev.refGo_wf (d : Dev) (r : ℕ) (s : ℕ) (h_d : d.Wf) :
    Dev.Wf (Dev.refGo d r s) := by
  unfold Dev.refGo
  try dsimp only
  repeat' (first
    | with_reducible assumption
    | with_reducible apply Dev.wr_wf
    | with_reducible apply Dev.setRef_wf
    | with_reducible apply Dev.setEvt_wf
    | with_reducible apply Dev.inc_wf
    | with_reducible apply Dev.setDrift_wf
    | with_reducible apply Dev.setTod_wf
    | with_reducible apply Dev.transitionAbort_wf
    | with_reducible apply Dev.alignSettle_wf
    | with_reducible apply Dev.alarmSettle_wf
    | with_reducible apply Dev.peersSettle_wf
    | with_reducible apply Dev.Wf.ite
    | with_reducible (refine Dev.Wf.fold _ ?_ ?_; rotate_left; intro e x he)
    | with_reducible (refine Dev.Wf.foldPair _ ?_ ?_; rotate_left; intro e x he)
    | split
    | simp only [Dev.wf_built]
    | with_reducible apply Dev.Built.other
    | with_reducible apply Dev.Wf.itePair
    | with_reducible (refine Dev.Wf.ofPair (by assumption) ?_)
    | with_reducible (refine Dev.Wf.ofPairSnd (by assumption) ?_)
    | with_reducible dsimp only)

theorem Dev.refPresent_wf (d : Dev) (r : Nat) (h_d : d.Wf) :
    Dev.Wf (Dev.refPresent d r) := by
  unfold Dev.refPresent
  try dsimp only
  repeat' (first
    | with_reducible assumption
    | with_reducible apply Dev.tmuEval_wf
    | with_reducible apply Dev.refGo_wf
    | with_reducible apply Dev.Wf.ite
    | with_reducible (refine Dev.Wf.fold _ ?_ ?_; rotate_left; intro e x he)
    | with_reducible (refine Dev.Wf.foldPair _ ?_ ?_; rotate_left; intro e x he)
    | split
    | simp only [Dev.wf_built]
    | with_reducible apply Dev.Built.other
    | with_reducible apply Dev.Wf.itePair
    | with_reducible (refine Dev.Wf.ofPair (by assumption) ?_)
    | with_reducible (refine Dev.Wf.ofPairSnd (by assumption) ?_)
    | with_reducible dsimp only)

theorem Dev.refAbsent_wf (d : Dev) (r : Nat) (h_d : d.Wf) :
    Dev.Wf (Dev.refAbsent d r) := by
  unfold Dev.refAbsent
  try dsimp only
  repeat' (first
    | with_reducible assumption
    | with_reducible apply Dev.tmuEval_wf
    | with_reducible apply Dev.refGo_wf
    | with_reducible apply Dev.Wf.ite
    | with_reducible (refine Dev.Wf.fold _ ?_ ?_; rotate_left; intro e x he)
    | with_reducible (refine Dev.Wf.foldPair _ ?_ ?_; rotate_left; intro e x he)
    | split
    | simp only [Dev.wf_built]
    | with_reducible apply Dev.Built.other
    | with_reducible apply Dev.Wf.itePair
    | with_reducible (refine Dev.Wf.ofPair (by assumption) ?_)
    | with_reducible (refine Dev.Wf.ofPairSnd (by assumption) ?_)
    | with_reducible dsimp only)

theorem Dev.refsSettle_wf (d : Dev) (h_d : d.Wf) :
    Dev.Wf (Dev.refsSettle d) := by
  unfold Dev.refsSettle
  try dsimp only
  repeat' (first
    | with_reducible assumption
    | with_reducible apply Dev.alignSettle_wf
    | with_reducible apply Dev.refAbsent_wf
    | with_reducible apply Dev.Wf.ite
    | with_reducible (refine Dev.Wf.fold _ ?_ ?_; rotate_left; intro e x he)
    | with_reducible (refine Dev.Wf.foldPair _ ?_ ?_; rotate_left; intro e x he)
    | split
    | simp only [Dev.wf_built]
    | with_reducible apply Dev.Built.other
    | with_reducible apply Dev.Wf.itePair
    | with_reducible (refine Dev.Wf.ofPair (by assumption) ?_)
    | with_reducible (refine Dev.Wf.ofPairSnd (by assumption) ?_)
    | with_reducible dsimp only)

theorem Dev.refEvent_wf (d : Dev) (r : Nat) (e : Sys2Proof.RefEvent) (h_d : d.Wf) :
    Dev.Wf (Dev.refEvent d r e) := by
  unfold Dev.refEvent
  try dsimp only
  repeat' (first
    | with_reducible assumption
    | with_reducible apply Dev.inc_wf
    | with_reducible apply Dev.refAbsent_wf
    | with_reducible apply Dev.alignSettle_wf
    | with_reducible apply Dev.wrOn_wf
    | with_reducible apply Dev.wr_wf
    | with_reducible apply Dev.Wf.ite
    | with_reducible (refine Dev.Wf.fold _ ?_ ?_; rotate_left; intro e x he)
    | with_reducible (refine Dev.Wf.foldPair _ ?_ ?_; rotate_left; intro e x he)
    | split
    | simp only [Dev.wf_built]
    | with_reducible apply Dev.Built.other
    | with_reducible apply Dev.Wf.itePair
    | with_reducible (refine Dev.Wf.ofPair (by assumption) ?_)
    | with_reducible (refine Dev.Wf.ofPairSnd (by assumption) ?_)
    | with_reducible dsimp only)

theorem Dev.refJudge_wf (d : Dev) (r : Nat) (f : Int) (med : Int) (m : Nat) (h_d : d.Wf) :
    Dev.Wf (Dev.refJudge d r f med m) := by
  unfold Dev.refJudge
  try dsimp only
  repeat' (first
    | with_reducible assumption
    | with_reducible apply Dev.wr_wf
    | with_reducible apply Dev.wrOn_wf
    | with_reducible apply Dev.setDrift_wf
    | with_reducible apply Dev.setRef_wf
    | with_reducible apply Dev.refGo_wf
    | with_reducible apply Dev.Wf.ite
    | with_reducible (refine Dev.Wf.fold _ ?_ ?_; rotate_left; intro e x he)
    | with_reducible (refine Dev.Wf.foldPair _ ?_ ?_; rotate_left; intro e x he)
    | split
    | simp only [Dev.wf_built]
    | with_reducible apply Dev.Built.other
    | with_reducible apply Dev.Wf.itePair
    | with_reducible (refine Dev.Wf.ofPair (by assumption) ?_)
    | with_reducible (refine Dev.Wf.ofPairSnd (by assumption) ?_)
    | with_reducible dsimp only)

theorem Dev.histAppend_wf (d : Dev) (mean : ℤ) (h_d : d.Wf) :
    Dev.Wf (Dev.histAppend d mean) := by
  unfold Dev.histAppend
  try dsimp only
  repeat' (first
    | with_reducible assumption
    | with_reducible apply Dev.withTmu_wf
    | with_reducible apply Dev.wr_wf
    | with_reducible apply Dev.Wf.ite
    | with_reducible (refine Dev.Wf.fold _ ?_ ?_; rotate_left; intro e x he)
    | with_reducible (refine Dev.Wf.foldPair _ ?_ ?_; rotate_left; intro e x he)
    | split
    | simp only [Dev.wf_built]
    | with_reducible apply Dev.Built.other
    | with_reducible apply Dev.Wf.itePair
    | with_reducible (refine Dev.Wf.ofPair (by assumption) ?_)
    | with_reducible (refine Dev.Wf.ofPairSnd (by assumption) ?_)
    | with_reducible dsimp only)

theorem Dev.refMeasure_wf (d : Dev) (freqs : List (Option ℤ)) (mean : ℤ) (now : ℤ) (h_d : d.Wf) :
    Dev.Wf (Dev.refMeasure d freqs mean now) := by
  unfold Dev.refMeasure
  try dsimp only
  repeat' (first
    | with_reducible assumption
    | with_reducible apply Dev.withTmu_wf
    | with_reducible apply Dev.wr_wf
    | with_reducible apply Dev.setRef_wf
    | with_reducible apply Dev.peersSettle_wf
    | with_reducible apply Dev.refJudge_wf
    | with_reducible apply Dev.tmuEval_wf
    | with_reducible apply Dev.histAppend_wf
    | with_reducible apply Dev.Wf.ite
    | with_reducible (refine Dev.Wf.fold _ ?_ ?_; rotate_left; intro e x he)
    | with_reducible (refine Dev.Wf.foldPair _ ?_ ?_; rotate_left; intro e x he)
    | split
    | simp only [Dev.wf_built]
    | with_reducible apply Dev.Built.other
    | with_reducible apply Dev.Wf.itePair
    | with_reducible (refine Dev.Wf.ofPair (by assumption) ?_)
    | with_reducible (refine Dev.Wf.ofPairSnd (by assumption) ?_)
    | with_reducible dsimp only)

theorem Dev.wtrExpire_wf (d : Dev) (r : Nat) (h_d : d.Wf) :
    Dev.Wf (Dev.wtrExpire d r) := by
  unfold Dev.wtrExpire
  try dsimp only
  repeat' (first
    | with_reducible assumption
    | with_reducible apply Dev.tmuEval_wf
    | with_reducible apply Dev.setRef_wf
    | with_reducible apply Dev.Wf.ite
    | with_reducible (refine Dev.Wf.fold _ ?_ ?_; rotate_left; intro e x he)
    | with_reducible (refine Dev.Wf.foldPair _ ?_ ?_; rotate_left; intro e x he)
    | split
    | simp only [Dev.wf_built]
    | with_reducible apply Dev.Built.other
    | with_reducible apply Dev.Wf.itePair
    | with_reducible (refine Dev.Wf.ofPair (by assumption) ?_)
    | with_reducible (refine Dev.Wf.ofPairSnd (by assumption) ?_)
    | with_reducible dsimp only)

theorem Dev.phaseCapture_wf (d : Dev) (phase : Int) (h_d : d.Wf) :
    Dev.Wf (Dev.phaseCapture d phase) := by
  unfold Dev.phaseCapture
  try dsimp only
  repeat' (first
    | with_reducible assumption
    | with_reducible apply Dev.withTmu_wf
    | with_reducible apply Dev.Wf.ite
    | with_reducible (refine Dev.Wf.fold _ ?_ ?_; rotate_left; intro e x he)
    | with_reducible (refine Dev.Wf.foldPair _ ?_ ?_; rotate_left; intro e x he)
    | split
    | simp only [Dev.wf_built]
    | with_reducible apply Dev.Built.other
    | with_reducible apply Dev.Wf.itePair
    | with_reducible (refine Dev.Wf.ofPair (by assumption) ?_)
    | with_reducible (refine Dev.Wf.ofPairSnd (by assumption) ?_)
    | with_reducible dsimp only)

theorem Dev.loopClose_wf (d : Dev) (h_d : d.Wf) :
    Dev.Wf (Dev.loopClose d) := by
  unfold Dev.loopClose
  try dsimp only
  repeat' (first
    | with_reducible assumption
    | with_reducible apply Dev.withTmu_wf
    | with_reducible apply Dev.Wf.ite
    | with_reducible (refine Dev.Wf.fold _ ?_ ?_; rotate_left; intro e x he)
    | with_reducible (refine Dev.Wf.foldPair _ ?_ ?_; rotate_left; intro e x he)
    | split
    | simp only [Dev.wf_built]
    | with_reducible apply Dev.Built.other
    | with_reducible apply Dev.Wf.itePair
    | with_reducible (refine Dev.Wf.ofPair (by assumption) ?_)
    | with_reducible (refine Dev.Wf.ofPairSnd (by assumption) ?_)
    | with_reducible dsimp only)

theorem Dev.showPbo_wf (d : Dev) (x : Int) (h_d : d.Wf) :
    Dev.Wf (Dev.showPbo d x) := by
  unfold Dev.showPbo
  try dsimp only
  repeat' (first
    | with_reducible assumption
    | with_reducible apply Dev.withTmu_wf
    | with_reducible apply Dev.wr_wf
    | with_reducible apply Dev.Wf.ite
    | with_reducible (refine Dev.Wf.fold _ ?_ ?_; rotate_left; intro e x he)
    | with_reducible (refine Dev.Wf.foldPair _ ?_ ?_; rotate_left; intro e x he)
    | split
    | simp only [Dev.wf_built]
    | with_reducible apply Dev.Built.other
    | with_reducible apply Dev.Wf.itePair
    | with_reducible (refine Dev.Wf.ofPair (by assumption) ?_)
    | with_reducible (refine Dev.Wf.ofPairSnd (by assumption) ?_)
    | with_reducible dsimp only)

theorem Dev.transitionDone_wf (d : Dev) (h_d : d.Wf) :
    Dev.Wf (Dev.transitionDone d) := by
  unfold Dev.transitionDone
  try dsimp only
  repeat' (first
    | with_reducible assumption
    | with_reducible apply Dev.wr_wf
    | with_reducible apply Dev.withTmu_wf
    | with_reducible apply Dev.thaw_wf
    | with_reducible apply Dev.tmuEnter_wf
    | with_reducible apply Dev.tmuEval_wf
    | with_reducible apply Dev.setEvt_wf
    | with_reducible apply Dev.showPbo_wf
    | with_reducible apply Dev.Wf.ite
    | with_reducible (refine Dev.Wf.fold _ ?_ ?_; rotate_left; intro e x he)
    | with_reducible (refine Dev.Wf.foldPair _ ?_ ?_; rotate_left; intro e x he)
    | split
    | simp only [Dev.wf_built]
    | with_reducible apply Dev.Built.other
    | with_reducible apply Dev.Wf.itePair
    | with_reducible (refine Dev.Wf.ofPair (by assumption) ?_)
    | with_reducible (refine Dev.Wf.ofPairSnd (by assumption) ?_)
    | with_reducible dsimp only)

theorem Dev.tmuCtl_wf (d : Dev) (v : Sys2Proof.Word) (h_d : d.Wf) :
    Dev.Wf (Dev.tmuCtl d v) := by
  unfold Dev.tmuCtl
  try dsimp only
  repeat' (first
    | with_reducible assumption
    | with_reducible apply Dev.wr_wf
    | with_reducible apply Dev.withTmu_wf
    | with_reducible apply Dev.Wf.ite
    | with_reducible (refine Dev.Wf.fold _ ?_ ?_; rotate_left; intro e x he)
    | with_reducible (refine Dev.Wf.foldPair _ ?_ ?_; rotate_left; intro e x he)
    | split
    | simp only [Dev.wf_built]
    | with_reducible apply Dev.Built.other
    | with_reducible apply Dev.Wf.itePair
    | with_reducible (refine Dev.Wf.ofPair (by assumption) ?_)
    | with_reducible (refine Dev.Wf.ofPairSnd (by assumption) ?_)
    | with_reducible dsimp only)

theorem Dev.setPhaseLeft_wf (d : Dev) (x : ℤ) (h_d : d.Wf) :
    Dev.Wf (Dev.setPhaseLeft d x) := by
  unfold Dev.setPhaseLeft
  try dsimp only
  repeat' (first
    | with_reducible assumption
    | with_reducible apply Dev.withTmu_wf
    | with_reducible apply Dev.wr_wf
    | with_reducible apply Dev.Wf.ite
    | with_reducible (refine Dev.Wf.fold _ ?_ ?_; rotate_left; intro e x he)
    | with_reducible (refine Dev.Wf.foldPair _ ?_ ?_; rotate_left; intro e x he)
    | split
    | simp only [Dev.wf_built]
    | with_reducible apply Dev.Built.other
    | with_reducible apply Dev.Wf.itePair
    | with_reducible (refine Dev.Wf.ofPair (by assumption) ?_)
    | with_reducible (refine Dev.Wf.ofPairSnd (by assumption) ?_)
    | with_reducible dsimp only)

theorem Dev.stepDone_wf (d : Dev) (h_d : d.Wf) :
    Dev.Wf (Dev.stepDone d) := by
  unfold Dev.stepDone
  try dsimp only
  repeat' (first
    | with_reducible assumption
    | with_reducible apply Dev.setEvt_wf
    | with_reducible apply Dev.setPhaseLeft_wf
    | with_reducible apply Dev.Wf.ite
    | with_reducible (refine Dev.Wf.fold _ ?_ ?_; rotate_left; intro e x he)
    | with_reducible (refine Dev.Wf.foldPair _ ?_ ?_; rotate_left; intro e x he)
    | split
    | simp only [Dev.wf_built]
    | with_reducible apply Dev.Built.other
    | with_reducible apply Dev.Wf.itePair
    | with_reducible (refine Dev.Wf.ofPair (by assumption) ?_)
    | with_reducible (refine Dev.Wf.ofPairSnd (by assumption) ?_)
    | with_reducible dsimp only)

theorem Dev.phaseStep_wf (d : Dev) (v : Sys2Proof.Word) (h_d : d.Wf) :
    Dev.Wf (Dev.phaseStep d v) := by
  unfold Dev.phaseStep
  try dsimp only
  repeat' (first
    | with_reducible assumption
    | with_reducible apply Dev.stepDone_wf
    | with_reducible apply Dev.setPhaseLeft_wf
    | with_reducible apply Dev.withTmu_wf
    | with_reducible apply Dev.showPbo_wf
    | with_reducible apply Dev.Wf.ite
    | with_reducible (refine Dev.Wf.fold _ ?_ ?_; rotate_left; intro e x he)
    | with_reducible (refine Dev.Wf.foldPair _ ?_ ?_; rotate_left; intro e x he)
    | split
    | simp only [Dev.wf_built]
    | with_reducible apply Dev.Built.other
    | with_reducible apply Dev.Wf.itePair
    | with_reducible (refine Dev.Wf.ofPair (by assumption) ?_)
    | with_reducible (refine Dev.Wf.ofPairSnd (by assumption) ?_)
    | with_reducible dsimp only)

theorem Dev.audDone_wf (d : Dev) (h_d : d.Wf) :
    Dev.Wf (Dev.audDone d) := by
  unfold Dev.audDone
  try dsimp only
  repeat' (first
    | with_reducible assumption
    | with_reducible apply Dev.setEvt_wf
    | with_reducible apply Dev.withTmu_wf
    | with_reducible apply Dev.Wf.ite
    | with_reducible (refine Dev.Wf.fold _ ?_ ?_; rotate_left; intro e x he)
    | with_reducible (refine Dev.Wf.foldPair _ ?_ ?_; rotate_left; intro e x he)
    | split
    | simp only [Dev.wf_built]
    | with_reducible apply Dev.Built.other
    | with_reducible apply Dev.Wf.itePair
    | with_reducible (refine Dev.Wf.ofPair (by assumption) ?_)
    | with_reducible (refine Dev.Wf.ofPairSnd (by assumption) ?_)
    | with_reducible dsimp only)

theorem Dev.tmuAfter_wf (d : Dev) (off : ℕ) (old : Sys2Proof.Word) (v : Sys2Proof.Word) (h_d : d.Wf) :
    Dev.Wf (Dev.tmuAfter d off old v) := by
  unfold Dev.tmuAfter
  try dsimp only
  repeat' (first
    | with_reducible assumption
    | with_reducible apply Dev.tmuEval_wf
    | with_reducible apply Dev.withTmu_wf
    | with_reducible apply Dev.setRef_wf
    | with_reducible apply Dev.setPhaseLeft_wf
    | with_reducible apply Dev.phaseStep_wf
    | with_reducible apply Dev.tmuCtl_wf
    | with_reducible apply Dev.Wf.ite
    | with_reducible (refine Dev.Wf.fold _ ?_ ?_; rotate_left; intro e x he)
    | with_reducible (refine Dev.Wf.foldPair _ ?_ ?_; rotate_left; intro e x he)
    | split
    | simp only [Dev.wf_built]
    | with_reducible apply Dev.Built.other
    | with_reducible apply Dev.Wf.itePair
    | with_reducible (refine Dev.Wf.ofPair (by assumption) ?_)
    | with_reducible (refine Dev.Wf.ofPairSnd (by assumption) ?_)
    | with_reducible dsimp only)

theorem Dev.tmuLoRead_wf (d : Dev) (hold : Bool) (h_d : d.Wf) :
    Dev.Wf (Dev.tmuLoRead d hold) := by
  unfold Dev.tmuLoRead
  try dsimp only
  repeat' (first
    | with_reducible assumption
    | with_reducible apply Dev.wr_wf
    | with_reducible apply Dev.Wf.ite
    | with_reducible (refine Dev.Wf.fold _ ?_ ?_; rotate_left; intro e x he)
    | with_reducible (refine Dev.Wf.foldPair _ ?_ ?_; rotate_left; intro e x he)
    | split
    | simp only [Dev.wf_built]
    | with_reducible apply Dev.Built.other
    | with_reducible apply Dev.Wf.itePair
    | with_reducible (refine Dev.Wf.ofPair (by assumption) ?_)
    | with_reducible (refine Dev.Wf.ofPairSnd (by assumption) ?_)
    | with_reducible dsimp only)

theorem Dev.refinAfter_wf (d : Dev) (r : Nat) (off : Nat) (old : Sys2Proof.Word) (v : Sys2Proof.Word) (h_d : d.Wf) :
    Dev.Wf (Dev.refinAfter d r off old v) := by
  unfold Dev.refinAfter
  try dsimp only
  repeat' (first
    | with_reducible assumption
    | with_reducible apply Dev.tmuEval_wf
    | with_reducible apply Dev.refGo_wf
    | with_reducible apply Dev.refAbsent_wf
    | with_reducible apply Dev.setReg_wf
    | with_reducible apply Dev.Wf.ite
    | with_reducible (refine Dev.Wf.fold _ ?_ ?_; rotate_left; intro e x he)
    | with_reducible (refine Dev.Wf.foldPair _ ?_ ?_; rotate_left; intro e x he)
    | split
    | simp only [Dev.wf_built]
    | with_reducible apply Dev.Built.other
    | with_reducible apply Dev.Wf.itePair
    | with_reducible (refine Dev.Wf.ofPair (by assumption) ?_)
    | with_reducible (refine Dev.Wf.ofPairSnd (by assumption) ?_)
    | with_reducible dsimp only)

theorem Dev.todMessage_wf (d : Dev) (start : ℕ) (gap : ℕ) (bs : List Sys2Proof.Byte) (h_d : d.Wf) :
    Dev.Wf (Dev.todMessage d start gap bs) := by
  unfold Dev.todMessage
  try dsimp only
  repeat' (first
    | with_reducible assumption
    | with_reducible apply Dev.setEvt_wf
    | with_reducible apply Dev.inc_wf
    | with_reducible apply Dev.setRef_wf
    | with_reducible apply Dev.wr_wf
    | with_reducible apply Dev.setTod_wf
    | with_reducible apply Dev.Wf.ite
    | with_reducible (refine Dev.Wf.fold _ ?_ ?_; rotate_left; intro e x he)
    | with_reducible (refine Dev.Wf.foldPair _ ?_ ?_; rotate_left; intro e x he)
    | split
    | simp only [Dev.wf_built]
    | with_reducible apply Dev.Built.other
    | with_reducible apply Dev.Wf.itePair
    | with_reducible (refine Dev.Wf.ofPair (by assumption) ?_)
    | with_reducible (refine Dev.Wf.ofPairSnd (by assumption) ?_)
    | with_reducible dsimp only)

theorem Dev.todTimeout_wf (d : Dev) (h_d : d.Wf) :
    Dev.Wf (Dev.todTimeout d) := by
  unfold Dev.todTimeout
  try dsimp only
  repeat' (first
    | with_reducible assumption
    | with_reducible apply Dev.setTod_wf
    | with_reducible apply Dev.setRef_wf
    | with_reducible apply Dev.Wf.ite
    | with_reducible (refine Dev.Wf.fold _ ?_ ?_; rotate_left; intro e x he)
    | with_reducible (refine Dev.Wf.foldPair _ ?_ ?_; rotate_left; intro e x he)
    | split
    | simp only [Dev.wf_built]
    | with_reducible apply Dev.Built.other
    | with_reducible apply Dev.Wf.itePair
    | with_reducible (refine Dev.Wf.ofPair (by assumption) ?_)
    | with_reducible (refine Dev.Wf.ofPairSnd (by assumption) ?_)
    | with_reducible dsimp only)

theorem Dev.fcntLoad_wf (d : Dev) (k : ℕ) (n : ℕ) (h_d : d.Wf) :
    Dev.Wf (Dev.fcntLoad d k n) := by
  unfold Dev.fcntLoad
  try dsimp only
  repeat' (first
    | with_reducible assumption
    | with_reducible apply Dev.wr_wf
    | with_reducible apply Dev.setDom_wf
    | with_reducible apply Dev.Wf.ite
    | with_reducible (refine Dev.Wf.fold _ ?_ ?_; rotate_left; intro e x he)
    | with_reducible (refine Dev.Wf.foldPair _ ?_ ?_; rotate_left; intro e x he)
    | split
    | simp only [Dev.wf_built]
    | with_reducible apply Dev.Built.other
    | with_reducible apply Dev.Wf.itePair
    | with_reducible (refine Dev.Wf.ofPair (by assumption) ?_)
    | with_reducible (refine Dev.Wf.ofPairSnd (by assumption) ?_)
    | with_reducible dsimp only)

theorem Dev.frameBegin_wf (d : Dev) (k : Nat) (h_d : d.Wf) :
    Dev.Wf (Dev.frameBegin d k) := by
  unfold Dev.frameBegin
  try dsimp only
  repeat' (first
    | with_reducible assumption
    | with_reducible apply Dev.wr_wf
    | with_reducible apply Dev.setEvt_wf
    | with_reducible apply Dev.setDom_wf
    | with_reducible apply Dev.Wf.ite
    | with_reducible (refine Dev.Wf.fold _ ?_ ?_; rotate_left; intro e x he)
    | with_reducible (refine Dev.Wf.foldPair _ ?_ ?_; rotate_left; intro e x he)
    | split
    | simp only [Dev.wf_built]
    | with_reducible apply Dev.Built.other
    | with_reducible apply Dev.Wf.itePair
    | with_reducible (refine Dev.Wf.ofPair (by assumption) ?_)
    | with_reducible (refine Dev.Wf.ofPairSnd (by assumption) ?_)
    | with_reducible dsimp only)

theorem Dev.domStop_wf (d : Dev) (k : ℕ) (h_d : d.Wf) :
    Dev.Wf (Dev.domStop d k) := by
  unfold Dev.domStop
  try dsimp only
  repeat' (first
    | with_reducible assumption
    | with_reducible apply Dev.realignEnd_wf
    | with_reducible apply Dev.wr_wf
    | with_reducible apply Dev.setDom_wf
    | with_reducible apply Dev.slewSettle_wf
    | with_reducible apply Dev.setPll_wf
    | with_reducible apply Dev.txSettle_wf
    | with_reducible apply Dev.setLane_wf
    | with_reducible apply Dev.Wf.ite
    | with_reducible (refine Dev.Wf.fold _ ?_ ?_; rotate_left; intro e x he)
    | with_reducible (refine Dev.Wf.foldPair _ ?_ ?_; rotate_left; intro e x he)
    | split
    | simp only [Dev.wf_built]
    | with_reducible apply Dev.Built.other
    | with_reducible apply Dev.Wf.itePair
    | with_reducible (refine Dev.Wf.ofPair (by assumption) ?_)
    | with_reducible (refine Dev.Wf.ofPairSnd (by assumption) ?_)
    | with_reducible dsimp only)

theorem Dev.domRestart_wf (d : Dev) (k : ℕ) (h_d : d.Wf) :
    Dev.Wf (Dev.domRestart d k) := by
  unfold Dev.domRestart
  try dsimp only
  repeat' (first
    | with_reducible assumption
    | with_reducible apply Dev.fcntLoad_wf
    | with_reducible apply Dev.domStop_wf
    | with_reducible apply Dev.takeCancel_wf
    | with_reducible apply Dev.setDom_wf
    | with_reducible apply Dev.frameBegin_wf
    | with_reducible apply Dev.fsSettle_wf
    | with_reducible apply Dev.outSettle_wf
    | with_reducible apply Dev.gensSettle_wf
    | with_reducible apply Dev.Wf.ite
    | with_reducible (refine Dev.Wf.fold _ ?_ ?_; rotate_left; intro e x he)
    | with_reducible (refine Dev.Wf.foldPair _ ?_ ?_; rotate_left; intro e x he)
    | split
    | simp only [Dev.wf_built]
    | with_reducible apply Dev.Built.other
    | with_reducible apply Dev.Wf.itePair
    | with_reducible (refine Dev.Wf.ofPair (by assumption) ?_)
    | with_reducible (refine Dev.Wf.ofPairSnd (by assumption) ?_)
    | with_reducible dsimp only)

theorem Dev.domFollow_wf (d : Dev) (k : ℕ) (h_d : d.Wf) :
    Dev.Wf (Dev.domFollow d k) := by
  unfold Dev.domFollow
  try dsimp only
  repeat' (first
    | with_reducible assumption
    | with_reducible apply Dev.domRestart_wf
    | with_reducible apply Dev.swapCancelDom_wf
    | with_reducible apply Dev.Wf.ite
    | with_reducible (refine Dev.Wf.fold _ ?_ ?_; rotate_left; intro e x he)
    | with_reducible (refine Dev.Wf.foldPair _ ?_ ?_; rotate_left; intro e x he)
    | split
    | simp only [Dev.wf_built]
    | with_reducible apply Dev.Built.other
    | with_reducible apply Dev.Wf.itePair
    | with_reducible (refine Dev.Wf.ofPair (by assumption) ?_)
    | with_reducible (refine Dev.Wf.ofPairSnd (by assumption) ?_)
    | with_reducible dsimp only)

theorem Dev.tdomAfter_wf (d : Dev) (k : ℕ) (off : ℕ) (cur : ℕ) (old : Sys2Proof.Word) (v : Sys2Proof.Word) (h_d : d.Wf) :
    Dev.Wf (Dev.tdomAfter d k off cur old v) := by
  unfold Dev.tdomAfter
  try dsimp only
  repeat' (first
    | with_reducible assumption
    | with_reducible apply Dev.domFollow_wf
    | with_reducible apply Dev.fcntLoad_wf
    | with_reducible apply Dev.slewSettle_wf
    | with_reducible apply Dev.setDom_wf
    | with_reducible apply Dev.wr_wf
    | with_reducible apply Dev.realignEnd_wf
    | with_reducible apply Dev.Wf.ite
    | with_reducible (refine Dev.Wf.fold _ ?_ ?_; rotate_left; intro e x he)
    | with_reducible (refine Dev.Wf.foldPair _ ?_ ?_; rotate_left; intro e x he)
    | split
    | simp only [Dev.wf_built]
    | with_reducible apply Dev.Built.other
    | with_reducible apply Dev.Wf.itePair
    | with_reducible (refine Dev.Wf.ofPair (by assumption) ?_)
    | with_reducible (refine Dev.Wf.ofPairSnd (by assumption) ?_)
    | with_reducible dsimp only)

theorem Dev.slewDone_wf (d : Dev) (k : ℕ) (h_d : d.Wf) :
    Dev.Wf (Dev.slewDone d k) := by
  unfold Dev.slewDone
  try dsimp only
  repeat' (first
    | with_reducible assumption
    | with_reducible apply Dev.realignEnd_wf
    | with_reducible apply Dev.wr_wf
    | with_reducible apply Dev.Wf.ite
    | with_reducible (refine Dev.Wf.fold _ ?_ ?_; rotate_left; intro e x he)
    | with_reducible (refine Dev.Wf.foldPair _ ?_ ?_; rotate_left; intro e x he)
    | split
    | simp only [Dev.wf_built]
    | with_reducible apply Dev.Built.other
    | with_reducible apply Dev.Wf.itePair
    | with_reducible (refine Dev.Wf.ofPair (by assumption) ?_)
    | with_reducible (refine Dev.Wf.ofPairSnd (by assumption) ?_)
    | with_reducible dsimp only)

theorem Dev.offsetSlew_wf (d : Dev) (k : ℕ) (h_d : d.Wf) :
    Dev.Wf (Dev.offsetSlew d k) := by
  unfold Dev.offsetSlew
  try dsimp only
  repeat' (first
    | with_reducible assumption
    | with_reducible apply Dev.slewSettle_wf
    | with_reducible apply Dev.setDom_wf
    | with_reducible apply Dev.Wf.ite
    | with_reducible (refine Dev.Wf.fold _ ?_ ?_; rotate_left; intro e x he)
    | with_reducible (refine Dev.Wf.foldPair _ ?_ ?_; rotate_left; intro e x he)
    | split
    | simp only [Dev.wf_built]
    | with_reducible apply Dev.Built.other
    | with_reducible apply Dev.Wf.itePair
    | with_reducible (refine Dev.Wf.ofPair (by assumption) ?_)
    | with_reducible (refine Dev.Wf.ofPairSnd (by assumption) ?_)
    | with_reducible dsimp only)

theorem Dev.frameCount_wf (d : Dev) (k : Nat) (err : Int) (epoch : Nat) (h_d : d.Wf) :
    Dev.Wf (Dev.frameCount d k err epoch) := by
  unfold Dev.frameCount
  try dsimp only
  repeat' (first
    | with_reducible assumption
    | with_reducible apply Dev.frameBegin_wf
    | with_reducible apply Dev.wr_wf
    | with_reducible apply Dev.fcntLoad_wf
    | with_reducible apply Dev.realignEnd_wf
    | with_reducible apply Dev.offsetSlew_wf
    | with_reducible apply Dev.Wf.ite
    | with_reducible (refine Dev.Wf.fold _ ?_ ?_; rotate_left; intro e x he)
    | with_reducible (refine Dev.Wf.foldPair _ ?_ ?_; rotate_left; intro e x he)
    | split
    | simp only [Dev.wf_built]
    | with_reducible apply Dev.Built.other
    | with_reducible apply Dev.Wf.itePair
    | with_reducible (refine Dev.Wf.ofPair (by assumption) ?_)
    | with_reducible (refine Dev.Wf.ofPairSnd (by assumption) ?_)
    | with_reducible dsimp only)

end Sys2Proof.Machine
end

