-- ==== Sys2Proof/Laws/WfAnc.lean ====
section
/-! SUPPORT. The operations of Machine/Anc.lean keep every table of the block canonical. -/

set_option linter.unusedTactic false
set_option linter.unreachableTactic false

namespace Sys2Proof.Machine

theorem Dev.ancErr_wf (d : Dev) (n : ℕ) (f : Fld) (h_d : d.Wf) :
    Dev.Wf (Dev.ancErr d n f) := by
  unfold Dev.ancErr
  try dsimp only
  repeat' (first
    | with_reducible assumption
    | with_reducible apply Dev.addEvt_wf
    | with_reducible apply Dev.Wf.ite
    | with_reducible (refine Dev.Wf.fold _ ?_ ?_; rotate_left; intro e x he)
    | with_reducible (refine Dev.Wf.foldPair _ ?_ ?_; rotate_left; intro e x he)
    | split
    | simp only [Dev.wf_built]
    | with_reducible apply Dev.Built.other
    | with_reducible apply Dev.Wf.itePair
    | with_reducible (refine Dev.Wf.ofPair (by assumption) ?_)
    | with_reducible (refine Dev.Wf.ofPairSnd (by assumption) ?_)
    | with_reducible dsimp only)

theorem Dev.ancTaps_wf (d : Dev) (n : Nat) (r : PktRec) (h_d : d.Wf) :
    Dev.Wf (Dev.ancTaps d n r) := by
  unfold Dev.ancTaps
  try dsimp only
  repeat' (first
    | with_reducible assumption
    | with_reducible apply Dev.queuePut_wf
    | with_reducible apply Dev.Wf.ite
    | with_reducible (refine Dev.Wf.fold _ ?_ ?_; rotate_left; intro e x he)
    | with_reducible (refine Dev.Wf.foldPair _ ?_ ?_; rotate_left; intro e x he)
    | split
    | simp only [Dev.wf_built]
    | with_reducible apply Dev.Built.other
    | with_reducible apply Dev.Wf.itePair
    | with_reducible (refine Dev.Wf.ofPair (by assumption) ?_)
    | with_reducible (refine Dev.Wf.ofPairSnd (by assumption) ?_)
    | with_reducible dsimp only)

theorem Dev.ancDeliver_wf (d : Dev) (n : ℕ) (r : PktRec) (h_d : d.Wf) :
    Dev.Wf (Dev.ancDeliver d n r) := by
  unfold Dev.ancDeliver
  try dsimp only
  repeat' (first
    | with_reducible assumption
    | with_reducible apply Dev.lengSend_wf
    | with_reducible apply Dev.ancInto_wf
    | with_reducible apply Dev.Wf.ite
    | with_reducible (refine Dev.Wf.fold _ ?_ ?_; rotate_left; intro e x he)
    | with_reducible (refine Dev.Wf.foldPair _ ?_ ?_; rotate_left; intro e x he)
    | split
    | simp only [Dev.wf_built]
    | with_reducible apply Dev.Built.other
    | with_reducible apply Dev.Wf.itePair
    | with_reducible (refine Dev.Wf.ofPair (by assumption) ?_)
    | with_reducible (refine Dev.Wf.ofPairSnd (by assumption) ?_)
    | with_reducible dsimp only)

theorem Dev.ancLimit_wf (d : Dev) (n : Nat) (r : PktRec) (h_d : d.Wf) :
    Dev.Wf (Dev.ancLimit d n r) := by
  unfold Dev.ancLimit
  try dsimp only
  repeat' (first
    | with_reducible assumption
    | with_reducible apply Dev.inc_wf
    | with_reducible apply Dev.ancDeliver_wf
    | with_reducible apply Dev.ancTaps_wf
    | with_reducible apply Dev.bwAdd_wf
    | with_reducible apply Dev.setTile_wf
    | with_reducible apply Dev.Wf.ite
    | with_reducible (refine Dev.Wf.fold _ ?_ ?_; rotate_left; intro e x he)
    | with_reducible (refine Dev.Wf.foldPair _ ?_ ?_; rotate_left; intro e x he)
    | split
    | simp only [Dev.wf_built]
    | with_reducible apply Dev.Built.other
    | with_reducible apply Dev.Wf.itePair
    | with_reducible (refine Dev.Wf.ofPair (by assumption) ?_)
    | with_reducible (refine Dev.Wf.ofPairSnd (by assumption) ?_)
    | with_reducible dsimp only)

theorem Dev.ancParsed_wf (d : Dev) (n : Nat) (s : Nat) (line : Nat) (vert : Bool) (start : Nat) (rest : List Sys2Proof.Word10) (h_d : d.Wf) :
    Dev.Wf (Dev.ancParsed d n s line vert start rest) := by
  unfold Dev.ancParsed
  try dsimp only
  repeat' (first
    | with_reducible assumption
    | with_reducible apply Dev.ancErr_wf
    | with_reducible apply Dev.setFramer_wf
    | with_reducible apply Dev.inc_wf
    | with_reducible apply Dev.ancLimit_wf
    | with_reducible apply Dev.Wf.ite
    | with_reducible (refine Dev.Wf.fold _ ?_ ?_; rotate_left; intro e x he)
    | with_reducible (refine Dev.Wf.foldPair _ ?_ ?_; rotate_left; intro e x he)
    | split
    | simp only [Dev.wf_built]
    | with_reducible apply Dev.Built.other
    | with_reducible apply Dev.Wf.itePair
    | with_reducible (refine Dev.Wf.ofPair (by assumption) ?_)
    | with_reducible (refine Dev.Wf.ofPairSnd (by assumption) ?_)
    | with_reducible dsimp only)

theorem Dev.ancCntClr_wf (d : Dev) (l : Nat) (h_d : d.Wf) :
    Dev.Wf (Dev.ancCntClr d l) := by
  unfold Dev.ancCntClr
  try dsimp only
  repeat' (first
    | with_reducible assumption
    | with_reducible apply Dev.setReg_wf
    | with_reducible apply Dev.setAc_wf
    | with_reducible apply Dev.Wf.ite
    | with_reducible (refine Dev.Wf.fold _ ?_ ?_; rotate_left; intro e x he)
    | with_reducible (refine Dev.Wf.foldPair _ ?_ ?_; rotate_left; intro e x he)
    | split
    | simp only [Dev.wf_built]
    | with_reducible apply Dev.Built.other
    | with_reducible apply Dev.Built.up_tiles
    | with_reducible apply Map.wf_put
    | with_reducible apply Map.wf_filter
    | exact rfl
    | with_reducible apply Dev.Wf.tiles
    | with_reducible apply Dev.Wf.itePair
    | with_reducible (refine Dev.Wf.ofPair (by assumption) ?_)
    | with_reducible (refine Dev.Wf.ofPairSnd (by assumption) ?_)
    | with_reducible dsimp only)

theorem Dev.lineArrives_wf (d : Dev) (n : ℕ) (x : Sys2Proof.LineRx) (items : List Sys2Proof.LateItem) (h_d : d.Wf) :
    Dev.Wf (Dev.lineArrives d n x items) := by
  unfold Dev.lineArrives
  try dsimp only
  repeat' (first
    | with_reducible assumption
    | with_reducible apply Dev.lineReceived_wf
    | with_reducible apply Dev.setFramer_wf
    | with_reducible apply Dev.fsLine_wf
    | with_reducible apply Dev.setTile_wf
    | with_reducible apply Dev.Wf.ite
    | with_reducible (refine Dev.Wf.fold _ ?_ ?_; rotate_left; intro e x he)
    | with_reducible (refine Dev.Wf.foldPair _ ?_ ?_; rotate_left; intro e x he)
    | split
    | simp only [Dev.wf_built]
    | with_reducible apply Dev.Built.other
    | with_reducible apply Dev.Wf.itePair
    | with_reducible (refine Dev.Wf.ofPair (by assumption) ?_)
    | with_reducible (refine Dev.Wf.ofPairSnd (by assumption) ?_)
    | with_reducible dsimp only)

theorem Dev.setDeemb_wf (d : Dev) (n : Nat) (b : Nat) (v : DeembI) (h_d : d.Wf) :
    Dev.Wf (Dev.setDeemb d n b v) := by
  unfold Dev.setDeemb
  try dsimp only
  repeat' (first
    | with_reducible assumption
    | with_reducible apply Dev.Wf.ite
    | with_reducible (refine Dev.Wf.fold _ ?_ ?_; rotate_left; intro e x he)
    | with_reducible (refine Dev.Wf.foldPair _ ?_ ?_; rotate_left; intro e x he)
    | split
    | simp only [Dev.wf_built]
    | with_reducible apply Dev.Built.other
    | with_reducible apply Dev.Built.up_deembs
    | with_reducible apply Map.wf_put
    | with_reducible apply Map.wf_filter
    | exact rfl
    | with_reducible apply Dev.Wf.deembs
    | with_reducible apply Dev.Wf.itePair
    | with_reducible (refine Dev.Wf.ofPair (by assumption) ?_)
    | with_reducible (refine Dev.Wf.ofPairSnd (by assumption) ?_)
    | with_reducible dsimp only)

theorem Dev.laneBit_wf (d : Dev) (n : Nat) (f : Fld) (b : Nat) (v : Bool) (h_d : d.Wf) :
    Dev.Wf (Dev.laneBit d n f b v) := by
  unfold Dev.laneBit
  try dsimp only
  repeat' (first
    | with_reducible assumption
    | with_reducible apply Dev.wr_wf
    | with_reducible apply Dev.Wf.ite
    | with_reducible (refine Dev.Wf.fold _ ?_ ?_; rotate_left; intro e x he)
    | with_reducible (refine Dev.Wf.foldPair _ ?_ ?_; rotate_left; intro e x he)
    | split
    | simp only [Dev.wf_built]
    | with_reducible apply Dev.Built.other
    | with_reducible apply Dev.Wf.itePair
    | with_reducible (refine Dev.Wf.ofPair (by assumption) ?_)
    | with_reducible (refine Dev.Wf.ofPairSnd (by assumption) ?_)
    | with_reducible dsimp only)

theorem Dev.audPresent_wf (d : Dev) (n : Nat) (b : Nat) (v : Bool) (h_d : d.Wf) :
    Dev.Wf (Dev.audPresent d n b v) := by
  unfold Dev.audPresent
  try dsimp only
  repeat' (first
    | with_reducible assumption
    | with_reducible apply Dev.setEvt_wf
    | with_reducible apply Dev.laneBit_wf
    | with_reducible apply Dev.Wf.ite
    | with_reducible (refine Dev.Wf.fold _ ?_ ?_; rotate_left; intro e x he)
    | with_reducible (refine Dev.Wf.foldPair _ ?_ ?_; rotate_left; intro e x he)
    | split
    | simp only [Dev.wf_built]
    | with_reducible apply Dev.Built.other
    | with_reducible apply Dev.Wf.itePair
    | with_reducible (refine Dev.Wf.ofPair (by assumption) ?_)
    | with_reducible (refine Dev.Wf.ofPairSnd (by assumption) ?_)
    | with_reducible dsimp only)

theorem Dev.groupSample_wf (d : Dev) (n : ℕ) (b : ℕ) (sub : ℕ) (ws : List Sys2Proof.Word) (h_d : d.Wf) :
    Dev.Wf (Dev.groupSample d n b sub ws) := by
  unfold Dev.groupSample
  try dsimp only
  repeat' (first
    | with_reducible assumption
    | with_reducible apply Dev.addEvt_wf
    | with_reducible apply Dev.strmPush_wf
    | with_reducible apply Dev.bwAdd_wf
    | with_reducible apply Dev.setDeemb_wf
    | with_reducible apply Dev.Wf.ite
    | with_reducible (refine Dev.Wf.fold _ ?_ ?_; rotate_left; intro e x he)
    | with_reducible (refine Dev.Wf.foldPair _ ?_ ?_; rotate_left; intro e x he)
    | split
    | simp only [Dev.wf_built]
    | with_reducible apply Dev.Built.other
    | with_reducible apply Dev.Wf.itePair
    | with_reducible (refine Dev.Wf.ofPair (by assumption) ?_)
    | with_reducible (refine Dev.Wf.ofPairSnd (by assumption) ?_)
    | with_reducible dsimp only)

theorem Dev.groupLost_wf (d : Dev) (n : Nat) (b : Nat) (sub : Nat) (h_d : d.Wf) :
    Dev.Wf (Dev.groupLost d n b sub) := by
  unfold Dev.groupLost
  try dsimp only
  repeat' (first
    | with_reducible assumption
    | with_reducible apply Dev.strmPush_wf
    | with_reducible apply Dev.setDeemb_wf
    | with_reducible apply Dev.Wf.ite
    | with_reducible (refine Dev.Wf.fold _ ?_ ?_; rotate_left; intro e x he)
    | with_reducible (refine Dev.Wf.foldPair _ ?_ ?_; rotate_left; intro e x he)
    | split
    | simp only [Dev.wf_built]
    | with_reducible apply Dev.Built.other
    | with_reducible apply Dev.Wf.itePair
    | with_reducible (refine Dev.Wf.ofPair (by assumption) ?_)
    | with_reducible (refine Dev.Wf.ofPairSnd (by assumption) ?_)
    | with_reducible dsimp only)

theorem Dev.audioRx_wf (d : Dev) (n : ℕ) (q : ℕ) (g : ℕ) (sub : ℕ) (x : Sys2Proof.AudioRx) (h_d : d.Wf) :
    Dev.Wf (Dev.audioRx d n q g sub x) := by
  unfold Dev.audioRx
  try dsimp only
  repeat' (first
    | with_reducible assumption
    | with_reducible apply Dev.add_wf
    | with_reducible apply Dev.groupLost_wf
    | with_reducible apply Dev.addEvt_wf
    | with_reducible apply Dev.setDeemb_wf
    | with_reducible apply Dev.audPresent_wf
    | with_reducible apply Dev.groupSample_wf
    | with_reducible apply Dev.laneBit_wf
    | with_reducible apply Dev.Wf.ite
    | with_reducible (refine Dev.Wf.fold _ ?_ ?_; rotate_left; intro e x he)
    | with_reducible (refine Dev.Wf.foldPair _ ?_ ?_; rotate_left; intro e x he)
    | split
    | simp only [Dev.wf_built]
    | with_reducible apply Dev.Built.other
    | with_reducible apply Dev.Wf.itePair
    | with_reducible (refine Dev.Wf.ofPair (by assumption) ?_)
    | with_reducible (refine Dev.Wf.ofPairSnd (by assumption) ?_)
    | with_reducible dsimp only)

end Sys2Proof.Machine
end

