-- ==== Sys2Proof/Laws/WfDeliver.lean ====
section
/-! SUPPORT. The operations of Machine/Deliver.lean keep every table of the block canonical. -/

set_option linter.unusedTactic false
set_option linter.unreachableTactic false

namespace Sys2Proof.Machine

theorem Dev.groupLine_wf (d : Dev) (g : Nat) (line : Nat) (h_d : d.Wf) :
    Dev.Wf (Dev.groupLine d g line) := by
  unfold Dev.groupLine
  try dsimp only
  repeat' (first
    | with_reducible assumption
    | with_reducible apply Dev.setGroup_wf
    | with_reducible apply Dev.addB_wf
    | with_reducible apply Dev.Wf.ite
    | with_reducible (refine Dev.Wf.fold _ ?_ ?_; rotate_left; intro e x he)
    | with_reducible (refine Dev.Wf.foldPair _ ?_ ?_; rotate_left; intro e x he)
    | split
    | simp only [Dev.wf_built]
    | with_reducible apply Dev.Built.other
    | with_reducible apply Dev.Wf.itePair
    | with_reducible (refine Dev.Wf.ofPair (by assumption) ?_)
    | with_reducible (refine Dev.Wf.ofPairSnd (by assumption) ?_)
    | with_reducible dsimp only)

theorem Dev.groupLines_wf (d : Dev) (k : ℕ) (line : ℕ) (h_d : d.Wf) :
    Dev.Wf (Dev.groupLines d k line) := by
  unfold Dev.groupLines
  try dsimp only
  repeat' (first
    | with_reducible assumption
    | with_reducible apply Dev.groupLine_wf
    | with_reducible apply Dev.Wf.ite
    | with_reducible (refine Dev.Wf.fold _ ?_ ?_; rotate_left; intro e x he)
    | with_reducible (refine Dev.Wf.foldPair _ ?_ ?_; rotate_left; intro e x he)
    | split
    | simp only [Dev.wf_built]
    | with_reducible apply Dev.Built.other
    | with_reducible apply Dev.Wf.itePair
    | with_reducible (refine Dev.Wf.ofPair (by assumption) ?_)
    | with_reducible (refine Dev.Wf.ofPairSnd (by assumption) ?_)
    | with_reducible dsimp only)

theorem Dev.putOut_wf (d : Dev) (t : Nat) (state : Nat) (cause : Nat) (held : Nat) (entry : Bool) (h_d : d.Wf) :
    Dev.Wf (Dev.putOut d t state cause held entry) := by
  unfold Dev.putOut
  try dsimp only
  repeat' (first
    | with_reducible assumption
    | with_reducible apply Dev.setTc_wf
    | with_reducible apply Dev.setEvtIf_wf
    | with_reducible apply Dev.Wf.ite
    | with_reducible (refine Dev.Wf.fold _ ?_ ?_; rotate_left; intro e x he)
    | with_reducible (refine Dev.Wf.foldPair _ ?_ ?_; rotate_left; intro e x he)
    | split
    | simp only [Dev.wf_built]
    | with_reducible apply Dev.Built.other
    | with_reducible apply Dev.Wf.itePair
    | with_reducible (refine Dev.Wf.ofPair (by assumption) ?_)
    | with_reducible (refine Dev.Wf.ofPairSnd (by assumption) ?_)
    | with_reducible dsimp only)

theorem Dev.outJudge_wf (d : Dev) (t : Nat) (h_d : d.Wf) :
    Dev.Wf (Dev.outJudge d t) := by
  unfold Dev.outJudge
  try dsimp only
  repeat' (first
    | with_reducible assumption
    | with_reducible apply Dev.putOut_wf
    | with_reducible apply Dev.Wf.ite
    | with_reducible (refine Dev.Wf.fold _ ?_ ?_; rotate_left; intro e x he)
    | with_reducible (refine Dev.Wf.foldPair _ ?_ ?_; rotate_left; intro e x he)
    | split
    | simp only [Dev.wf_built]
    | with_reducible apply Dev.Built.other
    | with_reducible apply Dev.Wf.itePair
    | with_reducible (refine Dev.Wf.ofPair (by assumption) ?_)
    | with_reducible (refine Dev.Wf.ofPairSnd (by assumption) ?_)
    | with_reducible dsimp only)

theorem Dev.holdExpire_wf (d : Dev) (t : Nat) (h_d : d.Wf) :
    Dev.Wf (Dev.holdExpire d t) := by
  unfold Dev.holdExpire
  try dsimp only
  repeat' (first
    | with_reducible assumption
    | with_reducible apply Dev.putOut_wf
    | with_reducible apply Dev.Wf.ite
    | with_reducible (refine Dev.Wf.fold _ ?_ ?_; rotate_left; intro e x he)
    | with_reducible (refine Dev.Wf.foldPair _ ?_ ?_; rotate_left; intro e x he)
    | split
    | simp only [Dev.wf_built]
    | with_reducible apply Dev.Built.other
    | with_reducible apply Dev.Wf.itePair
    | with_reducible (refine Dev.Wf.ofPair (by assumption) ?_)
    | with_reducible (refine Dev.Wf.ofPairSnd (by assumption) ?_)
    | with_reducible dsimp only)

theorem Dev.safeAtOnce_wf (d : Dev) (t : Nat) (h_d : d.Wf) :
    Dev.Wf (Dev.safeAtOnce d t) := by
  unfold Dev.safeAtOnce
  try dsimp only
  repeat' (first
    | with_reducible assumption
    | with_reducible apply Dev.setTc_wf
    | with_reducible apply Dev.inc_wf
    | with_reducible apply Dev.Wf.ite
    | with_reducible (refine Dev.Wf.fold _ ?_ ?_; rotate_left; intro e x he)
    | with_reducible (refine Dev.Wf.foldPair _ ?_ ?_; rotate_left; intro e x he)
    | split
    | simp only [Dev.wf_built]
    | with_reducible apply Dev.Built.other
    | with_reducible apply Dev.Wf.itePair
    | with_reducible (refine Dev.Wf.ofPair (by assumption) ?_)
    | with_reducible (refine Dev.Wf.ofPairSnd (by assumption) ?_)
    | with_reducible dsimp only)

theorem Dev.dataSettle_wf (d : Dev) (h_d : d.Wf) :
    Dev.Wf (Dev.dataSettle d) := by
  unfold Dev.dataSettle
  try dsimp only
  repeat' (first
    | with_reducible assumption
    | with_reducible apply Dev.safeAtOnce_wf
    | with_reducible apply Dev.outJudge_wf
    | with_reducible apply Dev.Wf.ite
    | with_reducible (refine Dev.Wf.fold _ ?_ ?_; rotate_left; intro e x he)
    | with_reducible (refine Dev.Wf.foldPair _ ?_ ?_; rotate_left; intro e x he)
    | split
    | simp only [Dev.wf_built]
    | with_reducible apply Dev.Built.other
    | with_reducible apply Dev.Wf.itePair
    | with_reducible (refine Dev.Wf.ofPair (by assumption) ?_)
    | with_reducible (refine Dev.Wf.ofPairSnd (by assumption) ?_)
    | with_reducible dsimp only)

theorem Dev.tcCount_wf (d : Dev) (t : Nat) (isLate : Bool) (h_d : d.Wf) :
    Dev.Wf (Dev.tcCount d t isLate) := by
  unfold Dev.tcCount
  try dsimp only
  repeat' (first
    | with_reducible assumption
    | with_reducible apply Dev.setTc_wf
    | with_reducible apply Dev.Wf.ite
    | with_reducible (refine Dev.Wf.fold _ ?_ ?_; rotate_left; intro e x he)
    | with_reducible (refine Dev.Wf.foldPair _ ?_ ?_; rotate_left; intro e x he)
    | split
    | simp only [Dev.wf_built]
    | with_reducible apply Dev.Built.other
    | with_reducible apply Dev.Wf.itePair
    | with_reducible (refine Dev.Wf.ofPair (by assumption) ?_)
    | with_reducible (refine Dev.Wf.ofPairSnd (by assumption) ?_)
    | with_reducible dsimp only)

theorem Dev.brickLate_wf (d : Dev) (t : Nat) (h_d : d.Wf) :
    Dev.Wf (Dev.brickLate d t) := by
  unfold Dev.brickLate
  try dsimp only
  repeat' (first
    | with_reducible assumption
    | with_reducible apply Dev.setEvt_wf
    | with_reducible apply Dev.inc_wf
    | with_reducible apply Dev.tcCount_wf
    | with_reducible apply Dev.Wf.ite
    | with_reducible (refine Dev.Wf.fold _ ?_ ?_; rotate_left; intro e x he)
    | with_reducible (refine Dev.Wf.foldPair _ ?_ ?_; rotate_left; intro e x he)
    | split
    | simp only [Dev.wf_built]
    | with_reducible apply Dev.Built.other
    | with_reducible apply Dev.Wf.itePair
    | with_reducible (refine Dev.Wf.ofPair (by assumption) ?_)
    | with_reducible (refine Dev.Wf.ofPairSnd (by assumption) ?_)
    | with_reducible dsimp only)

theorem Dev.itemCount_wf (d : Dev) (items : List Sys2Proof.LateItem) (x : Sys2Proof.LateItem) (h_d : d.Wf) :
    (Dev.itemCount d items x).1.Wf := by
  unfold Dev.itemCount
  try dsimp only
  repeat' (first
    | with_reducible assumption
    | with_reducible apply Dev.inc_wf
    | with_reducible apply Dev.brickLate_wf
    | with_reducible apply Dev.tcCount_wf
    | with_reducible apply Dev.Wf.ite
    | with_reducible (refine Dev.Wf.fold _ ?_ ?_; rotate_left; intro e x he)
    | with_reducible (refine Dev.Wf.foldPair _ ?_ ?_; rotate_left; intro e x he)
    | split
    | simp only [Dev.wf_built]
    | with_reducible apply Dev.Built.other
    | with_reducible apply Dev.Wf.itePair
    | with_reducible (refine Dev.Wf.ofPair (by assumption) ?_)
    | with_reducible (refine Dev.Wf.ofPairSnd (by assumption) ?_)
    | with_reducible dsimp only)

theorem Dev.memReadLate_wf (d : Dev) (x : Sys2Proof.LateItem) (h_d : d.Wf) :
    Dev.Wf (Dev.memReadLate d x) := by
  unfold Dev.memReadLate
  try dsimp only
  repeat' (first
    | with_reducible assumption
    | with_reducible apply Dev.chLate_wf
    | with_reducible apply Dev.Wf.ite
    | with_reducible (refine Dev.Wf.fold _ ?_ ?_; rotate_left; intro e x he)
    | with_reducible (refine Dev.Wf.foldPair _ ?_ ?_; rotate_left; intro e x he)
    | split
    | simp only [Dev.wf_built]
    | with_reducible apply Dev.Built.other
    | with_reducible apply Dev.Wf.itePair
    | with_reducible (refine Dev.Wf.ofPair (by assumption) ?_)
    | with_reducible (refine Dev.Wf.ofPairSnd (by assumption) ?_)
    | with_reducible dsimp only)

theorem Dev.bufferEmpty_wf (d : Dev) (t : ℕ) (items : List Sys2Proof.LateItem) (prev : List Brick) (bs : List Brick) (h_d : d.Wf) :
    (Dev.bufferEmpty d t items prev bs).1.Wf := by
  unfold Dev.bufferEmpty
  try dsimp only
  repeat' (first
    | with_reducible assumption
    | with_reducible apply Dev.brickLate_wf
    | with_reducible apply Dev.Wf.ite
    | with_reducible (refine Dev.Wf.fold _ ?_ ?_; rotate_left; intro e x he)
    | with_reducible (refine Dev.Wf.foldPair _ ?_ ?_; rotate_left; intro e x he)
    | split
    | simp only [Dev.wf_built]
    | with_reducible apply Dev.Built.other
    | with_reducible apply Dev.Wf.itePair
    | with_reducible (refine Dev.Wf.ofPair (by assumption) ?_)
    | with_reducible (refine Dev.Wf.ofPairSnd (by assumption) ?_)
    | with_reducible dsimp only)

theorem Dev.safeBricks_wf (d : Dev) (t : Nat) (line : Nat) (h_d : d.Wf) :
    (Dev.safeBricks d t line).1.Wf := by
  unfold Dev.safeBricks
  try dsimp only
  repeat' (first
    | with_reducible assumption
    | with_reducible apply Dev.setTc_wf
    | with_reducible apply Dev.inc_wf
    | with_reducible apply Dev.Wf.ite
    | with_reducible (refine Dev.Wf.fold _ ?_ ?_; rotate_left; intro e x he)
    | with_reducible (refine Dev.Wf.foldPair _ ?_ ?_; rotate_left; intro e x he)
    | split
    | simp only [Dev.wf_built]
    | with_reducible apply Dev.Built.other
    | with_reducible apply Dev.Wf.itePair
    | with_reducible (refine Dev.Wf.ofPair (by assumption) ?_)
    | with_reducible (refine Dev.Wf.ofPairSnd (by assumption) ?_)
    | with_reducible dsimp only)

theorem Dev.gateSafe_wf (d : Dev) (t : Nat) (h_d : d.Wf) :
    Dev.Wf (Dev.gateSafe d t) := by
  unfold Dev.gateSafe
  try dsimp only
  repeat' (first
    | with_reducible assumption
    | with_reducible apply Dev.setTc_wf
    | with_reducible apply Dev.inc_wf
    | with_reducible apply Dev.Wf.ite
    | with_reducible (refine Dev.Wf.fold _ ?_ ?_; rotate_left; intro e x he)
    | with_reducible (refine Dev.Wf.foldPair _ ?_ ?_; rotate_left; intro e x he)
    | split
    | simp only [Dev.wf_built]
    | with_reducible apply Dev.Built.other
    | with_reducible apply Dev.Wf.itePair
    | with_reducible (refine Dev.Wf.ofPair (by assumption) ?_)
    | with_reducible (refine Dev.Wf.ofPairSnd (by assumption) ?_)
    | with_reducible dsimp only)

theorem Dev.gateBricks_wf (d : Dev) (t : ℕ) (line : ℕ) (items : List Sys2Proof.LateItem) (h_d : d.Wf) :
    Dev.Wf (Dev.gateBricks d t line items) := by
  unfold Dev.gateBricks
  try dsimp only
  repeat' (first
    | with_reducible assumption
    | with_reducible apply Dev.safeBricks_wf
    | with_reducible apply Dev.bufferEmpty_wf
    | with_reducible apply Dev.setTc_wf
    | with_reducible apply Dev.itemCount_wf
    | with_reducible apply Dev.Wf.ite
    | with_reducible (refine Dev.Wf.fold _ ?_ ?_; rotate_left; intro e x he)
    | with_reducible (refine Dev.Wf.foldPair _ ?_ ?_; rotate_left; intro e x he)
    | split
    | simp only [Dev.wf_built]
    | with_reducible apply Dev.Built.other
    | with_reducible apply Dev.Wf.itePair
    | with_reducible (refine Dev.Wf.ofPair (by assumption) ?_)
    | with_reducible (refine Dev.Wf.ofPairSnd (by assumption) ?_)
    | with_reducible dsimp only)

theorem Dev.setProbe_wf (d : Dev) (p : Nat) (v : ProbeI) (h_d : d.Wf) :
    Dev.Wf (Dev.setProbe d p v) := by
  unfold Dev.setProbe
  try dsimp only
  repeat' (first
    | with_reducible assumption
    | with_reducible apply Dev.Wf.ite
    | with_reducible (refine Dev.Wf.fold _ ?_ ?_; rotate_left; intro e x he)
    | with_reducible (refine Dev.Wf.foldPair _ ?_ ?_; rotate_left; intro e x he)
    | split
    | simp only [Dev.wf_built]
    | with_reducible apply Dev.Built.other
    | with_reducible apply Dev.Built.up_probes
    | with_reducible apply Map.wf_put
    | with_reducible apply Map.wf_filter
    | exact rfl
    | with_reducible apply Dev.Wf.probes
    | with_reducible apply Dev.Wf.itePair
    | with_reducible (refine Dev.Wf.ofPair (by assumption) ?_)
    | with_reducible (refine Dev.Wf.ofPairSnd (by assumption) ?_)
    | with_reducible dsimp only)

theorem Dev.probeSee_wf (d : Dev) (p : Nat) (bs : List Brick) (h_d : d.Wf) :
    Dev.Wf (Dev.probeSee d p bs) := by
  unfold Dev.probeSee
  try dsimp only
  repeat' (first
    | with_reducible assumption
    | with_reducible apply Dev.setProbe_wf
    | with_reducible apply Dev.Wf.ite
    | with_reducible (refine Dev.Wf.fold _ ?_ ?_; rotate_left; intro e x he)
    | with_reducible (refine Dev.Wf.foldPair _ ?_ ?_; rotate_left; intro e x he)
    | split
    | simp only [Dev.wf_built]
    | with_reducible apply Dev.Built.other
    | with_reducible apply Dev.Wf.itePair
    | with_reducible (refine Dev.Wf.ofPair (by assumption) ?_)
    | with_reducible (refine Dev.Wf.ofPairSnd (by assumption) ?_)
    | with_reducible dsimp only)

theorem Dev.probeFrame_wf (d : Dev) (p : Nat) (h_d : d.Wf) :
    Dev.Wf (Dev.probeFrame d p) := by
  unfold Dev.probeFrame
  try dsimp only
  repeat' (first
    | with_reducible assumption
    | with_reducible apply Dev.wrOn_wf
    | with_reducible apply Dev.wr_wf
    | with_reducible apply Dev.setProbe_wf
    | with_reducible apply Dev.setEvtIf_wf
    | with_reducible apply Dev.Wf.ite
    | with_reducible (refine Dev.Wf.fold _ ?_ ?_; rotate_left; intro e x he)
    | with_reducible (refine Dev.Wf.foldPair _ ?_ ?_; rotate_left; intro e x he)
    | split
    | simp only [Dev.wf_built]
    | with_reducible apply Dev.Built.other
    | with_reducible apply Dev.Wf.itePair
    | with_reducible (refine Dev.Wf.ofPair (by assumption) ?_)
    | with_reducible (refine Dev.Wf.ofPairSnd (by assumption) ?_)
    | with_reducible dsimp only)

theorem Dev.probeFrames_wf (d : Dev) (k : Nat) (h_d : d.Wf) :
    Dev.Wf (Dev.probeFrames d k) := by
  unfold Dev.probeFrames
  try dsimp only
  repeat' (first
    | with_reducible assumption
    | with_reducible apply Dev.probeFrame_wf
    | with_reducible apply Dev.Wf.ite
    | with_reducible (refine Dev.Wf.fold _ ?_ ?_; rotate_left; intro e x he)
    | with_reducible (refine Dev.Wf.foldPair _ ?_ ?_; rotate_left; intro e x he)
    | split
    | simp only [Dev.wf_built]
    | with_reducible apply Dev.Built.other
    | with_reducible apply Dev.Wf.itePair
    | with_reducible (refine Dev.Wf.ofPair (by assumption) ?_)
    | with_reducible (refine Dev.Wf.ofPairSnd (by assumption) ?_)
    | with_reducible dsimp only)

theorem Dev.ancWallLate_wf (d : Dev) (t : ℕ) (kind : ℕ) (items : List Sys2Proof.LateItem) (rs : List (PktRec × Option ℤ)) (h_d : d.Wf) :
    (Dev.ancWallLate d t kind items rs).1.Wf := by
  unfold Dev.ancWallLate
  try dsimp only
  repeat' (first
    | with_reducible assumption
    | with_reducible apply Dev.inc_wf
    | with_reducible apply Dev.add_wf
    | with_reducible apply Dev.setEvt_wf
    | with_reducible apply Dev.ancDrop_wf
    | with_reducible apply Dev.Wf.ite
    | with_reducible (refine Dev.Wf.fold _ ?_ ?_; rotate_left; intro e x he)
    | with_reducible (refine Dev.Wf.foldPair _ ?_ ?_; rotate_left; intro e x he)
    | split
    | simp only [Dev.wf_built]
    | with_reducible apply Dev.Built.other
    | with_reducible apply Dev.Wf.itePair
    | with_reducible (refine Dev.Wf.ofPair (by assumption) ?_)
    | with_reducible (refine Dev.Wf.ofPairSnd (by assumption) ?_)
    | with_reducible dsimp only)

end Sys2Proof.Machine
end

