-- ==== Sys2Proof/Laws/WfOutput.lean ====
section
/-! SUPPORT. The operations of Machine/Output.lean keep every table of the block canonical. -/

set_option linter.unusedTactic false
set_option linter.unreachableTactic false

namespace Sys2Proof.Machine

theorem Dev.insDrop_wf (d : Dev) (x : OutRec) (h_d : d.Wf) :
    Dev.Wf (Dev.insDrop d x) := by
  unfold Dev.insDrop
  try dsimp only
  repeat' (first
    | with_reducible assumption
    | with_reducible apply Dev.recLost_wf
    | with_reducible apply Dev.Wf.ite
    | with_reducible (refine Dev.Wf.fold _ ?_ ?_; rotate_left; intro e x he)
    | with_reducible (refine Dev.Wf.foldPair _ ?_ ?_; rotate_left; intro e x he)
    | split
    | simp only [Dev.wf_built]
    | with_reducible apply Dev.Built.other
    | with_reducible apply Dev.Wf.itePair
    | with_reducible (refine Dev.Wf.ofPair (by assumption) ?_)
    | with_reducible (refine Dev.Wf.ofPairSnd (by assumption) ?_)
    | with_reducible dsimp only)

theorem Dev.finishLine_wf (d : Dev) (n : ℕ) (h_d : d.Wf) :
    Dev.Wf (Dev.finishLine d n) := by
  unfold Dev.finishLine
  try dsimp only
  repeat' (first
    | with_reducible assumption
    | with_reducible apply Dev.bwAdd_wf
    | with_reducible apply Dev.insDrop_wf
    | with_reducible apply Dev.setOut_wf
    | with_reducible apply Dev.Wf.ite
    | with_reducible (refine Dev.Wf.fold _ ?_ ?_; rotate_left; intro e x he)
    | with_reducible (refine Dev.Wf.foldPair _ ?_ ?_; rotate_left; intro e x he)
    | split
    | simp only [Dev.wf_built]
    | with_reducible apply Dev.Built.other
    | with_reducible apply Dev.Wf.itePair
    | with_reducible (refine Dev.Wf.ofPair (by assumption) ?_)
    | with_reducible (refine Dev.Wf.ofPairSnd (by assumption) ?_)
    | with_reducible dsimp only)

theorem Dev.audField_wf (d : Dev) (n : ℕ) (h_d : d.Wf) :
    Dev.Wf (Dev.audField d n) := by
  unfold Dev.audField
  try dsimp only
  repeat' (first
    | with_reducible assumption
    | with_reducible apply Dev.setOut_wf
    | with_reducible apply Dev.Wf.ite
    | with_reducible (refine Dev.Wf.fold _ ?_ ?_; rotate_left; intro e x he)
    | with_reducible (refine Dev.Wf.foldPair _ ?_ ?_; rotate_left; intro e x he)
    | split
    | simp only [Dev.wf_built]
    | with_reducible apply Dev.Built.other
    | with_reducible apply Dev.Wf.itePair
    | with_reducible (refine Dev.Wf.ofPair (by assumption) ?_)
    | with_reducible (refine Dev.Wf.ofPairSnd (by assumption) ?_)
    | with_reducible dsimp only)

theorem Dev.lineAudio_wf (d : Dev) (n : ℕ) (line : ℕ) (h_d : d.Wf) :
    Dev.Wf (Dev.lineAudio d n line) := by
  unfold Dev.lineAudio
  try dsimp only
  repeat' (first
    | with_reducible assumption
    | with_reducible apply Dev.setOut_wf
    | with_reducible apply Dev.Wf.ite
    | with_reducible (refine Dev.Wf.fold _ ?_ ?_; rotate_left; intro e x he)
    | with_reducible (refine Dev.Wf.foldPair _ ?_ ?_; rotate_left; intro e x he)
    | split
    | simp only [Dev.wf_built]
    | with_reducible apply Dev.Built.other
    | with_reducible apply Dev.Wf.itePair
    | with_reducible (refine Dev.Wf.ofPair (by assumption) ?_)
    | with_reducible (refine Dev.Wf.ofPairSnd (by assumption) ?_)
    | with_reducible dsimp only)

theorem Dev.beginWords_wf (d : Dev) (n : ℕ) (line : ℕ) (active : List (List Sys2Proof.Word10)) (recs : List OutRec) (next : List OutRec) (h_d : d.Wf) :
    Dev.Wf (Dev.beginWords d n line active recs next) := by
  unfold Dev.beginWords
  try dsimp only
  repeat' (first
    | with_reducible assumption
    | with_reducible apply Dev.finishLine_wf
    | with_reducible apply Dev.audField_wf
    | with_reducible apply Dev.setOut_wf
    | with_reducible apply Dev.lineAudio_wf
    | with_reducible apply Dev.Wf.ite
    | with_reducible (refine Dev.Wf.fold _ ?_ ?_; rotate_left; intro e x he)
    | with_reducible (refine Dev.Wf.foldPair _ ?_ ?_; rotate_left; intro e x he)
    | split
    | simp only [Dev.wf_built]
    | with_reducible apply Dev.Built.other
    | with_reducible apply Dev.Wf.itePair
    | with_reducible (refine Dev.Wf.ofPair (by assumption) ?_)
    | with_reducible (refine Dev.Wf.ofPairSnd (by assumption) ?_)
    | with_reducible dsimp only)

theorem Dev.beginLine_wf (d : Dev) (n : ℕ) (line : ℕ) (tiles : List (List Brick)) (recs : List OutRec) (next : List OutRec) (h_d : d.Wf) :
    Dev.Wf (Dev.beginLine d n line tiles recs next) := by
  unfold Dev.beginLine
  try dsimp only
  repeat' (first
    | with_reducible assumption
    | with_reducible apply Dev.bwAdd_wf
    | with_reducible apply Dev.beginWords_wf
    | with_reducible apply Dev.Wf.ite
    | with_reducible (refine Dev.Wf.fold _ ?_ ?_; rotate_left; intro e x he)
    | with_reducible (refine Dev.Wf.foldPair _ ?_ ?_; rotate_left; intro e x he)
    | split
    | simp only [Dev.wf_built]
    | with_reducible apply Dev.Built.other
    | with_reducible apply Dev.Wf.itePair
    | with_reducible (refine Dev.Wf.ofPair (by assumption) ?_)
    | with_reducible (refine Dev.Wf.ofPairSnd (by assumption) ?_)
    | with_reducible dsimp only)

theorem Dev.tileRecs_wf (d : Dev) (t : ℕ) (line : ℕ) (items : List Sys2Proof.LateItem) (h_d : d.Wf) :
    Dev.Wf (Dev.tileRecs d t line items) := by
  unfold Dev.tileRecs
  try dsimp only
  repeat' (first
    | with_reducible assumption
    | with_reducible apply Dev.ancWallLate_wf
    | with_reducible apply Dev.lengSend_wf
    | with_reducible apply Dev.setOut_wf
    | with_reducible apply Dev.recLost_wf
    | with_reducible apply Dev.Wf.ite
    | with_reducible (refine Dev.Wf.fold _ ?_ ?_; rotate_left; intro e x he)
    | with_reducible (refine Dev.Wf.foldPair _ ?_ ?_; rotate_left; intro e x he)
    | split
    | simp only [Dev.wf_built]
    | with_reducible apply Dev.Built.other
    | with_reducible apply Dev.Wf.itePair
    | with_reducible (refine Dev.Wf.ofPair (by assumption) ?_)
    | with_reducible (refine Dev.Wf.ofPairSnd (by assumption) ?_)
    | with_reducible dsimp only)

theorem Dev.laneCourse_wf (d : Dev) (n : ℕ) (line : ℕ) (items : List Sys2Proof.LateItem) (h_d : d.Wf) :
    Dev.Wf (Dev.laneCourse d n line items) := by
  unfold Dev.laneCourse
  try dsimp only
  repeat' (first
    | with_reducible assumption
    | with_reducible apply Dev.beginLine_wf
    | with_reducible apply Dev.tileRecs_wf
    | with_reducible apply Dev.Wf.ite
    | with_reducible (refine Dev.Wf.fold _ ?_ ?_; rotate_left; intro e x he)
    | with_reducible (refine Dev.Wf.foldPair _ ?_ ?_; rotate_left; intro e x he)
    | split
    | simp only [Dev.wf_built]
    | with_reducible apply Dev.Built.other
    | with_reducible apply Dev.Wf.itePair
    | with_reducible (refine Dev.Wf.ofPair (by assumption) ?_)
    | with_reducible (refine Dev.Wf.ofPairSnd (by assumption) ?_)
    | with_reducible dsimp only)

theorem Dev.routeBricks_wf (d : Dev) (n : ℕ) (k : ℕ) (items : List Sys2Proof.LateItem) (bs : List Brick) (h_d : d.Wf) :
    (Dev.routeBricks d n k items bs).1.Wf := by
  unfold Dev.routeBricks
  try dsimp only
  repeat' (first
    | with_reducible assumption
    | with_reducible apply Dev.bufferEmpty_wf
    | with_reducible apply Dev.setTc_wf
    | with_reducible apply Dev.Wf.ite
    | with_reducible (refine Dev.Wf.fold _ ?_ ?_; rotate_left; intro e x he)
    | with_reducible (refine Dev.Wf.foldPair _ ?_ ?_; rotate_left; intro e x he)
    | split
    | simp only [Dev.wf_built]
    | with_reducible apply Dev.Built.other
    | with_reducible apply Dev.Wf.itePair
    | with_reducible (refine Dev.Wf.ofPair (by assumption) ?_)
    | with_reducible (refine Dev.Wf.ofPairSnd (by assumption) ?_)
    | with_reducible dsimp only)

theorem Dev.routeTiles_wf (d : Dev) (n : ℕ) (f : ℕ) (line : ℕ) (items : List Sys2Proof.LateItem) (h_d : d.Wf) :
    (Dev.routeTiles d n f line items).1.Wf := by
  unfold Dev.routeTiles
  try dsimp only
  repeat' (first
    | with_reducible assumption
    | with_reducible apply Dev.routeBricks_wf
    | with_reducible apply Dev.Wf.ite
    | with_reducible (refine Dev.Wf.fold _ ?_ ?_; rotate_left; intro e x he)
    | with_reducible (refine Dev.Wf.foldPair _ ?_ ?_; rotate_left; intro e x he)
    | split
    | simp only [Dev.wf_built]
    | with_reducible apply Dev.Built.other
    | with_reducible apply Dev.Wf.itePair
    | with_reducible (refine Dev.Wf.ofPair (by assumption) ?_)
    | with_reducible (refine Dev.Wf.ofPairSnd (by assumption) ?_)
    | with_reducible dsimp only)

theorem Dev.routeLine_wf (d : Dev) (f : ℕ) (line : ℕ) (items : List Sys2Proof.LateItem) (h_d : d.Wf) :
    Dev.Wf (Dev.routeLine d f line items) := by
  unfold Dev.routeLine
  try dsimp only
  repeat' (first
    | with_reducible assumption
    | with_reducible apply Dev.routeTiles_wf
    | with_reducible apply Dev.beginLine_wf
    | with_reducible apply Dev.lengSend_wf
    | with_reducible apply Dev.Wf.ite
    | with_reducible (refine Dev.Wf.fold _ ?_ ?_; rotate_left; intro e x he)
    | with_reducible (refine Dev.Wf.foldPair _ ?_ ?_; rotate_left; intro e x he)
    | split
    | simp only [Dev.wf_built]
    | with_reducible apply Dev.Built.other
    | with_reducible apply Dev.Built.up_tiles
    | with_reducible apply Map.wf_put
    | with_reducible apply Map.wf_filter
    | exact rfl
    | with_reducible apply Dev.Wf.tiles
    | with_reducible apply Dev.Wf.itePair
    | with_reducible (refine Dev.Wf.ofPair (by assumption) ?_)
    | with_reducible (refine Dev.Wf.ofPairSnd (by assumption) ?_)
    | with_reducible dsimp only)

theorem Dev.routeBlank_wf (d : Dev) (f : ℕ) (h_d : d.Wf) :
    Dev.Wf (Dev.routeBlank d f) := by
  unfold Dev.routeBlank
  try dsimp only
  repeat' (first
    | with_reducible assumption
    | with_reducible apply Dev.setOut_wf
    | with_reducible apply Dev.Wf.ite
    | with_reducible (refine Dev.Wf.fold _ ?_ ?_; rotate_left; intro e x he)
    | with_reducible (refine Dev.Wf.foldPair _ ?_ ?_; rotate_left; intro e x he)
    | split
    | simp only [Dev.wf_built]
    | with_reducible apply Dev.Built.other
    | with_reducible apply Dev.Wf.itePair
    | with_reducible (refine Dev.Wf.ofPair (by assumption) ?_)
    | with_reducible (refine Dev.Wf.ofPairSnd (by assumption) ?_)
    | with_reducible dsimp only)

theorem Dev.idleLine_wf (d : Dev) (n : ℕ) (h_d : d.Wf) :
    Dev.Wf (Dev.idleLine d n) := by
  unfold Dev.idleLine
  try dsimp only
  repeat' (first
    | with_reducible assumption
    | with_reducible apply Dev.beginWords_wf
    | with_reducible apply Dev.Wf.ite
    | with_reducible (refine Dev.Wf.fold _ ?_ ?_; rotate_left; intro e x he)
    | with_reducible (refine Dev.Wf.foldPair _ ?_ ?_; rotate_left; intro e x he)
    | split
    | simp only [Dev.wf_built]
    | with_reducible apply Dev.Built.other
    | with_reducible apply Dev.Wf.itePair
    | with_reducible (refine Dev.Wf.ofPair (by assumption) ?_)
    | with_reducible (refine Dev.Wf.ofPairSnd (by assumption) ?_)
    | with_reducible dsimp only)

theorem Dev.idlePeriod_wf (d : Dev) (n : ℕ) (h_d : d.Wf) :
    Dev.Wf (Dev.idlePeriod d n) := by
  unfold Dev.idlePeriod
  try dsimp only
  repeat' (first
    | with_reducible assumption
    | with_reducible apply Dev.setOut_wf
    | with_reducible apply Dev.idleLine_wf
    | with_reducible apply Dev.Wf.ite
    | with_reducible (refine Dev.Wf.fold _ ?_ ?_; rotate_left; intro e x he)
    | with_reducible (refine Dev.Wf.foldPair _ ?_ ?_; rotate_left; intro e x he)
    | split
    | simp only [Dev.wf_built]
    | with_reducible apply Dev.Built.other
    | with_reducible apply Dev.Wf.itePair
    | with_reducible (refine Dev.Wf.ofPair (by assumption) ?_)
    | with_reducible (refine Dev.Wf.ofPairSnd (by assumption) ?_)
    | with_reducible dsimp only)

theorem Dev.embedPeriod_wf (d : Dev) (n : ℕ) (h_d : d.Wf) :
    Dev.Wf (Dev.embedPeriod d n) := by
  unfold Dev.embedPeriod
  try dsimp only
  repeat' (first
    | with_reducible assumption
    | with_reducible apply Dev.bwAdd_wf
    | with_reducible apply Dev.setOut_wf
    | with_reducible apply Dev.Wf.ite
    | with_reducible (refine Dev.Wf.fold _ ?_ ?_; rotate_left; intro e x he)
    | with_reducible (refine Dev.Wf.foldPair _ ?_ ?_; rotate_left; intro e x he)
    | split
    | simp only [Dev.wf_built]
    | with_reducible apply Dev.Built.other
    | with_reducible apply Dev.Built.up_groups
    | with_reducible apply Map.wf_put
    | with_reducible apply Map.wf_filter
    | exact rfl
    | with_reducible apply Dev.Wf.groups
    | with_reducible apply Dev.Wf.itePair
    | with_reducible (refine Dev.Wf.ofPair (by assumption) ?_)
    | with_reducible (refine Dev.Wf.ofPairSnd (by assumption) ?_)
    | with_reducible dsimp only)

theorem Dev.madiPeriod_wf (d : Dev) (n : ℕ) (h_d : d.Wf) :
    Dev.Wf (Dev.madiPeriod d n) := by
  unfold Dev.madiPeriod
  try dsimp only
  repeat' (first
    | with_reducible assumption
    | with_reducible apply Dev.bwAdd_wf
    | with_reducible apply Dev.setOut_wf
    | with_reducible apply Dev.Wf.ite
    | with_reducible (refine Dev.Wf.fold _ ?_ ?_; rotate_left; intro e x he)
    | with_reducible (refine Dev.Wf.foldPair _ ?_ ?_; rotate_left; intro e x he)
    | split
    | simp only [Dev.wf_built]
    | with_reducible apply Dev.Built.other
    | with_reducible apply Dev.Wf.itePair
    | with_reducible (refine Dev.Wf.ofPair (by assumption) ?_)
    | with_reducible (refine Dev.Wf.ofPairSnd (by assumption) ?_)
    | with_reducible dsimp only)

theorem Dev.asiPut_wf (d : Dev) (n : ℕ) (src : ℕ) (p : List Brick) (h_d : d.Wf) :
    Dev.Wf (Dev.asiPut d n src p) := by
  unfold Dev.asiPut
  try dsimp only
  repeat' (first
    | with_reducible assumption
    | with_reducible apply Dev.setOut_wf
    | with_reducible apply Dev.tcCount_wf
    | with_reducible apply Dev.add_wf
    | with_reducible apply Dev.Wf.ite
    | with_reducible (refine Dev.Wf.fold _ ?_ ?_; rotate_left; intro e x he)
    | with_reducible (refine Dev.Wf.foldPair _ ?_ ?_; rotate_left; intro e x he)
    | split
    | simp only [Dev.wf_built]
    | with_reducible apply Dev.Built.other
    | with_reducible apply Dev.Wf.itePair
    | with_reducible (refine Dev.Wf.ofPair (by assumption) ?_)
    | with_reducible (refine Dev.Wf.ofPairSnd (by assumption) ?_)
    | with_reducible dsimp only)

theorem Dev.asiPeriod_wf (d : Dev) (n : Nat) (h_d : d.Wf) :
    Dev.Wf (Dev.asiPeriod d n) := by
  unfold Dev.asiPeriod
  try dsimp only
  repeat' (first
    | with_reducible assumption
    | with_reducible apply Dev.setOut_wf
    | with_reducible apply Dev.Wf.ite
    | with_reducible (refine Dev.Wf.fold _ ?_ ?_; rotate_left; intro e x he)
    | with_reducible (refine Dev.Wf.foldPair _ ?_ ?_; rotate_left; intro e x he)
    | split
    | simp only [Dev.wf_built]
    | with_reducible apply Dev.Built.other
    | with_reducible apply Dev.Wf.itePair
    | with_reducible (refine Dev.Wf.ofPair (by assumption) ?_)
    | with_reducible (refine Dev.Wf.ofPairSnd (by assumption) ?_)
    | with_reducible dsimp only)

theorem Dev.outPeriod_wf (d : Dev) (h_d : d.Wf) :
    Dev.Wf (Dev.outPeriod d) := by
  unfold Dev.outPeriod
  try dsimp only
  repeat' (first
    | with_reducible assumption
    | with_reducible apply Dev.madiPeriod_wf
    | with_reducible apply Dev.asiPeriod_wf
    | with_reducible apply Dev.idlePeriod_wf
    | with_reducible apply Dev.embedPeriod_wf
    | with_reducible apply Dev.Wf.ite
    | with_reducible (refine Dev.Wf.fold _ ?_ ?_; rotate_left; intro e x he)
    | with_reducible (refine Dev.Wf.foldPair _ ?_ ?_; rotate_left; intro e x he)
    | split
    | simp only [Dev.wf_built]
    | with_reducible apply Dev.Built.other
    | with_reducible apply Dev.Wf.itePair
    | with_reducible (refine Dev.Wf.ofPair (by assumption) ?_)
    | with_reducible (refine Dev.Wf.ofPairSnd (by assumption) ?_)
    | with_reducible dsimp only)

end Sys2Proof.Machine
end

