-- ==== Sys2Proof/Laws/WfTileLink.lean ====
section
/-! SUPPORT. The operations of Machine/TileLink.lean keep every table of the block canonical. -/

set_option linter.unusedTactic false
set_option linter.unreachableTactic false

namespace Sys2Proof.Machine

theorem Dev.setRxs_wf (d : Dev) (n : Nat) (k : Nat) (v : RxSlotI) (h_d : d.Wf) :
    Dev.Wf (Dev.setRxs d n k v) := by
  unfold Dev.setRxs
  try dsimp only
  repeat' (first
    | with_reducible assumption
    | with_reducible apply Dev.setTlr_wf
    | with_reducible apply Dev.Wf.ite
    | with_reducible (refine Dev.Wf.fold _ ?_ ?_; rotate_left; intro e x he)
    | with_reducible (refine Dev.Wf.foldPair _ ?_ ?_; rotate_left; intro e x he)
    | split
    | simp only [Dev.wf_built]
    | with_reducible apply Dev.Built.other
    | with_reducible apply Dev.Built.up_slots
    | with_reducible apply Map.wf_put
    | with_reducible apply Map.wf_filter
    | exact rfl
    | with_reducible apply Dev.Wf.slots
    | with_reducible apply Dev.Wf.itePair
    | with_reducible (refine Dev.Wf.ofPair (by assumption) ?_)
    | with_reducible (refine Dev.Wf.ofPairSnd (by assumption) ?_)
    | with_reducible dsimp only)

theorem Dev.slotWr_wf (d : Dev) (n : Nat) (k : Nat) (f : Fld) (v : Nat) (h_d : d.Wf) :
    Dev.Wf (Dev.slotWr d n k f v) := by
  unfold Dev.slotWr
  try dsimp only
  repeat' (first
    | with_reducible assumption
    | with_reducible apply Dev.wr_wf
    | with_reducible apply Dev.Wf.ite
    | with_reducible (refine Dev.Wf.fold _ ?_ ?_; rotate_left; intro e x he)
    | with_reducible (refine Dev.Wf.foldPair _ ?_ ?_; rotate_left; intro e x he)
    | split
    | simp only [Dev.wf_built]
    | with_reducible apply Dev.Built.other
    | with_reducible apply Dev.Wf.itePair
    | with_reducible (refine Dev.Wf.ofPair (by assumption) ?_)
    | with_reducible (refine Dev.Wf.ofPairSnd (by assumption) ?_)
    | with_reducible dsimp only)

theorem Dev.tlRecord_wf (d : Dev) (n : Nat) (t : Nat) (line : Nat) (r : PktRec) (h_d : d.Wf) :
    Dev.Wf (Dev.tlRecord d n t line r) := by
  unfold Dev.tlRecord
  try dsimp only
  repeat' (first
    | with_reducible assumption
    | with_reducible apply Dev.ancInto_wf
    | with_reducible apply Dev.bwAdd_wf
    | with_reducible apply Dev.setTile_wf
    | with_reducible apply Dev.Wf.ite
    | with_reducible (refine Dev.Wf.fold _ ?_ ?_; rotate_left; intro e x he)
    | with_reducible (refine Dev.Wf.foldPair _ ?_ ?_; rotate_left; intro e x he)
    | split
    | simp only [Dev.wf_built]
    | with_reducible apply Dev.Built.other
    | with_reducible apply Dev.Wf.itePair
    | with_reducible (refine Dev.Wf.ofPair (by assumption) ?_)
    | with_reducible (refine Dev.Wf.ofPairSnd (by assumption) ?_)
    | with_reducible dsimp only)

theorem Dev.packetIn_wf (d : Dev) (t : ℕ) (p : List Brick) (h_d : d.Wf) :
    Dev.Wf (Dev.packetIn d t p) := by
  unfold Dev.packetIn
  try dsimp only
  repeat' (first
    | with_reducible assumption
    | with_reducible apply Dev.setTile_wf
    | with_reducible apply Dev.asiPut_wf
    | with_reducible apply Dev.setTlt_wf
    | with_reducible apply Dev.Wf.ite
    | with_reducible (refine Dev.Wf.fold _ ?_ ?_; rotate_left; intro e x he)
    | with_reducible (refine Dev.Wf.foldPair _ ?_ ?_; rotate_left; intro e x he)
    | split
    | simp only [Dev.wf_built]
    | with_reducible apply Dev.Built.other
    | with_reducible apply Dev.Built.up_slots
    | with_reducible apply Map.wf_put
    | with_reducible apply Map.wf_filter
    | exact rfl
    | with_reducible apply Dev.Wf.slots
    | with_reducible apply Dev.Wf.itePair
    | with_reducible (refine Dev.Wf.ofPair (by assumption) ?_)
    | with_reducible (refine Dev.Wf.ofPairSnd (by assumption) ?_)
    | with_reducible dsimp only)

theorem Dev.slotLine_wf (d : Dev) (n : ℕ) (k : ℕ) (line : ℕ) (ps : List Sys2Proof.Payload) (sub : ℕ) (late : Bool) (h_d : d.Wf) :
    Dev.Wf (Dev.slotLine d n k line ps sub late) := by
  unfold Dev.slotLine
  try dsimp only
  repeat' (first
    | with_reducible assumption
    | with_reducible apply Dev.bwAdd_wf
    | with_reducible apply Dev.pushLine_wf
    | with_reducible apply Dev.setTile_wf
    | with_reducible apply Dev.tlRecord_wf
    | with_reducible apply Dev.inc_wf
    | with_reducible apply Dev.fsLine_wf
    | with_reducible apply Dev.strmPush_wf
    | with_reducible apply Dev.packetIn_wf
    | with_reducible apply Dev.Wf.ite
    | with_reducible (refine Dev.Wf.fold _ ?_ ?_; rotate_left; intro e x he)
    | with_reducible (refine Dev.Wf.foldPair _ ?_ ?_; rotate_left; intro e x he)
    | split
    | simp only [Dev.wf_built]
    | with_reducible apply Dev.Built.other
    | with_reducible apply Dev.Wf.itePair
    | with_reducible (refine Dev.Wf.ofPair (by assumption) ?_)
    | with_reducible (refine Dev.Wf.ofPairSnd (by assumption) ?_)
    | with_reducible dsimp only)

theorem Dev.slotBrick_wf (d : Dev) (n : Nat) (k : Nat) (sub : Nat) (late : Bool) (p : Sys2Proof.Payload) (h_d : d.Wf) :
    Dev.Wf (Dev.slotBrick d n k sub late p) := by
  unfold Dev.slotBrick
  try dsimp only
  repeat' (first
    | with_reducible assumption
    | with_reducible apply Dev.setRxs_wf
    | with_reducible apply Dev.slotLine_wf
    | with_reducible apply Dev.Wf.ite
    | with_reducible (refine Dev.Wf.fold _ ?_ ?_; rotate_left; intro e x he)
    | with_reducible (refine Dev.Wf.foldPair _ ?_ ?_; rotate_left; intro e x he)
    | split
    | simp only [Dev.wf_built]
    | with_reducible apply Dev.Built.other
    | with_reducible apply Dev.Wf.itePair
    | with_reducible (refine Dev.Wf.ofPair (by assumption) ?_)
    | with_reducible (refine Dev.Wf.ofPairSnd (by assumption) ?_)
    | with_reducible dsimp only)

theorem Dev.slotFlush_wf (d : Dev) (n : Nat) (k : Nat) (sub : Nat) (late : Bool) (h_d : d.Wf) :
    Dev.Wf (Dev.slotFlush d n k sub late) := by
  unfold Dev.slotFlush
  try dsimp only
  repeat' (first
    | with_reducible assumption
    | with_reducible apply Dev.slotBrick_wf
    | with_reducible apply Dev.setRxs_wf
    | with_reducible apply Dev.Wf.ite
    | with_reducible (refine Dev.Wf.fold _ ?_ ?_; rotate_left; intro e x he)
    | with_reducible (refine Dev.Wf.foldPair _ ?_ ?_; rotate_left; intro e x he)
    | split
    | simp only [Dev.wf_built]
    | with_reducible apply Dev.Built.other
    | with_reducible apply Dev.Wf.itePair
    | with_reducible (refine Dev.Wf.ofPair (by assumption) ?_)
    | with_reducible (refine Dev.Wf.ofPairSnd (by assumption) ?_)
    | with_reducible dsimp only)

theorem Dev.slotRow_wf (d : Dev) (n : ℕ) (k : ℕ) (row : ℕ) (sub : ℕ) (late : Bool) (bs : List (BitVec 64)) (h_d : d.Wf) :
    Dev.Wf (Dev.slotRow d n k row sub late bs) := by
  unfold Dev.slotRow
  try dsimp only
  repeat' (first
    | with_reducible assumption
    | with_reducible apply Dev.slotFlush_wf
    | with_reducible apply Dev.setRxs_wf
    | with_reducible apply Dev.slotBrick_wf
    | with_reducible apply Dev.Wf.ite
    | with_reducible (refine Dev.Wf.fold _ ?_ ?_; rotate_left; intro e x he)
    | with_reducible (refine Dev.Wf.foldPair _ ?_ ?_; rotate_left; intro e x he)
    | split
    | simp only [Dev.wf_built]
    | with_reducible apply Dev.Built.other
    | with_reducible apply Dev.Wf.itePair
    | with_reducible (refine Dev.Wf.ofPair (by assumption) ?_)
    | with_reducible (refine Dev.Wf.ofPairSnd (by assumption) ?_)
    | with_reducible dsimp only)

theorem Dev.bondErrs_wf (d : Dev) (n : Nat) (h_d : d.Wf) :
    Dev.Wf (Dev.bondErrs d n) := by
  unfold Dev.bondErrs
  try dsimp only
  repeat' (first
    | with_reducible assumption
    | with_reducible apply Dev.slotWr_wf
    | with_reducible apply Dev.Wf.ite
    | with_reducible (refine Dev.Wf.fold _ ?_ ?_; rotate_left; intro e x he)
    | with_reducible (refine Dev.Wf.foldPair _ ?_ ?_; rotate_left; intro e x he)
    | split
    | simp only [Dev.wf_built]
    | with_reducible apply Dev.Built.other
    | with_reducible apply Dev.Wf.itePair
    | with_reducible (refine Dev.Wf.ofPair (by assumption) ?_)
    | with_reducible (refine Dev.Wf.ofPairSnd (by assumption) ?_)
    | with_reducible dsimp only)

theorem Dev.tlSettle_wf (d : Dev) (n : Nat) (h_d : d.Wf) :
    Dev.Wf (Dev.tlSettle d n) := by
  unfold Dev.tlSettle
  try dsimp only
  repeat' (first
    | with_reducible assumption
    | with_reducible apply Dev.dataSettle_wf
    | with_reducible apply Dev.outSettle_wf
    | with_reducible apply Dev.fsSettle_wf
    | with_reducible apply Dev.laneSettle_wf
    | with_reducible apply Dev.bondErrs_wf
    | with_reducible apply Dev.Wf.ite
    | with_reducible (refine Dev.Wf.fold _ ?_ ?_; rotate_left; intro e x he)
    | with_reducible (refine Dev.Wf.foldPair _ ?_ ?_; rotate_left; intro e x he)
    | split
    | simp only [Dev.wf_built]
    | with_reducible apply Dev.Built.other
    | with_reducible apply Dev.Wf.itePair
    | with_reducible (refine Dev.Wf.ofPair (by assumption) ?_)
    | with_reducible (refine Dev.Wf.ofPairSnd (by assumption) ?_)
    | with_reducible dsimp only)

theorem Dev.slotTake_wf (d : Dev) (n : Nat) (k : Nat) (h : Header) (h_d : d.Wf) :
    Dev.Wf (Dev.slotTake d n k h) := by
  unfold Dev.slotTake
  try dsimp only
  repeat' (first
    | with_reducible assumption
    | with_reducible apply Dev.slotWr_wf
    | with_reducible apply Dev.setRxs_wf
    | with_reducible apply Dev.Wf.ite
    | with_reducible (refine Dev.Wf.fold _ ?_ ?_; rotate_left; intro e x he)
    | with_reducible (refine Dev.Wf.foldPair _ ?_ ?_; rotate_left; intro e x he)
    | split
    | simp only [Dev.wf_built]
    | with_reducible apply Dev.Built.other
    | with_reducible apply Dev.Wf.itePair
    | with_reducible (refine Dev.Wf.ofPair (by assumption) ?_)
    | with_reducible (refine Dev.Wf.ofPairSnd (by assumption) ?_)
    | with_reducible dsimp only)

theorem Dev.slotRelock_wf (d : Dev) (n : Nat) (k : Nat) (h_d : d.Wf) :
    Dev.Wf (Dev.slotRelock d n k) := by
  unfold Dev.slotRelock
  try dsimp only
  repeat' (first
    | with_reducible assumption
    | with_reducible apply Dev.setEvt_wf
    | with_reducible apply Dev.add_wf
    | with_reducible apply Dev.slotWr_wf
    | with_reducible apply Dev.setRxs_wf
    | with_reducible apply Dev.Wf.ite
    | with_reducible (refine Dev.Wf.fold _ ?_ ?_; rotate_left; intro e x he)
    | with_reducible (refine Dev.Wf.foldPair _ ?_ ?_; rotate_left; intro e x he)
    | split
    | simp only [Dev.wf_built]
    | with_reducible apply Dev.Built.other
    | with_reducible apply Dev.Wf.itePair
    | with_reducible (refine Dev.Wf.ofPair (by assumption) ?_)
    | with_reducible (refine Dev.Wf.ofPairSnd (by assumption) ?_)
    | with_reducible dsimp only)

theorem Dev.slotMiss_wf (d : Dev) (n : Nat) (k : Nat) (dis : Nat) (h_d : d.Wf) :
    Dev.Wf (Dev.slotMiss d n k dis) := by
  unfold Dev.slotMiss
  try dsimp only
  repeat' (first
    | with_reducible assumption
    | with_reducible apply Dev.setRxs_wf
    | with_reducible apply Dev.slotRelock_wf
    | with_reducible apply Dev.Wf.ite
    | with_reducible (refine Dev.Wf.fold _ ?_ ?_; rotate_left; intro e x he)
    | with_reducible (refine Dev.Wf.foldPair _ ?_ ?_; rotate_left; intro e x he)
    | split
    | simp only [Dev.wf_built]
    | with_reducible apply Dev.Built.other
    | with_reducible apply Dev.Wf.itePair
    | with_reducible (refine Dev.Wf.ofPair (by assumption) ?_)
    | with_reducible (refine Dev.Wf.ofPairSnd (by assumption) ?_)
    | with_reducible dsimp only)

theorem Dev.headerBrick_wf (d : Dev) (n : Nat) (k : Nat) (p : Sys2Proof.Payload) (h_d : d.Wf) :
    Dev.Wf (Dev.headerBrick d n k p) := by
  unfold Dev.headerBrick
  try dsimp only
  repeat' (first
    | with_reducible assumption
    | with_reducible apply Dev.add_wf
    | with_reducible apply Dev.slotMiss_wf
    | with_reducible apply Dev.setRxs_wf
    | with_reducible apply Dev.slotWr_wf
    | with_reducible apply Dev.slotTake_wf
    | with_reducible apply Dev.Wf.ite
    | with_reducible (refine Dev.Wf.fold _ ?_ ?_; rotate_left; intro e x he)
    | with_reducible (refine Dev.Wf.foldPair _ ?_ ?_; rotate_left; intro e x he)
    | split
    | simp only [Dev.wf_built]
    | with_reducible apply Dev.Built.other
    | with_reducible apply Dev.Wf.itePair
    | with_reducible (refine Dev.Wf.ofPair (by assumption) ?_)
    | with_reducible (refine Dev.Wf.ofPairSnd (by assumption) ?_)
    | with_reducible dsimp only)

theorem Dev.headerReceived_wf (d : Dev) (n : ℕ) (k : ℕ) (sub : ℕ) (late : Bool) (h_d : d.Wf) :
    Dev.Wf (Dev.headerReceived d n k sub late) := by
  unfold Dev.headerReceived
  try dsimp only
  repeat' (first
    | with_reducible assumption
    | with_reducible apply Dev.slotFlush_wf
    | with_reducible apply Dev.tlSettle_wf
    | with_reducible apply Dev.headerBrick_wf
    | with_reducible apply Dev.Wf.ite
    | with_reducible (refine Dev.Wf.fold _ ?_ ?_; rotate_left; intro e x he)
    | with_reducible (refine Dev.Wf.foldPair _ ?_ ?_; rotate_left; intro e x he)
    | split
    | simp only [Dev.wf_built]
    | with_reducible apply Dev.Built.other
    | with_reducible apply Dev.Wf.itePair
    | with_reducible (refine Dev.Wf.ofPair (by assumption) ?_)
    | with_reducible (refine Dev.Wf.ofPairSnd (by assumption) ?_)
    | with_reducible dsimp only)

theorem Dev.tlLoss_wf (d : Dev) (n : Nat) (back : Nat) (h_d : d.Wf) :
    Dev.Wf (Dev.tlLoss d n back) := by
  unfold Dev.tlLoss
  try dsimp only
  repeat' (first
    | with_reducible assumption
    | with_reducible apply Dev.setEvt_wf
    | with_reducible apply Dev.inc_wf
    | with_reducible apply Dev.tlSettle_wf
    | with_reducible apply Dev.setFrm_wf
    | with_reducible apply Dev.Wf.ite
    | with_reducible (refine Dev.Wf.fold _ ?_ ?_; rotate_left; intro e x he)
    | with_reducible (refine Dev.Wf.foldPair _ ?_ ?_; rotate_left; intro e x he)
    | split
    | simp only [Dev.wf_built]
    | with_reducible apply Dev.Built.other
    | with_reducible apply Dev.Wf.itePair
    | with_reducible (refine Dev.Wf.ofPair (by assumption) ?_)
    | with_reducible (refine Dev.Wf.ofPairSnd (by assumption) ?_)
    | with_reducible dsimp only)

theorem Dev.tlHunt_wf (d : Dev) (n : Nat) (h_d : d.Wf) :
    Dev.Wf (Dev.tlHunt d n) := by
  unfold Dev.tlHunt
  try dsimp only
  repeat' (first
    | with_reducible assumption
    | with_reducible apply Dev.setFramer_wf
    | with_reducible apply Dev.setFrm_wf
    | with_reducible apply Dev.Wf.ite
    | with_reducible (refine Dev.Wf.fold _ ?_ ?_; rotate_left; intro e x he)
    | with_reducible (refine Dev.Wf.foldPair _ ?_ ?_; rotate_left; intro e x he)
    | split
    | simp only [Dev.wf_built]
    | with_reducible apply Dev.Built.other
    | with_reducible apply Dev.Wf.itePair
    | with_reducible (refine Dev.Wf.ofPair (by assumption) ?_)
    | with_reducible (refine Dev.Wf.ofPairSnd (by assumption) ?_)
    | with_reducible dsimp only)

theorem Dev.tlHeader_wf (d : Dev) (n : ℕ) (valid : Bool) (h_d : d.Wf) :
    Dev.Wf (Dev.tlHeader d n valid) := by
  unfold Dev.tlHeader
  try dsimp only
  repeat' (first
    | with_reducible assumption
    | with_reducible apply Dev.inc_wf
    | with_reducible apply Dev.setFramer_wf
    | with_reducible apply Dev.tlHunt_wf
    | with_reducible apply Dev.wr_wf
    | with_reducible apply Dev.tlLoss_wf
    | with_reducible apply Dev.setFrm_wf
    | with_reducible apply Dev.Wf.ite
    | with_reducible (refine Dev.Wf.fold _ ?_ ?_; rotate_left; intro e x he)
    | with_reducible (refine Dev.Wf.foldPair _ ?_ ?_; rotate_left; intro e x he)
    | split
    | simp only [Dev.wf_built]
    | with_reducible apply Dev.Built.other
    | with_reducible apply Dev.Wf.itePair
    | with_reducible (refine Dev.Wf.ofPair (by assumption) ?_)
    | with_reducible (refine Dev.Wf.ofPairSnd (by assumption) ?_)
    | with_reducible dsimp only)

theorem Dev.tlData_wf (d : Dev) (n : Nat) (pos : Nat) (sub : Nat) (late : Bool) (b : BitVec 64) (h_d : d.Wf) :
    Dev.Wf (Dev.tlData d n pos sub late b) := by
  unfold Dev.tlData
  try dsimp only
  repeat' (first
    | with_reducible assumption
    | with_reducible apply Dev.setTlr_wf
    | with_reducible apply Dev.slotRow_wf
    | with_reducible apply Dev.Wf.ite
    | with_reducible (refine Dev.Wf.fold _ ?_ ?_; rotate_left; intro e x he)
    | with_reducible (refine Dev.Wf.foldPair _ ?_ ?_; rotate_left; intro e x he)
    | split
    | simp only [Dev.wf_built]
    | with_reducible apply Dev.Built.other
    | with_reducible apply Dev.Wf.itePair
    | with_reducible (refine Dev.Wf.ofPair (by assumption) ?_)
    | with_reducible (refine Dev.Wf.ofPairSnd (by assumption) ?_)
    | with_reducible dsimp only)

theorem Dev.tlBlock_wf (d : Dev) (n : ℕ) (bits : BitVec 132) (sub : ℕ) (late : Bool) (h_d : d.Wf) :
    Dev.Wf (Dev.tlBlock d n bits sub late) := by
  unfold Dev.tlBlock
  try dsimp only
  repeat' (first
    | with_reducible assumption
    | with_reducible apply Dev.tlHeader_wf
    | with_reducible apply Dev.setFramer_wf
    | with_reducible apply Dev.setTlr_wf
    | with_reducible apply Dev.tlData_wf
    | with_reducible apply Dev.Wf.ite
    | with_reducible (refine Dev.Wf.fold _ ?_ ?_; rotate_left; intro e x he)
    | with_reducible (refine Dev.Wf.foldPair _ ?_ ?_; rotate_left; intro e x he)
    | split
    | simp only [Dev.wf_built]
    | with_reducible apply Dev.Built.other
    | with_reducible apply Dev.Wf.itePair
    | with_reducible (refine Dev.Wf.ofPair (by assumption) ?_)
    | with_reducible (refine Dev.Wf.ofPairSnd (by assumption) ?_)
    | with_reducible dsimp only)

theorem Dev.tlSync_wf (d : Dev) (n : ℕ) (h_d : d.Wf) :
    Dev.Wf (Dev.tlSync d n) := by
  unfold Dev.tlSync
  try dsimp only
  repeat' (first
    | with_reducible assumption
    | with_reducible apply Dev.setEvt_wf
    | with_reducible apply Dev.setFrm_wf
    | with_reducible apply Dev.setTlr_wf
    | with_reducible apply Dev.tlSettle_wf
    | with_reducible apply Dev.slotWr_wf
    | with_reducible apply Dev.Wf.ite
    | with_reducible (refine Dev.Wf.fold _ ?_ ?_; rotate_left; intro e x he)
    | with_reducible (refine Dev.Wf.foldPair _ ?_ ?_; rotate_left; intro e x he)
    | split
    | simp only [Dev.wf_built]
    | with_reducible apply Dev.Built.other
    | with_reducible apply Dev.Built.up_slots
    | with_reducible apply Map.wf_put
    | with_reducible apply Map.wf_filter
    | exact rfl
    | with_reducible apply Dev.Wf.slots
    | with_reducible apply Dev.Wf.itePair
    | with_reducible (refine Dev.Wf.ofPair (by assumption) ?_)
    | with_reducible (refine Dev.Wf.ofPairSnd (by assumption) ?_)
    | with_reducible dsimp only)

theorem Dev.tlSyncRow_wf (d : Dev) (n : Nat) (row : Nat) (h_d : d.Wf) :
    Dev.Wf (Dev.tlSyncRow d n row) := by
  unfold Dev.tlSyncRow
  try dsimp only
  repeat' (first
    | with_reducible assumption
    | with_reducible apply Dev.setTlr_wf
    | with_reducible apply Dev.inc_wf
    | with_reducible apply Dev.ccAbort_wf
    | with_reducible apply Dev.setFramer_wf
    | with_reducible apply Dev.tlLoss_wf
    | with_reducible apply Dev.Wf.ite
    | with_reducible (refine Dev.Wf.fold _ ?_ ?_; rotate_left; intro e x he)
    | with_reducible (refine Dev.Wf.foldPair _ ?_ ?_; rotate_left; intro e x he)
    | split
    | simp only [Dev.wf_built]
    | with_reducible apply Dev.Built.other
    | with_reducible apply Dev.Wf.itePair
    | with_reducible (refine Dev.Wf.ofPair (by assumption) ?_)
    | with_reducible (refine Dev.Wf.ofPairSnd (by assumption) ?_)
    | with_reducible dsimp only)

theorem Dev.tlRow_wf (d : Dev) (n : Nat) (h_d : d.Wf) :
    Dev.Wf (Dev.tlRow d n) := by
  unfold Dev.tlRow
  try dsimp only
  repeat' (first
    | with_reducible assumption
    | with_reducible apply Dev.setFramer_wf
    | with_reducible apply Dev.setFrm_wf
    | with_reducible apply Dev.tlHunt_wf
    | with_reducible apply Dev.tlSync_wf
    | with_reducible apply Dev.setEvt_wf
    | with_reducible apply Dev.inc_wf
    | with_reducible apply Dev.tlSyncRow_wf
    | with_reducible apply Dev.Wf.ite
    | with_reducible (refine Dev.Wf.fold _ ?_ ?_; rotate_left; intro e x he)
    | with_reducible (refine Dev.Wf.foldPair _ ?_ ?_; rotate_left; intro e x he)
    | split
    | simp only [Dev.wf_built]
    | with_reducible apply Dev.Built.other
    | with_reducible apply Dev.Wf.itePair
    | with_reducible (refine Dev.Wf.ofPair (by assumption) ?_)
    | with_reducible (refine Dev.Wf.ofPairSnd (by assumption) ?_)
    | with_reducible dsimp only)

theorem Dev.tlBip_wf (d : Dev) (n : Nat) (h_d : d.Wf) :
    Dev.Wf (Dev.tlBip d n) := by
  unfold Dev.tlBip
  try dsimp only
  repeat' (first
    | with_reducible assumption
    | with_reducible apply Dev.setTlr_wf
    | with_reducible apply Dev.add_wf
    | with_reducible apply Dev.setPm_wf
    | with_reducible apply Dev.Wf.ite
    | with_reducible (refine Dev.Wf.fold _ ?_ ?_; rotate_left; intro e x he)
    | with_reducible (refine Dev.Wf.foldPair _ ?_ ?_; rotate_left; intro e x he)
    | split
    | simp only [Dev.wf_built]
    | with_reducible apply Dev.Built.other
    | with_reducible apply Dev.Wf.itePair
    | with_reducible (refine Dev.Wf.ofPair (by assumption) ?_)
    | with_reducible (refine Dev.Wf.ofPairSnd (by assumption) ?_)
    | with_reducible dsimp only)

theorem Dev.tlSrq_wf (d : Dev) (n : Nat) (h_d : d.Wf) :
    Dev.Wf (Dev.tlSrq d n) := by
  unfold Dev.tlSrq
  try dsimp only
  repeat' (first
    | with_reducible assumption
    | with_reducible apply Dev.wr_wf
    | with_reducible apply Dev.setTlr_wf
    | with_reducible apply Dev.wrOn_wf
    | with_reducible apply Dev.tlSettle_wf
    | with_reducible apply Dev.setEvtIf_wf
    | with_reducible apply Dev.setEvt_wf
    | with_reducible apply Dev.Wf.ite
    | with_reducible (refine Dev.Wf.fold _ ?_ ?_; rotate_left; intro e x he)
    | with_reducible (refine Dev.Wf.foldPair _ ?_ ?_; rotate_left; intro e x he)
    | split
    | simp only [Dev.wf_built]
    | with_reducible apply Dev.Built.other
    | with_reducible apply Dev.Wf.itePair
    | with_reducible (refine Dev.Wf.ofPair (by assumption) ?_)
    | with_reducible (refine Dev.Wf.ofPairSnd (by assumption) ?_)
    | with_reducible dsimp only)

theorem Dev.tlRdi_wf (d : Dev) (n : Nat) (h_d : d.Wf) :
    Dev.Wf (Dev.tlRdi d n) := by
  unfold Dev.tlRdi
  try dsimp only
  repeat' (first
    | with_reducible assumption
    | with_reducible apply Dev.add_wf
    | with_reducible apply Dev.setTlr_wf
    | with_reducible apply Dev.tlSettle_wf
    | with_reducible apply Dev.setEvtIf_wf
    | with_reducible apply Dev.wrOn_wf
    | with_reducible apply Dev.Wf.ite
    | with_reducible (refine Dev.Wf.fold _ ?_ ?_; rotate_left; intro e x he)
    | with_reducible (refine Dev.Wf.foldPair _ ?_ ?_; rotate_left; intro e x he)
    | split
    | simp only [Dev.wf_built]
    | with_reducible apply Dev.Built.other
    | with_reducible apply Dev.Wf.itePair
    | with_reducible (refine Dev.Wf.ofPair (by assumption) ?_)
    | with_reducible (refine Dev.Wf.ofPairSnd (by assumption) ?_)
    | with_reducible dsimp only)

theorem Dev.timSettle_wf (d : Dev) (n : Nat) (h_d : d.Wf) :
    Dev.Wf (Dev.timSettle d n) := by
  unfold Dev.timSettle
  try dsimp only
  repeat' (first
    | with_reducible assumption
    | with_reducible apply Dev.tlSettle_wf
    | with_reducible apply Dev.setEvtIf_wf
    | with_reducible apply Dev.wrOn_wf
    | with_reducible apply Dev.Wf.ite
    | with_reducible (refine Dev.Wf.fold _ ?_ ?_; rotate_left; intro e x he)
    | with_reducible (refine Dev.Wf.foldPair _ ?_ ?_; rotate_left; intro e x he)
    | split
    | simp only [Dev.wf_built]
    | with_reducible apply Dev.Built.other
    | with_reducible apply Dev.Wf.itePair
    | with_reducible (refine Dev.Wf.ofPair (by assumption) ?_)
    | with_reducible (refine Dev.Wf.ofPairSnd (by assumption) ?_)
    | with_reducible dsimp only)

theorem Dev.tlTrace_wf (d : Dev) (n : Nat) (h_d : d.Wf) :
    Dev.Wf (Dev.tlTrace d n) := by
  unfold Dev.tlTrace
  try dsimp only
  repeat' (first
    | with_reducible assumption
    | with_reducible apply Dev.setTlr_wf
    | with_reducible apply Dev.wr_wf
    | with_reducible apply Dev.timSettle_wf
    | with_reducible apply Dev.Wf.ite
    | with_reducible (refine Dev.Wf.fold _ ?_ ?_; rotate_left; intro e x he)
    | with_reducible (refine Dev.Wf.foldPair _ ?_ ?_; rotate_left; intro e x he)
    | split
    | simp only [Dev.wf_built]
    | with_reducible apply Dev.Built.other
    | with_reducible apply Dev.Wf.itePair
    | with_reducible (refine Dev.Wf.ofPair (by assumption) ?_)
    | with_reducible (refine Dev.Wf.ofPairSnd (by assumption) ?_)
    | with_reducible dsimp only)

theorem Dev.ccEnd_wf (d : Dev) (n : Nat) (bs : List Sys2Proof.Byte) (h_d : d.Wf) :
    Dev.Wf (Dev.ccEnd d n bs) := by
  unfold Dev.ccEnd
  try dsimp only
  repeat' (first
    | with_reducible assumption
    | with_reducible apply Dev.setTlr_wf
    | with_reducible apply Dev.setEvt_wf
    | with_reducible apply Dev.inc_wf
    | with_reducible apply Dev.queuePut_wf
    | with_reducible apply Dev.Wf.ite
    | with_reducible (refine Dev.Wf.fold _ ?_ ?_; rotate_left; intro e x he)
    | with_reducible (refine Dev.Wf.foldPair _ ?_ ?_; rotate_left; intro e x he)
    | split
    | simp only [Dev.wf_built]
    | with_reducible apply Dev.Built.other
    | with_reducible apply Dev.Wf.itePair
    | with_reducible (refine Dev.Wf.ofPair (by assumption) ?_)
    | with_reducible (refine Dev.Wf.ofPairSnd (by assumption) ?_)
    | with_reducible dsimp only)

theorem Dev.ccSegment_wf (d : Dev) (n : Nat) (h_d : d.Wf) :
    Dev.Wf (Dev.ccSegment d n) := by
  unfold Dev.ccSegment
  try dsimp only
  repeat' (first
    | with_reducible assumption
    | with_reducible apply Dev.ccAbort_wf
    | with_reducible apply Dev.setTlr_wf
    | with_reducible apply Dev.ccEnd_wf
    | with_reducible apply Dev.Wf.ite
    | with_reducible (refine Dev.Wf.fold _ ?_ ?_; rotate_left; intro e x he)
    | with_reducible (refine Dev.Wf.foldPair _ ?_ ?_; rotate_left; intro e x he)
    | split
    | simp only [Dev.wf_built]
    | with_reducible apply Dev.Built.other
    | with_reducible apply Dev.Wf.itePair
    | with_reducible (refine Dev.Wf.ofPair (by assumption) ?_)
    | with_reducible (refine Dev.Wf.ofPairSnd (by assumption) ?_)
    | with_reducible dsimp only)

theorem Dev.ccTransmit_wf (d : Dev) (n : Nat) (h_d : d.Wf) :
    Dev.Wf (Dev.ccTransmit d n) := by
  unfold Dev.ccTransmit
  try dsimp only
  repeat' (first
    | with_reducible assumption
    | with_reducible apply Dev.takePkt_wf
    | with_reducible apply Dev.inc_wf
    | with_reducible apply Dev.setTlt_wf
    | with_reducible apply Dev.Wf.ite
    | with_reducible (refine Dev.Wf.fold _ ?_ ?_; rotate_left; intro e x he)
    | with_reducible (refine Dev.Wf.foldPair _ ?_ ?_; rotate_left; intro e x he)
    | split
    | simp only [Dev.wf_built]
    | with_reducible apply Dev.Built.other
    | with_reducible apply Dev.Wf.itePair
    | with_reducible (refine Dev.Wf.ofPair (by assumption) ?_)
    | with_reducible (refine Dev.Wf.ofPairSnd (by assumption) ?_)
    | with_reducible dsimp only)

theorem Dev.jcwReceived_wf (d : Dev) (n : Nat) (h_d : d.Wf) :
    Dev.Wf (Dev.jcwReceived d n) := by
  unfold Dev.jcwReceived
  try dsimp only
  repeat' (first
    | with_reducible assumption
    | with_reducible apply Dev.inc_wf
    | with_reducible apply Dev.setRxs_wf
    | with_reducible apply Dev.setEvt_wf
    | with_reducible apply Dev.Wf.ite
    | with_reducible (refine Dev.Wf.fold _ ?_ ?_; rotate_left; intro e x he)
    | with_reducible (refine Dev.Wf.foldPair _ ?_ ?_; rotate_left; intro e x he)
    | split
    | simp only [Dev.wf_built]
    | with_reducible apply Dev.Built.other
    | with_reducible apply Dev.Wf.itePair
    | with_reducible (refine Dev.Wf.ofPair (by assumption) ?_)
    | with_reducible (refine Dev.Wf.ofPairSnd (by assumption) ?_)
    | with_reducible dsimp only)

theorem Dev.setTxs_wf (d : Dev) (n : Nat) (k : Nat) (v : TxSlotI) (h_d : d.Wf) :
    Dev.Wf (Dev.setTxs d n k v) := by
  unfold Dev.setTxs
  try dsimp only
  repeat' (first
    | with_reducible assumption
    | with_reducible apply Dev.setTlt_wf
    | with_reducible apply Dev.Wf.ite
    | with_reducible (refine Dev.Wf.fold _ ?_ ?_; rotate_left; intro e x he)
    | with_reducible (refine Dev.Wf.foldPair _ ?_ ?_; rotate_left; intro e x he)
    | split
    | simp only [Dev.wf_built]
    | with_reducible apply Dev.Built.other
    | with_reducible apply Dev.Built.up_slots
    | with_reducible apply Map.wf_put
    | with_reducible apply Map.wf_filter
    | exact rfl
    | with_reducible apply Dev.Wf.slots
    | with_reducible apply Dev.Wf.itePair
    | with_reducible (refine Dev.Wf.ofPair (by assumption) ?_)
    | with_reducible (refine Dev.Wf.ofPairSnd (by assumption) ?_)
    | with_reducible dsimp only)

theorem Dev.txFinish_wf (d : Dev) (n : ℕ) (k : ℕ) (h_d : d.Wf) :
    (Dev.txFinish d n k).1.Wf := by
  unfold Dev.txFinish
  try dsimp only
  repeat' (first
    | with_reducible assumption
    | with_reducible apply Dev.bwAdd_wf
    | with_reducible apply Dev.setTxs_wf
    | with_reducible apply Dev.Wf.ite
    | with_reducible (refine Dev.Wf.fold _ ?_ ?_; rotate_left; intro e x he)
    | with_reducible (refine Dev.Wf.foldPair _ ?_ ?_; rotate_left; intro e x he)
    | split
    | simp only [Dev.wf_built]
    | with_reducible apply Dev.Built.other
    | with_reducible apply Dev.Wf.itePair
    | with_reducible (refine Dev.Wf.ofPair (by assumption) ?_)
    | with_reducible (refine Dev.Wf.ofPairSnd (by assumption) ?_)
    | with_reducible dsimp only)

theorem Dev.txApply_wf (d : Dev) (n : Nat) (k : Nat) (h_d : d.Wf) :
    Dev.Wf (Dev.txApply d n k) := by
  unfold Dev.txApply
  try dsimp only
  repeat' (first
    | with_reducible assumption
    | with_reducible apply Dev.setReg_wf
    | with_reducible apply Dev.setTxs_wf
    | with_reducible apply Dev.Wf.ite
    | with_reducible (refine Dev.Wf.fold _ ?_ ?_; rotate_left; intro e x he)
    | with_reducible (refine Dev.Wf.foldPair _ ?_ ?_; rotate_left; intro e x he)
    | split
    | simp only [Dev.wf_built]
    | with_reducible apply Dev.Built.other
    | with_reducible apply Dev.Wf.itePair
    | with_reducible (refine Dev.Wf.ofPair (by assumption) ?_)
    | with_reducible (refine Dev.Wf.ofPairSnd (by assumption) ?_)
    | with_reducible dsimp only)

theorem Dev.tlFrameEnd_wf (d : Dev) (n : ℕ) (h_d : d.Wf) :
    Dev.Wf (Dev.tlFrameEnd d n) := by
  unfold Dev.tlFrameEnd
  try dsimp only
  repeat' (first
    | with_reducible assumption
    | with_reducible apply Dev.setTlt_wf
    | with_reducible apply Dev.txFinish_wf
    | with_reducible apply Dev.Wf.ite
    | with_reducible (refine Dev.Wf.fold _ ?_ ?_; rotate_left; intro e x he)
    | with_reducible (refine Dev.Wf.foldPair _ ?_ ?_; rotate_left; intro e x he)
    | split
    | simp only [Dev.wf_built]
    | with_reducible apply Dev.Built.other
    | with_reducible apply Dev.Wf.itePair
    | with_reducible (refine Dev.Wf.ofPair (by assumption) ?_)
    | with_reducible (refine Dev.Wf.ofPairSnd (by assumption) ?_)
    | with_reducible dsimp only)

theorem Dev.tlFrame_wf (d : Dev) (n : ℕ) (h_d : d.Wf) :
    Dev.Wf (Dev.tlFrame d n) := by
  unfold Dev.tlFrame
  try dsimp only
  repeat' (first
    | with_reducible assumption
    | with_reducible apply Dev.tlFrameEnd_wf
    | with_reducible apply Dev.txApply_wf
    | with_reducible apply Dev.dataSettle_wf
    | with_reducible apply Dev.outSettle_wf
    | with_reducible apply Dev.setTlt_wf
    | with_reducible apply Dev.wrOn_wf
    | with_reducible apply Dev.Wf.ite
    | with_reducible (refine Dev.Wf.fold _ ?_ ?_; rotate_left; intro e x he)
    | with_reducible (refine Dev.Wf.foldPair _ ?_ ?_; rotate_left; intro e x he)
    | split
    | simp only [Dev.wf_built]
    | with_reducible apply Dev.Built.other
    | with_reducible apply Dev.Wf.itePair
    | with_reducible (refine Dev.Wf.ofPair (by assumption) ?_)
    | with_reducible (refine Dev.Wf.ofPairSnd (by assumption) ?_)
    | with_reducible dsimp only)

theorem Dev.tlArea_wf (d : Dev) (n : Nat) (t : Nat) (room : Nat) (rs : List (Nat × PktRec)) (h_d : d.Wf) :
    (Dev.tlArea d n t room rs).1.Wf := by
  unfold Dev.tlArea
  try dsimp only
  repeat' (first
    | with_reducible assumption
    | with_reducible apply Dev.bwAdd_wf
    | with_reducible apply Dev.ancDrop_wf
    | with_reducible apply Dev.recLost_wf
    | with_reducible apply Dev.Wf.ite
    | with_reducible (refine Dev.Wf.fold _ ?_ ?_; rotate_left; intro e x he)
    | with_reducible (refine Dev.Wf.foldPair _ ?_ ?_; rotate_left; intro e x he)
    | split
    | simp only [Dev.wf_built]
    | with_reducible apply Dev.Built.other
    | with_reducible apply Dev.Wf.itePair
    | with_reducible (refine Dev.Wf.ofPair (by assumption) ?_)
    | with_reducible (refine Dev.Wf.ofPairSnd (by assumption) ?_)
    | with_reducible dsimp only)

theorem Dev.tlRecs_wf (d : Dev) (t : ℕ) (line : ℕ) (items : List Sys2Proof.LateItem) (h_d : d.Wf) :
    (Dev.tlRecs d t line items).1.Wf := by
  unfold Dev.tlRecs
  try dsimp only
  repeat' (first
    | with_reducible assumption
    | with_reducible apply Dev.ancWallLate_wf
    | with_reducible apply Dev.ancDrop_wf
    | with_reducible apply Dev.recLost_wf
    | with_reducible apply Dev.Wf.ite
    | with_reducible (refine Dev.Wf.fold _ ?_ ?_; rotate_left; intro e x he)
    | with_reducible (refine Dev.Wf.foldPair _ ?_ ?_; rotate_left; intro e x he)
    | split
    | simp only [Dev.wf_built]
    | with_reducible apply Dev.Built.other
    | with_reducible apply Dev.Wf.itePair
    | with_reducible (refine Dev.Wf.ofPair (by assumption) ?_)
    | with_reducible (refine Dev.Wf.ofPairSnd (by assumption) ?_)
    | with_reducible dsimp only)

theorem Dev.tlCourse_wf (d : Dev) (n : ℕ) (k : ℕ) (line : ℕ) (items : List Sys2Proof.LateItem) (h_d : d.Wf) :
    Dev.Wf (Dev.tlCourse d n k line items) := by
  unfold Dev.tlCourse
  try dsimp only
  repeat' (first
    | with_reducible assumption
    | with_reducible apply Dev.tlRecs_wf
    | with_reducible apply Dev.tlArea_wf
    | with_reducible apply Dev.bwAdd_wf
    | with_reducible apply Dev.setTxs_wf
    | with_reducible apply Dev.Wf.ite
    | with_reducible (refine Dev.Wf.fold _ ?_ ?_; rotate_left; intro e x he)
    | with_reducible (refine Dev.Wf.foldPair _ ?_ ?_; rotate_left; intro e x he)
    | split
    | simp only [Dev.wf_built]
    | with_reducible apply Dev.Built.other
    | with_reducible apply Dev.Wf.itePair
    | with_reducible (refine Dev.Wf.ofPair (by assumption) ?_)
    | with_reducible (refine Dev.Wf.ofPairSnd (by assumption) ?_)
    | with_reducible dsimp only)

theorem Dev.tlAudioPeriod_wf (d : Dev) (n : Nat) (h_d : d.Wf) :
    Dev.Wf (Dev.tlAudioPeriod d n) := by
  unfold Dev.tlAudioPeriod
  try dsimp only
  repeat' (first
    | with_reducible assumption
    | with_reducible apply Dev.setTxs_wf
    | with_reducible apply Dev.Wf.ite
    | with_reducible (refine Dev.Wf.fold _ ?_ ?_; rotate_left; intro e x he)
    | with_reducible (refine Dev.Wf.foldPair _ ?_ ?_; rotate_left; intro e x he)
    | split
    | simp only [Dev.wf_built]
    | with_reducible apply Dev.Built.other
    | with_reducible apply Dev.Wf.itePair
    | with_reducible (refine Dev.Wf.ofPair (by assumption) ?_)
    | with_reducible (refine Dev.Wf.ofPairSnd (by assumption) ?_)
    | with_reducible dsimp only)

theorem Dev.txslotAfter_wf (d : Dev) (n : Nat) (k : Nat) (old : Sys2Proof.Word) (h_d : d.Wf) :
    Dev.Wf (Dev.txslotAfter d n k old) := by
  unfold Dev.txslotAfter
  try dsimp only
  repeat' (first
    | with_reducible assumption
    | with_reducible apply Dev.setReg_wf
    | with_reducible apply Dev.setTlt_wf
    | with_reducible apply Dev.Wf.ite
    | with_reducible (refine Dev.Wf.fold _ ?_ ?_; rotate_left; intro e x he)
    | with_reducible (refine Dev.Wf.foldPair _ ?_ ?_; rotate_left; intro e x he)
    | split
    | simp only [Dev.wf_built]
    | with_reducible apply Dev.Built.other
    | with_reducible apply Dev.Wf.itePair
    | with_reducible (refine Dev.Wf.ofPair (by assumption) ?_)
    | with_reducible (refine Dev.Wf.ofPairSnd (by assumption) ?_)
    | with_reducible dsimp only)

theorem Dev.ohCntClr_wf (d : Dev) (n : Nat) (h_d : d.Wf) :
    Dev.Wf (Dev.ohCntClr d n) := by
  unfold Dev.ohCntClr
  try dsimp only
  repeat' (first
    | with_reducible assumption
    | with_reducible apply Dev.setReg_wf
    | with_reducible apply Dev.Wf.ite
    | with_reducible (refine Dev.Wf.fold _ ?_ ?_; rotate_left; intro e x he)
    | with_reducible (refine Dev.Wf.foldPair _ ?_ ?_; rotate_left; intro e x he)
    | split
    | simp only [Dev.wf_built]
    | with_reducible apply Dev.Built.other
    | with_reducible apply Dev.Wf.itePair
    | with_reducible (refine Dev.Wf.ofPair (by assumption) ?_)
    | with_reducible (refine Dev.Wf.ofPairSnd (by assumption) ?_)
    | with_reducible dsimp only)

theorem Dev.tlFrmClr_wf (d : Dev) (n : Nat) (h_d : d.Wf) :
    Dev.Wf (Dev.tlFrmClr d n) := by
  unfold Dev.tlFrmClr
  try dsimp only
  repeat' (first
    | with_reducible assumption
    | with_reducible apply Dev.setReg_wf
    | with_reducible apply Dev.Wf.ite
    | with_reducible (refine Dev.Wf.fold _ ?_ ?_; rotate_left; intro e x he)
    | with_reducible (refine Dev.Wf.foldPair _ ?_ ?_; rotate_left; intro e x he)
    | split
    | simp only [Dev.wf_built]
    | with_reducible apply Dev.Built.other
    | with_reducible apply Dev.Wf.itePair
    | with_reducible (refine Dev.Wf.ofPair (by assumption) ?_)
    | with_reducible (refine Dev.Wf.ofPairSnd (by assumption) ?_)
    | with_reducible dsimp only)

end Sys2Proof.Machine
end

