-- ==== Sys2Proof/Laws/WfCarriers.lean ====
section
/-! SUPPORT. The operations of Machine/Carriers.lean keep every table of the block canonical. -/

set_option linter.unusedTactic false
set_option linter.unreachableTactic false

namespace Sys2Proof.Machine

theorem Dev.madiSync_wf (d : Dev) (n : Nat) (phase : Nat) (gap : Nat) (h_d : d.Wf) :
    Dev.Wf (Dev.madiSync d n phase gap) := by
  unfold Dev.madiSync
  try dsimp only
  repeat' (first
    | with_reducible assumption
    | with_reducible apply Dev.setFramer_wf
    | with_reducible apply Dev.setFrm_wf
    | with_reducible apply Dev.Wf.ite
    | with_reducible (refine Dev.Wf.fold _ ?_ ?_; rotate_left; intro e x he)
    | with_reducible (refine Dev.Wf.foldPair _ ?_ ?_; rotate_left; intro e x he)
    | split
    | simp only [Dev.wf_built]
    | with_reducible apply Dev.Built.other
    | with_reducible apply Dev.Wf.itePair
    | with_reducible (refine Dev.Wf.ofPair (by assumption) ?_)
    | with_reducible (refine Dev.Wf.ofPairSnd (by assumption) ?_)
    | with_reducible dsimp only)

theorem Dev.madiSlot_wf (d : Dev) (n : Nat) (m : Nat) (sub : Nat) (w : Sys2Proof.Word) (h_d : d.Wf) :
    Dev.Wf (Dev.madiSlot d n m sub w) := by
  unfold Dev.madiSlot
  try dsimp only
  repeat' (first
    | with_reducible assumption
    | with_reducible apply Dev.bwAdd_wf
    | with_reducible apply Dev.strmPart_wf
    | with_reducible apply Dev.Wf.ite
    | with_reducible (refine Dev.Wf.fold _ ?_ ?_; rotate_left; intro e x he)
    | with_reducible (refine Dev.Wf.foldPair _ ?_ ?_; rotate_left; intro e x he)
    | split
    | simp only [Dev.wf_built]
    | with_reducible apply Dev.Built.other
    | with_reducible apply Dev.Wf.itePair
    | with_reducible (refine Dev.Wf.ofPair (by assumption) ?_)
    | with_reducible (refine Dev.Wf.ofPairSnd (by assumption) ?_)
    | with_reducible dsimp only)

theorem Dev.madiSample_wf (d : Dev) (n : Nat) (m : Nat) (sub : Nat) (w : Sys2Proof.Word) (h_d : d.Wf) :
    Dev.Wf (Dev.madiSample d n m sub w) := by
  unfold Dev.madiSample
  try dsimp only
  repeat' (first
    | with_reducible assumption
    | with_reducible apply Dev.madiSlot_wf
    | with_reducible apply Dev.strmPart_wf
    | with_reducible apply Dev.setFramer_wf
    | with_reducible apply Dev.Wf.ite
    | with_reducible (refine Dev.Wf.fold _ ?_ ?_; rotate_left; intro e x he)
    | with_reducible (refine Dev.Wf.foldPair _ ?_ ?_; rotate_left; intro e x he)
    | split
    | simp only [Dev.wf_built]
    | with_reducible apply Dev.Built.other
    | with_reducible apply Dev.Wf.itePair
    | with_reducible (refine Dev.Wf.ofPair (by assumption) ?_)
    | with_reducible (refine Dev.Wf.ofPairSnd (by assumption) ?_)
    | with_reducible dsimp only)

theorem Dev.madiFrame_wf (d : Dev) (n : Nat) (h_d : d.Wf) :
    Dev.Wf (Dev.madiFrame d n) := by
  unfold Dev.madiFrame
  try dsimp only
  repeat' (first
    | with_reducible assumption
    | with_reducible apply Dev.setPm_wf
    | with_reducible apply Dev.setFramer_wf
    | with_reducible apply Dev.Wf.ite
    | with_reducible (refine Dev.Wf.fold _ ?_ ?_; rotate_left; intro e x he)
    | with_reducible (refine Dev.Wf.foldPair _ ?_ ?_; rotate_left; intro e x he)
    | split
    | simp only [Dev.wf_built]
    | with_reducible apply Dev.Built.other
    | with_reducible apply Dev.Wf.itePair
    | with_reducible (refine Dev.Wf.ofPair (by assumption) ?_)
    | with_reducible (refine Dev.Wf.ofPairSnd (by assumption) ?_)
    | with_reducible dsimp only)

theorem Dev.madiHunt_wf (d : Dev) (n : ℕ) (time : ℕ) (h_d : d.Wf) :
    Dev.Wf (Dev.madiHunt d n time) := by
  unfold Dev.madiHunt
  try dsimp only
  repeat' (first
    | with_reducible assumption
    | with_reducible apply Dev.setFramer_wf
    | with_reducible apply Dev.setEvtIf_wf
    | with_reducible apply Dev.wrOn_wf
    | with_reducible apply Dev.wr_wf
    | with_reducible apply Dev.setFrm_wf
    | with_reducible apply Dev.laneSettle_wf
    | with_reducible apply Dev.setEvt_wf
    | with_reducible apply Dev.Wf.ite
    | with_reducible (refine Dev.Wf.fold _ ?_ ?_; rotate_left; intro e x he)
    | with_reducible (refine Dev.Wf.foldPair _ ?_ ?_; rotate_left; intro e x he)
    | split
    | simp only [Dev.wf_built]
    | with_reducible apply Dev.Built.other
    | with_reducible apply Dev.Wf.itePair
    | with_reducible (refine Dev.Wf.ofPair (by assumption) ?_)
    | with_reducible (refine Dev.Wf.ofPairSnd (by assumption) ?_)
    | with_reducible dsimp only)

theorem Dev.madiWrong_wf (d : Dev) (n : Nat) (h_d : d.Wf) :
    Dev.Wf (Dev.madiWrong d n) := by
  unfold Dev.madiWrong
  try dsimp only
  repeat' (first
    | with_reducible assumption
    | with_reducible apply Dev.frmLoss_wf
    | with_reducible apply Dev.setFramer_wf
    | with_reducible apply Dev.Wf.ite
    | with_reducible (refine Dev.Wf.fold _ ?_ ?_; rotate_left; intro e x he)
    | with_reducible (refine Dev.Wf.foldPair _ ?_ ?_; rotate_left; intro e x he)
    | split
    | simp only [Dev.wf_built]
    | with_reducible apply Dev.Built.other
    | with_reducible apply Dev.Wf.itePair
    | with_reducible (refine Dev.Wf.ofPair (by assumption) ?_)
    | with_reducible (refine Dev.Wf.ofPairSnd (by assumption) ?_)
    | with_reducible dsimp only)

theorem Dev.madiPlace_wf (d : Dev) (n : ℕ) (ind : Bool) (h_d : d.Wf) :
    Dev.Wf (Dev.madiPlace d n ind) := by
  unfold Dev.madiPlace
  try dsimp only
  repeat' (first
    | with_reducible assumption
    | with_reducible apply Dev.setFramer_wf
    | with_reducible apply Dev.madiFrame_wf
    | with_reducible apply Dev.madiWrong_wf
    | with_reducible apply Dev.Wf.ite
    | with_reducible (refine Dev.Wf.fold _ ?_ ?_; rotate_left; intro e x he)
    | with_reducible (refine Dev.Wf.foldPair _ ?_ ?_; rotate_left; intro e x he)
    | split
    | simp only [Dev.wf_built]
    | with_reducible apply Dev.Built.other
    | with_reducible apply Dev.Wf.itePair
    | with_reducible (refine Dev.Wf.ofPair (by assumption) ?_)
    | with_reducible (refine Dev.Wf.ofPairSnd (by assumption) ?_)
    | with_reducible dsimp only)

theorem Dev.madiCodes_wf (d : Dev) (n : Nat) (valid : List Bool) (h_d : d.Wf) :
    Dev.Wf (Dev.madiCodes d n valid) := by
  unfold Dev.madiCodes
  try dsimp only
  repeat' (first
    | with_reducible assumption
    | with_reducible apply Dev.setFramer_wf
    | with_reducible apply Dev.add_wf
    | with_reducible apply Dev.frmLoss_wf
    | with_reducible apply Dev.Wf.ite
    | with_reducible (refine Dev.Wf.fold _ ?_ ?_; rotate_left; intro e x he)
    | with_reducible (refine Dev.Wf.foldPair _ ?_ ?_; rotate_left; intro e x he)
    | split
    | simp only [Dev.wf_built]
    | with_reducible apply Dev.Built.other
    | with_reducible apply Dev.Wf.itePair
    | with_reducible (refine Dev.Wf.ofPair (by assumption) ?_)
    | with_reducible (refine Dev.Wf.ofPairSnd (by assumption) ?_)
    | with_reducible dsimp only)

theorem Dev.madiParity_wf (d : Dev) (n : ℕ) (h_d : d.Wf) :
    Dev.Wf (Dev.madiParity d n) := by
  unfold Dev.madiParity
  try dsimp only
  repeat' (first
    | with_reducible assumption
    | with_reducible apply Dev.setFramer_wf
    | with_reducible apply Dev.addEvt_wf
    | with_reducible apply Dev.inc_wf
    | with_reducible apply Dev.Wf.ite
    | with_reducible (refine Dev.Wf.fold _ ?_ ?_; rotate_left; intro e x he)
    | with_reducible (refine Dev.Wf.foldPair _ ?_ ?_; rotate_left; intro e x he)
    | split
    | simp only [Dev.wf_built]
    | with_reducible apply Dev.Built.other
    | with_reducible apply Dev.Wf.itePair
    | with_reducible (refine Dev.Wf.ofPair (by assumption) ?_)
    | with_reducible (refine Dev.Wf.ofPairSnd (by assumption) ?_)
    | with_reducible dsimp only)

theorem Dev.madiSubframe_wf (d : Dev) (n : ℕ) (ind : Bool) (parityOk : Bool) (sample : Sys2Proof.Word) (valid : List Bool) (time : ℕ) (sub : ℕ) (h_d : d.Wf) :
    Dev.Wf (Dev.madiSubframe d n ind parityOk sample valid time sub) := by
  unfold Dev.madiSubframe
  try dsimp only
  repeat' (first
    | with_reducible assumption
    | with_reducible apply Dev.madiHunt_wf
    | with_reducible apply Dev.madiCodes_wf
    | with_reducible apply Dev.madiPlace_wf
    | with_reducible apply Dev.madiParity_wf
    | with_reducible apply Dev.madiSample_wf
    | with_reducible apply Dev.setFramer_wf
    | with_reducible apply Dev.Wf.ite
    | with_reducible (refine Dev.Wf.fold _ ?_ ?_; rotate_left; intro e x he)
    | with_reducible (refine Dev.Wf.foldPair _ ?_ ?_; rotate_left; intro e x he)
    | split
    | simp only [Dev.wf_built]
    | with_reducible apply Dev.Built.other
    | with_reducible apply Dev.Wf.itePair
    | with_reducible (refine Dev.Wf.ofPair (by assumption) ?_)
    | with_reducible (refine Dev.Wf.ofPairSnd (by assumption) ?_)
    | with_reducible dsimp only)

theorem Dev.madiTimeout_wf (d : Dev) (n : Nat) (h_d : d.Wf) :
    Dev.Wf (Dev.madiTimeout d n) := by
  unfold Dev.madiTimeout
  try dsimp only
  repeat' (first
    | with_reducible assumption
    | with_reducible apply Dev.frmLoss_wf
    | with_reducible apply Dev.setFramer_wf
    | with_reducible apply Dev.Wf.ite
    | with_reducible (refine Dev.Wf.fold _ ?_ ?_; rotate_left; intro e x he)
    | with_reducible (refine Dev.Wf.foldPair _ ?_ ?_; rotate_left; intro e x he)
    | split
    | simp only [Dev.wf_built]
    | with_reducible apply Dev.Built.other
    | with_reducible apply Dev.Wf.itePair
    | with_reducible (refine Dev.Wf.ofPair (by assumption) ?_)
    | with_reducible (refine Dev.Wf.ofPairSnd (by assumption) ?_)
    | with_reducible dsimp only)

theorem Dev.asiSettle_wf (d : Dev) (n : Nat) (h_d : d.Wf) :
    Dev.Wf (Dev.asiSettle d n) := by
  unfold Dev.asiSettle
  try dsimp only
  repeat' (first
    | with_reducible assumption
    | with_reducible apply Dev.dataSettle_wf
    | with_reducible apply Dev.laneSettle_wf
    | with_reducible apply Dev.Wf.ite
    | with_reducible (refine Dev.Wf.fold _ ?_ ?_; rotate_left; intro e x he)
    | with_reducible (refine Dev.Wf.foldPair _ ?_ ?_; rotate_left; intro e x he)
    | split
    | simp only [Dev.wf_built]
    | with_reducible apply Dev.Built.other
    | with_reducible apply Dev.Wf.itePair
    | with_reducible (refine Dev.Wf.ofPair (by assumption) ?_)
    | with_reducible (refine Dev.Wf.ofPairSnd (by assumption) ?_)
    | with_reducible dsimp only)

theorem Dev.asiCount_wf (d : Dev) (n : ℕ) (ok : Bool) (h_d : d.Wf) :
    Dev.Wf (Dev.asiCount d n ok) := by
  unfold Dev.asiCount
  try dsimp only
  repeat' (first
    | with_reducible assumption
    | with_reducible apply Dev.inc_wf
    | with_reducible apply Dev.dataSettle_wf
    | with_reducible apply Dev.frmLoss_wf
    | with_reducible apply Dev.setFramer_wf
    | with_reducible apply Dev.Wf.ite
    | with_reducible (refine Dev.Wf.fold _ ?_ ?_; rotate_left; intro e x he)
    | with_reducible (refine Dev.Wf.foldPair _ ?_ ?_; rotate_left; intro e x he)
    | split
    | simp only [Dev.wf_built]
    | with_reducible apply Dev.Built.other
    | with_reducible apply Dev.Wf.itePair
    | with_reducible (refine Dev.Wf.ofPair (by assumption) ?_)
    | with_reducible (refine Dev.Wf.ofPairSnd (by assumption) ?_)
    | with_reducible dsimp only)

theorem Dev.asiChar_wf (d : Dev) (n : Nat) (c : Sys2Proof.AsiChar) (h_d : d.Wf) :
    Dev.Wf (Dev.asiChar d n c) := by
  unfold Dev.asiChar
  try dsimp only
  repeat' (first
    | with_reducible assumption
    | with_reducible apply Dev.setFrm_wf
    | with_reducible apply Dev.setFramer_wf
    | with_reducible apply Dev.asiCount_wf
    | with_reducible apply Dev.Wf.ite
    | with_reducible (refine Dev.Wf.fold _ ?_ ?_; rotate_left; intro e x he)
    | with_reducible (refine Dev.Wf.foldPair _ ?_ ?_; rotate_left; intro e x he)
    | split
    | simp only [Dev.wf_built]
    | with_reducible apply Dev.Built.other
    | with_reducible apply Dev.Wf.itePair
    | with_reducible (refine Dev.Wf.ofPair (by assumption) ?_)
    | with_reducible (refine Dev.Wf.ofPairSnd (by assumption) ?_)
    | with_reducible dsimp only)

theorem Dev.asiPacket_wf (d : Dev) (n : ℕ) (packet : List Sys2Proof.Byte) (h_d : d.Wf) :
    Dev.Wf (Dev.asiPacket d n packet) := by
  unfold Dev.asiPacket
  try dsimp only
  repeat' (first
    | with_reducible assumption
    | with_reducible apply Dev.packetIn_wf
    | with_reducible apply Dev.bwAdd_wf
    | with_reducible apply Dev.Wf.ite
    | with_reducible (refine Dev.Wf.fold _ ?_ ?_; rotate_left; intro e x he)
    | with_reducible (refine Dev.Wf.foldPair _ ?_ ?_; rotate_left; intro e x he)
    | split
    | simp only [Dev.wf_built]
    | with_reducible apply Dev.Built.other
    | with_reducible apply Dev.Wf.itePair
    | with_reducible (refine Dev.Wf.ofPair (by assumption) ?_)
    | with_reducible (refine Dev.Wf.ofPairSnd (by assumption) ?_)
    | with_reducible dsimp only)

theorem Dev.asiHunt_wf (d : Dev) (n : ℕ) (spacing : ℕ) (packet : List Sys2Proof.Byte) (h_d : d.Wf) :
    Dev.Wf (Dev.asiHunt d n spacing packet) := by
  unfold Dev.asiHunt
  try dsimp only
  repeat' (first
    | with_reducible assumption
    | with_reducible apply Dev.setFramer_wf
    | with_reducible apply Dev.asiPacket_wf
    | with_reducible apply Dev.asiSettle_wf
    | with_reducible apply Dev.setEvt_wf
    | with_reducible apply Dev.wr_wf
    | with_reducible apply Dev.setFrm_wf
    | with_reducible apply Dev.Wf.ite
    | with_reducible (refine Dev.Wf.fold _ ?_ ?_; rotate_left; intro e x he)
    | with_reducible (refine Dev.Wf.foldPair _ ?_ ?_; rotate_left; intro e x he)
    | split
    | simp only [Dev.wf_built]
    | with_reducible apply Dev.Built.other
    | with_reducible apply Dev.Wf.itePair
    | with_reducible (refine Dev.Wf.ofPair (by assumption) ?_)
    | with_reducible (refine Dev.Wf.ofPairSnd (by assumption) ?_)
    | with_reducible dsimp only)

theorem Dev.asiSync_wf (d : Dev) (n : ℕ) (found : Bool) (spacing : ℕ) (packet : List Sys2Proof.Byte) (h_d : d.Wf) :
    Dev.Wf (Dev.asiSync d n found spacing packet) := by
  unfold Dev.asiSync
  try dsimp only
  repeat' (first
    | with_reducible assumption
    | with_reducible apply Dev.asiHunt_wf
    | with_reducible apply Dev.setFramer_wf
    | with_reducible apply Dev.setPm_wf
    | with_reducible apply Dev.asiPacket_wf
    | with_reducible apply Dev.inc_wf
    | with_reducible apply Dev.dataSettle_wf
    | with_reducible apply Dev.frmLoss_wf
    | with_reducible apply Dev.Wf.ite
    | with_reducible (refine Dev.Wf.fold _ ?_ ?_; rotate_left; intro e x he)
    | with_reducible (refine Dev.Wf.foldPair _ ?_ ?_; rotate_left; intro e x he)
    | split
    | simp only [Dev.wf_built]
    | with_reducible apply Dev.Built.other
    | with_reducible apply Dev.Wf.itePair
    | with_reducible (refine Dev.Wf.ofPair (by assumption) ?_)
    | with_reducible (refine Dev.Wf.ofPairSnd (by assumption) ?_)
    | with_reducible dsimp only)

end Sys2Proof.Machine
end

