-- ==== Sys2Proof/Laws/WfCourse.lean ====
section
/-! SUPPORT. The operations of Machine/Course.lean keep every table of the block canonical. -/

set_option linter.unusedTactic false
set_option linter.unreachableTactic false

namespace Sys2Proof.Machine

theorem Dev.slotPend_wf (d : Dev) (s : ℕ) (h_d : d.Wf) :
    Dev.Wf (Dev.slotPend d s) := by
  unfold Dev.slotPend
  try dsimp only
  repeat' (first
    | with_reducible assumption
    | with_reducible apply Dev.slotDefer_wf
    | with_reducible apply Dev.Wf.ite
    | with_reducible (refine Dev.Wf.fold _ ?_ ?_; rotate_left; intro e x he)
    | with_reducible (refine Dev.Wf.foldPair _ ?_ ?_; rotate_left; intro e x he)
    | split
    | simp only [Dev.wf_built]
    | with_reducible apply Dev.Built.other
    | with_reducible apply Dev.Wf.itePair
    | with_reducible (refine Dev.Wf.ofPair (by assumption) ?_)
    | with_reducible (refine Dev.Wf.ofPairSnd (by assumption) ?_)
    | with_reducible dsimp only)

theorem Dev.commitSettle_wf (d : Dev) (h_d : d.Wf) :
    Dev.Wf (Dev.commitSettle d) := by
  unfold Dev.commitSettle
  try dsimp only
  repeat' (first
    | with_reducible assumption
    | with_reducible apply Dev.dataSettle_wf
    | with_reducible apply Dev.outSettle_wf
    | with_reducible apply Dev.slotPend_wf
    | with_reducible apply Dev.Wf.ite
    | with_reducible (refine Dev.Wf.fold _ ?_ ?_; rotate_left; intro e x he)
    | with_reducible (refine Dev.Wf.foldPair _ ?_ ?_; rotate_left; intro e x he)
    | split
    | simp only [Dev.wf_built]
    | with_reducible apply Dev.Built.other
    | with_reducible apply Dev.Wf.itePair
    | with_reducible (refine Dev.Wf.ofPair (by assumption) ?_)
    | with_reducible (refine Dev.Wf.ofPairSnd (by assumption) ?_)
    | with_reducible dsimp only)

theorem Dev.commitNow_wf (d : Dev) (g : Nat) (x : Nat) (h_d : d.Wf) :
    Dev.Wf (Dev.commitNow d g x) := by
  unfold Dev.commitNow
  try dsimp only
  repeat' (first
    | with_reducible assumption
    | with_reducible apply Dev.commitSettle_wf
    | with_reducible apply Dev.takeStep_wf
    | with_reducible apply Dev.commitMember_wf
    | with_reducible apply Dev.setTake_wf
    | with_reducible apply Dev.Wf.ite
    | with_reducible (refine Dev.Wf.fold _ ?_ ?_; rotate_left; intro e x he)
    | with_reducible (refine Dev.Wf.foldPair _ ?_ ?_; rotate_left; intro e x he)
    | split
    | simp only [Dev.wf_built]
    | with_reducible apply Dev.Built.other
    | with_reducible apply Dev.Wf.itePair
    | with_reducible (refine Dev.Wf.ofPair (by assumption) ?_)
    | with_reducible (refine Dev.Wf.ofPairSnd (by assumption) ?_)
    | with_reducible dsimp only)

theorem Dev.framePulses_wf (d : Dev) (k : ℕ) (line : ℕ) (h_d : d.Wf) :
    Dev.Wf (Dev.framePulses d k line) := by
  unfold Dev.framePulses
  try dsimp only
  repeat' (first
    | with_reducible assumption
    | with_reducible apply Dev.Wf.ite
    | with_reducible (refine Dev.Wf.fold _ ?_ ?_; rotate_left; intro e x he)
    | with_reducible (refine Dev.Wf.foldPair _ ?_ ?_; rotate_left; intro e x he)
    | split
    | simp only [Dev.wf_built]
    | with_reducible apply Dev.Built.other
    | with_reducible apply Dev.Built.up_fps
    | with_reducible apply Map.wf_put
    | with_reducible apply Map.wf_filter
    | exact rfl
    | with_reducible apply Dev.Wf.fps
    | with_reducible apply Dev.Wf.itePair
    | with_reducible (refine Dev.Wf.ofPair (by assumption) ?_)
    | with_reducible (refine Dev.Wf.ofPairSnd (by assumption) ?_)
    | with_reducible dsimp only)

theorem Dev.internalLine_wf (d : Dev) (t : ℕ) (line : ℕ) (items : List Sys2Proof.LateItem) (h_d : d.Wf) :
    Dev.Wf (Dev.internalLine d t line items) := by
  unfold Dev.internalLine
  try dsimp only
  repeat' (first
    | with_reducible assumption
    | with_reducible apply Dev.probeSee_wf
    | with_reducible apply Dev.captureLine_wf
    | with_reducible apply Dev.Wf.ite
    | with_reducible (refine Dev.Wf.fold _ ?_ ?_; rotate_left; intro e x he)
    | with_reducible (refine Dev.Wf.foldPair _ ?_ ?_; rotate_left; intro e x he)
    | split
    | simp only [Dev.wf_built]
    | with_reducible apply Dev.Built.other
    | with_reducible apply Dev.Wf.itePair
    | with_reducible (refine Dev.Wf.ofPair (by assumption) ?_)
    | with_reducible (refine Dev.Wf.ofPairSnd (by assumption) ?_)
    | with_reducible dsimp only)

theorem Dev.switchLine_wf (d : Dev) (k : Nat) (h_d : d.Wf) :
    Dev.Wf (Dev.switchLine d k) := by
  unfold Dev.switchLine
  try dsimp only
  repeat' (first
    | with_reducible assumption
    | with_reducible apply Dev.commitSettle_wf
    | with_reducible apply Dev.swapExecute_wf
    | with_reducible apply Dev.switchCommit_wf
    | with_reducible apply Dev.setEvt_wf
    | with_reducible apply Dev.Wf.ite
    | with_reducible (refine Dev.Wf.fold _ ?_ ?_; rotate_left; intro e x he)
    | with_reducible (refine Dev.Wf.foldPair _ ?_ ?_; rotate_left; intro e x he)
    | split
    | simp only [Dev.wf_built]
    | with_reducible apply Dev.Built.other
    | with_reducible apply Dev.Wf.itePair
    | with_reducible (refine Dev.Wf.ofPair (by assumption) ?_)
    | with_reducible (refine Dev.Wf.ofPairSnd (by assumption) ?_)
    | with_reducible dsimp only)

theorem Dev.course_wf (d : Dev) (k : ℕ) (line : ℕ) (items : List Sys2Proof.LateItem) (h_d : d.Wf) :
    Dev.Wf (Dev.course d k line items) := by
  unfold Dev.course
  try dsimp only
  repeat' (first
    | with_reducible assumption
    | with_reducible apply Dev.setDom_wf
    | with_reducible apply Dev.switchLine_wf
    | with_reducible apply Dev.framePulses_wf
    | with_reducible apply Dev.fsReads_wf
    | with_reducible apply Dev.fsDelay_wf
    | with_reducible apply Dev.groupLines_wf
    | with_reducible apply Dev.outJudge_wf
    | with_reducible apply Dev.memReadLate_wf
    | with_reducible apply Dev.gateBricks_wf
    | with_reducible apply Dev.internalLine_wf
    | with_reducible apply Dev.laneCourse_wf
    | with_reducible apply Dev.tlCourse_wf
    | with_reducible apply Dev.Wf.ite
    | with_reducible (refine Dev.Wf.fold _ ?_ ?_; rotate_left; intro e x he)
    | with_reducible (refine Dev.Wf.foldPair _ ?_ ?_; rotate_left; intro e x he)
    | split
    | simp only [Dev.wf_built]
    | with_reducible apply Dev.Built.other
    | with_reducible apply Dev.Built.up_lanes
    | with_reducible apply Dev.Built.up_outs
    | with_reducible apply Dev.Built.up_slots
    | with_reducible apply Map.wf_put
    | with_reducible apply Map.wf_filter
    | exact rfl
    | with_reducible apply Dev.Wf.lanes
    | with_reducible apply Dev.Wf.outs
    | with_reducible apply Dev.Wf.slots
    | with_reducible apply Dev.Wf.itePair
    | with_reducible (refine Dev.Wf.ofPair (by assumption) ?_)
    | with_reducible (refine Dev.Wf.ofPairSnd (by assumption) ?_)
    | with_reducible dsimp only)

theorem Dev.frameStart_wf (d : Dev) (k : Nat) (err : Int) (epoch : Nat) (h_d : d.Wf) :
    Dev.Wf (Dev.frameStart d k err epoch) := by
  unfold Dev.frameStart
  try dsimp only
  repeat' (first
    | with_reducible assumption
    | with_reducible apply Dev.probeFrames_wf
    | with_reducible apply Dev.frameCount_wf
    | with_reducible apply Dev.outSettle_wf
    | with_reducible apply Dev.shadowFrame_wf
    | with_reducible apply Dev.fsFrameStart_wf
    | with_reducible apply Dev.Wf.ite
    | with_reducible (refine Dev.Wf.fold _ ?_ ?_; rotate_left; intro e x he)
    | with_reducible (refine Dev.Wf.foldPair _ ?_ ?_; rotate_left; intro e x he)
    | split
    | simp only [Dev.wf_built]
    | with_reducible apply Dev.Built.other
    | with_reducible apply Dev.Wf.itePair
    | with_reducible (refine Dev.Wf.ofPair (by assumption) ?_)
    | with_reducible (refine Dev.Wf.ofPairSnd (by assumption) ?_)
    | with_reducible dsimp only)

theorem Dev.jumpExecute_wf (d : Dev) (k : Nat) (epoch : Nat) (h_d : d.Wf) :
    Dev.Wf (Dev.jumpExecute d k epoch) := by
  unfold Dev.jumpExecute
  try dsimp only
  repeat' (first
    | with_reducible assumption
    | with_reducible apply Dev.frameStart_wf
    | with_reducible apply Dev.Wf.ite
    | with_reducible (refine Dev.Wf.fold _ ?_ ?_; rotate_left; intro e x he)
    | with_reducible (refine Dev.Wf.foldPair _ ?_ ?_; rotate_left; intro e x he)
    | split
    | simp only [Dev.wf_built]
    | with_reducible apply Dev.Built.other
    | with_reducible apply Dev.Wf.itePair
    | with_reducible (refine Dev.Wf.ofPair (by assumption) ?_)
    | with_reducible (refine Dev.Wf.ofPairSnd (by assumption) ?_)
    | with_reducible dsimp only)

theorem Dev.samplePeriod_wf (d : Dev) (lates : List Sys2Proof.AudioLate) (h_d : d.Wf) :
    Dev.Wf (Dev.samplePeriod d lates) := by
  unfold Dev.samplePeriod
  try dsimp only
  repeat' (first
    | with_reducible assumption
    | with_reducible apply Dev.tlAudioPeriod_wf
    | with_reducible apply Dev.outPeriod_wf
    | with_reducible apply Dev.audioPeriod_wf
    | with_reducible apply Dev.Wf.ite
    | with_reducible (refine Dev.Wf.fold _ ?_ ?_; rotate_left; intro e x he)
    | with_reducible (refine Dev.Wf.foldPair _ ?_ ?_; rotate_left; intro e x he)
    | split
    | simp only [Dev.wf_built]
    | with_reducible apply Dev.Built.other
    | with_reducible apply Dev.Wf.itePair
    | with_reducible (refine Dev.Wf.ofPair (by assumption) ?_)
    | with_reducible (refine Dev.Wf.ofPairSnd (by assumption) ?_)
    | with_reducible dsimp only)

end Sys2Proof.Machine
end

