-- ==== Sys2Proof/Laws/WfProtect.lean ====
section
/-! SUPPORT. The operations of Machine/Protect.lean keep every table of the block canonical. -/

set_option linter.unusedTactic false
set_option linter.unreachableTactic false

namespace Sys2Proof.Machine

theorem Dev.pmWr_wf (d : Dev) (l : Nat) (f : Fld) (v : Nat) (h_d : d.Wf) :
    Dev.Wf (Dev.pmWr d l f v) := by
  unfold Dev.pmWr
  try dsimp only
  repeat' (first
    | with_reducible assumption
    | with_reducible apply Dev.wr_wf
    | with_reducible apply Dev.Wf.ite
    | with_reducible (refine Dev.Wf.fold _ ?_ ?_; rotate_left; intro e x he)
    | with_reducible (refine Dev.Wf.foldPair _ ?_ ?_; rotate_left; intro e x he)
    | split
    | simp only [Dev.wf_built]
    | with_reducible apply Dev.Built.other
    | with_reducible apply Dev.Wf.itePair
    | with_reducible (refine Dev.Wf.ofPair (by assumption) ?_)
    | with_reducible (refine Dev.Wf.ofPairSnd (by assumption) ?_)
    | with_reducible dsimp only)

theorem Dev.pmBin_wf (d : Dev) (l : Nat) (f15 : Fld) (f24 : Fld) (h_d : d.Wf) :
    Dev.Wf (Dev.pmBin d l f15 f24) := by
  unfold Dev.pmBin
  try dsimp only
  repeat' (first
    | with_reducible assumption
    | with_reducible apply Dev.add_wf
    | with_reducible apply Dev.Wf.ite
    | with_reducible (refine Dev.Wf.fold _ ?_ ?_; rotate_left; intro e x he)
    | with_reducible (refine Dev.Wf.foldPair _ ?_ ?_; rotate_left; intro e x he)
    | split
    | simp only [Dev.wf_built]
    | with_reducible apply Dev.Built.other
    | with_reducible apply Dev.Wf.itePair
    | with_reducible (refine Dev.Wf.ofPair (by assumption) ?_)
    | with_reducible (refine Dev.Wf.ofPairSnd (by assumption) ?_)
    | with_reducible dsimp only)

theorem Dev.pmEnter_wf (d : Dev) (l : Nat) (x : PmGrade) (h_d : d.Wf) :
    Dev.Wf (Dev.pmEnter d l x) := by
  unfold Dev.pmEnter
  try dsimp only
  repeat' (first
    | with_reducible assumption
    | with_reducible apply Dev.pmWr_wf
    | with_reducible apply Dev.pmBin_wf
    | with_reducible apply Dev.setReg_wf
    | with_reducible apply Dev.Wf.ite
    | with_reducible (refine Dev.Wf.fold _ ?_ ?_; rotate_left; intro e x he)
    | with_reducible (refine Dev.Wf.foldPair _ ?_ ?_; rotate_left; intro e x he)
    | split
    | simp only [Dev.wf_built]
    | with_reducible apply Dev.Built.other
    | with_reducible apply Dev.Wf.itePair
    | with_reducible (refine Dev.Wf.ofPair (by assumption) ?_)
    | with_reducible (refine Dev.Wf.ofPairSnd (by assumption) ?_)
    | with_reducible dsimp only)

theorem Dev.pmDeg_wf (d : Dev) (l : Nat) (err : Nat) (h_d : d.Wf) :
    Dev.Wf (Dev.pmDeg d l err) := by
  unfold Dev.pmDeg
  try dsimp only
  repeat' (first
    | with_reducible assumption
    | with_reducible apply Dev.setPm_wf
    | with_reducible apply Dev.setDef_wf
    | with_reducible apply Dev.Wf.ite
    | with_reducible (refine Dev.Wf.fold _ ?_ ?_; rotate_left; intro e x he)
    | with_reducible (refine Dev.Wf.foldPair _ ?_ ?_; rotate_left; intro e x he)
    | split
    | simp only [Dev.wf_built]
    | with_reducible apply Dev.Built.other
    | with_reducible apply Dev.Wf.itePair
    | with_reducible (refine Dev.Wf.ofPair (by assumption) ?_)
    | with_reducible (refine Dev.Wf.ofPairSnd (by assumption) ?_)
    | with_reducible dsimp only)

theorem Dev.pmLane_wf (d : Dev) (l : Nat) (second : Nat) (mark : Bool) (h_d : d.Wf) :
    Dev.Wf (Dev.pmLane d l second mark) := by
  unfold Dev.pmLane
  try dsimp only
  repeat' (first
    | with_reducible assumption
    | with_reducible apply Dev.pmWr_wf
    | with_reducible apply Dev.setPm_wf
    | with_reducible apply Dev.pmEnter_wf
    | with_reducible apply Dev.pmDeg_wf
    | with_reducible apply Dev.Wf.ite
    | with_reducible (refine Dev.Wf.fold _ ?_ ?_; rotate_left; intro e x he)
    | with_reducible (refine Dev.Wf.foldPair _ ?_ ?_; rotate_left; intro e x he)
    | split
    | simp only [Dev.wf_built]
    | with_reducible apply Dev.Built.other
    | with_reducible apply Dev.Wf.itePair
    | with_reducible (refine Dev.Wf.ofPair (by assumption) ?_)
    | with_reducible (refine Dev.Wf.ofPairSnd (by assumption) ?_)
    | with_reducible dsimp only)

theorem Dev.wtrCount_wf (d : Dev) (h_d : d.Wf) :
    Dev.Wf (Dev.wtrCount d) := by
  unfold Dev.wtrCount
  try dsimp only
  repeat' (first
    | with_reducible assumption
    | with_reducible apply Dev.wrB_wf
    | with_reducible apply Dev.Wf.ite
    | with_reducible (refine Dev.Wf.fold _ ?_ ?_; rotate_left; intro e x he)
    | with_reducible (refine Dev.Wf.foldPair _ ?_ ?_; rotate_left; intro e x he)
    | split
    | simp only [Dev.wf_built]
    | with_reducible apply Dev.Built.other
    | with_reducible apply Dev.Wf.itePair
    | with_reducible (refine Dev.Wf.ofPair (by assumption) ?_)
    | with_reducible (refine Dev.Wf.ofPairSnd (by assumption) ?_)
    | with_reducible dsimp only)

theorem Dev.pmSecond_wf (d : Dev) (h_d : d.Wf) :
    Dev.Wf (Dev.pmSecond d) := by
  unfold Dev.pmSecond
  try dsimp only
  repeat' (first
    | with_reducible assumption
    | with_reducible apply Dev.pmLane_wf
    | with_reducible apply Dev.setEvtIf_wf
    | with_reducible apply Dev.wr_wf
    | with_reducible apply Dev.protSettle_wf
    | with_reducible apply Dev.wtrCount_wf
    | with_reducible apply Dev.Wf.ite
    | with_reducible (refine Dev.Wf.fold _ ?_ ?_; rotate_left; intro e x he)
    | with_reducible (refine Dev.Wf.foldPair _ ?_ ?_; rotate_left; intro e x he)
    | split
    | simp only [Dev.wf_built]
    | with_reducible apply Dev.Built.other
    | with_reducible apply Dev.Wf.itePair
    | with_reducible (refine Dev.Wf.ofPair (by assumption) ?_)
    | with_reducible (refine Dev.Wf.ofPairSnd (by assumption) ?_)
    | with_reducible dsimp only)

theorem Dev.pmSecWrite_wf (d : Dev) (old : Sys2Proof.Word) (v : Sys2Proof.Word) (h_d : d.Wf) :
    Dev.Wf (Dev.pmSecWrite d old v) := by
  unfold Dev.pmSecWrite
  try dsimp only
  repeat' (first
    | with_reducible assumption
    | with_reducible apply Dev.setReg_wf
    | with_reducible apply Dev.pmWr_wf
    | with_reducible apply Dev.Wf.ite
    | with_reducible (refine Dev.Wf.fold _ ?_ ?_; rotate_left; intro e x he)
    | with_reducible (refine Dev.Wf.foldPair _ ?_ ?_; rotate_left; intro e x he)
    | split
    | simp only [Dev.wf_built]
    | with_reducible apply Dev.Built.other
    | with_reducible apply Dev.Wf.itePair
    | with_reducible (refine Dev.Wf.ofPair (by assumption) ?_)
    | with_reducible (refine Dev.Wf.ofPairSnd (by assumption) ?_)
    | with_reducible dsimp only)

theorem Dev.pmClear_wf (d : Dev) (h_d : d.Wf) :
    Dev.Wf (Dev.pmClear d) := by
  unfold Dev.pmClear
  try dsimp only
  repeat' (first
    | with_reducible assumption
    | with_reducible apply Dev.setReg_wf
    | with_reducible apply Dev.Wf.ite
    | with_reducible (refine Dev.Wf.fold _ ?_ ?_; rotate_left; intro e x he)
    | with_reducible (refine Dev.Wf.foldPair _ ?_ ?_; rotate_left; intro e x he)
    | split
    | simp only [Dev.wf_built]
    | with_reducible apply Dev.Built.other
    | with_reducible apply Dev.Wf.itePair
    | with_reducible (refine Dev.Wf.ofPair (by assumption) ?_)
    | with_reducible (refine Dev.Wf.ofPairSnd (by assumption) ?_)
    | with_reducible dsimp only)

theorem Dev.protDone_wf (d : Dev) (g : Nat) (h_d : d.Wf) :
    Dev.Wf (Dev.protDone d g) := by
  unfold Dev.protDone
  try dsimp only
  repeat' (first
    | with_reducible assumption
    | with_reducible apply Dev.dataSettle_wf
    | with_reducible apply Dev.groupSettle_wf
    | with_reducible apply Dev.Wf.ite
    | with_reducible (refine Dev.Wf.fold _ ?_ ?_; rotate_left; intro e x he)
    | with_reducible (refine Dev.Wf.foldPair _ ?_ ?_; rotate_left; intro e x he)
    | split
    | simp only [Dev.wf_built]
    | with_reducible apply Dev.Built.other
    | with_reducible apply Dev.Wf.itePair
    | with_reducible (refine Dev.Wf.ofPair (by assumption) ?_)
    | with_reducible (refine Dev.Wf.ofPairSnd (by assumption) ?_)
    | with_reducible dsimp only)

theorem Dev.pgCfgAfter_wf (d : Dev) (g : Nat) (old : Sys2Proof.Word) (v : Sys2Proof.Word) (h_d : d.Wf) :
    Dev.Wf (Dev.pgCfgAfter d g old v) := by
  unfold Dev.pgCfgAfter
  try dsimp only
  repeat' (first
    | with_reducible assumption
    | with_reducible apply Dev.protDone_wf
    | with_reducible apply Dev.setGroup_wf
    | with_reducible apply Dev.Wf.ite
    | with_reducible (refine Dev.Wf.fold _ ?_ ?_; rotate_left; intro e x he)
    | with_reducible (refine Dev.Wf.foldPair _ ?_ ?_; rotate_left; intro e x he)
    | split
    | simp only [Dev.wf_built]
    | with_reducible apply Dev.Built.other
    | with_reducible apply Dev.Wf.itePair
    | with_reducible (refine Dev.Wf.ofPair (by assumption) ?_)
    | with_reducible (refine Dev.Wf.ofPairSnd (by assumption) ?_)
    | with_reducible dsimp only)

theorem Dev.pgTimeAfter_wf (d : Dev) (g : Nat) (old : Sys2Proof.Word) (v : Sys2Proof.Word) (h_d : d.Wf) :
    Dev.Wf (Dev.pgTimeAfter d g old v) := by
  unfold Dev.pgTimeAfter
  try dsimp only
  repeat' (first
    | with_reducible assumption
    | with_reducible apply Dev.setGroup_wf
    | with_reducible apply Dev.wrB_wf
    | with_reducible apply Dev.protDone_wf
    | with_reducible apply Dev.Wf.ite
    | with_reducible (refine Dev.Wf.fold _ ?_ ?_; rotate_left; intro e x he)
    | with_reducible (refine Dev.Wf.foldPair _ ?_ ?_; rotate_left; intro e x he)
    | split
    | simp only [Dev.wf_built]
    | with_reducible apply Dev.Built.other
    | with_reducible apply Dev.Wf.itePair
    | with_reducible (refine Dev.Wf.ofPair (by assumption) ?_)
    | with_reducible (refine Dev.Wf.ofPairSnd (by assumption) ?_)
    | with_reducible dsimp only)

theorem Dev.pgCommand_wf (d : Dev) (g : Nat) (c : Nat) (h_d : d.Wf) :
    Dev.Wf (Dev.pgCommand d g c) := by
  unfold Dev.pgCommand
  try dsimp only
  repeat' (first
    | with_reducible assumption
    | with_reducible apply Dev.protDone_wf
    | with_reducible apply Dev.setGroup_wf
    | with_reducible apply Dev.Wf.ite
    | with_reducible (refine Dev.Wf.fold _ ?_ ?_; rotate_left; intro e x he)
    | with_reducible (refine Dev.Wf.foldPair _ ?_ ?_; rotate_left; intro e x he)
    | split
    | simp only [Dev.wf_built]
    | with_reducible apply Dev.Built.other
    | with_reducible apply Dev.Wf.itePair
    | with_reducible (refine Dev.Wf.ofPair (by assumption) ?_)
    | with_reducible (refine Dev.Wf.ofPairSnd (by assumption) ?_)
    | with_reducible dsimp only)

theorem Dev.protCtl_wf (d : Dev) (v : Sys2Proof.Word) (h_d : d.Wf) :
    Dev.Wf (Dev.protCtl d v) := by
  unfold Dev.protCtl
  try dsimp only
  repeat' (first
    | with_reducible assumption
    | with_reducible apply Dev.setReg_wf
    | with_reducible apply Dev.pmClear_wf
    | with_reducible apply Dev.Wf.ite
    | with_reducible (refine Dev.Wf.fold _ ?_ ?_; rotate_left; intro e x he)
    | with_reducible (refine Dev.Wf.foldPair _ ?_ ?_; rotate_left; intro e x he)
    | split
    | simp only [Dev.wf_built]
    | with_reducible apply Dev.Built.other
    | with_reducible apply Dev.Wf.itePair
    | with_reducible (refine Dev.Wf.ofPair (by assumption) ?_)
    | with_reducible (refine Dev.Wf.ofPairSnd (by assumption) ?_)
    | with_reducible dsimp only)

theorem Dev.protAfter_wf (d : Dev) (off : Nat) (old : Sys2Proof.Word) (v : Sys2Proof.Word) (h_d : d.Wf) :
    Dev.Wf (Dev.protAfter d off old v) := by
  unfold Dev.protAfter
  try dsimp only
  repeat' (first
    | with_reducible assumption
    | with_reducible apply Dev.dataSettle_wf
    | with_reducible apply Dev.protSettle_wf
    | with_reducible apply Dev.pgCfgAfter_wf
    | with_reducible apply Dev.pgTimeAfter_wf
    | with_reducible apply Dev.pgCommand_wf
    | with_reducible apply Dev.pmSecWrite_wf
    | with_reducible apply Dev.protCtl_wf
    | with_reducible apply Dev.Wf.ite
    | with_reducible (refine Dev.Wf.fold _ ?_ ?_; rotate_left; intro e x he)
    | with_reducible (refine Dev.Wf.foldPair _ ?_ ?_; rotate_left; intro e x he)
    | split
    | simp only [Dev.wf_built]
    | with_reducible apply Dev.Built.other
    | with_reducible apply Dev.Wf.itePair
    | with_reducible (refine Dev.Wf.ofPair (by assumption) ?_)
    | with_reducible (refine Dev.Wf.ofPairSnd (by assumption) ?_)
    | with_reducible dsimp only)

theorem Dev.holdoffExpiry_wf (d : Dev) (g : Nat) (member : Nat) (degrade : Bool) (h_d : d.Wf) :
    Dev.Wf (Dev.holdoffExpiry d g member degrade) := by
  unfold Dev.holdoffExpiry
  try dsimp only
  repeat' (first
    | with_reducible assumption
    | with_reducible apply Dev.protDone_wf
    | with_reducible apply Dev.setGroup_wf
    | with_reducible apply Dev.Wf.ite
    | with_reducible (refine Dev.Wf.fold _ ?_ ?_; rotate_left; intro e x he)
    | with_reducible (refine Dev.Wf.foldPair _ ?_ ?_; rotate_left; intro e x he)
    | split
    | simp only [Dev.wf_built]
    | with_reducible apply Dev.Built.other
    | with_reducible apply Dev.Wf.itePair
    | with_reducible (refine Dev.Wf.ofPair (by assumption) ?_)
    | with_reducible (refine Dev.Wf.ofPairSnd (by assumption) ?_)
    | with_reducible dsimp only)

theorem Dev.pgWtrExpiry_wf (d : Dev) (g : Nat) (h_d : d.Wf) :
    Dev.Wf (Dev.pgWtrExpiry d g) := by
  unfold Dev.pgWtrExpiry
  try dsimp only
  repeat' (first
    | with_reducible assumption
    | with_reducible apply Dev.protDone_wf
    | with_reducible apply Dev.setGroup_wf
    | with_reducible apply Dev.Wf.ite
    | with_reducible (refine Dev.Wf.fold _ ?_ ?_; rotate_left; intro e x he)
    | with_reducible (refine Dev.Wf.foldPair _ ?_ ?_; rotate_left; intro e x he)
    | split
    | simp only [Dev.wf_built]
    | with_reducible apply Dev.Built.other
    | with_reducible apply Dev.Wf.itePair
    | with_reducible (refine Dev.Wf.ofPair (by assumption) ?_)
    | with_reducible (refine Dev.Wf.ofPairSnd (by assumption) ?_)
    | with_reducible dsimp only)

end Sys2Proof.Machine
end

