-- ==== Sys2Proof/Laws/WfIntc.lean ====
section
/-! SUPPORT. The operations of Machine/Intc.lean keep every table of the block canonical. -/

set_option linter.unusedTactic false
set_option linter.unreachableTactic false

namespace Sys2Proof.Machine

theorem Dev.setSlotOf_wf (d : Dev) (t : Nat) (cls : Nat) (v : Nat) (h_d : d.Wf) :
    Dev.Wf (Dev.setSlotOf d t cls v) := by
  unfold Dev.setSlotOf
  try dsimp only
  repeat' (first
    | with_reducible assumption
    | with_reducible apply Dev.Wf.ite
    | with_reducible (refine Dev.Wf.fold _ ?_ ?_; rotate_left; intro e x he)
    | with_reducible (refine Dev.Wf.foldPair _ ?_ ?_; rotate_left; intro e x he)
    | split
    | simp only [Dev.wf_built]
    | with_reducible apply Dev.Built.other
    | with_reducible apply Dev.Built.up_slots
    | with_reducible apply Map.wf_put
    | with_reducible apply Map.wf_filter
    | exact rfl
    | with_reducible apply Dev.Wf.slots
    | with_reducible apply Dev.Wf.itePair
    | with_reducible (refine Dev.Wf.ofPair (by assumption) ?_)
    | with_reducible (refine Dev.Wf.ofPairSnd (by assumption) ?_)
    | with_reducible dsimp only)

theorem Dev.msixRaise_wf (d : Dev) (v : Nat) (h_d : d.Wf) :
    Dev.Wf (Dev.msixRaise d v) := by
  unfold Dev.msixRaise
  try dsimp only
  repeat' (first
    | with_reducible assumption
    | with_reducible apply Dev.Wf.ite
    | with_reducible (refine Dev.Wf.fold _ ?_ ?_; rotate_left; intro e x he)
    | with_reducible (refine Dev.Wf.foldPair _ ?_ ?_; rotate_left; intro e x he)
    | split
    | simp only [Dev.wf_built]
    | with_reducible apply Dev.Built.other
    | with_reducible apply Dev.Wf.itePair
    | with_reducible (refine Dev.Wf.ofPair (by assumption) ?_)
    | with_reducible (refine Dev.Wf.ofPairSnd (by assumption) ?_)
    | with_reducible dsimp only)

theorem Dev.intCommit_wf (d : Dev) (t : Nat) (cls : Nat) (h_d : d.Wf) :
    Dev.Wf (Dev.intCommit d t cls) := by
  unfold Dev.intCommit
  try dsimp only
  repeat' (first
    | with_reducible assumption
    | with_reducible apply Dev.setSrc_wf
    | with_reducible apply Dev.setSlotOf_wf
    | with_reducible apply Dev.msixRaise_wf
    | with_reducible apply Dev.Wf.ite
    | with_reducible (refine Dev.Wf.fold _ ?_ ?_; rotate_left; intro e x he)
    | with_reducible (refine Dev.Wf.foldPair _ ?_ ?_; rotate_left; intro e x he)
    | split
    | simp only [Dev.wf_built]
    | with_reducible apply Dev.Built.other
    | with_reducible apply Dev.Wf.itePair
    | with_reducible (refine Dev.Wf.ofPair (by assumption) ?_)
    | with_reducible (refine Dev.Wf.ofPairSnd (by assumption) ?_)
    | with_reducible dsimp only)

theorem Dev.intDelivered_wf (d : Dev) (t : Nat) (cls : Nat) (h_d : d.Wf) :
    Dev.Wf (Dev.intDelivered d t cls) := by
  unfold Dev.intDelivered
  try dsimp only
  repeat' (first
    | with_reducible assumption
    | with_reducible apply Dev.setSrc_wf
    | with_reducible apply Dev.Wf.ite
    | with_reducible (refine Dev.Wf.fold _ ?_ ?_; rotate_left; intro e x he)
    | with_reducible (refine Dev.Wf.foldPair _ ?_ ?_; rotate_left; intro e x he)
    | split
    | simp only [Dev.wf_built]
    | with_reducible apply Dev.Built.other
    | with_reducible apply Dev.Wf.itePair
    | with_reducible (refine Dev.Wf.ofPair (by assumption) ?_)
    | with_reducible (refine Dev.Wf.ofPairSnd (by assumption) ?_)
    | with_reducible dsimp only)

theorem Dev.claim_wf (d : Dev) (t : Nat) (cls : Nat) (all : Bool) (h_d : d.Wf) :
    Dev.Wf (Dev.claim d t cls all) := by
  unfold Dev.claim
  try dsimp only
  repeat' (first
    | with_reducible assumption
    | with_reducible apply Dev.setSrc_wf
    | with_reducible apply Dev.setSlotOf_wf
    | with_reducible apply Dev.Wf.ite
    | with_reducible (refine Dev.Wf.fold _ ?_ ?_; rotate_left; intro e x he)
    | with_reducible (refine Dev.Wf.foldPair _ ?_ ?_; rotate_left; intro e x he)
    | split
    | simp only [Dev.wf_built]
    | with_reducible apply Dev.Built.other
    | with_reducible apply Dev.Wf.itePair
    | with_reducible (refine Dev.Wf.ofPair (by assumption) ?_)
    | with_reducible (refine Dev.Wf.ofPairSnd (by assumption) ?_)
    | with_reducible dsimp only)

theorem Dev.serviceEnd_wf (d : Dev) (k : Nat) (h_d : d.Wf) :
    Dev.Wf (Dev.serviceEnd d k) := by
  unfold Dev.serviceEnd
  try dsimp only
  repeat' (first
    | with_reducible assumption
    | with_reducible apply Dev.setSrc_wf
    | with_reducible apply Dev.wakeFor_wf
    | with_reducible apply Dev.addEvent_wf
    | with_reducible apply Dev.Wf.ite
    | with_reducible (refine Dev.Wf.fold _ ?_ ?_; rotate_left; intro e x he)
    | with_reducible (refine Dev.Wf.foldPair _ ?_ ?_; rotate_left; intro e x he)
    | split
    | simp only [Dev.wf_built]
    | with_reducible apply Dev.Built.other
    | with_reducible apply Dev.Wf.itePair
    | with_reducible (refine Dev.Wf.ofPair (by assumption) ?_)
    | with_reducible (refine Dev.Wf.ofPairSnd (by assumption) ?_)
    | with_reducible dsimp only)

theorem Dev.complete_wf (d : Dev) (m : Nat) (cls : Nat) (s : Nat) (h_d : d.Wf) :
    Dev.Wf (Dev.complete d m cls s) := by
  unfold Dev.complete
  try dsimp only
  repeat' (first
    | with_reducible assumption
    | with_reducible apply Dev.serviceEnd_wf
    | with_reducible apply Dev.setEvt_wf
    | with_reducible apply Dev.wr_wf
    | with_reducible apply Dev.Wf.ite
    | with_reducible (refine Dev.Wf.fold _ ?_ ?_; rotate_left; intro e x he)
    | with_reducible (refine Dev.Wf.foldPair _ ?_ ?_; rotate_left; intro e x he)
    | split
    | simp only [Dev.wf_built]
    | with_reducible apply Dev.Built.other
    | with_reducible apply Dev.Wf.itePair
    | with_reducible (refine Dev.Wf.ofPair (by assumption) ?_)
    | with_reducible (refine Dev.Wf.ofPairSnd (by assumption) ?_)
    | with_reducible dsimp only)

theorem Dev.swi_wf (d : Dev) (m : Nat) (v : Sys2Proof.Word) (h_d : d.Wf) :
    Dev.Wf (Dev.swi d m v) := by
  unfold Dev.swi
  try dsimp only
  repeat' (first
    | with_reducible assumption
    | with_reducible apply Dev.addEvent_wf
    | with_reducible apply Dev.Wf.ite
    | with_reducible (refine Dev.Wf.fold _ ?_ ?_; rotate_left; intro e x he)
    | with_reducible (refine Dev.Wf.foldPair _ ?_ ?_; rotate_left; intro e x he)
    | split
    | simp only [Dev.wf_built]
    | with_reducible apply Dev.Built.other
    | with_reducible apply Dev.Wf.itePair
    | with_reducible (refine Dev.Wf.ofPair (by assumption) ?_)
    | with_reducible (refine Dev.Wf.ofPairSnd (by assumption) ?_)
    | with_reducible dsimp only)

theorem Dev.maskHit_wf (d : Dev) (k : Nat) (h_d : d.Wf) :
    Dev.Wf (Dev.maskHit d k) := by
  unfold Dev.maskHit
  try dsimp only
  repeat' (first
    | with_reducible assumption
    | with_reducible apply Dev.setSrc_wf
    | with_reducible apply Dev.Wf.ite
    | with_reducible (refine Dev.Wf.fold _ ?_ ?_; rotate_left; intro e x he)
    | with_reducible (refine Dev.Wf.foldPair _ ?_ ?_; rotate_left; intro e x he)
    | split
    | simp only [Dev.wf_built]
    | with_reducible apply Dev.Built.other
    | with_reducible apply Dev.Wf.itePair
    | with_reducible (refine Dev.Wf.ofPair (by assumption) ?_)
    | with_reducible (refine Dev.Wf.ofPairSnd (by assumption) ?_)
    | with_reducible dsimp only)

theorem Dev.intcAfter_wf (d : Dev) (m : ℕ) (off : ℕ) (old : Sys2Proof.Word) (v : Sys2Proof.Word) (h_d : d.Wf) :
    Dev.Wf (Dev.intcAfter d m off old v) := by
  unfold Dev.intcAfter
  try dsimp only
  repeat' (first
    | with_reducible assumption
    | with_reducible apply Dev.wakeSettle_wf
    | with_reducible apply Dev.maskHit_wf
    | with_reducible apply Dev.complete_wf
    | with_reducible apply Dev.swi_wf
    | with_reducible apply Dev.Wf.ite
    | with_reducible (refine Dev.Wf.fold _ ?_ ?_; rotate_left; intro e x he)
    | with_reducible (refine Dev.Wf.foldPair _ ?_ ?_; rotate_left; intro e x he)
    | split
    | simp only [Dev.wf_built]
    | with_reducible apply Dev.Built.other
    | with_reducible apply Dev.Wf.itePair
    | with_reducible (refine Dev.Wf.ofPair (by assumption) ?_)
    | with_reducible (refine Dev.Wf.ofPairSnd (by assumption) ?_)
    | with_reducible dsimp only)

theorem Dev.intcClear_wf (d : Dev) (h_d : d.Wf) :
    Dev.Wf (Dev.intcClear d) := by
  unfold Dev.intcClear
  try dsimp only
  repeat' (first
    | with_reducible assumption
    | with_reducible apply Dev.Wf.ite
    | with_reducible (refine Dev.Wf.fold _ ?_ ?_; rotate_left; intro e x he)
    | with_reducible (refine Dev.Wf.foldPair _ ?_ ?_; rotate_left; intro e x he)
    | split
    | simp only [Dev.wf_built]
    | with_reducible apply Dev.Built.other
    | with_reducible apply Dev.Wf.itePair
    | with_reducible (refine Dev.Wf.ofPair (by assumption) ?_)
    | with_reducible (refine Dev.Wf.ofPairSnd (by assumption) ?_)
    | with_reducible dsimp only)

theorem Dev.intcRelevel_wf (d : Dev) (h_d : d.Wf) :
    Dev.Wf (Dev.intcRelevel d) := by
  unfold Dev.intcRelevel
  try dsimp only
  repeat' (first
    | with_reducible assumption
    | with_reducible apply Dev.addEvent_wf
    | with_reducible apply Dev.Wf.ite
    | with_reducible (refine Dev.Wf.fold _ ?_ ?_; rotate_left; intro e x he)
    | with_reducible (refine Dev.Wf.foldPair _ ?_ ?_; rotate_left; intro e x he)
    | split
    | simp only [Dev.wf_built]
    | with_reducible apply Dev.Built.other
    | with_reducible apply Dev.Wf.itePair
    | with_reducible (refine Dev.Wf.ofPair (by assumption) ?_)
    | with_reducible (refine Dev.Wf.ofPairSnd (by assumption) ?_)
    | with_reducible dsimp only)

theorem Dev.intcCore_wf (d : Dev) (c : ℕ) (h_d : d.Wf) :
    Dev.Wf (Dev.intcCore d c) := by
  unfold Dev.intcCore
  try dsimp only
  repeat' (first
    | with_reducible assumption
    | with_reducible apply Dev.setSrc_wf
    | with_reducible apply Dev.setSlotOf_wf
    | with_reducible apply Dev.serviceEnd_wf
    | with_reducible apply Dev.wakeSettle_wf
    | with_reducible apply Dev.Wf.ite
    | with_reducible (refine Dev.Wf.fold _ ?_ ?_; rotate_left; intro e x he)
    | with_reducible (refine Dev.Wf.foldPair _ ?_ ?_; rotate_left; intro e x he)
    | split
    | simp only [Dev.wf_built]
    | with_reducible apply Dev.Built.other
    | with_reducible apply Dev.Wf.itePair
    | with_reducible (refine Dev.Wf.ofPair (by assumption) ?_)
    | with_reducible (refine Dev.Wf.ofPairSnd (by assumption) ?_)
    | with_reducible dsimp only)

end Sys2Proof.Machine
end

