-- ==== Sys2Proof/Laws/WfMtx.lean ====
section
/-! SUPPORT. The operations of Machine/Mtx.lean keep every table of the block canonical. -/

set_option linter.unusedTactic false
set_option linter.unreachableTactic false

namespace Sys2Proof.Machine

theorem Dev.granted_wf (d : Dev) (t : Nat) (m : Nat) (h_d : d.Wf) :
    Dev.Wf (Dev.granted d t m) := by
  unfold Dev.granted
  try dsimp only
  repeat' (first
    | with_reducible assumption
    | with_reducible apply Dev.Wf.ite
    | with_reducible (refine Dev.Wf.fold _ ?_ ?_; rotate_left; intro e x he)
    | with_reducible (refine Dev.Wf.foldPair _ ?_ ?_; rotate_left; intro e x he)
    | split
    | simp only [Dev.wf_built]
    | with_reducible apply Dev.Built.other
    | with_reducible apply Dev.Wf.itePair
    | with_reducible (refine Dev.Wf.ofPair (by assumption) ?_)
    | with_reducible (refine Dev.Wf.ofPairSnd (by assumption) ?_)
    | with_reducible dsimp only)

theorem Dev.parkReturn_wf (d : Dev) (t : Nat) (h_d : d.Wf) :
    Dev.Wf (Dev.parkReturn d t) := by
  unfold Dev.parkReturn
  try dsimp only
  repeat' (first
    | with_reducible assumption
    | with_reducible apply Dev.Wf.ite
    | with_reducible (refine Dev.Wf.fold _ ?_ ?_; rotate_left; intro e x he)
    | with_reducible (refine Dev.Wf.foldPair _ ?_ ?_; rotate_left; intro e x he)
    | split
    | simp only [Dev.wf_built]
    | with_reducible apply Dev.Built.other
    | with_reducible apply Dev.Wf.itePair
    | with_reducible (refine Dev.Wf.ofPair (by assumption) ?_)
    | with_reducible (refine Dev.Wf.ofPairSnd (by assumption) ?_)
    | with_reducible dsimp only)

theorem Dev.mtxLog_wf (d : Dev) (m : Nat) (target : Nat) (addr : Nat) (code : Nat) (isWrite : Bool) (h_d : d.Wf) :
    Dev.Wf (Dev.mtxLog d m target addr code isWrite) := by
  unfold Dev.mtxLog
  try dsimp only
  repeat' (first
    | with_reducible assumption
    | with_reducible apply Dev.wr_wf
    | with_reducible apply Dev.wrOn_wf
    | with_reducible apply Dev.setEvt_wf
    | with_reducible apply Dev.Wf.ite
    | with_reducible (refine Dev.Wf.fold _ ?_ ?_; rotate_left; intro e x he)
    | with_reducible (refine Dev.Wf.foldPair _ ?_ ?_; rotate_left; intro e x he)
    | split
    | simp only [Dev.wf_built]
    | with_reducible apply Dev.Built.other
    | with_reducible apply Dev.Wf.itePair
    | with_reducible (refine Dev.Wf.ofPair (by assumption) ?_)
    | with_reducible (refine Dev.Wf.ofPairSnd (by assumption) ?_)
    | with_reducible dsimp only)

theorem Dev.decErr_wf (d : Dev) (m : Nat) (target : Nat) (addr : Nat) (isWrite : Bool) (n : Nat) (h_d : d.Wf) :
    Dev.Wf (Dev.decErr d m target addr isWrite n) := by
  unfold Dev.decErr
  try dsimp only
  repeat' (first
    | with_reducible assumption
    | with_reducible apply Dev.respond_wf
    | with_reducible apply Dev.mtxLog_wf
    | with_reducible apply Dev.inc_wf
    | with_reducible apply Dev.Wf.ite
    | with_reducible (refine Dev.Wf.fold _ ?_ ?_; rotate_left; intro e x he)
    | with_reducible (refine Dev.Wf.foldPair _ ?_ ?_; rotate_left; intro e x he)
    | split
    | simp only [Dev.wf_built]
    | with_reducible apply Dev.Built.other
    | with_reducible apply Dev.Wf.itePair
    | with_reducible (refine Dev.Wf.ofPair (by assumption) ?_)
    | with_reducible (refine Dev.Wf.ofPairSnd (by assumption) ?_)
    | with_reducible dsimp only)

theorem Dev.permErr_wf (d : Dev) (m : Nat) (target : Nat) (addr : Nat) (isWrite : Bool) (h_d : d.Wf) :
    Dev.Wf (Dev.permErr d m target addr isWrite) := by
  unfold Dev.permErr
  try dsimp only
  repeat' (first
    | with_reducible assumption
    | with_reducible apply Dev.respond_wf
    | with_reducible apply Dev.mtxLog_wf
    | with_reducible apply Dev.inc_wf
    | with_reducible apply Dev.Wf.ite
    | with_reducible (refine Dev.Wf.fold _ ?_ ?_; rotate_left; intro e x he)
    | with_reducible (refine Dev.Wf.foldPair _ ?_ ?_; rotate_left; intro e x he)
    | split
    | simp only [Dev.wf_built]
    | with_reducible apply Dev.Built.other
    | with_reducible apply Dev.Wf.itePair
    | with_reducible (refine Dev.Wf.ofPair (by assumption) ?_)
    | with_reducible (refine Dev.Wf.ofPairSnd (by assumption) ?_)
    | with_reducible dsimp only)

theorem Dev.timeoutErr_wf (d : Dev) (m : Nat) (target : Nat) (addr : Nat) (isWrite : Bool) (counted : Bool) (h_d : d.Wf) :
    Dev.Wf (Dev.timeoutErr d m target addr isWrite counted) := by
  unfold Dev.timeoutErr
  try dsimp only
  repeat' (first
    | with_reducible assumption
    | with_reducible apply Dev.respond_wf
    | with_reducible apply Dev.mtxLog_wf
    | with_reducible apply Dev.inc_wf
    | with_reducible apply Dev.Wf.ite
    | with_reducible (refine Dev.Wf.fold _ ?_ ?_; rotate_left; intro e x he)
    | with_reducible (refine Dev.Wf.foldPair _ ?_ ?_; rotate_left; intro e x he)
    | split
    | simp only [Dev.wf_built]
    | with_reducible apply Dev.Built.other
    | with_reducible apply Dev.Wf.itePair
    | with_reducible (refine Dev.Wf.ofPair (by assumption) ?_)
    | with_reducible (refine Dev.Wf.ofPairSnd (by assumption) ?_)
    | with_reducible dsimp only)

theorem Dev.requestTimeout_wf (d : Dev) (m : Nat) (addr : Nat) (isWrite : Bool) (h_d : d.Wf) :
    Dev.Wf (Dev.requestTimeout d m addr isWrite) := by
  unfold Dev.requestTimeout
  try dsimp only
  repeat' (first
    | with_reducible assumption
    | with_reducible apply Dev.timeoutErr_wf
    | with_reducible apply Dev.Wf.ite
    | with_reducible (refine Dev.Wf.fold _ ?_ ?_; rotate_left; intro e x he)
    | with_reducible (refine Dev.Wf.foldPair _ ?_ ?_; rotate_left; intro e x he)
    | split
    | simp only [Dev.wf_built]
    | with_reducible apply Dev.Built.other
    | with_reducible apply Dev.Wf.itePair
    | with_reducible (refine Dev.Wf.ofPair (by assumption) ?_)
    | with_reducible (refine Dev.Wf.ofPairSnd (by assumption) ?_)
    | with_reducible dsimp only)

theorem Dev.sramWrite_wf (d : Dev) (a : Nat) (be : BitVec 4) (v : Sys2Proof.Word) (h_d : d.Wf) :
    Dev.Wf (Dev.sramWrite d a be v) := by
  unfold Dev.sramWrite
  try dsimp only
  repeat' (first
    | with_reducible assumption
    | with_reducible apply Dev.sramPut_wf
    | with_reducible apply Dev.Wf.ite
    | with_reducible (refine Dev.Wf.fold _ ?_ ?_; rotate_left; intro e x he)
    | with_reducible (refine Dev.Wf.foldPair _ ?_ ?_; rotate_left; intro e x he)
    | split
    | simp only [Dev.wf_built]
    | with_reducible apply Dev.Built.other
    | with_reducible apply Dev.Wf.itePair
    | with_reducible (refine Dev.Wf.ofPair (by assumption) ?_)
    | with_reducible (refine Dev.Wf.ofPairSnd (by assumption) ?_)
    | with_reducible dsimp only)

theorem Dev.collided_wf (d : Dev) (t : Nat) (a : Nat) (h_d : d.Wf) :
    Dev.Wf (Dev.collided d t a) := by
  unfold Dev.collided
  try dsimp only
  repeat' (first
    | with_reducible assumption
    | with_reducible apply Dev.inc_wf
    | with_reducible apply Dev.setEvt_wf
    | with_reducible apply Dev.wr_wf
    | with_reducible apply Dev.Wf.ite
    | with_reducible (refine Dev.Wf.fold _ ?_ ?_; rotate_left; intro e x he)
    | with_reducible (refine Dev.Wf.foldPair _ ?_ ?_; rotate_left; intro e x he)
    | split
    | simp only [Dev.wf_built]
    | with_reducible apply Dev.Built.other
    | with_reducible apply Dev.Wf.itePair
    | with_reducible (refine Dev.Wf.ofPair (by assumption) ?_)
    | with_reducible (refine Dev.Wf.ofPairSnd (by assumption) ?_)
    | with_reducible dsimp only)

theorem Dev.eccFound_wf (d : Dev) (t : Nat) (a : Nat) (double : Bool) (h_d : d.Wf) :
    Dev.Wf (Dev.eccFound d t a double) := by
  unfold Dev.eccFound
  try dsimp only
  repeat' (first
    | with_reducible assumption
    | with_reducible apply Dev.inc_wf
    | with_reducible apply Dev.wr_wf
    | with_reducible apply Dev.wrOn_wf
    | with_reducible apply Dev.setEvt_wf
    | with_reducible apply Dev.Wf.ite
    | with_reducible (refine Dev.Wf.fold _ ?_ ?_; rotate_left; intro e x he)
    | with_reducible (refine Dev.Wf.foldPair _ ?_ ?_; rotate_left; intro e x he)
    | split
    | simp only [Dev.wf_built]
    | with_reducible apply Dev.Built.other
    | with_reducible apply Dev.Wf.itePair
    | with_reducible (refine Dev.Wf.ofPair (by assumption) ?_)
    | with_reducible (refine Dev.Wf.ofPairSnd (by assumption) ?_)
    | with_reducible dsimp only)

theorem Dev.dmaServe_wf (d : Dev) (c : ℕ) (dir : ℕ) (h_d : d.Wf) :
    Dev.Wf (Dev.dmaServe d c dir) := by
  unfold Dev.dmaServe
  try dsimp only
  repeat' (first
    | with_reducible assumption
    | with_reducible apply Dev.dmaToRing_wf
    | with_reducible apply Dev.dmaToQueue_wf
    | with_reducible apply Dev.granted_wf
    | with_reducible apply Dev.permErr_wf
    | with_reducible apply Dev.Wf.ite
    | with_reducible (refine Dev.Wf.fold _ ?_ ?_; rotate_left; intro e x he)
    | with_reducible (refine Dev.Wf.foldPair _ ?_ ?_; rotate_left; intro e x he)
    | split
    | simp only [Dev.wf_built]
    | with_reducible apply Dev.Built.other
    | with_reducible apply Dev.Wf.itePair
    | with_reducible (refine Dev.Wf.ofPair (by assumption) ?_)
    | with_reducible (refine Dev.Wf.ofPairSnd (by assumption) ?_)
    | with_reducible dsimp only)

theorem Dev.setLocks_wf (d : Dev) (ls : List LockI) (h_d : d.Wf) :
    Dev.Wf (Dev.setLocks d ls) := by
  unfold Dev.setLocks
  try dsimp only
  repeat' (first
    | with_reducible assumption
    | with_reducible apply Dev.wr_wf
    | with_reducible apply Dev.wrOn_wf
    | with_reducible apply Dev.Wf.ite
    | with_reducible (refine Dev.Wf.fold _ ?_ ?_; rotate_left; intro e x he)
    | with_reducible (refine Dev.Wf.foldPair _ ?_ ?_; rotate_left; intro e x he)
    | split
    | simp only [Dev.wf_built]
    | with_reducible apply Dev.Built.other
    | with_reducible apply Dev.Wf.itePair
    | with_reducible (refine Dev.Wf.ofPair (by assumption) ?_)
    | with_reducible (refine Dev.Wf.ofPairSnd (by assumption) ?_)
    | with_reducible dsimp only)

theorem Dev.unlock_wf (d : Dev) (m : ℕ) (h_d : d.Wf) :
    Dev.Wf (Dev.unlock d m) := by
  unfold Dev.unlock
  try dsimp only
  repeat' (first
    | with_reducible assumption
    | with_reducible apply Dev.setLocks_wf
    | with_reducible apply Dev.Wf.ite
    | with_reducible (refine Dev.Wf.fold _ ?_ ?_; rotate_left; intro e x he)
    | with_reducible (refine Dev.Wf.foldPair _ ?_ ?_; rotate_left; intro e x he)
    | split
    | simp only [Dev.wf_built]
    | with_reducible apply Dev.Built.other
    | with_reducible apply Dev.Wf.itePair
    | with_reducible (refine Dev.Wf.ofPair (by assumption) ?_)
    | with_reducible (refine Dev.Wf.ofPairSnd (by assumption) ?_)
    | with_reducible dsimp only)

theorem Dev.eccRead_wf (d : Dev) (t : ℕ) (a : ℕ) (e : Sys2Proof.EccFind) (h_d : d.Wf) :
    Dev.Wf (Dev.eccRead d t a e) := by
  unfold Dev.eccRead
  try dsimp only
  repeat' (first
    | with_reducible assumption
    | with_reducible apply Dev.eccFound_wf
    | with_reducible apply Dev.Wf.ite
    | with_reducible (refine Dev.Wf.fold _ ?_ ?_; rotate_left; intro e x he)
    | with_reducible (refine Dev.Wf.foldPair _ ?_ ?_; rotate_left; intro e x he)
    | split
    | simp only [Dev.wf_built]
    | with_reducible apply Dev.Built.other
    | with_reducible apply Dev.Wf.itePair
    | with_reducible (refine Dev.Wf.ofPair (by assumption) ?_)
    | with_reducible (refine Dev.Wf.ofPairSnd (by assumption) ?_)
    | with_reducible dsimp only)

theorem Dev.amoRead_wf (d : Dev) (m : ℕ) (addr : ℕ) (op : Sys2Proof.AmoOp) (v : Sys2Proof.Word) (e : Sys2Proof.EccFind) (h_d : d.Wf) :
    Dev.Wf (Dev.amoRead d m addr op v e) := by
  unfold Dev.amoRead
  try dsimp only
  repeat' (first
    | with_reducible assumption
    | with_reducible apply Dev.decErr_wf
    | with_reducible apply Dev.permErr_wf
    | with_reducible apply Dev.eccRead_wf
    | with_reducible apply Dev.bwAdd_wf
    | with_reducible apply Dev.granted_wf
    | with_reducible apply Dev.respond_wf
    | with_reducible apply Dev.setLocks_wf
    | with_reducible apply Dev.Wf.ite
    | with_reducible (refine Dev.Wf.fold _ ?_ ?_; rotate_left; intro e x he)
    | with_reducible (refine Dev.Wf.foldPair _ ?_ ?_; rotate_left; intro e x he)
    | split
    | simp only [Dev.wf_built]
    | with_reducible apply Dev.Built.other
    | with_reducible apply Dev.Wf.itePair
    | with_reducible (refine Dev.Wf.ofPair (by assumption) ?_)
    | with_reducible (refine Dev.Wf.ofPairSnd (by assumption) ?_)
    | with_reducible dsimp only)

theorem Dev.amoWrite_wf (d : Dev) (m : ℕ) (h_d : d.Wf) :
    Dev.Wf (Dev.amoWrite d m) := by
  unfold Dev.amoWrite
  try dsimp only
  repeat' (first
    | with_reducible assumption
    | with_reducible apply Dev.unlock_wf
    | with_reducible apply Dev.bwAdd_wf
    | with_reducible apply Dev.sramWrite_wf
    | with_reducible apply Dev.Wf.ite
    | with_reducible (refine Dev.Wf.fold _ ?_ ?_; rotate_left; intro e x he)
    | with_reducible (refine Dev.Wf.foldPair _ ?_ ?_; rotate_left; intro e x he)
    | split
    | simp only [Dev.wf_built]
    | with_reducible apply Dev.Built.other
    | with_reducible apply Dev.Wf.itePair
    | with_reducible (refine Dev.Wf.ofPair (by assumption) ?_)
    | with_reducible (refine Dev.Wf.ofPairSnd (by assumption) ?_)
    | with_reducible dsimp only)

theorem Dev.lockedSeq_wf (d : Dev) (m : ℕ) (x : Sys2Proof.AmoStep) (h_d : d.Wf) :
    Dev.Wf (Dev.lockedSeq d m x) := by
  unfold Dev.lockedSeq
  try dsimp only
  repeat' (first
    | with_reducible assumption
    | with_reducible apply Dev.amoWrite_wf
    | with_reducible apply Dev.amoRead_wf
    | with_reducible apply Dev.Wf.ite
    | with_reducible (refine Dev.Wf.fold _ ?_ ?_; rotate_left; intro e x he)
    | with_reducible (refine Dev.Wf.foldPair _ ?_ ?_; rotate_left; intro e x he)
    | split
    | simp only [Dev.wf_built]
    | with_reducible apply Dev.Built.other
    | with_reducible apply Dev.Wf.itePair
    | with_reducible (refine Dev.Wf.ofPair (by assumption) ?_)
    | with_reducible (refine Dev.Wf.ofPairSnd (by assumption) ?_)
    | with_reducible dsimp only)

theorem Dev.lockBreak_wf (d : Dev) (h_d : d.Wf) :
    Dev.Wf (Dev.lockBreak d) := by
  unfold Dev.lockBreak
  try dsimp only
  repeat' (first
    | with_reducible assumption
    | with_reducible apply Dev.respond_wf
    | with_reducible apply Dev.mtxLog_wf
    | with_reducible apply Dev.inc_wf
    | with_reducible apply Dev.amoWrite_wf
    | with_reducible apply Dev.Wf.ite
    | with_reducible (refine Dev.Wf.fold _ ?_ ?_; rotate_left; intro e x he)
    | with_reducible (refine Dev.Wf.foldPair _ ?_ ?_; rotate_left; intro e x he)
    | split
    | simp only [Dev.wf_built]
    | with_reducible apply Dev.Built.other
    | with_reducible apply Dev.Wf.itePair
    | with_reducible (refine Dev.Wf.ofPair (by assumption) ?_)
    | with_reducible (refine Dev.Wf.ofPairSnd (by assumption) ?_)
    | with_reducible dsimp only)

theorem Dev.masterReset_wf (d : Dev) (m : ℕ) (under : Option (Bool × ℕ × ℕ)) (h_d : d.Wf) :
    Dev.Wf (Dev.masterReset d m under) := by
  unfold Dev.masterReset
  try dsimp only
  repeat' (first
    | with_reducible assumption
    | with_reducible apply Dev.wr_wf
    | with_reducible apply Dev.setEvt_wf
    | with_reducible apply Dev.wrOn_wf
    | with_reducible apply Dev.unlock_wf
    | with_reducible apply Dev.wrB_wf
    | with_reducible apply Dev.abandon_wf
    | with_reducible apply Dev.unstall_wf
    | with_reducible apply Dev.Wf.ite
    | with_reducible (refine Dev.Wf.fold _ ?_ ?_; rotate_left; intro e x he)
    | with_reducible (refine Dev.Wf.foldPair _ ?_ ?_; rotate_left; intro e x he)
    | split
    | simp only [Dev.wf_built]
    | with_reducible apply Dev.Built.other
    | with_reducible apply Dev.Wf.itePair
    | with_reducible (refine Dev.Wf.ofPair (by assumption) ?_)
    | with_reducible (refine Dev.Wf.ofPairSnd (by assumption) ?_)
    | with_reducible dsimp only)

theorem Dev.masterEnd_wf (d : Dev) (m : Nat) (h_d : d.Wf) :
    Dev.Wf (Dev.masterEnd d m) := by
  unfold Dev.masterEnd
  try dsimp only
  repeat' (first
    | with_reducible assumption
    | with_reducible apply Dev.masterReset_wf
    | with_reducible apply Dev.Wf.ite
    | with_reducible (refine Dev.Wf.fold _ ?_ ?_; rotate_left; intro e x he)
    | with_reducible (refine Dev.Wf.foldPair _ ?_ ?_; rotate_left; intro e x he)
    | split
    | simp only [Dev.wf_built]
    | with_reducible apply Dev.Built.other
    | with_reducible apply Dev.Wf.itePair
    | with_reducible (refine Dev.Wf.ofPair (by assumption) ?_)
    | with_reducible (refine Dev.Wf.ofPairSnd (by assumption) ?_)
    | with_reducible dsimp only)

theorem Dev.mtxAfter_wf (d : Dev) (off : Nat) (v : Sys2Proof.Word) (h_d : d.Wf) :
    Dev.Wf (Dev.mtxAfter d off v) := by
  unfold Dev.mtxAfter
  try dsimp only
  repeat' (first
    | with_reducible assumption
    | with_reducible apply Dev.wrOn_wf
    | with_reducible apply Dev.setReg_wf
    | with_reducible apply Dev.Wf.ite
    | with_reducible (refine Dev.Wf.fold _ ?_ ?_; rotate_left; intro e x he)
    | with_reducible (refine Dev.Wf.foldPair _ ?_ ?_; rotate_left; intro e x he)
    | split
    | simp only [Dev.wf_built]
    | with_reducible apply Dev.Built.other
    | with_reducible apply Dev.Wf.itePair
    | with_reducible (refine Dev.Wf.ofPair (by assumption) ?_)
    | with_reducible (refine Dev.Wf.ofPairSnd (by assumption) ?_)
    | with_reducible dsimp only)

theorem Dev.sramcAfter_wf (d : Dev) (off : Nat) (v : Sys2Proof.Word) (h_d : d.Wf) :
    Dev.Wf (Dev.sramcAfter d off v) := by
  unfold Dev.sramcAfter
  try dsimp only
  repeat' (first
    | with_reducible assumption
    | with_reducible apply Dev.setReg_wf
    | with_reducible apply Dev.Wf.ite
    | with_reducible (refine Dev.Wf.fold _ ?_ ?_; rotate_left; intro e x he)
    | with_reducible (refine Dev.Wf.foldPair _ ?_ ?_; rotate_left; intro e x he)
    | split
    | simp only [Dev.wf_built]
    | with_reducible apply Dev.Built.other
    | with_reducible apply Dev.Wf.itePair
    | with_reducible (refine Dev.Wf.ofPair (by assumption) ?_)
    | with_reducible (refine Dev.Wf.ofPairSnd (by assumption) ?_)
    | with_reducible dsimp only)

end Sys2Proof.Machine
end

