-- ==== Sys2Proof/Laws/WfReset.lean ====
section
/-! SUPPORT. The operations of Machine/Reset.lean keep every table of the block canonical. -/

set_option linter.unusedTactic false
set_option linter.unreachableTactic false

namespace Sys2Proof.Machine

theorem Dev.supSettle_wf (d : Dev) (h_d : d.Wf) :
    Dev.Wf (Dev.supSettle d) := by
  unfold Dev.supSettle
  try dsimp only
  repeat' (first
    | with_reducible assumption
    | with_reducible apply Dev.wrOn_wf
    | with_reducible apply Dev.wr_wf
    | with_reducible apply Dev.Wf.ite
    | with_reducible (refine Dev.Wf.fold _ ?_ ?_; rotate_left; intro e x he)
    | with_reducible (refine Dev.Wf.foldPair _ ?_ ?_; rotate_left; intro e x he)
    | split
    | simp only [Dev.wf_built]
    | with_reducible apply Dev.Built.other
    | with_reducible apply Dev.Wf.itePair
    | with_reducible (refine Dev.Wf.ofPair (by assumption) ?_)
    | with_reducible (refine Dev.Wf.ofPairSnd (by assumption) ?_)
    | with_reducible dsimp only)

theorem Dev.deferSettle_wf (d : Dev) (h_d : d.Wf) :
    Dev.Wf (Dev.deferSettle d) := by
  unfold Dev.deferSettle
  try dsimp only
  repeat' (first
    | with_reducible assumption
    | with_reducible apply Dev.supSettle_wf
    | with_reducible apply Dev.deferBegin_wf
    | with_reducible apply Dev.Wf.ite
    | with_reducible (refine Dev.Wf.fold _ ?_ ?_; rotate_left; intro e x he)
    | with_reducible (refine Dev.Wf.foldPair _ ?_ ?_; rotate_left; intro e x he)
    | split
    | simp only [Dev.wf_built]
    | with_reducible apply Dev.Built.other
    | with_reducible apply Dev.Wf.itePair
    | with_reducible (refine Dev.Wf.ofPair (by assumption) ?_)
    | with_reducible (refine Dev.Wf.ofPairSnd (by assumption) ?_)
    | with_reducible dsimp only)

theorem Dev.setCore_wf (d : Dev) (c : Nat) (v : CoreI) (h_d : d.Wf) :
    Dev.Wf (Dev.setCore d c v) := by
  unfold Dev.setCore
  try dsimp only
  repeat' (first
    | with_reducible assumption
    | with_reducible apply Dev.Wf.ite
    | with_reducible (refine Dev.Wf.fold _ ?_ ?_; rotate_left; intro e x he)
    | with_reducible (refine Dev.Wf.foldPair _ ?_ ?_; rotate_left; intro e x he)
    | split
    | simp only [Dev.wf_built]
    | with_reducible apply Dev.Built.other
    | with_reducible apply Dev.Built.up_cores
    | with_reducible apply Map.wf_put
    | with_reducible apply Map.wf_filter
    | exact rfl
    | with_reducible apply Dev.Wf.cores
    | with_reducible apply Dev.Wf.itePair
    | with_reducible (refine Dev.Wf.ofPair (by assumption) ?_)
    | with_reducible (refine Dev.Wf.ofPairSnd (by assumption) ?_)
    | with_reducible dsimp only)

theorem Dev.coreReset_wf (d : Dev) (c : Nat) (h_d : d.Wf) :
    Dev.Wf (Dev.coreReset d c) := by
  unfold Dev.coreReset
  try dsimp only
  repeat' (first
    | with_reducible assumption
    | with_reducible apply Dev.intcCore_wf
    | with_reducible apply Dev.masterEnd_wf
    | with_reducible apply Dev.resetRegs_wf
    | with_reducible apply Dev.setCore_wf
    | with_reducible apply Dev.wr_wf
    | with_reducible apply Dev.Wf.ite
    | with_reducible (refine Dev.Wf.fold _ ?_ ?_; rotate_left; intro e x he)
    | with_reducible (refine Dev.Wf.foldPair _ ?_ ?_; rotate_left; intro e x he)
    | split
    | simp only [Dev.wf_built]
    | with_reducible apply Dev.Built.other
    | with_reducible apply Dev.Wf.itePair
    | with_reducible (refine Dev.Wf.ofPair (by assumption) ?_)
    | with_reducible (refine Dev.Wf.ofPairSnd (by assumption) ?_)
    | with_reducible dsimp only)

theorem Dev.coreSettle_wf (d : Dev) (c : Nat) (h_d : d.Wf) :
    Dev.Wf (Dev.coreSettle d c) := by
  unfold Dev.coreSettle
  try dsimp only
  repeat' (first
    | with_reducible assumption
    | with_reducible apply Dev.coreReset_wf
    | with_reducible apply Dev.wakeSettle_wf
    | with_reducible apply Dev.setCore_wf
    | with_reducible apply Dev.Wf.ite
    | with_reducible (refine Dev.Wf.fold _ ?_ ?_; rotate_left; intro e x he)
    | with_reducible (refine Dev.Wf.foldPair _ ?_ ?_; rotate_left; intro e x he)
    | split
    | simp only [Dev.wf_built]
    | with_reducible apply Dev.Built.other
    | with_reducible apply Dev.Wf.itePair
    | with_reducible (refine Dev.Wf.ofPair (by assumption) ?_)
    | with_reducible (refine Dev.Wf.ofPairSnd (by assumption) ?_)
    | with_reducible dsimp only)

theorem Dev.coresSettle_wf (d : Dev) (h_d : d.Wf) :
    Dev.Wf (Dev.coresSettle d) := by
  unfold Dev.coresSettle
  try dsimp only
  repeat' (first
    | with_reducible assumption
    | with_reducible apply Dev.coreSettle_wf
    | with_reducible apply Dev.Wf.ite
    | with_reducible (refine Dev.Wf.fold _ ?_ ?_; rotate_left; intro e x he)
    | with_reducible (refine Dev.Wf.foldPair _ ?_ ?_; rotate_left; intro e x he)
    | split
    | simp only [Dev.wf_built]
    | with_reducible apply Dev.Built.other
    | with_reducible apply Dev.Wf.itePair
    | with_reducible (refine Dev.Wf.ofPair (by assumption) ?_)
    | with_reducible (refine Dev.Wf.ofPairSnd (by assumption) ?_)
    | with_reducible dsimp only)

theorem Dev.dataReset_wf (d : Dev) (h_d : d.Wf) : (Dev.dataReset d).Wf := by
  apply Dev.refsSettle_wf
  apply Dev.wallsStart_wf
  apply Dev.memLose_wf
  have h := Dev.resetRegs_wf d .data (fun _ => true) h_d
  exact { h with lanes := rfl, plls := rfl, framers := rfl, tiles := rfl, pm := rfl, groups := rfl, tctx := rfl, actx := rfl, uctx := rfl, takes := rfl, probes := rfl, chans := rfl, delays := rfl, outs := rfl, streams := rfl, slots := rfl, gens := rfl, meters := rfl, deembs := rfl, tlrx := rfl, tltx := rfl, protAud := rfl }

theorem Dev.timingReset_wf (d : Dev) (h_d : d.Wf) : (Dev.timingReset d).Wf := by
  unfold Dev.timingReset
  dsimp only
  apply Dev.alarmSettle_wf
  apply Dev.fsSettle_wf
  apply Dev.outSettle_wf
  apply Dev.gensSettle_wf
  have h1 : ((List.range 16).foldl (fun e k => Dev.domStop e k) d).Wf :=
    Dev.Wf.fold _ h_d (fun e k he => Dev.domStop_wf e k he)
  have h := Dev.resetRegs_wf _ .timing (fun _ => true) (Dev.swapCancel_wf _ (Dev.takesIdle_wf _ h1))
  generalize Dev.resetRegs _ .timing (fun _ => true) = x at h ⊢
  exact { h with refs := rfl, doms := rfl, fps := rfl }

theorem Dev.mgmtReset_wf (d : Dev) (h_d : d.Wf) :
    Dev.Wf (Dev.mgmtReset d) := by
  unfold Dev.mgmtReset
  try dsimp only
  repeat' (first
    | with_reducible assumption
    | with_reducible apply Dev.masterEnd_wf
    | with_reducible apply Dev.queuesClear_wf
    | with_reducible apply Dev.resetRegs_wf
    | with_reducible apply Dev.Wf.ite
    | with_reducible (refine Dev.Wf.fold _ ?_ ?_; rotate_left; intro e x he)
    | with_reducible (refine Dev.Wf.foldPair _ ?_ ?_; rotate_left; intro e x he)
    | split
    | simp only [Dev.wf_built]
    | with_reducible apply Dev.Built.other
    | with_reducible apply Dev.Built.up_cores
    | with_reducible apply Map.wf_put
    | with_reducible apply Map.wf_filter
    | exact rfl
    | with_reducible apply Dev.Wf.cores
    | with_reducible apply Dev.Wf.itePair
    | with_reducible (refine Dev.Wf.ofPair (by assumption) ?_)
    | with_reducible (refine Dev.Wf.ofPairSnd (by assumption) ?_)
    | with_reducible dsimp only)

theorem Dev.commandedReset_wf (d : Dev) (cmd : Nat) (h_d : d.Wf) :
    Dev.Wf (Dev.commandedReset d cmd) := by
  unfold Dev.commandedReset
  try dsimp only
  repeat' (first
    | with_reducible assumption
    | with_reducible apply Dev.wrOn_wf
    | with_reducible apply Dev.wr_wf
    | with_reducible apply Dev.mgmtReset_wf
    | with_reducible apply Dev.dataReset_wf
    | with_reducible apply Dev.timingReset_wf
    | with_reducible apply Dev.Wf.ite
    | with_reducible (refine Dev.Wf.fold _ ?_ ?_; rotate_left; intro e x he)
    | with_reducible (refine Dev.Wf.foldPair _ ?_ ?_; rotate_left; intro e x he)
    | split
    | simp only [Dev.wf_built]
    | with_reducible apply Dev.Built.other
    | with_reducible apply Dev.Wf.itePair
    | with_reducible (refine Dev.Wf.ofPair (by assumption) ?_)
    | with_reducible (refine Dev.Wf.ofPairSnd (by assumption) ?_)
    | with_reducible dsimp only)

theorem Dev.causeAdd_wf (d : Dev) (c : Nat) (holds : Bool) (h_d : d.Wf) :
    Dev.Wf (Dev.causeAdd d c holds) := by
  unfold Dev.causeAdd
  try dsimp only
  repeat' (first
    | with_reducible assumption
    | with_reducible apply Dev.Wf.ite
    | with_reducible (refine Dev.Wf.fold _ ?_ ?_; rotate_left; intro e x he)
    | with_reducible (refine Dev.Wf.foldPair _ ?_ ?_; rotate_left; intro e x he)
    | split
    | simp only [Dev.wf_built]
    | with_reducible apply Dev.Built.other
    | with_reducible apply Dev.Wf.itePair
    | with_reducible (refine Dev.Wf.ofPair (by assumption) ?_)
    | with_reducible (refine Dev.Wf.ofPairSnd (by assumption) ?_)
    | with_reducible dsimp only)

theorem Dev.causeEnd_wf (d : Dev) (c : Nat) (h_d : d.Wf) :
    Dev.Wf (Dev.causeEnd d c) := by
  unfold Dev.causeEnd
  try dsimp only
  repeat' (first
    | with_reducible assumption
    | with_reducible apply Dev.Wf.ite
    | with_reducible (refine Dev.Wf.fold _ ?_ ?_; rotate_left; intro e x he)
    | with_reducible (refine Dev.Wf.foldPair _ ?_ ?_; rotate_left; intro e x he)
    | split
    | simp only [Dev.wf_built]
    | with_reducible apply Dev.Built.other
    | with_reducible apply Dev.Wf.itePair
    | with_reducible (refine Dev.Wf.ofPair (by assumption) ?_)
    | with_reducible (refine Dev.Wf.ofPairSnd (by assumption) ?_)
    | with_reducible dsimp only)

theorem Dev.timerRebase_wf (d : Dev) (gone : Nat) (h_d : d.Wf) :
    Dev.Wf (Dev.timerRebase d gone) := by
  unfold Dev.timerRebase
  try dsimp only
  repeat' (first
    | with_reducible assumption
    | with_reducible apply Dev.wr_wf
    | with_reducible apply Dev.Wf.ite
    | with_reducible (refine Dev.Wf.fold _ ?_ ?_; rotate_left; intro e x he)
    | with_reducible (refine Dev.Wf.foldPair _ ?_ ?_; rotate_left; intro e x he)
    | split
    | simp only [Dev.wf_built]
    | with_reducible apply Dev.Built.other
    | with_reducible apply Dev.Wf.itePair
    | with_reducible (refine Dev.Wf.ofPair (by assumption) ?_)
    | with_reducible (refine Dev.Wf.ofPairSnd (by assumption) ?_)
    | with_reducible dsimp only)

theorem Dev.pinClear_wf (d0 : Dev) (h_d0 : d0.Wf) : (Dev.pinClear d0).Wf := by
  have h := Dev.timerRebase_wf d0 0 h_d0
  have hr := (Dev.resetRegs_wf _ .pin (fun _ => true) h).regs
  unfold Dev.pinClear
  exact ⟨hr, h.resp, rfl, rfl, rfl, rfl, rfl, rfl, rfl, rfl, rfl, rfl, rfl, rfl, rfl, rfl, rfl, rfl, rfl, rfl, rfl, rfl, rfl, rfl, rfl, rfl, rfl,
    rfl, rfl, rfl, rfl, rfl, rfl, rfl, rfl, rfl⟩

theorem Dev.pinReset_wf (d : Dev) (c : ℕ) (holds : Bool) (h_d : d.Wf) :
    Dev.Wf (Dev.pinReset d c holds) := by
  unfold Dev.pinReset
  try dsimp only
  repeat' (first
    | with_reducible assumption
    | with_reducible apply Dev.deferSettle_wf
    | with_reducible apply Dev.pinClear_wf
    | with_reducible apply Dev.causeAdd_wf
    | with_reducible apply Dev.Wf.ite
    | with_reducible (refine Dev.Wf.fold _ ?_ ?_; rotate_left; intro e x he)
    | with_reducible (refine Dev.Wf.foldPair _ ?_ ?_; rotate_left; intro e x he)
    | split
    | simp only [Dev.wf_built]
    | with_reducible apply Dev.Built.other
    | with_reducible apply Dev.Wf.itePair
    | with_reducible (refine Dev.Wf.ofPair (by assumption) ?_)
    | with_reducible (refine Dev.Wf.ofPairSnd (by assumption) ?_)
    | with_reducible dsimp only)

theorem Dev.porReset_wf (d : Dev) (h_d : d.Wf) :
    Dev.Wf (Dev.porReset d) := by
  unfold Dev.porReset
  try dsimp only
  repeat' (first
    | with_reducible assumption
    | with_reducible apply Dev.pinClear_wf
    | with_reducible apply Dev.causeAdd_wf
    | with_reducible apply Dev.deferSettle_wf
    | with_reducible apply Dev.Wf.ite
    | with_reducible (refine Dev.Wf.fold _ ?_ ?_; rotate_left; intro e x he)
    | with_reducible (refine Dev.Wf.foldPair _ ?_ ?_; rotate_left; intro e x he)
    | split
    | simp only [Dev.wf_built]
    | with_reducible apply Dev.Built.other
    | with_reducible apply Dev.Built.up_regs
    | with_reducible apply Map.wf_put
    | with_reducible apply Map.wf_filter
    | exact rfl
    | with_reducible apply Dev.Wf.regs
    | with_reducible apply Dev.Wf.itePair
    | with_reducible (refine Dev.Wf.ofPair (by assumption) ?_)
    | with_reducible (refine Dev.Wf.ofPairSnd (by assumption) ?_)
    | with_reducible dsimp only)

theorem Dev.resetEnd_wf (d : Dev) (bootmode : Nat) (h_d : d.Wf) :
    Dev.Wf (Dev.resetEnd d bootmode) := by
  unfold Dev.resetEnd
  try dsimp only
  repeat' (first
    | with_reducible assumption
    | with_reducible apply Dev.wr_wf
    | with_reducible apply Dev.wrOn_wf
    | with_reducible apply Dev.intcRelevel_wf
    | with_reducible apply Dev.supSettle_wf
    | with_reducible apply Dev.Wf.ite
    | with_reducible (refine Dev.Wf.fold _ ?_ ?_; rotate_left; intro e x he)
    | with_reducible (refine Dev.Wf.foldPair _ ?_ ?_; rotate_left; intro e x he)
    | split
    | simp only [Dev.wf_built]
    | with_reducible apply Dev.Built.other
    | with_reducible apply Dev.Wf.itePair
    | with_reducible (refine Dev.Wf.ofPair (by assumption) ?_)
    | with_reducible (refine Dev.Wf.ofPairSnd (by assumption) ?_)
    | with_reducible dsimp only)

end Sys2Proof.Machine
end

