-- ==== Sys2Proof/Laws/WfBlockReset.lean ====
section
/-! SUPPORT. The operations of Machine/BlockReset.lean keep every table of the block canonical. -/

set_option linter.unusedTactic false
set_option linter.unreachableTactic false

namespace Sys2Proof.Machine

theorem Dev.pwrResetCmd_wf (d : Dev) (c : Nat) (h_d : d.Wf) :
    Dev.Wf (Dev.pwrResetCmd d c) := by
  unfold Dev.pwrResetCmd
  try dsimp only
  repeat' (first
    | with_reducible assumption
    | with_reducible apply Dev.pinReset_wf
    | with_reducible apply Dev.commandedReset_wf
    | with_reducible apply Dev.Wf.ite
    | with_reducible (refine Dev.Wf.fold _ ?_ ?_; rotate_left; intro e x he)
    | with_reducible (refine Dev.Wf.foldPair _ ?_ ?_; rotate_left; intro e x he)
    | split
    | simp only [Dev.wf_built]
    | with_reducible apply Dev.Built.other
    | with_reducible apply Dev.Wf.itePair
    | with_reducible (refine Dev.Wf.ofPair (by assumption) ?_)
    | with_reducible (refine Dev.Wf.ofPairSnd (by assumption) ?_)
    | with_reducible dsimp only)

theorem Dev.coreCtl_wf (d : Dev) (v : Sys2Proof.Word) (h_d : d.Wf) :
    Dev.Wf (Dev.coreCtl d v) := by
  unfold Dev.coreCtl
  try dsimp only
  repeat' (first
    | with_reducible assumption
    | with_reducible apply Dev.coresSettle_wf
    | with_reducible apply Dev.coreSettle_wf
    | with_reducible apply Dev.coreReset_wf
    | with_reducible apply Dev.wakeSettle_wf
    | with_reducible apply Dev.Wf.ite
    | with_reducible (refine Dev.Wf.fold _ ?_ ?_; rotate_left; intro e x he)
    | with_reducible (refine Dev.Wf.foldPair _ ?_ ?_; rotate_left; intro e x he)
    | split
    | simp only [Dev.wf_built]
    | with_reducible apply Dev.Built.other
    | with_reducible apply Dev.Wf.itePair
    | with_reducible (refine Dev.Wf.ofPair (by assumption) ?_)
    | with_reducible (refine Dev.Wf.ofPairSnd (by assumption) ?_)
    | with_reducible dsimp only)

theorem Dev.pwrAfter_wf (d : Dev) (off : ℕ) (v : Sys2Proof.Word) (h_d : d.Wf) :
    Dev.Wf (Dev.pwrAfter d off v) := by
  unfold Dev.pwrAfter
  try dsimp only
  repeat' (first
    | with_reducible assumption
    | with_reducible apply Dev.pwrRequest_wf
    | with_reducible apply Dev.pwrResetCmd_wf
    | with_reducible apply Dev.coreCtl_wf
    | with_reducible apply Dev.deferSettle_wf
    | with_reducible apply Dev.Wf.ite
    | with_reducible (refine Dev.Wf.fold _ ?_ ?_; rotate_left; intro e x he)
    | with_reducible (refine Dev.Wf.foldPair _ ?_ ?_; rotate_left; intro e x he)
    | split
    | simp only [Dev.wf_built]
    | with_reducible apply Dev.Built.other
    | with_reducible apply Dev.Wf.itePair
    | with_reducible (refine Dev.Wf.ofPair (by assumption) ?_)
    | with_reducible (refine Dev.Wf.ofPairSnd (by assumption) ?_)
    | with_reducible dsimp only)

theorem Dev.aonAfter_wf (d : Dev) (off : Nat) (v : Sys2Proof.Word) (h_d : d.Wf) :
    Dev.Wf (Dev.aonAfter d off v) := by
  unfold Dev.aonAfter
  try dsimp only
  repeat' (first
    | with_reducible assumption
    | with_reducible apply Dev.timerWrite_wf
    | with_reducible apply Dev.logClr_wf
    | with_reducible apply Dev.Wf.ite
    | with_reducible (refine Dev.Wf.fold _ ?_ ?_; rotate_left; intro e x he)
    | with_reducible (refine Dev.Wf.foldPair _ ?_ ?_; rotate_left; intro e x he)
    | split
    | simp only [Dev.wf_built]
    | with_reducible apply Dev.Built.other
    | with_reducible apply Dev.Wf.itePair
    | with_reducible (refine Dev.Wf.ofPair (by assumption) ?_)
    | with_reducible (refine Dev.Wf.ofPairSnd (by assumption) ?_)
    | with_reducible dsimp only)

theorem Dev.devAfter_wf (d : Dev) (off : Nat) (v : Sys2Proof.Word) (h_d : d.Wf) :
    Dev.Wf (Dev.devAfter d off v) := by
  unfold Dev.devAfter
  try dsimp only
  repeat' (first
    | with_reducible assumption
    | with_reducible apply Dev.wr_wf
    | with_reducible apply Dev.setReg_wf
    | with_reducible apply Dev.Wf.ite
    | with_reducible (refine Dev.Wf.fold _ ?_ ?_; rotate_left; intro e x he)
    | with_reducible (refine Dev.Wf.foldPair _ ?_ ?_; rotate_left; intro e x he)
    | split
    | simp only [Dev.wf_built]
    | with_reducible apply Dev.Built.other
    | with_reducible apply Dev.Wf.itePair
    | with_reducible (refine Dev.Wf.ofPair (by assumption) ?_)
    | with_reducible (refine Dev.Wf.ofPairSnd (by assumption) ?_)
    | with_reducible dsimp only)

theorem Dev.bootDone_wf (d : Dev) (h_d : d.Wf) :
    Dev.Wf (Dev.bootDone d) := by
  unfold Dev.bootDone
  try dsimp only
  repeat' (first
    | with_reducible assumption
    | with_reducible apply Dev.coresSettle_wf
    | with_reducible apply Dev.setEvt_wf
    | with_reducible apply Dev.wr_wf
    | with_reducible apply Dev.Wf.ite
    | with_reducible (refine Dev.Wf.fold _ ?_ ?_; rotate_left; intro e x he)
    | with_reducible (refine Dev.Wf.foldPair _ ?_ ?_; rotate_left; intro e x he)
    | split
    | simp only [Dev.wf_built]
    | with_reducible apply Dev.Built.other
    | with_reducible apply Dev.Wf.itePair
    | with_reducible (refine Dev.Wf.ofPair (by assumption) ?_)
    | with_reducible (refine Dev.Wf.ofPairSnd (by assumption) ?_)
    | with_reducible dsimp only)

theorem Dev.bootAfter_wf (d : Dev) (off : Nat) (v : Sys2Proof.Word) (h_d : d.Wf) :
    Dev.Wf (Dev.bootAfter d off v) := by
  unfold Dev.bootAfter
  try dsimp only
  repeat' (first
    | with_reducible assumption
    | with_reducible apply Dev.bootDone_wf
    | with_reducible apply Dev.wr_wf
    | with_reducible apply Dev.wrOn_wf
    | with_reducible apply Dev.Wf.ite
    | with_reducible (refine Dev.Wf.fold _ ?_ ?_; rotate_left; intro e x he)
    | with_reducible (refine Dev.Wf.foldPair _ ?_ ?_; rotate_left; intro e x he)
    | split
    | simp only [Dev.wf_built]
    | with_reducible apply Dev.Built.other
    | with_reducible apply Dev.Wf.itePair
    | with_reducible (refine Dev.Wf.ofPair (by assumption) ?_)
    | with_reducible (refine Dev.Wf.ofPairSnd (by assumption) ?_)
    | with_reducible dsimp only)

theorem Dev.laneOff_wf (d : Dev) (n : Nat) (h_d : d.Wf) :
    Dev.Wf (Dev.laneOff d n) := by
  unfold Dev.laneOff
  try dsimp only
  repeat' (first
    | with_reducible assumption
    | with_reducible apply Dev.txcfgApply_wf
    | with_reducible apply Dev.wr_wf
    | with_reducible apply Dev.rxcfgApply_wf
    | with_reducible apply Dev.Wf.ite
    | with_reducible (refine Dev.Wf.fold _ ?_ ?_; rotate_left; intro e x he)
    | with_reducible (refine Dev.Wf.foldPair _ ?_ ?_; rotate_left; intro e x he)
    | split
    | simp only [Dev.wf_built]
    | with_reducible apply Dev.Built.other
    | with_reducible apply Dev.Wf.itePair
    | with_reducible (refine Dev.Wf.ofPair (by assumption) ?_)
    | with_reducible (refine Dev.Wf.ofPairSnd (by assumption) ?_)
    | with_reducible dsimp only)

theorem Dev.laneForget_wf (d : Dev) (l : Nat) (h_d : d.Wf) :
    Dev.Wf (Dev.laneForget d l) := by
  unfold Dev.laneForget
  try dsimp only
  repeat' (first
    | with_reducible assumption
    | with_reducible apply Dev.setPm_wf
    | with_reducible apply Dev.setFramer_wf
    | with_reducible apply Dev.setLane_wf
    | with_reducible apply Dev.setTile_wf
    | with_reducible apply Dev.Wf.ite
    | with_reducible (refine Dev.Wf.fold _ ?_ ?_; rotate_left; intro e x he)
    | with_reducible (refine Dev.Wf.foldPair _ ?_ ?_; rotate_left; intro e x he)
    | split
    | simp only [Dev.wf_built]
    | with_reducible apply Dev.Built.other
    | with_reducible apply Dev.Wf.itePair
    | with_reducible (refine Dev.Wf.ofPair (by assumption) ?_)
    | with_reducible (refine Dev.Wf.ofPairSnd (by assumption) ?_)
    | with_reducible dsimp only)

theorem Dev.blockEnd_wf (d : Dev) (p : Sys2Proof.Page) (h_d : d.Wf) :
    Dev.Wf (Dev.blockEnd d p) := by
  unfold Dev.blockEnd
  try dsimp only
  repeat' (first
    | with_reducible assumption
    | with_reducible apply Dev.activeEnter_wf
    | with_reducible apply Dev.memcsWake_wf
    | with_reducible apply Dev.masterEnd_wf
    | with_reducible apply Dev.tmuEval_wf
    | with_reducible apply Dev.refGo_wf
    | with_reducible apply Dev.domRestart_wf
    | with_reducible apply Dev.wr_wf
    | with_reducible apply Dev.laneOff_wf
    | with_reducible apply Dev.rxRestart_wf
    | with_reducible apply Dev.groupOff_wf
    | with_reducible apply Dev.Wf.ite
    | with_reducible (refine Dev.Wf.fold _ ?_ ?_; rotate_left; intro e x he)
    | with_reducible (refine Dev.Wf.foldPair _ ?_ ?_; rotate_left; intro e x he)
    | split
    | simp only [Dev.wf_built]
    | with_reducible apply Dev.Built.other
    | with_reducible apply Dev.Wf.itePair
    | with_reducible (refine Dev.Wf.ofPair (by assumption) ?_)
    | with_reducible (refine Dev.Wf.ofPairSnd (by assumption) ?_)
    | with_reducible dsimp only)

theorem protForget_wf (d : Dev) (h_d : d.Wf) : ({ d with groups := [], pmNext := none, protAud := [] } : Dev).Wf :=
  { h_d with groups := rfl, protAud := rfl }

theorem fabForget_wf (d : Dev) (h_d : d.Wf) :
    ({ d with probes := [], tctx := Map.update (fun _ => {}) (fun _ c => c.unjudged) d.tctx } : Dev).Wf :=
  { h_d with probes := rfl, tctx := Map.wf_update (α := TileCtx) (fun _ => {}) (fun _ c => c.unjudged) h_d.tctx }

theorem Dev.blockClear_wf (d : Dev) (p : Sys2Proof.Page) (h_d : d.Wf) :
    Dev.Wf (Dev.blockClear d p) := by
  unfold Dev.blockClear
  try dsimp only
  repeat' (first
    | with_reducible assumption
    | with_reducible apply protForget_wf
    | with_reducible apply fabForget_wf
    | with_reducible apply Dev.wakeSettle_wf
    | with_reducible apply Dev.coresSettle_wf
    | with_reducible apply Dev.deferSettle_wf
    | with_reducible apply Dev.intcClear_wf
    | with_reducible apply Dev.queuesClear_wf
    | with_reducible apply Dev.alarmSettle_wf
    | with_reducible apply Dev.tmuEval_wf
    | with_reducible apply Dev.setRef_wf
    | with_reducible apply Dev.setDom_wf
    | with_reducible apply Dev.outSettle_wf
    | with_reducible apply Dev.gensSettle_wf
    | with_reducible apply Dev.takesIdle_wf
    | with_reducible apply Dev.afabReset_wf
    | with_reducible apply Dev.dataSettle_wf
    | with_reducible apply Dev.fstClear_wf
    | with_reducible apply Dev.rxSettle_wf
    | with_reducible apply Dev.laneEnable_wf
    | with_reducible apply Dev.setOut_wf
    | with_reducible apply Dev.laneForget_wf
    | with_reducible apply Dev.setTlt_wf
    | with_reducible apply Dev.setTlr_wf
    | with_reducible apply Dev.lengReset_wf
    | with_reducible apply Dev.Wf.ite
    | with_reducible (refine Dev.Wf.fold _ ?_ ?_; rotate_left; intro e x he)
    | with_reducible (refine Dev.Wf.foldPair _ ?_ ?_; rotate_left; intro e x he)
    | split
    | simp only [Dev.wf_built]
    | with_reducible apply Dev.Built.other
    | with_reducible apply Dev.Built.up_groups
    | with_reducible apply Dev.Built.up_probes
    | with_reducible apply Dev.Built.up_protAud
    | with_reducible apply Map.wf_put
    | with_reducible apply Map.wf_filter
    | exact rfl
    | with_reducible apply Dev.Wf.groups
    | with_reducible apply Dev.Wf.probes
    | with_reducible apply Dev.Wf.protAud
    | with_reducible apply Dev.Wf.itePair
    | with_reducible (refine Dev.Wf.ofPair (by assumption) ?_)
    | with_reducible (refine Dev.Wf.ofPairSnd (by assumption) ?_)
    | with_reducible dsimp only)

theorem Dev.blockReset_wf (d : Dev) (p : Sys2Proof.Page) (h_d : d.Wf) :
    Dev.Wf (Dev.blockReset d p) := by
  unfold Dev.blockReset
  try dsimp only
  repeat' (first
    | with_reducible assumption
    | with_reducible apply Dev.blockClear_wf
    | with_reducible apply Dev.resetRegs_wf
    | with_reducible apply Dev.blockEnd_wf
    | with_reducible apply Dev.wrOn_wf
    | with_reducible apply Dev.Wf.ite
    | with_reducible (refine Dev.Wf.fold _ ?_ ?_; rotate_left; intro e x he)
    | with_reducible (refine Dev.Wf.foldPair _ ?_ ?_; rotate_left; intro e x he)
    | split
    | simp only [Dev.wf_built]
    | with_reducible apply Dev.Built.other
    | with_reducible apply Dev.Wf.itePair
    | with_reducible (refine Dev.Wf.ofPair (by assumption) ?_)
    | with_reducible (refine Dev.Wf.ofPairSnd (by assumption) ?_)
    | with_reducible dsimp only)

theorem Dev.blockStart_wf (d : Dev) (p : Sys2Proof.Page) (h_d : d.Wf) :
    Dev.Wf (Dev.blockStart d p) := by
  unfold Dev.blockStart
  try dsimp only
  repeat' (first
    | with_reducible assumption
    | with_reducible apply Dev.deferSettle_wf
    | with_reducible apply Dev.alarmSettle_wf
    | with_reducible apply Dev.tmuEval_wf
    | with_reducible apply Dev.outSettle_wf
    | with_reducible apply Dev.gensSettle_wf
    | with_reducible apply Dev.intcRelevel_wf
    | with_reducible apply Dev.Wf.ite
    | with_reducible (refine Dev.Wf.fold _ ?_ ?_; rotate_left; intro e x he)
    | with_reducible (refine Dev.Wf.foldPair _ ?_ ?_; rotate_left; intro e x he)
    | split
    | simp only [Dev.wf_built]
    | with_reducible apply Dev.Built.other
    | with_reducible apply Dev.Wf.itePair
    | with_reducible (refine Dev.Wf.ofPair (by assumption) ?_)
    | with_reducible (refine Dev.Wf.ofPairSnd (by assumption) ?_)
    | with_reducible dsimp only)

theorem Dev.blockDone_wf (d : Dev) (p : Sys2Proof.Page) (h_d : d.Wf) :
    Dev.Wf (Dev.blockDone d p) := by
  unfold Dev.blockDone
  try dsimp only
  repeat' (first
    | with_reducible assumption
    | with_reducible apply Dev.blockStart_wf
    | with_reducible apply Dev.wrOn_wf
    | with_reducible apply Dev.Wf.ite
    | with_reducible (refine Dev.Wf.fold _ ?_ ?_; rotate_left; intro e x he)
    | with_reducible (refine Dev.Wf.foldPair _ ?_ ?_; rotate_left; intro e x he)
    | split
    | simp only [Dev.wf_built]
    | with_reducible apply Dev.Built.other
    | with_reducible apply Dev.Wf.itePair
    | with_reducible (refine Dev.Wf.ofPair (by assumption) ?_)
    | with_reducible (refine Dev.Wf.ofPairSnd (by assumption) ?_)
    | with_reducible dsimp only)

end Sys2Proof.Machine
end

