-- ==== Sys2Proof/Laws/WfPages.lean ====
section
/-! SUPPORT. The operations of Machine/Pages.lean keep every table of the block canonical. -/

set_option linter.unusedTactic false
set_option linter.unreachableTactic false

namespace Sys2Proof.Machine

theorem Dev.recordRej_wf (d : Dev) (m : Nat) (p : Sys2Proof.Page) (off : Nat) (r : Rej) (h_d : d.Wf) :
    Dev.Wf (Dev.recordRej d m p off r) := by
  unfold Dev.recordRej
  try dsimp only
  repeat' (first
    | with_reducible assumption
    | with_reducible apply Dev.wr_wf
    | with_reducible apply Dev.setEvt_wf
    | with_reducible apply Dev.wrOn_wf
    | with_reducible apply Dev.Wf.ite
    | with_reducible (refine Dev.Wf.fold _ ?_ ?_; rotate_left; intro e x he)
    | with_reducible (refine Dev.Wf.foldPair _ ?_ ?_; rotate_left; intro e x he)
    | split
    | simp only [Dev.wf_built]
    | with_reducible apply Dev.Built.other
    | with_reducible apply Dev.Wf.itePair
    | with_reducible (refine Dev.Wf.ofPair (by assumption) ?_)
    | with_reducible (refine Dev.Wf.ofPairSnd (by assumption) ?_)
    | with_reducible dsimp only)

theorem Dev.pageOnRej_wf (d : Dev) (p : Sys2Proof.Page) (off : Nat) (old : Sys2Proof.Word) (v : Sys2Proof.Word) (r : Rej) (h_d : d.Wf) :
    Dev.Wf (Dev.pageOnRej d p off old v r) := by
  unfold Dev.pageOnRej
  try dsimp only
  repeat' (first
    | with_reducible assumption
    | with_reducible apply Dev.fstOnRej_wf
    | with_reducible apply Dev.memcOnRej_wf
    | with_reducible apply Dev.Wf.ite
    | with_reducible (refine Dev.Wf.fold _ ?_ ?_; rotate_left; intro e x he)
    | with_reducible (refine Dev.Wf.foldPair _ ?_ ?_; rotate_left; intro e x he)
    | split
    | simp only [Dev.wf_built]
    | with_reducible apply Dev.Built.other
    | with_reducible apply Dev.Wf.itePair
    | with_reducible (refine Dev.Wf.ofPair (by assumption) ?_)
    | with_reducible (refine Dev.Wf.ofPairSnd (by assumption) ?_)
    | with_reducible dsimp only)

theorem Dev.qmgAfter_wf (d : Dev) (m : Nat) (off : Nat) (v : Sys2Proof.Word) (h_d : d.Wf) :
    Dev.Wf (Dev.qmgAfter d m off v) := by
  unfold Dev.qmgAfter
  try dsimp only
  repeat' (first
    | with_reducible assumption
    | with_reducible apply Dev.qmgCtl_wf
    | with_reducible apply Dev.qCfgApply_wf
    | with_reducible apply Dev.rdCtl_wf
    | with_reducible apply Dev.abandon_wf
    | with_reducible apply Dev.wrData_wf
    | with_reducible apply Dev.wrEndWrite_wf
    | with_reducible apply Dev.dmaCfgApply_wf
    | with_reducible apply Dev.Wf.ite
    | with_reducible (refine Dev.Wf.fold _ ?_ ?_; rotate_left; intro e x he)
    | with_reducible (refine Dev.Wf.foldPair _ ?_ ?_; rotate_left; intro e x he)
    | split
    | simp only [Dev.wf_built]
    | with_reducible apply Dev.Built.other
    | with_reducible apply Dev.Wf.itePair
    | with_reducible (refine Dev.Wf.ofPair (by assumption) ?_)
    | with_reducible (refine Dev.Wf.ofPairSnd (by assumption) ?_)
    | with_reducible dsimp only)

theorem Dev.crsCntClr_wf (d : Dev) (l : Nat) (h_d : d.Wf) :
    Dev.Wf (Dev.crsCntClr d l) := by
  unfold Dev.crsCntClr
  try dsimp only
  repeat' (first
    | with_reducible assumption
    | with_reducible apply Dev.setReg_wf
    | with_reducible apply Dev.Wf.ite
    | with_reducible (refine Dev.Wf.fold _ ?_ ?_; rotate_left; intro e x he)
    | with_reducible (refine Dev.Wf.foldPair _ ?_ ?_; rotate_left; intro e x he)
    | split
    | simp only [Dev.wf_built]
    | with_reducible apply Dev.Built.other
    | with_reducible apply Dev.Wf.itePair
    | with_reducible (refine Dev.Wf.ofPair (by assumption) ?_)
    | with_reducible (refine Dev.Wf.ofPairSnd (by assumption) ?_)
    | with_reducible dsimp only)

theorem Dev.frmCntClr_wf (d : Dev) (n : Nat) (h_d : d.Wf) :
    Dev.Wf (Dev.frmCntClr d n) := by
  unfold Dev.frmCntClr
  try dsimp only
  repeat' (first
    | with_reducible assumption
    | with_reducible apply Dev.setReg_wf
    | with_reducible apply Dev.Wf.ite
    | with_reducible (refine Dev.Wf.fold _ ?_ ?_; rotate_left; intro e x he)
    | with_reducible (refine Dev.Wf.foldPair _ ?_ ?_; rotate_left; intro e x he)
    | split
    | simp only [Dev.wf_built]
    | with_reducible apply Dev.Built.other
    | with_reducible apply Dev.Wf.itePair
    | with_reducible (refine Dev.Wf.ofPair (by assumption) ?_)
    | with_reducible (refine Dev.Wf.ofPairSnd (by assumption) ?_)
    | with_reducible dsimp only)

theorem Dev.txFollow_wf (d : Dev) (h_d : d.Wf) :
    Dev.Wf (Dev.txFollow d) := by
  unfold Dev.txFollow
  try dsimp only
  repeat' (first
    | with_reducible assumption
    | with_reducible apply Dev.dataSettle_wf
    | with_reducible apply Dev.outSettle_wf
    | with_reducible apply Dev.Wf.ite
    | with_reducible (refine Dev.Wf.fold _ ?_ ?_; rotate_left; intro e x he)
    | with_reducible (refine Dev.Wf.foldPair _ ?_ ?_; rotate_left; intro e x he)
    | split
    | simp only [Dev.wf_built]
    | with_reducible apply Dev.Built.other
    | with_reducible apply Dev.Wf.itePair
    | with_reducible (refine Dev.Wf.ofPair (by assumption) ?_)
    | with_reducible (refine Dev.Wf.ofPairSnd (by assumption) ?_)
    | with_reducible dsimp only)

theorem Dev.laneAfter_wf (d : Dev) (n : ℕ) (off : ℕ) (old : Sys2Proof.Word) (v : Sys2Proof.Word) (h_d : d.Wf) :
    Dev.Wf (Dev.laneAfter d n off old v) := by
  unfold Dev.laneAfter
  try dsimp only
  repeat' (first
    | with_reducible assumption
    | with_reducible apply Dev.rxSettle_wf
    | with_reducible apply Dev.rxcfgApply_wf
    | with_reducible apply Dev.txFollow_wf
    | with_reducible apply Dev.followTake_wf
    | with_reducible apply Dev.txcfgApply_wf
    | with_reducible apply Dev.laneSettle_wf
    | with_reducible apply Dev.testcfgApply_wf
    | with_reducible apply Dev.testctlApply_wf
    | with_reducible apply Dev.frmCntClr_wf
    | with_reducible apply Dev.crsCntClr_wf
    | with_reducible apply Dev.ancCntClr_wf
    | with_reducible apply Dev.laneEnable_wf
    | with_reducible apply Dev.Wf.ite
    | with_reducible (refine Dev.Wf.fold _ ?_ ?_; rotate_left; intro e x he)
    | with_reducible (refine Dev.Wf.foldPair _ ?_ ?_; rotate_left; intro e x he)
    | split
    | simp only [Dev.wf_built]
    | with_reducible apply Dev.Built.other
    | with_reducible apply Dev.Wf.itePair
    | with_reducible (refine Dev.Wf.ofPair (by assumption) ?_)
    | with_reducible (refine Dev.Wf.ofPairSnd (by assumption) ?_)
    | with_reducible dsimp only)

theorem Dev.tllAfter_wf (d : Dev) (n : ℕ) (off : ℕ) (old : Sys2Proof.Word) (v : Sys2Proof.Word) (h_d : d.Wf) :
    Dev.Wf (Dev.tllAfter d n off old v) := by
  unfold Dev.tllAfter
  try dsimp only
  repeat' (first
    | with_reducible assumption
    | with_reducible apply Dev.txFollow_wf
    | with_reducible apply Dev.rxSettle_wf
    | with_reducible apply Dev.tllCfgApply_wf
    | with_reducible apply Dev.testcfgApply_wf
    | with_reducible apply Dev.testctlApply_wf
    | with_reducible apply Dev.tlFrmClr_wf
    | with_reducible apply Dev.crsCntClr_wf
    | with_reducible apply Dev.ancCntClr_wf
    | with_reducible apply Dev.txslotAfter_wf
    | with_reducible apply Dev.protSettle_wf
    | with_reducible apply Dev.timSettle_wf
    | with_reducible apply Dev.ohCntClr_wf
    | with_reducible apply Dev.laneEnable_wf
    | with_reducible apply Dev.Wf.ite
    | with_reducible (refine Dev.Wf.fold _ ?_ ?_; rotate_left; intro e x he)
    | with_reducible (refine Dev.Wf.foldPair _ ?_ ?_; rotate_left; intro e x he)
    | split
    | simp only [Dev.wf_built]
    | with_reducible apply Dev.Built.other
    | with_reducible apply Dev.Wf.itePair
    | with_reducible (refine Dev.Wf.ofPair (by assumption) ?_)
    | with_reducible (refine Dev.Wf.ofPairSnd (by assumption) ?_)
    | with_reducible dsimp only)

theorem Dev.fabAfter_wf (d : Dev) (off : Nat) (old : Sys2Proof.Word) (v : Sys2Proof.Word) (h_d : d.Wf) :
    Dev.Wf (Dev.fabAfter d off old v) := by
  unfold Dev.fabAfter
  try dsimp only
  repeat' (first
    | with_reducible assumption
    | with_reducible apply Dev.commitSettle_wf
    | with_reducible apply Dev.tgCmd_wf
    | with_reducible apply Dev.txFollow_wf
    | with_reducible apply Dev.genApply_wf
    | with_reducible apply Dev.setProbe_wf
    | with_reducible apply Dev.fabCntClr_wf
    | with_reducible apply Dev.Wf.ite
    | with_reducible (refine Dev.Wf.fold _ ?_ ?_; rotate_left; intro e x he)
    | with_reducible (refine Dev.Wf.foldPair _ ?_ ?_; rotate_left; intro e x he)
    | split
    | simp only [Dev.wf_built]
    | with_reducible apply Dev.Built.other
    | with_reducible apply Dev.Wf.itePair
    | with_reducible (refine Dev.Wf.ofPair (by assumption) ?_)
    | with_reducible (refine Dev.Wf.ofPairSnd (by assumption) ?_)
    | with_reducible dsimp only)

theorem Dev.pageAfter_wf (d : Dev) (m : ℕ) (p : Sys2Proof.Page) (off : ℕ) (cur : ℕ) (old : Sys2Proof.Word) (v : Sys2Proof.Word) (h_d : d.Wf) :
    Dev.Wf (Dev.pageAfter d m p off cur old v) := by
  unfold Dev.pageAfter
  try dsimp only
  repeat' (first
    | with_reducible assumption
    | with_reducible apply Dev.devAfter_wf
    | with_reducible apply Dev.pwrAfter_wf
    | with_reducible apply Dev.aonAfter_wf
    | with_reducible apply Dev.bootAfter_wf
    | with_reducible apply Dev.mtxAfter_wf
    | with_reducible apply Dev.intcAfter_wf
    | with_reducible apply Dev.complete_wf
    | with_reducible apply Dev.pmcAfter_wf
    | with_reducible apply Dev.qmgAfter_wf
    | with_reducible apply Dev.sramcAfter_wf
    | with_reducible apply Dev.tmuAfter_wf
    | with_reducible apply Dev.refinAfter_wf
    | with_reducible apply Dev.tdomAfter_wf
    | with_reducible apply Dev.fabAfter_wf
    | with_reducible apply Dev.afabAfter_wf
    | with_reducible apply Dev.txFollow_wf
    | with_reducible apply Dev.wallAfter_wf
    | with_reducible apply Dev.cgateAfter_wf
    | with_reducible apply Dev.protAfter_wf
    | with_reducible apply Dev.fstAfter_wf
    | with_reducible apply Dev.memcAfter_wf
    | with_reducible apply Dev.laneAfter_wf
    | with_reducible apply Dev.tllAfter_wf
    | with_reducible apply Dev.lengAfter_wf
    | with_reducible apply Dev.Wf.ite
    | with_reducible (refine Dev.Wf.fold _ ?_ ?_; rotate_left; intro e x he)
    | with_reducible (refine Dev.Wf.foldPair _ ?_ ?_; rotate_left; intro e x he)
    | split
    | simp only [Dev.wf_built]
    | with_reducible apply Dev.Built.other
    | with_reducible apply Dev.Wf.itePair
    | with_reducible (refine Dev.Wf.ofPair (by assumption) ?_)
    | with_reducible (refine Dev.Wf.ofPairSnd (by assumption) ?_)
    | with_reducible dsimp only)

theorem Dev.headAfter_wf (d : Dev) (before : Dev) (p : Sys2Proof.Page) (off : Nat) (v : Sys2Proof.Word) (h_d : d.Wf) (h_before : before.Wf) :
    Dev.Wf (Dev.headAfter d before p off v) := by
  unfold Dev.headAfter
  try dsimp only
  repeat' (first
    | with_reducible assumption
    | with_reducible apply Dev.wr_wf
    | with_reducible apply Dev.blockReset_wf
    | with_reducible apply Dev.wrOn_wf
    | with_reducible apply Dev.levelled_wf
    | with_reducible apply Dev.Wf.ite
    | with_reducible (refine Dev.Wf.fold _ ?_ ?_; rotate_left; intro e x he)
    | with_reducible (refine Dev.Wf.foldPair _ ?_ ?_; rotate_left; intro e x he)
    | split
    | simp only [Dev.wf_built]
    | with_reducible apply Dev.Built.other
    | with_reducible apply Dev.Wf.itePair
    | with_reducible (refine Dev.Wf.ofPair (by assumption) ?_)
    | with_reducible (refine Dev.Wf.ofPairSnd (by assumption) ?_)
    | with_reducible dsimp only)

theorem Dev.pageWrite_wf (d : Dev) (m : Nat) (p : Sys2Proof.Page) (off : Nat) (be : BitVec 4) (v : Sys2Proof.Word) (h_d : d.Wf) :
    Dev.Wf (Dev.pageWrite d m p off be v) := by
  unfold Dev.pageWrite
  try dsimp only
  repeat' (first
    | with_reducible assumption
    | with_reducible apply Dev.pageOnRej_wf
    | with_reducible apply Dev.recordRej_wf
    | with_reducible apply Dev.setReg_wf
    | with_reducible apply Dev.pageAfter_wf
    | with_reducible apply Dev.headAfter_wf
    | with_reducible apply Dev.Wf.ite
    | with_reducible (refine Dev.Wf.fold _ ?_ ?_; rotate_left; intro e x he)
    | with_reducible (refine Dev.Wf.foldPair _ ?_ ?_; rotate_left; intro e x he)
    | split
    | simp only [Dev.wf_built]
    | with_reducible apply Dev.Built.other
    | with_reducible apply Dev.Wf.itePair
    | with_reducible (refine Dev.Wf.ofPair (by assumption) ?_)
    | with_reducible (refine Dev.Wf.ofPairSnd (by assumption) ?_)
    | with_reducible dsimp only)

theorem Dev.readAfter_wf (d : Dev) (m : Nat) (p : Sys2Proof.Page) (off : Nat) (h_d : d.Wf) :
    Dev.Wf (Dev.readAfter d m p off) := by
  unfold Dev.readAfter
  try dsimp only
  repeat' (first
    | with_reducible assumption
    | with_reducible apply Dev.wr_wf
    | with_reducible apply Dev.tmuLoRead_wf
    | with_reducible apply Dev.claim_wf
    | with_reducible apply Dev.snapLatch_wf
    | with_reducible apply Dev.cntLatch_wf
    | with_reducible apply Dev.Wf.ite
    | with_reducible (refine Dev.Wf.fold _ ?_ ?_; rotate_left; intro e x he)
    | with_reducible (refine Dev.Wf.foldPair _ ?_ ?_; rotate_left; intro e x he)
    | split
    | simp only [Dev.wf_built]
    | with_reducible apply Dev.Built.other
    | with_reducible apply Dev.Wf.itePair
    | with_reducible (refine Dev.Wf.ofPair (by assumption) ?_)
    | with_reducible (refine Dev.Wf.ofPairSnd (by assumption) ?_)
    | with_reducible dsimp only)

theorem Dev.pageRead_wf (d : Dev) (m : Nat) (p : Sys2Proof.Page) (off : Nat) (h_d : d.Wf) :
    Dev.Wf (Dev.pageRead d m p off) := by
  unfold Dev.pageRead
  try dsimp only
  repeat' (first
    | with_reducible assumption
    | with_reducible apply Dev.readLo_wf
    | with_reducible apply Dev.respond_wf
    | with_reducible apply Dev.readAfter_wf
    | with_reducible apply Dev.Wf.ite
    | with_reducible (refine Dev.Wf.fold _ ?_ ?_; rotate_left; intro e x he)
    | with_reducible (refine Dev.Wf.foldPair _ ?_ ?_; rotate_left; intro e x he)
    | split
    | simp only [Dev.wf_built]
    | with_reducible apply Dev.Built.other
    | with_reducible apply Dev.Wf.itePair
    | with_reducible (refine Dev.Wf.ofPair (by assumption) ?_)
    | with_reducible (refine Dev.Wf.ofPairSnd (by assumption) ?_)
    | with_reducible dsimp only)

end Sys2Proof.Machine
end

