-- ==== Sys2Proof/Laws/WfBus.lean ====
section
/-! SUPPORT. The operations of Machine/Bus.lean keep every table of the block canonical. -/

set_option linter.unusedTactic false
set_option linter.unreachableTactic false

namespace Sys2Proof.Machine

theorem Dev.mWrite_wf (d : Dev) (m : Nat) (p : Sys2Proof.Page) (off : Nat) (be : BitVec 4) (v : Sys2Proof.Word) (h_d : d.Wf) :
    Dev.Wf (Dev.mWrite d m p off be v) := by
  unfold Dev.mWrite
  try dsimp only
  repeat' (first
    | with_reducible assumption
    | with_reducible apply Dev.permErr_wf
    | with_reducible apply Dev.respond_wf
    | with_reducible apply Dev.pageWrite_wf
    | with_reducible apply Dev.bwAdd_wf
    | with_reducible apply Dev.granted_wf
    | with_reducible apply Dev.Wf.ite
    | with_reducible (refine Dev.Wf.fold _ ?_ ?_; rotate_left; intro e x he)
    | with_reducible (refine Dev.Wf.foldPair _ ?_ ?_; rotate_left; intro e x he)
    | split
    | simp only [Dev.wf_built]
    | with_reducible apply Dev.Built.other
    | with_reducible apply Dev.Wf.itePair
    | with_reducible (refine Dev.Wf.ofPair (by assumption) ?_)
    | with_reducible (refine Dev.Wf.ofPairSnd (by assumption) ?_)
    | with_reducible dsimp only)

theorem Dev.mRead_wf (d : Dev) (m : Nat) (p : Sys2Proof.Page) (off : Nat) (h_d : d.Wf) :
    Dev.Wf (Dev.mRead d m p off) := by
  unfold Dev.mRead
  try dsimp only
  repeat' (first
    | with_reducible assumption
    | with_reducible apply Dev.permErr_wf
    | with_reducible apply Dev.pageRead_wf
    | with_reducible apply Dev.bwAdd_wf
    | with_reducible apply Dev.granted_wf
    | with_reducible apply Dev.Wf.ite
    | with_reducible (refine Dev.Wf.fold _ ?_ ?_; rotate_left; intro e x he)
    | with_reducible (refine Dev.Wf.foldPair _ ?_ ?_; rotate_left; intro e x he)
    | split
    | simp only [Dev.wf_built]
    | with_reducible apply Dev.Built.other
    | with_reducible apply Dev.Wf.itePair
    | with_reducible (refine Dev.Wf.ofPair (by assumption) ?_)
    | with_reducible (refine Dev.Wf.ofPairSnd (by assumption) ?_)
    | with_reducible dsimp only)

theorem Dev.mCtxWrite_wf (d : Dev) (m : Nat) (off : Nat) (be : BitVec 4) (v : Sys2Proof.Word) (h_d : d.Wf) :
    Dev.Wf (Dev.mCtxWrite d m off be v) := by
  unfold Dev.mCtxWrite
  try dsimp only
  repeat' (first
    | with_reducible assumption
    | with_reducible apply Dev.permErr_wf
    | with_reducible apply Dev.respond_wf
    | with_reducible apply Dev.ctxWrite_wf
    | with_reducible apply Dev.bwAdd_wf
    | with_reducible apply Dev.granted_wf
    | with_reducible apply Dev.Wf.ite
    | with_reducible (refine Dev.Wf.fold _ ?_ ?_; rotate_left; intro e x he)
    | with_reducible (refine Dev.Wf.foldPair _ ?_ ?_; rotate_left; intro e x he)
    | split
    | simp only [Dev.wf_built]
    | with_reducible apply Dev.Built.other
    | with_reducible apply Dev.Wf.itePair
    | with_reducible (refine Dev.Wf.ofPair (by assumption) ?_)
    | with_reducible (refine Dev.Wf.ofPairSnd (by assumption) ?_)
    | with_reducible dsimp only)

theorem Run.word_wf (r : Run) (b : Sys2Proof.Beat) (w : Sys2Proof.Word) (h_r : r.d.Wf) :
    (Run.word r b w).d.Wf := by
  unfold Run.word
  try dsimp only
  repeat' (first
    | with_reducible assumption
    | with_reducible apply Dev.Wf.ite
    | with_reducible (refine Dev.Wf.fold _ ?_ ?_; rotate_left; intro e x he)
    | with_reducible (refine Dev.Wf.foldPair _ ?_ ?_; rotate_left; intro e x he)
    | split
    | simp only [Dev.wf_built]
    | with_reducible apply Dev.Built.other
    | with_reducible apply Dev.Wf.itePair
    | with_reducible (refine Dev.Wf.ofPair (by assumption) ?_)
    | with_reducible (refine Dev.Wf.ofPairSnd (by assumption) ?_)
    | with_reducible dsimp only)

theorem Run.sramRead_wf (r : Run) (t a i : Nat) (env : XferEnv) (h_r : r.d.Wf) : (Run.sramRead r t a i env).1.d.Wf := by
  unfold Run.sramRead
  split
  · exact Dev.eccFound_wf _ _ _ _ h_r
  · split
    · exact Dev.eccFound_wf _ _ _ _ h_r
    · exact h_r

theorem Run.sramBeat_wf (r : Run) (m t a i : Nat) (isWrite : Bool) (b : Beat) (env : XferEnv) (h_r : r.d.Wf) :
    (Run.sramBeat r m t a i isWrite b env).d.Wf := by
  have hs := Run.sramRead_wf r t a i env h_r
  unfold Run.sramBeat
  dsimp only
  split
  · split
    · exact Run.word_wf _ _ _ hs
    · exact hs
  · split
    · exact h_r
    · have hx : (if (b.be == 15) = true then (r, true) else r.sramRead t a i env).1.d.Wf := by
        split
        · exact h_r
        · exact hs
      generalize (if (b.be == 15) = true then (r, true) else r.sramRead t a i env) = x at hx ⊢
      have hd : (if (!(portA t m) && env.collide.contains i) = true then x.1.d.collided t a else x.1.d).Wf :=
        Dev.Wf.ite (Dev.collided_wf _ _ _ hx) hx
      generalize (if (!(portA t m) && env.collide.contains i) = true then x.1.d.collided t a else x.1.d) = d at hd ⊢
      split
      · exact Dev.sramWrite_wf _ _ _ _ hd
      · exact Dev.sramWrite_wf (d.draw 32).2 a 15 (d.draw 32).1 (Dev.draw_wf d 32 hd)

theorem Run.memBeat_wf (r : Run) (a : Nat) (isWrite : Bool) (b : Sys2Proof.Beat) (h_r : r.d.Wf) :
    (Run.memBeat r a isWrite b).d.Wf := by
  unfold Run.memBeat
  try dsimp only
  repeat' (first
    | with_reducible assumption
    | with_reducible apply Dev.setMemByte_wf
    | with_reducible apply Run.word_wf
    | with_reducible apply Dev.Wf.ite
    | with_reducible (refine Dev.Wf.fold _ ?_ ?_; rotate_left; intro e x he)
    | with_reducible (refine Dev.Wf.foldPair _ ?_ ?_; rotate_left; intro e x he)
    | split
    | simp only [Dev.wf_built]
    | with_reducible apply Dev.Built.other
    | with_reducible apply Dev.Wf.itePair
    | with_reducible (refine Dev.Wf.ofPair (by assumption) ?_)
    | with_reducible (refine Dev.Wf.ofPairSnd (by assumption) ?_)
    | with_reducible dsimp only)

theorem Dev.lengMemWrite_wf (d : Dev) (m : Nat) (n : Nat) (off : Nat) (be : BitVec 4) (v : Sys2Proof.Word) (h_d : d.Wf) :
    Dev.Wf (Dev.lengMemWrite d m n off be v) := by
  unfold Dev.lengMemWrite
  try dsimp only
  repeat' (first
    | with_reducible assumption
    | with_reducible apply Dev.recordRej_wf
    | with_reducible apply Dev.istorePut_wf
    | with_reducible apply Dev.dmemPut_wf
    | with_reducible apply Dev.Wf.ite
    | with_reducible (refine Dev.Wf.fold _ ?_ ?_; rotate_left; intro e x he)
    | with_reducible (refine Dev.Wf.foldPair _ ?_ ?_; rotate_left; intro e x he)
    | split
    | simp only [Dev.wf_built]
    | with_reducible apply Dev.Built.other
    | with_reducible apply Dev.Wf.itePair
    | with_reducible (refine Dev.Wf.ofPair (by assumption) ?_)
    | with_reducible (refine Dev.Wf.ofPairSnd (by assumption) ?_)
    | with_reducible dsimp only)

theorem Run.pageBeat_wf (r : Run) (m : Nat) (a : Nat) (isWrite : Bool) (b : Sys2Proof.Beat) (h_r : r.d.Wf) :
    (Run.pageBeat r m a isWrite b).d.Wf := by
  unfold Run.pageBeat
  try dsimp only
  repeat' (first
    | with_reducible assumption
    | with_reducible apply Dev.pageWrite_wf
    | with_reducible apply Dev.pageRead_wf
    | with_reducible apply Run.word_wf
    | with_reducible apply Dev.lengMemWrite_wf
    | with_reducible apply Dev.Wf.ite
    | with_reducible (refine Dev.Wf.fold _ ?_ ?_; rotate_left; intro e x he)
    | with_reducible (refine Dev.Wf.foldPair _ ?_ ?_; rotate_left; intro e x he)
    | split
    | simp only [Dev.wf_built]
    | with_reducible apply Dev.Built.other
    | with_reducible apply Dev.Wf.itePair
    | with_reducible (refine Dev.Wf.ofPair (by assumption) ?_)
    | with_reducible (refine Dev.Wf.ofPairSnd (by assumption) ?_)
    | with_reducible dsimp only)

theorem Run.ctxBeat_wf (r : Run) (m : Nat) (a : Nat) (isWrite : Bool) (b : Sys2Proof.Beat) (h_r : r.d.Wf) :
    (Run.ctxBeat r m a isWrite b).d.Wf := by
  unfold Run.ctxBeat
  try dsimp only
  repeat' (first
    | with_reducible assumption
    | with_reducible apply Dev.ctxWrite_wf
    | with_reducible apply Run.word_wf
    | with_reducible apply Dev.Wf.ite
    | with_reducible (refine Dev.Wf.fold _ ?_ ?_; rotate_left; intro e x he)
    | with_reducible (refine Dev.Wf.foldPair _ ?_ ?_; rotate_left; intro e x he)
    | split
    | simp only [Dev.wf_built]
    | with_reducible apply Dev.Built.other
    | with_reducible apply Dev.Wf.itePair
    | with_reducible (refine Dev.Wf.ofPair (by assumption) ?_)
    | with_reducible (refine Dev.Wf.ofPairSnd (by assumption) ?_)
    | with_reducible dsimp only)

theorem Run.beat_wf (r : Run) (m : Nat) (t : Nat) (a : Nat) (i : Nat) (isWrite : Bool) (b : Sys2Proof.Beat) (env : Sys2Proof.XferEnv) (h_r : r.d.Wf) :
    (Run.beat r m t a i isWrite b env).d.Wf := by
  unfold Run.beat
  try dsimp only
  repeat' (first
    | with_reducible assumption
    | with_reducible apply Run.sramBeat_wf
    | with_reducible apply Run.memBeat_wf
    | with_reducible apply Run.pageBeat_wf
    | with_reducible apply Run.word_wf
    | with_reducible apply Run.ctxBeat_wf
    | with_reducible apply Dev.Wf.ite
    | with_reducible (refine Dev.Wf.fold _ ?_ ?_; rotate_left; intro e x he)
    | with_reducible (refine Dev.Wf.foldPair _ ?_ ?_; rotate_left; intro e x he)
    | split
    | simp only [Dev.wf_built]
    | with_reducible apply Dev.Built.other
    | with_reducible apply Dev.Wf.itePair
    | with_reducible (refine Dev.Wf.ofPair (by assumption) ?_)
    | with_reducible (refine Dev.Wf.ofPairSnd (by assumption) ?_)
    | with_reducible dsimp only)

theorem Run.beats_wf (r : Run) (m t a i : Nat) (isWrite : Bool) (env : XferEnv) (bs : List Beat) (h_r : r.d.Wf) :
    (Run.beats r m t a i isWrite env bs).d.Wf := by
  induction bs generalizing r a i with
  | nil => exact h_r
  | cons b bs ih => exact ih _ _ _ (Run.beat_wf r m t a i isWrite b env h_r)

theorem Run.finish_wf (r : Run) (m : Nat) (h_r : r.d.Wf) :
    Dev.Wf (Run.finish r m) := by
  unfold Run.finish
  try dsimp only
  repeat' (first
    | with_reducible assumption
    | with_reducible apply Dev.respond_wf
    | with_reducible apply Dev.Wf.ite
    | with_reducible (refine Dev.Wf.fold _ ?_ ?_; rotate_left; intro e x he)
    | with_reducible (refine Dev.Wf.foldPair _ ?_ ?_; rotate_left; intro e x he)
    | split
    | simp only [Dev.wf_built]
    | with_reducible apply Dev.Built.other
    | with_reducible apply Dev.Wf.itePair
    | with_reducible (refine Dev.Wf.ofPair (by assumption) ?_)
    | with_reducible (refine Dev.Wf.ofPairSnd (by assumption) ?_)
    | with_reducible dsimp only)

theorem Dev.perform_wf (d : Dev) (m : Nat) (t : Nat) (a : Nat) (i : Nat) (isWrite : Bool) (bs : List Sys2Proof.Beat) (env : Sys2Proof.XferEnv) (h_d : d.Wf) :
    Dev.Wf (Dev.perform d m t a i isWrite bs env) := by
  unfold Dev.perform
  try dsimp only
  repeat' (first
    | with_reducible assumption
    | with_reducible apply Dev.bwAdd_wf
    | with_reducible apply Dev.granted_wf
    | with_reducible apply Dev.wr_wf
    | with_reducible apply Dev.memBw_wf
    | with_reducible apply Run.finish_wf
    | with_reducible apply Run.beats_wf
    | with_reducible apply Dev.Wf.ite
    | with_reducible (refine Dev.Wf.fold _ ?_ ?_; rotate_left; intro e x he)
    | with_reducible (refine Dev.Wf.foldPair _ ?_ ?_; rotate_left; intro e x he)
    | split
    | simp only [Dev.wf_built]
    | with_reducible apply Dev.Built.other
    | with_reducible apply Dev.Wf.itePair
    | with_reducible (refine Dev.Wf.ofPair (by assumption) ?_)
    | with_reducible (refine Dev.Wf.ofPairSnd (by assumption) ?_)
    | with_reducible dsimp only)

theorem Dev.transfer_wf (d : Dev) (m : Nat) (addr : Nat) (i : Nat) (isWrite : Bool) (bs : List Sys2Proof.Beat) (env : Sys2Proof.XferEnv) (h_d : d.Wf) :
    Dev.Wf (Dev.transfer d m addr i isWrite bs env) := by
  unfold Dev.transfer
  try dsimp only
  repeat' (first
    | with_reducible assumption
    | with_reducible apply Dev.permErr_wf
    | with_reducible apply Dev.decErr_wf
    | with_reducible apply Dev.bwAdd_wf
    | with_reducible apply Dev.timeoutErr_wf
    | with_reducible apply Dev.perform_wf
    | with_reducible apply Dev.Wf.ite
    | with_reducible (refine Dev.Wf.fold _ ?_ ?_; rotate_left; intro e x he)
    | with_reducible (refine Dev.Wf.foldPair _ ?_ ?_; rotate_left; intro e x he)
    | split
    | simp only [Dev.wf_built]
    | with_reducible apply Dev.Built.other
    | with_reducible apply Dev.Wf.itePair
    | with_reducible (refine Dev.Wf.ofPair (by assumption) ?_)
    | with_reducible (refine Dev.Wf.ofPairSnd (by assumption) ?_)
    | with_reducible dsimp only)

theorem Dev.reserved_wf (d : Dev) (m : ℕ) (addr : ℕ) (isWrite : Bool) (v : Sys2Proof.Word) (env : Sys2Proof.XferEnv) (h_d : d.Wf) :
    Dev.Wf (Dev.reserved d m addr isWrite v env) := by
  unfold Dev.reserved
  try dsimp only
  repeat' (first
    | with_reducible assumption
    | with_reducible apply Dev.decErr_wf
    | with_reducible apply Dev.permErr_wf
    | with_reducible apply Dev.bwAdd_wf
    | with_reducible apply Dev.granted_wf
    | with_reducible apply Dev.eccRead_wf
    | with_reducible apply Dev.respond_wf
    | with_reducible apply Dev.collided_wf
    | with_reducible apply Dev.sramWrite_wf
    | with_reducible apply Dev.Wf.ite
    | with_reducible (refine Dev.Wf.fold _ ?_ ?_; rotate_left; intro e x he)
    | with_reducible (refine Dev.Wf.foldPair _ ?_ ?_; rotate_left; intro e x he)
    | split
    | simp only [Dev.wf_built]
    | with_reducible apply Dev.Built.other
    | with_reducible apply Dev.Wf.itePair
    | with_reducible (refine Dev.Wf.ofPair (by assumption) ?_)
    | with_reducible (refine Dev.Wf.ofPairSnd (by assumption) ?_)
    | with_reducible dsimp only)

theorem Dev.matrixTransfer_wf (d : Dev) (m : ℕ) (x : Sys2Proof.Xfer) (h_d : d.Wf) :
    Dev.Wf (Dev.matrixTransfer d m x) := by
  unfold Dev.matrixTransfer
  try dsimp only
  repeat' (first
    | with_reducible assumption
    | with_reducible apply Dev.transfer_wf
    | with_reducible apply Dev.reserved_wf
    | with_reducible apply Dev.Wf.ite
    | with_reducible (refine Dev.Wf.fold _ ?_ ?_; rotate_left; intro e x he)
    | with_reducible (refine Dev.Wf.foldPair _ ?_ ?_; rotate_left; intro e x he)
    | split
    | simp only [Dev.wf_built]
    | with_reducible apply Dev.Built.other
    | with_reducible apply Dev.Wf.itePair
    | with_reducible (refine Dev.Wf.ofPair (by assumption) ?_)
    | with_reducible (refine Dev.Wf.ofPairSnd (by assumption) ?_)
    | with_reducible dsimp only)

theorem Dev.hostDrop_wf (d : Dev) (m : Nat) (h_d : d.Wf) :
    Dev.Wf (Dev.hostDrop d m) := by
  unfold Dev.hostDrop
  try dsimp only
  repeat' (first
    | with_reducible assumption
    | with_reducible apply Dev.Wf.ite
    | with_reducible (refine Dev.Wf.fold _ ?_ ?_; rotate_left; intro e x he)
    | with_reducible (refine Dev.Wf.foldPair _ ?_ ?_; rotate_left; intro e x he)
    | split
    | simp only [Dev.wf_built]
    | with_reducible apply Dev.Built.other
    | with_reducible apply Dev.Wf.itePair
    | with_reducible (refine Dev.Wf.ofPair (by assumption) ?_)
    | with_reducible (refine Dev.Wf.ofPairSnd (by assumption) ?_)
    | with_reducible dsimp only)

theorem Dev.masterAbort_wf (d : Dev) (m : Nat) (x : Option Sys2Proof.Xfer) (n : Nat) (h_d : d.Wf) :
    Dev.Wf (Dev.masterAbort d m x n) := by
  unfold Dev.masterAbort
  try dsimp only
  repeat' (first
    | with_reducible assumption
    | with_reducible apply Dev.hostDrop_wf
    | with_reducible apply Dev.masterEnd_wf
    | with_reducible apply Dev.masterReset_wf
    | with_reducible apply Dev.perform_wf
    | with_reducible apply Dev.Wf.ite
    | with_reducible (refine Dev.Wf.fold _ ?_ ?_; rotate_left; intro e x he)
    | with_reducible (refine Dev.Wf.foldPair _ ?_ ?_; rotate_left; intro e x he)
    | split
    | simp only [Dev.wf_built]
    | with_reducible apply Dev.Built.other
    | with_reducible apply Dev.Built.up_resp
    | with_reducible apply Map.wf_put
    | with_reducible apply Map.wf_filter
    | exact rfl
    | with_reducible apply Dev.Wf.resp
    | with_reducible apply Dev.Wf.itePair
    | with_reducible (refine Dev.Wf.ofPair (by assumption) ?_)
    | with_reducible (refine Dev.Wf.ofPairSnd (by assumption) ?_)
    | with_reducible dsimp only)

theorem Dev.pciDone_wf (d : Dev) (s : PciStatus) (ws : List Sys2Proof.Word) (h_d : d.Wf) :
    Dev.Wf (Dev.pciDone d s ws) := by
  unfold Dev.pciDone
  try dsimp only
  repeat' (first
    | with_reducible assumption
    | with_reducible apply Dev.Wf.ite
    | with_reducible (refine Dev.Wf.fold _ ?_ ?_; rotate_left; intro e x he)
    | with_reducible (refine Dev.Wf.foldPair _ ?_ ?_; rotate_left; intro e x he)
    | split
    | simp only [Dev.wf_built]
    | with_reducible apply Dev.Built.other
    | with_reducible apply Dev.Wf.itePair
    | with_reducible (refine Dev.Wf.ofPair (by assumption) ?_)
    | with_reducible (refine Dev.Wf.ofPairSnd (by assumption) ?_)
    | with_reducible dsimp only)

theorem Dev.pciBursts_wf (d : Dev) (isWrite : Bool) (env : XferEnv) (i : Nat) (ws : List Word) (st : PciStatus)
    (bs : List (Nat × List Beat)) (h_d : d.Wf) : (Dev.pciBursts d isWrite env i ws st bs).Wf := by
  induction bs generalizing d i ws st with
  | nil =>
    unfold Dev.pciBursts
    split
    · exact Dev.pciDone_wf _ _ _ h_d
    · split <;> exact Dev.pciDone_wf _ _ _ h_d
  | cons b bs ih =>
    obtain ⟨a, l⟩ := b
    have h := Dev.transfer_wf d 4 a i isWrite l env h_d
    unfold Dev.pciBursts
    dsimp only
    split
    · exact Dev.Built.other h
    · exact ih _ _ _ _ h

theorem Dev.pcieRequest_wf (d : Dev) (r : Sys2Proof.PciReq) (h_d : d.Wf) :
    Dev.Wf (Dev.pcieRequest d r) := by
  unfold Dev.pcieRequest
  try dsimp only
  repeat' (first
    | with_reducible assumption
    | with_reducible apply Dev.pciBursts_wf
    | with_reducible apply Dev.bar2Read_wf
    | with_reducible apply Dev.pciDone_wf
    | with_reducible apply Dev.Wf.ite
    | with_reducible (refine Dev.Wf.fold _ ?_ ?_; rotate_left; intro e x he)
    | with_reducible (refine Dev.Wf.foldPair _ ?_ ?_; rotate_left; intro e x he)
    | split
    | simp only [Dev.wf_built]
    | with_reducible apply Dev.Built.other
    | with_reducible apply Dev.Wf.itePair
    | with_reducible (refine Dev.Wf.ofPair (by assumption) ?_)
    | with_reducible (refine Dev.Wf.ofPairSnd (by assumption) ?_)
    | with_reducible dsimp only)

theorem Dev.pcieLinkReset_wf (d : Dev) (k : Sys2Proof.LinkReset) (h_d : d.Wf) :
    Dev.Wf (Dev.pcieLinkReset d k) := by
  unfold Dev.pcieLinkReset
  try dsimp only
  repeat' (first
    | with_reducible assumption
    | with_reducible apply Dev.masterEnd_wf
    | with_reducible apply Dev.setEvtIf_wf
    | with_reducible apply Dev.setReg_wf
    | with_reducible apply Dev.Wf.ite
    | with_reducible (refine Dev.Wf.fold _ ?_ ?_; rotate_left; intro e x he)
    | with_reducible (refine Dev.Wf.foldPair _ ?_ ?_; rotate_left; intro e x he)
    | split
    | simp only [Dev.wf_built]
    | with_reducible apply Dev.Built.other
    | with_reducible apply Dev.Built.up_regs
    | with_reducible apply Map.wf_put
    | with_reducible apply Map.wf_filter
    | exact rfl
    | with_reducible apply Dev.Wf.regs
    | with_reducible apply Dev.Wf.itePair
    | with_reducible (refine Dev.Wf.ofPair (by assumption) ?_)
    | with_reducible (refine Dev.Wf.ofPairSnd (by assumption) ?_)
    | with_reducible dsimp only)

theorem Dev.perstRise_wf (d : Dev) (h_d : d.Wf) :
    Dev.Wf (Dev.perstRise d) := by
  unfold Dev.perstRise
  try dsimp only
  repeat' (first
    | with_reducible assumption
    | with_reducible apply Dev.Wf.ite
    | with_reducible (refine Dev.Wf.fold _ ?_ ?_; rotate_left; intro e x he)
    | with_reducible (refine Dev.Wf.foldPair _ ?_ ?_; rotate_left; intro e x he)
    | split
    | simp only [Dev.wf_built]
    | with_reducible apply Dev.Built.other
    | with_reducible apply Dev.Wf.itePair
    | with_reducible (refine Dev.Wf.ofPair (by assumption) ?_)
    | with_reducible (refine Dev.Wf.ofPairSnd (by assumption) ?_)
    | with_reducible dsimp only)

theorem Dev.perstFall_wf (d : Dev) (k : Sys2Proof.LinkReset) (h_d : d.Wf) :
    Dev.Wf (Dev.perstFall d k) := by
  unfold Dev.perstFall
  try dsimp only
  repeat' (first
    | with_reducible assumption
    | with_reducible apply Dev.Wf.ite
    | with_reducible (refine Dev.Wf.fold _ ?_ ?_; rotate_left; intro e x he)
    | with_reducible (refine Dev.Wf.foldPair _ ?_ ?_; rotate_left; intro e x he)
    | split
    | simp only [Dev.wf_built]
    | with_reducible apply Dev.Built.other
    | with_reducible apply Dev.Wf.itePair
    | with_reducible (refine Dev.Wf.ofPair (by assumption) ?_)
    | with_reducible (refine Dev.Wf.ofPairSnd (by assumption) ?_)
    | with_reducible dsimp only)

theorem Dev.pcieLinkUp_wf (d : Dev) (speed : Nat) (width : Nat) (h_d : d.Wf) :
    Dev.Wf (Dev.pcieLinkUp d speed width) := by
  unfold Dev.pcieLinkUp
  try dsimp only
  repeat' (first
    | with_reducible assumption
    | with_reducible apply Dev.setEvt_wf
    | with_reducible apply Dev.wrOn_wf
    | with_reducible apply Dev.wr_wf
    | with_reducible apply Dev.Wf.ite
    | with_reducible (refine Dev.Wf.fold _ ?_ ?_; rotate_left; intro e x he)
    | with_reducible (refine Dev.Wf.foldPair _ ?_ ?_; rotate_left; intro e x he)
    | split
    | simp only [Dev.wf_built]
    | with_reducible apply Dev.Built.other
    | with_reducible apply Dev.Wf.itePair
    | with_reducible (refine Dev.Wf.ofPair (by assumption) ?_)
    | with_reducible (refine Dev.Wf.ofPairSnd (by assumption) ?_)
    | with_reducible dsimp only)

theorem Dev.msixSend_wf (d : Dev) (enable : Bool) (v : Nat) (h_d : d.Wf) :
    Dev.Wf (Dev.msixSend d enable v) := by
  unfold Dev.msixSend
  try dsimp only
  repeat' (first
    | with_reducible assumption
    | with_reducible apply Dev.Wf.ite
    | with_reducible (refine Dev.Wf.fold _ ?_ ?_; rotate_left; intro e x he)
    | with_reducible (refine Dev.Wf.foldPair _ ?_ ?_; rotate_left; intro e x he)
    | split
    | simp only [Dev.wf_built]
    | with_reducible apply Dev.Built.other
    | with_reducible apply Dev.Wf.itePair
    | with_reducible (refine Dev.Wf.ofPair (by assumption) ?_)
    | with_reducible (refine Dev.Wf.ofPairSnd (by assumption) ?_)
    | with_reducible dsimp only)

theorem Dev.spiEnd_wf (d : Dev) (code : Nat) (w : Sys2Proof.Word) (h_d : d.Wf) :
    Dev.Wf (Dev.spiEnd d code w) := by
  unfold Dev.spiEnd
  try dsimp only
  repeat' (first
    | with_reducible assumption
    | with_reducible apply Dev.inc_wf
    | with_reducible apply Dev.Wf.ite
    | with_reducible (refine Dev.Wf.fold _ ?_ ?_; rotate_left; intro e x he)
    | with_reducible (refine Dev.Wf.foldPair _ ?_ ?_; rotate_left; intro e x he)
    | split
    | simp only [Dev.wf_built]
    | with_reducible apply Dev.Built.other
    | with_reducible apply Dev.Wf.itePair
    | with_reducible (refine Dev.Wf.ofPair (by assumption) ?_)
    | with_reducible (refine Dev.Wf.ofPairSnd (by assumption) ?_)
    | with_reducible dsimp only)

theorem Dev.spiSettle_wf (d : Dev) (h_d : d.Wf) :
    Dev.Wf (Dev.spiSettle d) := by
  unfold Dev.spiSettle
  try dsimp only
  repeat' (first
    | with_reducible assumption
    | with_reducible apply Dev.spiEnd_wf
    | with_reducible apply Dev.Wf.ite
    | with_reducible (refine Dev.Wf.fold _ ?_ ?_; rotate_left; intro e x he)
    | with_reducible (refine Dev.Wf.foldPair _ ?_ ?_; rotate_left; intro e x he)
    | split
    | simp only [Dev.wf_built]
    | with_reducible apply Dev.Built.other
    | with_reducible apply Dev.Wf.itePair
    | with_reducible (refine Dev.Wf.ofPair (by assumption) ?_)
    | with_reducible (refine Dev.Wf.ofPairSnd (by assumption) ?_)
    | with_reducible dsimp only)

theorem Dev.spiAccess_wf (d : Dev) (f : Sys2Proof.SpiFrame) (h_d : d.Wf) :
    Dev.Wf (Dev.spiAccess d f) := by
  unfold Dev.spiAccess
  try dsimp only
  repeat' (first
    | with_reducible assumption
    | with_reducible apply Dev.transfer_wf
    | with_reducible apply Dev.Wf.ite
    | with_reducible (refine Dev.Wf.fold _ ?_ ?_; rotate_left; intro e x he)
    | with_reducible (refine Dev.Wf.foldPair _ ?_ ?_; rotate_left; intro e x he)
    | split
    | simp only [Dev.wf_built]
    | with_reducible apply Dev.Built.other
    | with_reducible apply Dev.Wf.itePair
    | with_reducible (refine Dev.Wf.ofPair (by assumption) ?_)
    | with_reducible (refine Dev.Wf.ofPairSnd (by assumption) ?_)
    | with_reducible dsimp only)

theorem Dev.spiFrame_wf (d : Dev) (f : Sys2Proof.SpiFrame) (h_d : d.Wf) :
    Dev.Wf (Dev.spiFrame d f) := by
  unfold Dev.spiFrame
  try dsimp only
  repeat' (first
    | with_reducible assumption
    | with_reducible apply Dev.setEvt_wf
    | with_reducible apply Dev.spiEnd_wf
    | with_reducible apply Dev.spiSettle_wf
    | with_reducible apply Dev.spiAccess_wf
    | with_reducible apply Dev.Wf.ite
    | with_reducible (refine Dev.Wf.fold _ ?_ ?_; rotate_left; intro e x he)
    | with_reducible (refine Dev.Wf.foldPair _ ?_ ?_; rotate_left; intro e x he)
    | split
    | simp only [Dev.wf_built]
    | with_reducible apply Dev.Built.other
    | with_reducible apply Dev.Wf.itePair
    | with_reducible (refine Dev.Wf.ofPair (by assumption) ?_)
    | with_reducible (refine Dev.Wf.ofPairSnd (by assumption) ?_)
    | with_reducible dsimp only)

theorem Dev.spiAbort_wf (d : Dev) (f : Option Sys2Proof.SpiFrame) (h_d : d.Wf) :
    Dev.Wf (Dev.spiAbort d f) := by
  unfold Dev.spiAbort
  try dsimp only
  repeat' (first
    | with_reducible assumption
    | with_reducible apply Dev.setEvt_wf
    | with_reducible apply Dev.spiAccess_wf
    | with_reducible apply Dev.masterEnd_wf
    | with_reducible apply Dev.inc_wf
    | with_reducible apply Dev.Wf.ite
    | with_reducible (refine Dev.Wf.fold _ ?_ ?_; rotate_left; intro e x he)
    | with_reducible (refine Dev.Wf.foldPair _ ?_ ?_; rotate_left; intro e x he)
    | split
    | simp only [Dev.wf_built]
    | with_reducible apply Dev.Built.other
    | with_reducible apply Dev.Wf.itePair
    | with_reducible (refine Dev.Wf.ofPair (by assumption) ?_)
    | with_reducible (refine Dev.Wf.ofPairSnd (by assumption) ?_)
    | with_reducible dsimp only)

theorem Dev.burstGoOn_wf (d : Dev) (m : Nat) (h_d : d.Wf) :
    Dev.Wf (Dev.burstGoOn d m) := by
  unfold Dev.burstGoOn
  try dsimp only
  repeat' (first
    | with_reducible assumption
    | with_reducible apply Run.finish_wf
    | with_reducible apply Run.beats_wf
    | with_reducible apply Dev.Wf.ite
    | with_reducible (refine Dev.Wf.fold _ ?_ ?_; rotate_left; intro e x he)
    | with_reducible (refine Dev.Wf.foldPair _ ?_ ?_; rotate_left; intro e x he)
    | split
    | simp only [Dev.wf_built]
    | with_reducible apply Dev.Built.other
    | with_reducible apply Dev.Wf.itePair
    | with_reducible (refine Dev.Wf.ofPair (by assumption) ?_)
    | with_reducible (refine Dev.Wf.ofPairSnd (by assumption) ?_)
    | with_reducible dsimp only)

theorem Dev.hostSettle_wf (d : Dev) (h_d : d.Wf) :
    Dev.Wf (Dev.hostSettle d) := by
  unfold Dev.hostSettle
  try dsimp only
  repeat' (first
    | with_reducible assumption
    | with_reducible apply Dev.spiSettle_wf
    | with_reducible apply Dev.pciDone_wf
    | with_reducible apply Dev.Wf.ite
    | with_reducible (refine Dev.Wf.fold _ ?_ ?_; rotate_left; intro e x he)
    | with_reducible (refine Dev.Wf.foldPair _ ?_ ?_; rotate_left; intro e x he)
    | split
    | simp only [Dev.wf_built]
    | with_reducible apply Dev.Built.other
    | with_reducible apply Dev.Wf.itePair
    | with_reducible (refine Dev.Wf.ofPair (by assumption) ?_)
    | with_reducible (refine Dev.Wf.ofPairSnd (by assumption) ?_)
    | with_reducible dsimp only)

end Sys2Proof.Machine
end

