-- ==== Sys2Proof/Laws/WfBoot.lean ====
section
/-! SUPPORT. The operations of Machine/Boot.lean keep every table of the block canonical. -/

set_option linter.unusedTactic false
set_option linter.unreachableTactic false

namespace Sys2Proof.Machine

theorem Dev.bootStart_wf (d : Dev) (h_d : d.Wf) :
    Dev.Wf (Dev.bootStart d) := by
  unfold Dev.bootStart
  try dsimp only
  repeat' (first
    | with_reducible assumption
    | with_reducible apply Dev.wr_wf
    | with_reducible apply Dev.Wf.ite
    | with_reducible (refine Dev.Wf.fold _ ?_ ?_; rotate_left; intro e x he)
    | with_reducible (refine Dev.Wf.foldPair _ ?_ ?_; rotate_left; intro e x he)
    | split
    | simp only [Dev.wf_built]
    | with_reducible apply Dev.Built.other
    | with_reducible apply Dev.Wf.itePair
    | with_reducible (refine Dev.Wf.ofPair (by assumption) ?_)
    | with_reducible (refine Dev.Wf.ofPairSnd (by assumption) ?_)
    | with_reducible dsimp only)

theorem Dev.bootFail_wf (d : Dev) (cause : Nat) (h_d : d.Wf) :
    Dev.Wf (Dev.bootFail d cause) := by
  unfold Dev.bootFail
  try dsimp only
  repeat' (first
    | with_reducible assumption
    | with_reducible apply Dev.setEvt_wf
    | with_reducible apply Dev.wr_wf
    | with_reducible apply Dev.Wf.ite
    | with_reducible (refine Dev.Wf.fold _ ?_ ?_; rotate_left; intro e x he)
    | with_reducible (refine Dev.Wf.foldPair _ ?_ ?_; rotate_left; intro e x he)
    | split
    | simp only [Dev.wf_built]
    | with_reducible apply Dev.Built.other
    | with_reducible apply Dev.Wf.itePair
    | with_reducible (refine Dev.Wf.ofPair (by assumption) ?_)
    | with_reducible (refine Dev.Wf.ofPairSnd (by assumption) ?_)
    | with_reducible dsimp only)

theorem Dev.sfdpDone_wf (d : Dev) (found : Bool) (addr4 : Bool) (quad : Bool) (h_d : d.Wf) :
    Dev.Wf (Dev.sfdpDone d found addr4 quad) := by
  unfold Dev.sfdpDone
  try dsimp only
  repeat' (first
    | with_reducible assumption
    | with_reducible apply Dev.bootFail_wf
    | with_reducible apply Dev.wr_wf
    | with_reducible apply Dev.wrOn_wf
    | with_reducible apply Dev.Wf.ite
    | with_reducible (refine Dev.Wf.fold _ ?_ ?_; rotate_left; intro e x he)
    | with_reducible (refine Dev.Wf.foldPair _ ?_ ?_; rotate_left; intro e x he)
    | split
    | simp only [Dev.wf_built]
    | with_reducible apply Dev.Built.other
    | with_reducible apply Dev.Wf.itePair
    | with_reducible (refine Dev.Wf.ofPair (by assumption) ?_)
    | with_reducible (refine Dev.Wf.ofPairSnd (by assumption) ?_)
    | with_reducible dsimp only)

theorem Dev.loadWrites_wf (d : Dev) (ws : List (Nat × Word)) (h_d : d.Wf) : (Dev.loadWrites d ws).1.Wf := by
  induction ws generalizing d with
  | nil => exact h_d
  | cons w ws ih =>
    obtain ⟨a, v⟩ := w
    have h := Dev.transfer_wf d 8 a 0 true [{ data := v }] {} h_d
    unfold Dev.loadWrites
    dsimp only
    split
    · exact Dev.bootFail_wf _ _ (Dev.setReg_wf _ _ _ h)
    · split
      · exact h
      · exact ih _ h

theorem Dev.imageFail_wf (d : Dev) (cause : Nat) (big : Bool) (h_d : d.Wf) :
    Dev.Wf (Dev.imageFail d cause big) := by
  unfold Dev.imageFail
  try dsimp only
  repeat' (first
    | with_reducible assumption
    | with_reducible apply Dev.wr_wf
    | with_reducible apply Dev.bootFail_wf
    | with_reducible apply Dev.Wf.ite
    | with_reducible (refine Dev.Wf.fold _ ?_ ?_; rotate_left; intro e x he)
    | with_reducible (refine Dev.Wf.foldPair _ ?_ ?_; rotate_left; intro e x he)
    | split
    | simp only [Dev.wf_built]
    | with_reducible apply Dev.Built.other
    | with_reducible apply Dev.Wf.itePair
    | with_reducible (refine Dev.Wf.ofPair (by assumption) ?_)
    | with_reducible (refine Dev.Wf.ofPairSnd (by assumption) ?_)
    | with_reducible dsimp only)

theorem Dev.imageDone_wf (d : Dev) (flash : List Sys2Proof.Word) (bus : Bool) (big : Bool) (h_d : d.Wf) :
    Dev.Wf (Dev.imageDone d flash bus big) := by
  unfold Dev.imageDone
  try dsimp only
  repeat' (first
    | with_reducible assumption
    | with_reducible apply Dev.imageFail_wf
    | with_reducible apply Dev.permErr_wf
    | with_reducible apply Dev.decErr_wf
    | with_reducible apply Dev.loadWrites_wf
    | with_reducible apply Dev.bootDone_wf
    | with_reducible apply Dev.Wf.ite
    | with_reducible (refine Dev.Wf.fold _ ?_ ?_; rotate_left; intro e x he)
    | with_reducible (refine Dev.Wf.foldPair _ ?_ ?_; rotate_left; intro e x he)
    | split
    | simp only [Dev.wf_built]
    | with_reducible apply Dev.Built.other
    | with_reducible apply Dev.Wf.itePair
    | with_reducible (refine Dev.Wf.ofPair (by assumption) ?_)
    | with_reducible (refine Dev.Wf.ofPairSnd (by assumption) ?_)
    | with_reducible dsimp only)

theorem Dev.bankByte_wf (d : Dev) (off : Nat) (b : Sys2Proof.Byte) (h_d : d.Wf) :
    Dev.Wf (Dev.bankByte d off b) := by
  unfold Dev.bankByte
  try dsimp only
  repeat' (first
    | with_reducible assumption
    | with_reducible apply Dev.sramWrite_wf
    | with_reducible apply Dev.Wf.ite
    | with_reducible (refine Dev.Wf.fold _ ?_ ?_; rotate_left; intro e x he)
    | with_reducible (refine Dev.Wf.foldPair _ ?_ ?_; rotate_left; intro e x he)
    | split
    | simp only [Dev.wf_built]
    | with_reducible apply Dev.Built.other
    | with_reducible apply Dev.Wf.itePair
    | with_reducible (refine Dev.Wf.ofPair (by assumption) ?_)
    | with_reducible (refine Dev.Wf.ofPairSnd (by assumption) ?_)
    | with_reducible dsimp only)

theorem Dev.flashData_wf (d : Dev) (off : Nat) (bs : List Byte) (h_d : d.Wf) : (Dev.flashData d off bs).Wf := by
  induction bs generalizing d off with
  | nil => exact h_d
  | cons b bs ih => exact ih _ _ (Dev.bankByte_wf d off b h_d)

theorem Dev.flashReads_wf (d : Dev) (ws : List ReadWait) (rs : List (List Word)) (h_d : d.Wf) : (Dev.flashReads d ws rs).Wf := by
  induction ws generalizing d rs with
  | nil => exact h_d
  | cons w ws ih => exact ih _ _ (Dev.perform_wf d w.master 7 w.addr 0 false _ _ h_d)

theorem Dev.dbgSettle_wf (d : Dev) (h_d : d.Wf) :
    Dev.Wf (Dev.dbgSettle d) := by
  unfold Dev.dbgSettle
  try dsimp only
  repeat' (first
    | with_reducible assumption
    | with_reducible apply Dev.draw_wf
    | with_reducible apply Dev.Wf.ite
    | with_reducible (refine Dev.Wf.fold _ ?_ ?_; rotate_left; intro e x he)
    | with_reducible (refine Dev.Wf.foldPair _ ?_ ?_; rotate_left; intro e x he)
    | split
    | simp only [Dev.wf_built]
    | with_reducible apply Dev.Built.other
    | with_reducible apply Dev.Wf.itePair
    | with_reducible (refine Dev.Wf.ofPair (by assumption) ?_)
    | with_reducible (refine Dev.Wf.ofPairSnd (by assumption) ?_)
    | with_reducible dsimp only)

theorem Dev.flashDone_wf (d : Dev) (data : List Sys2Proof.Byte) (reads : List (List Sys2Proof.Word)) (h_d : d.Wf) :
    Dev.Wf (Dev.flashDone d data reads) := by
  unfold Dev.flashDone
  try dsimp only
  repeat' (first
    | with_reducible assumption
    | with_reducible apply Dev.wrOn_wf
    | with_reducible apply Dev.flashData_wf
    | with_reducible apply Dev.dbgSettle_wf
    | with_reducible apply Dev.hostSettle_wf
    | with_reducible apply Dev.flashReads_wf
    | with_reducible apply Dev.Wf.ite
    | with_reducible (refine Dev.Wf.fold _ ?_ ?_; rotate_left; intro e x he)
    | with_reducible (refine Dev.Wf.foldPair _ ?_ ?_; rotate_left; intro e x he)
    | split
    | simp only [Dev.wf_built]
    | with_reducible apply Dev.Built.other
    | with_reducible apply Dev.Wf.itePair
    | with_reducible (refine Dev.Wf.ofPair (by assumption) ?_)
    | with_reducible (refine Dev.Wf.ofPairSnd (by assumption) ?_)
    | with_reducible dsimp only)

theorem Dev.trst_wf (d : Dev) (h_d : d.Wf) :
    Dev.Wf (Dev.trst d) := by
  unfold Dev.trst
  try dsimp only
  repeat' (first
    | with_reducible assumption
    | with_reducible apply Dev.masterEnd_wf
    | with_reducible apply Dev.Wf.ite
    | with_reducible (refine Dev.Wf.fold _ ?_ ?_; rotate_left; intro e x he)
    | with_reducible (refine Dev.Wf.foldPair _ ?_ ?_; rotate_left; intro e x he)
    | split
    | simp only [Dev.wf_built]
    | with_reducible apply Dev.Built.other
    | with_reducible apply Dev.Wf.itePair
    | with_reducible (refine Dev.Wf.ofPair (by assumption) ?_)
    | with_reducible (refine Dev.Wf.ofPairSnd (by assumption) ?_)
    | with_reducible dsimp only)

theorem Dev.tapSelect_wf (d : Dev) (i : TapInstr) (h_d : d.Wf) :
    Dev.Wf (Dev.tapSelect d i) := by
  unfold Dev.tapSelect
  try dsimp only
  repeat' (first
    | with_reducible assumption
    | with_reducible apply Dev.Wf.ite
    | with_reducible (refine Dev.Wf.fold _ ?_ ?_; rotate_left; intro e x he)
    | with_reducible (refine Dev.Wf.foldPair _ ?_ ?_; rotate_left; intro e x he)
    | split
    | simp only [Dev.wf_built]
    | with_reducible apply Dev.Built.other
    | with_reducible apply Dev.Wf.itePair
    | with_reducible (refine Dev.Wf.ofPair (by assumption) ?_)
    | with_reducible (refine Dev.Wf.ofPairSnd (by assumption) ?_)
    | with_reducible dsimp only)

theorem Dev.idcode_wf (d : Dev) (h_d : d.Wf) :
    Dev.Wf (Dev.idcode d) := by
  unfold Dev.idcode
  try dsimp only
  repeat' (first
    | with_reducible assumption
    | with_reducible apply Dev.tapSelect_wf
    | with_reducible apply Dev.Wf.ite
    | with_reducible (refine Dev.Wf.fold _ ?_ ?_; rotate_left; intro e x he)
    | with_reducible (refine Dev.Wf.foldPair _ ?_ ?_; rotate_left; intro e x he)
    | split
    | simp only [Dev.wf_built]
    | with_reducible apply Dev.Built.other
    | with_reducible apply Dev.Wf.itePair
    | with_reducible (refine Dev.Wf.ofPair (by assumption) ?_)
    | with_reducible (refine Dev.Wf.ofPairSnd (by assumption) ?_)
    | with_reducible dsimp only)

theorem Dev.samplePreload_wf (d : Dev) (balls : List Bool) (load : List Bool) (h_d : d.Wf) :
    Dev.Wf (Dev.samplePreload d balls load) := by
  unfold Dev.samplePreload
  try dsimp only
  repeat' (first
    | with_reducible assumption
    | with_reducible apply Dev.Wf.ite
    | with_reducible (refine Dev.Wf.fold _ ?_ ?_; rotate_left; intro e x he)
    | with_reducible (refine Dev.Wf.foldPair _ ?_ ?_; rotate_left; intro e x he)
    | split
    | simp only [Dev.wf_built]
    | with_reducible apply Dev.Built.other
    | with_reducible apply Dev.Wf.itePair
    | with_reducible (refine Dev.Wf.ofPair (by assumption) ?_)
    | with_reducible (refine Dev.Wf.ofPairSnd (by assumption) ?_)
    | with_reducible dsimp only)

theorem Dev.extest_wf (d : Dev) (balls : List Bool) (load : List Bool) (h_d : d.Wf) :
    Dev.Wf (Dev.extest d balls load) := by
  unfold Dev.extest
  try dsimp only
  repeat' (first
    | with_reducible assumption
    | with_reducible apply Dev.Wf.ite
    | with_reducible (refine Dev.Wf.fold _ ?_ ?_; rotate_left; intro e x he)
    | with_reducible (refine Dev.Wf.foldPair _ ?_ ?_; rotate_left; intro e x he)
    | split
    | simp only [Dev.wf_built]
    | with_reducible apply Dev.Built.other
    | with_reducible apply Dev.Wf.itePair
    | with_reducible (refine Dev.Wf.ofPair (by assumption) ?_)
    | with_reducible (refine Dev.Wf.ofPairSnd (by assumption) ?_)
    | with_reducible dsimp only)

theorem Dev.debug_wf (d : Dev) (f : Sys2Proof.SpiFrame) (h_d : d.Wf) :
    Dev.Wf (Dev.debug d f) := by
  unfold Dev.debug
  try dsimp only
  repeat' (first
    | with_reducible assumption
    | with_reducible apply Dev.tapSelect_wf
    | with_reducible apply Dev.draw_wf
    | with_reducible apply Dev.dbgSettle_wf
    | with_reducible apply Dev.transfer_wf
    | with_reducible apply Dev.Wf.ite
    | with_reducible (refine Dev.Wf.fold _ ?_ ?_; rotate_left; intro e x he)
    | with_reducible (refine Dev.Wf.foldPair _ ?_ ?_; rotate_left; intro e x he)
    | split
    | simp only [Dev.wf_built]
    | with_reducible apply Dev.Built.other
    | with_reducible apply Dev.Wf.itePair
    | with_reducible (refine Dev.Wf.ofPair (by assumption) ?_)
    | with_reducible (refine Dev.Wf.ofPairSnd (by assumption) ?_)
    | with_reducible dsimp only)

theorem Dev.stallBack_wf (d : Dev) (m : Nat) (h_d : d.Wf) :
    Dev.Wf (Dev.stallBack d m) := by
  unfold Dev.stallBack
  try dsimp only
  repeat' (first
    | with_reducible assumption
    | with_reducible apply Dev.dbgSettle_wf
    | with_reducible apply Dev.hostSettle_wf
    | with_reducible apply Dev.burstGoOn_wf
    | with_reducible apply Dev.stallReturn_wf
    | with_reducible apply Dev.Wf.ite
    | with_reducible (refine Dev.Wf.fold _ ?_ ?_; rotate_left; intro e x he)
    | with_reducible (refine Dev.Wf.foldPair _ ?_ ?_; rotate_left; intro e x he)
    | split
    | simp only [Dev.wf_built]
    | with_reducible apply Dev.Built.other
    | with_reducible apply Dev.Wf.itePair
    | with_reducible (refine Dev.Wf.ofPair (by assumption) ?_)
    | with_reducible (refine Dev.Wf.ofPairSnd (by assumption) ?_)
    | with_reducible dsimp only)

theorem Dev.stallEnd_wf (d : Dev) (m : Nat) (h_d : d.Wf) :
    Dev.Wf (Dev.stallEnd d m) := by
  unfold Dev.stallEnd
  try dsimp only
  repeat' (first
    | with_reducible assumption
    | with_reducible apply Dev.dbgSettle_wf
    | with_reducible apply Dev.hostSettle_wf
    | with_reducible apply Dev.burstGoOn_wf
    | with_reducible apply Dev.stallTimeout_wf
    | with_reducible apply Dev.Wf.ite
    | with_reducible (refine Dev.Wf.fold _ ?_ ?_; rotate_left; intro e x he)
    | with_reducible (refine Dev.Wf.foldPair _ ?_ ?_; rotate_left; intro e x he)
    | split
    | simp only [Dev.wf_built]
    | with_reducible apply Dev.Built.other
    | with_reducible apply Dev.Wf.itePair
    | with_reducible (refine Dev.Wf.ofPair (by assumption) ?_)
    | with_reducible (refine Dev.Wf.ofPairSnd (by assumption) ?_)
    | with_reducible dsimp only)

theorem Dev.requestEnd_wf (d : Dev) (m : Nat) (addr : Nat) (isWrite : Bool) (h_d : d.Wf) :
    Dev.Wf (Dev.requestEnd d m addr isWrite) := by
  unfold Dev.requestEnd
  try dsimp only
  repeat' (first
    | with_reducible assumption
    | with_reducible apply Dev.dbgSettle_wf
    | with_reducible apply Dev.hostSettle_wf
    | with_reducible apply Dev.requestTimeout_wf
    | with_reducible apply Dev.Wf.ite
    | with_reducible (refine Dev.Wf.fold _ ?_ ?_; rotate_left; intro e x he)
    | with_reducible (refine Dev.Wf.foldPair _ ?_ ?_; rotate_left; intro e x he)
    | split
    | simp only [Dev.wf_built]
    | with_reducible apply Dev.Built.other
    | with_reducible apply Dev.Wf.itePair
    | with_reducible (refine Dev.Wf.ofPair (by assumption) ?_)
    | with_reducible (refine Dev.Wf.ofPairSnd (by assumption) ?_)
    | with_reducible dsimp only)

end Sys2Proof.Machine
end

