-- ==== Sys2Proof/Laws/WfLive.lean ====
section
/-! SUPPORT. The operations of Machine/Live.lean keep every table of the block canonical. -/

set_option linter.unusedTactic false
set_option linter.unreachableTactic false

namespace Sys2Proof.Machine

theorem Dev.live_wf (d : Dev) (f : Dev → Dev) (h_d : d.Wf) (h_f : ∀ e, e.Wf → (f e).Wf) : (Dev.live d f).Wf := by
  unfold Dev.live
  split
  · exact h_d
  · exact h_f _ h_d

theorem Dev.rxDone_wf (d : Dev) (l : Nat) (h_d : d.Wf) :
    Dev.Wf (Dev.rxDone d l) := by
  unfold Dev.rxDone
  try dsimp only
  repeat' (first
    | with_reducible assumption
    | with_reducible apply Dev.rxSettle_wf
    | with_reducible apply Dev.laneSettle_wf
    | with_reducible apply Dev.Wf.ite
    | with_reducible (refine Dev.Wf.fold _ ?_ ?_; rotate_left; intro e x he)
    | with_reducible (refine Dev.Wf.foldPair _ ?_ ?_; rotate_left; intro e x he)
    | split
    | simp only [Dev.wf_built]
    | with_reducible apply Dev.Built.other
    | with_reducible apply Dev.Wf.itePair
    | with_reducible (refine Dev.Wf.ofPair (by assumption) ?_)
    | with_reducible (refine Dev.Wf.ofPairSnd (by assumption) ?_)
    | with_reducible dsimp only)

theorem Dev.lineMark_wf (d : Dev) (t : Nat) (line : Nat) (h_d : d.Wf) :
    Dev.Wf (Dev.lineMark d t line) := by
  unfold Dev.lineMark
  try dsimp only
  repeat' (first
    | with_reducible assumption
    | with_reducible apply Dev.setTile_wf
    | with_reducible apply Dev.Wf.ite
    | with_reducible (refine Dev.Wf.fold _ ?_ ?_; rotate_left; intro e x he)
    | with_reducible (refine Dev.Wf.foldPair _ ?_ ?_; rotate_left; intro e x he)
    | split
    | simp only [Dev.wf_built]
    | with_reducible apply Dev.Built.other
    | with_reducible apply Dev.Wf.itePair
    | with_reducible (refine Dev.Wf.ofPair (by assumption) ?_)
    | with_reducible (refine Dev.Wf.ofPairSnd (by assumption) ?_)
    | with_reducible dsimp only)

end Sys2Proof.Machine
end

