-- ==== Sys2Proof/Laws/WfIdle.lean ====
section
/-! SUPPORT. The operations of Machine/Idle.lean keep every table of the block canonical. -/

set_option linter.unusedTactic false
set_option linter.unreachableTactic false

namespace Sys2Proof.Machine

theorem Dev.tick_wf (d : Dev) (h_d : d.Wf) :
    Dev.Wf (Dev.tick d) := by
  unfold Dev.tick
  try dsimp only
  repeat' (first
    | with_reducible assumption
    | with_reducible apply Dev.pmcAdd_wf
    | with_reducible apply Dev.Wf.ite
    | with_reducible (refine Dev.Wf.fold _ ?_ ?_; rotate_left; intro e x he)
    | with_reducible (refine Dev.Wf.foldPair _ ?_ ?_; rotate_left; intro e x he)
    | split
    | simp only [Dev.wf_built]
    | with_reducible apply Dev.Built.other
    | with_reducible apply Dev.Wf.itePair
    | with_reducible (refine Dev.Wf.ofPair (by assumption) ?_)
    | with_reducible (refine Dev.Wf.ofPairSnd (by assumption) ?_)
    | with_reducible dsimp only)

end Sys2Proof.Machine
end

