-- ==== Sys2Proof/WellFormed.lean ====
section
/-! DEFINITION. Which commands can come about at all: operands that the spec admits for their row. A command that fails a check names nothing
that the block has, or tells an event that its rule does not allow. -/

namespace Sys2Proof

/-- A transfer is a single access, or a burst of 2 to 16 beats at consecutive word addresses within 64 bytes (R352), in the matrix address
space (R351). -/
def burstOk (addr n : Nat) : Bool :=
  addr < 0x8000000 && 1 ≤ n && n ≤ 16 && (n == 1 || (addr % 4 == 0 && addr % 64 + 4 * n ≤ 64))

/-- A transfer of a master: a load-reserve or store-conditional is a single access of a core (R354). -/
def Xfer.wf (x : Xfer) (m : Master) : Bool :=
  burstOk x.addr x.beats.length &&
    (match x.kind with
     | .read => true
     | .write => true
     | .lr => m.val < 4 && x.beats.length == 1 && x.addr % 4 == 0
     | .sc => m.val < 4 && x.beats.length == 1 && x.addr % 4 == 0)

/-- A locked sequence addresses a word of the matrix address space (R354). -/
def AmoStep.wf : AmoStep → Bool
  | .whole addr _ _ _ => addr < 0x8000000 && addr % 4 == 0
  | .read addr _ _ _ => addr < 0x8000000 && addr % 4 == 0
  | .write => true

/-- A PCIe request: at most 256 bytes written or 4,096 read, within 4 KiB (R429); a read of BAR2 is aligned (R407). -/
def PciReq.wf : PciReq → Bool
  | .memory bar4 isWrite off bs _ =>
    off < (if bar4 then 2 ^ 25 else 2 ^ 26) && off % 4 == 0 && 1 ≤ bs.length && off % 4096 + 4 * bs.length ≤ 4096 &&
      (!isWrite || bs.length ≤ 64)
  | .userRead _ off wide => off < 4096 && off % (if wide then 8 else 4) == 0
  | .userWrite => true
  | .other => true

/-- A line as received has the parts of each of its data streams (R109). -/
def LineRx.wf (x : LineRx) : Bool :=
  1 ≤ x.eav.length && x.space.length == x.eav.length && x.sav.length == x.eav.length && x.active.length == x.eav.length &&
    x.next.length == x.eav.length

/-- A late item names an output tile (R201). -/
def LateItem.wf (x : LateItem) : Bool := x.tile < 1472

/-- A late sample names an output slot or a delay line (R214, R312). -/
def AudioLate.wf : AudioLate → Bool
  | .slot _ s => s < 53248
  | .both s => s < 53248
  | .parity _ s => s < 53248
  | .parityBoth s => s < 53248
  | .bad _ s => s < 53248
  | .badBoth s => s < 53248
  | .line i => i < 3584

/-- The samples of an embedded group are its four channels' (R163). -/
def AudioRx.wf : AudioRx → Bool
  | .data _ _ samples aux => samples.all (fun l => l.length == 4) && aux.all (fun l => l.length == 4)
  | .missing => true
  | .control _ _ => true
  | .absentField => true

/-- The operands of a command are those that its row admits. -/
def Instr.wf : Instr → Bool
  | .registerWrite _ p _ _ _ => p.exists
  | .expertKeyWrite _ p _ => p.exists
  | .expertTimeout p => p.exists
  | .softReset _ p _ => p.exists
  | .blockResetDone p => p.exists
  | .handshakeWatchdogExpiry stage =>
    (match stage with
     | .management _ _ addr => addr < 0x8000000
     | .wall _ => true
     | .ingress => true
     | .egress => true
     | .lineEngine _ => true)
  | .trsReceived _ _ _ _ trs _ _ => 40 ≤ trs.length
  | .lineReceived _ line items => line.wf && items.all (fun x => x.wf)
  | .madiSubframe _ _ _ _ valid _ _ => valid.length == 8
  | .asiSyncByte _ found _ packet => !found || packet.length == 188 || packet.length == 204
  | .tileLineStart _ line _ => 1 ≤ line
  | .audioPacketReceived _ _ _ _ x => x.wf
  | .courseReadPoint _ line items => 1 ≤ line && items.all (fun x => x.wf)
  | .houseSamplePeriod lates => lates.all (fun x => x.wf)
  | .refMeasurement freqs _ _ => freqs.length == 8
  | .rejoinBistDone _ _ tiles ancs slots =>
    tiles.all (fun x => x < 1472) && ancs.all (fun x => x < 2944) && slots.all (fun x => x < 53248)
  | .matrixTransfer m x => x.wf m
  | .lockedSequence _ x => x.wf
  | .matrixRequestTimeout _ addr _ => addr < 0x8000000
  | .masterReset m x n =>
    (match x with
     | none => n == 0
     | some y => y.wf m && n < y.beats.length)
  | .queuePacketWrite _ words bytes => 1 ≤ words.length && 4 * (words.length - 1) < bytes && bytes ≤ 4 * words.length
  | .pcieRequest r => r.wf
  | .bar2Read _ off wide => off < 4096 && off % (if wide then 8 else 4) == 0
  | .flashCmdDone data _ => data.length ≤ 256
  | .pcieLinkUp speed width => 1 ≤ speed.val && (width.val == 1 || width.val == 2 || width.val == 4)
  | .pinReset .. => true
  | .powerOnReset .. => true
  | .xoCheckDone .. => true
  | .resetSequenceEnd .. => true
  | .gpioWrite .. => true
  | .marginWindowEnd .. => true
  | .minClr .. => true
  | .wdogClr .. => true
  | .xoTimeLoRead .. => true
  | .txcfgWrite .. => true
  | .synthesiserLock .. => true
  | .rxcfgWrite .. => true
  | .laneEnableWrite .. => true
  | .losSet .. => true
  | .losClear .. => true
  | .lolSet .. => true
  | .cdrLock .. => true
  | .cdrRestart .. => true
  | .autoCandidateTimeout .. => true
  | .testctlInject .. => true
  | .testctlCntClr .. => true
  | .testCheckerLockChange .. => true
  | .candidateExpiry .. => true
  | .verifyEavMissing .. => true
  | .expectedTrsMissing .. => true
  | .frameComplete .. => true
  | .edhFieldCheck _ present ap ff => !present || (ap.length == 3 && ff.length == 3)
  | .pidPacketReceived _ _ line words => 1 ≤ line && 1 ≤ words.length
  | .frmctlCntClr .. => true
  | .madiSyncSymbol .. => true
  | .madiSyncTimeout .. => true
  | .asiCharacter .. => true
  | .tlBlockReceived .. => true
  | .tlRowOverhead .. => true
  | .tlBipReceived .. => true
  | .tlSrqReceived .. => true
  | .tlRdiReiReceived .. => true
  | .tlTraceReceived .. => true
  | .ccSegmentReceived .. => true
  | .ccPacketTransmit .. => true
  | .jcwReceived .. => true
  | .headerBrickReceived .. => true
  | .txslotWrite .. => true
  | .tlFrameTransmit .. => true
  | .ohctlCntClr .. => true
  | .tllFrmctlCntClr .. => true
  | .alignDriftWindow .. => true
  | .aligncfgWrite .. => true
  | .crsctlCntClr .. => true
  | .followRouteSwitch .. => true
  | .ancPacketParsed .. => true
  | .ancctlCntClr .. => true
  | .ancContextWrite .. => true
  | .tileContextWrite .. => true
  | .tileGroupWrite .. => true
  | .arm .. => true
  | .disarm .. => true
  | .frameTriggerFire .. => true
  | .gpiFilteredEdge .. => true
  | .fabGpiWrite .. => true
  | .contextCommit .. => true
  | .holdExpiry .. => true
  | .fabGenWrite .. => true
  | .fabCntClr .. => true
  | .audioContextWrite .. => true
  | .audioContextCommit .. => true
  | .rampEnd .. => true
  | .afabDepthWrite .. => true
  | .afabEnableWrite .. => true
  | .meterWindowEnd .. => true
  | .afabCntClr .. => true
  | .pmSecondEnd .. => true
  | .pmSecWrite .. => true
  | .pmClr .. => true
  | .protCntClr .. => true
  | .lofTimer .. => true
  | .pgCfgWrite .. => true
  | .clear .. => true
  | .lockout .. => true
  | .forced .. => true
  | .manualW .. => true
  | .manualP .. => true
  | .protHoldoffExpiry .. => true
  | .protWtrExpiry .. => true
  | .refSignalAbsent .. => true
  | .refSignalPresent .. => true
  | .refinEnableWrite .. => true
  | .refinCfgWrite .. => true
  | .refinCntClr .. => true
  | .todMessage .. => true
  | .todTimeout .. => true
  | .selCfgWrite .. => true
  | .prioWrite .. => true
  | .refWtrExpiry .. => true
  | .transitionPhaseCapture .. => true
  | .transitionLoopClose .. => true
  | .transitionDone .. => true
  | .calCapture .. => true
  | .histClr .. => true
  | .xoCalWrite .. => true
  | .tmuLoRead .. => true
  | .phaseStep .. => true
  | .stepDone .. => true
  | .tdomFmtWrite .. => true
  | .tdomEnableWrite .. => true
  | .tdomOffsetWrite .. => true
  | .tdomSwlineWrite .. => true
  | .jump .. => true
  | .slew .. => true
  | .cancel .. => true
  | .realignJumpExecute .. => true
  | .realignSlewDone .. => true
  | .fcntClr .. => true
  | .domainFrameStart .. => true
  | .clkCfgWrite .. => true
  | .audRealign .. => true
  | .audDone .. => true
  | .memcEnableWrite .. => true
  | .memcTrainDone .. => true
  | .memcRetrain .. => true
  | .chCfgWrite .. => true
  | .fsFrameWritten .. => true
  | .freeze .. => true
  | .unfreeze .. => true
  | .play .. => true
  | .stop .. => true
  | .playAt .. => true
  | .captureStart .. => true
  | .captureStop .. => true
  | .dlCfgWrite .. => true
  | .apertureBaseWrite .. => true
  | .fstCntClr .. => true
  | .giveUp .. => true
  | .wallEnableWrite .. => true
  | .wallSelfDiagFailure .. => true
  | .crossCompareMismatch .. => true
  | .selftestDone .. => true
  | .gateSafeState .. => true
  | .wallReset .. => true
  | .rejoin .. => true
  | .rejoinCopyDone .. => true
  | .rejoinCopyTimeout .. => true
  | .rejoinShadowDone .. => true
  | .swapArm .. => true
  | .swapCancel .. => true
  | .swapExecute .. => true
  | .claimConfigWrite .. => true
  | .wallCntClr .. => true
  | .cgateCntClr .. => true
  | .lengStart .. => true
  | .lengStop .. => true
  | .lengEnableWrite .. => true
  | .lengCntClr .. => true
  | .lengIstoreWrite .. => true
  | .lengRecordArrival .. => true
  | .lengEvent .. => true
  | .dbInRing .. => true
  | .dbgStep .. => true
  | .nop .. => true
  | .add .. => true
  | .sub .. => true
  | .and .. => true
  | .or .. => true
  | .xor .. => true
  | .shl .. => true
  | .shr .. => true
  | .addi .. => true
  | .andi .. => true
  | .ori .. => true
  | .shli .. => true
  | .shri .. => true
  | .lui .. => true
  | .ext .. => true
  | .ins .. => true
  | .ld .. => true
  | .st .. => true
  | .beq .. => true
  | .bne .. => true
  | .blt .. => true
  | .bge .. => true
  | .j .. => true
  | .call .. => true
  | .ret .. => true
  | .wait .. => true
  | .ldh .. => true
  | .getu .. => true
  | .newp .. => true
  | .putu .. => true
  | .endp .. => true
  | .drop .. => true
  | .fwd .. => true
  | .pushq .. => true
  | .par .. => true
  | .crc .. => true
  | .cinc .. => true
  | .crd .. => true
  | .dbell .. => true
  | .time .. => true
  | .halt .. => true
  | .illegalInstruction .. => true
  | .lockBreak .. => true
  | .parkReturn .. => true
  | .sliceWrite .. => true
  | .mtxPermWrite .. => true
  | .mtxCntClr .. => true
  | .sramcCntClr .. => true
  | .wrDataWrite .. => true
  | .wrEnd .. => true
  | .wrSelWrite .. => true
  | .rdLoRead .. => true
  | .queueStallReturn .. => true
  | .queueStallTimeout .. => true
  | .dropRest .. => true
  | .mark .. => true
  | .unmark .. => true
  | .rewind .. => true
  | .qCfgWrite .. => true
  | .parInj .. => true
  | .qmgCntClr .. => true
  | .dmaPacketToRing .. => true
  | .dmaEntryToQueue .. => true
  | .dmaPointerWrite .. => true
  | .interruptCommit .. => true
  | .interruptDeliveryDone .. => true
  | .claim .. => true
  | .claimAll .. => true
  | .complete .. => true
  | .swiWrite .. => true
  | .intcEnWrite .. => true
  | .srcCfgWrite .. => true
  | .intcCfgWrite .. => true
  | .watchWrite .. => true
  | .pmcCfgWrite .. => true
  | .pmcCfgClr .. => true
  | .clrAll .. => true
  | .freezeWrite .. => true
  | .cntLoRead .. => true
  | .bwWindowEnd .. => true
  | .bwWinWrite .. => true
  | .bwSnapLoRead .. => true
  | .mgmtReset .. => true
  | .dataReset .. => true
  | .timingReset .. => true
  | .full .. => true
  | .resetComplete .. => true
  | .coreRunWrite .. => true
  | .coreReset .. => true
  | .coreSleep .. => true
  | .standby .. => true
  | .dormant .. => true
  | .active .. => true
  | .stateDone .. => true
  | .dormantWake .. => true
  | .railWarningEnter .. => true
  | .railWarningLeave .. => true
  | .railResetLevel .. => true
  | .deferEnd .. => true
  | .tempReading .. => true
  | .thermalShutdown .. => true
  | .wakeTimerWrite .. => true
  | .wakeTimerExpiry .. => true
  | .logCtlClr .. => true
  | .pcieLinkReset .. => true
  | .msixSend .. => true
  | .spiFrame .. => true
  | .spiAbort .. => true
  | .bootStart .. => true
  | .sfdpDiscoveryDone .. => true
  | .imageCheckDone .. => true
  | .loadImg .. => true
  | .done .. => true
  | .flashCmdWrite .. => true
  | .jtagTrst .. => true
  | .idcode .. => true
  | .samplePreload .. => true
  | .extest .. => true
  | .clamp .. => true
  | .highz .. => true
  | .bypass .. => true
  | .debug .. => true
  | .resetNRise .. => true
  | .pciePerstRise .. => true
  | .referenceEvent .. => true
  | .levelCounterWrap .. => true

end Sys2Proof
end

