-- ==== Sys2Proof/Tests/Slice0.lean ====
section
/-! SUPPORT. The model's own tests: ill-formed commands that the check refuses, the spec's examples, and for every statement with hypotheses a state and operands
that meet them. Expected values are the spec's. -/

-- One theorem after another: every kernel evaluation waits for the declarations before it.
set_option Elab.async false

namespace Sys2Proof.Tests

open Sys2Proof Sys2Proof.Machine

/-! ### Ill-formed commands -/

theorem test_wf_page : Instr.wf (.registerWrite 0 (.lane 144) 8 15 0) = false ∧ Instr.wf (.registerWrite 0 (.lane 143) 8 15 0) = true := by decide
theorem test_wf_expert_page : Instr.wf (.expertKeyWrite 0 (.tdom 16) 0) = false := by decide
theorem test_wf_timeout_page : Instr.wf (.expertTimeout (.refin 8)) = false := by decide
theorem test_wf_soft_page : Instr.wf (.softReset 0 (.wall 2) 0) = false := by decide
theorem test_wf_done_page : Instr.wf (.blockResetDone (.memc 2)) = false := by decide
theorem test_wf_watchdog : Instr.wf (.handshakeWatchdogExpiry (.management 0 true 0x8000000)) = false := by decide
theorem test_wf_trs : Instr.wf (.trsReceived 0 0 0 [] [true, true] 0 false) = false := by decide
theorem test_wf_edh : Instr.wf (.edhFieldCheck 0 true [0x200] []) = false := by decide
theorem test_wf_line : Instr.wf (.lineReceived 0 ⟨[[0x3FF], [0]], [], [], [], []⟩ []) = false := by decide
theorem test_wf_madi : Instr.wf (.madiSubframe 0 true true 0 [true] 0 0) = false := by decide
theorem test_wf_asi : Instr.wf (.asiSyncByte 0 true 188 [0x47]) = false := by decide
theorem test_wf_tile_line : Instr.wf (.tileLineStart 0 0 0) = false := by decide
theorem test_wf_audio : Instr.wf (.audioPacketReceived 0 0 0 0 (.data true true [[1, 2, 3]] [])) = false := by decide
theorem test_wf_course : Instr.wf (.courseReadPoint 0 1 [⟨.voided, 1472, 0⟩]) = false := by decide
theorem test_wf_period : Instr.wf (.houseSamplePeriod [.line 3584]) = false := by decide
theorem test_wf_measure : Instr.wf (.refMeasurement [none] 0 0) = false := by decide
theorem test_wf_bist : Instr.wf (.rejoinBistDone 0 true [1472] [] []) = false := by decide
theorem test_wf_burst : Instr.wf (.matrixTransfer 0 ⟨.read, 0x100003C, [{}, {}], {}⟩) = false := by decide
theorem test_wf_lr : Instr.wf (.matrixTransfer 4 ⟨.lr, 0x1000000, [{}], {}⟩) = false := by decide
theorem test_wf_amo : Instr.wf (.lockedSequence 0 (.read 0x1000002 .add 1 .none)) = false := by decide
theorem test_wf_request : Instr.wf (.matrixRequestTimeout 0 0x8000000 true) = false := by decide
theorem test_wf_master_reset : Instr.wf (.masterReset 0 (some ⟨.read, 0x1000000, [{}], {}⟩) 1) = false := by decide
theorem test_wf_queue_packet : Instr.wf (.queuePacketWrite 0 [1] 5) = false := by decide
theorem test_wf_pcie : Instr.wf (.pcieRequest (.memory false true 2 [{}] {})) = false := by decide
theorem test_wf_bar2 : Instr.wf (.bar2Read 0 4 true) = false := by decide
theorem test_wf_flash : Instr.wf (.flashCmdDone (List.replicate 257 0) []) = false := by decide +kernel
theorem test_wf_link : Instr.wf (.pcieLinkUp 1 3) = false := by decide

/-! ### Worked values of the spec -/

/-- R96: the XYZ words of EAV and SAV in active picture and in vertical blanking. -/
theorem test_xyz : xyzWord false false true = 0x274 ∧ xyzWord false false false = 0x200 ∧ xyzWord false true true = 0x2D8 ∧
    xyzWord false true false = 0x2AC ∧ xyzWord true false true = 0x368 := by decide

/-! ### Helpers -/

/-- The block after a command. -/
def after (c : Instr) (d : Dev) : Dev :=
  match exec c ⟨d, []⟩ with
  | .next t => t.dev
  | .fault _ => d
  | .refused _ => d

/-- A block whose line engine 0 runs at program counter 0, with an instruction there. -/
def engine (w : Word) (g : Map Word) : Dev :=
  { istore := [(0, w)], lengs := [(0, { g := g })], regs := (({} : Dev).wr (.leng 0) .LENG_STAT_STATE 1).regs }

/-- A block whose boot has ended. -/
def booted : Dev := { regs := [(regKey .boot 0 0x020, 4)] }

/-- A single read. -/
def rd1 (m : Master) (a : Nat) : Instr := .matrixTransfer m ⟨.read, a, [{}], {}⟩

/-- A single write of a whole word. -/
def wr1 (m : Master) (a : Nat) (v : Word) : Instr := .matrixTransfer m ⟨.write, a, [⟨15, v⟩], {}⟩

/-! ### The spec's values and examples -/

/-- DEV.ID reads 0x4C14_7200. -/
theorem test_dev_id : (after (rd1 0 0x20) {}).respOf 0 = ⟨.okay, [0x4C147200]⟩ := by decide +kernel

/-- R447: DEV's PAGE_VER reads 0x0100. -/
theorem test_page_ver : (after (rd1 0 0x04) {}).respOf 0 = ⟨.okay, [0x00000100]⟩ := by decide +kernel

/-- R22's example: 0x5A01 opens the expert half of an enabled page, and PAGE_STAT then reads ENABLED and EXPERT_OPEN. -/
theorem test_expert_open : (after (rd1 0 0x10000C) (after (.expertKeyWrite 4 (.lane 0) 0x5A01) booted)).respOf 0 = ⟨.okay, [0x00000009]⟩ := by decide +kernel

/-- R22's example: with the half closed a core's XRW write is rejected with CODE 3 and its master number. -/
theorem test_expert_closed :
    let d := after (.registerWrite 2 (.lane 0) 0x103 15 0x1) (after (.expertKeyWrite 4 (.lane 0) 1) (after (.expertKeyWrite 4 (.lane 0) 0x5A01) booted))
    d.rd (.lane 0) .PAGE_ERRCODE_CODE = 3 ∧ d.rd (.lane 0) .PAGE_ERRADDR_MASTER = 2 ∧ (d.reg (regKey (.lane 0) 0 0x010)).getLsbD 0 = true := by decide +kernel

/-- R13: an offset with no register reads 0. -/
theorem test_no_register : (after (rd1 0 0x0FC) {}).respOf 0 = ⟨.okay, [0]⟩ := by decide +kernel

/-- R358: an address of no target answers DECERR, a read with 0. -/
theorem test_decerr : (after (rd1 3 0x0600000) {}).respOf 3 = ⟨.decerr, [0]⟩ := by decide +kernel

/-- R70: XO_TIME wraps after 2^48 ticks. -/
theorem test_xo_wraps : ({ xo := BitVec.allOnes 48 : Dev }).tick.xo = 0 := by decide +kernel

/-- R54: GPIO_IN shows the driven bits. -/
theorem test_gpio : (after (rd1 0 0x38) (after (.gpioWrite 0 false 0xA5) (after (.gpioWrite 0 true 0x0F) {}))).respOf 0 = ⟨.okay, [0x5]⟩ := by decide +kernel

/-- R366: a write of two bytes of an SRAM word keeps the others. -/
theorem test_sram_bytes :
    (after (.matrixTransfer 0 ⟨.write, 0x1000000, [⟨0b0011, 0xAABBCCDD⟩], {}⟩) (after (wr1 0 0x1000000 0x11223344) {})).sramGet 0 = 0x1122CCDD := by decide +kernel

/-- R354: an AMO answers the word read and writes the sum. -/
theorem test_amo :
    let d := after (.lockedSequence 1 (.whole 0x1000010 .add 5 .none)) (after (wr1 0 0x1000010 7) {})
    d.respOf 1 = ⟨.okay, [7]⟩ ∧ d.sramGet 4 = 12 := by decide +kernel

/-- R354: a write from another master ends a reservation. -/
theorem test_sc_fails :
    (after (.matrixTransfer 0 ⟨.sc, 0x1000000, [⟨15, 9⟩], {}⟩) (after (wr1 4 0x1000000 1)
      (after (.matrixTransfer 0 ⟨.lr, 0x1000000, [{}], {}⟩) booted))).respOf 0 = ⟨.okay, [1]⟩ := by decide +kernel

/-- Table 15.4: ADD d = 1, a = 2, b = 3, its word written out field by field: opcode 1 in [31:26], d in [25:22], a in [21:18], b in [17:14]. -/
theorem test_engine_add :
    (after (.add 0) (engine (0b000001#6 ++ (1 : BitVec 4) ++ (2 : BitVec 4) ++ (3 : BitVec 4) ++ (0 : BitVec 14)) [(2, 0xFFFFFFFF), (3, 2)])).greg 0 1 = 1 := by
  decide +kernel

/-- R333: a write to g0 is discarded, and the program counter goes on. -/
theorem test_engine_g0 :
    let d := after (.addi 0) (engine (0b001000#6 ++ (0 : BitVec 4) ++ (0 : BitVec 4) ++ (0 : BitVec 4) ++ (5 : BitVec 14)) [])
    d.greg 0 0 = 0 ∧ d.lpc 0 = 1 := by decide +kernel

/-- The immediate of ADDI is signed. -/
theorem test_engine_addi :
    (after (.addi 0) (engine (0b001000#6 ++ (1 : BitVec 4) ++ (0 : BitVec 4) ++ (0x3FFF#18)) [])).greg 0 1 = 0xFFFFFFFF := by decide +kernel

/-- R334: data address 2,047 is the last word; the next halts the engine with code 4. -/
theorem test_engine_store_edge :
    (after (.st 0) (engine (0b010001#6 ++ (0 : BitVec 4) ++ (1 : BitVec 4) ++ (2 : BitVec 4) ++ (0 : BitVec 14)) [(1, 2047), (2, 9)])).lengState 0 = 1 ∧
      (after (.st 0) (engine (0b010001#6 ++ (0 : BitVec 4) ++ (1 : BitVec 4) ++ (2 : BitVec 4) ++ (0 : BitVec 14)) [(1, 2048), (2, 9)])).lengState 0 = 3 := by
  decide +kernel

/-- R318: Wall A gives up, and the gates accept Wall B. -/
theorem test_wall_gives_up : (({} : Dev).giveUp 0 1).gateWall = some 1 := by decide +kernel

/-- R391: a claim of a slot with two events leaves one, and its word says so. -/
theorem test_claim :
    let d := after (.claim 0 false) ((({} : Dev).setSlotOf 0 0 6).setSrc 5 { count := 2, committed := some 0 })
    d.respOf 0 = ⟨.okay, [0x80010005]⟩ ∧ (d.src 5).insvc = some 0 := by decide +kernel

/-- R402: a clear of a counter. -/
theorem test_counter_clear : (after (.pmcCfgClr 0 3 0) (({} : Dev).setPmcCount 3 77)).pmcCount 3 = 0 := by decide +kernel

/-- R70: with no command waiting, a step from reset is one XO tick. -/
theorem test_idle_reset : step State.reset = .next ⟨{ xo := 1 }, []⟩ := rfl

/-! ### Witnesses of the statements' hypotheses: a term that a statement names by `let` needs none -/

/-- A block held in a PIN reset. -/
def held : Dev := { pwr := { run := .pin } }
/-- A block whose DEV page is locked. -/
def locked : Dev := ({} : Dev).wr .dev .PAGE_CTRL_LOCK 1
/-- A block whose DEV page is in a BLOCK reset. -/
def busy : Dev := ({} : Dev).wrOn .dev .PAGE_STAT_RESET_BUSY true
/-- A block whose loader is in DISCOVER. -/
def loading : Dev := { regs := Map.insert (regKey .boot 0 0x020) 1 [] }
/-- A block with a packet of two words in queue 0. -/
def packet : Dev := { queues := [(0, { pkts := [⟨[(7, false), (8, false)], 4⟩] })] }
/-- A block at the last word of that packet. -/
def packetEnd : Dev := { queues := [(0, { pkts := [⟨[(7, false), (8, false)], 4⟩], rdw := 1 })] }
/-- A block with a READY memory behind the aperture. -/
def ready : Dev := ({} : Dev).wr (.memc 0) .MEMC_STAT_STATE 2
/-- A block with a deliverable source for core 0. -/
def deliverableDev : Dev :=
  { regs := Map.insert (regKey .boot 0 0x020) 4 ((((({} : Dev).wr .intc .INTC_CFG_MODE 1).wrB .intc 3 (Fld.nth .INTC_EN_EN 0) 0x20).wr .pwr .PWR_CORE_CTL_RUN 1).regs)
    intc := { srcs := [(5, { count := 1 })] } }

theorem test_witness_PageWritesInOrder :
    ({} : Dev).stopped = false ∧ ({} : Dev).hostBarred 0 (Page.dev.base + 4 * 13) = false ∧ ({} : Dev).permits 0 6 true = true := by decide +kernel

theorem test_witness_XoTimeCounts :
    ({ xo := BitVec.allOnes 48 : Dev }).stopped = false ∧ ({} : Dev).permits 0 6 false = true ∧ ({} : Dev).lockedOut 0 6 = false ∧ ({} : Dev).stallOf 0 = none ∧
      (engine 0x9C400000 []).stopped = false ∧ (engine 0x9C400000 []).meets 0 0x27 = true ∧ iZ ((engine 0x9C400000 []).fetch 0) = 0 ∧
      iD ((engine 0x9C400000 []).fetch 0) ≠ 0 := by decide +kernel

theorem test_witness_IdleStepIsOneTick : held.stopped = true ∧ ({} : Dev).stopped = false ∧ ({} : Dev).levelsOn = [] := by decide +kernel

theorem test_witness_StepKeepsInvariant : State.reset.Inv ∧ step State.reset = .next ⟨{ xo := 1 }, []⟩ :=
  ⟨by constructor <;> rfl, test_idle_reset⟩

theorem test_witness_StoppedBlockActsOnNothing : held.stopped = true ∧ whenStopped (.parkReturn 0) = false := by decide +kernel

theorem test_witness_RejectedWriteIsRecorded :
    ({} : Dev).stopped = false ∧ ({} : Dev).hostBarred 0 (Page.dev.base + 4 * 0x80) = false ∧ ({} : Dev).permits 0 6 true = true ∧
      ({} : Dev).rejects 0 .dev (4 * 0x80) 15 5 = some .rsvd ∧ ((({} : Dev).evtBit .dev 0).reg (regKey .dev 0 0x010)).getLsbD 0 = true ∧
      (({} : Dev).evtBit .dev 0).rejects 0 .dev (4 * 0x80) 7 5 = some .rsvd := by decide +kernel

theorem test_witness_RejectionOrder :
    ({} : Dev).rejects 0 .dev 0x200 15 5 = some .rsvd ∧ Rej.rsvd ∈ ({} : Dev).pageRej 0 .dev 0x200 15 0 5 ∧ (7 : BitVec 4) ≠ 15 := by decide +kernel

theorem test_witness_LockForbidsWrites :
    locked.stopped = false ∧ locked.on .dev .PAGE_CTRL_LOCK = true ∧ locked.hostBarred 0 (Page.dev.base + 4 * 8) = false ∧ locked.permits 0 6 true = true ∧
      Page.dev ≠ .mtx := by decide +kernel

theorem test_witness_NoRegisterThere :
    ({} : Dev).stopped = false ∧ Page.exists .dev = true ∧ regAt .dev (4 * 0x3FF) = none ∧ ({} : Dev).permits 0 6 false = true ∧ ({} : Dev).lockedOut 0 6 = false ∧
      ({} : Dev).stallOf 0 = none ∧ ({} : Dev).hostBarred 0 (Page.dev.base + 4 * 0x3FF) = false ∧ ({} : Dev).permits 0 6 true = true := by decide +kernel

theorem test_witness_ExpertHalfAndBlockReset :
    (({} : Dev).admits 0 .dev 0x008 0x5A01 = true ∧ Fld.PAGE_CTRL_SOFT_RESET.get 0x5A01 = 0) ∧
      (({} : Dev).stopped = false ∧ ({} : Dev).hostBarred 0 (Page.dev.base + 8) = false ∧ ({} : Dev).permits 0 6 true = true ∧
        (({} : Dev).rejects 0 .dev 0x008 15 0).isSome = true) ∧
      ({} : Dev).admits 0 .dev 0x008 (1 ||| 2) = true ∧ busy.on .dev .PAGE_STAT_RESET_BUSY = true ∧
      (busy.wr .dev .PAGE_CTRL_LOCK 1).on .dev .PAGE_STAT_RESET_BUSY = true ∧ (busy.wr .dev .PAGE_CTRL_LOCK 1).on .dev .PAGE_CTRL_LOCK = true := by decide +kernel

theorem test_witness_AcceptedWriteSetsFields :
    (∃ r, regAt .dev 0x008 = some r ∧ r.fields.any (fun f => f.acc == .rw) = true ∧ r.fields.any (fun f => f.acc == .wc) = true) ∧
      (∃ r, regAt .dev 0x018 = some r ∧ r.fields.any (fun f => f.acc == .ro) = true) ∧
      (∃ r, regAt .dev 0x010 = some r ∧ r.fields.any (fun f => f.acc == .w1c) = true) ∧
      (∃ r, regAt (.lane 0) 0x404 = some r ∧ r.fields.any (fun f => f.acc == .xrw) = true) :=
  ⟨⟨_, rfl, by decide +kernel⟩, ⟨_, rfl, by decide +kernel⟩, ⟨_, rfl, by decide +kernel⟩, ⟨_, rfl, by decide +kernel⟩⟩

theorem test_witness_TransferWithoutPermission :
    let d := ({} : Dev).wr .mtx (Fld.nth .MTX_PERM_READ 3) 0
    d.stopped = false ∧ targetAt (0x1000000 / 4 * 4) ≠ 9 ∧ d.permits 3 (targetAt (0x1000000 / 4 * 4)) false = false := by decide +kernel

theorem test_witness_DefaultTargetAnswersDecerr :
    ({} : Dev).stopped = false ∧ targetAt (0x0600000 / 4 * 4) = 9 ∧ targetAt (0x7FFFFFF / 4 * 4) = 7 ∧ targetAt (0x440000 / 4 * 4) = 9 ∧
      ({} : Dev).hostBarred 0 (0x0600000 / 4 * 4) = false ∧ ((({} : Dev).evtBit .mtx 8).reg (regKey .mtx 0 0x010)).getLsbD 8 = true := by decide +kernel

theorem test_witness_LoaderBarsHostWrites :
    loading.stopped = false ∧ loading.rd .boot .BOOT_STAT_STATE = 1 ∧ ¬(0x3000 ≤ 0x2FFC / 4 * 4 ∧ 0x2FFC / 4 * 4 < 0x5000) := by decide +kernel

theorem test_witness_CounterReadLatches :
    let d := ({} : Dev).setPmcCount 63 (2 ^ 48 - 1)
    d.stopped = false ∧ d.permits 0 6 false = true ∧ d.pmcCount 63 < 2 ^ 48 := by decide +kernel

theorem test_witness_SramWordIsWritten :
    ({} : Dev).stopped = false ∧ targetAt (0x15FFFFF / 4 * 4) < 5 ∧ ({} : Dev).hostBarred 0 (0x15FFFFF / 4 * 4) = false ∧
      ({} : Dev).permits 0 (targetAt (0x15FFFFF / 4 * 4)) true = true ∧ ({} : Dev).lockedOut 0 (targetAt (0x15FFFFF / 4 * 4)) = false ∧
      (1 : BitVec 4) ≠ 0 ∧ Map.get (fun _ => 0) ({} : Dev).mtx.reserve 0 ≠ 0x15FFFFC + 1 := by decide +kernel

theorem test_witness_StoreConditionalNeedsReservation :
    let d : Dev := { mtx := { reserve := [(0, 0x1000001)] } }
    d.stopped = false ∧ targetAt (0x1000000 / 4 * 4) < 5 ∧ d.permits 0 (targetAt (0x1000000 / 4 * 4)) true = true ∧
      d.lockedOut 0 (targetAt (0x1000000 / 4 * 4)) = false ∧ Map.get (fun _ => 0) d.mtx.reserve 0 = 0x1000000 / 4 * 4 + 1 ∧
      Map.get (fun _ => 0) ({} : Dev).mtx.reserve 0 ≠ 0x1000000 / 4 * 4 + 1 := by decide +kernel

theorem test_witness_ApertureWritesItsBytes :
    ready.stopped = false ∧ targetAt (0x3FFFFFF / 4 * 4) = 5 ∧ ready.hostBarred 0 (0x3FFFFFF / 4 * 4) = false ∧ ready.permits 0 5 true = true ∧
      ready.lockedOut 0 5 = false ∧ ready.memcReady (ready.rd .fst .FST_APERTURE_BASE_MEMC) = true := by decide +kernel

theorem test_witness_ContextWriteReachesBothWalls :
    ({} : Dev).ctxAdmits 0 (32 * 1471) 0x80000005 = true ∧ ({} : Dev).lockedOut 0 8 = false := by decide +kernel

theorem test_witness_GatesAcceptTheHigherClaim :
    let e := ({} : Dev).wallsSettle
    e.wallEff 1 < e.wallEff 0 ∧ (({} : Dev).giveUp 0 1).wallsSettle.wallEff 0 < (({} : Dev).giveUp 0 1).wallsSettle.wallEff 1 ∧
      ((({} : Dev).giveUp 0 1).giveUp 1 1).wallsSettle.wallEff 0 = 0 ∧ ((({} : Dev).giveUp 0 1).giveUp 1 1).wallsSettle.wallEff 1 = 0 ∧
      (({} : Dev).wr (.wall 0) .WALL_CLAIM_CONFIG 8).wallsSettle.wallEff 0 = 8 ∧ (({} : Dev).wr (.wall 0) .WALL_CLAIM_CONFIG 8).wallsSettle.wallEff 1 = 8 := by
  decide +kernel

theorem test_witness_SlotTakesHighestPriority :
    ({} : Dev).Wf ∧ (({} : Dev).stopped = false ∧ ({} : Dev).slotOf 0 0 = none ∧ ({} : Dev).deliverable 0 0 = []) ∧
      deliverableDev.stopped = false ∧ deliverableDev.slotOf 0 0 = none ∧ deliverableDev.deliverable 0 0 ≠ [] :=
  ⟨by constructor <;> rfl, by decide +kernel, by decide +kernel, by decide +kernel, by decide +kernel⟩

theorem test_witness_ClaimTakesTheSlot :
    let d := (({} : Dev).setSlotOf 0 0 6).setSrc 5 { count := 2, committed := some 0 }
    d.stopped = false ∧ d.permits 0 6 false = true ∧ d.slotOf 0 0 = some 5 ∧ ({} : Dev).slotOf 0 0 = none ∧
      (after (.claim 0 false) d).intcLost = false ∧ ((after (.claim 0 false) d).src 5).count < 255 := by decide +kernel

theorem test_witness_FreezeStopsCounters : (({} : Dev).wr .pmc .PMC_CTL_FREEZE 1).on .pmc .PMC_CTL_FREEZE = true := by decide +kernel

theorem test_witness_GpioShowsWhatItDrives : ({} : Dev).admits 0 .dev 0x034 0xA5A5 = true := by decide +kernel

theorem test_witness_EngineArithmeticFrame : (engine 0x0448C000 []).meets 0 0x01 = true ∧ (engine 0 []).meets 0 0x00 = true := by decide +kernel

theorem test_witness_EngineStoreFrame :
    (engine 0x44004005 []).meets 0 0x11 = true ∧ ((engine 0x44004005 []).billed 0 0x11).dataAddr 0 ((engine 0x44004005 []).fetch 0) ≤ 2047 := by decide +kernel

theorem test_witness_QueueReadFrame :
    (packet.stopped = false ∧ packet.permits 0 6 false = true ∧
        packet.readPoint (packet.rdB .qmg 0 .QMG_RD_SEL_QUEUE) = some (⟨[(7, false), (8, false)], 4⟩, (7, false)) ∧ (packet.queue 0).rdw + 1 < 2) ∧
      packetEnd.readPoint (packetEnd.rdB .qmg 0 .QMG_RD_SEL_QUEUE) = some (⟨[(7, false), (8, false)], 4⟩, (8, false)) ∧ (packetEnd.queue 0).rdw + 1 = 2 ∧
      packetEnd.isRing 0 = false ∧ (packetEnd.queue 0).mark = none := by decide +kernel

theorem test_witness_StoredRegisterFrame :
    let a := ({} : Dev).wrOn .mtx (Fld.nth .MTX_PERM_ADMIN 0) true
    ({} : Dev).admits 0 .dev 0x030 3 = true ∧ ({} : Dev).admits 0 .dev 0x034 3 = true ∧ a.admits 0 .mtx 0x024 3 = true ∧ ({} : Dev).admits 0 .intc 0x020 1 = true ∧ ({} : Dev).intc.srcs = [] ∧
      ({} : Dev).admits 0 .qmg 0x108 64 = true ∧ ({} : Dev).admits 0 .qmg 0x10C 64 = true := by decide +kernel

theorem test_witness_PageCommandsComplete :
    ((8 ≤ (13 : Fin 1024).val) ∧ (({} : Dev).admits (0 : Master).val (.dev : Page) (4 * (13 : Fin 1024).val) (5 : Word) = true)) ∧
    ((Fld.PAGE_CTRL_SOFT_RESET.get (0x5A01 : Word) = 0) ∧ (({} : Dev).admits (0 : Master).val (.dev : Page) 0x008 (0x5A01 : Word) = true)) ∧
    (((({} : Dev).wr .dev .PAGE_CTRL_EXPERT_KEY 0x5A : Dev).stopped = false) ∧ ((({} : Dev).wr .dev .PAGE_CTRL_EXPERT_KEY 0x5A : Dev).expertOpen (.dev : Page) = true)) ∧
    ((({} : Dev).admits (0 : Master).val (.dev : Page) 0x008 ((1 : Word) ||| 2) = true)) ∧
    (((({} : Dev).wrOn .dev .PAGE_STAT_RESET_BUSY true : Dev).stopped = false) ∧ ((.dev : Page) ≠ .intc) ∧ ((.dev : Page) ≠ .pwr) ∧ ((.dev : Page) ≠ .tmu) ∧ ((.dev : Page) ≠ .fab) ∧ ((({} : Dev).wrOn .dev .PAGE_STAT_RESET_BUSY true : Dev).on (.dev : Page) .PAGE_STAT_RESET_BUSY = true)) ∧
    (((({} : Dev).wrOn .intc .PAGE_STAT_RESET_BUSY true : Dev).stopped = false) ∧ ((({} : Dev).wrOn .intc .PAGE_STAT_RESET_BUSY true : Dev).on .intc .PAGE_STAT_RESET_BUSY = true)) ∧
    (((({} : Dev).wrOn .pwr .PAGE_STAT_RESET_BUSY true : Dev).stopped = false) ∧ ((({} : Dev).wrOn .pwr .PAGE_STAT_RESET_BUSY true : Dev).on .pwr .PAGE_STAT_RESET_BUSY = true)) ∧
    (((({} : Dev).wrOn .tmu .PAGE_STAT_RESET_BUSY true : Dev).stopped = false) ∧ ((({} : Dev).wrOn .tmu .PAGE_STAT_RESET_BUSY true : Dev).on .tmu .PAGE_STAT_RESET_BUSY = true)) ∧
    (((({} : Dev).wrOn .fab .PAGE_STAT_RESET_BUSY true : Dev).stopped = false) ∧ ((({} : Dev).wrOn .fab .PAGE_STAT_RESET_BUSY true : Dev).on .fab .PAGE_STAT_RESET_BUSY = true)) ∧
    ((({} : Dev).admits (0 : Master).val .dev 0x030 (5 : Word) = true)) ∧
    ((({} : Dev).admits (0 : Master).val .dev 0x034 (5 : Word) = true)) ∧
    ((({} : Dev).stopped = false) ∧ ((([0, 0, 0, 0, 0, 0].zipIdx.foldl (fun (e : Dev) (x : Nat × Nat) => (e.wr .dev (Fld.nth .DEV_MARGIN_NOW x.2) (min x.1 511)).wr .dev (Fld.nth .DEV_MARGIN_MIN x.2) (min (min x.1 511) (e.rd .dev (Fld.nth .DEV_MARGIN_MIN x.2)))) {}) : Dev) = [(0 : Nat), (0 : Nat), (0 : Nat), (0 : Nat), (0 : Nat), (0 : Nat)].zipIdx.foldl (fun (e : Dev) (x : Nat × Nat) => (e.wr .dev (Fld.nth .DEV_MARGIN_NOW x.2) (min x.1 511)).wr .dev (Fld.nth .DEV_MARGIN_MIN x.2) (min (min x.1 511) (e.rd .dev (Fld.nth .DEV_MARGIN_MIN x.2)))) ({} : Dev)) ∧ ([0, 1, 2, 3].any (fun n => (([0, 0, 0, 0, 0, 0].zipIdx.foldl (fun (e : Dev) (x : Nat × Nat) => (e.wr .dev (Fld.nth .DEV_MARGIN_NOW x.2) (min x.1 511)).wr .dev (Fld.nth .DEV_MARGIN_MIN x.2) (min (min x.1 511) (e.rd .dev (Fld.nth .DEV_MARGIN_MIN x.2)))) {}) : Dev).rd .dev (Fld.nth .DEV_MARGIN_NOW n) < (([0, 0, 0, 0, 0, 0].zipIdx.foldl (fun (e : Dev) (x : Nat × Nat) => (e.wr .dev (Fld.nth .DEV_MARGIN_NOW x.2) (min x.1 511)).wr .dev (Fld.nth .DEV_MARGIN_MIN x.2) (min (min x.1 511) (e.rd .dev (Fld.nth .DEV_MARGIN_MIN x.2)))) {}) : Dev).rd .dev .DEV_MARGIN_CFG_WARN_LEVEL) = true)) ∧
    ((({} : Dev).admits (0 : Master).val .dev (0x040 + 4 * (3 : Fin 6).val) 0x80000000 = true)) ∧
    ((({} : Dev).stopped = false)) ∧
    ((({} : Dev).stopped = false)) ∧
    ((({} : Dev).stopped = false)) ∧
    (((({ istore := [(0, 0x78480001)], regs := (({} : Dev).wr (.leng 0) .LENG_STAT_STATE 1).regs } : Dev) : Dev).stopped = false) ∧ ((({ istore := [(0, 0x78480001)], regs := (({} : Dev).wr (.leng 0) .LENG_STAT_STATE 1).regs } : Dev) : Dev).lengState (0 : Fin 144).val = 1) ∧ (iOp ((({ istore := [(0, 0x78480001)], regs := (({} : Dev).wr (.leng 0) .LENG_STAT_STATE 1).regs } : Dev) : Dev).fetch (0 : Fin 144).val) ≠ 0x19)) ∧
    ((({} : Dev).stopped = false) ∧ (({} : Dev).stallOf (3 : Master).val = none)) ∧
    ((({} : Dev).admits (0 : Master).val .dev 0x06C 1 = true)) ∧
    ((({} : Dev).stopped = false) ∧ (({} : Dev).permits (0 : Master).val 6 false = true)) := by
  refine ⟨?_, ?_, ?_, ?_, ?_, ?_, ?_, ?_, ?_, ?_, ?_, ?_, ?_, ?_, ?_, ?_, ?_, ?_, ?_, ?_⟩ <;> decide +kernel

theorem test_witness_ResetCommandsComplete :
    ((({} : Dev).pwr.run = .none)) ∧
    ((({} : Dev).pwr.run = .none)) ∧
    ((({} : Dev).pwr.run = .none)) ∧
    ((({} : Dev).pwr.run = .none)) ∧
    (((({} : Dev).pinReset 4 false : Dev).pwr.run ≠ .none)) ∧
    (((({} : Dev).pinReset 4 false : Dev).pwr.run ≠ .none) ∧ ((({} : Dev).pinReset 4 false : Dev).pwr.active = [])) ∧
    ((({ pwr := { waking := true } } : Dev).pwr.run = .none) ∧ (({ pwr := { waking := true } } : Dev).pwr.waking = true)) ∧
    ((((({} : Dev).pinReset 4 false).xoCheck : Dev).pwr.run ≠ .none) ∧ (((({} : Dev).pinReset 4 false).xoCheck : Dev).pwr.active = []) ∧ (((({} : Dev).pinReset 4 false).xoCheck : Dev).pwr.xoOk = true)) ∧
    (((({} : Dev).wrOn .mtx (Fld.nth .MTX_PERM_ADMIN 0) true : Dev).admits (0 : Master).val .pwr 0x024 1 = true)) ∧
    (((({} : Dev).wrOn .mtx (Fld.nth .MTX_PERM_ADMIN 0) true : Dev).admits (0 : Master).val .pwr 0x024 2 = true)) ∧
    (((({} : Dev).wrOn .mtx (Fld.nth .MTX_PERM_ADMIN 0) true : Dev).admits (0 : Master).val .pwr 0x024 3 = true)) ∧
    (((({} : Dev).wrOn .mtx (Fld.nth .MTX_PERM_ADMIN 0) true : Dev).admits (0 : Master).val .pwr 0x024 4 = true)) ∧
    ((((({} : Dev).wrOn .pwr .PWR_RST_STAT_BUSY true).wr .pwr .PWR_RST_STAT_LAST 1 : Dev).stopped = false) ∧ (((({} : Dev).wrOn .pwr .PWR_RST_STAT_BUSY true).wr .pwr .PWR_RST_STAT_LAST 1 : Dev).on .pwr .PWR_RST_STAT_BUSY = true) ∧ (((({} : Dev).wrOn .pwr .PWR_RST_STAT_BUSY true).wr .pwr .PWR_RST_STAT_LAST 1 : Dev).rd .pwr .PWR_RST_STAT_LAST = 1)) ∧
    ((((({} : Dev).wrOn .pwr .PWR_RST_STAT_BUSY true).wr .pwr .PWR_RST_STAT_LAST 2 : Dev).stopped = false) ∧ (((({} : Dev).wrOn .pwr .PWR_RST_STAT_BUSY true).wr .pwr .PWR_RST_STAT_LAST 2 : Dev).on .pwr .PWR_RST_STAT_BUSY = true) ∧ (((({} : Dev).wrOn .pwr .PWR_RST_STAT_BUSY true).wr .pwr .PWR_RST_STAT_LAST 2 : Dev).rd .pwr .PWR_RST_STAT_LAST = 2)) ∧
    ((((({} : Dev).wrOn .pwr .PWR_RST_STAT_BUSY true).wr .pwr .PWR_RST_STAT_LAST 3 : Dev).stopped = false) ∧ (((({} : Dev).wrOn .pwr .PWR_RST_STAT_BUSY true).wr .pwr .PWR_RST_STAT_LAST 3 : Dev).on .pwr .PWR_RST_STAT_BUSY = true) ∧ (((({} : Dev).wrOn .pwr .PWR_RST_STAT_BUSY true).wr .pwr .PWR_RST_STAT_LAST 3 : Dev).rd .pwr .PWR_RST_STAT_LAST ≠ 1) ∧ (((({} : Dev).wrOn .pwr .PWR_RST_STAT_BUSY true).wr .pwr .PWR_RST_STAT_LAST 3 : Dev).rd .pwr .PWR_RST_STAT_LAST ≠ 2)) ∧
    ((({} : Dev).admits (0 : Master).val .pwr 0x02C (15 : Word) = true) ∧ (Fld.PWR_CORE_CTL_RESET.get (15 : Word) = 0)) ∧
    ((({} : Dev).admits (0 : Master).val .pwr 0x02C (0x30F : Word) = true) ∧ (Fld.PWR_CORE_CTL_RESET.get (0x30F : Word) = 0)) ∧
    ((({} : Dev).admits (0 : Master).val .pwr 0x02C ((0x7F : Word) ||| BitVec.ofNat 32 (2 ^ (4 + (1 : Fin 4).val)) : Word) = true)) := by
  refine ⟨?_, ?_, ?_, ?_, ?_, ?_, ?_, ?_, ?_, ?_, ?_, ?_, ?_, ?_, ?_, ?_, ?_, ?_⟩ <;> decide +kernel

theorem test_witness_PowerCommandsComplete :
    ((({} : Dev).admits (0 : Master).val .pwr 0x020 1 = true) ∧ ((({} : Dev).stored (0 : Master).val .pwr 0x020 1).rd .pwr .PWR_STATE_CUR ≠ 1)) ∧
    ((({} : Dev).admits (0 : Master).val .pwr 0x020 2 = true) ∧ ((({} : Dev).stored (0 : Master).val .pwr 0x020 2).rd .pwr .PWR_STATE_CUR ≠ 2)) ∧
    (((({} : Dev).wr .pwr .PWR_STATE_CUR 1 : Dev).admits (0 : Master).val .pwr 0x020 0 = true) ∧ (((({} : Dev).wr .pwr .PWR_STATE_CUR 1 : Dev).stored (0 : Master).val .pwr 0x020 0).rd .pwr .PWR_STATE_CUR ≠ 0)) ∧
    ((((({} : Dev).wr .pwr .PWR_STATE_CUR 1).wrOn .pwr .PWR_STATE_BUSY true : Dev).stopped = false) ∧ (((({} : Dev).wr .pwr .PWR_STATE_CUR 1).wrOn .pwr .PWR_STATE_BUSY true : Dev).on .pwr .PWR_STATE_BUSY = true) ∧ (((({} : Dev).wr .pwr .PWR_STATE_CUR 1).wrOn .pwr .PWR_STATE_BUSY true : Dev).rd .pwr .PWR_STATE_REQ = 0) ∧ (((({} : Dev).wr .pwr .PWR_STATE_CUR 1).wrOn .pwr .PWR_STATE_BUSY true : Dev).memcsReady = true)) ∧
    ((((({} : Dev).wr .pwr .PWR_STATE_REQ 1).wrOn .pwr .PWR_STATE_BUSY true : Dev).stopped = false) ∧ (((({} : Dev).wr .pwr .PWR_STATE_REQ 1).wrOn .pwr .PWR_STATE_BUSY true : Dev).on .pwr .PWR_STATE_BUSY = true) ∧ (((({} : Dev).wr .pwr .PWR_STATE_REQ 1).wrOn .pwr .PWR_STATE_BUSY true : Dev).rd .pwr .PWR_STATE_REQ = 1)) ∧
    ((((({} : Dev).wr .pwr .PWR_STATE_REQ 2).wrOn .pwr .PWR_STATE_BUSY true : Dev).stopped = false) ∧ (((({} : Dev).wr .pwr .PWR_STATE_REQ 2).wrOn .pwr .PWR_STATE_BUSY true : Dev).on .pwr .PWR_STATE_BUSY = true) ∧ (((({} : Dev).wr .pwr .PWR_STATE_REQ 2).wrOn .pwr .PWR_STATE_BUSY true : Dev).rd .pwr .PWR_STATE_REQ = 2)) ∧
    (((((({} : Dev).wr .pwr .PWR_STATE_CUR 2).wr .intc .INTC_WATCH_SOURCE 265).wrOn .intc .INTC_WATCH_VALID true : Dev).pwr.run = .none) ∧ ((((({} : Dev).wr .pwr .PWR_STATE_CUR 2).wr .intc .INTC_WATCH_SOURCE 265).wrOn .intc .INTC_WATCH_VALID true : Dev).pwr.waking = false) ∧ ((((({} : Dev).wr .pwr .PWR_STATE_CUR 2).wr .intc .INTC_WATCH_SOURCE 265).wrOn .intc .INTC_WATCH_VALID true : Dev).rd .pwr .PWR_STATE_CUR = 2) ∧ (wakeSource (265 : Fin 512).val = true) ∧ ((((({} : Dev).wr .pwr .PWR_STATE_CUR 2).wr .intc .INTC_WATCH_SOURCE 265).wrOn .intc .INTC_WATCH_VALID true : Dev).watched (265 : Fin 512).val = true)) ∧
    ((({} : Dev).pwr.warn.contains (2 : Fin 8).val = false)) ∧
    ((({ pwr := { warn := [2] } } : Dev).pwr.warn.contains (2 : Fin 8).val = true)) ∧
    ((({ pwr := { warn := [2] } } : Dev).pwr.warn.contains (2 : Fin 8).val = true)) ∧
    ((({ deferring := true } : Dev).deferring = true) ∧ (({ deferring := true } : Dev).dipNow = false) ∧ (({ deferring := true } : Dev).stopped = false)) ∧
    ((({ deferring := true, pwr := { run := .pin } } : Dev).deferring = true) ∧ (({ deferring := true, pwr := { run := .pin } } : Dev).dipNow = false) ∧ (({ deferring := true, pwr := { run := .pin } } : Dev).stopped = true)) ∧
    ((({ pwr := { run := .pin, active := [3] } } : Dev).stopped = true) ∧ ((399 : Int) < 400)) ∧
    ((({} : Dev).stopped = false) ∧ (¬ (({} : Dev).rd .pwr .PWR_TEMP_CFG_WARN : Int) * 4 ≤ (100 : Int)) ∧ ((100 : Int) < ((({} : Dev).rd .pwr .PWR_TEMP_CFG_WARN : Int) - 5) * 4)) ∧
    ((({} : Dev).stopped = false) ∧ ((({} : Dev).rd .pwr .PWR_TEMP_CFG_WARN : Int) * 4 ≤ (600 : Int))) ∧
    ((({ pwr := { hot := true } } : Dev).pwr.hot = true) ∧ (({ pwr := { hot := true } } : Dev).stopped = false)) ∧
    ((({} : Dev).admits (0 : Master).val .aon 0x030 (0x80000005 : Word) = true) ∧ ((({} : Dev).stored (0 : Master).val .aon 0x030 (0x80000005 : Word)).on .aon .AON_WAKE_TIMER_ENABLE = true)) ∧
    ((({} : Dev).admits (0 : Master).val .aon 0x030 (5 : Word) = true) ∧ ((({} : Dev).stored (0 : Master).val .aon 0x030 (5 : Word)).on .aon .AON_WAKE_TIMER_ENABLE = false)) ∧
    (((({} : Dev).wrOn .aon .AON_WAKE_TIMER_ENABLE true : Dev).on .aon .AON_WAKE_TIMER_ENABLE = true)) ∧
    ((({} : Dev).admits (0 : Master).val .aon 0x038 1 = true)) := by
  refine ⟨?_, ?_, ?_, ?_, ?_, ?_, ?_, ?_, ?_, ?_, ?_, ?_, ?_, ?_, ?_, ?_, ?_, ?_, ?_, ?_⟩ <;> decide +kernel

theorem test_witness_LaneCommandsComplete :
    ((({} : Dev).admits (0 : Master).val (.lane (4 : Fin 144).val) 0x024 (0 : Word) = true)) ∧
    ((((({ plls := [(2, { src := .dom 3 })] } : Dev).wr (.tdom 3) .TDOM_FMT_FMT 5) : Dev).stopped = false) ∧ ((1 : Fin 40).val < 36) ∧ ((0 : Fin 3).val < 2) ∧ ((((({ plls := [(2, { src := .dom 3 })] } : Dev).wr (.tdom 3) .TDOM_FMT_FMT 5) : Dev).pll (2 * (1 : Fin 40).val + (0 : Fin 3).val)).src = .dom (3 : Nat)) ∧ ((((({ plls := [(2, { src := .dom 3 })] } : Dev).wr (.tdom 3) .TDOM_FMT_FMT 5) : Dev).pll (2 * (1 : Fin 40).val + (0 : Fin 3).val)).lock = false) ∧ (((({ plls := [(2, { src := .dom 3 })] } : Dev).wr (.tdom 3) .TDOM_FMT_FMT 5) : Dev).domFmt (3 : Nat) ≠ 0)) ∧
    ((((({ plls := [(2, { src := .follow 3 })] } : Dev).wr (.lane 3) .LANE_LSTAT_RX_STATE 3).wr (.lane 3) .LANE_FRMSTAT_FMT 5 : Dev).stopped = false) ∧ ((1 : Fin 40).val < 36) ∧ ((0 : Fin 3).val < 2) ∧ ((((({ plls := [(2, { src := .follow 3 })] } : Dev).wr (.lane 3) .LANE_LSTAT_RX_STATE 3).wr (.lane 3) .LANE_FRMSTAT_FMT 5 : Dev).pll (2 * (1 : Fin 40).val + (0 : Fin 3).val)).src = .follow (3 : Nat)) ∧ ((((({ plls := [(2, { src := .follow 3 })] } : Dev).wr (.lane 3) .LANE_LSTAT_RX_STATE 3).wr (.lane 3) .LANE_FRMSTAT_FMT 5 : Dev).pll (2 * (1 : Fin 40).val + (0 : Fin 3).val)).lock = false) ∧ (((({ plls := [(2, { src := .follow 3 })] } : Dev).wr (.lane 3) .LANE_LSTAT_RX_STATE 3).wr (.lane 3) .LANE_FRMSTAT_FMT 5 : Dev).rxState (3 : Nat) = 3) ∧ (((({ plls := [(2, { src := .follow 3 })] } : Dev).wr (.lane 3) .LANE_LSTAT_RX_STATE 3).wr (.lane 3) .LANE_FRMSTAT_FMT 5 : Dev).frmFmt (3 : Nat) ≠ 0)) ∧
    ((({} : Dev).stopped = false) ∧ ((36 ≤ (36 : Fin 40).val ∨ (2 : Fin 3).val = 2))) ∧
    ((({} : Dev).admits (0 : Master).val (.lane (4 : Fin 144).val) 0x020 (3 : Word) = true)) ∧
    ((({} : Dev).admits (0 : Master).val (.lane (4 : Fin 144).val) 0x008 (0 : Word) = true) ∧ (Fld.PAGE_CTRL_SOFT_RESET.get (0 : Word) = 0) ∧ (Fld.PAGE_CTRL_ENABLE.get (({} : Dev).held (0 : Master).val (.lane (4 : Fin 144).val) 0x008) ≠ Fld.PAGE_CTRL_ENABLE.get (0 : Word))) ∧
    ((((({} : Dev).wr (.lane 3) .LANE_LSTAT_RX_STATE 3).wr (.lane 3) .LANE_LSTAT_LOS 0 : Dev).stopped = false) ∧ (((({} : Dev).wr (.lane 3) .LANE_LSTAT_RX_STATE 3).wr (.lane 3) .LANE_LSTAT_LOS 0 : Dev).rxState (3 : RxId).val ≠ 0) ∧ (((({} : Dev).wr (.lane 3) .LANE_LSTAT_RX_STATE 3).wr (.lane 3) .LANE_LSTAT_LOS 0 : Dev).los (3 : RxId).val = false)) ∧
    ((((({} : Dev).wr (.tll 6) .TLL_LSTAT_RX_STATE 1).wr (.tll 6) .TLL_LSTAT_LOS 1 : Dev).stopped = false) ∧ (((({} : Dev).wr (.tll 6) .TLL_LSTAT_RX_STATE 1).wr (.tll 6) .TLL_LSTAT_LOS 1 : Dev).rxState (150 : RxId).val = 1) ∧ (((({} : Dev).wr (.tll 6) .TLL_LSTAT_RX_STATE 1).wr (.tll 6) .TLL_LSTAT_LOS 1 : Dev).los (150 : RxId).val = true)) ∧
    ((((({} : Dev).wr (.lane 3) .LANE_LSTAT_RX_STATE 3).wr (.lane 3) .LANE_LSTAT_LOS 0 : Dev).stopped = false) ∧ (((({} : Dev).wr (.lane 3) .LANE_LSTAT_RX_STATE 3).wr (.lane 3) .LANE_LSTAT_LOS 0 : Dev).rxState (3 : RxId).val ≠ 0) ∧ (((({} : Dev).wr (.lane 3) .LANE_LSTAT_RX_STATE 3).wr (.lane 3) .LANE_LSTAT_LOS 0 : Dev).los (3 : RxId).val = false)) ∧
    ((((({} : Dev).wr (.lane 3) .LANE_LSTAT_RX_STATE 2).wr (.lane 3) .LANE_LSTAT_LOS 0 : Dev).stopped = false) ∧ (((({} : Dev).wr (.lane 3) .LANE_LSTAT_RX_STATE 2).wr (.lane 3) .LANE_LSTAT_LOS 0 : Dev).rxState (3 : RxId).val = 2) ∧ (((({} : Dev).wr (.lane 3) .LANE_LSTAT_RX_STATE 2).wr (.lane 3) .LANE_LSTAT_LOS 0 : Dev).los (3 : RxId).val = false)) ∧
    ((((({} : Dev).wr (.lane 3) .LANE_LSTAT_RX_STATE 2).wr (.lane 3) .LANE_LSTAT_LOL 1 : Dev).stopped = false) ∧ (((({} : Dev).wr (.lane 3) .LANE_LSTAT_RX_STATE 2).wr (.lane 3) .LANE_LSTAT_LOL 1 : Dev).rxState (3 : RxId).val = 2) ∧ (((({} : Dev).wr (.lane 3) .LANE_LSTAT_RX_STATE 2).wr (.lane 3) .LANE_LSTAT_LOL 1 : Dev).lol (3 : RxId).val = true)) ∧
    (((({} : Dev).wr (.lane 3) .LANE_LSTAT_RX_STATE 4 : Dev).stopped = false) ∧ ((({} : Dev).wr (.lane 3) .LANE_LSTAT_RX_STATE 4 : Dev).rxState (3 : Fin 144).val = 4)) ∧
    ((((({} : Dev).wr (.lane 3) .LANE_LSTAT_TX_STATE 4).wr (.lane 3) .LANE_TESTCFG_TX_ENABLE 1 : Dev).admits (0 : Master).val (rxPage (3 : RxId).val) 0x034 1 = true) ∧ ((((({} : Dev).wr (.lane 3) .LANE_LSTAT_TX_STATE 4).wr (.lane 3) .LANE_TESTCFG_TX_ENABLE 1 : Dev).stored (0 : Master).val (rxPage (3 : RxId).val) 0x034 1).testSends (3 : RxId).val = true)) ∧
    ((({} : Dev).admits (0 : Master).val (rxPage (3 : RxId).val) 0x034 1 = true) ∧ ((({} : Dev).stored (0 : Master).val (rxPage (3 : RxId).val) 0x034 1).testSends (3 : RxId).val = false)) ∧
    ((({} : Dev).admits (0 : Master).val (rxPage (150 : RxId).val) 0x034 2 = true)) ∧
    ((((({} : Dev).wr (.lane 3) .LANE_LSTAT_RX_STATE 5).wrOn (.lane 3) .LANE_TESTCFG_RX_ENABLE true : Dev).stopped = false) ∧ ((((({} : Dev).wr (.lane 3) .LANE_LSTAT_RX_STATE 5).wrOn (.lane 3) .LANE_TESTCFG_RX_ENABLE true : Dev).testSend (3 : RxId).val ([true, true] : List Bool).length : Dev).checking (3 : RxId).val = true)) ∧
    ((({} : Dev).stopped = false)) ∧
    ((({ lanes := [(3, { routeNext := some 8 })] } : Dev).stopped = false) ∧ ((({ lanes := [(3, { routeNext := some 8 })] } : Dev).lane (3 : Fin 144).val).routeNext = some (8 : Nat))) := by
  refine ⟨?_, ?_, ?_, ?_, ?_, ?_, ?_, ?_, ?_, ?_, ?_, ?_, ?_, ?_, ?_, ?_, ?_, ?_⟩ <;> decide +kernel

theorem test_witness_FramerCommandsComplete :
    (((({ framers := [(3, { decoded := 9 })], regs := ((({} : Dev).wr (.lane 3) .LANE_FRMSTAT_STATE 1).wr (.lane 3) .LANE_RXCFG_MODE 2).regs } : Dev) : Dev).stopped = false) ∧ (modeSdi ((({ framers := [(3, { decoded := 9 })], regs := ((({} : Dev).wr (.lane 3) .LANE_FRMSTAT_STATE 1).wr (.lane 3) .LANE_RXCFG_MODE 2).regs } : Dev) : Dev).rd (.lane (3 : Fin 144).val) .LANE_RXCFG_MODE) = true) ∧ ((({ framers := [(3, { decoded := 9 })], regs := ((({} : Dev).wr (.lane 3) .LANE_FRMSTAT_STATE 1).wr (.lane 3) .LANE_RXCFG_MODE 2).regs } : Dev) : Dev).eavStreams (3 : Fin 144).val ((({ framers := [(3, { decoded := 9 })], regs := ((({} : Dev).wr (.lane 3) .LANE_FRMSTAT_STATE 1).wr (.lane 3) .LANE_RXCFG_MODE 2).regs } : Dev) : Dev).decodeSdi (3 : Fin 144).val (([] : List Bool) ++ ((({} : SdiCode).sendAll ((trsWords 2 0x274).flatMap word10Bits)).2 : List Bool) : List Bool) : Dev × List Bool).2 = some (2 : Nat)) ∧ ((({ framers := [(3, { decoded := 9 })], regs := ((({} : Dev).wr (.lane 3) .LANE_FRMSTAT_STATE 1).wr (.lane 3) .LANE_RXCFG_MODE 2).regs } : Dev) : Dev).frmState (3 : Fin 144).val = 1) ∧ ((((({ framers := [(3, { decoded := 9 })], regs := ((({} : Dev).wr (.lane 3) .LANE_FRMSTAT_STATE 1).wr (.lane 3) .LANE_RXCFG_MODE 2).regs } : Dev) : Dev).decodeSdi (3 : Fin 144).val (([] : List Bool) ++ ((({} : SdiCode).sendAll ((trsWords 2 0x274).flatMap word10Bits)).2 : List Bool) : List Bool) : Dev × List Bool).1.framer (3 : Fin 144).val).verify = none) ∧ ((((({ framers := [(3, { decoded := 9 })], regs := ((({} : Dev).wr (.lane 3) .LANE_FRMSTAT_STATE 1).wr (.lane 3) .LANE_RXCFG_MODE 2).regs } : Dev) : Dev).decodeSdi (3 : Fin 144).val (([] : List Bool) ++ ((({} : SdiCode).sendAll ((trsWords 2 0x274).flatMap word10Bits)).2 : List Bool) : List Bool) : Dev × List Bool).1.framer (3 : Fin 144).val).cands.findIdx? (fun z => (z.advances (lensFor (((({ framers := [(3, { decoded := 9 })], regs := ((({} : Dev).wr (.lane 3) .LANE_FRMSTAT_STATE 1).wr (.lane 3) .LANE_RXCFG_MODE 2).regs } : Dev) : Dev).decodeSdi (3 : Fin 144).val (([] : List Bool) ++ ((({} : SdiCode).sendAll ((trsWords 2 0x274).flatMap word10Bits)).2 : List Bool) : List Bool) : Dev × List Bool).1.huntModes (3 : Fin 144).val) (2 : Nat)) (10 * (10 : Nat) + (0 : Fin 10).val : Nat) (2 : Nat)).isSome) = none) ∧ ((((({ framers := [(3, { decoded := 9 })], regs := ((({} : Dev).wr (.lane 3) .LANE_FRMSTAT_STATE 1).wr (.lane 3) .LANE_RXCFG_MODE 2).regs } : Dev) : Dev).decodeSdi (3 : Fin 144).val (([] : List Bool) ++ ((({} : SdiCode).sendAll ((trsWords 2 0x274).flatMap word10Bits)).2 : List Bool) : List Bool) : Dev × List Bool).1.framer (3 : Fin 144).val).cands.length < 4)) ∧
    (((({ framers := [(3, { decoded := 9, cands := [⟨0, 1, some 2640, 2⟩] })], regs := ((({} : Dev).wr (.lane 3) .LANE_FRMSTAT_STATE 1).wr (.lane 3) .LANE_RXCFG_MODE 2).regs } : Dev) : Dev).stopped = false) ∧ (modeSdi ((({ framers := [(3, { decoded := 9, cands := [⟨0, 1, some 2640, 2⟩] })], regs := ((({} : Dev).wr (.lane 3) .LANE_FRMSTAT_STATE 1).wr (.lane 3) .LANE_RXCFG_MODE 2).regs } : Dev) : Dev).rd (.lane (3 : Fin 144).val) .LANE_RXCFG_MODE) = true) ∧ ((({ framers := [(3, { decoded := 9, cands := [⟨0, 1, some 2640, 2⟩] })], regs := ((({} : Dev).wr (.lane 3) .LANE_FRMSTAT_STATE 1).wr (.lane 3) .LANE_RXCFG_MODE 2).regs } : Dev) : Dev).eavStreams (3 : Fin 144).val ((({ framers := [(3, { decoded := 9, cands := [⟨0, 1, some 2640, 2⟩] })], regs := ((({} : Dev).wr (.lane 3) .LANE_FRMSTAT_STATE 1).wr (.lane 3) .LANE_RXCFG_MODE 2).regs } : Dev) : Dev).decodeSdi (3 : Fin 144).val (([] : List Bool) ++ ((({} : SdiCode).sendAll ((trsWords 2 0x274).flatMap word10Bits)).2 : List Bool) : List Bool) : Dev × List Bool).2 = some (2 : Nat)) ∧ ((({ framers := [(3, { decoded := 9, cands := [⟨0, 1, some 2640, 2⟩] })], regs := ((({} : Dev).wr (.lane 3) .LANE_FRMSTAT_STATE 1).wr (.lane 3) .LANE_RXCFG_MODE 2).regs } : Dev) : Dev).frmState (3 : Fin 144).val = 1) ∧ ((((({ framers := [(3, { decoded := 9, cands := [⟨0, 1, some 2640, 2⟩] })], regs := ((({} : Dev).wr (.lane 3) .LANE_FRMSTAT_STATE 1).wr (.lane 3) .LANE_RXCFG_MODE 2).regs } : Dev) : Dev).decodeSdi (3 : Fin 144).val (([] : List Bool) ++ ((({} : SdiCode).sendAll ((trsWords 2 0x274).flatMap word10Bits)).2 : List Bool) : List Bool) : Dev × List Bool).1.framer (3 : Fin 144).val).verify = none) ∧ ((((({ framers := [(3, { decoded := 9, cands := [⟨0, 1, some 2640, 2⟩] })], regs := ((({} : Dev).wr (.lane 3) .LANE_FRMSTAT_STATE 1).wr (.lane 3) .LANE_RXCFG_MODE 2).regs } : Dev) : Dev).decodeSdi (3 : Fin 144).val (([] : List Bool) ++ ((({} : SdiCode).sendAll ((trsWords 2 0x274).flatMap word10Bits)).2 : List Bool) : List Bool) : Dev × List Bool).1.framer (3 : Fin 144).val).cands.findIdx? (fun z => (z.advances (lensFor (((({ framers := [(3, { decoded := 9, cands := [⟨0, 1, some 2640, 2⟩] })], regs := ((({} : Dev).wr (.lane 3) .LANE_FRMSTAT_STATE 1).wr (.lane 3) .LANE_RXCFG_MODE 2).regs } : Dev) : Dev).decodeSdi (3 : Fin 144).val (([] : List Bool) ++ ((({} : SdiCode).sendAll ((trsWords 2 0x274).flatMap word10Bits)).2 : List Bool) : List Bool) : Dev × List Bool).1.huntModes (3 : Fin 144).val) (2 : Nat)) (10 * (5280 : Nat) + (0 : Fin 10).val : Nat) (2 : Nat)).isSome) = some (0 : Nat)) ∧ (((((({ framers := [(3, { decoded := 9, cands := [⟨0, 1, some 2640, 2⟩] })], regs := ((({} : Dev).wr (.lane 3) .LANE_FRMSTAT_STATE 1).wr (.lane 3) .LANE_RXCFG_MODE 2).regs } : Dev) : Dev).decodeSdi (3 : Fin 144).val (([] : List Bool) ++ ((({} : SdiCode).sendAll ((trsWords 2 0x274).flatMap word10Bits)).2 : List Bool) : List Bool) : Dev × List Bool).1.framer (3 : Fin 144).val).cands.getD (0 : Nat) ⟨0, 0, none, 0⟩ : Cand).count + 1 ≠ 3)) ∧
    (((({ framers := [(3, { decoded := 9, cands := [⟨0, 2, some 2640, 2⟩] })], regs := ((({} : Dev).wr (.lane 3) .LANE_FRMSTAT_STATE 1).wr (.lane 3) .LANE_RXCFG_MODE 2).regs } : Dev) : Dev).stopped = false) ∧ (modeSdi ((({ framers := [(3, { decoded := 9, cands := [⟨0, 2, some 2640, 2⟩] })], regs := ((({} : Dev).wr (.lane 3) .LANE_FRMSTAT_STATE 1).wr (.lane 3) .LANE_RXCFG_MODE 2).regs } : Dev) : Dev).rd (.lane (3 : Fin 144).val) .LANE_RXCFG_MODE) = true) ∧ ((({ framers := [(3, { decoded := 9, cands := [⟨0, 2, some 2640, 2⟩] })], regs := ((({} : Dev).wr (.lane 3) .LANE_FRMSTAT_STATE 1).wr (.lane 3) .LANE_RXCFG_MODE 2).regs } : Dev) : Dev).eavStreams (3 : Fin 144).val ((({ framers := [(3, { decoded := 9, cands := [⟨0, 2, some 2640, 2⟩] })], regs := ((({} : Dev).wr (.lane 3) .LANE_FRMSTAT_STATE 1).wr (.lane 3) .LANE_RXCFG_MODE 2).regs } : Dev) : Dev).decodeSdi (3 : Fin 144).val (([] : List Bool) ++ ((({} : SdiCode).sendAll ((trsWords 2 0x274).flatMap word10Bits)).2 : List Bool) : List Bool) : Dev × List Bool).2 = some (2 : Nat)) ∧ ((({ framers := [(3, { decoded := 9, cands := [⟨0, 2, some 2640, 2⟩] })], regs := ((({} : Dev).wr (.lane 3) .LANE_FRMSTAT_STATE 1).wr (.lane 3) .LANE_RXCFG_MODE 2).regs } : Dev) : Dev).frmState (3 : Fin 144).val = 1) ∧ ((((({ framers := [(3, { decoded := 9, cands := [⟨0, 2, some 2640, 2⟩] })], regs := ((({} : Dev).wr (.lane 3) .LANE_FRMSTAT_STATE 1).wr (.lane 3) .LANE_RXCFG_MODE 2).regs } : Dev) : Dev).decodeSdi (3 : Fin 144).val (([] : List Bool) ++ ((({} : SdiCode).sendAll ((trsWords 2 0x274).flatMap word10Bits)).2 : List Bool) : List Bool) : Dev × List Bool).1.framer (3 : Fin 144).val).verify = none) ∧ ((((({ framers := [(3, { decoded := 9, cands := [⟨0, 2, some 2640, 2⟩] })], regs := ((({} : Dev).wr (.lane 3) .LANE_FRMSTAT_STATE 1).wr (.lane 3) .LANE_RXCFG_MODE 2).regs } : Dev) : Dev).decodeSdi (3 : Fin 144).val (([] : List Bool) ++ ((({} : SdiCode).sendAll ((trsWords 2 0x274).flatMap word10Bits)).2 : List Bool) : List Bool) : Dev × List Bool).1.framer (3 : Fin 144).val).cands.findIdx? (fun z => (z.advances (lensFor (((({ framers := [(3, { decoded := 9, cands := [⟨0, 2, some 2640, 2⟩] })], regs := ((({} : Dev).wr (.lane 3) .LANE_FRMSTAT_STATE 1).wr (.lane 3) .LANE_RXCFG_MODE 2).regs } : Dev) : Dev).decodeSdi (3 : Fin 144).val (([] : List Bool) ++ ((({} : SdiCode).sendAll ((trsWords 2 0x274).flatMap word10Bits)).2 : List Bool) : List Bool) : Dev × List Bool).1.huntModes (3 : Fin 144).val) (2 : Nat)) (10 * (5280 : Nat) + (0 : Fin 10).val : Nat) (2 : Nat)).isSome) = some (0 : Nat)) ∧ (((((({ framers := [(3, { decoded := 9, cands := [⟨0, 2, some 2640, 2⟩] })], regs := ((({} : Dev).wr (.lane 3) .LANE_FRMSTAT_STATE 1).wr (.lane 3) .LANE_RXCFG_MODE 2).regs } : Dev) : Dev).decodeSdi (3 : Fin 144).val (([] : List Bool) ++ ((({} : SdiCode).sendAll ((trsWords 2 0x274).flatMap word10Bits)).2 : List Bool) : List Bool) : Dev × List Bool).1.framer (3 : Fin 144).val).cands.getD (0 : Nat) ⟨0, 0, none, 0⟩ : Cand).count = 2)) ∧
    (((({ framers := [(3, { decoded := 9, verify := some ⟨0, 2, some 2640, 2⟩ })], regs := ((({} : Dev).wr (.lane 3) .LANE_FRMSTAT_STATE 2).wr (.lane 3) .LANE_RXCFG_MODE 2).regs } : Dev) : Dev).stopped = false) ∧ (modeSdi ((({ framers := [(3, { decoded := 9, verify := some ⟨0, 2, some 2640, 2⟩ })], regs := ((({} : Dev).wr (.lane 3) .LANE_FRMSTAT_STATE 2).wr (.lane 3) .LANE_RXCFG_MODE 2).regs } : Dev) : Dev).rd (.lane (3 : Fin 144).val) .LANE_RXCFG_MODE) = true) ∧ ((({ framers := [(3, { decoded := 9, verify := some ⟨0, 2, some 2640, 2⟩ })], regs := ((({} : Dev).wr (.lane 3) .LANE_FRMSTAT_STATE 2).wr (.lane 3) .LANE_RXCFG_MODE 2).regs } : Dev) : Dev).eavStreams (3 : Fin 144).val ((({ framers := [(3, { decoded := 9, verify := some ⟨0, 2, some 2640, 2⟩ })], regs := ((({} : Dev).wr (.lane 3) .LANE_FRMSTAT_STATE 2).wr (.lane 3) .LANE_RXCFG_MODE 2).regs } : Dev) : Dev).decodeSdi (3 : Fin 144).val (([] : List Bool) ++ ((({} : SdiCode).sendAll ((trsWords 2 0x274).flatMap word10Bits)).2 : List Bool) : List Bool) : Dev × List Bool).2 = some (2 : Nat)) ∧ ((({ framers := [(3, { decoded := 9, verify := some ⟨0, 2, some 2640, 2⟩ })], regs := ((({} : Dev).wr (.lane 3) .LANE_FRMSTAT_STATE 2).wr (.lane 3) .LANE_RXCFG_MODE 2).regs } : Dev) : Dev).frmState (3 : Fin 144).val = 2) ∧ ((((({ framers := [(3, { decoded := 9, verify := some ⟨0, 2, some 2640, 2⟩ })], regs := ((({} : Dev).wr (.lane 3) .LANE_FRMSTAT_STATE 2).wr (.lane 3) .LANE_RXCFG_MODE 2).regs } : Dev) : Dev).decodeSdi (3 : Fin 144).val (([] : List Bool) ++ ((({} : SdiCode).sendAll ((trsWords 2 0x274).flatMap word10Bits)).2 : List Bool) : List Bool) : Dev × List Bool).1.framer (3 : Fin 144).val).verify = some (⟨0, 2, some 2640, 2⟩ : Cand)) ∧ ((⟨0, 2, some 2640, 2⟩ : Cand).advances [] (10 * (5280 : Nat) + (0 : Fin 10).val : Nat) (2 : Nat) = some (2640 : Nat))) ∧
    (((({ framers := [(3, { decoded := 9, streams := 2, lineLen := 2640 })], regs := ((({} : Dev).wr (.lane 3) .LANE_FRMSTAT_STATE 4).wr (.lane 3) .LANE_RXCFG_MODE 2).regs } : Dev) : Dev).stopped = false) ∧ (modeSdi ((({ framers := [(3, { decoded := 9, streams := 2, lineLen := 2640 })], regs := ((({} : Dev).wr (.lane 3) .LANE_FRMSTAT_STATE 4).wr (.lane 3) .LANE_RXCFG_MODE 2).regs } : Dev) : Dev).rd (.lane (3 : Fin 144).val) .LANE_RXCFG_MODE) = true) ∧ (((({ framers := [(3, { decoded := 9, streams := 2, lineLen := 2640 })], regs := ((({} : Dev).wr (.lane 3) .LANE_FRMSTAT_STATE 4).wr (.lane 3) .LANE_RXCFG_MODE 2).regs } : Dev) : Dev).frmState (3 : Fin 144).val = 3 ∨ (({ framers := [(3, { decoded := 9, streams := 2, lineLen := 2640 })], regs := ((({} : Dev).wr (.lane 3) .LANE_FRMSTAT_STATE 4).wr (.lane 3) .LANE_RXCFG_MODE 2).regs } : Dev) : Dev).frmState (3 : Fin 144).val = 4)) ∧ ((({ framers := [(3, { decoded := 9, streams := 2, lineLen := 2640 })], regs := ((({} : Dev).wr (.lane 3) .LANE_FRMSTAT_STATE 4).wr (.lane 3) .LANE_RXCFG_MODE 2).regs } : Dev) : Dev).rxMode (3 : Fin 144).val ≠ 4) ∧ (trsOf (((({ framers := [(3, { decoded := 9, streams := 2, lineLen := 2640 })], regs := ((({} : Dev).wr (.lane 3) .LANE_FRMSTAT_STATE 4).wr (.lane 3) .LANE_RXCFG_MODE 2).regs } : Dev) : Dev).decodeSdi (3 : Fin 144).val (([] : List Bool) ++ ((({} : SdiCode).sendAll ((trsWords 2 0x274).flatMap word10Bits)).2 : List Bool) : List Bool) : Dev × List Bool).1.framer (3 : Fin 144).val : FramerI).streams (lastWords (((({ framers := [(3, { decoded := 9, streams := 2, lineLen := 2640 })], regs := ((({} : Dev).wr (.lane 3) .LANE_FRMSTAT_STATE 4).wr (.lane 3) .LANE_RXCFG_MODE 2).regs } : Dev) : Dev).decodeSdi (3 : Fin 144).val (([] : List Bool) ++ ((({} : SdiCode).sendAll ((trsWords 2 0x274).flatMap word10Bits)).2 : List Bool) : List Bool) : Dev × List Bool).1.framer (3 : Fin 144).val : FramerI).streams ((({ framers := [(3, { decoded := 9, streams := 2, lineLen := 2640 })], regs := ((({} : Dev).wr (.lane 3) .LANE_FRMSTAT_STATE 4).wr (.lane 3) .LANE_RXCFG_MODE 2).regs } : Dev) : Dev).decodeSdi (3 : Fin 144).val (([] : List Bool) ++ ((({} : SdiCode).sendAll ((trsWords 2 0x274).flatMap word10Bits)).2 : List Bool) : List Bool) : Dev × List Bool).2) = some (0x274 : Word10)) ∧ ((0x274 : Word10).getLsbD 6 = true) ∧ ((10 * (5280 : Nat) + (0 : Fin 10).val : Nat) = (((({ framers := [(3, { decoded := 9, streams := 2, lineLen := 2640 })], regs := ((({} : Dev).wr (.lane 3) .LANE_FRMSTAT_STATE 4).wr (.lane 3) .LANE_RXCFG_MODE 2).regs } : Dev) : Dev).decodeSdi (3 : Fin 144).val (([] : List Bool) ++ ((({} : SdiCode).sendAll ((trsWords 2 0x274).flatMap word10Bits)).2 : List Bool) : List Bool) : Dev × List Bool).1.framer (3 : Fin 144).val : FramerI).lastEav + (((({ framers := [(3, { decoded := 9, streams := 2, lineLen := 2640 })], regs := ((({} : Dev).wr (.lane 3) .LANE_FRMSTAT_STATE 4).wr (.lane 3) .LANE_RXCFG_MODE 2).regs } : Dev) : Dev).decodeSdi (3 : Fin 144).val (([] : List Bool) ++ ((({} : SdiCode).sendAll ((trsWords 2 0x274).flatMap word10Bits)).2 : List Bool) : List Bool) : Dev × List Bool).1.framer (3 : Fin 144).val : FramerI).lineLen * ((((({ framers := [(3, { decoded := 9, streams := 2, lineLen := 2640 })], regs := ((({} : Dev).wr (.lane 3) .LANE_FRMSTAT_STATE 4).wr (.lane 3) .LANE_RXCFG_MODE 2).regs } : Dev) : Dev).decodeSdi (3 : Fin 144).val (([] : List Bool) ++ ((({} : SdiCode).sendAll ((trsWords 2 0x274).flatMap word10Bits)).2 : List Bool) : List Bool) : Dev × List Bool).1.framer (3 : Fin 144).val : FramerI).streams * 10))) ∧
    (((({ framers := [(3, { decoded := 9, streams := 2, lineLen := 2640, savOff := some 10 })], regs := ((({} : Dev).wr (.lane 3) .LANE_FRMSTAT_STATE 3).wr (.lane 3) .LANE_RXCFG_MODE 2).regs } : Dev) : Dev).stopped = false) ∧ (modeSdi ((({ framers := [(3, { decoded := 9, streams := 2, lineLen := 2640, savOff := some 10 })], regs := ((({} : Dev).wr (.lane 3) .LANE_FRMSTAT_STATE 3).wr (.lane 3) .LANE_RXCFG_MODE 2).regs } : Dev) : Dev).rd (.lane (3 : Fin 144).val) .LANE_RXCFG_MODE) = true) ∧ (((({ framers := [(3, { decoded := 9, streams := 2, lineLen := 2640, savOff := some 10 })], regs := ((({} : Dev).wr (.lane 3) .LANE_FRMSTAT_STATE 3).wr (.lane 3) .LANE_RXCFG_MODE 2).regs } : Dev) : Dev).frmState (3 : Fin 144).val = 3 ∨ (({ framers := [(3, { decoded := 9, streams := 2, lineLen := 2640, savOff := some 10 })], regs := ((({} : Dev).wr (.lane 3) .LANE_FRMSTAT_STATE 3).wr (.lane 3) .LANE_RXCFG_MODE 2).regs } : Dev) : Dev).frmState (3 : Fin 144).val = 4)) ∧ ((({ framers := [(3, { decoded := 9, streams := 2, lineLen := 2640, savOff := some 10 })], regs := ((({} : Dev).wr (.lane 3) .LANE_FRMSTAT_STATE 3).wr (.lane 3) .LANE_RXCFG_MODE 2).regs } : Dev) : Dev).rxMode (3 : Fin 144).val ≠ 4) ∧ (trsOf (((({ framers := [(3, { decoded := 9, streams := 2, lineLen := 2640, savOff := some 10 })], regs := ((({} : Dev).wr (.lane 3) .LANE_FRMSTAT_STATE 3).wr (.lane 3) .LANE_RXCFG_MODE 2).regs } : Dev) : Dev).decodeSdi (3 : Fin 144).val (([] : List Bool) ++ ((({} : SdiCode).sendAll ((trsWords 2 0x200).flatMap word10Bits)).2 : List Bool) : List Bool) : Dev × List Bool).1.framer (3 : Fin 144).val : FramerI).streams (lastWords (((({ framers := [(3, { decoded := 9, streams := 2, lineLen := 2640, savOff := some 10 })], regs := ((({} : Dev).wr (.lane 3) .LANE_FRMSTAT_STATE 3).wr (.lane 3) .LANE_RXCFG_MODE 2).regs } : Dev) : Dev).decodeSdi (3 : Fin 144).val (([] : List Bool) ++ ((({} : SdiCode).sendAll ((trsWords 2 0x200).flatMap word10Bits)).2 : List Bool) : List Bool) : Dev × List Bool).1.framer (3 : Fin 144).val : FramerI).streams ((({ framers := [(3, { decoded := 9, streams := 2, lineLen := 2640, savOff := some 10 })], regs := ((({} : Dev).wr (.lane 3) .LANE_FRMSTAT_STATE 3).wr (.lane 3) .LANE_RXCFG_MODE 2).regs } : Dev) : Dev).decodeSdi (3 : Fin 144).val (([] : List Bool) ++ ((({} : SdiCode).sendAll ((trsWords 2 0x200).flatMap word10Bits)).2 : List Bool) : List Bool) : Dev × List Bool).2) = some (0x200 : Word10)) ∧ ((0x200 : Word10).getLsbD 6 = false) ∧ ((((({ framers := [(3, { decoded := 9, streams := 2, lineLen := 2640, savOff := some 10 })], regs := ((({} : Dev).wr (.lane 3) .LANE_FRMSTAT_STATE 3).wr (.lane 3) .LANE_RXCFG_MODE 2).regs } : Dev) : Dev).decodeSdi (3 : Fin 144).val (([] : List Bool) ++ ((({} : SdiCode).sendAll ((trsWords 2 0x200).flatMap word10Bits)).2 : List Bool) : List Bool) : Dev × List Bool).1.framer (3 : Fin 144).val : FramerI).savOff = some (10 : Nat)) ∧ ((10 * (20 : Nat) + (0 : Fin 10).val : Nat) = (((({ framers := [(3, { decoded := 9, streams := 2, lineLen := 2640, savOff := some 10 })], regs := ((({} : Dev).wr (.lane 3) .LANE_FRMSTAT_STATE 3).wr (.lane 3) .LANE_RXCFG_MODE 2).regs } : Dev) : Dev).decodeSdi (3 : Fin 144).val (([] : List Bool) ++ ((({} : SdiCode).sendAll ((trsWords 2 0x200).flatMap word10Bits)).2 : List Bool) : List Bool) : Dev × List Bool).1.framer (3 : Fin 144).val : FramerI).lastEav + (10 : Nat) * ((((({ framers := [(3, { decoded := 9, streams := 2, lineLen := 2640, savOff := some 10 })], regs := ((({} : Dev).wr (.lane 3) .LANE_FRMSTAT_STATE 3).wr (.lane 3) .LANE_RXCFG_MODE 2).regs } : Dev) : Dev).decodeSdi (3 : Fin 144).val (([] : List Bool) ++ ((({} : SdiCode).sendAll ((trsWords 2 0x200).flatMap word10Bits)).2 : List Bool) : List Bool) : Dev × List Bool).1.framer (3 : Fin 144).val : FramerI).streams * 10))) ∧
    ((({} : Dev).stopped = false)) ∧
    ((((({} : Dev).wr (.lane 3) .LANE_FRMSTAT_STATE 2).wr (.lane 3) .LANE_RXCFG_MODE 2 : Dev).stopped = false) ∧ (((({} : Dev).wr (.lane 3) .LANE_FRMSTAT_STATE 2).wr (.lane 3) .LANE_RXCFG_MODE 2 : Dev).frmState (3 : Fin 144).val = 2) ∧ (modeSdi (((({} : Dev).wr (.lane 3) .LANE_FRMSTAT_STATE 2).wr (.lane 3) .LANE_RXCFG_MODE 2 : Dev).rd (.lane (3 : Fin 144).val) .LANE_RXCFG_MODE) = true)) ∧
    (((((({} : Dev).wr (.lane 3) .LANE_FRMSTAT_STATE 4).wr (.lane 3) .LANE_RXCFG_MODE 2).wr (.lane 3) .LANE_FRM_X_LOSS_TRS 5 : Dev).stopped = false) ∧ (modeSdi ((((({} : Dev).wr (.lane 3) .LANE_FRMSTAT_STATE 4).wr (.lane 3) .LANE_RXCFG_MODE 2).wr (.lane 3) .LANE_FRM_X_LOSS_TRS 5 : Dev).rd (.lane (3 : Fin 144).val) .LANE_RXCFG_MODE) = true) ∧ (((((({} : Dev).wr (.lane 3) .LANE_FRMSTAT_STATE 4).wr (.lane 3) .LANE_RXCFG_MODE 2).wr (.lane 3) .LANE_FRM_X_LOSS_TRS 5 : Dev).frmState (3 : Fin 144).val = 3 ∨ (((({} : Dev).wr (.lane 3) .LANE_FRMSTAT_STATE 4).wr (.lane 3) .LANE_RXCFG_MODE 2).wr (.lane 3) .LANE_FRM_X_LOSS_TRS 5 : Dev).frmState (3 : Fin 144).val = 4)) ∧ (((((({} : Dev).wr (.lane 3) .LANE_FRMSTAT_STATE 4).wr (.lane 3) .LANE_RXCFG_MODE 2).wr (.lane 3) .LANE_FRM_X_LOSS_TRS 5 : Dev).framer (3 : Fin 144).val : FramerI).missing + 1 < (((({} : Dev).wr (.lane 3) .LANE_FRMSTAT_STATE 4).wr (.lane 3) .LANE_RXCFG_MODE 2).wr (.lane 3) .LANE_FRM_X_LOSS_TRS 5 : Dev).rd (.lane (3 : Fin 144).val) .LANE_FRM_X_LOSS_TRS)) ∧
    (((((({} : Dev).wr (.lane 3) .LANE_FRMSTAT_STATE 4).wr (.lane 3) .LANE_RXCFG_MODE 2).wr (.lane 3) .LANE_FRM_X_LOSS_TRS 1 : Dev).stopped = false) ∧ (modeSdi ((((({} : Dev).wr (.lane 3) .LANE_FRMSTAT_STATE 4).wr (.lane 3) .LANE_RXCFG_MODE 2).wr (.lane 3) .LANE_FRM_X_LOSS_TRS 1 : Dev).rd (.lane (3 : Fin 144).val) .LANE_RXCFG_MODE) = true) ∧ (((((({} : Dev).wr (.lane 3) .LANE_FRMSTAT_STATE 4).wr (.lane 3) .LANE_RXCFG_MODE 2).wr (.lane 3) .LANE_FRM_X_LOSS_TRS 1 : Dev).frmState (3 : Fin 144).val = 3 ∨ (((({} : Dev).wr (.lane 3) .LANE_FRMSTAT_STATE 4).wr (.lane 3) .LANE_RXCFG_MODE 2).wr (.lane 3) .LANE_FRM_X_LOSS_TRS 1 : Dev).frmState (3 : Fin 144).val = 4)) ∧ ((((({} : Dev).wr (.lane 3) .LANE_FRMSTAT_STATE 4).wr (.lane 3) .LANE_RXCFG_MODE 2).wr (.lane 3) .LANE_FRM_X_LOSS_TRS 1 : Dev).rd (.lane (3 : Fin 144).val) .LANE_FRM_X_LOSS_TRS ≤ ((((({} : Dev).wr (.lane 3) .LANE_FRMSTAT_STATE 4).wr (.lane 3) .LANE_RXCFG_MODE 2).wr (.lane 3) .LANE_FRM_X_LOSS_TRS 1 : Dev).framer (3 : Fin 144).val : FramerI).missing + 1)) ∧
    ((((({} : Dev).wr (.lane 3) .LANE_FRMSTAT_STATE 4).wr (.lane 3) .LANE_RXCFG_MODE 2 : Dev).stopped = false) ∧ (modeSdi (((({} : Dev).wr (.lane 3) .LANE_FRMSTAT_STATE 4).wr (.lane 3) .LANE_RXCFG_MODE 2 : Dev).rd (.lane (3 : Fin 144).val) .LANE_RXCFG_MODE) = true) ∧ ((((({} : Dev).wr (.lane 3) .LANE_FRMSTAT_STATE 4).wr (.lane 3) .LANE_RXCFG_MODE 2 : Dev).frmState (3 : Fin 144).val = 3 ∨ ((({} : Dev).wr (.lane 3) .LANE_FRMSTAT_STATE 4).wr (.lane 3) .LANE_RXCFG_MODE 2 : Dev).frmState (3 : Fin 144).val = 4))) ∧
    ((((({} : Dev).wr (.lane 3) .LANE_FRMSTAT_STATE 3).wr (.lane 3) .LANE_RXCFG_MODE 2 : Dev).stopped = false) ∧ (modeSdi (((({} : Dev).wr (.lane 3) .LANE_FRMSTAT_STATE 3).wr (.lane 3) .LANE_RXCFG_MODE 2 : Dev).rd (.lane (3 : Fin 144).val) .LANE_RXCFG_MODE) = true) ∧ ((((({} : Dev).wr (.lane 3) .LANE_FRMSTAT_STATE 3).wr (.lane 3) .LANE_RXCFG_MODE 2 : Dev).frmState (3 : Fin 144).val = 3 ∨ ((({} : Dev).wr (.lane 3) .LANE_FRMSTAT_STATE 3).wr (.lane 3) .LANE_RXCFG_MODE 2 : Dev).frmState (3 : Fin 144).val = 4)) ∧ (((((((({} : Dev).wr (.lane 3) .LANE_FRMSTAT_STATE 3).wr (.lane 3) .LANE_RXCFG_MODE 2 : Dev).wr (.lane (3 : Fin 144).val) .LANE_FRMLINES_BOND_SKEW (field16 (0 : Int))).skewSettle (3 : Fin 144).val).showFreq (3 : Fin 144).val (0 : Int) : Dev).framer (3 : Fin 144).val).inFrame = false)) ∧
    (((({ framers := [(3, { inFrame := true, streams := 2, lineLen := 2640, lineNo := 1126 })], regs := ((({} : Dev).wr (.lane 3) .LANE_FRMSTAT_STATE 3).wr (.lane 3) .LANE_RXCFG_MODE 2).regs } : Dev) : Dev).stopped = false) ∧ (modeSdi ((({ framers := [(3, { inFrame := true, streams := 2, lineLen := 2640, lineNo := 1126 })], regs := ((({} : Dev).wr (.lane 3) .LANE_FRMSTAT_STATE 3).wr (.lane 3) .LANE_RXCFG_MODE 2).regs } : Dev) : Dev).rd (.lane (3 : Fin 144).val) .LANE_RXCFG_MODE) = true) ∧ ((((((({ framers := [(3, { inFrame := true, streams := 2, lineLen := 2640, lineNo := 1126 })], regs := ((({} : Dev).wr (.lane 3) .LANE_FRMSTAT_STATE 3).wr (.lane 3) .LANE_RXCFG_MODE 2).regs } : Dev) : Dev).wr (.lane (3 : Fin 144).val) .LANE_FRMLINES_BOND_SKEW (field16 (0 : Int))).skewSettle (3 : Fin 144).val).showFreq (3 : Fin 144).val (0 : Int) : Dev).framer (3 : Fin 144).val).inFrame = true) ∧ (((((({ framers := [(3, { inFrame := true, streams := 2, lineLen := 2640, lineNo := 1126 })], regs := ((({} : Dev).wr (.lane 3) .LANE_FRMSTAT_STATE 3).wr (.lane 3) .LANE_RXCFG_MODE 2).regs } : Dev) : Dev).wr (.lane (3 : Fin 144).val) .LANE_FRMLINES_BOND_SKEW (field16 (0 : Int))).skewSettle (3 : Fin 144).val).showFreq (3 : Fin 144).val (0 : Int) : Dev).frmState (3 : Fin 144).val = 3)) ∧
    (((({ framers := [(3, { inFrame := true, streams := 2, lineLen := 2640, lineNo := 1126 })], regs := ((({} : Dev).wr (.lane 3) .LANE_FRMSTAT_STATE 4).wr (.lane 3) .LANE_RXCFG_MODE 2).regs } : Dev) : Dev).stopped = false) ∧ (modeSdi ((({ framers := [(3, { inFrame := true, streams := 2, lineLen := 2640, lineNo := 1126 })], regs := ((({} : Dev).wr (.lane 3) .LANE_FRMSTAT_STATE 4).wr (.lane 3) .LANE_RXCFG_MODE 2).regs } : Dev) : Dev).rd (.lane (3 : Fin 144).val) .LANE_RXCFG_MODE) = true) ∧ ((((((({ framers := [(3, { inFrame := true, streams := 2, lineLen := 2640, lineNo := 1126 })], regs := ((({} : Dev).wr (.lane 3) .LANE_FRMSTAT_STATE 4).wr (.lane 3) .LANE_RXCFG_MODE 2).regs } : Dev) : Dev).wr (.lane (3 : Fin 144).val) .LANE_FRMLINES_BOND_SKEW (field16 (0 : Int))).skewSettle (3 : Fin 144).val).showFreq (3 : Fin 144).val (0 : Int) : Dev).framer (3 : Fin 144).val).inFrame = true) ∧ (((((({ framers := [(3, { inFrame := true, streams := 2, lineLen := 2640, lineNo := 1126 })], regs := ((({} : Dev).wr (.lane 3) .LANE_FRMSTAT_STATE 4).wr (.lane 3) .LANE_RXCFG_MODE 2).regs } : Dev) : Dev).wr (.lane (3 : Fin 144).val) .LANE_FRMLINES_BOND_SKEW (field16 (0 : Int))).skewSettle (3 : Fin 144).val).showFreq (3 : Fin 144).val (0 : Int) : Dev).frmState (3 : Fin 144).val = 4)) ∧
    ((((({} : Dev).wr (.lane 3) .LANE_FRMSTAT_STATE 4).wr (.lane 3) .LANE_RXCFG_MODE 2 : Dev).stopped = false) ∧ (modeSdi (((({} : Dev).wr (.lane 3) .LANE_FRMSTAT_STATE 4).wr (.lane 3) .LANE_RXCFG_MODE 2 : Dev).rd (.lane (3 : Fin 144).val) .LANE_RXCFG_MODE) = true) ∧ ((((({} : Dev).wr (.lane 3) .LANE_FRMSTAT_STATE 4).wr (.lane 3) .LANE_RXCFG_MODE 2 : Dev).frmState (3 : Fin 144).val = 3 ∨ ((({} : Dev).wr (.lane 3) .LANE_FRMSTAT_STATE 4).wr (.lane 3) .LANE_RXCFG_MODE 2 : Dev).frmState (3 : Fin 144).val = 4))) ∧
    (((((({} : Dev).wr (.lane 3) .LANE_FRMSTAT_STATE 4).wr (.lane 3) .LANE_RXCFG_MODE 1).wrOn (.lane 3) .LANE_FRMCFG_EDH_CHECK true : Dev).stopped = false) ∧ ((((({} : Dev).wr (.lane 3) .LANE_FRMSTAT_STATE 4).wr (.lane 3) .LANE_RXCFG_MODE 1).wrOn (.lane 3) .LANE_FRMCFG_EDH_CHECK true : Dev).rxMode (3 : Fin 144).val = 1) ∧ (((((({} : Dev).wr (.lane 3) .LANE_FRMSTAT_STATE 4).wr (.lane 3) .LANE_RXCFG_MODE 1).wrOn (.lane 3) .LANE_FRMCFG_EDH_CHECK true : Dev).frmState (3 : Fin 144).val = 3 ∨ (((({} : Dev).wr (.lane 3) .LANE_FRMSTAT_STATE 4).wr (.lane 3) .LANE_RXCFG_MODE 1).wrOn (.lane 3) .LANE_FRMCFG_EDH_CHECK true : Dev).frmState (3 : Fin 144).val = 4)) ∧ ((((({} : Dev).wr (.lane 3) .LANE_FRMSTAT_STATE 4).wr (.lane 3) .LANE_RXCFG_MODE 1).wrOn (.lane 3) .LANE_FRMCFG_EDH_CHECK true : Dev).on (.lane (3 : Fin 144).val) .LANE_FRMCFG_EDH_CHECK = true)) ∧
    (((((({} : Dev).wr (.lane 3) .LANE_FRMSTAT_STATE 4).wr (.lane 3) .LANE_RXCFG_MODE 1).wrOn (.lane 3) .LANE_FRMCFG_EDH_CHECK true : Dev).stopped = false) ∧ ((((({} : Dev).wr (.lane 3) .LANE_FRMSTAT_STATE 4).wr (.lane 3) .LANE_RXCFG_MODE 1).wrOn (.lane 3) .LANE_FRMCFG_EDH_CHECK true : Dev).rxMode (3 : Fin 144).val = 1) ∧ (((((({} : Dev).wr (.lane 3) .LANE_FRMSTAT_STATE 4).wr (.lane 3) .LANE_RXCFG_MODE 1).wrOn (.lane 3) .LANE_FRMCFG_EDH_CHECK true : Dev).frmState (3 : Fin 144).val = 3 ∨ (((({} : Dev).wr (.lane 3) .LANE_FRMSTAT_STATE 4).wr (.lane 3) .LANE_RXCFG_MODE 1).wrOn (.lane 3) .LANE_FRMCFG_EDH_CHECK true : Dev).frmState (3 : Fin 144).val = 4)) ∧ ((((({} : Dev).wr (.lane 3) .LANE_FRMSTAT_STATE 4).wr (.lane 3) .LANE_RXCFG_MODE 1).wrOn (.lane 3) .LANE_FRMCFG_EDH_CHECK true : Dev).on (.lane (3 : Fin 144).val) .LANE_FRMCFG_EDH_CHECK = true) ∧ (((((({} : Dev).wr (.lane 3) .LANE_FRMSTAT_STATE 4).wr (.lane 3) .LANE_RXCFG_MODE 1).wrOn (.lane 3) .LANE_FRMCFG_EDH_CHECK true : Dev).framer (3 : Fin 144).val).edhAgrees ((([]).take 3 : List Word10) ++ (([]).drop 3 : List Word10) : List Word10) = true)) ∧
    (((((({} : Dev).wr (.lane 3) .LANE_FRMSTAT_STATE 4).wr (.lane 3) .LANE_RXCFG_MODE 1).wrOn (.lane 3) .LANE_FRMCFG_EDH_CHECK true : Dev).stopped = false) ∧ ((((({} : Dev).wr (.lane 3) .LANE_FRMSTAT_STATE 4).wr (.lane 3) .LANE_RXCFG_MODE 1).wrOn (.lane 3) .LANE_FRMCFG_EDH_CHECK true : Dev).rxMode (3 : Fin 144).val = 1) ∧ (((((({} : Dev).wr (.lane 3) .LANE_FRMSTAT_STATE 4).wr (.lane 3) .LANE_RXCFG_MODE 1).wrOn (.lane 3) .LANE_FRMCFG_EDH_CHECK true : Dev).frmState (3 : Fin 144).val = 3 ∨ (((({} : Dev).wr (.lane 3) .LANE_FRMSTAT_STATE 4).wr (.lane 3) .LANE_RXCFG_MODE 1).wrOn (.lane 3) .LANE_FRMCFG_EDH_CHECK true : Dev).frmState (3 : Fin 144).val = 4)) ∧ ((((({} : Dev).wr (.lane 3) .LANE_FRMSTAT_STATE 4).wr (.lane 3) .LANE_RXCFG_MODE 1).wrOn (.lane 3) .LANE_FRMCFG_EDH_CHECK true : Dev).on (.lane (3 : Fin 144).val) .LANE_FRMCFG_EDH_CHECK = true) ∧ (((((({} : Dev).wr (.lane 3) .LANE_FRMSTAT_STATE 4).wr (.lane 3) .LANE_RXCFG_MODE 1).wrOn (.lane 3) .LANE_FRMCFG_EDH_CHECK true : Dev).framer (3 : Fin 144).val).edhAgrees ((([0x0FC, 0x104, 0x180]).take 3 : List Word10) ++ (([0x0FC, 0x104, 0x180]).drop 3 : List Word10) : List Word10) = false)) ∧
    (((((({} : Dev).wr (.lane 3) .LANE_FRMSTAT_STATE 4).wr (.lane 3) .LANE_RXCFG_MODE 1).wrOn (.lane 3) .LANE_FRMCFG_EDH_CHECK false : Dev).stopped = false) ∧ ((((({} : Dev).wr (.lane 3) .LANE_FRMSTAT_STATE 4).wr (.lane 3) .LANE_RXCFG_MODE 1).wrOn (.lane 3) .LANE_FRMCFG_EDH_CHECK false : Dev).rxMode (3 : Fin 144).val = 1) ∧ (((((({} : Dev).wr (.lane 3) .LANE_FRMSTAT_STATE 4).wr (.lane 3) .LANE_RXCFG_MODE 1).wrOn (.lane 3) .LANE_FRMCFG_EDH_CHECK false : Dev).frmState (3 : Fin 144).val = 3 ∨ (((({} : Dev).wr (.lane 3) .LANE_FRMSTAT_STATE 4).wr (.lane 3) .LANE_RXCFG_MODE 1).wrOn (.lane 3) .LANE_FRMCFG_EDH_CHECK false : Dev).frmState (3 : Fin 144).val = 4)) ∧ ((((({} : Dev).wr (.lane 3) .LANE_FRMSTAT_STATE 4).wr (.lane 3) .LANE_RXCFG_MODE 1).wrOn (.lane 3) .LANE_FRMCFG_EDH_CHECK false : Dev).on (.lane (3 : Fin 144).val) .LANE_FRMCFG_EDH_CHECK = false)) ∧
    (((((((({} : Dev).wr (.lane 3) .LANE_FRMSTAT_STATE 4).wr (.lane 3) .LANE_RXCFG_MODE 2).wrOn (.lane 3) .LANE_FRMCFG_PID_CHECK true).wr (.lane 3) .LANE_FRMSTAT_FMT 6) : Dev).stopped = false) ∧ ((((((({} : Dev).wr (.lane 3) .LANE_FRMSTAT_STATE 4).wr (.lane 3) .LANE_RXCFG_MODE 2).wrOn (.lane 3) .LANE_FRMCFG_PID_CHECK true).wr (.lane 3) .LANE_FRMSTAT_FMT 6) : Dev).delivers (3 : Fin 144).val = true) ∧ (modeSdi ((((((({} : Dev).wr (.lane 3) .LANE_FRMSTAT_STATE 4).wr (.lane 3) .LANE_RXCFG_MODE 2).wrOn (.lane 3) .LANE_FRMCFG_PID_CHECK true).wr (.lane 3) .LANE_FRMSTAT_FMT 6) : Dev).rxMode (3 : Fin 144).val) = true) ∧ ((((((({} : Dev).wr (.lane 3) .LANE_FRMSTAT_STATE 4).wr (.lane 3) .LANE_RXCFG_MODE 2).wrOn (.lane 3) .LANE_FRMCFG_PID_CHECK true).wr (.lane 3) .LANE_FRMSTAT_FMT 6) : Dev).on (.lane (3 : Fin 144).val) .LANE_FRMCFG_PID_CHECK = true) ∧ (pidLine ((((((({} : Dev).wr (.lane 3) .LANE_FRMSTAT_STATE 4).wr (.lane 3) .LANE_RXCFG_MODE 2).wrOn (.lane 3) .LANE_FRMCFG_PID_CHECK true).wr (.lane 3) .LANE_FRMSTAT_FMT 6) : Dev).frmFmt (3 : Fin 144).val) (10 : Nat) = true) ∧ ((([] : List Word10).length ≠ 8 ∨ ([] : List Word10).drop 7 ≠ [checksumWord (([] : List Word10).take 7)]))) ∧
    (((((((({} : Dev).wr (.lane 3) .LANE_FRMSTAT_STATE 4).wr (.lane 3) .LANE_RXCFG_MODE 2).wrOn (.lane 3) .LANE_FRMCFG_PID_CHECK true).wr (.lane 3) .LANE_FRMSTAT_FMT 6) : Dev).stopped = false) ∧ ((((((({} : Dev).wr (.lane 3) .LANE_FRMSTAT_STATE 4).wr (.lane 3) .LANE_RXCFG_MODE 2).wrOn (.lane 3) .LANE_FRMCFG_PID_CHECK true).wr (.lane 3) .LANE_FRMSTAT_FMT 6) : Dev).delivers (3 : Fin 144).val = true) ∧ (modeSdi ((((((({} : Dev).wr (.lane 3) .LANE_FRMSTAT_STATE 4).wr (.lane 3) .LANE_RXCFG_MODE 2).wrOn (.lane 3) .LANE_FRMCFG_PID_CHECK true).wr (.lane 3) .LANE_FRMSTAT_FMT 6) : Dev).rxMode (3 : Fin 144).val) = true) ∧ ((((((({} : Dev).wr (.lane 3) .LANE_FRMSTAT_STATE 4).wr (.lane 3) .LANE_RXCFG_MODE 2).wrOn (.lane 3) .LANE_FRMCFG_PID_CHECK true).wr (.lane 3) .LANE_FRMSTAT_FMT 6) : Dev).on (.lane (3 : Fin 144).val) .LANE_FRMCFG_PID_CHECK = true) ∧ (pidLine ((((((({} : Dev).wr (.lane 3) .LANE_FRMSTAT_STATE 4).wr (.lane 3) .LANE_RXCFG_MODE 2).wrOn (.lane 3) .LANE_FRMCFG_PID_CHECK true).wr (.lane 3) .LANE_FRMSTAT_FMT 6) : Dev).frmFmt (3 : Fin 144).val) (10 : Nat) = true) ∧ (([0x241, 0x101, 0x104, 0, 0, 0, 0, checksumWord [0x241, 0x101, 0x104, 0, 0, 0, 0]] : List Word10).length = 8) ∧ (([0x241, 0x101, 0x104, 0, 0, 0, 0, checksumWord [0x241, 0x101, 0x104, 0, 0, 0, 0]] : List Word10).drop 7 = [checksumWord (([0x241, 0x101, 0x104, 0, 0, 0, 0, checksumWord [0x241, 0x101, 0x104, 0, 0, 0, 0]] : List Word10).take 7)]) ∧ (((((((({} : Dev).wr (.lane 3) .LANE_FRMSTAT_STATE 4).wr (.lane 3) .LANE_RXCFG_MODE 2).wrOn (.lane 3) .LANE_FRMCFG_PID_CHECK true).wr (.lane 3) .LANE_FRMSTAT_FMT 6) : Dev).rxBond (3 : Fin 144).val).length ≤ 1)) ∧
    (((((((({} : Dev).wr (.lane 3) .LANE_FRMSTAT_STATE 4).wr (.lane 3) .LANE_RXCFG_MODE 4).wrOn (.lane 3) .LANE_FRMCFG_PID_CHECK true).wr (.lane 3) .LANE_FRMSTAT_FMT 6) : Dev).stopped = false) ∧ ((((((({} : Dev).wr (.lane 3) .LANE_FRMSTAT_STATE 4).wr (.lane 3) .LANE_RXCFG_MODE 4).wrOn (.lane 3) .LANE_FRMCFG_PID_CHECK true).wr (.lane 3) .LANE_FRMSTAT_FMT 6) : Dev).delivers (3 : Fin 144).val = true) ∧ (modeSdi ((((((({} : Dev).wr (.lane 3) .LANE_FRMSTAT_STATE 4).wr (.lane 3) .LANE_RXCFG_MODE 4).wrOn (.lane 3) .LANE_FRMCFG_PID_CHECK true).wr (.lane 3) .LANE_FRMSTAT_FMT 6) : Dev).rxMode (3 : Fin 144).val) = true) ∧ ((((((({} : Dev).wr (.lane 3) .LANE_FRMSTAT_STATE 4).wr (.lane 3) .LANE_RXCFG_MODE 4).wrOn (.lane 3) .LANE_FRMCFG_PID_CHECK true).wr (.lane 3) .LANE_FRMSTAT_FMT 6) : Dev).on (.lane (3 : Fin 144).val) .LANE_FRMCFG_PID_CHECK = true) ∧ (pidLine ((((((({} : Dev).wr (.lane 3) .LANE_FRMSTAT_STATE 4).wr (.lane 3) .LANE_RXCFG_MODE 4).wrOn (.lane 3) .LANE_FRMCFG_PID_CHECK true).wr (.lane 3) .LANE_FRMSTAT_FMT 6) : Dev).frmFmt (3 : Fin 144).val) (10 : Nat) = true) ∧ ((((((({} : Dev).wr (.lane 3) .LANE_FRMSTAT_STATE 4).wr (.lane 3) .LANE_RXCFG_MODE 4).wrOn (.lane 3) .LANE_FRMCFG_PID_CHECK true).wr (.lane 3) .LANE_FRMSTAT_FMT 6) : Dev).rxMode (3 : Fin 144).val = 4) ∧ (([0x241, 0x101, 0x104, 0, 0, 0, 0, checksumWord [0x241, 0x101, 0x104, 0, 0, 0, 0]] : List Word10).length = 8) ∧ (([0x241, 0x101, 0x104, 0, 0, 0, 0, checksumWord [0x241, 0x101, 0x104, 0, 0, 0, 0]] : List Word10).drop 7 = [checksumWord (([0x241, 0x101, 0x104, 0, 0, 0, 0, checksumWord [0x241, 0x101, 0x104, 0, 0, 0, 0]] : List Word10).take 7)]) ∧ (((((((({} : Dev).wr (.lane 3) .LANE_FRMSTAT_STATE 4).wr (.lane 3) .LANE_RXCFG_MODE 4).wrOn (.lane 3) .LANE_FRMCFG_PID_CHECK true).wr (.lane 3) .LANE_FRMSTAT_FMT 6) : Dev).rxBond (3 : Fin 144).val).length ≤ 1)) ∧
    ((({} : Dev).admits (0 : Master).val (.lane (3 : Fin 144).val) 0x088 1 = true)) ∧
    ((((({} : Dev).wr (.lane 3) .LANE_FRMSTAT_STATE 1).wr (.lane 3) .LANE_RXCFG_MODE 9 : Dev).stopped = false) ∧ (((({} : Dev).wr (.lane 3) .LANE_FRMSTAT_STATE 1).wr (.lane 3) .LANE_RXCFG_MODE 9 : Dev).isMadi (3 : Fin 144).val = true) ∧ (((({} : Dev).wr (.lane 3) .LANE_FRMSTAT_STATE 1).wr (.lane 3) .LANE_RXCFG_MODE 9 : Dev).frmState (3 : Fin 144).val = 1) ∧ (((if (((({} : Dev).wr (.lane 3) .LANE_FRMSTAT_STATE 1).wr (.lane 3) .LANE_RXCFG_MODE 9 : Dev).framer (3 : Fin 144).val : FramerI).syncRun ≠ 0 ∧ (((({} : Dev).wr (.lane 3) .LANE_FRMSTAT_STATE 1).wr (.lane 3) .LANE_RXCFG_MODE 9 : Dev).framer (3 : Fin 144).val : FramerI).syncPhase = (2 : Fin 5).val ∧ (8 : Nat) % 8 = 0 then (((({} : Dev).wr (.lane 3) .LANE_FRMSTAT_STATE 1).wr (.lane 3) .LANE_RXCFG_MODE 9 : Dev).framer (3 : Fin 144).val : FramerI).syncRun + 1 else 1) : Nat) < 3)) ∧
    ((({ (({} : Dev).wr (.lane 3) .LANE_FRMSTAT_STATE 1).wr (.lane 3) .LANE_RXCFG_MODE 9 with framers := [(3, { syncRun := 2, syncPhase := 2 })] } : Dev).stopped = false) ∧ (({ (({} : Dev).wr (.lane 3) .LANE_FRMSTAT_STATE 1).wr (.lane 3) .LANE_RXCFG_MODE 9 with framers := [(3, { syncRun := 2, syncPhase := 2 })] } : Dev).isMadi (3 : Fin 144).val = true) ∧ (({ (({} : Dev).wr (.lane 3) .LANE_FRMSTAT_STATE 1).wr (.lane 3) .LANE_RXCFG_MODE 9 with framers := [(3, { syncRun := 2, syncPhase := 2 })] } : Dev).frmState (3 : Fin 144).val = 1) ∧ ((({ (({} : Dev).wr (.lane 3) .LANE_FRMSTAT_STATE 1).wr (.lane 3) .LANE_RXCFG_MODE 9 with framers := [(3, { syncRun := 2, syncPhase := 2 })] } : Dev).framer (3 : Fin 144).val : FramerI).syncRun = 2) ∧ ((({ (({} : Dev).wr (.lane 3) .LANE_FRMSTAT_STATE 1).wr (.lane 3) .LANE_RXCFG_MODE 9 with framers := [(3, { syncRun := 2, syncPhase := 2 })] } : Dev).framer (3 : Fin 144).val : FramerI).syncPhase = (2 : Fin 5).val) ∧ ((8 : Nat) % 8 = 0)) ∧
    ((((((({} : Dev).wr (.lane 3) .LANE_FRMSTAT_STATE 4).wr (.lane 3) .LANE_RXCFG_MODE 9)) : Dev).stopped = false) ∧ (((((({} : Dev).wr (.lane 3) .LANE_FRMSTAT_STATE 4).wr (.lane 3) .LANE_RXCFG_MODE 9)) : Dev).isMadi (3 : Fin 144).val = true) ∧ (((((({} : Dev).wr (.lane 3) .LANE_FRMSTAT_STATE 4).wr (.lane 3) .LANE_RXCFG_MODE 9)) : Dev).frmState (3 : Fin 144).val = 4) ∧ ((((((({} : Dev).wr (.lane 3) .LANE_FRMSTAT_STATE 4).wr (.lane 3) .LANE_RXCFG_MODE 9)) : Dev).madiCodes (3 : Fin 144).val ([true] : List Bool) : Dev).frmState (3 : Fin 144).val = 4) ∧ (((((((({} : Dev).wr (.lane 3) .LANE_FRMSTAT_STATE 4).wr (.lane 3) .LANE_RXCFG_MODE 9)) : Dev).madiCodes (3 : Fin 144).val ([true] : List Bool) : Dev).madiPlace (3 : Fin 144).val (true : Bool) : Dev).frmState (3 : Fin 144).val = 4)) ∧
    ((((({} : Dev).wr (.lane 3) .LANE_FRMSTAT_STATE 2).wr (.lane 3) .LANE_RXCFG_MODE 9 : Dev).stopped = false) ∧ (((({} : Dev).wr (.lane 3) .LANE_FRMSTAT_STATE 2).wr (.lane 3) .LANE_RXCFG_MODE 9 : Dev).isMadi (3 : Fin 144).val = true) ∧ (((({} : Dev).wr (.lane 3) .LANE_FRMSTAT_STATE 2).wr (.lane 3) .LANE_RXCFG_MODE 9 : Dev).frmState (3 : Fin 144).val = 2) ∧ (((if (true : Bool) then ((({} : Dev).wr (.lane 3) .LANE_FRMSTAT_STATE 2).wr (.lane 3) .LANE_RXCFG_MODE 9 : Dev).madiHunt (3 : Fin 144).val (7 : Nat) else ((({} : Dev).wr (.lane 3) .LANE_FRMSTAT_STATE 2).wr (.lane 3) .LANE_RXCFG_MODE 9 : Dev)) : Dev).frmState (3 : Fin 144).val = 2)) ∧
    ((((({} : Dev).wr (.lane 3) .LANE_FRMSTAT_STATE 4).wr (.lane 3) .LANE_RXCFG_MODE 9 : Dev).stopped = false) ∧ (((({} : Dev).wr (.lane 3) .LANE_FRMSTAT_STATE 4).wr (.lane 3) .LANE_RXCFG_MODE 9 : Dev).isMadi (3 : Fin 144).val = true) ∧ (((({} : Dev).wr (.lane 3) .LANE_FRMSTAT_STATE 4).wr (.lane 3) .LANE_RXCFG_MODE 9 : Dev).frmState (3 : Fin 144).val = 4)) ∧
    ((((({} : Dev).wr (.lane 3) .LANE_FRMSTAT_STATE 1).wr (.lane 3) .LANE_RXCFG_MODE 10 : Dev).stopped = false) ∧ (((({} : Dev).wr (.lane 3) .LANE_FRMSTAT_STATE 1).wr (.lane 3) .LANE_RXCFG_MODE 10 : Dev).isAsi (3 : Fin 144).val = true) ∧ (((({} : Dev).wr (.lane 3) .LANE_FRMSTAT_STATE 1).wr (.lane 3) .LANE_RXCFG_MODE 10 : Dev).frmState (3 : Fin 144).val = 1)) ∧
    ((((({} : Dev).wr (.lane 3) .LANE_FRMSTAT_STATE 4).wr (.lane 3) .LANE_RXCFG_MODE 10 : Dev).stopped = false) ∧ (((({} : Dev).wr (.lane 3) .LANE_FRMSTAT_STATE 4).wr (.lane 3) .LANE_RXCFG_MODE 10 : Dev).isAsi (3 : Fin 144).val = true) ∧ (((({} : Dev).wr (.lane 3) .LANE_FRMSTAT_STATE 4).wr (.lane 3) .LANE_RXCFG_MODE 10 : Dev).frmState (3 : Fin 144).val ≠ 1) ∧ ((((true :: (((({} : Dev).wr (.lane 3) .LANE_FRMSTAT_STATE 4).wr (.lane 3) .LANE_RXCFG_MODE 10 : Dev).framer (3 : Fin 144).val).badLast).take 64 : List Bool).filter (fun y => !y)).length < 16)) ∧
    ((((({} : Dev).wr (.lane 3) .LANE_FRMSTAT_STATE 4).wr (.lane 3) .LANE_RXCFG_MODE 10 : Dev).stopped = false) ∧ (((({} : Dev).wr (.lane 3) .LANE_FRMSTAT_STATE 4).wr (.lane 3) .LANE_RXCFG_MODE 10 : Dev).isAsi (3 : Fin 144).val = true) ∧ (((({} : Dev).wr (.lane 3) .LANE_FRMSTAT_STATE 4).wr (.lane 3) .LANE_RXCFG_MODE 10 : Dev).frmState (3 : Fin 144).val ≠ 1) ∧ ((((false :: (((({} : Dev).wr (.lane 3) .LANE_FRMSTAT_STATE 4).wr (.lane 3) .LANE_RXCFG_MODE 10 : Dev).framer (3 : Fin 144).val).badLast).take 64 : List Bool).filter (fun y => !y)).length < 16)) ∧
    ((({ (({} : Dev).wr (.lane 3) .LANE_FRMSTAT_STATE 4).wr (.lane 3) .LANE_RXCFG_MODE 10 with framers := [(3, { badLast := List.replicate 15 false })] } : Dev).stopped = false) ∧ (({ (({} : Dev).wr (.lane 3) .LANE_FRMSTAT_STATE 4).wr (.lane 3) .LANE_RXCFG_MODE 10 with framers := [(3, { badLast := List.replicate 15 false })] } : Dev).isAsi (3 : Fin 144).val = true) ∧ (({ (({} : Dev).wr (.lane 3) .LANE_FRMSTAT_STATE 4).wr (.lane 3) .LANE_RXCFG_MODE 10 with framers := [(3, { badLast := List.replicate 15 false })] } : Dev).frmState (3 : Fin 144).val ≠ 1) ∧ (16 ≤ (((false :: (({ (({} : Dev).wr (.lane 3) .LANE_FRMSTAT_STATE 4).wr (.lane 3) .LANE_RXCFG_MODE 10 with framers := [(3, { badLast := List.replicate 15 false })] } : Dev).framer (3 : Fin 144).val).badLast).take 64).filter (fun y => !y)).length)) ∧
    (((((({} : Dev).wr (.lane 3) .LANE_FRMSTAT_STATE 4).wr (.lane 3) .LANE_RXCFG_MODE 10) : Dev).stopped = false) ∧ ((((({} : Dev).wr (.lane 3) .LANE_FRMSTAT_STATE 4).wr (.lane 3) .LANE_RXCFG_MODE 10) : Dev).isAsi (3 : Fin 144).val = true) ∧ ((((({} : Dev).wr (.lane 3) .LANE_FRMSTAT_STATE 4).wr (.lane 3) .LANE_RXCFG_MODE 10) : Dev).frmState (3 : Fin 144).val = 4)) ∧
    (((((({} : Dev).wr (.lane 3) .LANE_FRMSTAT_STATE 4).wr (.lane 3) .LANE_RXCFG_MODE 10) : Dev).stopped = false) ∧ ((((({} : Dev).wr (.lane 3) .LANE_FRMSTAT_STATE 4).wr (.lane 3) .LANE_RXCFG_MODE 10) : Dev).isAsi (3 : Fin 144).val = true) ∧ ((((({} : Dev).wr (.lane 3) .LANE_FRMSTAT_STATE 4).wr (.lane 3) .LANE_RXCFG_MODE 10) : Dev).frmState (3 : Fin 144).val = 4) ∧ (((((({} : Dev).wr (.lane 3) .LANE_FRMSTAT_STATE 4).wr (.lane 3) .LANE_RXCFG_MODE 10) : Dev).framer (3 : Fin 144).val).pktMissing + 1 < 4)) ∧
    (((({ framers := [(3, { pktMissing := 3 })], regs := ((({} : Dev).wr (.lane 3) .LANE_FRMSTAT_STATE 4).wr (.lane 3) .LANE_RXCFG_MODE 10).regs } : Dev) : Dev).stopped = false) ∧ ((({ framers := [(3, { pktMissing := 3 })], regs := ((({} : Dev).wr (.lane 3) .LANE_FRMSTAT_STATE 4).wr (.lane 3) .LANE_RXCFG_MODE 10).regs } : Dev) : Dev).isAsi (3 : Fin 144).val = true) ∧ ((({ framers := [(3, { pktMissing := 3 })], regs := ((({} : Dev).wr (.lane 3) .LANE_FRMSTAT_STATE 4).wr (.lane 3) .LANE_RXCFG_MODE 10).regs } : Dev) : Dev).frmState (3 : Fin 144).val = 4) ∧ (4 ≤ ((({ framers := [(3, { pktMissing := 3 })], regs := ((({} : Dev).wr (.lane 3) .LANE_FRMSTAT_STATE 4).wr (.lane 3) .LANE_RXCFG_MODE 10).regs } : Dev) : Dev).framer (3 : Fin 144).val).pktMissing + 1)) ∧
    ((((({} : Dev).wr (.lane 3) .LANE_FRMSTAT_STATE 2).wr (.lane 3) .LANE_RXCFG_MODE 10 : Dev).stopped = false) ∧ (((({} : Dev).wr (.lane 3) .LANE_FRMSTAT_STATE 2).wr (.lane 3) .LANE_RXCFG_MODE 10 : Dev).isAsi (3 : Fin 144).val = true) ∧ (((({} : Dev).wr (.lane 3) .LANE_FRMSTAT_STATE 2).wr (.lane 3) .LANE_RXCFG_MODE 10 : Dev).frmState (3 : Fin 144).val = 2) ∧ ((((({} : Dev).wr (.lane 3) .LANE_FRMSTAT_STATE 2).wr (.lane 3) .LANE_RXCFG_MODE 10 : Dev).asiAdmits (3 : Fin 144).val (188 : Nat) = false ∨ (((({} : Dev).wr (.lane 3) .LANE_FRMSTAT_STATE 2).wr (.lane 3) .LANE_RXCFG_MODE 10 : Dev).framer (3 : Fin 144).val).pktRun = 0))) ∧
    (((({ framers := [(3, { pktRun := 2, pktSpacing := 188 })], regs := ((({} : Dev).wr (.lane 3) .LANE_FRMSTAT_STATE 2).wr (.lane 3) .LANE_RXCFG_MODE 10).regs } : Dev) : Dev).stopped = false) ∧ ((({ framers := [(3, { pktRun := 2, pktSpacing := 188 })], regs := ((({} : Dev).wr (.lane 3) .LANE_FRMSTAT_STATE 2).wr (.lane 3) .LANE_RXCFG_MODE 10).regs } : Dev) : Dev).isAsi (3 : Fin 144).val = true) ∧ ((({ framers := [(3, { pktRun := 2, pktSpacing := 188 })], regs := ((({} : Dev).wr (.lane 3) .LANE_FRMSTAT_STATE 2).wr (.lane 3) .LANE_RXCFG_MODE 10).regs } : Dev) : Dev).frmState (3 : Fin 144).val = 2) ∧ ((({ framers := [(3, { pktRun := 2, pktSpacing := 188 })], regs := ((({} : Dev).wr (.lane 3) .LANE_FRMSTAT_STATE 2).wr (.lane 3) .LANE_RXCFG_MODE 10).regs } : Dev) : Dev).asiAdmits (3 : Fin 144).val (188 : Nat) = true) ∧ (((({ framers := [(3, { pktRun := 2, pktSpacing := 188 })], regs := ((({} : Dev).wr (.lane 3) .LANE_FRMSTAT_STATE 2).wr (.lane 3) .LANE_RXCFG_MODE 10).regs } : Dev) : Dev).framer (3 : Fin 144).val).pktRun = 2) ∧ ((188 : Nat) = ((({ framers := [(3, { pktRun := 2, pktSpacing := 188 })], regs := ((({} : Dev).wr (.lane 3) .LANE_FRMSTAT_STATE 2).wr (.lane 3) .LANE_RXCFG_MODE 10).regs } : Dev) : Dev).framer (3 : Fin 144).val).pktSpacing)) := by
  refine ⟨?_, ?_, ?_, ?_, ?_, ?_, ?_, ?_, ?_, ?_, ?_, ?_, ?_, ?_, ?_, ?_, ?_, ?_, ?_, ?_, ?_, ?_, ?_, ?_, ?_, ?_, ?_, ?_, ?_, ?_, ?_, ?_, ?_, ?_, ?_, ?_, ?_⟩ <;> decide +kernel

theorem test_witness_TileLinkCommandsComplete :
    (((({ framers := [(150, {})], regs := (({} : Dev).wr (.tll 6) .TLL_FRMSTAT_STATE 1).regs } : Dev) : Dev).stopped = false) ∧ ((({ framers := [(150, {})], regs := (({} : Dev).wr (.tll 6) .TLL_FRMSTAT_STATE 1).regs } : Dev) : Dev).frmState (144 + (6 : Fin 16).val) ≠ 0) ∧ ((({ framers := [(150, {})], regs := (({} : Dev).wr (.tll 6) .TLL_FRMSTAT_STATE 1).regs } : Dev) : Dev).on (.tll (6 : Fin 16).val) .TLL_FRMSTAT_BLOCK_LOCK = false) ∧ ((((((0 : BitVec 66) ++ (2 : BitVec 66) : BitVec 132) >>> ((({ framers := [(150, {})], regs := (({} : Dev).wr (.tll 6) .TLL_FRMSTAT_STATE 1).regs } : Dev) : Dev).framer (144 + (6 : Fin 16).val) : FramerI).phase).extractLsb' 0 2 : BitVec 2) == 0b01 || ((((0 : BitVec 66) ++ (2 : BitVec 66) : BitVec 132) >>> ((({ framers := [(150, {})], regs := (({} : Dev).wr (.tll 6) .TLL_FRMSTAT_STATE 1).regs } : Dev) : Dev).framer (144 + (6 : Fin 16).val) : FramerI).phase).extractLsb' 0 2 : BitVec 2) == 0b10) = true) ∧ (((({ framers := [(150, {})], regs := (({} : Dev).wr (.tll 6) .TLL_FRMSTAT_STATE 1).regs } : Dev) : Dev).framer (144 + (6 : Fin 16).val) : FramerI).hdrRun + 1 < 64)) ∧
    (((({ framers := [(150, {})], regs := (({} : Dev).wr (.tll 6) .TLL_FRMSTAT_STATE 1).regs } : Dev) : Dev).stopped = false) ∧ ((({ framers := [(150, {})], regs := (({} : Dev).wr (.tll 6) .TLL_FRMSTAT_STATE 1).regs } : Dev) : Dev).frmState (144 + (6 : Fin 16).val) ≠ 0) ∧ ((({ framers := [(150, {})], regs := (({} : Dev).wr (.tll 6) .TLL_FRMSTAT_STATE 1).regs } : Dev) : Dev).on (.tll (6 : Fin 16).val) .TLL_FRMSTAT_BLOCK_LOCK = false) ∧ ((((((0 : BitVec 66) ++ (3 : BitVec 66) : BitVec 132) >>> ((({ framers := [(150, {})], regs := (({} : Dev).wr (.tll 6) .TLL_FRMSTAT_STATE 1).regs } : Dev) : Dev).framer (144 + (6 : Fin 16).val) : FramerI).phase).extractLsb' 0 2 : BitVec 2) == 0b01 || ((((0 : BitVec 66) ++ (3 : BitVec 66) : BitVec 132) >>> ((({ framers := [(150, {})], regs := (({} : Dev).wr (.tll 6) .TLL_FRMSTAT_STATE 1).regs } : Dev) : Dev).framer (144 + (6 : Fin 16).val) : FramerI).phase).extractLsb' 0 2 : BitVec 2) == 0b10) = false)) ∧
    (((({ framers := [(150, { hdrRun := 63 })], regs := (({} : Dev).wr (.tll 6) .TLL_FRMSTAT_STATE 1).regs } : Dev) : Dev).stopped = false) ∧ ((({ framers := [(150, { hdrRun := 63 })], regs := (({} : Dev).wr (.tll 6) .TLL_FRMSTAT_STATE 1).regs } : Dev) : Dev).frmState (144 + (6 : Fin 16).val) ≠ 0) ∧ ((({ framers := [(150, { hdrRun := 63 })], regs := (({} : Dev).wr (.tll 6) .TLL_FRMSTAT_STATE 1).regs } : Dev) : Dev).on (.tll (6 : Fin 16).val) .TLL_FRMSTAT_BLOCK_LOCK = false) ∧ ((((((0 : BitVec 66) ++ (2 : BitVec 66) : BitVec 132) >>> ((({ framers := [(150, { hdrRun := 63 })], regs := (({} : Dev).wr (.tll 6) .TLL_FRMSTAT_STATE 1).regs } : Dev) : Dev).framer (144 + (6 : Fin 16).val) : FramerI).phase).extractLsb' 0 2 : BitVec 2) == 0b01 || ((((0 : BitVec 66) ++ (2 : BitVec 66) : BitVec 132) >>> ((({ framers := [(150, { hdrRun := 63 })], regs := (({} : Dev).wr (.tll 6) .TLL_FRMSTAT_STATE 1).regs } : Dev) : Dev).framer (144 + (6 : Fin 16).val) : FramerI).phase).extractLsb' 0 2 : BitVec 2) == 0b10) = true) ∧ (((({ framers := [(150, { hdrRun := 63 })], regs := (({} : Dev).wr (.tll 6) .TLL_FRMSTAT_STATE 1).regs } : Dev) : Dev).framer (144 + (6 : Fin 16).val) : FramerI).hdrRun + 1 = 64)) ∧
    (((({ framers := [(150, {})], regs := (({} : Dev).wr (.tll 6) .TLL_FRMSTAT_STATE 4|>.wrOn (.tll 6) .TLL_FRMSTAT_BLOCK_LOCK true).regs } : Dev) : Dev).stopped = false) ∧ ((({ framers := [(150, {})], regs := (({} : Dev).wr (.tll 6) .TLL_FRMSTAT_STATE 4|>.wrOn (.tll 6) .TLL_FRMSTAT_BLOCK_LOCK true).regs } : Dev) : Dev).frmState (144 + (6 : Fin 16).val) ≠ 0) ∧ ((({ framers := [(150, {})], regs := (({} : Dev).wr (.tll 6) .TLL_FRMSTAT_STATE 4|>.wrOn (.tll 6) .TLL_FRMSTAT_BLOCK_LOCK true).regs } : Dev) : Dev).frmState (144 + (6 : Fin 16).val) = 4) ∧ ((({ framers := [(150, {})], regs := (({} : Dev).wr (.tll 6) .TLL_FRMSTAT_STATE 4|>.wrOn (.tll 6) .TLL_FRMSTAT_BLOCK_LOCK true).regs } : Dev) : Dev).on (.tll (6 : Fin 16).val) .TLL_FRMSTAT_BLOCK_LOCK = true) ∧ (((({ framers := [(150, {})], regs := (({} : Dev).wr (.tll 6) .TLL_FRMSTAT_STATE 4|>.wrOn (.tll 6) .TLL_FRMSTAT_BLOCK_LOCK true).regs } : Dev) : Dev).tlHeader (6 : Fin 16).val (((((0 : BitVec 66) ++ (2 : BitVec 66) : BitVec 132) >>> ((({ framers := [(150, {})], regs := (({} : Dev).wr (.tll 6) .TLL_FRMSTAT_STATE 4|>.wrOn (.tll 6) .TLL_FRMSTAT_BLOCK_LOCK true).regs } : Dev) : Dev).framer (144 + (6 : Fin 16).val) : FramerI).phase).extractLsb' 0 2 : BitVec 2) == 0b01 || ((((0 : BitVec 66) ++ (2 : BitVec 66) : BitVec 132) >>> ((({ framers := [(150, {})], regs := (({} : Dev).wr (.tll 6) .TLL_FRMSTAT_STATE 4|>.wrOn (.tll 6) .TLL_FRMSTAT_BLOCK_LOCK true).regs } : Dev) : Dev).framer (144 + (6 : Fin 16).val) : FramerI).phase).extractLsb' 0 2 : BitVec 2) == 0b10) : Dev).on (.tll (6 : Fin 16).val) .TLL_FRMSTAT_BLOCK_LOCK = true)) ∧
    ((({ ({} : Dev).wr (.tll 6) .TLL_FRMSTAT_STATE 2 with tlrx := [(6, { sync := 0b10, block := tlMarker })] } : Dev).stopped = false) ∧ (({ ({} : Dev).wr (.tll 6) .TLL_FRMSTAT_STATE 2 with tlrx := [(6, { sync := 0b10, block := tlMarker })] } : Dev).frmState (144 + (6 : Fin 16).val) = 2) ∧ (isMarker (({ ({} : Dev).wr (.tll 6) .TLL_FRMSTAT_STATE 2 with tlrx := [(6, { sync := 0b10, block := tlMarker })] } : Dev).tlr (6 : Fin 16).val).sync (({ ({} : Dev).wr (.tll 6) .TLL_FRMSTAT_STATE 2 with tlrx := [(6, { sync := 0b10, block := tlMarker })] } : Dev).tlr (6 : Fin 16).val).block = true)) ∧
    ((({ ({} : Dev).wr (.tll 6) .TLL_FRMSTAT_STATE 3 with framers := [(150, { markerRun := 2 })], tlrx := [(6, { sync := 0b10, block := tlMarker })] } : Dev).stopped = false) ∧ (({ ({} : Dev).wr (.tll 6) .TLL_FRMSTAT_STATE 3 with framers := [(150, { markerRun := 2 })], tlrx := [(6, { sync := 0b10, block := tlMarker })] } : Dev).frmState (144 + (6 : Fin 16).val) = 3) ∧ ((({ ({} : Dev).wr (.tll 6) .TLL_FRMSTAT_STATE 3 with framers := [(150, { markerRun := 2 })], tlrx := [(6, { sync := 0b10, block := tlMarker })] } : Dev).tlr (6 : Fin 16).val).pos = 0) ∧ (isMarker (({ ({} : Dev).wr (.tll 6) .TLL_FRMSTAT_STATE 3 with framers := [(150, { markerRun := 2 })], tlrx := [(6, { sync := 0b10, block := tlMarker })] } : Dev).tlr (6 : Fin 16).val).sync (({ ({} : Dev).wr (.tll 6) .TLL_FRMSTAT_STATE 3 with framers := [(150, { markerRun := 2 })], tlrx := [(6, { sync := 0b10, block := tlMarker })] } : Dev).tlr (6 : Fin 16).val).block = true) ∧ ((({ ({} : Dev).wr (.tll 6) .TLL_FRMSTAT_STATE 3 with framers := [(150, { markerRun := 2 })], tlrx := [(6, { sync := 0b10, block := tlMarker })] } : Dev).framer (144 + (6 : Fin 16).val)).markerRun = 2)) ∧
    ((({ ({} : Dev).wr (.tll 6) .TLL_FRMSTAT_STATE 4 with tlrx := [(6, { pos := 804 })] } : Dev).stopped = false) ∧ (({ ({} : Dev).wr (.tll 6) .TLL_FRMSTAT_STATE 4 with tlrx := [(6, { pos := 804 })] } : Dev).frmState (144 + (6 : Fin 16).val) = 4) ∧ ((({ ({} : Dev).wr (.tll 6) .TLL_FRMSTAT_STATE 4 with tlrx := [(6, { pos := 804 })] } : Dev).tlr (6 : Fin 16).val).pos % 402 = 0)) ∧
    ((({ ({} : Dev).wr (.tll 6) .TLL_FRMSTAT_STATE 4 with tlrx := [(6, { pos := 804, bipPrev := some 0 })] } : Dev).stopped = false) ∧ (({ ({} : Dev).wr (.tll 6) .TLL_FRMSTAT_STATE 4 with tlrx := [(6, { pos := 804, bipPrev := some 0 })] } : Dev).tlAt (6 : Fin 16).val 2 = true) ∧ ((({ ({} : Dev).wr (.tll 6) .TLL_FRMSTAT_STATE 4 with tlrx := [(6, { pos := 804, bipPrev := some 0 })] } : Dev).tlr (6 : Fin 16).val).bipPrev = some (0 : BitVec 32))) ∧
    ((({ ({} : Dev).wr (.tll 6) .TLL_FRMSTAT_STATE 4 with tlrx := [(6, { pos := 1206, rowOk := true, srqPrev := [some 0, some 0] })] } : Dev).stopped = false) ∧ (({ ({} : Dev).wr (.tll 6) .TLL_FRMSTAT_STATE 4 with tlrx := [(6, { pos := 1206, rowOk := true, srqPrev := [some 0, some 0] })] } : Dev).tlAt (6 : Fin 16).val 3 = true) ∧ ((({ ({} : Dev).wr (.tll 6) .TLL_FRMSTAT_STATE 4 with tlrx := [(6, { pos := 1206, rowOk := true, srqPrev := [some 0, some 0] })] } : Dev).tlr (6 : Fin 16).val).rowOk = true) ∧ ((({ ({} : Dev).wr (.tll 6) .TLL_FRMSTAT_STATE 4 with tlrx := [(6, { pos := 1206, rowOk := true, srqPrev := [some 0, some 0] })] } : Dev).tlr (6 : Fin 16).val).srqPrev = [some (blockByte (({ ({} : Dev).wr (.tll 6) .TLL_FRMSTAT_STATE 4 with tlrx := [(6, { pos := 1206, rowOk := true, srqPrev := [some 0, some 0] })] } : Dev).tlr (6 : Fin 16).val).block 1 * 256 + blockByte (({ ({} : Dev).wr (.tll 6) .TLL_FRMSTAT_STATE 4 with tlrx := [(6, { pos := 1206, rowOk := true, srqPrev := [some 0, some 0] })] } : Dev).tlr (6 : Fin 16).val).block 2 : Nat), some (blockByte (({ ({} : Dev).wr (.tll 6) .TLL_FRMSTAT_STATE 4 with tlrx := [(6, { pos := 1206, rowOk := true, srqPrev := [some 0, some 0] })] } : Dev).tlr (6 : Fin 16).val).block 1 * 256 + blockByte (({ ({} : Dev).wr (.tll 6) .TLL_FRMSTAT_STATE 4 with tlrx := [(6, { pos := 1206, rowOk := true, srqPrev := [some 0, some 0] })] } : Dev).tlr (6 : Fin 16).val).block 2 : Nat)])) ∧
    ((({ ({} : Dev).wr (.tll 6) .TLL_FRMSTAT_STATE 4 with tlrx := [(6, { pos := 1608 })] } : Dev).stopped = false) ∧ (({ ({} : Dev).wr (.tll 6) .TLL_FRMSTAT_STATE 4 with tlrx := [(6, { pos := 1608 })] } : Dev).tlAt (6 : Fin 16).val 4 = true)) ∧
    ((({ ({} : Dev).wr (.tll 6) .TLL_FRMSTAT_STATE 4 with tlrx := [(6, { pos := 402 })] } : Dev).stopped = false) ∧ (({ ({} : Dev).wr (.tll 6) .TLL_FRMSTAT_STATE 4 with tlrx := [(6, { pos := 402 })] } : Dev).tlAt (6 : Fin 16).val 1 = true) ∧ (((if ((List.range 7).foldl (fun a i => a * 256 + blockByte (({ ({} : Dev).wr (.tll 6) .TLL_FRMSTAT_STATE 4 with tlrx := [(6, { pos := 402 })] } : Dev).tlr (6 : Fin 16).val).block (i + 1)) 0 : Nat) = (({ ({} : Dev).wr (.tll 6) .TLL_FRMSTAT_STATE 4 with tlrx := [(6, { pos := 402 })] } : Dev).tlr (6 : Fin 16).val).trace ∧ (({ ({} : Dev).wr (.tll 6) .TLL_FRMSTAT_STATE 4 with tlrx := [(6, { pos := 402 })] } : Dev).tlr (6 : Fin 16).val).traceRun ≠ 0 then (({ ({} : Dev).wr (.tll 6) .TLL_FRMSTAT_STATE 4 with tlrx := [(6, { pos := 402 })] } : Dev).tlr (6 : Fin 16).val).traceRun + 1 else 1) : Nat) < 3)) ∧
    ((({ ({} : Dev).wr (.tll 6) .TLL_FRMSTAT_STATE 4 with tlrx := [(6, { pos := 402, traceRun := 2 })] } : Dev).stopped = false) ∧ (({ ({} : Dev).wr (.tll 6) .TLL_FRMSTAT_STATE 4 with tlrx := [(6, { pos := 402, traceRun := 2 })] } : Dev).tlAt (6 : Fin 16).val 1 = true) ∧ ((({ ({} : Dev).wr (.tll 6) .TLL_FRMSTAT_STATE 4 with tlrx := [(6, { pos := 402, traceRun := 2 })] } : Dev).tlr (6 : Fin 16).val).trace = ((List.range 7).foldl (fun a i => a * 256 + blockByte (({ ({} : Dev).wr (.tll 6) .TLL_FRMSTAT_STATE 4 with tlrx := [(6, { pos := 402, traceRun := 2 })] } : Dev).tlr (6 : Fin 16).val).block (i + 1)) 0 : Nat)) ∧ ((({ ({} : Dev).wr (.tll 6) .TLL_FRMSTAT_STATE 4 with tlrx := [(6, { pos := 402, traceRun := 2 })] } : Dev).tlr (6 : Fin 16).val).traceRun = 2)) ∧
    (((({ regs := ((({} : Dev).wr (.tll 6) .TLL_FRMSTAT_STATE 4).wrOn (.tll 6) .TLL_CC_CFG_ENABLE true).regs, tlrx := [(6, { pos := 4020, rowOk := true, block := 134 * 256 })] } : Dev) : Dev).stopped = false) ∧ ((({ regs := ((({} : Dev).wr (.tll 6) .TLL_FRMSTAT_STATE 4).wrOn (.tll 6) .TLL_CC_CFG_ENABLE true).regs, tlrx := [(6, { pos := 4020, rowOk := true, block := 134 * 256 })] } : Dev) : Dev).delivers (144 + (6 : Fin 16).val) = true) ∧ (((({ regs := ((({} : Dev).wr (.tll 6) .TLL_FRMSTAT_STATE 4).wrOn (.tll 6) .TLL_CC_CFG_ENABLE true).regs, tlrx := [(6, { pos := 4020, rowOk := true, block := 134 * 256 })] } : Dev) : Dev).tlr (6 : Fin 16).val).pos % 402 = 0) ∧ (8 ≤ ((({ regs := ((({} : Dev).wr (.tll 6) .TLL_FRMSTAT_STATE 4).wrOn (.tll 6) .TLL_CC_CFG_ENABLE true).regs, tlrx := [(6, { pos := 4020, rowOk := true, block := 134 * 256 })] } : Dev) : Dev).tlr (6 : Fin 16).val).pos / 402) ∧ (((({ regs := ((({} : Dev).wr (.tll 6) .TLL_FRMSTAT_STATE 4).wrOn (.tll 6) .TLL_CC_CFG_ENABLE true).regs, tlrx := [(6, { pos := 4020, rowOk := true, block := 134 * 256 })] } : Dev) : Dev).tlr (6 : Fin 16).val).rowOk = true) ∧ ((({ regs := ((({} : Dev).wr (.tll 6) .TLL_FRMSTAT_STATE 4).wrOn (.tll 6) .TLL_CC_CFG_ENABLE true).regs, tlrx := [(6, { pos := 4020, rowOk := true, block := 134 * 256 })] } : Dev) : Dev).on (.tll (6 : Fin 16).val) .TLL_CC_CFG_ENABLE = true) ∧ ((blockByte ((({ regs := ((({} : Dev).wr (.tll 6) .TLL_FRMSTAT_STATE 4).wrOn (.tll 6) .TLL_CC_CFG_ENABLE true).regs, tlrx := [(6, { pos := 4020, rowOk := true, block := 134 * 256 })] } : Dev) : Dev).tlr (6 : Fin 16).val).block 1 : Nat) ≠ 0) ∧ ((if (blockByte ((({ regs := ((({} : Dev).wr (.tll 6) .TLL_FRMSTAT_STATE 4).wrOn (.tll 6) .TLL_CC_CFG_ENABLE true).regs, tlrx := [(6, { pos := 4020, rowOk := true, block := 134 * 256 })] } : Dev) : Dev).tlr (6 : Fin 16).val).block 1 : Nat).testBit 7 then some [] else ((({ regs := ((({} : Dev).wr (.tll 6) .TLL_FRMSTAT_STATE 4).wrOn (.tll 6) .TLL_CC_CFG_ENABLE true).regs, tlrx := [(6, { pos := 4020, rowOk := true, block := 134 * 256 })] } : Dev) : Dev).tlr (6 : Fin 16).val).cc) = some ([] : List Byte))) ∧
    ((({ (({} : Dev).wrOn (.tll 6) .TLL_CC_CFG_ENABLE true).wr (.tll 6) .TLL_LSTAT_TX_STATE 2 with queues := [(0, { pkts := [{ words := [(0x04030201, false)] }] })] } : Dev).stopped = false) ∧ (({ (({} : Dev).wrOn (.tll 6) .TLL_CC_CFG_ENABLE true).wr (.tll 6) .TLL_LSTAT_TX_STATE 2 with queues := [(0, { pkts := [{ words := [(0x04030201, false)] }] })] } : Dev).on (.tll (6 : Fin 16).val) .TLL_CC_CFG_ENABLE = true) ∧ (({ (({} : Dev).wrOn (.tll 6) .TLL_CC_CFG_ENABLE true).wr (.tll 6) .TLL_LSTAT_TX_STATE 2 with queues := [(0, { pkts := [{ words := [(0x04030201, false)] }] })] } : Dev).rd (.tll (6 : Fin 16).val) .TLL_LSTAT_TX_STATE = 2) ∧ ((({ (({} : Dev).wrOn (.tll 6) .TLL_CC_CFG_ENABLE true).wr (.tll 6) .TLL_LSTAT_TX_STATE 2 with queues := [(0, { pkts := [{ words := [(0x04030201, false)] }] })] } : Dev).tlt (6 : Fin 16).val).queue = []) ∧ ((({ (({} : Dev).wrOn (.tll 6) .TLL_CC_CFG_ENABLE true).wr (.tll 6) .TLL_LSTAT_TX_STATE 2 with queues := [(0, { pkts := [{ words := [(0x04030201, false)] }] })] } : Dev).readPoint (({ (({} : Dev).wrOn (.tll 6) .TLL_CC_CFG_ENABLE true).wr (.tll 6) .TLL_LSTAT_TX_STATE 2 with queues := [(0, { pkts := [{ words := [(0x04030201, false)] }] })] } : Dev).rd (.tll (6 : Fin 16).val) .TLL_CC_CFG_TXQ)).isSome = true) ∧ ((((Dev.takePkt 65536 ({ (({} : Dev).wrOn (.tll 6) .TLL_CC_CFG_ENABLE true).wr (.tll 6) .TLL_LSTAT_TX_STATE 2 with queues := [(0, { pkts := [{ words := [(0x04030201, false)] }] })] } : Dev) (({ (({} : Dev).wrOn (.tll 6) .TLL_CC_CFG_ENABLE true).wr (.tll 6) .TLL_LSTAT_TX_STATE 2 with queues := [(0, { pkts := [{ words := [(0x04030201, false)] }] })] } : Dev).rd (.tll (6 : Fin 16).val) .TLL_CC_CFG_TXQ) [] false false : Dev × List Word × Bool × Bool × Nat).2.1.flatMap wordBytes).take (pktBytes (Dev.takePkt 65536 ({ (({} : Dev).wrOn (.tll 6) .TLL_CC_CFG_ENABLE true).wr (.tll 6) .TLL_LSTAT_TX_STATE 2 with queues := [(0, { pkts := [{ words := [(0x04030201, false)] }] })] } : Dev) (({ (({} : Dev).wrOn (.tll 6) .TLL_CC_CFG_ENABLE true).wr (.tll 6) .TLL_LSTAT_TX_STATE 2 with queues := [(0, { pkts := [{ words := [(0x04030201, false)] }] })] } : Dev).rd (.tll (6 : Fin 16).val) .TLL_CC_CFG_TXQ) [] false false : Dev × List Word × Bool × Bool × Nat).2.1.length (Dev.takePkt 65536 ({ (({} : Dev).wrOn (.tll 6) .TLL_CC_CFG_ENABLE true).wr (.tll 6) .TLL_LSTAT_TX_STATE 2 with queues := [(0, { pkts := [{ words := [(0x04030201, false)] }] })] } : Dev) (({ (({} : Dev).wrOn (.tll 6) .TLL_CC_CFG_ENABLE true).wr (.tll 6) .TLL_LSTAT_TX_STATE 2 with queues := [(0, { pkts := [{ words := [(0x04030201, false)] }] })] } : Dev).rd (.tll (6 : Fin 16).val) .TLL_CC_CFG_TXQ) [] false false : Dev × List Word × Bool × Bool × Nat).2.2.2.2) : List Byte).length ≤ 4096)) ∧
    ((({ ({} : Dev).wr (.tll 6) .TLL_FRMSTAT_STATE 4 with tlrx := [(6, { pos := 403 })] } : Dev).stopped = false) ∧ (({ ({} : Dev).wr (.tll 6) .TLL_FRMSTAT_STATE 4 with tlrx := [(6, { pos := 403 })] } : Dev).delivers (144 + (6 : Fin 16).val) = true) ∧ ((({ ({} : Dev).wr (.tll 6) .TLL_FRMSTAT_STATE 4 with tlrx := [(6, { pos := 403 })] } : Dev).tlr (6 : Fin 16).val).pos % 402 = 1)) ∧
    ((({ ({} : Dev).slotWr 6 2 .TLL_RXSLOT_STATE 1 with tlrx := [(6, { slots := [(2, { hdr := some { kind := .header, payload := 5 } })] })] } : Dev).stopped = false) ∧ ((({ ({} : Dev).slotWr 6 2 .TLL_RXSLOT_STATE 1 with tlrx := [(6, { slots := [(2, { hdr := some { kind := .header, payload := 5 } })] })] } : Dev).rxs (6 : Fin 16).val (2 : Fin 16).val).hdr = some ({ kind := .header, payload := 5 } : Brick)) ∧ (({ ({} : Dev).slotWr 6 2 .TLL_RXSLOT_STATE 1 with tlrx := [(6, { slots := [(2, { hdr := some { kind := .header, payload := 5 } })] })] } : Dev).slotRd (6 : Fin 16).val (2 : Fin 16).val .TLL_RXSLOT_STATE ≠ 0)) ∧
    (((({} : Dev).wr (.tll 6) .TLL_LSTAT_TX_STATE 2 : Dev).stopped = false)) ∧
    (((({} : Dev).wr (.tll 6) .TLL_LSTAT_TX_STATE 2 : Dev).stopped = false) ∧ ((({} : Dev).wr (.tll 6) .TLL_LSTAT_TX_STATE 2 : Dev).rd (.tll (6 : Fin 16).val) .TLL_LSTAT_TX_STATE = 2)) ∧
    ((({} : Dev).stopped = false) ∧ (({} : Dev).rd (.tll (6 : Fin 16).val) .TLL_LSTAT_TX_STATE ≠ 2)) ∧
    ((({} : Dev).admits (0 : Master).val (.tll (6 : Fin 16).val) (0x200 + 4 * (2 : Fin 16).val) ((resetWord (regKey (.tll 6) 0 0x208)) : Word) = true)) ∧
    ((({} : Dev).admits (0 : Master).val (.tll (6 : Fin 16).val) 0x30C 1 = true)) ∧
    ((({} : Dev).admits (0 : Master).val (.tll (6 : Fin 16).val) 0x070 1 = true)) := by
  refine ⟨?_, ?_, ?_, ?_, ?_, ?_, ?_, ?_, ?_, ?_, ?_, ?_, ?_, ?_, ?_, ?_, ?_, ?_, ?_, ?_, ?_, ?_⟩ <;> decide +kernel

theorem test_witness_CourseCommandsComplete :
    ((({} : Dev).stopped = false) ∧ ((({} : Dev).tileFramed (3 : Fin 1408).val = false ∨ ({} : Dev).tileData (3 : Fin 1408).val = true))) ∧
    (((((({} : Dev).wr (.lane 0) .LANE_RXCFG_MODE 3).wr (.lane 0) .LANE_FRMSTAT_STATE 4) : Dev).stopped = false) ∧ ((((({} : Dev).wr (.lane 0) .LANE_RXCFG_MODE 3).wr (.lane 0) .LANE_FRMSTAT_STATE 4) : Dev).tileFramed (1 : Fin 1408).val = true) ∧ ((((({} : Dev).wr (.lane 0) .LANE_RXCFG_MODE 3).wr (.lane 0) .LANE_FRMSTAT_STATE 4) : Dev).tileData (1 : Fin 1408).val = false)) ∧
    ((({} : Dev).stopped = false)) ∧
    ((({} : Dev).admits (0 : Master).val (.lane (3 : Fin 144).val) 0x0A0 ((resetWord (regKey (.lane 3) 0 0x0A0)) : Word) = true)) ∧
    ((({} : Dev).admits (0 : Master).val (.tll (3 : Fin 16).val) (0x0A0 + 4 * (1 : Fin 2).val) (0 : Word) = true)) ∧
    ((({} : Dev).admits (0 : Master).val (rxPage (3 : RxId).val) 0x420 ((resetWord (regKey (.lane 3) 0 0x420)) : Word) = true)) ∧
    ((({} : Dev).admits (0 : Master).val (rxPage (3 : RxId).val) 0x0AC 1 = true)) ∧
    ((((({} : Dev).wr (.lane 3) .LANE_FRMSTAT_STATE 4).wr (.lane 3) .LANE_RXCFG_MODE 2 : Dev).stopped = false) ∧ ((((({} : Dev).wr (.lane 3) .LANE_FRMSTAT_STATE 4).wr (.lane 3) .LANE_RXCFG_MODE 2 : Dev).frmState (3 : Fin 144).val = 3 ∨ ((({} : Dev).wr (.lane 3) .LANE_FRMSTAT_STATE 4).wr (.lane 3) .LANE_RXCFG_MODE 2 : Dev).frmState (3 : Fin 144).val = 4)) ∧ (modeSdi (((({} : Dev).wr (.lane 3) .LANE_FRMSTAT_STATE 4).wr (.lane 3) .LANE_RXCFG_MODE 2 : Dev).rxMode (3 : Fin 144).val) = true) ∧ (([] : List Word10).length < 3)) ∧
    ((((({} : Dev).wr (.lane 3) .LANE_FRMSTAT_STATE 4).wr (.lane 3) .LANE_RXCFG_MODE 2 : Dev).stopped = false) ∧ ((((({} : Dev).wr (.lane 3) .LANE_FRMSTAT_STATE 4).wr (.lane 3) .LANE_RXCFG_MODE 2 : Dev).frmState (3 : Fin 144).val = 3 ∨ ((({} : Dev).wr (.lane 3) .LANE_FRMSTAT_STATE 4).wr (.lane 3) .LANE_RXCFG_MODE 2 : Dev).frmState (3 : Fin 144).val = 4)) ∧ (modeSdi (((({} : Dev).wr (.lane 3) .LANE_FRMSTAT_STATE 4).wr (.lane 3) .LANE_RXCFG_MODE 2 : Dev).rxMode (3 : Fin 144).val) = true) ∧ (((headerOk (0x241 : Word10) && headerOk (0x107 : Word10) && headerOk (0x101 : Word10)) = false ∨ ([] : List Word10).length ≤ (0x101 : Word10).toNat % 256))) ∧
    ((((({} : Dev).wr (.lane 3) .LANE_FRMSTAT_STATE 4).wr (.lane 3) .LANE_RXCFG_MODE 2 : Dev).stopped = false) ∧ ((((({} : Dev).wr (.lane 3) .LANE_FRMSTAT_STATE 4).wr (.lane 3) .LANE_RXCFG_MODE 2 : Dev).frmState (3 : Fin 144).val = 3 ∨ ((({} : Dev).wr (.lane 3) .LANE_FRMSTAT_STATE 4).wr (.lane 3) .LANE_RXCFG_MODE 2 : Dev).frmState (3 : Fin 144).val = 4)) ∧ (modeSdi (((({} : Dev).wr (.lane 3) .LANE_FRMSTAT_STATE 4).wr (.lane 3) .LANE_RXCFG_MODE 2 : Dev).rxMode (3 : Fin 144).val) = true) ∧ ((headerOk (0x241 : Word10) && headerOk (0x107 : Word10) && headerOk (0x101 : Word10)) = true) ∧ ((0x101 : Word10).toNat % 256 < ([0x101, 0x14A] : List Word10).length) ∧ (checksumWord (((0x241 : Word10) :: (0x107 : Word10) :: (0x101 : Word10) :: ([0x101, 0x14A] : List Word10)).take ((0x101 : Word10).toNat % 256 + 3)) = ([0x101, 0x14A] : List Word10).getD ((0x101 : Word10).toNat % 256) 0) ∧ (((({} : Dev).wr (.lane 3) .LANE_FRMSTAT_STATE 4).wr (.lane 3) .LANE_RXCFG_MODE 2 : Dev).isAudioDid (3 : Fin 144).val (0 : Nat) ((0x241 : Word10).toNat % 256) = false) ∧ ((0x241 : Word10).toNat % 256 ≠ 0x80)) ∧
    ((((({} : Dev).wr (.lane 3) .LANE_FRMSTAT_STATE 4).wr (.lane 3) .LANE_RXCFG_MODE 2 : Dev).stopped = false) ∧ ((((({} : Dev).wr (.lane 3) .LANE_FRMSTAT_STATE 4).wr (.lane 3) .LANE_RXCFG_MODE 2 : Dev).frmState (3 : Fin 144).val = 3 ∨ ((({} : Dev).wr (.lane 3) .LANE_FRMSTAT_STATE 4).wr (.lane 3) .LANE_RXCFG_MODE 2 : Dev).frmState (3 : Fin 144).val = 4)) ∧ (modeSdi (((({} : Dev).wr (.lane 3) .LANE_FRMSTAT_STATE 4).wr (.lane 3) .LANE_RXCFG_MODE 2 : Dev).rxMode (3 : Fin 144).val) = true) ∧ ((headerOk (0x180 : Word10) && headerOk (0x107 : Word10) && headerOk (0x101 : Word10)) = true) ∧ ((0x101 : Word10).toNat % 256 < ([0x101, checksumWord [0x180, 0x107, 0x101, 0x101]] : List Word10).length) ∧ (checksumWord (((0x180 : Word10) :: (0x107 : Word10) :: (0x101 : Word10) :: ([0x101, checksumWord [0x180, 0x107, 0x101, 0x101]] : List Word10)).take ((0x101 : Word10).toNat % 256 + 3)) = ([0x101, checksumWord [0x180, 0x107, 0x101, 0x101]] : List Word10).getD ((0x101 : Word10).toNat % 256) 0) ∧ (((({} : Dev).wr (.lane 3) .LANE_FRMSTAT_STATE 4).wr (.lane 3) .LANE_RXCFG_MODE 2 : Dev).isAudioDid (3 : Fin 144).val (0 : Nat) ((0x180 : Word10).toNat % 256) = false) ∧ ((0x180 : Word10).toNat % 256 = 0x80)) ∧
    ((((({} : Dev).wr (.lane 3) .LANE_FRMSTAT_STATE 4).wr (.lane 3) .LANE_RXCFG_MODE 2 : Dev).stopped = false) ∧ ((((({} : Dev).wr (.lane 3) .LANE_FRMSTAT_STATE 4).wr (.lane 3) .LANE_RXCFG_MODE 2 : Dev).frmState (3 : Fin 144).val = 3 ∨ ((({} : Dev).wr (.lane 3) .LANE_FRMSTAT_STATE 4).wr (.lane 3) .LANE_RXCFG_MODE 2 : Dev).frmState (3 : Fin 144).val = 4)) ∧ (modeSdi (((({} : Dev).wr (.lane 3) .LANE_FRMSTAT_STATE 4).wr (.lane 3) .LANE_RXCFG_MODE 2 : Dev).rxMode (3 : Fin 144).val) = true) ∧ ((headerOk (0x241 : Word10) && headerOk (0x107 : Word10) && headerOk (0x101 : Word10)) = true) ∧ ((0x101 : Word10).toNat % 256 < ([0x101, 0] : List Word10).length) ∧ (checksumWord (((0x241 : Word10) :: (0x107 : Word10) :: (0x101 : Word10) :: ([0x101, 0] : List Word10)).take ((0x101 : Word10).toNat % 256 + 3)) ≠ ([0x101, 0] : List Word10).getD ((0x101 : Word10).toNat % 256) 0) ∧ (((({} : Dev).wr (.lane 3) .LANE_FRMSTAT_STATE 4).wr (.lane 3) .LANE_RXCFG_MODE 2 : Dev).on (.lane (3 : Fin 144).val) .LANE_ANCCFG_BAD_PKT = false)) ∧
    (((3 : RxId).val < 144) ∧ (({} : Dev).admits (0 : Master).val (.lane (3 : RxId).val) 0x104 1 = true)) ∧
    ((¬ (150 : RxId).val < 144) ∧ (({} : Dev).admits (0 : Master).val (.tll ((150 : RxId).val - 144)) 0x144 1 = true)) ∧
    ((({} : Dev).ctxAdmits (0 : Master).val (0x80000 + 8 * (5 : Fin 2944).val) (7 : Word) = true)) ∧
    ((((({} : Dev).wr (.lane 3) .LANE_FRMSTAT_STATE 4).wr (.lane 3) .LANE_RXCFG_MODE 1 : Dev).stopped = false) ∧ ((((({} : Dev).wr (.lane 3) .LANE_FRMSTAT_STATE 4).wr (.lane 3) .LANE_RXCFG_MODE 1 : Dev).frmState (3 : Fin 144).val = 3 ∨ ((({} : Dev).wr (.lane 3) .LANE_FRMSTAT_STATE 4).wr (.lane 3) .LANE_RXCFG_MODE 1 : Dev).frmState (3 : Fin 144).val = 4)) ∧ (modeSdi (((({} : Dev).wr (.lane 3) .LANE_FRMSTAT_STATE 4).wr (.lane 3) .LANE_RXCFG_MODE 1 : Dev).rxMode (3 : Fin 144).val) = true) ∧ (((({} : Dev).wr (.lane 3) .LANE_FRMSTAT_STATE 4).wr (.lane 3) .LANE_RXCFG_MODE 1 : Dev).audBit (3 : Fin 144).val (0 : Nat) (7 : Fin 8).val = none)) ∧
    ((((({} : Dev).wr (.lane 3) .LANE_FRMSTAT_STATE 4).wr (.lane 3) .LANE_RXCFG_MODE 2 : Dev).stopped = false) ∧ ((((({} : Dev).wr (.lane 3) .LANE_FRMSTAT_STATE 4).wr (.lane 3) .LANE_RXCFG_MODE 2 : Dev).frmState (3 : Fin 144).val = 3 ∨ ((({} : Dev).wr (.lane 3) .LANE_FRMSTAT_STATE 4).wr (.lane 3) .LANE_RXCFG_MODE 2 : Dev).frmState (3 : Fin 144).val = 4)) ∧ (modeSdi (((({} : Dev).wr (.lane 3) .LANE_FRMSTAT_STATE 4).wr (.lane 3) .LANE_RXCFG_MODE 2 : Dev).rxMode (3 : Fin 144).val) = true) ∧ (((({} : Dev).wr (.lane 3) .LANE_FRMSTAT_STATE 4).wr (.lane 3) .LANE_RXCFG_MODE 2 : Dev).rxMode (3 : Fin 144).val ≠ 1) ∧ (((({} : Dev).wr (.lane 3) .LANE_FRMSTAT_STATE 4).wr (.lane 3) .LANE_RXCFG_MODE 2 : Dev).audBit (3 : Fin 144).val (0 : Nat) (0 : Fin 8).val = some (0 : Nat))) ∧
    ((((({} : Dev).wr (.lane 3) .LANE_FRMSTAT_STATE 4).wr (.lane 3) .LANE_RXCFG_MODE 2 : Dev).stopped = false) ∧ ((((({} : Dev).wr (.lane 3) .LANE_FRMSTAT_STATE 4).wr (.lane 3) .LANE_RXCFG_MODE 2 : Dev).frmState (3 : Fin 144).val = 3 ∨ ((({} : Dev).wr (.lane 3) .LANE_FRMSTAT_STATE 4).wr (.lane 3) .LANE_RXCFG_MODE 2 : Dev).frmState (3 : Fin 144).val = 4)) ∧ (modeSdi (((({} : Dev).wr (.lane 3) .LANE_FRMSTAT_STATE 4).wr (.lane 3) .LANE_RXCFG_MODE 2 : Dev).rxMode (3 : Fin 144).val) = true) ∧ (((({} : Dev).wr (.lane 3) .LANE_FRMSTAT_STATE 4).wr (.lane 3) .LANE_RXCFG_MODE 2 : Dev).audBit (3 : Fin 144).val (0 : Nat) (0 : Fin 8).val = some (0 : Nat))) ∧
    ((((({} : Dev).wr (.lane 3) .LANE_FRMSTAT_STATE 4).wr (.lane 3) .LANE_RXCFG_MODE 2 : Dev).stopped = false) ∧ ((((({} : Dev).wr (.lane 3) .LANE_FRMSTAT_STATE 4).wr (.lane 3) .LANE_RXCFG_MODE 2 : Dev).frmState (3 : Fin 144).val = 3 ∨ ((({} : Dev).wr (.lane 3) .LANE_FRMSTAT_STATE 4).wr (.lane 3) .LANE_RXCFG_MODE 2 : Dev).frmState (3 : Fin 144).val = 4)) ∧ (modeSdi (((({} : Dev).wr (.lane 3) .LANE_FRMSTAT_STATE 4).wr (.lane 3) .LANE_RXCFG_MODE 2 : Dev).rxMode (3 : Fin 144).val) = true) ∧ (((({} : Dev).wr (.lane 3) .LANE_FRMSTAT_STATE 4).wr (.lane 3) .LANE_RXCFG_MODE 2 : Dev).audBit (3 : Fin 144).val (0 : Nat) (0 : Fin 8).val = some (0 : Nat))) := by
  refine ⟨?_, ?_, ?_, ?_, ?_, ?_, ?_, ?_, ?_, ?_, ?_, ?_, ?_, ?_, ?_, ?_, ?_, ?_, ?_⟩ <;> decide +kernel

theorem test_witness_FabricCommandsComplete :
    ((({} : Dev).ctxAdmits (0 : Master).val (32 * (5 : Fin 1472).val) (7 : Word) = true)) ∧
    ((({} : Dev).ctxAdmits (0 : Master).val (32 * (5 : Fin 1472).val + 4) (7 : Word) = true)) ∧
    (((({} : Dev).wr .fab .FAB_TG_TRIG_TYPE 2 : Dev).admits (0 : Master).val .fab 0x030 (BitVec.ofNat 32 (0x100 + (5 : Fin 256).val)) = true) ∧ (((({} : Dev).wr .fab .FAB_TG_TRIG_TYPE 2 : Dev).stored (0 : Master).val .fab 0x030 (BitVec.ofNat 32 (0x100 + (5 : Fin 256).val))).rd .fab .FAB_TG_TRIG_TYPE ≠ 0)) ∧
    ((({} : Dev).admits (0 : Master).val .fab 0x030 (BitVec.ofNat 32 (0x100 + (5 : Fin 256).val) : Word) = true) ∧ ((({} : Dev).stored (0 : Master).val .fab 0x030 (BitVec.ofNat 32 (0x100 + (5 : Fin 256).val) : Word) : Dev).rd .fab .FAB_TG_TRIG_TYPE = 0)) ∧
    ((({ takes := [(5, { state := 1, type := 2 })] } : Dev).admits (0 : Master).val .fab 0x030 (BitVec.ofNat 32 (0x200 + (5 : Fin 256).val)) = true)) ∧
    ((({} : Dev).stopped = false)) ∧
    (((({} : Dev).wr .fab (Fld.nth .FAB_GPI_EDGE 3) 2 : Dev).stopped = false) ∧ ((({} : Dev).wr .fab (Fld.nth .FAB_GPI_EDGE 3) 2 : Dev).on .fab (Fld.nth .FAB_GPI_LEVEL (3 : Fin 8).val) ≠ (false : Bool)) ∧ (((({} : Dev).wr .fab (Fld.nth .FAB_GPI_EDGE 3) 2 : Dev).wrOn .fab (Fld.nth .FAB_GPI_LEVEL (3 : Fin 8).val) (false : Bool)).rd .fab (Fld.nth .FAB_GPI_EDGE (3 : Fin 8).val) = 2)) ∧
    (((({} : Dev).wr .fab (Fld.nth .FAB_GPI_EDGE 3) 0 : Dev).stopped = false) ∧ ((({} : Dev).wr .fab (Fld.nth .FAB_GPI_EDGE 3) 0 : Dev).on .fab (Fld.nth .FAB_GPI_LEVEL (3 : Fin 8).val) ≠ (false : Bool)) ∧ (((({} : Dev).wr .fab (Fld.nth .FAB_GPI_EDGE 3) 0 : Dev).wrOn .fab (Fld.nth .FAB_GPI_LEVEL (3 : Fin 8).val) (false : Bool) : Dev).rd .fab (Fld.nth .FAB_GPI_EDGE (3 : Fin 8).val) ≠ 2) ∧ ((((({} : Dev).wr .fab (Fld.nth .FAB_GPI_EDGE 3) 0 : Dev).wrOn .fab (Fld.nth .FAB_GPI_LEVEL (3 : Fin 8).val) (false : Bool) : Dev).rd .fab (Fld.nth .FAB_GPI_EDGE (3 : Fin 8).val) == 1) = (false : Bool))) ∧
    ((({} : Dev).admits (0 : Master).val .fab (0x0A0 + 4 * (3 : Fin 8).val) ((resetWord (regKey .fab 0 0x0AC)) : Word) = true)) ∧
    ((({ takes := [(5, { state := 2, left := [1450] })] } : Dev).stopped = false) ∧ (({ takes := [(5, { state := 2, left := [1450] })] } : Dev).commitDue (5 : Fin 256).val (1450 : Fin 1472).val = true)) ∧
    ((({ ({} : Dev).wr (.tdom 0) .TDOM_FMT_FMT 5 with tctx := [(1450, { state := 2, held := 3000 })] } : Dev).stopped = false) ∧ ((({ ({} : Dev).wr (.tdom 0) .TDOM_FMT_FMT 5 with tctx := [(1450, { state := 2, held := 3000 })] } : Dev).tc (({ ({} : Dev).wr (.tdom 0) .TDOM_FMT_FMT 5 with tctx := [(1450, { state := 2, held := 3000 })] } : Dev).outLead (1450 : Fin 1472).val)).state = 2) ∧ (({ ({} : Dev).wr (.tdom 0) .TDOM_FMT_FMT 5 with tctx := [(1450, { state := 2, held := 3000 })] } : Dev).outRuns (({ ({} : Dev).wr (.tdom 0) .TDOM_FMT_FMT 5 with tctx := [(1450, { state := 2, held := 3000 })] } : Dev).outLead (1450 : Fin 1472).val) = true) ∧ (fmtLines (({ ({} : Dev).wr (.tdom 0) .TDOM_FMT_FMT 5 with tctx := [(1450, { state := 2, held := 3000 })] } : Dev).domFmt ((({ ({} : Dev).wr (.tdom 0) .TDOM_FMT_FMT 5 with tctx := [(1450, { state := 2, held := 3000 })] } : Dev).outDom (({ ({} : Dev).wr (.tdom 0) .TDOM_FMT_FMT 5 with tctx := [(1450, { state := 2, held := 3000 })] } : Dev).outLead (1450 : Fin 1472).val)).getD 0)) ≤ (({ ({} : Dev).wr (.tdom 0) .TDOM_FMT_FMT 5 with tctx := [(1450, { state := 2, held := 3000 })] } : Dev).tc (({ ({} : Dev).wr (.tdom 0) .TDOM_FMT_FMT 5 with tctx := [(1450, { state := 2, held := 3000 })] } : Dev).outLead (1450 : Fin 1472).val)).held)) ∧
    ((({} : Dev).admits (0 : Master).val .fab (0x100 + 4 * (3 : Fin 32).val) ((resetWord (regKey .fab 0 0x10C)) : Word) = true)) ∧
    ((({} : Dev).admits (0 : Master).val .fab 0x314 1 = true)) ∧
    ((((({} : Dev).wr (.tdom 3) .TDOM_FMT_FMT 5).setDom 3 {} : Dev).stopped = false) ∧ (((({} : Dev).wr (.tdom 3) .TDOM_FMT_FMT 5).setDom 3 {} : Dev).domFmt (3 : Fin 16).val ≠ 0) ∧ ((((({} : Dev).wr (.tdom 3) .TDOM_FMT_FMT 5).setDom 3 {} : Dev).dom (3 : Fin 16).val).waits = false) ∧ (1 ≤ (1 : Nat)) ∧ ((1 : Nat) ≤ fmtLines (((({} : Dev).wr (.tdom 3) .TDOM_FMT_FMT 5).setDom 3 {} : Dev).domFmt (3 : Fin 16).val)) ∧ (((if (1 : Nat) = (((({} : Dev).wr (.tdom 3) .TDOM_FMT_FMT 5).setDom 3 {} : Dev).setDom (3 : Fin 16).val { ((({} : Dev).wr (.tdom 3) .TDOM_FMT_FMT 5).setDom 3 {} : Dev).dom (3 : Fin 16).val with line := (1 : Nat) } : Dev).td (3 : Fin 16).val .TDOM_STAT_SWLINE_EFF then (((({} : Dev).wr (.tdom 3) .TDOM_FMT_FMT 5).setDom 3 {} : Dev).setDom (3 : Fin 16).val { ((({} : Dev).wr (.tdom 3) .TDOM_FMT_FMT 5).setDom 3 {} : Dev).dom (3 : Fin 16).val with line := (1 : Nat) } : Dev).switchLine (3 : Fin 16).val else (((({} : Dev).wr (.tdom 3) .TDOM_FMT_FMT 5).setDom 3 {} : Dev).setDom (3 : Fin 16).val { ((({} : Dev).wr (.tdom 3) .TDOM_FMT_FMT 5).setDom 3 {} : Dev).dom (3 : Fin 16).val with line := (1 : Nat) } : Dev)) : Dev).lanesIdle = false)) ∧
    (((((({} : Dev).wr (.tdom 3) .TDOM_FMT_FMT 5).setDom 3 {}).wr .pwr .PWR_STATE_CUR 1 : Dev).stopped = false) ∧ ((((({} : Dev).wr (.tdom 3) .TDOM_FMT_FMT 5).setDom 3 {}).wr .pwr .PWR_STATE_CUR 1 : Dev).domFmt (3 : Fin 16).val ≠ 0) ∧ (((((({} : Dev).wr (.tdom 3) .TDOM_FMT_FMT 5).setDom 3 {}).wr .pwr .PWR_STATE_CUR 1 : Dev).dom (3 : Fin 16).val).waits = false) ∧ (1 ≤ (1 : Nat)) ∧ ((1 : Nat) ≤ fmtLines ((((({} : Dev).wr (.tdom 3) .TDOM_FMT_FMT 5).setDom 3 {}).wr .pwr .PWR_STATE_CUR 1 : Dev).domFmt (3 : Fin 16).val)) ∧ (((if (1 : Nat) = ((((({} : Dev).wr (.tdom 3) .TDOM_FMT_FMT 5).setDom 3 {}).wr .pwr .PWR_STATE_CUR 1 : Dev).setDom (3 : Fin 16).val { (((({} : Dev).wr (.tdom 3) .TDOM_FMT_FMT 5).setDom 3 {}).wr .pwr .PWR_STATE_CUR 1 : Dev).dom (3 : Fin 16).val with line := (1 : Nat) } : Dev).td (3 : Fin 16).val .TDOM_STAT_SWLINE_EFF then ((((({} : Dev).wr (.tdom 3) .TDOM_FMT_FMT 5).setDom 3 {}).wr .pwr .PWR_STATE_CUR 1 : Dev).setDom (3 : Fin 16).val { (((({} : Dev).wr (.tdom 3) .TDOM_FMT_FMT 5).setDom 3 {}).wr .pwr .PWR_STATE_CUR 1 : Dev).dom (3 : Fin 16).val with line := (1 : Nat) } : Dev).switchLine (3 : Fin 16).val else ((((({} : Dev).wr (.tdom 3) .TDOM_FMT_FMT 5).setDom 3 {}).wr .pwr .PWR_STATE_CUR 1 : Dev).setDom (3 : Fin 16).val { (((({} : Dev).wr (.tdom 3) .TDOM_FMT_FMT 5).setDom 3 {}).wr .pwr .PWR_STATE_CUR 1 : Dev).dom (3 : Fin 16).val with line := (1 : Nat) } : Dev)) : Dev).lanesIdle = true)) ∧
    (((({} : Dev).wr (.tdom 3) .TDOM_FMT_FMT 5 : Dev).stopped = false) ∧ ((({} : Dev).wr (.tdom 3) .TDOM_FMT_FMT 5 : Dev).domFmt (3 : Fin 16).val ≠ 0)) := by
  refine ⟨?_, ?_, ?_, ?_, ?_, ?_, ?_, ?_, ?_, ?_, ?_, ?_, ?_, ?_, ?_, ?_⟩ <;> decide +kernel

theorem test_witness_AudioCommandsComplete :
    ((({} : Dev).ctxAdmits (0 : Master).val (0x10000 + 8 * (5 : Fin 53248).val) (7 : Word) = true)) ∧
    ((({} : Dev).ctxAdmits (0 : Master).val (0x10000 + 8 * (5 : Fin 53248).val + 4) (7 : Word) = true)) ∧
    ((({ takes := [(5, { state := 2, left := [32000] })] } : Dev).stopped = false) ∧ (({ takes := [(5, { state := 2, left := [32000] })] } : Dev).commitDue (5 : Fin 256).val (2000 + (30000 : Fin 53248).val) = true)) ∧
    ((({} : Dev).stopped = false) ∧ ((({} : Dev).slot (7 : Fin 53248).val).n ≤ (({} : Dev).slot (7 : Fin 53248).val).i)) ∧
    ((({} : Dev).stopped = false) ∧ (({} : Dev).lanesIdle = false)) ∧
    (((({} : Dev).wr .pwr .PWR_STATE_CUR 1 : Dev).stopped = false) ∧ ((({} : Dev).wr .pwr .PWR_STATE_CUR 1 : Dev).lanesIdle = true)) ∧
    ((({} : Dev).admits (0 : Master).val .afab 0x020 ((resetWord (regKey .afab 0 0x020)) : Word) = true)) ∧
    ((({} : Dev).admits (0 : Master).val .afab 0x008 (1 : Word) = true) ∧ (Fld.PAGE_CTRL_SOFT_RESET.get (1 : Word) = 0) ∧ (Fld.PAGE_CTRL_ENABLE.get (1 : Word) = 1)) ∧
    ((({} : Dev).admits (0 : Master).val .afab 0x008 (0 : Word) = true) ∧ (Fld.PAGE_CTRL_SOFT_RESET.get (0 : Word) = 0) ∧ (Fld.PAGE_CTRL_ENABLE.get (0 : Word) = 0)) ∧
    (((({} : Dev).wrB .afab 7 .AFAB_MTR_CFG_ENABLE 1 : Dev).stopped = false) ∧ ((({} : Dev).wrB .afab 7 .AFAB_MTR_CFG_ENABLE 1 : Dev).rdB .afab (7 : Fin 512).val .AFAB_MTR_CFG_ENABLE ≠ 0) ∧ ((({} : Dev).wrB .afab 7 .AFAB_MTR_CFG_ENABLE 1 : Dev).enabled .afab = true)) ∧
    ((({} : Dev).admits (0 : Master).val .afab 0x024 1 = true)) := by
  refine ⟨?_, ?_, ?_, ?_, ?_, ?_, ?_, ?_, ?_, ?_, ?_⟩ <;> decide +kernel

theorem test_witness_ProtectCommandsComplete :
    ((({} : Dev).stopped = false)) ∧
    ((({} : Dev).admits (0 : Master).val .prot 0x060 (77 : Word) = true)) ∧
    ((({} : Dev).admits (0 : Master).val .prot 0x064 2 = true)) ∧
    ((({} : Dev).admits (0 : Master).val .prot 0x064 1 = true)) ∧
    ((({} : Dev).admits (0 : Master).val .prot 0x024 (0 : Word) = true) ∧ (Fld.PROT_PG_CFG_ENABLE.get (0 : Word) = 0)) ∧
    ((({} : Dev).admits (0 : Master).val .prot 0x024 ((Fld.PROT_PG_CFG_P_LEAD.put (Fld.PROT_PG_CFG_MODE.put (Fld.PROT_PG_CFG_KIND.put (Fld.PROT_PG_CFG_ENABLE.put (resetWord (regKey .prot 0 0x024)) 1) 1) 1) 1) : Word) = true) ∧ (Fld.PROT_PG_CFG_ENABLE.get ((Fld.PROT_PG_CFG_P_LEAD.put (Fld.PROT_PG_CFG_MODE.put (Fld.PROT_PG_CFG_KIND.put (Fld.PROT_PG_CFG_ENABLE.put (resetWord (regKey .prot 0 0x024)) 1) 1) 1) 1) : Word) = 1) ∧ (Fld.PROT_PG_CFG_ENABLE.get (({} : Dev).held (0 : Master).val .prot 0x024) = 0)) ∧
    ((({ groups := [(0, { enabled := true })] } : Dev).admits (0 : Master).val .prot 0x02C 1 = true)) ∧
    ((({ groups := [(0, { enabled := true })] } : Dev).admits (0 : Master).val .prot 0x02C 2 = true)) ∧
    ((({ groups := [(0, { enabled := true })] } : Dev).admits (0 : Master).val .prot 0x02C 3 = true)) ∧
    ((({ groups := [(0, { enabled := true })] } : Dev).admits (0 : Master).val .prot 0x02C 4 = true)) ∧
    ((({ groups := [(0, { enabled := true })] } : Dev).admits (0 : Master).val .prot 0x02C 5 = true)) ∧
    ((({ groups := [(3, { enabled := true })] } : Dev).stopped = false) ∧ ((({ groups := [(3, { enabled := true })] } : Dev).group (3 : Fin 256).val).enabled = true)) ∧
    ((({ groups := [(3, { enabled := true })] } : Dev).stopped = false) ∧ ((({ groups := [(3, { enabled := true })] } : Dev).group (3 : Fin 256).val).enabled = true)) ∧
    ((({ groups := [(3, { enabled := true })] } : Dev).stopped = false) ∧ ((({ groups := [(3, { enabled := true })] } : Dev).group (3 : Fin 256).val).enabled = true)) ∧
    ((({ groups := [(3, { enabled := true })] } : Dev).stopped = false) ∧ ((({ groups := [(3, { enabled := true })] } : Dev).group (3 : Fin 256).val).enabled = true)) ∧
    ((({ groups := [(3, { enabled := true, wtr := true })] } : Dev).stopped = false) ∧ ((({ groups := [(3, { enabled := true, wtr := true })] } : Dev).group (3 : Fin 256).val).wtr = true)) := by
  refine ⟨?_, ?_, ?_, ?_, ?_, ?_, ?_, ?_, ?_, ?_, ?_, ?_, ?_, ?_, ?_, ?_⟩ <;> decide +kernel

theorem test_witness_ReferenceCommandsComplete :
    (((({} : Dev).wr (.refin 0) .REFIN_STAT_STATE 3 : Dev).stopped = false)) ∧
    (((({} : Dev).wr (.refin 2) .REFIN_STAT_STATE 3 : Dev).stopped = false) ∧ (2 ≤ (({} : Dev).wr (.refin 2) .REFIN_STAT_STATE 3 : Dev).refState (2 : Fin 8).val)) ∧
    (((({} : Dev).wr (.refin 3) .REFIN_STAT_STATE 1 : Dev).stopped = false) ∧ ((({} : Dev).wr (.refin 3) .REFIN_STAT_STATE 1 : Dev).refState (3 : Fin 8).val = 1) ∧ ((({} : Dev).wr (.refin 3) .REFIN_STAT_STATE 1 : Dev).refCan (3 : Fin 8).val = true)) ∧
    (((({} : Dev).wr (.refin 3) .REFIN_STAT_STATE 1 : Dev).stopped = false) ∧ ((({} : Dev).wr (.refin 3) .REFIN_STAT_STATE 1 : Dev).refState (3 : Fin 8).val ≠ 0)) ∧
    (((({} : Dev).wr (.refin 1) .REFIN_STAT_STATE 2 : Dev).stopped = false) ∧ ((1 : Fin 8).val ≤ 1) ∧ (2 ≤ (({} : Dev).wr (.refin 1) .REFIN_STAT_STATE 2 : Dev).refState (1 : Fin 8).val) ∧ ((({} : Dev).wr (.refin 1) .REFIN_STAT_STATE 2 : Dev).rf (1 : Fin 8).val .REFIN_STAT_TYPE = 0)) ∧
    ((((({} : Dev).wr (.refin 1) .REFIN_STAT_STATE 2).wr (.refin 1) .REFIN_STAT_TYPE 2 : Dev).stopped = false) ∧ ((1 : Fin 8).val ≤ 1) ∧ (2 ≤ ((({} : Dev).wr (.refin 1) .REFIN_STAT_STATE 2).wr (.refin 1) .REFIN_STAT_TYPE 2 : Dev).refState (1 : Fin 8).val) ∧ (((({} : Dev).wr (.refin 1) .REFIN_STAT_STATE 2).wr (.refin 1) .REFIN_STAT_TYPE 2 : Dev).rf (1 : Fin 8).val .REFIN_STAT_TYPE ≠ 0) ∧ ((((({} : Dev).wr (.refin 1) .REFIN_STAT_STATE 2).wr (.refin 1) .REFIN_STAT_TYPE 2 : Dev).rf (1 : Fin 8).val .REFIN_STAT_TYPE ≠ (1 : Nat) ∨ ((({} : Dev).wr (.refin 1) .REFIN_STAT_STATE 2).wr (.refin 1) .REFIN_STAT_TYPE 2 : Dev).rf (1 : Fin 8).val .REFIN_STAT_FMT ≠ (6 : Nat)))) ∧
    ((({} : Dev).stopped = false)) ∧
    ((({} : Dev).admits (0 : Master).val (.refin (1 : Fin 8).val) 0x008 (0 : Word) = true) ∧ (Fld.PAGE_CTRL_SOFT_RESET.get (0 : Word) = 0) ∧ (Fld.PAGE_CTRL_ENABLE.get (0 : Word) = 0)) ∧
    ((({} : Dev).admits (0 : Master).val (.refin (1 : Fin 8).val) 0x008 (1 : Word) = true) ∧ (Fld.PAGE_CTRL_SOFT_RESET.get (1 : Word) = 0) ∧ (Fld.PAGE_CTRL_ENABLE.get (1 : Word) = 1) ∧ ((({} : Dev).stored (0 : Master).val (.refin (1 : Fin 8).val) 0x008 (1 : Word)).refState (1 : Fin 8).val = 0)) ∧
    ((({} : Dev).admits (0 : Master).val (.refin (5 : Fin 8).val) 0x020 ((resetWord (regKey (.refin 5) 0 0x020)) : Word) = true) ∧ (Fld.REFIN_CFG_LANE.get (({} : Dev).held (0 : Master).val (.refin (5 : Fin 8).val) 0x020) = Fld.REFIN_CFG_LANE.get ((resetWord (regKey (.refin 5) 0 0x020)) : Word))) ∧
    ((({} : Dev).admits (0 : Master).val (.refin (5 : Fin 8).val) 0x020 ((Fld.REFIN_CFG_LANE.put (resetWord (regKey (.refin 5) 0 0x020)) 3) : Word) = true) ∧ (Fld.REFIN_CFG_LANE.get (({} : Dev).held (0 : Master).val (.refin (5 : Fin 8).val) 0x020) ≠ Fld.REFIN_CFG_LANE.get ((Fld.REFIN_CFG_LANE.put (resetWord (regKey (.refin 5) 0 0x020)) 3) : Word))) ∧
    ((({} : Dev).admits (0 : Master).val (.refin (5 : Fin 8).val) 0x044 1 = true) ∧ ((5 : Fin 8).val ≠ 3)) ∧
    ((({} : Dev).admits (0 : Master).val (.refin 3) 0x044 1 = true)) ∧
    (((({} : Dev).wr (.refin 3) .REFIN_STAT_STATE 2 : Dev).stopped = false) ∧ ((({} : Dev).wr (.refin 3) .REFIN_STAT_STATE 2 : Dev).refState 3 ≠ 0) ∧ (((({} : Dev).wr (.refin 3) .REFIN_STAT_STATE 2 : Dev).refState 3 = 1 ∨ (0 : Nat) < 100000 ∨ 900000 < (0 : Nat) ∨ 200 < (0 : Nat) ∨ ([] : List Byte).length ≠ 8 ∨ crc8 (([] : List Byte).take 7) ≠ ([] : List Byte).getD 7 0 ∨ (([] : List Byte).getD 0 0).toNat / 16 ≠ 0xA))) ∧
    (((({} : Dev).wr (.refin 3) .REFIN_STAT_STATE 2 : Dev).stopped = false) ∧ (2 ≤ (({} : Dev).wr (.refin 3) .REFIN_STAT_STATE 2 : Dev).refState 3) ∧ (100000 ≤ (100000 : Nat)) ∧ ((100000 : Nat) ≤ 900000) ∧ ((0 : Nat) ≤ 200) ∧ (([0xA0, 0, 0, 0, 0, 0, 0, crc8 [0xA0, 0, 0, 0, 0, 0, 0]] : List Byte).length = 8) ∧ (crc8 (([0xA0, 0, 0, 0, 0, 0, 0, crc8 [0xA0, 0, 0, 0, 0, 0, 0]] : List Byte).take 7) = ([0xA0, 0, 0, 0, 0, 0, 0, crc8 [0xA0, 0, 0, 0, 0, 0, 0]] : List Byte).getD 7 0) ∧ ((([0xA0, 0, 0, 0, 0, 0, 0, crc8 [0xA0, 0, 0, 0, 0, 0, 0]] : List Byte).getD 0 0).toNat / 16 = 0xA)) ∧
    ((({} : Dev).stopped = false)) ∧
    ((({ refs := [(3, { wtr := true })] } : Dev).stopped = false) ∧ ((({ refs := [(3, { wtr := true })] } : Dev).ref (3 : Fin 8).val).wtr = true)) := by
  refine ⟨?_, ?_, ?_, ?_, ?_, ?_, ?_, ?_, ?_, ?_, ?_, ?_, ?_, ?_, ?_, ?_, ?_⟩ <;> decide +kernel

theorem test_witness_TimingUnitCommandsComplete :
    ((({} : Dev).admits (0 : Master).val .tmu 0x020 (0 : Word) = true)) ∧
    ((({} : Dev).admits (0 : Master).val .tmu 0x024 ((resetWord (regKey .tmu 0 0x024)) : Word) = true)) ∧
    ((((({} : Dev).wr .tmu .TMU_STAT_TRANSITION 1).withTmu (fun (t : TmuI) => { t with step := 1 }) : Dev).stopped = false) ∧ (((({} : Dev).wr .tmu .TMU_STAT_TRANSITION 1).withTmu (fun (t : TmuI) => { t with step := 1 }) : Dev).tf .TMU_STAT_TRANSITION = 1) ∧ (((({} : Dev).wr .tmu .TMU_STAT_TRANSITION 1).withTmu (fun (t : TmuI) => { t with step := 1 }) : Dev).tmu.step = 1)) ∧
    ((((({} : Dev).wr .tmu .TMU_STAT_TRANSITION 1).withTmu (fun (t : TmuI) => { t with step := 2 }) : Dev).stopped = false) ∧ (((({} : Dev).wr .tmu .TMU_STAT_TRANSITION 1).withTmu (fun (t : TmuI) => { t with step := 2 }) : Dev).tf .TMU_STAT_TRANSITION = 1) ∧ (((({} : Dev).wr .tmu .TMU_STAT_TRANSITION 1).withTmu (fun (t : TmuI) => { t with step := 2 }) : Dev).tmu.step = 2)) ∧
    ((((({} : Dev).wr .tmu .TMU_STAT_TRANSITION 1).withTmu (fun (t : TmuI) => { t with step := 3 }) : Dev).stopped = false) ∧ (((({} : Dev).wr .tmu .TMU_STAT_TRANSITION 1).withTmu (fun (t : TmuI) => { t with step := 3 }) : Dev).tf .TMU_STAT_TRANSITION = 1) ∧ (((({} : Dev).wr .tmu .TMU_STAT_TRANSITION 1).withTmu (fun (t : TmuI) => { t with step := 3 }) : Dev).tmu.step = 3)) ∧
    ((((({ tmu := { hist := [(0, some 5)] } } : Dev).wr .tmu .TMU_STAT_STATE 2).wr .tmu .TMU_HIST_VALID_N 64 : Dev).admits (0 : Master).val .tmu 0x038 1 = true)) ∧
    ((({} : Dev).admits (0 : Master).val .tmu 0x038 2 = true)) ∧
    ((({} : Dev).admits (0 : Master).val .tmu 0x054 (7 : Word) = true)) ∧
    ((({} : Dev).admits (0 : Master).val .tmu 0x058 (0 : Word) = true)) ∧
    ((({} : Dev).stopped = false) ∧ (({} : Dev).permits (0 : Master).val 6 false = true)) ∧
    (((({} : Dev).wr .tmu .TMU_STAT_STATE 2 : Dev).admits (0 : Master).val .tmu 0x030 (7 : Word) = true)) ∧
    (((({} : Dev).wr .tmu .TMU_PHASE_LEFT_LEFT 5 : Dev).stopped = false) ∧ ((({} : Dev).wr .tmu .TMU_PHASE_LEFT_LEFT 5 : Dev).tf .TMU_PHASE_LEFT_LEFT ≠ 0)) ∧
    ((({} : Dev).admits (0 : Master).val .tmu 0x090 ((resetWord (regKey .tmu 0 0x090)) : Word) = true)) ∧
    ((((({} : Dev).wr .tmu .TMU_AUD_CFG_ALIGN 1).wr (.refin 7) .REFIN_STAT_STATE 3 : Dev).admits (0 : Master).val .tmu 0x074 1 = true)) ∧
    ((({ tmu := { aud := true } } : Dev).stopped = false) ∧ (({ tmu := { aud := true } } : Dev).tmu.aud = true) ∧ (({ tmu := { aud := true } } : Dev).phaseLeft = 0)) := by
  refine ⟨?_, ?_, ?_, ?_, ?_, ?_, ?_, ?_, ?_, ?_, ?_, ?_, ?_, ?_, ?_⟩ <;> decide +kernel

theorem test_witness_TimingDomainCommandsComplete :
    ((({} : Dev).admits (0 : Master).val (.tdom (3 : Fin 16).val) 0x020 (6 : Word) = true)) ∧
    (((({} : Dev).wr (.tdom 3) .TDOM_FMT_FMT 6 : Dev).admits (0 : Master).val (.tdom (3 : Fin 16).val) 0x008 (0 : Word) = true) ∧ (Fld.PAGE_CTRL_SOFT_RESET.get (0 : Word) = 0)) ∧
    ((({} : Dev).admits (0 : Master).val (.tdom (3 : Fin 16).val) 0x024 (0 : Word) = true) ∧ (fmtOf ((({} : Dev).stored (0 : Master).val (.tdom (3 : Fin 16).val) 0x024 (0 : Word)).domFmt (3 : Fin 16).val) = none)) ∧
    (((({} : Dev).wr (.tdom 3) .TDOM_FMT_FMT 6 : Dev).admits (0 : Master).val (.tdom (3 : Fin 16).val) 0x024 (1 : Word) = true) ∧ (fmtOf (((({} : Dev).wr (.tdom 3) .TDOM_FMT_FMT 6 : Dev).stored (0 : Master).val (.tdom (3 : Fin 16).val) 0x024 (1 : Word)).domFmt (3 : Fin 16).val) = some (((fmtOf 6).get (by decide)) : Fmt))) ∧
    ((({} : Dev).admits (0 : Master).val (.tdom (3 : Fin 16).val) 0x028 (0 : Word) = true)) ∧
    (((((({} : Dev).wr (.tdom 3) .TDOM_FMT_FMT 6).wr (.tdom 3) .TDOM_ALIGN_ERR_VALID 1) : Dev).admits (0 : Master).val (.tdom (3 : Fin 16).val) 0x030 (BitVec.ofNat 32 (0x10000 + (9 : BitVec 16).toNat)) = true)) ∧
    (((((({} : Dev).wr (.tdom 3) .TDOM_FMT_FMT 6).wr (.tdom 3) .TDOM_ALIGN_ERR_VALID 1) : Dev).admits (0 : Master).val (.tdom (3 : Fin 16).val) 0x030 0x20000 = true)) ∧
    (((({} : Dev).wr (.tdom 3) .TDOM_STAT_REALIGN 2 : Dev).admits (0 : Master).val (.tdom (3 : Fin 16).val) 0x030 0x30000 = true)) ∧
    ((({ (({} : Dev).wr (.tdom 3) .TDOM_FMT_FMT 6).wr (.tdom 3) .TDOM_STAT_REALIGN 1 with doms := [(3, { jumpAt := 1 })] } : Dev).stopped = false) ∧ (({ (({} : Dev).wr (.tdom 3) .TDOM_FMT_FMT 6).wr (.tdom 3) .TDOM_STAT_REALIGN 1 with doms := [(3, { jumpAt := 1 })] } : Dev).domFmt (3 : Fin 16).val ≠ 0) ∧ (({ (({} : Dev).wr (.tdom 3) .TDOM_FMT_FMT 6).wr (.tdom 3) .TDOM_STAT_REALIGN 1 with doms := [(3, { jumpAt := 1 })] } : Dev).jumpDue (3 : Fin 16).val = true)) ∧
    (((({} : Dev).wr (.tdom 3) .TDOM_STAT_REALIGN 2 : Dev).stopped = false) ∧ ((({} : Dev).wr (.tdom 3) .TDOM_STAT_REALIGN 2 : Dev).td (3 : Fin 16).val .TDOM_STAT_REALIGN = 2) ∧ ((({} : Dev).wr (.tdom 3) .TDOM_STAT_REALIGN 2 : Dev).phaseLeft = 0)) ∧
    ((({} : Dev).admits (0 : Master).val (.tdom (3 : Fin 16).val) 0x03C 1 = true)) := by
  refine ⟨?_, ?_, ?_, ?_, ?_, ?_, ?_, ?_, ?_, ?_, ?_⟩ <;> decide +kernel

theorem test_witness_FrameStoreCommandsComplete :
    ((({} : Dev).admits (0 : Master).val (.memc (1 : Fin 2).val) 0x008 (1 : Word) = true) ∧ (Fld.PAGE_CTRL_SOFT_RESET.get (1 : Word) = 0) ∧ (Fld.PAGE_CTRL_ENABLE.get (({} : Dev).held (0 : Master).val (.memc (1 : Fin 2).val) 0x008) = 0) ∧ (Fld.PAGE_CTRL_ENABLE.get (1 : Word) = 1)) ∧
    (((({} : Dev).wr (.memc 1) .PAGE_CTRL_ENABLE 1 : Dev).admits (0 : Master).val (.memc (1 : Fin 2).val) 0x008 (0 : Word) = true) ∧ (Fld.PAGE_CTRL_SOFT_RESET.get (0 : Word) = 0) ∧ (Fld.PAGE_CTRL_ENABLE.get ((({} : Dev).wr (.memc 1) .PAGE_CTRL_ENABLE 1 : Dev).held (0 : Master).val (.memc (1 : Fin 2).val) 0x008) = 1) ∧ (Fld.PAGE_CTRL_ENABLE.get (0 : Word) = 0)) ∧
    (((({} : Dev).wr (.memc 1) .MEMC_STAT_STATE 1 : Dev).stopped = false) ∧ ((({} : Dev).wr (.memc 1) .MEMC_STAT_STATE 1 : Dev).mc (1 : Fin 2).val .MEMC_STAT_STATE = 1)) ∧
    (((({} : Dev).wr (.memc 1) .MEMC_STAT_STATE 1 : Dev).stopped = false) ∧ ((({} : Dev).wr (.memc 1) .MEMC_STAT_STATE 1 : Dev).mc (1 : Fin 2).val .MEMC_STAT_STATE = 1)) ∧
    (((({} : Dev).wr (.memc 1) .MEMC_STAT_STATE 2 : Dev).stopped = false) ∧ ((({} : Dev).wr (.memc 1) .MEMC_STAT_STATE 2 : Dev).mc (1 : Fin 2).val .MEMC_STAT_STATE = 2)) ∧
    (((((({} : Dev).wr .fst .FST_CH_SEL_CH 256).wr (.memc 0) .MEMC_STAT_STATE 2) : Dev).admits (0 : Master).val .fst 0x024 ((Fld.FST_CH_CFG_ENABLE.put (resetWord (regKey .fst 256 0x024)) 1) : Word) = true) ∧ (Fld.FST_CH_CFG_ENABLE.get ((((({} : Dev).wr .fst .FST_CH_SEL_CH 256).wr (.memc 0) .MEMC_STAT_STATE 2) : Dev).held (0 : Master).val .fst 0x024) = 0) ∧ (Fld.FST_CH_CFG_ENABLE.get ((Fld.FST_CH_CFG_ENABLE.put (resetWord (regKey .fst 256 0x024)) 1) : Word) = 1)) ∧
    (((({ chans := [(256, { isOn := true, lead := some 256 })], regs := (((({} : Dev).wr .fst .FST_CH_SEL_CH 256).wr (.memc 0) .MEMC_STAT_STATE 2).wr (.tdom 0) .TDOM_FMT_FMT 6 |>.wrB .fst 256 .FST_CH_CFG_ENABLE 1).regs } : Dev) : Dev).admits (0 : Master).val .fst 0x024 ((Fld.FST_CH_CFG_ENABLE.put (Fld.FST_CH_CFG_ENABLE.put (resetWord (regKey .fst 256 0x024)) 1) 0) : Word) = true) ∧ (Fld.FST_CH_CFG_ENABLE.get ((({ chans := [(256, { isOn := true, lead := some 256 })], regs := (((({} : Dev).wr .fst .FST_CH_SEL_CH 256).wr (.memc 0) .MEMC_STAT_STATE 2).wr (.tdom 0) .TDOM_FMT_FMT 6 |>.wrB .fst 256 .FST_CH_CFG_ENABLE 1).regs } : Dev) : Dev).held (0 : Master).val .fst 0x024) = 1) ∧ (Fld.FST_CH_CFG_ENABLE.get ((Fld.FST_CH_CFG_ENABLE.put (Fld.FST_CH_CFG_ENABLE.put (resetWord (regKey .fst 256 0x024)) 1) 0) : Word) = 0) ∧ (((((({ chans := [(256, { isOn := true, lead := some 256 })], regs := (((({} : Dev).wr .fst .FST_CH_SEL_CH 256).wr (.memc 0) .MEMC_STAT_STATE 2).wr (.tdom 0) .TDOM_FMT_FMT 6 |>.wrB .fst 256 .FST_CH_CFG_ENABLE 1).regs } : Dev) : Dev).stored (0 : Master).val .fst 0x024 ((Fld.FST_CH_CFG_ENABLE.put (Fld.FST_CH_CFG_ENABLE.put (resetWord (regKey .fst 256 0x024)) 1) 0) : Word)) : Dev).chan ((((({ chans := [(256, { isOn := true, lead := some 256 })], regs := (((({} : Dev).wr .fst .FST_CH_SEL_CH 256).wr (.memc 0) .MEMC_STAT_STATE 2).wr (.tdom 0) .TDOM_FMT_FMT 6 |>.wrB .fst 256 .FST_CH_CFG_ENABLE 1).regs } : Dev) : Dev).stored (0 : Master).val .fst 0x024 ((Fld.FST_CH_CFG_ENABLE.put (Fld.FST_CH_CFG_ENABLE.put (resetWord (regKey .fst 256 0x024)) 1) 0) : Word)) : Dev).rd .fst .FST_CH_SEL_CH : Nat)).start = none) ∧ (((((({ chans := [(256, { isOn := true, lead := some 256 })], regs := (((({} : Dev).wr .fst .FST_CH_SEL_CH 256).wr (.memc 0) .MEMC_STAT_STATE 2).wr (.tdom 0) .TDOM_FMT_FMT 6 |>.wrB .fst 256 .FST_CH_CFG_ENABLE 1).regs } : Dev) : Dev).stored (0 : Master).val .fst 0x024 ((Fld.FST_CH_CFG_ENABLE.put (Fld.FST_CH_CFG_ENABLE.put (resetWord (regKey .fst 256 0x024)) 1) 0) : Word)) : Dev).chan ((((({ chans := [(256, { isOn := true, lead := some 256 })], regs := (((({} : Dev).wr .fst .FST_CH_SEL_CH 256).wr (.memc 0) .MEMC_STAT_STATE 2).wr (.tdom 0) .TDOM_FMT_FMT 6 |>.wrB .fst 256 .FST_CH_CFG_ENABLE 1).regs } : Dev) : Dev).stored (0 : Master).val .fst 0x024 ((Fld.FST_CH_CFG_ENABLE.put (Fld.FST_CH_CFG_ENABLE.put (resetWord (regKey .fst 256 0x024)) 1) 0) : Word)) : Dev).rd .fst .FST_CH_SEL_CH : Nat)).isOn = true) ∧ ((((({ chans := [(256, { isOn := true, lead := some 256 })], regs := (((({} : Dev).wr .fst .FST_CH_SEL_CH 256).wr (.memc 0) .MEMC_STAT_STATE 2).wr (.tdom 0) .TDOM_FMT_FMT 6 |>.wrB .fst 256 .FST_CH_CFG_ENABLE 1).regs } : Dev) : Dev).stored (0 : Master).val .fst 0x024 ((Fld.FST_CH_CFG_ENABLE.put (Fld.FST_CH_CFG_ENABLE.put (resetWord (regKey .fst 256 0x024)) 1) 0) : Word)) : Dev).chFmt ((((({ chans := [(256, { isOn := true, lead := some 256 })], regs := (((({} : Dev).wr .fst .FST_CH_SEL_CH 256).wr (.memc 0) .MEMC_STAT_STATE 2).wr (.tdom 0) .TDOM_FMT_FMT 6 |>.wrB .fst 256 .FST_CH_CFG_ENABLE 1).regs } : Dev) : Dev).stored (0 : Master).val .fst 0x024 ((Fld.FST_CH_CFG_ENABLE.put (Fld.FST_CH_CFG_ENABLE.put (resetWord (regKey .fst 256 0x024)) 1) 0) : Word)) : Dev).rd .fst .FST_CH_SEL_CH : Nat) ≠ 0)) ∧
    (((({ chans := [(256, { isOn := false })], regs := (((({} : Dev).wr .fst .FST_CH_SEL_CH 256).wr (.memc 0) .MEMC_STAT_STATE 2).wr (.tdom 0) .TDOM_FMT_FMT 6 |>.wrB .fst 256 .FST_CH_CFG_ENABLE 1).regs } : Dev) : Dev).admits (0 : Master).val .fst 0x024 ((Fld.FST_CH_CFG_ENABLE.put (Fld.FST_CH_CFG_ENABLE.put (resetWord (regKey .fst 256 0x024)) 1) 0) : Word) = true) ∧ (Fld.FST_CH_CFG_ENABLE.get ((({ chans := [(256, { isOn := false })], regs := (((({} : Dev).wr .fst .FST_CH_SEL_CH 256).wr (.memc 0) .MEMC_STAT_STATE 2).wr (.tdom 0) .TDOM_FMT_FMT 6 |>.wrB .fst 256 .FST_CH_CFG_ENABLE 1).regs } : Dev) : Dev).held (0 : Master).val .fst 0x024) = 1) ∧ (Fld.FST_CH_CFG_ENABLE.get ((Fld.FST_CH_CFG_ENABLE.put (Fld.FST_CH_CFG_ENABLE.put (resetWord (regKey .fst 256 0x024)) 1) 0) : Word) = 0) ∧ (((((({ chans := [(256, { isOn := false })], regs := (((({} : Dev).wr .fst .FST_CH_SEL_CH 256).wr (.memc 0) .MEMC_STAT_STATE 2).wr (.tdom 0) .TDOM_FMT_FMT 6 |>.wrB .fst 256 .FST_CH_CFG_ENABLE 1).regs } : Dev) : Dev).stored (0 : Master).val .fst 0x024 ((Fld.FST_CH_CFG_ENABLE.put (Fld.FST_CH_CFG_ENABLE.put (resetWord (regKey .fst 256 0x024)) 1) 0) : Word)) : Dev).chan ((((({ chans := [(256, { isOn := false })], regs := (((({} : Dev).wr .fst .FST_CH_SEL_CH 256).wr (.memc 0) .MEMC_STAT_STATE 2).wr (.tdom 0) .TDOM_FMT_FMT 6 |>.wrB .fst 256 .FST_CH_CFG_ENABLE 1).regs } : Dev) : Dev).stored (0 : Master).val .fst 0x024 ((Fld.FST_CH_CFG_ENABLE.put (Fld.FST_CH_CFG_ENABLE.put (resetWord (regKey .fst 256 0x024)) 1) 0) : Word)) : Dev).rd .fst .FST_CH_SEL_CH : Nat)).start = none) ∧ ((((((({ chans := [(256, { isOn := false })], regs := (((({} : Dev).wr .fst .FST_CH_SEL_CH 256).wr (.memc 0) .MEMC_STAT_STATE 2).wr (.tdom 0) .TDOM_FMT_FMT 6 |>.wrB .fst 256 .FST_CH_CFG_ENABLE 1).regs } : Dev) : Dev).stored (0 : Master).val .fst 0x024 ((Fld.FST_CH_CFG_ENABLE.put (Fld.FST_CH_CFG_ENABLE.put (resetWord (regKey .fst 256 0x024)) 1) 0) : Word)) : Dev).chan ((((({ chans := [(256, { isOn := false })], regs := (((({} : Dev).wr .fst .FST_CH_SEL_CH 256).wr (.memc 0) .MEMC_STAT_STATE 2).wr (.tdom 0) .TDOM_FMT_FMT 6 |>.wrB .fst 256 .FST_CH_CFG_ENABLE 1).regs } : Dev) : Dev).stored (0 : Master).val .fst 0x024 ((Fld.FST_CH_CFG_ENABLE.put (Fld.FST_CH_CFG_ENABLE.put (resetWord (regKey .fst 256 0x024)) 1) 0) : Word)) : Dev).rd .fst .FST_CH_SEL_CH : Nat)).isOn = false ∨ (((({ chans := [(256, { isOn := false })], regs := (((({} : Dev).wr .fst .FST_CH_SEL_CH 256).wr (.memc 0) .MEMC_STAT_STATE 2).wr (.tdom 0) .TDOM_FMT_FMT 6 |>.wrB .fst 256 .FST_CH_CFG_ENABLE 1).regs } : Dev) : Dev).stored (0 : Master).val .fst 0x024 ((Fld.FST_CH_CFG_ENABLE.put (Fld.FST_CH_CFG_ENABLE.put (resetWord (regKey .fst 256 0x024)) 1) 0) : Word)) : Dev).chFmt ((((({ chans := [(256, { isOn := false })], regs := (((({} : Dev).wr .fst .FST_CH_SEL_CH 256).wr (.memc 0) .MEMC_STAT_STATE 2).wr (.tdom 0) .TDOM_FMT_FMT 6 |>.wrB .fst 256 .FST_CH_CFG_ENABLE 1).regs } : Dev) : Dev).stored (0 : Master).val .fst 0x024 ((Fld.FST_CH_CFG_ENABLE.put (Fld.FST_CH_CFG_ENABLE.put (resetWord (regKey .fst 256 0x024)) 1) 0) : Word)) : Dev).rd .fst .FST_CH_SEL_CH : Nat) = 0))) ∧
    (((({ chans := [(256, { start := some {} })], regs := (((({} : Dev).wr .fst .FST_CH_SEL_CH 256).wr (.memc 0) .MEMC_STAT_STATE 2).wr (.tdom 0) .TDOM_FMT_FMT 6 |>.wrB .fst 256 .FST_CH_CFG_ENABLE 1).regs } : Dev) : Dev).admits (0 : Master).val .fst 0x024 ((Fld.FST_CH_CFG_ENABLE.put (Fld.FST_CH_CFG_ENABLE.put (resetWord (regKey .fst 256 0x024)) 1) 0) : Word) = true) ∧ (Fld.FST_CH_CFG_ENABLE.get ((({ chans := [(256, { start := some {} })], regs := (((({} : Dev).wr .fst .FST_CH_SEL_CH 256).wr (.memc 0) .MEMC_STAT_STATE 2).wr (.tdom 0) .TDOM_FMT_FMT 6 |>.wrB .fst 256 .FST_CH_CFG_ENABLE 1).regs } : Dev) : Dev).held (0 : Master).val .fst 0x024) = 1) ∧ (Fld.FST_CH_CFG_ENABLE.get ((Fld.FST_CH_CFG_ENABLE.put (Fld.FST_CH_CFG_ENABLE.put (resetWord (regKey .fst 256 0x024)) 1) 0) : Word) = 0) ∧ (((((({ chans := [(256, { start := some {} })], regs := (((({} : Dev).wr .fst .FST_CH_SEL_CH 256).wr (.memc 0) .MEMC_STAT_STATE 2).wr (.tdom 0) .TDOM_FMT_FMT 6 |>.wrB .fst 256 .FST_CH_CFG_ENABLE 1).regs } : Dev) : Dev).stored (0 : Master).val .fst 0x024 ((Fld.FST_CH_CFG_ENABLE.put (Fld.FST_CH_CFG_ENABLE.put (resetWord (regKey .fst 256 0x024)) 1) 0) : Word)) : Dev).chan ((((({ chans := [(256, { start := some {} })], regs := (((({} : Dev).wr .fst .FST_CH_SEL_CH 256).wr (.memc 0) .MEMC_STAT_STATE 2).wr (.tdom 0) .TDOM_FMT_FMT 6 |>.wrB .fst 256 .FST_CH_CFG_ENABLE 1).regs } : Dev) : Dev).stored (0 : Master).val .fst 0x024 ((Fld.FST_CH_CFG_ENABLE.put (Fld.FST_CH_CFG_ENABLE.put (resetWord (regKey .fst 256 0x024)) 1) 0) : Word)) : Dev).rd .fst .FST_CH_SEL_CH : Nat)).start ≠ none)) ∧
    ((({} : Dev).admits (0 : Master).val .fst 0x024 ((Fld.FST_CH_CFG_ENABLE.put (Fld.FST_CH_CFG_ENABLE.put (resetWord (regKey .fst 256 0x024)) 1) 0) : Word) = true) ∧ (Fld.FST_CH_CFG_ENABLE.get (({} : Dev).held (0 : Master).val .fst 0x024) = Fld.FST_CH_CFG_ENABLE.get ((Fld.FST_CH_CFG_ENABLE.put (Fld.FST_CH_CFG_ENABLE.put (resetWord (regKey .fst 256 0x024)) 1) 0) : Word))) ∧
    (((({ chans := [(4, { isOn := true, lead := some 4, writing := true, tile := some 8, wline := fmtLines 6 })] , regs := ((((({} : Dev).wr (.lane 1) .LANE_RXCFG_MODE 3).wr (.lane 1) .LANE_FRMSTAT_STATE 4)).wr (.tdom 0) .TDOM_FMT_FMT 6).regs } : Dev) : Dev).stopped = false) ∧ (((({ chans := [(4, { isOn := true, lead := some 4, writing := true, tile := some 8, wline := fmtLines 6 })] , regs := ((((({} : Dev).wr (.lane 1) .LANE_RXCFG_MODE 3).wr (.lane 1) .LANE_FRMSTAT_STATE 4)).wr (.tdom 0) .TDOM_FMT_FMT 6).regs } : Dev) : Dev).chan (4 : Fin 256).val).isOn = true) ∧ (((({ chans := [(4, { isOn := true, lead := some 4, writing := true, tile := some 8, wline := fmtLines 6 })] , regs := ((((({} : Dev).wr (.lane 1) .LANE_RXCFG_MODE 3).wr (.lane 1) .LANE_FRMSTAT_STATE 4)).wr (.tdom 0) .TDOM_FMT_FMT 6).regs } : Dev) : Dev).chan (4 : Fin 256).val).lead = some (4 : Fin 256).val) ∧ (((({ chans := [(4, { isOn := true, lead := some 4, writing := true, tile := some 8, wline := fmtLines 6 })] , regs := ((((({} : Dev).wr (.lane 1) .LANE_RXCFG_MODE 3).wr (.lane 1) .LANE_FRMSTAT_STATE 4)).wr (.tdom 0) .TDOM_FMT_FMT 6).regs } : Dev) : Dev).chan (4 : Fin 256).val).writing = true) ∧ ((({ chans := [(4, { isOn := true, lead := some 4, writing := true, tile := some 8, wline := fmtLines 6 })] , regs := ((((({} : Dev).wr (.lane 1) .LANE_RXCFG_MODE 3).wr (.lane 1) .LANE_FRMSTAT_STATE 4)).wr (.tdom 0) .TDOM_FMT_FMT 6).regs } : Dev) : Dev).chInput (4 : Fin 256).val = true) ∧ (((({ chans := [(4, { isOn := true, lead := some 4, writing := true, tile := some 8, wline := fmtLines 6 })] , regs := ((((({} : Dev).wr (.lane 1) .LANE_RXCFG_MODE 3).wr (.lane 1) .LANE_FRMSTAT_STATE 4)).wr (.tdom 0) .TDOM_FMT_FMT 6).regs } : Dev) : Dev).chMembers (4 : Fin 256).val).all (fun (y : Nat) => ((({ chans := [(4, { isOn := true, lead := some 4, writing := true, tile := some 8, wline := fmtLines 6 })] , regs := ((((({} : Dev).wr (.lane 1) .LANE_RXCFG_MODE 3).wr (.lane 1) .LANE_FRMSTAT_STATE 4)).wr (.tdom 0) .TDOM_FMT_FMT 6).regs } : Dev) : Dev).chan y).wline == fmtLines ((({ chans := [(4, { isOn := true, lead := some 4, writing := true, tile := some 8, wline := fmtLines 6 })] , regs := ((((({} : Dev).wr (.lane 1) .LANE_RXCFG_MODE 3).wr (.lane 1) .LANE_FRMSTAT_STATE 4)).wr (.tdom 0) .TDOM_FMT_FMT 6).regs } : Dev) : Dev).chFmt (4 : Fin 256).val)) = true)) ∧
    ((({ chans := [(4, { isOn := true, lead := some 4, writing := true })] } : Dev).stopped = false) ∧ ((({ chans := [(4, { isOn := true, lead := some 4, writing := true })] } : Dev).chan (4 : Fin 256).val).isOn = true) ∧ ((({ chans := [(4, { isOn := true, lead := some 4, writing := true })] } : Dev).chan (4 : Fin 256).val).lead = some (4 : Fin 256).val) ∧ ((({ chans := [(4, { isOn := true, lead := some 4, writing := true })] } : Dev).chan (4 : Fin 256).val).writing = true) ∧ (({ chans := [(4, { isOn := true, lead := some 4, writing := true })] } : Dev).chInput (4 : Fin 256).val = false)) ∧
    ((((({ chans := [(0, { isOn := true })] } : Dev).wrB .fst 0 .FST_CH_STAT_STATE 2) : Dev).admits (0 : Master).val .fst 0x030 0x10000 = true) ∧ ((((((({ chans := [(0, { isOn := true })] } : Dev).wrB .fst 0 .FST_CH_STAT_STATE 2) : Dev).stored (0 : Master).val .fst 0x030 0x10000) : Dev).rd .fst .FST_CH_SEL_CH : Nat) < 256) ∧ ((((((({ chans := [(0, { isOn := true })] } : Dev).wrB .fst 0 .FST_CH_STAT_STATE 2) : Dev).stored (0 : Master).val .fst 0x030 0x10000) : Dev).chan (((((({ chans := [(0, { isOn := true })] } : Dev).wrB .fst 0 .FST_CH_STAT_STATE 2) : Dev).stored (0 : Master).val .fst 0x030 0x10000) : Dev).chLead (((((({ chans := [(0, { isOn := true })] } : Dev).wrB .fst 0 .FST_CH_STAT_STATE 2) : Dev).stored (0 : Master).val .fst 0x030 0x10000) : Dev).rd .fst .FST_CH_SEL_CH : Nat))).isOn = true) ∧ (((((({ chans := [(0, { isOn := true })] } : Dev).wrB .fst 0 .FST_CH_STAT_STATE 2) : Dev).stored (0 : Master).val .fst 0x030 0x10000) : Dev).chState (((((({ chans := [(0, { isOn := true })] } : Dev).wrB .fst 0 .FST_CH_STAT_STATE 2) : Dev).stored (0 : Master).val .fst 0x030 0x10000) : Dev).chLead (((((({ chans := [(0, { isOn := true })] } : Dev).wrB .fst 0 .FST_CH_STAT_STATE 2) : Dev).stored (0 : Master).val .fst 0x030 0x10000) : Dev).rd .fst .FST_CH_SEL_CH : Nat)) = 2)) ∧
    ((((({ chans := [(0, { isOn := true })] } : Dev).wrB .fst 0 .FST_CH_STAT_STATE 5) : Dev).admits (0 : Master).val .fst 0x030 0x20000 = true) ∧ ((((((({ chans := [(0, { isOn := true })] } : Dev).wrB .fst 0 .FST_CH_STAT_STATE 5) : Dev).stored (0 : Master).val .fst 0x030 0x20000) : Dev).rd .fst .FST_CH_SEL_CH : Nat) < 256) ∧ ((((((({ chans := [(0, { isOn := true })] } : Dev).wrB .fst 0 .FST_CH_STAT_STATE 5) : Dev).stored (0 : Master).val .fst 0x030 0x20000) : Dev).chan (((((({ chans := [(0, { isOn := true })] } : Dev).wrB .fst 0 .FST_CH_STAT_STATE 5) : Dev).stored (0 : Master).val .fst 0x030 0x20000) : Dev).chLead (((((({ chans := [(0, { isOn := true })] } : Dev).wrB .fst 0 .FST_CH_STAT_STATE 5) : Dev).stored (0 : Master).val .fst 0x030 0x20000) : Dev).rd .fst .FST_CH_SEL_CH : Nat))).isOn = true) ∧ (((((({ chans := [(0, { isOn := true })] } : Dev).wrB .fst 0 .FST_CH_STAT_STATE 5) : Dev).stored (0 : Master).val .fst 0x030 0x20000) : Dev).chState (((((({ chans := [(0, { isOn := true })] } : Dev).wrB .fst 0 .FST_CH_STAT_STATE 5) : Dev).stored (0 : Master).val .fst 0x030 0x20000) : Dev).chLead (((((({ chans := [(0, { isOn := true })] } : Dev).wrB .fst 0 .FST_CH_STAT_STATE 5) : Dev).stored (0 : Master).val .fst 0x030 0x20000) : Dev).rd .fst .FST_CH_SEL_CH : Nat)) = 5)) ∧
    (((({ chans := [(260, { isOn := true })], regs := (({} : Dev).wr .fst .FST_CH_SEL_CH 260).regs } : Dev) : Dev).admits (0 : Master).val .fst 0x030 0x10000 = true) ∧ (¬ ((((({ chans := [(260, { isOn := true })], regs := (({} : Dev).wr .fst .FST_CH_SEL_CH 260).regs } : Dev) : Dev).stored (0 : Master).val .fst 0x030 0x10000) : Dev).rd .fst .FST_CH_SEL_CH : Nat) < 256) ∧ (((((({ chans := [(260, { isOn := true })], regs := (({} : Dev).wr .fst .FST_CH_SEL_CH 260).regs } : Dev) : Dev).stored (0 : Master).val .fst 0x030 0x10000) : Dev).rd .fst .FST_CH_SEL_CH : Nat) < 288) ∧ (((((({ chans := [(260, { isOn := true })], regs := (({} : Dev).wr .fst .FST_CH_SEL_CH 260).regs } : Dev) : Dev).stored (0 : Master).val .fst 0x030 0x10000) : Dev).chan ((((({ chans := [(260, { isOn := true })], regs := (({} : Dev).wr .fst .FST_CH_SEL_CH 260).regs } : Dev) : Dev).stored (0 : Master).val .fst 0x030 0x10000) : Dev).chLead ((((({ chans := [(260, { isOn := true })], regs := (({} : Dev).wr .fst .FST_CH_SEL_CH 260).regs } : Dev) : Dev).stored (0 : Master).val .fst 0x030 0x10000) : Dev).rd .fst .FST_CH_SEL_CH : Nat))).isOn = true)) ∧
    (((({ chans := [(260, { isOn := true })], regs := (({} : Dev).wr .fst .FST_CH_SEL_CH 260).regs } : Dev) : Dev).admits (0 : Master).val .fst 0x030 0x20000 = true) ∧ (¬ ((((({ chans := [(260, { isOn := true })], regs := (({} : Dev).wr .fst .FST_CH_SEL_CH 260).regs } : Dev) : Dev).stored (0 : Master).val .fst 0x030 0x20000) : Dev).rd .fst .FST_CH_SEL_CH : Nat) < 256) ∧ (((((({ chans := [(260, { isOn := true })], regs := (({} : Dev).wr .fst .FST_CH_SEL_CH 260).regs } : Dev) : Dev).stored (0 : Master).val .fst 0x030 0x20000) : Dev).rd .fst .FST_CH_SEL_CH : Nat) < 288) ∧ (((((({ chans := [(260, { isOn := true })], regs := (({} : Dev).wr .fst .FST_CH_SEL_CH 260).regs } : Dev) : Dev).stored (0 : Master).val .fst 0x030 0x20000) : Dev).chan ((((({ chans := [(260, { isOn := true })], regs := (({} : Dev).wr .fst .FST_CH_SEL_CH 260).regs } : Dev) : Dev).stored (0 : Master).val .fst 0x030 0x20000) : Dev).chLead ((((({ chans := [(260, { isOn := true })], regs := (({} : Dev).wr .fst .FST_CH_SEL_CH 260).regs } : Dev) : Dev).stored (0 : Master).val .fst 0x030 0x20000) : Dev).rd .fst .FST_CH_SEL_CH : Nat))).isOn = true)) ∧
    (((({ chans := [(260, { isOn := true })], regs := (({} : Dev).wr .fst .FST_CH_SEL_CH 260).regs } : Dev) : Dev).admits (0 : Master).val .fst 0x030 (BitVec.ofNat 32 (0x30000 + (7 : BitVec 16).toNat)) = true) ∧ (¬ ((((({ chans := [(260, { isOn := true })], regs := (({} : Dev).wr .fst .FST_CH_SEL_CH 260).regs } : Dev) : Dev).stored (0 : Master).val .fst 0x030 (BitVec.ofNat 32 (0x30000 + (7 : BitVec 16).toNat))) : Dev).rd .fst .FST_CH_SEL_CH : Nat) < 256) ∧ (((((({ chans := [(260, { isOn := true })], regs := (({} : Dev).wr .fst .FST_CH_SEL_CH 260).regs } : Dev) : Dev).stored (0 : Master).val .fst 0x030 (BitVec.ofNat 32 (0x30000 + (7 : BitVec 16).toNat))) : Dev).rd .fst .FST_CH_SEL_CH : Nat) < 288) ∧ (((((({ chans := [(260, { isOn := true })], regs := (({} : Dev).wr .fst .FST_CH_SEL_CH 260).regs } : Dev) : Dev).stored (0 : Master).val .fst 0x030 (BitVec.ofNat 32 (0x30000 + (7 : BitVec 16).toNat))) : Dev).chan ((((({ chans := [(260, { isOn := true })], regs := (({} : Dev).wr .fst .FST_CH_SEL_CH 260).regs } : Dev) : Dev).stored (0 : Master).val .fst 0x030 (BitVec.ofNat 32 (0x30000 + (7 : BitVec 16).toNat))) : Dev).chLead ((((({ chans := [(260, { isOn := true })], regs := (({} : Dev).wr .fst .FST_CH_SEL_CH 260).regs } : Dev) : Dev).stored (0 : Master).val .fst 0x030 (BitVec.ofNat 32 (0x30000 + (7 : BitVec 16).toNat))) : Dev).rd .fst .FST_CH_SEL_CH : Nat))).isOn = true)) ∧
    (((({ chans := [(300, { isOn := true })], regs := (({} : Dev).wr .fst .FST_CH_SEL_CH 300).regs } : Dev) : Dev).admits (0 : Master).val .fst 0x030 0x10000 = true) ∧ (¬ ((((({ chans := [(300, { isOn := true })], regs := (({} : Dev).wr .fst .FST_CH_SEL_CH 300).regs } : Dev) : Dev).stored (0 : Master).val .fst 0x030 0x10000) : Dev).rd .fst .FST_CH_SEL_CH : Nat) < 256) ∧ (¬ ((((({ chans := [(300, { isOn := true })], regs := (({} : Dev).wr .fst .FST_CH_SEL_CH 300).regs } : Dev) : Dev).stored (0 : Master).val .fst 0x030 0x10000) : Dev).rd .fst .FST_CH_SEL_CH : Nat) < 288) ∧ (((((({ chans := [(300, { isOn := true })], regs := (({} : Dev).wr .fst .FST_CH_SEL_CH 300).regs } : Dev) : Dev).stored (0 : Master).val .fst 0x030 0x10000) : Dev).chan ((((({ chans := [(300, { isOn := true })], regs := (({} : Dev).wr .fst .FST_CH_SEL_CH 300).regs } : Dev) : Dev).stored (0 : Master).val .fst 0x030 0x10000) : Dev).chLead ((((({ chans := [(300, { isOn := true })], regs := (({} : Dev).wr .fst .FST_CH_SEL_CH 300).regs } : Dev) : Dev).stored (0 : Master).val .fst 0x030 0x10000) : Dev).rd .fst .FST_CH_SEL_CH : Nat))).isOn = true)) ∧
    (((({ chans := [(300, { isOn := true })], regs := (({} : Dev).wr .fst .FST_CH_SEL_CH 300).regs } : Dev).wrB .fst 300 .FST_CH_STAT_STATE 2 : Dev).admits (0 : Master).val .fst 0x030 0x20000 = true) ∧ (¬ ((((({ chans := [(300, { isOn := true })], regs := (({} : Dev).wr .fst .FST_CH_SEL_CH 300).regs } : Dev).wrB .fst 300 .FST_CH_STAT_STATE 2 : Dev).stored (0 : Master).val .fst 0x030 0x20000) : Dev).rd .fst .FST_CH_SEL_CH : Nat) < 256) ∧ (¬ ((((({ chans := [(300, { isOn := true })], regs := (({} : Dev).wr .fst .FST_CH_SEL_CH 300).regs } : Dev).wrB .fst 300 .FST_CH_STAT_STATE 2 : Dev).stored (0 : Master).val .fst 0x030 0x20000) : Dev).rd .fst .FST_CH_SEL_CH : Nat) < 288) ∧ (((((({ chans := [(300, { isOn := true })], regs := (({} : Dev).wr .fst .FST_CH_SEL_CH 300).regs } : Dev).wrB .fst 300 .FST_CH_STAT_STATE 2 : Dev).stored (0 : Master).val .fst 0x030 0x20000) : Dev).chan ((((({ chans := [(300, { isOn := true })], regs := (({} : Dev).wr .fst .FST_CH_SEL_CH 300).regs } : Dev).wrB .fst 300 .FST_CH_STAT_STATE 2 : Dev).stored (0 : Master).val .fst 0x030 0x20000) : Dev).chLead ((((({ chans := [(300, { isOn := true })], regs := (({} : Dev).wr .fst .FST_CH_SEL_CH 300).regs } : Dev).wrB .fst 300 .FST_CH_STAT_STATE 2 : Dev).stored (0 : Master).val .fst 0x030 0x20000) : Dev).rd .fst .FST_CH_SEL_CH : Nat))).isOn = true) ∧ ((((({ chans := [(300, { isOn := true })], regs := (({} : Dev).wr .fst .FST_CH_SEL_CH 300).regs } : Dev).wrB .fst 300 .FST_CH_STAT_STATE 2 : Dev).stored (0 : Master).val .fst 0x030 0x20000) : Dev).chState ((((({ chans := [(300, { isOn := true })], regs := (({} : Dev).wr .fst .FST_CH_SEL_CH 300).regs } : Dev).wrB .fst 300 .FST_CH_STAT_STATE 2 : Dev).stored (0 : Master).val .fst 0x030 0x20000) : Dev).chLead ((((({ chans := [(300, { isOn := true })], regs := (({} : Dev).wr .fst .FST_CH_SEL_CH 300).regs } : Dev).wrB .fst 300 .FST_CH_STAT_STATE 2 : Dev).stored (0 : Master).val .fst 0x030 0x20000) : Dev).rd .fst .FST_CH_SEL_CH : Nat)) = 2)) ∧
    ((((({} : Dev).wr (.memc 0) .MEMC_STAT_STATE 2) : Dev).admits (0 : Master).val .fst 0x054 ((Fld.FST_DL_CFG_ENABLE.put (resetWord (regKey .fst 0 0x054)) 1) : Word) = true) ∧ (Fld.FST_DL_CFG_ENABLE.get (((({} : Dev).wr (.memc 0) .MEMC_STAT_STATE 2) : Dev).held (0 : Master).val .fst 0x054) = 0) ∧ (Fld.FST_DL_CFG_ENABLE.get ((Fld.FST_DL_CFG_ENABLE.put (resetWord (regKey .fst 0 0x054)) 1) : Word) = 1)) ∧
    (((((({} : Dev).wr (.memc 0) .MEMC_STAT_STATE 2).wrB .fst 0 .FST_DL_CFG_ENABLE 1) : Dev).admits (0 : Master).val .fst 0x054 ((Fld.FST_DL_CFG_DELAY.put (Fld.FST_DL_CFG_ENABLE.put (resetWord (regKey .fst 0 0x054)) 1) 9) : Word) = true) ∧ (Fld.FST_DL_CFG_ENABLE.get ((((({} : Dev).wr (.memc 0) .MEMC_STAT_STATE 2).wrB .fst 0 .FST_DL_CFG_ENABLE 1) : Dev).held (0 : Master).val .fst 0x054) = 1) ∧ (Fld.FST_DL_CFG_ENABLE.get ((Fld.FST_DL_CFG_DELAY.put (Fld.FST_DL_CFG_ENABLE.put (resetWord (regKey .fst 0 0x054)) 1) 9) : Word) = 1) ∧ (Fld.FST_DL_CFG_DELAY.get ((((({} : Dev).wr (.memc 0) .MEMC_STAT_STATE 2).wrB .fst 0 .FST_DL_CFG_ENABLE 1) : Dev).held (0 : Master).val .fst 0x054) ≠ Fld.FST_DL_CFG_DELAY.get ((Fld.FST_DL_CFG_DELAY.put (Fld.FST_DL_CFG_ENABLE.put (resetWord (regKey .fst 0 0x054)) 1) 9) : Word))) ∧
    (((((({} : Dev).wr (.memc 0) .MEMC_STAT_STATE 2).wrB .fst 0 .FST_DL_CFG_ENABLE 1) : Dev).admits (0 : Master).val .fst 0x054 ((Fld.FST_DL_CFG_ENABLE.put (Fld.FST_DL_CFG_ENABLE.put (resetWord (regKey .fst 0 0x054)) 1) 0) : Word) = true) ∧ (Fld.FST_DL_CFG_ENABLE.get ((((({} : Dev).wr (.memc 0) .MEMC_STAT_STATE 2).wrB .fst 0 .FST_DL_CFG_ENABLE 1) : Dev).held (0 : Master).val .fst 0x054) = 1) ∧ (Fld.FST_DL_CFG_ENABLE.get ((Fld.FST_DL_CFG_ENABLE.put (Fld.FST_DL_CFG_ENABLE.put (resetWord (regKey .fst 0 0x054)) 1) 0) : Word) = 0)) ∧
    ((({} : Dev).admits (0 : Master).val .fst 0x064 (3 : Word) = true)) ∧
    ((({} : Dev).admits (0 : Master).val .fst 0x068 1 = true)) := by
  refine ⟨?_, ?_, ?_, ?_, ?_, ?_, ?_, ?_, ?_, ?_, ?_, ?_, ?_, ?_, ?_, ?_, ?_, ?_, ?_, ?_, ?_, ?_, ?_, ?_⟩ <;> decide +kernel

theorem test_witness_WallCommandsComplete :
    ((({} : Dev).admits (0 : Master).val (.wall (1 : Fin 2).val) 0x024 1 = true) ∧ ((({} : Dev).stored (0 : Master).val (.wall (1 : Fin 2).val) 0x024 1).wallState (1 : Fin 2).val ≠ 2)) ∧
    ((({} : Dev).admits (0 : Master).val (.wall (1 : Fin 2).val) 0x008 (0 : Word) = true) ∧ (Fld.PAGE_CTRL_SOFT_RESET.get (0 : Word) = 0) ∧ (Fld.PAGE_CTRL_ENABLE.get (({} : Dev).held (0 : Master).val (.wall (1 : Fin 2).val) 0x008) = 1) ∧ (Fld.PAGE_CTRL_ENABLE.get (0 : Word) = 0) ∧ ((({} : Dev).stored (0 : Master).val (.wall (1 : Fin 2).val) 0x008 (0 : Word)).wallState (1 : Fin 2).val ≠ 2)) ∧
    ((({} : Dev).admits (0 : Master).val (.wall (1 : Fin 2).val) 0x008 (1 : Word) = true) ∧ (Fld.PAGE_CTRL_SOFT_RESET.get (1 : Word) = 0) ∧ (Fld.PAGE_CTRL_ENABLE.get (1 : Word) = 1)) ∧
    ((({} : Dev).stopped = false)) ∧
    ((({} : Dev).stopped = false)) ∧
    ((({} : Dev).stopped = false)) ∧
    ((({} : Dev).stopped = false)) ∧
    ((({} : Dev).stopped = false)) ∧
    ((({} : Dev).stopped = false) ∧ ((1 : Nat) < 2)) ∧
    ((({} : Dev).stopped = false) ∧ (2 ≤ (3 : Nat))) ∧
    (((({} : Dev).wr (.wall 1) .WALL_CLAIM_STATE 5 : Dev).stopped = false) ∧ ((({} : Dev).wr (.wall 1) .WALL_CLAIM_STATE 5 : Dev).gateWall = some (0 : Nat)) ∧ ((({} : Dev).wr (.wall 1) .WALL_CLAIM_STATE 5 : Dev).wallEff (otherWall (0 : Nat)) ≠ 0) ∧ ((((({} : Dev).wr (.wall 1) .WALL_CLAIM_STATE 5 : Dev).inc .cgate .CGATE_MM_SEEN_COUNT).setEvt .cgate 11).wallState (otherWall (0 : Nat)) = 5)) ∧
    ((({} : Dev).stopped = false) ∧ (({} : Dev).gateWall = some (0 : Nat)) ∧ (({} : Dev).wallEff (otherWall (0 : Nat)) ≠ 0) ∧ (((({} : Dev).inc .cgate .CGATE_MM_SEEN_COUNT).setEvt .cgate 11).wallState (otherWall (0 : Nat)) = 1) ∧ (((({} : Dev).inc .cgate .CGATE_MM_SEEN_COUNT).setEvt .cgate 11).gates.testing = none)) ∧
    ((({ gates := { testing := some 7 } } : Dev).stopped = false) ∧ (({ gates := { testing := some 7 } } : Dev).gateWall = some (0 : Nat)) ∧ (({ gates := { testing := some 7 } } : Dev).wallEff (otherWall (0 : Nat)) ≠ 0) ∧ (((({ gates := { testing := some 7 } } : Dev).inc .cgate .CGATE_MM_SEEN_COUNT).setEvt .cgate 11 : Dev).wallState (otherWall (0 : Nat)) = 1) ∧ (((({ gates := { testing := some 7 } } : Dev).inc .cgate .CGATE_MM_SEEN_COUNT).setEvt .cgate 11 : Dev).gates.testing ≠ none)) ∧
    ((({ gates := { testing := some 70000 } } : Dev).stopped = false) ∧ (({ gates := { testing := some 70000 } } : Dev).gates.testing = some (70000 : Nat)) ∧ (((true : Bool) || (false : Bool)) = true)) ∧
    ((({ gates := { testing := some 70000 } } : Dev).stopped = false) ∧ (({ gates := { testing := some 70000 } } : Dev).gates.testing = some (70000 : Nat)) ∧ ((((((({ ({ gates := { testing := some 70000 } } : Dev) with gates := { ({ gates := { testing := some 70000 } } : Dev).gates with testing := none } } : Dev).wr .cgate .CGATE_STAT_SELFTEST 0).wr .cgate .CGATE_MM_LAST_KIND ((70000 : Nat) / 65536)).wr .cgate .CGATE_MM_LAST_INDEX ((70000 : Nat) % 65536)).wr .cgate .CGATE_MM_LAST_RESULT 0).inc .cgate .CGATE_MM_CNT_COUNT : Dev).rd .cgate .CGATE_CFG_MM_POLICY ≠ 1)) ∧
    (((({ regs := ((((({} : Dev).wr (.wall 0) .WALL_CLAIM_EFF 0).wr (.wall 1) .WALL_CLAIM_EFF 0).wr (.tll 0) .TLL_LSTAT_TX_STATE 2).wrB (.tll 0) 1 (Fld.nth .TLL_TXSLOT_TYPE 0) 3).regs } : Dev) : Dev).stopped = false) ∧ ((({ regs := ((((({} : Dev).wr (.wall 0) .WALL_CLAIM_EFF 0).wr (.wall 1) .WALL_CLAIM_EFF 0).wr (.tll 0) .TLL_LSTAT_TX_STATE 2).wrB (.tll 0) 1 (Fld.nth .TLL_TXSLOT_TYPE 0) 3).regs } : Dev) : Dev).acceptedWall = none) ∧ ((({ regs := ((((({} : Dev).wr (.wall 0) .WALL_CLAIM_EFF 0).wr (.wall 1) .WALL_CLAIM_EFF 0).wr (.tll 0) .TLL_LSTAT_TX_STATE 2).wrB (.tll 0) 1 (Fld.nth .TLL_TXSLOT_TYPE 0) 3).regs } : Dev) : Dev).outRuns (1152 : Fin 1472).val = true) ∧ (((({ regs := ((((({} : Dev).wr (.wall 0) .WALL_CLAIM_EFF 0).wr (.wall 1) .WALL_CLAIM_EFF 0).wr (.tll 0) .TLL_LSTAT_TX_STATE 2).wrB (.tll 0) 1 (Fld.nth .TLL_TXSLOT_TYPE 0) 3).regs } : Dev) : Dev).tc (1152 : Fin 1472).val).safe = false) ∧ ((({ regs := ((((({} : Dev).wr (.wall 0) .WALL_CLAIM_EFF 0).wr (.wall 1) .WALL_CLAIM_EFF 0).wr (.tll 0) .TLL_LSTAT_TX_STATE 2).wrB (.tll 0) 1 (Fld.nth .TLL_TXSLOT_TYPE 0) 3).regs } : Dev) : Dev).outDom (1152 : Fin 1472).val = none)) ∧
    (((({ tctx := [(1410, { zeroed := 2000 })], regs := (((({} : Dev).wr (.wall 0) .WALL_CLAIM_EFF 0).wr (.wall 1) .WALL_CLAIM_EFF 0).wr (.tdom 0) .TDOM_FMT_FMT 6).regs } : Dev) : Dev).stopped = false) ∧ ((({ tctx := [(1410, { zeroed := 2000 })], regs := (((({} : Dev).wr (.wall 0) .WALL_CLAIM_EFF 0).wr (.wall 1) .WALL_CLAIM_EFF 0).wr (.tdom 0) .TDOM_FMT_FMT 6).regs } : Dev) : Dev).acceptedWall = none) ∧ ((({ tctx := [(1410, { zeroed := 2000 })], regs := (((({} : Dev).wr (.wall 0) .WALL_CLAIM_EFF 0).wr (.wall 1) .WALL_CLAIM_EFF 0).wr (.tdom 0) .TDOM_FMT_FMT 6).regs } : Dev) : Dev).outRuns (1410 : Fin 1472).val = true) ∧ (((({ tctx := [(1410, { zeroed := 2000 })], regs := (((({} : Dev).wr (.wall 0) .WALL_CLAIM_EFF 0).wr (.wall 1) .WALL_CLAIM_EFF 0).wr (.tdom 0) .TDOM_FMT_FMT 6).regs } : Dev) : Dev).tc (1410 : Fin 1472).val).safe = false) ∧ ((({ tctx := [(1410, { zeroed := 2000 })], regs := (((({} : Dev).wr (.wall 0) .WALL_CLAIM_EFF 0).wr (.wall 1) .WALL_CLAIM_EFF 0).wr (.tdom 0) .TDOM_FMT_FMT 6).regs } : Dev) : Dev).outDom (1410 : Fin 1472).val = some (0 : Nat)) ∧ (fmtLines ((({ tctx := [(1410, { zeroed := 2000 })], regs := (((({} : Dev).wr (.wall 0) .WALL_CLAIM_EFF 0).wr (.wall 1) .WALL_CLAIM_EFF 0).wr (.tdom 0) .TDOM_FMT_FMT 6).regs } : Dev) : Dev).domFmt (0 : Nat)) ≤ ((({ tctx := [(1410, { zeroed := 2000 })], regs := (((({} : Dev).wr (.wall 0) .WALL_CLAIM_EFF 0).wr (.wall 1) .WALL_CLAIM_EFF 0).wr (.tdom 0) .TDOM_FMT_FMT 6).regs } : Dev) : Dev).tc (1410 : Fin 1472).val).zeroed)) ∧
    ((({} : Dev).admits (0 : Master).val (.wall (1 : Fin 2).val) 0x024 4 = true)) ∧
    (((({} : Dev).wr (.wall 1) .WALL_CLAIM_STATE 2 : Dev).admits (0 : Master).val (.wall (1 : Fin 2).val) 0x024 2 = true)) ∧
    (((({} : Dev).wr (.wall 1) .WALL_CLAIM_STATE 3 : Dev).stopped = false) ∧ ((({} : Dev).wr (.wall 1) .WALL_CLAIM_STATE 3 : Dev).wallState (1 : Fin 2).val = 3) ∧ ((({} : Dev).wr (.wall 1) .WALL_CLAIM_STATE 3 : Dev).gates.noCopy.contains (1 : Fin 2).val = false)) ∧
    (((({ regs := ((({} : Dev).wr (.wall 1) .WALL_CLAIM_STATE 3).wr (.wall 0) .WALL_CLAIM_EFF 0).regs, gates := { noCopy := [1] } } : Dev) : Dev).stopped = false) ∧ ((({ regs := ((({} : Dev).wr (.wall 1) .WALL_CLAIM_STATE 3).wr (.wall 0) .WALL_CLAIM_EFF 0).regs, gates := { noCopy := [1] } } : Dev) : Dev).wallState (1 : Fin 2).val = 3) ∧ ((({ regs := ((({} : Dev).wr (.wall 1) .WALL_CLAIM_STATE 3).wr (.wall 0) .WALL_CLAIM_EFF 0).regs, gates := { noCopy := [1] } } : Dev) : Dev).gates.noCopy.contains (1 : Fin 2).val = true) ∧ ((({ regs := ((({} : Dev).wr (.wall 1) .WALL_CLAIM_STATE 3).wr (.wall 0) .WALL_CLAIM_EFF 0).regs, gates := { noCopy := [1] } } : Dev) : Dev).wallEff (otherWall (1 : Fin 2).val) = 0)) ∧
    (((({} : Dev).wr (.wall 1) .WALL_CLAIM_STATE 3 : Dev).stopped = false) ∧ ((({} : Dev).wr (.wall 1) .WALL_CLAIM_STATE 3 : Dev).wallState (1 : Fin 2).val = 3)) ∧
    (((({} : Dev).wr (.wall 1) .WALL_CLAIM_STATE 4 : Dev).stopped = false) ∧ ((({} : Dev).wr (.wall 1) .WALL_CLAIM_STATE 4 : Dev).wallState (1 : Fin 2).val = 4) ∧ ((({} : Dev).wr (.wall 1) .WALL_CLAIM_STATE 4 : Dev).wallEff (otherWall (1 : Fin 2).val) ≠ 0)) ∧
    (((({} : Dev).wr (.wall 1) .WALL_CLAIM_STATE 4 : Dev).stopped = false) ∧ ((({} : Dev).wr (.wall 1) .WALL_CLAIM_STATE 4 : Dev).wallState (1 : Fin 2).val = 4)) ∧
    (((({} : Dev).wr (.wall 1) .WALL_CLAIM_STATE 5 : Dev).stopped = false) ∧ ((({} : Dev).wr (.wall 1) .WALL_CLAIM_STATE 5 : Dev).wallState (1 : Fin 2).val = 5) ∧ ((({} : Dev).wr (.wall 1) .WALL_CLAIM_STATE 5 : Dev).shadowOver = true)) ∧
    ((({} : Dev).admits (0 : Master).val (.wall (1 : Fin 2).val) 0x020 (2 : Word) = true)) ∧
    ((({} : Dev).admits (0 : Master).val (.wall (1 : Fin 2).val) 0x024 8 = true)) := by
  refine ⟨?_, ?_, ?_, ?_, ?_, ?_, ?_, ?_, ?_, ?_, ?_, ?_, ?_, ?_, ?_, ?_, ?_, ?_, ?_, ?_, ?_, ?_, ?_, ?_, ?_, ?_, ?_⟩ <;> decide +kernel

theorem test_witness_ClaimGateCommandsComplete :
    (((({} : Dev).wr (.tdom 3) .TDOM_FMT_FMT 6 : Dev).admits (0 : Master).val .cgate 0x024 (BitVec.ofNat 32 (0x10000 + (3 : Fin 16).val)) = true)) ∧
    ((({} : Dev).admits (0 : Master).val .cgate 0x024 0x20000 = true) ∧ ((({} : Dev).stored (0 : Master).val .cgate 0x024 0x20000).gates.swap = none)) ∧
    ((({ gates := { swap := some (3, 0) } } : Dev).admits (0 : Master).val .cgate 0x024 0x20000 = true) ∧ ((({ gates := { swap := some (3, 0) } } : Dev).stored (0 : Master).val .cgate 0x024 0x20000).gates.swap ≠ none)) ∧
    ((({ xo := 100000, gates := { swap := some (3, 0) } } : Dev).stopped = false) ∧ (({ xo := 100000, gates := { swap := some (3, 0) } } : Dev).gates.swap = some ((3 : Fin 16).val, (0 : Nat))) ∧ (({ xo := 100000, gates := { swap := some (3, 0) } } : Dev).deferring = false) ∧ (({ xo := 100000, gates := { swap := some (3, 0) } } : Dev).setup ≤ ({ xo := 100000, gates := { swap := some (3, 0) } } : Dev).since (0 : Nat))) ∧
    ((({} : Dev).admits (0 : Master).val .cgate 0x040 1 = true)) := by
  refine ⟨?_, ?_, ?_, ?_, ?_⟩ <;> decide +kernel

theorem test_witness_EngineArithmeticComplete :
    (((({ istore := [(0, 0x00000000)], regs := ((({} : Dev).wr (.leng 0) .LENG_STAT_STATE 1)).regs } : Dev) : Dev).meets (0 : Fin 144).val 0x00 = true)) ∧
    (((({ istore := [(0, 0x0448C000)], regs := ((({} : Dev).wr (.leng 0) .LENG_STAT_STATE 1)).regs } : Dev) : Dev).meets (0 : Fin 144).val 0x01 = true)) ∧
    (((({ istore := [(0, 0x0848C000)], regs := ((({} : Dev).wr (.leng 0) .LENG_STAT_STATE 1)).regs } : Dev) : Dev).meets (0 : Fin 144).val 0x02 = true)) ∧
    (((({ istore := [(0, 0x0C48C000)], regs := ((({} : Dev).wr (.leng 0) .LENG_STAT_STATE 1)).regs } : Dev) : Dev).meets (0 : Fin 144).val 0x03 = true)) ∧
    (((({ istore := [(0, 0x1048C000)], regs := ((({} : Dev).wr (.leng 0) .LENG_STAT_STATE 1)).regs } : Dev) : Dev).meets (0 : Fin 144).val 0x04 = true)) ∧
    (((({ istore := [(0, 0x1448C000)], regs := ((({} : Dev).wr (.leng 0) .LENG_STAT_STATE 1)).regs } : Dev) : Dev).meets (0 : Fin 144).val 0x05 = true)) ∧
    (((({ istore := [(0, 0x1848C000)], regs := ((({} : Dev).wr (.leng 0) .LENG_STAT_STATE 1)).regs } : Dev) : Dev).meets (0 : Fin 144).val 0x06 = true)) ∧
    (((({ istore := [(0, 0x1C48C000)], regs := ((({} : Dev).wr (.leng 0) .LENG_STAT_STATE 1)).regs } : Dev) : Dev).meets (0 : Fin 144).val 0x07 = true)) ∧
    (((({ istore := [(0, 0x20480005)], regs := ((({} : Dev).wr (.leng 0) .LENG_STAT_STATE 1)).regs } : Dev) : Dev).meets (0 : Fin 144).val 0x08 = true)) ∧
    (((({ istore := [(0, 0x24480005)], regs := ((({} : Dev).wr (.leng 0) .LENG_STAT_STATE 1)).regs } : Dev) : Dev).meets (0 : Fin 144).val 0x09 = true)) ∧
    (((({ istore := [(0, 0x28480005)], regs := ((({} : Dev).wr (.leng 0) .LENG_STAT_STATE 1)).regs } : Dev) : Dev).meets (0 : Fin 144).val 0x0A = true)) ∧
    (((({ istore := [(0, 0x2C480005)], regs := ((({} : Dev).wr (.leng 0) .LENG_STAT_STATE 1)).regs } : Dev) : Dev).meets (0 : Fin 144).val 0x0B = true)) ∧
    (((({ istore := [(0, 0x30480005)], regs := ((({} : Dev).wr (.leng 0) .LENG_STAT_STATE 1)).regs } : Dev) : Dev).meets (0 : Fin 144).val 0x0C = true)) ∧
    (((({ istore := [(0, 0x34400005)], regs := ((({} : Dev).wr (.leng 0) .LENG_STAT_STATE 1)).regs } : Dev) : Dev).meets (0 : Fin 144).val 0x0D = true)) ∧
    (((({ istore := [(0, 0x384800E4)], regs := ((({} : Dev).wr (.leng 0) .LENG_STAT_STATE 1)).regs } : Dev) : Dev).meets (0 : Fin 144).val 0x0E = true)) ∧
    (((({ istore := [(0, 0x3C4800E4)], regs := ((({} : Dev).wr (.leng 0) .LENG_STAT_STATE 1)).regs } : Dev) : Dev).meets (0 : Fin 144).val 0x0F = true)) ∧
    (((({ istore := [(0, 0x88480000)], regs := ((({} : Dev).wr (.leng 0) .LENG_STAT_STATE 1)).regs } : Dev) : Dev).meets (0 : Fin 144).val 0x22 = true)) ∧
    (((({ istore := [(0, 0x8C480000)], regs := ((({} : Dev).wr (.leng 0) .LENG_STAT_STATE 1)).regs } : Dev) : Dev).meets (0 : Fin 144).val 0x23 = true)) ∧
    (((({ istore := [(0, 0x9C400000)], regs := ((({} : Dev).wr (.leng 0) .LENG_STAT_STATE 1)).regs } : Dev) : Dev).meets (0 : Fin 144).val 0x27 = true) ∧ (iZ ((({ istore := [(0, 0x9C400000)], regs := ((({} : Dev).wr (.leng 0) .LENG_STAT_STATE 1)).regs } : Dev) : Dev).fetch (0 : Fin 144).val) = 0)) ∧
    (((({ istore := [(0, 0x9C400001)], regs := ((({} : Dev).wr (.leng 0) .LENG_STAT_STATE 1)).regs } : Dev) : Dev).meets (0 : Fin 144).val 0x27 = true) ∧ (iZ ((({ istore := [(0, 0x9C400001)], regs := ((({} : Dev).wr (.leng 0) .LENG_STAT_STATE 1)).regs } : Dev) : Dev).fetch (0 : Fin 144).val) ≠ 0)) := by
  refine ⟨?_, ?_, ?_, ?_, ?_, ?_, ?_, ?_, ?_, ?_, ?_, ?_, ?_, ?_, ?_, ?_, ?_, ?_, ?_, ?_⟩ <;> decide +kernel

theorem test_witness_EngineControlComplete :
    (((({ istore := [(0, 0x40400005)], regs := ((({} : Dev).wr (.leng 0) .LENG_STAT_STATE 1)).regs } : Dev) : Dev).meets (0 : Fin 144).val 0x10 = true) ∧ (¬ 2047 < ((({ istore := [(0, 0x40400005)], regs := ((({} : Dev).wr (.leng 0) .LENG_STAT_STATE 1)).regs } : Dev) : Dev).billed (0 : Fin 144).val 0x10).dataAddr (0 : Fin 144).val ((({ istore := [(0, 0x40400005)], regs := ((({} : Dev).wr (.leng 0) .LENG_STAT_STATE 1)).regs } : Dev) : Dev).fetch (0 : Fin 144).val))) ∧
    (((({ istore := [(0, 0x40403FFF)], regs := ((({} : Dev).wr (.leng 0) .LENG_STAT_STATE 1)).regs } : Dev) : Dev).meets (0 : Fin 144).val 0x10 = true) ∧ (2047 < ((({ istore := [(0, 0x40403FFF)], regs := ((({} : Dev).wr (.leng 0) .LENG_STAT_STATE 1)).regs } : Dev) : Dev).billed (0 : Fin 144).val 0x10).dataAddr (0 : Fin 144).val ((({ istore := [(0, 0x40403FFF)], regs := ((({} : Dev).wr (.leng 0) .LENG_STAT_STATE 1)).regs } : Dev) : Dev).fetch (0 : Fin 144).val))) ∧
    (((({ istore := [(0, 0x44004005)], regs := ((({} : Dev).wr (.leng 0) .LENG_STAT_STATE 1)).regs } : Dev) : Dev).meets (0 : Fin 144).val 0x11 = true) ∧ (¬ 2047 < ((({ istore := [(0, 0x44004005)], regs := ((({} : Dev).wr (.leng 0) .LENG_STAT_STATE 1)).regs } : Dev) : Dev).billed (0 : Fin 144).val 0x11).dataAddr (0 : Fin 144).val ((({ istore := [(0, 0x44004005)], regs := ((({} : Dev).wr (.leng 0) .LENG_STAT_STATE 1)).regs } : Dev) : Dev).fetch (0 : Fin 144).val))) ∧
    (((({ istore := [(0, 0x44007FFF)], regs := ((({} : Dev).wr (.leng 0) .LENG_STAT_STATE 1)).regs } : Dev) : Dev).meets (0 : Fin 144).val 0x11 = true) ∧ (2047 < ((({ istore := [(0, 0x44007FFF)], regs := ((({} : Dev).wr (.leng 0) .LENG_STAT_STATE 1)).regs } : Dev) : Dev).billed (0 : Fin 144).val 0x11).dataAddr (0 : Fin 144).val ((({ istore := [(0, 0x44007FFF)], regs := ((({} : Dev).wr (.leng 0) .LENG_STAT_STATE 1)).regs } : Dev) : Dev).fetch (0 : Fin 144).val))) ∧
    (((({ istore := [(0, 0x48048003)], regs := ((({} : Dev).wr (.leng 0) .LENG_STAT_STATE 1)).regs } : Dev) : Dev).meets (0 : Fin 144).val 0x12 = true)) ∧
    (((({ istore := [(0, 0x4C048003)], regs := ((({} : Dev).wr (.leng 0) .LENG_STAT_STATE 1)).regs } : Dev) : Dev).meets (0 : Fin 144).val 0x13 = true)) ∧
    (((({ istore := [(0, 0x50048003)], regs := ((({} : Dev).wr (.leng 0) .LENG_STAT_STATE 1)).regs } : Dev) : Dev).meets (0 : Fin 144).val 0x14 = true)) ∧
    (((({ istore := [(0, 0x54048003)], regs := ((({} : Dev).wr (.leng 0) .LENG_STAT_STATE 1)).regs } : Dev) : Dev).meets (0 : Fin 144).val 0x15 = true)) ∧
    (((({ istore := [(0, 0x5800004D)], regs := ((({} : Dev).wr (.leng 0) .LENG_STAT_STATE 1)).regs } : Dev) : Dev).meets (0 : Fin 144).val 0x16 = true)) ∧
    (((({ istore := [(0, 0x5C00004D)], regs := ((({} : Dev).wr (.leng 0) .LENG_STAT_STATE 1)).regs } : Dev) : Dev).meets (0 : Fin 144).val 0x17 = true) ∧ (¬ 8 ≤ (((({ istore := [(0, 0x5C00004D)], regs := ((({} : Dev).wr (.leng 0) .LENG_STAT_STATE 1)).regs } : Dev) : Dev).billed (0 : Fin 144).val 0x17).leng (0 : Fin 144).val).stack.length)) ∧
    (((({ istore := [(0, 0x5C00004D)], lengs := [(0, { stack := [1, 2, 3, 4, 5, 6, 7, 8] })], regs := ((({} : Dev).wr (.leng 0) .LENG_STAT_STATE 1)).regs } : Dev) : Dev).meets (0 : Fin 144).val 0x17 = true) ∧ (8 ≤ (((({ istore := [(0, 0x5C00004D)], lengs := [(0, { stack := [1, 2, 3, 4, 5, 6, 7, 8] })], regs := ((({} : Dev).wr (.leng 0) .LENG_STAT_STATE 1)).regs } : Dev) : Dev).billed (0 : Fin 144).val 0x17).leng (0 : Fin 144).val).stack.length)) ∧
    (((({ istore := [(0, 0x60000000)], lengs := [(0, { stack := [5, 6] })], regs := ((({} : Dev).wr (.leng 0) .LENG_STAT_STATE 1)).regs } : Dev) : Dev).meets (0 : Fin 144).val 0x18 = true) ∧ ((((({ istore := [(0, 0x60000000)], lengs := [(0, { stack := [5, 6] })], regs := ((({} : Dev).wr (.leng 0) .LENG_STAT_STATE 1)).regs } : Dev) : Dev).billed (0 : Fin 144).val 0x18).leng (0 : Fin 144).val).stack = (5 : Nat) :: ([6] : List Nat))) ∧
    (((({ istore := [(0, 0x60000000)], regs := ((({} : Dev).wr (.leng 0) .LENG_STAT_STATE 1)).regs } : Dev) : Dev).meets (0 : Fin 144).val 0x18 = true) ∧ ((((({ istore := [(0, 0x60000000)], regs := ((({} : Dev).wr (.leng 0) .LENG_STAT_STATE 1)).regs } : Dev) : Dev).billed (0 : Fin 144).val 0x18).leng (0 : Fin 144).val).stack = [])) ∧
    (((({ istore := [(0, 0x64400002)], regs := ((({} : Dev).wr (.leng 0) .LENG_STAT_STATE 1).wr (.leng 0) .LENG_EVT_LATCHED 2).regs } : Dev) : Dev).meets (0 : Fin 144).val 0x19 = true) ∧ ((BitVec.ofNat 5 (((({ istore := [(0, 0x64400002)], regs := ((({} : Dev).wr (.leng 0) .LENG_STAT_STATE 1).wr (.leng 0) .LENG_EVT_LATCHED 2).regs } : Dev) : Dev).billed (0 : Fin 144).val 0x19).lf (0 : Fin 144).val .LENG_EVT_LATCHED) &&& BitVec.ofNat 5 (iZ ((({ istore := [(0, 0x64400002)], regs := ((({} : Dev).wr (.leng 0) .LENG_STAT_STATE 1).wr (.leng 0) .LENG_EVT_LATCHED 2).regs } : Dev) : Dev).fetch (0 : Fin 144).val) % 32)) ≠ 0)) ∧
    (((({ istore := [(0, 0x64400002)], regs := ((({} : Dev).wr (.leng 0) .LENG_STAT_STATE 1)).regs } : Dev) : Dev).meets (0 : Fin 144).val 0x19 = true) ∧ ((BitVec.ofNat 5 (((({ istore := [(0, 0x64400002)], regs := ((({} : Dev).wr (.leng 0) .LENG_STAT_STATE 1)).regs } : Dev) : Dev).billed (0 : Fin 144).val 0x19).lf (0 : Fin 144).val .LENG_EVT_LATCHED) &&& BitVec.ofNat 5 (iZ ((({ istore := [(0, 0x64400002)], regs := ((({} : Dev).wr (.leng 0) .LENG_STAT_STATE 1)).regs } : Dev) : Dev).fetch (0 : Fin 144).val) % 32)) = 0)) ∧
    (((({ istore := [(0, 0x90000003)], regs := ((({} : Dev).wr (.leng 0) .LENG_STAT_STATE 1)).regs } : Dev) : Dev).meets (0 : Fin 144).val 0x24 = true)) ∧
    (((({ istore := [(0, 0x94400003)], regs := ((({} : Dev).wr (.leng 0) .LENG_STAT_STATE 1).wr (.leng 0) .LENG_PERM_PMC_READ 1|>.wr .pmc .PMC_CTL_USER_READ 1|>.wr .pmc (Fld.nth .PMC_CFG_USER 3) 1).regs } : Dev) : Dev).meets (0 : Fin 144).val 0x25 = true) ∧ (((({ istore := [(0, 0x94400003)], regs := ((({} : Dev).wr (.leng 0) .LENG_STAT_STATE 1).wr (.leng 0) .LENG_PERM_PMC_READ 1|>.wr .pmc .PMC_CTL_USER_READ 1|>.wr .pmc (Fld.nth .PMC_CFG_USER 3) 1).regs } : Dev) : Dev).billed (0 : Fin 144).val 0x25).lf (0 : Fin 144).val .LENG_PERM_PMC_READ = 1) ∧ (((({ istore := [(0, 0x94400003)], regs := ((({} : Dev).wr (.leng 0) .LENG_STAT_STATE 1).wr (.leng 0) .LENG_PERM_PMC_READ 1|>.wr .pmc .PMC_CTL_USER_READ 1|>.wr .pmc (Fld.nth .PMC_CFG_USER 3) 1).regs } : Dev) : Dev).billed (0 : Fin 144).val 0x25).on .pmc .PMC_CTL_USER_READ = true) ∧ (((({ istore := [(0, 0x94400003)], regs := ((({} : Dev).wr (.leng 0) .LENG_STAT_STATE 1).wr (.leng 0) .LENG_PERM_PMC_READ 1|>.wr .pmc .PMC_CTL_USER_READ 1|>.wr .pmc (Fld.nth .PMC_CFG_USER 3) 1).regs } : Dev) : Dev).billed (0 : Fin 144).val 0x25).on .pmc (Fld.nth .PMC_CFG_USER (iZ ((({ istore := [(0, 0x94400003)], regs := ((({} : Dev).wr (.leng 0) .LENG_STAT_STATE 1).wr (.leng 0) .LENG_PERM_PMC_READ 1|>.wr .pmc .PMC_CTL_USER_READ 1|>.wr .pmc (Fld.nth .PMC_CFG_USER 3) 1).regs } : Dev) : Dev).fetch (0 : Fin 144).val) % 64)) = true)) ∧
    (((({ istore := [(0, 0x94400003)], regs := ((({} : Dev).wr (.leng 0) .LENG_STAT_STATE 1)).regs } : Dev) : Dev).meets (0 : Fin 144).val 0x25 = true) ∧ (((({ istore := [(0, 0x94400003)], regs := ((({} : Dev).wr (.leng 0) .LENG_STAT_STATE 1)).regs } : Dev) : Dev).billed (0 : Fin 144).val 0x25).lf (0 : Fin 144).val .LENG_PERM_PMC_READ ≠ 1)) ∧
    (((({ istore := [(0, 0x98040000)], regs := ((({} : Dev).wr (.leng 0) .LENG_STAT_STATE 1).wr (.leng 0) .LENG_PERM_DBELL 1).regs } : Dev) : Dev).meets (0 : Fin 144).val 0x26 = true) ∧ (((({ istore := [(0, 0x98040000)], regs := ((({} : Dev).wr (.leng 0) .LENG_STAT_STATE 1).wr (.leng 0) .LENG_PERM_DBELL 1).regs } : Dev) : Dev).billed (0 : Fin 144).val 0x26).lf (0 : Fin 144).val .LENG_PERM_DBELL ≠ 0)) ∧
    (((({ istore := [(0, 0x98040000)], regs := ((({} : Dev).wr (.leng 0) .LENG_STAT_STATE 1).wr (.leng 0) .LENG_PERM_DBELL 0).regs } : Dev) : Dev).meets (0 : Fin 144).val 0x26 = true) ∧ (((({ istore := [(0, 0x98040000)], regs := ((({} : Dev).wr (.leng 0) .LENG_STAT_STATE 1).wr (.leng 0) .LENG_PERM_DBELL 0).regs } : Dev) : Dev).billed (0 : Fin 144).val 0x26).lf (0 : Fin 144).val .LENG_PERM_DBELL = 0)) ∧
    (((({ istore := [(0, 0xA0000007)], regs := ((({} : Dev).wr (.leng 0) .LENG_STAT_STATE 1)).regs } : Dev) : Dev).meets (0 : Fin 144).val 0x28 = true)) ∧
    (((({ istore := [(0, 0xFFFFFFFF)], regs := ((({} : Dev).wr (.leng 0) .LENG_STAT_STATE 1)).regs } : Dev) : Dev).stopped = false) ∧ ((({ istore := [(0, 0xFFFFFFFF)], regs := ((({} : Dev).wr (.leng 0) .LENG_STAT_STATE 1)).regs } : Dev) : Dev).lengState (0 : Fin 144).val = 1) ∧ (instrOk ((({ istore := [(0, 0xFFFFFFFF)], regs := ((({} : Dev).wr (.leng 0) .LENG_STAT_STATE 1)).regs } : Dev) : Dev).fetch (0 : Fin 144).val) = false)) := by
  refine ⟨?_, ?_, ?_, ?_, ?_, ?_, ?_, ?_, ?_, ?_, ?_, ?_, ?_, ?_, ?_, ?_, ?_, ?_, ?_, ?_, ?_, ?_⟩ <;> decide +kernel

theorem test_witness_EnginePacketComplete :
    (((({ istore := [(0, 0x68400001)], lengs := [(0, { fifo := [{ tx := none, pkt := { did := 0x60, sdid := 5, udw := [0x101] } }] })], regs := ((({} : Dev).wr (.leng 0) .LENG_STAT_STATE 1)).regs } : Dev) : Dev).meets (0 : Fin 144).val 0x1A = true) ∧ (((({ istore := [(0, 0x68400001)], lengs := [(0, { fifo := [{ tx := none, pkt := { did := 0x60, sdid := 5, udw := [0x101] } }] })], regs := ((({} : Dev).wr (.leng 0) .LENG_STAT_STATE 1)).regs } : Dev) : Dev).billed (0 : Fin 144).val 0x1A).head (0 : Fin 144).val = some ({ tx := none, pkt := { did := 0x60, sdid := 5, udw := [0x101] } } : PathRec))) ∧
    (((({ istore := [(0, 0x6C400000)], lengs := [(0, { fifo := [{ tx := none, pkt := { did := 0x60, sdid := 5, udw := [0x101] } }] })], regs := ((({} : Dev).wr (.leng 0) .LENG_STAT_STATE 1)).regs } : Dev) : Dev).meets (0 : Fin 144).val 0x1B = true) ∧ (((({ istore := [(0, 0x6C400000)], lengs := [(0, { fifo := [{ tx := none, pkt := { did := 0x60, sdid := 5, udw := [0x101] } }] })], regs := ((({} : Dev).wr (.leng 0) .LENG_STAT_STATE 1)).regs } : Dev) : Dev).billed (0 : Fin 144).val 0x1B).head (0 : Fin 144).val = some ({ tx := none, pkt := { did := 0x60, sdid := 5, udw := [0x101] } } : PathRec)) ∧ (({ tx := none, pkt := { did := 0x60, sdid := 5, udw := [0x101] } } : PathRec).pkt.udw[(((({ istore := [(0, 0x6C400000)], lengs := [(0, { fifo := [{ tx := none, pkt := { did := 0x60, sdid := 5, udw := [0x101] } }] })], regs := ((({} : Dev).wr (.leng 0) .LENG_STAT_STATE 1)).regs } : Dev) : Dev).billed (0 : Fin 144).val 0x1B).leng (0 : Fin 144).val).udw]? = some (0x101 : Word10))) ∧
    (((({ istore := [(0, 0x6C400000)], lengs := [(0, { udw := 1, fifo := [{ tx := none, pkt := { did := 0x60, sdid := 5, udw := [0x101] } }] })], regs := ((({} : Dev).wr (.leng 0) .LENG_STAT_STATE 1)).regs } : Dev) : Dev).meets (0 : Fin 144).val 0x1B = true) ∧ (((({ istore := [(0, 0x6C400000)], lengs := [(0, { udw := 1, fifo := [{ tx := none, pkt := { did := 0x60, sdid := 5, udw := [0x101] } }] })], regs := ((({} : Dev).wr (.leng 0) .LENG_STAT_STATE 1)).regs } : Dev) : Dev).billed (0 : Fin 144).val 0x1B).head (0 : Fin 144).val = some ({ tx := none, pkt := { did := 0x60, sdid := 5, udw := [0x101] } } : PathRec)) ∧ (({ tx := none, pkt := { did := 0x60, sdid := 5, udw := [0x101] } } : PathRec).pkt.udw[(((({ istore := [(0, 0x6C400000)], lengs := [(0, { udw := 1, fifo := [{ tx := none, pkt := { did := 0x60, sdid := 5, udw := [0x101] } }] })], regs := ((({} : Dev).wr (.leng 0) .LENG_STAT_STATE 1)).regs } : Dev) : Dev).billed (0 : Fin 144).val 0x1B).leng (0 : Fin 144).val).udw]? = none)) ∧
    (((({ istore := [(0, 0x70048003)], regs := ((({} : Dev).wr (.leng 0) .LENG_STAT_STATE 1)).regs } : Dev) : Dev).meets (0 : Fin 144).val 0x1C = true)) ∧
    (((({ istore := [(0, 0x74040000)], lengs := [(0, { build := some { w0 := 0, w1 := 0, cls := 0 } })], regs := ((({} : Dev).wr (.leng 0) .LENG_STAT_STATE 1)).regs } : Dev) : Dev).meets (0 : Fin 144).val 0x1D = true) ∧ ((((({ istore := [(0, 0x74040000)], lengs := [(0, { build := some { w0 := 0, w1 := 0, cls := 0 } })], regs := ((({} : Dev).wr (.leng 0) .LENG_STAT_STATE 1)).regs } : Dev) : Dev).billed (0 : Fin 144).val 0x1D).leng (0 : Fin 144).val).build = some ({ w0 := 0, w1 := 0, cls := 0 } : BuildI)) ∧ (¬ 255 ≤ ({ w0 := 0, w1 := 0, cls := 0 } : BuildI).udw.length)) ∧
    (((({ istore := [(0, 0x74040000)], lengs := [(0, { build := some { w0 := 0, w1 := 0, cls := 0, udw := List.replicate 255 0 } })], regs := ((({} : Dev).wr (.leng 0) .LENG_STAT_STATE 1)).regs } : Dev) : Dev).meets (0 : Fin 144).val 0x1D = true) ∧ ((((({ istore := [(0, 0x74040000)], lengs := [(0, { build := some { w0 := 0, w1 := 0, cls := 0, udw := List.replicate 255 0 } })], regs := ((({} : Dev).wr (.leng 0) .LENG_STAT_STATE 1)).regs } : Dev) : Dev).billed (0 : Fin 144).val 0x1D).leng (0 : Fin 144).val).build = some ({ w0 := 0, w1 := 0, cls := 0, udw := List.replicate 255 0 } : BuildI)) ∧ (255 ≤ ({ w0 := 0, w1 := 0, cls := 0, udw := List.replicate 255 0 } : BuildI).udw.length)) ∧
    (((({ istore := [(0, 0x78480000)], lengs := [(0, { build := some { w0 := 0, w1 := 0, cls := 0 } })], regs := ((({} : Dev).wr (.leng 0) .LENG_STAT_STATE 1).wr (.leng 0) .LENG_PERM_NEW_RX 1).regs } : Dev) : Dev).meets (0 : Fin 144).val 0x1E = true) ∧ ((((({ istore := [(0, 0x78480000)], lengs := [(0, { build := some { w0 := 0, w1 := 0, cls := 0 } })], regs := ((({} : Dev).wr (.leng 0) .LENG_STAT_STATE 1).wr (.leng 0) .LENG_PERM_NEW_RX 1).regs } : Dev) : Dev).billed (0 : Fin 144).val 0x1E).leng (0 : Fin 144).val).build = some ({ w0 := 0, w1 := 0, cls := 0 } : BuildI)) ∧ (iZ ((({ istore := [(0, 0x78480000)], lengs := [(0, { build := some { w0 := 0, w1 := 0, cls := 0 } })], regs := ((({} : Dev).wr (.leng 0) .LENG_STAT_STATE 1).wr (.leng 0) .LENG_PERM_NEW_RX 1).regs } : Dev) : Dev).fetch (0 : Fin 144).val) % 4 = 0) ∧ (((({ istore := [(0, 0x78480000)], lengs := [(0, { build := some { w0 := 0, w1 := 0, cls := 0 } })], regs := ((({} : Dev).wr (.leng 0) .LENG_STAT_STATE 1).wr (.leng 0) .LENG_PERM_NEW_RX 1).regs } : Dev) : Dev).billed (0 : Fin 144).val 0x1E).lf (0 : Fin 144).val .LENG_PERM_NEW_RX = 1) ∧ (({ w0 := 0, w1 := 0, cls := 0 } : BuildI).toRec.tile / 8 = (0 : Fin 144).val)) ∧
    (((({ istore := [(0, 0x78480001)], lengs := [(0, { build := some { w0 := 0, w1 := 0, cls := 0 } })], regs := ((({} : Dev).wr (.leng 0) .LENG_STAT_STATE 1).wr (.leng 0) .LENG_PERM_NEW_TX 1).regs } : Dev) : Dev).meets (0 : Fin 144).val 0x1E = true) ∧ ((((({ istore := [(0, 0x78480001)], lengs := [(0, { build := some { w0 := 0, w1 := 0, cls := 0 } })], regs := ((({} : Dev).wr (.leng 0) .LENG_STAT_STATE 1).wr (.leng 0) .LENG_PERM_NEW_TX 1).regs } : Dev) : Dev).billed (0 : Fin 144).val 0x1E).leng (0 : Fin 144).val).build = some ({ w0 := 0, w1 := 0, cls := 0 } : BuildI)) ∧ (iZ ((({ istore := [(0, 0x78480001)], lengs := [(0, { build := some { w0 := 0, w1 := 0, cls := 0 } })], regs := ((({} : Dev).wr (.leng 0) .LENG_STAT_STATE 1).wr (.leng 0) .LENG_PERM_NEW_TX 1).regs } : Dev) : Dev).fetch (0 : Fin 144).val) % 4 = 1) ∧ (((({ istore := [(0, 0x78480001)], lengs := [(0, { build := some { w0 := 0, w1 := 0, cls := 0 } })], regs := ((({} : Dev).wr (.leng 0) .LENG_STAT_STATE 1).wr (.leng 0) .LENG_PERM_NEW_TX 1).regs } : Dev) : Dev).billed (0 : Fin 144).val 0x1E).lf (0 : Fin 144).val .LENG_PERM_NEW_TX = 1) ∧ (({ w0 := 0, w1 := 0, cls := 0 } : BuildI).toRec.tile / 8 = (0 : Fin 144).val)) ∧
    (((({ istore := [(0, 0x78480002)], lengs := [(0, { build := some { w0 := 0, w1 := 0, cls := 0 } })], regs := ((({} : Dev).wr (.leng 0) .LENG_STAT_STATE 1).wr (.leng 0) .LENG_PERM_QCOUNT 5).regs } : Dev) : Dev).meets (0 : Fin 144).val 0x1E = true) ∧ ((((({ istore := [(0, 0x78480002)], lengs := [(0, { build := some { w0 := 0, w1 := 0, cls := 0 } })], regs := ((({} : Dev).wr (.leng 0) .LENG_STAT_STATE 1).wr (.leng 0) .LENG_PERM_QCOUNT 5).regs } : Dev) : Dev).billed (0 : Fin 144).val 0x1E).leng (0 : Fin 144).val).build = some ({ w0 := 0, w1 := 0, cls := 0 } : BuildI)) ∧ (iZ ((({ istore := [(0, 0x78480002)], lengs := [(0, { build := some { w0 := 0, w1 := 0, cls := 0 } })], regs := ((({} : Dev).wr (.leng 0) .LENG_STAT_STATE 1).wr (.leng 0) .LENG_PERM_QCOUNT 5).regs } : Dev) : Dev).fetch (0 : Fin 144).val) % 4 = 2) ∧ (((({ istore := [(0, 0x78480002)], lengs := [(0, { build := some { w0 := 0, w1 := 0, cls := 0 } })], regs := ((({} : Dev).wr (.leng 0) .LENG_STAT_STATE 1).wr (.leng 0) .LENG_PERM_QCOUNT 5).regs } : Dev) : Dev).billed (0 : Fin 144).val 0x1E).queuePerm (0 : Fin 144).val ((((({ istore := [(0, 0x78480002)], lengs := [(0, { build := some { w0 := 0, w1 := 0, cls := 0 } })], regs := ((({} : Dev).wr (.leng 0) .LENG_STAT_STATE 1).wr (.leng 0) .LENG_PERM_QCOUNT 5).regs } : Dev) : Dev).billed (0 : Fin 144).val 0x1E).greg (0 : Fin 144).val (iA ((({ istore := [(0, 0x78480002)], lengs := [(0, { build := some { w0 := 0, w1 := 0, cls := 0 } })], regs := ((({} : Dev).wr (.leng 0) .LENG_STAT_STATE 1).wr (.leng 0) .LENG_PERM_QCOUNT 5).regs } : Dev) : Dev).fetch (0 : Fin 144).val))).toNat % 1024) = true)) ∧
    (((({ istore := [(0, 0x7C000000)], lengs := [(0, { fifo := [{ tx := none, pkt := { did := 0x60, sdid := 5, udw := [0x101] } }] })], regs := ((({} : Dev).wr (.leng 0) .LENG_STAT_STATE 1)).regs } : Dev) : Dev).meets (0 : Fin 144).val 0x1F = true) ∧ (((({ istore := [(0, 0x7C000000)], lengs := [(0, { fifo := [{ tx := none, pkt := { did := 0x60, sdid := 5, udw := [0x101] } }] })], regs := ((({} : Dev).wr (.leng 0) .LENG_STAT_STATE 1)).regs } : Dev) : Dev).billed (0 : Fin 144).val 0x1F).head (0 : Fin 144).val = some ({ tx := none, pkt := { did := 0x60, sdid := 5, udw := [0x101] } } : PathRec))) ∧
    (((({ istore := [(0, 0x80000000)], lengs := [(0, { fifo := [{ tx := none, pkt := { did := 0x60, sdid := 5, udw := [0x101] } }] })], regs := ((({} : Dev).wr (.leng 0) .LENG_STAT_STATE 1)).regs } : Dev) : Dev).meets (0 : Fin 144).val 0x20 = true) ∧ (((({ istore := [(0, 0x80000000)], lengs := [(0, { fifo := [{ tx := none, pkt := { did := 0x60, sdid := 5, udw := [0x101] } }] })], regs := ((({} : Dev).wr (.leng 0) .LENG_STAT_STATE 1)).regs } : Dev) : Dev).billed (0 : Fin 144).val 0x20).head (0 : Fin 144).val = some ({ tx := none, pkt := { did := 0x60, sdid := 5, udw := [0x101] } } : PathRec))) ∧
    (((({ istore := [(0, 0x84480000)], lengs := [(0, { fifo := [{ tx := none, pkt := { did := 0x60, sdid := 5, udw := [0x101] } }] })], regs := ((({} : Dev).wr (.leng 0) .LENG_STAT_STATE 1).wr (.leng 0) .LENG_PERM_QCOUNT 5).regs } : Dev) : Dev).meets (0 : Fin 144).val 0x21 = true) ∧ (((({ istore := [(0, 0x84480000)], lengs := [(0, { fifo := [{ tx := none, pkt := { did := 0x60, sdid := 5, udw := [0x101] } }] })], regs := ((({} : Dev).wr (.leng 0) .LENG_STAT_STATE 1).wr (.leng 0) .LENG_PERM_QCOUNT 5).regs } : Dev) : Dev).billed (0 : Fin 144).val 0x21).head (0 : Fin 144).val = some ({ tx := none, pkt := { did := 0x60, sdid := 5, udw := [0x101] } } : PathRec)) ∧ (((({ istore := [(0, 0x84480000)], lengs := [(0, { fifo := [{ tx := none, pkt := { did := 0x60, sdid := 5, udw := [0x101] } }] })], regs := ((({} : Dev).wr (.leng 0) .LENG_STAT_STATE 1).wr (.leng 0) .LENG_PERM_QCOUNT 5).regs } : Dev) : Dev).billed (0 : Fin 144).val 0x21).queuePerm (0 : Fin 144).val ((((({ istore := [(0, 0x84480000)], lengs := [(0, { fifo := [{ tx := none, pkt := { did := 0x60, sdid := 5, udw := [0x101] } }] })], regs := ((({} : Dev).wr (.leng 0) .LENG_STAT_STATE 1).wr (.leng 0) .LENG_PERM_QCOUNT 5).regs } : Dev) : Dev).billed (0 : Fin 144).val 0x21).greg (0 : Fin 144).val (iA ((({ istore := [(0, 0x84480000)], lengs := [(0, { fifo := [{ tx := none, pkt := { did := 0x60, sdid := 5, udw := [0x101] } }] })], regs := ((({} : Dev).wr (.leng 0) .LENG_STAT_STATE 1).wr (.leng 0) .LENG_PERM_QCOUNT 5).regs } : Dev) : Dev).fetch (0 : Fin 144).val))).toNat % 1024) = true)) ∧
    (((({ istore := [(0, 0x78480000)], lengs := [(0, { build := some { w0 := 0, w1 := 0, cls := 0 } })], regs := ((({} : Dev).wr (.leng 0) .LENG_STAT_STATE 1).wr (.leng 0) .LENG_PERM_NEW_RX 0).regs } : Dev) : Dev).meets (0 : Fin 144).val 0x1E = true) ∧ ((((({ istore := [(0, 0x78480000)], lengs := [(0, { build := some { w0 := 0, w1 := 0, cls := 0 } })], regs := ((({} : Dev).wr (.leng 0) .LENG_STAT_STATE 1).wr (.leng 0) .LENG_PERM_NEW_RX 0).regs } : Dev) : Dev).billed (0 : Fin 144).val 0x1E).leng (0 : Fin 144).val).build = some ({ w0 := 0, w1 := 0, cls := 0 } : BuildI)) ∧ (((({ istore := [(0, 0x78480000)], lengs := [(0, { build := some { w0 := 0, w1 := 0, cls := 0 } })], regs := ((({} : Dev).wr (.leng 0) .LENG_STAT_STATE 1).wr (.leng 0) .LENG_PERM_NEW_RX 0).regs } : Dev) : Dev).billed (0 : Fin 144).val 0x1E).endpPerm (0 : Fin 144).val (iZ ((({ istore := [(0, 0x78480000)], lengs := [(0, { build := some { w0 := 0, w1 := 0, cls := 0 } })], regs := ((({} : Dev).wr (.leng 0) .LENG_STAT_STATE 1).wr (.leng 0) .LENG_PERM_NEW_RX 0).regs } : Dev) : Dev).fetch (0 : Fin 144).val) % 4) ((((({ istore := [(0, 0x78480000)], lengs := [(0, { build := some { w0 := 0, w1 := 0, cls := 0 } })], regs := ((({} : Dev).wr (.leng 0) .LENG_STAT_STATE 1).wr (.leng 0) .LENG_PERM_NEW_RX 0).regs } : Dev) : Dev).billed (0 : Fin 144).val 0x1E).greg (0 : Fin 144).val (iA ((({ istore := [(0, 0x78480000)], lengs := [(0, { build := some { w0 := 0, w1 := 0, cls := 0 } })], regs := ((({} : Dev).wr (.leng 0) .LENG_STAT_STATE 1).wr (.leng 0) .LENG_PERM_NEW_RX 0).regs } : Dev) : Dev).fetch (0 : Fin 144).val))).toNat % 1024) ({ w0 := 0, w1 := 0, cls := 0 } : BuildI).toRec.tile = false)) ∧
    (((({ istore := [(0, 0x84480000)], lengs := [(0, { fifo := [{ tx := none, pkt := { did := 0x60, sdid := 5, udw := [0x101] } }] })], regs := ((({} : Dev).wr (.leng 0) .LENG_STAT_STATE 1)).regs } : Dev) : Dev).meets (0 : Fin 144).val 0x21 = true) ∧ (((({ istore := [(0, 0x84480000)], lengs := [(0, { fifo := [{ tx := none, pkt := { did := 0x60, sdid := 5, udw := [0x101] } }] })], regs := ((({} : Dev).wr (.leng 0) .LENG_STAT_STATE 1)).regs } : Dev) : Dev).billed (0 : Fin 144).val 0x21).head (0 : Fin 144).val = some ({ tx := none, pkt := { did := 0x60, sdid := 5, udw := [0x101] } } : PathRec)) ∧ (((({ istore := [(0, 0x84480000)], lengs := [(0, { fifo := [{ tx := none, pkt := { did := 0x60, sdid := 5, udw := [0x101] } }] })], regs := ((({} : Dev).wr (.leng 0) .LENG_STAT_STATE 1)).regs } : Dev) : Dev).billed (0 : Fin 144).val 0x21).queuePerm (0 : Fin 144).val ((((({ istore := [(0, 0x84480000)], lengs := [(0, { fifo := [{ tx := none, pkt := { did := 0x60, sdid := 5, udw := [0x101] } }] })], regs := ((({} : Dev).wr (.leng 0) .LENG_STAT_STATE 1)).regs } : Dev) : Dev).billed (0 : Fin 144).val 0x21).greg (0 : Fin 144).val (iA ((({ istore := [(0, 0x84480000)], lengs := [(0, { fifo := [{ tx := none, pkt := { did := 0x60, sdid := 5, udw := [0x101] } }] })], regs := ((({} : Dev).wr (.leng 0) .LENG_STAT_STATE 1)).regs } : Dev) : Dev).fetch (0 : Fin 144).val))).toNat % 1024) = false)) ∧
    (((({ istore := [(0, 0x68400000)], regs := ((({} : Dev).wr (.leng 0) .LENG_STAT_STATE 1)).regs } : Dev) : Dev).meets (0 : Fin 144).val 0x1A = true) ∧ (((({ istore := [(0, 0x68400000)], regs := ((({} : Dev).wr (.leng 0) .LENG_STAT_STATE 1)).regs } : Dev) : Dev).billed (0 : Fin 144).val 0x1A).head (0 : Fin 144).val = none)) ∧
    (((({ istore := [(0, 0x6C400000)], regs := ((({} : Dev).wr (.leng 0) .LENG_STAT_STATE 1)).regs } : Dev) : Dev).meets (0 : Fin 144).val 0x1B = true) ∧ (((({ istore := [(0, 0x6C400000)], regs := ((({} : Dev).wr (.leng 0) .LENG_STAT_STATE 1)).regs } : Dev) : Dev).billed (0 : Fin 144).val 0x1B).head (0 : Fin 144).val = none)) ∧
    (((({ istore := [(0, 0x7C000000)], regs := ((({} : Dev).wr (.leng 0) .LENG_STAT_STATE 1)).regs } : Dev) : Dev).meets (0 : Fin 144).val 0x1F = true) ∧ (((({ istore := [(0, 0x7C000000)], regs := ((({} : Dev).wr (.leng 0) .LENG_STAT_STATE 1)).regs } : Dev) : Dev).billed (0 : Fin 144).val 0x1F).head (0 : Fin 144).val = none)) ∧
    (((({ istore := [(0, 0x80000000)], regs := ((({} : Dev).wr (.leng 0) .LENG_STAT_STATE 1)).regs } : Dev) : Dev).meets (0 : Fin 144).val 0x20 = true) ∧ (((({ istore := [(0, 0x80000000)], regs := ((({} : Dev).wr (.leng 0) .LENG_STAT_STATE 1)).regs } : Dev) : Dev).billed (0 : Fin 144).val 0x20).head (0 : Fin 144).val = none)) ∧
    (((({ istore := [(0, 0x84480000)], regs := ((({} : Dev).wr (.leng 0) .LENG_STAT_STATE 1)).regs } : Dev) : Dev).meets (0 : Fin 144).val 0x21 = true) ∧ (((({ istore := [(0, 0x84480000)], regs := ((({} : Dev).wr (.leng 0) .LENG_STAT_STATE 1)).regs } : Dev) : Dev).billed (0 : Fin 144).val 0x21).head (0 : Fin 144).val = none)) ∧
    (((({ istore := [(0, 0x74040000)], regs := ((({} : Dev).wr (.leng 0) .LENG_STAT_STATE 1)).regs } : Dev) : Dev).meets (0 : Fin 144).val 0x1D = true) ∧ ((((({ istore := [(0, 0x74040000)], regs := ((({} : Dev).wr (.leng 0) .LENG_STAT_STATE 1)).regs } : Dev) : Dev).billed (0 : Fin 144).val 0x1D).leng (0 : Fin 144).val).build = none)) ∧
    (((({ istore := [(0, 0x78440000)], regs := ((({} : Dev).wr (.leng 0) .LENG_STAT_STATE 1)).regs } : Dev) : Dev).meets (0 : Fin 144).val 0x1E = true) ∧ ((((({ istore := [(0, 0x78440000)], regs := ((({} : Dev).wr (.leng 0) .LENG_STAT_STATE 1)).regs } : Dev) : Dev).billed (0 : Fin 144).val 0x1E).leng (0 : Fin 144).val).build = none)) := by
  refine ⟨?_, ?_, ?_, ?_, ?_, ?_, ?_, ?_, ?_, ?_, ?_, ?_, ?_, ?_, ?_, ?_, ?_, ?_, ?_, ?_, ?_⟩ <;> decide +kernel

theorem test_witness_EngineCommandsComplete :
    (((({} : Dev).wr (.leng 3) .PAGE_CTRL_ENABLE 1 : Dev).admits (0 : Master).val (.leng (3 : Fin 144).val) 0x020 1 = true)) ∧
    (((({} : Dev).wr (.leng 3) .LENG_STAT_STATE 2 : Dev).admits (0 : Master).val (.leng (3 : Fin 144).val) 0x020 2 = true) ∧ (((({} : Dev).wr (.leng 3) .LENG_STAT_STATE 2 : Dev).stored (0 : Master).val (.leng (3 : Fin 144).val) 0x020 2).lengLive (3 : Fin 144).val = true)) ∧
    ((({} : Dev).admits (0 : Master).val (.leng (3 : Fin 144).val) 0x008 (1 : Word) = true) ∧ (Fld.PAGE_CTRL_SOFT_RESET.get (1 : Word) = 0) ∧ (Fld.PAGE_CTRL_ENABLE.get (1 : Word) = 1)) ∧
    ((((({} : Dev).wr (.leng 3) .PAGE_CTRL_ENABLE 1).wr (.leng 3) .LENG_STAT_STATE 1 : Dev).admits (0 : Master).val (.leng (3 : Fin 144).val) 0x008 (0 : Word) = true) ∧ (Fld.PAGE_CTRL_SOFT_RESET.get (0 : Word) = 0) ∧ (Fld.PAGE_CTRL_ENABLE.get (((({} : Dev).wr (.leng 3) .PAGE_CTRL_ENABLE 1).wr (.leng 3) .LENG_STAT_STATE 1 : Dev).held (0 : Master).val (.leng (3 : Fin 144).val) 0x008) = 1) ∧ (Fld.PAGE_CTRL_ENABLE.get (0 : Word) = 0) ∧ ((((({} : Dev).wr (.leng 3) .PAGE_CTRL_ENABLE 1).wr (.leng 3) .LENG_STAT_STATE 1 : Dev).stored (0 : Master).val (.leng (3 : Fin 144).val) 0x008 (0 : Word)).lengLive (3 : Fin 144).val = true)) ∧
    ((({} : Dev).admits (0 : Master).val (.leng (3 : Fin 144).val) 0x020 4 = true)) ∧
    ((({} : Dev).stopped = false) ∧ (({} : Dev).hostBarred (0 : Master).val (0x201000 + 0x4000 * (3 : Fin 144).val + 4 * (7 : Fin 1024).val) = false) ∧ (({} : Dev).permits (0 : Master).val 6 true = true) ∧ (({} : Dev).lockedOut (0 : Master).val 6 = false) ∧ (({} : Dev).on (.leng (3 : Fin 144).val) .PAGE_CTRL_LOCK = false) ∧ (({} : Dev).lengLive (3 : Fin 144).val = false)) ∧
    ((({ lengs := [(0, { inbox := [{ tx := none, pkt := { did := 0x60, sdid := 5, udw := [0x101] } }] })] } : Dev).stopped = false) ∧ ((({ lengs := [(0, { inbox := [{ tx := none, pkt := { did := 0x60, sdid := 5, udw := [0x101] } }] })] } : Dev).leng (0 : Fin 144).val).inbox = ({ tx := none, pkt := { did := 0x60, sdid := 5, udw := [0x101] } } : PathRec) :: ([] : List PathRec)) ∧ ((({ lengs := [(0, { inbox := [{ tx := none, pkt := { did := 0x60, sdid := 5, udw := [0x101] } }] })] } : Dev).leng (0 : Fin 144).val).fifo.length < 64)) ∧
    ((({ lengs := [(0, { inbox := [{ tx := none, pkt := { did := 0x60, sdid := 5, udw := [0x101] } }], fifo := List.replicate 64 { tx := none, pkt := { did := 0x60, sdid := 5, udw := [0x101] } } })] } : Dev).stopped = false) ∧ ((({ lengs := [(0, { inbox := [{ tx := none, pkt := { did := 0x60, sdid := 5, udw := [0x101] } }], fifo := List.replicate 64 { tx := none, pkt := { did := 0x60, sdid := 5, udw := [0x101] } } })] } : Dev).leng (0 : Fin 144).val).inbox = ({ tx := none, pkt := { did := 0x60, sdid := 5, udw := [0x101] } } : PathRec) :: ([] : List PathRec)) ∧ (¬ (({ lengs := [(0, { inbox := [{ tx := none, pkt := { did := 0x60, sdid := 5, udw := [0x101] } }], fifo := List.replicate 64 { tx := none, pkt := { did := 0x60, sdid := 5, udw := [0x101] } } })] } : Dev).leng (0 : Fin 144).val).fifo.length < 64)) ∧
    ((({} : Dev).stopped = false)) ∧
    (((({} : Dev).wr (.lane 3) .LANE_FRMSTAT_STATE 4 : Dev).stopped = false) ∧ ((({} : Dev).wr (.lane 3) .LANE_FRMSTAT_STATE 4 : Dev).lf (3 : Fin 144).val .LENG_CFG_TBASE = 0) ∧ (((({} : Dev).wr (.lane 3) .LANE_FRMSTAT_STATE 4 : Dev).frmState (3 : Fin 144).val = 3 ∨ (({} : Dev).wr (.lane 3) .LANE_FRMSTAT_STATE 4 : Dev).frmState (3 : Fin 144).val = 4))) ∧
    ((((({} : Dev).wr (.tdom 0) .TDOM_FMT_FMT 6).wr (.leng 3) .LENG_CFG_TBASE 1 : Dev).stopped = false) ∧ (((({} : Dev).wr (.tdom 0) .TDOM_FMT_FMT 6).wr (.leng 3) .LENG_CFG_TBASE 1 : Dev).lf (3 : Fin 144).val .LENG_CFG_TBASE ≠ 0) ∧ (((({} : Dev).wr (.tdom 0) .TDOM_FMT_FMT 6).wr (.leng 3) .LENG_CFG_TBASE 1 : Dev).domFmt (((({} : Dev).wr (.tdom 0) .TDOM_FMT_FMT 6).wr (.leng 3) .LENG_CFG_TBASE 1 : Dev).lf (3 : Fin 144).val .LENG_CFG_TDOM) ≠ 0)) ∧
    (((({} : Dev).wr (.lane 3) .LANE_FRMSTAT_STATE 4 : Dev).stopped = false) ∧ ((({} : Dev).wr (.lane 3) .LANE_FRMSTAT_STATE 4 : Dev).lf (3 : Fin 144).val .LENG_CFG_TBASE = 0) ∧ ((({} : Dev).wr (.lane 3) .LANE_FRMSTAT_STATE 4 : Dev).frmState (3 : Fin 144).val = 4)) ∧
    (((({} : Dev).wr (.tdom 0) .TDOM_FMT_FMT 6 : Dev).stopped = false) ∧ ((({} : Dev).wr (.tdom 0) .TDOM_FMT_FMT 6 : Dev).domFmt ((({} : Dev).wr (.tdom 0) .TDOM_FMT_FMT 6 : Dev).lf (3 : Fin 144).val .LENG_CFG_TDOM) ≠ 0)) ∧
    ((((({} : Dev).wr (.tdom 0) .TDOM_FMT_FMT 6).wr (.leng 3) .LENG_CFG_TBASE 1 : Dev).stopped = false) ∧ (((({} : Dev).wr (.tdom 0) .TDOM_FMT_FMT 6).wr (.leng 3) .LENG_CFG_TBASE 1 : Dev).lf (3 : Fin 144).val .LENG_CFG_TBASE ≠ 0) ∧ (((({} : Dev).wr (.tdom 0) .TDOM_FMT_FMT 6).wr (.leng 3) .LENG_CFG_TBASE 1 : Dev).domFmt (((({} : Dev).wr (.tdom 0) .TDOM_FMT_FMT 6).wr (.leng 3) .LENG_CFG_TBASE 1 : Dev).lf (3 : Fin 144).val .LENG_CFG_TDOM) ≠ 0)) ∧
    ((({} : Dev).admits (0 : Master).val (.leng (3 : Fin 144).val) 0x034 1 = true)) ∧
    ((((({} : Dev).wr (.leng 3) .LENG_STAT_STATE 3).wr (.leng 3) .PAGE_CTRL_EXPERT_KEY 0x5A : Dev).admits (0 : Master).val (.leng (3 : Fin 144).val) 0x400 ((0 : Word) ||| 0x80000000) = true) ∧ (Fld.LENG_DBG_X_STEP.get ((0 : Word) ||| 0x80000000) = 1)) := by
  refine ⟨?_, ?_, ?_, ?_, ?_, ?_, ?_, ?_, ?_, ?_, ?_, ?_, ?_, ?_, ?_, ?_⟩ <;> decide +kernel

theorem test_witness_MatrixTransferComplete :
    ((({} : Dev).stopped = false) ∧ ((targetAt ((0x1000008 : Nat) / 4 * 4) : Nat) ≠ 9) ∧ (({} : Dev).permits (0 : Master).val (targetAt ((0x1000008 : Nat) / 4 * 4) : Nat) false = true) ∧ (({} : Dev).lockedOut (0 : Master).val (targetAt ((0x1000008 : Nat) / 4 * 4) : Nat) = false) ∧ (((targetAt ((0x1000008 : Nat) / 4 * 4) : Nat) = 5 → ({} : Dev).memcReady (({} : Dev).apertureAt 0).1 = true)) ∧ (((targetAt ((0x1000008 : Nat) / 4 * 4) : Nat) = 7 → ({} : Dev).on .boot .BOOT_FLASH_CMD_BUSY = false))) ∧
    ((({} : Dev).stopped = false) ∧ ((targetAt ((0x1000008 : Nat) / 4 * 4) : Nat) ≠ 9) ∧ ((targetAt ((0x1000008 : Nat) / 4 * 4) : Nat) ≠ 7) ∧ (({} : Dev).hostBarred (0 : Master).val ((0x1000008 : Nat) / 4 * 4) = false) ∧ (({} : Dev).permits (0 : Master).val (targetAt ((0x1000008 : Nat) / 4 * 4) : Nat) true = true) ∧ (({} : Dev).lockedOut (0 : Master).val (targetAt ((0x1000008 : Nat) / 4 * 4) : Nat) = false) ∧ (((targetAt ((0x1000008 : Nat) / 4 * 4) : Nat) = 5 → ({} : Dev).memcReady (({} : Dev).apertureAt 0).1 = true))) ∧
    ((({} : Dev).stopped = false) ∧ ((targetAt ((0x1000008 : Nat) / 4 * 4) : Nat) < 5) ∧ (({} : Dev).permits (0 : Master).val (targetAt ((0x1000008 : Nat) / 4 * 4) : Nat) false = true) ∧ (({} : Dev).lockedOut (0 : Master).val (targetAt ((0x1000008 : Nat) / 4 * 4) : Nat) = false) ∧ (({} : XferEnv).single.contains 0 = false) ∧ (({} : XferEnv).double.contains 0 = false) ∧ (({} : XferEnv).collide.contains 0 = false)) ∧
    ((({} : Dev).stopped = false) ∧ ((targetAt ((0x1000008 : Nat) / 4 * 4) : Nat) < 5) ∧ (({} : Dev).hostBarred (0 : Master).val ((0x1000008 : Nat) / 4 * 4) = false) ∧ (({} : Dev).permits (0 : Master).val (targetAt ((0x1000008 : Nat) / 4 * 4) : Nat) true = true) ∧ (({} : Dev).lockedOut (0 : Master).val (targetAt ((0x1000008 : Nat) / 4 * 4) : Nat) = false) ∧ (({} : XferEnv).collide.contains 0 = false)) ∧
    ((({} : Dev).stopped = false) ∧ ((targetAt ((0x1000008 : Nat) / 4 * 4) : Nat) < 5) ∧ (({} : Dev).permits (0 : Master).val (targetAt ((0x1000008 : Nat) / 4 * 4) : Nat) false = true) ∧ (({} : Dev).lockedOut (0 : Master).val (targetAt ((0x1000008 : Nat) / 4 * 4) : Nat) = false) ∧ (({} : XferEnv).single.contains 0 = false) ∧ (({} : XferEnv).double.contains 0 = false)) ∧
    ((({ mtx := { reserve := [(0, 0x1000009)] } } : Dev).stopped = false) ∧ ((targetAt ((0x1000008 : Nat) / 4 * 4) : Nat) < 5) ∧ (({ mtx := { reserve := [(0, 0x1000009)] } } : Dev).permits (0 : Master).val (targetAt ((0x1000008 : Nat) / 4 * 4) : Nat) true = true) ∧ (({ mtx := { reserve := [(0, 0x1000009)] } } : Dev).lockedOut (0 : Master).val (targetAt ((0x1000008 : Nat) / 4 * 4) : Nat) = false) ∧ (Map.get (fun _ => 0) ({ mtx := { reserve := [(0, 0x1000009)] } } : Dev).mtx.reserve (0 : Master).val = (0x1000008 : Nat) / 4 * 4 + 1) ∧ (({} : XferEnv).collide.contains 0 = false)) ∧
    ((({} : Dev).stopped = false) ∧ ((targetAt ((0x1000008 : Nat) / 4 * 4) : Nat) < 5) ∧ (({} : Dev).permits (0 : Master).val (targetAt ((0x1000008 : Nat) / 4 * 4) : Nat) true = true) ∧ (({} : Dev).lockedOut (0 : Master).val (targetAt ((0x1000008 : Nat) / 4 * 4) : Nat) = false) ∧ (Map.get (fun _ => 0) ({} : Dev).mtx.reserve (0 : Master).val ≠ (0x1000008 : Nat) / 4 * 4 + 1)) ∧
    ((({} : Dev).stopped = false) ∧ (({} : Dev).lockOf (1 : Fin 4).val = none) ∧ (targetAt (0x1000008 : Nat) < 5) ∧ (({} : Dev).permits (1 : Fin 4).val (targetAt (0x1000008 : Nat)) false = true) ∧ (({} : Dev).permits (1 : Fin 4).val (targetAt (0x1000008 : Nat)) true = true) ∧ (({} : Dev).lockedOut (1 : Fin 4).val (targetAt (0x1000008 : Nat)) = false)) ∧
    ((({} : Dev).stopped = false) ∧ (({} : Dev).lockOf (1 : Fin 4).val = none) ∧ (targetAt (0x1000008 : Nat) < 5) ∧ (({} : Dev).permits (1 : Fin 4).val (targetAt (0x1000008 : Nat)) false = true) ∧ (({} : Dev).permits (1 : Fin 4).val (targetAt (0x1000008 : Nat)) true = true) ∧ (({} : Dev).lockedOut (1 : Fin 4).val (targetAt (0x1000008 : Nat)) = false)) ∧
    ((({} : Dev).stopped = false) ∧ (({} : Dev).lockOf (1 : Fin 4).val = none) ∧ (targetAt (0x1000008 : Nat) < 5) ∧ (({} : Dev).permits (1 : Fin 4).val (targetAt (0x1000008 : Nat)) false = true) ∧ (({} : Dev).permits (1 : Fin 4).val (targetAt (0x1000008 : Nat)) true = true) ∧ (({} : Dev).lockedOut (1 : Fin 4).val (targetAt (0x1000008 : Nat)) = false)) ∧
    ((({ mtx := { locks := [⟨1, 0, 0x1000008, 5⟩] } } : Dev).stopped = false) ∧ (({ mtx := { locks := [⟨1, 0, 0x1000008, 5⟩] } } : Dev).lockOf (1 : Fin 4).val = some (⟨1, 0, 0x1000008, 5⟩ : LockI))) ∧
    ((({ mtx := { locks := [⟨1, 0, 0x1000008, 5⟩] } } : Dev).stopped = false) ∧ (({ mtx := { locks := [⟨1, 0, 0x1000008, 5⟩] } } : Dev).mtx.locks.head? = some (⟨1, 0, 0x1000008, 5⟩ : LockI))) := by
  refine ⟨?_, ?_, ?_, ?_, ?_, ?_, ?_, ?_, ?_, ?_, ?_, ?_⟩ <;> decide +kernel

theorem test_witness_MatrixCommandsComplete :
    ((({} : Dev).stopped = false)) ∧
    ((({} : Dev).stopped = false)) ∧
    ((({} : Dev).stopped = false)) ∧
    ((({} : Dev).stopped = false) ∧ ((targetAt ((0x1000000 : Nat) / 4 * 4) : Nat) ≠ 9) ∧ ((targetAt ((0x1000000 : Nat) / 4 * 4) : Nat) ≠ 7) ∧ (({} : Dev).permits (3 : Master).val (targetAt ((0x1000000 : Nat) / 4 * 4) : Nat) true = true) ∧ (({} : Dev).hostBarred (3 : Master).val ((0x1000000 : Nat) / 4 * 4) = false) ∧ (({} : Dev).lockedOut (3 : Master).val (targetAt ((0x1000000 : Nat) / 4 * 4) : Nat) = false)) ∧
    (((({} : Dev).wrOn .mtx (Fld.nth .MTX_PERM_ADMIN 0) true : Dev).admits (0 : Master).val .mtx 0x024 (1 : Word) = true)) ∧
    (((({} : Dev).wrOn .mtx (Fld.nth .MTX_PERM_ADMIN 0) true : Dev).admits (0 : Master).val .mtx (0x040 + 4 * (1 : Fin 9).val) (0x1FF : Word) = true)) ∧
    (((({} : Dev).wrOn .mtx (Fld.nth .MTX_PERM_ADMIN 0) true : Dev).admits (0 : Master).val .mtx 0x084 1 = true)) ∧
    ((({} : Dev).admits (0 : Master).val .sramc 0x02C 1 = true)) := by
  refine ⟨?_, ?_, ?_, ?_, ?_, ?_, ?_, ?_⟩ <;> decide +kernel

theorem test_witness_QueueCommandsComplete :
    ((({} : Dev).stopped = false)) ∧
    ((({} : Dev).admits (0 : Master).val .qmg 0x074 (5 : Word) = true)) ∧
    ((({} : Dev).admits (0 : Master).val .qmg 0x078 (BitVec.ofNat 32 (4 + (2 : Fin 4).val)) = true)) ∧
    ((({} : Dev).admits (0 : Master).val .qmg 0x070 (5 : Word) = true) ∧ ((({} : Dev).stored (0 : Master).val .qmg 0x070 (5 : Word)).openOf (0 : Master).val = noOpen)) ∧
    ((({ opens := [(0, ⟨3, [], false⟩)] } : Dev).admits (0 : Master).val .qmg 0x070 (5 : Word) = true) ∧ ((({ opens := [(0, ⟨3, [], false⟩)] } : Dev).stored (0 : Master).val .qmg 0x070 (5 : Word)).openOf (0 : Master).val ≠ noOpen)) ∧
    (((({ queues := [(0, { pkts := [⟨[(7, false)], 0⟩] })] } : Dev) : Dev).stopped = false) ∧ ((({ queues := [(0, { pkts := [⟨[(7, false)], 0⟩] })] } : Dev) : Dev).permits (0 : Master).val 6 false = true) ∧ (((({ queues := [(0, { pkts := [⟨[(7, false)], 0⟩] })] } : Dev) : Dev).passed (0 : Master).val).takeWord (((({ queues := [(0, { pkts := [⟨[(7, false)], 0⟩] })] } : Dev) : Dev).passed (0 : Master).val).rdB .qmg (0 : Master).val .QMG_RD_SEL_QUEUE : Nat) = ((((({ queues := [(0, { pkts := [⟨[(7, false)], 0⟩] })] } : Dev)).passed 0 |>.takeWord 0).1 : Dev), some ((7 : Word), (0x1000D : Word))))) ∧
    ((({} : Dev).stopped = false) ∧ (({} : Dev).permits (0 : Master).val 6 false = true) ∧ ((({} : Dev).passed (0 : Master).val).readPoint ((({} : Dev).passed (0 : Master).val).rdB .qmg (0 : Master).val .QMG_RD_SEL_QUEUE : Nat) = none) ∧ (((({} : Dev).passed (0 : Master).val).rd .qmg .QMG_CFG_MODE ≠ 1 ∨ (({} : Dev).passed (0 : Master).val).qf ((({} : Dev).passed (0 : Master).val).rdB .qmg (0 : Master).val .QMG_RD_SEL_QUEUE : Nat) .QMG_Q_CFG_ENABLE ≠ 1))) ∧
    ((((({} : Dev).wr .qmg .QMG_CFG_MODE 1).wrB .qmg 0 .QMG_Q_CFG_ENABLE 1 : Dev).stopped = false) ∧ (((({} : Dev).wr .qmg .QMG_CFG_MODE 1).wrB .qmg 0 .QMG_Q_CFG_ENABLE 1 : Dev).permits (0 : Master).val 6 false = true) ∧ ((((({} : Dev).wr .qmg .QMG_CFG_MODE 1).wrB .qmg 0 .QMG_Q_CFG_ENABLE 1 : Dev).passed (0 : Master).val).readPoint ((((({} : Dev).wr .qmg .QMG_CFG_MODE 1).wrB .qmg 0 .QMG_Q_CFG_ENABLE 1 : Dev).passed (0 : Master).val).rdB .qmg (0 : Master).val .QMG_RD_SEL_QUEUE : Nat) = none) ∧ ((((({} : Dev).wr .qmg .QMG_CFG_MODE 1).wrB .qmg 0 .QMG_Q_CFG_ENABLE 1 : Dev).passed (0 : Master).val).rd .qmg .QMG_CFG_MODE = 1) ∧ ((((({} : Dev).wr .qmg .QMG_CFG_MODE 1).wrB .qmg 0 .QMG_Q_CFG_ENABLE 1 : Dev).passed (0 : Master).val).qf ((((({} : Dev).wr .qmg .QMG_CFG_MODE 1).wrB .qmg 0 .QMG_Q_CFG_ENABLE 1 : Dev).passed (0 : Master).val).rdB .qmg (0 : Master).val .QMG_RD_SEL_QUEUE : Nat) .QMG_Q_CFG_ENABLE = 1)) ∧
    ((({ stalls := [(0, 1)] } : Dev).stopped = false)) ∧
    ((({ stalls := [(0, 1)] } : Dev).stopped = false)) ∧
    ((({} : Dev).admits (0 : Master).val .qmg 0x05C 1 = true)) ∧
    (((({} : Dev).wrB .qmg 0 .QMG_Q_CFG_ENABLE 1 : Dev).admits (0 : Master).val .qmg 0x05C 2 = true)) ∧
    ((({ queues := [(0, { mark := some 0 })] } : Dev).admits (0 : Master).val .qmg 0x05C 4 = true)) ∧
    ((({ queues := [(0, { mark := some 0 })] } : Dev).admits (0 : Master).val .qmg 0x05C 8 = true)) ∧
    ((({} : Dev).admits (0 : Master).val .qmg 0x034 ((Fld.QMG_Q_CFG_ENABLE.put (resetWord (regKey .qmg 0 0x034)) 0) : Word) = true) ∧ (Fld.QMG_Q_CFG_ENABLE.get ((Fld.QMG_Q_CFG_ENABLE.put (resetWord (regKey .qmg 0 0x034)) 0) : Word) = 0)) ∧
    ((({} : Dev).admits (0 : Master).val .qmg 0x034 ((Fld.QMG_Q_CFG_ENABLE.put (resetWord (regKey .qmg 0 0x034)) 1) : Word) = true) ∧ (Fld.QMG_Q_CFG_ENABLE.get ((Fld.QMG_Q_CFG_ENABLE.put (resetWord (regKey .qmg 0 0x034)) 1) : Word) = 1)) ∧
    ((({} : Dev).admits (0 : Master).val .qmg 0x02C 2 = true)) ∧
    ((({} : Dev).admits (0 : Master).val .qmg 0x02C 1 = true)) ∧
    (((({ queues := [(0, { pkts := [⟨[(7, false)], 0⟩] })], regs := (({} : Dev).wr .qmg (Fld.nth .QMG_DMA_CFG_ENABLE 0) 1).regs } : Dev) : Dev).stopped = false) ∧ ((({ queues := [(0, { pkts := [⟨[(7, false)], 0⟩] })], regs := (({} : Dev).wr .qmg (Fld.nth .QMG_DMA_CFG_ENABLE 0) 1).regs } : Dev) : Dev).dmaMoves (0 : Fin 8).val 0 = true) ∧ ((({ queues := [(0, { pkts := [⟨[(7, false)], 0⟩] })], regs := (({} : Dev).wr .qmg (Fld.nth .QMG_DMA_CFG_ENABLE 0) 1).regs } : Dev) : Dev).permits 6 4 true = true)) ∧
    (((({ queues := [(0, { pkts := [⟨List.replicate 16 (7, false), 0⟩] })], regs := ((({} : Dev).wr .qmg (Fld.nth .QMG_DMA_CFG_ENABLE 0) 1).wr .qmg (Fld.nth .QMG_DMA_RING_SIZE 0) 1).regs } : Dev) : Dev).stopped = false) ∧ ((({ queues := [(0, { pkts := [⟨List.replicate 16 (7, false), 0⟩] })], regs := ((({} : Dev).wr .qmg (Fld.nth .QMG_DMA_CFG_ENABLE 0) 1).wr .qmg (Fld.nth .QMG_DMA_RING_SIZE 0) 1).regs } : Dev) : Dev).dmaRuns (0 : Fin 8).val 0 = true) ∧ ((({ queues := [(0, { pkts := [⟨List.replicate 16 (7, false), 0⟩] })], regs := ((({} : Dev).wr .qmg (Fld.nth .QMG_DMA_CFG_ENABLE 0) 1).wr .qmg (Fld.nth .QMG_DMA_RING_SIZE 0) 1).regs } : Dev) : Dev).ringWords (0 : Fin 8).val ≤ (({ queues := [(0, { pkts := [⟨List.replicate 16 (7, false), 0⟩] })], regs := ((({} : Dev).wr .qmg (Fld.nth .QMG_DMA_CFG_ENABLE 0) 1).wr .qmg (Fld.nth .QMG_DMA_RING_SIZE 0) 1).regs } : Dev) : Dev).dmaHead (0 : Fin 8).val + 1) ∧ ((({ queues := [(0, { pkts := [⟨List.replicate 16 (7, false), 0⟩] })], regs := ((({} : Dev).wr .qmg (Fld.nth .QMG_DMA_CFG_ENABLE 0) 1).wr .qmg (Fld.nth .QMG_DMA_RING_SIZE 0) 1).regs } : Dev) : Dev).dmaHead (0 : Fin 8).val ≠ 0) ∧ ((({ queues := [(0, { pkts := [⟨List.replicate 16 (7, false), 0⟩] })], regs := ((({} : Dev).wr .qmg (Fld.nth .QMG_DMA_CFG_ENABLE 0) 1).wr .qmg (Fld.nth .QMG_DMA_RING_SIZE 0) 1).regs } : Dev) : Dev).dmaMoves (0 : Fin 8).val 0 = false)) ∧
    (((({ regs := ((((({} : Dev).wr .qmg (Fld.nth .QMG_DMA_CFG_ENABLE 0) 1).wr .qmg (Fld.nth .QMG_DMA_CFG_DIR 0) 1).wr .qmg (Fld.nth .QMG_DMA_WP_PTR 0) 2)).regs, sram := [(({} : Dev).ringAt 0 0, 4), (({} : Dev).ringAt 0 1, 99)] } : Dev) : Dev).stopped = false) ∧ ((({ regs := ((((({} : Dev).wr .qmg (Fld.nth .QMG_DMA_CFG_ENABLE 0) 1).wr .qmg (Fld.nth .QMG_DMA_CFG_DIR 0) 1).wr .qmg (Fld.nth .QMG_DMA_WP_PTR 0) 2)).regs, sram := [(({} : Dev).ringAt 0 0, 4), (({} : Dev).ringAt 0 1, 99)] } : Dev) : Dev).dmaMoves (0 : Fin 8).val 1 = true) ∧ ((({ regs := ((((({} : Dev).wr .qmg (Fld.nth .QMG_DMA_CFG_ENABLE 0) 1).wr .qmg (Fld.nth .QMG_DMA_CFG_DIR 0) 1).wr .qmg (Fld.nth .QMG_DMA_WP_PTR 0) 2)).regs, sram := [(({} : Dev).ringAt 0 0, 4), (({} : Dev).ringAt 0 1, 99)] } : Dev) : Dev).permits 6 4 false = true) ∧ ((((({ regs := ((((({} : Dev).wr .qmg (Fld.nth .QMG_DMA_CFG_ENABLE 0) 1).wr .qmg (Fld.nth .QMG_DMA_CFG_DIR 0) 1).wr .qmg (Fld.nth .QMG_DMA_WP_PTR 0) 2)).regs, sram := [(({} : Dev).ringAt 0 0, 4), (({} : Dev).ringAt 0 1, 99)] } : Dev) : Dev).sramGet ((({ regs := ((((({} : Dev).wr .qmg (Fld.nth .QMG_DMA_CFG_ENABLE 0) 1).wr .qmg (Fld.nth .QMG_DMA_CFG_DIR 0) 1).wr .qmg (Fld.nth .QMG_DMA_WP_PTR 0) 2)).regs, sram := [(({} : Dev).ringAt 0 0, 4), (({} : Dev).ringAt 0 1, 99)] } : Dev) : Dev).ringAt (0 : Fin 8).val ((({ regs := ((((({} : Dev).wr .qmg (Fld.nth .QMG_DMA_CFG_ENABLE 0) 1).wr .qmg (Fld.nth .QMG_DMA_CFG_DIR 0) 1).wr .qmg (Fld.nth .QMG_DMA_WP_PTR 0) 2)).regs, sram := [(({} : Dev).ringAt 0 0, 4), (({} : Dev).ringAt 0 1, 99)] } : Dev) : Dev).dma (0 : Fin 8).val .QMG_DMA_RP_PTR : Nat))).toNat % 32768 : Nat) ≠ 0) ∧ (¬ 16384 < (((({ regs := ((((({} : Dev).wr .qmg (Fld.nth .QMG_DMA_CFG_ENABLE 0) 1).wr .qmg (Fld.nth .QMG_DMA_CFG_DIR 0) 1).wr .qmg (Fld.nth .QMG_DMA_WP_PTR 0) 2)).regs, sram := [(({} : Dev).ringAt 0 0, 4), (({} : Dev).ringAt 0 1, 99)] } : Dev) : Dev).sramGet ((({ regs := ((((({} : Dev).wr .qmg (Fld.nth .QMG_DMA_CFG_ENABLE 0) 1).wr .qmg (Fld.nth .QMG_DMA_CFG_DIR 0) 1).wr .qmg (Fld.nth .QMG_DMA_WP_PTR 0) 2)).regs, sram := [(({} : Dev).ringAt 0 0, 4), (({} : Dev).ringAt 0 1, 99)] } : Dev) : Dev).ringAt (0 : Fin 8).val ((({ regs := ((((({} : Dev).wr .qmg (Fld.nth .QMG_DMA_CFG_ENABLE 0) 1).wr .qmg (Fld.nth .QMG_DMA_CFG_DIR 0) 1).wr .qmg (Fld.nth .QMG_DMA_WP_PTR 0) 2)).regs, sram := [(({} : Dev).ringAt 0 0, 4), (({} : Dev).ringAt 0 1, 99)] } : Dev) : Dev).dma (0 : Fin 8).val .QMG_DMA_RP_PTR : Nat))).toNat % 32768 : Nat))) ∧
    (((({ regs := ((((({} : Dev).wr .qmg (Fld.nth .QMG_DMA_CFG_ENABLE 0) 1).wr .qmg (Fld.nth .QMG_DMA_CFG_DIR 0) 1).wr .qmg (Fld.nth .QMG_DMA_WP_PTR 0) 2)).regs } : Dev) : Dev).stopped = false) ∧ ((({ regs := ((((({} : Dev).wr .qmg (Fld.nth .QMG_DMA_CFG_ENABLE 0) 1).wr .qmg (Fld.nth .QMG_DMA_CFG_DIR 0) 1).wr .qmg (Fld.nth .QMG_DMA_WP_PTR 0) 2)).regs } : Dev) : Dev).dmaMoves (0 : Fin 8).val 1 = true) ∧ ((({ regs := ((((({} : Dev).wr .qmg (Fld.nth .QMG_DMA_CFG_ENABLE 0) 1).wr .qmg (Fld.nth .QMG_DMA_CFG_DIR 0) 1).wr .qmg (Fld.nth .QMG_DMA_WP_PTR 0) 2)).regs } : Dev) : Dev).permits 6 4 false = true) ∧ (((((({ regs := ((((({} : Dev).wr .qmg (Fld.nth .QMG_DMA_CFG_ENABLE 0) 1).wr .qmg (Fld.nth .QMG_DMA_CFG_DIR 0) 1).wr .qmg (Fld.nth .QMG_DMA_WP_PTR 0) 2)).regs } : Dev) : Dev).sramGet ((({ regs := ((((({} : Dev).wr .qmg (Fld.nth .QMG_DMA_CFG_ENABLE 0) 1).wr .qmg (Fld.nth .QMG_DMA_CFG_DIR 0) 1).wr .qmg (Fld.nth .QMG_DMA_WP_PTR 0) 2)).regs } : Dev) : Dev).ringAt (0 : Fin 8).val ((({ regs := ((((({} : Dev).wr .qmg (Fld.nth .QMG_DMA_CFG_ENABLE 0) 1).wr .qmg (Fld.nth .QMG_DMA_CFG_DIR 0) 1).wr .qmg (Fld.nth .QMG_DMA_WP_PTR 0) 2)).regs } : Dev) : Dev).dma (0 : Fin 8).val .QMG_DMA_RP_PTR))).toNat % 32768 : Nat) = 0 ∨ 16384 < (((({ regs := ((((({} : Dev).wr .qmg (Fld.nth .QMG_DMA_CFG_ENABLE 0) 1).wr .qmg (Fld.nth .QMG_DMA_CFG_DIR 0) 1).wr .qmg (Fld.nth .QMG_DMA_WP_PTR 0) 2)).regs } : Dev) : Dev).sramGet ((({ regs := ((((({} : Dev).wr .qmg (Fld.nth .QMG_DMA_CFG_ENABLE 0) 1).wr .qmg (Fld.nth .QMG_DMA_CFG_DIR 0) 1).wr .qmg (Fld.nth .QMG_DMA_WP_PTR 0) 2)).regs } : Dev) : Dev).ringAt (0 : Fin 8).val ((({ regs := ((((({} : Dev).wr .qmg (Fld.nth .QMG_DMA_CFG_ENABLE 0) 1).wr .qmg (Fld.nth .QMG_DMA_CFG_DIR 0) 1).wr .qmg (Fld.nth .QMG_DMA_WP_PTR 0) 2)).regs } : Dev) : Dev).dma (0 : Fin 8).val .QMG_DMA_RP_PTR))).toNat % 32768 : Nat)))) ∧
    ((({} : Dev).admits (0 : Master).val .qmg ((if (true : Bool) then 0x10C else 0x108) + 16 * (1 : Fin 8).val) (0 : Word) = true)) := by
  refine ⟨?_, ?_, ?_, ?_, ?_, ?_, ?_, ?_, ?_, ?_, ?_, ?_, ?_, ?_, ?_, ?_, ?_, ?_, ?_, ?_, ?_, ?_, ?_⟩ <;> decide +kernel

theorem test_witness_InterruptCommandsComplete :
    (((({ regs := Map.insert (regKey .boot 0 0x020) 4 (((((({} : Dev).wr .intc .INTC_CFG_MODE 1).wrB .intc 3 (Fld.nth .INTC_EN_EN 0) 0x20)).wr .pwr .PWR_CORE_CTL_RUN 1).wr .pwr .PWR_CORE_CTL_SLEEP 0).regs } : Dev).setSrc 5 { count := 1 } : Dev).stopped = false) ∧ ((({ regs := Map.insert (regKey .boot 0 0x020) 4 (((((({} : Dev).wr .intc .INTC_CFG_MODE 1).wrB .intc 3 (Fld.nth .INTC_EN_EN 0) 0x20)).wr .pwr .PWR_CORE_CTL_RUN 1).wr .pwr .PWR_CORE_CTL_SLEEP 0).regs } : Dev).setSrc 5 { count := 1 } : Dev).slotOf (0 : Fin 5).val ((if (false : Bool) then 1 else 0) : Nat) = none) ∧ ((({ regs := Map.insert (regKey .boot 0 0x020) 4 (((((({} : Dev).wr .intc .INTC_CFG_MODE 1).wrB .intc 3 (Fld.nth .INTC_EN_EN 0) 0x20)).wr .pwr .PWR_CORE_CTL_RUN 1).wr .pwr .PWR_CORE_CTL_SLEEP 0).regs } : Dev).setSrc 5 { count := 1 } : Dev).bestSource ((({ regs := Map.insert (regKey .boot 0 0x020) 4 (((((({} : Dev).wr .intc .INTC_CFG_MODE 1).wrB .intc 3 (Fld.nth .INTC_EN_EN 0) 0x20)).wr .pwr .PWR_CORE_CTL_RUN 1).wr .pwr .PWR_CORE_CTL_SLEEP 0).regs } : Dev).setSrc 5 { count := 1 } : Dev).deliverable (0 : Fin 5).val ((if (false : Bool) then 1 else 0) : Nat)) = some (5 : Nat)) ∧ ((({ regs := Map.insert (regKey .boot 0 0x020) 4 (((((({} : Dev).wr .intc .INTC_CFG_MODE 1).wrB .intc 3 (Fld.nth .INTC_EN_EN 0) 0x20)).wr .pwr .PWR_CORE_CTL_RUN 1).wr .pwr .PWR_CORE_CTL_SLEEP 0).regs } : Dev).setSrc 5 { count := 1 } : Dev).srcTarget (5 : Nat) = some ((0 : Fin 5).val, (false : Bool))) ∧ (((0 : Fin 5).val ≠ 4 ∨ (((({ regs := Map.insert (regKey .boot 0 0x020) 4 (((((({} : Dev).wr .intc .INTC_CFG_MODE 1).wrB .intc 3 (Fld.nth .INTC_EN_EN 0) 0x20)).wr .pwr .PWR_CORE_CTL_RUN 1).wr .pwr .PWR_CORE_CTL_SLEEP 0).regs } : Dev).setSrc 5 { count := 1 } : Dev).setSrc (5 : Nat) { (({ regs := Map.insert (regKey .boot 0 0x020) 4 (((((({} : Dev).wr .intc .INTC_CFG_MODE 1).wrB .intc 3 (Fld.nth .INTC_EN_EN 0) 0x20)).wr .pwr .PWR_CORE_CTL_RUN 1).wr .pwr .PWR_CORE_CTL_SLEEP 0).regs } : Dev).setSrc 5 { count := 1 } : Dev).src (5 : Nat) with committed := some (0 : Fin 5).val, masked := false, redirected := (false : Bool), window := true }).setSlotOf (0 : Fin 5).val ((if (false : Bool) then 1 else 0) : Nat) ((5 : Nat) + 1) : Dev).rd .intc .INTC_CFG_HOST_PIN ≠ 0))) ∧
    ((((((((({} : Dev).wr .intc .INTC_CFG_MODE 1).wr .intc .INTC_CFG_HOST_PIN 0).wrB .intc 3 (Fld.nth .INTC_EN_EN 0) 0x20).wrB .intc 5 .INTC_SRC_CFG_TARGET 4).setSrc 5 { count := 1 }) : Dev).stopped = false) ∧ (((((((({} : Dev).wr .intc .INTC_CFG_MODE 1).wr .intc .INTC_CFG_HOST_PIN 0).wrB .intc 3 (Fld.nth .INTC_EN_EN 0) 0x20).wrB .intc 5 .INTC_SRC_CFG_TARGET 4).setSrc 5 { count := 1 }) : Dev).slotOf 4 ((if (false : Bool) then 1 else 0) : Nat) = none) ∧ (((((((({} : Dev).wr .intc .INTC_CFG_MODE 1).wr .intc .INTC_CFG_HOST_PIN 0).wrB .intc 3 (Fld.nth .INTC_EN_EN 0) 0x20).wrB .intc 5 .INTC_SRC_CFG_TARGET 4).setSrc 5 { count := 1 }) : Dev).bestSource (((((((({} : Dev).wr .intc .INTC_CFG_MODE 1).wr .intc .INTC_CFG_HOST_PIN 0).wrB .intc 3 (Fld.nth .INTC_EN_EN 0) 0x20).wrB .intc 5 .INTC_SRC_CFG_TARGET 4).setSrc 5 { count := 1 }) : Dev).deliverable 4 ((if (false : Bool) then 1 else 0) : Nat)) = some (5 : Nat)) ∧ (((((((({} : Dev).wr .intc .INTC_CFG_MODE 1).wr .intc .INTC_CFG_HOST_PIN 0).wrB .intc 3 (Fld.nth .INTC_EN_EN 0) 0x20).wrB .intc 5 .INTC_SRC_CFG_TARGET 4).setSrc 5 { count := 1 }) : Dev).srcTarget (5 : Nat) = some (4, (false : Bool))) ∧ (((((((((({} : Dev).wr .intc .INTC_CFG_MODE 1).wr .intc .INTC_CFG_HOST_PIN 0).wrB .intc 3 (Fld.nth .INTC_EN_EN 0) 0x20).wrB .intc 5 .INTC_SRC_CFG_TARGET 4).setSrc 5 { count := 1 }) : Dev).setSrc (5 : Nat) { ((((((({} : Dev).wr .intc .INTC_CFG_MODE 1).wr .intc .INTC_CFG_HOST_PIN 0).wrB .intc 3 (Fld.nth .INTC_EN_EN 0) 0x20).wrB .intc 5 .INTC_SRC_CFG_TARGET 4).setSrc 5 { count := 1 }) : Dev).src (5 : Nat) with committed := some 4, masked := false, redirected := (false : Bool), window := true }).setSlotOf 4 ((if (false : Bool) then 1 else 0) : Nat) ((5 : Nat) + 1) : Dev).rd .intc .INTC_CFG_HOST_PIN = 0)) ∧
    ((((({} : Dev).setSlotOf 0 0 6).setSrc 5 { count := 2, committed := some 0 } : Dev).stopped = false) ∧ (((({} : Dev).setSlotOf 0 0 6).setSrc 5 { count := 2, committed := some 0 } : Dev).slotOf (0 : Fin 5).val ((if (false : Bool) then 1 else 0) : Nat) = some (5 : Nat))) ∧
    ((((({} : Dev).setSlotOf 0 0 6).setSrc 5 { count := 2, committed := some 0 } : Dev).stopped = false) ∧ (((({} : Dev).setSlotOf 0 0 6).setSrc 5 { count := 2, committed := some 0 } : Dev).permits (0 : Master).val 6 false = true) ∧ (((({} : Dev).setSlotOf 0 0 6).setSrc 5 { count := 2, committed := some 0 } : Dev).slotOf (targetOf (0 : Master).val) 0 = some (5 : Nat))) ∧
    ((((({} : Dev).setSlotOf 0 1 6).setSrc 5 { count := 2, committed := some 0 } : Dev).stopped = false) ∧ (((({} : Dev).setSlotOf 0 1 6).setSrc 5 { count := 2, committed := some 0 } : Dev).permits (0 : Master).val 6 false = true) ∧ (((({} : Dev).setSlotOf 0 1 6).setSrc 5 { count := 2, committed := some 0 } : Dev).slotOf (targetOf (0 : Master).val) 1 = some (5 : Nat))) ∧
    ((((({} : Dev).setSlotOf 0 0 6).setSrc 5 { count := 2, committed := some 0 } : Dev).stopped = false) ∧ (((({} : Dev).setSlotOf 0 0 6).setSrc 5 { count := 2, committed := some 0 } : Dev).permits (0 : Master).val 6 false = true) ∧ (((({} : Dev).setSlotOf 0 0 6).setSrc 5 { count := 2, committed := some 0 } : Dev).slotOf (targetOf (0 : Master).val) 0 = some (5 : Nat))) ∧
    ((((({} : Dev).setSlotOf 0 1 6).setSrc 5 { count := 2, committed := some 0 } : Dev).stopped = false) ∧ (((({} : Dev).setSlotOf 0 1 6).setSrc 5 { count := 2, committed := some 0 } : Dev).permits (0 : Master).val 6 false = true) ∧ (((({} : Dev).setSlotOf 0 1 6).setSrc 5 { count := 2, committed := some 0 } : Dev).slotOf (targetOf (0 : Master).val) 1 = some (5 : Nat))) ∧
    ((((({} : Dev).setSrc 5 { insvc := some 0 }) : Dev).admits (0 : Master).val .intc 0x0C8 (BitVec.ofNat 32 (5 : Fin 512).val) = true) ∧ ((((((({} : Dev).setSrc 5 { insvc := some 0 }) : Dev).stored (0 : Master).val .intc 0x0C8 (BitVec.ofNat 32 (5 : Fin 512).val)) : Dev).src (((((({} : Dev).setSrc 5 { insvc := some 0 }) : Dev).stored (0 : Master).val .intc 0x0C8 (BitVec.ofNat 32 (5 : Fin 512).val)) : Dev).srcKey (0 : Master).val (5 : Fin 512).val : Nat)).insvc = some (targetOf (0 : Master).val)) ∧ (((((({} : Dev).setSrc 5 { insvc := some 0 }) : Dev).stored (0 : Master).val .intc 0x0C8 (BitVec.ofNat 32 (5 : Fin 512).val)) : Dev).srcClass (((((({} : Dev).setSrc 5 { insvc := some 0 }) : Dev).stored (0 : Master).val .intc 0x0C8 (BitVec.ofNat 32 (5 : Fin 512).val)) : Dev).srcKey (0 : Master).val (5 : Fin 512).val : Nat) = 0)) ∧
    (((((({} : Dev).wrB .intc 5 .INTC_SRC_CFG_CLASS 1).setSrc 5 { insvc := some 0 }) : Dev).admits (0 : Master).val .intcF 0x028 (BitVec.ofNat 32 (5 : Fin 512).val) = true) ∧ (((((((({} : Dev).wrB .intc 5 .INTC_SRC_CFG_CLASS 1).setSrc 5 { insvc := some 0 }) : Dev).stored (0 : Master).val .intcF 0x028 (BitVec.ofNat 32 (5 : Fin 512).val)) : Dev).src ((((((({} : Dev).wrB .intc 5 .INTC_SRC_CFG_CLASS 1).setSrc 5 { insvc := some 0 }) : Dev).stored (0 : Master).val .intcF 0x028 (BitVec.ofNat 32 (5 : Fin 512).val)) : Dev).srcKey (0 : Master).val (5 : Fin 512).val : Nat)).insvc = some (targetOf (0 : Master).val)) ∧ ((((((({} : Dev).wrB .intc 5 .INTC_SRC_CFG_CLASS 1).setSrc 5 { insvc := some 0 }) : Dev).stored (0 : Master).val .intcF 0x028 (BitVec.ofNat 32 (5 : Fin 512).val)) : Dev).srcClass ((((((({} : Dev).wrB .intc 5 .INTC_SRC_CFG_CLASS 1).setSrc 5 { insvc := some 0 }) : Dev).stored (0 : Master).val .intcF 0x028 (BitVec.ofNat 32 (5 : Fin 512).val)) : Dev).srcKey (0 : Master).val (5 : Fin 512).val : Nat) = 1)) ∧
    ((({} : Dev).admits (0 : Master).val .intc 0x0C8 (BitVec.ofNat 32 (5 : Fin 512).val) = true) ∧ (((((({} : Dev).stored (0 : Master).val .intc 0x0C8 (BitVec.ofNat 32 (5 : Fin 512).val)) : Dev).src (((({} : Dev).stored (0 : Master).val .intc 0x0C8 (BitVec.ofNat 32 (5 : Fin 512).val)) : Dev).srcKey (0 : Master).val (5 : Fin 512).val : Nat)).insvc ≠ some (targetOf (0 : Master).val) ∨ ((({} : Dev).stored (0 : Master).val .intc 0x0C8 (BitVec.ofNat 32 (5 : Fin 512).val)) : Dev).srcClass (((({} : Dev).stored (0 : Master).val .intc 0x0C8 (BitVec.ofNat 32 (5 : Fin 512).val)) : Dev).srcKey (0 : Master).val (5 : Fin 512).val : Nat) ≠ 0))) ∧
    ((({} : Dev).admits (0 : Master).val .intcF 0x028 (BitVec.ofNat 32 (5 : Fin 512).val) = true) ∧ (((((({} : Dev).stored (0 : Master).val .intcF 0x028 (BitVec.ofNat 32 (5 : Fin 512).val)) : Dev).src (((({} : Dev).stored (0 : Master).val .intcF 0x028 (BitVec.ofNat 32 (5 : Fin 512).val)) : Dev).srcKey (0 : Master).val (5 : Fin 512).val : Nat)).insvc ≠ some (targetOf (0 : Master).val) ∨ ((({} : Dev).stored (0 : Master).val .intcF 0x028 (BitVec.ofNat 32 (5 : Fin 512).val)) : Dev).srcClass (((({} : Dev).stored (0 : Master).val .intcF 0x028 (BitVec.ofNat 32 (5 : Fin 512).val)) : Dev).srcKey (0 : Master).val (5 : Fin 512).val : Nat) ≠ 1))) ∧
    ((({} : Dev).admits (0 : Master).val .intc 0x0CC ((5 : BitVec 16).zeroExtend 32) = true)) ∧
    ((({} : Dev).admits (0 : Master).val .intc (0x040 + 4 * (3 : Fin 16).val) (5 : Word) = true)) ∧
    ((({} : Dev).admits (0 : Master).val .intc 0x028 (0 : Word) = true) ∧ ((((({} : Dev).stored (0 : Master).val .intc 0x028 (0 : Word)) : Dev).intcBanked = true ∨ Fld.INTC_SRC_CFG_TARGET.get (0 : Word) = Fld.INTC_SRC_CFG_TARGET.get (({} : Dev).held (0 : Master).val .intc 0x028)))) ∧
    ((((({} : Dev).wr .intc .INTC_CFG_MODE 1) : Dev).admits (0 : Master).val .intc 0x028 ((Fld.INTC_SRC_CFG_TARGET.put 0 2) : Word) = true) ∧ ((((((({} : Dev).wr .intc .INTC_CFG_MODE 1) : Dev).stored (0 : Master).val .intc 0x028 ((Fld.INTC_SRC_CFG_TARGET.put 0 2) : Word)) : Dev).srcKey (0 : Master).val (((((({} : Dev).wr .intc .INTC_CFG_MODE 1) : Dev).stored (0 : Master).val .intc 0x028 ((Fld.INTC_SRC_CFG_TARGET.put 0 2) : Word)) : Dev).rd .intc .INTC_SRC_SEL_SOURCE) : Nat) < 512) ∧ (((((({} : Dev).wr .intc .INTC_CFG_MODE 1) : Dev).stored (0 : Master).val .intc 0x028 ((Fld.INTC_SRC_CFG_TARGET.put 0 2) : Word)) : Dev).intcBanked = false) ∧ (Fld.INTC_SRC_CFG_TARGET.get ((Fld.INTC_SRC_CFG_TARGET.put 0 2) : Word) ≠ Fld.INTC_SRC_CFG_TARGET.get (((({} : Dev).wr .intc .INTC_CFG_MODE 1) : Dev).held (0 : Master).val .intc 0x028))) ∧
    ((({} : Dev).admits (0 : Master).val .intc 0x020 (1 : Word) = true)) ∧
    ((({} : Dev).admits (0 : Master).val .intc (0x100 + 4 * (3 : Fin 32).val) (0 : Word) = true)) := by
  refine ⟨?_, ?_, ?_, ?_, ?_, ?_, ?_, ?_, ?_, ?_, ?_, ?_, ?_, ?_, ?_, ?_, ?_⟩ <;> decide +kernel

theorem test_witness_CounterCommandsComplete :
    ((({} : Dev).admits (0 : Master).val .pmc (0x100 + 12 * (3 : Fin 64).val) (0 : Word) = true) ∧ (Fld.PMC_CFG_CLR.get (0 : Word) = 0)) ∧
    ((({} : Dev).admits (0 : Master).val .pmc (0x100 + 12 * (3 : Fin 64).val) (0x08000000 : Word) = true) ∧ (Fld.PMC_CFG_CLR.get (0x08000000 : Word) = 1)) ∧
    ((({} : Dev).admits (0 : Master).val .pmc (0x100 + 12 * (40 : Fin 64).val) ((0 : Word) ||| 0x08000000) = true)) ∧
    ((({} : Dev).admits (0 : Master).val .pmc 0x020 ((0 : Word) ||| 1) = true)) ∧
    ((({} : Dev).admits (0 : Master).val .pmc 0x020 (2 : Word) = true) ∧ (Fld.PMC_CTL_CLR_ALL.get (2 : Word) = 0)) ∧
    ((({} : Dev).admits (0 : Master).val .pmc 0x020 (3 : Word) = true) ∧ (Fld.PMC_CTL_CLR_ALL.get (3 : Word) = 1)) ∧
    ((({} : Dev).stopped = false) ∧ (({} : Dev).permits (0 : Master).val 6 false = true)) ∧
    ((({} : Dev).stopped = false) ∧ (({} : Dev).enabled .pmc = true)) ∧
    ((({} : Dev).admits (0 : Master).val .pmc 0x030 (4000 : Word) = true)) ∧
    ((({} : Dev).stopped = false) ∧ (({} : Dev).permits (0 : Master).val 6 false = true)) ∧
    (((({ host := { perst := true }, regs := (({} : Dev).wr .host .HOST_PCI_STAT_LINK_UP 1).regs } : Dev) : Dev).stopped = false) ∧ ((({ host := { perst := true }, regs := (({} : Dev).wr .host .HOST_PCI_STAT_LINK_UP 1).regs } : Dev) : Dev).pciOn = true) ∧ ((({ host := { perst := true }, regs := (({} : Dev).wr .host .HOST_PCI_STAT_LINK_UP 1).regs } : Dev) : Dev).host.pciWait = false) ∧ ((({ host := { perst := true }, regs := (({} : Dev).wr .host .HOST_PCI_STAT_LINK_UP 1).regs } : Dev) : Dev).on .pmc .PMC_CTL_USER_READ = false)) ∧
    (((({ host := { perst := true }, regs := ((({} : Dev).wr .host .HOST_PCI_STAT_LINK_UP 1).wr .pmc .PMC_CTL_USER_READ 1).regs } : Dev) : Dev).stopped = false) ∧ ((({ host := { perst := true }, regs := ((({} : Dev).wr .host .HOST_PCI_STAT_LINK_UP 1).wr .pmc .PMC_CTL_USER_READ 1).regs } : Dev) : Dev).pciOn = true) ∧ ((({ host := { perst := true }, regs := ((({} : Dev).wr .host .HOST_PCI_STAT_LINK_UP 1).wr .pmc .PMC_CTL_USER_READ 1).regs } : Dev) : Dev).host.pciWait = false) ∧ ((({ host := { perst := true }, regs := ((({} : Dev).wr .host .HOST_PCI_STAT_LINK_UP 1).wr .pmc .PMC_CTL_USER_READ 1).regs } : Dev) : Dev).on .pmc .PMC_CTL_USER_READ = true) ∧ ((({ host := { perst := true }, regs := ((({} : Dev).wr .host .HOST_PCI_STAT_LINK_UP 1).wr .pmc .PMC_CTL_USER_READ 1).regs } : Dev) : Dev).bar2Word (1 : Nat) ((0 : Nat) % 4096 / 4 * 4) = ((0 : Word), some (0 : Nat)))) ∧
    (((({ host := { perst := true }, regs := ((({} : Dev).wr .host .HOST_PCI_STAT_LINK_UP 1).wr .pmc .PMC_CTL_USER_READ 1).regs } : Dev) : Dev).stopped = false) ∧ ((({ host := { perst := true }, regs := ((({} : Dev).wr .host .HOST_PCI_STAT_LINK_UP 1).wr .pmc .PMC_CTL_USER_READ 1).regs } : Dev) : Dev).pciOn = true) ∧ ((({ host := { perst := true }, regs := ((({} : Dev).wr .host .HOST_PCI_STAT_LINK_UP 1).wr .pmc .PMC_CTL_USER_READ 1).regs } : Dev) : Dev).host.pciWait = false) ∧ ((({ host := { perst := true }, regs := ((({} : Dev).wr .host .HOST_PCI_STAT_LINK_UP 1).wr .pmc .PMC_CTL_USER_READ 1).regs } : Dev) : Dev).on .pmc .PMC_CTL_USER_READ = true) ∧ ((({ host := { perst := true }, regs := ((({} : Dev).wr .host .HOST_PCI_STAT_LINK_UP 1).wr .pmc .PMC_CTL_USER_READ 1).regs } : Dev) : Dev).bar2Word (1 : Nat) ((0xFF0 : Nat) % 4096 / 4 * 4) = ((0 : Word), none))) ∧
    (((({ host := { perst := true }, regs := ((({} : Dev).wr .host .HOST_PCI_STAT_LINK_UP 1).wr .pmc .PMC_CTL_USER_READ 1).regs } : Dev) : Dev).stopped = false) ∧ ((({ host := { perst := true }, regs := ((({} : Dev).wr .host .HOST_PCI_STAT_LINK_UP 1).wr .pmc .PMC_CTL_USER_READ 1).regs } : Dev) : Dev).pciOn = true) ∧ ((({ host := { perst := true }, regs := ((({} : Dev).wr .host .HOST_PCI_STAT_LINK_UP 1).wr .pmc .PMC_CTL_USER_READ 1).regs } : Dev) : Dev).host.pciWait = false) ∧ ((({ host := { perst := true }, regs := ((({} : Dev).wr .host .HOST_PCI_STAT_LINK_UP 1).wr .pmc .PMC_CTL_USER_READ 1).regs } : Dev) : Dev).on .pmc .PMC_CTL_USER_READ = true) ∧ ((({ host := { perst := true }, regs := ((({} : Dev).wr .host .HOST_PCI_STAT_LINK_UP 1).wr .pmc .PMC_CTL_USER_READ 1).regs } : Dev) : Dev).bar2Word (1 : Nat) ((0 : Nat) % 4096 / 8 * 8) = ((0 : Word), some (0 : Nat)))) ∧
    (((({ host := { perst := true }, regs := ((({} : Dev).wr .host .HOST_PCI_STAT_LINK_UP 1).wr .pmc .PMC_CTL_USER_READ 1).regs } : Dev) : Dev).stopped = false) ∧ ((({ host := { perst := true }, regs := ((({} : Dev).wr .host .HOST_PCI_STAT_LINK_UP 1).wr .pmc .PMC_CTL_USER_READ 1).regs } : Dev) : Dev).pciOn = true) ∧ ((({ host := { perst := true }, regs := ((({} : Dev).wr .host .HOST_PCI_STAT_LINK_UP 1).wr .pmc .PMC_CTL_USER_READ 1).regs } : Dev) : Dev).host.pciWait = false) ∧ ((({ host := { perst := true }, regs := ((({} : Dev).wr .host .HOST_PCI_STAT_LINK_UP 1).wr .pmc .PMC_CTL_USER_READ 1).regs } : Dev) : Dev).on .pmc .PMC_CTL_USER_READ = true) ∧ ((({ host := { perst := true }, regs := ((({} : Dev).wr .host .HOST_PCI_STAT_LINK_UP 1).wr .pmc .PMC_CTL_USER_READ 1).regs } : Dev) : Dev).bar2Word (1 : Nat) ((0xFF0 : Nat) % 4096 / 8 * 8) = ((0 : Word), none))) ∧
    (((((({} : Dev).wr .pmc (Fld.nth .PMC_CFG_MODE 0) 1).wr .pmc (Fld.nth .PMC_CFG_ENABLE 0) 1) : Dev).stopped = false) ∧ ((((({} : Dev).wr .pmc (Fld.nth .PMC_CFG_MODE 0) 1).wr .pmc (Fld.nth .PMC_CFG_ENABLE 0) 1) : Dev).pmcLevels (0 : Fin 64).val (((({} : Dev).wr .pmc (Fld.nth .PMC_CFG_MODE 0) 1).wr .pmc (Fld.nth .PMC_CFG_ENABLE 0) 1) : Dev).statLevel = true)) := by
  refine ⟨?_, ?_, ?_, ?_, ?_, ?_, ?_, ?_, ?_, ?_, ?_, ?_, ?_, ?_, ?_, ?_⟩ <;> decide +kernel

theorem test_witness_HostInterfaceCommandsComplete :
    (((({ host := { perst := true }, regs := (({} : Dev).wr .host .HOST_PCI_STAT_LINK_UP 1).regs } : Dev) : Dev).stopped = false) ∧ ((({ host := { perst := true }, regs := (({} : Dev).wr .host .HOST_PCI_STAT_LINK_UP 1).regs } : Dev) : Dev).pciOn = true) ∧ ((({ host := { perst := true }, regs := (({} : Dev).wr .host .HOST_PCI_STAT_LINK_UP 1).regs } : Dev) : Dev).host.pciWait = false) ∧ ((split64 ((if (false : Bool) then 0x2000000 + (0x1000000 : Nat) % 2 ^ 25 else (0x1000000 : Nat) % 2 ^ 26) / 4 * 4) ([{}] : List Beat) : List (Nat × List Beat)).all (fun (y : Nat × List Beat) => !((({ host := { perst := true }, regs := (({} : Dev).wr .host .HOST_PCI_STAT_LINK_UP 1).regs } : Dev) : Dev).lockedOut 4 (targetAt y.1))) = true)) ∧
    (((({ host := { perst := true }, regs := (({} : Dev).wr .host .HOST_PCI_STAT_LINK_UP 1).regs } : Dev) : Dev).stopped = false) ∧ ((({ host := { perst := true }, regs := (({} : Dev).wr .host .HOST_PCI_STAT_LINK_UP 1).regs } : Dev) : Dev).pciOn = true) ∧ ((({ host := { perst := true }, regs := (({} : Dev).wr .host .HOST_PCI_STAT_LINK_UP 1).regs } : Dev) : Dev).host.pciWait = false)) ∧
    (((({ host := { perst := true }, regs := (({} : Dev).wr .host .HOST_PCI_STAT_LINK_UP 1).regs } : Dev) : Dev).stopped = false) ∧ ((({ host := { perst := true }, regs := (({} : Dev).wr .host .HOST_PCI_STAT_LINK_UP 1).regs } : Dev) : Dev).pciOn = true) ∧ ((({ host := { perst := true }, regs := (({} : Dev).wr .host .HOST_PCI_STAT_LINK_UP 1).regs } : Dev) : Dev).host.pciWait = false)) ∧
    ((({} : Dev).stopped = false)) ∧
    (((({ host := { perst := true }, regs := (({} : Dev).wr .host .HOST_PCI_STAT_LINK_UP 1).regs } : Dev) : Dev).stopped = false)) ∧
    (((({ pwr := { run := .pin }, host := { perst := true } } : Dev) : Dev).stopped = true)) ∧
    (((({ host := { msixPend := [3] }, regs := (({} : Dev).wrOn .host (Fld.nth .HOST_MSIX_MASK 3) false).regs } : Dev) : Dev).stopped = false) ∧ ((({ host := { msixPend := [3] }, regs := (({} : Dev).wrOn .host (Fld.nth .HOST_MSIX_MASK 3) false).regs } : Dev) : Dev).host.msixPend.contains (3 : Fin 32).val = true) ∧ ((({ host := { msixPend := [3] }, regs := (({} : Dev).wrOn .host (Fld.nth .HOST_MSIX_MASK 3) false).regs } : Dev) : Dev).on .host (Fld.nth .HOST_MSIX_MASK (3 : Fin 32).val) = false)) ∧
    ((({} : Dev).stopped = false)) ∧
    ((({} : Dev).stopped = false) ∧ (({} : Dev).host.spiWait = false) ∧ (({} : Dev).spiOn = true) ∧ (({} : Dev).lockedOut 5 (targetAt (({ addr := 0x81000000, data := 0 } : SpiFrame).addr.toNat % 2 ^ 27)) = false) ∧ (spiMalformed ({ addr := 0x81000000, data := 0 } : SpiFrame).addr = false)) ∧
    ((({} : Dev).stopped = false) ∧ (({} : Dev).host.spiWait = false) ∧ (({} : Dev).spiOn = true) ∧ (({} : Dev).lockedOut 5 (targetAt (({ addr := 0x81000001, data := 0 } : SpiFrame).addr.toNat % 2 ^ 27)) = false) ∧ (spiMalformed ({ addr := 0x81000001, data := 0 } : SpiFrame).addr = true)) ∧
    ((({} : Dev).stopped = false) ∧ (({} : Dev).spiOn = true) ∧ (({} : Dev).host.spiWait = false)) ∧
    ((({} : Dev).stopped = false)) ∧
    (((({ pwr := { run := .pin } } : Dev) : Dev).stopped = true)) ∧
    ((({ host := { perst := true } } : Dev).stopped = false) ∧ (({ host := { perst := true } } : Dev).host.perst = true) ∧ (({ host := { perst := true } } : Dev).rd .dev .DEV_STRAP_BOOTMODE ≠ 2) ∧ (({ host := { perst := true } } : Dev).rd .dev .DEV_STRAP_BOOTMODE ≠ 3) ∧ (({ host := { perst := true } } : Dev).on .host .HOST_PCI_STAT_LINK_UP = false)) := by
  refine ⟨?_, ?_, ?_, ?_, ?_, ?_, ?_, ?_, ?_, ?_, ?_, ?_, ?_, ?_⟩ <;> decide +kernel

theorem test_witness_BootCommandsComplete :
    ((({} : Dev).stopped = false) ∧ (({} : Dev).boot.due = true) ∧ (({} : Dev).rd .dev .DEV_STRAP_BOOTMODE = 0)) ∧
    (((({} : Dev).wr .dev .DEV_STRAP_BOOTMODE 3 : Dev).stopped = false) ∧ ((({} : Dev).wr .dev .DEV_STRAP_BOOTMODE 3 : Dev).boot.due = true) ∧ ((({} : Dev).wr .dev .DEV_STRAP_BOOTMODE 3 : Dev).rd .dev .DEV_STRAP_BOOTMODE = 3)) ∧
    (((({} : Dev).wr .dev .DEV_STRAP_BOOTMODE 2 : Dev).stopped = false) ∧ ((({} : Dev).wr .dev .DEV_STRAP_BOOTMODE 2 : Dev).boot.due = true) ∧ ((({} : Dev).wr .dev .DEV_STRAP_BOOTMODE 2 : Dev).rd .dev .DEV_STRAP_BOOTMODE ≠ 0) ∧ ((({} : Dev).wr .dev .DEV_STRAP_BOOTMODE 2 : Dev).rd .dev .DEV_STRAP_BOOTMODE ≠ 3)) ∧
    (((({ regs := [(regKey .boot 0 0x020, 1)] } : Dev) : Dev).stopped = false) ∧ ((({ regs := [(regKey .boot 0 0x020, 1)] } : Dev) : Dev).rd .boot .BOOT_STAT_STATE = 1)) ∧
    (((({ regs := [(regKey .boot 0 0x020, 1)] } : Dev) : Dev).stopped = false) ∧ ((({ regs := [(regKey .boot 0 0x020, 1)] } : Dev) : Dev).rd .boot .BOOT_STAT_STATE = 1)) ∧
    (((({ regs := [(regKey .boot 0 0x020, 2)] } : Dev) : Dev).stopped = false) ∧ ((({ regs := [(regKey .boot 0 0x020, 2)] } : Dev) : Dev).rd .boot .BOOT_STAT_STATE = 2) ∧ ((({ regs := [(regKey .boot 0 0x020, 2)] } : Dev) : Dev).boot.fromBank = false) ∧ ((({ regs := [(regKey .boot 0 0x020, 2)] } : Dev) : Dev).permits 8 7 false = true)) ∧
    (((({ regs := [(regKey .boot 0 0x020, 2)] } : Dev) : Dev).stopped = false) ∧ ((({ regs := [(regKey .boot 0 0x020, 2)] } : Dev) : Dev).rd .boot .BOOT_STAT_STATE = 2) ∧ ((({ regs := [(regKey .boot 0 0x020, 2)] } : Dev) : Dev).boot.fromBank = false) ∧ ((({ regs := [(regKey .boot 0 0x020, 2)] } : Dev) : Dev).permits 8 7 false = true)) ∧
    (((({ regs := [(regKey .boot 0 0x020, 3)] } : Dev) : Dev).admits (0 : Master).val .boot 0x024 2 = true)) ∧
    (((({ regs := [(regKey .boot 0 0x020, 3)] } : Dev) : Dev).admits (0 : Master).val .boot 0x024 0 = true) ∧ ((({ regs := [(regKey .boot 0 0x020, 3)] } : Dev) : Dev).bootWaits = true)) ∧
    (((({ regs := [(regKey .boot 0 0x020, 3)] } : Dev) : Dev).admits (0 : Master).val .boot 0x044 (0x9F : Word) = true)) ∧
    (((({} : Dev).wr .boot .BOOT_FLASH_CMD_BUSY 1 : Dev).stopped = false) ∧ ((({} : Dev).wr .boot .BOOT_FLASH_CMD_BUSY 1 : Dev).on .boot .BOOT_FLASH_CMD_BUSY = true) ∧ (((({} : Dev).wr .boot .BOOT_FLASH_CMD_BUSY 1 : Dev).wrOn .boot .BOOT_FLASH_CMD_BUSY false).on .boot .BOOT_FLASH_CMD_WRITE = false)) := by
  refine ⟨?_, ?_, ?_, ?_, ?_, ?_, ?_, ?_, ?_, ?_, ?_⟩ <;> decide +kernel

theorem test_witness_JtagCommandsComplete :
    (((({} : Dev).wr .boot .BOOT_DBG_UNLOCK_UNLOCK 1 : Dev).dbgOpen = true) ∧ ((({} : Dev).wr .boot .BOOT_DBG_UNLOCK_UNLOCK 1 : Dev).stopped = false) ∧ ((({} : Dev).wr .boot .BOOT_DBG_UNLOCK_UNLOCK 1 : Dev).jtag.wait = false) ∧ ((({} : Dev).wr .boot .BOOT_DBG_UNLOCK_UNLOCK 1 : Dev).lockedOut 7 (targetAt (({ addr := 0x81000000, data := 0 } : SpiFrame).addr.toNat % 2 ^ 27)) = false) ∧ (spiMalformed ({ addr := 0x81000000, data := 0 } : SpiFrame).addr = false)) := by
  decide +kernel

end Sys2Proof.Tests
end

section
/-! PROOF. Every command answers a next state, leaves the queue it is given, and keeps every table canonical; so does the idle step. -/

namespace Sys2Proof.Machine

/-- A meaning answers, from `s`, a next state with the queue of `s`, whose tables are canonical where those of `s` are. -/
def Answers (s : State) (o : Host.Outcome State Fault Refusal) : Prop :=
  ∃ d : Dev, o = .next ⟨d, s.pending⟩ ∧ (s.dev.Wf → d.Wf)

/-- A meaning that needs running core domains. -/
theorem answers_live {s : State} {f : Dev → Dev} (h : ∀ d, d.Wf → (f d).Wf) : Answers s (s.live f) :=
  ⟨s.dev.live f, rfl, fun hd => Dev.live_wf _ _ hd h⟩

/-- A meaning that has its effect at any time. -/
theorem answers_always {s : State} {f : Dev → Dev} (h : ∀ d, d.Wf → (f d).Wf) : Answers s (s.always f) :=
  ⟨f s.dev, rfl, h s.dev⟩

/-- An instruction of a line engine. -/
theorem answers_instr {s : State} {n op : Nat} {f : Dev → Nat → Word → Dev} (h : ∀ d n w, d.Wf → (f d n w).Wf) :
    Answers s (s.live fun d => d.instrRun n op f) :=
  answers_live fun d hd => d.instrRun_wf n op f hd h

/-- Each of the 309 commands answers: by the law of the operation that its meaning calls. -/
theorem exec_answers (c : Instr) (s : State) : Answers s (exec c s) := by
  cases c with
  -- writes of page registers
  | afabDepthWrite | afabEnableWrite | afabCntClr | pmcCfgWrite | pmcCfgClr | clrAll | freezeWrite | bwWinWrite | crsctlCntClr
  | ancctlCntClr | lengStart | lengStop | lengEnableWrite | lengCntClr | dbInRing | dbgStep | arm | disarm | fabGpiWrite | fabGenWrite
  | fabCntClr | memcEnableWrite | chCfgWrite | freeze | unfreeze | play | stop | playAt | captureStart | captureStop | dlCfgWrite
  | apertureBaseWrite | fstCntClr | loadImg | done | flashCmdWrite | swiWrite | intcEnWrite | srcCfgWrite | intcCfgWrite | watchWrite
  | txcfgWrite | rxcfgWrite | laneEnableWrite | testctlInject | testctlCntClr | frmctlCntClr | sliceWrite | mtxPermWrite | mtxCntClr
  | sramcCntClr | registerWrite | expertKeyWrite | softReset | gpioWrite | minClr | wdogClr | mgmtReset | dataReset | timingReset | full
  | coreRunWrite | coreReset | coreSleep | standby | dormant | active | wakeTimerWrite | logCtlClr | pmSecWrite | pmClr | protCntClr
  | pgCfgWrite | clear | lockout | forced | manualW | manualP | wrDataWrite | wrEnd | wrSelWrite | dropRest | mark | unmark | rewind
  | qCfgWrite | parInj | qmgCntClr | dmaPointerWrite | txslotWrite | ohctlCntClr | tllFrmctlCntClr | refinEnableWrite | refinCfgWrite
  | refinCntClr | selCfgWrite | prioWrite | calCapture | histClr | xoCalWrite | phaseStep | tdomFmtWrite | tdomEnableWrite | tdomOffsetWrite
  | tdomSwlineWrite | jump | slew | cancel | fcntClr | clkCfgWrite | audRealign | giveUp | wallEnableWrite | wallReset | rejoin | swapArm
  | swapCancel | claimConfigWrite | wallCntClr | cgateCntClr =>
    exact answers_live fun d h => d.mWrite_wf _ _ _ _ _ h
  -- reads of page registers
  | cntLoRead | bwSnapLoRead | xoTimeLoRead | rdLoRead | tmuLoRead =>
    exact answers_live fun d h => d.mRead_wf _ _ _ h
  -- writes of the context windows
  | audioContextWrite | ancContextWrite | tileContextWrite | tileGroupWrite =>
    exact answers_live fun d h => d.mCtxWrite_wf _ _ _ _ h
  -- a write of an instruction store
  | lengIstoreWrite =>
    exact answers_live fun d h => d.transfer_wf _ _ _ _ _ _ h
  -- PCIe requests
  | bar2Read | pcieRequest =>
    exact answers_live fun d h => d.pcieRequest_wf _ h
  -- instructions of the line engines
  | nop => exact answers_instr Dev.opNop_wf
  | add => exact answers_instr Dev.opAdd_wf
  | sub => exact answers_instr Dev.opSub_wf
  | and => exact answers_instr Dev.opAnd_wf
  | or => exact answers_instr Dev.opOr_wf
  | xor => exact answers_instr Dev.opXor_wf
  | shl => exact answers_instr Dev.opShl_wf
  | shr => exact answers_instr Dev.opShr_wf
  | addi => exact answers_instr Dev.opAddi_wf
  | andi => exact answers_instr Dev.opAndi_wf
  | ori => exact answers_instr Dev.opOri_wf
  | shli => exact answers_instr Dev.opShli_wf
  | shri => exact answers_instr Dev.opShri_wf
  | lui => exact answers_instr Dev.opLui_wf
  | ext => exact answers_instr Dev.opExt_wf
  | ins => exact answers_instr Dev.opIns_wf
  | ld => exact answers_instr Dev.opLd_wf
  | st => exact answers_instr Dev.opSt_wf
  | beq => exact answers_instr Dev.opBeq_wf
  | bne => exact answers_instr Dev.opBne_wf
  | blt => exact answers_instr Dev.opBlt_wf
  | bge => exact answers_instr Dev.opBge_wf
  | j => exact answers_instr Dev.opJ_wf
  | call => exact answers_instr Dev.opCall_wf
  | ret => exact answers_instr Dev.opRet_wf
  | wait => exact answers_instr Dev.opWait_wf
  | ldh => exact answers_instr Dev.opLdh_wf
  | getu => exact answers_instr Dev.opGetu_wf
  | newp => exact answers_instr Dev.opNewp_wf
  | putu => exact answers_instr Dev.opPutu_wf
  | endp => exact answers_instr Dev.opEndp_wf
  | drop => exact answers_instr Dev.opDrop_wf
  | fwd => exact answers_instr Dev.opFwd_wf
  | pushq => exact answers_instr Dev.opPushq_wf
  | par => exact answers_instr Dev.opPar_wf
  | crc => exact answers_instr Dev.opCrc_wf
  | cinc => exact answers_instr Dev.opCinc_wf
  | crd => exact answers_instr Dev.opCrd_wf
  | dbell => exact answers_instr Dev.opDbell_wf
  | time => exact answers_instr Dev.opTime_wf
  | halt => exact answers_instr Dev.opHalt_wf
  -- the audio fabric
  | audioContextCommit => exact answers_live fun d h => d.commitNow_wf _ _ h
  | rampEnd => exact answers_live fun d h => d.rampEnd_wf _ h
  | houseSamplePeriod => exact answers_live fun d h => d.samplePeriod_wf _ h
  | meterWindowEnd => exact answers_live fun d h => d.meterEnd_wf _ h
  -- performance counters and bandwidth windows
  | bwWindowEnd => exact answers_live fun d h => d.bwWindowEnd_wf h
  | levelCounterWrap => exact answers_live fun d h => d.levelWrap_wf _ _ h
  -- the course aligner, ancillary data and embedded audio
  | tileLineStart => exact answers_live fun d h => Dev.rxFollow_wf _ (Dev.lineMark_wf _ _ _ (d.tileLineStart_wf _ _ h))
  | alignDriftWindow => exact answers_live fun d h => d.driftWindows_wf h
  | aligncfgWrite => exact answers_live fun d h => by split <;> exact d.mWrite_wf _ _ _ _ _ h
  | ancPacketParsed => exact answers_live fun d h => d.ancParsed_wf _ _ _ _ _ _ h
  | audioPacketReceived => exact answers_live fun d h => d.audioRx_wf _ _ _ _ _ h
  -- line engines: control, events and the instructions of Table 15.6
  | lengRecordArrival => exact answers_live fun d h => d.lengArrive_wf _ h
  | lengEvent => exact answers_live fun d h => d.lengEvent_wf _ _ h
  | illegalInstruction => exact answers_live fun d h => d.instrBad_wf _ h
  -- connection memory, take groups and courses
  | frameTriggerFire => exact answers_live fun d h => Dev.commitSettle_wf _ (d.frameFire_wf _ _ h)
  | gpiFilteredEdge => exact answers_live fun d h => Dev.commitSettle_wf _ (d.gpiEdge_wf _ _ h)
  | contextCommit => exact answers_live fun d h => d.commitNow_wf _ _ h
  | holdExpiry => exact answers_live fun d h => d.holdExpire_wf _ h
  | courseReadPoint => exact answers_live fun d h => d.course_wf _ _ _ h
  | domainFrameStart => exact answers_live fun d h => d.frameStart_wf _ _ _ h
  -- the frame store
  | memcTrainDone => exact answers_live fun d h => d.memcTrained_wf _ _ _ h
  | memcRetrain => exact answers_live fun d h => d.memcRetrain_wf _ _ h
  | fsFrameWritten => exact answers_live fun d h => Dev.txFollow_wf _ (d.fsFrame_wf _ h)
  -- host access, boot and JTAG
  | pcieLinkReset => exact answers_always fun d h => (d.perstFall_wf _ h).ite (d.pcieLinkReset_wf _ h)
  | msixSend => exact answers_live fun d h => d.msixSend_wf _ _ h
  | spiFrame => exact answers_live fun d h => d.spiFrame_wf _ h
  | spiAbort => exact answers_live fun d h => d.spiAbort_wf _ h
  | bootStart => exact answers_live fun d h => d.bootStart_wf h
  | sfdpDiscoveryDone => exact answers_live fun d h => d.sfdpDone_wf _ _ _ h
  | imageCheckDone => exact answers_live fun d h => d.imageDone_wf _ _ _ h
  | flashCmdDone => exact answers_live fun d h => d.flashDone_wf _ _ h
  | jtagTrst => exact answers_always fun d h => d.trst_wf h
  | idcode => exact answers_always fun d h => d.idcode_wf h
  | samplePreload => exact answers_always fun d h => d.samplePreload_wf _ _ h
  | extest => exact answers_always fun d h => d.extest_wf _ _ h
  | clamp => exact answers_always fun d h => d.tapSelect_wf _ h
  | highz => exact answers_always fun d h => d.tapSelect_wf _ h
  | bypass => exact answers_always fun d h => d.tapSelect_wf _ h
  | debug => exact answers_always fun d h => d.debug_wf _ h
  | pciePerstRise => exact answers_always fun d h => (d.perstRise_wf h).ite (Dev.setEvt_wf _ _ _ (d.perstRise_wf h))
  | pcieLinkUp => exact answers_live fun d h => d.pcieLinkUp_wf _ _ h
  -- the interrupt controller
  | interruptCommit => exact answers_live fun d h => d.intCommit_wf _ _ h
  | interruptDeliveryDone => exact answers_live fun d h => d.intDelivered_wf _ _ h
  | claim => exact answers_live fun d h => (d.mRead_wf _ _ _ h).ite (d.mRead_wf _ _ _ h)
  | claimAll => exact answers_live fun d h => (d.mRead_wf _ _ _ h).ite (d.mRead_wf _ _ _ h)
  | complete => exact answers_live fun d h => (d.mWrite_wf _ _ _ _ _ h).ite (d.mWrite_wf _ _ _ _ _ h)
  -- lanes and their framers
  | synthesiserLock => exact answers_live fun d h => Dev.txFollow_wf _ (d.synthLock_wf _ _ h)
  | losSet => exact answers_live fun d h => Dev.rxDone_wf _ _ (d.losSet_wf _ h)
  | losClear => exact answers_live fun d h => Dev.rxDone_wf _ _ (d.losClear_wf _ h)
  | lolSet => exact answers_live fun d h => Dev.rxDone_wf _ _ (d.lolSet_wf _ h)
  | cdrLock => exact answers_live fun d h => Dev.rxDone_wf _ _ (d.cdrLock_wf _ h)
  | cdrRestart => exact answers_live fun d h => d.cdrRestart_wf _ h
  | autoCandidateTimeout => exact answers_live fun d h => Dev.rxDone_wf _ _ (d.autoNext_wf _ h)
  | testCheckerLockChange => exact answers_live fun d h => d.checkLevels_wf _ _ h
  | trsReceived => exact answers_live fun d h => Dev.rxDone_wf _ _ (d.trsReceived_wf _ _ _ _ _ h)
  | candidateExpiry => exact answers_live fun d h => d.candExpiry_wf _ _ h
  | verifyEavMissing => exact answers_live fun d h => Dev.rxDone_wf _ _ (d.verifyMissing_wf _ h)
  | expectedTrsMissing => exact answers_live fun d h => Dev.rxDone_wf _ _ (d.trsMissing_wf _ _ _ h)
  | frameComplete => exact answers_live fun d h => Dev.rxDone_wf _ _ (d.frameComplete_wf _ _ _ h)
  | lineReceived => exact answers_live fun d h => Dev.rxDone_wf _ _ (Dev.routeLine_wf _ _ _ _ (d.lineArrives_wf _ _ _ h))
  | edhFieldCheck => exact answers_live fun d h => Dev.rxDone_wf _ _ (d.edhCheck_wf _ _ h)
  | pidPacketReceived => exact answers_live fun d h => Dev.rxDone_wf _ _ (d.pidReceived_wf _ _ _ _ h)
  | madiSyncSymbol => exact answers_live fun d h => Dev.rxDone_wf _ _ (d.madiSync_wf _ _ _ h)
  | madiSubframe => exact answers_live fun d h => Dev.rxDone_wf _ _ (d.madiSubframe_wf _ _ _ _ _ _ _ h)
  | madiSyncTimeout => exact answers_live fun d h => Dev.rxDone_wf _ _ (d.madiTimeout_wf _ h)
  | asiCharacter => exact answers_live fun d h => Dev.rxDone_wf _ _ (d.asiChar_wf _ _ h)
  | asiSyncByte => exact answers_live fun d h => Dev.rxDone_wf _ _ (d.asiSync_wf _ _ _ _ h)
  | lofTimer => exact answers_live fun d h => Dev.rxDone_wf _ _ (d.lofTimer_wf _ h)
  | followRouteSwitch => exact answers_live fun d h => Dev.txFollow_wf _ (d.routeSwitch_wf _ h)
  -- the control matrix and the SRAM banks
  | matrixTransfer => exact answers_live fun d h => d.matrixTransfer_wf _ _ h
  | lockedSequence => exact answers_live fun d h => d.lockedSeq_wf _ _ h
  | lockBreak => exact answers_live fun d h => d.lockBreak_wf h
  | matrixRequestTimeout => exact answers_live fun d h => d.requestEnd_wf _ _ _ h
  | parkReturn => exact answers_live fun d h => d.parkReturn_wf _ h
  | masterReset => exact answers_live fun d h => d.masterAbort_wf _ _ _ h
  -- register pages, the device page, and what the block does in every page
  | expertTimeout => exact answers_live fun d h => Dev.Wf.ite (Dev.setEvt_wf _ _ _ (d.wr_wf _ _ _ h)) h
  | blockResetDone => exact answers_live fun d h => d.blockDone_wf _ h
  | pinReset cause => cases cause <;> exact answers_always fun d h => d.pinReset_wf _ _ h
  | powerOnReset => exact answers_always fun d h => d.porReset_wf h
  | xoCheckDone => exact answers_always fun d h => d.xoCheck_wf h
  | resetSequenceEnd b => exact answers_always (f := fun d => d.resetEnd b.val) fun d h => d.resetEnd_wf _ h
  | resetNRise => exact answers_always fun d h => d.causeEnd_wf 1 h
  | marginWindowEnd => exact answers_live fun d h => d.marginWindow_wf _ h
  | handshakeWatchdogExpiry => exact answers_live fun d h => d.wdogExpiry_wf _ h
  -- resets, power states, supplies and temperature
  | resetComplete => exact answers_live fun d h => d.resetComplete_wf h
  | stateDone => exact answers_live fun d h => d.stateDone_wf h
  | dormantWake => exact answers_always fun d h => d.dormantWake_wf _ _ h
  | railWarningEnter => exact answers_always fun d h => d.railEnter_wf _ _ h
  | railWarningLeave => exact answers_always fun d h => d.railLeave_wf _ _ _ h
  | railResetLevel => exact answers_always fun d h => d.railReset_wf _ h
  | deferEnd => exact answers_always fun d h => d.deferEnd_wf h
  | tempReading => exact answers_always fun d h => d.tempReading_wf _ h
  | thermalShutdown => exact answers_live fun d h => d.thermalShutdown_wf h
  | wakeTimerExpiry => exact answers_always fun d h => d.timerExpiry_wf h
  -- performance monitoring and protection
  | pmSecondEnd => exact answers_live fun d h => Dev.dataSettle_wf _ (d.pmSecond_wf h)
  | protHoldoffExpiry => exact answers_live fun d h => Dev.dataSettle_wf _ (d.holdoffExpiry_wf _ _ _ h)
  | protWtrExpiry => exact answers_live fun d h => Dev.dataSettle_wf _ (d.pgWtrExpiry_wf _ h)
  -- packet queues and DMA
  | queuePacketWrite => exact answers_live fun d h => d.queuePut_wf _ _ _ h
  | queueStallReturn => exact answers_live fun d h => d.stallBack_wf _ h
  | queueStallTimeout => exact answers_live fun d h => d.stallEnd_wf _ h
  | dmaPacketToRing => exact answers_live fun d h => d.dmaServe_wf _ _ h
  | dmaEntryToQueue => exact answers_live fun d h => d.dmaServe_wf _ _ h
  -- tile Link lanes
  | tlBlockReceived => exact answers_live fun d h => Dev.tlSettle_wf _ _ (d.tlBlock_wf _ _ _ _ h)
  | tlRowOverhead => exact answers_live fun d h => Dev.tlSettle_wf _ _ (d.tlRow_wf _ h)
  | tlBipReceived => exact answers_live fun d h => d.tlBip_wf _ h
  | tlSrqReceived => exact answers_live fun d h => Dev.tlSettle_wf _ _ (d.tlSrq_wf _ h)
  | tlRdiReiReceived => exact answers_live fun d h => Dev.tlSettle_wf _ _ (d.tlRdi_wf _ h)
  | tlTraceReceived => exact answers_live fun d h => Dev.tlSettle_wf _ _ (d.tlTrace_wf _ h)
  | ccSegmentReceived => exact answers_live fun d h => d.ccSegment_wf _ h
  | ccPacketTransmit => exact answers_live fun d h => d.ccTransmit_wf _ h
  | jcwReceived => exact answers_live fun d h => d.jcwReceived_wf _ h
  | headerBrickReceived => exact answers_live fun d h => Dev.tlSettle_wf _ _ (d.headerReceived_wf _ _ _ _ h)
  | tlFrameTransmit => exact answers_live fun d h => Dev.Wf.fold _ h fun e k he => Dev.txFollow_wf _ (e.tlFrame_wf _ he)
  -- the timing unit and the timing domains
  | refMeasurement => exact answers_live fun d h => d.refMeasure_wf _ _ _ h
  | refSignalAbsent => exact answers_live fun d h => d.refAbsent_wf _ h
  | refSignalPresent => exact answers_live fun d h => d.refPresent_wf _ h
  | referenceEvent => exact answers_live fun d h => d.refEvent_wf _ _ h
  | todMessage => exact answers_live fun d h => d.todMessage_wf _ _ _ h
  | todTimeout => exact answers_live fun d h => d.todTimeout_wf h
  | refWtrExpiry => exact answers_live fun d h => d.wtrExpire_wf _ h
  | transitionPhaseCapture => exact answers_live fun d h => d.phaseCapture_wf _ h
  | transitionLoopClose => exact answers_live fun d h => d.loopClose_wf h
  | transitionDone => exact answers_live fun d h => d.transitionDone_wf h
  | stepDone => exact answers_live fun d h => d.stepDone_wf h
  | realignJumpExecute => exact answers_live fun d h => d.jumpExecute_wf _ _ h
  | realignSlewDone => exact answers_live fun d h => d.slewDone_wf _ h
  | audDone => exact answers_live fun d h => d.audDone_wf h
  -- the walls and the claim gates
  | wallSelfDiagFailure => exact answers_live fun d h => Dev.txFollow_wf _ (d.diag_wf _ _ h)
  | crossCompareMismatch => exact answers_live fun d h => Dev.txFollow_wf _ (d.mismatch_wf _ _ h)
  | selftestDone => exact answers_live fun d h => Dev.txFollow_wf _ (d.selfTestDone_wf _ _ h)
  | gateSafeState => exact answers_live fun d h => d.gateSafe_wf _ h
  | rejoinBistDone => exact answers_live fun d h => Dev.txFollow_wf _ (d.bistDone_wf _ _ _ _ _ h)
  | rejoinCopyDone => exact answers_live fun d h => Dev.txFollow_wf _ (d.copyDone_wf _ _ _ h)
  | rejoinCopyTimeout => exact answers_live fun d h => Dev.txFollow_wf _ (d.copyTimeout_wf _ h)
  | rejoinShadowDone => exact answers_live fun d h => Dev.txFollow_wf _ (d.shadowDone_wf _ h)
  | swapExecute => exact answers_live fun d h => Dev.txFollow_wf _ (d.swapExecute_wf _ h)

/-- A step keeps the invariant: a command by `exec_answers`, the idle step by the law of the tick. -/
theorem step_keeps_inv {s t : State} (h : s.Inv) (hs : step s = .next t) : t.Inv := by
  obtain ⟨d, q⟩ := s
  cases q with
  | nil =>
    cases hs
    exact d.tick_wf h
  | cons c q =>
    obtain ⟨e, he, hw⟩ := exec_answers c ⟨d, q⟩
    cases he.symm.trans hs
    exact hw h

end Sys2Proof.Machine

namespace Sys2Proof.Proofs

/-- Settles O5: the invariant is kept command by command. -/
theorem stepKeepsInvariant : Obligations.StepKeepsInvariant := by
  unfold Obligations.StepKeepsInvariant
  exact fun _ _ => Machine.step_keeps_inv

/-- Settles O7: no meaning ends in a fault or a refusal. -/
theorem everyCommandCompletes : Obligations.EveryCommandCompletes := by
  unfold Obligations.EveryCommandCompletes
  exact fun c s => (Machine.exec_answers c s).imp fun _ h => h.1

end Sys2Proof.Proofs
end

section
/-! PROOF. Which cause of rejection is recorded (R13, R16, R19, R20): the order of the causes, and where LOCKED and EXPERT can come from. -/

namespace Sys2Proof.Machine

/-! ### The first cause in the order of R20 -/

theorem mem_rejIf {b : Bool} {x r : Rej} : x ∈ rejIf b r ↔ b = true ∧ x = r := by
  cases b <;> simp [rejIf]

theorem Rej.mem_order (x : Rej) : x ∈ [Rej.locked, .expert, .rsvd, .range, .armed, .state] := by
  cases x <;> simp

theorem Rej.place_inj {a b : Rej} (h : a.place = b.place) : a = b := by
  cases a <;> cases b <;> simp [Rej.place] at h <;> rfl

/-- Where a cause applies, one is recorded. -/
theorem firstRej_isSome {rs : List Rej} {x : Rej} (h : x ∈ rs) : (firstRej rs).isSome = true := by
  unfold firstRej
  rw [List.find?_isSome]
  exact ⟨x, x.mem_order, by simpa using h⟩

/-- The recorded cause applies, and none that applies comes before it: the list that is searched is in the order of the places. -/
theorem firstRej_spec {rs : List Rej} {r : Rej} (h : firstRej rs = some r) : r ∈ rs ∧ ∀ x ∈ rs, r.place ≤ x.place := by
  obtain ⟨hr, as, bs, hs, before⟩ := List.find?_eq_some_iff_append.1 h
  refine ⟨by simpa using hr, fun x hx => ?_⟩
  have sorted : List.Pairwise (fun a b => Rej.place a < Rej.place b) [Rej.locked, .expert, .rsvd, .range, .armed, .state] := by decide
  have hm := x.mem_order
  rw [hs] at sorted hm
  rcases List.mem_append.1 hm with ha | ha
  · have := before x ha
    simp [hx] at this
  · rcases List.mem_cons.1 ha with rfl | hb
    · exact Nat.le_refl _
    · exact Nat.le_of_lt ((List.pairwise_cons.1 (List.pairwise_append.1 sorted).2.1).1 x hb)

/-- A cause that applies and that none comes before is the one recorded. -/
theorem firstRej_eq_some {rs : List Rej} {r : Rej} (h : r ∈ rs) (hmin : ∀ x ∈ rs, r.place ≤ x.place) : firstRej rs = some r := by
  obtain ⟨y, hy⟩ := Option.isSome_iff_exists.1 (firstRej_isSome h)
  obtain ⟨hmem, hle⟩ := firstRej_spec hy
  rw [hy, Rej.place_inj (Nat.le_antisymm (hle r h) (hmin y hmem))]

/-- LOCKED is recorded wherever it applies. -/
theorem firstRej_locked {rs : List Rej} (h : .locked ∈ rs) : firstRej rs = some .locked :=
  firstRej_eq_some h fun _ _ => Nat.zero_le _

/-- Causes of which none comes before RSVD. -/
def Mild (rs : List Rej) : Prop := ∀ x ∈ rs, Rej.place .rsvd ≤ x.place

@[simp] theorem mild_nil : Mild [] := by simp [Mild]

@[simp] theorem mild_append {a b : List Rej} : Mild (a ++ b) ↔ Mild a ∧ Mild b := List.forall_mem_append

theorem mild_rejIf {b : Bool} {r : Rej} (h : Rej.place .rsvd ≤ r.place) : Mild (rejIf b r) := by
  intro x hx
  rw [(mem_rejIf.1 hx).2]
  exact h

@[simp] theorem mild_rejIf_rsvd (b : Bool) : Mild (rejIf b .rsvd) := mild_rejIf (by decide)
@[simp] theorem mild_rejIf_range (b : Bool) : Mild (rejIf b .range) := mild_rejIf (by decide)
@[simp] theorem mild_rejIf_state (b : Bool) : Mild (rejIf b .state) := mild_rejIf (by decide)

@[simp] theorem mild_ite {c : Prop} [Decidable c] {a b : List Rej} : Mild (if c then a else b) ↔ (c → Mild a) ∧ (¬c → Mild b) := by
  split <;> simp_all

/-- RSVD is recorded where it applies and nothing comes before it. -/
theorem firstRej_rsvd {rs : List Rej} (h : .rsvd ∈ rs) (hm : Mild rs) : firstRej rs = some .rsvd := firstRej_eq_some h hm

/-! ### A page's own rules give LOCKED for want of ADMIN only -/

theorem Dev.laneXRej_mild (d : Dev) (l off : Nat) (v : Word) : Mild (d.laneXRej l off v) := by
  simp only [Dev.laneXRej, Dev.loopbackRej, txffeRej, losxRej, mild_ite, mild_rejIf_range, mild_rejIf_state, mild_nil, implies_true, and_self]

theorem Dev.laneRej_mild (d : Dev) (n off : Nat) (v : Word) : Mild (d.laneRej n off v) := by
  simp only [Dev.laneRej, Dev.rxcfgRej, Dev.txcfgRej, Dev.laneXRej_mild, mild_ite, mild_append, mild_rejIf_range, mild_rejIf_state, implies_true,
    and_self]

theorem Dev.tllRej_mild (d : Dev) (n off : Nat) (old v : Word) : Mild (d.tllRej n off old v) := by
  simp only [Dev.tllRej, Dev.txslotRej, Dev.laneXRej_mild, mild_ite, mild_append, mild_rejIf_range, mild_rejIf_state, implies_true, and_self]

theorem Dev.tgCmdRej_mild (d : Dev) (v : Word) : Mild (d.tgCmdRej v) := by
  unfold Dev.tgCmdRej
  split <;> simp only [mild_append, mild_rejIf_state, mild_nil, and_self]

theorem Dev.dmaRej_mild (d : Dev) (c k : Nat) (v : Word) : Mild (d.dmaRej c k v) := by
  unfold Dev.dmaRej
  split <;> simp only [mild_append, mild_rejIf_range, mild_rejIf_state, and_self]

theorem Dev.qmgRej_mild (d : Dev) (m off : Nat) (v : Word) : Mild (d.qmgRej m off v) := by
  simp only [Dev.qmgRej, Dev.qCfgRej, Dev.rdCtlRej, Dev.dmaRej_mild, mild_ite, mild_rejIf_state, mild_nil, implies_true, and_self]

theorem Dev.protRej_mild (d : Dev) (off : Nat) (old v : Word) : Mild (d.protRej off old v) := by
  unfold Dev.protRej
  split <;> simp only [Dev.pgCfgRej, Dev.pgCmdRej, mild_ite, mild_append, mild_rejIf_range, mild_rejIf_state, mild_nil, implies_true, and_self]

theorem Dev.fstRej_mild (d : Dev) (off : Nat) (old v : Word) : Mild (d.fstRej off old v) := by
  simp only [Dev.fstRej, Dev.chCfgRej, Dev.dlRej, Dev.chCtlRej, mild_ite, mild_append, mild_rejIf_range, mild_rejIf_state, mild_nil, implies_true,
    and_self]

theorem Dev.tdomRej_mild (d : Dev) (k off : Nat) (old v : Word) : Mild (d.tdomRej k off old v) := by
  simp only [Dev.tdomRej, mild_ite, mild_append, mild_rejIf_range, mild_rejIf_state, mild_nil, implies_true, and_self, and_true, true_and]
  intro _ _ _
  split
  · exact mild_rejIf_range _
  · exact mild_nil

theorem Dev.tmuRej_mild (d : Dev) (off : Nat) (v : Word) : Mild (d.tmuRej off v) := by
  simp only [Dev.tmuRej, mild_ite, mild_rejIf_range, mild_rejIf_state, mild_nil, implies_true, and_self]

theorem Dev.intcRej_mild (d : Dev) (m off : Nat) (old v : Word) : Mild (d.intcRej m off old v) := by
  simp only [Dev.intcRej, mild_ite, mild_append, mild_rejIf_range, mild_rejIf_state, mild_nil, implies_true, and_self]

theorem Dev.wallRej_mild (d : Dev) (w off : Nat) (v : Word) : Mild (d.wallRej w off v) := by
  simp only [Dev.wallRej, mild_ite, mild_append, mild_rejIf_state, mild_nil, implies_true, and_self]

theorem Dev.lengRej_mild (d : Dev) (n off : Nat) (v : Word) : Mild (d.lengRej n off v) := by
  simp only [Dev.lengRej, mild_ite, mild_append, mild_rejIf_range, mild_rejIf_state, mild_nil, implies_true, and_self]

theorem Dev.memcRej_mild (d : Dev) (i off : Nat) (v : Word) : Mild (d.memcRej i off v) := by
  simp only [Dev.memcRej, mild_ite, mild_append, mild_rejIf_range, mild_rejIf_state, mild_nil, implies_true, and_self]

theorem Dev.mtxRej_mild (d : Dev) (m off : Nat) (old v : Word) (h : d.admin m = true) : Mild (d.mtxRej m off old v) := by
  have hl : Mild (rejIf (!d.admin m) .locked) := by rw [h]; exact mild_nil
  simp only [Dev.mtxRej, hl, mild_ite, mild_append, mild_rejIf_range, mild_rejIf_state, mild_nil, implies_true, and_self]

theorem Dev.bootRej_mild (d : Dev) (m off : Nat) (v : Word) (h : off ≠ 0x040) : Mild (d.bootRej m off v) := by
  have hb : (off == 0x040) = false := by simpa using h
  simp only [Dev.bootRej, hb, mild_ite, mild_append, mild_rejIf_range, mild_rejIf_state, mild_nil, implies_true, and_self, Bool.false_eq_true,
    false_implies]

/-- A page's own rules give nothing that comes before RSVD, but for MTX, PWR.RESET and BOOT.DBG_UNLOCK, which ask for ADMIN (R356, R409, R443). -/
theorem Dev.pageRejOwn_mild (d : Dev) (m : Nat) (p : Page) (off : Nat) (old v : Word) (hm : p = .mtx → d.admin m = true)
    (hp : p = .pwr → off ≠ 0x024) (hb : p = .boot → off ≠ 0x040) : Mild (d.pageRejOwn m p off old v) := by
  unfold Dev.pageRejOwn
  cases p with
  | dev => simp only [mild_ite, mild_rejIf_range, mild_nil, implies_true, and_self]
  | pwr =>
    have h : (off == 0x024) = false := by simpa using hp rfl
    simp only [h, Dev.pwrStateRej, mild_ite, mild_rejIf_state, mild_nil, implies_true, and_self, Bool.false_eq_true, false_implies]
  | boot => exact d.bootRej_mild m off v (hb rfl)
  | mtx => exact d.mtxRej_mild m off old v (hm rfl)
  | intc => exact d.intcRej_mild m off old v
  | pmc => simp only [pmcRej, mild_ite, mild_rejIf_range, mild_nil, implies_true, and_self]
  | qmg => exact d.qmgRej_mild m off v
  | tmu => exact d.tmuRej_mild off v
  | refin r => simp only [refinRej, mild_ite, mild_append, mild_rejIf_rsvd, mild_rejIf_range, mild_nil, implies_true, and_self]
  | tdom k => exact d.tdomRej_mild k off old v
  | fab =>
    simp only [Dev.genRej, Dev.tgCmdRej_mild, mild_ite, mild_append, mild_rejIf_range, mild_rejIf_state, mild_nil, implies_true, and_self]
  | wall w => exact d.wallRej_mild w off v
  | cgate => simp only [Dev.swapRej, mild_ite, mild_rejIf_state, mild_nil, implies_true, and_self]
  | prot => exact d.protRej_mild off old v
  | fst => exact d.fstRej_mild off old v
  | memc i => exact d.memcRej_mild i off v
  | lane n => exact d.laneRej_mild n off v
  | tll n => exact d.tllRej_mild n off old v
  | leng n => exact d.lengRej_mild n off v
  | aon | host | intcF | sramc | afab => exact mild_nil

/-- The field tables give no LOCKED. -/
theorem Dev.locked_not_mem_pageRejTable (d : Dev) (p : Page) (off : Nat) (old v : Word) : Rej.locked ∉ d.pageRejTable p off old v := by
  unfold Dev.pageRejTable
  split <;> simp [mem_rejIf]

/-! ### What rejects a write that reaches a page -/

/-- A write that reaches a page finds the block as it was but for the matrix and the counted bytes. -/
theorem Dev.reached_keeps (ks : List Nat) (d : Dev) (m : Nat) (be : BitVec 4) : d.Keeps ks (d.reached m be) :=
  (Dev.granted_keeps ks d 6 m).trans (Dev.bwAdd_keeps ks _ _ _)

@[simp] theorem Dev.reached_reg (d : Dev) (m : Nat) (be : BitVec 4) (k : Nat) : (d.reached m be).reg k = d.reg k :=
  (d.reached_keeps [] m be).regs k List.not_mem_nil

@[simp] theorem Dev.reached_on (d : Dev) (m : Nat) (be : BitVec 4) (p : Page) (f : Fld) : (d.reached m be).on p f = d.on p f := by
  simp [Dev.on, Dev.rd]

@[simp] theorem Dev.reached_admin (d : Dev) (m : Nat) (be : BitVec 4) (k : Nat) : (d.reached m be).admin k = d.admin k := by
  simp [Dev.admin]

/-- With all byte enables set, the page's LOCK, its field tables and its own rules reject (R19). -/
theorem Dev.pageRej_full (d : Dev) (m : Nat) (p : Page) (off : Nat) (old v : Word) :
    d.pageRej m p off 15 old v =
      rejIf (0x020 ≤ off && d.on p .PAGE_CTRL_LOCK) .locked ++ d.pageRejTable p off old v ++ d.pageRejOwn m p off old v := by
  simp [Dev.pageRej]

/-- A partial write is LOCKED where LOCK forbids the offset, and RSVD in any case (R12). -/
theorem Dev.pageRej_partial (d : Dev) (m : Nat) (p : Page) (off : Nat) {be : BitVec 4} (old v : Word) (h : be ≠ 15) :
    d.pageRej m p off be old v = rejIf (0x020 ≤ off && d.on p .PAGE_CTRL_LOCK) .locked ++ [.rsvd] :=
  if_pos (bne_iff_ne.2 h)

/-- LOCK rejects every write from 0x020 up. -/
theorem Dev.rejects_of_lock (d : Dev) (m : Nat) (p : Page) (off : Nat) (be : BitVec 4) (v : Word) (ho : 0x020 ≤ off)
    (hl : d.on p .PAGE_CTRL_LOCK = true) : d.rejects m p off be v = some .locked := by
  have hm : .locked ∈ rejIf (0x020 ≤ off && (d.reached m be).on p .PAGE_CTRL_LOCK) .locked := by
    simp [mem_rejIf, ho, hl]
  refine firstRej_locked ?_
  by_cases h : be = 15
  · subst h
    rw [Dev.pageRej_full]
    exact List.mem_append_left _ (List.mem_append_left _ hm)
  · rw [Dev.pageRej_partial _ _ _ _ _ _ h]
    exact List.mem_append_left _ hm

/-- Below 0x020 no write is LOCKED, but on MTX. -/
theorem Dev.rejects_ne_locked (d : Dev) (m : Nat) (p : Page) (off : Nat) (be : BitVec 4) (v : Word) (ho : off < 0x020) (hp : p ≠ .mtx) :
    d.rejects m p off be v ≠ some .locked := by
  intro h
  have hm := (firstRej_spec h).1
  have hn : ¬ 0x020 ≤ off := by omega
  by_cases hb : be = 15
  · subst hb
    have mild := (d.reached m 15).pageRejOwn_mild m p off ((d.reached m 15).reg ((d.reached m 15).pageKey m p off)) v
      (fun h => absurd h hp) (fun _ => by omega) (fun _ => by omega)
    simp only [Dev.pageRej_full, List.mem_append, mem_rejIf, hn, decide_false, Bool.false_and, Bool.false_eq_true, false_and, false_or,
      Dev.locked_not_mem_pageRejTable] at hm
    exact absurd (mild _ hm) (by decide)
  · simp [Dev.pageRej_partial _ _ _ _ _ _ hb, mem_rejIf, hn] at hm

/-- A full-width write of an offset without a register is RSVD, where no LOCKED cause comes first (R13). -/
theorem Dev.rejects_of_no_register (d : Dev) (m : Nat) (p : Page) (off : Nat) (v : Word) (h : regAt p off = none) :
    d.rejects m p off 15 v = some (if (0x020 ≤ off ∧ d.on p .PAGE_CTRL_LOCK = true) ∨ (p = .mtx ∧ d.admin m = false) then .locked else .rsvd) := by
  unfold Dev.rejects
  rw [Dev.pageRej_full]
  split
  case isTrue hl =>
    refine firstRej_locked ?_
    rcases hl with ⟨ho, hl⟩ | ⟨rfl, ha⟩
    · simp [mem_rejIf, ho, hl]
    · simp [Dev.pageRejOwn, Dev.mtxRej, mem_rejIf, ha]
  case isFalse hl =>
    rw [not_or] at hl
    obtain ⟨hlock, hadm⟩ := hl
    have own := (d.reached m 15).pageRejOwn_mild m p off ((d.reached m 15).reg ((d.reached m 15).pageKey m p off)) v
      (fun hp => by simpa [hp] using hadm) (fun hp ho => by subst hp ho; exact absurd h (by decide))
      (fun hp ho => by subst hp ho; exact absurd h (by decide))
    have hn : (decide (0x020 ≤ off) && d.on p .PAGE_CTRL_LOCK) = false := by
      simpa using hlock
    refine firstRej_rsvd (by simp [Dev.pageRejTable, h]) ?_
    simp only [Dev.reached_on, hn, Dev.pageRejTable, h, mild_append, own, and_true]
    exact ⟨mild_nil, by simp [Mild]⟩

end Sys2Proof.Machine

namespace Sys2Proof.Proofs

open Sys2Proof.Machine

/-- Settles O10: the list that is searched for the cause stands in the order of R20. -/
theorem rejectionOrder : Obligations.RejectionOrder := by
  unfold Obligations.RejectionOrder
  intro d m p off be v old
  refine ⟨fun r _ h => firstRej_spec h, fun x _ h => firstRej_isSome h, fun hb => ?_⟩
  unfold Dev.rejects
  rw [Dev.pageRej_partial _ _ _ _ _ _ hb, Dev.reached_on]
  split
  case isTrue h => exact firstRej_locked (by simp [mem_rejIf, h])
  case isFalse h =>
    have hn : (decide (0x020 ≤ off) && d.on p .PAGE_CTRL_LOCK) = false := by
      simpa using h
    rw [hn]
    rfl

end Sys2Proof.Proofs
end

section
/-! PROOF. What a rejected write leaves (R19 to R21, R314), and the statements that follow from it: LOCK, offsets without a register, the
expert half. -/

namespace Sys2Proof.Machine

/-! ### What a page does on a rejection beyond its header -/

theorem Dev.admitErr_keeps {ks : List Nat} (d : Dev) (c n : Nat) (h : regKey .fst 0 0x060 ∈ ks) : d.Keeps ks (d.admitErr c n) :=
  (Dev.wr_keeps d .fst .FST_ADMIT_ERR_CAUSE c h).trans (Dev.wr_keeps _ .fst .FST_ADMIT_ERR_SHORTFALL _ h)

/-- A rejected write of FST leaves nothing, or a refused admission and its event (R302). -/
theorem Dev.fstOnRej_cases (d : Dev) (off : Nat) (old v : Word) (r : Rej) :
    d.fstOnRej off old v r = d ∨ ∃ c n, d.fstOnRej off old v r = (d.admitErr c n).setEvt .fst 12 := by
  unfold Dev.fstOnRej
  split
  · unfold Dev.chCfgOnRej
    split
    · dsimp only
      split
      · exact .inl rfl
      · split
        · exact .inr ⟨_, _, rfl⟩
        · exact .inl rfl
    · exact .inl rfl
  · split
    · unfold Dev.dlOnRej
      split
      · split
        · exact .inr ⟨_, _, rfl⟩
        · exact .inl rfl
      · exact .inl rfl
    · exact .inl rfl

/-- A rejection leaves at most FST.ADMIT_ERR, with its event where FST itself rejects (R302, R314). -/
theorem Dev.pageOnRej_cases (d : Dev) (p : Page) (off : Nat) (old v : Word) (r : Rej) :
    d.pageOnRej p off old v r = d ∨ (∃ c n, d.pageOnRej p off old v r = d.admitErr c n) ∨
      (p = .fst ∧ ∃ c n, d.pageOnRej p off old v r = (d.admitErr c n).setEvt .fst 12) := by
  unfold Dev.pageOnRej
  split
  · exact (d.fstOnRej_cases off old v r).imp_right fun h => .inr ⟨rfl, h⟩
  · unfold Dev.memcOnRej
    split
    · exact .inr (.inl ⟨_, _, rfl⟩)
    · exact .inl rfl
  · exact .inl rfl

theorem eventKeys_subset_rejectKeys (p : Page) : ∀ k ∈ eventKeys p, k ∈ rejectKeys p := fun k hk => by
  simp [rejectKeys, hk]

theorem Dev.pageOnRej_keeps (d : Dev) (p : Page) (off : Nat) (old v : Word) (r : Rej) : d.Keeps (rejectKeys p) (d.pageOnRej p off old v r) := by
  have refused : regKey .fst 0 0x060 ∈ rejectKeys p := by simp [rejectKeys]
  obtain h | ⟨c, n, h⟩ | ⟨rfl, c, n, h⟩ := d.pageOnRej_cases p off old v r <;> rw [h]
  · exact Dev.Keeps.refl _ d
  · exact d.admitErr_keeps c n refused
  · exact (d.admitErr_keeps c n refused).trans ((Dev.setEvt_keeps _ _ _).mono (eventKeys_subset_rejectKeys .fst))

theorem Dev.pageOnRej_stays (d : Dev) (p q : Page) (off i : Nat) (old v : Word) (r : Rej) : Dev.EvtStays q i d (d.pageOnRej p off old v r) := by
  have refused : ∀ c n, Dev.EvtStays q i d (d.admitErr c n) := fun c n =>
    .of_eq ((d.admitErr_keeps (ks := [regKey .fst 0 0x060]) c n (by simp)).regs _ (by
      simp [regKey_ne q .fst (a := 0x010) (b := 0x060) (by omega)]))
  obtain h | ⟨c, n, h⟩ | ⟨rfl, c, n, h⟩ := d.pageOnRej_cases p off old v r <;> rw [h]
  · exact id
  · exact refused c n
  · exact (refused c n).trans (Dev.setEvt_stays _ q .fst 12 i)

/-- The page header and its two error registers are none that the rest of a rejection changes. -/
theorem Dev.pageOnRej_rd (d : Dev) (p q : Page) (off : Nat) (old v : Word) (r : Rej) (f : Fld)
    (h : f.off % 4096 < 0x010 ∨ f.off % 4096 = 0x018 ∨ f.off % 4096 = 0x01C) : (d.pageOnRej p off old v r).rd q f = d.rd q f := by
  have refused : regKey q 0 f.off ≠ regKey .fst 0 0x060 := regKey_ne _ _ (by omega)
  have evt : regKey q 0 f.off ∉ regKey .fst 0 0x060 :: eventKeys .fst := by
    simp [refused, not_mem_eventKeys q .fst (a := f.off) (by omega)]
  obtain h | ⟨c, n, h⟩ | ⟨rfl, c, n, h⟩ := d.pageOnRej_cases p off old v r <;> rw [h]
  · exact (d.admitErr_keeps (ks := [regKey .fst 0 0x060]) c n (by simp)).rd q f (by simp [refused])
  · exact ((d.admitErr_keeps c n (by simp)).trans ((Dev.setEvt_keeps _ _ _).mono fun k hk => by simp [hk])).rd q f evt

/-- The registers of a page below 0x010 are none that a rejected write changes. -/
theorem not_mem_rejectKeys (p : Page) {a : Nat} (h : a % 4096 < 0x010) : regKey p 0 a ∉ rejectKeys p := by
  simp only [rejectKeys, List.mem_append, List.mem_cons, List.not_mem_nil, or_false, not_or]
  exact ⟨⟨regKey_ne _ _ (by omega), regKey_ne _ _ (by omega), regKey_ne _ _ (by omega)⟩, not_mem_eventKeys p p (by omega)⟩

/-- The answer that a master has received is the last one given to it. -/
@[simp] theorem Dev.respOf_respond (d : Dev) (m : Nat) (r : Resp) : (d.respond m r).respOf m = r := Map.get_put_same _ _ _ _

end Sys2Proof.Machine

namespace Sys2Proof.Proofs

open Sys2Proof.Machine

/-- Settles O9: the record of R19 and R21 is made first, and what the page adds on a rejection leaves it. -/
theorem rejectedWriteIsRecorded : Obligations.RejectedWriteIsRecorded := by
  unfold Obligations.RejectedWriteIsRecorded
  intro d q m p w be v r hrun hbar hperm hrej
  obtain ⟨master, offset, code, overrun, evt⟩ := (d.reached m.val be).recordRej_vals m p (4 * w.val) r
  have hw : 4 * w.val % 0x1000 / 4 = w.val := by omega
  have hx : exec (.registerWrite m p w be v) ⟨d, q⟩ = .next ⟨d.mWrite m.val p (4 * w.val) be v, q⟩ := State.live_runs _ _ hrun
  rw [Dev.mWrite_rejects hbar hperm hrej] at hx
  refine ⟨_, hx, ?_, ?_, ?_, ?_, ?_, Dev.respOf_respond _ _ _, ?_⟩
  · exact (Dev.pageOnRej_rd _ _ _ _ _ _ _ _ (by decide)).trans master
  · exact (Dev.pageOnRej_rd _ _ _ _ _ _ _ _ (by decide)).trans (offset.trans hw)
  · exact (Dev.pageOnRej_rd _ _ _ _ _ _ _ _ (by decide)).trans code
  · intro again
    exact (congrArg (· == 1) (Dev.pageOnRej_rd _ _ _ _ _ _ _ _ (by decide))).trans (overrun (by rwa [Dev.reached_reg]))
  · exact Dev.pageOnRej_stays _ p p _ 0 _ _ _ evt
  · exact ((d.reached_keeps _ m.val be).trans ((Dev.recordRej_keeps _ _ _ _ _).mono (by simp +contextual [rejectKeys]))).trans
      ((Dev.pageOnRej_keeps _ _ _ _ _ _).trans (Dev.respond_keeps _ _ _ _))

/-- Settles O11: with LOCK = 1 LOCKED comes before every other cause; below 0x020 only MTX gives it. -/
theorem lockForbidsWrites : Obligations.LockForbidsWrites := by
  unfold Obligations.LockForbidsWrites
  intro d q m p w be v
  refine ⟨fun hw hrun hlock hbar hperm => ?_, fun hw hp => d.rejects_ne_locked m.val p _ be v (by omega) hp⟩
  have hrej := d.rejects_of_lock m.val p (4 * w.val) be v (by omega) hlock
  obtain ⟨e, hx, -, -, hcode, -, -, -, hkeep⟩ := rejectedWriteIsRecorded d q m p w be v .locked hrun hbar hperm hrej
  exact ⟨e, hx, hcode, hkeep.regs⟩

end Sys2Proof.Proofs
end

section
/-! PROOF. Offsets that hold no register (R13): what a read and a write of one do. -/

namespace Sys2Proof.Machine

/-! ### Addresses of the pages -/

theorem base_mod (p : Page) : p.base % 0x1000 = 0 := by
  unfold Page.base
  split <;> omega

/-- Each page that exists is found at its base (Table 22.1). -/
theorem pageAt_base {p : Page} (hp : p.exists = true) : pageAt p.base = some p := by
  have refins : ∀ r < 8, pageAt (Page.refin r).base = some (.refin r) := by decide
  have tdoms : ∀ k < 16, pageAt (Page.tdom k).base = some (.tdom k) := by decide
  have walls : ∀ w < 2, pageAt (Page.wall w).base = some (.wall w) := by decide
  have memcs : ∀ i < 2, pageAt (Page.memc i).base = some (.memc i) := by decide
  have lanes : ∀ n < 144, pageAt (Page.lane n).base = some (.lane n) := by decide
  have tlls : ∀ n < 16, pageAt (Page.tll n).base = some (.tll n) := by decide
  have lengs : ∀ n < 144, pageAt (Page.leng n).base = some (.leng n) := by decide
  cases p with
  | refin r => exact refins r (of_decide_eq_true hp)
  | tdom k => exact tdoms k (of_decide_eq_true hp)
  | wall w => exact walls w (of_decide_eq_true hp)
  | memc i => exact memcs i (of_decide_eq_true hp)
  | lane n => exact lanes n (of_decide_eq_true hp)
  | tll n => exact tlls n (of_decide_eq_true hp)
  | leng n => exact lengs n (of_decide_eq_true hp)
  | dev | pwr | aon | host | boot | mtx | intc | intcF | pmc | qmg | sramc | tmu | fab | afab | cgate | prot | fst => rfl

/-- Every address of a page is the page's. -/
theorem pageAt_add {p : Page} {off : Nat} (hp : p.exists = true) (ho : off < 0x1000) : pageAt (p.base + off) = some p := by
  have hb := base_mod p
  have same : (p.base + off) / 0x1000 = p.base / 0x1000 := by omega
  rw [← pageAt_base hp]
  simp only [pageAt, same]

/-! ### Reads of a page by a transfer -/

@[simp] theorem Dev.passed_reg (d : Dev) (m k : Nat) : (d.passed m).reg k = d.reg k := (d.passed_keeps [] m).regs k List.not_mem_nil

/-- A read of one word of a page that the matrix lets through is answered with what the page answers, unless the page stalls it. -/
theorem Dev.transfer_read_page (d : Dev) {m : Nat} {p : Page} {off : Nat} (hp : p.exists = true) (ho : off < 0x1000) (h4 : off % 4 = 0)
    (hperm : d.permits m 6 false = true) (hlock : d.lockedOut m 6 = false) (hstall : ((d.passed m).pageRead m p off).stallOf m = none) :
    d.transfer m (p.base + off) 0 false [{}] {} =
      ((d.passed m).pageRead m p off).respond m ⟨.okay, [asked {} ((((d.passed m).pageRead m p off).respOf m).data.headD 0)]⟩ := by
  have hb := base_mod p
  have ha : (p.base + off) / 4 * 4 = p.base + off := by omega
  have hm : (p.base + off) % 0x1000 = off := by omega
  have ht : targetAt (p.base + off) = 6 := by simp [targetAt, pageAt_add hp ho]
  have hone : (d.granted 6 m).bwAdd 330 (beatBytes [{}]) = d.passed m := rfl
  unfold Dev.transfer
  simp only [ha, ht, hperm, hlock, Bool.false_and, Bool.and_false, Bool.not_true, Bool.false_eq_true, if_false, Nat.reduceBEq, Dev.perform, Run.beats, Run.beat,
    Nat.reduceLT, Nat.reduceAdd, hone, if_true, Run.pageBeat, pageAt_add hp ho, hm, hstall, Option.isSome_none, Run.word, Run.finish, List.nil_append]

/-! ### Offsets that hold no register -/

/-- A read of an offset without a register latches and claims nothing. -/
theorem Dev.readAfter_of_no_register (d : Dev) (m : Nat) {p : Page} {off : Nat} (h : regAt p off = none) : d.readAfter m p off = d := by
  have counts : ∀ k < 64, (regAt .pmc (0x104 + 12 * k)).isSome = true := by decide
  have off_ne : ∀ k, (regAt p k).isSome = true → (off == k) = false := fun k hk => by
    rw [beq_eq_false_iff_ne]
    rintro rfl
    simp [h] at hk
  unfold Dev.readAfter
  split
  · rw [off_ne 0x070 (by decide)]; rfl
  · rw [off_ne 0x044 (by decide), off_ne 0x04C (by decide)]; rfl
  · rw [off_ne 0x0C0 (by decide), off_ne 0x0C4 (by decide)]; rfl
  · rw [off_ne 0x020 (by decide), off_ne 0x024 (by decide)]; rfl
  · rw [off_ne 0x03C (by decide), if_neg Bool.false_ne_true, if_neg]
    intro hc
    simp only [Bool.and_eq_true, decide_eq_true_eq, beq_iff_eq] at hc
    have hk := counts ((off - 0x104) / 12) (by omega)
    rw [show 0x104 + 12 * ((off - 0x104) / 12) = off by omega, h] at hk
    cases hk
  · rfl

/-- A read of an offset without a register returns 0, and is answered at once. -/
theorem Dev.pageRead_of_no_register (d : Dev) (m : Nat) {p : Page} {off : Nat} (h : regAt p off = none) :
    d.pageRead m p off = d.respond m ⟨.okay, [0]⟩ := by
  have hstat : (off == 0x00C) = false := by
    rw [beq_eq_false_iff_ne]
    rintro rfl
    simp [regAt, regsHeader, RegD.covers] at h
  have hlo : ¬ ((p == .qmg && off == 0x054) = true) := by
    simp only [Bool.and_eq_true, beq_iff_eq, not_and]
    rintro rfl rfl
    exact absurd h (by decide)
  rw [Dev.pageRead, if_neg hlo, d.readAfter_of_no_register m h, Dev.pageView, hstat, h]
  rfl

theorem Dev.passed_regs (d : Dev) (m : Nat) : (d.passed m).regs = d.regs := by
  unfold Dev.passed Dev.bwAdd
  split <;> rfl

theorem Dev.passed_stallOf (d : Dev) (m n : Nat) : (d.passed m).stallOf n = d.stallOf n := by
  unfold Dev.passed Dev.bwAdd
  split <;> rfl

end Sys2Proof.Machine

namespace Sys2Proof.Proofs

open Sys2Proof.Machine

/-- Settles O12: the page answers 0 and latches nothing; the cause of the rejection is RSVD unless LOCKED comes first. -/
theorem noRegisterThere : Obligations.NoRegisterThere := by
  unfold Obligations.NoRegisterThere
  intro d q m p w v hrun hp hreg
  refine ⟨fun hperm hlock hstall => ?_, fun hbar hperm => ?_⟩
  · have hread := (d.passed m.val).pageRead_of_no_register m.val hreg
    have hx : exec (.matrixTransfer m ⟨.read, p.base + 4 * w.val, [{}], {}⟩) ⟨d, q⟩ = .next ⟨d.transfer m.val (p.base + 4 * w.val) 0 false [{}] {}, q⟩ :=
      State.live_runs _ _ hrun
    rw [d.transfer_read_page hp (by omega) (by omega) hperm hlock (by rw [hread]; exact (d.passed_stallOf _ _).trans hstall), hread] at hx
    refine ⟨_, hx, ?_, d.passed_regs m.val⟩
    rw [Dev.respOf_respond, Dev.respOf_respond]
    rfl
  · have hrej := d.rejects_of_no_register m.val p (4 * w.val) v hreg
    obtain ⟨e, hx, -, -, hcode, -⟩ := rejectedWriteIsRecorded d q m p w 15 v _ hrun hbar hperm hrej
    refine ⟨e, hx, hcode.trans ?_⟩
    have hw : 0x020 ≤ 4 * w.val ↔ 8 ≤ w.val := by omega
    simp only [hw, apply_ite Rej.code]
    rfl

end Sys2Proof.Proofs
end

section
/-! PROOF. What an accepted write leaves in its register (R5), bit by bit. -/

namespace Sys2Proof.Machine

/-! ### Bits of a register after an accepted write -/

/-- Bit `i` of a register lies in the field. -/
def Fld.holds (f : Fld) (i : Nat) : Bool := decide (f.lo ≤ i) && decide (i < f.lo + f.w)

/-- Two fields share no bit. -/
abbrev Fld.Apart (f g : Fld) : Prop := f.lo + f.w ≤ g.lo ∨ g.lo + g.w ≤ f.lo

/-- The fields of a register lie in its 32 bits and share none. -/
abbrev Laid (fs : List Fld) : Prop := (∀ f ∈ fs, f.lo + f.w ≤ 32) ∧ fs.Pairwise Fld.Apart

theorem Fld.Apart.holds_eq_false {f g : Fld} (h : f.Apart g) {i : Nat} (hf : f.holds i = true) : g.holds i = false := by
  simp only [Fld.holds, Bool.and_eq_true, decide_eq_true_eq, Bool.and_eq_false_iff, decide_eq_false_iff_not] at *
  omega

theorem Fld.Apart.symm {f g : Fld} (h : f.Apart g) : g.Apart f := Or.symm h

/-- What an accepted write makes of a bit of a field: `o` the bit before, `v` the bit written (R5). -/
def Acc.bit (a : Acc) (o v : Bool) : Bool :=
  match a with
  | .rw | .xrw => v
  | .w1c => o && !v
  | .wc => false
  | .ro => o

/-- A register word after one field of an accepted write. -/
def Fld.written (f : Fld) (v w : Word) : Word :=
  match f.acc with
  | .rw => f.put w (f.get v)
  | .xrw => f.put w (f.get v)
  | .w1c => w &&& ~~~(v &&& BitVec.ofNat 32 f.mask)
  | .wc => f.put w 0
  | .ro => w

theorem applyWord_eq (r : RegD) (old v : Word) : applyWord r old v = r.fields.foldl (fun w f => f.written v w) old := rfl

theorem Fld.put_get_getLsbD (f : Fld) (w v : Word) {i : Nat} (hi : i < 32) :
    (f.put w (f.get v)).getLsbD i = if f.holds i then v.getLsbD i else w.getLsbD i := by
  rw [Fld.put_getLsbD _ _ _ _ hi]
  simp only [Fld.holds, Bool.and_eq_true, decide_eq_true_eq]
  split
  case isTrue h => rw [Fld.get_testBit, decide_eq_true (by omega), Bool.true_and, Nat.add_sub_cancel' h.1]
  case isFalse h => rfl

/-- One field of an accepted write changes its own bits alone, as its access code says. -/
theorem Fld.written_getLsbD (f : Fld) (v w : Word) {i : Nat} (hi : i < 32) :
    (f.written v w).getLsbD i = if f.holds i then f.acc.bit (w.getLsbD i) (v.getLsbD i) else w.getLsbD i := by
  unfold Fld.written
  cases f.acc with
  | rw | xrw => exact Fld.put_get_getLsbD f w v hi
  | ro => exact (ite_self _).symm
  | wc =>
    rw [Fld.put_getLsbD _ _ _ _ hi]
    simp [Fld.holds, Acc.bit]
  | w1c =>
    have hm : (BitVec.ofNat 32 f.mask).getLsbD i = f.holds i := by
      rw [BitVec.getLsbD_ofNat, decide_eq_true hi, Bool.true_and, Fld.mask_testBit, Fld.holds]
    simp only [BitVec.getLsbD_and, BitVec.getLsbD_not, hi, decide_true, Bool.true_and, hm, Acc.bit]
    cases f.holds i <;> simp

/-- Fields that do not hold a bit leave it. -/
theorem foldl_written_other (v : Word) {i : Nat} (hi : i < 32) (fs : List Fld) (hn : ∀ f ∈ fs, f.holds i = false) (w : Word) :
    (fs.foldl (fun w f => f.written v w) w).getLsbD i = w.getLsbD i := by
  induction fs generalizing w with
  | nil => rfl
  | cons g fs ih =>
    obtain ⟨hg, hfs⟩ := List.forall_mem_cons.1 hn
    rw [List.foldl_cons, ih hfs, Fld.written_getLsbD _ _ _ hi, hg, if_neg Bool.false_ne_true]

/-- The one field that holds a bit says what becomes of it. -/
theorem foldl_written_same (v : Word) {i : Nat} (hi : i < 32) (fs : List Fld) (hl : fs.Pairwise Fld.Apart) {f : Fld} (hf : f ∈ fs)
    (h : f.holds i = true) (w : Word) :
    (fs.foldl (fun w f => f.written v w) w).getLsbD i = f.acc.bit (w.getLsbD i) (v.getLsbD i) := by
  induction fs generalizing w with
  | nil => cases hf
  | cons g fs ih =>
    obtain ⟨apart, hl⟩ := List.pairwise_cons.1 hl
    rw [List.foldl_cons]
    rcases List.mem_cons.1 hf with rfl | hf
    · rw [foldl_written_other v hi fs fun x hx => (apart x hx).holds_eq_false h, Fld.written_getLsbD _ _ _ hi, if_pos h]
    · rw [ih hl hf, Fld.written_getLsbD _ _ _ hi, (apart f hf).symm.holds_eq_false h, if_neg Bool.false_ne_true]

/-- A bit of a field after an accepted write of its register. -/
theorem get_applyWord_testBit {r : RegD} (hl : Laid r.fields) {f : Fld} (hf : f ∈ r.fields) (old v : Word) {i : Nat} (hi : i < f.w) :
    (f.get (applyWord r old v)).testBit i = f.acc.bit ((f.get old).testBit i) ((f.get v).testBit i) := by
  have h32 := hl.1 f hf
  have hh : f.holds (f.lo + i) = true := by simp [Fld.holds, hi]
  simp only [Fld.get_testBit, hi, decide_true, Bool.true_and, applyWord_eq]
  exact foldl_written_same v (by omega) r.fields hl.2 hf hh old

/-- Two field values are equal when their bits are. -/
theorem Fld.get_ext (f : Fld) (a b : Word) (h : ∀ i < f.w, (f.get a).testBit i = (f.get b).testBit i) : f.get a = f.get b := by
  refine Nat.eq_of_testBit_eq fun i => ?_
  by_cases hi : i < f.w
  · exact h i hi
  · simp [Fld.get_testBit, hi]

/-! ### The registers of the pages -/

theorem regsHeader_laid (p : Page) : ∀ r ∈ regsHeader p, Laid r.fields := of_decide_eq_true rfl

/-- The fields of every register of Table 22.1's pages lie apart. -/
theorem pageRegs_laid (p : Page) : ∀ r ∈ pageRegs p, Laid r.fields := by
  have refin : ∀ r ∈ regsREFIN, Laid r.fields := by decide
  unfold pageRegs
  cases p with
  | refin i =>
    dsimp only
    split
    · exact refin
    · exact fun r hr => refin r (List.mem_of_mem_filter hr)
  | dev | pwr | aon | host | boot | mtx | intc | intcF | pmc | qmg | sramc | tmu | tdom | fab | afab | wall | cgate | prot | fst | memc | lane | tll
  | leng =>
    dsimp only
    decide

theorem regAt_laid {p : Page} {off : Nat} {r : RegD} (h : regAt p off = some r) : Laid r.fields := by
  unfold regAt at h
  split at h
  · exact regsHeader_laid p r (List.mem_of_find?_eq_some h)
  · exact pageRegs_laid p r (List.mem_of_find?_eq_some h)

end Sys2Proof.Machine

namespace Sys2Proof.Proofs

open Sys2Proof.Machine

/-- Settles O14: the fields of a register lie apart, so each field's bits are what its access code makes of them. -/
theorem acceptedWriteSetsFields : Obligations.AcceptedWriteSetsFields := by
  unfold Obligations.AcceptedWriteSetsFields
  intro p off r f old v hr hf
  have bits := fun i hi => get_applyWord_testBit (regAt_laid hr) hf old v (i := i) hi
  refine ⟨fun ha => f.get_ext _ _ fun i hi => ?_, fun ha => f.get_ext _ _ fun i hi => ?_, fun ha => ?_, fun ha i hi => ?_⟩
  · rw [bits i hi]
    rcases ha with ha | ha <;> rw [ha, Acc.bit]
  · rw [bits i hi, ha, Acc.bit]
  · refine Nat.eq_of_testBit_eq fun i => ?_
    by_cases hi : i < f.w
    · rw [bits i hi, ha, Acc.bit, Nat.zero_testBit]
    · simp [Fld.get_testBit, hi]
  · rw [bits i hi, ha, Acc.bit]

end Sys2Proof.Proofs
end

section
/-! PROOF. Accepted writes of register pages: in order, the expert half and the BLOCK reset, registers that are stored and nothing else. -/

namespace Sys2Proof.Machine

/-! ### PAGE_CTRL (R14, R17) -/

/-- The expert half is open exactly if the key last written to it is 0x5A. -/
theorem Dev.keyed_expertOpen (d : Dev) (p : Page) (v : Word) : (d.keyed p v).expertOpen p = (Fld.PAGE_CTRL_EXPERT_KEY.get v == 0x5A) := by
  rw [Dev.expertOpen, Dev.keyed, Dev.rd_wr _ _ _ _ (by decide)]
  by_cases h : (Fld.PAGE_CTRL_EXPERT_KEY.get v == 0x5A) = true
  · rw [if_pos h, h]
    rfl
  · rw [if_neg h, Bool.eq_false_iff.2 h]
    rfl

/-- A BLOCK reset leaves RESET_BUSY 1. -/
theorem Dev.blockReset_busy (d : Dev) (p : Page) : (d.blockReset p).on p .PAGE_STAT_RESET_BUSY = true := by
  rw [Dev.blockReset, Dev.on, Dev.wrOn, Dev.rd_wr _ _ _ _ (by decide)]
  rfl

/-- A cause that the field tables give rejects a full-width write. -/
theorem Dev.mem_pageRej_of_table {d : Dev} {m off : Nat} {p : Page} {old v : Word} {x : Rej} (h : x ∈ d.pageRejTable p off old v) :
    x ∈ d.pageRej m p off 15 old v := by
  rw [Dev.pageRej_full]
  exact List.mem_append_left _ (List.mem_append_right _ h)

/-- While RESET_BUSY is 1 some cause rejects every full-width write from 0x020 up. -/
theorem Dev.rejects_of_busy (d : Dev) (m : Nat) (p : Page) (off : Nat) (v : Word) (ho : 0x020 ≤ off)
    (hb : d.on p .PAGE_STAT_RESET_BUSY = true) : ∃ r, d.rejects m p off 15 v = some r := by
  have busy : ∃ x, x ∈ (d.reached m 15).pageRejTable p off ((d.reached m 15).reg ((d.reached m 15).pageKey m p off)) v := by
    unfold Dev.pageRejTable
    split
    · exact ⟨.rsvd, List.mem_singleton_self _⟩
    · exact ⟨.state, List.mem_append_right _ (mem_rejIf.2 ⟨by simp [ho, hb], rfl⟩)⟩
  obtain ⟨x, hx⟩ := busy
  exact Option.isSome_iff_exists.1 (firstRej_isSome (Dev.mem_pageRej_of_table hx))

/-! ### What an accepted write carries and stores -/

/-- A command that needs running core domains, by what becomes of the block. -/
theorem State.live_eq {d e : Dev} {f : Dev → Dev} (q : List Instr) (h : d.live f = e) : State.live ⟨d, q⟩ f = .next ⟨e, q⟩ := by
  rw [← h]
  rfl

/-- The bits that a write of a register may carry as 1. -/
theorem RegD.bits_getLsbD (r : RegD) (h : r.off ≠ 0x018) {i : Nat} (hi : i < 32) : r.bits.getLsbD i = r.fields.any (fun f => f.holds i) := by
  have key : ∀ (fs : List Fld) (a : Word),
      (fs.foldl (fun (a : Word) f => a ||| BitVec.ofNat 32 f.mask) a).getLsbD i = (a.getLsbD i || fs.any (fun f => f.holds i)) := by
    intro fs
    induction fs with
    | nil => simp
    | cons f fs ih =>
      intro a
      rw [List.foldl_cons, ih, BitVec.getLsbD_or, BitVec.getLsbD_ofNat, decide_eq_true hi, Bool.true_and, Fld.mask_testBit, List.any_cons, Fld.holds,
        Bool.or_assoc]
  rw [RegD.bits, key, if_neg (by simpa using h)]
  simp

/-- A register of read-write fields holds what an accepted write carries. -/
theorem applyWord_and_bits {r : RegD} (hl : Laid r.fields) (hrw : ∀ f ∈ r.fields, f.acc = .rw) (h : r.off ≠ 0x018) (old : Word) {v : Word}
    (hv : v &&& ~~~r.bits = 0) : applyWord r old v &&& r.bits = v := by
  refine BitVec.eq_of_getLsbD_eq fun i hi => ?_
  rw [BitVec.getLsbD_and, r.bits_getLsbD h hi]
  by_cases hf : ∃ f ∈ r.fields, f.holds i = true
  · obtain ⟨f, hm, hh⟩ := hf
    rw [applyWord_eq, foldl_written_same v hi r.fields hl.2 hm hh, hrw f hm, Acc.bit, List.any_eq_true.2 ⟨f, hm, hh⟩, Bool.and_true]
  · have none : r.fields.any (fun f => f.holds i) = false := by simpa using hf
    have hb := congrArg (fun w => w.getLsbD i) hv
    simp only [BitVec.getLsbD_and, BitVec.getLsbD_not, r.bits_getLsbD h hi, none, hi, decide_true, Bool.not_false, Bool.and_true] at hb
    rw [none, Bool.and_false, hb]
    exact BitVec.getLsbD_zero.symm

/-- An accepted write carries no reserved bit (R19). -/
theorem Dev.admits_bits {d : Dev} {m off : Nat} {p : Page} {v : Word} (h : d.admits m p off v = true) {r : RegD} (hr : regAt p off = some r) :
    v &&& ~~~r.bits = 0 := by
  simp only [Dev.admits, Bool.and_eq_true, Option.isNone_iff_eq_none] at h
  by_contra hv
  have reserved : .rsvd ∈ (d.passed m).pageRejTable p off (d.held m p off) v := by
    simp only [Dev.pageRejTable, hr, List.mem_append, mem_rejIf]
    exact .inl (.inl (.inl (.inr ⟨by simpa using hv, trivial⟩)))
  have hs := firstRej_isSome (Dev.mem_pageRej_of_table (m := m) reserved)
  rw [h.2] at hs
  cases hs

theorem Dev.stored_of_regAt (d : Dev) (m : Nat) {p : Page} {off : Nat} (v : Word) {r : RegD} (hr : regAt p off = some r) :
    d.stored m p off v = (d.passed m).setReg ((d.passed m).pageKey m p off) (applyWord r (d.held m p off) v) := by
  rw [Dev.stored, hr]

theorem Dev.passed_intc (d : Dev) (m : Nat) : (d.passed m).intc = d.intc := by
  unfold Dev.passed Dev.bwAdd
  split <;> rfl

/-- A register of read-write fields whose page only stores it: an accepted write is answered OKAY, leaves the word written, and leaves every
other register and all but the access itself as they were (R5, R19). -/
theorem Dev.mWrite_stores {d : Dev} {m off : Nat} {p : Page} {v : Word} {r : RegD} (h : d.admits m p off v = true) (ho : 0x020 ≤ off)
    (hr : regAt p off = some r) (hrw : ∀ f ∈ r.fields, f.acc = .rw) (hoff : r.off ≠ 0x018) (hkey : ∀ e : Dev, e.pageKey m p off = regKey p 0 off)
    (hafter : (d.stored m p off v).pageAfter m p off ((d.passed m).pageFmt p) (d.held m p off) v = d.stored m p off v) :
    let e := d.live fun d => d.mWrite m p off 15 v
    e.respOf m = ⟨.okay, []⟩ ∧ e.reg (d.pageKey m p off) &&& (regAt p off).elim 0 RegD.bits = v ∧ d.Keeps [d.pageKey m p off] e ∧
      e.intc = d.intc := by
  have hs := d.stored_of_regAt m v hr
  rw [hkey] at hs
  rw [Dev.mWrite_admits h ho, hafter, hs, hkey]
  refine ⟨Dev.respOf_respond _ _ _, ?_, ?_, d.passed_intc m⟩
  · rw [hr, Option.elim_some]
    refine (congrArg (· &&& r.bits) (Dev.setReg_same _ _ _)).trans ?_
    exact applyWord_and_bits (regAt_laid hr) hrw hoff _ (Dev.admits_bits h hr)
  · exact ((d.passed_keeps _ m).trans (Dev.setReg_keeps _ _ (List.mem_singleton_self _))).trans (Dev.respond_keeps _ _ _ _)

end Sys2Proof.Machine

namespace Sys2Proof.Proofs

open Sys2Proof.Machine

/-- Settles O1: a step takes the front of the queue. -/
theorem stepRunsFront : Obligations.StepRunsFront := by
  unfold Obligations.StepRunsFront
  exact fun _ _ _ => rfl

/-- Settles O2: each step is the page write at the front, on the block that the step before it left. -/
theorem pageWritesInOrder : Obligations.PageWritesInOrder := by
  unfold Obligations.PageWritesInOrder
  intro d q p m m' w w' be be' v v' hrun
  refine ⟨d.mWrite m.val p (4 * w.val) be v, (stepRunsFront _ d _).trans (State.live_runs _ _ hrun), rfl, rfl, fun hbar hperm => ?_⟩
  rw [Dev.mWrite, if_neg (by simp [hbar, hperm])]
  rfl

/-- Settles O13: the key written stands in PAGE_CTRL, a rejection leaves PAGE_CTRL, and a BLOCK reset ends by setting RESET_BUSY. -/
theorem expertHalfAndBlockReset : Obligations.ExpertHalfAndBlockReset := by
  unfold Obligations.ExpertHalfAndBlockReset
  intro d q m p w v
  refine ⟨fun hadm hsoft => ?_, fun hrun hbar hperm hrej => ?_, fun hadm => ?_, fun hw hbusy => ?_⟩
  · refine ⟨_, State.live_eq q (Dev.mWrite_ctrl hadm hsoft), ?_⟩
    exact Dev.keyed_expertOpen _ p v
  · obtain ⟨r, hr⟩ := Option.isSome_iff_exists.1 hrej
    obtain ⟨e, hx, -, -, -, -, -, -, hkeep⟩ := rejectedWriteIsRecorded d q m p 2 15 v r hrun hbar hperm hr
    refine ⟨e, hx, ?_⟩
    rw [Dev.expertOpen, Dev.expertOpen, hkeep.rd p .PAGE_CTRL_EXPERT_KEY (not_mem_rejectKeys p (by decide))]
  · refine ⟨_, State.live_eq q (Dev.mWrite_soft hadm (soft_or v)), ?_⟩
    exact Dev.blockReset_busy _ p
  · obtain ⟨r, hr⟩ := d.rejects_of_busy m.val p (4 * w.val) v (by omega) hbusy
    refine ⟨r, hr, fun hlock => ?_⟩
    rw [d.rejects_of_lock m.val p (4 * w.val) 15 v (by omega) hlock] at hr
    exact (Option.some.inj hr).symm

/-- Settles O31: all six registers have read-write fields alone, and nothing follows their writes but, on INTC.CFG, the wakes that waiting
sources cause. -/
theorem storedRegisterFrame : Obligations.StoredRegisterFrame := by
  unfold Obligations.StoredRegisterFrame
  intro d q m v c p off hc hadm hsrc
  simp only [List.mem_cons, List.not_mem_nil, or_false, Prod.mk.injEq] at hc
  rcases hc with ⟨rfl, rfl, rfl⟩ | ⟨rfl, rfl, rfl⟩ | ⟨rfl, rfl, rfl⟩ | ⟨rfl, rfl, rfl⟩ | ⟨rfl, rfl, rfl⟩ | ⟨rfl, rfl, rfl⟩
  · exact ⟨_, rfl, Dev.mWrite_stores hadm (by decide) rfl (by decide) (by decide) (fun _ => rfl) rfl⟩
  · exact ⟨_, rfl, Dev.mWrite_stores hadm (by decide) rfl (by decide) (by decide) (fun _ => rfl) rfl⟩
  · exact ⟨_, rfl, Dev.mWrite_stores hadm (by decide) rfl (by decide) (by decide) (fun _ => rfl) rfl⟩
  · have idle : (d.stored m.val .intc 0x020 v).intc.srcs = [] := (congrArg IntcS.srcs (d.passed_intc m.val)).trans (hsrc rfl)
    have wakes : (d.stored m.val .intc 0x020 v).wakeSettle = d.stored m.val .intc 0x020 v := by
      rw [Dev.wakeSettle, idle]
      rfl
    exact ⟨_, rfl, Dev.mWrite_stores hadm (by decide) rfl (by decide) (by decide) (fun _ => rfl) wakes⟩
  · exact ⟨_, rfl, Dev.mWrite_stores hadm (by decide) rfl (by decide) (by decide) (fun _ => rfl) rfl⟩
  · exact ⟨_, rfl, Dev.mWrite_stores hadm (by decide) rfl (by decide) (by decide) (fun _ => rfl) rfl⟩

end Sys2Proof.Proofs
end

section
/-! PROOF. The commands of register pages and DEV: the block after each, where its conditions hold. -/

namespace Sys2Proof.Machine

theorem Dev.live_runs {d : Dev} {f : Dev → Dev} (h : d.stopped = false) : d.live f = f d := by
  rw [Dev.live, h]
  rfl

/-- A BLOCK reset that is under way ends: RESET_BUSY returns to 0, and the block starts (R17). -/
theorem Dev.blockDone_busy {d : Dev} {p : Page} (h : d.on p .PAGE_STAT_RESET_BUSY = true) :
    d.blockDone p = (d.wrOn p .PAGE_STAT_RESET_BUSY false).blockStart p := by
  rw [Dev.blockDone, h]
  rfl

/-- Only INTC, PWR, TMU and FAB follow their conditions anew after a BLOCK reset. -/
theorem Dev.blockStart_other (d : Dev) {p : Page} (hi : p ≠ .intc) (hw : p ≠ .pwr) (ht : p ≠ .tmu) (hf : p ≠ .fab) : d.blockStart p = d := by
  unfold Dev.blockStart
  split
  · exact absurd rfl hw
  · exact absurd rfl ht
  · exact absurd rfl hf
  · exact absurd rfl hi
  · rfl

/-- MIN_CLR sets MIN of its margin to 0x1FF (R62). -/
theorem Dev.devAfter_minClr (d : Dev) (n : Fin 6) :
    d.devAfter (0x040 + 4 * n.val) 0x80000000 = d.wr .dev (Fld.nth .DEV_MARGIN_MIN n.val) 0x1FF := by
  have hn := n.isLt
  have here : (decide (0x040 ≤ 0x040 + 4 * n.val) && decide (0x040 + 4 * n.val < 0x058)) = true := by simp; omega
  rw [Dev.devAfter, if_pos here, if_pos (by decide), Nat.add_sub_cancel_left, Nat.mul_div_cancel_left _ (by decide)]

/-- A line engine that is RUNNING and stands on no WAIT is halted by its watchdog. -/
theorem Dev.watchable_of_running {d : Dev} {n : Nat} (hs : d.lengState n = 1) (hw : iOp (d.fetch n) ≠ 0x19) : d.watchable n = true := by
  simp [Dev.watchable, hs, hw]

theorem Dev.passed_xo (d : Dev) (m : Nat) : (d.passed m).xo = d.xo := by
  unfold Dev.passed Dev.bwAdd
  split <;> rfl

/-- A read of XO_TIME_LO returns the low word of the tick count and latches the rest (R70). -/
theorem Dev.mRead_xoTimeLo {d : Dev} {m : Nat} (h : d.stopped = false) (hperm : d.permits m 6 false = true) :
    d.live (fun d => d.mRead m .dev 0x070) =
      ((d.passed m).wr .dev .DEV_XO_TIME_HI_HI (d.xo.toNat / 2 ^ 32)).respond m ⟨.okay, [BitVec.ofNat 32 d.xo.toNat]⟩ := by
  rw [Dev.mRead_okay h hperm rfl, ← d.passed_xo m]
  rfl

end Sys2Proof.Machine

namespace Sys2Proof.Proofs

open Sys2Proof.Machine

/-- Settles O33: each clause is the law of the operation that the command calls, under the clause's conditions. -/
theorem pageCommandsComplete : Obligations.PageCommandsComplete := by
  unfold Obligations.PageCommandsComplete
  intro d q
  refine ⟨fun m p w v hw h => ?registerWrite, fun m p v hs h => ?expertKeyWrite, fun p h ho => ?expertTimeout, fun m p rest h => ?softReset,
    fun p h hi hp ht hf hb => ?blockDone, fun h hb => ?blockDoneIntc, fun h hb => ?blockDonePwr, fun h hb => ?blockDoneTmu,
    fun h hb => ?blockDoneFab, fun m v h => ?gpioDir, fun m v h => ?gpioOut, fun n0 n1 n2 n3 n4 n5 f h hf hlow => ?marginWindow,
    fun m n h => ?minClr, fun w h => ?wall, fun h => ?ingress, fun h => ?egress, fun n h hs hw => ?lineEngine,
    fun i isWrite addr h hs => ?management, fun m h => ?wdogClr, fun m h hp => ?xoTime⟩
  case registerWrite => exact State.live_eq q (Dev.mWrite_admits h (by omega))
  case expertKeyWrite => exact State.live_eq q (Dev.mWrite_ctrl h hs)
  case expertTimeout => exact State.live_eq q ((Dev.live_runs h).trans (if_pos ho))
  case softReset => exact State.live_eq q (Dev.mWrite_soft h (soft_or rest))
  case blockDone => exact State.live_eq q ((Dev.live_runs h).trans ((Dev.blockDone_busy hb).trans (Dev.blockStart_other _ hi hp ht hf)))
  case blockDoneIntc => exact State.live_eq q ((Dev.live_runs h).trans (Dev.blockDone_busy hb))
  case blockDonePwr => exact State.live_eq q ((Dev.live_runs h).trans (Dev.blockDone_busy hb))
  case blockDoneTmu => exact State.live_eq q ((Dev.live_runs h).trans (Dev.blockDone_busy hb))
  case blockDoneFab => exact State.live_eq q ((Dev.live_runs h).trans (Dev.blockDone_busy hb))
  case gpioDir => exact State.live_eq q (Dev.mWrite_admits h (by decide))
  case gpioOut => exact State.live_eq q (Dev.mWrite_admits h (by decide))
  case marginWindow =>
    subst hf
    exact State.live_eq q ((Dev.live_runs h).trans (if_pos hlow))
  case minClr =>
    refine State.live_eq q ((Dev.mWrite_admits h (by omega)).trans ?_)
    exact congrArg (fun e : Dev => e.okay m.val) (Dev.devAfter_minClr _ n)
  case wall => exact State.live_eq q (Dev.live_runs h)
  case ingress => exact State.live_eq q (Dev.live_runs h)
  case egress => exact State.live_eq q (Dev.live_runs h)
  case lineEngine => exact State.live_eq q ((Dev.live_runs h).trans (if_pos (Dev.watchable_of_running hs hw)))
  case management => exact State.live_eq q ((Dev.live_runs h).trans (if_neg (by simp [hs])))
  case wdogClr => exact State.live_eq q (Dev.mWrite_admits h (by decide))
  case xoTime => exact State.live_eq q (Dev.mRead_xoTimeLo h hp)

end Sys2Proof.Proofs
end

section
/-! PROOF. What reset leaves (R5, R336, R367). -/

namespace Sys2Proof.Machine

theorem base_lt {p : Page} (hp : p.exists = true) : p.base + 0x1000 ≤ 0x10000000 := by
  cases p with
  | refin | tdom | wall | memc | lane | tll | leng =>
    have := of_decide_eq_true hp
    simp only [Page.base]
    omega
  | dev | pwr | aon | host | boot | mtx | intc | intcF | pmc | qmg | sramc | tmu | fab | afab | cgate | prot | fst => decide

/-- After reset a register of a page reads the reset value of its offset. -/
theorem resetWord_page {p : Page} {off : Nat} (hp : p.exists = true) (ho : off < 0x1000) :
    resetWord (regKey p 0 off) = BitVec.ofNat 32 (resetAt p 0 off) := by
  have hb := base_lt hp
  have hm := base_mod p
  have key : regKey p 0 off = p.base + off := by simp [regKey]
  have h1 : (p.base + off) % 0x10000000 = p.base + off := by omega
  have h2 : (p.base + off) / 0x10000000 = 0 := by omega
  have h3 : (p.base + off) % 0x1000 = off := by omega
  rw [resetWord, key, h1, pageAt_add hp ho, h2, h3]

theorem resetAt_evt (p : Page) : resetAt p 0 0x010 = 0 := by cases p <;> rfl
theorem resetAt_evtEn (p : Page) : resetAt p 0 0x014 = 0 := by cases p <;> rfl
theorem resetAt_stat (p : Page) : resetAt p 0 0x00C = 0 := by cases p <;> rfl
theorem resetAt_ctrl_le (p : Page) : resetAt p 0 0x008 = 0 ∨ resetAt p 0 0x008 = 1 := by
  cases p with
  | refin | memc => exact .inl rfl
  | dev | pwr | aon | host | boot | mtx | intc | intcF | pmc | qmg | sramc | tmu | tdom | fab | afab | wall | cgate | prot | fst | lane | tll | leng =>
    exact .inr rfl

theorem leng_exists (n : Fin 144) : (Page.leng n.val).exists = true := decide_eq_true n.isLt
theorem lane_exists (n : Fin 144) : (Page.lane n.val).exists = true := decide_eq_true n.isLt

theorem resetAt_lengStat (n : Nat) : resetAt (.leng n) 0 Fld.LENG_STAT_STATE.off = 0 := rfl
theorem resetAt_laneRxcfg (n : Nat) : resetAt (.lane n) 0 Fld.LANE_RXCFG_MODE.off = 0 := rfl
theorem resetAt_laneTxcfg (n : Nat) : resetAt (.lane n) 0 Fld.LANE_TXCFG_MODE.off = 0 := rfl

/-- The words after reset: no table holds anything. -/
theorem reset_reg (k : Nat) : State.reset.dev.reg k = resetWord k := rfl

theorem reset_rd {p : Page} (hp : p.exists = true) (f : Fld) (ho : f.off < 0x1000) :
    State.reset.dev.rd p f = f.get (BitVec.ofNat 32 (resetAt p 0 f.off)) := by
  rw [Dev.rd, reset_reg, resetWord_page hp ho]

end Sys2Proof.Machine

namespace Sys2Proof.Proofs

open Sys2Proof.Machine

/-- Settles O32: every table is empty after reset, and every register reads its reset value. -/
theorem resetLeavesTheBlockIdle : Obligations.ResetLeavesTheBlockIdle := by
  unfold Obligations.ResetLeavesTheBlockIdle
  intro d
  refine ⟨by decide, rfl, by decide, fun p hp => ⟨?_, ?_, ?_, ?_, ?_⟩, fun n => ⟨?_, ?_, ?_⟩, by decide, fun _ => ⟨rfl, rfl⟩, fun _ => rfl, rfl, fun _ => rfl,
    fun _ => rfl⟩
  · exact (resetWord_page hp (by decide)).trans (congrArg (BitVec.ofNat 32) (resetAt_evt p))
  · exact (resetWord_page hp (by decide)).trans (congrArg (BitVec.ofNat 32) (resetAt_evtEn p))
  · rw [Dev.expertOpen, reset_rd hp _ (by decide)]
    change (Fld.PAGE_CTRL_EXPERT_KEY.get (BitVec.ofNat 32 (resetAt p 0 0x008)) == 0x5A) = false
    rcases resetAt_ctrl_le p with h | h <;> rw [h] <;> decide
  · rw [Dev.on, reset_rd hp _ (by decide)]
    change (Fld.PAGE_CTRL_LOCK.get (BitVec.ofNat 32 (resetAt p 0 0x008)) == 1) = false
    rcases resetAt_ctrl_le p with h | h <;> rw [h] <;> decide
  · rw [Dev.on, reset_rd hp _ (by decide)]
    change (Fld.PAGE_STAT_RESET_BUSY.get (BitVec.ofNat 32 (resetAt p 0 0x00C)) == 1) = false
    rw [resetAt_stat]
    decide
  · rw [Dev.lengState, Dev.lf, reset_rd (leng_exists n) .LENG_STAT_STATE (by decide), resetAt_lengStat]
    decide
  · rw [reset_rd (lane_exists n) .LANE_RXCFG_MODE (by decide), resetAt_laneRxcfg]
    decide
  · rw [reset_rd (lane_exists n) .LANE_TXCFG_MODE (by decide), resetAt_laneTxcfg]
    decide

end Sys2Proof.Proofs
end

section
/-! PROOF. Device and commanded resets: what each command of R46 to R48 and R408 to R420 leaves of the block, where its conditions hold.
That a commanded reset acts wholly at its write (log 15), and that a wake ends at XO_CHECK_DONE (log 49), the model's assumption log adds. -/

namespace Sys2Proof.Machine

/-- A command that acts at any time answers the next state with the block that its operation leaves. -/
theorem State.next_eq {d e : Dev} (q : List Instr) (h : d = e) :
    (Host.Outcome.next ⟨d, q⟩ : Host.Outcome State Fault Refusal) = .next ⟨e, q⟩ := by
  rw [h]

/-! ### PIN reset, the XO check and the end of the sequence (R46 to R48, R411) -/

/-- While no device reset runs, a cause starts a PIN reset with no cause seen before it. -/
theorem Dev.pinReset_begins {d : Dev} (h : d.pwr.run = .none) (c : Nat) (holds : Bool) :
    d.pinReset c holds =
      (({ d with pwr := { d.pwr with seen := [], active := [] } } : Dev).pinClear.deferSettle).causeAdd c holds := by
  rw [Dev.pinReset, h]
  rfl

/-- During a device reset a further cause joins it and clears nothing. -/
theorem Dev.pinReset_joins {d : Dev} (h : d.pwr.run ≠ .none) (c : Nat) (holds : Bool) : d.pinReset c holds = d.causeAdd c holds := by
  rw [Dev.pinReset, if_neg (by simpa using h)]

/-- In a device reset that no cause holds any more, the XO check marks the oscillator good. -/
theorem Dev.xoCheck_reset {d : Dev} (h : d.pwr.run ≠ .none) (ha : d.pwr.active = []) :
    d.xoCheck = { d with pwr := { d.pwr with xoOk := true } } := by
  rw [Dev.xoCheck, if_pos (by simpa using h), if_pos (by simp [ha])]

/-- In a wake from DORMANT the XO check ends the wake. -/
theorem Dev.xoCheck_wake {d : Dev} (h : d.pwr.run = .none) (hw : d.pwr.waking = true) : d.xoCheck = d.wakeDone := by
  rw [Dev.xoCheck, if_neg (by simp [h]), if_pos hw]

/-- A device reset that no cause holds and whose oscillator is good ends: BOOTMODE is sampled, the cause recorded, the boot loader due. -/
theorem Dev.resetEnd_ends {d : Dev} (h : d.pwr.run ≠ .none) (ha : d.pwr.active = []) (hx : d.pwr.xoOk = true) (b : Nat) :
    d.resetEnd b =
      let e := ((d.wr .dev .DEV_STRAP_BOOTMODE b).wr .aon .AON_RESET_CAUSE_CAUSE (causeOf d.pwr.seen)).wrOn .aon .AON_RESET_CAUSE_WOKE false
      ({ e with pwr := { e.pwr with run := .none, seen := [] }, boot := { e.boot with due := true } } : Dev).supSettle.intcRelevel := by
  have seen : (d.wr .dev .DEV_STRAP_BOOTMODE b).pwr = d.pwr := rfl
  rw [Dev.resetEnd, if_neg (by simp [h, ha, hx])]
  dsimp only
  rw [seen]

/-! ### PWR.RESET and its completion (R408 to R410) -/

theorem Dev.pageAfter_pwrReset (d : Dev) (m cur : Nat) (old v : Word) :
    d.pageAfter m .pwr 0x024 cur old v = d.pwrResetCmd (Fld.PWR_RESET_CMD.get v) := by
  rw [Dev.pageAfter, Dev.pwrAfter, if_neg (by decide), if_pos (by decide)]

/-- An accepted write of PWR.RESET: the reset that its CMD names begins, and the write is answered OKAY. -/
theorem Dev.mWrite_pwrReset {d e : Dev} {m : Nat} {v : Word} (h : d.admits m .pwr 0x024 v = true)
    (he : (d.stored m .pwr 0x024 v).pwrResetCmd (Fld.PWR_RESET_CMD.get v) = e) :
    d.live (fun d => d.mWrite m .pwr 0x024 15 v) = e.okay m := by
  rw [Dev.mWrite_admits h (by decide), Dev.pageAfter_pwrReset, he]

theorem Dev.pwrResetCmd_mgmt (d : Dev) : d.pwrResetCmd 1 = ((d.wr .pwr .PWR_RST_STAT_LAST 1).wrOn .pwr .PWR_RST_STAT_BUSY true).mgmtReset := by
  simp [Dev.pwrResetCmd, Dev.commandedReset]

theorem Dev.pwrResetCmd_data (d : Dev) : d.pwrResetCmd 2 = ((d.wr .pwr .PWR_RST_STAT_LAST 2).wrOn .pwr .PWR_RST_STAT_BUSY true).dataReset := by
  simp [Dev.pwrResetCmd, Dev.commandedReset]

theorem Dev.pwrResetCmd_timing (d : Dev) :
    d.pwrResetCmd 3 = ((d.wr .pwr .PWR_RST_STAT_LAST 3).wrOn .pwr .PWR_RST_STAT_BUSY true).timingReset := by
  simp [Dev.pwrResetCmd, Dev.commandedReset]

theorem Dev.pwrResetCmd_full (d : Dev) : d.pwrResetCmd 4 = d.pinReset 4 false := by simp [Dev.pwrResetCmd]

/-- A commanded reset that runs ends: BUSY clears, lanes restart after DATA, interrupt levels rise again after MGMT, cores follow. -/
theorem Dev.resetComplete_busy {d : Dev} (h : d.on .pwr .PWR_RST_STAT_BUSY = true) :
    d.resetComplete =
      let e := d.wrOn .pwr .PWR_RST_STAT_BUSY false
      let f := if d.resetRuns 2 then e.lanesRestart else e
      (if d.resetRuns 1 then f.intcRelevel else f).coresSettle := by
  rw [Dev.resetComplete, h]
  rfl

/-- While RST_STAT.BUSY is 1, the commanded reset that runs is the one LAST names. -/
theorem Dev.resetRuns_busy {d : Dev} (h : d.on .pwr .PWR_RST_STAT_BUSY = true) (c : Nat) :
    d.resetRuns c = decide (d.rd .pwr .PWR_RST_STAT_LAST = c) := by
  rw [Dev.resetRuns, h, Bool.true_and]
  rfl

/-! ### CORE_CTL (R412) -/

/-- An accepted write of CORE_CTL, its command field taken as the list of the cores it names. -/
theorem Dev.coreCtl_named (d : Dev) (v : Word) :
    d.coreCtl v =
      (([0, 1, 2, 3].filter fun (k : Nat) => (Fld.PWR_CORE_CTL_RESET.get v).testBit k).foldl
        (fun (e : Dev) (k : Nat) => (e.coreReset k).coreSettle k) d.coresSettle).wakeSettle := by
  rw [List.foldl_filter]
  rfl

/-- An accepted write of CORE_CTL that names no core in RESET. -/
theorem Dev.coreCtl_none (d : Dev) {v : Word} (h : Fld.PWR_CORE_CTL_RESET.get v = 0) : d.coreCtl v = d.coresSettle.wakeSettle := by
  rw [Dev.coreCtl_named, h]
  rfl

/-- An accepted write of CORE_CTL: the cores follow, and the write is answered OKAY. -/
theorem Dev.mWrite_coreCtl {d e : Dev} {m : Nat} {v : Word} (h : d.admits m .pwr 0x02C v = true)
    (he : (d.stored m .pwr 0x02C v).coreCtl v = e) : d.live (fun d => d.mWrite m .pwr 0x02C 15 v) = e.okay m := by
  rw [← he]
  exact Dev.mWrite_admits h (by decide)

end Sys2Proof.Machine

namespace Sys2Proof.Proofs

open Sys2Proof.Machine

/-- Settles O34: each clause is the law of the operation that the command calls, under the clause's conditions. -/
theorem resetCommandsComplete : Obligations.ResetCommandsComplete := by
  unfold Obligations.ResetCommandsComplete
  intro d q
  refine ⟨fun h => ?pinBegins, fun h => ?supplyBegins, fun h => ?thermalBegins, fun h => ?softBegins, fun h => ?pinJoins, ?powerOn,
    fun h ha => ?xoReset, fun h hw => ?xoWake, fun b h ha hx => ?sequenceEnd, ?resetNRise, fun m h => ?mgmt, fun m h => ?data,
    fun m h => ?timing, fun m h => ?full, fun hs hb hl => ?mgmtDone, fun hs hb hl => ?dataDone, fun hs hb h1 h2 => ?timingDone,
    fun m v h hv => ?coreRun, fun m v h hv => ?coreSleep, fun m c rest h => ?coreReset⟩
  case pinBegins => exact State.next_eq q (Dev.pinReset_begins h 1 true)
  case supplyBegins => exact State.next_eq q (Dev.pinReset_begins h 2 _)
  case thermalBegins => exact State.next_eq q (Dev.pinReset_begins h 3 true)
  case softBegins => exact State.next_eq q (Dev.pinReset_begins h 4 false)
  case pinJoins => exact State.next_eq q (Dev.pinReset_joins h 1 true)
  case powerOn => rfl
  case xoReset => exact State.next_eq q (Dev.xoCheck_reset h ha)
  case xoWake => exact State.next_eq q (Dev.xoCheck_wake h hw)
  case sequenceEnd => exact State.next_eq q (Dev.resetEnd_ends h ha hx b.val)
  case resetNRise => rfl
  case mgmt => exact State.live_eq q (Dev.mWrite_pwrReset h (Dev.pwrResetCmd_mgmt _))
  case data => exact State.live_eq q (Dev.mWrite_pwrReset h (Dev.pwrResetCmd_data _))
  case timing => exact State.live_eq q (Dev.mWrite_pwrReset h (Dev.pwrResetCmd_timing _))
  case full => exact State.live_eq q (Dev.mWrite_pwrReset h (Dev.pwrResetCmd_full _))
  case mgmtDone =>
    refine State.live_eq q ((Dev.live_runs hs).trans ?_)
    simp [Dev.resetComplete_busy hb, Dev.resetRuns_busy hb, hl]
  case dataDone =>
    refine State.live_eq q ((Dev.live_runs hs).trans ?_)
    simp [Dev.resetComplete_busy hb, Dev.resetRuns_busy hb, hl]
  case timingDone =>
    refine State.live_eq q ((Dev.live_runs hs).trans ?_)
    simp [Dev.resetComplete_busy hb, Dev.resetRuns_busy hb, h1, h2]
  case coreRun => exact State.live_eq q (Dev.mWrite_coreCtl h (Dev.coreCtl_none _ hv))
  case coreSleep => exact State.live_eq q (Dev.mWrite_coreCtl h (Dev.coreCtl_none _ hv))
  case coreReset => exact State.live_eq q (Dev.mWrite_coreCtl h (Dev.coreCtl_named _ _))

end Sys2Proof.Proofs
end

section
/-! PROOF. The GPIO balls (R54): what GPIO_IN shows, and what an accepted write of GPIO_OUT makes it show. -/

namespace Sys2Proof.Machine

/-- An access of a page leaves the levels that drive the GPIO balls from outside. -/
theorem Dev.passed_gpioPins (d : Dev) (m : Nat) : (d.passed m).gpioPins = d.gpioPins := by
  unfold Dev.passed Dev.bwAdd
  split <;> rfl

/-- A 16-bit field from bit 0, as its own word. -/
theorem Fld.get_low_getLsbD {f : Fld} (hlo : f.lo = 0) (hw : f.w = 16) (w : Word) {i : Nat} (hi : i < 16) :
    (BitVec.ofNat 16 (f.get w)).getLsbD i = w.getLsbD i := by
  rw [BitVec.getLsbD_ofNat, Fld.get_testBit, hlo, hw, Nat.zero_add]
  simp [hi]

/-- A bit of GPIO_IN: of GPIO_OUT where GPIO_DIR is 1, of the level outside where it is 0. -/
theorem Dev.pageView_gpioIn (d : Dev) (m : Nat) {i : Nat} (hi : i < 16) :
    (d.pageView m .dev 0x038).getLsbD i =
      if (d.reg (regKey .dev 0 0x030)).getLsbD i then (d.reg (regKey .dev 0 0x034)).getLsbD i else d.gpioPins.getLsbD i := by
  have hdir := Fld.get_low_getLsbD (f := .DEV_GPIO_DIR_DIR) rfl rfl (d.reg (regKey .dev 0 0x030)) hi
  have hout := Fld.get_low_getLsbD (f := .DEV_GPIO_OUT_OUT) rfl rfl (d.reg (regKey .dev 0 0x034)) hi
  have view : d.pageView m .dev 0x038 =
      ((d.gpioPins &&& ~~~BitVec.ofNat 16 (d.rd .dev .DEV_GPIO_DIR_DIR)) |||
        (BitVec.ofNat 16 (d.rd .dev .DEV_GPIO_OUT_OUT) &&& BitVec.ofNat 16 (d.rd .dev .DEV_GPIO_DIR_DIR))).zeroExtend 32 := rfl
  rw [← hdir, ← hout, view]
  change _ = if (BitVec.ofNat 16 (d.rd .dev .DEV_GPIO_DIR_DIR)).getLsbD i then
    (BitVec.ofNat 16 (d.rd .dev .DEV_GPIO_OUT_OUT)).getLsbD i else _
  generalize BitVec.ofNat 16 (d.rd .dev .DEV_GPIO_DIR_DIR) = dir
  simp only [BitVec.truncate_eq_setWidth, BitVec.getLsbD_setWidth, BitVec.getLsbD_or, BitVec.getLsbD_and, BitVec.getLsbD_not, hi,
    show i < 32 by omega, decide_true, Bool.true_and]
  cases dir.getLsbD i <;> simp

end Sys2Proof.Machine

namespace Sys2Proof.Proofs

open Sys2Proof.Machine

/-- Settles O27: nothing follows the write but its storing, and GPIO_IN is a function of the two registers and the outside levels. -/
theorem gpioShowsWhatItDrives : Obligations.GpioShowsWhatItDrives := by
  unfold Obligations.GpioShowsWhatItDrives
  intro d q m v hadm
  have hs : (d.stored m.val .dev 0x034 v).reg (regKey .dev 0 0x034) = applyWord ⟨0x034, 0, 1, [.DEV_GPIO_OUT_OUT]⟩ (d.held m.val .dev 0x034) v :=
    Dev.setReg_same _ _ _
  have hget : Fld.DEV_GPIO_OUT_OUT.get ((d.stored m.val .dev 0x034 v).reg (regKey .dev 0 0x034)) = Fld.DEV_GPIO_OUT_OUT.get v := by
    rw [hs]
    exact (acceptedWriteSetsFields .dev 0x034 _ _ _ v rfl (List.mem_singleton_self _)).1 (.inl rfl)
  refine ⟨(d.stored m.val .dev 0x034 v).okay m.val, State.live_eq q (Dev.mWrite_admits hadm (by decide)), hget, fun i hi => ?_⟩
  have hbit : ((d.stored m.val .dev 0x034 v).reg (regKey .dev 0 0x034)).getLsbD i = v.getLsbD i := by
    rw [← Fld.get_low_getLsbD (f := .DEV_GPIO_OUT_OUT) rfl rfl _ hi, hget, Fld.get_low_getLsbD rfl rfl v hi]
  have hpins : ((d.stored m.val .dev 0x034 v).okay m.val).gpioPins = d.gpioPins := d.passed_gpioPins m.val
  rw [Dev.pageView_gpioIn _ _ hi, hpins, ← hbit]
  rfl

end Sys2Proof.Proofs
end

section
/-! PROOF. The XO tick count (R70): the idle step, the two halves of XO_TIME, and TIME of a line engine. -/

namespace Sys2Proof.Machine

/-! ### What a frame says of the state that decides whether a command runs and a transfer passes -/

theorem Dev.Keeps.xo {ks : List Nat} {d e : Dev} (h : d.Keeps ks e) : e.xo = d.xo := (congrArg Dev.xo h.rest :)

theorem Dev.Keeps.stallOf {ks : List Nat} {d e : Dev} (h : d.Keeps ks e) (m : Nat) : e.stallOf m = d.stallOf m := by
  have stalls : e.stalls = d.stalls := (congrArg Dev.stalls h.rest :)
  rw [Dev.stallOf, stalls]
  rfl

theorem Dev.Keeps.lockedOut {ks : List Nat} {d e : Dev} (h : d.Keeps ks e) (m t : Nat) : e.lockedOut m t = d.lockedOut m t := by
  rw [Dev.lockedOut, h.locks]
  rfl

theorem Dev.Keeps.stopped {ks : List Nat} {d e : Dev} (h : d.Keeps ks e) (hk : regKey .pwr 0 0x020 ∉ ks) : e.stopped = d.stopped := by
  have pwr : e.pwr = d.pwr := (congrArg Dev.pwr h.rest :)
  rw [Dev.stopped, pwr, h.rd .pwr .PWR_STATE_CUR hk]
  rfl

theorem Dev.Keeps.permits_read {ks : List Nat} {d e : Dev} (h : d.Keeps ks e) {m : Nat} (hk : regKey .mtx 0 (0x040 + m * 4) ∉ ks) (t : Nat) :
    e.permits m t false = d.permits m t false := by
  have perm : e.rd .mtx (Fld.nth .MTX_PERM_READ m) = d.rd .mtx (Fld.nth .MTX_PERM_READ m) := h.rd _ _ hk
  simp only [Dev.permits, Bool.false_eq_true, if_false, perm]

/-! ### The idle step -/

theorem Dev.tick_stopped {d : Dev} (h : d.stopped = true) : d.tick = d := if_pos h

/-- While the core domains run, a tick raises the count, and then each LEVEL counter that reads 1 counts. -/
theorem Dev.tick_runs {d : Dev} (h : d.stopped = false) : d.tick = d.levelsOn.foldl (fun e n => Dev.pmcAdd 130 e n) { d with xo := d.xo + 1 } :=
  if_neg (by simp [h])

/-- Beside the count, a tick changes what counters change by counting. -/
theorem Dev.tick_keeps {d : Dev} (h : d.stopped = false) : ({ d with xo := d.xo + 1 } : Dev).Keeps (eventKeys .pmc) d.tick := by
  rw [Dev.tick_runs h]
  exact Dev.keeps_foldl _ (fun e n => Dev.pmcAdd_keeps (fun _ hk => hk) 130 e n) _ _

theorem step_idle (d : Dev) : step ⟨d, []⟩ = .next ⟨d.tick, []⟩ := rfl

/-! ### The two halves of XO_TIME -/

/-- A word of which all four bytes are asked for is answered whole. -/
theorem asked_all (w : Word) : asked {} w = w :=
  calc asked {} w
    _ = (0#32 &&& ~~~(BitVec.allOnes 32)) ||| (w &&& BitVec.allOnes 32) := rfl
    _ = w := by rw [BitVec.zero_and, BitVec.zero_or, BitVec.and_allOnes]

/-- The block after a read of XO_TIME_LO by master `m`: bits 47 to 32 of the count are latched (R70). -/
def Dev.xoLatched (d : Dev) (m : Nat) : Dev :=
  ((d.passed m).wr .dev .DEV_XO_TIME_HI_HI (d.xo.toNat / 2 ^ 32)).respond m ⟨.okay, [BitVec.ofNat 32 d.xo.toNat]⟩

theorem Dev.xoLatched_keeps (d : Dev) (m : Nat) : d.Keeps [regKey .dev 0 0x074] (d.xoLatched m) :=
  ((d.passed_keeps _ m).trans (Dev.wr_keeps _ .dev .DEV_XO_TIME_HI_HI _ (List.mem_singleton_self _))).trans (Dev.respond_keeps _ _ _ _)

/-- The latch holds bits 47 to 32 of the count. -/
theorem Dev.xoLatched_reg (d : Dev) (m : Nat) : ((d.xoLatched m).reg (regKey .dev 0 0x074)).extractLsb' 0 16 = d.xo.extractLsb' 32 16 := by
  have latch : (d.xoLatched m).rd .dev .DEV_XO_TIME_HI_HI = d.xo.toNat / 2 ^ 32 % 2 ^ 16 := Dev.rd_wr _ .dev .DEV_XO_TIME_HI_HI _ (by decide)
  refine BitVec.eq_of_toNat_eq ?_
  rw [BitVec.extractLsb'_toNat, BitVec.extractLsb'_toNat, Nat.shiftRight_eq_div_pow d.xo.toNat]
  exact latch

/-- A read of XO_TIME_HI returns its register, and changes nothing. -/
theorem Dev.pageRead_xoTimeHi (d : Dev) (m : Nat) : d.pageRead m .dev 0x074 = d.respond m ⟨.okay, [d.reg (regKey .dev 0 0x074)]⟩ := rfl

/-- A transfer that reads XO_TIME_HI is answered with its register. -/
theorem Dev.transfer_read_xoTimeHi {d : Dev} {m : Nat} (hperm : d.permits m 6 false = true) (hlock : d.lockedOut m 6 = false)
    (hstall : d.stallOf m = none) : (d.transfer m 0x074 0 false [{}] {}).respOf m = ⟨.okay, [d.reg (regKey .dev 0 0x074)]⟩ := by
  have read := (d.passed m).pageRead_xoTimeHi m
  have free : ((d.passed m).pageRead m .dev 0x074).stallOf m = none := by
    rw [read]
    exact (d.passed_stallOf m m).trans hstall
  have answer := d.transfer_read_page (p := .dev) (off := 0x074) rfl (by decide) (by decide) hperm hlock free
  rw [show Page.dev.base + 0x074 = 0x074 from rfl] at answer
  rw [answer, Dev.respOf_respond, read, Dev.respOf_respond, asked_all, Dev.passed_reg]
  rfl

/-! ### Registers of a line engine, and TIME -/

@[simp] theorem Dev.leng_setLeng_same (d : Dev) (n : Nat) (v : LengI) : (d.setLeng n v).leng n = v := Map.get_put_same _ _ _ _

@[simp] theorem Dev.billed_xo (d : Dev) (n op : Nat) : (d.billed n op).xo = d.xo := rfl

/-- A general register but g0 reads what was last written to it (R333). -/
theorem Dev.greg_setGreg_same (d : Dev) (n : Nat) {r : Nat} (h : r ≠ 0) (w : Word) : (d.setGreg n r w).greg n r = w := by
  have hr : (r == 0) = false := beq_false_of_ne h
  simp [Dev.setGreg, Dev.greg, hr]

@[simp] theorem Dev.greg_nextPc (d : Dev) (n i r : Nat) : (d.nextPc n).greg i r = d.greg i r := rfl

/-- An instruction with a result leaves it in its register d, unless that is g0. -/
theorem Dev.greg_result (d : Dev) (n : Nat) {w : Word} (h : iD w ≠ 0) (v : Word) : (d.result n w v).greg n (iD w) = v :=
  d.greg_setGreg_same n h v

/-- TIME with imm14 0 writes the low word of the count to its register d (R341). -/
theorem Dev.greg_opTime {d : Dev} {n : Nat} {w : Word} (hz : iZ w = 0) (hd : iD w ≠ 0) : (d.opTime n w).greg n (iD w) = d.xo.setWidth 32 := by
  rw [Dev.opTime, if_pos (by simp [hz])]
  exact Dev.greg_result _ n hd _

end Sys2Proof.Machine

namespace Sys2Proof.Proofs

open Sys2Proof.Machine

/-- Settles O3: the count is raised before any counter counts, and no counter changes it; the latch of a read of XO_TIME_LO stands when
XO_TIME_HI is read, since the first read changes nothing that bars the second. -/
theorem xoTimeCounts : Obligations.XoTimeCounts := by
  unfold Obligations.XoTimeCounts
  intro d q hrun
  refine ⟨?tick, fun m hperm hlock hstall => ?halves, fun n hmeets hz hd => ?time⟩
  case tick =>
    have count : d.tick.xo = d.xo + 1 := (Dev.tick_keeps hrun).xo
    refine ⟨d.tick, step_idle d, count, fun hmax => ?_⟩
    rw [count, hmax]
    rfl
  case halves =>
    have kept := d.xoLatched_keeps m.val
    have hm := m.isLt
    have perm : (d.xoLatched m.val).permits m.val 6 false = true :=
      (kept.permits_read (List.mem_singleton.not.2 (regKey_ne .mtx .dev (by omega))) 6).trans hperm
    have running : (d.xoLatched m.val).stopped = false :=
      (kept.stopped (List.mem_singleton.not.2 (regKey_ne .pwr .dev (by decide)))).trans hrun
    have low : exec (.xoTimeLoRead m) ⟨d, q⟩ = .next ⟨d.xoLatched m.val, q⟩ := State.live_eq q (Dev.mRead_xoTimeLo hrun hperm)
    have high : exec (.matrixTransfer m ⟨.read, 0x74, [{}], {}⟩) ⟨d.xoLatched m.val, q⟩ =
        .next ⟨(d.xoLatched m.val).transfer m.val 0x074 0 false [{}] {}, q⟩ := State.live_runs _ _ running
    have word : BitVec.ofNat 32 d.xo.toNat = d.xo.extractLsb' 0 32 := by
      rw [BitVec.ofNat_toNat, BitVec.setWidth_eq_extractLsb' (by decide)]
    refine ⟨_, _, _, low, ?_, high,
      Dev.transfer_read_xoTimeHi perm ((kept.lockedOut m.val 6).trans hlock) ((kept.stallOf m.val).trans hstall), d.xoLatched_reg m.val⟩
    rw [← word]
    exact Dev.respOf_respond _ _ _
  case time =>
    refine ⟨_, State.live_eq q (Dev.instrRun_meets hmeets), (Dev.greg_opTime hz hd).trans ?_⟩
    rw [Dev.billed_xo, BitVec.setWidth_eq_extractLsb' (by decide)]

/-- Settles O4: a tick is the risen count, and after it the counting of the LEVEL counters that read 1. -/
theorem idleStepIsOneTick : Obligations.IdleStepIsOneTick := by
  unfold Obligations.IdleStepIsOneTick
  intro d
  refine ⟨d.tick, step_idle d, Dev.tick_stopped, Dev.tick_keeps, fun hrun hnone => ?_⟩
  rw [Dev.tick_runs hrun, hnone]
  rfl

end Sys2Proof.Proofs
end

section
/-! PROOF. SDI lanes and receivers (R75, R76, R83 to R91, R137, R246): the block after each command, where its conditions hold. That as LOS clears
a lane that is to run in state TEST goes there (log 110), and that INJECT with no pattern being sent has no effect (log 112), the model's
assumption log adds. -/

namespace Sys2Proof.Machine

/-! ### Events of a lane -/

/-- An event of a receive lane, while the core domains run: what follows the lane follows the state that the event leaves. -/
theorem Dev.live_rxDone {d e : Dev} {f : Dev → Dev} {l : Nat} (h : d.stopped = false) (he : f d = e) :
    d.live (fun d => (f d).rxDone l) = e.rxDone l := by
  rw [Dev.live_runs h, he]

/-- An event of a transmit lane, while the core domains run: what follows the transmit lanes follows the state that the event leaves. -/
theorem Dev.live_txFollow {d e : Dev} {f : Dev → Dev} (h : d.stopped = false) (he : f d = e) :
    d.live (fun d => (f d).txFollow) = e.txFollow := by
  rw [Dev.live_runs h, he]

/-! ### Writes of LANE and TLL pages (R75, R88, R89, R91) -/

/-- A write of a lane's PAGE_CTRL that changes ENABLE stops or restarts both its directions. -/
theorem Dev.laneAfter_enable (d : Dev) (n : Nat) {old v : Word} (h : Fld.PAGE_CTRL_ENABLE.get old ≠ Fld.PAGE_CTRL_ENABLE.get v) :
    d.laneAfter n 0x008 old v = ((d.laneEnable n).rxSettle n).txFollow :=
  if_pos (bne_iff_ne.2 h)

/-- LANE and TLL pages hold TESTCTL at one offset, and a write of either commands the test of its lane. -/
theorem Dev.pageAfter_testctl (d : Dev) (m l cur : Nat) (old v : Word) : d.pageAfter m (rxPage l) 0x034 cur old v = d.testctlApply l v := by
  unfold rxPage
  split
  next => rfl
  next h =>
    change d.testctlApply (144 + (l - 144)) v = d.testctlApply l v
    rw [Nat.add_sub_cancel' (Nat.le_of_not_lt h)]

/-- An accepted write of TESTCTL: the commands that it carries act, and the write is answered OKAY. -/
theorem Dev.mWrite_testctl {d e : Dev} {m l : Nat} {v : Word} (h : d.admits m (rxPage l) 0x034 v = true)
    (he : (d.stored m (rxPage l) 0x034 v).testctlApply l v = e) : d.live (fun d => d.mWrite m (rxPage l) 0x034 15 v) = e.okay m := by
  rw [Dev.mWrite_admits h (by decide), Dev.pageAfter_testctl, he]

/-- INJECT while the lane sends its pattern: one more bit of it is to be inverted. -/
theorem Dev.testctlApply_inject {d : Dev} {l : Nat} (h : d.testSends l = true) :
    d.testctlApply l 1 = d.setLane l { d.lane l with gen := { (d.lane l).gen with invert := (d.lane l).gen.invert + 1 } } :=
  if_pos h

theorem Dev.testctlApply_inject_silent {d : Dev} {l : Nat} (h : d.testSends l = false) : d.testctlApply l 1 = d :=
  if_neg (Bool.eq_false_iff.1 h)

theorem Dev.testctlApply_cntClr (d : Dev) (l : Nat) : d.testctlApply l 2 = d.rxWr l .LANE_TESTCNT_COUNT .TLL_TESTCNT_COUNT 0 := rfl

/-! ### Transmit synthesisers and lane routes (R76, R136, R137) -/

/-- AUX and the Tile Link clocks lock without any condition. -/
theorem Dev.synthLock_free (d : Dev) {u k : Nat} (h : 36 ≤ u ∨ k = 2) : d.synthLock u k = d.txStart u k :=
  if_pos (by simpa using h)

/-- PLL0 or PLL1 on a timing domain that has a format locks, and the lanes that wait for it start. -/
theorem Dev.synthLock_dom {d : Dev} {u k t : Nat} (hu : u < 36) (hk : k < 2) (hsrc : (d.pll (2 * u + k)).src = .dom t)
    (hlock : (d.pll (2 * u + k)).lock = false) (hfmt : d.domFmt t ≠ 0) :
    d.synthLock u k = (d.setPll (2 * u + k) { d.pll (2 * u + k) with lock := true }).txStart u k := by
  rw [Dev.synthLock, if_neg (by simp; omega)]
  exact if_neg (by simp [hsrc, hlock, hfmt])

/-- PLL0 or PLL1 on a followed lane that is LOCKED with an identified format locks, and the lanes that wait for it start. -/
theorem Dev.synthLock_follow {d : Dev} {u k f : Nat} (hu : u < 36) (hk : k < 2) (hsrc : (d.pll (2 * u + k)).src = .follow f)
    (hlock : (d.pll (2 * u + k)).lock = false) (hrx : d.rxState f = 3) (hfmt : d.frmFmt f ≠ 0) :
    d.synthLock u k = (d.setPll (2 * u + k) { d.pll (2 * u + k) with lock := true }).txStart u k := by
  rw [Dev.synthLock, if_neg (by simp; omega)]
  exact if_neg (by simp [hsrc, hlock, hrx, hfmt])

/-- A lane route that waits for the first EAV of its new input goes over to it. -/
theorem Dev.routeSwitch_some {d : Dev} {n f : Nat} (h : (d.lane n).routeNext = some f) :
    d.routeSwitch n = (d.setLane n { d.lane n with route := some f, routeNext := none, txAuto := 0 }).followTake n := by
  simp only [Dev.routeSwitch, h]

/-! ### Receivers (R83 to R86, R246) -/

/-- A receiver that is not OFF and has LOS clear passes the guard under which LOS and LOL are evaluated (R86). -/
theorem Dev.not_off_or_los {d : Dev} {l : Nat} (hrx : d.rxState l ≠ 0) (hlos : d.los l = false) : ¬(d.rxState l == 0 || d.los l) = true := by
  simp [hrx, hlos]

/-- LOS is set: a receiver in TEST stays there, and any other enters NO_SIGNAL. -/
theorem Dev.losSet_sets {d : Dev} {l : Nat} (hrx : d.rxState l ≠ 0) (hlos : d.los l = false) :
    d.losSet l =
      let e := (d.rxWr l .LANE_LSTAT_LOS .TLL_LSTAT_LOS 1).rxWr l .LANE_LSTAT_LOL .TLL_LSTAT_LOL 0
      let e := (e.setLane l { e.lane l with cdrHeld := false }).rxEvt l 8
      (if d.rxState l = 5 then e else (if d.isAuto l then e.detLost l else e).setRx l 1).framerSettle l := by
  rw [Dev.losSet, if_neg (Dev.not_off_or_los hrx hlos)]
  simp only [beq_iff_eq]

/-- LOS clears in NO_SIGNAL: the receiver goes to TEST, to HUNT under AUTO, or to ACQUIRE. -/
theorem Dev.losClear_clears {d : Dev} {l : Nat} (hrx : d.rxState l = 1) (hlos : d.los l = true) :
    d.losClear l =
      (((d.rxWr l .LANE_LSTAT_LOS .TLL_LSTAT_LOS 0).rxEvt l 9).setRx l (if d.rxTest l then 5 else if d.isAuto l then 4 else 2)).framerSettle l := by
  rw [Dev.losClear, if_neg (by simp [hrx, hlos])]
  exact congrArg (fun e : Dev => e.framerSettle l) (if_pos (beq_iff_eq.2 hrx))

/-- LOL is set: a LOCKED receiver goes to HUNT under AUTO and to ACQUIRE otherwise, and any other keeps its state. -/
theorem Dev.lolSet_sets {d : Dev} {l : Nat} (hrx : d.rxState l ≠ 0) (hlos : d.los l = false) :
    d.lolSet l =
      let e := (d.rxWr l .LANE_LSTAT_LOL .TLL_LSTAT_LOL 1).setLane l { d.lane l with cdrHeld := false }
      (if d.rxState l ≠ 3 then e else if d.isAuto l then (e.detLost l).setRx l 4 else e.setRx l 2).framerSettle l := by
  rw [Dev.lolSet, if_neg (Dev.not_off_or_los hrx hlos)]
  simp only [bne_iff_ne]

/-- The CDR locks in ACQUIRE: LOL clears, and the receiver is LOCKED. -/
theorem Dev.cdrLock_acquire {d : Dev} {l : Nat} (hrx : d.rxState l = 2) (hlos : d.los l = false) :
    d.cdrLock l =
      (((d.rxWr l .LANE_LSTAT_LOL .TLL_LSTAT_LOL 0).setLane l { d.lane l with cdrHeld := true }).setRx l 3).framerSettle l := by
  rw [Dev.cdrLock, if_neg (Dev.not_off_or_los (by simp [hrx]) hlos)]
  exact congrArg (fun e : Dev => e.framerSettle l) (if_pos (beq_iff_eq.2 hrx))

theorem Dev.cdrRestart_acquire {d : Dev} {l : Nat} (hrx : d.rxState l = 2) (hlol : d.lol l = true) :
    d.cdrRestart l = d.setLane l { d.lane l with cdrHeld := false } :=
  if_pos (by simp [hrx, hlol])

theorem Dev.autoNext_hunt {d : Dev} {n : Nat} (hrx : d.rxState n = 4) :
    d.autoNext n = d.setLane n { d.lane n with cand := ((d.lane n).cand + 1) % 5, cdrHeld := false } :=
  if_pos (beq_iff_eq.2 hrx)

/-- A running checker takes the levels one by one, in the polarity of RXCFG, and from the lane's own transmitter under NEAR_END (R90 to R92). -/
theorem Dev.checkLevels_checking {d : Dev} {l : Nat} {levels : List Bool} (h : (d.testSend l levels.length).checking l = true) :
    d.checkLevels l levels =
      let e := d.testSend l levels.length
      (polarity (e.rxRd l .LANE_RXCFG_POL_INV .TLL_CFG_RX_POL_INV == 1)
        (if e.rxRd l .LANE_LOOPBACK_X_NEAR_END .TLL_LOOPBACK_X_NEAR_END == 1 then (e.lane l).gen.sent else levels)).foldl
        (fun f b => f.checkBit l b) e :=
  if_pos h

/-- The LOF timer ends: LOF clears on a lane that delivers, and is raised on one that is LOCKED or hunts under AUTO. -/
theorem Dev.lofTimer_eq (d : Dev) (l : Nat) :
    d.lofTimer l =
      ((if d.delivers l then d.setPm l { d.pmOf l with lofRaw := false }
        else if d.rxState l = 3 ∨ d.rxState l = 4 then d.setPm l { d.pmOf l with lofRaw := true } else d).defSettle l).protSettle := by
  simp only [Dev.lofTimer, Bool.or_eq_true, beq_iff_eq]

end Sys2Proof.Machine

namespace Sys2Proof.Proofs

open Sys2Proof.Machine

/-- Settles O36: each clause is the law of the operation that the command calls, under the clause's conditions. -/
theorem laneCommandsComplete : Obligations.LaneCommandsComplete := by
  unfold Obligations.LaneCommandsComplete
  intro d q
  refine ⟨fun m n v h => ?txcfg, fun u k t h hu hk hs hl hf => ?lockDomain, fun u k f h hu hk hs hl hr hf => ?lockFollow, fun u k h hx => ?lockFree,
    fun m n v h => ?rxcfg, fun m n v h hs he => ?enable, fun l h hr hl => ?losSet, fun l h hr hl => ?losClear, fun l h hr hl => ?lolSet,
    fun l h hr hl => ?cdrLock, fun l h hr hl => ?cdrRestart, fun n h hr => ?candidate, fun m l h ht => ?inject, fun m l h ht => ?injectSilent,
    fun m l h => ?cntClr, fun l levels h hc => ?checker, fun l h => ?lof, fun n f h hr => ?route⟩
  case txcfg => exact State.live_eq q (Dev.mWrite_admits h (by decide))
  case lockDomain => exact State.live_eq q (Dev.live_txFollow h (Dev.synthLock_dom hu hk hs hl hf))
  case lockFollow => exact State.live_eq q (Dev.live_txFollow h (Dev.synthLock_follow hu hk hs hl hr hf))
  case lockFree => exact State.live_eq q (Dev.live_txFollow h (d.synthLock_free hx))
  case rxcfg => exact State.live_eq q (Dev.mWrite_admits h (by decide))
  case enable =>
    refine State.live_eq q ((Dev.mWrite_ctrl h hs).trans ?_)
    exact congrArg (fun e : Dev => (e.keyed (.lane n.val) v).okay m.val) (Dev.laneAfter_enable _ n.val he)
  case losSet => exact State.live_eq q (Dev.live_rxDone h (Dev.losSet_sets hr hl))
  case losClear => exact State.live_eq q (Dev.live_rxDone h (Dev.losClear_clears hr hl))
  case lolSet => exact State.live_eq q (Dev.live_rxDone h (Dev.lolSet_sets hr hl))
  case cdrLock => exact State.live_eq q (Dev.live_rxDone h (Dev.cdrLock_acquire hr hl))
  case cdrRestart => exact State.live_eq q ((Dev.live_runs h).trans (Dev.cdrRestart_acquire hr hl))
  case candidate => exact State.live_eq q (Dev.live_rxDone h (Dev.autoNext_hunt hr))
  case inject => exact State.live_eq q (Dev.mWrite_testctl h (Dev.testctlApply_inject ht))
  case injectSilent => exact State.live_eq q (Dev.mWrite_testctl h (Dev.testctlApply_inject_silent ht))
  case cntClr => exact State.live_eq q (Dev.mWrite_testctl h (Dev.testctlApply_cntClr _ _))
  case checker => exact State.live_eq q ((Dev.live_runs h).trans (Dev.checkLevels_checking hc))
  case lof => exact State.live_eq q (Dev.live_rxDone h (d.lofTimer_eq l.val))
  case route => exact State.live_eq q (Dev.live_txFollow h (Dev.routeSwitch_some hr))

end Sys2Proof.Proofs
end

section
/-! PROOF. SDI, MADI and ASI framers (R97 to R114): the block after each event, where its conditions hold. That an invalid ASI character counts in
TRSERR and that FRM_LOCK is set at PKT_SYNC (log 64), and that the packet which the third sync byte begins passes (log 128), the model's assumption
log adds. -/

namespace Sys2Proof.Machine

/-! ### What a lane's framer and mode read after a write -/

@[simp] theorem Dev.framer_setFramer_same (d : Dev) (l : Nat) (v : FramerI) : (d.setFramer l v).framer l = v := Map.get_put_same _ _ _ _

theorem Dev.frmState_lane {n : Nat} (h : n < 144) (d : Dev) : d.frmState n = d.rd (.lane n) .LANE_FRMSTAT_STATE := by
  simp [Dev.frmState, Dev.rxRd, rxPage, rxFld, h]

theorem Dev.frmState_tll (d : Dev) (n : Nat) : d.frmState (144 + n) = d.rd (.tll n) .TLL_FRMSTAT_STATE := by
  simp [Dev.frmState, Dev.rxRd, rxPage, rxFld]

theorem Dev.Keeps.on {ks : List Nat} {d e : Dev} (h : d.Keeps ks e) (p : Page) (f : Fld) (hk : regKey p 0 f.off ∉ ks) : e.on p f = d.on p f :=
  congrArg (· == 1) (h.rd p f hk)

theorem Dev.Keeps.rxMode {ks : List Nat} {d e : Dev} (h : d.Keeps ks e) {n : Nat} (hcfg : regKey (.lane n) 0 0x020 ∉ ks)
    (hdet : regKey (.lane n) 0 0x044 ∉ ks) : e.rxMode n = d.rxMode n := by
  rw [Dev.rxMode, h.on _ .LANE_RXCFG_AUTO hcfg, h.on _ .LANE_DETSTAT_DET_VALID hdet, h.rd _ .LANE_DETSTAT_DET_MODE hdet,
    h.rd _ .LANE_RXCFG_MODE hcfg]
  rfl

theorem Dev.Keeps.lane {ks : List Nat} {d e : Dev} (h : d.Keeps ks e) (n : Nat) : e.lane n = d.lane n := by
  have lanes : e.lanes = d.lanes := (congrArg Dev.lanes h.rest :)
  rw [Dev.lane, lanes]
  rfl

theorem Dev.Keeps.huntModes {ks : List Nat} {d e : Dev} (h : d.Keeps ks e) {n : Nat} (hcfg : regKey (.lane n) 0 0x020 ∉ ks)
    (hdet : regKey (.lane n) 0 0x044 ∉ ks) : e.huntModes n = d.huntModes n := by
  have now : e.autoNow n = d.autoNow n := by rw [Dev.autoNow, h.lane, h.rd _ .LANE_RXCFG_MODE hcfg, Dev.autoNow]
  rw [Dev.huntModes, h.on _ .LANE_RXCFG_AUTO hcfg, h.on _ .LANE_DETSTAT_DET_VALID hdet, h.rxMode hcfg hdet, now]
  rfl

theorem Dev.Keeps.rxBond {ks : List Nat} {d e : Dev} (h : d.Keeps ks e) {n : Nat} (hcfg : regKey (.lane (d.rxLead n)) 0 0x020 ∉ ks) :
    e.rxBond n = d.rxBond n := by
  have lead : e.rxLead n = d.rxLead n := by simp only [Dev.rxLead, h.lane]
  simp only [Dev.rxBond, lead, h.rd _ Fld.LANE_RXCFG_MODE hcfg]

/-! ### SDI: candidates and verification (R97 to R99) -/

section
variable {d : Dev} {n pos s : Nat} {levels : List Bool} {offset : Int} {line1 : Bool}

/-- A checking EAV in HUNT or VERIFY is judged on the framer with its line code advanced. -/
theorem Dev.trsReceived_eav (hmode : modeSdi (d.rd (.lane n) .LANE_RXCFG_MODE) = true) (hstate : d.frmState n = 1 ∨ d.frmState n = 2)
    (heav : d.eavStreams n (d.decodeSdi n levels).2 = some s) :
    d.trsReceived n pos levels offset line1 = (d.decodeSdi n levels).1.huntEav n pos s offset line1 := by
  rw [Dev.trsReceived, if_neg (by rcases hstate with h | h <;> simp [hmode, h])]
  simp only
  rw [if_pos (by simpa using hstate), heav]

/-- An EAV that no candidate expects makes a candidate where one of the four is free. -/
theorem Dev.huntEav_new (hverify : (d.framer n).verify = none)
    (hnone : (d.framer n).cands.findIdx? (fun z => (z.advances (lensFor (d.huntModes n) s) pos s).isSome) = none)
    (hfree : (d.framer n).cands.length < 4) :
    d.huntEav n pos s offset line1 = d.setCands n ((d.framer n).cands ++ [⟨pos, 1, none, s⟩]) := by
  simp only [Dev.huntEav, hverify, hnone, if_pos hfree]

/-- An EAV that candidate `k` expects advances it; other than its third leaves the state. -/
theorem Dev.huntEav_advance {k : Nat} (hverify : (d.framer n).verify = none)
    (hsome : (d.framer n).cands.findIdx? (fun z => (z.advances (lensFor (d.huntModes n) s) pos s).isSome) = some k)
    (hcount : ((d.framer n).cands.getD k ⟨0, 0, none, 0⟩).count + 1 ≠ 3) :
    d.huntEav n pos s offset line1 =
      let c := (d.framer n).cands.getD k ⟨0, 0, none, 0⟩
      d.setCands n ((d.framer n).cands.set k ⟨pos, c.count + 1, c.advances (lensFor (d.huntModes n) s) pos s, c.streams⟩) := by
  simp only [Dev.huntEav, hverify, hsome]
  exact if_pos (bne_iff_ne.2 hcount)

/-- The third EAV of candidate `k` in HUNT confirms it, and VERIFY begins. -/
theorem Dev.huntEav_confirm {k : Nat} (hstate : d.frmState n = 1) (hverify : (d.framer n).verify = none)
    (hsome : (d.framer n).cands.findIdx? (fun z => (z.advances (lensFor (d.huntModes n) s) pos s).isSome) = some k)
    (hcount : ((d.framer n).cands.getD k ⟨0, 0, none, 0⟩).count = 2) :
    d.huntEav n pos s offset line1 =
      let c := (d.framer n).cands.getD k ⟨0, 0, none, 0⟩
      let y : Cand := ⟨pos, 3, c.advances (lensFor (d.huntModes n) s) pos s, c.streams⟩
      let e := d.setCands n ((d.framer n).cands.set k y)
      (e.setFramer n { e.framer n with verify := some y }).setFrm n 2 := by
  simp only [Dev.huntEav, hverify, hsome, hcount]
  rw [if_neg (by decide), if_neg (by simp [hstate])]

/-- The EAV that the candidate in VERIFY expects begins LINE_SYNC. -/
theorem Dev.huntEav_verified {c : Cand} {len : Nat} (hstate : d.frmState n = 2) (hverify : (d.framer n).verify = some c)
    (hlen : c.advances [] pos s = some len) : d.huntEav n pos s offset line1 = d.lineSync n pos len s offset line1 := by
  simp only [Dev.huntEav, hverify, hstate, beq_self_eq_true, if_true, hlen]

/-- A TRS in LINE_SYNC or FRAME_SYNC is judged on the framer with its line code advanced, over the words of the framer's streams. -/
theorem Dev.trsReceived_synced (hmode : modeSdi (d.rd (.lane n) .LANE_RXCFG_MODE) = true) (hstate : d.frmState n = 3 ∨ d.frmState n = 4) :
    d.trsReceived n pos levels offset line1 =
      let x := d.decodeSdi n levels
      x.1.lockedTrs n pos (lastWords (x.1.framer n).streams x.2) := by
  rw [Dev.trsReceived, if_neg (by rcases hstate with h | h <;> simp [hmode, h])]
  simp only
  rw [if_neg (by rcases hstate with h | h <;> simp [h])]
  simp only [Dev.decodeSdi, Dev.framer_setFramer_same]

/-- Outside 3G_B one TRS over all streams is judged. -/
theorem Dev.lockedTrs_whole {ws : List Word10} {w : Word10} (hmode : d.rxMode n ≠ 4) (htrs : trsOf (d.framer n).streams ws = some w) :
    d.lockedTrs n pos ws = d.syncTrs n pos (w.getLsbD 6) := by
  simp only [Dev.lockedTrs, beq_false_of_ne hmode, Bool.false_eq_true, if_false, htrs]

theorem Dev.trsReceived_whole {w : Word10} (hmode : modeSdi (d.rd (.lane n) .LANE_RXCFG_MODE) = true)
    (hstate : d.frmState n = 3 ∨ d.frmState n = 4) (hrx : d.rxMode n ≠ 4)
    (htrs : trsOf ((d.decodeSdi n levels).1.framer n).streams
      (lastWords ((d.decodeSdi n levels).1.framer n).streams (d.decodeSdi n levels).2) = some w) :
    d.trsReceived n pos levels offset line1 = (d.decodeSdi n levels).1.syncTrs n pos (w.getLsbD 6) :=
  (Dev.trsReceived_synced hmode hstate).trans (Dev.lockedTrs_whole (d := (d.decodeSdi n levels).1) hrx htrs)

theorem Dev.syncTrs_eav (hpos : pos = (d.framer n).lastEav + (d.framer n).lineLen * ((d.framer n).streams * 10)) :
    d.syncTrs n pos true = d.setFramer n { d.framer n with lastEav := pos, missing := 0 } :=
  if_pos (beq_iff_eq.2 hpos)

theorem Dev.syncTrs_sav {o : Nat} (hoff : (d.framer n).savOff = some o) (hpos : pos = (d.framer n).lastEav + o * ((d.framer n).streams * 10)) :
    d.syncTrs n pos false = d.setFramer n { d.framer n with missing := 0 } := by
  simp only [Dev.syncTrs, Bool.false_eq_true, if_false, hoff, hpos, beq_self_eq_true, if_true]

theorem Dev.verifyMissing_verify (hstate : d.frmState n = 2) (hmode : modeSdi (d.rd (.lane n) .LANE_RXCFG_MODE) = true) :
    d.verifyMissing n =
      let e := d.setCands n []
      (e.setFramer n { e.framer n with verify := none }).setFrm n 1 :=
  if_pos (by simp [hstate, hmode])

end

/-! ### SDI: missing TRSs and frames (R101 to R106, R108) -/

/-- A count at one offset leaves the mode in force, which stands in RXCFG and DETSTAT. -/
theorem Dev.rxMode_inc_trserr (d : Dev) (n : Nat) : (d.inc (.lane n) .LANE_TRSERR_COUNT).rxMode n = d.rxMode n :=
  (Dev.inc_keeps d (.lane n) .LANE_TRSERR_COUNT (List.mem_singleton_self _)).rxMode (List.mem_singleton.not.2 (regKey_ne _ _ (by decide)))
    (List.mem_singleton.not.2 (regKey_ne _ _ (by decide)))

/-- A framer in LINE_SYNC or FRAME_SYNC, as the model tests it. -/
theorem Dev.framed_beq {d : Dev} {n : Nat} (h : d.frmState n = 3 ∨ d.frmState n = 4) : (d.frmState n == 3 || d.frmState n == 4) = true := by
  simpa using h

section
variable {d : Dev} {n : Nat} {eav : Bool} (hmode : modeSdi (d.rd (.lane n) .LANE_RXCFG_MODE) = true)
  (hstate : d.frmState n = 3 ∨ d.frmState n = 4)
include hmode hstate

/-- A missing TRS of stream 1 is counted; the run of LOSS_TRS ends the sync. -/
theorem Dev.trsMissing_first :
    d.trsMissing n eav false =
      let i := d.framer n
      let e := (d.inc (.lane n) .LANE_TRSERR_COUNT).setFramer n
        { i with missing := i.missing + 1, lastEav := if eav then i.lastEav + i.lineLen * i.streams * 10 else i.lastEav }
      if d.rd (.lane n) .LANE_FRM_X_LOSS_TRS ≤ i.missing + 1 then e.frmLoss n 1 else e :=
  if_neg (by simp [Dev.framed_beq hstate, hmode])

/-- A missing TRS of stream 2 is counted; the run of LOSS_TRS sets S2_LOSS in 3G_B. -/
theorem Dev.trsMissing_second :
    d.trsMissing n eav true =
      let i := d.framer n
      let e := (d.inc (.lane n) .LANE_TRSERR_COUNT).setFramer n { i with s2missing := i.s2missing + 1, s2ok := if eav then 0 else i.s2ok }
      if d.rd (.lane n) .LANE_FRM_X_LOSS_TRS ≤ i.s2missing + 1 ∧ d.rxMode n = 4 then
        (e.wrOn (.lane n) .LANE_FRMSTAT_S2_LOSS true).laneSettle n
      else e := by
  have mode : ∀ v, ((d.inc (.lane n) .LANE_TRSERR_COUNT).setFramer n v).rxMode n = d.rxMode n := fun _ => d.rxMode_inc_trserr n
  rw [Dev.trsMissing, if_neg (by simp [Dev.framed_beq hstate, hmode])]
  simp only [if_true, Bool.and_eq_true, decide_eq_true_eq, beq_iff_eq, mode]
  rfl

end

/-- What shows as a line 1 passes: the skew, the lead's BOND_SKEW and the recovered clock's offset (R103, R107). -/
def Dev.lineOneShown (d : Dev) (n : Nat) (offset skew : Int) : Dev :=
  ((d.wr (.lane n) .LANE_FRMLINES_BOND_SKEW (field16 skew)).skewSettle n).showFreq n offset

/-- BOND_SKEW shares its register with the framer's state, and no bit of it. -/
theorem Dev.lineOneShown_frmState {n : Nat} (hn : n < 144) (d : Dev) (offset skew : Int) :
    (d.lineOneShown n offset skew).frmState n = d.frmState n := by
  simp only [Dev.frmState_lane hn]
  calc (d.lineOneShown n offset skew).rd (.lane n) .LANE_FRMSTAT_STATE
    _ = ((d.wr (.lane n) .LANE_FRMLINES_BOND_SKEW (field16 skew)).skewSettle n).rd (.lane n) .LANE_FRMSTAT_STATE :=
      Dev.rd_wr_other _ _ _ _ _ _ (by decide) (.inl (regKey_ne _ _ (by decide)))
    _ = (d.wr (.lane n) .LANE_FRMLINES_BOND_SKEW (field16 skew)).rd (.lane n) .LANE_FRMSTAT_STATE :=
      Dev.rd_wr_other _ _ _ _ _ _ (by decide) (.inr (by decide))
    _ = d.rd (.lane n) .LANE_FRMSTAT_STATE := Dev.rd_wr_other _ _ _ _ _ _ (by decide) (.inl (regKey_ne _ _ (by decide)))

/-- The next frame begins at a line 1. -/
def Dev.frameBegins (d : Dev) (n : Nat) (offset : Int) : Dev :=
  (d.setFramer n { d.framer n with
    inFrame := true, lineNo := 1, fieldMoved := false, savOff := none, family := nearFamily (d.isSd n) offset }).laneSettle n

/-- A line 1 of a framed lane: what shows, the frame that it ends if one was in progress, and the next frame. -/
theorem Dev.frameComplete_framed {d : Dev} {n : Nat} {offset skew : Int} (hmode : modeSdi (d.rd (.lane n) .LANE_RXCFG_MODE) = true)
    (hstate : d.frmState n = 3 ∨ d.frmState n = 4) :
    d.frameComplete n offset skew =
      let e := d.lineOneShown n offset skew
      (if (e.framer n).inFrame then e.frameEnds n offset else e).frameBegins n offset :=
  if_neg (by simp [Dev.framed_beq hstate, hmode])

/-- A frame's measurements show in FRMGEOM and FRMLINES only. -/
theorem Dev.frameShow_keeps (d : Dev) (n : Nat) (m : Nat × Bool × Nat) :
    d.Keeps [regKey (.lane n) 0 0x068, regKey (.lane n) 0 0x06C] (d.frameShow n m) :=
  (Dev.wrOn_keeps d (.lane n) .LANE_FRMGEOM_SCAN _ (List.mem_cons_self ..)).trans
    (Dev.wr_keeps _ (.lane n) .LANE_FRMLINES_LINES _ (List.mem_cons_of_mem _ (List.mem_singleton_self _)))

/-- The registers of a lane that its measurements show in are none at another offset. -/
theorem not_mem_frameShow (p : Page) (n : Nat) {off : Nat} (h : off % 4096 ≠ 0x068 ∧ off % 4096 ≠ 0x06C) :
    regKey p 0 off ∉ [regKey (.lane n) 0 0x068, regKey (.lane n) 0 0x06C] := by
  simp only [List.mem_cons, List.not_mem_nil, or_false, not_or]
  exact ⟨regKey_ne _ _ h.1, regKey_ne _ _ h.2⟩

theorem Dev.frameShow_familyNear (d : Dev) (n : Nat) (m : Nat × Bool × Nat) (offset : Int) :
    (d.frameShow n m).familyNear n offset = d.familyNear n offset := by
  have modes := (d.frameShow_keeps n m).huntModes (not_mem_frameShow (.lane n) n (by decide)) (not_mem_frameShow (.lane n) n (by decide))
  rw [Dev.familyNear, Dev.isSd, modes]
  rfl

theorem Dev.frameShow_frameDeparts (d : Dev) (n : Nat) (m : Nat × Bool × Nat) : (d.frameShow n m).frameDeparts n m = d.frameDeparts n m := by
  have fmt : (d.frameShow n m).frmFmt n = d.frmFmt n := (d.frameShow_keeps n m).rd _ _ (not_mem_frameShow _ n (by decide))
  rw [Dev.frameDeparts, fmt]
  rfl

/-- A frame that ends in LINE_SYNC is named by its measurements, where the rate lies near its family's. -/
theorem Dev.frameEnds_lineSync {d : Dev} {n : Nat} {offset : Int} (hstate : d.frmState n = 3) :
    d.frameEnds n offset =
      let m := d.frameMeasured n
      let code := identify (d.rxMode n) (d.framer n).streams (d.framer n).lineLen m.2.2 m.1 m.2.1 (nearFamily (d.isSd n) offset)
      (d.frameShow n m).frameNamed n (if (d.frameShow n m).familyNear n offset then code else none) := by
  simp only [Dev.frameEnds, hstate, beq_self_eq_true, if_true, Dev.frameShow_familyNear]

/-- A frame that ends in FRAME_SYNC is watched for a departure from the format. -/
theorem Dev.frameEnds_frameSync {d : Dev} {n : Nat} {offset : Int} (hstate : d.frmState n = 4) :
    d.frameEnds n offset =
      let m := d.frameMeasured n
      (d.frameShow n m).frameWatched n (d.framer n).departing ((d.frameShow n m).frameDeparts n m) := by
  rw [Dev.frameEnds]
  simp only [hstate, Dev.frameShow_frameDeparts]
  rfl

/-! ### SDI: the checks on a framed lane (R110, R111) -/

/-- An SD field ends on a framed lane: `check` is FRMCFG.EDH_CHECK, `bad` that the packet's CRCs disagree. -/
theorem Dev.edhCheck_framed {d : Dev} {n : Nat} {packet : Option (List Word10)} {check bad : Bool} (hmode : d.rxMode n = 1)
    (hstate : d.frmState n = 3 ∨ d.frmState n = 4) (hcheck : d.on (.lane n) .LANE_FRMCFG_EDH_CHECK = check)
    (hbad : (check && packet.any fun udw => !(d.framer n).edhAgrees udw) = bad) :
    d.edhCheck n packet =
      let e := if check then d.wrOn (.lane n) .LANE_FRMSTAT_EDH_ABSENT packet.isNone else d
      let e := if bad then e.inc (.lane n) .LANE_LINEERR_COUNT else e
      let f := e.setPm n { e.pmOf n with units := (e.pmOf n).units + 1, err := if bad then (e.pmOf n).err + 1 else (e.pmOf n).err }
      f.setFramer n { f.framer n with fieldBad := bad } := by
  subst hcheck hbad
  unfold Dev.edhCheck
  dsimp only
  rw [if_neg (by simp [Dev.framed_beq hstate, hmode])]
  cases packet <;> rfl

/-- Packets of stream 2 are read in 3G_B only. -/
theorem Dev.pidStream_read {d : Dev} {n : Nat} {stream2 : Bool} (h : stream2 = true → d.rxMode n = 4) : (!stream2 || d.rxMode n == 4) = true := by
  cases stream2 with
  | false => rfl
  | true => exact beq_iff_eq.2 (h rfl)

/-- A payload ID shows in a register of its own and in FRMSTAT. -/
theorem Dev.pidShown_rxBond (d : Dev) (n : Nat) {f : Fld} (v : Nat) (hf : f.off % 4096 ≠ 0x020) :
    ((d.wr (.lane n) f v).wrOn (.lane n) .LANE_FRMSTAT_PID_ABSENT false).rxBond n = d.rxBond n := by
  have keeps : d.Keeps [regKey (.lane n) 0 f.off, regKey (.lane n) 0 0x064] ((d.wr (.lane n) f v).wrOn (.lane n) .LANE_FRMSTAT_PID_ABSENT false) :=
    (Dev.wr_keeps d (.lane n) f v (List.mem_cons_self ..)).trans
      (Dev.wrOn_keeps _ (.lane n) .LANE_FRMSTAT_PID_ABSENT _ (List.mem_cons_of_mem _ (List.mem_singleton_self _)))
  refine keeps.rxBond ?_
  simp only [List.mem_cons, List.not_mem_nil, or_false, not_or]
  exact ⟨regKey_ne _ _ (Ne.symm hf), regKey_ne _ _ (by decide)⟩

section
variable {d : Dev} {n line : Nat} {stream2 : Bool} {ws : List Word10} (hdel : d.delivers n = true) (hmode : modeSdi (d.rxMode n) = true)
  (hcheck : d.on (.lane n) .LANE_FRMCFG_PID_CHECK = true) (hstream : stream2 = true → d.rxMode n = 4) (hline : pidLine (d.frmFmt n) line = true)
include hdel hmode hcheck hstream hline

theorem Dev.pidReceived_bad (h : ws.length ≠ 8 ∨ ws.drop 7 ≠ [checksumWord (ws.take 7)]) :
    d.pidReceived n stream2 line ws = d.inc (.lane n) .LANE_LNERR_PID_CSUM := by
  rw [Dev.pidReceived, if_neg (by simp [hdel, hmode, hcheck, hline, Dev.pidStream_read hstream]),
    if_pos (by simpa only [Bool.or_eq_true, bne_iff_ne] using h)]

/-- A payload ID that checks, outside a bond, shows in the register of its stream and is compared with the format. -/
theorem Dev.pidReceived_checks (hlen : ws.length = 8) (hsum : ws.drop 7 = [checksumWord (ws.take 7)]) (hbond : (d.rxBond n).length ≤ 1) :
    d.pidReceived n stream2 line ws =
      let e := if stream2 then d.wr (.lane n) .LANE_PID2_BYTES (pidBytes ws).toNat else d.wr (.lane n) .LANE_PID1_BYTES (pidBytes ws).toNat
      (e.wrOn (.lane n) .LANE_FRMSTAT_PID_ABSENT false).pidCompare n (pidBytes ws) := by
  have alone : ∀ f : Fld, f.off % 4096 ≠ 0x020 →
      ¬ 1 < (((d.wr (.lane n) f (pidBytes ws).toNat).wrOn (.lane n) .LANE_FRMSTAT_PID_ABSENT false).rxBond n).length := fun f hf => by
    rw [d.pidShown_rxBond n _ hf]
    exact Nat.not_lt_of_le hbond
  unfold Dev.pidReceived
  dsimp only
  rw [if_neg (by simp [hdel, hmode, hcheck, hline, Dev.pidStream_read hstream]), if_neg (by simp [hlen, hsum])]
  cases stream2 with
  | false => exact congrArg (fun e : Dev => e.pidCompare n (pidBytes ws)) (if_neg (alone .LANE_PID1_BYTES (by decide)))
  | true => exact congrArg (fun e : Dev => e.pidCompare n (pidBytes ws)) (if_neg (alone .LANE_PID2_BYTES (by decide)))

end

/-! ### MADI (R112, R113) -/

section
variable {d : Dev} {n : Nat} (hmadi : d.isMadi n = true)
include hmadi

/-- A sync symbol in SYM_HUNT lengthens the run of one phase; the third ends the symbol hunt. -/
theorem Dev.madiSync_hunt {phase gap run : Nat} (hstate : d.frmState n = 1)
    (hrun : (if (d.framer n).syncRun ≠ 0 ∧ (d.framer n).syncPhase = phase ∧ gap % 8 = 0 then (d.framer n).syncRun + 1 else 1) = run) :
    d.madiSync n phase gap =
      let e := d.setFramer n { d.framer n with
        syncRun := if run < 3 then run else 0, syncPhase := phase, subCount := 0, indTimes := [], spacing := 0, badLast := [] }
      if run < 3 then e else e.setFrm n 2 := by
  rw [Dev.madiSync, if_neg (by simp [hmadi, hstate])]
  simp only [← hrun, Bool.and_eq_true, bne_iff_ne, beq_iff_eq, and_assoc]

/-- A subframe in FRAME_SYNC, through whose codes and place the sync stands: its parity is judged, and its sample delivered. -/
theorem Dev.madiSubframe_sync {ind parityOk : Bool} {sample : Word} {valid : List Bool} {time sub : Nat} (hstate : d.frmState n = 4)
    (hcodes : (d.madiCodes n valid).frmState n = 4) (hplace : ((d.madiCodes n valid).madiPlace n ind).frmState n = 4) :
    d.madiSubframe n ind parityOk sample valid time sub =
      let f := (d.madiCodes n valid).madiPlace n ind
      let g := if parityOk then f else f.madiParity n
      let h := g.madiSample n (g.framer n).subCount sub (sample &&& 0xFFFFFFFC#32)
      h.setFramer n { h.framer n with subCount := (h.framer n).subCount + 1 } := by
  rw [Dev.madiSubframe, if_neg (by simp [hmadi])]
  simp [hstate, hcodes, hplace]

/-- A subframe in FRAME_HUNT: an indicator is judged, and the count goes on where the hunt does. -/
theorem Dev.madiSubframe_hunt {ind parityOk : Bool} {sample : Word} {valid : List Bool} {time sub : Nat} (hstate : d.frmState n = 2)
    (hstays : (if ind then d.madiHunt n time else d).frmState n = 2) :
    d.madiSubframe n ind parityOk sample valid time sub =
      let e := if ind then d.madiHunt n time else d
      e.setFramer n { e.framer n with subCount := (e.framer n).subCount + 1 } := by
  rw [Dev.madiSubframe, if_neg (by simp [hmadi])]
  simp [hstate, hstays]

theorem Dev.madiTimeout_sync (hstate : d.frmState n = 4) :
    d.madiTimeout n = (d.setFramer n { d.framer n with syncRun := 0 }).frmLoss n 1 :=
  if_pos (by simp [hmadi, hstate])

end

/-! ### ASI (R114, R124) -/

section
variable {d : Dev} {n : Nat} (hasi : d.isAsi n = true)
include hasi

/-- A comma in COMMA_HUNT fixes the character phase. -/
theorem Dev.asiChar_comma (p : Fin 10) (hstate : d.frmState n = 1) :
    d.asiChar n (.comma p) = (d.setFramer n { d.framer n with commaPhase := some p.val, badLast := [], pktRun := 0 }).setFrm n 2 :=
  (if_neg (by simp [hasi])).trans (if_pos (by simp [hstate]))

/-- Beyond COMMA_HUNT a data character counts as valid. -/
theorem Dev.asiChar_data (b : Byte) (hstate : d.frmState n ≠ 1) : d.asiChar n (.data b) = d.asiCount n true :=
  (if_neg (by simp [hasi])).trans (if_neg (by simp [hstate]))

theorem Dev.asiChar_invalid (hstate : d.frmState n ≠ 1) : d.asiChar n .invalid = d.asiCount n false :=
  (if_neg (by simp [hasi])).trans (if_neg (by simp [hstate]))

/-- A sync byte expected in PKT_SYNC is a unit of performance monitoring, and one that is found carries its packet on. -/
theorem Dev.asiSync_found {spacing : Nat} {packet : List Byte} (hstate : d.frmState n = 4) :
    d.asiSync n true spacing packet =
      let e := d.setPm n { d.pmOf n with units := (d.pmOf n).units + 1 }
      (e.setFramer n { d.framer n with pktMissing := 0 }).asiPacket n packet := by
  rw [Dev.asiSync, if_neg (by simp [hasi])]
  simp only [hstate]
  rfl

/-- A sync byte missing in PKT_SYNC is an errored unit; the fourth in a row loses the sync. -/
theorem Dev.asiSync_missing {spacing : Nat} {packet : List Byte} (hstate : d.frmState n = 4) :
    d.asiSync n false spacing packet =
      let e := (d.setPm n { d.pmOf n with units := (d.pmOf n).units + 1, err := (d.pmOf n).err + 1 }).inc (.lane n) .LANE_LINEERR_COUNT
      if 4 ≤ (d.framer n).pktMissing + 1 then
        ((e.setFramer n { d.framer n with pktMissing := 0, pktRun := 0 }).frmLoss n 2).dataSettle
      else e.setFramer n { d.framer n with pktMissing := (d.framer n).pktMissing + 1 } := by
  rw [Dev.asiSync, if_neg (by simp [hasi])]
  simp only [hstate]
  rfl

theorem Dev.asiSync_hunt {spacing : Nat} {packet : List Byte} (hstate : d.frmState n = 2) :
    d.asiSync n true spacing packet = d.asiHunt n spacing packet := by
  rw [Dev.asiSync, if_neg (by simp [hasi])]
  simp only [hstate]
  rfl

end

section
variable {d : Dev} {n : Nat}

/-- A character with fewer than 16 invalid ones among the last 64. -/
theorem Dev.asiCount_aligned {ok : Bool} (hfew : (((ok :: (d.framer n).badLast).take 64).filter (fun y => !y)).length < 16) :
    d.asiCount n ok =
      (if ok then d else d.inc (.lane n) .LANE_TRSERR_COUNT).setFramer n { d.framer n with badLast := (ok :: (d.framer n).badLast).take 64 } :=
  if_neg (Nat.not_le_of_lt hfew)

/-- The invalid character that makes 16 among the last 64 loses the alignment. -/
theorem Dev.asiCount_loses (hmany : 16 ≤ (((false :: (d.framer n).badLast).take 64).filter (fun y => !y)).length) :
    d.asiCount n false =
      (((d.inc (.lane n) .LANE_TRSERR_COUNT).setFramer n
        { d.framer n with badLast := [], commaPhase := none, pktRun := 0, pktMissing := 0 }).frmLoss n 1).dataSettle :=
  if_pos hmany

/-- An 0x47 that no run precedes, or at a spacing that ASI_PKT does not admit, is the first of a run. -/
theorem Dev.asiHunt_first {spacing : Nat} {packet : List Byte} (h : d.asiAdmits n spacing = false ∨ (d.framer n).pktRun = 0) :
    d.asiHunt n spacing packet = d.setFramer n { d.framer n with pktRun := 1, pktSpacing := spacing, pktMissing := 0 } := by
  have broken : (d.asiAdmits n spacing && (d.framer n).pktRun != 0) = false := by
    rcases h with h | h <;> simp [h]
  simp [Dev.asiHunt, broken]

/-- The third 0x47 of a run at one spacing enters PKT_SYNC, and its packet passes. -/
theorem Dev.asiHunt_third {spacing : Nat} {packet : List Byte} (hadmits : d.asiAdmits n spacing = true) (hrun : (d.framer n).pktRun = 2)
    (hspacing : spacing = (d.framer n).pktSpacing) :
    d.asiHunt n spacing packet =
      let e := d.setFramer n { d.framer n with pktRun := 3, pktMissing := 0 }
      ((((e.setFrm n 4).wr (.lane n) .LANE_FRMSTAT_SUBFMT (if spacing = 188 then 1 else 2)).setEvt (.lane n) 12).asiSettle n).asiPacket n packet := by
  subst hspacing
  simp [Dev.asiHunt, hadmits, hrun]

end

/-! ### Writes that a page's effect follows -/

/-- An accepted write of a register at or above 0x020, by what its page's effect makes of the stored block. -/
theorem Dev.mWrite_follows {d e : Dev} {m off : Nat} {p : Page} {v : Word} (h : d.admits m p off v = true) (ho : 0x020 ≤ off)
    (he : (d.stored m p off v).pageAfter m p off ((d.passed m).pageFmt p) (d.held m p off) v = e) :
    d.live (fun d => d.mWrite m p off 15 v) = e.okay m := by
  rw [Dev.mWrite_admits h ho, he]

/-- FRMCTL of a LANE page with CNT_CLR: FRMCNT, TRSERR, LINEERR and LNERR to 0 (R101). -/
theorem Dev.pageAfter_frmctl (d : Dev) (m n cur : Nat) (old : Word) :
    d.pageAfter m (.lane n) 0x088 cur old 1 = (((d.setReg (regKey (.lane n) 0 0x070) 0).setReg (regKey (.lane n) 0 0x074) 0).setReg
      (regKey (.lane n) 0 0x078) 0).setReg (regKey (.lane n) 0 0x07C) 0 := rfl

end Sys2Proof.Machine

namespace Sys2Proof.Proofs

open Sys2Proof.Machine

/-- Settles O37: each clause is the law of the operation that the event calls, under the clause's conditions; of CANDIDATE_EXPIRY
and LINE_RECEIVED it is their meaning itself. -/
theorem framerCommandsComplete : Obligations.FramerCommandsComplete := by
  unfold Obligations.FramerCommandsComplete
  intro d q
  refine ⟨fun n word bit lead trs offset line1 s h hm he hs hv hc hl => ?candidate,
    fun n word bit lead trs offset line1 s k h hm he hs hv hc hk => ?advance,
    fun n word bit lead trs offset line1 s k h hm he hs hv hc hk => ?confirm,
    fun n word bit lead trs offset line1 s len c h hm he hs hv hl => ?verified,
    fun n word bit lead trs offset line1 w h hm hs hx ht hw hp => ?eav,
    fun n word bit lead trs offset line1 w o h hm hs hx ht hw ho hp => ?sav,
    fun n k h => ?expiry, fun n h hs hm => ?verifyMissing,
    fun n eav h hm hs hl => ?missing, fun n eav h hm hs hl => ?lost, fun n eav h hm hs => ?missingSecond,
    fun n offset skew h hm hs hi => ?firstLine, fun n offset skew h hm hi hs => ?named, fun n offset skew h hm hi hs => ?watched,
    fun n x items h hm hs => ?line,
    fun n ap ff h hx hs hc => ?edhAbsent, fun n ap ff h hx hs hc ha => ?edhAgrees, fun n ap ff h hx hs hc ha => ?edhDiffers,
    fun n present ap ff h hx hs hc => ?edhOff,
    fun n line ws h hd hm hc hl hb => ?pidBad, fun n line ws h hd hm hc hl hlen hsum hbond => ?pidFirst,
    fun n line ws h hd hm hc hl hx hlen hsum hbond => ?pidSecond, fun m n h => ?cntClr,
    fun n p gap h hm hs hr => ?symbol, fun n p gap h hm hs hr hp hg => ?symbolThird,
    fun n ind ok sample valid time sub h hm hs hc hp => ?subframe, fun n ind ok sample valid time sub h hm hs he => ?subframeHunt,
    fun n h hm hs => ?timeout,
    fun n p h ha hs => ?comma, fun n b h ha hs hl => ?data, fun n h ha hs hl => ?invalid, fun n h ha hs hl => ?invalidLost,
    fun n spacing packet h ha hs => ?packet, fun n spacing packet h ha hs hp => ?packetMissing,
    fun n spacing packet h ha hs hp => ?packetLost, fun n spacing packet h ha hs hp => ?packetFirst,
    fun n spacing packet h ha hs hd hr hp => ?packetThird⟩
  case candidate =>
    exact State.live_eq q (Dev.live_rxDone h ((Dev.trsReceived_eav hm (.inl hs) he).trans (Dev.huntEav_new hv hc hl)))
  case advance =>
    exact State.live_eq q (Dev.live_rxDone h ((Dev.trsReceived_eav hm (.inl hs) he).trans (Dev.huntEav_advance hv hc hk)))
  case confirm =>
    exact State.live_eq q (Dev.live_rxDone h ((Dev.trsReceived_eav hm (.inl hs) he).trans (Dev.huntEav_confirm hs hv hc hk)))
  case verified =>
    exact State.live_eq q (Dev.live_rxDone h ((Dev.trsReceived_eav hm (.inr hs) he).trans (Dev.huntEav_verified hs hv hl)))
  case eav =>
    refine State.live_eq q (Dev.live_rxDone h ((Dev.trsReceived_whole hm hs hx ht).trans ?_))
    rw [hw]
    exact Dev.syncTrs_eav hp
  case sav =>
    refine State.live_eq q (Dev.live_rxDone h ((Dev.trsReceived_whole hm hs hx ht).trans ?_))
    rw [hw]
    exact Dev.syncTrs_sav ho hp
  case expiry => exact State.live_eq q (Dev.live_runs h)
  case verifyMissing => exact State.live_eq q (Dev.live_rxDone h (Dev.verifyMissing_verify hs hm))
  case missing => exact State.live_eq q (Dev.live_rxDone h ((Dev.trsMissing_first hm hs).trans (if_neg (Nat.not_le_of_lt hl))))
  case lost => exact State.live_eq q (Dev.live_rxDone h ((Dev.trsMissing_first hm hs).trans (if_pos hl)))
  case missingSecond => exact State.live_eq q (Dev.live_rxDone h (Dev.trsMissing_second hm hs))
  case firstLine =>
    refine State.live_eq q (Dev.live_rxDone h ((Dev.frameComplete_framed hm hs).trans ?_))
    exact congrArg (fun e : Dev => e.frameBegins n.val offset) (if_neg (Bool.eq_false_iff.1 hi))
  case named =>
    have state : d.frmState n.val = 3 := (d.lineOneShown_frmState n.isLt offset skew).symm.trans hs
    refine State.live_eq q (Dev.live_rxDone h ((Dev.frameComplete_framed hm (.inl state)).trans ?_))
    exact congrArg (fun e : Dev => e.frameBegins n.val offset) ((if_pos hi).trans (Dev.frameEnds_lineSync hs))
  case watched =>
    have state : d.frmState n.val = 4 := (d.lineOneShown_frmState n.isLt offset skew).symm.trans hs
    refine State.live_eq q (Dev.live_rxDone h ((Dev.frameComplete_framed hm (.inr state)).trans ?_))
    exact congrArg (fun e : Dev => e.frameBegins n.val offset) ((if_pos hi).trans (Dev.frameEnds_frameSync hs))
  case line => exact State.live_eq q (Dev.live_runs h)
  case edhAbsent => exact State.live_eq q (Dev.live_rxDone h (Dev.edhCheck_framed hx hs hc rfl))
  case edhAgrees => exact State.live_eq q (Dev.live_rxDone h (Dev.edhCheck_framed (packet := some (ap ++ ff)) (bad := false) hx hs hc (by simp [ha])))
  case edhDiffers =>
    refine State.live_eq q (Dev.live_rxDone h ((Dev.edhCheck_framed (packet := some (ap ++ ff)) (bad := true) hx hs hc (by simp [ha])).trans ?_))
    simp only [if_true, Option.isNone_some]
  case edhOff => exact State.live_eq q (Dev.live_rxDone h (Dev.edhCheck_framed hx hs hc rfl))
  case pidBad => exact State.live_eq q (Dev.live_rxDone h (Dev.pidReceived_bad hd hm hc (fun x => nomatch x) hl hb))
  case pidFirst => exact State.live_eq q (Dev.live_rxDone h (Dev.pidReceived_checks hd hm hc (fun x => nomatch x) hl hlen hsum hbond))
  case pidSecond => exact State.live_eq q (Dev.live_rxDone h (Dev.pidReceived_checks hd hm hc (fun _ => hx) hl hlen hsum hbond))
  case cntClr => exact State.live_eq q (Dev.mWrite_follows h (by decide) (Dev.pageAfter_frmctl _ _ n.val _ _))
  case symbol =>
    refine State.live_eq q (Dev.live_rxDone h ((Dev.madiSync_hunt hm hs rfl).trans ((if_pos hr).trans ?_)))
    simp only [if_pos hr]
  case symbolThird => exact State.live_eq q (Dev.live_rxDone h (Dev.madiSync_hunt hm hs (run := 3) (by simp [hr, hp, hg])))
  case subframe => exact State.live_eq q (Dev.live_rxDone h (Dev.madiSubframe_sync hm hs hc hp))
  case subframeHunt => exact State.live_eq q (Dev.live_rxDone h (Dev.madiSubframe_hunt hm hs he))
  case timeout => exact State.live_eq q (Dev.live_rxDone h (Dev.madiTimeout_sync hm hs))
  case comma => exact State.live_eq q (Dev.live_rxDone h (Dev.asiChar_comma ha p hs))
  case data => exact State.live_eq q (Dev.live_rxDone h ((Dev.asiChar_data ha b hs).trans (Dev.asiCount_aligned hl)))
  case invalid => exact State.live_eq q (Dev.live_rxDone h ((Dev.asiChar_invalid ha hs).trans (Dev.asiCount_aligned hl)))
  case invalidLost => exact State.live_eq q (Dev.live_rxDone h ((Dev.asiChar_invalid ha hs).trans (Dev.asiCount_loses hl)))
  case packet => exact State.live_eq q (Dev.live_rxDone h (Dev.asiSync_found ha hs))
  case packetMissing => exact State.live_eq q (Dev.live_rxDone h ((Dev.asiSync_missing ha hs).trans (if_neg (Nat.not_le_of_lt hp))))
  case packetLost => exact State.live_eq q (Dev.live_rxDone h ((Dev.asiSync_missing ha hs).trans (if_pos hp)))
  case packetFirst => exact State.live_eq q (Dev.live_rxDone h ((Dev.asiSync_hunt ha hs).trans (Dev.asiHunt_first hp)))
  case packetThird => exact State.live_eq q (Dev.live_rxDone h ((Dev.asiSync_hunt ha hs).trans (Dev.asiHunt_third hd hr hp)))

end Sys2Proof.Proofs
end

section
/-! PROOF. Tile Link lanes (R115, R116, R226 to R244): the block after each command, where its conditions hold. That a segment count of 7 acts as 6
(log 72), and that TL_FRAME_TRANSMIT ends the frame in progress with its operands (log 74), the model's assumption log adds. -/

namespace Sys2Proof.Machine

/-! ### Block lock and frame hunt (R115) -/

/-- An abort of the open packet writes CC_ERRCNT and event registers, and so leaves FRMSTAT, at 0x060. -/
theorem Dev.ccAbort_rd_frmstat (d : Dev) (n : Nat) {f : Fld} (hf : f.off = 0x060) : (d.ccAbort n).rd (.tll n) f = d.rd (.tll n) f := by
  unfold Dev.ccAbort
  split
  · rfl
  · calc ((d.inc (.tll n) .TLL_CC_ERRCNT_ABORT).setEvt (.tll n) 30).rd (.tll n) f
      _ = (d.inc (.tll n) .TLL_CC_ERRCNT_ABORT).rd (.tll n) f :=
        (Dev.setEvt_keeps _ (.tll n) 30).rd _ _ (not_mem_eventKeys _ _ (by rw [hf]; decide))
      _ = d.rd (.tll n) f :=
        (Dev.inc_keeps d (.tll n) .TLL_CC_ERRCNT_ABORT (List.mem_singleton_self _)).rd _ _
          (List.mem_singleton.not.2 (regKey_ne _ _ (by rw [hf]; decide)))

/-- A framer that leaves FRAME_SYNC writes its slots' registers, and leaves FRMSTAT. -/
theorem Dev.tlLeave_rd_frmstat (d : Dev) (n : Nat) {f : Fld} (hf : f.off = 0x060) : (d.tlLeave n).rd (.tll n) f = d.rd (.tll n) f := by
  have slot : ∀ (e : Dev) (g : Fld) (v : Nat) {k : Nat}, k < 16 → g.off = 0x240 → g.stride = 4 →
      (e.wr (.tll n) (Fld.nth g k) v).rd (.tll n) f = e.rd (.tll n) f := fun e g v k hk ho hs =>
    (Dev.wr_keeps e (.tll n) (Fld.nth g k) v (List.mem_singleton_self _)).rd _ _
      (List.mem_singleton.not.2 (regKey_ne _ _ (by simp only [hf, Fld.nth, ho, hs]; omega)))
  refine List.foldlRecOn (motive := fun e => Dev.rd e (.tll n) f = d.rd (.tll n) f) _ _ (d.ccAbort_rd_frmstat n hf) fun e he k hk => ?_
  have hk := List.mem_range.1 hk
  rw [slot _ .TLL_RXSLOT_BOND_ERR _ hk rfl rfl, slot _ .TLL_RXSLOT_STATE _ hk rfl rfl, he]

/-- What a Tile Link framer leaves behind as it enters state `s`, before the state is written. -/
def Dev.tlLeaving (d : Dev) (n s : Nat) : Dev :=
  let e := if d.delivers (144 + n) && s != 4 then d.setPm (144 + n) { d.pmOf (144 + n) with lofRaw := d.rxState (144 + n) != 0 } else d
  if e.delivers (144 + n) && s != 4 then e.tlLeave n else e

theorem Dev.tlLeaving_rd_frmstat (d : Dev) (n s : Nat) {f : Fld} (hf : f.off = 0x060) : (d.tlLeaving n s).rd (.tll n) f = d.rd (.tll n) f := by
  have left : ∀ e : Dev, e.rd (.tll n) f = d.rd (.tll n) f →
      (if e.delivers (144 + n) && s != 4 then e.tlLeave n else e).rd (.tll n) f = d.rd (.tll n) f := fun e he => by
    split
    · exact (e.tlLeave_rd_frmstat n hf).trans he
    · exact he
  refine left _ ?_
  split <;> rfl

theorem Dev.setFrm_tll (d : Dev) (n s : Nat) : d.setFrm (144 + n) s = (d.tlLeaving n s).wr (.tll n) .TLL_FRMSTAT_STATE s := by
  have page : ∀ e : Dev, e.rxWr (144 + n) .LANE_FRMSTAT_STATE .TLL_FRMSTAT_STATE s = e.wr (.tll n) .TLL_FRMSTAT_STATE s := by
    simp [Dev.rxWr, rxPage, rxFld]
  have link : decide (144 ≤ 144 + n) = true := by simp
  unfold Dev.setFrm
  dsimp only
  rw [if_neg (by simp), page, Nat.add_sub_cancel_left, link, Bool.and_true]
  rfl

/-- The framer's state and block lock stand in one register: entering a state keeps the lock. -/
theorem Dev.setFrm_tll_lock (d : Dev) (n s : Nat) :
    (d.setFrm (144 + n) s).on (.tll n) .TLL_FRMSTAT_BLOCK_LOCK = d.on (.tll n) .TLL_FRMSTAT_BLOCK_LOCK := by
  rw [d.setFrm_tll, Dev.on, Dev.rd_wr_other _ _ _ _ _ _ (by decide) (.inr (by decide)), d.tlLeaving_rd_frmstat n s rfl]
  rfl

theorem Dev.setFrm_tll_frmState (d : Dev) (n : Nat) {s : Nat} (hs : s < 8) : (d.setFrm (144 + n) s).frmState (144 + n) = s := by
  rw [d.setFrm_tll, Dev.frmState_tll, Dev.rd_wr _ _ _ _ (by decide)]
  exact Nat.mod_eq_of_lt hs

section
variable {d : Dev} {n : Nat}

/-- The block that a framer makes of the bits at its phase: descrambled, and counted in its frame. -/
def Dev.blockTaken (d : Dev) (n : Nat) (sync : BitVec 2) (payload : BitVec 64) : Dev :=
  let j := d.framer (144 + n)
  let x := descramble j.scram payload
  let f := d.setFramer (144 + n) { j with scram := x.2, blockIdx := (j.blockIdx + 1) % tlFrameBlocks }
  f.setTlr n { f.tlr n with sync := sync, block := x.1, pos := j.blockIdx }

theorem Dev.blockTaken_delivers (d : Dev) (n : Nat) (sync : BitVec 2) (payload : BitVec 64) (l : Nat) :
    (d.blockTaken n sync payload).delivers l = d.delivers l := rfl

/-- Without block lock a block is no more than its header. -/
theorem Dev.tlBlock_unlocked {bits : BitVec 132} {sub : Nat} {late : Bool} (hstate : d.frmState (144 + n) ≠ 0) {e : Dev}
    (he : d.tlHeader n ((bits >>> (d.framer (144 + n)).phase).extractLsb' 0 2 == 0b01 ||
      (bits >>> (d.framer (144 + n)).phase).extractLsb' 0 2 == 0b10) = e)
    (hlock : e.on (.tll n) .TLL_FRMSTAT_BLOCK_LOCK = false) : d.tlBlock n bits sub late = e := by
  subst he
  exact (if_neg (by simpa using hstate)).trans (if_pos (by rw [hlock]; rfl))

/-- With block lock the block is taken, and is data in FRAME_SYNC. -/
theorem Dev.tlBlock_locked {bits : BitVec 132} {sub : Nat} {late : Bool} (hstate : d.frmState (144 + n) ≠ 0) {e : Dev}
    (he : d.tlHeader n ((bits >>> (d.framer (144 + n)).phase).extractLsb' 0 2 == 0b01 ||
      (bits >>> (d.framer (144 + n)).phase).extractLsb' 0 2 == 0b10) = e)
    (hlock : e.on (.tll n) .TLL_FRMSTAT_BLOCK_LOCK = true) :
    d.tlBlock n bits sub late =
      let cut := bits >>> (d.framer (144 + n)).phase
      let g := e.blockTaken n (cut.extractLsb' 0 2) (cut.extractLsb' 2 64)
      if g.delivers (144 + n) then
        g.tlData n (e.framer (144 + n)).blockIdx sub late (descramble (e.framer (144 + n)).scram (cut.extractLsb' 2 64)).1
      else g := by
  subst he
  exact (if_neg (by simpa using hstate)).trans (if_neg (by rw [hlock]; decide))

/-- A valid header on the way to block lock. -/
theorem Dev.tlHeader_runs (hlock : d.on (.tll n) .TLL_FRMSTAT_BLOCK_LOCK = false) (hrun : (d.framer (144 + n)).hdrRun + 1 < 64) :
    d.tlHeader n true = d.setFramer (144 + n) { d.framer (144 + n) with hdrRun := (d.framer (144 + n)).hdrRun + 1 } := by
  simp [Dev.tlHeader, hlock, hrun]

theorem Dev.inc_hdrerr_lock (d : Dev) (n : Nat) :
    (d.inc (.tll n) .TLL_HDRERR_COUNT).on (.tll n) .TLL_FRMSTAT_BLOCK_LOCK = d.on (.tll n) .TLL_FRMSTAT_BLOCK_LOCK :=
  (Dev.inc_keeps d (.tll n) .TLL_HDRERR_COUNT (List.mem_singleton_self _)).on _ _ (List.mem_singleton.not.2 (regKey_ne _ _ (by decide)))

/-- An invalid header without block lock is counted, and the phase slips by a bit. -/
theorem Dev.tlHeader_slips (hlock : d.on (.tll n) .TLL_FRMSTAT_BLOCK_LOCK = false) :
    d.tlHeader n false = (d.inc (.tll n) .TLL_HDRERR_COUNT).setFramer (144 + n)
      { d.framer (144 + n) with hdrRun := 0, phase := ((d.framer (144 + n)).phase + 1) % 66 } := by
  simp [Dev.tlHeader, Dev.inc_hdrerr_lock, hlock]

/-- The 64th valid header in a row gives block lock, and frame hunt begins. -/
theorem Dev.tlHeader_locks (hlock : d.on (.tll n) .TLL_FRMSTAT_BLOCK_LOCK = false) (hrun : (d.framer (144 + n)).hdrRun + 1 = 64) :
    d.tlHeader n true = ((d.setFramer (144 + n) { d.framer (144 + n) with hdrRun := 0, hdrLast := [] }).wr (.tll n)
      .TLL_FRMSTAT_BLOCK_LOCK 1).tlHunt n := by
  simp [Dev.tlHeader, hlock, hrun]

theorem Dev.tlHunt_lock (d : Dev) (n : Nat) : (d.tlHunt n).on (.tll n) .TLL_FRMSTAT_BLOCK_LOCK = d.on (.tll n) .TLL_FRMSTAT_BLOCK_LOCK :=
  d.setFrm_tll_lock n 2

/-- A framer in frame hunt delivers nothing. -/
theorem Dev.tlHunt_delivers (d : Dev) (n : Nat) : (d.tlHunt n).delivers (144 + n) = false := by
  have state : (d.tlHunt n).frmState (144 + n) = 2 := d.setFrm_tll_frmState n (by decide)
  rw [Dev.delivers, state]
  rfl

/-- The block whose header gives block lock is taken at the start of frame hunt, and is no data. -/
theorem Dev.tlBlock_locks {bits : BitVec 132} {sub : Nat} {late : Bool} (hstate : d.frmState (144 + n) ≠ 0)
    (hlock : d.on (.tll n) .TLL_FRMSTAT_BLOCK_LOCK = false)
    (hvalid : ((bits >>> (d.framer (144 + n)).phase).extractLsb' 0 2 == 0b01 ||
      (bits >>> (d.framer (144 + n)).phase).extractLsb' 0 2 == 0b10) = true) (hrun : (d.framer (144 + n)).hdrRun + 1 = 64) :
    d.tlBlock n bits sub late =
      let cut := bits >>> (d.framer (144 + n)).phase
      let e := ((d.setFramer (144 + n) { d.framer (144 + n) with hdrRun := 0, hdrLast := [] }).wr (.tll n) .TLL_FRMSTAT_BLOCK_LOCK 1).tlHunt n
      e.blockTaken n (cut.extractLsb' 0 2) (cut.extractLsb' 2 64) := by
  have lock : ∀ e : Dev, ((e.wr (.tll n) .TLL_FRMSTAT_BLOCK_LOCK 1).tlHunt n).on (.tll n) .TLL_FRMSTAT_BLOCK_LOCK = true := fun e => by
    rw [Dev.tlHunt_lock, Dev.on, Dev.rd_wr _ _ _ _ (by decide)]
    decide
  have header := (congrArg (d.tlHeader n) hvalid).trans (Dev.tlHeader_locks hlock hrun)
  rw [Dev.tlBlock_locked hstate header (lock _)]
  dsimp only
  rw [Dev.blockTaken_delivers, Dev.tlHunt_delivers]
  rfl

end

/-! ### Rows and overhead (R227 to R231) -/

section
variable {d : Dev} {n : Nat}

/-- A marker in frame hunt starts its confirmation. -/
theorem Dev.tlRow_hunt (hstate : d.frmState (144 + n) = 2) (hmarker : isMarker (d.tlr n).sync (d.tlr n).block = true) :
    d.tlRow n = (d.setFrm (144 + n) 3).setFramer (144 + n)
      { d.framer (144 + n) with markerRun := 1, markerMiss := 0, rowBad := 0, blockIdx := 1 } := by
  simp only [Dev.tlRow, hstate, hmarker, if_true]

/-- The third marker at the frame's start enters FRAME_SYNC. -/
theorem Dev.tlRow_thirdMarker (hstate : d.frmState (144 + n) = 3) (hpos : (d.tlr n).pos = 0)
    (hmarker : isMarker (d.tlr n).sync (d.tlr n).block = true) (hrun : (d.framer (144 + n)).markerRun = 2) : d.tlRow n = d.tlSync n := by
  simp [Dev.tlRow, hstate, hpos, hmarker, hrun]

theorem Dev.tlRow_sync (hstate : d.frmState (144 + n) = 4) (hpos : (d.tlr n).pos % 402 = 0) : d.tlRow n = d.tlSyncRow n ((d.tlr n).pos / 402) := by
  simp [Dev.tlRow, hstate, hpos]

/-- Row 2 of a frame that follows one with a BIP-32: the bits that differ are counted, and are REI and an errored unit. -/
theorem Dev.tlBip_row {b : BitVec 32} (hrow : d.tlAt n 2 = true) (hprev : (d.tlr n).bipPrev = some b) :
    d.tlBip n =
      let r := d.tlr n
      let k := bitCount (BitVec.ofNat 32 (blockByte r.block 1 * 2 ^ 24 + blockByte r.block 2 * 2 ^ 16 + blockByte r.block 3 * 2 ^ 8 +
        blockByte r.block 4) ^^^ b)
      let e := (d.add (.tll n) .TLL_BIPCNT_COUNT k).setTlr n { r with rei := k, bipPrev := none }
      e.setPm (144 + n) { e.pmOf (144 + n) with
        units := (e.pmOf (144 + n)).units + 1, err := if k == 0 then (e.pmOf (144 + n)).err else (e.pmOf (144 + n)).err + 1 } := by
  simp only [Dev.tlBip, hprev, hrow]

/-- The third frame with one SRQ pair accepts it. -/
theorem Dev.tlSrq_accepts {x : Nat} (hrow : d.tlAt n 3 = true) (hok : (d.tlr n).rowOk = true)
    (hx : blockByte (d.tlr n).block 1 * 256 + blockByte (d.tlr n).block 2 = x) (hprev : (d.tlr n).srqPrev = [some x, some x]) :
    d.tlSrq n =
      let p := Page.tll n
      let e := ((d.wr p .TLL_OH_RX_SRQ1_RAW (x / 256)).wr p .TLL_OH_RX_SRQ2_RAW (x % 256)).setTlr n
        { d.tlr n with srqPrev := [some x, some x], srqRun := 0 }
      let ch := e.rd p .TLL_OH_RX_SRQ1_ACC != x / 256 || e.rd p .TLL_OH_RX_SRQ2_ACC != x % 256
      let e := ((e.wr p .TLL_OH_RX_SRQ1_ACC (x / 256)).wr p .TLL_OH_RX_SRQ2_ACC (x % 256)).wrOn p .TLL_OH_STAT_SRQ_FAIL false
      (e.setEvtIf ch p 27).tlSettle n := by
  unfold Dev.tlSrq
  simp [hrow, hok, hx, hprev]

/-- Row 4: RDI is filtered over three frames, and REI counted. -/
theorem Dev.tlRdi_row (hrow : d.tlAt n 4 = true) :
    d.tlRdi n =
      let r := d.tlr n
      let rdi := blockByte r.block 1 % 2 == 1
      let run := if rdi = r.rdiLast then r.rdiRun + 1 else 1
      let e := (d.setTlr n { r with rdiLast := rdi, rdiRun := run }).add (.tll n) .TLL_REICNT_COUNT (blockByte r.block 2)
      if 3 ≤ run ∧ e.on (.tll n) .TLL_OH_STAT_RDI_RX ≠ rdi then
        ((e.wrOn (.tll n) .TLL_OH_STAT_RDI_RX rdi).setEvtIf rdi (.tll n) 26).tlSettle n
      else e := by
  unfold Dev.tlRdi
  dsimp only
  rw [if_neg (by simp [hrow])]
  simp only [Bool.and_eq_true, decide_eq_true_eq, bne_iff_ne, beq_iff_eq]

/-- Row 1: a trace is remembered, and accepted when it stands the third time. -/
theorem Dev.tlTrace_row {x run : Nat} (hrow : d.tlAt n 1 = true)
    (hx : (List.range 7).foldl (fun a i => a * 256 + blockByte (d.tlr n).block (i + 1)) 0 = x)
    (hrun : (if x = (d.tlr n).trace ∧ (d.tlr n).traceRun ≠ 0 then (d.tlr n).traceRun + 1 else 1) = run) :
    d.tlTrace n =
      let p := Page.tll n
      let e := d.setTlr n { d.tlr n with trace := x, traceRun := run }
      if run < 3 then e
      else
        let f := ((e.wr p .TLL_TRACE_RX0_ID_LO (x / 256)).wr p .TLL_TRACE_RX1_LANE x).wr p .TLL_TRACE_RX1_ID_HI (x / 2 ^ 40)
        (f.setTlr n { f.tlr n with traceOk := true }).timSettle n := by
  unfold Dev.tlTrace
  dsimp only
  rw [if_neg (by simp [hrow])]
  simp only [hx, Bool.and_eq_true, beq_iff_eq, bne_iff_ne, hrun]
  rfl

end

/-! ### The communication channel, the JCW and header bricks (R232 to R239) -/

section
variable {d : Dev} {n : Nat}

/-- A segment of a consistent row on an enabled channel joins the open packet, or the one that it opens. -/
theorem Dev.ccSegment_joins {c : Nat} {bs : List Byte} (hdel : d.delivers (144 + n) = true) (hpos : (d.tlr n).pos % 402 = 0)
    (hrow : 8 ≤ (d.tlr n).pos / 402) (hok : (d.tlr n).rowOk = true) (hen : d.on (.tll n) .TLL_CC_CFG_ENABLE = true)
    (hc : blockByte (d.tlr n).block 1 = c) (hctl : c ≠ 0) (hopen : (if c.testBit 7 then some [] else (d.tlr n).cc) = some bs) :
    d.ccSegment n =
      let all := bs ++ (List.range (min 6 (c % 8))).map (fun y => BitVec.ofNat 8 (blockByte (d.tlr n).block (2 + y)))
      let e := if c.testBit 7 then d.ccAbort n else d
      let f := e.setTlr n { e.tlr n with cc := some all }
      if 4100 < all.length then f.ccAbort n else if c.testBit 6 then f.ccEnd n all else f := by
  subst hc
  unfold Dev.ccSegment
  dsimp only
  rw [if_neg (by simp [hdel, hpos, hrow, hok, hen]), if_neg (by simpa using hctl)]
  simp only [hopen]

/-- With nothing being sent, a whole packet of TXQ is taken and cut into segments with its CRC-32. -/
theorem Dev.ccTransmit_takes {bs : List Byte} (hen : d.on (.tll n) .TLL_CC_CFG_ENABLE = true) (htx : d.rd (.tll n) .TLL_LSTAT_TX_STATE = 2)
    (hidle : (d.tlt n).queue = []) (hready : (d.readPoint (d.rd (.tll n) .TLL_CC_CFG_TXQ)).isSome = true)
    {x : Dev × List Word × Bool × Bool × Nat} (hx : Dev.takePkt 65536 d (d.rd (.tll n) .TLL_CC_CFG_TXQ) [] false false = x)
    (hbs : (x.2.1.flatMap wordBytes).take (pktBytes x.2.1.length x.2.2.2.2) = bs) (hlen : bs.length ≤ 4096) :
    d.ccTransmit n =
      x.1.setTlt n { x.1.tlt n with queue := ccSegs ((bs ++ crcTail (crc32Bytes bs)).length + 1) true (bs ++ crcTail (crc32Bytes bs)) } := by
  obtain ⟨point, hpoint⟩ := Option.isSome_iff_exists.1 hready
  unfold Dev.ccTransmit
  dsimp only
  rw [if_neg (by simp [hen, htx, hidle]), hpoint]
  simp only [hx, hbs, if_neg (Nat.not_lt_of_le hlen)]

theorem Dev.jcwReceived_row (hdel : d.delivers (144 + n) = true) (hpos : (d.tlr n).pos % 402 = 1) :
    d.jcwReceived n = (List.range 16).foldl (fun (e : Dev) k =>
      match jcwCode ((d.tlr n).jcw.toNat / 16 ^ k % 16) with
      | some (j, fixed) =>
        let f := if fixed then e.inc (.tll n) .TLL_JCWCNT_CORR else e
        f.setRxs n k { f.rxs n k with j := j }
      | none => (e.inc (.tll n) .TLL_JCWCNT_UNCORR).setEvt (.tll n) 25) d :=
  if_neg (by simp [hdel, hpos])

/-- The header brick of a slot that is not IDLE is judged, and the bricks behind it go on. -/
theorem Dev.headerReceived_judged {k sub : Nat} {late : Bool} {b : Brick} (hhdr : (d.rxs n k).hdr = some b)
    (hstate : d.slotRd n k .TLL_RXSLOT_STATE ≠ 0) :
    d.headerReceived n k sub late = ((d.headerBrick n k b.payload).tlSettle n).slotFlush n k sub late := by
  simp only [Dev.headerReceived, hhdr]
  exact if_neg (by simpa using hstate)

end

/-! ### The transmitter's frames, and writes (R116, R226, R244) -/

section
variable {d : Dev} {n : Nat}

/-- A lane that sends: the TXSLOT writes that wait take effect, and the next frame starts. -/
theorem Dev.tlFrame_running (htx : d.rd (.tll n) .TLL_LSTAT_TX_STATE = 2) :
    d.tlFrame n =
      let e := ((d.tlFrameEnd n).tlt n).waiting.foldl (fun (y : Dev) k => y.txApply n k) (d.tlFrameEnd n)
      let t := e.tlt n
      let rdi := !(e.delivers (144 + n)) || e.on (.tll n) .TLL_OH_CFG_RDI_FORCE
      ((e.wrOn (.tll n) .TLL_OH_STAT_RDI_TX rdi).setTlt n { t with
        waiting := [], run := true, headers := (List.range 16).map (fun k => headBrick (e.txHeader n k).payload), sentBip := t.bip
        srq1 := (e.txSrq n).1, srq2 := (e.txSrq n).2, rdi := rdi, rei := (e.tlr n).rei
        trace := BitVec.ofNat 56 (e.rd (.tll n) .TLL_TRACE_TX1_ID_HI * 2 ^ 40 + e.rd (.tll n) .TLL_TRACE_TX0_ID_LO * 256 +
          e.rd (.tll n) .TLL_TRACE_TX1_LANE)
        segs := t.queue.take 88, queue := t.queue.drop 88 }).outSettle.dataSettle := by
  simp only [Dev.tlFrame, htx, beq_self_eq_true, Bool.not_true, Bool.false_eq_true, if_false]

/-- A lane that does not send: the writes take effect, and no frame starts. -/
theorem Dev.tlFrame_silent (htx : d.rd (.tll n) .TLL_LSTAT_TX_STATE ≠ 2) :
    d.tlFrame n =
      let e := ((d.tlFrameEnd n).tlt n).waiting.foldl (fun (y : Dev) k => y.txApply n k) (d.tlFrameEnd n)
      (e.setTlt n { e.tlt n with waiting := [], run := false, headers := [], segs := [] }).outSettle.dataSettle := by
  simp only [Dev.tlFrame, beq_false_of_ne htx, Bool.not_false, if_true]

end

theorem Dev.pageAfter_txslot (d : Dev) (m n cur : Nat) {k : Nat} (hk : k < 16) (old v : Word) :
    d.pageAfter m (.tll n) (0x200 + 4 * k) cur old v = d.txslotAfter n k old := by
  have below : ∀ {off : Nat}, off < 0x200 → ¬ (0x200 + 4 * k == off) = true := fun h => by simp; omega
  unfold Dev.pageAfter Dev.tllAfter
  dsimp only
  rw [if_neg (below (by decide)), if_neg (below (by decide)), if_neg (below (by decide)), if_neg (below (by decide)), if_neg (below (by decide)),
    if_neg (below (by decide)), if_pos (by simp; omega), Nat.add_sub_cancel_left, Nat.mul_div_cancel_left _ (by decide)]

theorem Dev.pageAfter_ohctl (d : Dev) (m n cur : Nat) (old : Word) : d.pageAfter m (.tll n) 0x30C cur old 1 = d.ohCntClr n := rfl

/-- FRMCTL of a TLL page with CNT_CLR: FRMCNT, HDRERR and ROWERR to 0 (R116). -/
theorem Dev.pageAfter_tllFrmctl (d : Dev) (m n cur : Nat) (old : Word) :
    d.pageAfter m (.tll n) 0x070 cur old 1 = ((d.setReg (regKey (.tll n) 0 0x064) 0).setReg (regKey (.tll n) 0 0x068) 0).setReg
      (regKey (.tll n) 0 0x06C) 0 := rfl

/-- An event of a Tile Link lane, while the core domains run: what follows the lane follows the state that the event leaves. -/
theorem Dev.live_tlSettle {d e : Dev} {f : Dev → Dev} {n : Nat} (h : d.stopped = false) (he : f d = e) :
    d.live (fun d => (f d).tlSettle n) = e.tlSettle n := by
  rw [Dev.live_runs h, he]

end Sys2Proof.Machine

namespace Sys2Proof.Proofs

open Sys2Proof.Machine

/-- Settles O38: each clause is the law of the operation that the command calls, under the clause's conditions. -/
theorem tileLinkCommandsComplete : Obligations.TileLinkCommandsComplete := by
  unfold Obligations.TileLinkCommandsComplete
  intro d q
  refine ⟨fun n lo hi sub late h hs hl hv hr => ?headerRuns, fun n lo hi sub late h hs hl hv => ?headerSlips,
    fun n lo hi sub late h hs hl hv hr => ?headerLocks, fun n lo hi sub late h hs hf hl he => ?block,
    fun n h hs hm => ?marker, fun n h hs hp hm hr => ?thirdMarker, fun n h hs hp => ?row, fun n b h ha hb => ?bip,
    fun n h ha ho hx => ?srq, fun n h ha => ?rdi, fun n h ha hr => ?trace, fun n h ha hx hr => ?traceThird,
    fun n bs h hd hp hr ho he hc hb => ?segment, fun n h he ht hq hr hl => ?transmit, fun n h hd hp => ?jcw,
    fun n k sub late b h hb hs => ?header, fun n others h => ?frames, fun n h ht => ?frame, fun n h ht => ?frameSilent,
    fun m n k v h => ?txslot, fun m n h => ?ohctl, fun m n h => ?frmctl⟩
  case headerRuns =>
    refine State.live_eq q (Dev.live_tlSettle h (Dev.tlBlock_unlocked hs ?_ hl))
    rw [hv]
    exact Dev.tlHeader_runs hl hr
  case headerSlips =>
    refine State.live_eq q (Dev.live_tlSettle h (Dev.tlBlock_unlocked hs ?_ ((d.inc_hdrerr_lock n.val).trans hl)))
    rw [hv]
    exact Dev.tlHeader_slips hl
  case headerLocks => exact State.live_eq q (Dev.live_tlSettle h (Dev.tlBlock_locks hs hl hv hr))
  case block => exact State.live_eq q (Dev.live_tlSettle h (Dev.tlBlock_locked hs rfl he))
  case marker => exact State.live_eq q (Dev.live_tlSettle h (Dev.tlRow_hunt hs hm))
  case thirdMarker => exact State.live_eq q (Dev.live_tlSettle h (Dev.tlRow_thirdMarker hs hp hm hr))
  case row => exact State.live_eq q (Dev.live_tlSettle h (Dev.tlRow_sync hs hp))
  case bip => exact State.live_eq q ((Dev.live_runs h).trans (Dev.tlBip_row ha hb))
  case srq => exact State.live_eq q (Dev.live_tlSettle h (Dev.tlSrq_accepts ha ho rfl hx))
  case rdi => exact State.live_eq q (Dev.live_tlSettle h (Dev.tlRdi_row ha))
  case trace => exact State.live_eq q (Dev.live_tlSettle h ((Dev.tlTrace_row ha rfl rfl).trans (if_pos hr)))
  case traceThird => exact State.live_eq q (Dev.live_tlSettle h (Dev.tlTrace_row ha rfl (run := 3) (by simp [hx, hr])))
  case segment => exact State.live_eq q ((Dev.live_runs h).trans (Dev.ccSegment_joins hd hp hr ho he rfl hc hb))
  case transmit => exact State.live_eq q ((Dev.live_runs h).trans (Dev.ccTransmit_takes he ht hq hr rfl rfl hl))
  case jcw => exact State.live_eq q ((Dev.live_runs h).trans (Dev.jcwReceived_row hd hp))
  case header => exact State.live_eq q (Dev.live_tlSettle h (Dev.headerReceived_judged hb hs))
  case frames => exact State.live_eq q (Dev.live_runs h)
  case frame =>
    refine State.live_eq q ((Dev.live_runs h).trans ?_)
    rw [List.foldl_cons, List.foldl_nil, Dev.tlFrame_running ht]
  case frameSilent =>
    refine State.live_eq q ((Dev.live_runs h).trans ?_)
    rw [List.foldl_cons, List.foldl_nil, Dev.tlFrame_silent ht]
  case txslot =>
    have hk := k.isLt
    exact State.live_eq q (Dev.mWrite_follows h (by omega) (Dev.pageAfter_txslot _ _ n.val _ hk _ v))
  case ohctl => exact State.live_eq q (Dev.mWrite_follows h (by decide) (Dev.pageAfter_ohctl _ _ n.val _ _))
  case frmctl => exact State.live_eq q (Dev.mWrite_follows h (by decide) (Dev.pageAfter_tllFrmctl _ _ n.val _ _))

end Sys2Proof.Proofs
end

section
/-! PROOF. The audio fabric (R205 to R221): the block after each command, where its conditions hold. -/

namespace Sys2Proof.Machine

/-! ### The context windows (R152, R205) -/

/-- The window at 0x001_0000 holds two words that can be written for each audio context: its shadow and its group. -/
theorem Dev.ctxPut_audio (d : Dev) {s k : Nat} (hs : s < 53248) (hk : k < 2) (v : Word) :
    d.ctxPut (0x10000 + 8 * s + 4 * k) v = d.audCtxPut s k v := by
  have slot : (0x10000 + 8 * s + 4 * k - 0x10000) / 8 = s := by omega
  have word : (0x10000 + 8 * s + 4 * k) % 8 / 4 = k := by omega
  rw [Dev.ctxPut, if_neg (by omega), if_pos (by simp; omega), slot, word]

/-- The window at 0x008_0000 holds one word that can be written for each ancillary context: its shadow. -/
theorem Dev.ctxPut_anc (d : Dev) {i : Nat} (hi : i < 2944) (v : Word) : d.ctxPut (0x80000 + 8 * i) v = d.ancCtxPut i v := by
  have ctx : (0x80000 + 8 * i - 0x80000) / 8 = i := by omega
  have word : ¬((0x80000 + 8 * i) % 8 / 4 == 1) = true := by simp
  rw [Dev.ctxPut, if_neg (by omega), if_neg (by simp; omega), if_pos (by simp; omega), if_neg word, ctx]

/-- An accepted write of a context word, by what the window makes of the block. -/
theorem Dev.mCtxWrite_puts {d e : Dev} {m off : Nat} {v : Word} (h : d.ctxAdmits m off v = true) (he : (d.ctxPassed m).ctxPut off v = e) :
    d.live (fun d => d.mCtxWrite m off 15 v) = e.okay m := by
  rw [Dev.mCtxWrite_admits h, he]

/-! ### Commits, ramps, periods and meters (R208, R212, R214, R220) -/

/-- A due audio context leaves its group's list and commits; members from 2000 up are slots. -/
theorem Dev.commitNow_slot {d : Dev} {g s : Nat} (h : d.commitDue g (2000 + s) = true) :
    d.commitNow g (2000 + s) =
      (((d.setTake g { d.take g with left := (d.take g).left.filter (· != 2000 + s) }).commitSlot s).takeStep g).commitSettle := by
  have member : ∀ e : Dev, e.commitMember (2000 + s) = e.commitSlot s := fun e => by
    rw [Dev.commitMember, if_neg (by omega), Nat.add_sub_cancel_left]
  rw [Dev.commitNow, if_neg (by simp [h])]
  exact congrArg (fun e : Dev => (e.takeStep g).commitSettle) (member _)

theorem Dev.rampEnd_done {d : Dev} {s : Nat} (h : (d.slot s).n ≤ (d.slot s).i) : d.rampEnd s = d.setSlot s { d.slot s with n := 0, i := 0 } :=
  if_neg (Nat.not_lt_of_le h)

theorem Dev.samplePeriod_runs {d : Dev} (lates : List AudioLate) (h : d.lanesIdle = false) :
    d.samplePeriod lates = (List.range 16).foldl (fun (e : Dev) n => e.tlAudioPeriod n) (d.audioPeriod lates).outPeriod :=
  if_neg (Bool.eq_false_iff.1 h)

/-- While the lanes are idle a period passes, and nothing else. -/
theorem Dev.samplePeriod_idle {d : Dev} (lates : List AudioLate) (h : d.lanesIdle = true) :
    d.samplePeriod lates = { d with period := d.period + 1 } :=
  if_pos h

/-- The window of an enabled tap ends: PEAK and LEVEL are written, and the next window is a whole one. -/
theorem Dev.meterEnd_enabled {d : Dev} {p : Nat} (htap : d.rdB .afab p .AFAB_MTR_CFG_ENABLE ≠ 0) (hpage : d.enabled .afab = true) :
    d.meterEnd p =
      let i := d.meter p
      let e := (d.wrB .afab p .AFAB_MTR_PEAK_VALID (if i.good && 0 < i.count then 1 else 0)).wrB .afab p .AFAB_MTR_PEAK_PEAK
        (min i.peak (2 ^ 24 - 1))
      (e.wrB .afab p .AFAB_MTR_LEVEL_RMS (rmsSteps i.sum i.count)).setMeter p { i with count := 0, peak := 0, sum := 0, good := true } :=
  if_neg (by simp [htap, hpage])

/-! ### Writes of the AFAB page (R215, R217, R221) -/

theorem Dev.pageAfter_afabDepth (d : Dev) (m cur : Nat) (old v : Word) : d.pageAfter m .afab 0x020 cur old v = d.depthWrite := rfl

theorem Dev.pageAfter_afabCtl (d : Dev) (m cur : Nat) (old : Word) : d.pageAfter m .afab 0x024 cur old 1 = d.afabCntClr := rfl

/-- PAGE_CTRL of AFAB: ENABLE = 0 stops the fabric, and ENABLE = 1 lets it go on. -/
theorem Dev.pageAfter_afabCtrl (d : Dev) (m cur : Nat) (old v : Word) :
    d.pageAfter m .afab 0x008 cur old v = if Fld.PAGE_CTRL_ENABLE.get v = 0 then d.afabStop else d := by
  simp only [← beq_iff_eq (a := Fld.PAGE_CTRL_ENABLE.get v)]
  rfl

end Sys2Proof.Machine

namespace Sys2Proof.Proofs

open Sys2Proof.Machine

/-- Settles O41: each clause is the law of the operation that the command calls, under the clause's conditions. -/
theorem audioCommandsComplete : Obligations.AudioCommandsComplete := by
  unfold Obligations.AudioCommandsComplete
  intro d q
  refine ⟨fun m s v h => ?shadow, fun m s v h => ?group, fun g s h hc => ?commit, fun s h hn => ?ramp, fun lates h hl => ?period,
    fun lates h hl => ?periodIdle, fun m v h => ?depth, fun m v h hs he => ?enable, fun m v h hs he => ?disable, fun p h ht hp => ?meter,
    fun m h => ?cntClr⟩
  case shadow => exact State.live_eq q (Dev.mCtxWrite_puts h (Dev.ctxPut_audio _ s.isLt (k := 0) (by decide) v))
  case group => exact State.live_eq q (Dev.mCtxWrite_puts h (Dev.ctxPut_audio _ s.isLt (k := 1) (by decide) v))
  case commit => exact State.live_eq q ((Dev.live_runs h).trans (Dev.commitNow_slot hc))
  case ramp => exact State.live_eq q ((Dev.live_runs h).trans (Dev.rampEnd_done hn))
  case period => exact State.live_eq q ((Dev.live_runs h).trans (Dev.samplePeriod_runs lates hl))
  case periodIdle => exact State.live_eq q ((Dev.live_runs h).trans (Dev.samplePeriod_idle lates hl))
  case depth => exact State.live_eq q (Dev.mWrite_follows h (by decide) (Dev.pageAfter_afabDepth _ _ _ _ v))
  case enable =>
    refine State.live_eq q ((Dev.mWrite_ctrl h hs).trans ?_)
    rw [Dev.pageAfter_afabCtrl, if_neg (by simp [he])]
  case disable =>
    refine State.live_eq q ((Dev.mWrite_ctrl h hs).trans ?_)
    rw [Dev.pageAfter_afabCtrl, if_pos he]
  case meter => exact State.live_eq q ((Dev.live_runs h).trans (Dev.meterEnd_enabled ht hp))
  case cntClr => exact State.live_eq q (Dev.mWrite_follows h (by decide) (Dev.pageAfter_afabCtl _ _ _ _))

end Sys2Proof.Proofs
end

section
/-! PROOF. The course aligner, ancillary data and embedded audio (R128 to R134, R144 to R152, R164): the block after each command, where its
conditions hold. That UNMAPPED counts 4 for each set of samples (log 66), and that a discarded packet whose checksum is wrong counts in CS_ERR
alone (log 119), the model's assumption log adds. -/

namespace Sys2Proof.Machine

/-! ### The course aligner (R128, R130, R134) -/

/-- The tiles whose pages follow a line start of tile `t`: those of its bond, or itself alone. -/
def Dev.lineStartTiles (d : Dev) (t : Nat) : List Nat :=
  match d.tileBond t with
  | [] => [t]
  | b => b

section
variable {d : Dev} {t : Nat} {pos : Int}

/-- A tile of an unframed lane, or of one that carries data, has no course. -/
theorem Dev.tileLineStart_none (h : d.tileFramed t = false ∨ d.tileData t = true) : d.tileLineStart t pos = d :=
  if_pos (by rcases h with h | h <;> simp [h])

/-- A line start of a framed tile: its pointer is measured, its bond is stepped by the lead, and it is justified; its pages follow. -/
theorem Dev.tileLineStart_framed (hframed : d.tileFramed t = true) (hdata : d.tileData t = false) :
    d.tileLineStart t pos =
      let e := (d.setTile t { (d.tile t).measure (d.tileWindow t).1 (d.tileWindow t).2 pos with dom := d.tileDom t }).setPos t pos
      let f := if d.tileLead t = t then e.bondStep t (d.lineStartTiles t) ((d.tile t).posSeen && (d.tile t).dom != d.tileDom t) else e
      let g := if f.crs t = 0 then f.setPos t 0 else f.justify t pos
      ((tilePages (d.lineStartTiles t)).foldl (fun (y : Dev) l => y.defSettle l) g).protSettle := by
  rw [Dev.tileLineStart, if_neg (by simp [hframed, hdata])]
  simp only [beq_iff_eq]
  rfl

/-- TILE_LINE_START, while the core domains run: what follows a line start follows the state that the aligner leaves. -/
theorem Dev.live_lineStart {e : Dev} {line : Nat} (h : d.stopped = false) (he : d.tileLineStart t pos = e) :
    d.live (fun d => ((d.tileLineStart t pos).lineMark t line).rxFollow) = (e.lineMark t line).rxFollow := by
  rw [Dev.live_runs h, he]

end

theorem Dev.pageAfter_aligncfg (d : Dev) (m n cur : Nat) (old v : Word) : d.pageAfter m (.lane n) 0x0A0 cur old v = d.laneSettle n := rfl

/-- TDOMSEL, at 0x0A0 and 0x0A4 of a TLL page, takes effect at the tiles' next line starts. -/
theorem Dev.pageAfter_tdomsel (d : Dev) (m n cur : Nat) (half : Fin 2) (old v : Word) :
    d.pageAfter m (.tll n) (0x0A0 + 4 * half.val) cur old v = d := by
  match half with
  | 0 => rfl
  | 1 => rfl

/-- LANE and TLL pages hold ALIGN_X at one offset, and nothing follows its write at once. -/
theorem Dev.pageAfter_alignX (d : Dev) (m l cur : Nat) (old v : Word) : d.pageAfter m (rxPage l) 0x420 cur old v = d := by
  unfold rxPage
  split <;> rfl

/-- LANE and TLL pages hold CRSCTL at one offset, and CNT_CLR clears the counts of its lane. -/
theorem Dev.pageAfter_crsctl (d : Dev) (m l cur : Nat) (old : Word) : d.pageAfter m (rxPage l) 0x0AC cur old 1 = d.crsCntClr l := by
  unfold rxPage
  split
  next => rfl
  next h =>
    change d.crsCntClr (144 + (l - 144)) = d.crsCntClr l
    rw [Nat.add_sub_cancel' (Nat.le_of_not_lt h)]

/-! ### Ancillary packets and their counts (R144 to R146, R152) -/

theorem rxPage_lane {l : Nat} (h : l < 144) : rxPage l = .lane l := if_pos h

theorem rxPage_tll {l : Nat} (h : ¬l < 144) : rxPage l = .tll (l - 144) := if_neg h

theorem Dev.pageAfter_laneAncctl (d : Dev) (m n cur : Nat) (old : Word) : d.pageAfter m (.lane n) 0x104 cur old 1 = d.ancCntClr n := rfl

theorem Dev.pageAfter_tllAncctl (d : Dev) (m n cur : Nat) (old : Word) : d.pageAfter m (.tll n) 0x144 cur old 1 = d.ancCntClr (144 + n) := rfl

/-- Where a packet of the vertical blanking stands is kept with the framer: `dc` user words and seven others, from word `start` of stream `s`. -/
def Dev.vspanned (d : Dev) (n s start dc : Nat) (vert : Bool) : Dev :=
  if vert then d.setFramer n { d.framer n with vspans := (s, start, dc + 7) :: (d.framer n).vspans } else d

section
variable (d : Dev) (n s start dc : Nat) (vert : Bool)

@[simp] theorem Dev.vspanned_rxMode : (d.vspanned n s start dc vert).rxMode n = d.rxMode n := by
  cases vert <;> rfl

@[simp] theorem Dev.vspanned_streams : ((d.vspanned n s start dc vert).framer n).streams = (d.framer n).streams := by
  cases vert with
  | false => rfl
  | true => simp only [Dev.vspanned, if_true, Dev.framer_setFramer_same]

@[simp] theorem Dev.vspanned_phased : (d.vspanned n s start dc vert).phased n = d.phased n := by
  simp only [Dev.phased, Dev.vspanned_rxMode, Dev.vspanned_streams]

@[simp] theorem Dev.vspanned_ancPos (r : Nat) : (d.vspanned n s start dc vert).ancPos n r = d.ancPos n r := by
  simp only [Dev.ancPos, Dev.vspanned_rxMode, Dev.vspanned_phased]

@[simp] theorem Dev.vspanned_isAudioDid (r did : Nat) : (d.vspanned n s start dc vert).isAudioDid n r did = d.isAudioDid n r did := by
  simp only [Dev.isAudioDid, Dev.vspanned_rxMode, Dev.vspanned_phased]

@[simp] theorem Dev.vspanned_on (p : Page) (f : Fld) : (d.vspanned n s start dc vert).on p f = d.on p f := by
  cases vert <;> rfl

end

/-- An error of a packet is counted in ANCERR, and so ANCCFG stands. -/
theorem Dev.ancErr_badPkt (d : Dev) (n : Nat) {f : Fld} (hf : f.off = 0x108) :
    (d.ancErr n f).on (.lane n) .LANE_ANCCFG_BAD_PKT = d.on (.lane n) .LANE_ANCCFG_BAD_PKT :=
  calc (d.ancErr n f).on (.lane n) .LANE_ANCCFG_BAD_PKT
    _ = (d.add (.lane n) f 1).on (.lane n) .LANE_ANCCFG_BAD_PKT :=
      (Dev.setEvtIf_keeps _ _ (.lane n) 23).on _ _ (not_mem_eventKeys _ _ (by decide))
    _ = d.on (.lane n) .LANE_ANCCFG_BAD_PKT :=
      (Dev.wr_keeps d (.lane n) f _ (List.mem_singleton_self _)).on _ _ (List.mem_singleton.not.2 (regKey_ne _ _ (by rw [hf]; decide)))

section
variable {d : Dev} {n s line start : Nat} {vert : Bool} (hstate : d.frmState n = 3 ∨ d.frmState n = 4) (hmode : modeSdi (d.rxMode n) = true)
include hstate hmode

/-- Fewer than three words after the flag are no header. -/
theorem Dev.ancParsed_short {rest : List Word10} (h : rest.length < 3) :
    d.ancParsed n s line vert start rest = d.ancErr n .LANE_ANCERR_HDR_ERR := by
  rw [Dev.ancParsed, if_neg (by simp [Dev.framed_beq hstate, hmode])]
  exact if_pos (by simp [h])

variable {w0 w1 w2 : Word10} {ws : List Word10}

/-- A header word that fails its parity, or a count that the space does not hold, is a header error. -/
theorem Dev.ancParsed_badHeader (h : (headerOk w0 && headerOk w1 && headerOk w2) = false ∨ ws.length ≤ w2.toNat % 256) :
    d.ancParsed n s line vert start (w0 :: w1 :: w2 :: ws) = d.ancErr n .LANE_ANCERR_HDR_ERR := by
  rw [Dev.ancParsed, if_neg (by simp [Dev.framed_beq hstate, hmode])]
  refine if_pos ?_
  change (_ || !(headerOk w0 && headerOk w1 && headerOk w2) || decide (ws.length + 3 < w2.toNat % 256 + 4)) = true
  rcases h with h | h
  · rw [h, Bool.not_false, Bool.or_true, Bool.true_or]
  · rw [decide_eq_true (Nat.add_lt_add_right (Nat.lt_succ_of_le h) 3), Bool.or_true]

variable (hheader : (headerOk w0 && headerOk w1 && headerOk w2) = true) (hlen : w2.toNat % 256 < ws.length)
include hheader hlen

/-- Past the header, a packet is judged by its checksum and its DID on the block that keeps its place. -/
theorem Dev.ancParsed_header :
    d.ancParsed n s line vert start (w0 :: w1 :: w2 :: ws) =
      let dc := w2.toNat % 256
      let did := w0.toNat % 256
      let bad := checksumWord ((w0 :: w1 :: w2 :: ws).take (dc + 3)) != ws.getD dc 0
      let e := d.vspanned n s start dc vert
      let e := if bad then e.ancErr n .LANE_ANCERR_CS_ERR else e
      if e.isAudioDid n s did || (bad && !(e.on (.lane n) .LANE_ANCCFG_BAD_PKT)) then e
      else if did == 0x80 then e.inc (.lane n) .LANE_ANCERR2_DELETED
      else
        let last := start + dc + 6
        e.ancLimit n {
          did := did, sdid := w1.toNat % 256, bad := bad, type1 := 0x80 ≤ did, spos := e.rxMode n != 1 && s % 2 == 1, vert := vert, line := line
          offset := min (if e.rxMode n == 1 || e.phased n then last / 2 else last) 1023, tile := laneTile n (e.ancPos n s), udw := ws.take dc } := by
  have words : ¬ws.length + 3 < 3 := by omega
  have held : ¬ws.length + 3 < w2.toNat % 256 + 4 := by omega
  rw [Dev.ancParsed, if_neg (by simp [Dev.framed_beq hstate, hmode])]
  refine if_neg ?_
  change ¬(decide (ws.length + 3 < 3) || !(headerOk w0 && headerOk w1 && headerOk w2) || decide (ws.length + 3 < w2.toNat % 256 + 4)) = true
  rw [hheader, decide_eq_false words, decide_eq_false held]
  decide

/-- A packet whose checksum disagrees is counted, and discarded unless BAD_PKT keeps it. -/
theorem Dev.ancParsed_badChecksum (hsum : checksumWord ((w0 :: w1 :: w2 :: ws).take (w2.toNat % 256 + 3)) ≠ ws.getD (w2.toNat % 256) 0)
    (hkeep : d.on (.lane n) .LANE_ANCCFG_BAD_PKT = false) :
    d.ancParsed n s line vert start (w0 :: w1 :: w2 :: ws) =
      (d.vspanned n s start (w2.toNat % 256) vert).ancErr n .LANE_ANCERR_CS_ERR := by
  have kept : ((d.vspanned n s start (w2.toNat % 256) vert).ancErr n .LANE_ANCERR_CS_ERR).on (.lane n) .LANE_ANCCFG_BAD_PKT = false := by
    rw [Dev.ancErr_badPkt _ n rfl, Dev.vspanned_on, hkeep]
  rw [Dev.ancParsed_header hstate hmode hheader hlen]
  simp only [bne_iff_ne.2 hsum, if_true, kept]
  exact if_pos (Bool.or_true _)

variable (hsum : checksumWord ((w0 :: w1 :: w2 :: ws).take (w2.toNat % 256 + 3)) = ws.getD (w2.toNat % 256) 0)
  (haudio : d.isAudioDid n s (w0.toNat % 256) = false)
include hsum haudio

/-- A packet that checks and is none of embedded audio: a deleted one is counted, and any other is a record, under the limit. -/
theorem Dev.ancParsed_good :
    d.ancParsed n s line vert start (w0 :: w1 :: w2 :: ws) =
      let dc := w2.toNat % 256
      let did := w0.toNat % 256
      let e := d.vspanned n s start dc vert
      if did = 0x80 then e.inc (.lane n) .LANE_ANCERR2_DELETED
      else
        let last := start + dc + 6
        e.ancLimit n {
          did := did, sdid := w1.toNat % 256, bad := false, type1 := 0x80 ≤ did, spos := d.rxMode n != 1 && s % 2 == 1, vert := vert, line := line
          offset := min (if d.rxMode n == 1 || d.phased n then last / 2 else last) 1023, tile := laneTile n (d.ancPos n s), udw := ws.take dc } := by
  rw [Dev.ancParsed_header hstate hmode hheader hlen]
  simp only [bne_eq_false_iff_eq.2 hsum, Bool.false_eq_true, if_false, Dev.vspanned_isAudioDid, haudio, Bool.false_and, Bool.or_self, beq_iff_eq,
    Dev.vspanned_rxMode, Dev.vspanned_phased, Dev.vspanned_ancPos]

end

/-! ### The de-embedder (R164 to R167) -/

section
variable {d : Dev} {n pair g sub : Nat} (hstate : d.frmState n = 3 ∨ d.frmState n = 4) (hmode : modeSdi (d.rxMode n) = true)
include hstate hmode

/-- The samples of a group that no tile of the pair holds are counted. -/
theorem Dev.audioRx_unmapped {csumOk eccOk : Bool} {ss : List (List Word)} {aux : List (List (BitVec 4))} (hbit : d.audBit n pair g = none) :
    d.audioRx n pair g sub (.data csumOk eccOk ss aux) = d.add (.lane n) .LANE_AUDERR2_UNMAPPED (4 * ss.length) := by
  simp [Dev.audioRx, Dev.framed_beq hstate, hmode, hbit]

variable {b : Nat} (hbit : d.audBit n pair g = some b)
include hbit

/-- Above SD, a packet that passes its checks is present, and its sets of samples are delivered in turn. -/
theorem Dev.audioRx_data {ss : List (List Word)} {aux : List (List (BitVec 4))} (hhd : d.rxMode n ≠ 1) :
    d.audioRx n pair g sub (.data true true ss aux) =
      let e := d.audPresent n b true
      ss.zipIdx.foldl (fun (e : Dev) (y : List Word × Nat) =>
        e.groupSample n b sub ((List.range 4).map (fun c => rxBrick false (y.1.getD c 0) ((aux.getD y.2 []).getD c 0))))
        (e.setDeemb n b { d.deemb n b with fields := 0 }) := by
  rw [Dev.audioRx, if_neg (by simp [Dev.framed_beq hstate, hmode])]
  simp only [hbit, beq_false_of_ne hhd, Bool.false_and, Bool.and_self, Bool.not_false, Bool.not_true, Bool.and_false, Bool.false_eq_true, if_false]

theorem Dev.audioRx_missing : d.audioRx n pair g sub .missing = d.groupLost n b sub := by
  simp [Dev.audioRx, Dev.framed_beq hstate, hmode, hbit]

theorem Dev.audioRx_control {asyn r96 : Bool} :
    d.audioRx n pair g sub (.control asyn r96) = (d.laneBit n .LANE_AUDRXASYNC_ASYNC b asyn).laneBit n .LANE_AUDRXR96_R96 b r96 := by
  simp [Dev.audioRx, Dev.framed_beq hstate, hmode, hbit]

end

end Sys2Proof.Machine

namespace Sys2Proof.Proofs

open Sys2Proof.Machine

/-- Settles O39: each clause is the law of the operation that the command calls, under the clause's conditions. -/
theorem courseCommandsComplete : Obligations.CourseCommandsComplete := by
  unfold Obligations.CourseCommandsComplete
  intro d q
  refine ⟨fun t line pos h ht => ?lineNone, fun t line pos h hf hd => ?lineFramed, fun h => ?drift, fun m v n h => ?aligncfg,
    fun m v n half h => ?tdomsel, fun m v l h => ?alignX, fun m l h => ?crsctl,
    fun n stream line vert start rest h hs hm hl => ?ancShort,
    fun n stream line vert start w0 w1 w2 ws h hs hm hb => ?ancHeader,
    fun n stream line vert start w0 w1 w2 ws h hs hm hh hl hc ha hd => ?ancRecord,
    fun n stream line vert start w0 w1 w2 ws h hs hm hh hl hc ha hd => ?ancDeleted,
    fun n stream line vert start w0 w1 w2 ws h hs hm hh hl hc hb => ?ancChecksum,
    fun m l hl h => ?ancctlLane, fun m l hl h => ?ancctlTll, fun m i v h => ?ancContext,
    fun n pair group sub csumOk eccOk ss aux h hs hm hb => ?unmapped, fun n pair group sub ss aux b h hs hm hx hb => ?data,
    fun n pair group sub b h hs hm hb => ?missing, fun n pair group sub asyn r96 b h hs hm hb => ?control⟩
  case lineNone => exact State.live_eq q (Dev.live_lineStart h (Dev.tileLineStart_none ht))
  case lineFramed => exact State.live_eq q (Dev.live_lineStart h (Dev.tileLineStart_framed hf hd))
  case drift => exact State.live_eq q (Dev.live_runs h)
  case aligncfg => exact State.live_eq q (Dev.mWrite_follows h (by decide) (Dev.pageAfter_aligncfg _ _ n.val _ _ v))
  case tdomsel => exact State.live_eq q (Dev.mWrite_follows h (by omega) (Dev.pageAfter_tdomsel _ _ n.val _ half _ v))
  case alignX => exact State.live_eq q (Dev.mWrite_follows h (by decide) (Dev.pageAfter_alignX _ _ l.val _ _ v))
  case crsctl => exact State.live_eq q (Dev.mWrite_follows h (by decide) (Dev.pageAfter_crsctl _ _ l.val _ _))
  case ancShort => exact State.live_eq q ((Dev.live_runs h).trans (Dev.ancParsed_short hs hm hl))
  case ancHeader => exact State.live_eq q ((Dev.live_runs h).trans (Dev.ancParsed_badHeader hs hm hb))
  case ancRecord => exact State.live_eq q ((Dev.live_runs h).trans ((Dev.ancParsed_good hs hm hh hl hc ha).trans (if_neg hd)))
  case ancDeleted => exact State.live_eq q ((Dev.live_runs h).trans ((Dev.ancParsed_good hs hm hh hl hc ha).trans (if_pos hd)))
  case ancChecksum => exact State.live_eq q ((Dev.live_runs h).trans (Dev.ancParsed_badChecksum hs hm hh hl hc hb))
  case ancctlLane =>
    refine State.live_eq q (Eq.trans ?_ (Dev.mWrite_follows h (by decide) (Dev.pageAfter_laneAncctl _ _ l.val _ _)))
    rw [rxPage_lane hl, if_pos hl]
  case ancctlTll =>
    refine State.live_eq q (Eq.trans ?_ (Dev.mWrite_follows h (by decide) (Dev.pageAfter_tllAncctl _ _ (l.val - 144) _ _)))
    rw [rxPage_tll hl, if_neg hl]
  case ancContext => exact State.live_eq q (Dev.mCtxWrite_puts h (Dev.ctxPut_anc _ i.isLt v))
  case unmapped => exact State.live_eq q ((Dev.live_runs h).trans (Dev.audioRx_unmapped hs hm hb))
  case data => exact State.live_eq q ((Dev.live_runs h).trans (Dev.audioRx_data hs hm hb hx))
  case missing => exact State.live_eq q ((Dev.live_runs h).trans (Dev.audioRx_missing hs hm hb))
  case control => exact State.live_eq q ((Dev.live_runs h).trans (Dev.audioRx_control hs hm hb))

end Sys2Proof.Proofs
end

section
/-! PROOF. Connection memory, take groups, generators and courses (R126, R181 to R198, R286 to R294): the block after each command, where its
conditions hold, and what an accepted write of a tile context through the matrix leaves in each wall. -/

namespace Sys2Proof.Machine

/-! ### Tile contexts, wall by wall (R182, R183) -/

@[simp] theorem Dev.tc_setTc_same (d : Dev) (t : Nat) (c : TileCtx) : (d.setTc t c).tc t = c := Map.get_put_same _ _ _ _

theorem Dev.tc_setTc_other (d : Dev) {j t : Nat} (h : j ≠ t) (c : TileCtx) : (d.setTc t c).tc j = d.tc j := Map.get_put_other _ _ _ h

theorem TileCtx.sh_putSh (c : TileCtx) {w u : Nat} (hw : w < 2) (hu : u < 2) (v : Word) : (c.putSh u v).sh w = if w = u then v else c.sh w := by
  interval_cases w <;> interval_cases u <;> rfl

@[simp] theorem TileCtx.ac_putSh (c : TileCtx) (w u : Nat) (v : Word) : (c.putSh u v).ac w = c.ac w := by
  cases u <;> rfl

@[simp] theorem TileCtx.gr_putSh (c : TileCtx) (w u : Nat) (v : Word) : (c.putSh u v).gr w = c.gr w := by
  cases u <;> rfl

/-- A shadow word written in the walls of a list is the word of each of them, and no other wall's. -/
theorem TileCtx.sh_foldl_putSh {w : Nat} (hw : w < 2) (v : Word) (ws : List Nat) (hws : ∀ u ∈ ws, u < 2) (c : TileCtx) :
    (ws.foldl (fun c u => c.putSh u v) c).sh w = if w ∈ ws then v else c.sh w := by
  induction ws generalizing c with
  | nil => rfl
  | cons u ws ih =>
    rw [List.forall_mem_cons] at hws
    rw [List.foldl_cons, ih hws.2, TileCtx.sh_putSh c hw hws.1]
    by_cases hin : w ∈ ws
    · rw [if_pos hin, if_pos (List.mem_cons_of_mem u hin)]
    · simp only [List.mem_cons, hin, if_false, or_false]

/-- Writing shadow words leaves the active copies and the groups. -/
theorem TileCtx.foldl_putSh_leaves (w : Nat) (v : Word) (ws : List Nat) (c : TileCtx) :
    (ws.foldl (fun c u => c.putSh u v) c).ac w = c.ac w ∧ (ws.foldl (fun c u => c.putSh u v) c).gr w = c.gr w := by
  induction ws generalizing c with
  | nil => exact ⟨rfl, rfl⟩
  | cons u ws ih => simpa using ih (c.putSh u v)

/-- The walls that writes reach are those with EFF above 0. -/
theorem Dev.mem_liveWalls (d : Dev) {w : Nat} : w ∈ d.liveWalls ↔ w < 2 ∧ 0 < d.wallEff w := by
  have two : w ∈ [0, 1] ↔ w < 2 := by simp; omega
  rw [Dev.liveWalls, List.mem_filter, two, decide_eq_true_iff]

theorem Dev.tc_tileCtxPut (d : Dev) (t : Nat) (v : Word) :
    (d.tileCtxPut t 0 v).tc t = d.liveWalls.foldl (fun c u => c.putSh u v) (d.tc t) :=
  Dev.tc_setTc_same _ _ _

/-- A write of word 0 of a tile context puts the word in the shadow of each wall with a claim. -/
theorem Dev.tileCtxPut_sh (d : Dev) (t : Nat) (v : Word) {w : Nat} (hw : w < 2) :
    ((d.tileCtxPut t 0 v).tc t).sh w = if 0 < d.wallEff w then v else (d.tc t).sh w := by
  rw [Dev.tc_tileCtxPut, TileCtx.sh_foldl_putSh hw v _ fun u hu => (d.mem_liveWalls.1 hu).1]
  simp only [d.mem_liveWalls, hw, true_and]

/-- A write of word 0 of a tile context leaves its active copies and its groups. -/
theorem Dev.tileCtxPut_leaves (d : Dev) (t : Nat) (v : Word) (w : Nat) :
    ((d.tileCtxPut t 0 v).tc t).ac w = (d.tc t).ac w ∧ ((d.tileCtxPut t 0 v).tc t).gr w = (d.tc t).gr w := by
  rw [Dev.tc_tileCtxPut]
  exact TileCtx.foldl_putSh_leaves w v _ _

/-! ### The tile window, by the commands and by a transfer of the matrix (R181, R357) -/

/-- The window at 0x000_0000 holds two words that can be written for each tile context: its shadow and its group. -/
theorem Dev.ctxPut_tile (d : Dev) {t k : Nat} (ht : t < 1472) (hk : k < 2) (v : Word) : d.ctxPut (32 * t + 4 * k) v = d.tileCtxPut t k v := by
  have tile : (32 * t + 4 * k) / 32 = t := by omega
  have word : (32 * t + 4 * k) % 32 / 4 = k := by omega
  rw [Dev.ctxPut, if_pos (by omega), word, if_neg (by omega), tile]

theorem Dev.ctxPassed_regs (d : Dev) (m : Nat) : (d.ctxPassed m).regs = d.regs := by
  unfold Dev.ctxPassed Dev.bwAdd
  split <;> rfl

theorem Dev.ctxPassed_keeps (ks : List Nat) (d : Dev) (m : Nat) : d.Keeps ks (d.ctxPassed m) :=
  (Dev.granted_keeps ks d 8 m).trans (Dev.bwAdd_keeps ks _ _ _)

/-- What lets a write of a context window pass: the core domains, the boot loader, the permission, and the window itself. -/
theorem Dev.ctxAdmits_iff {d : Dev} {m off : Nat} {v : Word} :
    d.ctxAdmits m off v = true ↔ d.stopped = false ∧ d.hostBarred m (0x800000 + off) = false ∧ d.permits m 8 true = true ∧
      firstRej ((d.ctxPassed m).ctxRej off true v) = none := by
  simp only [Dev.ctxAdmits, Bool.and_eq_true, Bool.not_eq_true', Option.isNone_iff_eq_none, and_assoc]

/-- The window of the tile contexts is target T8 (Table 22.1). -/
theorem targetAt_tileWindow {off : Nat} (h : off < 0xB800) : targetAt (0x800000 + off) = 8 := by
  have page : pageAt (0x800000 + off) = none := by
    have lo : 0x800 ≤ (0x800000 + off) / 0x1000 := by omega
    have hi : (0x800000 + off) / 0x1000 < 0x80C := by omega
    unfold pageAt
    generalize (0x800000 + off) / 0x1000 = i at lo hi
    simp only [beq_iff_eq, Bool.and_eq_true, decide_eq_true_eq]
    repeat rw [if_neg (by omega)]
  have ctx : 0x800000 + off ≤ 0x80B7FF := by omega
  rw [targetAt, page, if_neg (by simp; omega), if_pos (by simp [ctx])]

/-- A write of one word of a tile context that the matrix and the window let through updates the window, and is answered OKAY. -/
theorem Dev.transfer_write_tileWindow {d : Dev} {m off : Nat} {v : Word} (hoff : off < 0xB800) (h4 : off % 4 = 0) (h : d.ctxAdmits m off v = true)
    (hlock : d.lockedOut m 8 = false) :
    d.transfer m (0x800000 + off) 0 true [⟨15, v⟩] {} = ((d.ctxPassed m).ctxPut off v).okay m := by
  have word : (0x800000 + off) / 4 * 4 = 0x800000 + off := by omega
  obtain ⟨-, hbar, hperm, hrej⟩ := Dev.ctxAdmits_iff.1 h
  have accepted : (d.ctxPassed m).ctxWrite m off true v = (d.ctxPassed m).ctxPut off v := by rw [Dev.ctxWrite, hrej]
  have granted : (d.granted 8 m).bwAdd 332 (beatBytes [⟨15, v⟩]) = d.ctxPassed m := rfl
  unfold Dev.transfer
  simp only [word, targetAt_tileWindow hoff, hbar, hperm, hlock, Bool.and_false, Bool.not_true, Bool.false_and, Bool.false_eq_true, if_false,
    Nat.reduceBEq, Dev.perform, Nat.reduceAdd, granted, Run.beats, Run.beat, Nat.reduceLT, Run.ctxBeat, if_true, Nat.add_sub_cancel_left,
    BEq.rfl, accepted, Run.finish, Dev.okay]

/-! ### Take groups: commands and triggers (R188 to R192) -/

theorem Dev.pageAfter_tgCmd (d : Dev) (m cur : Nat) (old v : Word) : d.pageAfter m .fab 0x030 cur old v = (d.tgCmd v).commitSettle := rfl

/-- The fields of the word that ARM (1) and DISARM (2) write to TG_CMD. -/
theorem tgCmd_fields {cmd g : Nat} (hc : cmd < 4) (hg : g < 256) :
    Fld.FAB_TG_CMD_CMD.get (BitVec.ofNat 32 (0x100 * cmd + g)) = cmd ∧ Fld.FAB_TG_CMD_GROUP.get (BitVec.ofNat 32 (0x100 * cmd + g)) = g := by
  have word : (BitVec.ofNat 32 (0x100 * cmd + g)).toNat = 0x100 * cmd + g := by
    rw [BitVec.toNat_ofNat, Nat.mod_eq_of_lt (by omega)]
  simp only [Fld.get, word, Fld.FAB_TG_CMD_CMD, Fld.FAB_TG_CMD_GROUP, fWC, Nat.shiftRight_eq_div_pow]
  omega

/-- A group armed with the trigger that TG_TRIG holds. -/
def Dev.trigArmed (d : Dev) (g : Nat) : Dev :=
  d.setTake g {
    state := 1, type := d.rd .fab .FAB_TG_TRIG_TYPE, tdom := d.rd .fab .FAB_TG_TRIG_TDOM
    gpi := d.rd .fab .FAB_TG_TRIG_GPI, frame := d.rd .fab .FAB_TG_TRIG_FRAME }

/-- ARM takes TG_TRIG over, and a NEXT_SWITCH trigger fires at once. -/
theorem Dev.tgCmd_arm (d : Dev) {g : Nat} (hg : g < 256) :
    d.tgCmd (BitVec.ofNat 32 (0x100 + g)) = if d.rd .fab .FAB_TG_TRIG_TYPE = 0 then (d.trigArmed g).takeFire g else d.trigArmed g := by
  obtain ⟨cmd, group⟩ := tgCmd_fields (cmd := 1) (by decide) hg
  rw [Nat.mul_one] at cmd group
  simp only [Dev.tgCmd, cmd, group, beq_iff_eq]
  rfl

/-- DISARM returns the group to IDLE. -/
theorem Dev.tgCmd_disarm (d : Dev) {g : Nat} (hg : g < 256) : d.tgCmd (BitVec.ofNat 32 (0x200 + g)) = d.setTake g {} := by
  obtain ⟨cmd, group⟩ := tgCmd_fields (cmd := 2) (by decide) hg
  simp only [Dev.tgCmd, show 0x200 + g = 0x100 * 2 + g from rfl, cmd, group]

/-- A change of the level of TAKE_GPI[n] that EDGE selects is counted, and fires the groups armed with it. -/
theorem Dev.gpiEdge_selected {d : Dev} {n : Nat} {level : Bool} (hchange : d.on .fab (Fld.nth .FAB_GPI_LEVEL n) ≠ level)
    (hedge : (d.wrOn .fab (Fld.nth .FAB_GPI_LEVEL n) level).rd .fab (Fld.nth .FAB_GPI_EDGE n) = 2 ∨
      ((d.wrOn .fab (Fld.nth .FAB_GPI_LEVEL n) level).rd .fab (Fld.nth .FAB_GPI_EDGE n) == 1) = level) :
    d.gpiEdge n level =
      let e := d.wrOn .fab (Fld.nth .FAB_GPI_LEVEL n) level
      ((e.wr .fab (Fld.nth .FAB_GPI_EDGES n) (e.rd .fab (Fld.nth .FAB_GPI_EDGES n) + 1)).setEvt .fab 13).fireWhere
        (fun x => x.type == 2 && x.gpi == n) := by
  rw [Dev.gpiEdge, if_neg (by simpa using hchange)]
  exact if_pos (by simpa only [Bool.or_eq_true, beq_iff_eq] using hedge)

/-- GPI[n] holds what is written, and nothing follows its write. -/
theorem Dev.pageAfter_fabGpi (d : Dev) (m cur : Nat) (n : Fin 8) (old v : Word) : d.pageAfter m .fab (0x0A0 + 4 * n.val) cur old v = d := by
  have hn := n.isLt
  change d.fabAfter (0x0A0 + 4 * n.val) old v = d
  unfold Dev.fabAfter
  simp only [beq_iff_eq, Bool.and_eq_true, decide_eq_true_eq]
  repeat rw [if_neg (by omega)]

/-! ### Commits and holds (R190, R196) -/

/-- A due tile context leaves its group's list and commits; members below 2000 are tiles. -/
theorem Dev.commitNow_tile {d : Dev} {g t : Nat} (ht : t < 1472) (h : d.commitDue g t = true) :
    d.commitNow g t =
      (((d.setTake g { d.take g with left := (d.take g).left.filter (· != t) }).commitTile t).takeStep g).commitSettle := by
  have member : ∀ e : Dev, e.commitMember t = e.commitTile t := fun e => if_pos (by omega)
  rw [Dev.commitNow, if_neg (by simp [h])]
  exact congrArg (fun e : Dev => (e.takeStep g).commitSettle) (member _)

/-- An output that has held for a frame of courses goes to the state in which its hold ends, with the cause it has. -/
theorem Dev.holdExpire_held {d : Dev} {t : Nat} (hstate : (d.tc (d.outLead t)).state = 2) (hruns : d.outRuns (d.outLead t) = true)
    (hheld : fmtLines (d.domFmt ((d.outDom (d.outLead t)).getD 0)) ≤ (d.tc (d.outLead t)).held) :
    d.holdExpire t =
      d.putOut (d.outLead t) (d.endState (d.outLead t) ((d.tc (d.outLead t)).ac d.readWall)) (d.tc (d.outLead t)).cause 0 false :=
  if_pos (by simp [hstate, hruns, hheld])

/-! ### Generators and counts (R181, R198) -/

theorem Dev.pageAfter_fabGen (d : Dev) (m cur : Nat) (n : Fin 32) (old v : Word) :
    d.pageAfter m .fab (0x100 + 4 * n.val) cur old v = (d.genApply n.val old v).txFollow := by
  have hn := n.isLt
  have index : (0x100 + 4 * n.val - 0x100) / 4 = n.val := by omega
  change d.fabAfter (0x100 + 4 * n.val) old v = _
  rw [Dev.fabAfter, if_neg (by simp; omega), if_pos (by simp; omega), index]

theorem Dev.pageAfter_fabCtl (d : Dev) (m cur : Nat) (old : Word) : d.pageAfter m .fab 0x314 cur old 1 = d.fabCntClr := rfl

/-! ### Courses and frames (R126, R190, R286 to R294) -/

/-- Domain `k` at the read point of course `line`: what the switch line commits is committed. -/
def Dev.courseBegun (d : Dev) (k line : Nat) : Dev :=
  let c := d.setDom k { d.dom k with line := line }
  if line = c.td k .TDOM_STAT_SWLINE_EFF then c.switchLine k else c

/-- What a course delivers while the lanes run: frame store, groups, judged outputs, bricks, lines, and at last the FP pulses. -/
def Dev.courseDelivered (d : Dev) (k line : Nat) (items : List LateItem) : Dev :=
  let e := ((if line == 1 then d.fsDelay k else d).fsReads k).groupLines k line
  let lanes := e.sdiLanes k
  let slots := e.tlVideo k
  let inner := e.internalOuts k
  let outs := lanes.flatMap (fun n => e.outPositions n) ++ slots.map (fun x => 1152 + 16 * x.1 + x.2) ++ inner
  let e := (outs.filter (fun t => !(e.outMember t))).foldl (fun e t => e.outJudge t) e
  let e := items.foldl (fun e x => e.memReadLate x) e
  let e := outs.foldl (fun e t => e.gateBricks t line items) e
  let e := inner.foldl (fun e t => e.internalLine t line items) e
  let e := lanes.foldl (fun e n => e.laneCourse n line items) e
  let e := slots.foldl (fun e x => e.tlCourse x.1 x.2 line items) e
  e.framePulses k line

/-- The read point of a course of a running domain; while the lanes are idle only the FP pulses follow it. -/
theorem Dev.course_runs {d : Dev} {k line : Nat} (items : List LateItem) (hfmt : d.domFmt k ≠ 0) (hwaits : (d.dom k).waits = false) (h1 : 1 ≤ line)
    (hline : line ≤ fmtLines (d.domFmt k)) :
    d.course k line items =
      if (d.courseBegun k line).lanesIdle = true then (d.courseBegun k line).framePulses k line
      else (d.courseBegun k line).courseDelivered k line items := by
  let c := d.setDom k { d.dom k with line := line }
  have begun : (if line == c.td k .TDOM_STAT_SWLINE_EFF then c.switchLine k else c) = d.courseBegun k line := by
    simp only [beq_iff_eq, Dev.courseBegun, c]
  rw [Dev.course, if_neg (by simp [hfmt, hwaits]; omega), ← begun]
  rfl

/-- The frame start of a domain that has a format. -/
theorem Dev.frameStart_runs {d : Dev} {k : Nat} (err : Int) (epoch : Nat) (hfmt : d.domFmt k ≠ 0) :
    d.frameStart k err epoch =
      let e := (d.frameCount k err epoch).probeFrames k
      ((e.fsFrameStart k (e.td k .TDOM_FCNT_FCNT)).shadowFrame k).outSettle :=
  if_neg (by simpa using hfmt)

end Sys2Proof.Machine

namespace Sys2Proof.Proofs

open Sys2Proof.Machine

/-- Settles O22: the transfer is the write of the tile's shadow words in the walls with a claim, and the access before it changes no register
and no context. -/
theorem contextWriteReachesBothWalls : Obligations.ContextWriteReachesBothWalls := by
  unfold Obligations.ContextWriteReachesBothWalls
  intro d q m t v h hlock
  have ht := t.isLt
  obtain ⟨run, -⟩ := Dev.ctxAdmits_iff.1 h
  have passed := d.ctxPassed_keeps [] m.val
  have eff : ∀ w, (d.ctxPassed m.val).wallEff w = d.wallEff w := fun w => passed.rd (.wall w) .WALL_CLAIM_EFF List.not_mem_nil
  have ctx : (d.ctxPassed m.val).tctx = d.tctx := (congrArg Dev.tctx passed.rest :)
  have tile : ∀ j, (d.ctxPassed m.val).tc j = d.tc j := fun j => by rw [Dev.tc, ctx, Dev.tc]
  have write : d.live (fun d => d.matrixTransfer m.val ⟨.write, 0x800000 + 32 * t.val, [⟨15, v⟩], {}⟩) =
      ((d.ctxPassed m.val).tileCtxPut t.val 0 v).okay m.val := by
    rw [← (d.ctxPassed m.val).ctxPut_tile ht (by decide) v]
    exact (Dev.live_runs run).trans (Dev.transfer_write_tileWindow (by omega) (by omega) h hlock)
  refine ⟨_, State.live_eq q write, fun w => ?shadow, fun w => ?kept, fun j hj => ?others, ?audio, ?anc, ?regs⟩
  case shadow =>
    rw [← eff, ← tile]
    exact Dev.tileCtxPut_sh _ _ v w.isLt
  case kept =>
    rw [← tile]
    exact Dev.tileCtxPut_leaves _ _ v w.val
  case others => exact (Dev.tc_setTc_other _ hj _).trans (tile j)
  case audio => exact (congrArg Dev.uctx passed.rest :)
  case anc => exact (congrArg Dev.actx passed.rest :)
  case regs => exact d.ctxPassed_regs m.val

/-- Settles O40: each clause is the law of the operation that the command calls, under the clause's conditions; of FRAME_TRIGGER_FIRE it is its
meaning itself. -/
theorem fabricCommandsComplete : Obligations.FabricCommandsComplete := by
  unfold Obligations.FabricCommandsComplete
  intro d q
  refine ⟨fun m t v h => ?shadow, fun m t v h => ?group, fun m g h ht => ?arm, fun m g h ht => ?armNow, fun m g h => ?disarm,
    fun k frame h => ?frameTrigger, fun n level h hl he => ?anyEdge, fun n level h hl hb he => ?oneEdge, fun m n v h => ?gpi,
    fun g t h hc => ?commit, fun t h hs hr hh => ?hold, fun m n v h => ?generator, fun m h => ?cntClr,
    fun k line items h hf hw h1 hl hi => ?course, fun k line items h hf hw h1 hl hi => ?courseIdle, fun k err epoch h hf => ?frameStart⟩
  case shadow => exact State.live_eq q (Dev.mCtxWrite_puts h (Dev.ctxPut_tile _ t.isLt (k := 0) (by decide) v))
  case group => exact State.live_eq q (Dev.mCtxWrite_puts h (Dev.ctxPut_tile _ t.isLt (k := 1) (by decide) v))
  case arm =>
    refine State.live_eq q (Dev.mWrite_follows h (by decide) ?_)
    rw [Dev.pageAfter_tgCmd, Dev.tgCmd_arm _ g.isLt, if_neg ht]
    rfl
  case armNow =>
    refine State.live_eq q (Dev.mWrite_follows h (by decide) ?_)
    rw [Dev.pageAfter_tgCmd, Dev.tgCmd_arm _ g.isLt, if_pos ht, Dev.trigArmed, ht]
  case disarm =>
    refine State.live_eq q (Dev.mWrite_follows h (by decide) ?_)
    rw [Dev.pageAfter_tgCmd, Dev.tgCmd_disarm _ g.isLt]
  case frameTrigger => exact State.live_eq q (Dev.live_runs h)
  case anyEdge => exact State.live_eq q ((Dev.live_runs h).trans (congrArg Dev.commitSettle (Dev.gpiEdge_selected hl (.inl he))))
  case oneEdge => exact State.live_eq q ((Dev.live_runs h).trans (congrArg Dev.commitSettle (Dev.gpiEdge_selected hl (.inr he))))
  case gpi => exact State.live_eq q (Dev.mWrite_follows h (by omega) (Dev.pageAfter_fabGpi _ _ _ n _ v))
  case commit => exact State.live_eq q ((Dev.live_runs h).trans (Dev.commitNow_tile t.isLt hc))
  case hold => exact State.live_eq q ((Dev.live_runs h).trans (Dev.holdExpire_held hs hr hh))
  case generator => exact State.live_eq q (Dev.mWrite_follows h (by omega) (Dev.pageAfter_fabGen _ _ _ n _ v))
  case cntClr => exact State.live_eq q (Dev.mWrite_follows h (by decide) (Dev.pageAfter_fabCtl _ _ _ _))
  case course =>
    exact State.live_eq q ((Dev.live_runs h).trans ((Dev.course_runs items hf hw h1 hl).trans (if_neg (Bool.eq_false_iff.1 hi))))
  case courseIdle => exact State.live_eq q ((Dev.live_runs h).trans ((Dev.course_runs items hf hw h1 hl).trans (if_pos hi)))
  case frameStart => exact State.live_eq q ((Dev.live_runs h).trans (Dev.frameStart_runs err epoch hf))

end Sys2Proof.Proofs
end

section
/-! PROOF. Performance monitoring and protection groups (R249 to R265): the block after each command, where its conditions hold. That a disabled
group keeps no stored command is log row 77, and that WTR_LEFT falls at the end of a PM second is log row 76: both are the model's choice. -/

namespace Sys2Proof.Machine

/-! ### Writes of PM_SEC and CTL (R249, R253, R259) -/

theorem Dev.pageAfter_pmSec (d : Dev) (m cur : Nat) (old v : Word) : d.pageAfter m .prot 0x060 cur old v = d.pmSecWrite old v := rfl

/-- CTL with PM_CLR alone clears the bins. -/
theorem Dev.pageAfter_pmClr (d : Dev) (m cur : Nat) (old : Word) : d.pageAfter m .prot 0x064 cur old 2 = d.pmClear := rfl

/-- CTL with CNT_CLR alone clears PG_CNT and PG_REPAIR of the selected group. -/
theorem Dev.pageAfter_protCntClr (d : Dev) (m cur : Nat) (old : Word) :
    d.pageAfter m .prot 0x064 cur old 1 = (d.setReg (regKey .prot d.pgSel 0x034) 0).setReg (regKey .prot d.pgSel 0x038) 0 := rfl

/-! ### Writes of PG_CFG (R254, R256) -/

/-- A group as a write of PG_CFG leaves it that changes ENABLE or keeps it 0: no command, no request, and the audio it has. -/
def GroupI.fresh (s : GroupI) (on : Bool) : GroupI :=
  { enabled := on, audio := s.audio, audioI := s.audioI, audioFrom := s.audioFrom, pairs := s.pairs }

theorem Dev.pageAfter_pgCfg (d : Dev) (m cur : Nat) (old v : Word) : d.pageAfter m .prot 0x024 cur old v = d.pgCfgAfter d.pgSel old v := rfl

/-- The selected group starts anew unless it was enabled and stays so. -/
theorem Dev.pgCfgAfter_fresh (d : Dev) (g : Nat) {old v : Word} (h : Fld.PROT_PG_CFG_ENABLE.get v = 1 → Fld.PROT_PG_CFG_ENABLE.get old = 0) :
    d.pgCfgAfter g old v = (d.setGroup g ((d.group g).fresh (Fld.PROT_PG_CFG_ENABLE.get v == 1))).protDone g := by
  have restarts : ¬(Fld.PROT_PG_CFG_ENABLE.get v == 1 && Fld.PROT_PG_CFG_ENABLE.get old == 1) = true := by
    simp only [Bool.and_eq_true, beq_iff_eq, not_and]
    intro hv
    rw [h hv]
    decide
  rw [Dev.pgCfgAfter, if_neg restarts]
  rfl

/-! ### Commands of PG_CMD (R265) -/

theorem Dev.pageAfter_pgCmd (d : Dev) (m cur : Nat) (old v : Word) :
    d.pageAfter m .prot 0x02C cur old v = d.pgCommand d.pgSel (Fld.PROT_PG_CMD_CMD.get v) := rfl

/-- CLEAR (1) removes the stored command, and each command above it is stored. -/
theorem Dev.pgCommand_stores (d : Dev) (g : Nat) {c : Nat} (h : c ≠ 0) :
    d.pgCommand g c = (d.setGroup g { d.group g with cmd := if c = 1 then 0 else c }).protDone g := by
  rw [Dev.pgCommand, if_neg (by simpa using h)]
  simp only [beq_iff_eq]

/-- An accepted write of a command other than 0 to PG_CMD: the selected group stores it, or none for CLEAR, and follows its conditions. -/
theorem Dev.mWrite_pgCmd {d : Dev} {m c : Nat} {v : Word} (h : d.admits m .prot 0x02C v = true) (hv : Fld.PROT_PG_CMD_CMD.get v = c)
    (hc : c ≠ 0) :
    d.live (fun d => d.mWrite m .prot 0x02C 15 v) =
      (let e := d.stored m .prot 0x02C v
       (e.setGroup e.pgSel { e.group e.pgSel with cmd := if c = 1 then 0 else c }).protDone e.pgSel).okay m := by
  refine Dev.mWrite_follows h (by decide) ?_
  rw [Dev.pageAfter_pgCmd, hv, Dev.pgCommand_stores _ _ hc]

/-! ### Hold-offs and the wait to restore (R262, R264) -/

/-- A condition of W (member 0) or P that has lasted HOLDOFF is a request; `c` holds SF and SD of W, then SF and SD of P. -/
def GroupI.heldOff (s : GroupI) (c : Bool × Bool × Bool × Bool) (member : Nat) (degrade : Bool) : GroupI :=
  match member, degrade with
  | 0, false => { s with sfW := s.sfW || c.1 }
  | 0, true => { s with sdW := s.sdW || c.2.1 }
  | _, false => { s with sfP := s.sfP || c.2.2.1 }
  | _, true => { s with sdP := s.sdP || c.2.2.2 }

/-- A hold-off of an enabled group ends. -/
theorem Dev.holdoffExpiry_enabled {d : Dev} {g : Nat} (member : Nat) (degrade : Bool) (h : (d.group g).enabled = true) :
    d.holdoffExpiry g member degrade = (d.setGroup g ((d.group g).heldOff (d.groupCond g) member degrade)).protDone g :=
  if_pos h

/-- The wait to restore of a group that waits ends. -/
theorem Dev.pgWtrExpiry_waiting {d : Dev} {g : Nat} (h : (d.group g).wtr = true) :
    d.pgWtrExpiry g = (d.setGroup g { d.group g with wtr := false }).protDone g :=
  if_pos h

end Sys2Proof.Machine

namespace Sys2Proof.Proofs

open Sys2Proof.Machine

/-- Settles O42: each clause is the law of the operation that the command calls, under the clause's conditions; of PM_SECOND_END it is its
meaning itself. -/
theorem protectCommandsComplete : Obligations.ProtectCommandsComplete := by
  unfold Obligations.ProtectCommandsComplete
  intro d q
  refine ⟨fun h => ?second, fun m v h => ?pmSec, fun m h => ?pmClr, fun m h => ?cntClr, fun m v h hv => ?disable, fun m v h hv hold => ?enable,
    fun m h => ?clear, fun m h => ?lockout, fun m h => ?forced, fun m h => ?manualW, fun m h => ?manualP, fun g h he => ?failW,
    fun g h he => ?degradeP, fun g h he => ?degradeW, fun g h he => ?failP, fun g h hw => ?restore⟩
  case second => exact State.live_eq q (Dev.live_runs h)
  case pmSec => exact State.live_eq q (Dev.mWrite_follows h (by decide) (Dev.pageAfter_pmSec _ _ _ _ v))
  case pmClr => exact State.live_eq q (Dev.mWrite_follows h (by decide) (Dev.pageAfter_pmClr _ _ _ _))
  case cntClr => exact State.live_eq q (Dev.mWrite_follows h (by decide) (Dev.pageAfter_protCntClr _ _ _ _))
  case disable =>
    refine State.live_eq q (Dev.mWrite_follows h (by decide) ?_)
    rw [Dev.pageAfter_pgCfg, Dev.pgCfgAfter_fresh _ _ (by simp [hv]), hv]
    rfl
  case enable =>
    refine State.live_eq q (Dev.mWrite_follows h (by decide) ?_)
    rw [Dev.pageAfter_pgCfg, Dev.pgCfgAfter_fresh _ _ fun _ => hold, hv]
    rfl
  case clear => exact State.live_eq q (Dev.mWrite_pgCmd (c := 1) h (by decide) (by decide))
  case lockout => exact State.live_eq q (Dev.mWrite_pgCmd (c := 2) h (by decide) (by decide))
  case forced => exact State.live_eq q (Dev.mWrite_pgCmd (c := 3) h (by decide) (by decide))
  case manualW => exact State.live_eq q (Dev.mWrite_pgCmd (c := 4) h (by decide) (by decide))
  case manualP => exact State.live_eq q (Dev.mWrite_pgCmd (c := 5) h (by decide) (by decide))
  case failW => exact State.live_eq q ((Dev.live_runs h).trans (congrArg Dev.dataSettle (Dev.holdoffExpiry_enabled 0 false he)))
  case degradeP => exact State.live_eq q ((Dev.live_runs h).trans (congrArg Dev.dataSettle (Dev.holdoffExpiry_enabled 1 true he)))
  case degradeW => exact State.live_eq q ((Dev.live_runs h).trans (congrArg Dev.dataSettle (Dev.holdoffExpiry_enabled 0 true he)))
  case failP => exact State.live_eq q ((Dev.live_runs h).trans (congrArg Dev.dataSettle (Dev.holdoffExpiry_enabled 1 false he)))
  case restore => exact State.live_eq q ((Dev.live_runs h).trans (congrArg Dev.dataSettle (Dev.pgWtrExpiry_waiting hw)))

end Sys2Proof.Proofs
end

section
/-! PROOF. Reference inputs (R270 to R278): the block after each command and event, where its conditions hold. Which way RATE goes where it is no
whole number (log 91), and that TYPE, FMT and TEN_FIELD clear as the signal goes (log 92), the model's assumption log adds. -/

namespace Sys2Proof.Machine

/-! ### Signals and events of an input (R270, R271, R274) -/

/-- The signal of an input that has one goes: NO_SIGNAL, and the selection is evaluated. -/
theorem Dev.refAbsent_signal {d : Dev} {r : Nat} (h : 2 ≤ d.refState r) : d.refAbsent r = (d.refGo r 1).tmuEval :=
  if_pos h

/-- The signal of an input in NO_SIGNAL comes: QUALIFYING, and the selection is evaluated. -/
theorem Dev.refPresent_can {d : Dev} {r : Nat} (h : d.refState r = 1) (hcan : d.refCan r = true) : d.refPresent r = (d.refGo r 2).tmuEval :=
  if_pos (by simp [h, hcan])

/-- An event that is passed on to the phase comparison changes nothing by itself. -/
theorem Dev.refEvent_event (d : Dev) (r : Nat) : d.refEvent r .event = d := ite_self _

/-- A pulse that the filter of an enabled input discards is counted in GLITCH. -/
theorem Dev.refEvent_discarded {d : Dev} {r : Nat} (h : d.refState r ≠ 0) : d.refEvent r .discarded = d.inc (.refin r) .REFIN_CNT_GLITCH :=
  if_neg (by simpa using h)

/-- An identification on an input for sync signals that has a signal: where it differs from the one held, the signal is absent, and otherwise it
is held. -/
theorem Dev.refEvent_identified {d : Dev} {r : Nat} (type fmt : Nat) (ten : Bool) (hr : r ≤ 1) (h : 2 ≤ d.refState r) :
    d.refEvent r (.identified type fmt ten) =
      if d.rf r .REFIN_STAT_TYPE ≠ 0 ∧ (d.rf r .REFIN_STAT_TYPE ≠ type ∨ d.rf r .REFIN_STAT_FMT ≠ fmt) then d.refAbsent r
      else (((d.wr (.refin r) .REFIN_STAT_TYPE type).wr (.refin r) .REFIN_STAT_FMT fmt).wrOn (.refin r) .REFIN_STAT_TEN_FIELD
        (ten && type == 1)).alignSettle := by
  have enabled : ¬(d.refState r == 0) = true := by simp; omega
  rw [Dev.refEvent, if_neg enabled]
  simp only [if_neg (Nat.not_lt_of_le hr), h, decide_true, Bool.true_and, if_true, Bool.and_eq_true, Bool.or_eq_true, bne_iff_ne]

/-! ### Writes of a REFIN page (R270) -/

/-- PAGE_CTRL of an input: ENABLE = 0 disables it, and ENABLE = 1 takes it out of DISABLED. -/
theorem Dev.pageAfter_refinCtrl (d : Dev) (m r cur : Nat) (old v : Word) :
    d.pageAfter m (.refin r) 0x008 cur old v =
      if Fld.PAGE_CTRL_ENABLE.get v = 1 then if d.refState r = 0 then (d.refGo r 1).tmuEval else d else (d.refGo r 0).tmuEval := by
  simp only [← beq_iff_eq (a := Fld.PAGE_CTRL_ENABLE.get v), ← beq_iff_eq (a := d.refState r)]
  rfl

/-- CFG of an input: with another LANE the signal it had is absent. -/
theorem Dev.pageAfter_refinCfg (d : Dev) (m r cur : Nat) (old v : Word) :
    d.pageAfter m (.refin r) 0x020 cur old v = if Fld.REFIN_CFG_LANE.get old ≠ Fld.REFIN_CFG_LANE.get v then d.refAbsent r else d := by
  simp only [← bne_iff_ne]
  rfl

/-- CTL of an input with CNT_CLR: CNT to 0, and TOD_CNT to 0 on the input that has it. -/
theorem Dev.pageAfter_refinCtl (d : Dev) (m r cur : Nat) (old : Word) :
    d.pageAfter m (.refin r) 0x044 cur old 1 =
      if r = 3 then (d.setReg (regKey (.refin r) 0 0x040) 0).setReg (regKey (.refin 3) 0 0x058) 0
      else d.setReg (regKey (.refin r) 0 0x040) 0 := by
  simp only [← beq_iff_eq (a := r)]
  rfl

/-! ### Time of day (R272) -/

/-- What R272 asks of a message whose PPS edge has come: its start, its gaps, its length, its checksum and its first nibble. -/
def TodSound (start gap : Nat) (bytes : List Byte) : Prop :=
  100000 ≤ start ∧ start ≤ 900000 ∧ gap ≤ 200 ∧ bytes.length = 8 ∧ crc8 (bytes.take 7) = bytes.getD 7 0 ∧ (bytes.getD 0 0).toNat / 16 = 0xA

/-- A message goes on from the one before it: the next number, one second later. -/
def Dev.todGoes (d : Dev) (seq sec : Nat) : Bool :=
  match (d.ref 3).todLast with
  | some (s, t) => seq == (s + 1) % 16 && sec == t + 1
  | none => true

/-- The block after an accepted message of number `seq` that gives `sec` seconds and the flags `flags`. -/
def Dev.todAccepted (d : Dev) (seq sec flags : Nat) : Dev :=
  let go := d.todGoes seq sec
  let locked := decide (128 ≤ flags)
  let run := if locked then (if go then (d.ref 3).todRun + 1 else 1) else 0
  let e := if go then d else (d.inc (.refin 3) .REFIN_TOD_CNT_SEQ_ERR).setEvt (.refin 3) 12
  let f := (((e.setRef 3 { e.ref 3 with todLast := some (seq, sec), todRun := run }).wr (.refin 3) .REFIN_TOD_SEC_LO_SEC_LO (sec % 2 ^ 32)).wr
    (.refin 3) .REFIN_TOD_SEC_HI_SEC_HI (sec / 2 ^ 32)).wr (.refin 3) .REFIN_TOD_SEC_HI_FLAGS flags
  if go = false ∨ locked = false then f.setTod false else if 3 ≤ run then f.setTod true else f

/-- A message that is not sound, or that no PPS edge comes before, is discarded and counted. -/
theorem Dev.todMessage_discards {d : Dev} {start gap : Nat} {bytes : List Byte} (h : d.refState 3 ≠ 0)
    (hbad : d.refState 3 = 1 ∨ start < 100000 ∨ 900000 < start ∨ 200 < gap ∨ bytes.length ≠ 8 ∨ crc8 (bytes.take 7) ≠ bytes.getD 7 0 ∨
      (bytes.getD 0 0).toNat / 16 ≠ 0xA) :
    d.todMessage start gap bytes = (d.inc (.refin 3) .REFIN_TOD_CNT_CRC_ERR).setEvt (.refin 3) 12 := by
  rw [Dev.todMessage, if_neg (by simpa using h)]
  exact if_pos (by simpa only [Bool.or_eq_true, beq_iff_eq, bne_iff_ne, decide_eq_true_eq, or_assoc] using hbad)

/-- A sound message on an input with a signal is accepted. -/
theorem Dev.todMessage_accepts {d : Dev} {start gap : Nat} {bytes : List Byte} (h : 2 ≤ d.refState 3) (hok : TodSound start gap bytes) :
    d.todMessage start gap bytes =
      d.todAccepted ((bytes.getD 0 0).toNat % 16) ((List.range 5).foldl (fun a i => a * 256 + (bytes.getD (1 + i) 0).toNat) 0)
        (bytes.getD 6 0).toNat := by
  obtain ⟨hfrom, hto, hgap, hlen, hcrc, hnibble⟩ := hok
  have enabled : ¬(d.refState 3 == 0) = true := by simp; omega
  have sound : ¬(d.refState 3 = 1 ∨ start < 100000 ∨ 900000 < start ∨ 200 < gap ∨ bytes.length ≠ 8 ∨ crc8 (bytes.take 7) ≠ bytes.getD 7 0 ∨
      (bytes.getD 0 0).toNat / 16 ≠ 0xA) := by
    simp only [hlen, hcrc, hnibble, ne_eq, not_true_eq_false, or_false]
    omega
  rw [Dev.todMessage, if_neg enabled,
    if_neg (by simpa only [Bool.or_eq_true, beq_iff_eq, bne_iff_ne, decide_eq_true_eq, or_assoc] using sound)]
  simp only [Dev.todAccepted, Bool.or_eq_true, Bool.not_eq_true', decide_eq_true_eq]
  rfl

/-! ### Measurements and the wait to restore (R273, R278) -/

/-- The wait to restore of an input that waits ends, and the selection is evaluated. -/
theorem Dev.wtrExpire_waiting {d : Dev} {r : Nat} (h : (d.ref r).wtr = true) :
    d.wtrExpire r = (d.setRef r { d.ref r with wtr := false }).tmuEval :=
  if_pos h

/-- What a window measures of the inputs that have a signal. -/
def Dev.measured (d : Dev) (freqs : List (Option Int)) : List (Nat × Int) :=
  (List.range 8).filterMap (fun r => if 2 ≤ d.refState r then (freqs.getD r none).map (fun f => (r, f)) else none)

/-- The frequency word that the closed loop has reached at the end of a window. -/
def Dev.loopAt (d : Dev) (now : Int) : Dev := if d.tf .TMU_STAT_STATE = 2 then d.withTmu (fun t => { t with dco := now }) else d

/-- FREQ and RATE of an input after a measurement. -/
def Dev.refShow (d : Dev) (x : Nat × Int) : Dev :=
  ((d.setRef x.1 { d.ref x.1 with freqs := (x.2 :: (d.ref x.1).freqs).take 8 }).wr (.refin x.1) .REFIN_FREQ_FREQ (field32 x.2)).wr (.refin x.1)
    .REFIN_RATE_RATE (field32 (rateOf ((x.2 :: (d.ref x.1).freqs).take 8)))

/-- A window ends: what is measured is shown, the inputs are judged by the QUALIFIED among them, the history takes the mean of the window, the
selection is evaluated, and the next window begins. -/
theorem Dev.refMeasure_eq (d : Dev) (freqs : List (Option Int)) (mean now : Int) :
    d.refMeasure freqs mean now =
      let f := (d.measured freqs).foldl Dev.refShow (d.loopAt now)
      let qs := ((d.measured freqs).filter (fun x => f.refState x.1 == 3)).map Prod.snd
      ((((d.measured freqs).foldl (fun y x => y.refJudge x.1 x.2 (median qs) qs.length) f).peersSettle.histAppend mean).tmuEval).withTmu
        (fun t => { t with window := t.window + 1 }) := by
  simp only [Dev.refMeasure, Dev.loopAt, beq_iff_eq]
  rfl

end Sys2Proof.Machine

namespace Sys2Proof.Proofs

open Sys2Proof.Machine

/-- Settles O43: each clause is the law of the operation that the command calls, under the clause's conditions; of TOD_TIMEOUT it is its meaning
itself. -/
theorem referenceCommandsComplete : Obligations.ReferenceCommandsComplete := by
  unfold Obligations.ReferenceCommandsComplete
  intro d q
  refine ⟨fun freqs mean now h => ?measurement, fun r h hs => ?absent, fun r h hs hc => ?present, fun r h hs => ?glitch,
    fun r type fmt ten h hr hs ht => ?identified, fun r type fmt ten h hr hs ht hx => ?changed, fun r h => ?event, fun m r v h hs he => ?disable,
    fun m r v h hs he hst => ?enable, fun m r v h hl => ?cfg, fun m r v h hl => ?cfgLane, fun m r h hr => ?cntClr, fun m h => ?cntClrTod,
    fun start gap bytes h hs hbad => ?todBad, fun start gap bytes h hs hfrom hto hgap hlen hcrc hnibble => ?todGood, fun h => ?todTimeout,
    fun r h hw => ?restore⟩
  case measurement => exact State.live_eq q ((Dev.live_runs h).trans (Dev.refMeasure_eq d freqs mean now))
  case absent => exact State.live_eq q ((Dev.live_runs h).trans (Dev.refAbsent_signal hs))
  case present => exact State.live_eq q ((Dev.live_runs h).trans (Dev.refPresent_can hs hc))
  case glitch => exact State.live_eq q ((Dev.live_runs h).trans (Dev.refEvent_discarded hs))
  case identified =>
    exact State.live_eq q ((Dev.live_runs h).trans ((Dev.refEvent_identified type fmt ten hr hs).trans (if_neg fun hx => hx.1 ht)))
  case changed =>
    exact State.live_eq q ((Dev.live_runs h).trans ((Dev.refEvent_identified type fmt ten hr hs).trans (if_pos ⟨ht, hx⟩)))
  case event => exact State.live_eq q ((Dev.live_runs h).trans (d.refEvent_event r.val))
  case disable =>
    refine State.live_eq q ((Dev.mWrite_ctrl h hs).trans ?_)
    rw [Dev.pageAfter_refinCtrl, if_neg (by simp [he])]
  case enable =>
    refine State.live_eq q ((Dev.mWrite_ctrl h hs).trans ?_)
    rw [Dev.pageAfter_refinCtrl, if_pos he, if_pos hst]
  case cfg => exact State.live_eq q (Dev.mWrite_follows h (by decide) ((Dev.pageAfter_refinCfg _ _ _ _ _ v).trans (if_neg (by simpa using hl))))
  case cfgLane => exact State.live_eq q (Dev.mWrite_follows h (by decide) ((Dev.pageAfter_refinCfg _ _ _ _ _ v).trans (if_pos hl)))
  case cntClr => exact State.live_eq q (Dev.mWrite_follows h (by decide) ((Dev.pageAfter_refinCtl _ _ _ _ _).trans (if_neg hr)))
  case cntClrTod => exact State.live_eq q (Dev.mWrite_follows h (by decide) (Dev.pageAfter_refinCtl _ _ 3 _ _))
  case todBad => exact State.live_eq q ((Dev.live_runs h).trans (Dev.todMessage_discards hs hbad))
  case todGood => exact State.live_eq q ((Dev.live_runs h).trans (Dev.todMessage_accepts hs ⟨hfrom, hto, hgap, hlen, hcrc, hnibble⟩))
  case todTimeout => exact State.live_eq q (Dev.live_runs h)
  case restore => exact State.live_eq q ((Dev.live_runs h).trans (Dev.wtrExpire_waiting hw))

end Sys2Proof.Proofs
end

section
/-! PROOF. The timing unit (R268 to R285, R293 to R296): the block after each command and event, where its conditions hold. That the means of
CAL_CAPTURE and of the word that a transition goes to are rounded by Config.roundUp, as PBO is (log 91), the model's assumption log adds. -/

namespace Sys2Proof.Machine

/-! ### Selection (R277, R278) -/

/-- The waits to restore that a time of `wtr` seconds has ended. -/
def Dev.waitsEnded (d : Dev) (wtr : Nat) : Dev :=
  (d.refs.map Prod.fst).foldl (fun e r =>
    if (e.ref r).wtr && decide (wtr * 40000000 ≤ e.since (e.ref r).wtrAt) then e.setRef r { e.ref r with wtr := false } else e) d

/-- SEL_CFG: another MANUAL is a command, the waits that the new WTR ends are over, and the selection is evaluated. -/
theorem Dev.pageAfter_selCfg (d : Dev) (m cur : Nat) (old v : Word) :
    d.pageAfter m .tmu 0x020 cur old v =
      ((if Fld.TMU_SEL_CFG_MANUAL.get old ≠ Fld.TMU_SEL_CFG_MANUAL.get v then d.withTmu (fun t => { t with cmd := true }) else d).waitsEnded
        (Fld.TMU_SEL_CFG_WTR.get v)).tmuEval := by
  simp only [← bne_iff_ne]
  rfl

theorem Dev.pageAfter_prio (d : Dev) (m cur : Nat) (old v : Word) : d.pageAfter m .tmu 0x024 cur old v = d.tmuEval := rfl

/-! ### Transitions (R280) -/

/-- The target's phase is captured in step 1: the ramp to the word of its own frequency begins. -/
theorem Dev.phaseCapture_captures {d : Dev} (phase : Int) (h : d.tf .TMU_STAT_TRANSITION = 1) (hstep : d.tmu.step = 1) :
    d.phaseCapture phase =
      d.withTmu (fun t => { t with step := 2, phase := 256 * phase, ramp := some (d.xo.toNat, d.goalOf (d.tf .TMU_STAT_TARGET)) }) :=
  if_pos (by simp [h, hstep])

/-- The ramp ends in step 2: the DCO stands at its goal. -/
theorem Dev.loopClose_closes {d : Dev} (h : d.tf .TMU_STAT_TRANSITION = 1) (hstep : d.tmu.step = 2) :
    d.loopClose = d.withTmu (fun t => { t with step := 3, dco := (t.ramp.map Prod.snd).getD t.dco, ramp := none }) :=
  if_pos (by simp [h, hstep])

/-- The transition ends in step 3: the unit is LOCKED on the target, PBO takes the phase captured, and the selection is evaluated. -/
theorem Dev.transitionDone_locks {d : Dev} (h : d.tf .TMU_STAT_TRANSITION = 1) (hstep : d.tmu.step = 3) :
    d.transitionDone =
      let e := ((d.wr .tmu .TMU_STAT_SEL_REF (d.tf .TMU_STAT_TARGET)).wr .tmu .TMU_STAT_SEL_VALID 1).wr .tmu .TMU_STAT_TRANSITION 0
      let e := e.withTmu (fun t => { t with wasLocked := true, step := 0 })
      let e := ((e.tmuEnter 2).wr .tmu .TMU_STAT_HOLDOVER_SHORT 0).thaw
      ((e.showPbo e.tmu.phase).setEvt .tmu 9).tmuEval :=
  if_pos (by simp [h, hstep])

/-! ### History and calibration (R269, R283, R285) -/

/-- CTL with CAL_CAPTURE alone: XO_CAL takes the mean of the valid history. -/
theorem Dev.pageAfter_calCapture (d : Dev) (m cur : Nat) (old : Word) :
    d.pageAfter m .tmu 0x038 cur old 1 =
      let c := meanOpen 7 d.tmu.valid
      ((d.wr .tmu .TMU_XO_CAL_LO_LO (field32 c)).wr .tmu .TMU_XO_CAL_HI_HI (((c / 2 ^ 32) % 65536).toNat)).withTmu
        (fun t => { t with cal := c }) := rfl

/-- CTL with HIST_CLR alone: no entry of the history is valid. -/
theorem Dev.pageAfter_histClr (d : Dev) (m cur : Nat) (old : Word) :
    d.pageAfter m .tmu 0x038 cur old 2 =
      (d.withTmu (fun t => { t with hist := t.hist.map (fun x => (x.1, none)) })).wr .tmu .TMU_HIST_VALID_N 0 := rfl

/-- XO_CAL_LO waits for XO_CAL_HI. -/
theorem Dev.pageAfter_xoCalLo (d : Dev) (m cur : Nat) (old v : Word) : d.pageAfter m .tmu 0x054 cur old v = d := rfl

/-- XO_CAL_HI puts the pair in force. -/
theorem Dev.pageAfter_xoCalHi (d : Dev) (m cur : Nat) (old v : Word) :
    d.pageAfter m .tmu 0x058 cur old v = d.withTmu (fun t => { t with cal := d.xoCal }) := rfl

/-! ### Reads that latch (R70) -/

theorem Dev.passed_tmu (d : Dev) (m : Nat) : (d.passed m).tmu = d.tmu := by
  unfold Dev.passed Dev.bwAdd
  split <;> rfl

theorem Dev.passed_dcoNow (d : Dev) (m : Nat) : (d.passed m).dcoNow = d.dcoNow := by
  unfold Dev.passed Dev.bwAdd
  split <;> rfl

/-- A read of DCO_LO or HOLD_LO returns the low word and latches the HI register. -/
theorem Dev.mRead_tmuLo {d : Dev} {m : Nat} (hold : Bool) (h : d.stopped = false) (hperm : d.permits m 6 false = true) :
    d.live (fun d => d.mRead m .tmu (if hold then 0x04C else 0x044)) =
      ((d.passed m).tmuLoRead hold).respond m ⟨.okay, [BitVec.ofNat 32 (field32 (if hold then d.tmu.hold else d.dcoNow))]⟩ := by
  rw [← d.passed_tmu m, ← d.passed_dcoNow m]
  cases hold with
  | false => exact Dev.mRead_okay h hperm rfl
  | true => exact Dev.mRead_okay h hperm rfl

/-! ### Phase steps, clocks and the house sample (R282, R293, R295, R296) -/

theorem Dev.pageAfter_phaseStep (d : Dev) (m cur : Nat) (old v : Word) : d.pageAfter m .tmu 0x030 cur old v = d.phaseStep v := rfl

/-- PHASE_STEP adds to what remains of the phase step, to the phase that a transition has captured and, while LOCKED, to PBO; the window counts
no more for the history. -/
theorem Dev.phaseStep_eq (d : Dev) (v : Word) :
    d.phaseStep v =
      let x := signedOf 32 v.toNat
      let f := if d.phaseLeft + x = 0 then d.stepDone else d.setPhaseLeft (d.phaseLeft + x)
      let g := f.withTmu (fun t => { t with phase := if 2 ≤ t.step then t.phase + x else t.phase, winOk := false })
      if g.tf .TMU_STAT_STATE = 2 then g.showPbo (g.tmu.pbo + x) else g := by
  simp only [Dev.phaseStep, beq_iff_eq]

/-- A phase step that has something left reaches its end. -/
theorem Dev.stepDone_left {d : Dev} (h : d.tf .TMU_PHASE_LEFT_LEFT ≠ 0) : d.stepDone = (d.setPhaseLeft 0).setEvt .tmu 12 :=
  if_neg (by simpa using h)

/-- CLK_CFG is stored; the low gap of CLK_OUT is time alone. -/
theorem Dev.pageAfter_clkCfg (d : Dev) (m cur : Nat) (old v : Word) : d.pageAfter m .tmu 0x090 cur old v = d := rfl

/-- AUD_CTL with REALIGN: the house sample period slews. -/
theorem Dev.pageAfter_audRealign (d : Dev) (m cur : Nat) (old : Word) :
    d.pageAfter m .tmu 0x074 cur old 1 = d.withTmu (fun t => { t with aud := true }) := rfl

/-- The house sample period that slews is aligned; no phase step runs. -/
theorem Dev.audDone_aligned {d : Dev} (h : d.tmu.aud = true) (hleft : d.phaseLeft = 0) :
    d.audDone = (d.withTmu (fun t => { t with aud := false })).setEvt .tmu 13 :=
  if_pos (by simp [h, hleft])

end Sys2Proof.Machine

namespace Sys2Proof.Proofs

open Sys2Proof.Machine

/-- Settles O44: each clause is the law of the operation that the command calls, under the clause's conditions. -/
theorem timingUnitCommandsComplete : Obligations.TimingUnitCommandsComplete := by
  unfold Obligations.TimingUnitCommandsComplete
  intro d q
  refine ⟨fun m v h => ?selCfg, fun m v h => ?prio, fun ph h ht hs => ?capture, fun h ht hs => ?close, fun h ht hs => ?done, fun m h => ?cal,
    fun m h => ?histClr, fun m v h => ?xoCalLo, fun m v h => ?xoCalHi, fun m hold h hp => ?loRead, fun m v h => ?phaseStep, fun h hl => ?stepDone,
    fun m v h => ?clkCfg, fun m h => ?realign, fun h ha hl => ?audDone⟩
  case selCfg => exact State.live_eq q (Dev.mWrite_follows h (by decide) (Dev.pageAfter_selCfg _ _ _ _ v))
  case prio => exact State.live_eq q (Dev.mWrite_follows h (by decide) (Dev.pageAfter_prio _ _ _ _ v))
  case capture => exact State.live_eq q ((Dev.live_runs h).trans (Dev.phaseCapture_captures ph ht hs))
  case close => exact State.live_eq q ((Dev.live_runs h).trans (Dev.loopClose_closes ht hs))
  case done => exact State.live_eq q ((Dev.live_runs h).trans (Dev.transitionDone_locks ht hs))
  case cal => exact State.live_eq q (Dev.mWrite_follows h (by decide) (Dev.pageAfter_calCapture _ _ _ _))
  case histClr => exact State.live_eq q (Dev.mWrite_follows h (by decide) (Dev.pageAfter_histClr _ _ _ _))
  case xoCalLo => exact State.live_eq q (Dev.mWrite_follows h (by decide) (Dev.pageAfter_xoCalLo _ _ _ _ v))
  case xoCalHi => exact State.live_eq q (Dev.mWrite_follows h (by decide) (Dev.pageAfter_xoCalHi _ _ _ _ v))
  case loRead => exact State.live_eq q (Dev.mRead_tmuLo hold h hp)
  case phaseStep =>
    exact State.live_eq q (Dev.mWrite_follows h (by decide) ((Dev.pageAfter_phaseStep _ _ _ _ v).trans (Dev.phaseStep_eq _ v)))
  case stepDone => exact State.live_eq q ((Dev.live_runs h).trans (Dev.stepDone_left hl))
  case clkCfg => exact State.live_eq q (Dev.mWrite_follows h (by decide) (Dev.pageAfter_clkCfg _ _ _ _ v))
  case realign => exact State.live_eq q (Dev.mWrite_follows h (by decide) (Dev.pageAfter_audRealign _ _ _ _))
  case audDone => exact State.live_eq q ((Dev.live_runs h).trans (Dev.audDone_aligned ha hl))

end Sys2Proof.Proofs
end

section
/-! PROOF. Timing domains (R286 to R293): the block after each command and event, where its conditions hold. How offset slews add up (log 92) the
model's assumption log adds; a place half a frame away it reaches forwards. -/

namespace Sys2Proof.Machine

/-! ### Format, enable and offset (R286, R288, R293) -/

theorem Dev.passed_domFmt (d : Dev) (m k : Nat) : (d.passed m).domFmt k = d.domFmt k := by
  unfold Dev.passed Dev.bwAdd
  split <;> rfl

/-- FMT of a domain: with another format in force the domain follows it, and with another code alone FCNT is loaded with 0. -/
theorem Dev.pageAfter_tdomFmt (d : Dev) (m k cur : Nat) (old v : Word) :
    d.pageAfter m (.tdom k) 0x020 cur old v =
      if d.domFmt k ≠ cur then d.domFollow k
      else if Fld.TDOM_FMT_FMT.get old ≠ Fld.TDOM_FMT_FMT.get v then d.fcntLoad k 0 else d := by
  simp only [← bne_iff_ne]
  rfl

/-- PAGE_CTRL of a domain: with another format in force the domain follows it. -/
theorem Dev.pageAfter_tdomCtrl (d : Dev) (m k cur : Nat) (old v : Word) :
    d.pageAfter m (.tdom k) 0x008 cur old v = if d.domFmt k ≠ cur then d.domFollow k else d := by
  simp only [← bne_iff_ne]
  rfl

/-- The place of an OFFSET word in a frame of lines of `len` clocks. -/
def offsetPlace (len : Nat) (w : Word) : Int := ((Fld.TDOM_OFFSET_VOFF.get w * len + Fld.TDOM_OFFSET_HOFF.get w : Nat) : Int)

/-- The shorter way from one OFFSET to another in a frame of the format. -/
def Fmt.offsetWay (f : Fmt) (old v : Word) : Int :=
  let n : Int := f.len * f.lines
  let o := (offsetPlace f.len v - offsetPlace f.len old) % n
  if n < 2 * o then o - n else o

/-- OFFSET of a domain with a format: the shorter way to it is to be slewed; of a domain that is off it is stored, and nothing follows. -/
theorem Dev.pageAfter_offset (d : Dev) (m k cur : Nat) (old v : Word) :
    d.pageAfter m (.tdom k) 0x024 cur old v = (fmtOf (d.domFmt k)).elim d fun f =>
      (d.setDom k { d.dom k with offLeft := (d.dom k).offLeft + f.offsetWay old v * 10000000 }).slewSettle k := by
  change d.tdomAfter k 0x024 cur old v = _
  unfold Dev.tdomAfter
  cases fmtOf (d.domFmt k) <;> rfl

/-- SWLINE is stored; the next frame start puts it in force. -/
theorem Dev.pageAfter_swline (d : Dev) (m k cur : Nat) (old v : Word) : d.pageAfter m (.tdom k) 0x028 cur old v = d := rfl

/-! ### REALIGN (R292) -/

/-- The fields of the word that JUMP writes to REALIGN. -/
theorem jump_fields (frame : BitVec 16) :
    Fld.TDOM_REALIGN_CMD.get (BitVec.ofNat 32 (0x10000 + frame.toNat)) = 1 ∧
      Fld.TDOM_REALIGN_FRAME.get (BitVec.ofNat 32 (0x10000 + frame.toNat)) = frame.toNat := by
  have hf := frame.isLt
  have word : (BitVec.ofNat 32 (0x10000 + frame.toNat)).toNat = 0x10000 + frame.toNat := by
    rw [BitVec.toNat_ofNat, Nat.mod_eq_of_lt (by omega)]
  simp only [Fld.get, word, Fld.TDOM_REALIGN_CMD, Fld.TDOM_REALIGN_FRAME, fWC, Nat.shiftRight_eq_div_pow]
  omega

/-- JUMP is armed for its frame. -/
theorem Dev.pageAfter_jump (d : Dev) (m k cur : Nat) (old : Word) (frame : BitVec 16) :
    d.pageAfter m (.tdom k) 0x030 cur old (BitVec.ofNat 32 (0x10000 + frame.toNat)) =
      (d.setDom k { d.dom k with jumpAt := frame.toNat }).wr (.tdom k) .TDOM_STAT_REALIGN 1 := by
  obtain ⟨cmd, number⟩ := jump_fields frame
  change d.tdomAfter k 0x030 cur old _ = _
  simp [Dev.tdomAfter, cmd, number]

/-- SLEW is shown in STAT as it runs. -/
theorem Dev.pageAfter_slew (d : Dev) (m k cur : Nat) (old : Word) :
    d.pageAfter m (.tdom k) 0x030 cur old 0x20000 = (d.wr (.tdom k) .TDOM_STAT_REALIGN 2).slewSettle k := rfl

/-- CANCEL ends the REALIGN that is armed or runs. -/
theorem Dev.pageAfter_cancel (d : Dev) (m k cur : Nat) (old : Word) :
    d.pageAfter m (.tdom k) 0x030 cur old 0x30000 = d.realignEnd k true := rfl

theorem Dev.jumpExecute_due {d : Dev} {k : Nat} (epoch : Nat) (h : d.jumpDue k = true) : d.jumpExecute k epoch = d.frameStart k 0 epoch :=
  if_pos h

/-- A running SLEW has brought ALIGN_ERR to 0; no phase step runs. -/
theorem Dev.slewDone_aligned {d : Dev} {k : Nat} (h : d.td k .TDOM_STAT_REALIGN = 2) (hleft : d.phaseLeft = 0) :
    d.slewDone k = (d.wr (.tdom k) .TDOM_ALIGN_ERR_ERR 0).realignEnd k false :=
  if_pos (by simp [h, hleft])

/-! ### The frame count (R289) -/

/-- CTL of a domain with FCNT_CLR: FCNT to 0, and no frame has fired since. -/
theorem Dev.pageAfter_fcntClr (d : Dev) (m k cur : Nat) (old : Word) :
    d.pageAfter m (.tdom k) 0x03C cur old 1 =
      let e := d.wr (.tdom k) .TDOM_FCNT_FCNT 0
      e.setDom k { e.dom k with fired := none } := rfl

end Sys2Proof.Machine

namespace Sys2Proof.Proofs

open Sys2Proof.Machine

/-- Settles O45: each clause is the law of the operation that the command calls, under the clause's conditions. -/
theorem timingDomainCommandsComplete : Obligations.TimingDomainCommandsComplete := by
  unfold Obligations.TimingDomainCommandsComplete
  intro d q
  refine ⟨fun m k v h => ?fmt, fun m k v h hs => ?enable, fun m k v h hf => ?offsetOff, fun m k v f h hf => ?offsetOn, fun m k v h => ?swline,
    fun m k frame h => ?jump, fun m k h => ?slew, fun m k h => ?cancel, fun k epoch h hf hj => ?jumpExecute, fun k h hr hl => ?slewDone,
    fun m k h => ?fcntClr⟩
  case fmt =>
    rw [← d.passed_domFmt m.val]
    exact State.live_eq q (Dev.mWrite_follows h (by decide) (Dev.pageAfter_tdomFmt _ _ k _ _ v))
  case enable =>
    rw [← d.passed_domFmt m.val]
    refine State.live_eq q ((Dev.mWrite_ctrl h hs).trans ?_)
    rw [Dev.pageAfter_tdomCtrl]
    rfl
  case offsetOff =>
    refine State.live_eq q (Dev.mWrite_follows h (by decide) ?_)
    rw [Dev.pageAfter_offset, hf, Option.elim_none]
  case offsetOn =>
    refine State.live_eq q (Dev.mWrite_follows h (by decide) ?_)
    rw [Dev.pageAfter_offset, hf, Option.elim_some]
    rfl
  case swline => exact State.live_eq q (Dev.mWrite_follows h (by decide) (Dev.pageAfter_swline _ _ k _ _ v))
  case jump => exact State.live_eq q (Dev.mWrite_follows h (by decide) (Dev.pageAfter_jump _ _ k _ _ frame))
  case slew => exact State.live_eq q (Dev.mWrite_follows h (by decide) (Dev.pageAfter_slew _ _ k _ _))
  case cancel => exact State.live_eq q (Dev.mWrite_follows h (by decide) (Dev.pageAfter_cancel _ _ k _ _))
  case jumpExecute =>
    exact State.live_eq q ((Dev.live_runs h).trans ((Dev.jumpExecute_due epoch hj).trans (Dev.frameStart_runs 0 epoch hf)))
  case slewDone => exact State.live_eq q ((Dev.live_runs h).trans (Dev.slewDone_aligned hr hl))
  case fcntClr => exact State.live_eq q (Dev.mWrite_follows h (by decide) (Dev.pageAfter_fcntClr _ _ k _ _))

end Sys2Proof.Proofs
end

section
/-! PROOF. The frame-store aperture (R315, R404): what a granted write of one word leaves in the memories and in the registers. Which byte of the
word lies lower (log 16) the model's assumption log adds. -/

namespace Sys2Proof.Machine

/-! ### Bytes of the frame-store memories -/

/-- A byte of the memories after a write of one of them. -/
theorem Dev.memByte_setMemByte (d : Dev) (m a j c : Nat) (b : Byte) :
    (d.setMemByte m a b).memByte j c = if memKey j c = memKey m a then b else d.memByte j c :=
  Map.get_put _ _ _ _ _

/-- The enabled bytes of a word, of those that a list names, written from an address upward. -/
def Dev.bytesPut (d : Dev) (m a : Nat) (be : BitVec 4) (v : Word) (is : List Nat) : Dev :=
  is.foldl (fun e i => if be.getLsbD i then e.setMemByte m (a + i) (v.extractLsb' (8 * i) 8) else e) d

section
variable (m a : Nat) (be : BitVec 4) (v : Word)

/-- Writing bytes changes the memories alone. -/
theorem Dev.bytesPut_rest (x : Map Byte) (is : List Nat) (d : Dev) : { d.bytesPut m a be v is with mem := x } = { d with mem := x } := by
  induction is generalizing d with
  | nil => rfl
  | cons i is ih =>
    refine (ih _).trans ?_
    dsimp only
    split <;> rfl

/-- A byte at none of the addresses is as before. -/
theorem Dev.memByte_bytesPut_other {j c : Nat} (is : List Nat) (h : ∀ i ∈ is, memKey j c ≠ memKey m (a + i)) (d : Dev) :
    (d.bytesPut m a be v is).memByte j c = d.memByte j c := by
  induction is generalizing d with
  | nil => rfl
  | cons i is ih =>
    obtain ⟨hi, his⟩ := List.forall_mem_cons.1 h
    refine (ih his _).trans ?_
    dsimp only
    split
    · rw [Dev.memByte_setMemByte, if_neg hi]
    · rfl

/-- A byte at `j` from the address is the word's where the list names it and it is enabled, and as before where not. -/
theorem Dev.memByte_bytesPut (j : Nat) (is : List Nat) (d : Dev) :
    (d.bytesPut m a be v is).memByte m (a + j) =
      if j ∈ is ∧ be.getLsbD j = true then v.extractLsb' (8 * j) 8 else d.memByte m (a + j) := by
  induction is generalizing d with
  | nil => simp [Dev.bytesPut]
  | cons i is ih =>
    have key : memKey m (a + j) = memKey m (a + i) ↔ j = i := by simp only [memKey]; omega
    have first : (if be.getLsbD i then d.setMemByte m (a + i) (v.extractLsb' (8 * i) 8) else d).memByte m (a + j) =
        if j = i ∧ be.getLsbD j = true then v.extractLsb' (8 * j) 8 else d.memByte m (a + j) := by
      split
      next on =>
        rw [Dev.memByte_setMemByte]
        simp only [key]
        by_cases hj : j = i
        · subst hj; simp [on]
        · simp [hj]
      next off => exact (if_neg fun (on : j = i ∧ be.getLsbD j = true) => off (on.1 ▸ on.2)).symm
    refine (ih _).trans ?_
    rw [first]
    simp only [List.mem_cons]
    by_cases hon : be.getLsbD j = true <;> by_cases hj : j ∈ is <;> simp [hon, hj]

end

/-! ### A transfer to the aperture -/

/-- The block as a transfer of `n` enabled bytes through the aperture finds it, after a wait of `wait` ticks: granted, its bytes and its burst of 64
counted, and the longest wait kept (R312, R353, R404). -/
def Dev.apertureGranted (d : Dev) (m n wait : Nat) : Dev :=
  let e := (d.granted 5 m).bwAdd 329 n
  let k := e.rd .fst .FST_APERTURE_BASE_MEMC
  (e.memBw k true 64).wr (.memc k) .MEMC_MGMT_WAIT_MAX (max (e.rd (.memc k) .MEMC_MGMT_WAIT_MAX) (min wait (2 ^ 32 - 1)))

/-- Beside counts and arbiters, MEMC.MGMT_WAIT_MAX of the aperture's controller alone may change. -/
theorem Dev.apertureGranted_keeps (d : Dev) (m n wait : Nat) :
    d.Keeps [regKey (.memc (d.rd .fst .FST_APERTURE_BASE_MEMC)) 0 0x03C] (d.apertureGranted m n wait) := by
  have base : ((d.granted 5 m).bwAdd 329 n).rd .fst .FST_APERTURE_BASE_MEMC = d.rd .fst .FST_APERTURE_BASE_MEMC :=
    ((d.granted_keeps [] 5 m).trans (Dev.bwAdd_keeps [] _ _ _)).rd _ _ List.not_mem_nil
  unfold Dev.apertureGranted
  dsimp only
  rw [base]
  exact ((d.granted_keeps _ 5 m).trans (Dev.bwAdd_keeps _ _ _ _)).trans
    ((Dev.bwAdd_keeps _ _ _ _).trans (Dev.wr_keeps _ (.memc _) .MEMC_MGMT_WAIT_MAX _ (List.mem_singleton_self _)))

/-- The aperture stands where it stood, and its address with it. -/
theorem Dev.apertureGranted_apertureAt (d : Dev) (m n wait off : Nat) : (d.apertureGranted m n wait).apertureAt off = d.apertureAt off := by
  have kept := fun f (hf : f.off = 0x064) =>
    (d.apertureGranted_keeps m n wait).rd .fst f (List.mem_singleton.not.2 (regKey_ne _ _ (by rw [hf]; decide)))
  rw [Dev.apertureAt, kept .FST_APERTURE_BASE_MEMC rfl, kept .FST_APERTURE_BASE_WINDOW rfl, Dev.apertureAt]

/-- A write of one word to the aperture that the matrix lets through, its controller READY: the enabled bytes are written, and it is answered OKAY. -/
theorem Dev.transfer_write_aperture {d : Dev} {m addr : Nat} (be : BitVec 4) (v : Word) (env : XferEnv) (ht : targetAt (addr / 4 * 4) = 5)
    (hbar : d.hostBarred m (addr / 4 * 4) = false) (hperm : d.permits m 5 true = true) (hlock : d.lockedOut m 5 = false)
    (hready : d.memcReady (d.rd .fst .FST_APERTURE_BASE_MEMC) = true) :
    d.transfer m addr 0 true [⟨be, v⟩] env =
      let x := d.apertureAt (addr / 4 * 4 - 0x2000000)
      ((d.apertureGranted m (beatBytes [⟨be, v⟩]) env.wait).bytesPut x.1 x.2 be v (List.range 4)).okay m := by
  rw [← d.apertureGranted_apertureAt m (beatBytes [⟨be, v⟩]) env.wait]
  have ready : d.memcReady (d.apertureAt 0).1 = true := hready
  unfold Dev.transfer
  simp only [ht, hbar, hperm, hlock, ready, Bool.and_false, Bool.not_true, Bool.false_and, Bool.false_eq_true, if_false, Nat.reduceBEq]
  rfl

theorem Dev.Keeps.mem {ks : List Nat} {d e : Dev} (h : d.Keeps ks e) : e.mem = d.mem := (congrArg Dev.mem h.rest :)

theorem Dev.Keeps.sram {ks : List Nat} {d e : Dev} (h : d.Keeps ks e) : e.sram = d.sram := (congrArg Dev.sram h.rest :)

theorem Dev.Keeps.memByte {ks : List Nat} {d e : Dev} (h : d.Keeps ks e) (j c : Nat) : e.memByte j c = d.memByte j c := by
  have genA : e.memGen = d.memGen := (congrArg Dev.memGen h.rest :)
  have genB : e.memGenB = d.memGenB := (congrArg Dev.memGenB h.rest :)
  have free : e.memFree = d.memFree := by
    funext k
    rw [Dev.memFree, genA, genB, Dev.memFree]
  rw [Dev.memByte, h.mem, free, Dev.memByte]

end Sys2Proof.Machine

namespace Sys2Proof.Proofs

open Sys2Proof.Machine

/-- Settles O21: the transfer is the write of the word's enabled bytes on the block that the grant leaves, whose memories and aperture are those
of the block before. -/
theorem apertureWritesItsBytes : Obligations.ApertureWritesItsBytes := by
  unfold Obligations.ApertureWritesItsBytes
  intro d q m addr be v env a k b hrun ht hbar hperm hlock hready
  let e := d.apertureGranted m.val (beatBytes [⟨be, v⟩]) env.wait
  have granted : d.Keeps [regKey (.memc k) 0 0x03C] e := d.apertureGranted_keeps _ _ _
  have write : d.live (fun d => d.matrixTransfer m.val ⟨.write, addr, [⟨be, v⟩], env⟩) =
      (e.bytesPut k b be v (List.range 4)).okay m.val :=
    (Dev.live_runs hrun).trans (Dev.transfer_write_aperture be v env ht hbar hperm hlock hready)
  have rest : { e.bytesPut k b be v (List.range 4) with mem := d.mem } = e := by
    rw [Dev.bytesPut_rest, ← granted.mem]
  refine ⟨_, State.live_eq q write, Dev.respOf_respond _ _ _, fun i hi => ?written, fun j c hjc => ?others, ?sram, ?frame⟩
  case written =>
    refine (Dev.memByte_bytesPut k b be v i (List.range 4) e).trans ?_
    rw [granted.memByte]
    simp only [List.mem_range, hi, true_and]
  case others =>
    refine (Dev.memByte_bytesPut_other k b be v (List.range 4) (fun i hi => hjc i (List.mem_range.1 hi)) e).trans ?_
    exact granted.memByte j c
  case sram => exact (congrArg Dev.sram rest).trans granted.sram
  case frame =>
    change d.Keeps _ (({ e.bytesPut k b be v (List.range 4) with mem := d.mem } : Dev).okay m.val)
    rw [rest]
    exact granted.trans (Dev.respond_keeps _ _ _ _)

end Sys2Proof.Proofs
end

section
/-! PROOF. The commands of the frame store (R298 to R315): what a change of a running delay line's DELAY does, and why the statement about these
commands says otherwise. -/

namespace Sys2Proof.Machine

/-- A change of DELAY on an enabled line: the old delay is ramped from, and no block of the incoming sample has begun in the ramp (R210, R311). -/
def Dev.rampStarted (d : Dev) (i old : Nat) : Dev := d.setDelay i { d.delay i with oldDelay := old, ramp := 0, fromI := false }

/-- DL_CFG of a line that stays enabled, with another DELAY: its ramp begins. -/
theorem Dev.pageAfter_dlDelay (d : Dev) (m cur : Nat) {old v : Word} (hwas : Fld.FST_DL_CFG_ENABLE.get old = 1)
    (hnow : Fld.FST_DL_CFG_ENABLE.get v = 1) (hdelay : Fld.FST_DL_CFG_DELAY.get old ≠ Fld.FST_DL_CFG_DELAY.get v) :
    d.pageAfter m .fst 0x054 cur old v = (d.rampStarted (d.rd .fst .FST_DL_SEL_LINE) (Fld.FST_DL_CFG_DELAY.get old)).txFollow := by
  change (d.dlAfter _ old v).txFollow = _
  simp [Dev.dlAfter, hwas, hnow, hdelay, Dev.rampStarted]

/-- DL_CFG_WRITE of an enabled line, with another DELAY: the line that DL_SEL names starts its ramp from the old delay. -/
theorem exec_dlCfgWrite_delay {d : Dev} {m : Master} {v : Word} (q : List Instr) (h : d.admits m.val .fst 0x054 v = true)
    (hwas : Fld.FST_DL_CFG_ENABLE.get (d.held m.val .fst 0x054) = 1) (hnow : Fld.FST_DL_CFG_ENABLE.get v = 1)
    (hdelay : Fld.FST_DL_CFG_DELAY.get (d.held m.val .fst 0x054) ≠ Fld.FST_DL_CFG_DELAY.get v) :
    let f := d.stored m.val .fst 0x054 v
    exec (.dlCfgWrite m v) ⟨d, q⟩ =
      .next ⟨(f.rampStarted (f.rd .fst .FST_DL_SEL_LINE) (Fld.FST_DL_CFG_DELAY.get (d.held m.val .fst 0x054))).txFollow.okay m.val, q⟩ :=
  State.live_eq q (Dev.mWrite_follows h (by decide) (Dev.pageAfter_dlDelay _ _ _ hwas hnow hdelay))

/-- A block whose delay line 0 runs with a DELAY of 1 on a READY memory: its last ramp is over, and left the mark that the incoming sample's block
has begun. -/
def rampedLine : Dev :=
  { (({} : Dev).wr (.memc 0) .MEMC_STAT_STATE 2).wrB .fst 0 .FST_DL_CFG_ENABLE 1 with delays := [(0, { fromI := true })] }

end Sys2Proof.Machine

namespace Sys2Proof.Proofs

open Sys2Proof.Machine

/-- Refutes O46: on `rampedLine`, a write of DELAY 2 clears the mark of line 0, and the statement's next state keeps it. -/
theorem not_frameStoreCommandsComplete : ¬ Obligations.FrameStoreCommandsComplete := by
  unfold Obligations.FrameStoreCommandsComplete
  intro h
  obtain ⟨-, -, -, -, -, -, -, -, -, -, -, -, -, -, -, -, -, -, -, -, delayChange, -⟩ := h rampedLine []
  have admits : rampedLine.admits (0 : Master).val .fst 0x054 0x80000002 = true := by decide +kernel
  have was : Fld.FST_DL_CFG_ENABLE.get (rampedLine.held (0 : Master).val .fst 0x054) = 1 := by decide +kernel
  have now : Fld.FST_DL_CFG_ENABLE.get (0x80000002 : Word) = 1 := by decide
  have moved : Fld.FST_DL_CFG_DELAY.get (rampedLine.held (0 : Master).val .fst 0x054) ≠ Fld.FST_DL_CFG_DELAY.get (0x80000002 : Word) := by
    decide +kernel
  have stated := delayChange 0 0x80000002 admits was now moved
  have acts := exec_dlCfgWrite_delay (m := 0) [] admits was now moved
  have same := congrArg (fun s : State => (s.dev.delay 0).fromI) (Host.Outcome.next.inj (stated.symm.trans acts))
  -- In the statement's state the mark of line 0 is true, in the one that the command leaves false.
  exact absurd same (by decide +kernel)

end Sys2Proof.Proofs
end

section
/-! PROOF. The walls (R318 to R328): the block after each command and event, where its conditions hold, and a block on which gates and claims part.
That a WALL reset is over at once and REJOIN needs ENABLE = 1 (log 82), and what parity errors and SAFE_CNT count (log 81), the model's assumption
log adds. -/

namespace Sys2Proof.Machine

/-! ### Giving up and self-diagnosis (R321, R324) -/

/-- A wall that is not FAILED gives up. -/
theorem Dev.giveUp_healthy {d : Dev} {w : Nat} (cause : Nat) (h : d.wallState w ≠ 2) : d.giveUp w cause = (d.wallFail w cause true).wallsSettle :=
  if_neg (by simpa using h)

/-- A failure that a wall finds in TEST or COPY fails its rejoin, and is no give-up. -/
theorem Dev.diagFail_rejoining {d : Dev} {w : Nat} (cause : Nat) (h : d.wallState w = 3 ∨ d.wallState w = 4) :
    d.diagFail w cause = (d.wallFail w cause false).wallsSettle := by
  unfold Dev.diagFail
  rcases h with h | h <;> rw [h] <;> rfl

/-- One probe brick wrong or missing is counted; two in a row are a failure (Table 14.2). -/
theorem Dev.diag_probe (d : Dev) (w n : Nat) :
    d.diag w (.probe n) =
      let e := d.add (.wall w) .WALL_PROBE_ERR_COUNT n
      if 2 ≤ n then e.diagFail w 6 else e := rfl

/-! ### Writes of a WALL page (R321, R324 to R326, R330) -/

/-- CTL with GIVE_UP alone. -/
theorem Dev.pageAfter_wallGiveUp (d : Dev) (m w cur : Nat) (old : Word) : d.pageAfter m (.wall w) 0x024 cur old 1 = (d.giveUp w 1).txFollow := rfl

/-- CTL with REJOIN alone. -/
theorem Dev.pageAfter_wallRejoin (d : Dev) (m w cur : Nat) (old : Word) : d.pageAfter m (.wall w) 0x024 cur old 2 = (d.rejoinStart w).txFollow := rfl

/-- CTL with WALL_RESET alone. -/
theorem Dev.pageAfter_wallReset (d : Dev) (m w cur : Nat) (old : Word) : d.pageAfter m (.wall w) 0x024 cur old 4 = (d.wallReset w).txFollow := rfl

/-- CTL with CNT_CLR alone: ECC_CNT, ERR_CNT, PROBE_ERR and LATE to 0. -/
theorem Dev.pageAfter_wallCntClr (d : Dev) (m w cur : Nat) (old : Word) :
    d.pageAfter m (.wall w) 0x024 cur old 8 =
      ((((((d.wr (.wall w) .WALL_ECC_CNT_CORR 0).wr (.wall w) .WALL_ECC_CNT_UNCORR 0).wr (.wall w) .WALL_ERR_CNT_CRC 0).wr (.wall w)
        .WALL_ERR_CNT_PARITY 0).wr (.wall w) .WALL_PROBE_ERR_COUNT 0).wr (.wall w) .WALL_LATE_COUNT 0).txFollow := rfl

theorem Dev.pageAfter_wallClaim (d : Dev) (m w cur : Nat) (old v : Word) : d.pageAfter m (.wall w) 0x020 cur old v = d.wallsSettle.txFollow := rfl

/-- PAGE_CTRL of a wall: a fall of ENABLE makes it give up. -/
theorem Dev.pageAfter_wallCtrl (d : Dev) (m w cur : Nat) (old v : Word) :
    d.pageAfter m (.wall w) 0x008 cur old v =
      (if Fld.PAGE_CTRL_ENABLE.get old == 1 && Fld.PAGE_CTRL_ENABLE.get v == 0 then d.giveUp w 1 else d).txFollow := rfl

/-! ### Cross-compare and the targeted self-test (R322) -/

/-- Two items differ that a gate compared: counted in MM_SEEN, with its event. -/
def Dev.mismatchSeen (d : Dev) : Dev := (d.inc .cgate .CGATE_MM_SEEN_COUNT).setEvt .cgate 11

/-- What follows a mismatch while both walls have a claim: a SHADOW wall gives up; with a STANDBY wall the self-test of the path starts, or follows
the one that runs. -/
theorem Dev.mismatch_compared {d : Dev} {a : Nat} (kind index : Nat) (hgate : d.gateWall = some a) (hclaim : d.wallEff (otherWall a) ≠ 0) :
    d.mismatch kind index =
      let e := d.mismatchSeen
      let path := kind * 65536 + index % 65536
      if e.wallState (otherWall a) = 5 then e.giveUp (otherWall a) 8
      else if e.wallState (otherWall a) ≠ 1 then e
      else if e.gates.testing.isSome then { e with gates := { e.gates with again := some path } }
      else e.selfTest path := by
  simp only [Dev.mismatch, hgate, beq_iff_eq, if_neg hclaim, bne_iff_ne]
  rfl

/-- With a STANDBY wall the self-test of the path starts, or is to follow the one that runs. -/
theorem Dev.mismatch_standby {d : Dev} {a kind index : Nat} (hgate : d.gateWall = some a) (hclaim : d.wallEff (otherWall a) ≠ 0)
    (hstate : d.mismatchSeen.wallState (otherWall a) = 1) (hindex : index < 65536) :
    d.mismatch kind index =
      let e := d.mismatchSeen
      let path := kind * 65536 + index
      if e.gates.testing.isSome then { e with gates := { e.gates with again := some path } } else e.selfTest path := by
  rw [Dev.mismatch_compared kind index hgate hclaim]
  dsimp only
  rw [if_neg (by simp [hstate]), if_neg (by simp [hstate]), Nat.mod_eq_of_lt hindex]

/-- The targeted self-test of a path is over, and CGATE.MM_LAST shows it. -/
def Dev.selfTestShown (d : Dev) (path result : Nat) : Dev :=
  (((({ d with gates := { d.gates with testing := none } } : Dev).wr .cgate .CGATE_STAT_SELFTEST 0).wr .cgate .CGATE_MM_LAST_KIND
    (path / 65536)).wr .cgate .CGATE_MM_LAST_INDEX (path % 65536)).wr .cgate .CGATE_MM_LAST_RESULT result

/-- A wall that failed the self-test gives up, unless it has already; claims not yet recomputed. -/
def Dev.selfTestFailed (d : Dev) (w : Nat) (fails : Bool) : Dev :=
  if fails = true ∧ d.wallState w ≠ 2 then d.wallFail w 7 true else d

/-- Claims follow, and the self-test starts that a mismatch meanwhile asked for. -/
def Dev.selfTestNext (d : Dev) : Dev :=
  match d.wallsSettle.gates.again with
  | some p => d.wallsSettle.selfTest p
  | none => d.wallsSettle

/-- A self-test ends that some wall failed. -/
theorem Dev.selfTestDone_fails {d : Dev} {path : Nat} {failA failB : Bool} (h : d.gates.testing = some path) (hf : (failA || failB) = true) :
    d.selfTestDone failA failB =
      let e := d.selfTestShown path ((if failA then 1 else 0) + (if failB then 2 else 0))
      ((e.selfTestFailed 0 failA).selfTestFailed 1 failB).selfTestNext := by
  have failed : ∀ (e : Dev) (w : Nat) (fails : Bool),
      (if fails = true then if (e.wallState w == 2) = true then e else e.wallFail w 7 true else e) = e.selfTestFailed w fails := by
    intro e w fails
    cases fails with
    | false => rfl
    | true => simp [Dev.selfTestFailed]
  simp only [Dev.selfTestDone, h, hf, if_true, failed]
  rfl

/-- Both walls passed: MM_CNT counts, and MM_POLICY ALARM does nothing more. -/
theorem Dev.selfTestDone_passes {d : Dev} {path : Nat} (h : d.gates.testing = some path)
    (halarm : ((d.selfTestShown path 0).inc .cgate .CGATE_MM_CNT_COUNT).rd .cgate .CGATE_CFG_MM_POLICY ≠ 1) :
    d.selfTestDone false false = ((d.selfTestShown path 0).inc .cgate .CGATE_MM_CNT_COUNT).selfTestNext := by
  rw [Dev.selfTestDone, h]
  exact congrArg Dev.selfTestNext ((if_neg Bool.false_ne_true).trans (if_neg fun gives => halarm (beq_iff_eq.1 gives)))

/-! ### The safe state (R320) -/

/-- An output that runs with no accepted wall reaches its safe state: at once without a domain, else after a frame of courses. -/
theorem Dev.gateSafe_reached {d : Dev} {t : Nat} (hgate : d.acceptedWall = none) (hrun : d.outRuns t = true) (hsafe : (d.tc t).safe = false)
    (hdue : ∀ k, d.outDom t = some k → fmtLines (d.domFmt k) ≤ (d.tc t).zeroed) :
    d.gateSafe t = (d.inc .cgate .CGATE_SAFE_CNT_COUNT).setTc t { d.tc t with safe := true } := by
  unfold Dev.gateSafe
  refine if_pos ?_
  rw [hgate, hrun, hsafe]
  split
  next => rfl
  next k hk => simp [hdue k hk]

/-! ### The steps of a rejoin (R326, R327) -/

/-- The self-test of a rejoin fails. -/
theorem Dev.bistDone_fails {d : Dev} {w : Nat} (tiles ancs slots : List Nat) (h : d.wallState w = 3) :
    d.bistDone w false tiles ancs slots = (d.wallFail w 9 false).wallsSettle := by
  rw [← Dev.diagFail_rejoining 9 (.inl h), Dev.bistDone, if_neg (by simp [h])]
  rfl

/-- The self-test of a rejoin passes: ACTIVE without a copy where it began and ends with no other claim, else COPY. -/
theorem Dev.bistDone_passes {d : Dev} {w : Nat} (tiles ancs slots : List Nat) (h : d.wallState w = 3) :
    d.bistDone w true tiles ancs slots =
      if d.gates.noCopy.contains w = true ∧ d.wallEff (otherWall w) = 0 then
        ((({ d with gates := { d.gates with noCopy := d.gates.noCopy.filter (· != w) } } : Dev).crcClear w tiles ancs slots).setWallState w
          0).wallsSettle
      else (d.setWallState w 4).wallsSettle := by
  rw [Dev.bistDone, if_neg (by simp [h]), if_neg (by decide)]
  simp only [Bool.and_eq_true, beq_iff_eq]

/-- COPY ends with a pass that finds nothing changed: SHADOW. -/
theorem Dev.copyDone_copies {d : Dev} {w : Nat} (us passes : Nat) (h : d.wallState w = 4) (hclaim : d.wallEff (otherWall w) ≠ 0) :
    d.copyDone w us passes =
      let e := ((d.wallCopy (otherWall w) w).wr (.wall w) .WALL_REJOIN_STAT_COPY_US (min us 65535)).wr (.wall w) .WALL_REJOIN_STAT_PASSES
        (min passes 15)
      (({ e with gates := { e.gates with shadow := e.shadowWait } } : Dev).setWallState w 5).wallsSettle :=
  if_neg (by simp [h, hclaim])

theorem Dev.copyTimeout_copying {d : Dev} {w : Nat} (h : d.wallState w = 4) : d.copyTimeout w = (d.wallFail w 10 false).wallsSettle := by
  rw [← Dev.diagFail_rejoining 10 (.inr h), Dev.copyTimeout, if_pos (by simp [h])]

/-- SHADOW has lasted two whole frames: STANDBY under a cap. -/
theorem Dev.shadowDone_over {d : Dev} {w : Nat} (h : d.wallState w = 5) (hover : d.shadowOver = true) :
    d.shadowDone w =
      let e := d.setWallState w 1
      (({ e with gates := { e.gates with capped := w :: e.gates.capped } } : Dev).setEvt (.wall w) 9).wallsSettle :=
  if_neg (by simp [h, hover])

/-! ### A block whose gates and claims part -/

/-- A block with both walls in SHADOW, each with an EFF of 1: each claim is capped below the other. -/
def bothShadow : Dev := [0, 1].foldl (fun e w => (e.wr (.wall w) .WALL_CLAIM_STATE 5).wr (.wall w) .WALL_CLAIM_EFF 1) {}

end Sys2Proof.Machine

namespace Sys2Proof.Proofs

open Sys2Proof.Machine

/-- Refutes O23: on `bothShadow` the caps hold both claims at 0, so the gates go to none; recomputed after that, each claim, with no other above 0,
is the wall's CONFIG again (12 and 8), and the gates stay at none. -/
theorem not_gatesAcceptTheHigherClaim : ¬ Obligations.GatesAcceptTheHigherClaim := by
  unfold Obligations.GatesAcceptTheHigherClaim
  intro h
  have effA : bothShadow.wallsSettle.wallEff 0 = 12 := by decide +kernel
  have effB : bothShadow.wallsSettle.wallEff 1 = 8 := by decide +kernel
  have gates : bothShadow.wallsSettle.gateWall = none := by decide +kernel
  obtain ⟨higherA, -⟩ := h bothShadow 12 8 effA effB
  have accepts := higherA (by decide)
  rw [gates] at accepts
  cases accepts

/-- Settles O47: each clause is the law of the operation that the command calls, under the clause's conditions; of the self-diagnosis checks that
only count or fail it is their meaning itself. -/
theorem wallCommandsComplete : Obligations.WallCommandsComplete := by
  unfold Obligations.WallCommandsComplete
  intro d q
  refine ⟨fun m w h hs => ?giveUp, fun m w v h hsoft hwas hnow hs => ?disable, fun m w v h hsoft hnow => ?enable, fun w h => ?corrected,
    fun w h => ?ecc2, fun w h => ?crc, fun w n h => ?parity, fun w h => ?watchdog, fun w n h hn => ?probeOne, fun w n h hn => ?probeTwo,
    fun kind index a h hg hc hs => ?mismatchShadow, fun kind index a h hg hc hs ht => ?mismatchTest,
    fun kind index a h hg hc hs ht => ?mismatchAgain, fun failA failB path h ht hf => ?selfTestFails, fun path h ht hp => ?selfTestPasses,
    fun t h hg hr hsafe hd => ?safeNoDomain, fun t k h hg hr hsafe hd hz => ?safeFrame, fun m w h => ?wallReset, fun m w h => ?rejoin,
    fun w tiles ancs slots h hs hn => ?bistCopy, fun w tiles ancs slots h hs hn hc => ?bistAlone, fun w tiles ancs slots h hs => ?bistFails,
    fun w us passes h hs hc => ?copyDone, fun w h hs => ?copyTimeout, fun w h hs ho => ?shadowDone, fun m w v h => ?claim, fun m w h => ?cntClr⟩
  case giveUp =>
    exact State.live_eq q (Dev.mWrite_follows h (by decide) ((Dev.pageAfter_wallGiveUp _ _ _ _ _).trans
      (congrArg Dev.txFollow (Dev.giveUp_healthy 1 hs))))
  case disable =>
    refine State.live_eq q ((Dev.mWrite_ctrl h hsoft).trans ?_)
    rw [Dev.pageAfter_wallCtrl, if_pos (by simp [hwas, hnow]), Dev.giveUp_healthy 1 hs]
  case enable =>
    refine State.live_eq q ((Dev.mWrite_ctrl h hsoft).trans ?_)
    rw [Dev.pageAfter_wallCtrl, if_neg (by simp [hnow])]
  case corrected => exact State.live_eq q (Dev.live_runs h)
  case ecc2 => exact State.live_eq q (Dev.live_runs h)
  case crc => exact State.live_eq q (Dev.live_runs h)
  case parity => exact State.live_eq q (Dev.live_runs h)
  case watchdog => exact State.live_eq q (Dev.live_runs h)
  case probeOne =>
    exact State.live_eq q ((Dev.live_runs h).trans (congrArg Dev.txFollow ((Dev.diag_probe d w n).trans (if_neg (by omega)))))
  case probeTwo => exact State.live_eq q ((Dev.live_runs h).trans (congrArg Dev.txFollow ((Dev.diag_probe d w n).trans (if_pos hn))))
  case mismatchShadow =>
    exact State.live_eq q ((Dev.live_runs h).trans (congrArg Dev.txFollow ((Dev.mismatch_compared _ _ hg hc).trans (if_pos hs))))
  case mismatchTest =>
    exact State.live_eq q ((Dev.live_runs h).trans (congrArg Dev.txFollow ((Dev.mismatch_standby hg hc hs index.isLt).trans
      (if_neg fun runs => Option.isSome_iff_ne_none.1 runs ht))))
  case mismatchAgain =>
    exact State.live_eq q ((Dev.live_runs h).trans (congrArg Dev.txFollow ((Dev.mismatch_standby hg hc hs index.isLt).trans
      (if_pos (Option.isSome_iff_ne_none.2 ht)))))
  case selfTestFails => exact State.live_eq q ((Dev.live_runs h).trans (congrArg Dev.txFollow (Dev.selfTestDone_fails ht hf)))
  case selfTestPasses => exact State.live_eq q ((Dev.live_runs h).trans (congrArg Dev.txFollow (Dev.selfTestDone_passes ht hp)))
  case safeNoDomain => exact State.live_eq q ((Dev.live_runs h).trans (Dev.gateSafe_reached hg hr hsafe (by simp [hd])))
  case safeFrame => exact State.live_eq q ((Dev.live_runs h).trans (Dev.gateSafe_reached hg hr hsafe (by simpa [hd] using hz)))
  case wallReset => exact State.live_eq q (Dev.mWrite_follows h (by decide) (Dev.pageAfter_wallReset _ _ _ _ _))
  case rejoin => exact State.live_eq q (Dev.mWrite_follows h (by decide) (Dev.pageAfter_wallRejoin _ _ _ _ _))
  case bistCopy =>
    exact State.live_eq q ((Dev.live_runs h).trans (congrArg Dev.txFollow ((Dev.bistDone_passes tiles ancs slots hs).trans
      (if_neg fun alone => Bool.eq_false_iff.1 hn alone.1))))
  case bistAlone =>
    exact State.live_eq q ((Dev.live_runs h).trans (congrArg Dev.txFollow ((Dev.bistDone_passes tiles ancs slots hs).trans (if_pos ⟨hn, hc⟩))))
  case bistFails => exact State.live_eq q ((Dev.live_runs h).trans (congrArg Dev.txFollow (Dev.bistDone_fails tiles ancs slots hs)))
  case copyDone => exact State.live_eq q ((Dev.live_runs h).trans (congrArg Dev.txFollow (Dev.copyDone_copies us passes hs hc)))
  case copyTimeout => exact State.live_eq q ((Dev.live_runs h).trans (congrArg Dev.txFollow (Dev.copyTimeout_copying hs)))
  case shadowDone => exact State.live_eq q ((Dev.live_runs h).trans (congrArg Dev.txFollow (Dev.shadowDone_over hs ho)))
  case claim => exact State.live_eq q (Dev.mWrite_follows h (by decide) (Dev.pageAfter_wallClaim _ _ _ _ _ v))
  case cntClr => exact State.live_eq q (Dev.mWrite_follows h (by decide) (Dev.pageAfter_wallCntClr _ _ _ _ _))

end Sys2Proof.Proofs
end

section
/-! PROOF. The claim gates (R322, R329): the block after each command and event, where its conditions hold. -/

namespace Sys2Proof.Machine

/-! ### SWAP (R329) -/

theorem Dev.pageAfter_swap (d : Dev) (m cur : Nat) (old v : Word) : d.pageAfter m .cgate 0x024 cur old v = d.swapCmd v := rfl

/-- CMD 1 arms a swap at the domain that TDOM names. -/
theorem Dev.swapCmd_arms (d : Dev) (k : Fin 16) :
    d.swapCmd (BitVec.ofNat 32 (0x10000 + k.val)) =
      ({ d with gates := { d.gates with swap := some (k.val, d.xo.toNat) } } : Dev).wr .cgate .CGATE_STAT_SWAP_PEND 1 := by
  have arms : ∀ k : Fin 16, Fld.CGATE_SWAP_CMD.get (BitVec.ofNat 32 (0x10000 + k.val)) = 1 := by decide
  have names : ∀ k : Fin 16, Fld.CGATE_SWAP_TDOM.get (BitVec.ofNat 32 (0x10000 + k.val)) = k.val := by decide
  simp only [Dev.swapCmd, arms, names]

theorem Dev.swapCmd_cancels (d : Dev) : d.swapCmd 0x20000 = d.swapCancel := rfl

theorem Dev.swapCancel_idle {d : Dev} (h : d.gates.swap = none) : d.swapCancel = d := by
  simp [Dev.swapCancel, h]

theorem Dev.swapCancel_armed {d : Dev} (h : d.gates.swap ≠ none) : d.swapCancel = d.swapEnd true :=
  if_pos (Option.isSome_iff_ne_none.2 h)

/-- The swap armed at a domain is executed at its read point: the walls change places, the one that was ACTIVE under a cap. -/
theorem Dev.swapExecute_due {d : Dev} {k t : Nat} (h : d.gates.swap = some (k, t)) (hdefer : d.deferring = false) (hsetup : d.setup ≤ d.since t) :
    d.swapExecute k =
      let e := (d.setWallState d.swapTarget 0).setWallState (otherWall d.swapTarget) 1
      (({ e with gates := { e.gates with capped := otherWall d.swapTarget :: e.gates.capped } } : Dev).swapEnd false).wallsSettle := by
  rw [Dev.swapExecute, h]
  exact if_pos (by simp [hdefer, hsetup])

/-! ### CGATE.CTL (R322) -/

/-- CTL with CNT_CLR: MM_CNT, MM_SEEN, ALT_CNT and SAFE_CNT to 0. -/
theorem Dev.pageAfter_cgateCntClr (d : Dev) (m cur : Nat) (old : Word) :
    d.pageAfter m .cgate 0x040 cur old 1 =
      (((d.wr .cgate .CGATE_MM_CNT_COUNT 0).wr .cgate .CGATE_MM_SEEN_COUNT 0).wr .cgate .CGATE_ALT_CNT_COUNT 0).wr .cgate .CGATE_SAFE_CNT_COUNT
        0 := rfl

end Sys2Proof.Machine

namespace Sys2Proof.Proofs

open Sys2Proof.Machine

/-- Settles O48: each clause is the law of the operation that the command calls, under the clause's conditions. -/
theorem claimGateCommandsComplete : Obligations.ClaimGateCommandsComplete := by
  unfold Obligations.ClaimGateCommandsComplete
  intro d q
  refine ⟨fun m k h => ?arm, fun m h hs => ?cancelIdle, fun m h hs => ?cancel, fun k t h hs hd ht => ?execute, fun m h => ?cntClr⟩
  case arm => exact State.live_eq q (Dev.mWrite_follows h (by decide) ((Dev.pageAfter_swap _ _ _ _ _).trans (Dev.swapCmd_arms _ k)))
  case cancelIdle =>
    exact State.live_eq q (Dev.mWrite_follows h (by decide) ((Dev.pageAfter_swap _ _ _ _ _).trans
      ((Dev.swapCmd_cancels _).trans (Dev.swapCancel_idle hs))))
  case cancel =>
    exact State.live_eq q (Dev.mWrite_follows h (by decide) ((Dev.pageAfter_swap _ _ _ _ _).trans
      ((Dev.swapCmd_cancels _).trans (Dev.swapCancel_armed hs))))
  case execute => exact State.live_eq q ((Dev.live_runs h).trans (congrArg Dev.txFollow (Dev.swapExecute_due hs hd ht)))
  case cntClr => exact State.live_eq q (Dev.mWrite_follows h (by decide) (Dev.pageAfter_cgateCntClr _ _ _ _))

end Sys2Proof.Proofs
end

section
/-! PROOF. Arithmetic of the line engines (R333, R340, R341): the block after each instruction, and what it leaves as it was. -/

namespace Sys2Proof.Machine

/-! ### TIME (R341) -/

/-- TIME with imm14 0 reads the low word of the count and latches the rest. -/
theorem Dev.opTime_low (d : Dev) (n : Nat) {w : Word} (h : iZ w = 0) :
    d.opTime n w = (d.setLeng n { d.leng n with timeHi := d.xo.toNat / 2 ^ 32 }).result n w (d.xo.setWidth 32) :=
  if_pos (beq_iff_eq.2 h)

/-- TIME with any other imm14 reads what was latched. -/
theorem Dev.opTime_high (d : Dev) (n : Nat) {w : Word} (h : iZ w ≠ 0) :
    d.opTime n w = d.result n w (BitVec.ofNat 32 (d.leng n).timeHi) :=
  if_neg (by simpa using h)

/-- A command that is an instruction of a line engine, where the engine stands at it, by what the instruction's operation makes of the block. -/
theorem exec_meets {d e : Dev} {c : Instr} {n op : Nat} {f : Dev → Nat → Word → Dev} (q : List Instr)
    (hc : exec c ⟨d, q⟩ = State.live ⟨d, q⟩ fun d => d.instrRun n op f) (h : d.meets n op = true)
    (he : f (d.billed n op) n (d.fetch n) = e) : exec c ⟨d, q⟩ = .next ⟨e, q⟩ :=
  hc.trans (State.live_eq q ((Dev.instrRun_meets h).trans he))

/-! ### What an engine's own updates leave -/

/-- Block `e` is block `d` but for engine `n`'s own state and its STAT and EVT. -/
structure Dev.EngineOnly (n : Nat) (d e : Dev) : Prop where
  engines : ∀ j, j ≠ n → e.leng j = d.leng j
  regs : ∀ k, k ∉ [regKey (.leng n) 0 0x02C, regKey (.leng n) 0 0x030] → e.reg k = d.reg k
  rest : { e with lengs := d.lengs, regs := d.regs } = d

theorem Dev.EngineOnly.trans {n : Nat} {d e f : Dev} (h : Dev.EngineOnly n d e) (g : Dev.EngineOnly n e f) : Dev.EngineOnly n d f where
  engines j hj := (g.engines j hj).trans (h.engines j hj)
  regs k hk := (g.regs k hk).trans (h.regs k hk)
  rest := by
    have a := g.rest
    have b := h.rest
    rw [← b, ← a]

/-- An engine's state is written, and of the registers its own STAT and EVT alone follow (R338). -/
theorem Dev.setLeng_engineOnly (d : Dev) (n : Nat) (v : LengI) : Dev.EngineOnly n d (d.setLeng n v) where
  engines _ hj := Map.get_put_other _ _ _ hj
  regs k hk := by
    simp only [List.mem_cons, List.not_mem_nil, or_false, not_or] at hk
    exact (Dev.setReg_other _ _ hk.2).trans (Dev.setReg_other _ _ hk.1)
  rest := rfl

theorem Dev.nextPc_engineOnly (d : Dev) (n : Nat) : Dev.EngineOnly n d (d.nextPc n) where
  engines _ _ := rfl
  regs _ hk := Dev.setReg_other _ _ fun e => hk (e ▸ List.mem_cons_self)
  rest := rfl

@[simp] theorem Dev.leng_nextPc (d : Dev) (n j : Nat) : (d.nextPc n).leng j = d.leng j := rfl

/-- The program counter shares STAT with the count of the FIFO, and no bit. -/
@[simp] theorem Dev.lpc_setLeng (d : Dev) (n : Nat) (v : LengI) : (d.setLeng n v).lpc n = d.lpc n :=
  (Dev.rd_wr_other _ _ _ .LENG_EVT_LATCHED .LENG_STAT_PC _ (by decide) (.inl (regKey_ne _ _ (by decide)))).trans
    (Dev.rd_wr_other _ _ _ .LENG_STAT_FIFO .LENG_STAT_PC _ (by decide) (.inr (.inr (by decide))))

theorem Dev.lpc_nextPc (d : Dev) (n : Nat) : (d.nextPc n).lpc n = (d.lpc n + 1) % 1024 :=
  (Dev.rd_wr d _ .LENG_STAT_PC _ (by decide)).trans (Nat.mod_mod _ _)

/-! ### The frame of an arithmetic instruction -/

/-- Block `e` is block `d` after engine `n` has counted an instruction's slots and gone on to the next one: but for its registers `rs`, its program
counter and its counts of slots, the engine is the same, and so is everything else. -/
structure Dev.GoesOn (rs : List Nat) (n : Nat) (d e : Dev) : Prop where
  pc : e.lpc n = (d.lpc n + 1) % 1024
  gregs : ∀ r, r ∉ rs → e.greg n r = d.greg n r
  engine : { e.leng n with g := (d.leng n).g, slots := (d.leng n).slots, spent := (d.leng n).spent } = d.leng n
  only : Dev.EngineOnly n d e

/-- An instruction without a result. -/
theorem Dev.billed_nextPc_goesOn (d : Dev) (n op : Nat) : Dev.GoesOn [] n d ((d.billed n op).nextPc n) where
  pc := (Dev.lpc_nextPc _ n).trans (by rw [Dev.billed, Dev.lpc_setLeng])
  gregs r _ := by simp [Dev.greg, Dev.billed]
  engine := by simp [Dev.billed]
  only := (d.setLeng_engineOnly n _).trans (Dev.nextPc_engineOnly _ n)

/-- Register r of an engine is written before the next instruction. -/
theorem Dev.billed_put_goesOn (d : Dev) (n op r : Nat) (v : Word) :
    Dev.GoesOn [r] n d (((d.billed n op).setLeng n { (d.billed n op).leng n with
      g := Map.put (fun _ => 0) ((d.billed n op).leng n).g r v }).nextPc n) where
  pc := (Dev.lpc_nextPc _ n).trans (by rw [Dev.lpc_setLeng, Dev.billed, Dev.lpc_setLeng])
  gregs i hi := by
    have other : i ≠ r := by simpa using hi
    simp [Dev.greg, Dev.billed, other]
  engine := by simp [Dev.billed]
  only := ((d.setLeng_engineOnly n _).trans (Dev.setLeng_engineOnly _ n _)).trans (Dev.nextPc_engineOnly _ n)

/-- An instruction that writes its register d; to g0 the result is lost (R333). -/
theorem Dev.billed_result_goesOn (d : Dev) (n op : Nat) (w v : Word) : Dev.GoesOn [iD w] n d ((d.billed n op).result n w v) := by
  unfold Dev.result Dev.setGreg
  split
  · exact { d.billed_nextPc_goesOn n op with gregs := fun r _ => (d.billed_nextPc_goesOn n op).gregs r List.not_mem_nil }
  · exact d.billed_put_goesOn n op _ v

end Sys2Proof.Machine

namespace Sys2Proof.Proofs

open Sys2Proof.Machine

/-- Settles O49: where the engine stands at an instruction its operation runs on the billed block; TIME's imm14 chooses what it reads. -/
theorem engineArithmeticComplete : Obligations.EngineArithmeticComplete := by
  unfold Obligations.EngineArithmeticComplete
  intro d q
  refine ⟨fun n h => ?nop, fun n h => ?add, fun n h => ?sub, fun n h => ?and, fun n h => ?or, fun n h => ?xor, fun n h => ?shl, fun n h => ?shr,
    fun n h => ?addi, fun n h => ?andi, fun n h => ?ori, fun n h => ?shli, fun n h => ?shri, fun n h => ?lui, fun n h => ?ext, fun n h => ?ins,
    fun n h => ?par, fun n h => ?crc, fun n h hz => ?timeLow, fun n h hz => ?timeHigh⟩
  case timeLow => exact exec_meets q rfl h (Dev.opTime_low _ _ hz)
  case timeHigh => exact exec_meets q rfl h (Dev.opTime_high _ _ hz)
  all_goals exact exec_meets q rfl h rfl

/-- Settles O28: every one of these instructions but NOP ends as O49 says, in a result, and `billed_result_goesOn` is what a result leaves. -/
theorem engineArithmeticFrame : Obligations.EngineArithmeticFrame := by
  unfold Obligations.EngineArithmeticFrame
  intro d q n c op hc h
  obtain ⟨hnop, hadd, hsub, hand, hor, hxor, hshl, hshr, haddi, handi, hori, hshli, hshri, hlui, hext, hins, hpar, hcrc, -, -⟩ :=
    engineArithmeticComplete d q
  have ends : (c = .nop n ∧ exec c ⟨d, q⟩ = .next ⟨(d.billed n.val op).nextPc n.val, q⟩) ∨
      c ≠ .nop n ∧ ∃ v, exec c ⟨d, q⟩ = .next ⟨(d.billed n.val op).result n.val (d.fetch n.val) v, q⟩ := by
    simp only [List.mem_cons, List.not_mem_nil, or_false, Prod.mk.injEq] at hc
    rcases hc with ⟨rfl, rfl⟩ | ⟨rfl, rfl⟩ | ⟨rfl, rfl⟩ | ⟨rfl, rfl⟩ | ⟨rfl, rfl⟩ | ⟨rfl, rfl⟩ | ⟨rfl, rfl⟩ | ⟨rfl, rfl⟩ | ⟨rfl, rfl⟩ |
      ⟨rfl, rfl⟩ | ⟨rfl, rfl⟩ | ⟨rfl, rfl⟩ | ⟨rfl, rfl⟩ | ⟨rfl, rfl⟩ | ⟨rfl, rfl⟩ | ⟨rfl, rfl⟩ | ⟨rfl, rfl⟩ | ⟨rfl, rfl⟩
    · exact .inl ⟨rfl, hnop n h⟩
    · exact .inr ⟨nofun, _, hadd n h⟩
    · exact .inr ⟨nofun, _, hsub n h⟩
    · exact .inr ⟨nofun, _, hand n h⟩
    · exact .inr ⟨nofun, _, hor n h⟩
    · exact .inr ⟨nofun, _, hxor n h⟩
    · exact .inr ⟨nofun, _, hshl n h⟩
    · exact .inr ⟨nofun, _, hshr n h⟩
    · exact .inr ⟨nofun, _, haddi n h⟩
    · exact .inr ⟨nofun, _, handi n h⟩
    · exact .inr ⟨nofun, _, hori n h⟩
    · exact .inr ⟨nofun, _, hshli n h⟩
    · exact .inr ⟨nofun, _, hshri n h⟩
    · exact .inr ⟨nofun, _, hlui n h⟩
    · exact .inr ⟨nofun, _, hext n h⟩
    · exact .inr ⟨nofun, _, hins n h⟩
    · exact .inr ⟨nofun, _, hpar n h⟩
    · exact .inr ⟨nofun, _, hcrc n h⟩
  obtain ⟨-, hx⟩ | ⟨hne, v, hx⟩ := ends
  · have g := d.billed_nextPc_goesOn n.val op
    exact ⟨_, hx, g.pc, rfl, fun r _ => g.gregs r List.not_mem_nil, fun _ r => g.gregs r List.not_mem_nil, g.only.engines, g.engine,
      g.only.regs, g.only.rest⟩
  · have g := d.billed_result_goesOn n.val op (d.fetch n.val) v
    exact ⟨_, hx, g.pc, rfl, fun r hr => g.gregs r (by simpa using hr), fun hn => absurd hn hne, g.only.engines, g.engine, g.only.regs,
      g.only.rest⟩

end Sys2Proof.Proofs
end

section
/-! PROOF. Loads, stores, jumps, WAIT, counters, the doorbell and HALT of the line engines (R334, R339 to R347): the block after each, or the halt. -/

namespace Sys2Proof.Machine

/-! ### Data memory (R334, R341) -/

theorem Dev.opLd_inside {d : Dev} {n : Nat} {w : Word} (h : ¬2047 < d.dataAddr n w) :
    d.opLd n w = d.result n w (d.dmemGet n (d.dataAddr n w)) := if_neg h

theorem Dev.opLd_beyond {d : Dev} {n : Nat} {w : Word} (h : 2047 < d.dataAddr n w) : d.opLd n w = d.lengHalt n 4 := if_pos h

theorem Dev.opSt_inside {d : Dev} {n : Nat} {w : Word} (h : ¬2047 < d.dataAddr n w) :
    d.opSt n w = (d.dmemPut n (d.dataAddr n w) (d.greg n (iB w))).nextPc n := if_neg h

theorem Dev.opSt_beyond {d : Dev} {n : Nat} {w : Word} (h : 2047 < d.dataAddr n w) : d.opSt n w = d.lengHalt n 4 := if_pos h

/-! ### The stack of return addresses (R341) -/

theorem Dev.opCall_room {d : Dev} {n : Nat} (w : Word) (h : ¬8 ≤ (d.leng n).stack.length) :
    d.opCall n w = (d.setLeng n { d.leng n with stack := ((d.lpc n + 1) % 1024) :: (d.leng n).stack }).setLpc n (i18 w) := if_neg h

theorem Dev.opCall_full {d : Dev} {n : Nat} (w : Word) (h : 8 ≤ (d.leng n).stack.length) : d.opCall n w = d.lengHalt n 5 := if_pos h

theorem Dev.opRet_cons {d : Dev} {n y : Nat} {ys : List Nat} (w : Word) (h : (d.leng n).stack = y :: ys) :
    d.opRet n w = (d.setLeng n { d.leng n with stack := ys }).setLpc n y := by
  rw [Dev.opRet, h]

theorem Dev.opRet_nil {d : Dev} {n : Nat} (w : Word) (h : (d.leng n).stack = []) : d.opRet n w = d.lengHalt n 5 := by
  rw [Dev.opRet, h]

/-! ### WAIT (R339) -/

/-- An event of the mask is latched: WAIT returns at once. -/
theorem Dev.opWait_latched {d : Dev} {n : Nat} {w : Word}
    (h : (BitVec.ofNat 5 (d.lf n .LENG_EVT_LATCHED) &&& BitVec.ofNat 5 (iZ w % 32)) ≠ 0) :
    d.opWait n w = d.waitReturn n (iD w) (iZ w % 32) := if_pos (bne_iff_ne.2 h)

theorem Dev.opWait_waits {d : Dev} {n : Nat} {w : Word}
    (h : (BitVec.ofNat 5 (d.lf n .LENG_EVT_LATCHED) &&& BitVec.ofNat 5 (iZ w % 32)) = 0) :
    d.opWait n w = (d.setLeng n { d.leng n with wait := some (iD w, iZ w % 32) }).wr (.leng n) .LENG_STAT_STATE 2 :=
  if_neg fun latched => bne_iff_ne.1 latched h

/-! ### Permissions of CRD and DBELL (R343, R346, R347) -/

theorem Dev.opCrd_permitted {d : Dev} {n : Nat} {w : Word} (hperm : d.lf n .LENG_PERM_PMC_READ = 1) (huser : d.on .pmc .PMC_CTL_USER_READ = true)
    (hcfg : d.on .pmc (Fld.nth .PMC_CFG_USER (iZ w % 64)) = true) :
    d.opCrd n w = d.result n w (BitVec.ofNat 32 (d.pmcCount (iZ w % 64))) := if_pos (by simp [hperm, huser, hcfg])

theorem Dev.opCrd_refused {d : Dev} {n : Nat} (w : Word) (hperm : d.lf n .LENG_PERM_PMC_READ ≠ 1) : d.opCrd n w = d.lengHalt n 8 :=
  if_neg (by simp [hperm])

theorem Dev.opDbell_permitted {d : Dev} {n : Nat} (w : Word) (hperm : d.lf n .LENG_PERM_DBELL ≠ 0) :
    d.opDbell n w =
      let e := d.wr (.leng n) .LENG_DB_OUT_VALUE ((d.greg n (iA w)).toNat % 65536)
      let e := e.wr (.leng n) .LENG_DB_OUT_COUNT (e.lf n .LENG_DB_OUT_COUNT + 1)
      ((e.setEvt (.leng n) 9).addEvent (344 + n)).nextPc n := if_neg (by simpa using hperm)

theorem Dev.opDbell_refused {d : Dev} {n : Nat} (w : Word) (hperm : d.lf n .LENG_PERM_DBELL = 0) : d.opDbell n w = d.lengHalt n 8 :=
  if_pos (beq_iff_eq.2 hperm)

/-! ### Words that are no instruction (R340) -/

theorem Dev.instrBad_halts {d : Dev} {n : Nat} (hs : d.lengState n = 1) (hw : instrOk (d.fetch n) = false) : d.instrBad n = d.lengHalt n 3 :=
  if_neg (by simp [hs, hw])

end Sys2Proof.Machine

namespace Sys2Proof.Proofs

open Sys2Proof.Machine

/-- Settles O50: each clause is the law of the instruction's operation on the billed block, under the clause's conditions; BEQ, BNE, BLT, BGE, J,
CINC and HALT have no conditions. -/
theorem engineControlComplete : Obligations.EngineControlComplete := by
  unfold Obligations.EngineControlComplete
  intro d q
  refine ⟨fun n h ha => ?ld, fun n h ha => ?ldHalts, fun n h ha => ?st, fun n h ha => ?stHalts, fun n h => ?beq, fun n h => ?bne, fun n h => ?blt,
    fun n h => ?bge, fun n h => ?j, fun n h hs => ?call, fun n h hs => ?callHalts, fun n y ys h hs => ?ret, fun n h hs => ?retHalts,
    fun n h he => ?waitReturns, fun n h he => ?waits, fun n h => ?cinc, fun n h hp hu hc => ?crd, fun n h hp => ?crdHalts, fun n h hp => ?dbell,
    fun n h hp => ?dbellHalts, fun n h => ?halt, fun n h hs hw => ?illegal⟩
  case ld => exact exec_meets q rfl h (Dev.opLd_inside ha)
  case ldHalts => exact exec_meets q rfl h (Dev.opLd_beyond ha)
  case st => exact exec_meets q rfl h (Dev.opSt_inside ha)
  case stHalts => exact exec_meets q rfl h (Dev.opSt_beyond ha)
  case call => exact exec_meets q rfl h (Dev.opCall_room _ hs)
  case callHalts => exact exec_meets q rfl h (Dev.opCall_full _ hs)
  case ret => exact exec_meets q rfl h (Dev.opRet_cons _ hs)
  case retHalts => exact exec_meets q rfl h (Dev.opRet_nil _ hs)
  case waitReturns => exact exec_meets q rfl h (Dev.opWait_latched he)
  case waits => exact exec_meets q rfl h (Dev.opWait_waits he)
  case crd => exact exec_meets q rfl h (Dev.opCrd_permitted hp hu hc)
  case crdHalts => exact exec_meets q rfl h (Dev.opCrd_refused _ hp)
  case dbell => exact exec_meets q rfl h (Dev.opDbell_permitted _ hp)
  case dbellHalts => exact exec_meets q rfl h (Dev.opDbell_refused _ hp)
  case illegal => exact State.live_eq q ((Dev.live_runs h).trans (Dev.instrBad_halts hs hw))
  all_goals exact exec_meets q rfl h rfl

end Sys2Proof.Proofs
end

section
/-! PROOF. Packet instructions of the line engines (R341 to R343): the block after each, or the halt. That ENDP without a build halts with NO_PKT
whatever the permissions is log row 98, the model's choice. -/

namespace Sys2Proof.Machine

/-! ### The head record (R341, R342) -/

section

variable {d : Dev} {n : Nat}

theorem Dev.opLdh_head (w : Word) {y : PathRec} (h : d.head n = some y) :
    d.opLdh n w = d.result n w (if iZ w = 0 then y.pkt.word0 else if iZ w = 1 then y.pkt.word1 else infoWord y) := by
  simp only [Dev.opLdh, h, beq_iff_eq]

theorem Dev.opLdh_empty (w : Word) (h : d.head n = none) : d.opLdh n w = d.lengHalt n 6 := by
  rw [Dev.opLdh, h]

/-- GETU reads the next UDW and moves on. -/
theorem Dev.opGetu_next (w : Word) {y : PathRec} {u : Word10} (h : d.head n = some y) (hu : y.pkt.udw[(d.leng n).udw]? = some u) :
    d.opGetu n w = (d.setLeng n { d.leng n with udw := (d.leng n).udw + 1 }).result n w (u.setWidth 32) := by
  simp only [Dev.opGetu, h, hu]

/-- After the last UDW GETU reads all ones. -/
theorem Dev.opGetu_over (w : Word) {y : PathRec} (h : d.head n = some y) (hu : y.pkt.udw[(d.leng n).udw]? = none) :
    d.opGetu n w = d.result n w 0xFFFFFFFF := by
  simp only [Dev.opGetu, h, hu]

theorem Dev.opGetu_empty (w : Word) (h : d.head n = none) : d.opGetu n w = d.lengHalt n 6 := by
  rw [Dev.opGetu, h]

theorem Dev.opDrop_head (w : Word) {y : PathRec} (h : d.head n = some y) : d.opDrop n w = (d.popHead n).nextPc n := by
  rw [Dev.opDrop, h]

theorem Dev.opDrop_empty (w : Word) (h : d.head n = none) : d.opDrop n w = d.lengHalt n 6 := by
  rw [Dev.opDrop, h]

theorem Dev.opFwd_head (w : Word) {y : PathRec} (h : d.head n = some y) : d.opFwd n w = ((d.popHead n).fwdRec n y).nextPc n := by
  rw [Dev.opFwd, h]

theorem Dev.opFwd_empty (w : Word) (h : d.head n = none) : d.opFwd n w = d.lengHalt n 6 := by
  rw [Dev.opFwd, h]

/-- PUSHQ to a permitted queue reports whether the queue took the packet (R342, R343). -/
theorem Dev.opPushq_permitted {w : Word} {y : PathRec} (h : d.head n = some y)
    (hperm : d.queuePerm n ((d.greg n (iA w)).toNat % 1024) = true) :
    d.opPushq n w =
      let z := d.queuePut ((d.greg n (iA w)).toNat % 1024) y.pkt.words 0
      z.1.result n w (if z.2 then 0 else 1) := by
  simp only [Dev.opPushq, h, hperm, Bool.not_true, Bool.false_eq_true, if_false]

theorem Dev.opPushq_refused {w : Word} {y : PathRec} (h : d.head n = some y)
    (hperm : d.queuePerm n ((d.greg n (iA w)).toNat % 1024) = false) : d.opPushq n w = d.lengHalt n 8 := by
  simp only [Dev.opPushq, h, hperm, Bool.not_false, if_true]

theorem Dev.opPushq_empty (w : Word) (h : d.head n = none) : d.opPushq n w = d.lengHalt n 6 := by
  rw [Dev.opPushq, h]

/-! ### The build (R342, R343) -/

theorem Dev.opPutu_room (w : Word) {y : BuildI} (h : (d.leng n).build = some y) (hroom : ¬255 ≤ y.udw.length) :
    d.opPutu n w =
      (d.setLeng n { d.leng n with build := some { y with udw := y.udw ++ [(d.greg n (iA w)).setWidth 10] } }).nextPc n := by
  simp only [Dev.opPutu, h, hroom, if_false]

theorem Dev.opPutu_full (w : Word) {y : BuildI} (h : (d.leng n).build = some y) (hfull : 255 ≤ y.udw.length) : d.opPutu n w = d.lengHalt n 7 := by
  simp only [Dev.opPutu, h, hfull, if_true]

theorem Dev.opPutu_none (w : Word) (h : (d.leng n).build = none) : d.opPutu n w = d.lengHalt n 6 := by
  rw [Dev.opPutu, h]

theorem Dev.opEndp_none (w : Word) (h : (d.leng n).build = none) : d.opEndp n w = d.lengHalt n 6 := by
  rw [Dev.opEndp, h]

theorem Dev.opEndp_refused {w : Word} {y : BuildI} (h : (d.leng n).build = some y)
    (hperm : d.endpPerm n (iZ w % 4) ((d.greg n (iA w)).toNat % 1024) y.toRec.tile = false) : d.opEndp n w = d.lengHalt n 8 := by
  simp only [Dev.opEndp, h, hperm, Bool.not_false, if_true]

/-- ENDP to the receive path of the engine's own tiles. -/
theorem Dev.opEndp_rx {w : Word} {y : BuildI} (h : (d.leng n).build = some y) (hdest : iZ w % 4 = 0) (hperm : d.lf n .LENG_PERM_NEW_RX = 1)
    (htile : y.toRec.tile / 8 = n) :
    d.opEndp n w = ((d.setLeng n { d.leng n with build := none }).ancIntoLate y.toRec).result n w ((y.toRec.sendWords.getLastD 0).setWidth 32) := by
  simp only [Dev.opEndp, h, hdest, Dev.endpPerm, hperm, htile, beq_self_eq_true, Bool.and_self, Bool.not_true, Bool.false_eq_true, if_false]

/-- ENDP to the transmit path of the engine's own tiles. -/
theorem Dev.opEndp_tx {w : Word} {y : BuildI} (h : (d.leng n).build = some y) (hdest : iZ w % 4 = 1) (hperm : d.lf n .LENG_PERM_NEW_TX = 1)
    (htile : y.toRec.tile / 8 = n) :
    d.opEndp n w = ((d.setLeng n { d.leng n with build := none }).insertInto n { tile := y.toRec.tile, cls := y.cls, pkt := y.toRec }).result n w
      ((y.toRec.sendWords.getLastD 0).setWidth 32) := by
  simp only [Dev.opEndp, h, hdest, Dev.endpPerm, hperm, htile, beq_self_eq_true, Bool.and_self, Bool.not_true, Bool.false_eq_true, if_false]

/-- ENDP to a permitted queue. -/
theorem Dev.opEndp_queue {w : Word} {y : BuildI} (h : (d.leng n).build = some y) (hdest : iZ w % 4 = 2)
    (hperm : d.queuePerm n ((d.greg n (iA w)).toNat % 1024) = true) :
    d.opEndp n w = ((d.setLeng n { d.leng n with build := none }).queuePut ((d.greg n (iA w)).toNat % 1024) y.toRec.words 0).1.result n w
      ((y.toRec.sendWords.getLastD 0).setWidth 32) := by
  simp only [Dev.opEndp, h, hdest, Dev.endpPerm, hperm, Bool.not_true, Bool.false_eq_true, if_false]

end

end Sys2Proof.Machine

namespace Sys2Proof.Proofs

open Sys2Proof.Machine

/-- Settles O51: each clause is the law of the instruction's operation on the billed block, under the clause's conditions; NEWP has none. -/
theorem enginePacketComplete : Obligations.EnginePacketComplete := by
  unfold Obligations.EnginePacketComplete
  intro d q
  refine ⟨fun n y h hy => ?ldh, fun n y u h hy hu => ?getu, fun n y h hy hu => ?getuOver, fun n h => ?newp, fun n y h hy hr => ?putu,
    fun n y h hy hr => ?putuFull, fun n y h hy hd hp ht => ?endpRx, fun n y h hy hd hp ht => ?endpTx, fun n y h hy hd hp => ?endpQueue,
    fun n y h hy => ?drop, fun n y h hy => ?fwd, fun n y h hy hp => ?pushq, fun n y h hy hp => ?endpRefused, fun n y h hy hp => ?pushqRefused,
    fun n h hy => ?ldhEmpty, fun n h hy => ?getuEmpty, fun n h hy => ?dropEmpty, fun n h hy => ?fwdEmpty, fun n h hy => ?pushqEmpty,
    fun n h hy => ?putuNone, fun n h hy => ?endpNone⟩
  case ldh => exact exec_meets q rfl h (Dev.opLdh_head _ hy)
  case getu => exact exec_meets q rfl h (Dev.opGetu_next _ hy hu)
  case getuOver => exact exec_meets q rfl h (Dev.opGetu_over _ hy hu)
  case newp => exact exec_meets q rfl h rfl
  case putu => exact exec_meets q rfl h (Dev.opPutu_room _ hy hr)
  case putuFull => exact exec_meets q rfl h (Dev.opPutu_full _ hy hr)
  case endpRx => exact exec_meets q rfl h (Dev.opEndp_rx hy hd hp ht)
  case endpTx => exact exec_meets q rfl h (Dev.opEndp_tx hy hd hp ht)
  case endpQueue => exact exec_meets q rfl h (Dev.opEndp_queue hy hd hp)
  case drop => exact exec_meets q rfl h (Dev.opDrop_head _ hy)
  case fwd => exact exec_meets q rfl h (Dev.opFwd_head _ hy)
  case pushq => exact exec_meets q rfl h (Dev.opPushq_permitted hy hp)
  case endpRefused => exact exec_meets q rfl h (Dev.opEndp_refused hy hp)
  case pushqRefused => exact exec_meets q rfl h (Dev.opPushq_refused hy hp)
  case ldhEmpty => exact exec_meets q rfl h (Dev.opLdh_empty _ hy)
  case getuEmpty => exact exec_meets q rfl h (Dev.opGetu_empty _ hy)
  case dropEmpty => exact exec_meets q rfl h (Dev.opDrop_empty _ hy)
  case fwdEmpty => exact exec_meets q rfl h (Dev.opFwd_empty _ hy)
  case pushqEmpty => exact exec_meets q rfl h (Dev.opPushq_empty _ hy)
  case putuNone => exact exec_meets q rfl h (Dev.opPutu_none _ hy)
  case endpNone => exact exec_meets q rfl h (Dev.opEndp_none _ hy)

end Sys2Proof.Proofs
end

section
/-! PROOF. Transfers of the matrix: what refuses one (R356, R358, R437), and SRAM words, reservations and locked sequences (R351 to R354, R366).
That a write the loader bars is a PERM, and the double-bit error that ends an AMO, are the model's choices (log 23, log 126). -/

namespace Sys2Proof.Machine

/-! ### Targets, and what refuses a transfer -/

theorem targetAt_lt (a : Nat) : targetAt a < 10 := by
  unfold targetAt
  split
  · decide
  split
  · decide
  split
  · rename_i h
    simp only [Bool.and_eq_true, decide_eq_true_eq] at h
    omega
  repeat' split
  all_goals decide

/-- A transfer that the matrix refuses, for its permission or because the loader bars it, ends with PERM and no other effect. -/
theorem Dev.transfer_refused {d : Dev} {m addr : Nat} {isWrite : Bool} (i : Nat) (bs : List Beat) (env : XferEnv)
    (h : (isWrite = true ∧ d.hostBarred m (addr / 4 * 4) = true) ∨
      (targetAt (addr / 4 * 4) ≠ 9 ∧ d.permits m (targetAt (addr / 4 * 4)) isWrite = false)) :
    d.transfer m addr i isWrite bs env = d.permErr m (targetAt (addr / 4 * 4)) (addr / 4 * 4) isWrite := by
  by_cases hbar : (isWrite && d.hostBarred m (addr / 4 * 4)) = true
  · obtain ⟨rfl, -⟩ := Bool.and_eq_true_iff.1 hbar
    exact if_pos hbar
  · obtain ⟨ht, hperm⟩ := h.resolve_left (fun hb => hbar (Bool.and_eq_true_iff.2 hb))
    unfold Dev.transfer
    simp only [if_neg hbar, beq_eq_false_iff_ne.2 ht, hperm, Bool.not_false, Bool.false_eq_true, if_false, if_true]

/-- What a PERM answer leaves (R356, R359). -/
theorem Dev.permErr_vals (d : Dev) (m : Master) {t : Nat} (a : Nat) (w : Bool) (ht : t < 16) :
    (d.permErr m.val t a w).respOf m.val = ⟨.perm, []⟩ ∧
      (d.permErr m.val t a w).rd .mtx .MTX_ERRCNT2_PERM = min (d.rd .mtx .MTX_ERRCNT2_PERM + 1) 0xFFFF ∧
      (d.permErr m.val t a w).rd .mtx .MTX_ERR_ADDR_ADDR = a % 2 ^ 32 ∧ (d.permErr m.val t a w).rd .mtx .MTX_ERR_INFO_TARGET = t ∧
      (d.permErr m.val t a w).rd .mtx .MTX_ERR_INFO_MASTER = m.val ∧ (d.permErr m.val t a w).rd .mtx .MTX_ERR_INFO_CODE = 2 ∧
      (d.permErr m.val t a w).on .mtx .MTX_ERR_INFO_WRITE = w ∧ ((d.permErr m.val t a w).reg (regKey .mtx 0 0x010)).getLsbD 9 = true := by
  obtain ⟨addr, target, master, code, write, -, event, count⟩ := (d.inc .mtx .MTX_ERRCNT2_PERM).mtxLog_vals m t a 2 w (by decide) ht
  exact ⟨Dev.respOf_respond _ _ _, count.trans (d.inc_rd .mtx .MTX_ERRCNT2_PERM (by decide)), addr, target, master, code, write, event⟩

/-- What a DECERR answer of T9 leaves (R358, R359). -/
theorem Dev.decErr_vals (d : Dev) (m : Master) (a : Nat) (w : Bool) (n : Nat) :
    (d.decErr m.val 9 a w n).respOf m.val = ⟨.decerr, if w then [] else List.replicate n 0⟩ ∧
      (d.decErr m.val 9 a w n).rd .mtx .MTX_ERR_ADDR_ADDR = a % 2 ^ 32 ∧ (d.decErr m.val 9 a w n).rd .mtx .MTX_ERR_INFO_TARGET = 9 ∧
      (d.decErr m.val 9 a w n).rd .mtx .MTX_ERR_INFO_MASTER = m.val ∧ (d.decErr m.val 9 a w n).rd .mtx .MTX_ERR_INFO_CODE = 1 ∧
      (d.decErr m.val 9 a w n).on .mtx .MTX_ERR_INFO_WRITE = w ∧
      ((d.reg (regKey .mtx 0 0x010)).getLsbD 8 = true → (d.decErr m.val 9 a w n).on .mtx .MTX_ERR_INFO_OVERRUN = true) ∧
      ((d.decErr m.val 9 a w n).reg (regKey .mtx 0 0x010)).getLsbD 8 = true := by
  obtain ⟨addr, target, master, code, write, overrun, event, -⟩ := (d.inc .mtx .MTX_ERRCNT_DECODE).mtxLog_vals m 9 a 1 w (by decide) (by decide)
  refine ⟨Dev.respOf_respond _ _ _, addr, target, master, code, write, fun h => overrun ?_, event⟩
  exact (congrArg (·.getLsbD 8) ((Dev.setReg_other _ _ (by decide)) : (d.inc .mtx .MTX_ERRCNT_DECODE).reg (regKey .mtx 0 0x010) = _)).trans h

/-! ### Transfers to T9 -/

/-- A transfer to T9 that the loader does not bar is answered with DECERR. -/
theorem Dev.transfer_nowhere {d : Dev} {m addr : Nat} {isWrite : Bool} (i : Nat) (bs : List Beat) (env : XferEnv) (ht : targetAt (addr / 4 * 4) = 9)
    (hbar : isWrite = true → d.hostBarred m (addr / 4 * 4) = false) :
    d.transfer m addr i isWrite bs env = (d.bwAdd 333 (beatBytes bs)).decErr m 9 (addr / 4 * 4) isWrite bs.length := by
  have free : ¬ (isWrite && d.hostBarred m (addr / 4 * 4)) = true := by
    cases isWrite with
    | false => simp
    | true => simp [hbar rfl]
  rw [Dev.transfer, if_neg free, ht]
  exact if_pos rfl

/-- T9 holds no reservation: LR and SC of it end with DECERR. -/
theorem Dev.reserved_nowhere {d : Dev} {m addr : Nat} (isWrite : Bool) (v : Word) (env : XferEnv) (ht : targetAt (addr / 4 * 4) = 9) :
    d.reserved m addr isWrite v env = d.decErr m 9 (addr / 4 * 4) isWrite (if isWrite then 0 else 1) := by
  rw [Dev.reserved, ht, if_pos (by decide)]

/-- The block that a transfer to T9 ends from: what its beats carry is counted at the bandwidth port, a reservation's is not. -/
def Dev.nowhereBase (d : Dev) (x : Xfer) : Dev :=
  match x.kind with
  | .read | .write => d.bwAdd 333 (beatBytes x.beats)
  | .lr | .sc => d

/-- Words that a DECERR answer to a transfer carries. -/
def decBeats (x : Xfer) : Nat :=
  match x.kind with
  | .read | .write => x.beats.length
  | .lr => 1
  | .sc => 0

/-- Every transfer to T9 that R437 does not bar ends with DECERR (R358). -/
theorem Dev.matrixTransfer_nowhere {d : Dev} {m : Nat} {x : Xfer} (ht : targetAt (x.addr / 4 * 4) = 9)
    (hbar : x.kind = .write → d.hostBarred m (x.addr / 4 * 4) = false) :
    d.matrixTransfer m x = (d.nowhereBase x).decErr m 9 (x.addr / 4 * 4) (x.kind == .write || x.kind == .sc) (decBeats x) := by
  obtain ⟨kind, addr, bs, env⟩ := x
  cases kind with
  | read => exact d.transfer_nowhere (isWrite := false) 0 bs env ht nofun
  | write => exact d.transfer_nowhere (isWrite := true) 0 bs env ht (fun _ => hbar rfl)
  | lr => exact d.reserved_nowhere false 0 env ht
  | sc => exact d.reserved_nowhere true (bs.headD {}).data env ht

theorem Dev.nowhereBase_keeps (ks : List Nat) (d : Dev) (x : Xfer) : d.Keeps ks (d.nowhereBase x) := by
  unfold Dev.nowhereBase
  split
  · exact Dev.bwAdd_keeps ks d _ _
  · exact Dev.bwAdd_keeps ks d _ _
  · exact Dev.Keeps.refl ks d
  · exact Dev.Keeps.refl ks d

/-! ### Transfers that are performed -/

/-- A read that nothing refuses and that waits for nothing is performed. -/
theorem Dev.transfer_reads {d : Dev} {m addr : Nat} (i : Nat) (bs : List Beat) (env : XferEnv) (ht : targetAt (addr / 4 * 4) ≠ 9)
    (hperm : d.permits m (targetAt (addr / 4 * 4)) false = true) (hlock : d.lockedOut m (targetAt (addr / 4 * 4)) = false)
    (hready : targetAt (addr / 4 * 4) = 5 → d.memcReady (d.apertureAt 0).1 = true)
    (hflash : targetAt (addr / 4 * 4) = 7 → d.on .boot .BOOT_FLASH_CMD_BUSY = false) :
    d.transfer m addr i false bs env = d.perform m (targetAt (addr / 4 * 4)) (addr / 4 * 4) i false bs env := by
  unfold Dev.transfer
  dsimp only
  rw [if_neg (by simp), if_neg (by simpa using ht), if_neg (by simp [hperm]), if_neg (by simp), if_neg (by simp [hlock]),
    if_neg (by simpa using hready), if_neg (by simpa using hflash)]

/-- A write that nothing refuses is performed. -/
theorem Dev.transfer_writes {d : Dev} {m addr : Nat} (i : Nat) (bs : List Beat) (env : XferEnv) (ht : targetAt (addr / 4 * 4) ≠ 9)
    (h7 : targetAt (addr / 4 * 4) ≠ 7) (hbar : d.hostBarred m (addr / 4 * 4) = false)
    (hperm : d.permits m (targetAt (addr / 4 * 4)) true = true) (hlock : d.lockedOut m (targetAt (addr / 4 * 4)) = false)
    (hready : targetAt (addr / 4 * 4) = 5 → d.memcReady (d.apertureAt 0).1 = true) :
    d.transfer m addr i true bs env = d.perform m (targetAt (addr / 4 * 4)) (addr / 4 * 4) i true bs env := by
  unfold Dev.transfer
  dsimp only
  rw [if_neg (by simp [hbar]), if_neg (by simpa using ht), if_neg (by simp [hperm]), if_neg (by simpa using h7), if_neg (by simp [hlock]),
    if_neg (by simpa using hready), if_neg (by simp [h7])]

/-! ### Single words of SRAM -/

theorem mergeBytes_all (old v : Word) : mergeBytes 15 old v = v :=
  calc mergeBytes 15 old v
    _ = (old &&& 0#32) ||| (v &&& BitVec.allOnes 32) := rfl
    _ = v := by rw [BitVec.and_zero, BitVec.zero_or, BitVec.and_allOnes]

/-- A read of one word of an SRAM bank without an error found is answered with the word. -/
theorem Dev.perform_sramRead {d : Dev} {m t a : Nat} {env : XferEnv} (ht : t < 5) (hs : env.single.contains 0 = false)
    (hd : env.double.contains 0 = false) :
    d.perform m t a 0 false [{}] env = ((d.granted t m).bwAdd (324 + t) 4).respond m ⟨.okay, [d.sramGet (sramKey a)]⟩ := by
  have same : ((d.granted t m).bwAdd (324 + t) 4).sramGet (sramKey a) = d.sramGet (sramKey a) := by
    unfold Dev.sramGet
    rw [((Dev.granted_keeps [] d t m).trans (Dev.bwAdd_keeps [] _ _ _)).sram]
  have five : (t == 5) = false := by simp; omega
  rw [Dev.perform]
  simp only [five, Bool.false_eq_true, if_false, Run.beats, Run.beat, ht, if_true, Run.sramBeat, Bool.not_false, Run.sramRead, hs, hd, Run.word,
    Run.finish, asked_all, List.nil_append, show beatBytes [{}] = 4 from rfl, same]

/-- A write of one word of an SRAM bank that needs no read and does not collide writes the enabled bytes. -/
theorem Dev.perform_sramWrite {d : Dev} {m t a : Nat} {be : BitVec 4} {v : Word} {env : XferEnv} (ht : t < 5) (hbe : be ≠ 0)
    (hread : be ≠ 15 → env.single.contains 0 = false ∧ env.double.contains 0 = false) (hc : env.collide.contains 0 = false) :
    d.perform m t a 0 true [⟨be, v⟩] env = (((d.granted t m).bwAdd (324 + t) 4).sramWrite a be v).respond m ⟨.okay, []⟩ := by
  have five : (t == 5) = false := by simp; omega
  have bytes : beatBytes [⟨be, v⟩] = 4 := by simpa [beatBytes] using hbe
  have clean : ∀ r : Run, (if be == 15 then (r, true) else r.sramRead t a 0 env) = (r, true) := by
    intro r
    split
    · rfl
    · rename_i h
      obtain ⟨hs, hd⟩ := hread (by simpa using h)
      simp only [Run.sramRead, hs, hd, Bool.false_eq_true, if_false]
  rw [Dev.perform]
  simp only [five, Bool.false_eq_true, if_false, Run.beats, Run.beat, ht, if_true, Run.sramBeat, Bool.not_true, beq_eq_false_iff_ne.2 hbe, clean, hc,
    Bool.and_false, Run.finish, bytes]

end Sys2Proof.Machine

namespace Sys2Proof.Proofs

open Sys2Proof.Machine

/-- Settles O15: the transfer ends as a PERM answer. -/
theorem transferWithoutPermission : Obligations.TransferWithoutPermission := by
  unfold Obligations.TransferWithoutPermission
  intro d q m addr isWrite bs env hrun ht hperm
  have refused := d.transfer_refused (m := m.val) 0 bs env (.inr ⟨ht, hperm⟩)
  have runs : exec (.matrixTransfer m ⟨if isWrite then .write else .read, addr, bs, env⟩) ⟨d, q⟩ =
      .next ⟨d.permErr m.val (targetAt (addr / 4 * 4)) (addr / 4 * 4) isWrite, q⟩ := by
    refine State.live_eq q ((Dev.live_runs hrun).trans ?_)
    cases isWrite with
    | false => exact refused
    | true => exact refused
  obtain ⟨resp, count, adr, target, master, code, write, event⟩ :=
    d.permErr_vals m (addr / 4 * 4) isWrite (Nat.lt_trans (targetAt_lt (addr / 4 * 4)) (by decide))
  exact ⟨_, runs, resp, count, adr, target, master, code, write, event, Dev.permErr_keeps _ _ _ _ _⟩

/-- Settles O17: a write that the loader bars ends as a PERM answer, whatever its target. -/
theorem loaderBarsHostWrites : Obligations.LoaderBarsHostWrites := by
  unfold Obligations.LoaderBarsHostWrites
  intro d q m addr bs env hrun hm hload hout
  have master : (m.val == 4 || m.val == 5 || m.val == 7) = true := by
    rcases hm with rfl | rfl | rfl <;> rfl
  have loads : d.bootRuns = true := by simpa [Dev.bootRuns, Dev.bootState] using hload
  have barred : d.hostBarred m.val (addr / 4 * 4) = true := by
    simp only [Dev.hostBarred, master, loads, Bool.true_and, Bool.and_true, Bool.not_eq_true', Bool.and_eq_false_iff, decide_eq_false_iff_not]
    omega
  have refused := d.transfer_refused (m := m.val) (isWrite := true) 0 bs env (.inl ⟨rfl, barred⟩)
  obtain ⟨resp, count, -⟩ := d.permErr_vals m (addr / 4 * 4) true (Nat.lt_trans (targetAt_lt (addr / 4 * 4)) (by decide))
  exact ⟨_, State.live_eq q ((Dev.live_runs hrun).trans refused), resp, count, Dev.permErr_keeps _ _ _ _ _⟩

/-- Settles O16: whatever its kind, the transfer ends as a DECERR answer of T9. -/
theorem defaultTargetAnswersDecerr : Obligations.DefaultTargetAnswersDecerr := by
  unfold Obligations.DefaultTargetAnswersDecerr
  intro d q m x hrun ht hbar
  have keeps := d.nowhereBase_keeps [] x
  obtain ⟨resp, adr, target, master, code, write, overrun, event⟩ :=
    (d.nowhereBase x).decErr_vals m (x.addr / 4 * 4) (x.kind == .write || x.kind == .sc) (decBeats x)
  refine ⟨_, State.live_eq q ((Dev.live_runs hrun).trans (Dev.matrixTransfer_nowhere ht hbar)), resp.trans ?_, adr, target, master, code, write,
    fun h => overrun ?_, event, (d.nowhereBase_keeps _ x).trans (Dev.decErr_keeps _ _ _ _ _ _)⟩
  · obtain ⟨kind, a, bs, env⟩ := x
    cases kind <;> rfl
  · rwa [keeps.regs _ List.not_mem_nil]

end Sys2Proof.Proofs
end

section
/-! PROOF. What is written to SRAM by a transfer, a store-conditional and a locked sequence (R351 to R354, R360, R366), and the other commands
of the matrix and of SRAMC (R353 to R356, R361, R362, R365). The answers of SC and the words and permissions of an AMO are the model's choice
(log 25); that a double-bit error ends an AMO and that LOCK_BREAK breaks the oldest lock are too (log 126). -/

namespace Sys2Proof.Machine

/-! ### Bytes of a word -/

/-- The bits of a word that byte enables name. -/
def byteMask (be : BitVec 4) : Word :=
  (List.range 4).foldl (fun (a : Word) i => if be.getLsbD i then a ||| (0xFF#32 <<< (8 * i)) else a) 0

theorem mergeBytes_eq (be : BitVec 4) (old new : Word) : mergeBytes be old new = (old &&& ~~~(byteMask be)) ||| (new &&& byteMask be) := rfl

theorem byteMask_getLsbD : ∀ (be : BitVec 4) (i : Fin 32), (byteMask be).getLsbD i.val = be.getLsbD (i.val / 8) := by decide

/-- Each byte of a merged word is the new one where it is enabled, the old one elsewhere. -/
theorem mergeBytes_getLsbD (be : BitVec 4) (old new : Word) {i : Nat} (hi : i < 32) :
    (mergeBytes be old new).getLsbD i = if be.getLsbD (i / 8) then new.getLsbD i else old.getLsbD i := by
  have mask := byteMask_getLsbD be ⟨i, hi⟩
  simp only [mergeBytes_eq, BitVec.getLsbD_or, BitVec.getLsbD_and, BitVec.getLsbD_not, mask, hi, decide_true, Bool.true_and]
  cases be.getLsbD (i / 8) <;> simp

/-! ### A write of an SRAM word -/

theorem Dev.sramGet_sramWrite_same (d : Dev) (a : Nat) {be : BitVec 4} (v : Word) (hbe : be ≠ 0) :
    (d.sramWrite a be v).sramGet (sramKey a) = mergeBytes be (d.sramGet (sramKey a)) v := by
  rw [Dev.sramWrite, if_neg (by simpa using hbe)]
  exact Map.get_put_same _ _ _ _

theorem Dev.sramGet_sramWrite_other (d : Dev) {a k : Nat} (be : BitVec 4) (v : Word) (hk : k ≠ sramKey a) :
    (d.sramWrite a be v).sramGet k = d.sramGet k := by
  unfold Dev.sramWrite
  split
  · rfl
  · exact Map.get_put_other _ _ _ hk

theorem Dev.sramWrite_regs (d : Dev) (a : Nat) (be : BitVec 4) (v : Word) : (d.sramWrite a be v).regs = d.regs := by
  unfold Dev.sramWrite
  split <;> rfl

/-- A write of a word changes SRAM and reservations only. -/
theorem Dev.sramWrite_rest (d : Dev) (a : Nat) (be : BitVec 4) (v : Word) (s : Map Word) (x : MtxI) :
    { d.sramWrite a be v with sram := s, mtx := x } = { d with sram := s, mtx := x } := by
  unfold Dev.sramWrite
  split <;> rfl

/-- A write of a word ends the reservations of it. -/
theorem Dev.sramWrite_reserve (d : Dev) (a : Nat) {be : BitVec 4} (v : Word) (hbe : be ≠ 0) :
    (d.sramWrite a be v).mtx.reserve = d.mtx.reserve.filter (fun e => e.2 != a / 4 * 4 + 1) := by
  rw [Dev.sramWrite, if_neg (by simpa using hbe)]
  rfl

/-- Among the reservations that are left, none is of the word. -/
theorem reserve_filter_ne {r : Map Nat} {x : Nat} (hx : x ≠ 0) (j : Nat) : Map.get (fun _ => 0) (r.filter (fun e => e.2 != x)) j ≠ x := by
  induction r with
  | nil => exact hx.symm
  | cons e r ih =>
    by_cases he : e.2 = x
    · simpa [he] using ih
    · by_cases hj : e.1 = j
      · simp [he, Map.get, hj]
      · simpa [he, Map.get, hj] using ih

/-- A reservation of another word stays. -/
theorem reserve_filter_other {r : Map Nat} {x j : Nat} (h : Map.get (fun _ => 0) r j ≠ x) :
    Map.get (fun _ => 0) (r.filter (fun e => e.2 != x)) j = Map.get (fun _ => 0) r j := by
  induction r with
  | nil => rfl
  | cons e r ih =>
    by_cases hj : e.1 = j
    · have he : e.2 ≠ x := by simpa [Map.get, hj] using h
      simp [he, Map.get, hj]
    · have h' : Map.get (fun _ => 0) r j ≠ x := by simpa [Map.get, hj] using h
      by_cases he : e.2 = x
      · simpa [he, Map.get, hj] using ih h'
      · simpa [he, Map.get, hj] using ih h'

/-- A beat that collides changes registers of SRAMC and what its event sets, and no word (R365). -/
theorem Dev.collided_sram (d : Dev) (t a : Nat) : (d.collided t a).sram = d.sram := by
  rw [Dev.collided, (Dev.setEvt_keeps _ _ _).sram]
  rfl

/-! ### Reservations (R354) -/

/-- The block after the matrix has let an access of one word of a bank pass. -/
def Dev.bankPassed (d : Dev) (m t : Nat) : Dev := (d.granted t m).bwAdd (324 + t) 4

/-- The block but for its arbiters and bandwidth counters is as it was before the access passed. -/
theorem Dev.bankPassed_rest (d : Dev) (m t : Nat) :
    { d.bankPassed m t with sram := d.sram, mtx := d.mtx, pmc := d.pmc, resp := d.resp } = d := by
  unfold Dev.bankPassed Dev.bwAdd
  split <;> rfl

section
variable {d : Dev} {m addr : Nat} {env : XferEnv} (ht : targetAt (addr / 4 * 4) < 5)

/-- The block in which a store-conditional writes: on port B its beat may have collided (R365). -/
def Dev.scPassed (d : Dev) (m t a : Nat) (env : XferEnv) : Dev :=
  if !(portA t m) && env.collide.contains 0 then (d.bankPassed m t).collided t a else d.bankPassed m t

theorem Dev.bankPassed_keeps (ks : List Nat) (d : Dev) (m t : Nat) : d.Keeps ks (d.bankPassed m t) :=
  (Dev.granted_keeps ks d t m).trans (Dev.bwAdd_keeps ks _ _ _)

theorem Dev.bankPassed_sramGet (d : Dev) (m t k : Nat) : (d.bankPassed m t).sramGet k = d.sramGet k := by
  unfold Dev.sramGet
  rw [(d.bankPassed_keeps [] m t).sram]

theorem Dev.bankPassed_regs (d : Dev) (m t : Nat) : (d.bankPassed m t).regs = d.regs := by
  unfold Dev.bankPassed Dev.bwAdd
  split <;> rfl

theorem Dev.scPassed_of_alone (m t a : Nat) (hc : env.collide.contains 0 = false) : d.scPassed m t a env = d.bankPassed m t := by
  rw [Dev.scPassed, hc, Bool.and_false]
  rfl

theorem Dev.scPassed_sram (m t a : Nat) (env : XferEnv) : (d.scPassed m t a env).sram = d.sram := by
  rw [← (d.bankPassed_keeps [] m t).sram]
  unfold Dev.scPassed
  split
  · exact Dev.collided_sram _ _ _
  · rfl

include ht

/-- A load-reserve that finds no error takes the reservation and answers with the word. -/
theorem Dev.reserved_load (v : Word) (hperm : d.permits m (targetAt (addr / 4 * 4)) false = true)
    (hlock : d.lockedOut m (targetAt (addr / 4 * 4)) = false) (hs : env.single.contains 0 = false) (hd : env.double.contains 0 = false) :
    d.reserved m addr false v env =
      let e := d.bankPassed m (targetAt (addr / 4 * 4))
      ({ e with mtx := { e.mtx with reserve := Map.put (fun _ => 0) e.mtx.reserve m (addr / 4 * 4 + 1) } } : Dev).respond m
        ⟨.okay, [e.sramGet (sramKey (addr / 4 * 4))]⟩ := by
  unfold Dev.reserved
  dsimp only
  rw [if_neg (by omega), if_neg (by simp [hperm]), if_neg (by simp [hlock])]
  simp only [hs, hd]
  rfl

/-- A store-conditional with the reservation writes the word and answers 0. -/
theorem Dev.reserved_held (v : Word) (hperm : d.permits m (targetAt (addr / 4 * 4)) true = true)
    (hlock : d.lockedOut m (targetAt (addr / 4 * 4)) = false) (hheld : Map.get (fun _ => 0) d.mtx.reserve m = addr / 4 * 4 + 1) :
    d.reserved m addr true v env =
      ((d.scPassed m (targetAt (addr / 4 * 4)) (addr / 4 * 4) env).sramWrite (addr / 4 * 4) 15 v).respond m ⟨.okay, [0]⟩ := by
  have held := congrArg (fun r => Map.get (fun _ => 0) r m) (d.bankPassed_keeps [] m (targetAt (addr / 4 * 4))).reserve |>.trans hheld
  unfold Dev.bankPassed at held
  unfold Dev.reserved
  dsimp only
  rw [if_neg (by omega), if_neg (by simp [hperm]), if_neg (by simp [hlock]), if_neg (by simp), if_pos (by simpa using held)]
  rfl

/-- A store-conditional without the reservation writes nothing and answers 1. -/
theorem Dev.reserved_lost (v : Word) (hperm : d.permits m (targetAt (addr / 4 * 4)) true = true)
    (hlock : d.lockedOut m (targetAt (addr / 4 * 4)) = false) (hlost : Map.get (fun _ => 0) d.mtx.reserve m ≠ addr / 4 * 4 + 1) :
    d.reserved m addr true v env =
      let e := d.bankPassed m (targetAt (addr / 4 * 4))
      ({ e with mtx := { e.mtx with reserve := Map.put (fun _ => 0) e.mtx.reserve m 0 } } : Dev).respond m ⟨.okay, [1]⟩ := by
  have lost : Map.get (fun _ => 0) (d.bankPassed m (targetAt (addr / 4 * 4))).mtx.reserve m ≠ addr / 4 * 4 + 1 := by
    rwa [(d.bankPassed_keeps [] m _).reserve]
  unfold Dev.bankPassed at lost
  unfold Dev.reserved
  dsimp only
  rw [if_neg (by omega), if_neg (by simp [hperm]), if_neg (by simp [hlock]), if_neg (by simp), if_neg (by simpa using lost)]
  rfl

end

/-! ### Locked sequences (R354) -/

section
variable {d : Dev} {m addr : Nat} (hfree : d.lockOf m = none) (ht : targetAt addr < 5) (hread : d.permits m (targetAt addr) false = true)
  (hwrite : d.permits m (targetAt addr) true = true) (hlock : d.lockedOut m (targetAt addr) = false) (op : AmoOp) (v : Word)
include hfree ht hread hwrite hlock

/-- The read of an AMO takes the lock of its target and answers with the word. -/
theorem Dev.amoRead_locks :
    d.amoRead m addr op v .none =
      let e := d.bankPassed m (targetAt addr)
      (e.setLocks (e.mtx.locks ++ [⟨m, targetAt addr, addr / 4 * 4, amoWord op (d.sramGet (sramKey (addr / 4 * 4))) v⟩])).respond m
        ⟨.okay, [d.sramGet (sramKey (addr / 4 * 4))]⟩ := by
  unfold Dev.amoRead
  dsimp only
  rw [if_neg (by simp [hfree]), if_neg (by omega), if_neg (by simp [hread, hwrite]), if_neg (by simp [hlock])]
  rfl

/-- The read of an AMO that finds a double-bit error takes no lock and is answered ECC. -/
theorem Dev.amoRead_double :
    d.amoRead m addr op v .double =
      ((d.bankPassed m (targetAt addr)).eccFound (targetAt addr) (addr / 4 * 4) true).respond m ⟨.ecc, []⟩ := by
  unfold Dev.amoRead
  dsimp only
  rw [if_neg (by simp [hfree]), if_neg (by omega), if_neg (by simp [hread, hwrite]), if_neg (by simp [hlock])]
  rfl

end

theorem Dev.amoWrite_held {d : Dev} {m : Nat} {l : LockI} (h : d.lockOf m = some l) :
    d.amoWrite m = ((d.sramWrite l.addr 15 l.word).bwAdd (324 + l.target) 4).unlock m := by
  rw [Dev.amoWrite, h]

theorem Dev.lockBreak_held {d : Dev} {l : LockI} (h : d.mtx.locks.head? = some l) :
    d.lockBreak =
      (((d.amoWrite l.master).inc .mtx .MTX_ERRCNT2_LOCK_BREAK).mtxLog l.master l.target l.addr 4 true).respond l.master ⟨.lockBroken, []⟩ := by
  rw [Dev.lockBreak, h]

/-! ### Reset of a master amid a write, and the clears of MTX and SRAMC -/

/-- A write under way whose first beats the target has performed ends with the reset of its master (R362). -/
theorem Dev.masterAbort_write {d : Dev} {m addr : Nat} {bs : List Beat} {env : XferEnv} (n : Nat) (ht : targetAt (addr / 4 * 4) ≠ 9)
    (h7 : targetAt (addr / 4 * 4) ≠ 7) (hperm : d.permits m (targetAt (addr / 4 * 4)) true = true)
    (hbar : d.hostBarred m (addr / 4 * 4) = false) (hlock : d.lockedOut m (targetAt (addr / 4 * 4)) = false) :
    d.masterAbort m (some ⟨.write, addr, bs, env⟩) n =
      (({ d.perform m (targetAt (addr / 4 * 4)) (addr / 4 * 4) 0 true (bs.take n) env with resp := d.resp } : Dev).masterReset m
        (some (true, targetAt (addr / 4 * 4), bs.length - n))).hostDrop m := by
  have isWrite : (XferKind.write == .write || XferKind.write == .sc) = true := rfl
  unfold Dev.masterAbort
  dsimp only
  rw [isWrite, if_neg (by simp [ht, h7, hperm, hbar, hlock])]

theorem Dev.pageAfter_mtxSlice (d : Dev) (m cur : Nat) (old v : Word) : d.pageAfter m .mtx 0x024 cur old v = d := rfl

/-- A write of PERM holds what is written, and nothing follows it. -/
theorem Dev.pageAfter_mtxPerm (d : Dev) (m cur : Nat) (k : Fin 9) (old v : Word) : d.pageAfter m .mtx (0x040 + 4 * k.val) cur old v = d := by
  have hk := k.isLt
  change d.mtxAfter (0x040 + 4 * k.val) v = d
  rw [Dev.mtxAfter, if_neg (by simp; omega), if_neg (by simp; omega)]

theorem Dev.pageAfter_mtxCntClr (d : Dev) (m cur : Nat) (old : Word) :
    d.pageAfter m .mtx 0x084 cur old 1 = (d.setReg (regKey .mtx 0 0x07C) 0).setReg (regKey .mtx 0 0x080) 0 := rfl

theorem Dev.pageAfter_sramcCntClr (d : Dev) (m cur : Nat) (old : Word) :
    d.pageAfter m .sramc 0x02C cur old 1 =
      (List.range 5).foldl (fun e b => (e.setReg (regKey .sramc 0 (0x040 + 4 * b)) 0).setReg (regKey .sramc 0 (0x060 + 4 * b)) 0) d := rfl

end Sys2Proof.Machine

namespace Sys2Proof.Proofs

open Sys2Proof.Machine

/-- Settles O53: each clause is what the transfer does where nothing refuses it. -/
theorem matrixTransferComplete : Obligations.MatrixTransferComplete := by
  unfold Obligations.MatrixTransferComplete
  intro d q
  refine ⟨fun m addr bs env hrun ht hperm hlock hready hflash => ?read, fun m addr bs env hrun ht h7 hbar hperm hlock hready => ?write,
    fun m addr env hrun ht hperm hlock hs hd _ => ?readWord, fun m addr v env hrun ht hbar hperm hlock hc => ?writeWord,
    fun m addr bs env hrun ht hperm hlock hs hd => ?lr, fun m addr be v env hrun ht hperm hlock hheld hc => ?scHeld,
    fun m addr be v env hrun ht hperm hlock hlost => ?scLost, fun m addr op v hrun hfree ht hr hw hlock => ?amoRead,
    fun m addr op v hrun hfree ht hr hw hlock => ?amoWhole, fun m addr op v hrun hfree ht hr hw hlock => ?amoDouble,
    fun m l hrun hl => ?amoWrite, fun l hrun hl => ?lockBreak⟩
  all_goals refine State.live_eq q ((Dev.live_runs hrun).trans ?_)
  case read => exact Dev.transfer_reads 0 bs env ht hperm hlock hready hflash
  case write => exact Dev.transfer_writes 0 bs env ht h7 hbar hperm hlock hready
  case readWord =>
    exact (Dev.transfer_reads 0 _ env (by omega) hperm hlock (by omega) (by omega)).trans (Dev.perform_sramRead ht hs hd)
  case writeWord =>
    exact (Dev.transfer_writes 0 _ env (by omega) (by omega) hbar hperm hlock (by omega)).trans
      (Dev.perform_sramWrite ht (by decide) (fun h => absurd rfl h) hc)
  case lr => exact Dev.reserved_load ht 0 hperm hlock hs hd
  case scHeld =>
    exact (Dev.reserved_held ht v hperm hlock hheld).trans
      (congrArg (fun e : Dev => (e.sramWrite (addr / 4 * 4) 15 v).respond m.val ⟨.okay, [0]⟩) (Dev.scPassed_of_alone _ _ _ hc))
  case scLost => exact Dev.reserved_lost ht v hperm hlock hlost
  case amoRead => exact Dev.amoRead_locks hfree ht hr hw hlock op v
  case amoWhole => exact congrArg (fun e : Dev => e.amoWrite m.val) (Dev.amoRead_locks hfree ht hr hw hlock op v)
  case amoDouble => exact Dev.amoRead_double hfree ht hr hw hlock op v
  case amoWrite => exact Dev.amoWrite_held hl
  case lockBreak => exact Dev.lockBreak_held hl

/-- Settles O19: the write is performed, and merges the enabled bytes. -/
theorem sramWordIsWritten : Obligations.SramWordIsWritten := by
  unfold Obligations.SramWordIsWritten
  intro d q m addr be v a hrun ht hbar hperm hlock hbe
  have word : a / 4 * 4 = a := Nat.div_mul_cancel (Nat.dvd_mul_left 4 _)
  obtain ⟨h9, h7, h5⟩ : targetAt a ≠ 9 ∧ targetAt a ≠ 7 ∧ targetAt a ≠ 5 := by omega
  have written := (Dev.transfer_writes 0 [⟨be, v⟩] {} h9 h7 hbar hperm hlock (fun h => absurd h h5)).trans
    (Dev.perform_sramWrite ht hbe (fun _ => ⟨rfl, rfl⟩) rfl)
  have reserve := (d.bankPassed m.val (targetAt a)).sramWrite_reserve a v hbe
  rw [(d.bankPassed_keeps [] m.val (targetAt a)).reserve, word] at reserve
  refine ⟨((d.bankPassed m.val (targetAt a)).sramWrite a be v).respond m.val ⟨.okay, []⟩, State.live_eq q ((Dev.live_runs hrun).trans written),
    Dev.respOf_respond _ _ _, fun i hi => ?_, fun k hk => ?_, fun j => ?_, fun j hj => ?_, ?_, ?_⟩
  · refine (congrArg (·.getLsbD i) (Dev.sramGet_sramWrite_same _ a v hbe)).trans ?_
    rw [mergeBytes_getLsbD _ _ _ hi, Dev.bankPassed_sramGet]
  · exact (Dev.sramGet_sramWrite_other _ be v hk).trans (d.bankPassed_sramGet _ _ _)
  · exact (congrArg (fun r => Map.get (fun _ => 0) r j.val) reserve).trans_ne (reserve_filter_ne (Nat.succ_ne_zero a) _)
  · exact (congrArg (fun r => Map.get (fun _ => 0) r j.val) reserve).trans (reserve_filter_other hj)
  · exact (Dev.sramWrite_regs _ _ _ _).trans (d.bankPassed_regs _ _)
  · exact (congrArg (fun e : Dev => { e with pmc := d.pmc, resp := d.resp }) (Dev.sramWrite_rest _ a be v d.sram d.mtx)).trans
      (d.bankPassed_rest m.val (targetAt a))

/-- Settles O20: with the reservation the word is written, without it nothing is. -/
theorem storeConditionalNeedsReservation : Obligations.StoreConditionalNeedsReservation := by
  unfold Obligations.StoreConditionalNeedsReservation
  intro d q m addr v env a hrun ht hperm hlock
  have word : a / 4 * 4 = a := Nat.div_mul_cancel (Nat.dvd_mul_left 4 _)
  have runs : exec (.matrixTransfer m ⟨.sc, addr, [⟨15, v⟩], env⟩) ⟨d, q⟩ = .next ⟨d.reserved m.val addr true v env, q⟩ :=
    State.live_eq q (Dev.live_runs hrun)
  refine ⟨_, runs, ?_⟩
  by_cases hheld : Map.get (fun _ => 0) d.mtx.reserve m.val = a + 1
  · rw [Dev.reserved_held (env := env) ht v hperm hlock hheld]
    have sram := d.scPassed_sram m.val (targetAt a) a env
    have regs := fun hc => congrArg Dev.regs (d.scPassed_of_alone (env := env) m.val (targetAt a) a hc)
    generalize d.scPassed m.val (targetAt a) a env = b at sram regs ⊢
    have reserve := b.sramWrite_reserve a v (be := 15) (by decide)
    rw [word] at reserve
    refine ⟨fun _ => ⟨Dev.respOf_respond _ _ _, ?_⟩, fun h => absurd hheld h, fun k hk => ?_, ?_, fun hc => ?_⟩
    · exact (Dev.sramGet_sramWrite_same b a v (by decide)).trans (mergeBytes_all _ v)
    · exact (Dev.sramGet_sramWrite_other b 15 v hk).trans (congrArg (fun r => Map.get (fun _ => 0) r k) sram)
    · exact (congrArg (fun r => Map.get (fun _ => 0) r m.val) reserve).trans_ne (reserve_filter_ne (Nat.succ_ne_zero a) _)
    · exact (Dev.sramWrite_regs b a 15 v).trans ((regs hc).trans (d.bankPassed_regs _ _))
  · have kept := (d.bankPassed_keeps [] m.val (targetAt (addr / 4 * 4))).sram
    rw [Dev.reserved_lost (env := env) ht v hperm hlock hheld]
    refine ⟨fun h => absurd h hheld, fun _ => ⟨Dev.respOf_respond _ _ _, kept⟩, fun k _ => congrArg (fun r => Map.get (fun _ => 0) r k) kept, ?_,
      fun _ => d.bankPassed_regs _ _⟩
    exact (Map.get_put_same (fun _ => 0) _ m.val 0).trans_ne (Nat.succ_ne_zero a).symm

/-- Settles O54: each clause is the law of the operation that the command calls, under the clause's conditions. -/
theorem matrixCommandsComplete : Obligations.MatrixCommandsComplete := by
  unfold Obligations.MatrixCommandsComplete
  intro d q
  refine ⟨fun m addr isWrite hrun => ?timeout, fun t hrun => ?park, fun m done hrun => ?reset,
    fun m done addr bs env hrun ht h7 hperm hbar hlock => ?resetWrite, fun m v h => ?slice, fun m k v h => ?perm, fun m h => ?mtxClr,
    fun m h => ?sramcClr⟩
  case timeout => exact State.live_eq q (Dev.live_runs hrun)
  case park => exact State.live_eq q (Dev.live_runs hrun)
  case reset => exact State.live_eq q (Dev.live_runs hrun)
  case resetWrite => exact State.live_eq q ((Dev.live_runs hrun).trans (Dev.masterAbort_write done ht h7 hperm hbar hlock))
  case slice => exact State.live_eq q (Dev.mWrite_follows h (by decide) (Dev.pageAfter_mtxSlice _ _ _ _ v))
  case perm => exact State.live_eq q (Dev.mWrite_follows h (by omega) (Dev.pageAfter_mtxPerm _ _ _ k _ v))
  case mtxClr => exact State.live_eq q (Dev.mWrite_follows h (by decide) (Dev.pageAfter_mtxCntClr _ _ _ _))
  case sramcClr => exact State.live_eq q (Dev.mWrite_follows h (by decide) (Dev.pageAfter_sramcCntClr _ _ _ _))

end Sys2Proof.Proofs
end

section
/-! PROOF. Commands and events of the line engines (R334 to R338, R346, R347): the block after each, where its conditions hold. That a waiting engine
keeps the program counter of its WAIT when it is stopped is the model's choice (log 98). -/

namespace Sys2Proof.Machine

/-! ### Registers -/

theorem Dev.pageAfter_lengCtlStart (d : Dev) (m n cur : Nat) (old : Word) : d.pageAfter m (.leng n) 0x020 cur old 1 = d.lengStart n := rfl

theorem Dev.pageAfter_lengCtlStop {d : Dev} {n : Nat} (m cur : Nat) (old : Word) (h : d.lengLive n = true) :
    d.pageAfter m (.leng n) 0x020 cur old 2 = d.lengHalt n 1 := if_pos h

theorem Dev.pageAfter_lengCntClr (d : Dev) (m n cur : Nat) (old : Word) : d.pageAfter m (.leng n) 0x020 cur old 4 = d.lengCntClr n := rfl

theorem Dev.pageAfter_lengRing (d : Dev) (m n cur : Nat) (old : Word) : d.pageAfter m (.leng n) 0x034 cur old 1 = d.lengLatch n 4 := rfl

theorem Dev.pageAfter_lengStep (d : Dev) (m n cur : Nat) (old : Word) {v : Word} (h : Fld.LENG_DBG_X_STEP.get v = 1) :
    d.pageAfter m (.leng n) 0x400 cur old v = d.lengDbgStep n := if_pos (by simpa using h)

/-- ENABLE written 1 does nothing to the engine. -/
theorem Dev.pageAfter_lengEnable (d : Dev) (m n cur : Nat) (old : Word) {v : Word} (h : Fld.PAGE_CTRL_ENABLE.get v = 1) :
    d.pageAfter m (.leng n) 0x008 cur old v = d := if_neg (by simp [h])

/-- ENABLE written 0 halts an engine that runs or waits. -/
theorem Dev.pageAfter_lengDisable {d : Dev} {n : Nat} (m cur : Nat) {old v : Word} (hold : Fld.PAGE_CTRL_ENABLE.get old = 1)
    (h : Fld.PAGE_CTRL_ENABLE.get v = 0) (hl : d.lengLive n = true) : d.pageAfter m (.leng n) 0x008 cur old v = d.lengHalt n 1 :=
  (if_pos (by simp [hold, h])).trans (if_pos hl)

/-! ### The window of an instruction store (R334) -/

/-- The words of an instruction store lie beyond the engine's page. -/
theorem pageAt_istore (n : Fin 144) (i : Fin 1024) : pageAt (0x201000 + 0x4000 * n.val + 4 * i.val) = none := by
  have hn := n.isLt
  have hi := i.isLt
  obtain ⟨lo, hi, odd⟩ : 0x201 ≤ (0x201000 + 0x4000 * n.val + 4 * i.val) / 0x1000 ∧ (0x201000 + 0x4000 * n.val + 4 * i.val) / 0x1000 < 0x440 ∧
      (0x201000 + 0x4000 * n.val + 4 * i.val) / 0x1000 % 4 = 1 := by omega
  unfold pageAt
  generalize (0x201000 + 0x4000 * n.val + 4 * i.val) / 0x1000 = k at lo hi odd
  simp only [beq_iff_eq, Bool.and_eq_true, decide_eq_true_eq]
  repeat rw [if_neg (by omega)]

theorem targetAt_istore (n : Fin 144) (i : Fin 1024) : targetAt (0x201000 + 0x4000 * n.val + 4 * i.val) = 6 := by
  have hn := n.isLt
  have hi := i.isLt
  exact if_pos (by simp only [Bool.or_eq_true, Bool.and_eq_true, decide_eq_true_eq]; omega)

/-- A word written to the instruction store of an engine that does not run is stored. -/
theorem Dev.lengMemWrite_istore {d : Dev} (m : Nat) {n : Nat} (i : Fin 1024) (v : Word) (hlock : d.on (.leng n) .PAGE_CTRL_LOCK = false)
    (hl : d.lengLive n = false) : d.lengMemWrite m n (0x1000 + 4 * i.val) 15 v = d.istorePut n i.val v := by
  have hi := i.isLt
  have index : (0x1000 + 4 * i.val - 0x1000) / 4 = i.val := by omega
  have accepted : firstRej (d.istoreRej n) = none := by
    unfold Dev.istoreRej
    rw [hlock, hl]
    rfl
  unfold Dev.lengMemWrite
  dsimp only
  rw [if_pos (by omega), accepted, index, mergeBytes_all]

theorem Dev.perform_istore (d : Dev) (m : Nat) (n : Fin 144) (i : Fin 1024) (v : Word) :
    d.perform m 6 (0x201000 + 0x4000 * n.val + 4 * i.val) 0 true [⟨15, v⟩] {} =
      ((d.passed m).lengMemWrite m n.val (0x1000 + 4 * i.val) 15 v).respond m ⟨.okay, []⟩ := by
  have hn := n.isLt
  have hi := i.isLt
  have engine : (0x201000 + 0x4000 * n.val + 4 * i.val - 0x200000) / 0x4000 = n.val := by omega
  have offset : (0x201000 + 0x4000 * n.val + 4 * i.val - 0x200000) % 0x4000 = 0x1000 + 4 * i.val := by omega
  have granted : (d.granted 6 m).bwAdd (324 + 6) (beatBytes [⟨15, v⟩]) = d.passed m := rfl
  unfold Dev.perform
  simp only [granted, Run.beats, Run.beat, Run.pageBeat, pageAt_istore, engine, offset, Nat.reduceBEq, Bool.false_eq_true, if_false, if_true,
    Nat.reduceLT, Run.finish]

/-- A write of one word of an instruction store that nothing refuses stores it. -/
theorem Dev.transfer_istore {d : Dev} {m : Nat} (n : Fin 144) (i : Fin 1024) (v : Word)
    (hbar : d.hostBarred m (0x201000 + 0x4000 * n.val + 4 * i.val) = false) (hperm : d.permits m 6 true = true) (hfree : d.lockedOut m 6 = false)
    (hlock : d.on (.leng n.val) .PAGE_CTRL_LOCK = false) (hl : d.lengLive n.val = false) :
    d.transfer m (0x201000 + 0x4000 * n.val + 4 * i.val) 0 true [⟨15, v⟩] {} = ((d.passed m).istorePut n.val i.val v).okay m := by
  have word : (0x201000 + 0x4000 * n.val + 4 * i.val) / 4 * 4 = 0x201000 + 0x4000 * n.val + 4 * i.val := by omega
  have target := targetAt_istore n i
  have keeps := d.passed_keeps [] m
  have performed := d.transfer_writes (m := m) (addr := 0x201000 + 0x4000 * n.val + 4 * i.val) 0 [⟨15, v⟩] {}
  rw [word, target] at performed
  rw [performed (by decide) (by decide) hbar hperm hfree nofun, Dev.perform_istore]
  refine congrArg (fun e : Dev => e.respond m ⟨.okay, []⟩) (Dev.lengMemWrite_istore m i v ?_ ?_)
  · exact (keeps.on _ _ List.not_mem_nil).trans hlock
  · exact (congrArg (fun k => k == 1 || k == 2) (keeps.rd (.leng n.val) .LENG_STAT_STATE List.not_mem_nil)).trans hl

/-! ### Records and events (R335, R338) -/

section
variable {d : Dev} {n : Nat} {y : PathRec} {ys : List PathRec}

theorem Dev.lengArrive_held (h : (d.leng n).inbox = y :: ys) (hf : (d.leng n).fifo.length < 64) :
    d.lengArrive n = (d.setLeng n { d.leng n with inbox := ys, fifo := (d.leng n).fifo ++ [y] }).lengWake n := by
  simp only [Dev.lengArrive, h, hf, if_true]

theorem Dev.lengArrive_dropped (h : (d.leng n).inbox = y :: ys) (hf : ¬ (d.leng n).fifo.length < 64) :
    d.lengArrive n = (d.setLeng n { d.leng n with inbox := ys }).addEvt (.leng n) .LENG_PKTCNT_FIFO_DROP 1 10 := by
  simp only [Dev.lengArrive, h, hf, if_false]

/-- LINE is latched where the time base that TBASE names runs. -/
theorem Dev.lengEvent_line
    (h : (if d.lf n .LENG_CFG_TBASE == 0 then d.frmState n == 3 || d.frmState n == 4 else d.domFmt (d.lf n .LENG_CFG_TDOM) != 0) = true) :
    d.lengEvent n 1 = d.lengLatch n 1 := if_pos h

/-- SWL is latched where the engine's domain runs. -/
theorem Dev.lengEvent_swl (h : d.domFmt (d.lf n .LENG_CFG_TDOM) ≠ 0) : d.lengEvent n 2 = d.lengLatch n 2 := if_pos (by simpa using h)

/-- FRAME is latched where the time base that TBASE names has a frame. -/
theorem Dev.lengEvent_frame (h : (if d.lf n .LENG_CFG_TBASE == 0 then d.frmState n == 4 else d.domFmt (d.lf n .LENG_CFG_TDOM) != 0) = true) :
    d.lengEvent n 3 = d.lengLatch n 3 := if_pos h

end

end Sys2Proof.Machine

namespace Sys2Proof.Proofs

open Sys2Proof.Machine

/-- Settles O52: each clause is the law of the operation that the command calls, under the clause's conditions. -/
theorem engineCommandsComplete : Obligations.EngineCommandsComplete := by
  unfold Obligations.EngineCommandsComplete
  intro d q
  refine ⟨fun m n h => ?start, fun m n h hl => ?stop, fun m n v h hs he => ?enable, fun m n v h hs hold he hl => ?disable, fun m n h => ?cntClr,
    fun m n i v hrun hbar hperm hfree hlock hl => ?istore, fun n y ys hrun h hf => ?held, fun n y ys hrun h hf => ?dropped, fun n hrun => ?pkt,
    fun n hrun hb hs => ?lineRx, fun n hrun hb hd => ?lineDom, fun n hrun hb hs => ?frameRx, fun n hrun hd => ?swl, fun n hrun hb hd => ?frameDom,
    fun m n h => ?ring, fun m n rest h hs => ?step⟩
  case start => exact State.live_eq q (Dev.mWrite_follows h (by decide) (Dev.pageAfter_lengCtlStart _ _ n.val _ _))
  case stop => exact State.live_eq q (Dev.mWrite_follows h (by decide) (Dev.pageAfter_lengCtlStop _ _ _ hl))
  case enable =>
    refine State.live_eq q ((Dev.mWrite_ctrl h hs).trans ?_)
    rw [Dev.pageAfter_lengEnable _ _ n.val _ _ he]
  case disable =>
    refine State.live_eq q ((Dev.mWrite_ctrl h hs).trans ?_)
    rw [Dev.pageAfter_lengDisable _ _ hold he hl]
  case cntClr => exact State.live_eq q (Dev.mWrite_follows h (by decide) (Dev.pageAfter_lengCntClr _ _ n.val _ _))
  case istore => exact State.live_eq q ((Dev.live_runs hrun).trans (Dev.transfer_istore n i v hbar hperm hfree hlock hl))
  case held => exact State.live_eq q ((Dev.live_runs hrun).trans (Dev.lengArrive_held h hf))
  case dropped => exact State.live_eq q ((Dev.live_runs hrun).trans (Dev.lengArrive_dropped h hf))
  case pkt => exact State.live_eq q (Dev.live_runs hrun)
  case lineRx => exact State.live_eq q ((Dev.live_runs hrun).trans (Dev.lengEvent_line (by simpa [hb] using hs)))
  case lineDom => exact State.live_eq q ((Dev.live_runs hrun).trans (Dev.lengEvent_line (by simpa [hb] using hd)))
  case frameRx => exact State.live_eq q ((Dev.live_runs hrun).trans (Dev.lengEvent_frame (by simpa [hb] using hs)))
  case swl => exact State.live_eq q ((Dev.live_runs hrun).trans (Dev.lengEvent_swl hd))
  case frameDom => exact State.live_eq q ((Dev.live_runs hrun).trans (Dev.lengEvent_frame (by simpa [hb] using hd)))
  case ring => exact State.live_eq q (Dev.mWrite_follows h (by decide) (Dev.pageAfter_lengRing _ _ n.val _ _))
  case step => exact State.live_eq q (Dev.mWrite_follows h (by decide) (Dev.pageAfter_lengStep _ _ n.val _ _ hs))

end Sys2Proof.Proofs
end

section
/-! PROOF. The block at reset (R367), while its core domains do not run (R410, R412, R415), and under the test access port (R362, R442, R443). That
the JTAG commands act whether or not the core domains run is the model's choice (log 43), as is what a stopped block does (log 5). -/

namespace Sys2Proof.Machine

/-- At reset every table is empty. -/
theorem Dev.reset_wf : State.reset.dev.Wf := by constructor <;> rfl

/-- DEBUG makes one access by M7 where the port is open and the access can be made (R443). -/
theorem Dev.debug_accesses {d : Dev} {f : SpiFrame} (hopen : d.dbgOpen = true) (hrun : d.stopped = false) (hidle : d.jtag.wait = false)
    (hlock : d.lockedOut 7 (targetAt (f.addr.toNat % 2 ^ 27)) = false) (hform : spiMalformed f.addr = false) :
    d.debug f =
      (({ d with jtag := { d.jtag with tap := .debug, isRead := f.addr.getLsbD 31, wait := true } } : Dev).transfer 7 (f.addr.toNat % 2 ^ 27) 0
        (!(f.addr.getLsbD 31)) [{ data := f.data }] f.env).dbgSettle := by
  have ready : ((d.tapSelect .debug).stopped || (d.tapSelect .debug).jtag.wait ||
      (d.tapSelect .debug).lockedOut 7 (targetAt (f.addr.toNat % 2 ^ 27))) = false := by
    change (d.stopped || d.jtag.wait || d.lockedOut 7 _) = false
    rw [hrun, hidle, hlock]
    rfl
  unfold Dev.debug
  dsimp only
  rw [hopen, if_neg (by decide), ready, if_neg (by decide), if_neg (by simp [hform])]
  rfl

end Sys2Proof.Machine

namespace Sys2Proof.Proofs

open Sys2Proof.Machine

/-- Settles O6: at reset every table is empty, and no command waits. -/
theorem resetHasInvariant : Obligations.ResetHasInvariant := by
  unfold Obligations.ResetHasInvariant
  exact ⟨Dev.reset_wf, rfl, rfl⟩

/-- Settles O8: what is not named acts only while the core domains run, and of a link reset only the fall of PCIE_PERST_N acts at any time. -/
theorem stoppedBlockActsOnNothing : Obligations.StoppedBlockActsOnNothing := by
  unfold Obligations.StoppedBlockActsOnNothing
  intro c s hstop hc
  cases c
  case pcieLinkReset k =>
    have falls : s.always (fun d => if d.stopped then d.perstFall k else d.pcieLinkReset k) = .next { s with dev := s.dev.perstFall k } :=
      (State.always_runs s _).trans (State.next_eq s.pending (if_pos hstop))
    cases k with
    | perst => cases hc
    | linkDown => exact falls
    | hotReset => exact falls
    | flr => exact falls
  case jtagTrst | idcode | samplePreload | extest | clamp | highz | bypass | debug | pciePerstRise | pinReset | powerOnReset | xoCheckDone
    | resetSequenceEnd | resetNRise | dormantWake | railWarningEnter | railWarningLeave | railResetLevel | deferEnd | tempReading
    | wakeTimerExpiry => cases hc
  all_goals exact State.live_stopped s _ hstop

/-- Settles O60: each TAP instruction acts at any time; DEBUG makes its access where the port is open. -/
theorem jtagCommandsComplete : Obligations.JtagCommandsComplete := by
  unfold Obligations.JtagCommandsComplete
  intro d q
  refine ⟨State.next_eq q rfl, State.next_eq q rfl, fun _ _ => State.next_eq q rfl, fun _ _ => State.next_eq q rfl, State.next_eq q rfl,
    State.next_eq q rfl, State.next_eq q rfl, fun f hopen hrun hidle hlock hform => ?debug⟩
  case debug => exact State.next_eq q (Dev.debug_accesses hopen hrun hidle hlock hform)

end Sys2Proof.Proofs
end

section
/-! PROOF. The interrupt controller (R386 to R398): slots and claims, and the block after each command, where its conditions hold. -/

namespace Sys2Proof.Machine

/-! ### Slots and sources -/

theorem Dev.slotOf_setSlotOf_empty (d : Dev) (t c : Nat) : (d.setSlotOf t c 0).slotOf t c = none := by
  unfold Dev.slotOf Dev.setSlotOf
  rw [Map.get_put_same]

theorem Dev.src_setSrc_same (d : Dev) (k : Nat) (v : SrcI) : (d.setSrc k v).src k = v := Map.get_put_same _ _ _ _

theorem Dev.src_setSrc_other (d : Dev) {j k : Nat} (v : SrcI) (h : j ≠ k) : (d.setSrc k v).src j = d.src j := Map.get_put_other _ _ _ h

theorem Dev.wakeFor_src (d : Dev) (j k : Nat) : (d.wakeFor j).src k = d.src k := by
  unfold Dev.wakeFor
  split
  · split <;> rfl
  · rfl

/-- An event of a source that has room is counted (R385). -/
theorem Dev.addEventRaw_count {d : Dev} {k : Nat} (hheard : d.intcLost = false) (hroom : (d.src k).count < 255) :
    ((d.addEventRaw k).src k).count = (d.src k).count + 1 := by
  rw [Dev.addEventRaw, if_neg (by simp [hheard]), if_pos hroom, Dev.wakeFor_src, Dev.src_setSrc_same]

theorem Dev.passed_src (d : Dev) (m k : Nat) : (d.passed m).src k = d.src k := by
  unfold Dev.src
  rw [Dev.passed_intc]

theorem Dev.passed_slotOf (d : Dev) (m t c : Nat) : (d.passed m).slotOf t c = d.slotOf t c := by
  unfold Dev.slotOf
  rw [Dev.passed_intc]

/-! ### Claims (R391) -/

section
variable {d : Dev} {t c k : Nat} (all : Bool)

theorem Dev.claim_empty (h : d.slotOf t c = none) : d.claim t c all = d := by rw [Dev.claim, h]

theorem Dev.claimView_empty (h : d.slotOf t c = none) : d.claimView t c all = 0 := by rw [Dev.claimView, h]

theorem Dev.claim_full (h : d.slotOf t c = some k) :
    d.claim t c all = (d.setSlotOf t c 0).setSrc k { count := (claimTakes all (d.src k).count).1, insvc := some t } := by
  rw [Dev.claim, h]

theorem Dev.claimView_full (h : d.slotOf t c = some k) : d.claimView t c all = claimWord k (d.src k) c (claimTakes all (d.src k).count).2 := by
  rw [Dev.claimView, h]

end

/-- The block after a read of CLAIM, or of CLAIM_ALL, by a master. -/
def Dev.claimed (d : Dev) (m c : Nat) (all : Bool) : Dev :=
  ((d.passed m).claim (targetOf m) c all).respond m ⟨.okay, [(d.passed m).claimView (targetOf m) c all]⟩

/-- The two reads of each class have the effect of a claim. -/
theorem Dev.claimRead_live {d : Dev} {m : Nat} (fast : Bool) (hrun : d.stopped = false) (hperm : d.permits m 6 false = true) :
    (d.live fun d => if fast then d.mRead m .intcF 0x020 else d.mRead m .intc 0x0C0) = d.claimed m (if fast then 1 else 0) false ∧
      (d.live fun d => if fast then d.mRead m .intcF 0x024 else d.mRead m .intc 0x0C4) = d.claimed m (if fast then 1 else 0) true := by
  cases fast with
  | false => exact ⟨Dev.mRead_okay hrun hperm rfl, Dev.mRead_okay hrun hperm rfl⟩
  | true => exact ⟨Dev.mRead_okay hrun hperm rfl, Dev.mRead_okay hrun hperm rfl⟩

theorem Dev.claimed_regs (d : Dev) (m c : Nat) (all : Bool) : (d.claimed m c all).regs = d.regs := by
  refine Eq.trans ?_ (d.passed_regs m)
  unfold Dev.claimed Dev.claim
  split <;> rfl

/-- A claim of an empty slot reads 0 and takes nothing. -/
theorem Dev.claimed_empty {d : Dev} {m c : Nat} (all : Bool) (h : d.slotOf (targetOf m) c = none) :
    (d.claimed m c all).respOf m = ⟨.okay, [0]⟩ ∧ (d.claimed m c all).intc = d.intc := by
  have empty := (d.passed_slotOf m (targetOf m) c).trans h
  rw [Dev.claimed, Dev.claim_empty all empty, Dev.claimView_empty all empty]
  exact ⟨Dev.respOf_respond _ _ _, d.passed_intc m⟩

/-- A claim of a full slot, written out. -/
theorem Dev.claimed_full {d : Dev} {m c k : Nat} (all : Bool) (h : d.slotOf (targetOf m) c = some k) :
    d.claimed m c all =
      (((d.passed m).setSlotOf (targetOf m) c 0).setSrc k { count := (claimTakes all (d.src k).count).1, insvc := some (targetOf m) }).respond m
        ⟨.okay, [claimWord k (d.src k) c (claimTakes all (d.src k).count).2]⟩ := by
  have full := (d.passed_slotOf m (targetOf m) c).trans h
  rw [Dev.claimed, Dev.claim_full all full, Dev.claimView_full all full, Dev.passed_src]

/-- What a claim of a full slot leaves: the slot empty, the source in service with its target, and every other source as it was. -/
theorem Dev.claimed_vals {d : Dev} {m c k : Nat} (all : Bool) (h : d.slotOf (targetOf m) c = some k) :
    (d.claimed m c all).slotOf (targetOf m) c = none ∧ ((d.claimed m c all).src k).count = (claimTakes all (d.src k).count).1 ∧
      ((d.claimed m c all).src k).insvc = some (targetOf m) ∧
      (d.claimed m c all).respOf m = ⟨.okay, [claimWord k (d.src k) c (claimTakes all (d.src k).count).2]⟩ ∧
      ∀ j, j ≠ k → (d.claimed m c all).src j = d.src j := by
  rw [Dev.claimed_full all h]
  have source := ((d.passed m).setSlotOf (targetOf m) c 0).src_setSrc_same k
    { count := (claimTakes all (d.src k).count).1, insvc := some (targetOf m) }
  refine ⟨(d.passed m).slotOf_setSlotOf_empty (targetOf m) c, congrArg SrcI.count source, congrArg SrcI.insvc source, Dev.respOf_respond _ _ _,
    fun j hj => ?_⟩
  exact (Dev.src_setSrc_other _ _ hj).trans (d.passed_src m j)

/-! ### Delivery (R389, R390, R395) -/

/-- A free slot takes the best of the deliverable sources; to HOST a message is raised unless HOST_PIN is in use. -/
theorem Dev.intCommit_takes {d : Dev} {t c k : Nat} {r : Bool} (hfree : d.slotOf t c = none) (hbest : d.bestSource (d.deliverable t c) = some k)
    (hto : d.srcTarget k = some (t, r)) :
    d.intCommit t c =
      let e := (d.setSrc k { d.src k with committed := some t, masked := false, redirected := r, window := true }).setSlotOf t c (k + 1)
      if t == 4 && e.rd .intc .INTC_CFG_HOST_PIN == 0 then e.msixRaise (e.rdB .intc k .INTC_SRC_CFG_VECTOR) else e := by
  unfold Dev.intCommit
  rw [hfree, if_neg (by decide), hbest]
  dsimp only
  rw [hto]

theorem Dev.intDelivered_full {d : Dev} {t c k : Nat} (h : d.slotOf t c = some k) :
    d.intDelivered t c = d.setSrc k { d.src k with window := false } := by
  rw [Dev.intDelivered, h]

/-! ### Register writes -/

/-- COMPLETE's SOURCE field holds the source number written, on both pages. -/
theorem complete_source (k : Fin 512) :
    Fld.INTC_COMPLETE_SOURCE.get (BitVec.ofNat 32 k.val) = k.val ∧ Fld.INTC_F_COMPLETE_SOURCE.get (BitVec.ofNat 32 k.val) = k.val := by
  have hk := k.isLt
  have word : (BitVec.ofNat 32 k.val).toNat = k.val := by rw [BitVec.toNat_ofNat, Nat.mod_eq_of_lt (by omega)]
  simp only [Fld.get, word, Fld.INTC_COMPLETE_SOURCE, Fld.INTC_F_COMPLETE_SOURCE, fWC, Nat.shiftRight_eq_div_pow]
  omega

theorem Dev.pageAfter_complete (d : Dev) (m cur : Nat) (old : Word) (k : Fin 512) :
    d.pageAfter m .intc 0x0C8 cur old (BitVec.ofNat 32 k.val) = d.complete m 0 k.val :=
  congrArg (d.complete m 0) (complete_source k).1

theorem Dev.pageAfter_completeFast (d : Dev) (m cur : Nat) (old : Word) (k : Fin 512) :
    d.pageAfter m .intcF 0x028 cur old (BitVec.ofNat 32 k.val) = d.complete m 1 k.val :=
  congrArg (d.complete m 1) (complete_source k).2

/-- COMPLETE of a source in service with the master's target, in its class, ends the service. -/
theorem Dev.complete_served {d : Dev} {m c s : Nat} (hs : (d.src (d.srcKey m s)).insvc = some (targetOf m)) (hc : d.srcClass (d.srcKey m s) = c) :
    d.complete m c s = d.serviceEnd (d.srcKey m s) := if_pos (by simp [hs, hc])

/-- COMPLETE of any other source is recorded as bad. -/
theorem Dev.complete_bad {d : Dev} {m c s : Nat} (h : (d.src (d.srcKey m s)).insvc ≠ some (targetOf m) ∨ d.srcClass (d.srcKey m s) ≠ c) :
    d.complete m c s = ((d.wr .intc .INTC_ERR_MASTER m).wr .intc .INTC_ERR_SOURCE s).setEvt .intc 8 := by
  refine if_neg ?_
  simp only [Bool.and_eq_true, beq_iff_eq, not_and_or]
  exact h

theorem Dev.pageAfter_swi (d : Dev) (m cur : Nat) (old v : Word) : d.pageAfter m .intc 0x0CC cur old v = d.swi m v := rfl

theorem Dev.pageAfter_intcCfg (d : Dev) (m cur : Nat) (old v : Word) : d.pageAfter m .intc 0x020 cur old v = d.wakeSettle := rfl

/-- A write of EN masks the committed sources whose bits fall, and what still waits may wake a core. -/
theorem Dev.pageAfter_intcEn (d : Dev) (m cur : Nat) (i : Fin 16) (old v : Word) :
    d.pageAfter m .intc (0x040 + 4 * i.val) cur old v =
      ((List.range 32).foldl (fun e j =>
        if old.getLsbD j && !(v.getLsbD j) then e.maskHit (enKey (e.enBank m) (32 * i.val + j)) else e) d).wakeSettle := by
  have hi := i.isLt
  have index : (0x040 + 4 * i.val - 0x040) / 4 = i.val := by omega
  change d.intcAfter m (0x040 + 4 * i.val) old v = _
  unfold Dev.intcAfter
  rw [if_neg (by simp; omega), if_neg (by simp; omega), if_pos (by simp; omega)]
  simp only [index]

theorem Dev.pageAfter_watch (d : Dev) (m cur : Nat) (i : Fin 32) (old v : Word) : d.pageAfter m .intc (0x100 + 4 * i.val) cur old v = d.wakeSettle := by
  have hi := i.isLt
  change d.intcAfter m (0x100 + 4 * i.val) old v = _
  unfold Dev.intcAfter
  simp only [beq_iff_eq, Bool.and_eq_true, decide_eq_true_eq]
  rw [if_neg (by omega), if_neg (by omega), if_neg (by omega), if_neg (by omega), if_neg (by omega), if_pos (by omega)]

/-- The source that SRC_SEL selects, as a master's page shows it. -/
def Dev.selectedSource (d : Dev) (m : Nat) : Nat := d.srcKey m (d.rd .intc .INTC_SRC_SEL_SOURCE)

/-- A write of SRC_CFG that moves no route masks nothing. -/
theorem Dev.pageAfter_srcCfg_kept {d : Dev} (m cur : Nat) {old v : Word}
    (h : d.intcBanked = true ∨ Fld.INTC_SRC_CFG_TARGET.get v = Fld.INTC_SRC_CFG_TARGET.get old) :
    d.pageAfter m .intc 0x028 cur old v = d.wakeSettle := by
  have kept : (!(d.intcBanked) && decide (d.selectedSource m < 512) && Fld.INTC_SRC_CFG_TARGET.get v != Fld.INTC_SRC_CFG_TARGET.get old) = false := by
    rcases h with h | h <;> simp [h]
  exact congrArg Dev.wakeSettle (if_neg (Bool.eq_false_iff.1 kept))

/-- In TARGETED mode a write of SRC_CFG that moves the source's route is a mask write. -/
theorem Dev.pageAfter_srcCfg_moved {d : Dev} (m cur : Nat) {old v : Word} (hk : d.selectedSource m < 512) (hmode : d.intcBanked = false)
    (h : Fld.INTC_SRC_CFG_TARGET.get v ≠ Fld.INTC_SRC_CFG_TARGET.get old) :
    d.pageAfter m .intc 0x028 cur old v = (d.maskHit (d.selectedSource m)).wakeSettle := by
  have moved : (!(d.intcBanked) && decide (d.selectedSource m < 512) && Fld.INTC_SRC_CFG_TARGET.get v != Fld.INTC_SRC_CFG_TARGET.get old) = true := by
    simp [hmode, hk, h]
  exact congrArg Dev.wakeSettle (if_pos moved)

end Sys2Proof.Machine

namespace Sys2Proof.Proofs

open Sys2Proof.Machine

/-- Settles O25: both reads are claims by the master's target, of one event and of all. -/
theorem claimTakesTheSlot : Obligations.ClaimTakesTheSlot := by
  unfold Obligations.ClaimTakesTheSlot
  intro d q m fast hrun hperm t c
  obtain ⟨one, every⟩ := Dev.claimRead_live (m := m.val) fast hrun hperm
  refine ⟨d.claimed m.val c false, d.claimed m.val c true, State.live_eq q one, State.live_eq q every, fun hnone => ?empty, fun k hk => ?full,
    d.claimed_regs _ _ _, d.claimed_regs _ _ _⟩
  case empty =>
    obtain ⟨resp1, intc1⟩ := Dev.claimed_empty (m := m.val) false hnone
    obtain ⟨resp2, intc2⟩ := Dev.claimed_empty (m := m.val) true hnone
    exact ⟨resp1, resp2, intc1, intc2⟩
  case full =>
    obtain ⟨slot1, count1, serv1, resp1, other1⟩ := Dev.claimed_vals (m := m.val) false hk
    obtain ⟨slot2, count2, serv2, resp2, other2⟩ := Dev.claimed_vals (m := m.val) true hk
    exact ⟨slot1, slot2, count1, count2, serv1, serv2, resp1, resp2, fun j hj => ⟨other1 j hj, other2 j hj⟩,
      fun g _ hheard hroom => Dev.addEventRaw_count hheard hroom⟩

/-- Settles O56: each clause is the law of the operation that the command calls, under the clause's conditions. -/
theorem interruptCommandsComplete : Obligations.InterruptCommandsComplete := by
  unfold Obligations.InterruptCommandsComplete
  intro d q
  refine ⟨fun t fast k r hrun hfree hbest hto hpin => ?commit, fun fast k r hrun hfree hbest hto hpin => ?commitMessage,
    fun t fast k hrun hk => ?delivered, fun m k hrun hperm hk => ?claim, fun m k hrun hperm hk => ?claimFast, fun m k hrun hperm hk => ?claimAll,
    fun m k hrun hperm hk => ?claimAllFast, fun m s h hs hc => ?complete, fun m s h hs hc => ?completeFast, fun m s h hbad => ?bad,
    fun m s h hbad => ?badFast, fun m raise h => ?swi, fun m i v h => ?en, fun m v h hkept => ?srcCfg, fun m v h hk hmode hmoved => ?srcCfgMoved,
    fun m v h => ?cfg, fun m i v h => ?watch⟩
  case commit =>
    refine State.live_eq q ((Dev.live_runs hrun).trans ((Dev.intCommit_takes hfree hbest hto).trans (if_neg ?_)))
    rw [Bool.and_eq_true, beq_iff_eq, beq_iff_eq, not_and_or]
    exact hpin
  case commitMessage =>
    exact State.live_eq q ((Dev.live_runs hrun).trans ((Dev.intCommit_takes hfree hbest hto).trans (if_pos (by simpa using hpin))))
  case delivered => exact State.live_eq q ((Dev.live_runs hrun).trans (Dev.intDelivered_full hk))
  case claim => exact State.live_eq q ((Dev.claimRead_live false hrun hperm).1.trans (Dev.claimed_full false hk))
  case claimFast => exact State.live_eq q ((Dev.claimRead_live true hrun hperm).1.trans (Dev.claimed_full false hk))
  case claimAll => exact State.live_eq q ((Dev.claimRead_live false hrun hperm).2.trans (Dev.claimed_full true hk))
  case claimAllFast => exact State.live_eq q ((Dev.claimRead_live true hrun hperm).2.trans (Dev.claimed_full true hk))
  case complete =>
    exact State.live_eq q (Dev.mWrite_follows h (by decide) ((Dev.pageAfter_complete _ _ _ _ s).trans (Dev.complete_served hs hc)))
  case completeFast =>
    exact State.live_eq q (Dev.mWrite_follows h (by decide) ((Dev.pageAfter_completeFast _ _ _ _ s).trans (Dev.complete_served hs hc)))
  case bad => exact State.live_eq q (Dev.mWrite_follows h (by decide) ((Dev.pageAfter_complete _ _ _ _ s).trans (Dev.complete_bad hbad)))
  case badFast => exact State.live_eq q (Dev.mWrite_follows h (by decide) ((Dev.pageAfter_completeFast _ _ _ _ s).trans (Dev.complete_bad hbad)))
  case swi => exact State.live_eq q (Dev.mWrite_follows h (by decide) (Dev.pageAfter_swi _ _ _ _ _))
  case en => exact State.live_eq q (Dev.mWrite_follows h (by omega) (Dev.pageAfter_intcEn _ _ _ i _ v))
  case srcCfg => exact State.live_eq q (Dev.mWrite_follows h (by decide) (Dev.pageAfter_srcCfg_kept _ _ hkept))
  case srcCfgMoved => exact State.live_eq q (Dev.mWrite_follows h (by decide) (Dev.pageAfter_srcCfg_moved _ _ hk hmode hmoved))
  case cfg => exact State.live_eq q (Dev.mWrite_follows h (by decide) (Dev.pageAfter_intcCfg _ _ _ _ v))
  case watch => exact State.live_eq q (Dev.mWrite_follows h (by omega) (Dev.pageAfter_watch _ _ _ i _ v))

end Sys2Proof.Proofs
end

section
/-! PROOF. A slot that takes a source out of turn, where the table of sources is not in canonical form (R386): `Dev.Wf` does not speak of the
interrupt controller's tables. -/

namespace Sys2Proof.Machine

/-- A block of canonical tables, by `Dev.Wf`, whose interrupt controller holds sources 5 and 3 out of order, each with one event of equal priority, and
both enabled for HOST. -/
def unsortedSources : Dev :=
  { intc := { srcs := [(5, { count := 1 }), (3, { count := 1 })] }, regs := [(regKey .intc 2 0x040, 0x28)] }

theorem unsortedSources_wf : unsortedSources.Wf := by constructor <;> rfl

theorem unsortedSources_deliverable : unsortedSources.deliverable 4 0 = [5, 3] := rfl

theorem unsortedSources_slot : (unsortedSources.intCommit 4 0).slotOf 4 0 = some 5 := rfl

end Sys2Proof.Machine

namespace Sys2Proof.Proofs

open Sys2Proof.Machine

/-- Refutes O24: the statement assumes `Dev.Wf` alone, which leaves the table of sources in any order; of the sources 5 and 3 of equal priority, listed
in that order, HOST's free slot takes 5, and 3 is the lower number. -/
theorem not_slotTakesHighestPriority : ¬ Obligations.SlotTakesHighestPriority := by
  unfold Obligations.SlotTakesHighestPriority
  intro h
  obtain ⟨e, runs, -, takes, -⟩ := h unsortedSources [] 4 false unsortedSources_wf rfl rfl
  have committed : exec (.interruptCommit 4 false) ⟨unsortedSources, []⟩ = .next ⟨unsortedSources.intCommit 4 0, []⟩ :=
    State.live_eq [] (Dev.live_runs rfl)
  obtain rfl : unsortedSources.intCommit 4 0 = e := by
    rw [committed] at runs
    injection runs with same
    exact congrArg State.dev same
  obtain ⟨k, slot, -, -, best⟩ := takes (unsortedSources_deliverable.trans_ne (List.cons_ne_nil 5 [3]))
  obtain rfl : 5 = k := Option.some.inj (unsortedSources_slot.symm.trans slot)
  have equal : unsortedSources.srcPrio 3 = unsortedSources.srcPrio 5 := rfl
  have three := best 3 (unsortedSources_deliverable ▸ List.mem_cons_of_mem 5 (List.mem_singleton_self 3))
  rw [equal] at three
  omega

end Sys2Proof.Proofs
end

section
/-! PROOF. Performance counters and bandwidth windows (R399 to R407): FREEZE, the reads that latch, and the block after each command. That one command
stands for the many ticks until a LEVEL counter wraps is the model's choice (log 55), as are the 4-byte and 8-byte reads of BAR2 (log 36). -/

namespace Sys2Proof.Machine

/-! ### FREEZE (R402) -/

section
variable {d : Dev} (hf : d.on .pmc .PMC_CTL_FREEZE = true)
include hf

theorem Dev.pmcOn_frozen (n : Nat) : d.pmcOn n = false := by simp [Dev.pmcOn, hf]

theorem Dev.pmcEdge_frozen (p : Page) (b : Nat) : d.pmcEdge p b = [] := by simp [Dev.pmcEdge, Dev.pmcOn_frozen hf]

theorem Dev.levelsOn_frozen : d.levelsOn = [] := by simp [Dev.levelsOn, Dev.pmcLevels, Dev.pmcOn_frozen hf]

theorem Dev.pmcOccur_frozen (p : Page) (b : Nat) : d.pmcOccur p b = d := by rw [Dev.pmcOccur, Dev.pmcEdge_frozen hf]; rfl

end

theorem Dev.wakeFor_pmc (d : Dev) (k : Nat) : (d.wakeFor k).pmc = d.pmc := by
  unfold Dev.wakeFor
  split
  · split <;> rfl
  · rfl

theorem Dev.addEventRaw_pmc (d : Dev) (s : Nat) : (d.addEventRaw s).pmc = d.pmc := by
  unfold Dev.addEventRaw
  split
  · rfl
  · split
    · exact Dev.wakeFor_pmc _ s
    · rfl

/-- An event of a source leaves FREEZE as it is. -/
theorem Dev.addEventRaw_freeze (d : Dev) (s : Nat) : (d.addEventRaw s).on .pmc .PMC_CTL_FREEZE = d.on .pmc .PMC_CTL_FREEZE :=
  (Dev.addEventRaw_keeps (ks := [regKey .pwr 0 0x02C]) d s (List.mem_singleton_self _)).on _ _ (by decide)

/-- With FREEZE 1 an event of a source counts nothing, lost or not. -/
theorem Dev.addEvent_frozen {d : Dev} (hf : d.on .pmc .PMC_CTL_FREEZE = true) (s : Nat) : (d.addEvent s).pmc = d.pmc := by
  have frozen : (d.addEventRaw s).pmcOccur .intc 9 = d.addEventRaw s := Dev.pmcOccur_frozen ((d.addEventRaw_freeze s).trans hf) .intc 9
  unfold Dev.addEvent
  split
  · exact d.addEventRaw_pmc s
  · rw [frozen]
    dsimp only
    split
    · exact (Dev.addEventRaw_pmc _ _).trans (d.addEventRaw_pmc s)
    · exact d.addEventRaw_pmc s

/-- With FREEZE 1 a change of a page's level counts nothing. -/
theorem Dev.levelled_frozen {e : Dev} (hf : e.on .pmc .PMC_CTL_FREEZE = true) (d : Dev) (p : Page) : (d.levelled e p).pmc = e.pmc := by
  unfold Dev.levelled
  split
  · split
    · exact Dev.addEvent_frozen hf _
    · rfl
  · rfl

/-- With FREEZE 1 an event counts nothing. -/
theorem Dev.setEvt_frozen {d : Dev} (hf : d.on .pmc .PMC_CTL_FREEZE = true) (p : Page) (b : Nat) : (d.setEvt p b).pmc = d.pmc := by
  have keeps : (d.evtBit p b).on .pmc .PMC_CTL_FREEZE = true :=
    ((Dev.setReg_keeps (ks := [regKey p 0 0x010]) d _ (List.mem_singleton_self _)).on _ _
      (fun hk => regKey_ne .pmc p (a := 0x020) (b := 0x010) (by decide) (List.mem_singleton.1 hk))).trans hf
  rw [Dev.setEvt, Dev.pmcOccur_frozen hf]
  exact Dev.levelled_frozen keeps d p

/-- With FREEZE 1 a tick counts nothing. -/
theorem Dev.tick_frozen {d : Dev} (hf : d.on .pmc .PMC_CTL_FREEZE = true) : d.tick.pmc = d.pmc := by
  cases hrun : d.stopped with
  | true => rw [Dev.tick_stopped hrun]
  | false =>
    rw [Dev.tick_runs hrun, Dev.levelsOn_frozen hf]
    rfl

/-! ### Reads that latch (R403, R406) -/

/-- What an access counts of the bandwidth of its port is no counter and no snapshot. -/
theorem Dev.passed_pmc (d : Dev) (m : Nat) :
    (d.passed m).pmc.cnt = d.pmc.cnt ∧ (d.passed m).pmc.snap = d.pmc.snap ∧ (d.passed m).pmc.snapSeq = d.pmc.snapSeq := by
  unfold Dev.passed Dev.bwAdd
  split <;> exact ⟨rfl, rfl, rfl⟩

theorem Dev.passed_pmcCount (d : Dev) (m n : Nat) : (d.passed m).pmcCount n = d.pmcCount n :=
  congrArg (fun c => Map.get (fun _ => 0) c n) (d.passed_pmc m).1

theorem Dev.passed_pmcSnap (d : Dev) (m p : Nat) : (d.passed m).pmcSnap p = d.pmcSnap p :=
  congrArg (fun c => Map.get (fun _ => 0) c p) (d.passed_pmc m).2.1

/-- CNT_LO[n] shows the low word of its counter. -/
theorem Dev.pageView_cntLo (d : Dev) (m : Nat) (n : Fin 64) : d.pageView m .pmc (0x104 + 12 * n.val) = BitVec.ofNat 32 (d.pmcCount n.val) := by
  have hn := n.isLt
  have register : ∀ k : Fin 64, (regAt .pmc (0x104 + 12 * k.val)).isSome = true := by decide
  obtain ⟨r, hr⟩ := Option.isSome_iff_exists.1 (register n)
  have index : (0x104 + 12 * n.val - 0x100) / 12 = n.val := by omega
  unfold Dev.pageView
  rw [if_neg (by simp; omega), hr]
  simp only [Dev.ownView]
  rw [if_neg (by simp; omega), if_pos (by simp; omega), index]

/-- A read of CNT_LO[n] latches the rest of its counter for the master. -/
theorem Dev.readAfter_cntLo (d : Dev) (m : Nat) (n : Fin 64) : d.readAfter m .pmc (0x104 + 12 * n.val) = d.cntLatch m n.val := by
  have hn := n.isLt
  have index : (0x104 + 12 * n.val - 0x100) / 12 = n.val := by omega
  simp only [Dev.readAfter]
  rw [if_neg (by simp; omega), if_pos (by simp; omega), index]

/-- CNT_HI[n] shows what the master's latch holds. -/
theorem Dev.pageView_cntHi (d : Dev) (m : Nat) (n : Fin 64) : d.pageView m .pmc (0x108 + 12 * n.val) = d.reg (regKey .pmc m (0x108 + 12 * n.val)) := by
  have hn := n.isLt
  have register : ∀ k : Fin 64, (regAt .pmc (0x108 + 12 * k.val)).isSome = true := by decide
  obtain ⟨r, hr⟩ := Option.isSome_iff_exists.1 (register n)
  have bank : d.bankOf m .pmc (0x108 + 12 * n.val) = m := if_pos (by simp; omega)
  unfold Dev.pageView
  rw [if_neg (by simp; omega), hr]
  simp only [Dev.ownView]
  rw [if_neg (by simp; omega), if_neg (by simp; omega), Dev.pageKey, bank]

/-- The block after a read of CNT_LO[n] by master `m`. -/
def Dev.cntRead (d : Dev) (m n : Nat) : Dev := ((d.passed m).cntLatch m n).respond m ⟨.okay, [BitVec.ofNat 32 (d.pmcCount n)]⟩

theorem Dev.mRead_cntLo {d : Dev} {m : Nat} (n : Fin 64) (h : d.stopped = false) (hperm : d.permits m 6 false = true) :
    d.live (fun d => d.mRead m .pmc (0x104 + 12 * n.val)) = d.cntRead m n.val := by
  rw [Dev.mRead_okay h hperm rfl, Dev.readAfter_cntLo, Dev.pageView_cntLo, Dev.passed_pmcCount, Dev.cntRead]

theorem Dev.nth_cntHi_off (n : Nat) : (Fld.nth .PMC_CNT_HI_COUNT_HI n).off = 0x108 + 12 * n := congrArg (0x108 + ·) (Nat.mul_comm n 12)

theorem Dev.cntRead_keeps (d : Dev) (m n : Nat) : d.Keeps [regKey .pmc m (0x108 + 12 * n)] (d.cntRead m n) := by
  refine ((d.passed_keeps _ m).trans (Dev.setReg_keeps _ _ ?_)).trans (Dev.respond_keeps _ _ _ _)
  rw [Dev.nth_cntHi_off]
  exact List.mem_singleton_self _

/-- The read changes no counter. -/
theorem Dev.cntRead_cnt (d : Dev) (m n : Nat) : (d.cntRead m n).pmc.cnt = d.pmc.cnt := by
  rw [Dev.cntRead, Dev.respond_pmc, Dev.cntLatch, Dev.wrB, Dev.setReg_pmc, (d.passed_pmc m).1]

/-- CNT_HI's field is the low half of its register. -/
theorem get_cntHi (n : Nat) (w : Word) : (Fld.nth .PMC_CNT_HI_COUNT_HI n).get w = w.toNat % 2 ^ 16 := by
  simp [Fld.get, Fld.nth, Fld.PMC_CNT_HI_COUNT_HI, fRO]

/-- The latch holds bits 47 to 32 of the counter. -/
theorem Dev.cntRead_latch {d : Dev} {m n : Nat} (h : d.pmcCount n < 2 ^ 48) :
    ((d.cntRead m n).reg (regKey .pmc m (0x108 + 12 * n))).toNat % 2 ^ 16 = d.pmcCount n / 2 ^ 32 := by
  have small : d.pmcCount n / 2 ^ 32 % 2 ^ 16 = d.pmcCount n / 2 ^ 32 := Nat.mod_eq_of_lt (by omega)
  have written : (Fld.nth .PMC_CNT_HI_COUNT_HI n).lo + (Fld.nth .PMC_CNT_HI_COUNT_HI n).w ≤ 32 :=
    (by decide : 0 + 16 ≤ 32)
  rw [Dev.cntRead, (Dev.respond_keeps [] _ _ _).regs _ List.not_mem_nil, Dev.cntLatch, Dev.wrB, Dev.nth_cntHi_off, Dev.setReg_same, ← get_cntHi n,
    Fld.get_put _ _ _ written, d.passed_pmcCount]
  exact small

/-- A read of BW_SNAP_LO returns the selected snapshot's low word and latches the rest with the window's number (R406). -/
theorem Dev.mRead_bwSnapLo {d : Dev} {m : Nat} (h : d.stopped = false) (hperm : d.permits m 6 false = true) :
    d.live (fun d => d.mRead m .pmc 0x03C) =
      ((((d.passed m).wrB .pmc m .PMC_BW_SNAP_HI_BYTES_HI (d.pmcSnap (d.rd .pmc .PMC_BW_SEL_PORT) / 2 ^ 32)).wrB .pmc m .PMC_BW_SNAP_HI_SEQ
        (d.pmc.snapSeq % 65536)).respond m ⟨.okay, [BitVec.ofNat 32 (d.pmcSnap (d.rd .pmc .PMC_BW_SEL_PORT))]⟩) := by
  have port : (d.passed m).rd .pmc .PMC_BW_SEL_PORT = d.rd .pmc .PMC_BW_SEL_PORT := (d.passed_keeps [] m).rd _ _ List.not_mem_nil
  have shown : (d.passed m).pageView m .pmc 0x03C = BitVec.ofNat 32 ((d.passed m).pmcSnap ((d.passed m).rd .pmc .PMC_BW_SEL_PORT)) := rfl
  have latched : (d.passed m).readAfter m .pmc 0x03C = (d.passed m).snapLatch m := rfl
  rw [Dev.mRead_okay h hperm rfl, shown, latched, Dev.snapLatch, port, d.passed_pmcSnap, (d.passed_pmc m).2.2]

/-! ### Register writes -/

section
variable (d : Dev) (m cur : Nat) (n : Fin 64) (old : Word) {v : Word}

theorem Dev.pageAfter_pmcCfg :
    d.pageAfter m .pmc (0x100 + 12 * n.val) cur old v = if Fld.PMC_CFG_CLR.get v = 1 then d.pmcClr n.val else d := by
  have hn := n.isLt
  have index : (0x100 + 12 * n.val - 0x100) / 12 = n.val := by omega
  change d.pmcAfter (0x100 + 12 * n.val) v = _
  unfold Dev.pmcAfter
  rw [if_neg (by simp; omega), if_neg (by simp; omega), if_pos (by simp; omega), index]
  simp only [beq_iff_eq]

theorem Dev.pageAfter_pmcCfg_kept (h : Fld.PMC_CFG_CLR.get v = 0) : d.pageAfter m .pmc (0x100 + 12 * n.val) cur old v = d :=
  (d.pageAfter_pmcCfg m cur n old).trans (if_neg (by simp [h]))

theorem Dev.pageAfter_pmcCfg_clr (h : Fld.PMC_CFG_CLR.get v = 1) : d.pageAfter m .pmc (0x100 + 12 * n.val) cur old v = d.pmcClr n.val :=
  (d.pageAfter_pmcCfg m cur n old).trans (if_pos h)

theorem Dev.pageAfter_pmcCtl_kept (h : Fld.PMC_CTL_CLR_ALL.get v = 0) : d.pageAfter m .pmc 0x020 cur old v = d := if_neg (by simp [h])

theorem Dev.pageAfter_pmcCtl_clr (h : Fld.PMC_CTL_CLR_ALL.get v = 1) : d.pageAfter m .pmc 0x020 cur old v = d.pmcClrAll := if_pos (by simp [h])

theorem Dev.pageAfter_bwWin : d.pageAfter m .pmc 0x030 cur old v = { d with pmc := { d.pmc with bytes := [] } } := rfl

end

/-- A one-bit field that a written word carries as 1 is written 1. -/
theorem Fld.get_or_bit {f : Fld} (hw : f.w = 1) (w x : Word) (hx : x.getLsbD f.lo = true) : f.get (w ||| x) = 1 := by
  have bit : (f.get (w ||| x)).testBit 0 = true := by
    rw [Fld.get_testBit, hw, Nat.add_zero, BitVec.getLsbD_or, hx, Bool.or_true]
    rfl
  have small := f.get_lt (w ||| x)
  rw [hw] at small
  rw [Nat.testBit_zero, decide_eq_true_eq] at bit
  omega

/-! ### Window ends, and the user page (R405, R407) -/

theorem Dev.bwWindowEnd_enabled {d : Dev} (h : d.enabled .pmc = true) :
    d.bwWindowEnd =
      (({ d with pmc := { d.pmc with snap := d.pmc.bytes, snapSeq := (d.rd .pmc .PMC_BW_SEQ_SEQ + 1) % 2 ^ 32, bytes := [] } } : Dev).wr .pmc
        .PMC_BW_SEQ_SEQ ((d.rd .pmc .PMC_BW_SEQ_SEQ + 1) % 2 ^ 32)).setEvt .pmc 9 := by
  rw [Dev.bwWindowEnd, h]
  rfl

/-- The endpoint that takes requests and waits for none makes the request. -/
theorem Dev.pcieRequest_user {d : Dev} (who off : Nat) (wide : Bool) (hon : d.pciOn = true) (hw : d.host.pciWait = false) :
    d.pcieRequest (.userRead who off wide) = d.bar2Read who (off % 4096) wide := by
  unfold Dev.pcieRequest
  rw [hon, hw]
  rfl

section
variable {d : Dev} (who : Nat) {off : Nat}

theorem Dev.bar2Read_closed (wide : Bool) (h : d.on .pmc .PMC_CTL_USER_READ = false) :
    d.bar2Read who off wide = { d with host := { d.host with cplStatus := .success, cplData := if wide then [0, 0] else [0] } } := by
  rw [Dev.bar2Read, h]
  rfl

variable (h : d.on .pmc .PMC_CTL_USER_READ = true) {lo : Word} {hi : Nat}
include h

/-- A 4-byte read of a low word latches the rest for the requester. -/
theorem Dev.bar2Read_latches (hx : d.bar2Word who (off / 4 * 4) = (lo, some hi)) :
    d.bar2Read who off false =
      { d with pmc := { d.pmc with bar2Latch := Map.put (fun _ => 0) d.pmc.bar2Latch who hi }, host := { d.host with cplStatus := .success, cplData := [lo] } } := by
  unfold Dev.bar2Read
  rw [h, hx]
  rfl

theorem Dev.bar2Read_word (hx : d.bar2Word who (off / 4 * 4) = (lo, none)) :
    d.bar2Read who off false = { d with host := { d.host with cplStatus := .success, cplData := [lo] } } := by
  unfold Dev.bar2Read
  rw [h, hx]
  rfl

/-- An 8-byte read returns both halves at once. -/
theorem Dev.bar2Read_wide (hx : d.bar2Word who (off / 8 * 8) = (lo, some hi)) :
    d.bar2Read who off true = { d with host := { d.host with cplStatus := .success, cplData := [lo, BitVec.ofNat 32 hi] } } := by
  unfold Dev.bar2Read
  rw [h, hx]
  rfl

theorem Dev.bar2Read_wideWords (hx : d.bar2Word who (off / 8 * 8) = (lo, none)) :
    d.bar2Read who off true = { d with host := { d.host with cplStatus := .success, cplData := [lo, (d.bar2Word who (off / 8 * 8 + 4)).1] } } := by
  unfold Dev.bar2Read
  rw [h, hx]
  rfl

end

end Sys2Proof.Machine

namespace Sys2Proof.Proofs

open Sys2Proof.Machine

/-- Settles O18: the read answers the low word, and the latch of the master holds the rest. -/
theorem counterReadLatches : Obligations.CounterReadLatches := by
  unfold Obligations.CounterReadLatches
  intro d q m n hrun hperm hlt
  have latch := Dev.cntRead_latch (m := m.val) hlt
  have runs : exec (.cntLoRead m n) ⟨d, q⟩ = .next ⟨d.cntRead m.val n.val, q⟩ := State.live_eq q (Dev.mRead_cntLo n hrun hperm)
  have high : (d.cntRead m.val n.val).rdB .pmc m.val (Fld.nth .PMC_CNT_HI_COUNT_HI n.val) = d.pmcCount n.val / 2 ^ 32 := by
    rw [Dev.rdB, get_cntHi, Dev.nth_cntHi_off, latch]
  have shown : ((d.cntRead m.val n.val).pageView m.val .pmc (0x108 + 12 * n.val)).toNat % 2 ^ 16 = d.pmcCount n.val / 2 ^ 32 := by
    rw [Dev.pageView_cntHi, latch]
  exact ⟨d.cntRead m.val n.val, runs, Dev.respOf_respond _ _ _, high, shown, d.cntRead_keeps _ _, d.cntRead_cnt _ _⟩

/-- Settles O26: FREEZE keeps every event and every LEVEL counter from counting. -/
theorem freezeStopsCounters : Obligations.FreezeStopsCounters := by
  unfold Obligations.FreezeStopsCounters
  intro d p b n hf
  have counts : ∀ {e : Dev}, e.pmc = d.pmc → e.pmcCount n = d.pmcCount n := fun h =>
    congrArg (fun x : PmcS => Map.get (fun _ => 0) x.cnt n) h
  exact ⟨counts (Dev.setEvt_frozen hf p b), d.tick, step_idle d, counts (Dev.tick_frozen hf)⟩

/-- Settles O57: each clause is the law of the operation that the command calls, under the clause's conditions. -/
theorem counterCommandsComplete : Obligations.CounterCommandsComplete := by
  unfold Obligations.CounterCommandsComplete
  intro d q
  refine ⟨fun m n v h hv => ?cfg, fun m n v h hv => ?cfgClr, fun m n rest h => ?clr, fun m rest h => ?clrAll, fun m v h hv => ?freeze,
    fun m v h hv => ?freezeClr, fun m n hrun hperm => ?cntLo, fun hrun hen => ?windowEnd, fun m v h => ?bwWin, fun m hrun hperm => ?snapLo,
    fun who off wide hrun hon hw hu => ?closed, fun who off lo hi hrun hon hw hu hx => ?latches, fun who off lo hrun hon hw hu hx => ?word,
    fun who off lo hi hrun hon hw hu hx => ?wide, fun who off lo hrun hon hw hu hx => ?wideWords, fun n hrun hl => ?wrap⟩
  case cfg => exact State.live_eq q (Dev.mWrite_follows h (by omega) (Dev.pageAfter_pmcCfg_kept _ _ _ n _ hv))
  case cfgClr => exact State.live_eq q (Dev.mWrite_follows h (by omega) (Dev.pageAfter_pmcCfg_clr _ _ _ n _ hv))
  case clr =>
    exact State.live_eq q (Dev.mWrite_follows h (by omega) (Dev.pageAfter_pmcCfg_clr _ _ _ n _ (Fld.get_or_bit rfl rest _ (by decide))))
  case clrAll =>
    exact State.live_eq q (Dev.mWrite_follows h (by decide) (Dev.pageAfter_pmcCtl_clr _ _ _ _ (Fld.get_or_bit rfl rest _ (by decide))))
  case freeze => exact State.live_eq q (Dev.mWrite_follows h (by decide) (Dev.pageAfter_pmcCtl_kept _ _ _ _ hv))
  case freezeClr => exact State.live_eq q (Dev.mWrite_follows h (by decide) (Dev.pageAfter_pmcCtl_clr _ _ _ _ hv))
  case cntLo =>
    refine State.live_eq q ((Dev.mRead_cntLo n hrun hperm).trans ?_)
    rw [Dev.cntRead, Dev.cntLatch, d.passed_pmcCount]
  case windowEnd => exact State.live_eq q ((Dev.live_runs hrun).trans (Dev.bwWindowEnd_enabled hen))
  case bwWin => exact State.live_eq q (Dev.mWrite_follows h (by decide) (Dev.pageAfter_bwWin _ _ _ _))
  case snapLo => exact State.live_eq q (Dev.mRead_bwSnapLo hrun hperm)
  case wrap => exact State.live_eq q ((Dev.live_runs hrun).trans (if_pos hl))
  all_goals refine State.live_eq q ((Dev.live_runs hrun).trans ((Dev.pcieRequest_user who off _ hon hw).trans ?_))
  case closed => exact Dev.bar2Read_closed who wide hu
  case latches => exact Dev.bar2Read_latches who hu hx
  case word => exact Dev.bar2Read_word who hu hx
  case wide => exact Dev.bar2Read_wide who hu hx
  case wideWords => exact Dev.bar2Read_wideWords who hu hx

end Sys2Proof.Proofs
end

section
/-! PROOF. Packet queues (R368 to R383): what a read of RD_LO takes, and the block after each command. That a read of a disabled queue returns at once
in SERVICE mode too is the model's choice (log 100). -/

namespace Sys2Proof.Machine

/-! ### Queues -/

@[simp] theorem Dev.queue_setQueue_same (d : Dev) (k : Nat) (v : QueueI) : (d.setQueue k v).queue k = v := Map.get_put_same _ _ _ _

theorem Dev.queue_setQueue_other (d : Dev) {j k : Nat} (v : QueueI) (h : j ≠ k) : (d.setQueue k v).queue j = d.queue j :=
  Map.get_put_other _ _ _ h

theorem Dev.Keeps.queue {ks : List Nat} {d e : Dev} (h : d.Keeps ks e) (k : Nat) : e.queue k = d.queue k := by
  have queues : e.queues = d.queues := (congrArg Dev.queues h.rest :)
  rw [Dev.queue, queues]
  rfl

/-! ### Taking a word (R373, R375) -/

/-- Bits 63 to 32 of the read word at a read point (Table 17.1). -/
def readTags (x : QueueI) (p : QPkt) (bad : Bool) : Nat :=
  1 + (if bad then 2 else 0) + (if x.rdw == 0 then 4 else 0) + (if x.rdw + 1 == p.words.length then 8 + 16 * p.bytes else 0) +
    (if x.lostTag then 128 else 0) + (if x.rdw == 0 then 65536 * p.words.length else 0)

/-- The block after the word at the read point of queue `k` is taken, before the read point leaves the packet. -/
def Dev.wordTaken (d : Dev) (k : Nat) (bad : Bool) : Dev :=
  let d := d.setQueue k { d.queue k with rdw := (d.queue k).rdw + 1, lostTag := false, passed := 0 }
  if bad then (d.inc .qmg .QMG_PAR_CNT_COUNT).setEvt .qmg 9 else d

theorem Dev.takeWord_some {d : Dev} {k : Nat} {p : QPkt} {w : Word} {bad : Bool} (h : d.readPoint k = some (p, (w, bad))) :
    d.takeWord k =
      (if (d.queue k).rdw + 1 == p.words.length then (d.wordTaken k bad).leavePkt k else d.wordTaken k bad,
        some (w, BitVec.ofNat 32 (readTags (d.queue k) p bad))) := by
  rw [Dev.takeWord, h]
  rfl

theorem Dev.takeWord_none {d : Dev} {k : Nat} (h : d.readPoint k = none) : d.takeWord k = (d, none) := by
  rw [Dev.takeWord, h]

/-- The tags below SOP are less than 4, and those above EOP multiples of 16. -/
theorem readTags_eq (x : QueueI) (p : QPkt) (bad : Bool) :
    ∃ low high, low < 4 ∧
      readTags x p bad = low + (if x.rdw = 0 then 4 else 0) + (if x.rdw + 1 = p.words.length then 8 else 0) + 16 * high := by
  refine ⟨1 + (if bad then 2 else 0), (if x.rdw + 1 = p.words.length then p.bytes else 0) + (if x.lostTag then 8 else 0) +
    (if x.rdw = 0 then 4096 * p.words.length else 0), by split <;> decide, ?_⟩
  simp only [readTags, beq_iff_eq]
  split_ifs <;> omega

/-- SOP and EOP stand in bits 2 and 3 (Table 17.1). -/
theorem readTags_bits (x : QueueI) (p : QPkt) (bad : Bool) :
    (BitVec.ofNat 32 (readTags x p bad)).getLsbD 2 = decide (x.rdw = 0) ∧
      (BitVec.ofNat 32 (readTags x p bad)).getLsbD 3 = decide (x.rdw + 1 = p.words.length) := by
  obtain ⟨low, high, small, tags⟩ := readTags_eq x p bad
  simp only [BitVec.getLsbD_ofNat, Nat.testBit_eq_decide_div_mod_eq, Nat.reduceLT, decide_true, Bool.true_and, decide_eq_decide, tags]
  split_ifs <;> omega

/-- The registers that a word taken may change: the parity count, and what its event changes. -/
def takeKeys : List Nat := regKey .qmg 0 0x028 :: eventKeys .qmg

/-- A register of a queue or of a master's port is none of those. -/
theorem not_mem_takeKeys (bank : Nat) {a : Nat} (h : a % 4096 ≠ 0x010 ∧ a % 4096 ≠ 0x024 ∧ a % 4096 ≠ 0x028 ∧ a % 4096 ≠ 0x02C) :
    regKey .qmg bank a ∉ takeKeys := by
  simp only [takeKeys, eventKeys, List.mem_cons, List.not_mem_nil, or_false, regKey, Page.base]
  omega

/-- Beside its queue, a word taken changes those registers and what their event changes. -/
theorem Dev.wordTaken_keeps (d : Dev) (k : Nat) (bad : Bool) :
    (d.setQueue k { d.queue k with rdw := (d.queue k).rdw + 1, lostTag := false, passed := 0 }).Keeps takeKeys (d.wordTaken k bad) := by
  unfold Dev.wordTaken
  cases bad with
  | false => exact Dev.Keeps.refl _ _
  | true =>
    exact (Dev.inc_keeps _ .qmg .QMG_PAR_CNT_COUNT List.mem_cons_self).trans
      ((Dev.setEvt_keeps _ .qmg 9).mono fun _ h => List.mem_cons_of_mem _ h)

section
variable (d : Dev) (k : Nat) (bad : Bool)

theorem Dev.wordTaken_queue_same :
    (d.wordTaken k bad).queue k = { d.queue k with rdw := (d.queue k).rdw + 1, lostTag := false, passed := 0 } :=
  ((d.wordTaken_keeps k bad).queue k).trans (d.queue_setQueue_same k _)

theorem Dev.wordTaken_queue_other {j : Nat} (h : j ≠ k) : (d.wordTaken k bad).queue j = d.queue j :=
  ((d.wordTaken_keeps k bad).queue j).trans (d.queue_setQueue_other _ h)

theorem Dev.wordTaken_reg (bank : Nat) {a : Nat} (h : a % 4096 ≠ 0x010 ∧ a % 4096 ≠ 0x024 ∧ a % 4096 ≠ 0x028 ∧ a % 4096 ≠ 0x02C) :
    (d.wordTaken k bad).reg (regKey .qmg bank a) = d.reg (regKey .qmg bank a) :=
  (d.wordTaken_keeps k bad).regs _ (not_mem_takeKeys bank h)

end

/-! ### Leaving a packet (R373, R378) -/

/-- Leaving a packet changes its queue and nothing else. -/
theorem Dev.leavePkt_sets (d : Dev) (k : Nat) : ∃ v, d.leavePkt k = d.setQueue k v := by
  unfold Dev.leavePkt
  dsimp only
  split
  · exact ⟨_, rfl⟩
  · exact ⟨_, rfl⟩

theorem Dev.leavePkt_queue_other (d : Dev) {j k : Nat} (h : j ≠ k) : (d.leavePkt k).queue j = d.queue j := by
  obtain ⟨v, sets⟩ := d.leavePkt_sets k
  rw [sets, d.queue_setQueue_other v h]

theorem Dev.leavePkt_leaves (d : Dev) (k : Nat) :
    (∀ i, (d.leavePkt k).reg i = d.reg i) ∧ (d.leavePkt k).sram = d.sram ∧ (d.leavePkt k).mem = d.mem := by
  obtain ⟨v, sets⟩ := d.leavePkt_sets k
  rw [sets]
  exact ⟨fun _ => rfl, rfl, rfl⟩

/-- A normal queue without a mark frees the packet that the read point leaves. -/
theorem Dev.leavePkt_frees {d : Dev} {k : Nat} (hring : d.isRing k = false) (hmark : (d.queue k).mark = none) :
    ((d.leavePkt k).queue k).pkts = (d.queue k).pkts.eraseIdx (d.queue k).rd := by
  unfold Dev.leavePkt
  dsimp only
  rw [hring, hmark, if_neg (by decide), Dev.queue_setQueue_same]

/-! ### Reads of RD_LO (R373, R374) -/

theorem Dev.mRead_rdLo {d : Dev} {m : Nat} (hrun : d.stopped = false) (hperm : d.permits m 6 false = true) :
    d.live (fun d => d.mRead m .qmg 0x054) = (d.passed m).readLo m := by
  rw [Dev.live_runs hrun, Dev.mRead, hperm]
  rfl

section
variable {d : Dev} {m : Nat}

theorem Dev.readLo_takes {f : Dev} {lo hi : Word} (h : d.takeWord (d.rdB .qmg m .QMG_RD_SEL_QUEUE) = (f, some (lo, hi))) :
    d.readLo m = f.readDone m lo hi := by
  rw [Dev.readLo, h]

variable (h : d.readPoint (d.rdB .qmg m .QMG_RD_SEL_QUEUE) = none)
include h

/-- With no word to read, the read answers 0 at once unless SERVICE holds an enabled queue's read. -/
theorem Dev.readLo_empty
    (hs : d.rd .qmg .QMG_CFG_MODE ≠ 1 ∨ d.qf (d.rdB .qmg m .QMG_RD_SEL_QUEUE) .QMG_Q_CFG_ENABLE ≠ 1) : d.readLo m = d.readDone m 0 0 := by
  rw [Dev.readLo, Dev.takeWord_none h]
  refine if_neg ?_
  rw [Bool.and_eq_true, beq_iff_eq, beq_iff_eq, not_and_or]
  exact hs

/-- In SERVICE the read of an enabled queue waits for a word. -/
theorem Dev.readLo_stalls (hmode : d.rd .qmg .QMG_CFG_MODE = 1) (hen : d.qf (d.rdB .qmg m .QMG_RD_SEL_QUEUE) .QMG_Q_CFG_ENABLE = 1) :
    d.readLo m = { d with stalls := Map.put (fun _ => 0) d.stalls m (d.rdB .qmg m .QMG_RD_SEL_QUEUE + 1) } := by
  rw [Dev.readLo, Dev.takeWord_none h]
  exact if_pos (by simp [hmode, hen])

end

/-- The answer to a read changes the master's data and tags, and nothing else. -/
theorem Dev.readDone_keeps (d : Dev) (m : Nat) (lo hi : Word) : d.Keeps [regKey .qmg m 0x054, regKey .qmg m 0x058] (d.readDone m lo hi) :=
  ((Dev.setReg_keeps d lo List.mem_cons_self).trans (Dev.setReg_keeps _ hi (List.mem_cons_of_mem _ List.mem_cons_self))).trans
    (Dev.respond_keeps _ _ _ _)

/-- RD_HI of another master is not what a read's answer writes. -/
theorem Dev.readDone_reg_other (d : Dev) {i m : Nat} (lo hi : Word) (h : i ≠ m) :
    (d.readDone m lo hi).reg (regKey .qmg i 0x058) = d.reg (regKey .qmg i 0x058) := by
  refine (d.readDone_keeps m lo hi).regs _ ?_
  simp only [List.mem_cons, List.not_mem_nil, or_false, regKey, Page.base]
  omega

theorem Dev.readDone_reg_same (d : Dev) (m : Nat) (lo hi : Word) : (d.readDone m lo hi).reg (regKey .qmg m 0x058) = hi := by
  rw [Dev.readDone, (Dev.respond_keeps [] _ _ _).regs _ List.not_mem_nil, Dev.setReg_same]

theorem Dev.passed_queue (d : Dev) (m k : Nat) : (d.passed m).queue k = d.queue k := (d.passed_keeps [] m).queue k

theorem Dev.passed_readPoint (d : Dev) (m k : Nat) : (d.passed m).readPoint k = d.readPoint k := by
  unfold Dev.readPoint
  rw [Dev.passed_queue]

theorem Dev.passed_rdB (d : Dev) (m : Nat) (p : Page) (bank : Nat) (f : Fld) : (d.passed m).rdB p bank f = d.rdB p bank f := by
  rw [Dev.rdB, Dev.passed_reg, Dev.rdB]

end Sys2Proof.Machine

namespace Sys2Proof.Proofs

open Sys2Proof.Machine

/-- Settles O30: the word is taken from the queue that RD_SEL names, and a packet that ends is left. -/
theorem queueReadFrame : Obligations.QueueReadFrame := by
  unfold Obligations.QueueReadFrame
  intro d q m p w bad k hrun hperm hpoint
  have sel : (d.passed m.val).rdB .qmg m.val .QMG_RD_SEL_QUEUE = k := d.passed_rdB _ _ _ _
  have taken := Dev.takeWord_some ((d.passed_readPoint m.val k).trans hpoint)
  rw [d.passed_queue] at taken
  obtain ⟨sop, eop⟩ := readTags_bits (d.queue k) p bad
  generalize hb : (d.passed m.val).wordTaken k bad = b at taken
  have same : b.queue k = { d.queue k with rdw := (d.queue k).rdw + 1, lostTag := false, passed := 0 } := by
    rw [← hb, Dev.wordTaken_queue_same, d.passed_queue]
  have others : ∀ j, j ≠ k → b.queue j = d.queue j := fun j hj => by rw [← hb, Dev.wordTaken_queue_other _ _ _ hj, d.passed_queue]
  have ring : b.isRing k = d.isRing k := by
    have word : b.reg (regKey .qmg k 0x034) = d.reg (regKey .qmg k 0x034) := by rw [← hb, Dev.wordTaken_reg _ _ _ k (by decide), d.passed_reg]
    exact congrArg (fun v => Fld.QMG_Q_CFG_RING.get v == 1) word
  have ports : ∀ j : Nat, b.reg (regKey .qmg j 0x058) = d.reg (regKey .qmg j 0x058) := fun j => by
    rw [← hb, Dev.wordTaken_reg _ _ _ j (by decide), d.passed_reg]
  have memories : b.sram = d.sram ∧ b.mem = d.mem := by
    have keeps := (d.passed m.val).wordTaken_keeps k bad
    rw [hb] at keeps
    exact ⟨keeps.sram.trans (d.passed_keeps [] m.val).sram, keeps.mem.trans (d.passed_keeps [] m.val).mem⟩
  generalize hf : (if (d.queue k).rdw + 1 == p.words.length then b.leavePkt k else b) = f at taken
  have runs : exec (.rdLoRead m) ⟨d, q⟩ = .next ⟨f.readDone m.val w (BitVec.ofNat 32 (readTags (d.queue k) p bad)), q⟩ :=
    State.live_eq q ((Dev.mRead_rdLo hrun hperm).trans (Dev.readLo_takes (by rw [sel]; exact taken)))
  have left : (∀ j, j ≠ k → f.queue j = d.queue j) ∧ (∀ j : Nat, f.reg (regKey .qmg j 0x058) = d.reg (regKey .qmg j 0x058)) ∧
      f.sram = d.sram ∧ f.mem = d.mem := by
    rw [← hf]
    split
    · obtain ⟨regs, sram, mem⟩ := b.leavePkt_leaves k
      exact ⟨fun j hj => (b.leavePkt_queue_other hj).trans (others j hj), fun j => (regs _).trans (ports j), sram.trans memories.1,
        mem.trans memories.2⟩
    · exact ⟨others, ports, memories⟩
  obtain ⟨fothers, fports, fsram, fmem⟩ := left
  have keeps := f.readDone_keeps m.val w (BitVec.ofNat 32 (readTags (d.queue k) p bad))
  refine ⟨_, runs, Dev.respOf_respond _ _ _, ?_, ?_, fun j hj => (keeps.queue j).trans (fothers j hj), fun j hj => ?_, fun hin => ?_,
    fun hend hring hmark => ?_, keeps.sram.trans fsram, keeps.mem.trans fmem⟩
  · rw [Dev.readDone_reg_same, sop]
  · rw [Dev.readDone_reg_same, eop]
  · exact (f.readDone_reg_other _ _ (fun h => hj (Fin.ext h))).trans (fports j.val)
  · rw [keeps.queue, ← hf, if_neg (by simp; omega), same]
    exact ⟨rfl, rfl⟩
  · rw [keeps.queue, ← hf, if_pos (by simpa using hend), Dev.leavePkt_frees (ring.trans hring) (by rw [same]; exact hmark), same]

end Sys2Proof.Proofs
end

section
/-! PROOF. The commands of the queue manager (R368 to R383): the block after each, where its conditions hold. That a read of a disabled queue returns
at once in SERVICE mode too is the model's choice (log 100). -/

namespace Sys2Proof.Machine

/-! ### Register writes -/

section
variable (d : Dev) (m cur : Nat) (old : Word) {v : Word}

theorem Dev.pageAfter_wrData (v : Word) : d.pageAfter m .qmg 0x074 cur old v = d.wrData m v := by simp [Dev.pageAfter, Dev.qmgAfter]

/-- WR_END with END closes the master's packet with the bytes written. -/
theorem Dev.pageAfter_wrEnd (bytes : Fin 4) : d.pageAfter m .qmg 0x078 cur old (BitVec.ofNat 32 (4 + bytes.val)) = d.closePkt m bytes.val := by
  have fields : ∀ b : Fin 4, Fld.QMG_WR_END_END.get (BitVec.ofNat 32 (4 + b.val)) = 1 ∧ Fld.QMG_WR_END_BYTES.get (BitVec.ofNat 32 (4 + b.val)) = b.val := by
    decide
  obtain ⟨ends, length⟩ := fields bytes
  exact (if_pos (by simp [ends])).trans (congrArg (d.closePkt m) length)

theorem Dev.pageAfter_wrSel_none (h : d.openOf m = noOpen) : d.pageAfter m .qmg 0x070 cur old v = d := if_neg (by simp [h])

theorem Dev.pageAfter_wrSel_open (h : d.openOf m ≠ noOpen) : d.pageAfter m .qmg 0x070 cur old v = d.abandon m := if_pos (by simp [h])

theorem Dev.pageAfter_dropRest : d.pageAfter m .qmg 0x05C cur old 1 = d.dropRest m := rfl

theorem Dev.pageAfter_mark : d.pageAfter m .qmg 0x05C cur old 2 = d.markPlace m := rfl

theorem Dev.pageAfter_unmark : d.pageAfter m .qmg 0x05C cur old 4 = d.markRemove m := rfl

theorem Dev.pageAfter_rewind : d.pageAfter m .qmg 0x05C cur old 8 = d.rewindTo m := rfl

theorem Dev.pageAfter_qCfg_off (h : Fld.QMG_Q_CFG_ENABLE.get v = 0) :
    d.pageAfter m .qmg 0x034 cur old v = d.emptyQueue (d.rd .qmg .QMG_Q_SEL_QUEUE) := if_pos (by simp [h])

theorem Dev.pageAfter_qCfg_on (h : Fld.QMG_Q_CFG_ENABLE.get v = 1) : d.pageAfter m .qmg 0x034 cur old v = d := if_neg (by simp [h])

theorem Dev.pageAfter_parInj : d.pageAfter m .qmg 0x02C cur old 2 = { d with parInj := true } := rfl

theorem Dev.pageAfter_qmgCntClr :
    d.pageAfter m .qmg 0x02C cur old 1 =
      let e := d.wr .qmg .QMG_PAR_CNT_COUNT 0
      { e with regs := e.regs.filter (fun x => !(x.1 % 0x10000000 == 0x903C || x.1 % 0x10000000 == 0x9040)) } := rfl

/-- Nothing follows a write of a channel's pointer. -/
theorem Dev.pageAfter_dmaPointer (c : Fin 8) (isRead : Bool) (v : Word) :
    d.pageAfter m .qmg ((if isRead then 0x10C else 0x108) + 16 * c.val) cur old v = d := by
  have hc := c.isLt
  obtain ⟨off, hoff, pointer⟩ : ∃ off, off = (if isRead then 0x10C else 0x108) + 16 * c.val ∧ 0x108 ≤ off ∧ off % 16 ≠ 0 :=
    ⟨_, rfl, by split <;> omega⟩
  rw [← hoff]
  change d.qmgAfter m off v = d
  unfold Dev.qmgAfter
  simp only [beq_iff_eq, Bool.and_eq_true, decide_eq_true_eq]
  repeat rw [if_neg (by omega)]

end

/-! ### DMA channels (R381) -/

section
variable {d : Dev} {c : Nat}

theorem Dev.dmaMoves_toRing (h : d.dmaMoves c 0 = true) : d.dmaRuns c 0 = true ∧ 0 < d.dmaHead c ∧ d.dmaHead c < d.ringFree c := by
  simpa [Dev.dmaMoves] using h

/-- A ring has at most one word fewer free than it has words. -/
theorem Dev.ringFree_le (d : Dev) (c : Nat) : d.ringFree c ≤ d.ringWords c - 1 := Nat.sub_le _ _

/-- A channel that moves an entry and may access T4 is served once the matrix has granted it. -/
theorem Dev.dmaServe_moves {dir : Nat} (h : d.dmaMoves c dir = true) (hperm : d.permits 6 4 (dir == 0) = true) :
    d.dmaServe c dir = if dir == 0 then (d.granted 4 6).dmaToRing c else (d.granted 4 6).dmaToQueue c := by
  unfold Dev.dmaServe
  rw [h, hperm]
  rfl

theorem Dev.dmaServe_still {dir : Nat} (h : d.dmaMoves c dir = false) : d.dmaServe c dir = if dir == 0 then d.dmaToRing c else d.dmaToQueue c := by
  unfold Dev.dmaServe
  rw [h]
  rfl

/-- The block after the packet of `n` unread words at the head of queue `k` has gone to channel `c`'s ring of `w` words at index `wp`, behind a header
word, and the channel's notice has been raised. -/
def Dev.ringed (d : Dev) (c k n w wp : Nat) : Dev :=
  let x := Dev.takePkt (n + 1) d k [] false false
  let hdr : Word := BitVec.ofNat 32 (pktBytes n x.2.2.2.2 + (if x.2.2.1 then 65536 else 0) + (if x.2.2.2.1 then 131072 else 0))
  let e := (hdr :: x.2.1).zipIdx.foldl (fun (e : Dev) (y : Word × Nat) => e.sramPut (e.ringAt c (wp + y.2)) y.1) x.1
  let g := e.wr .qmg (Fld.nth .QMG_DMA_WP_PTR c) ((wp + 1 + n) % w)
  (g.notice (g.dma c .QMG_DMA_CFG_NOTICE)).bwAdd 328 (4 * (n + 1))

/-- A packet that fits goes to the ring. -/
theorem Dev.dmaToRing_moves (h : d.dmaMoves c 0 = true) :
    d.dmaToRing c = d.ringed c (d.dma c .QMG_DMA_CFG_QUEUE) (d.dmaHead c) (d.ringWords c) (d.dma c .QMG_DMA_WP_PTR) := by
  obtain ⟨runs, some, fits⟩ := Dev.dmaMoves_toRing h
  have free := d.ringFree_le c
  unfold Dev.dmaToRing
  dsimp only
  rw [if_neg (by simp [runs]; omega), if_neg (by omega), if_neg (by simp [h])]
  rfl

/-- A packet that no entry of the ring can hold is dropped. -/
theorem Dev.dmaToRing_drops (hruns : d.dmaRuns c 0 = true) (hsize : d.ringWords c ≤ d.dmaHead c + 1) (hsome : d.dmaHead c ≠ 0) :
    d.dmaToRing c = (d.leavePkt (d.dma c .QMG_DMA_CFG_QUEUE)).qDrop (d.dma c .QMG_DMA_CFG_QUEUE) .QMG_Q_CNT2_DROP_REJECT := by
  unfold Dev.dmaToRing
  dsimp only
  rw [if_neg (by simp [hruns, hsome]), if_pos (by omega)]

/-- The length that the header at the ring's read pointer gives. -/
def Dev.entryLength (d : Dev) (c : Nat) : Nat := (d.sramGet (d.ringAt c (d.dma c .QMG_DMA_RP_PTR))).toNat % 32768

/-- An entry of a legal length goes to the queue. -/
theorem Dev.dmaToQueue_moves (h : d.dmaMoves c 1 = true) (hsome : d.entryLength c ≠ 0) (hmax : ¬ 16384 < d.entryLength c) :
    d.dmaToQueue c =
      let rp := d.dma c .QMG_DMA_RP_PTR
      let len := d.entryLength c
      let n := (len + 3) / 4
      let e := (d.queuePut (d.dma c .QMG_DMA_CFG_QUEUE) ((List.range n).map (fun i => d.sramGet (d.ringAt c (rp + 1 + i)))) (len % 4)).1
      let g := e.wr .qmg (Fld.nth .QMG_DMA_RP_PTR c) ((rp + 1 + n) % d.ringWords c)
      (g.notice (g.dma c .QMG_DMA_CFG_NOTICE)).bwAdd 328 (4 * (n + 1)) := by
  unfold Dev.entryLength at hsome hmax
  unfold Dev.dmaToQueue
  dsimp only
  rw [if_neg (by simp [h]), if_neg (by simp [hsome, hmax])]
  rfl

/-- An entry of an illegal length stops the channel. -/
theorem Dev.dmaToQueue_stops (h : d.dmaMoves c 1 = true) (hbad : d.entryLength c = 0 ∨ 16384 < d.entryLength c) :
    d.dmaToQueue c = ((d.bwAdd 328 4).wr .qmg (Fld.nth .QMG_DMA_CFG_ERR c) 1).setEvt .qmg 11 := by
  unfold Dev.entryLength at hbad
  unfold Dev.dmaToQueue
  dsimp only
  rw [if_neg (by simp [h]), if_pos (by simpa using hbad)]

end

/-- What a channel knows of its ring, its queue and its registers does not change when the matrix grants it an access. -/
theorem Dev.granted_dma (d : Dev) (t m c : Nat) :
    (∀ f, (d.granted t m).dma c f = d.dma c f) ∧ (d.granted t m).dmaHead c = d.dmaHead c ∧ (d.granted t m).ringWords c = d.ringWords c ∧
      (∀ i, (d.granted t m).ringAt c i = d.ringAt c i) ∧ (∀ k, (d.granted t m).sramGet k = d.sramGet k) ∧
      ∀ dir, (d.granted t m).dmaMoves c dir = d.dmaMoves c dir := ⟨fun _ => rfl, rfl, rfl, fun _ => rfl, fun _ => rfl, fun _ => rfl⟩

/-- A channel of DIR 0 that may access T4 moves the packet at its queue's head. -/
theorem Dev.dmaServe_toRing {d : Dev} {c : Nat} (h : d.dmaMoves c 0 = true) (hperm : d.permits 6 4 true = true) :
    d.dmaServe c 0 =
      (d.granted 4 6).ringed c (d.dma c .QMG_DMA_CFG_QUEUE) (d.dmaHead c) (d.ringWords c) (d.dma c .QMG_DMA_WP_PTR) := by
  obtain ⟨fields, head, words, -, -, moves⟩ := d.granted_dma 4 6 c
  have served := Dev.dmaToRing_moves ((moves 0).trans h)
  rw [fields, fields, head, words] at served
  rw [Dev.dmaServe_moves h hperm, if_pos (by decide), served]

section
variable {d : Dev} {c : Nat} (h : d.dmaMoves c 1 = true) (hperm : d.permits 6 4 false = true)
include h hperm

/-- A channel of DIR 1 that may access T4 moves the entry at its read pointer. -/
theorem Dev.dmaServe_toQueue (hsome : d.entryLength c ≠ 0) (hmax : ¬ 16384 < d.entryLength c) :
    d.dmaServe c 1 =
      let rp := d.dma c .QMG_DMA_RP_PTR
      let len := d.entryLength c
      let n := (len + 3) / 4
      let e := ((d.granted 4 6).queuePut (d.dma c .QMG_DMA_CFG_QUEUE) ((List.range n).map (fun i => d.sramGet (d.ringAt c (rp + 1 + i)))) (len % 4)).1
      let g := e.wr .qmg (Fld.nth .QMG_DMA_RP_PTR c) ((rp + 1 + n) % d.ringWords c)
      (g.notice (g.dma c .QMG_DMA_CFG_NOTICE)).bwAdd 328 (4 * (n + 1)) := by
  obtain ⟨fields, -, words, places, stored, moves⟩ := d.granted_dma 4 6 c
  have length : (d.granted 4 6).entryLength c = d.entryLength c := by rw [Dev.entryLength, fields, places, stored, Dev.entryLength]
  have served := Dev.dmaToQueue_moves ((moves 1).trans h) (length ▸ hsome) (length ▸ hmax)
  simp only [fields, words, places, stored, length] at served
  rw [Dev.dmaServe_moves h hperm, if_neg (by decide), served]

theorem Dev.dmaServe_stops (hbad : d.entryLength c = 0 ∨ 16384 < d.entryLength c) :
    d.dmaServe c 1 = (((d.granted 4 6).bwAdd 328 4).wr .qmg (Fld.nth .QMG_DMA_CFG_ERR c) 1).setEvt .qmg 11 := by
  obtain ⟨fields, -, -, places, stored, moves⟩ := d.granted_dma 4 6 c
  have length : (d.granted 4 6).entryLength c = d.entryLength c := by rw [Dev.entryLength, fields, places, stored, Dev.entryLength]
  rw [Dev.dmaServe_moves h hperm, if_neg (by decide), Dev.dmaToQueue_stops ((moves 1).trans h) (length ▸ hbad)]

end

end Sys2Proof.Machine

namespace Sys2Proof.Proofs

open Sys2Proof.Machine

/-- Settles O55: each clause is the law of the operation that the command calls, under the clause's conditions. -/
theorem queueCommandsComplete : Obligations.QueueCommandsComplete := by
  unfold Obligations.QueueCommandsComplete
  intro d q
  refine ⟨fun words bytes k hrun => ?packet, fun m v h => ?wrData, fun m bytes h => ?wrEnd, fun m v h hnone => ?wrSel, fun m v h hopen => ?wrSelOpen,
    fun m f lo hi hrun hperm hword => ?word, fun m hrun hperm hnone hs => ?empty, fun m hrun hperm hnone hmode hen => ?stalls,
    fun m hrun => ?stallReturn, fun m hrun => ?stallTimeout, fun m h => ?dropRest, fun m h => ?mark, fun m h => ?unmark, fun m h => ?rewind,
    fun m v h hv => ?qCfgOff, fun m v h hv => ?qCfgOn, fun m h => ?parInj, fun m h => ?cntClr, fun c hrun hmoves hperm => ?toRing,
    fun c hrun hruns hsize hsome hstill => ?drops, fun c hrun hmoves hperm hsome hmax => ?toQueue, fun c hrun hmoves hperm hbad => ?stops,
    fun m c isRead v h => ?pointer⟩
  case packet => exact State.live_eq q (Dev.live_runs hrun)
  case wrData => exact State.live_eq q (Dev.mWrite_follows h (by decide) (Dev.pageAfter_wrData _ _ _ _ v))
  case wrEnd => exact State.live_eq q (Dev.mWrite_follows h (by decide) (Dev.pageAfter_wrEnd _ _ _ _ bytes))
  case wrSel => exact State.live_eq q (Dev.mWrite_follows h (by decide) (Dev.pageAfter_wrSel_none _ _ _ _ hnone))
  case wrSelOpen => exact State.live_eq q (Dev.mWrite_follows h (by decide) (Dev.pageAfter_wrSel_open _ _ _ _ hopen))
  case word => exact State.live_eq q ((Dev.mRead_rdLo hrun hperm).trans (Dev.readLo_takes hword))
  case empty => exact State.live_eq q ((Dev.mRead_rdLo hrun hperm).trans (Dev.readLo_empty hnone hs))
  case stalls => exact State.live_eq q ((Dev.mRead_rdLo hrun hperm).trans (Dev.readLo_stalls hnone hmode hen))
  case stallReturn => exact State.live_eq q (Dev.live_runs hrun)
  case stallTimeout => exact State.live_eq q (Dev.live_runs hrun)
  case dropRest => exact State.live_eq q (Dev.mWrite_follows h (by decide) (Dev.pageAfter_dropRest _ _ _ _))
  case mark => exact State.live_eq q (Dev.mWrite_follows h (by decide) (Dev.pageAfter_mark _ _ _ _))
  case unmark => exact State.live_eq q (Dev.mWrite_follows h (by decide) (Dev.pageAfter_unmark _ _ _ _))
  case rewind => exact State.live_eq q (Dev.mWrite_follows h (by decide) (Dev.pageAfter_rewind _ _ _ _))
  case qCfgOff => exact State.live_eq q (Dev.mWrite_follows h (by decide) (Dev.pageAfter_qCfg_off _ _ _ _ hv))
  case qCfgOn => exact State.live_eq q (Dev.mWrite_follows h (by decide) (Dev.pageAfter_qCfg_on _ _ _ _ hv))
  case parInj => exact State.live_eq q (Dev.mWrite_follows h (by decide) (Dev.pageAfter_parInj _ _ _ _))
  case cntClr => exact State.live_eq q (Dev.mWrite_follows h (by decide) (Dev.pageAfter_qmgCntClr _ _ _ _))
  case toRing => exact State.live_eq q ((Dev.live_runs hrun).trans (Dev.dmaServe_toRing hmoves hperm))
  case drops => exact State.live_eq q ((Dev.live_runs hrun).trans ((Dev.dmaServe_still hstill).trans ((if_pos rfl).trans (Dev.dmaToRing_drops hruns hsize hsome))))
  case toQueue => exact State.live_eq q ((Dev.live_runs hrun).trans (Dev.dmaServe_toQueue hmoves hperm hsome hmax))
  case stops => exact State.live_eq q ((Dev.live_runs hrun).trans (Dev.dmaServe_stops hmoves hperm hbad))
  case pointer =>
    refine State.live_eq q (Dev.mWrite_follows h ?_ (Dev.pageAfter_dmaPointer _ _ _ _ c isRead v))
    split <;> omega

end Sys2Proof.Proofs
end

section
/-! PROOF. Power states, supply and temperature monitors, the wake timer and the brownout log (R415 to R426, R454): the block after each command.
That a rail's warning counts nothing and raises no event while the core domains are stopped (log 49), and the phase of the always-on clock at
which the wake timer starts (log 8, 47), are the model's choice. -/

namespace Sys2Proof.Machine

/-! ### Requests of a power state (R415 to R417) -/

theorem Dev.pageAfter_pwrState (d : Dev) (m cur : Nat) (old v : Word) : d.pageAfter m .pwr 0x020 cur old v = d.pwrRequest := by
  rw [Dev.pageAfter, Dev.pwrAfter, if_pos (by decide)]

/-- An accepted write of PWR.STATE leaves in REQ what it carries there. -/
theorem Dev.stored_pwrReq (d : Dev) (m : Nat) (v : Word) : (d.stored m .pwr 0x020 v).rd .pwr .PWR_STATE_REQ = Fld.PWR_STATE_REQ.get v := by
  have register : regAt .pwr 0x020 = some ⟨0x020, 0, 1, [.PWR_STATE_CUR, .PWR_STATE_BUSY, .PWR_STATE_REQ]⟩ := rfl
  have key : ∀ e : Dev, e.pageKey m .pwr 0x020 = regKey .pwr 0 0x020 := fun _ => rfl
  have written : (d.stored m .pwr 0x020 v).reg (regKey .pwr 0 0x020) =
      applyWord ⟨0x020, 0, 1, [.PWR_STATE_CUR, .PWR_STATE_BUSY, .PWR_STATE_REQ]⟩ (d.held m .pwr 0x020) v := by
    rw [d.stored_of_regAt m v register, key, Dev.setReg_same]
  exact (congrArg Fld.PWR_STATE_REQ.get written).trans
    ((Proofs.acceptedWriteSetsFields .pwr 0x020 _ _ _ v register (by simp)).1 (.inl rfl))

/-- A request of another state than ACTIVE starts the change to it. -/
theorem Dev.pwrRequest_rest {d : Dev} {k : Nat} (hk : k ≠ 0) (hreq : d.rd .pwr .PWR_STATE_REQ = k) (hcur : d.rd .pwr .PWR_STATE_CUR ≠ k) :
    d.pwrRequest = d.wrOn .pwr .PWR_STATE_BUSY true := by
  rw [Dev.pwrRequest, hreq, if_neg (by simpa using hcur.symm), if_neg (by simpa using hk)]

/-- A request of ACTIVE also wakes the frame-store controllers. -/
theorem Dev.pwrRequest_active {d : Dev} (hreq : d.rd .pwr .PWR_STATE_REQ = 0) (hcur : d.rd .pwr .PWR_STATE_CUR ≠ 0) :
    d.pwrRequest = (d.wrOn .pwr .PWR_STATE_BUSY true).memcsWake := by
  rw [Dev.pwrRequest, hreq, if_neg (by simpa using hcur.symm)]
  rfl

/-- An accepted write of PWR.STATE whose request the block follows with `e`. -/
theorem Dev.mWrite_pwrState {d e : Dev} {m : Nat} {v : Word} (h : d.admits m .pwr 0x020 v = true) (he : (d.stored m .pwr 0x020 v).pwrRequest = e) :
    d.live (fun d => d.mWrite m .pwr 0x020 15 v) = e.okay m :=
  Dev.mWrite_follows h (by decide) ((Dev.pageAfter_pwrState _ _ _ _ _).trans he)

/-- A write that requests the state coded `k`, other than ACTIVE, from another state. -/
theorem Dev.mWrite_pwrRest {d : Dev} {m : Nat} {v : Word} (k : Nat) (hk : k ≠ 0) (hv : Fld.PWR_STATE_REQ.get v = k)
    (h : d.admits m .pwr 0x020 v = true) (hcur : (d.stored m .pwr 0x020 v).rd .pwr .PWR_STATE_CUR ≠ k) :
    d.live (fun d => d.mWrite m .pwr 0x020 15 v) = ((d.stored m .pwr 0x020 v).wrOn .pwr .PWR_STATE_BUSY true).okay m :=
  Dev.mWrite_pwrState h (Dev.pwrRequest_rest hk ((d.stored_pwrReq m v).trans hv) hcur)

/-! ### The requested state is reached (R415) -/

section
variable {d : Dev} (hb : d.on .pwr .PWR_STATE_BUSY = true)
include hb

theorem Dev.stateDone_active (hreq : d.rd .pwr .PWR_STATE_REQ = 0) (hready : d.memcsReady = true) :
    d.stateDone = (d.activeEnter.wrOn .pwr .PWR_STATE_BUSY false).setEvt .pwr 8 := by
  rw [Dev.stateDone, hreq, if_neg (by simp [hb, hready])]
  rfl

theorem Dev.stateDone_standby (hreq : d.rd .pwr .PWR_STATE_REQ = 1) :
    d.stateDone = (d.standbyEnter.wrOn .pwr .PWR_STATE_BUSY false).setEvt .pwr 8 := by
  rw [Dev.stateDone, hreq, if_neg (by simp [hb])]
  rfl

theorem Dev.stateDone_dormant (hreq : d.rd .pwr .PWR_STATE_REQ = 2) :
    d.stateDone = (d.dormantEnter.wrOn .pwr .PWR_STATE_BUSY false).setEvt .pwr 8 := by
  rw [Dev.stateDone, hreq, if_neg (by simp [hb])]
  rfl

end

/-- In DORMANT, with no reset and no wake under way, an event of a watched wake source starts the wake (R418). -/
theorem Dev.dormantWake_starts {d : Dev} {k : Nat} (hrun : d.pwr.run = .none) (hw : d.pwr.waking = false) (hcur : d.rd .pwr .PWR_STATE_CUR = 2)
    (hsrc : wakeSource k = true) (hwatch : d.watched k = true) (ticks : Nat) :
    d.dormantWake k ticks =
      (let e := d.timerRebase ticks
       (({ e with xo := 0, pwr := { e.pwr with waking := true, xoOk := false } } : Dev).wr .aon .AON_RESET_CAUSE_WAKE_SRC k).wrOn .aon
         .AON_RESET_CAUSE_WOKE true) := by
  rw [Dev.dormantWake, if_neg (by simp [hrun, hw, hcur, hsrc, hwatch])]

/-! ### Supplies and the deferral of takes (R422 to R424) -/

/-- A rail that is not in warning enters it. -/
theorem Dev.railEnter_enters {d : Dev} {rail : Nat} (h : d.pwr.warn.contains rail = false) (steps : Nat) :
    d.railEnter rail steps =
      (let e : Dev := ({ d with pwr := { d.pwr with warn := d.pwr.warn ++ [rail] } } : Dev).logOpen rail (5 * steps)
       (if d.stopped then e else (e.inc .pwr .PWR_SUP_CNT_WARNS).addEvent 267).deferSettle) := by
  rw [Dev.railEnter, h, if_neg Bool.false_ne_true]

/-- A rail that is in warning leaves it. -/
theorem Dev.railLeave_leaves {d : Dev} {rail : Nat} (h : d.pwr.warn.contains rail = true) (steps us : Nat) :
    d.railLeave rail steps us =
      (let left := d.pwr.warn.filter (· != rail)
       let e : Dev := ({ d with pwr := { d.pwr with warn := left } } : Dev).logClose rail (5 * steps) us
       let f : Dev := if d.stopped then e else e.setEvt .pwr 9
       (if left.isEmpty then (f.causeEnd 2).causeEnd 0 else f).supSettle) := by
  rw [Dev.railLeave, h, if_neg (by simp)]

/-- A rail in warning that falls below its reset level: VAON, rail 6, causes a power-on reset, another rail a PIN reset. -/
theorem Dev.railReset_falls {d : Dev} {rail : Nat} (h : d.pwr.warn.contains rail = true) :
    d.railReset rail =
      (let e : Dev := (match d.openEntry rail with | some i => d.wrOn .aon (logFld .AON_LOG_A_RESET i) true | none => d)
       if rail = 6 then e.porReset else e.pinReset 2 true) := by
  rw [Dev.railReset, h, if_neg (by simp)]
  simp only [beq_iff_eq] <;> rfl

section
variable {d : Dev} (hd : d.deferring = true) (hdip : d.dipNow = false)
include hd hdip

theorem Dev.deferEnd_runs (h : d.stopped = false) :
    d.deferEnd = (((d.deferFinish.swapRearm).supSettle).inc .pwr .PWR_SUP_CNT_DEFERS).setEvt .pwr 10 := by
  rw [Dev.deferEnd, if_neg (by simp [hd, hdip]), if_neg (by simp [h])]

theorem Dev.deferEnd_stopped (h : d.stopped = true) : d.deferEnd = ({ d with deferring := false } : Dev).supSettle := by
  rw [Dev.deferEnd, if_neg (by simp [hd, hdip]), if_pos h]

end

/-! ### Temperature (R426) -/

/-- The block with what a reading says of the shutdown temperature. -/
def Dev.tempHot (d : Dev) (t : Int) : Dev := { d with pwr := { d.pwr with hot := decide (500 ≤ t) } }

/-- That does not decide whether the block runs, and changes no register. -/
theorem Dev.tempHot_stopped (d : Dev) (t : Int) : (d.tempHot t).stopped = d.stopped := rfl

theorem Dev.tempHot_warnLevel (d : Dev) (t : Int) : (d.tempHot t).rd .pwr .PWR_TEMP_CFG_WARN = d.rd .pwr .PWR_TEMP_CFG_WARN := rfl

/-- During a THERMAL reset a reading below 100 °C ends its cause. -/
theorem Dev.tempReading_stopped {d : Dev} {t : Int} (h : d.stopped = true) (ht : t < 400) : d.tempReading t = (d.tempHot t).causeEnd 3 := by
  rw [← d.tempHot_stopped t] at h
  exact (if_pos h).trans (if_pos ht)

section
variable {d : Dev} {t : Int} (h : d.stopped = false)
include h

/-- A reading at or above the warning level sets the warning, with its event where it was not set. -/
theorem Dev.tempReading_warns (hw : (d.rd .pwr .PWR_TEMP_CFG_WARN : Int) * 4 ≤ t) :
    d.tempReading t =
      (let e := (d.tempHot t).wr .pwr .PWR_TEMP_MAX (t % 4096).toNat
       ({ e with pwr := { e.pwr with tempWarn := true } } : Dev).setEvtIf (!d.pwr.tempWarn) .pwr 11) := by
  rw [← d.tempHot_stopped t] at h
  exact (if_neg (Bool.eq_false_iff.1 h)).trans (if_pos hw)

/-- A reading 5 °C below the warning level clears it. -/
theorem Dev.tempReading_clears (hw : ¬(d.rd .pwr .PWR_TEMP_CFG_WARN : Int) * 4 ≤ t) (hc : t < ((d.rd .pwr .PWR_TEMP_CFG_WARN : Int) - 5) * 4) :
    d.tempReading t =
      (let e := (d.tempHot t).wr .pwr .PWR_TEMP_MAX (t % 4096).toNat
       ({ e with pwr := { e.pwr with tempWarn := false } } : Dev)) := by
  rw [← d.tempHot_stopped t] at h
  exact (if_neg (Bool.eq_false_iff.1 h)).trans ((if_neg hw).trans (if_pos hc))

end

/-! ### The wake timer and the log's clear (R425, R454) -/

/-- A write that enables the timer starts it at a phase that nothing fixes. -/
theorem Dev.timerWrite_on {d : Dev} (h : d.on .aon .AON_WAKE_TIMER_ENABLE = true) :
    d.timerWrite =
      ({ d with
          free := d.free + 1
          pwr := { d.pwr with timerAt := d.xo.toNat, timerPhase := (Config.freeValue 32 d.free).toNat % 40000000 } } : Dev) := by
  rw [Dev.timerWrite, if_pos h]
  rfl

theorem Dev.timerWrite_off {d : Dev} (h : d.on .aon .AON_WAKE_TIMER_ENABLE = false) : d.timerWrite = d := if_neg (by simp [h])

theorem Dev.timerExpiry_on {d : Dev} (h : d.on .aon .AON_WAKE_TIMER_ENABLE = true) :
    d.timerExpiry = ((d.wr .aon .AON_WAKE_TIMER_TICKS 0).wrOn .aon .AON_WAKE_TIMER_ENABLE false).setEvt .aon 8 := if_pos h

theorem Dev.pageAfter_wakeTimer (d : Dev) (m cur : Nat) (old v : Word) : d.pageAfter m .aon 0x030 cur old v = d.timerWrite := by
  rw [Dev.pageAfter, Dev.aonAfter, if_pos (by decide)]

theorem Dev.pageAfter_logCtl (d : Dev) (m cur : Nat) (old : Word) : d.pageAfter m .aon 0x038 cur old 1 = d.logClr := by
  rw [Dev.pageAfter, Dev.aonAfter, if_neg (by decide), if_pos (by decide), if_pos (by decide)]

end Sys2Proof.Machine

namespace Sys2Proof.Proofs

open Sys2Proof.Machine

/-- Settles O35: each command by the lemma that says what its operation, or its page's effect, does under the stated conditions. -/
theorem powerCommandsComplete : Obligations.PowerCommandsComplete := by
  unfold Obligations.PowerCommandsComplete
  intro d q
  refine ⟨fun m h hc => ?standby, fun m h hc => ?dormant, fun m h hc => ?active, fun h hb hr hm => ?activeDone, fun h hb hr => ?standbyDone,
    fun h hb hr => ?dormantDone, fun k ticks hr hw hc hs hk => ?wake, fun r steps h => ?enter, fun r steps us h => ?leave, fun r h => ?fall,
    fun hd hn h => ?deferRuns, fun hd hn h => ?deferStopped, fun t h ht => ?tempStopped, fun t h hw hc => ?tempClears, fun t h hw => ?tempWarns,
    fun hh h => ?shutdown, fun m v h hon => ?timerOn, fun m v h hoff => ?timerOff, fun h => ?expiry, fun m h => ?logClr⟩
  case standby => exact State.live_eq q (Dev.mWrite_pwrRest 1 (by decide) (by decide) h hc)
  case dormant => exact State.live_eq q (Dev.mWrite_pwrRest 2 (by decide) (by decide) h hc)
  case active => exact State.live_eq q (Dev.mWrite_pwrState h (Dev.pwrRequest_active (d.stored_pwrReq m.val 0) hc))
  case activeDone => exact State.live_eq q ((Dev.live_runs h).trans (Dev.stateDone_active hb hr hm))
  case standbyDone => exact State.live_eq q ((Dev.live_runs h).trans (Dev.stateDone_standby hb hr))
  case dormantDone => exact State.live_eq q ((Dev.live_runs h).trans (Dev.stateDone_dormant hb hr))
  case wake => exact State.next_eq q (Dev.dormantWake_starts hr hw hc hs hk ticks)
  case enter => exact State.next_eq q (Dev.railEnter_enters h steps)
  case leave => exact State.next_eq q (Dev.railLeave_leaves h steps us)
  case fall => exact State.next_eq q (Dev.railReset_falls h)
  case deferRuns => exact State.next_eq q (Dev.deferEnd_runs hd hn h)
  case deferStopped => exact State.next_eq q (Dev.deferEnd_stopped hd hn h)
  case tempStopped => exact State.next_eq q (Dev.tempReading_stopped h ht)
  case tempClears => exact State.next_eq q (Dev.tempReading_clears h hw hc)
  case tempWarns => exact State.next_eq q (Dev.tempReading_warns h hw)
  case shutdown => exact State.live_eq q ((Dev.live_runs h).trans (if_pos (by simp [hh, h])))
  case timerOn => exact State.live_eq q (Dev.mWrite_follows h (by decide) ((Dev.pageAfter_wakeTimer _ _ _ _ v).trans (Dev.timerWrite_on hon)))
  case timerOff => exact State.live_eq q (Dev.mWrite_follows h (by decide) ((Dev.pageAfter_wakeTimer _ _ _ _ v).trans (Dev.timerWrite_off hoff)))
  case expiry => exact State.next_eq q (Dev.timerExpiry_on h)
  case logClr => exact State.live_eq q (Dev.mWrite_follows h (by decide) (Dev.pageAfter_logCtl _ _ _ _))

end Sys2Proof.Proofs
end

section
/-! PROOF. PCIe and SPI (R428 to R434): the block after each command. That a change of the link raises its event (log 36), that a function-level
reset keeps the link (log 37) and that every SPI frame raises CS_FALL (log 38) are the model's choice. -/

namespace Sys2Proof.Machine

/-! ### Requests and resets of the PCIe endpoint (R428 to R431) -/

section
variable {d : Dev} (hon : d.pciOn = true) (hw : d.host.pciWait = false)
include hon hw

/-- The endpoint performs a request of memory whose bursts meet no locked sequence of another master. -/
theorem Dev.pcieRequest_memory {bar4 isWrite : Bool} {off : Nat} {bs : List Beat} {env : XferEnv}
    (hfree : (split64 ((if bar4 then 0x2000000 + off % 2 ^ 25 else off % 2 ^ 26) / 4 * 4) bs).all (fun y => !(d.lockedOut 4 (targetAt y.1))) = true) :
    d.pcieRequest (.memory bar4 isWrite off bs env) =
      d.pciBursts isWrite env 0 [] .success (split64 ((if bar4 then 0x2000000 + off % 2 ^ 25 else off % 2 ^ 26) / 4 * 4) bs) := by
  rw [List.all_eq_not_any_not] at hfree
  simp only [Bool.not_not, Bool.not_eq_true'] at hfree
  rw [Dev.pcieRequest, if_neg (by simp [hon, hw])]
  exact if_neg (Bool.eq_false_iff.1 hfree)

theorem Dev.pcieRequest_userWrite : d.pcieRequest .userWrite = d.pciDone .none [] := by
  rw [Dev.pcieRequest, if_neg (by simp [hon, hw])]

theorem Dev.pcieRequest_other : d.pcieRequest .other = d.pciDone .unsupported [] := by
  rw [Dev.pcieRequest, if_neg (by simp [hon, hw])]

end

/-- A function-level reset keeps the level of PCIE_PERST_N and the link. -/
theorem Dev.pcieLinkReset_flr (d : Dev) :
    d.pcieLinkReset .flr =
      (let e := d.masterEnd 4
       { e with
        regs := e.regs.filter (fun (y : Nat × Word) => !(0x3100 ≤ y.1 && y.1 < 0x3300))
        host := { e.host with msixOn := false, msixPend := [], cplStatus := .none, cplData := [], pciWait := false } }) := by
  rw [Dev.pcieLinkReset, if_pos (by decide), show (LinkReset.flr != .perst) = true from rfl, Bool.and_true]

/-- PCIE_PERST_N low drops the link, with the event of a change where it was up. -/
theorem Dev.pcieLinkReset_perst (d : Dev) :
    d.pcieLinkReset .perst =
      (let e := d.masterEnd 4
       let e := { e with
        regs := e.regs.filter (fun (y : Nat × Word) => !(0x3100 ≤ y.1 && y.1 < 0x3300))
        host := { e.host with perst := false, msixOn := false, msixPend := [], cplStatus := .none, cplData := [], pciWait := false } }
       (e.setReg (regKey .host 0 0x024) 0).setEvtIf (d.on .host .HOST_PCI_STAT_LINK_UP) .host 8) := by
  rw [Dev.pcieLinkReset, if_neg (by decide), show (LinkReset.perst != .perst) = false from rfl, Bool.and_false]

/-- With MSI-X enabled and the vector unmasked, its pending message is sent (R430). -/
theorem Dev.msixSend_sends {d : Dev} {v : Nat} (hp : d.host.msixPend.contains v = true) (hm : d.on .host (Fld.nth .HOST_MSIX_MASK v) = false) :
    d.msixSend true v =
      { d with host := { d.host with msixOn := true, msixPend := d.host.msixPend.filter (fun (y : Nat) => y != v), msixLast := some v } } := by
  have mask : ({ d with host := { d.host with msixOn := true } } : Dev).on .host (Fld.nth .HOST_MSIX_MASK v) = false := hm
  rw [Dev.msixSend]
  exact if_pos (by rw [hp, mask]; rfl)

theorem Dev.msixSend_disabled (d : Dev) (v : Nat) : d.msixSend false v = { d with host := { d.host with msixOn := false } } := rfl

/-- A link that was down and may train comes up at the speed and width it trained to. -/
theorem Dev.pcieLinkUp_trains {d : Dev} (hp : d.host.perst = true) (h2 : d.rd .dev .DEV_STRAP_BOOTMODE ≠ 2)
    (h3 : d.rd .dev .DEV_STRAP_BOOTMODE ≠ 3) (hl : d.on .host .HOST_PCI_STAT_LINK_UP = false) (speed width : Nat) :
    d.pcieLinkUp speed width =
      (((d.wr .host .HOST_PCI_STAT_WIDTH width).wr .host .HOST_PCI_STAT_SPEED speed).wrOn .host .HOST_PCI_STAT_LINK_UP true).setEvt .host 8 := by
  rw [Dev.pcieLinkUp, if_neg (by simp [hp, h2, h3, hl])]

/-! ### Frames of the SPI slave (R432 to R434) -/

section
variable {d : Dev} (hw : d.host.spiWait = false) (hon : d.spiOn = true)
include hw hon

/-- A frame whose address is well formed makes its access, and completes unless the access waits. -/
theorem Dev.spiFrame_accesses {f : SpiFrame} (hl : d.lockedOut 5 (targetAt (f.addr.toNat % 2 ^ 27)) = false) (hf : spiMalformed f.addr = false) :
    d.spiFrame f =
      (let e := d.setEvt .host 11
       (({ e with host := { e.host with spiRead := f.addr.getLsbD 31, spiWait := true } } : Dev).spiAccess f).spiSettle) := by
  rw [Dev.spiFrame, hw, hon, hl, hf]
  rfl

/-- A frame whose address is malformed completes with code 5 and makes no access. -/
theorem Dev.spiFrame_malformed {f : SpiFrame} (hl : d.lockedOut 5 (targetAt (f.addr.toNat % 2 ^ 27)) = false) (hf : spiMalformed f.addr = true) :
    d.spiFrame f = (let e := d.setEvt .host 11
      ({ e with host := { e.host with spiRead := f.addr.getLsbD 31 } } : Dev).spiEnd 5 0) := by
  rw [Dev.spiFrame, hw, hon, hl, hf]
  rfl

/-- A frame that is aborted before its access resets M5 and is counted. -/
theorem Dev.spiAbort_early :
    d.spiAbort none =
      (let e := (d.setEvt .host 11).masterEnd 5
       (({ e with host := { e.host with spiWait := false } } : Dev).inc .host .HOST_SPI_CNT_ABORTS).setEvt .host 9) := by
  rw [Dev.spiAbort, if_neg (by simp [hon]), hw]
  rfl

end

end Sys2Proof.Machine

namespace Sys2Proof.Proofs

open Sys2Proof.Machine

/-- Settles O58: each command by the lemma that says what the endpoint, or the slave, does under the stated conditions. -/
theorem hostInterfaceCommandsComplete : Obligations.HostInterfaceCommandsComplete := by
  unfold Obligations.HostInterfaceCommandsComplete
  intro d q
  refine ⟨fun bar4 isWrite off bs env h hon hw hfree => ?memory, fun h hon hw => ?userWrite, fun h hon hw => ?other, fun h => ?flr, fun h => ?perst,
    fun h => ?perstStopped, fun v h hp hm => ?sends, fun v h => ?disabled, fun f h hw hon hl hf => ?frame, fun f h hw hon hl hf => ?malformed,
    fun h hon hw => ?abort, fun h => ?rise, fun h => ?riseStopped, fun speed width h hp h2 h3 hl => ?linkUp⟩
  case memory => exact State.live_eq q ((Dev.live_runs h).trans (Dev.pcieRequest_memory hon hw hfree))
  case userWrite => exact State.live_eq q ((Dev.live_runs h).trans (Dev.pcieRequest_userWrite hon hw))
  case other => exact State.live_eq q ((Dev.live_runs h).trans (Dev.pcieRequest_other hon hw))
  case flr => exact State.next_eq q ((if_neg (by simp [h])).trans d.pcieLinkReset_flr)
  case perst => exact State.next_eq q ((if_neg (by simp [h])).trans d.pcieLinkReset_perst)
  case perstStopped => exact State.next_eq q (if_pos h)
  case sends => exact State.live_eq q ((Dev.live_runs h).trans (Dev.msixSend_sends hp hm))
  case disabled => exact State.live_eq q ((Dev.live_runs h).trans (d.msixSend_disabled v.val))
  case frame => exact State.live_eq q ((Dev.live_runs h).trans (Dev.spiFrame_accesses hw hon hl hf))
  case malformed => exact State.live_eq q ((Dev.live_runs h).trans (Dev.spiFrame_malformed hw hon hl hf))
  case abort => exact State.live_eq q ((Dev.live_runs h).trans (Dev.spiAbort_early hw hon))
  case rise => exact State.next_eq q (if_neg (by simp [h]))
  case riseStopped => exact State.next_eq q (if_pos h)
  case linkUp => exact State.live_eq q ((Dev.live_runs h).trans (Dev.pcieLinkUp_trains hp h2 h3 hl speed.val width.val))

end Sys2Proof.Proofs
end

section
/-! PROOF. The boot loader, firmware images and flash commands (R435 to R441, R444): the block after each command. How the images are checked
(log 39, 40), what reads that wait for the flash return (log 41) and the flash's content as an operand (log 42) are the model's choice. -/

namespace Sys2Proof.Machine

/-! ### The loader's start and its image (R435 to R441) -/

section
variable {d : Dev} (h : d.boot.due = true)
include h

theorem Dev.bootStart_flash (hb : d.rd .dev .DEV_STRAP_BOOTMODE = 0) :
    d.bootStart = (({ d with boot := { due := false } } : Dev).wr .boot .BOOT_STAT_STATE 1).wr .boot .BOOT_STAT_IMAGE 0 := by
  have mode : ({ d with boot := { due := false } } : Dev).rd .dev .DEV_STRAP_BOOTMODE = 0 := hb
  rw [Dev.bootStart, if_neg (by simp [h])]
  simp only [mode]

theorem Dev.bootStart_test (hb : d.rd .dev .DEV_STRAP_BOOTMODE = 3) :
    d.bootStart = ({ d with boot := { due := false } } : Dev).wr .boot .BOOT_STAT_STATE 0 := by
  have mode : ({ d with boot := { due := false } } : Dev).rd .dev .DEV_STRAP_BOOTMODE = 3 := hb
  rw [Dev.bootStart, if_neg (by simp [h])]
  simp only [mode]

/-- In the other modes the loader waits for the host. -/
theorem Dev.bootStart_host (h0 : d.rd .dev .DEV_STRAP_BOOTMODE ≠ 0) (h3 : d.rd .dev .DEV_STRAP_BOOTMODE ≠ 3) :
    d.bootStart = ({ d with boot := { due := false } } : Dev).wr .boot .BOOT_STAT_STATE 3 := by
  rw [Dev.bootStart, if_neg (by simp [h])]
  dsimp only
  split
  next hb => exact absurd hb h0
  next hb => exact absurd hb h3
  next => rfl

end

section
variable {d : Dev} (h : d.rd .boot .BOOT_STAT_STATE = 1)
include h

theorem Dev.sfdpDone_found (addr4 quad : Bool) :
    d.sfdpDone true addr4 quad =
      (({ d with boot := { d.boot with addr4 := addr4, quad := quad } } : Dev).wrOn .boot .BOOT_FLASH_CMD_ADDR4 addr4).wr .boot
        .BOOT_STAT_STATE 2 := by
  rw [Dev.sfdpDone, Dev.bootState, h]
  rfl

theorem Dev.sfdpDone_missing (addr4 quad : Bool) :
    d.sfdpDone false addr4 quad = ((d.wr .boot .BOOT_STAT_STATE 5).wr .boot .BOOT_STAT_CAUSE 1).setEvt .boot 9 := by
  rw [Dev.sfdpDone, Dev.bootState, h]
  rfl

end

section
variable {d : Dev} (hs : d.rd .boot .BOOT_STAT_STATE = 2) (hf : d.boot.fromBank = false) (hp : d.permits 8 7 false = true)
include hs hf hp

/-- A read of the flash that a bus error ends fails the image. -/
theorem Dev.imageDone_bus (flash : List Word) (big : Bool) : d.imageDone flash true big = d.imageFail 8 big := by
  simp [Dev.imageDone, Dev.bootState, hs, hf, hp]

/-- An image read from the flash fails by the cause its check finds, or else its words are written and the boot is done. -/
theorem Dev.imageDone_checked (flash : List Word) (big : Bool) :
    d.imageDone flash false big =
      (match imageCause (fun (k : Nat) => flash.getD k 0) none with
       | some c => d.imageFail c big
       | none =>
         let r := d.loadWrites ((segments (fun (k : Nat) => flash.getD k 0)).flatMap
           (fun (s : Segment) => s.writes (fun (k : Nat) => flash.getD k 0)) ++ finalWrites (fun (k : Nat) => flash.getD k 0))
         if r.2 then r.1.bootDone else r.1) := by
  have image : d.imageNow flash = fun (k : Nat) => flash.getD k 0 := by rw [Dev.imageNow, hf, if_neg Bool.false_ne_true]
  have within : ∀ x : Image, d.imageOver x = false := fun x => by simp only [Dev.imageOver, hf, Bool.false_and]
  rw [Dev.imageDone, Dev.bootState, hs, hf, image]
  simp only [within, hp, bne_self_eq_false, Bool.false_eq_true, if_false, Bool.not_true] <;> rfl

end

/-! ### BOOT.CTL (R436, R441) -/

theorem Dev.pageAfter_loadImg (d : Dev) (m cur : Nat) (old : Word) :
    d.pageAfter m .boot 0x024 cur old 2 = { d.wr .boot .BOOT_STAT_STATE 2 with boot := { d.boot with fromBank := true } } := rfl

theorem Dev.pageAfter_done (d : Dev) (m cur : Nat) (old : Word) : d.pageAfter m .boot 0x024 cur old 1 = d.bootDone := rfl

theorem Dev.passed_bootWaits (d : Dev) (m : Nat) : (d.passed m).bootWaits = d.bootWaits := by
  have state : (d.passed m).bootState = d.bootState := (d.passed_keeps [] m).rd _ _ List.not_mem_nil
  rw [Dev.bootWaits, Dev.bootWaits, state]

/-- While the loader waits for the host, DONE is rejected by what rejects a write of 0, and in a secure device as STATE. -/
theorem Dev.pageRej_bootDone {d : Dev} (hw : d.bootWaits = true) (m : Nat) (old : Word) :
    d.pageRej m .boot 0x024 15 old 1 = d.pageRej m .boot 0x024 15 old 0 ++ rejIf Config.secure .state := by
  have own : d.pageRejOwn m .boot 0x024 old 1 = rejIf (!d.bootWaits || Config.secure) .state := rfl
  have none : d.pageRejOwn m .boot 0x024 old 0 = [] := rfl
  have table : d.pageRejTable .boot 0x024 old 1 = d.pageRejTable .boot 0x024 old 0 := rfl
  rw [Dev.pageRej, Dev.pageRej, if_neg (by decide), if_neg (by decide), own, none, table, hw, List.append_nil, Bool.not_true, Bool.false_or]

/-- Where no cause is recorded, none applies. -/
theorem firstRej_isNone {rs : List Rej} (h : (firstRej rs).isNone = true) : rs = [] := by
  refine List.eq_nil_iff_forall_not_mem.2 fun x hx => ?_
  have recorded := firstRej_isSome hx
  rw [Option.isNone_iff_eq_none.1 h] at recorded
  cases recorded

/-- DONE from the host: in a secure device it is rejected, else the boot is done. -/
theorem Dev.mWrite_done {d : Dev} {m : Nat} (h : d.admits m .boot 0x024 0 = true) (hw : d.bootWaits = true) :
    d.live (fun d => d.mWrite m .boot 0x024 15 1) =
      (if Config.secure then (d.passed m).recordRej m .boot 0x024 .state else (d.stored m .boot 0x024 1).bootDone).okay m := by
  have causes := Dev.pageRej_bootDone ((d.passed_bootWaits m).trans hw) m (d.held m .boot 0x024)
  simp only [Dev.admits, Bool.and_eq_true, Bool.not_eq_true'] at h
  obtain ⟨⟨⟨⟨hrun, hbar⟩, hperm⟩, hreg⟩, hrej⟩ := h
  rw [firstRej_isNone hrej, List.nil_append] at causes
  cases hsec : Config.secure with
  | true =>
    rw [hsec] at causes
    have rejected : d.rejects m .boot 0x024 15 1 = some .state := congrArg firstRej causes
    rw [Dev.live_runs hrun, Dev.mWrite_rejects hbar hperm rejected]
    rfl
  | false =>
    rw [hsec] at causes
    have admitted : d.admits m .boot 0x024 1 = true := by
      rw [Dev.admits, hrun, hbar, hperm, hreg, causes]
      rfl
    rw [Dev.mWrite_follows admitted (by decide) (Dev.pageAfter_done _ _ _ _)]
    rfl

/-! ### Flash commands (R444) -/

theorem Dev.pageAfter_flashCmd (d : Dev) (m cur : Nat) (old v : Word) :
    d.pageAfter m .boot 0x044 cur old v = d.wrOn .boot .BOOT_FLASH_CMD_BUSY true := rfl

/-- A read command ends: its data reach the buffer, and the reads that waited for the flash are performed. -/
theorem Dev.flashDone_read {d : Dev} (hb : d.on .boot .BOOT_FLASH_CMD_BUSY = true)
    (hw : (d.wrOn .boot .BOOT_FLASH_CMD_BUSY false).on .boot .BOOT_FLASH_CMD_WRITE = false) (data : List Byte) (reads : List (List Word)) :
    d.flashDone data reads =
      (let e := d.wrOn .boot .BOOT_FLASH_CMD_BUSY false
       let e := e.flashData (4 * e.rd .boot .BOOT_FLASH_BUF_WORD) (data.take (e.rd .boot .BOOT_FLASH_CMD_LEN))
       let ws := e.mtx.waits.filter (fun (w : ReadWait) => targetAt w.addr == 7)
       let e := { e with mtx := { e.mtx with waits := e.mtx.waits.filter (fun (w : ReadWait) => targetAt w.addr != 7) } }
       ((e.flashReads ws reads).hostSettle).dbgSettle) := by
  rw [Dev.flashDone, if_neg (by simp [hb])]
  dsimp only
  rw [if_neg (Bool.eq_false_iff.1 hw)]

end Sys2Proof.Machine

namespace Sys2Proof.Proofs

open Sys2Proof.Machine

/-- Settles O59: each command by the lemma that says what the loader, or the write of its page, does under the stated conditions. -/
theorem bootCommandsComplete : Obligations.BootCommandsComplete := by
  unfold Obligations.BootCommandsComplete
  intro d q
  refine ⟨fun h hd hb => ?flash, fun h hd hb => ?test, fun h hd h0 h3 => ?host, fun a4 qd h hs => ?found, fun a4 qd h hs => ?missing,
    fun flash big h hs hf hp => ?checked, fun flash big h hs hf hp => ?bus, fun m h => ?loadImg, fun m h hw => ?done, fun m v h => ?flashCmd,
    fun data reads h hb hw => ?flashDone⟩
  case flash => exact State.live_eq q ((Dev.live_runs h).trans (Dev.bootStart_flash hd hb))
  case test => exact State.live_eq q ((Dev.live_runs h).trans (Dev.bootStart_test hd hb))
  case host => exact State.live_eq q ((Dev.live_runs h).trans (Dev.bootStart_host hd h0 h3))
  case found => exact State.live_eq q ((Dev.live_runs h).trans (Dev.sfdpDone_found hs a4 qd))
  case missing => exact State.live_eq q ((Dev.live_runs h).trans (Dev.sfdpDone_missing hs a4 qd))
  case checked => exact State.live_eq q ((Dev.live_runs h).trans (Dev.imageDone_checked hs hf hp flash big))
  case bus => exact State.live_eq q ((Dev.live_runs h).trans (Dev.imageDone_bus hs hf hp flash big))
  case loadImg => exact State.live_eq q (Dev.mWrite_follows h (by decide) (Dev.pageAfter_loadImg _ _ _ _))
  case done => exact State.live_eq q (Dev.mWrite_done h hw)
  case flashCmd => exact State.live_eq q (Dev.mWrite_follows h (by decide) (Dev.pageAfter_flashCmd _ _ _ _ v))
  case flashDone => exact State.live_eq q ((Dev.live_runs h).trans (Dev.flashDone_read hb hw data reads))

end Sys2Proof.Proofs
end
